-- ==== Sys2Proof/Word.lean ====
section
/-! DEFINITION. The word types of the TLX-9640 model and the one shape of indexed state. -/

namespace Sys2Proof

/-- One byte of a packet, frame, record or memory. -/
abbrev Byte := BitVec 8

/-- One 32-bit register of the register space (R53). -/
abbrev Word := BitVec 32

/-- State kept per index (a register address, a slot, a channel, a port): (index, value) pairs in rising order of
index that list no value equal to the default, so that equal tables are equal data. -/
abbrev Tbl (α : Type) := List (Nat × α)

end Sys2Proof
end

