-- ==== Sys2Proof/Operand.lean ====
section
/-! DEFINITION. The operands of commands that are more than one number: what an event row carries. -/

namespace Sys2Proof

/-- A Sveteb command as it reaches the module: a packet that has passed the tests of R33, with the payload before
any tag (Table 2-1). -/
structure Cmd where
  sid : Fin 4
  seq : BitVec 16
  payload : List Byte := []
  deriving DecidableEq, Repr

/-- A detection of the acquisition engine (R66): satellite, Doppler in 2^-12 Hz, code phase in the primary code in 2^-10 chip, the
normalised power of its cell, and the verification dwell's power and length in ms. -/
structure AcqIn where
  system : Fin 5
  svid : Byte
  doppler : Int := 0
  code : Nat := 0
  power : Nat := 0
  confirm : Nat := 0
  dwellMs : Nat := 100
  deriving DecidableEq, Repr

/-- What the correlators of a band tracker give at the end of a coherent integration: the correlation at offsets from the prompt in
0.05 chip, as offset, I and Q; the prompts of its primary code periods, newest first; whether bit or secondary-code synchronisation
has been reached; and the polarity of the preamble once it is known, true inverted. -/
structure LoopIn where
  corr : List (Int × Int × Int)
  prompts : List (Int × Int) := []
  synced : Bool
  polarity : Option Bool := none
  deriving DecidableEq, Repr

/-- A demodulated navigation message: its bits after deinterleaving and FEC decoding in order of transmission, without those that R86
leaves out (LNAV: as received, with D29* and D30* of the word before them); B-CNAV1: whether subframe 1 decodes; whether the polarity
has been corrected; the symbol errors corrected; and the code chips since the leading edge of the first symbol. -/
structure NavIn where
  bits : List Bool
  star : Bool × Bool := (false, false)
  sub1 : Bool := true
  inverted : Bool := false
  fec : BitVec 16 := 0
  chips : Nat := 0
  deriving DecidableEq, Repr

/-- When central RTK takes the resolution of one due rover in a cycle and when it publishes its record, in µs after E(k). -/
structure RtkSol where
  slot : Fin 128
  arUs : Nat := 0
  pubUs : Nat := 0
  deriving DecidableEq, Repr

/-- An Ethernet frame that arrives on an external port: its bytes from the DA without the FCS, whether the FCS is good, its
stamp at the ingress stamp point and, if it is switched on, at the egress stamp point (ps of the TIME clock), whether the
egress port has room for it, and whether the receive buffer passes 75 % (1) or falls below 25 % (2) with it (R313). -/
structure EthIn where
  bytes : List Byte
  fcsOk : Bool := true
  rx : Nat := 0
  tx : Nat := 0
  room : Bool := true
  fill : Fin 3 := 0
  deriving DecidableEq, Repr

/-- A sample instant of one point: of each channel, Va to In, the bits of its modulator since the sample instant before, the first one least
significant; OSR of them count (R333, R334). -/
structure MtrIn where
  bits : List (BitVec 2500) := []
  deriving DecidableEq, Repr

/-- What the transform of a harmonic window of a point finds (R344), whose interpolator's taps are not given: of each channel, Va to In,
the bins from 0 up, real and imaginary part of the rms value in 2^-8 mV or mA; and the frequency measured, 0.01 Hz. -/
structure WindowIn where
  bins : List (List (Int × Int)) := []
  freq : Nat := 0
  deriving DecidableEq, Repr

end Sys2Proof
end

