-- ==== Sys2Proof/Syntax.lean ====
section
/-! DEFINITION. The commands of the module: one constructor for each row of spec/opcode_table.json. A row named
after a Sveteb opcode carries the command as the host sends it (`Cmd`); every other row is an event, carrying what the
outside world or a data path supplies with it. Rows with operands stand before rows without. -/

namespace Sys2Proof

/-- A command of the TLX-9640 (a row of the opcode table). -/
inductive Instr where
  /-- SPI_WRITE (R37): Host SPI WRITE transaction delivers one packet to the session 0 input buffer, or is discarded with FRAMING or OVERFLOW. -/
  | spiWrite (bytes : List Byte)
  /-- SPI_READ (R38): Host SPI READ transaction clocks out the next output packet and removes it only if the CRC was fully clocked. -/
  | spiRead (n : Nat)
  /-- SPI_INVALID_CODE (R35): SPI transaction with an undefined code returns nothing and counts as a framing error. -/
  | spiInvalidCode (code : Byte)
  /-- UDP_DATAGRAM (R40): A UDP datagram on port 48110 is taken as one Sveteb packet for sessions 1 to 3. -/
  | udpDatagram (src : Nat) (bytes : List Byte)
  /-- UNDEFINED_OPCODE (R52): Command with an undefined opcode receives BAD_OPCODE. -/
  | undefinedOpcode (c : Cmd) (opcode : BitVec 16)
  /-- HANDSHAKE_LAPSE (R42): A session handshake with no valid SESSION_CONFIRM within 5 s lapses. -/
  | handshakeLapse (sid : Fin 4)
  /-- UDP_SESSION_IDLE (R42): UDP session closes after IDLE_S seconds without an authenticated packet and raises EV_SYS_SVB_IDLE. -/
  | udpSessionIdle (sid : Fin 4)
  /-- PING (R52): Echo the payload. -/
  | ping (c : Cmd)
  /-- SESSION_OPEN (R41): Check the key slot and level, draw a module nonce, derive the session key and reply with a proof. -/
  | sessionOpen (c : Cmd)
  /-- SESSION_CONFIRM (R42): Complete a pending handshake, replacing any session under the SID and setting H. -/
  | sessionConfirm (c : Cmd)
  /-- SESSION_CLOSE (R42): Close the session immediately after its reply has been sent. -/
  | sessionClose (c : Cmd)
  /-- GET_IDENTITY (R521): Return type ID, stepping, vintage and UNIT_ID. -/
  | getIdentity (c : Cmd)
  /-- GET_STATUS (R486): Return power state, last reset, lanes, time state, stop sources and supplies. -/
  | getStatus (c : Cmd)
  /-- SET_POWER_STATE (R472): Enter Run or Doze at once, or start entry to Dormant when the fleet is stopped or parked. -/
  | setPowerState (c : Cmd)
  /-- SET_POWER_CAP (R415): Read or set the module power cap and re-evaluate grants. -/
  | setPowerCap (c : Cmd)
  /-- EVENT_SUBSCRIBE (R56): Set the 96-bit event mask of the session. -/
  | eventSubscribe (c : Cmd)
  /-- BULK_WRITE (R521): Write a chunk of host data into the shared DRAM partition. -/
  | bulkWrite (c : Cmd)
  /-- BULK_READ (R521): Read a chunk of the shared DRAM partition. -/
  | bulkRead (c : Cmd)
  /-- RESET_ENGINE (R396): Reset one engine: increment generation, flush its queues, end outstanding requests and restart at step 0. -/
  | resetEngine (c : Cmd)
  /-- REG_READ (R53): Read one register. -/
  | regRead (c : Cmd)
  /-- REG_WRITE (R54): Write one register under the access rules, refusing LC fields. -/
  | regWrite (c : Cmd)
  /-- REG_READ_BLOCK (R55): Read 1 to 256 consecutive registers as one input. -/
  | regReadBlock (c : Cmd)
  /-- REG_MODIFY (R54): Masked read-modify-write of one register. -/
  | regModify (c : Cmd)
  /-- REG_WRITE_LC (R428): Signed write of a limited-change setting, checked in the order of R428. -/
  | regWriteLc (c : Cmd)
  /-- REGISTER_WRITE (R9): Write to a register field with no behaviour of its own, including clears of W1C and ST fields. -/
  | registerWrite (addr : Nat) (value : Word)
  /-- UDP_SESSION_DISABLE (R40): Clearing a bit of SYS_SVB_CTL.UDP_EN closes that UDP session. -/
  | udpSessionDisable (sid : Fin 4)
  /-- SKY_CONFIG (R93): Store enabled systems and epoch rate, effective at the next whole second of GPS time. -/
  | skyConfig (c : Cmd)
  /-- SKY_SET_BASE_POSITION (R94): Set the base antenna position, effective at the next epoch. -/
  | skySetBasePosition (c : Cmd)
  /-- SKY_EXCLUDE (R78): Exclude or readmit a satellite by system and SVID. -/
  | skyExclude (c : Cmd)
  /-- SKY_GET_CHANNELS (R93): Return channel states, grades and flags. -/
  | skyGetChannels (c : Cmd)
  /-- SKY_RTCM_CONFIG (R88): Set the RTCM 3 output destination, message set and rates. -/
  | skyRtcmConfig (c : Cmd)
  /-- MEASUREMENT_EPOCH (R81): At each epoch instant all band trackers are latched, checks run and the measurement record is written and delivered to both lanes. -/
  | measurementEpoch (clkBias : Option Int) (clkDrift : Int)
  /-- ANTENNA_OPEN (R59): Bias current below 3.0 mA sets SENSE open and raises EV_SKY_ANT. -/
  | antennaOpen (current : Nat)
  /-- ANTENNA_SHORT (R59): Bias current of 100 mA or more switches the bias off within 50 µs and raises EV_SKY_ANT. -/
  | antennaShort (current : Nat)
  /-- ANTENNA_BIAS_RETRY (R59): After a short the bias is retried once per second. -/
  | antennaBiasRetry (current : Nat)
  /-- NOTCH_ENGAGE (R61): A notch engages on a spectral line above NOTCH_THR and raises EV_SKY_ITF. -/
  | notchEngage (band : Fin 2) (notch : Fin 4) (level : Nat) (freq : Int)
  /-- NOTCH_RELEASE (R61): A notch releases after its line has stayed below NOTCH_THR − 3 dB for 1 s. -/
  | notchRelease (band : Fin 2) (notch : Fin 4) (level : Nat)
  /-- INTERFERENCE_CONDITION (R62): Blanking share above 20 % or an AGC step above 6 dB raises EV_SKY_ITF and sets FLAGS2.ITF. -/
  | interferenceCondition (band : Fin 2) (samples : List (Int × Int))
  /-- SATELLITE_ACQUIRED (R66): A search detection confirmed by the verification dwell assigns a channel to a satellite. -/
  | satelliteAcquired (ch : Fin 128) (a : AcqIn)
  /-- L5_HANDOVER (R67): An L5-band tracker is started from its L1-band partner. -/
  | l5Handover (ch : Fin 128) (offset : Int) (power : Nat)
  /-- CHANNEL_RELEASE (R63): A channel is released 30 s after its satellite sets below the mask. -/
  | channelRelease (ch : Fin 128)
  /-- LOOP_UPDATE (R70): Tracking loops update at the end of each coherent integration. -/
  | loopUpdate (ch : Fin 128) (band : Fin 2) (v : LoopIn)
  /-- PLL_BANDWIDTH_UPDATE (R71): Every 100 ms the PLL noise bandwidth is re-chosen and rate-limited. -/
  | pllBandwidthUpdate (ch : Fin 128) (band : Fin 2)
  /-- SIDE_PEAK_CORRECTION (R65): A BOC side-peak lock detected over 200 ms moves code phase by 0.5 chip. -/
  | sidePeakCorrection (ch : Fin 128) (band : Fin 2)
  /-- CARRIER_LOCK_LOSS (R79): Loss of carrier lock increments CSLIP and zeroes LOCK_TIME. -/
  | carrierLockLoss (ch : Fin 128) (band : Fin 2)
  /-- CODE_LOCK_LOSS (R79): Loss of code lock clears check history and returns grade 1 or 2 to 0. -/
  | codeLockLoss (ch : Fin 128) (band : Fin 2)
  /-- NAV_RECORD (R85): A demodulated navigation message is checked and written to the navigation ring. -/
  | navRecord (ch : Fin 128) (band : Fin 2) (v : NavIn)
  /-- TIME_IN_EDGE (R114): A filtered TIME_IN edge is time-stamped into the 16-entry FIFO. -/
  | timeInEdge (falling : Bool) (phase : Fin 4) (width : Nat)
  /-- SOURCE_QUALIFY (R102): A time source valid for QUAL seconds qualifies and the discipline moves to it if earlier in order. -/
  | sourceQualify (k : Fin 2) (yf : Int)
  /-- SOURCE_LOST (R102): A source invalid for 1 s is lost; with no other qualified source the state enters HOLDOVER. -/
  | sourceLost (k : Fin 2)
  /-- YF_REPLACE (R104): At the end of each 60 s of qualified offsets the frequency error y_f is replaced. -/
  | yfReplace (yf : Int)
  /-- PPS_EDGE (R112): A PPS output emits a leading edge with the width coded from the time state. -/
  | ppsEdge (k : Fin 2)
  /-- OBSERVATION_INTAKE (R122): A rover observation body is tested, reconstructed, aligned, differenced and predicted. -/
  | observationIntake (slot : Fin 128) (body : List Byte)
  /-- RTK_CYCLE (R24): At E(k) the RTK cycle updates and resolves rover epoch k − 1 and publishes fix records. -/
  | rtkCycle (sols : List RtkSol)
  /-- FIX_LOST_NONE (R139): After LOST_N due cycles without data a NONE record is published once. -/
  | fixLostNone (slot : Fin 128)
  /-- IONO_FREE_SWITCH (R136): Ten consecutive cycles beyond IF_ON or below IF_OFF change the rover's mode and reset ambiguities. -/
  | ionoFreeSwitch (slot : Fin 128)
  /-- RTK_SET_SITE_ORIGIN (R148): Set the site origin, applying from the next cycle. -/
  | rtkSetSiteOrigin (c : Cmd)
  /-- RTK_SET_RATE_CLASS (R151): Read or set class rates, or assign a rover to an RTK class. -/
  | rtkSetRateClass (c : Cmd)
  /-- RTK_SET_NOISE (R131): Read or write the noise parameters of an RTK class. -/
  | rtkSetNoise (c : Cmd)
  /-- RTK_RESET_ROVER (R152): Clear a rover's filter, holds and pending epoch and increment GEN. -/
  | rtkResetRover (c : Cmd)
  /-- RTK_GET_FIX (R140): Return the latest fix records of a range of slots. -/
  | rtkGetFix (c : Cmd)
  /-- BULK_UP_RECEIVE (R158): A snapshot chunk is stored, opening or superseding the rover's queue entry. -/
  | bulkUpReceive (port : Fin 4) (bytes : List Byte)
  /-- SNAPSHOT_SOLVE_DONE (R162): A solve ends with SOLVED or a failure result and its reply is queued. -/
  | snapshotSolveDone
  /-- SNAPSHOT_MISSING (R160): An incomplete entry idle for GAP superframes gets a MISSING reply. -/
  | snapshotMissing (slot : Fin 128)
  /-- SNAPSHOT_ASM_TIMEOUT (R160): An entry idle for ASM_TO seconds is freed with INCOMPLETE. -/
  | snapshotAsmTimeout (slot : Fin 128)
  /-- SBX_PASS (R185): Once per superframe the signal box extends every rover holding a route, in priority order. -/
  | sbxPass (us : Nat)
  /-- AUTHORITY_EXPIRY (R186): An authority lapses at EXPIRY and its unoccupied blocks are freed. -/
  | authorityExpiry (slot : Fin 128)
  /-- RELEASING_EXPIRY (R188): RELEASING blocks are freed at the EXPIRY of the superseded authority. -/
  | releasingExpiry (slot : Fin 128)
  /-- AVOID_EXPIRY (R192): A victim's AVOID set ends after AVOID whole superframes. -/
  | avoidExpiry (slot : Fin 128)
  /-- WITHDRAW_TIMEOUT (R196): A tentative block is released to another rover after two whole superframes without acknowledgement. -/
  | withdrawTimeout (slot : Fin 128)
  /-- PREVIEW_EXPIRY (R195): A tentative hold not converted ends at its EXPIRY. -/
  | previewExpiry (slot : Fin 128)
  /-- SBX_MAP_STAGE (R173): Copy a site map into the lanes for checking; replies ACCEPTED. -/
  | sbxMapStage (c : Cmd)
  /-- SBX_MAP_ACTIVATE (R174): Activate the staged map at the next pass if no live authority prevents it. -/
  | sbxMapActivate (c : Cmd)
  /-- SBX_REQUEST (R182): Host request of a route or tentative hold for a rover. -/
  | sbxRequest (c : Cmd)
  /-- SBX_RELEASE (R198): Drop a rover's route or end a NONE hold. -/
  | sbxRelease (c : Cmd)
  /-- SBX_REVOKE (R198): Revoke or cut back a rover's authority. -/
  | sbxRevoke (c : Cmd)
  /-- SBX_ZONE_SET (R200): Set a zone capacity until the next map activation. -/
  | sbxZoneSet (c : Cmd)
  /-- SBX_GET_STATE (R200): Return rover, block, zone or points state. -/
  | sbxGetState (c : Cmd)
  /-- ALLOT_ROUND_TIMEOUT (R207): A round exceeding ROUND_MAX ends with its last completed phase and raises EV_ALT_LATE. -/
  | allotRoundTimeout (phases : Nat)
  /-- ROUTE_SEARCH (R214): In the next superframe the route to the task target is searched and submitted. -/
  | routeSearch (slot : Fin 128) (route : List Nat)
  /-- REROUTE_ANSWER (R216): A re-route request is answered in the next superframe with a new route or the task returns to PENDING. -/
  | rerouteAnswer (slot : Fin 128) (route : List Nat)
  /-- ROUTE_REFUSAL_RETRY (R217): A refused route is searched again in the next superframe up to 3 times. -/
  | routeRefusalRetry (slot : Fin 128) (route : List Nat)
  /-- ALT_TASK_ADD (R202): Add a task to the table in PENDING. -/
  | altTaskAdd (c : Cmd)
  /-- ALT_TASK_CANCEL (R203): Cancel a task or stand in for its work report. -/
  | altTaskCancel (c : Cmd)
  /-- ALT_TASK_GET (R225): Return task records. -/
  | altTaskGet (c : Cmd)
  /-- ALT_LANDMARKS_LOAD (R208): Take a landmark image from the shared partition; replies ACCEPTED. -/
  | altLandmarksLoad (c : Cmd)
  /-- ALT_ROUND_NOW (R205): Start a round in the next superframe. -/
  | altRoundNow (c : Cmd)
  /-- PROFILE_PLAN (R237): The timetabler plans and encodes the profile words of a committed authority. -/
  | profilePlan
  /-- AUTHORITY_COMMIT (R227): At the 14.0 ms commit point profiled authorities are committed to the radio queues. -/
  | authorityCommit (us : Nat)
  /-- PROFILE_WORD_BOUNDARY (R241): At each word boundary the profile position record is updated. -/
  | profileWordBoundary (slot : Fin 128)
  /-- TTB_CAM_STAGE (R233): Copy a cam image into the lanes for checking; replies ACCEPTED. -/
  | ttbCamStage (c : Cmd)
  /-- TTB_CAM_ACTIVATE (R234): Activate the staged cam table from the next superframe. -/
  | ttbCamActivate (c : Cmd)
  /-- TTB_SET_LIMITS (R236): Read or set profile class limits, assign a rover or set PW_MS. -/
  | ttbSetLimits (c : Cmd)
  /-- TTB_GET_PROFILE (R241): Return a rover's profile position record and words. -/
  | ttbGetProfile (c : Cmd)
  /-- DOWNLINK_RUN (R260): In a rover's downlink run a DOWN or ASSIGN frame is sent with its due sections. -/
  | downlinkRun (slot : Fin 128)
  /-- BULK_DOWN_RUN (R268): In a granted bulk-down run a cam chunk or snapshot reply is sent. -/
  | bulkDownRun (port : Fin 4)
  /-- UP_FRAME_RECEIVE (R262): An UP frame is received, its acknowledgements, reports and observations delivered to the lanes. -/
  | upFrameReceive (port : Fin 4) (bytes : List Byte) (rxts : Nat) (rssi : Int)
  /-- JOIN_RECEIVE (R270): A JOIN in a contention run is matched to a binding and an answer is prepared. -/
  | joinReceive (port : Fin 4) (bytes : List Byte)
  /-- JOIN_ANSWER (R270): An ASSIGN is sent in the join-answer grant of the next superframe. -/
  | joinAnswer (port : Fin 4)
  /-- UPLINK_MISS (R275): At the end of a superframe a joined awake rover without a valid UP counts a miss. -/
  | uplinkMiss (slot : Fin 128)
  /-- EVICTION_COMPLETE (R283): After 3 DOWN frames with EVICTED, or at loss, the binding is removed. -/
  | evictionComplete (slot : Fin 128)
  /-- STOP_FRAME_ARM (R251): The stop frame is armed in each transceiver and read back. -/
  | stopFrameArm (port : Fin 4) (back : Option (List Byte × Nat))
  /-- ARM_READBACK (R251): Once a second the armed frame is read back and port fault assessed. -/
  | armReadback (port : Fin 4) (back : Option (List Byte × Nat))
  /-- RAD_PORT_CONFIG (R284): Set a port's profile, rate, channel, power and enable. -/
  | radPortConfig (c : Cmd)
  /-- RAD_SUPERFRAME_SET (R257): Accept a new superframe length and slot tables, pending until the switch instant. -/
  | radSuperframeSet (c : Cmd)
  /-- RAD_ROVER_ASSIGN (R269): Bind a rover slot to a UNIT_ID and port, or update an existing binding. -/
  | radRoverAssign (c : Cmd)
  /-- RAD_ROVER_EVICT (R283): Start eviction of a rover by EVICTED in its next DOWN frames. -/
  | radRoverEvict (c : Cmd)
  /-- RAD_GET_LINK (R285): Return per-rover link statistics. -/
  | radGetLink (c : Cmd)
  /-- STOP_INPUT_ACTIVE (R290): STOP_A_N or STOP_B_N low for FILT puts its source in force. -/
  | stopInputActive (k : Fin 2)
  /-- STOP_INPUT_INACTIVE (R288): A stop input going inactive takes its level source out of force. -/
  | stopInputInactive (k : Fin 2)
  /-- HUB_CHECK_FAIL (R292): The stop halves' state words differ or STOP_OUT read-back disagrees; HUB_CHECK comes into force. -/
  | hubCheckFail (cause : Fin 3)
  /-- CHAIN_STOP_RECEIVE (R295): An accepted chain stop frame puts CHAIN in force and is forwarded. -/
  | chainStopReceive (n : Fin 2) (frame : List Byte)
  /-- STOP_ALL (R46): Stop the whole fleet through the hard stop path. -/
  | stopAll (c : Cmd)
  /-- STOP_ROVER (R299): Set one rover's STOPPED bit in beacons. -/
  | stopRover (c : Cmd)
  /-- STOP_ZONE (R299): Stop every rover in a zone through the lanes and beacons. -/
  | stopZone (c : Cmd)
  /-- STOP_RELEASE (R301): Request release of a fleet, rover or zone stop. -/
  | stopRelease (c : Cmd)
  /-- STOP_GET_STATE (R306): Return stop sources, counter, pending release and stopped rovers and zones. -/
  | stopGetState (c : Cmd)
  /-- ETH_LINK_UP (R308): A port gains link and equalisation locks. -/
  | ethLinkUp (n : Fin 2) (fast : Bool)
  /-- ETH_LINK_DOWN (R330): A port loses link and raises EV_ETH_LINK. -/
  | ethLinkDown (n : Fin 2)
  /-- ETH_FRAME_RECEIVE (R311): A received Ethernet frame is switched, delivered to port 2 or discarded. -/
  | ethFrameReceive (n : Fin 2) (x : EthIn)
  /-- ADDRESS_AGE_OUT (R311): A learned address ages out after 300 s. -/
  | addressAgeOut (mac : Nat)
  /-- PREEMPT_VERIFY (R312): A verify attempt of frame preemption succeeds or times out after 10 ms. -/
  | preemptVerify (n : Fin 2) (answered : Bool)
  /-- PAUSE_FRAME_RECEIVE (R313): A received pause frame holds preemptable traffic while PAUSE_RX is set. -/
  | pauseFrameReceive (n : Fin 2) (x : EthIn)
  /-- PAUSE_WATCHDOG (R314): Pause honoured for PAUSE_MAX in 1 s makes the port ignore pause for 100 ms. -/
  | pauseWatchdog (n : Fin 2)
  /-- PAUSE_IGNORE_END (R314): After 100 ms the pause sum restarts and pause is honoured again. -/
  | pauseIgnoreEnd (n : Fin 2)
  /-- PDELAY_REQ_SEND (R317): Every 2^LOG_DREQ s a P2P port sends Pdelay_Req. -/
  | pdelayReqSend (n : Fin 2)
  /-- PDELAY_RESP_RECEIVE (R317): A Pdelay_Resp gives a link delay measurement averaged into LDELAY. -/
  | pdelayRespReceive (n : Fin 2) (x : EthIn)
  /-- PDELAY_REQ_RECEIVE (R317): A neighbour's Pdelay_Req is answered with a one-step Pdelay_Resp. -/
  | pdelayReqReceive (n : Fin 2) (x : EthIn)
  /-- PTP_ANNOUNCE_RECEIVE (R319): An Announce feeds the best master clock algorithm and may change port state. -/
  | ptpAnnounceReceive (n : Fin 2) (x : EthIn)
  /-- PTP_SYNC_RECEIVE (R320): In SLAVE state each Sync yields an offset delivered to the time engine. -/
  | ptpSyncReceive (n : Fin 2) (x : EthIn)
  /-- PTP_DELAY_RESP_RECEIVE (R320): A Delay_Resp updates the E2E mean path delay. -/
  | ptpDelayRespReceive (n : Fin 2) (x : EthIn)
  /-- ARP_REQUEST (R310): An ARP request for the module address is answered. -/
  | arpRequest (n : Fin 2) (x : EthIn)
  /-- ICMP_ECHO (R310): An ICMP echo request is answered. -/
  | icmpEcho (n : Fin 2) (x : EthIn)
  /-- HELLO_SEND (R325): Every 100 ms each external port with link sends a HELLO. -/
  | helloSend (n : Fin 2)
  /-- HELLO_RECEIVE (R325): A HELLO sets NBR_NET and NBR_OK, or DUP_NET on the module's own NET. -/
  | helloReceive (n : Fin 2) (x : EthIn)
  /-- NEIGHBOUR_TIMEOUT (R325): NBR_OK clears after 350 ms without a HELLO. -/
  | neighbourTimeout (n : Fin 2)
  /-- DISCOVER_RECEIVE (R327): A DISCOVER is answered and forwarded on the other port. -/
  | discoverReceive (n : Fin 2) (x : EthIn)
  /-- DISCOVER_REPLY_RECEIVE (R327): A DISCOVER_REPLY is collected by the origin or forwarded. -/
  | discoverReplyReceive (n : Fin 2) (x : EthIn)
  /-- WAKE_FRAME (R329): A matching frame on the wake port in Dormant wakes the module. -/
  | wakeFrame (n : Fin 2) (x : EthIn)
  /-- MDIO_GO (R309): ETH_MDIO.GO starts a clause 22 transaction. -/
  | mdioGo (value : Word)
  /-- MDIO_DONE (R309): The MDIO transaction completes, GO clears and read data is available. -/
  | mdioDone (data : BitVec 16)
  /-- ETH_PORT_CONFIG (R331): Configure an external port or the module's IPv4 address. -/
  | ethPortConfig (c : Cmd)
  /-- PTP_CONFIG (R319): Set the PTP clock role, profile and transparent clock mode. -/
  | ptpConfig (c : Cmd)
  /-- TIME_GET (R117): Return site time, state, source and holdover data. -/
  | timeGet (c : Cmd)
  /-- TIME_RESTEP (R106): Accept a second step of site time when the fleet is stopped. -/
  | timeRestep (c : Cmd)
  /-- PPS_CONFIG (R112): Set a pulse output's control, offset, cable advance and widths. -/
  | ppsConfig (c : Cmd)
  /-- CHAIN_DISCOVER (R327): Send DISCOVER on each port with link and collect replies. -/
  | chainDiscover (c : Cmd)
  /-- METER_SECOND (R352): At each whole second sums are added to VBAT accumulators and the metering input goes to the lanes. -/
  | meterSecond (freq0 freq1 : Nat)
  /-- HARMONIC_WINDOW_END (R344): A harmonic window ends and group values and THD are computed. -/
  | harmonicWindowEnd (p : Fin 2) (x : WindowIn)
  /-- ENERGY_NOR_COPY (R353): At each multiple of 900 s a periodic NOR copy of the accumulators is written. -/
  | energyNorCopy (good : Bool)
  /-- ENERGY_COPY_RETRY (R353): A failed NOR energy copy is retried every second. -/
  | energyCopyRetry (good : Bool)
  /-- EPULSE_EMIT (R349): A queued energy pulse is emitted at the first sample instant allowed. -/
  | epulseEmit (k : Fin 4)
  /-- CHANNEL_FAULT (R337): A modulator channel saturates or shows no data, raising EV_MTR_CHAN. -/
  | channelFault (p : Fin 2) (channel : Fin 7) (cause : Fin 3)
  /-- METER_FAULT_CHANGE (R351): A fault condition of a point enters or leaves after its time and raises EV_MTR_FAULT. -/
  | meterFaultChange (p : Fin 2) (flag : Fin 7)
  /-- MTR_CONFIG (R363): Write and store the metering control, nominal, fault and pulse settings. -/
  | mtrConfig (c : Cmd)
  /-- MTR_GET_READINGS (R363): Return the reading record of a point. -/
  | mtrGetReadings (c : Cmd)
  /-- MTR_GET_HARMONICS (R344): Return harmonic groups and THD of a channel. -/
  | mtrGetHarmonics (c : Cmd)
  /-- MTR_SET_CAP (R361): Read or set the site demand cap. -/
  | mtrSetCap (c : Cmd)
  /-- MTR_CAL_SEAL (R358): Store, seal or open the metrology calibration. -/
  | mtrCalSeal (c : Cmd)
  /-- LANE_SELF_TEST_DONE (R365): A lane passes or fails self-test and moves to RACKING, COLD or FAILED. -/
  | laneSelfTestDone (lane : Fin 2) (pass : Bool)
  /-- LANE_DIAG_FAIL (R370): A lane fails a self-diagnosis check, gives up and enters FAILED. -/
  | laneDiagFail (lane : Fin 2) (cause : Fin 9) (engine : Byte) (offset : Word)
  /-- HEARTBEAT_LOSS (R370): No lane heartbeat for 2 ms, or a die monitor fault, fails the lane. -/
  | heartbeatLoss (lane : Fin 2)
  /-- ENGINE_WATCHDOG (R370): An engine stalled 1 ms, or waiting 2 s with inputs queued, fails its lane. -/
  | engineWatchdog (lane : Fin 2) (engine : Byte)
  /-- LANE_SCRUB (R370): Once a second the background scrub and ECC rate check run on each lane. -/
  | laneScrub (lane : Fin 2) (corrected : BitVec 16) (bad : Option Byte)
  /-- DIGEST_COMPARE (R369): The hub compares the lanes' digests of a superframe. -/
  | digestCompare (a b : Option (BitVec 64))
  /-- RESCRUB_DONE (R377): The 200 ms rescrub after a first mismatch completes. -/
  | rescrubDone (bad : Option (Fin 2 × Byte))
  /-- RACK_POINT (R379): At the rack point inputs are held, marked pages copied and the lane enters CHECKING. -/
  | rackPoint (good : Bool)
  /-- COLD_START_READY (R378): A cold-starting lane becomes ready and takes the ACTIVE or SHADOW role. -/
  | coldStartReady (lane : Fin 2)
  /-- LANE_RESTORE (R365): LAN_CTL.RESTORE_A or RESTORE_B takes a FAILED or RETIRED lane to RESET. -/
  | laneRestore (lane : Fin 2)
  /-- LAN_GET_STATE (R382): Return lane roles, diagnosis and digest state. -/
  | lanGetState (c : Cmd)
  /-- LAN_SWITCH (R376): Request a commanded switch-over at the next agreeing digest. -/
  | lanSwitch (c : Cmd)
  /-- QUEUE_COMMIT (R389): A packet written to a queue commits and becomes visible whole. -/
  | queueCommit (q : Fin 64) (len : Fin 4089) (more : Bool) (gen engine : Byte) (seq : Word)
  /-- PACKET_REWIND (R390): A writer rewinds a bad packet before commit. -/
  | packetRewind (q : Fin 64)
  /-- QUEUE_RACK (R387): A queue swaps its fill and drain banks when the conditions hold. -/
  | queueRack (q : Fin 64)
  /-- QUEUE_READ_ERROR (R392): A word failing parity or SECDED poisons its packet, handled per Table 15-3. -/
  | queueReadError (q : Fin 64) (double : Bool) (source : Fin 88) (reply : Option (Nat × Nat × Nat))
  /-- QUEUE_FULL_TIMEOUT (R385): A hub-to-lane queue full for 2 ms fails its lane under HEARTBEAT. -/
  | queueFullTimeout (q : Fin 8)
  /-- WORK_ITEM_ADMIT (R399): A work item is admitted to the scheduler and takes a release window entry. -/
  | workItemAdmit (flow : Fin 4096) (atomic_ : Bool) (mask : Word) (all : Bool) (timeout : BitVec 16) (siding : Option (Fin 8 × BitVec 16))
  /-- EVENT_FLAG_POST (R398): Posted flags make waiting items ready when their mask is satisfied. -/
  | eventFlagPost (item : Nat) (flags : Word)
  /-- TOKEN_REQUEST (R406): A token request starts an arbitration round, possibly taking the token away. -/
  | tokenRequest (arb : Fin 2) (k : Fin 16)
  /-- TOKEN_DROP (R408): An owner drops its request and the token is free for the next round. -/
  | tokenDrop (arb : Fin 2) (k : Fin 16)
  /-- POWER_REEVALUATE (R411): A change of demand, cap or reservation re-evaluates power grants within 100 µs. -/
  | powerReevaluate (vout : BitVec 11)
  /-- EVT_PEND_CLEAR (R413): Writing 1 to EVT_PEND bits clears pending events and updates IRQ0_N and IRQ1_N. -/
  | evtPendClear (k : Fin 3) (mask : Word)
  /-- TAMPER_DETECT (R420): A tamper source is detected: keys and root secret zeroed, TAMPER stop, sessions closed. -/
  | tamperDetect (k : Fin 6) (temp : BitVec 16)
  /-- TAMPER_CONDITION_END (R419): A tamper source's condition ends and its LIVE bit clears. -/
  | tamperConditionEnd (k : Fin 6)
  /-- SEC_CASK_LOAD (R424): Load a cask into a key slot after unwrapping and checks. -/
  | secCaskLoad (c : Cmd)
  /-- SEC_CASK_UNLOAD (R426): Zero one key slot. -/
  | secCaskUnload (c : Cmd)
  /-- UPD_IMAGE_BEGIN (R432): Open an image transfer and return XFER_ID. -/
  | updImageBegin (c : Cmd)
  /-- UPD_IMAGE_DATA (R432): Write an image chunk into the DRAM buffer. -/
  | updImageData (c : Cmd)
  /-- UPD_IMAGE_END (R432): Close the transfer and start verification; replies ACCEPTED. -/
  | updImageEnd (c : Cmd)
  /-- BANK_WRITE_DONE (R433): The image is written and re-verified from NOR; STAGE becomes STAGED. -/
  | bankWriteDone (good : Bool)
  /-- IMAGE_DATA_RECEIVE (R437): An IMAGE DATA chain frame chunk is stored by the receiver. -/
  | imageDataReceive (n : Fin 2) (x : EthIn)
  /-- IMAGE_STATUS_RECEIVE (R437): A STATUS or DONE frame makes the sender resend ranges, retry or finish. -/
  | imageStatusReceive (n : Fin 2) (x : EthIn)
  /-- RELAY_BUSY_RETRY (R437): Every 5 s a sender answered BUSY tries again. -/
  | relayBusyRetry (n : Fin 2)
  /-- RELAY_FAIL (R438): Ten fruitless STATUS rounds or 60 s of BUSY fail the relay. -/
  | relayFail (n : Fin 2)
  /-- UPD_DECANT (R439): Activate the staged image; replies ACCEPTED with the decant instant. -/
  | updDecant (c : Cmd)
  /-- UPD_DECANT_SCHEDULE (R442): Schedule or cancel a module or chain-wide decant at T_D. -/
  | updDecantSchedule (c : Cmd)
  /-- DECANT_FRAME_RECEIVE (R442): A DECANT chain frame is answered, forwarded or acted on by its ACTION. -/
  | decantFrameReceive (n : Fin 2) (x : EthIn)
  /-- UPD_GET_STATE (R447): Return banks, staging and schedule state. -/
  | updGetState (c : Cmd)
  /-- CBK_RECORD_WRITE (R450): A record arriving through Q37 takes its SEQ and is written to NOR. -/
  | cbkRecordWrite (fails : Fin 3)
  /-- CBK_FREEZE (R454): Freeze recording to NOR and buffer new records. -/
  | cbkFreeze (c : Cmd)
  /-- CBK_THAW (R454): End the freeze and write the buffered records. -/
  | cbkThaw (c : Cmd)
  /-- CBK_READ (R456): Return records from an area, marking damaged spans. -/
  | cbkRead (c : Cmd)
  /-- CBK_CLEAR (R460): Clear the circulating area up to UPTO and write a CLEAR record. -/
  | cbkClear (c : Cmd)
  /-- POWER_ON (R485): VIN at 4.5 V for 10 ms starts the module from Off or Backup. -/
  | powerOn (low : Bool) (away : Nat)
  /-- HUB_START (R485): The hub leaves reset, checks the image, loads settings, recovers energy and becomes ready. -/
  | hubStart (ok0 ok1 : Bool) (torn : Fin 32)
  /-- FIRST_BEACON (R485): After arming and read-back the first beacon with STOP is sent at a slot-0 instant. -/
  | firstBeacon (port : Fin 4)
  /-- VIN_BELOW_WARN (R481): VIN below VIN_WARN sets WARN, withdraws class 0 and 1 grants and saves energy. -/
  | vinBelowWarn (mv : BitVec 16)
  /-- VIN_DIP_END (R482): VIN back above VIN_WARN + 0.2 V for 1 ms ends the dip and restores grants. -/
  | vinDipEnd (lowest : BitVec 16)
  /-- VSYS_RESET_LEVEL (R483): VSYS at the reset level puts SUPPLY in force and fires the hard stop path. -/
  | vsysResetLevel (mv : BitVec 16)
  /-- VBAT_LOW (R464): VBAT between 1.8 V and 2.0 V sets VBAT_LOW and raises EV_PWR_WARN. -/
  | vbatLow (mv : BitVec 16)
  /-- REFCLK_LOST (R467): No REFCLK edge for 1 µs changes to the backup oscillator and puts REFCLK stop in force. -/
  | refclkLost (err : Int)
  /-- AVFS_READING (R469): Every 1 ms the lane supply is adjusted from the canary margin. -/
  | avfsReading (lane : Fin 2) (m : Byte)
  /-- DIE_TEMP_HIGH (R487): Die temperature crossing TEMP_HI raises or clears EV_PWR_TEMP. -/
  | dieTempHigh (temp : BitVec 16)
  /-- TST_UNLOCK (R509): Unlock the TST block for a signed session. -/
  | tstUnlock (c : Cmd)
  /-- TST_LOCK (R510): Lock the TST block and restore normal operation. -/
  | tstLock (c : Cmd)
  /-- TST_JIT_WRITE (R514): A write of TST_JIT restarts the LFSR at SEED and sets slot jitter. -/
  | tstJitWrite (value : Word)
  /-- METERING_SAMPLE (R338): At each 8 kHz sample instant both points' channels are decimated, p and q accumulated per phase and direction, and pulse accumulators advanced. -/
  | meteringSample (x0 x1 : MtrIn)
  /-- VIN_AT_OR_ABOVE_WARN (R288): VIN rising back to VIN_WARN takes the SUPPLY stop source out of force. -/
  | vinAtOrAboveWarn (mv : BitVec 16)
  /-- VBAT_LOW_END (R464): VBAT rising back to 2.0 V or above clears PWR_STAT.VBAT_LOW and returns the energy save to its VBAT branch. -/
  | vbatLowEnd (mv : BitVec 16)
  /-- ANTENNA_NORMAL (R59): Antenna bias current returning to the normal band after an open indication sets SENSE to normal. -/
  | antennaNormal (current : Nat)
  /-- RADIO_RX_ERROR (R248): A transceiver reports a received frame whose CRC-16 failed; it is not delivered and RX_ERR is counted. -/
  | radioRxError (port : Fin 4)
  /-- EVT_EN_WRITE (R413): A write to EVT_EN0 to EVT_EN2 re-evaluates IRQ0_N and IRQ1_N within 1 µs. -/
  | evtEnWrite (k : Fin 3) (value : Word)
  /-- SPI_STATUS (R35): Host SPI STATUS transaction returns the 8-byte status word and clears the OVERFLOW and FRAMING flags. -/
  | spiStatus
  /-- SPI_CS_WHILE_BUSY (R36): Transaction begun while HS_RDY_N is high is ignored and counted as a framing error. -/
  | spiCsWhileBusy
  /-- HS_RDY_READY (R36): HS_RDY_N goes low when the module is ready for the next SPI transaction. -/
  | hsRdyReady
  /-- SYS_TT_POS_READ (R20): Read of SYS_TT_POS latches SYS_TT_COUNT for the selected engine. -/
  | sysTtPosRead
  /-- SVB_CNT_CLR (R33): SYS_SVB_CTL.CNT_CLR clears SYS_SVB_ERR. -/
  | svbCntClr
  /-- SKY_COLD_RESTART (R92): SKY_CTL.COLD discards ephemerides, almanacs and Doppler history and restarts. -/
  | skyColdRestart
  /-- SKY_HOT_RESTART (R92): SKY_CTL.RESTART makes a hot start with the kept data. -/
  | skyHotRestart
  /-- EPOCH_RATE_CHANGE (R80): A pending rate change or system disable takes effect at the whole second of GPS time. -/
  | epochRateChange
  /-- TIM_IN_LO_READ (R115): Read of TIM_IN_LO moves the oldest FIFO entry into the TIM_IN registers. -/
  | timInLoRead
  /-- TIM_NOW_LO_READ (R98): Read of TIM_NOW_LO latches the upper word into TIM_NOW_HI. -/
  | timNowLoRead
  /-- FIRST_TIME_STEP (R103): At the next whole millisecond after the first qualification with DISC_EN = 1, site time is stepped by −θ. -/
  | firstTimeStep
  /-- RESTEP_APPLY (R106): An accepted TIME_RESTEP steps site time at the next whole millisecond and its reply follows. -/
  | restepApply
  /-- DISCIPLINE_UPDATE (R104): Once per second TIME_INC is set from y_f and the clamped phase term. -/
  | disciplineUpdate
  /-- TIME_LOCK_HOLD (R108): |θ| within LOCK_THR for LOCK_HOLD seconds moves the state to LOCKED. -/
  | timeLockHold
  /-- HOLDOVER_EXPIRE (R108): HOLDOVER lasting HOLDOVER_LIMIT moves the state to EXPIRED. -/
  | holdoverExpire
  /-- LEAP_SECOND_PASS (R100): An announced leap second passes and LEAP_PENDING clears. -/
  | leapSecondPass
  /-- LANE_TICK (R26): The hub sends the 1 ms tick input, with its stamp, to both lanes. -/
  | laneTick
  /-- WHOLE_SECOND (R99): At each whole second the always-on seconds counter is rewritten while LOCKED. -/
  | wholeSecond
  /-- AR_DEADLINE_CUT (R134): At E(k) + 6.6 ms remaining rovers publish float results with AR_SKIPPED. -/
  | arDeadlineCut
  /-- RTK_RATE_CHANGE (R142): A change of effective fix rate takes effect at the next whole second of GPS time. -/
  | rtkRateChange
  /-- RTK_SHED_STEP (R143): A grant below demand sheds rover rates step by step; steps are undone at most one per second. -/
  | rtkShedStep
  /-- RTK_AR_DISABLE (R135): Clearing RTK_CTL.AR_EN releases every hold at the next cycle. -/
  | rtkArDisable
  /-- RTK_CNT_CLR (R147): RTK_CTL.CNT_CLR clears RTK_INTAKE, RTK_CUTS and RTK_CYCLE.MAX_US. -/
  | rtkCntClr
  /-- SNAPSHOT_SOLVE_START (R161): The oldest complete entry starts solving once budget and DRAM token are granted. -/
  | snapshotSolveStart
  /-- SNAPSHOT_SOLVE_TIMEOUT (R161): A solve not replied within SOLVE_MAX ends with TIMEOUT. -/
  | snapshotSolveTimeout
  /-- SNP_FLUSH (R167): SNP_CTL.FLUSH frees every entry as ABANDONED. -/
  | snpFlush
  /-- SNP_DISABLE (R167): Clearing SNP_CTL.EN frees every entry as ABANDONED. -/
  | snpDisable
  /-- SNP_CNT_CLR (R168): SNP_CTL.CNT_CLR clears SNP_CNT, SNP_DROP and SNP_TIME.MAX_MS. -/
  | snpCntClr
  /-- ROUTE_REQUEST (R182): A route request from allotment or the host is checked and processed outside the pass. -/
  | routeRequest
  /-- PREVIEW_DISABLE (R197): Clearing SBX_CTL.PREVIEW_EN withdraws every tentative hold. -/
  | previewDisable
  /-- SBX_CNT_CLR (R200): SBX_CTL.CNT_CLR clears SBX_CNT0, SBX_CNT1 and SBX_LOAD.MAX_US. -/
  | sbxCntClr
  /-- SBX_MAP_STAGE_DONE (R173): Map checking completes as staged or refused and raises EV_SBX_MAP. -/
  | sbxMapStageDone
  /-- ALLOT_ROUND_START (R205): An allotment round starts, fixing rows and columns and generating charge tasks. -/
  | allotRoundStart
  /-- ALLOT_ROUND_END (R213): The auction completes and results are applied in slot order. -/
  | allotRoundEnd
  /-- ALT_CNT_CLR (R225): ALT_CTL.CNT_CLR clears ALT_CNT and ALT_ROUND.LAST_MS. -/
  | altCntClr
  /-- ALT_LANDMARKS_DONE (R208): Landmark image load completes as loaded or refused, raising EV_ALT_ROUND. -/
  | altLandmarksDone
  /-- TTB_CNT_CLR (R245): TTB_CTL.CNT_CLR clears TTB_CNT and TTB_LOAD.MAX_US. -/
  | ttbCntClr
  /-- TTB_CAM_STAGE_DONE (R233): Cam image checking completes as staged or refused and raises EV_TTB_CAM. -/
  | ttbCamStageDone
  /-- SUPERFRAME_START (R253): At each slot-0 instant the superframe begins and the beacon is sent on every port. -/
  | superframeStart
  /-- SLOT_TABLE_SWITCH (R257): A pending slot table comes into force at its switch instant. -/
  | slotTableSwitch
  /-- STP_TX_REPEAT (R250): The second and third STP_TX edges are raised on every enabled port. -/
  | stpTxRepeat
  /-- RAD_CNT_CLR (R286): RAD_CTL.CNT_CLR clears the join and port counters. -/
  | radCntClr
  /-- STOP_DISCREPANCY (R291): Filtered stop inputs differing for more than 10 ms put DISC in force and raise EV_STP_FAULT. -/
  | stopDiscrepancy
  /-- DISC_CLR (R291): STP_CTL.DISC_CLR clears DISC when both inputs are inactive. -/
  | discClr
  /-- CHAIN_STOP_REPEAT (R296): Every 100 ms an originating module repeats its chain stop frame. -/
  | chainStopRepeat
  /-- CHAIN_SOURCE_TIMEOUT (R288): 300 ms after the last accepted chain stop frame CHAIN leaves force. -/
  | chainSourceTimeout
  /-- STOP_RELEASE_DUE (R302): At T_R a pending fleet release clears STOP_OUT, beacon STOP and the fleet STOPPED bits. -/
  | stopReleaseDue
  /-- TARGET_RELEASE_DUE (R303): AUTH_MS after acceptance a rover or zone release clears the STOPPED bits. -/
  | targetReleaseDue
  /-- PTP_ANNOUNCE_TIMEOUT (R320): announceReceiptTimeout expiry ends the PTP source. -/
  | ptpAnnounceTimeout
  /-- PTP_SYNC_SEND (R319): As master the clock sends one-step Syncs on every enabled port. -/
  | ptpSyncSend
  /-- PTP_ANNOUNCE_SEND (R321): As master the clock announces its dataset from the time state. -/
  | ptpAnnounceSend
  /-- PTP_DELAY_REQ_SEND (R319): In E2E slave mode a Delay_Req is sent on SLAVE_PORT. -/
  | ptpDelayReqSend
  /-- DISCOVER_COLLECT_END (R327): After 10 ms the originating module replies with the modules found. -/
  | discoverCollectEnd
  /-- ETH_CNT_CLR (R332): ETH_CTL.CNT_CLR clears every port counter. -/
  | ethCntClr
  /-- DEMAND_INTERVAL_END (R346): A demand interval ends, demand and MAX_DEM update and EV_MTR_DEMAND is raised. -/
  | demandIntervalEnd
  /-- METER_FRONT_END_RESTART (R362): A change of CLK_SEL or WIREn restarts the front end and writes an outage record. -/
  | meterFrontEndRestart
  /-- DEM_CLR (R346): MTR_CTL.DEM_CLR clears MAX_DEM of both points. -/
  | demClr
  /-- MTR_CNT_CLR (R364): MTR_CTL.CNT_CLR clears MTR_CNT. -/
  | mtrCntClr
  /-- SWITCH_OVER_END (R373): The incoming lane passes T_L, its held outputs are released and it becomes ACTIVE. -/
  | switchOverEnd
  /-- RACK_PRECOPY_DONE (R379): The pre-copy of the active lane's memories ends. -/
  | rackPrecopyDone
  /-- LAN_CNT_CLR (R383): LAN_CTL.CNT_CLR clears LAN_CNT and LAN_TIME. -/
  | lanCntClr
  /-- QUE_FLUSH (R391): QUE_FLUSH.GO flushes a host-flushable queue at packet boundaries. -/
  | queFlush
  /-- QUE_CNT_CLR (R392): QUE_CTL.CNT_CLR clears the counters of every queue. -/
  | queCntClr
  /-- SIDING_DUE (R404): At a tick input, due sidings release their items in order. -/
  | sidingDue
  /-- WAIT_TIMEOUT (R404): A wait timeout expires and the item becomes ready with TIMEOUT. -/
  | waitTimeout
  /-- ATOMIC_EN_EFFECT (R401): A write of ATOMIC_EN takes effect once the release buffer is empty. -/
  | atomicEnEffect
  /-- SCH_CNT_CLR (R400): SCH_CTL.CNT_CLR clears SCH_CNT. -/
  | schCntClr
  /-- KEY_MASK_REDRAW (R422): Every 10 minutes the key slot mask is drawn again. -/
  | keyMaskRedraw
  /-- SEC_CNT_CLR (R427): SEC_CTL.CNT_CLR clears SEC_CNT. -/
  | secCntClr
  /-- IMAGE_TRANSFER_TIMEOUT (R432): A transfer with no chunk for 60 s ends with TIMEOUT. -/
  | imageTransferTimeout
  /-- IMAGE_VERIFY_DONE (R431): DRAM verification ends with a RESULT, starting bank write and relay as allowed. -/
  | imageVerifyDone
  /-- UPD_ABORT (R431): UPD_CTL.ABORT ends the transfer, verification or bank write with ABORTED. -/
  | updAbort
  /-- UPD_CNT_CLR (R448): UPD_CTL.CNT_CLR clears UPD_CNT. -/
  | updCntClr
  /-- IMAGE_STATUS_SEND (R437): The receiver answers STATUS when complete or after 50 ms without DATA. -/
  | imageStatusSend
  /-- RELAY_RECEIVE_TIMEOUT (R438): A receiver with no frame for 60 s ends its transfer with TIMEOUT. -/
  | relayReceiveTimeout
  /-- DECANT_RUN (R439): At the decant instant the energy copy, boot record and module reset run. -/
  | decantRun
  /-- DECANT_VOTE_END (R442): 2 s after scheduling the origin holds or cancels the chain schedule. -/
  | decantVoteEnd
  /-- DECANT_HOLD_CHECK (R443): At T_D − 500 ms a module tests its conditions, holding or sending ABORT. -/
  | decantHoldCheck
  /-- DECANT_AT_TD (R443): At T_D each module still holding the schedule decants. -/
  | decantAtTd
  /-- BOOT_FALLBACK (R440): An unconfirmed or failing bank makes the boot ROM fall back to the other bank. -/
  | bootFallback
  /-- CBK_FREEZE_TIMEOUT (R454): A freeze ends FREEZE_MAX seconds after the last CBK_FREEZE and the buffer is written. -/
  | cbkFreezeTimeout
  /-- CBK_CNT_CLR (R462): CBK_CTL.CNT_CLR clears CBK_CNT. -/
  | cbkCntClr
  /-- SUPPLY_DIP_LONG (R481): A dip longer than AUTH_MS puts SUPPLY in force. -/
  | supplyDipLong
  /-- BROWN_OUT_RESET (R483): 150 µs after the reset level the module enters brown-out reset. -/
  | brownOutReset
  /-- VOUT_TRIP (R466): VOUT_3V3 above 1.2 A switches off and sets VOUT_OC. -/
  | voutTrip
  /-- VOUT_RESTART (R466): 100 ms after a trip VOUT_3V3 restarts. -/
  | voutRestart
  /-- REFCLK_RESTORED (R467): REFCLK present for 10 ms changes back and the REFCLK stop source leaves force. -/
  | refclkRestored
  /-- DORMANT_ENTRY_COMPLETE (R472): Dormant entry completes with lanes halted, clocks stopped and DRAM in self-refresh. -/
  | dormantEntryComplete
  /-- WAKE_IN (R473): WAKE_IN high for 100 µs wakes the module from Dormant. -/
  | wakeIn
  /-- WAKE_TIMER (R473): The Dormant wake timer expires and wakes the module. -/
  | wakeTimer
  /-- PIN_RESET (R477): RESET_N low for 10 µs resets the module until released. -/
  | pinReset
  /-- HUB_WATCHDOG (R476): The hub service processor unanswered for 100 ms resets the hub and lanes. -/
  | hubWatchdog
  /-- HUB_RST (R478): Writing 0xA5 to PWR_CTL.HUB_RST resets the hub if the fleet is stopped or parked. -/
  | hubRst
  /-- PWR_CNT_CLR (R482): PWR_CTL.CNT_CLR clears PWR_DIP.DIPS and PWR_DIP_T. -/
  | pwrCntClr
  /-- TST_AUTOLOCK (R510): TST_STAT.REMAIN reaching 0 locks the block. -/
  | tstAutolock
  /-- TST_CLR_ALL (R518): TST_CTL.CLR_ALL returns the perturbation registers to reset values. -/
  | tstClrAll
  /-- TST_ERR_GO (R515): TST_ERR.GO arms COUNT error injections at the target. -/
  | tstErrGo
  /-- TST_CRC_GO (R517): TST_CRC.GO arms CRC corruption of the next COUNT items of the target. -/
  | tstCrcGo
  /-- MISMATCH_WINDOW_END (R377): MIS_WIN minutes after the first mismatch the mismatch window ends and MIS_LVL counting restarts. -/
  | mismatchWindowEnd
  /-- RA_EN_CLEAR (R219): Clearing ALT_CTL.RA_EN ends every run-ahead proposal and withdraws its tentative hold by a preview. -/
  | raEnClear
  deriving DecidableEq, Repr

end Sys2Proof
end

