-- ==== Sys2Proof/Config.lean ====
section
/-! DEFINITION. What the spec leaves open: constants with no body, so that no proof can see a value of them. A claim
about them holds for every value. -/

namespace Sys2Proof

/-- The n-th random draw of the module (nonces, RAND fields, key slot masks): a fresh value of the width asked for,
applied to `State.free`. -/
opaque Config.random (width : Nat) (n : Nat) : BitVec width

/-- AES-CMAC of a message under a key of 128 or 256 bits, written as `keyOf` writes it (R32, R421, R427). -/
opaque Config.cmac (key : Nat) (msg : List Byte) : BitVec 128

/-- AES-256 key unwrap of SP 800-38F with the default integrity value (R423): the key, or none when the unwrap fails. -/
opaque Config.unwrap (kek : Nat) (wrapped : List Byte) : Option (List Byte)

/-- The shared value Z of the fused enrolment private key and an ephemeral public key on P-256 (R417). -/
opaque Config.ecdh (ephemeral : List Byte) : List Byte

/-- SHA-256 (R430). -/
opaque Config.sha256 (msg : List Byte) : List Byte

/-- ECDSA P-256 over the SHA-256 of a message against an image-verification public key X ‖ Y (R430). -/
opaque Config.imageSigned (key : Nat) (msg signature : List Byte) : Bool

/-- The timetable of an engine in an image (R18): vendor firmware, whose contents and place in the image are not documented. -/
opaque Config.timetable (image : List (Nat × Byte)) (engine : Nat) : List (BitVec 64)

/-- The 8 SECDED check bits of a word (R18), whose code is not given. -/
opaque Config.secded (word : BitVec 64) : BitVec 8

/-- A value the spec gives no number for, one per draw: the n-th free value, of the width asked for. -/
opaque Config.free (width : Nat) (n : Nat) : BitVec width

/-! What the data paths compute from real numbers, whose rounding is not given. -/

/-- The angle of a vector by the four-quadrant arctangent, in 2^-32 cycle (R69): of its y and x components. -/
opaque Config.atan2 (y x : Int) : Int

/-- The cosine of a phase in 2^-32 cycle, in 2^-30. -/
opaque Config.cosine (phase : Int) : Int

/-- The value +1 or −1 of a satellite's primary code with its subcarrier, at a phase in 2^-8 chip (Table 3-1). -/
opaque Config.codeValue (signal svid phase : Nat) : Int

/-- The detection threshold of a snapshot's searches, in the units of its normalised power (R162). -/
opaque Config.snapThreshold : Rat

/-- The detection threshold of the acquisition engine, in the units of its normalised correlation power (R66). -/
opaque Config.detectThreshold : Nat

/-- The value of a sampled signal a fraction of a sample, in 2^-12, before the newest of `samples`, newest first (R336). -/
opaque Config.fractionalDelay (fraction : Nat) (samples : List Int) : Int

/-- A signal delayed by 90° from 40 Hz to 3.6 kHz, and one delayed to match it, of its samples, newest first (R339). -/
opaque Config.delay90 (samples : List Int) : Int
opaque Config.delayMatch (samples : List Int) : Int

/-! What the interface specifications of the satellite systems make of navigation data. -/

/-- What is predicted of a satellite at a receiver: its pseudorange less the receiver's clock, 2^-20 m, and the rate of it, mm/s; its
elevation in 0.01 degree and its azimuth in degrees. -/
structure Prediction where
  range : Int := 0
  rate : Int := 0
  elev : Int := 0
  azim : Nat := 0
  deriving DecidableEq, Repr, Inhabited

/-- The prediction that an ephemeris or almanac gives for a receiver at an ECEF position in 0.1 mm, at a GPS time in ns. -/
opaque Config.predict (data : List Byte) (rx : Int × Int × Int) (gpsNs : Int) : Prediction

/-- The position of a satellite, ECEF in mm, that an ephemeris gives for a GPS time in ns. -/
opaque Config.satPosition (data : List Byte) (gpsNs : Int) : Int × Int × Int

/-- The group delay of the L5-band signal beyond that of the L1-band signal which a satellite broadcasts, 2^-20 m (check 2). -/
opaque Config.groupDelay (data : List Byte) : Int

/-- The ephemeris that the payloads of a nav TYPE held of a satellite, newest first, make complete; none while none is. -/
opaque Config.navEphemeris (type : Nat) (payloads : List (List Byte)) : Option (List Byte)

/-- The almanacs that they make complete: satellites as system × 256 + SVID, and contents. -/
opaque Config.navAlmanacs (type : Nat) (payloads : List (List Byte)) : List (Nat × List Byte)

/-- The UTC parameters that they carry: TAI − UTC, and an announced leap second: its instant in whole seconds of site time and TAI − UTC
after it. -/
opaque Config.navUtc (type : Nat) (payloads : List (List Byte)) : Option (Nat × Option (Nat × Nat))

/-- The transmit time of the first symbol of a message, in ms of the satellite's system time counted from the origin of site time. -/
opaque Config.navTime (type : Nat) (payload : List Byte) : Option Nat

/-- The data fields after the message number and the satellite of an RTCM 3 ephemeris message (1019, 1044, 1045, 1046), as one number. -/
opaque Config.rtcmEphemeris (message : Nat) (data : List Byte) : Nat

/-- The receiver and antenna descriptors of message 1033: antenna descriptor and serial number, receiver type, firmware version and
serial number. -/
opaque Config.descriptors : List (List Byte)

end Sys2Proof
end

