-- ==== Sys2Proof/Machine/RegMap.lean ====
section
/-! DEFINITION. The register map (Table 20-1) as the register tables of the spec give it: for every register
its address, its reset value and the access code of each of its bits, and one named field for every field.
The rows were written out from the register tables by a script of the author. -/

namespace Sys2Proof.Machine

/-- One register, or an array of `count` like registers `stride` bytes apart, of Table 20-1: its reset value, and
the bits of each access code of Table 0-6 (a bit in none of the masks is RO). -/
structure RegRow where
  base : Nat
  stride : Nat
  count : Nat
  reset : Nat
  rw : Nat
  w1c : Nat
  st : Nat
  sc : Nat
  wo : Nat
  lc : Nat
  deriving DecidableEq, Repr

/-- One field of a register: its address, lowest bit and width. -/
structure Fld where
  addr : Nat
  lo : Nat
  width : Nat
  deriving DecidableEq, Repr

/-- The registers of the SYS block (00_scope.md), in address order. -/
def regsSYS : List RegRow := [
  ⟨0, 4, 1, 0x9640b020, 0, 0, 0, 0, 0, 0⟩, -- SYS_ID
  ⟨0x40, 4, 1, 0x300, 0x3ff, 0, 0, 0, 0, 0⟩, -- SYS_TT_SEL
  ⟨0x44, 4, 1, 0x40000, 0, 0, 0, 0, 0, 0⟩, -- SYS_TT_POS
  ⟨0x48, 4, 1, 0, 0, 0, 0, 0, 0, 0⟩, -- SYS_TT_COUNT
  ⟨0x80, 4, 1, 0x3c000f, 0xff000f, 0, 0, 0x10, 0, 0⟩, -- SYS_SVB_CTL
  ⟨0x84, 4, 1, 6, 0, 0, 0, 0, 0, 0⟩, -- SYS_SVB_STAT
  ⟨0x88, 4, 1, 0, 0, 0, 0, 0, 0, 0⟩  -- SYS_SVB_ERR
]

/-- The registers of the PWR block (18_power_reset_startup.md), in address order. -/
def regsPWR : List RegRow := [
  ⟨0x10000, 4, 1, 0x506900, 0xffff00, 0, 0, 1, 0xff000000, 0⟩, -- PWR_CTL
  ⟨0x10004, 4, 1, 0, 0, 0, 0x180, 0, 0, 0⟩, -- PWR_STAT
  ⟨0x10008, 4, 1, 0, 0, 0, 0, 0, 0, 0⟩, -- PWR_SUP
  ⟨0x1000c, 4, 1, 0, 0, 0, 0, 0, 0, 0⟩, -- PWR_SUP2
  ⟨0x10010, 4, 1, 0, 0, 0, 0, 0, 0, 0⟩, -- PWR_DIP
  ⟨0x10014, 4, 1, 0, 0, 0, 0, 0, 0, 0⟩, -- PWR_DIP_T
  ⟨0x10018, 4, 1, 3, 0xffff0003, 0, 0, 0, 0, 0⟩, -- PWR_WAKE
  ⟨0x1001c, 4, 1, 0, 0, 0, 0, 0, 0, 0⟩, -- PWR_WAKE_SRC
  ⟨0x10020, 4, 1, 0xc040001, 0xffff0001, 0, 0, 0, 0, 0⟩, -- PWR_AVFS_CTL
  ⟨0x10024, 4, 1, 0x28000001, 0, 0, 0, 0, 0, 0⟩, -- PWR_AVFS_A
  ⟨0x10028, 4, 1, 0x28000001, 0, 0, 0, 0, 0, 0⟩  -- PWR_AVFS_B
]

/-- The registers of the EVT block (15_queues_scheduler_arbiters.md), in address order. -/
def regsEVT : List RegRow := [
  ⟨0x20000, 4, 1, 0, 0, 0xffffffff, 0, 0, 0, 0⟩, -- EVT_PEND0
  ⟨0x20004, 4, 1, 0, 0, 0xffffffff, 0, 0, 0, 0⟩, -- EVT_PEND1
  ⟨0x20008, 4, 1, 0, 0, 0xffffff, 0, 0, 0, 0⟩, -- EVT_PEND2
  ⟨0x20010, 4, 1, 0xfffffffb, 0xffffffff, 0, 0, 0, 0, 0⟩, -- EVT_EN0
  ⟨0x20014, 4, 1, 0xffffffff, 0xffffffff, 0, 0, 0, 0, 0⟩, -- EVT_EN1
  ⟨0x20018, 4, 1, 0xffffff, 0xffffff, 0, 0, 0, 0, 0⟩, -- EVT_EN2
  ⟨0x20020, 4, 1, 0, 0, 0, 0, 0, 0, 0⟩, -- EVT_STAT
  ⟨0x20024, 4, 1, 0, 0, 0, 0, 0, 0, 0⟩  -- EVT_CNT
]

/-- The registers of the QUE block (15_queues_scheduler_arbiters.md), in address order. -/
def regsQUE : List RegRow := [
  ⟨0x30000, 4, 1, 0x3000000, 0xff000000, 0, 0, 2, 0, 0⟩, -- QUE_CTL
  ⟨0x30004, 4, 1, 0x20, 0x3f, 0, 0, 0x80000000, 0, 0⟩, -- QUE_FLUSH
  ⟨0x30008, 4, 1, 0, 0, 0, 0, 0, 0, 0⟩, -- QUE_MODE0
  ⟨0x3000c, 4, 1, 0, 0, 0, 0, 0, 0, 0⟩, -- QUE_MODE1
  ⟨0x30010, 4, 1, 0, 0xffffffff, 0, 0, 0, 0, 0⟩, -- QUE_FORCE0
  ⟨0x30014, 4, 1, 0, 0xffffffff, 0, 0, 0, 0, 0⟩, -- QUE_FORCE1
  ⟨0x30018, 4, 1, 0, 0x3f, 0, 0, 0, 0, 0⟩, -- QUE_SEL
  ⟨0x3001c, 4, 1, 1, 0, 0, 0, 0, 0, 0⟩, -- QUE_Q_STAT
  ⟨0x30020, 4, 1, 0, 0, 0, 0, 0, 0, 0⟩, -- QUE_Q_ERR
  ⟨0x30024, 4, 1, 0, 0, 0, 0, 0, 0, 0⟩, -- QUE_Q_CNT
  ⟨0x30028, 4, 1, 0, 0, 0, 0x80, 0, 0, 0⟩  -- QUE_STAT
]

/-- The registers of the SCH block (15_queues_scheduler_arbiters.md), in address order. -/
def regsSCH : List RegRow := [
  ⟨0x40000, 4, 1, 0, 2, 0, 0, 0x10, 0, 0⟩, -- SCH_CTL
  ⟨0x40004, 4, 1, 0, 0xf, 0, 0, 0, 0, 0⟩, -- SCH_SESS
  ⟨0x40008, 4, 1, 0x100000, 0, 0, 0, 0, 0, 0⟩, -- SCH_STAT
  ⟨0x4000c, 4, 1, 0, 0, 0, 0, 0, 0, 0⟩, -- SCH_WAIT
  ⟨0x40010, 4, 1, 0, 0, 0, 0, 0, 0, 0⟩  -- SCH_CNT
]

/-- The registers of the ARB block (15_queues_scheduler_arbiters.md), in address order. -/
def regsARB : List RegRow := [
  ⟨0x50000, 4, 1, 0xf0000000, 0, 0, 0, 0, 0, 0⟩, -- ARB_MAT
  ⟨0x50004, 4, 1, 0, 0, 0, 0, 0, 0, 0⟩, -- ARB_MAT_CNT
  ⟨0x50008, 4, 1, 0xf0000000, 0, 0, 0, 0, 0, 0⟩, -- ARB_DRAM
  ⟨0x5000c, 4, 1, 0, 0, 0, 0, 0, 0, 0⟩, -- ARB_DRAM_CNT
  ⟨0x50010, 4, 1, 0x578, 0, 0, 0, 0, 0, 0⟩, -- ARB_PWR_CAP
  ⟨0x50014, 4, 1, 0, 0, 0, 0, 0, 0, 0⟩, -- ARB_PWR_STAT
  ⟨0x50018, 4, 1, 0x14000000, 0, 0, 0, 0, 0, 0⟩, -- ARB_PWR_RES
  ⟨0x50040, 4, 1, 0xa, 0, 0, 0, 0, 0, 0⟩, -- ARB_PWR_REQ(0)
  ⟨0x50044, 4, 1, 4, 0, 0, 0, 0, 0, 0⟩, -- ARB_PWR_REQ(1)
  ⟨0x50048, 4, 1, 4, 0, 0, 0, 0, 0, 0⟩, -- ARB_PWR_REQ(2)
  ⟨0x5004c, 4, 1, 0xc, 0, 0, 0, 0, 0, 0⟩, -- ARB_PWR_REQ(3)
  ⟨0x50050, 4, 1, 0, 0, 0, 0, 0, 0, 0⟩, -- ARB_PWR_REQ(4)
  ⟨0x50054, 4, 1, 0, 0, 0, 0, 0, 0, 0⟩, -- ARB_PWR_REQ(5)
  ⟨0x50058, 4, 1, 0, 0, 0, 0, 0, 0, 0⟩, -- ARB_PWR_REQ(6)
  ⟨0x5005c, 4, 1, 0, 0, 0, 0, 0, 0, 0⟩  -- ARB_PWR_REQ(7)
]

/-- The registers of the SKY block (03_sky_baseband.md), in address order. -/
def regsSKY : List RegRow := [
  ⟨0x100000, 4, 1, 0x50012f, 0x100, 0, 0, 0xc0000000, 0, 0⟩, -- SKY_CTL
  ⟨0x100004, 4, 1, 0, 0, 0, 0, 0, 0, 0⟩, -- SKY_STAT
  ⟨0x100008, 4, 1, 0xc, 3, 0, 0, 0, 0, 0⟩, -- SKY_ANT
  ⟨0x100010, 4, 1, 0xb41432cc, 0xffffffff, 0, 0, 0, 0, 0⟩, -- SKY_LOOP
  ⟨0x100014, 4, 1, 0xc8320501, 0xffffffff, 0, 0, 0, 0, 0⟩, -- SKY_DLL
  ⟨0x100018, 4, 1, 0x1140a02, 0x1ffffff, 0, 0, 0, 0, 0⟩, -- SKY_TAP
  ⟨0x100020, 4, 1, 0xf0f2075, 0xff0ffcff, 0, 0, 0, 0, 0⟩, -- SKY_ITF
  ⟨0x100024, 4, 1, 0, 0, 0, 0, 0, 0, 0⟩, -- SKY_ITF_STAT
  ⟨0x100030, 4, 1, 0x5080532, 0xffffffff, 0, 0, 0, 0, 0⟩, -- SKY_CHK_A
  ⟨0x100034, 4, 1, 0x141e0a32, 0xffffffff, 0, 0, 0, 0, 0⟩, -- SKY_CHK_B
  ⟨0x100038, 4, 1, 0x14321404, 0xffffffff, 0, 0, 0, 0, 0⟩, -- SKY_CHK_C
  ⟨0x100040, 4, 1, 0x2d2a2620, 0xffffffff, 0, 0, 0, 0, 0⟩, -- SKY_PAT0
  ⟨0x100044, 4, 1, 0x3231302f, 0xffffffff, 0, 0, 0, 0, 0⟩, -- SKY_PAT1
  ⟨0x100048, 4, 1, 0x3232, 0xffffff, 0, 0, 0, 0, 0⟩, -- SKY_PAT2
  ⟨0x100050, 4, 1, 0x7e00000, 0, 0, 0, 0, 0, 0⟩, -- SKY_MEAS_BASE
  ⟨0x100054, 4, 1, 0, 0, 0, 0, 0, 0, 0⟩, -- SKY_MEAS_WR
  ⟨0x100058, 4, 1, 0x7f00000, 0, 0, 0, 0, 0, 0⟩, -- SKY_NAV_BASE
  ⟨0x10005c, 4, 1, 0, 0, 0, 0, 0, 0, 0⟩  -- SKY_NAV_WR
]

/-- The registers of the TIM block (04_site_time.md), in address order. -/
def regsTIM : List RegRow := [
  ⟨0x140000, 4, 1, 4, 0x1f, 0, 0, 0, 0, 0⟩, -- TIM_CTL
  ⟨0x140004, 4, 1, 0, 0, 0, 0, 0, 0, 0⟩, -- TIM_STAT
  ⟨0x140008, 4, 1, 0, 0, 0, 0, 0, 0, 0⟩, -- TIM_NOW_LO
  ⟨0x14000c, 4, 1, 0, 0, 0, 0, 0, 0, 0⟩, -- TIM_NOW_HI
  ⟨0x140010, 4, 1, 4, 0xff, 0, 0, 0, 0, 0⟩, -- TIM_INC_INT
  ⟨0x140014, 4, 1, 0, 0xffffffff, 0, 0, 0, 0, 0⟩, -- TIM_INC_FRAC
  ⟨0x140018, 4, 1, 0, 0, 0, 0, 0, 0, 0⟩, -- TIM_OFFSET
  ⟨0x14001c, 4, 1, 0xa3e83e8, 0xffffffff, 0, 0, 0, 0, 0⟩, -- TIM_LOOP
  ⟨0x140020, 4, 1, 0x50a0032, 0xffffffff, 0, 0, 0, 0, 0⟩, -- TIM_LOCK
  ⟨0x140024, 4, 1, 0xe10, 0xfffff, 0, 0, 0, 0, 0⟩, -- TIM_HOLD
  ⟨0x140028, 4, 1, 0, 0, 0, 0, 0, 0, 0⟩, -- TIM_HOLD_AGE
  ⟨0x14002c, 4, 1, 0, 0xffffffff, 0, 0, 0, 0, 0⟩, -- TIM_ANT_DLY
  ⟨0x140030, 4, 1, 0, 0, 0, 0, 0, 0, 0⟩, -- TIM_UTC
  ⟨0x140040, 0x10, 2, 4, 0x3f, 0, 0, 0, 0, 0⟩, -- TIM_PPS_CTL
  ⟨0x140044, 0x10, 2, 0, 0xffffffff, 0, 0, 0, 0, 0⟩, -- TIM_PPS_OFS
  ⟨0x140048, 0x10, 2, 0, 0xffffffff, 0, 0, 0, 0, 0⟩, -- TIM_PPS_CABLE
  ⟨0x14004c, 0x10, 2, 0x12c32064, 0x3fffffff, 0, 0, 0, 0, 0⟩, -- TIM_PPS_WIDTH
  ⟨0x140060, 4, 1, 0, 7, 0, 0, 0, 0, 0⟩, -- TIM_IN_CTL
  ⟨0x140064, 4, 1, 0, 0xffffffff, 0, 0, 0, 0, 0⟩, -- TIM_IN_DLY
  ⟨0x140068, 4, 1, 0, 0, 0xffff0000, 0, 0, 0, 0⟩, -- TIM_IN_STAT
  ⟨0x14006c, 4, 1, 0, 0, 0, 0, 0, 0, 0⟩, -- TIM_IN_LO
  ⟨0x140070, 4, 1, 0, 0, 0, 0, 0, 0, 0⟩, -- TIM_IN_HI
  ⟨0x140074, 4, 1, 0, 0, 0, 0, 0, 0, 0⟩  -- TIM_IN_META
]

/-- The registers of the RTK block (05_central_rtk.md), in address order. -/
def regsRTK : List RegRow := [
  ⟨0x180000, 4, 1, 0xa400007, 0xfff00007, 0, 0, 0x10000, 0, 0⟩, -- RTK_CTL
  ⟨0x180004, 4, 1, 0xc, 0, 0, 0, 0, 0, 0⟩, -- RTK_STAT
  ⟨0x180008, 4, 1, 0x1e052410, 0xffffffff, 0, 0, 0, 0, 0⟩, -- RTK_AR
  ⟨0x18000c, 4, 1, 0x281e320a, 0xffffffff, 0, 0, 0, 0, 0⟩, -- RTK_QC
  ⟨0x180010, 4, 1, 0x3c370a32, 0xffffffff, 0, 0, 0, 0, 0⟩, -- RTK_PL
  ⟨0x180014, 4, 1, 0x640032, 0xffffffff, 0, 0, 0, 0, 0⟩, -- RTK_AL
  ⟨0x180018, 4, 1, 0x322d, 0xffff, 0, 0, 0, 0, 0⟩, -- RTK_IF
  ⟨0x18001c, 4, 1, 0, 0, 0, 0, 0, 0, 0⟩, -- RTK_CYCLE
  ⟨0x180020, 4, 1, 0, 0, 0, 0, 0, 0, 0⟩, -- RTK_CUTS
  ⟨0x180024, 4, 1, 0, 0, 0, 0, 0, 0, 0⟩, -- RTK_INTAKE
  ⟨0x180028, 4, 1, 0, 0, 0, 0, 0, 0, 0⟩, -- RTK_LOAD
  ⟨0x18002c, 4, 1, 0x1c20040, 0xff, 0, 0, 0, 0, 0⟩  -- RTK_PWR
]

/-- The registers of the SNP block (06_snapshot_assist.md), in address order. -/
def regsSNP : List RegRow := [
  ⟨0x1c0000, 4, 1, 0xa22803, 0xfffff03, 0, 0, 0xc, 0, 0⟩, -- SNP_CTL
  ⟨0x1c0004, 4, 1, 0x51e03e8, 0xfffffff, 0, 0, 0, 0, 0⟩, -- SNP_LIM
  ⟨0x1c0008, 4, 1, 0, 0, 0, 0, 0, 0, 0⟩, -- SNP_STAT
  ⟨0x1c000c, 4, 1, 0, 0, 0, 0, 0, 0, 0⟩, -- SNP_CNT
  ⟨0x1c0010, 4, 1, 0, 0, 0, 0, 0, 0, 0⟩, -- SNP_DROP
  ⟨0x1c0014, 4, 1, 0, 0, 0, 0, 0, 0, 0⟩  -- SNP_TIME
]

/-- The registers of the SBX block (07_signal_box.md), in address order. -/
def regsSBX : List RegRow := [
  ⟨0x200000, 4, 1, 0x28000003, 0xff000007, 0, 0, 8, 0, 0⟩, -- SBX_CTL
  ⟨0x200004, 4, 1, 4, 0, 0, 0, 0, 0, 0⟩, -- SBX_STAT
  ⟨0x200008, 4, 1, 0x5dc0bb8, 0xffffffff, 0, 0, 0, 0, 0⟩, -- SBX_EXP
  ⟨0x20000c, 4, 1, 0x14400200, 0xffff0000, 0, 0, 0, 0, 0⟩, -- SBX_MARGIN
  ⟨0x200010, 4, 1, 0, 0, 0, 0, 0, 0, 0⟩, -- SBX_MAP_ID
  ⟨0x200014, 4, 1, 0, 0, 0, 0, 0, 0, 0⟩, -- SBX_MAP_STG
  ⟨0x200018, 4, 1, 0, 0, 0, 0, 0, 0, 0⟩, -- SBX_MAP_ERR
  ⟨0x20001c, 4, 1, 0, 0, 0, 0, 0, 0, 0⟩, -- SBX_CNT0
  ⟨0x200020, 4, 1, 0, 0, 0, 0, 0, 0, 0⟩, -- SBX_CNT1
  ⟨0x200024, 4, 1, 0, 0, 0, 0, 0, 0, 0⟩  -- SBX_LOAD
]

/-- The registers of the ALT block (08_allotment.md), in address order. -/
def regsALT : List RegRow := [
  ⟨0x240000, 4, 1, 0x141e1407, 0xffffff07, 0, 0, 8, 0, 0⟩, -- ALT_CTL
  ⟨0x240004, 4, 1, 4, 0, 0, 0, 0, 0, 0⟩, -- ALT_STAT
  ⟨0x240008, 4, 1, 0x14000a, 0xffffffff, 0, 0, 0, 0, 0⟩, -- ALT_W0
  ⟨0x24000c, 4, 1, 0x1f40032, 0xffffffff, 0, 0, 0, 0, 0⟩, -- ALT_W1
  ⟨0x240010, 4, 1, 0x989680, 0xffffffff, 0, 0, 0, 0, 0⟩, -- ALT_W2
  ⟨0x240014, 4, 1, 0x1e0f5a7d, 0xffffffff, 0, 0, 0, 0, 0⟩, -- ALT_CHG
  ⟨0x240018, 4, 1, 0x140a00, 0xffffff00, 0, 0, 0, 0, 0⟩, -- ALT_CHG2
  ⟨0x24001c, 4, 1, 0x1f40000, 0xffff0000, 0, 0, 0, 0, 0⟩, -- ALT_ROUND
  ⟨0x240020, 4, 1, 0, 0, 0, 0, 0, 0, 0⟩, -- ALT_CNT
  ⟨0x240100, 4, 0x80, 0x160a0000, 0xffffffff, 0, 0, 0, 0, 0⟩, -- ALT_ROVER
  ⟨0x240300, 4, 0x40, 0x160000, 0x80ffffff, 0, 0, 0, 0, 0⟩  -- ALT_BAY
]

/-- The registers of the TTB block (09_timetabler.md), in address order. -/
def regsTTB : List RegRow := [
  ⟨0x280000, 4, 1, 0x320a0a01, 0xffff01, 0, 0, 2, 0, 0⟩, -- TTB_CTL
  ⟨0x280004, 4, 1, 2, 0, 0, 0, 0, 0, 0⟩, -- TTB_STAT
  ⟨0x280008, 4, 1, 0, 0, 0, 0, 0, 0, 0⟩, -- TTB_CAM
  ⟨0x28000c, 4, 1, 0, 0, 0, 0, 0, 0, 0⟩, -- TTB_CAM_INFO
  ⟨0x280010, 4, 1, 0, 0, 0, 0, 0, 0, 0⟩, -- TTB_CAM_ERR
  ⟨0x280014, 4, 1, 0, 0, 0, 0, 0, 0, 0⟩, -- TTB_CNT
  ⟨0x280018, 4, 1, 0, 0, 0, 0, 0, 0, 0⟩  -- TTB_LOAD
]

/-- The registers of the STP block (11_stop.md), in address order. -/
def regsSTP : List RegRow := [
  ⟨0x2c0000, 4, 1, 0x314, 0x3ff, 0, 0, 0x400, 0, 0⟩, -- STP_CTL
  ⟨0x2c0004, 4, 1, 0x61, 0, 0, 0, 0, 0, 0⟩, -- STP_STAT
  ⟨0x2c0008, 4, 1, 0x400, 0, 0, 0, 0, 0, 0⟩, -- STP_SRC
  ⟨0x2c000c, 4, 1, 0x400, 0, 0, 0xfff, 0, 0, 0⟩, -- STP_LATCH
  ⟨0x2c0010, 4, 1, 0, 0, 0, 0, 0, 0, 0⟩, -- STP_CNT
  ⟨0x2c0020, 4, 4, 0, 0, 0, 0, 0, 0, 0⟩  -- STP_ROVER
]

/-- The registers of the RAD block (10_radio_mac.md), in address order. -/
def regsRAD : List RegRow := [
  ⟨0x300000, 4, 1, 0x540143, 0xfffff3, 0, 0, 4, 0, 0⟩, -- RAD_CTL
  ⟨0x300004, 4, 1, 0, 0, 0, 0, 0, 0, 0⟩, -- RAD_STAT
  ⟨0x300008, 4, 1, 0xa0, 0, 0, 0, 0, 0, 0⟩, -- RAD_SF
  ⟨0x30000c, 4, 1, 0, 0, 0, 0, 0, 0, 0⟩, -- RAD_SF_PEND
  ⟨0x300010, 4, 1, 0x6241464, 0xffff, 0, 0, 0, 0, 0⟩, -- RAD_GUARD
  ⟨0x300014, 4, 1, 0xffffff, 0x80ffffff, 0, 0, 0, 0, 0⟩, -- RAD_KEY
  ⟨0x300018, 4, 1, 0, 0, 0, 0, 0, 0, 0⟩, -- RAD_JOIN_CNT
  ⟨0x300040, 0x20, 4, 0x1c, 0, 0, 0, 0, 0, 0⟩, -- RAD_P_CFG
  ⟨0x300044, 0x20, 4, 0, 0, 0, 0, 0, 0, 0⟩, -- RAD_P_STAT
  ⟨0x300048, 0x20, 4, 0, 0, 0, 0, 0, 0, 0⟩, -- RAD_P_CNT0
  ⟨0x30004c, 0x20, 4, 0, 0, 0, 0, 0, 0, 0⟩, -- RAD_P_CNT1
  ⟨0x300050, 0x20, 4, 0, 0, 0, 0, 0, 0, 0⟩  -- RAD_P_ARM
]

/-- The registers of the ETH block (12_ethernet_and_chain.md), in address order. -/
def regsETH : List RegRow := [
  ⟨0x340000, 4, 1, 0x320001, 0x3ff0001, 0, 0, 2, 0, 0⟩, -- ETH_CTL
  ⟨0x340004, 4, 1, 0, 0, 0, 4, 0, 0, 0⟩, -- ETH_STAT
  ⟨0x340008, 4, 1, 0, 0, 0, 0, 0, 0, 0⟩, -- ETH_MAC_LO
  ⟨0x34000c, 4, 1, 0, 0, 0, 0, 0, 0, 0⟩, -- ETH_MAC_HI
  ⟨0x340010, 4, 1, 0, 0, 0, 0, 0, 0, 0⟩, -- ETH_IP_ADDR
  ⟨0x340014, 4, 1, 0, 0, 0, 0, 0, 0, 0⟩, -- ETH_IP_NET
  ⟨0x340018, 4, 1, 0, 0, 0, 0, 0, 0, 0⟩, -- ETH_IP_GW
  ⟨0x34001c, 4, 1, 0, 0x43ffffff, 0, 0, 0x80000000, 0, 0⟩, -- ETH_MDIO
  ⟨0x340030, 4, 1, 0x80800010, 0xffffff3b, 0, 0, 0, 0, 0⟩, -- ETH_PTP_CTL
  ⟨0x340034, 4, 1, 0xfd010003, 0xffffffff, 0, 0, 0, 0, 0⟩, -- ETH_PTP_INT
  ⟨0x340038, 4, 1, 0xf833, 0, 0, 0, 0, 0, 0⟩, -- ETH_PTP_STAT
  ⟨0x34003c, 4, 1, 0, 0, 0, 0, 0, 0, 0⟩, -- ETH_PTP_DELAY
  ⟨0x340040, 4, 1, 6, 0xff07, 0, 0, 0, 0, 0⟩, -- ETH_WAKE_CTL
  ⟨0x340044, 4, 1, 0, 0, 0, 0, 0, 0, 0⟩, -- ETH_WAKE_STAT
  ⟨0x340080, 0x40, 2, 0xd, 0, 0, 0, 0, 0, 0⟩, -- ETH_P_CFG
  ⟨0x340084, 0x40, 2, 0xff00, 0, 0, 0, 0, 0, 0⟩, -- ETH_P_STAT
  ⟨0x340088, 0x40, 2, 0, 0, 0, 0, 0, 0, 0⟩, -- ETH_P_ING
  ⟨0x34008c, 0x40, 2, 0, 0, 0, 0, 0, 0, 0⟩, -- ETH_P_EG
  ⟨0x340090, 0x40, 2, 0, 0, 0, 0, 0, 0, 0⟩, -- ETH_P_LDELAY
  ⟨0x340094, 0x40, 2, 0, 0, 0, 0, 0, 0, 0⟩, -- ETH_P_CNT0
  ⟨0x340098, 0x40, 2, 0, 0, 0, 0, 0, 0, 0⟩, -- ETH_P_CNT1
  ⟨0x34009c, 0x40, 2, 0, 0, 0, 0, 0, 0, 0⟩, -- ETH_P_PAUSE
  ⟨0x340400, 4, 0x20, 0, 0xffffffff, 0, 0, 0, 0, 0⟩, -- ETH_WAKE_PAT(0)
  ⟨0x340480, 4, 4, 0, 0xffffffff, 0, 0, 0, 0, 0⟩, -- ETH_WAKE_MSK(0)
  ⟨0x340500, 4, 0x20, 0, 0xffffffff, 0, 0, 0, 0, 0⟩, -- ETH_WAKE_PAT(1)
  ⟨0x340580, 4, 4, 0, 0xffffffff, 0, 0, 0, 0, 0⟩, -- ETH_WAKE_MSK(1)
  ⟨0x340600, 4, 0x20, 0, 0xffffffff, 0, 0, 0, 0, 0⟩, -- ETH_WAKE_PAT(2)
  ⟨0x340680, 4, 4, 0, 0xffffffff, 0, 0, 0, 0, 0⟩, -- ETH_WAKE_MSK(2)
  ⟨0x340700, 4, 0x20, 0, 0xffffffff, 0, 0, 0, 0, 0⟩, -- ETH_WAKE_PAT(3)
  ⟨0x340780, 4, 4, 0, 0xffffffff, 0, 0, 0, 0, 0⟩, -- ETH_WAKE_MSK(3)
  ⟨0x340800, 4, 0x20, 0, 0xffffffff, 0, 0, 0, 0, 0⟩, -- ETH_WAKE_PAT(4)
  ⟨0x340880, 4, 4, 0, 0xffffffff, 0, 0, 0, 0, 0⟩, -- ETH_WAKE_MSK(4)
  ⟨0x340900, 4, 0x20, 0, 0xffffffff, 0, 0, 0, 0, 0⟩, -- ETH_WAKE_PAT(5)
  ⟨0x340980, 4, 4, 0, 0xffffffff, 0, 0, 0, 0, 0⟩, -- ETH_WAKE_MSK(5)
  ⟨0x340a00, 4, 0x20, 0, 0xffffffff, 0, 0, 0, 0, 0⟩, -- ETH_WAKE_PAT(6)
  ⟨0x340a80, 4, 4, 0, 0xffffffff, 0, 0, 0, 0, 0⟩, -- ETH_WAKE_MSK(6)
  ⟨0x340b00, 4, 0x20, 0, 0xffffffff, 0, 0, 0, 0, 0⟩, -- ETH_WAKE_PAT(7)
  ⟨0x340b80, 4, 4, 0, 0xffffffff, 0, 0, 0, 0, 0⟩  -- ETH_WAKE_MSK(7)
]

/-- The registers of the MTR block (13_site_energy.md), in address order. -/
def regsMTR : List RegRow := [
  ⟨0x380000, 4, 1, 0x3c000403, 0xfc000f33, 0, 0, 0xc, 0, 0⟩, -- MTR_CTL
  ⟨0x380004, 4, 1, 0, 0, 0x20000000, 0, 0, 0, 0⟩, -- MTR_STAT
  ⟨0x380008, 4, 1, 0x8fc07d0, 0xffffffff, 0, 0, 0, 0, 0⟩, -- MTR_NOM0
  ⟨0x38000c, 4, 1, 0x8fc0190, 0xffffffff, 0, 0, 0, 0, 0⟩, -- MTR_NOM1
  ⟨0x380010, 4, 1, 0x3c500a05, 0xffffffff, 0, 0, 0, 0, 0⟩, -- MTR_FLT
  ⟨0x380014, 4, 1, 0x5000a, 0xffffffff, 0, 0, 0, 0, 0⟩, -- MTR_REV
  ⟨0x380018, 4, 1, 0, 0, 0, 0, 0, 0, 0xffffffff⟩, -- MTR_SEAL
  ⟨0x38001c, 4, 1, 0, 0, 0, 0, 0, 0, 0⟩, -- MTR_CNT
  ⟨0x380020, 4, 1, 0x50, 0xc0000fff, 0, 0, 0, 0, 0⟩, -- MTR_PLS(0)
  ⟨0x380024, 4, 1, 0x150, 0xc0000fff, 0, 0, 0, 0, 0⟩, -- MTR_PLS(1)
  ⟨0x380028, 4, 1, 0x850, 0xc0000fff, 0, 0, 0, 0, 0⟩, -- MTR_PLS(2)
  ⟨0x38002c, 4, 1, 0x950, 0xc0000fff, 0, 0, 0, 0, 0⟩, -- MTR_PLS(3)
  ⟨0x380030, 4, 4, 0x3e8, 0xfffff, 0, 0, 0, 0, 0⟩, -- MTR_PK
  ⟨0x380080, 8, 0xe, 0, 0xffffffff, 0, 0, 0, 0, 0⟩, -- MTR_CALG
  ⟨0x380084, 8, 0xe, 0, 0xffff, 0, 0, 0, 0, 0⟩  -- MTR_CALP
]

/-- The registers of the LAN block (14_lanes.md), in address order. -/
def regsLAN : List RegRow := [
  ⟨0x3c0000, 4, 1, 0x200a0003, 0xffff0003, 0, 0, 0x1c, 0, 0⟩, -- LAN_CTL
  ⟨0x3c0004, 4, 1, 0, 0, 0, 0, 0, 0, 0⟩, -- LAN_STAT
  ⟨0x3c0008, 4, 1, 0xff000000, 0, 0, 0x7ff, 0, 0, 0⟩, -- LAN_DIAG_A
  ⟨0x3c000c, 4, 1, 0xff000000, 0, 0, 0x7ff, 0, 0, 0⟩, -- LAN_DIAG_B
  ⟨0x3c0010, 4, 1, 0, 0, 0, 0, 0, 0, 0⟩, -- LAN_DIG
  ⟨0x3c0014, 4, 1, 0, 0, 0, 0, 0, 0, 0⟩, -- LAN_DIG_LO
  ⟨0x3c0018, 4, 1, 0, 0, 0, 0, 0, 0, 0⟩, -- LAN_DIG_HI
  ⟨0x3c001c, 4, 1, 0, 0, 0, 0, 0, 0, 0⟩, -- LAN_CNT
  ⟨0x3c0020, 4, 1, 0, 0, 0, 0, 0, 0, 0⟩, -- LAN_TIME
  ⟨0x3c0024, 4, 1, 0, 0, 0, 0, 0, 0, 0⟩  -- LAN_ECC
]

/-- The registers of the SEC block (16_keys_and_update.md), in address order. -/
def regsSEC : List RegRow := [
  ⟨0x400000, 4, 1, 0xff000000, 0xff000000, 0, 0, 1, 0, 0⟩, -- SEC_CTL
  ⟨0x400004, 4, 1, 0, 0, 0, 0, 0, 0, 0⟩, -- SEC_STAT
  ⟨0x400008, 4, 1, 0, 0, 0x3f, 0, 0, 0, 0⟩, -- SEC_TAMPER
  ⟨0x40000c, 4, 1, 0, 0, 0, 0, 0, 0, 0⟩, -- SEC_TEMP
  ⟨0x400010, 4, 1, 0, 0, 0, 0, 0, 0, 0⟩, -- SEC_UNIT_LO
  ⟨0x400014, 4, 1, 0, 0, 0, 0, 0, 0, 0⟩, -- SEC_UNIT_HI
  ⟨0x400018, 4, 1, 0x40000, 0, 0, 0, 0, 0, 0xffff⟩, -- SEC_SITE
  ⟨0x40001c, 4, 1, 0, 0, 0, 0, 0, 0, 0xffffffff⟩, -- SEC_BIND
  ⟨0x400020, 4, 1, 0, 0, 0, 0, 0, 0, 0⟩, -- SEC_RSID
  ⟨0x400024, 4, 1, 0, 0, 0, 0, 0, 0, 0⟩, -- SEC_CNT
  ⟨0x400100, 4, 0x40, 0, 0, 0, 0, 0, 0, 0⟩, -- SEC_SLOT
  ⟨0x400200, 4, 0x10, 0, 0, 0, 0, 0, 0, 0⟩  -- SEC_EPUB
]

/-- The registers of the UPD block (16_keys_and_update.md), in address order. -/
def regsUPD : List RegRow := [
  ⟨0x440000, 4, 1, 1, 1, 0, 0, 6, 0, 0⟩, -- UPD_CTL
  ⟨0x440004, 4, 1, 0, 0, 0, 0, 0, 0, 0⟩, -- UPD_STAT
  ⟨0x440008, 4, 1, 0, 0, 0, 0, 0, 0, 0⟩, -- UPD_VINT_ACT
  ⟨0x44000c, 4, 1, 0, 0, 0, 0, 0, 0, 0⟩, -- UPD_VINT_STG
  ⟨0x440010, 4, 1, 0x4000, 0, 0, 0, 0, 0, 0x7f⟩, -- UPD_FLOOR
  ⟨0x440014, 4, 1, 0, 0, 0, 0, 0, 0, 0⟩, -- UPD_FMT
  ⟨0x440018, 4, 1, 0, 0, 0, 0, 0, 0, 0⟩, -- UPD_PROG
  ⟨0x44001c, 4, 1, 0, 0, 0, 0, 0, 0, 0⟩, -- UPD_TD_LO
  ⟨0x440020, 4, 1, 0, 0, 0, 0, 0, 0, 0⟩, -- UPD_TD_HI
  ⟨0x440024, 4, 1, 0, 0, 0, 0, 0, 0, 0⟩  -- UPD_CNT
]

/-- The registers of the CBK block (17_cellar_book.md), in address order. -/
def regsCBK : List RegRow := [
  ⟨0x480000, 4, 1, 0x3c000000, 0xff000000, 0, 0, 2, 0, 0⟩, -- CBK_CTL
  ⟨0x480004, 4, 1, 0, 0, 0, 8, 0, 0, 0⟩, -- CBK_STAT
  ⟨0x480008, 4, 1, 0, 0, 0, 0, 0, 0, 0⟩, -- CBK_NEWEST
  ⟨0x48000c, 4, 1, 0, 0, 0, 0, 0, 0, 0⟩, -- CBK_OLDEST
  ⟨0x480010, 4, 1, 0, 0, 0, 0, 0, 0, 0⟩, -- CBK_PERM
  ⟨0x480014, 4, 1, 0, 0, 0, 0, 0, 0, 0⟩, -- CBK_BUF
  ⟨0x480018, 4, 1, 0, 0, 0, 0, 0, 0, 0⟩  -- CBK_CNT
]

/-- The registers of the TST block (20_register_map_and_test.md), in address order. -/
def regsTST : List RegRow := [
  ⟨0x4c0000, 4, 1, 0, 0, 0, 0, 2, 0, 0⟩, -- TST_CTL
  ⟨0x4c0004, 4, 1, 0, 0, 0, 0x10, 0, 0, 0⟩, -- TST_STAT
  ⟨0x4c0010, 4, 4, 0, 0xffff007f, 0, 0, 0, 0, 0⟩, -- TST_QDLY
  ⟨0x4c0020, 4, 1, 0, 0xff0000ff, 0, 0, 0, 0, 0⟩, -- TST_BP
  ⟨0x4c0024, 4, 1, 0x100, 0xffffff0f, 0, 0, 0, 0, 0⟩, -- TST_JIT
  ⟨0x4c0028, 4, 1, 0x10000, 0x7cff003f, 0, 0, 0x80000000, 0, 0⟩, -- TST_ERR
  ⟨0x4c002c, 4, 1, 0, 0xffff0003, 0, 0, 0, 0, 0⟩, -- TST_STRETCH
  ⟨0x4c0030, 4, 1, 0x10000, 0xff0003, 0, 0, 0x80000000, 0, 0⟩  -- TST_CRC
]

/-- Rows of the block that holds an address: the 22 blocks of Table 20-1, none elsewhere. -/
def blockRows (a : Nat) : List RegRow :=
  if 0x0 ≤ a ∧ a < 0x10000 then regsSYS
  else if 0x10000 ≤ a ∧ a < 0x20000 then regsPWR
  else if 0x20000 ≤ a ∧ a < 0x30000 then regsEVT
  else if 0x30000 ≤ a ∧ a < 0x40000 then regsQUE
  else if 0x40000 ≤ a ∧ a < 0x50000 then regsSCH
  else if 0x50000 ≤ a ∧ a < 0x60000 then regsARB
  else if 0x100000 ≤ a ∧ a < 0x140000 then regsSKY
  else if 0x140000 ≤ a ∧ a < 0x180000 then regsTIM
  else if 0x180000 ≤ a ∧ a < 0x1c0000 then regsRTK
  else if 0x1c0000 ≤ a ∧ a < 0x200000 then regsSNP
  else if 0x200000 ≤ a ∧ a < 0x240000 then regsSBX
  else if 0x240000 ≤ a ∧ a < 0x280000 then regsALT
  else if 0x280000 ≤ a ∧ a < 0x2c0000 then regsTTB
  else if 0x2c0000 ≤ a ∧ a < 0x300000 then regsSTP
  else if 0x300000 ≤ a ∧ a < 0x340000 then regsRAD
  else if 0x340000 ≤ a ∧ a < 0x380000 then regsETH
  else if 0x380000 ≤ a ∧ a < 0x3c0000 then regsMTR
  else if 0x3c0000 ≤ a ∧ a < 0x400000 then regsLAN
  else if 0x400000 ≤ a ∧ a < 0x440000 then regsSEC
  else if 0x440000 ≤ a ∧ a < 0x480000 then regsUPD
  else if 0x480000 ≤ a ∧ a < 0x4c0000 then regsCBK
  else if 0x4c0000 ≤ a ∧ a < 0x500000 then regsTST
  else []

end Sys2Proof.Machine

/-! The fields, under their names in the spec (BLOCK_NAME.FIELD written BLOCK_NAME_FIELD). -/

namespace Sys2Proof.Machine.F

def SYS_ID_TYPE_ID : Fld := ⟨0x0, 16, 16⟩
def SYS_ID_STEP_MAJOR : Fld := ⟨0x0, 12, 4⟩
def SYS_ID_STEP_MINOR : Fld := ⟨0x0, 8, 4⟩
def SYS_ID_LANES : Fld := ⟨0x0, 4, 4⟩
def SYS_TT_SEL_DIE : Fld := ⟨0x40, 8, 2⟩
def SYS_TT_SEL_ENGINE : Fld := ⟨0x40, 0, 8⟩
def SYS_TT_POS_GEN : Fld := ⟨0x44, 20, 8⟩
def SYS_TT_POS_STATE : Fld := ⟨0x44, 16, 4⟩
def SYS_TT_POS_STEP : Fld := ⟨0x44, 0, 12⟩
def SYS_TT_COUNT_COUNT : Fld := ⟨0x48, 0, 32⟩
def SYS_SVB_CTL_IDLE_S : Fld := ⟨0x80, 16, 8⟩
def SYS_SVB_CTL_CNT_CLR : Fld := ⟨0x80, 4, 1⟩
def SYS_SVB_CTL_UDP_EN : Fld := ⟨0x80, 1, 3⟩
def SYS_SVB_CTL_SPI_EN : Fld := ⟨0x80, 0, 1⟩
def SYS_SVB_STAT_HELD : Fld := ⟨0x84, 16, 1⟩
def SYS_SVB_STAT_S3 : Fld := ⟨0x84, 12, 4⟩
def SYS_SVB_STAT_S2 : Fld := ⟨0x84, 8, 4⟩
def SYS_SVB_STAT_S1 : Fld := ⟨0x84, 4, 4⟩
def SYS_SVB_STAT_S0 : Fld := ⟨0x84, 0, 4⟩
def SYS_SVB_ERR_DUP : Fld := ⟨0x88, 24, 8⟩
def SYS_SVB_ERR_AUTH : Fld := ⟨0x88, 16, 8⟩
def SYS_SVB_ERR_FRAMING : Fld := ⟨0x88, 8, 8⟩
def SYS_SVB_ERR_CRC : Fld := ⟨0x88, 0, 8⟩
def PWR_CTL_HUB_RST : Fld := ⟨0x10000, 24, 8⟩
def PWR_CTL_VIN_WARN : Fld := ⟨0x10000, 16, 8⟩
def PWR_CTL_TEMP_HI : Fld := ⟨0x10000, 8, 8⟩
def PWR_CTL_CNT_CLR : Fld := ⟨0x10000, 0, 1⟩
def PWR_STAT_STATE : Fld := ⟨0x10004, 28, 4⟩
def PWR_STAT_LAST_RESET : Fld := ⟨0x10004, 24, 4⟩
def PWR_STAT_RST_REFUSED : Fld := ⟨0x10004, 8, 1⟩
def PWR_STAT_VOUT_OC : Fld := ⟨0x10004, 7, 1⟩
def PWR_STAT_HOT : Fld := ⟨0x10004, 6, 1⟩
def PWR_STAT_HOLD_OK : Fld := ⟨0x10004, 5, 1⟩
def PWR_STAT_VBAT_LOW : Fld := ⟨0x10004, 4, 1⟩
def PWR_STAT_WARN : Fld := ⟨0x10004, 3, 1⟩
def PWR_STAT_REF_OK : Fld := ⟨0x10004, 1, 1⟩
def PWR_STAT_PG : Fld := ⟨0x10004, 0, 1⟩
def PWR_SUP_VIN : Fld := ⟨0x10008, 16, 16⟩
def PWR_SUP_HOLDUP : Fld := ⟨0x10008, 0, 16⟩
def PWR_SUP2_VOUT_MA : Fld := ⟨0x1000c, 16, 16⟩
def PWR_SUP2_VBAT : Fld := ⟨0x1000c, 0, 16⟩
def PWR_DIP_MIN_MV : Fld := ⟨0x10010, 16, 16⟩
def PWR_DIP_DIPS : Fld := ⟨0x10010, 8, 8⟩
def PWR_DIP_BROWNOUTS : Fld := ⟨0x10010, 0, 8⟩
def PWR_DIP_T_T_US : Fld := ⟨0x10014, 0, 32⟩
def PWR_WAKE_TIMER : Fld := ⟨0x10018, 16, 16⟩
def PWR_WAKE_ETH_EN : Fld := ⟨0x10018, 1, 1⟩
def PWR_WAKE_PIN_EN : Fld := ⟨0x10018, 0, 1⟩
def PWR_WAKE_SRC_SRC : Fld := ⟨0x1001c, 0, 5⟩
def PWR_AVFS_CTL_TARGET : Fld := ⟨0x10020, 24, 8⟩
def PWR_AVFS_CTL_ALARM : Fld := ⟨0x10020, 16, 8⟩
def PWR_AVFS_CTL_EN : Fld := ⟨0x10020, 0, 1⟩
def PWR_AVFS_A_CODE : Fld := ⟨0x10024, 24, 8⟩
def PWR_AVFS_A_MARGIN : Fld := ⟨0x10024, 16, 8⟩
def PWR_AVFS_A_CODE_MAX : Fld := ⟨0x10024, 8, 8⟩
def PWR_AVFS_A_TOP : Fld := ⟨0x10024, 0, 1⟩
def PWR_AVFS_B_CODE : Fld := ⟨0x10028, 24, 8⟩
def PWR_AVFS_B_MARGIN : Fld := ⟨0x10028, 16, 8⟩
def PWR_AVFS_B_CODE_MAX : Fld := ⟨0x10028, 8, 8⟩
def PWR_AVFS_B_TOP : Fld := ⟨0x10028, 0, 1⟩
def EVT_PEND0_PEND : Fld := ⟨0x20000, 0, 32⟩
def EVT_PEND1_PEND : Fld := ⟨0x20004, 0, 32⟩
def EVT_PEND2_PEND : Fld := ⟨0x20008, 0, 24⟩
def EVT_EN0_EN : Fld := ⟨0x20010, 0, 32⟩
def EVT_EN1_EN : Fld := ⟨0x20014, 0, 32⟩
def EVT_EN2_EN : Fld := ⟨0x20018, 0, 24⟩
def EVT_STAT_NORMAL : Fld := ⟨0x20020, 8, 7⟩
def EVT_STAT_URGENT : Fld := ⟨0x20020, 0, 7⟩
def EVT_CNT_RAISED : Fld := ⟨0x20024, 0, 32⟩
def QUE_CTL_PAR_THR : Fld := ⟨0x30000, 24, 8⟩
def QUE_CTL_CNT_CLR : Fld := ⟨0x30000, 1, 1⟩
def QUE_FLUSH_GO : Fld := ⟨0x30004, 31, 1⟩
def QUE_FLUSH_QUEUE : Fld := ⟨0x30004, 0, 6⟩
def QUE_MODE0_SECDED : Fld := ⟨0x30008, 0, 32⟩
def QUE_MODE1_SECDED : Fld := ⟨0x3000c, 0, 32⟩
def QUE_FORCE0_FORCE : Fld := ⟨0x30010, 0, 32⟩
def QUE_FORCE1_FORCE : Fld := ⟨0x30014, 0, 32⟩
def QUE_SEL_QUEUE : Fld := ⟨0x30018, 0, 6⟩
def QUE_Q_STAT_FILL_W : Fld := ⟨0x3001c, 14, 10⟩
def QUE_Q_STAT_DRAIN_W : Fld := ⟨0x3001c, 4, 10⟩
def QUE_Q_STAT_BANK : Fld := ⟨0x3001c, 3, 1⟩
def QUE_Q_STAT_MODE : Fld := ⟨0x3001c, 2, 1⟩
def QUE_Q_STAT_FULL : Fld := ⟨0x3001c, 1, 1⟩
def QUE_Q_STAT_EMPTY : Fld := ⟨0x3001c, 0, 1⟩
def QUE_Q_ERR_PAR_ERR : Fld := ⟨0x30020, 24, 8⟩
def QUE_Q_ERR_CORR : Fld := ⟨0x30020, 16, 8⟩
def QUE_Q_ERR_POISON : Fld := ⟨0x30020, 8, 8⟩
def QUE_Q_ERR_STALE_GEN : Fld := ⟨0x30020, 0, 8⟩
def QUE_Q_CNT_COMMITS : Fld := ⟨0x30024, 16, 16⟩
def QUE_Q_CNT_REWINDS : Fld := ⟨0x30024, 0, 16⟩
def QUE_STAT_FLUSH_REF : Fld := ⟨0x30028, 7, 1⟩
def QUE_STAT_SECDED_N : Fld := ⟨0x30028, 0, 7⟩
def SCH_CTL_CNT_CLR : Fld := ⟨0x40000, 4, 1⟩
def SCH_CTL_ATOMIC_EN : Fld := ⟨0x40000, 1, 1⟩
def SCH_SESS_ATOMIC : Fld := ⟨0x40004, 0, 4⟩
def SCH_STAT_IN_USE : Fld := ⟨0x40008, 21, 11⟩
def SCH_STAT_WINDOW : Fld := ⟨0x40008, 11, 10⟩
def SCH_STAT_ATOMIC_PEND : Fld := ⟨0x40008, 1, 1⟩
def SCH_STAT_ATOMIC_ON : Fld := ⟨0x40008, 0, 1⟩
def SCH_WAIT_ON_SIDING : Fld := ⟨0x4000c, 21, 11⟩
def SCH_WAIT_WAITING : Fld := ⟨0x4000c, 10, 11⟩
def SCH_CNT_TIMEOUTS : Fld := ⟨0x40010, 24, 8⟩
def SCH_CNT_REJECTED : Fld := ⟨0x40010, 16, 8⟩
def SCH_CNT_WIN_FULL : Fld := ⟨0x40010, 8, 8⟩
def ARB_MAT_OWNER : Fld := ⟨0x50000, 28, 4⟩
def ARB_MAT_CLASS : Fld := ⟨0x50000, 26, 2⟩
def ARB_MAT_REQ : Fld := ⟨0x50000, 0, 16⟩
def ARB_MAT_CNT_TAKEN : Fld := ⟨0x50004, 16, 16⟩
def ARB_MAT_CNT_GRANTS : Fld := ⟨0x50004, 0, 16⟩
def ARB_DRAM_OWNER : Fld := ⟨0x50008, 28, 4⟩
def ARB_DRAM_CLASS : Fld := ⟨0x50008, 26, 2⟩
def ARB_DRAM_REQ : Fld := ⟨0x50008, 0, 16⟩
def ARB_DRAM_CNT_TAKEN : Fld := ⟨0x5000c, 16, 16⟩
def ARB_DRAM_CNT_GRANTS : Fld := ⟨0x5000c, 0, 16⟩
def ARB_PWR_CAP_CAP : Fld := ⟨0x50010, 0, 11⟩
def ARB_PWR_STAT_GRANTED : Fld := ⟨0x50014, 21, 11⟩
def ARB_PWR_STAT_RESERVED : Fld := ⟨0x50014, 10, 11⟩
def ARB_PWR_STAT_OVER : Fld := ⟨0x50014, 8, 1⟩
def ARB_PWR_STAT_WAIT : Fld := ⟨0x50014, 0, 8⟩
def ARB_PWR_RES_BASE : Fld := ⟨0x50018, 21, 11⟩
def ARB_PWR_RES_VOUT : Fld := ⟨0x50018, 10, 11⟩
def ARB_PWR_RES_FLOOR : Fld := ⟨0x50018, 0, 10⟩
def ARB_PWR_REQ_DEMAND (i : Nat) : Fld := ⟨0x50040 + 4 * i, 21, 11⟩
def ARB_PWR_REQ_GRANT (i : Nat) : Fld := ⟨0x50040 + 4 * i, 10, 11⟩
def ARB_PWR_REQ_CLASS (i : Nat) : Fld := ⟨0x50040 + 4 * i, 2, 2⟩
def ARB_PWR_REQ_PARTIAL (i : Nat) : Fld := ⟨0x50040 + 4 * i, 1, 1⟩
def ARB_PWR_REQ_WAIT (i : Nat) : Fld := ⟨0x50040 + 4 * i, 0, 1⟩
def SKY_CTL_COLD : Fld := ⟨0x100000, 31, 1⟩
def SKY_CTL_RESTART : Fld := ⟨0x100000, 30, 1⟩
def SKY_CTL_EPOCH_RATE : Fld := ⟨0x100000, 20, 4⟩
def SKY_CTL_EN : Fld := ⟨0x100000, 8, 1⟩
def SKY_CTL_L5_EN : Fld := ⟨0x100000, 5, 1⟩
def SKY_CTL_SYS_EN : Fld := ⟨0x100000, 0, 5⟩
def SKY_STAT_TRACK : Fld := ⟨0x100004, 16, 8⟩
def SKY_STAT_USED : Fld := ⟨0x100004, 8, 8⟩
def SKY_STAT_STATE : Fld := ⟨0x100004, 0, 4⟩
def SKY_ANT_CURRENT : Fld := ⟨0x100008, 16, 16⟩
def SKY_ANT_SENSE : Fld := ⟨0x100008, 2, 2⟩
def SKY_ANT_BIAS : Fld := ⟨0x100008, 0, 2⟩
def SKY_LOOP_PLL_BMAX : Fld := ⟨0x100010, 24, 8⟩
def SKY_LOOP_PLL_BMIN : Fld := ⟨0x100010, 16, 8⟩
def SKY_LOOP_FLL_B : Fld := ⟨0x100010, 8, 8⟩
def SKY_LOOP_LOCK_THR : Fld := ⟨0x100010, 0, 8⟩
def SKY_DLL_DLL_BMAX : Fld := ⟨0x100014, 24, 8⟩
def SKY_DLL_DLL_NOM : Fld := ⟨0x100014, 16, 8⟩
def SKY_DLL_DLL_BMIN : Fld := ⟨0x100014, 8, 8⟩
def SKY_DLL_JFLOOR : Fld := ⟨0x100014, 0, 8⟩
def SKY_TAP_DD_EN : Fld := ⟨0x100018, 24, 1⟩
def SKY_TAP_VEL_SP : Fld := ⟨0x100018, 16, 8⟩
def SKY_TAP_EL_HI : Fld := ⟨0x100018, 8, 8⟩
def SKY_TAP_EL_LO : Fld := ⟨0x100018, 0, 8⟩
def SKY_ITF_NOTCH_THR : Fld := ⟨0x100020, 24, 8⟩
def SKY_ITF_NOTCH_EN : Fld := ⟨0x100020, 16, 4⟩
def SKY_ITF_BLANK_EXT : Fld := ⟨0x100020, 10, 6⟩
def SKY_ITF_BLANK_THR : Fld := ⟨0x100020, 4, 4⟩
def SKY_ITF_AGC_TGT : Fld := ⟨0x100020, 0, 4⟩
def SKY_ITF_STAT_L5_GAIN : Fld := ⟨0x100024, 24, 8⟩
def SKY_ITF_STAT_L5_NOTCH : Fld := ⟨0x100024, 20, 4⟩
def SKY_ITF_STAT_L5_BLANK : Fld := ⟨0x100024, 16, 4⟩
def SKY_ITF_STAT_L1_GAIN : Fld := ⟨0x100024, 8, 8⟩
def SKY_ITF_STAT_L1_NOTCH : Fld := ⟨0x100024, 4, 4⟩
def SKY_ITF_STAT_L1_BLANK : Fld := ⟨0x100024, 0, 4⟩
def SKY_CHK_A_ELEV_MASK : Fld := ⟨0x100030, 24, 8⟩
def SKY_CHK_A_PWR_FAIL : Fld := ⟨0x100030, 16, 8⟩
def SKY_CHK_A_PWR_WARN : Fld := ⟨0x100030, 8, 8⟩
def SKY_CHK_A_L15_FAIL : Fld := ⟨0x100030, 0, 8⟩
def SKY_CHK_B_L15_WARN : Fld := ⟨0x100034, 24, 8⟩
def SKY_CHK_B_PR_FAIL : Fld := ⟨0x100034, 16, 8⟩
def SKY_CHK_B_PR_WARN : Fld := ⟨0x100034, 8, 8⟩
def SKY_CHK_B_RR_FAIL : Fld := ⟨0x100034, 0, 8⟩
def SKY_CHK_C_RR_WARN : Fld := ⟨0x100038, 24, 8⟩
def SKY_CHK_C_DOP_FAIL : Fld := ⟨0x100038, 16, 8⟩
def SKY_CHK_C_READMIT : Fld := ⟨0x100038, 8, 8⟩
def SKY_CHK_C_SPOOF_N : Fld := ⟨0x100038, 0, 8⟩
def SKY_PAT0_E : Fld := ⟨0x100040, 0, 32⟩
def SKY_PAT1_E : Fld := ⟨0x100044, 0, 32⟩
def SKY_PAT2_L5_OFS : Fld := ⟨0x100048, 16, 8⟩
def SKY_PAT2_E : Fld := ⟨0x100048, 0, 16⟩
def SKY_MEAS_BASE_OFFSET : Fld := ⟨0x100050, 0, 32⟩
def SKY_MEAS_WR_EPOCH_NO : Fld := ⟨0x100054, 16, 16⟩
def SKY_MEAS_WR_SLOT : Fld := ⟨0x100054, 0, 6⟩
def SKY_NAV_BASE_OFFSET : Fld := ⟨0x100058, 0, 32⟩
def SKY_NAV_WR_COUNT : Fld := ⟨0x10005c, 12, 20⟩
def SKY_NAV_WR_SLOT : Fld := ⟨0x10005c, 0, 12⟩
def TIM_CTL_FREE_OUT : Fld := ⟨0x140000, 4, 1⟩
def TIM_CTL_HOLD_ACT : Fld := ⟨0x140000, 3, 1⟩
def TIM_CTL_DISC_EN : Fld := ⟨0x140000, 2, 1⟩
def TIM_CTL_SRC : Fld := ⟨0x140000, 0, 2⟩
def TIM_STAT_STEPS : Fld := ⟨0x140004, 24, 8⟩
def TIM_STAT_LEAP_PENDING : Fld := ⟨0x140004, 11, 1⟩
def TIM_STAT_COARSE : Fld := ⟨0x140004, 10, 1⟩
def TIM_STAT_STEPPED : Fld := ⟨0x140004, 9, 1⟩
def TIM_STAT_QUAL : Fld := ⟨0x140004, 8, 1⟩
def TIM_STAT_SOURCE : Fld := ⟨0x140004, 4, 4⟩
def TIM_STAT_STATE : Fld := ⟨0x140004, 0, 4⟩
def TIM_NOW_LO_NS_LO : Fld := ⟨0x140008, 0, 32⟩
def TIM_NOW_HI_NS_HI : Fld := ⟨0x14000c, 0, 32⟩
def TIM_INC_INT_INT : Fld := ⟨0x140010, 0, 8⟩
def TIM_INC_FRAC_FRAC : Fld := ⟨0x140014, 0, 32⟩
def TIM_OFFSET_THETA : Fld := ⟨0x140018, 0, 32⟩
def TIM_LOOP_TAU : Fld := ⟨0x14001c, 24, 8⟩
def TIM_LOOP_SLEW : Fld := ⟨0x14001c, 12, 12⟩
def TIM_LOOP_STEP_WARN : Fld := ⟨0x14001c, 0, 12⟩
def TIM_LOCK_QUAL : Fld := ⟨0x140020, 24, 8⟩
def TIM_LOCK_LOCK_HOLD : Fld := ⟨0x140020, 16, 8⟩
def TIM_LOCK_LOCK_THR : Fld := ⟨0x140020, 0, 16⟩
def TIM_HOLD_LIMIT : Fld := ⟨0x140024, 0, 20⟩
def TIM_HOLD_AGE_AGE : Fld := ⟨0x140028, 0, 32⟩
def TIM_ANT_DLY_DLY : Fld := ⟨0x14002c, 0, 32⟩
def TIM_UTC_LEAP_PENDING : Fld := ⟨0x140030, 17, 1⟩
def TIM_UTC_VALID : Fld := ⟨0x140030, 16, 1⟩
def TIM_UTC_TAI_UTC : Fld := ⟨0x140030, 0, 16⟩
def TIM_PPS_CTL_PERIOD (i : Nat) : Fld := ⟨0x140040 + 16 * i, 3, 3⟩
def TIM_PPS_CTL_WCODE (i : Nat) : Fld := ⟨0x140040 + 16 * i, 2, 1⟩
def TIM_PPS_CTL_POL (i : Nat) : Fld := ⟨0x140040 + 16 * i, 1, 1⟩
def TIM_PPS_CTL_EN (i : Nat) : Fld := ⟨0x140040 + 16 * i, 0, 1⟩
def TIM_PPS_OFS_OFS (i : Nat) : Fld := ⟨0x140044 + 16 * i, 0, 32⟩
def TIM_PPS_CABLE_CABLE (i : Nat) : Fld := ⟨0x140048 + 16 * i, 0, 32⟩
def TIM_PPS_WIDTH_INV (i : Nat) : Fld := ⟨0x14004c + 16 * i, 20, 10⟩
def TIM_PPS_WIDTH_DEG (i : Nat) : Fld := ⟨0x14004c + 16 * i, 10, 10⟩
def TIM_PPS_WIDTH_OK (i : Nat) : Fld := ⟨0x14004c + 16 * i, 0, 10⟩
def TIM_IN_CTL_EDGE : Fld := ⟨0x140060, 1, 2⟩
def TIM_IN_CTL_EN : Fld := ⟨0x140060, 0, 1⟩
def TIM_IN_DLY_DLY : Fld := ⟨0x140064, 0, 32⟩
def TIM_IN_STAT_OVF : Fld := ⟨0x140068, 16, 16⟩
def TIM_IN_STAT_COUNT : Fld := ⟨0x140068, 0, 5⟩
def TIM_IN_LO_NS_LO : Fld := ⟨0x14006c, 0, 32⟩
def TIM_IN_HI_NS_HI : Fld := ⟨0x140070, 0, 32⟩
def TIM_IN_META_VALID : Fld := ⟨0x140074, 13, 1⟩
def TIM_IN_META_EDGE : Fld := ⟨0x140074, 12, 1⟩
def TIM_IN_META_STATE : Fld := ⟨0x140074, 8, 4⟩
def TIM_IN_META_STEPS : Fld := ⟨0x140074, 0, 8⟩
def RTK_CTL_MAX_AGE : Fld := ⟨0x180000, 24, 8⟩
def RTK_CTL_LOST_N : Fld := ⟨0x180000, 20, 4⟩
def RTK_CTL_CNT_CLR : Fld := ⟨0x180000, 16, 1⟩
def RTK_CTL_IF_EN : Fld := ⟨0x180000, 2, 1⟩
def RTK_CTL_AR_EN : Fld := ⟨0x180000, 1, 1⟩
def RTK_CTL_EN : Fld := ⟨0x180000, 0, 1⟩
def RTK_STAT_FIX : Fld := ⟨0x180004, 24, 8⟩
def RTK_STAT_FLOAT : Fld := ⟨0x180004, 16, 8⟩
def RTK_STAT_ACTIVE : Fld := ⟨0x180004, 8, 8⟩
def RTK_STAT_SHED_PARK : Fld := ⟨0x180004, 6, 2⟩
def RTK_STAT_IF_ANY : Fld := ⟨0x180004, 4, 1⟩
def RTK_STAT_NO_ORIGIN : Fld := ⟨0x180004, 3, 1⟩
def RTK_STAT_NO_BASE : Fld := ⟨0x180004, 2, 1⟩
def RTK_AR_RATIO_THR : Fld := ⟨0x180008, 24, 8⟩
def RTK_AR_AR_MIN : Fld := ⟨0x180008, 16, 8⟩
def RTK_AR_VALID_N : Fld := ⟨0x180008, 12, 4⟩
def RTK_AR_PF_STEPS : Fld := ⟨0x180008, 8, 4⟩
def RTK_AR_SEARCH_MAX : Fld := ⟨0x180008, 0, 8⟩
def RTK_QC_OUTLIER : Fld := ⟨0x18000c, 24, 8⟩
def RTK_QC_RES_THR : Fld := ⟨0x18000c, 16, 8⟩
def RTK_QC_GF_SLIP : Fld := ⟨0x18000c, 8, 8⟩
def RTK_QC_ELEV_MASK : Fld := ⟨0x18000c, 0, 8⟩
def RTK_PL_K_H : Fld := ⟨0x180010, 24, 8⟩
def RTK_PL_K_V : Fld := ⟨0x180010, 16, 8⟩
def RTK_PL_B_FIX : Fld := ⟨0x180010, 8, 8⟩
def RTK_PL_B_FLOAT : Fld := ⟨0x180010, 0, 8⟩
def RTK_AL_VAL : Fld := ⟨0x180014, 16, 16⟩
def RTK_AL_HAL : Fld := ⟨0x180014, 0, 16⟩
def RTK_IF_IF_ON : Fld := ⟨0x180018, 8, 8⟩
def RTK_IF_IF_OFF : Fld := ⟨0x180018, 0, 8⟩
def RTK_CYCLE_MAX_US : Fld := ⟨0x18001c, 16, 16⟩
def RTK_CYCLE_LAST_US : Fld := ⟨0x18001c, 0, 16⟩
def RTK_CUTS_CUTS : Fld := ⟨0x180020, 16, 16⟩
def RTK_CUTS_SKIPPED_AR : Fld := ⟨0x180020, 0, 16⟩
def RTK_INTAKE_FORMAT : Fld := ⟨0x180024, 24, 8⟩
def RTK_INTAKE_NO_REF : Fld := ⟨0x180024, 16, 8⟩
def RTK_INTAKE_STALE : Fld := ⟨0x180024, 8, 8⟩
def RTK_INTAKE_REPEAT : Fld := ⟨0x180024, 0, 8⟩
def RTK_LOAD_SHED_MOVE : Fld := ⟨0x180028, 24, 8⟩
def RTK_LOAD_GRANTED : Fld := ⟨0x180028, 12, 12⟩
def RTK_LOAD_DUE : Fld := ⟨0x180028, 0, 12⟩
def RTK_PWR_UJ_FIX : Fld := ⟨0x18002c, 16, 16⟩
def RTK_PWR_MOVE_FLOOR : Fld := ⟨0x18002c, 4, 4⟩
def RTK_PWR_PARK_FLOOR : Fld := ⟨0x18002c, 0, 4⟩
def SNP_CTL_ASM_TO : Fld := ⟨0x1c0000, 20, 8⟩
def SNP_CTL_GAP : Fld := ⟨0x1c0000, 16, 4⟩
def SNP_CTL_FSPAN : Fld := ⟨0x1c0000, 8, 8⟩
def SNP_CTL_CNT_CLR : Fld := ⟨0x1c0000, 3, 1⟩
def SNP_CTL_FLUSH : Fld := ⟨0x1c0000, 2, 1⟩
def SNP_CTL_L5_USE : Fld := ⟨0x1c0000, 1, 1⟩
def SNP_CTL_EN : Fld := ⟨0x1c0000, 0, 1⟩
def SNP_LIM_MIN_SAT : Fld := ⟨0x1c0004, 24, 4⟩
def SNP_LIM_RES_MAX : Fld := ⟨0x1c0004, 16, 8⟩
def SNP_LIM_SOLVE_MAX : Fld := ⟨0x1c0004, 0, 16⟩
def SNP_STAT_SLOT : Fld := ⟨0x1c0008, 24, 7⟩
def SNP_STAT_BUSY : Fld := ⟨0x1c0008, 16, 1⟩
def SNP_STAT_READY : Fld := ⟨0x1c0008, 8, 6⟩
def SNP_STAT_USED : Fld := ⟨0x1c0008, 0, 6⟩
def SNP_CNT_SOLVED : Fld := ⟨0x1c000c, 16, 16⟩
def SNP_CNT_FAILED : Fld := ⟨0x1c000c, 0, 16⟩
def SNP_DROP_CHUNK_BAD : Fld := ⟨0x1c0010, 24, 8⟩
def SNP_DROP_SUPERSEDED : Fld := ⟨0x1c0010, 16, 8⟩
def SNP_DROP_QFULL : Fld := ⟨0x1c0010, 8, 8⟩
def SNP_DROP_ABANDONED : Fld := ⟨0x1c0010, 0, 8⟩
def SNP_TIME_MAX_MS : Fld := ⟨0x1c0014, 16, 16⟩
def SNP_TIME_LAST_MS : Fld := ⟨0x1c0014, 0, 16⟩
def SBX_CTL_AVOID : Fld := ⟨0x200000, 24, 8⟩
def SBX_CTL_CNT_CLR : Fld := ⟨0x200000, 3, 1⟩
def SBX_CTL_FLOAT_OK : Fld := ⟨0x200000, 2, 1⟩
def SBX_CTL_PREVIEW_EN : Fld := ⟨0x200000, 1, 1⟩
def SBX_CTL_EN : Fld := ⟨0x200000, 0, 1⟩
def SBX_STAT_WAITING : Fld := ⟨0x200004, 24, 8⟩
def SBX_STAT_LIVE : Fld := ⟨0x200004, 16, 8⟩
def SBX_STAT_TENT : Fld := ⟨0x200004, 8, 8⟩
def SBX_STAT_NO_MAP : Fld := ⟨0x200004, 2, 1⟩
def SBX_STAT_STAGED : Fld := ⟨0x200004, 1, 1⟩
def SBX_STAT_STOPPED : Fld := ⟨0x200004, 0, 1⟩
def SBX_EXP_AUTH_MS : Fld := ⟨0x200008, 16, 16⟩
def SBX_EXP_TENT_MS : Fld := ⟨0x200008, 0, 16⟩
def SBX_MARGIN_FOOT : Fld := ⟨0x20000c, 24, 8⟩
def SBX_MARGIN_MAX_BLK : Fld := ⟨0x20000c, 16, 8⟩
def SBX_MARGIN_WD_SF : Fld := ⟨0x20000c, 8, 8⟩
def SBX_MAP_ID_MAP_ID : Fld := ⟨0x200010, 0, 32⟩
def SBX_MAP_STG_MAP_ID : Fld := ⟨0x200014, 0, 32⟩
def SBX_MAP_ERR_CODE : Fld := ⟨0x200018, 24, 8⟩
def SBX_MAP_ERR_KIND : Fld := ⟨0x200018, 16, 8⟩
def SBX_MAP_ERR_INDEX : Fld := ⟨0x200018, 0, 16⟩
def SBX_CNT0_GRANTS : Fld := ⟨0x20001c, 16, 16⟩
def SBX_CNT0_REFUSED : Fld := ⟨0x20001c, 0, 16⟩
def SBX_CNT1_CYCLES : Fld := ⟨0x200020, 24, 8⟩
def SBX_CNT1_WITHDRAWS : Fld := ⟨0x200020, 16, 8⟩
def SBX_CNT1_WD_TIMEOUT : Fld := ⟨0x200020, 8, 8⟩
def SBX_CNT1_AVOID_REF : Fld := ⟨0x200020, 0, 8⟩
def SBX_LOAD_MAX_US : Fld := ⟨0x200024, 16, 16⟩
def SBX_LOAD_REQ_S : Fld := ⟨0x200024, 0, 16⟩
def ALT_CTL_ROUND_SF : Fld := ⟨0x240000, 24, 8⟩
def ALT_CTL_RUNAHEAD : Fld := ⟨0x240000, 16, 8⟩
def ALT_CTL_V_NOM : Fld := ⟨0x240000, 8, 8⟩
def ALT_CTL_CNT_CLR : Fld := ⟨0x240000, 3, 1⟩
def ALT_CTL_GEN_CHG : Fld := ⟨0x240000, 2, 1⟩
def ALT_CTL_RA_EN : Fld := ⟨0x240000, 1, 1⟩
def ALT_CTL_EN : Fld := ⟨0x240000, 0, 1⟩
def ALT_STAT_FREE : Fld := ⟨0x240004, 24, 8⟩
def ALT_STAT_ASSIGNED : Fld := ⟨0x240004, 16, 8⟩
def ALT_STAT_PENDING : Fld := ⟨0x240004, 4, 12⟩
def ALT_STAT_CHG_BLOCKED : Fld := ⟨0x240004, 3, 1⟩
def ALT_STAT_NO_LMK : Fld := ⟨0x240004, 2, 1⟩
def ALT_STAT_BUSY : Fld := ⟨0x240004, 1, 1⟩
def ALT_W0_W_LATE : Fld := ⟨0x240008, 16, 16⟩
def ALT_W0_W_DIST : Fld := ⟨0x240008, 0, 16⟩
def ALT_W1_W_PRIO : Fld := ⟨0x24000c, 16, 16⟩
def ALT_W1_W_SOC : Fld := ⟨0x24000c, 0, 16⟩
def ALT_W2_COST_MAX : Fld := ⟨0x240010, 0, 32⟩
def ALT_CHG_SOC_LOW : Fld := ⟨0x240014, 24, 8⟩
def ALT_CHG_SOC_MIN : Fld := ⟨0x240014, 16, 8⟩
def ALT_CHG_SOC_FULL : Fld := ⟨0x240014, 8, 8⟩
def ALT_CHG_INST : Fld := ⟨0x240014, 0, 8⟩
def ALT_CHG2_MARGIN : Fld := ⟨0x240018, 16, 16⟩
def ALT_CHG2_AVG_S : Fld := ⟨0x240018, 8, 8⟩
def ALT_ROUND_ROUND_MAX : Fld := ⟨0x24001c, 16, 16⟩
def ALT_ROUND_LAST_MS : Fld := ⟨0x24001c, 0, 16⟩
def ALT_CNT_LATE : Fld := ⟨0x240020, 24, 8⟩
def ALT_CNT_CHG_REFUSED : Fld := ⟨0x240020, 16, 8⟩
def ALT_CNT_CHG_SHED : Fld := ⟨0x240020, 8, 8⟩
def ALT_CNT_ROUTE_FAIL : Fld := ⟨0x240020, 0, 8⟩
def ALT_ROVER_CHG_KW (i : Nat) : Fld := ⟨0x240100 + 4 * i, 24, 8⟩
def ALT_ROVER_CONS (i : Nat) : Fld := ⟨0x240100 + 4 * i, 16, 8⟩
def ALT_ROVER_CAP (i : Nat) : Fld := ⟨0x240100 + 4 * i, 0, 16⟩
def ALT_BAY_EN (i : Nat) : Fld := ⟨0x240300 + 4 * i, 31, 1⟩
def ALT_BAY_KW (i : Nat) : Fld := ⟨0x240300 + 4 * i, 16, 8⟩
def ALT_BAY_PHASE (i : Nat) : Fld := ⟨0x240300 + 4 * i, 14, 2⟩
def ALT_BAY_BLOCK (i : Nat) : Fld := ⟨0x240300 + 4 * i, 0, 14⟩
def TTB_CTL_PW_MS : Fld := ⟨0x280000, 24, 8⟩
def TTB_CTL_TRACK_TOL : Fld := ⟨0x280000, 16, 8⟩
def TTB_CTL_STOP_MS : Fld := ⟨0x280000, 8, 8⟩
def TTB_CTL_CNT_CLR : Fld := ⟨0x280000, 1, 1⟩
def TTB_CTL_EN : Fld := ⟨0x280000, 0, 1⟩
def TTB_STAT_PROFILED : Fld := ⟨0x280004, 24, 8⟩
def TTB_STAT_NOCAM : Fld := ⟨0x280004, 16, 8⟩
def TTB_STAT_INVALID : Fld := ⟨0x280004, 8, 8⟩
def TTB_STAT_LIMIT : Fld := ⟨0x280004, 3, 1⟩
def TTB_STAT_STAGED : Fld := ⟨0x280004, 2, 1⟩
def TTB_STAT_DEFAULT_CAM : Fld := ⟨0x280004, 1, 1⟩
def TTB_CAM_ACTIVE : Fld := ⟨0x280008, 16, 16⟩
def TTB_CAM_STAGED : Fld := ⟨0x280008, 0, 16⟩
def TTB_CAM_INFO_VTOP : Fld := ⟨0x28000c, 16, 16⟩
def TTB_CAM_INFO_NSTEP : Fld := ⟨0x28000c, 0, 9⟩
def TTB_CAM_ERR_CODE : Fld := ⟨0x280010, 24, 8⟩
def TTB_CAM_ERR_STEP : Fld := ⟨0x280010, 16, 8⟩
def TTB_CAM_ERR_PHASE : Fld := ⟨0x280010, 8, 8⟩
def TTB_CNT_LATE : Fld := ⟨0x280014, 24, 8⟩
def TTB_CNT_OVERRUN : Fld := ⟨0x280014, 16, 8⟩
def TTB_CNT_RESYNC : Fld := ⟨0x280014, 8, 8⟩
def TTB_CNT_NOCAM : Fld := ⟨0x280014, 0, 8⟩
def TTB_LOAD_MAX_US : Fld := ⟨0x280018, 16, 16⟩
def TTB_LOAD_LAST_US : Fld := ⟨0x280018, 0, 16⟩
def STP_CTL_DISC_CLR : Fld := ⟨0x2c0000, 10, 1⟩
def STP_CTL_CHAIN_OBEY : Fld := ⟨0x2c0000, 9, 1⟩
def STP_CTL_CHAIN_SEND : Fld := ⟨0x2c0000, 8, 1⟩
def STP_CTL_FILT : Fld := ⟨0x2c0000, 0, 8⟩
def STP_STAT_ROVERS : Fld := ⟨0x2c0004, 8, 8⟩
def STP_STAT_OUT_B : Fld := ⟨0x2c0004, 6, 1⟩
def STP_STAT_OUT_A : Fld := ⟨0x2c0004, 5, 1⟩
def STP_STAT_IN_B : Fld := ⟨0x2c0004, 4, 1⟩
def STP_STAT_IN_A : Fld := ⟨0x2c0004, 3, 1⟩
def STP_STAT_RELEASE_PEND : Fld := ⟨0x2c0004, 1, 1⟩
def STP_STAT_STOPPED : Fld := ⟨0x2c0004, 0, 1⟩
def STP_SRC_SRC : Fld := ⟨0x2c0008, 0, 12⟩
def STP_LATCH_SEEN : Fld := ⟨0x2c000c, 0, 12⟩
def STP_CNT_STOP_CNT : Fld := ⟨0x2c0010, 0, 32⟩
def STP_ROVER_STOPPED (i : Nat) : Fld := ⟨0x2c0020 + 4 * i, 0, 32⟩
def RAD_CTL_BEXP_MAX : Fld := ⟨0x300000, 20, 4⟩
def RAD_CTL_BULK_MAX : Fld := ⟨0x300000, 16, 4⟩
def RAD_CTL_NET : Fld := ⟨0x300000, 8, 8⟩
def RAD_CTL_BULK_SPAN : Fld := ⟨0x300000, 4, 4⟩
def RAD_CTL_CNT_CLR : Fld := ⟨0x300000, 2, 1⟩
def RAD_CTL_JOIN_EN : Fld := ⟨0x300000, 1, 1⟩
def RAD_CTL_EN : Fld := ⟨0x300000, 0, 1⟩
def RAD_STAT_BOUND : Fld := ⟨0x300004, 24, 8⟩
def RAD_STAT_JOINED : Fld := ⟨0x300004, 16, 8⟩
def RAD_STAT_LOST : Fld := ⟨0x300004, 8, 8⟩
def RAD_STAT_FAULT : Fld := ⟨0x300004, 4, 4⟩
def RAD_STAT_UP : Fld := ⟨0x300004, 0, 4⟩
def RAD_SF_TABLE_VER : Fld := ⟨0x300008, 16, 16⟩
def RAD_SF_NSLOT : Fld := ⟨0x300008, 0, 10⟩
def RAD_SF_PEND_EFF_SFN : Fld := ⟨0x30000c, 16, 16⟩
def RAD_SF_PEND_PENDING : Fld := ⟨0x30000c, 10, 1⟩
def RAD_SF_PEND_NSLOT : Fld := ⟨0x30000c, 0, 10⟩
def RAD_GUARD_G0_MIN : Fld := ⟨0x300010, 24, 8⟩
def RAD_GUARD_MISS_DBL : Fld := ⟨0x300010, 20, 4⟩
def RAD_GUARD_MISS_LOST : Fld := ⟨0x300010, 16, 4⟩
def RAD_GUARD_DRIFT_INIT : Fld := ⟨0x300010, 8, 8⟩
def RAD_GUARD_DRIFT_MAX : Fld := ⟨0x300010, 0, 8⟩
def RAD_KEY_TX_KEY : Fld := ⟨0x300014, 31, 1⟩
def RAD_KEY_STOP_SLOT : Fld := ⟨0x300014, 16, 8⟩
def RAD_KEY_SLOT1 : Fld := ⟨0x300014, 8, 8⟩
def RAD_KEY_SLOT0 : Fld := ⟨0x300014, 0, 8⟩
def RAD_JOIN_CNT_ACCEPTED : Fld := ⟨0x300018, 16, 16⟩
def RAD_JOIN_CNT_REFUSED : Fld := ⟨0x300018, 0, 16⟩
def RAD_P_CFG_PROFILE (i : Nat) : Fld := ⟨0x300040 + 32 * i, 24, 8⟩
def RAD_P_CFG_CHANNEL (i : Nat) : Fld := ⟨0x300040 + 32 * i, 16, 8⟩
def RAD_P_CFG_TXPWR (i : Nat) : Fld := ⟨0x300040 + 32 * i, 8, 8⟩
def RAD_P_CFG_RATE (i : Nat) : Fld := ⟨0x300040 + 32 * i, 2, 3⟩
def RAD_P_CFG_EN (i : Nat) : Fld := ⟨0x300040 + 32 * i, 0, 1⟩
def RAD_P_STAT_ROVERS (i : Nat) : Fld := ⟨0x300044 + 32 * i, 24, 8⟩
def RAD_P_STAT_RELAYS (i : Nat) : Fld := ⟨0x300044 + 32 * i, 16, 8⟩
def RAD_P_STAT_ARM_OK (i : Nat) : Fld := ⟨0x300044 + 32 * i, 4, 1⟩
def RAD_P_STAT_FAULT (i : Nat) : Fld := ⟨0x300044 + 32 * i, 3, 1⟩
def RAD_P_STAT_SLEEP (i : Nat) : Fld := ⟨0x300044 + 32 * i, 2, 1⟩
def RAD_P_STAT_STOPPING (i : Nat) : Fld := ⟨0x300044 + 32 * i, 1, 1⟩
def RAD_P_STAT_UP (i : Nat) : Fld := ⟨0x300044 + 32 * i, 0, 1⟩
def RAD_P_CNT0_TAG_FAIL (i : Nat) : Fld := ⟨0x300048 + 32 * i, 24, 8⟩
def RAD_P_CNT0_DUP (i : Nat) : Fld := ⟨0x300048 + 32 * i, 16, 8⟩
def RAD_P_CNT0_MISTIMED (i : Nat) : Fld := ⟨0x300048 + 32 * i, 8, 8⟩
def RAD_P_CNT0_RX_ERR (i : Nat) : Fld := ⟨0x300048 + 32 * i, 0, 8⟩
def RAD_P_CNT1_RX_OK (i : Nat) : Fld := ⟨0x30004c + 32 * i, 16, 16⟩
def RAD_P_CNT1_TX_OK (i : Nat) : Fld := ⟨0x30004c + 32 * i, 0, 16⟩
def RAD_P_ARM_STOP_CNT (i : Nat) : Fld := ⟨0x300050 + 32 * i, 0, 32⟩
def ETH_CTL_PAUSE_MAX : Fld := ⟨0x340000, 16, 10⟩
def ETH_CTL_CNT_CLR : Fld := ⟨0x340000, 1, 1⟩
def ETH_CTL_CHAIN_EN : Fld := ⟨0x340000, 0, 1⟩
def ETH_STAT_LEARNED : Fld := ⟨0x340004, 12, 11⟩
def ETH_STAT_CHAIN_N : Fld := ⟨0x340004, 8, 4⟩
def ETH_STAT_DUP_NET : Fld := ⟨0x340004, 2, 1⟩
def ETH_STAT_P1_LINK : Fld := ⟨0x340004, 1, 1⟩
def ETH_STAT_P0_LINK : Fld := ⟨0x340004, 0, 1⟩
def ETH_MAC_LO_MAC_LO : Fld := ⟨0x340008, 0, 32⟩
def ETH_MAC_HI_MAC_HI : Fld := ⟨0x34000c, 0, 16⟩
def ETH_IP_ADDR_ADDR : Fld := ⟨0x340010, 0, 32⟩
def ETH_IP_NET_PREFIX : Fld := ⟨0x340014, 0, 6⟩
def ETH_IP_GW_GW : Fld := ⟨0x340018, 0, 32⟩
def ETH_MDIO_GO : Fld := ⟨0x34001c, 31, 1⟩
def ETH_MDIO_READ : Fld := ⟨0x34001c, 30, 1⟩
def ETH_MDIO_PHYAD : Fld := ⟨0x34001c, 21, 5⟩
def ETH_MDIO_REGAD : Fld := ⟨0x34001c, 16, 5⟩
def ETH_MDIO_DATA : Fld := ⟨0x34001c, 0, 16⟩
def ETH_PTP_CTL_PRIO1 : Fld := ⟨0x340030, 24, 8⟩
def ETH_PTP_CTL_PRIO2 : Fld := ⟨0x340030, 16, 8⟩
def ETH_PTP_CTL_DOMAIN : Fld := ⟨0x340030, 8, 8⟩
def ETH_PTP_CTL_TRANSPORT : Fld := ⟨0x340030, 5, 1⟩
def ETH_PTP_CTL_TC_EN : Fld := ⟨0x340030, 4, 1⟩
def ETH_PTP_CTL_TC_MODE : Fld := ⟨0x340030, 3, 1⟩
def ETH_PTP_CTL_ROLE : Fld := ⟨0x340030, 0, 2⟩
def ETH_PTP_INT_LOG_SYNC : Fld := ⟨0x340034, 24, 8⟩
def ETH_PTP_INT_LOG_ANN : Fld := ⟨0x340034, 16, 8⟩
def ETH_PTP_INT_LOG_DREQ : Fld := ⟨0x340034, 8, 8⟩
def ETH_PTP_INT_ANN_TO : Fld := ⟨0x340034, 0, 8⟩
def ETH_PTP_STAT_CLASS : Fld := ⟨0x340038, 8, 8⟩
def ETH_PTP_STAT_PORT_STATE : Fld := ⟨0x340038, 4, 4⟩
def ETH_PTP_STAT_SLAVE_PORT : Fld := ⟨0x340038, 0, 2⟩
def ETH_PTP_DELAY_DELAY : Fld := ⟨0x34003c, 0, 32⟩
def ETH_WAKE_CTL_PAT_EN : Fld := ⟨0x340040, 8, 8⟩
def ETH_WAKE_CTL_CHAIN_STOP : Fld := ⟨0x340040, 2, 1⟩
def ETH_WAKE_CTL_MAGIC : Fld := ⟨0x340040, 1, 1⟩
def ETH_WAKE_CTL_PORT : Fld := ⟨0x340040, 0, 1⟩
def ETH_WAKE_STAT_PAT_NO : Fld := ⟨0x340044, 4, 3⟩
def ETH_WAKE_STAT_CAUSE : Fld := ⟨0x340044, 0, 2⟩
def ETH_P_CFG_SPEED (i : Nat) : Fld := ⟨0x340080 + 64 * i, 5, 2⟩
def ETH_P_CFG_PAUSE_TX (i : Nat) : Fld := ⟨0x340080 + 64 * i, 4, 1⟩
def ETH_P_CFG_PAUSE_RX (i : Nat) : Fld := ⟨0x340080 + 64 * i, 3, 1⟩
def ETH_P_CFG_PREEMPT (i : Nat) : Fld := ⟨0x340080 + 64 * i, 2, 1⟩
def ETH_P_CFG_EN (i : Nat) : Fld := ⟨0x340080 + 64 * i, 0, 1⟩
def ETH_P_STAT_NBR_NET (i : Nat) : Fld := ⟨0x340084 + 64 * i, 8, 8⟩
def ETH_P_STAT_NBR_OK (i : Nat) : Fld := ⟨0x340084 + 64 * i, 7, 1⟩
def ETH_P_STAT_PAUSE_IGN (i : Nat) : Fld := ⟨0x340084 + 64 * i, 6, 1⟩
def ETH_P_STAT_VERIFY (i : Nat) : Fld := ⟨0x340084 + 64 * i, 4, 2⟩
def ETH_P_STAT_EQ_LOCK (i : Nat) : Fld := ⟨0x340084 + 64 * i, 3, 1⟩
def ETH_P_STAT_SPEED_1G (i : Nat) : Fld := ⟨0x340084 + 64 * i, 2, 1⟩
def ETH_P_STAT_LINK (i : Nat) : Fld := ⟨0x340084 + 64 * i, 0, 1⟩
def ETH_P_ING_ING (i : Nat) : Fld := ⟨0x340088 + 64 * i, 0, 32⟩
def ETH_P_EG_EG (i : Nat) : Fld := ⟨0x34008c + 64 * i, 0, 32⟩
def ETH_P_LDELAY_LDELAY (i : Nat) : Fld := ⟨0x340090 + 64 * i, 0, 32⟩
def ETH_P_CNT0_RX_ERR (i : Nat) : Fld := ⟨0x340094 + 64 * i, 24, 8⟩
def ETH_P_CNT0_DROP (i : Nat) : Fld := ⟨0x340094 + 64 * i, 16, 8⟩
def ETH_P_CNT0_PAUSE_WD (i : Nat) : Fld := ⟨0x340094 + 64 * i, 8, 8⟩
def ETH_P_CNT0_TC_NOCORR (i : Nat) : Fld := ⟨0x340094 + 64 * i, 0, 8⟩
def ETH_P_CNT1_RX_OK (i : Nat) : Fld := ⟨0x340098 + 64 * i, 16, 16⟩
def ETH_P_CNT1_TX_OK (i : Nat) : Fld := ⟨0x340098 + 64 * i, 0, 16⟩
def ETH_P_PAUSE_SUM (i : Nat) : Fld := ⟨0x34009c + 64 * i, 0, 10⟩
def ETH_WAKE_PAT_DATA (p w : Nat) : Fld := ⟨0x340400 + 0x100 * p + 4 * w, 0, 32⟩
def ETH_WAKE_MSK_MASK (p w : Nat) : Fld := ⟨0x340480 + 0x100 * p + 4 * w, 0, 32⟩
def MTR_CTL_DEM_MIN : Fld := ⟨0x380000, 26, 6⟩
def MTR_CTL_CLK_SEL : Fld := ⟨0x380000, 9, 3⟩
def MTR_CTL_F_NOM : Fld := ⟨0x380000, 8, 1⟩
def MTR_CTL_WIRE1 : Fld := ⟨0x380000, 5, 1⟩
def MTR_CTL_WIRE0 : Fld := ⟨0x380000, 4, 1⟩
def MTR_CTL_DEM_CLR : Fld := ⟨0x380000, 3, 1⟩
def MTR_CTL_CNT_CLR : Fld := ⟨0x380000, 2, 1⟩
def MTR_CTL_EN1 : Fld := ⟨0x380000, 1, 1⟩
def MTR_CTL_EN0 : Fld := ⟨0x380000, 0, 1⟩
def MTR_STAT_SEALED : Fld := ⟨0x380004, 31, 1⟩
def MTR_STAT_CAL_BAD : Fld := ⟨0x380004, 30, 1⟩
def MTR_STAT_GAP : Fld := ⟨0x380004, 29, 1⟩
def MTR_STAT_NO_UTC : Fld := ⟨0x380004, 28, 1⟩
def MTR_STAT_LEFT : Fld := ⟨0x380004, 16, 5⟩
def MTR_STAT_P1 : Fld := ⟨0x380004, 8, 8⟩
def MTR_STAT_P0 : Fld := ⟨0x380004, 0, 8⟩
def MTR_NOM0_V_NOM : Fld := ⟨0x380008, 16, 16⟩
def MTR_NOM0_I_NOM : Fld := ⟨0x380008, 0, 16⟩
def MTR_NOM1_V_NOM : Fld := ⟨0x38000c, 16, 16⟩
def MTR_NOM1_I_NOM : Fld := ⟨0x38000c, 0, 16⟩
def MTR_FLT_V_LOSS : Fld := ⟨0x380010, 24, 8⟩
def MTR_FLT_V_OK : Fld := ⟨0x380010, 16, 8⟩
def MTR_FLT_V0_THR : Fld := ⟨0x380010, 8, 8⟩
def MTR_FLT_REV_S : Fld := ⟨0x380010, 0, 8⟩
def MTR_REV_REV_THR1 : Fld := ⟨0x380014, 16, 16⟩
def MTR_REV_REV_THR0 : Fld := ⟨0x380014, 0, 16⟩
def MTR_SEAL_CRC : Fld := ⟨0x380018, 0, 32⟩
def MTR_CNT_GAPS : Fld := ⟨0x38001c, 24, 8⟩
def MTR_CNT_OUTAGES : Fld := ⟨0x38001c, 16, 8⟩
def MTR_CNT_PULSE_LOST : Fld := ⟨0x38001c, 8, 8⟩
def MTR_CNT_CHAN_FAULT : Fld := ⟨0x38001c, 0, 8⟩
def MTR_PLS_EN (i : Nat) : Fld := ⟨0x380020 + 4 * i, 31, 1⟩
def MTR_PLS_POL (i : Nat) : Fld := ⟨0x380020 + 4 * i, 30, 1⟩
def MTR_PLS_POINT (i : Nat) : Fld := ⟨0x380020 + 4 * i, 11, 1⟩
def MTR_PLS_QTY (i : Nat) : Fld := ⟨0x380020 + 4 * i, 9, 2⟩
def MTR_PLS_DIR (i : Nat) : Fld := ⟨0x380020 + 4 * i, 8, 1⟩
def MTR_PLS_WIDTH (i : Nat) : Fld := ⟨0x380020 + 4 * i, 0, 8⟩
def MTR_PK_K (i : Nat) : Fld := ⟨0x380030 + 4 * i, 0, 20⟩
def MTR_CALG_FS (i : Nat) : Fld := ⟨0x380080 + 8 * i, 0, 32⟩
def MTR_CALP_DELAY (i : Nat) : Fld := ⟨0x380084 + 8 * i, 0, 16⟩
def LAN_CTL_ECC_THR : Fld := ⟨0x3c0000, 24, 8⟩
def LAN_CTL_MIS_WIN : Fld := ⟨0x3c0000, 16, 8⟩
def LAN_CTL_CNT_CLR : Fld := ⟨0x3c0000, 4, 1⟩
def LAN_CTL_RESTORE_B : Fld := ⟨0x3c0000, 3, 1⟩
def LAN_CTL_RESTORE_A : Fld := ⟨0x3c0000, 2, 1⟩
def LAN_CTL_RETIRE_EN : Fld := ⟨0x3c0000, 1, 1⟩
def LAN_CTL_AUTO_REJOIN : Fld := ⟨0x3c0000, 0, 1⟩
def LAN_STAT_MIS_LVL : Fld := ⟨0x3c0004, 16, 2⟩
def LAN_STAT_STATE_B : Fld := ⟨0x3c0004, 12, 4⟩
def LAN_STAT_STATE_A : Fld := ⟨0x3c0004, 8, 4⟩
def LAN_STAT_SWITCHING : Fld := ⟨0x3c0004, 2, 1⟩
def LAN_STAT_MISMATCH : Fld := ⟨0x3c0004, 1, 1⟩
def LAN_STAT_ACTIVE : Fld := ⟨0x3c0004, 0, 1⟩
def LAN_DIAG_A_ENGINE : Fld := ⟨0x3c0008, 24, 8⟩
def LAN_DIAG_A_CAUSE : Fld := ⟨0x3c0008, 0, 11⟩
def LAN_DIAG_B_ENGINE : Fld := ⟨0x3c000c, 24, 8⟩
def LAN_DIAG_B_CAUSE : Fld := ⟨0x3c000c, 0, 11⟩
def LAN_DIG_SFN : Fld := ⟨0x3c0010, 16, 16⟩
def LAN_DIG_AGREE_RUN : Fld := ⟨0x3c0010, 8, 8⟩
def LAN_DIG_LO_D_LO : Fld := ⟨0x3c0014, 0, 32⟩
def LAN_DIG_HI_D_HI : Fld := ⟨0x3c0018, 0, 32⟩
def LAN_CNT_SWITCHES : Fld := ⟨0x3c001c, 24, 8⟩
def LAN_CNT_MISMATCHES : Fld := ⟨0x3c001c, 16, 8⟩
def LAN_CNT_REJOINS : Fld := ⟨0x3c001c, 8, 8⟩
def LAN_CNT_DIAG_FAILS : Fld := ⟨0x3c001c, 0, 8⟩
def LAN_TIME_REJOIN_MS : Fld := ⟨0x3c0020, 16, 16⟩
def LAN_TIME_SWITCH_US : Fld := ⟨0x3c0020, 0, 16⟩
def LAN_ECC_CORR_B : Fld := ⟨0x3c0024, 16, 16⟩
def LAN_ECC_CORR_A : Fld := ⟨0x3c0024, 0, 16⟩
def SEC_CTL_SIGN_SLOT : Fld := ⟨0x400000, 24, 8⟩
def SEC_CTL_CNT_CLR : Fld := ⟨0x400000, 0, 1⟩
def SEC_STAT_SLOTS_USED : Fld := ⟨0x400004, 24, 8⟩
def SEC_STAT_TAMPER_LIVE : Fld := ⟨0x400004, 3, 1⟩
def SEC_STAT_BOUND : Fld := ⟨0x400004, 2, 1⟩
def SEC_STAT_RS_STATE : Fld := ⟨0x400004, 0, 2⟩
def SEC_TAMPER_LIVE : Fld := ⟨0x400008, 16, 6⟩
def SEC_TAMPER_CAUSE : Fld := ⟨0x400008, 0, 6⟩
def SEC_TEMP_TEMP : Fld := ⟨0x40000c, 0, 16⟩
def SEC_UNIT_LO_UNIT_LO : Fld := ⟨0x400010, 0, 32⟩
def SEC_UNIT_HI_UNIT_HI : Fld := ⟨0x400014, 0, 32⟩
def SEC_SITE_LEFT : Fld := ⟨0x400018, 16, 3⟩
def SEC_SITE_SITE_ID : Fld := ⟨0x400018, 0, 16⟩
def SEC_BIND_OWNER_ID : Fld := ⟨0x40001c, 0, 32⟩
def SEC_RSID_RS_ID : Fld := ⟨0x400020, 0, 32⟩
def SEC_CNT_UNWRAP_FAIL : Fld := ⟨0x400024, 24, 8⟩
def SEC_CNT_SIG_FAIL : Fld := ⟨0x400024, 16, 8⟩
def SEC_CNT_TAMPERS : Fld := ⟨0x400024, 8, 8⟩
def SEC_CNT_LOADS : Fld := ⟨0x400024, 0, 8⟩
def SEC_SLOT_USAGE (i : Nat) : Fld := ⟨0x400100 + 4 * i, 24, 8⟩
def SEC_SLOT_LEVEL (i : Nat) : Fld := ⟨0x400100 + 4 * i, 22, 2⟩
def SEC_SLOT_IN_SESSION (i : Nat) : Fld := ⟨0x400100 + 4 * i, 21, 1⟩
def SEC_SLOT_NAMED (i : Nat) : Fld := ⟨0x400100 + 4 * i, 20, 1⟩
def SEC_SLOT_CHECK (i : Nat) : Fld := ⟨0x400100 + 4 * i, 0, 16⟩
def SEC_EPUB_EPUB (i : Nat) : Fld := ⟨0x400200 + 4 * i, 0, 32⟩
def UPD_CTL_ABORT : Fld := ⟨0x440000, 2, 1⟩
def UPD_CTL_CNT_CLR : Fld := ⟨0x440000, 1, 1⟩
def UPD_CTL_RELAY_EN : Fld := ⟨0x440000, 0, 1⟩
def UPD_STAT_STAGE : Fld := ⟨0x440004, 28, 4⟩
def UPD_STAT_RESULT : Fld := ⟨0x440004, 24, 4⟩
def UPD_STAT_FELL_BACK : Fld := ⟨0x440004, 20, 1⟩
def UPD_STAT_SCHED : Fld := ⟨0x440004, 19, 1⟩
def UPD_STAT_HOLD : Fld := ⟨0x440004, 18, 1⟩
def UPD_STAT_RELAYING : Fld := ⟨0x440004, 17, 1⟩
def UPD_STAT_BANK : Fld := ⟨0x440004, 16, 1⟩
def UPD_STAT_XFER_ID : Fld := ⟨0x440004, 0, 16⟩
def UPD_VINT_ACT_VINTAGE : Fld := ⟨0x440008, 0, 32⟩
def UPD_VINT_STG_VINTAGE : Fld := ⟨0x44000c, 0, 32⟩
def UPD_FLOOR_LEFT : Fld := ⟨0x440010, 8, 7⟩
def UPD_FLOOR_FLOOR : Fld := ⟨0x440010, 0, 7⟩
def UPD_FMT_STAGED : Fld := ⟨0x440014, 16, 16⟩
def UPD_FMT_ACTIVE : Fld := ⟨0x440014, 0, 16⟩
def UPD_PROG_BYTES : Fld := ⟨0x440018, 0, 32⟩
def UPD_TD_LO_TD_LO : Fld := ⟨0x44001c, 0, 32⟩
def UPD_TD_HI_TD_HI : Fld := ⟨0x440020, 0, 32⟩
def UPD_CNT_VERIFY_FAIL : Fld := ⟨0x440024, 24, 8⟩
def UPD_CNT_RELAY_FAIL : Fld := ⟨0x440024, 16, 8⟩
def UPD_CNT_DECANTS : Fld := ⟨0x440024, 8, 8⟩
def UPD_CNT_FALLBACKS : Fld := ⟨0x440024, 0, 8⟩
def CBK_CTL_FREEZE_MAX : Fld := ⟨0x480000, 24, 8⟩
def CBK_CTL_CNT_CLR : Fld := ⟨0x480000, 1, 1⟩
def CBK_STAT_DAMAGED : Fld := ⟨0x480004, 3, 1⟩
def CBK_STAT_PERM_FULL : Fld := ⟨0x480004, 2, 1⟩
def CBK_STAT_WRITING : Fld := ⟨0x480004, 1, 1⟩
def CBK_STAT_FROZEN : Fld := ⟨0x480004, 0, 1⟩
def CBK_NEWEST_SEQ : Fld := ⟨0x480008, 0, 24⟩
def CBK_OLDEST_SEQ : Fld := ⟨0x48000c, 0, 24⟩
def CBK_PERM_PERM_N : Fld := ⟨0x480010, 0, 13⟩
def CBK_BUF_HELD : Fld := ⟨0x480014, 0, 9⟩
def CBK_CNT_DAMAGED : Fld := ⟨0x480018, 24, 8⟩
def CBK_CNT_DROPPED : Fld := ⟨0x480018, 16, 8⟩
def CBK_CNT_CLEARS : Fld := ⟨0x480018, 8, 8⟩
def CBK_CNT_WRITE_FAIL : Fld := ⟨0x480018, 0, 8⟩
def TST_CTL_CLR_ALL : Fld := ⟨0x4c0000, 1, 1⟩
def TST_STAT_REMAIN : Fld := ⟨0x4c0004, 16, 16⟩
def TST_STAT_ACTIVE : Fld := ⟨0x4c0004, 8, 6⟩
def TST_STAT_REFUSED : Fld := ⟨0x4c0004, 4, 1⟩
def TST_STAT_SID : Fld := ⟨0x4c0004, 0, 2⟩
def TST_QDLY_CYCLES (i : Nat) : Fld := ⟨0x4c0010 + 4 * i, 16, 16⟩
def TST_QDLY_EN (i : Nat) : Fld := ⟨0x4c0010 + 4 * i, 6, 1⟩
def TST_QDLY_QUEUE (i : Nat) : Fld := ⟨0x4c0010 + 4 * i, 0, 6⟩
def TST_BP_DUTY : Fld := ⟨0x4c0020, 24, 8⟩
def TST_BP_CONT : Fld := ⟨0x4c0020, 7, 1⟩
def TST_BP_EN : Fld := ⟨0x4c0020, 6, 1⟩
def TST_BP_QUEUE : Fld := ⟨0x4c0020, 0, 6⟩
def TST_JIT_AMP : Fld := ⟨0x4c0024, 24, 8⟩
def TST_JIT_SEED : Fld := ⟨0x4c0024, 8, 16⟩
def TST_JIT_PORTS : Fld := ⟨0x4c0024, 0, 4⟩
def TST_ERR_GO : Fld := ⟨0x4c0028, 31, 1⟩
def TST_ERR_TARGET : Fld := ⟨0x4c0028, 28, 3⟩
def TST_ERR_LANE : Fld := ⟨0x4c0028, 26, 2⟩
def TST_ERR_COUNT : Fld := ⟨0x4c0028, 16, 8⟩
def TST_ERR_QUEUE : Fld := ⟨0x4c0028, 0, 6⟩
def TST_STRETCH_US : Fld := ⟨0x4c002c, 16, 16⟩
def TST_STRETCH_ARB : Fld := ⟨0x4c002c, 0, 2⟩
def TST_CRC_GO : Fld := ⟨0x4c0030, 31, 1⟩
def TST_CRC_COUNT : Fld := ⟨0x4c0030, 16, 8⟩
def TST_CRC_TARGET : Fld := ⟨0x4c0030, 0, 2⟩

end Sys2Proof.Machine.F

/-! The addresses of the registers. -/

namespace Sys2Proof.Machine.R

def SYS_ID : Nat := 0x0
def SYS_TT_SEL : Nat := 0x40
def SYS_TT_POS : Nat := 0x44
def SYS_TT_COUNT : Nat := 0x48
def SYS_SVB_CTL : Nat := 0x80
def SYS_SVB_STAT : Nat := 0x84
def SYS_SVB_ERR : Nat := 0x88
def PWR_CTL : Nat := 0x10000
def PWR_STAT : Nat := 0x10004
def PWR_SUP : Nat := 0x10008
def PWR_SUP2 : Nat := 0x1000c
def PWR_DIP : Nat := 0x10010
def PWR_DIP_T : Nat := 0x10014
def PWR_WAKE : Nat := 0x10018
def PWR_WAKE_SRC : Nat := 0x1001c
def PWR_AVFS_CTL : Nat := 0x10020
def PWR_AVFS_A : Nat := 0x10024
def PWR_AVFS_B : Nat := 0x10028
def EVT_PEND0 : Nat := 0x20000
def EVT_PEND1 : Nat := 0x20004
def EVT_PEND2 : Nat := 0x20008
def EVT_EN0 : Nat := 0x20010
def EVT_EN1 : Nat := 0x20014
def EVT_EN2 : Nat := 0x20018
def EVT_STAT : Nat := 0x20020
def EVT_CNT : Nat := 0x20024
def QUE_CTL : Nat := 0x30000
def QUE_FLUSH : Nat := 0x30004
def QUE_MODE0 : Nat := 0x30008
def QUE_MODE1 : Nat := 0x3000c
def QUE_FORCE0 : Nat := 0x30010
def QUE_FORCE1 : Nat := 0x30014
def QUE_SEL : Nat := 0x30018
def QUE_Q_STAT : Nat := 0x3001c
def QUE_Q_ERR : Nat := 0x30020
def QUE_Q_CNT : Nat := 0x30024
def QUE_STAT : Nat := 0x30028
def SCH_CTL : Nat := 0x40000
def SCH_SESS : Nat := 0x40004
def SCH_STAT : Nat := 0x40008
def SCH_WAIT : Nat := 0x4000c
def SCH_CNT : Nat := 0x40010
def ARB_MAT : Nat := 0x50000
def ARB_MAT_CNT : Nat := 0x50004
def ARB_DRAM : Nat := 0x50008
def ARB_DRAM_CNT : Nat := 0x5000c
def ARB_PWR_CAP : Nat := 0x50010
def ARB_PWR_STAT : Nat := 0x50014
def ARB_PWR_RES : Nat := 0x50018
def ARB_PWR_REQ (i : Nat) : Nat := 0x50040 + 4 * i
def SKY_CTL : Nat := 0x100000
def SKY_STAT : Nat := 0x100004
def SKY_ANT : Nat := 0x100008
def SKY_LOOP : Nat := 0x100010
def SKY_DLL : Nat := 0x100014
def SKY_TAP : Nat := 0x100018
def SKY_ITF : Nat := 0x100020
def SKY_ITF_STAT : Nat := 0x100024
def SKY_CHK_A : Nat := 0x100030
def SKY_CHK_B : Nat := 0x100034
def SKY_CHK_C : Nat := 0x100038
def SKY_PAT0 : Nat := 0x100040
def SKY_PAT1 : Nat := 0x100044
def SKY_PAT2 : Nat := 0x100048
def SKY_MEAS_BASE : Nat := 0x100050
def SKY_MEAS_WR : Nat := 0x100054
def SKY_NAV_BASE : Nat := 0x100058
def SKY_NAV_WR : Nat := 0x10005c
def TIM_CTL : Nat := 0x140000
def TIM_STAT : Nat := 0x140004
def TIM_NOW_LO : Nat := 0x140008
def TIM_NOW_HI : Nat := 0x14000c
def TIM_INC_INT : Nat := 0x140010
def TIM_INC_FRAC : Nat := 0x140014
def TIM_OFFSET : Nat := 0x140018
def TIM_LOOP : Nat := 0x14001c
def TIM_LOCK : Nat := 0x140020
def TIM_HOLD : Nat := 0x140024
def TIM_HOLD_AGE : Nat := 0x140028
def TIM_ANT_DLY : Nat := 0x14002c
def TIM_UTC : Nat := 0x140030
def TIM_PPS_CTL (i : Nat) : Nat := 0x140040 + 16 * i
def TIM_PPS_OFS (i : Nat) : Nat := 0x140044 + 16 * i
def TIM_PPS_CABLE (i : Nat) : Nat := 0x140048 + 16 * i
def TIM_PPS_WIDTH (i : Nat) : Nat := 0x14004c + 16 * i
def TIM_IN_CTL : Nat := 0x140060
def TIM_IN_DLY : Nat := 0x140064
def TIM_IN_STAT : Nat := 0x140068
def TIM_IN_LO : Nat := 0x14006c
def TIM_IN_HI : Nat := 0x140070
def TIM_IN_META : Nat := 0x140074
def RTK_CTL : Nat := 0x180000
def RTK_STAT : Nat := 0x180004
def RTK_AR : Nat := 0x180008
def RTK_QC : Nat := 0x18000c
def RTK_PL : Nat := 0x180010
def RTK_AL : Nat := 0x180014
def RTK_IF : Nat := 0x180018
def RTK_CYCLE : Nat := 0x18001c
def RTK_CUTS : Nat := 0x180020
def RTK_INTAKE : Nat := 0x180024
def RTK_LOAD : Nat := 0x180028
def RTK_PWR : Nat := 0x18002c
def SNP_CTL : Nat := 0x1c0000
def SNP_LIM : Nat := 0x1c0004
def SNP_STAT : Nat := 0x1c0008
def SNP_CNT : Nat := 0x1c000c
def SNP_DROP : Nat := 0x1c0010
def SNP_TIME : Nat := 0x1c0014
def SBX_CTL : Nat := 0x200000
def SBX_STAT : Nat := 0x200004
def SBX_EXP : Nat := 0x200008
def SBX_MARGIN : Nat := 0x20000c
def SBX_MAP_ID : Nat := 0x200010
def SBX_MAP_STG : Nat := 0x200014
def SBX_MAP_ERR : Nat := 0x200018
def SBX_CNT0 : Nat := 0x20001c
def SBX_CNT1 : Nat := 0x200020
def SBX_LOAD : Nat := 0x200024
def ALT_CTL : Nat := 0x240000
def ALT_STAT : Nat := 0x240004
def ALT_W0 : Nat := 0x240008
def ALT_W1 : Nat := 0x24000c
def ALT_W2 : Nat := 0x240010
def ALT_CHG : Nat := 0x240014
def ALT_CHG2 : Nat := 0x240018
def ALT_ROUND : Nat := 0x24001c
def ALT_CNT : Nat := 0x240020
def ALT_ROVER (i : Nat) : Nat := 0x240100 + 4 * i
def ALT_BAY (i : Nat) : Nat := 0x240300 + 4 * i
def TTB_CTL : Nat := 0x280000
def TTB_STAT : Nat := 0x280004
def TTB_CAM : Nat := 0x280008
def TTB_CAM_INFO : Nat := 0x28000c
def TTB_CAM_ERR : Nat := 0x280010
def TTB_CNT : Nat := 0x280014
def TTB_LOAD : Nat := 0x280018
def STP_CTL : Nat := 0x2c0000
def STP_STAT : Nat := 0x2c0004
def STP_SRC : Nat := 0x2c0008
def STP_LATCH : Nat := 0x2c000c
def STP_CNT : Nat := 0x2c0010
def STP_ROVER (i : Nat) : Nat := 0x2c0020 + 4 * i
def RAD_CTL : Nat := 0x300000
def RAD_STAT : Nat := 0x300004
def RAD_SF : Nat := 0x300008
def RAD_SF_PEND : Nat := 0x30000c
def RAD_GUARD : Nat := 0x300010
def RAD_KEY : Nat := 0x300014
def RAD_JOIN_CNT : Nat := 0x300018
def RAD_P_CFG (i : Nat) : Nat := 0x300040 + 32 * i
def RAD_P_STAT (i : Nat) : Nat := 0x300044 + 32 * i
def RAD_P_CNT0 (i : Nat) : Nat := 0x300048 + 32 * i
def RAD_P_CNT1 (i : Nat) : Nat := 0x30004c + 32 * i
def RAD_P_ARM (i : Nat) : Nat := 0x300050 + 32 * i
def ETH_CTL : Nat := 0x340000
def ETH_STAT : Nat := 0x340004
def ETH_MAC_LO : Nat := 0x340008
def ETH_MAC_HI : Nat := 0x34000c
def ETH_IP_ADDR : Nat := 0x340010
def ETH_IP_NET : Nat := 0x340014
def ETH_IP_GW : Nat := 0x340018
def ETH_MDIO : Nat := 0x34001c
def ETH_PTP_CTL : Nat := 0x340030
def ETH_PTP_INT : Nat := 0x340034
def ETH_PTP_STAT : Nat := 0x340038
def ETH_PTP_DELAY : Nat := 0x34003c
def ETH_WAKE_CTL : Nat := 0x340040
def ETH_WAKE_STAT : Nat := 0x340044
def ETH_P_CFG (i : Nat) : Nat := 0x340080 + 64 * i
def ETH_P_STAT (i : Nat) : Nat := 0x340084 + 64 * i
def ETH_P_ING (i : Nat) : Nat := 0x340088 + 64 * i
def ETH_P_EG (i : Nat) : Nat := 0x34008c + 64 * i
def ETH_P_LDELAY (i : Nat) : Nat := 0x340090 + 64 * i
def ETH_P_CNT0 (i : Nat) : Nat := 0x340094 + 64 * i
def ETH_P_CNT1 (i : Nat) : Nat := 0x340098 + 64 * i
def ETH_P_PAUSE (i : Nat) : Nat := 0x34009c + 64 * i
def ETH_WAKE_PAT (p w : Nat) : Nat := 0x340400 + 0x100 * p + 4 * w
def ETH_WAKE_MSK (p w : Nat) : Nat := 0x340480 + 0x100 * p + 4 * w
def MTR_CTL : Nat := 0x380000
def MTR_STAT : Nat := 0x380004
def MTR_NOM0 : Nat := 0x380008
def MTR_NOM1 : Nat := 0x38000c
def MTR_FLT : Nat := 0x380010
def MTR_REV : Nat := 0x380014
def MTR_SEAL : Nat := 0x380018
def MTR_CNT : Nat := 0x38001c
def MTR_PLS (i : Nat) : Nat := 0x380020 + 4 * i
def MTR_PK (i : Nat) : Nat := 0x380030 + 4 * i
def MTR_CALG (i : Nat) : Nat := 0x380080 + 8 * i
def MTR_CALP (i : Nat) : Nat := 0x380084 + 8 * i
def LAN_CTL : Nat := 0x3c0000
def LAN_STAT : Nat := 0x3c0004
def LAN_DIAG_A : Nat := 0x3c0008
def LAN_DIAG_B : Nat := 0x3c000c
def LAN_DIG : Nat := 0x3c0010
def LAN_DIG_LO : Nat := 0x3c0014
def LAN_DIG_HI : Nat := 0x3c0018
def LAN_CNT : Nat := 0x3c001c
def LAN_TIME : Nat := 0x3c0020
def LAN_ECC : Nat := 0x3c0024
def SEC_CTL : Nat := 0x400000
def SEC_STAT : Nat := 0x400004
def SEC_TAMPER : Nat := 0x400008
def SEC_TEMP : Nat := 0x40000c
def SEC_UNIT_LO : Nat := 0x400010
def SEC_UNIT_HI : Nat := 0x400014
def SEC_SITE : Nat := 0x400018
def SEC_BIND : Nat := 0x40001c
def SEC_RSID : Nat := 0x400020
def SEC_CNT : Nat := 0x400024
def SEC_SLOT (i : Nat) : Nat := 0x400100 + 4 * i
def SEC_EPUB (i : Nat) : Nat := 0x400200 + 4 * i
def UPD_CTL : Nat := 0x440000
def UPD_STAT : Nat := 0x440004
def UPD_VINT_ACT : Nat := 0x440008
def UPD_VINT_STG : Nat := 0x44000c
def UPD_FLOOR : Nat := 0x440010
def UPD_FMT : Nat := 0x440014
def UPD_PROG : Nat := 0x440018
def UPD_TD_LO : Nat := 0x44001c
def UPD_TD_HI : Nat := 0x440020
def UPD_CNT : Nat := 0x440024
def CBK_CTL : Nat := 0x480000
def CBK_STAT : Nat := 0x480004
def CBK_NEWEST : Nat := 0x480008
def CBK_OLDEST : Nat := 0x48000c
def CBK_PERM : Nat := 0x480010
def CBK_BUF : Nat := 0x480014
def CBK_CNT : Nat := 0x480018
def TST_CTL : Nat := 0x4c0000
def TST_STAT : Nat := 0x4c0004
def TST_QDLY (i : Nat) : Nat := 0x4c0010 + 4 * i
def TST_BP : Nat := 0x4c0020
def TST_JIT : Nat := 0x4c0024
def TST_ERR : Nat := 0x4c0028
def TST_STRETCH : Nat := 0x4c002c
def TST_CRC : Nat := 0x4c0030

end Sys2Proof.Machine.R
end

