-- ==== Sys2Proof/Machine/State.lean ====
section
/-! DEFINITION. The state of the TLX-9640 as plain data: every register, buffer, queue, counter, mode and pin the
spec gives the module, grouped by block, with its value right after reset beside it; the queue of commands that are
waiting; and the model's own counter of free values. Every register of the register map is held in `State.regs`
under its address; the structures hold what has no register of its own. -/

namespace Sys2Proof.Machine

/-! ### The Sveteb command protocol (chapter 02) -/

/-- A reply before it is packed: its status code and the data after it (R34). -/
structure Reply where
  status : Nat
  data : List Byte := []
  deriving DecidableEq, Repr

/-- A pending SESSION_OPEN handshake (Table 2-7). -/
structure Handshake where
  slot : Nat
  level : Nat
  hostNonce : Nat
  modNonce : Nat
  key : Nat
  /-- elapsed time at the SESSION_OPEN, in units of 2^-32 ns -/
  at_ : Nat
  deriving DecidableEq, Repr

/-- One entry of a session's reply cache (R43): no reply while the command is in progress. -/
structure CacheEntry where
  seq : Nat
  crc : Nat
  opcode : Nat
  reply : Option Reply := none
  deriving DecidableEq, Repr

/-- The tag of a lane's output (R367): the cause number, which is the number of the latest input that the emitting engine had taken,
the engine, and the index among its outputs of that cause. -/
structure LaneTag where
  cause : Nat
  engine : Nat
  index : Nat
  deriving DecidableEq, Repr

/-- A tagged output of a lane (R367): its class in the order of that rule, 0 radio frame body, 1 Sveteb reply, 2 event packet,
3 register read data, 4 allotment result, and its content. -/
structure LaneOut where
  tag : LaneTag
  cls : Nat
  content : List Byte
  /-- stamp of the input that caused it, site time in ns -/
  stamp : Nat := 0
  deriving DecidableEq, Repr

/-- An accepted command whose reply has not been sent (R43, R46): where the reply goes, whether it may overtake others (path S), the
reply once it is ready, the tag of a lane's reply, and `held` while a switch-over holds it (R48). -/
structure Outst where
  seq : Nat
  opcode : Nat
  /-- IPv4 × 65,536 + port on UDP -/
  src : Nat
  fast : Bool := false
  reply : Option Reply := none
  tag : Option LaneTag := none
  held : Bool := false
  deriving DecidableEq, Repr

/-- What an output packet carries: a reply or an event. -/
inductive OutBody where
  /-- a reply: sequence number, opcode, DUPLICATE flag, tag to be appended, reply -/
  | reply (seq opcode : Nat) (dup tagged : Bool) (r : Reply)
  /-- an event packet: SEQ, source, class 0 urgent or 1 normal, DROPPED, time and DETAIL (Table 2-11) -/
  | event (seq source cls dropped time : Nat) (detail : List Byte)
  deriving DecidableEq, Repr

/-- One packet of a session's output: the session key for its tag (R32), `bad` when the test block inverts its CRC (R517),
`cut` when a READ has ended before its last CRC byte (R38), and the tag of a lane's reply (R49). -/
structure OutPkt where
  body : OutBody
  key : Option Nat := none
  bad : Bool := false
  cut : Bool := false
  lane : Option LaneTag := none
  deriving DecidableEq, Repr

/-- One Sveteb session (R41 to R43, R56, R57). -/
structure Session where
  isOpen : Bool := false
  level : Nat := 0
  auth : Bool := false
  key : Nat := 0
  slot : Nat := 0
  hs : Option Handshake := none
  h : Nat := 0
  cache : List CacheEntry := []
  /-- accepted commands whose reply has not been sent, in the order of acceptance (R46) -/
  outst : List Outst := []
  evSeq : Nat := 0
  mask : Nat := 0
  dropped : Nat := 0
  /-- a SESSION_CLOSE has been executed: the session closes once its reply has been sent -/
  closing : Bool := false
  /-- undelivered packets, oldest first; on UDP a packet leaves at once, so that list stays empty -/
  out : List OutPkt := []
  /-- elapsed time of the last authenticated packet (R42) -/
  lastAuth : Nat := 0
  /-- IPv4 address × 65,536 + port of the last authenticated packet (R40) -/
  peer : Nat := 0
  deriving DecidableEq, Repr

/-- The Sveteb transports and sessions. -/
structure Svb where
  /-- sessions 1 to 3, and session 0 once a reset of the hub has been recorded in it; session 0's value at index 0 -/
  sess : Tbl Session := []
  /-- HS_RDY_N is high until the hub is ready (R36) -/
  rdyHigh : Bool := true
  overflow : Bool := false
  framing : Bool := false
  /-- commands whose reply is held up and after whose reply something is to follow: session and sequence number, opcode -/
  posts : List (Nat × Nat × Nat) := []
  /-- a reset of the Ethernet switch (engine 0x03) accepted, to act once its reply has left (Table 15-8) -/
  switchReset : Bool := false
  /-- outputs of the shadow lane whose twin from the active lane has not left the module (R49, R374) -/
  kept : List LaneOut := []
  deriving DecidableEq, Repr

/-! ### What leaves the module -/

/-- One output of the module. -/
inductive Output where
  /-- a UDP datagram of Sveteb: destination IPv4 × 65,536 + port, bytes -/
  | udp (dst : Nat) (bytes : List Byte)
  /-- bytes clocked out on the host SPI -/
  | spi (bytes : List Byte)
  /-- an Ethernet frame sent on an external port -/
  | eth (port : Nat) (bytes : List Byte)
  /-- a radio frame sent on a radio port, at a slot: its RPn_TXT edge, site time in ns, and its bytes -/
  | radio (port slot txt : Nat) (bytes : List Byte)
  /-- an STP_TX edge on a radio port: the transceiver sends its armed stop frame -/
  | stpTx (port : Nat)
  /-- an SPI transaction with a transceiver: its kind by name -/
  | xcvr (port : Nat) (kind : String) (bytes : List Byte)
  /-- a leading edge of a pulse output: its width in ms, whether it is active low, and its site time in units of 125 ps -/
  | pps (output width : Nat) (low : Bool) (at_ : Nat)
  /-- an energy pulse: its width in ms, and whether it is active low -/
  | epulse (output width : Nat) (low : Bool)
  /-- a UDP datagram of RTCM 3 frames from port 48110: destination IPv4 × 65,536 + port, bytes (R90) -/
  | rtcm (dst : Nat) (bytes : List Byte)
  /-- an MDIO transaction: PHY address, register, read, data -/
  | mdio (phy reg : Nat) (read : Bool) (data : Nat)
  deriving DecidableEq, Repr

/-! ### Pins and events (chapters 15, 18, 19; R495) -/

/-- The output pins of the module; a level is true when the pin is at its active level, except where said. -/
structure Pins where
  /-- IRQ0_N and IRQ1_N low (R413) -/
  irq0 : Bool := false
  irq1 : Bool := false
  /-- STOP_OUT_A_N and STOP_OUT_B_N active; active from power-up (R468) -/
  stopOutA : Bool := true
  stopOutB : Bool := true
  pwrGood : Bool := false
  hostReset : Bool := false
  deriving DecidableEq, Repr

/-- An event of lane origin held during a switch-over (R373, R413). -/
structure HeldEvent where
  tag : LaneTag
  source : Nat
  time : Nat
  detail : List Byte
  deriving DecidableEq, Repr

/-! ### The sky baseband (chapter 03) -/

/-- One coherent integration of a band tracker: its end in elapsed ns, the prompt tap, and the magnitudes of VE, VL and P in 2^-16. -/
structure Integ where
  at_ : Nat
  i : Int
  q : Int
  ve : Nat
  vl : Nat
  p : Nat
  deriving DecidableEq, Repr

/-- One band tracker (R63 to R74, R79). -/
structure Tracker where
  /-- signal code of Table 3-1; 0 idle -/
  signal : Nat := 0
  /-- 0 idle; 1 acquiring; 2 pull-in; 3 code lock; 4 carrier lock (Table 3-9) -/
  state : Nat := 0
  /-- coherent integration time, ms (R70) -/
  tMs : Nat := 0
  /-- C/N0, 0.01 dB-Hz (R74) -/
  cn0 : Nat := 0
  /-- PLL noise bandwidth, 0.001 Hz (R71) -/
  pllBw : Nat := 0
  /-- DLL noise bandwidth, 0.001 Hz (R73) -/
  dllBw : Nat := 0
  /-- FLL assist in force (R72) -/
  fll : Bool := false
  /-- since when the lock indicator has been at or above LOCK_THR (elapsed time) -/
  lockedSince : Option Nat := none
  /-- the NCOs at `ncoAt` (elapsed ns): the code in 2^-48 chip, whose count is the satellite's transmit time once `timed`, and the
  carrier in 2^-48 cycle; their rates beyond nominal, 2^-20 chip/s, and the carrier Doppler, 2^-12 Hz (R64, R69) -/
  code : Int := 0
  carrier : Int := 0
  ncoAt : Nat := 0
  timed : Bool := false
  codeRate : Int := 0
  doppler : Int := 0
  /-- the PLL's frequency and its rate, 2^-32 Hz and 2^-32 Hz/s (R69) -/
  vel : Int := 0
  acc : Int := 0
  /-- the loop's third-derivative state and its low-pass filtered value, 0.001 rad/s³ (R71) -/
  jerkRaw : Nat := 0
  jerk : Nat := 0
  /-- integrations of the last second, and prompts of code periods of the last second, newest first -/
  integ : List Integ := []
  prompts : List (Int × Int) := []
  /-- elapsed time of the last side-peak correction (R65) -/
  peakAt : Nat := 0
  lockTime : Nat := 0
  cslip : Nat := 0
  /-- failed and evaluated checks of the last epoch (byte 29 of Table 3-6) -/
  checks : Nat := 0
  /-- checks evaluated and passed since the channel last acquired, bits 0 to 3 (R79) -/
  passed : Nat := 0
  /-- grade 0 to 2 of the band tracker; epochs without a failure since grade 2 was entered; failures in the last 20 epochs, newest in
  bit 0 (R76) -/
  grade : Nat := 0
  clean : Nat := 0
  fails : Nat := 0
  mp : Bool := false
  /-- the half cycle is resolved, and it is one that the carrier has to include (R83) -/
  halfCycle : Bool := false
  halfAdd : Bool := false
  /-- whole cycles taken off the carrier for RTCM 3, chosen once per acquisition -/
  phaseN : Option Int := none
  deriving DecidableEq, Repr

/-- One channel: a satellite (R63). -/
structure Channel where
  busy : Bool := false
  /-- 0 GPS; 1 Galileo; 2 BeiDou; 3 QZSS; 4 SBAS (Table 3-9) -/
  system : Nat := 0
  svid : Nat := 0
  /-- predicted elevation in 0.01 degree, and azimuth in degrees; 0 until they can be predicted -/
  elev : Int := 0
  azim : Nat := 0
  /-- elapsed time at which the satellite set below the mask -/
  setAt : Option Nat := none
  /-- P5 − P1 of the last 60 s in 2^-20 m, with elapsed times, newest first (check 2) -/
  l15 : List (Nat × Int) := []
  deriving DecidableEq, Repr

/-- One ephemeris of the store (R87): its content in use and that of a candidate seen once. -/
structure Ephemeris where
  inUse : List Byte := []
  candidate : List Byte := []
  /-- its RTCM message is due (adopted since last sent), and when it was last sent, whole seconds -/
  due : Bool := false
  sentAt : Nat := 0
  /-- site time of adoption, whole seconds -/
  since : Nat := 0
  deriving DecidableEq, Repr

/-- SKY_RTCM_CONFIG settings (Table 3-9). -/
structure RtcmCfg where
  ip : Nat := 0
  port : Nat := 0
  divisor : Nat := 1
  flags : Nat := 0
  station : Nat := 0
  arpS : Nat := 10
  descS : Nat := 30
  deriving DecidableEq, Repr

/-- The base antenna position of SKY_SET_BASE_POSITION: ECEF in 0.1 mm and the ARP height in mm. -/
structure BasePos where
  x : Int
  y : Int
  z : Int
  height : Nat
  deriving DecidableEq, Repr

/-- The sky baseband. -/
structure Sky where
  chans : Tbl Channel := []
  /-- band trackers: index 2 × channel + band (0 L1, 1 L5) -/
  trk : Tbl Tracker := []
  /-- satellites excluded by the host: system × 256 + SVID (R78) -/
  excluded : List Nat := []
  /-- satellites locked out (grade 3), which belongs to the satellite (R79) -/
  lockedOut : List Nat := []
  /-- the ephemeris store, and the payloads of PASS records held for it, newest first: under 8 × satellite + nav TYPE -/
  eph : Tbl Ephemeris := []
  nav : Tbl (List (List Byte)) := []
  /-- the almanac of each satellite -/
  almanacs : Tbl (List Byte) := []
  /-- last Doppler of each satellite, 2^-12 Hz on the L1 carrier (kept data) -/
  dopplers : Tbl Int := []
  base : Option BasePos := none
  /-- a base position to be applied at the next epoch (R94) -/
  basePend : Option BasePos := none
  baseGen : Nat := 0
  /-- SYS_EN (as SKY_CTL[7:0]) and rate code to be applied at a whole second of GPS time (R80, R95) -/
  cfgPend : Option (Nat × Nat × Nat) := none
  rateChanged : Bool := false
  epochNo : Nat := 0
  /-- site time of the last epoch instant latched or passed over, in ns -/
  lastEpoch : Nat := 0
  /-- of each notch, 4 × band + notch: the frequency it tracks, Hz from the band's centre, and since when (elapsed ns) its line has
  been below the release level (R61) -/
  notchFreq : Tbl Int := []
  notchLow : Tbl (Option Nat) := []
  /-- AGC gains of each band over the last second, with elapsed times, newest first (R62) -/
  gains : Tbl (List (Nat × Nat)) := []
  /-- blanking and AGC conditions holding: bit 2 × band + (0 blanking, 1 AGC step) -/
  itf : Nat := 0
  /-- elapsed time of the last antenna bias retry -/
  biasRetry : Nat := 0
  rtcm : RtcmCfg := {}
  /-- epochs since the last MSM, and the times of the last 1006 and 1033, in whole seconds -/
  msmCount : Nat := 0
  arpAt : Nat := 0
  descAt : Nat := 0
  navCount : Nat := 0
  /-- the last base record delivered to the lanes (R82) -/
  baseRecord : List Byte := []
  /-- a base position change awaits its 1006 (Table 3-8) -/
  arpDue : Bool := false
  deriving DecidableEq, Repr

/-! ### Site time (chapter 04) -/

/-- One time source (R101, R102): its offset in ps and since when it has been valid without a break. -/
structure TimeSource where
  theta : Int := 0
  validSince : Option Nat := none
  lastValid : Nat := 0
  qualified : Bool := false
  deriving DecidableEq, Repr

/-- One entry of the TIME_IN FIFO (R115). -/
structure Stamp where
  time : Nat
  steps : Nat
  state : Nat
  falling : Bool
  deriving DecidableEq, Repr

/-- One pulse output (R112, R113): its last leading edge and the last write of its settings, in elapsed time. -/
structure Pulse where
  lastEdge : Option Nat := none
  writtenAt : Option Nat := none
  /-- index of the last scheduled instant at or before which an edge has been emitted or passed over, and the width of the pulse that
  began at `lastEdge`, ns -/
  lastInstant : Int := 0
  width : Nat := 0
  deriving DecidableEq, Repr

/-- The time engine. Times named elapsed count TIME_INC like site time but never step (R105). -/
structure TimeSt where
  /-- site time in units of 2^-32 ns (R97) -/
  ext : Nat := 0
  /-- elapsed time in units of 2^-32 ns -/
  elapsed : Nat := 0
  /-- 1 ms tick inputs sent to the lanes since the start -/
  ticks : Nat := 0
  /-- the 32-bit input sequence number of the next lane input, and the stamp of the last one: site time, and elapsed time, in ns
  (R26). The lanes take time only from them. -/
  inputSeq : Nat := 0
  stamp : Nat := 0
  stampEl : Nat := 0
  gnss : TimeSource := {}
  ptp : TimeSource := {}
  /-- the whole millisecond of site time after which the pending first step is made (R103) -/
  stepAfter : Option Nat := none
  /-- accepted TIME_RESTEPs: session, sequence number and the millisecond of acceptance (R106) -/
  restep : List (Nat × Nat × Nat) := []
  /-- EXPIRED has been entered and LOCKED has not been reached since (R109) -/
  expired : Bool := false
  /-- frequency error of REFCLK, in 10^-12 (R104) -/
  yf : Int := 0
  /-- rate correction in force, in 10^-12 -/
  y : Int := 0
  /-- the second of elapsed time of the last discipline update -/
  lastDisc : Nat := 0
  /-- start of the present 60 s window of qualified offsets -/
  yfSince : Nat := 0
  /-- since when |θ| has been within LOCK_THR (R108) -/
  lockSince : Option Nat := none
  /-- entry to HOLDOVER (R109); none while a source is qualified -/
  holdSince : Option Nat := none
  /-- |θ| in ps at the last EV_TIM_OFFSET; 0 while below STEP_WARN (R107) -/
  offWarn : Nat := 0
  /-- the instant at which an announced leap second passes, in whole seconds of site time, and TAI − UTC after it (R100) -/
  leapAt : Option (Nat × Nat) := none
  pps : Tbl Pulse := []
  fifo : List Stamp := []
  /-- elapsed time of the previous stamped edge (R114) -/
  lastStamp : Option Nat := none
  /-- the last whole second of site time at which the always-on counter was offered (R99) -/
  lastSecond : Nat := 0
  /-- a step since the previous measurement record, and the size in ps of the last step as its input carries it to the lanes (R105) -/
  stepped : Bool := false
  stepSize : Int := 0
  deriving DecidableEq, Repr

/-! ### Central RTK (chapter 05) -/

/-- One full record of an observation body (Table 5-2). -/
structure FullRec where
  signal : Nat
  svid : Nat
  phaseValid : Bool
  half : Bool
  slip : Bool
  /-- 0.02 m -/
  code : Nat
  /-- 2^-10 cycle -/
  phase : Int
  cn0 : Nat
  /-- 0.25 Hz -/
  doppler : Int
  deriving DecidableEq, Repr

/-- A rover's delta reference (R123): its epoch (GPS ms) and its records. -/
structure FullRef where
  epoch : Nat
  fullId : Nat
  recs : List FullRec
  deriving DecidableEq, Repr

/-- One reconstructed observation (R120): ρ in µm, and the phase beyond ρ/λ in 2^-10 cycle. -/
structure RoverObs where
  signal : Nat
  svid : Nat
  rho : Int
  phase : Int
  phaseValid : Bool
  half : Bool
  slip : Bool
  cn0 : Nat
  doppler : Int
  deriving DecidableEq, Repr

/-- A rover's pending epoch (R124). -/
structure PendingObs where
  epoch : Nat
  clk : Int
  obs : List RoverObs
  deriving DecidableEq, Repr

/-- One signal of a base record as double differences use it (Table 3-6): code in 2^-20 m, carrier in 2^-24 cycle, Doppler in
2^-12 Hz, C/N0 in 0.01 dB-Hz, elevation in 0.01 degree. -/
structure BaseSig where
  signal : Nat
  svid : Nat
  cslip : Nat
  lockTime : Nat
  phaseOk : Bool
  elev : Int
  code : Nat := 0
  carrier : Int := 0
  doppler : Int := 0
  cn0 : Nat := 0
  deriving DecidableEq, Repr

/-- A base record kept by the lanes (R125): its epoch in ms of GPS time since the GPS epoch, BASE_GEN, CLK_BIAS (0.01 ns) and its rate
(0.001 ns/s), and whether it may be used. -/
structure BaseRec where
  epoch : Nat
  gen : Nat
  usable : Bool
  pos : Option BasePos
  bias : Int := 0
  drift : Int := 0
  sigs : List BaseSig
  deriving DecidableEq, Repr

/-- What the filter remembers of one signal's ambiguity (R132): consecutive uses with valid phase, and the base's slip counter and lock
time of the last. -/
structure Amb where
  uses : Nat := 0
  cslip : Nat := 0
  lockTime : Nat := 0
  /-- consecutive uses whose phase was rejected as an outlier -/
  rejected : Nat := 0
  deriving DecidableEq, Repr

/-- The extended Kalman filter of a rover (R129) at an epoch (GPS ms): the signals of its ambiguities; east, north and up position and
velocity and the ambiguities, in 2^-40 m, m/s and cycle; and their covariance, in 2^-40. -/
structure RtkFilter where
  at_ : Nat
  keys : List Nat := []
  x : List Int := []
  p : List (List Int) := []
  deriving DecidableEq, Repr

/-- A fix record (Table 5-5) before it is packed; AGE is in ms. -/
structure FixRec where
  cls : Nat := 0
  flags : Nat := 0
  nsat : Nat := 0
  namb : Nat := 0
  tow : Nat := 0
  pos : Int × Int × Int := (0, 0, 0)
  vel : Int × Int × Int := (0, 0, 0)
  hpl : Nat := 65535
  vpl : Nat := 65535
  age : Nat := 0
  ratio : Nat := 0
  gen : Nat := 0
  /-- the rover epoch in GPS ms -/
  epoch : Nat := 0
  deriving DecidableEq, Repr

/-- What central RTK holds of one rover slot. Signals are keyed by signal code × 256 + SVID. -/
structure RtkRover where
  ref : Option FullRef := none
  pending : Option PendingObs := none
  lastUsed : Option Nat := none
  /-- a filter is live; one has been since the last cold start (R141) -/
  live : Bool := false
  had : Bool := false
  gen : Nat := 0
  record : Option FixRec := none
  /-- due cycles without data in a row, and the NONE record of R139 published -/
  misses : Nat := 0
  noneSent : Bool := false
  /-- its filter, once a position has initialised it (R130), and the double-difference codes and phases and the satellites that its last
  update used (R137) -/
  filt : Option RtkFilter := none
  codes : Nat := 0
  phases : Nat := 0
  nsat : Nat := 0
  amb : Tbl Amb := []
  /-- geometry-free phase of each satellite at its last use, rover less base, in µm (R132) -/
  gf : Tbl Int := []
  /-- every ambiguity is to be reset at the next use (R123, R136) -/
  resetAll : Bool := false
  /-- reference satellite per group × 2 + band, as signal key (R127) -/
  refs : Tbl Nat := []
  holds : List (Nat × Int) := []
  /-- candidates accepted in the previous cycles, newest first (R135) -/
  cands : List (List (Nat × Int)) := []
  alert : Bool := false
  ifree : Bool := false
  /-- cycles in a row beyond IF_ON (normal mode) or below IF_OFF (ionosphere-free mode) -/
  ifCount : Nat := 0
  /-- wide-lane integers fixed, and the averages of the others: count, sum in 2^-20 cycle and sum of squares in 2^-40; by the key of the
  satellite's L1-band signal (R136) -/
  wide : List (Nat × Int) := []
  mw : Tbl (Nat × Int × Int) := []
  /-- BASE_GEN of the last epoch used -/
  baseGen : Option Nat := none
  /-- last EV_RTK_INTAKE, elapsed ns (R153) -/
  evAt : Option Nat := none
  /-- rate code in force, and whether shedding has lowered it (R142, R143) -/
  rate : Nat := 5
  shed : Bool := false
  deriving DecidableEq, Repr

/-- Class rates and noise parameters of one RTK class (R142, Table 5-4). -/
structure RtkClass where
  moving : Nat := 5
  parked : Nat := 5
  qh : Nat := 100
  qv : Nat := 10
  phA : Nat := 30
  phB : Nat := 30
  cdA : Nat := 30
  cdB : Nat := 30
  l1c : Nat := 20
  deriving DecidableEq, Repr

/-- Central RTK. -/
structure Rtk where
  rovers : Tbl RtkRover := []
  classes : Tbl RtkClass := []
  /-- the RTK class of each rover slot, stored in the NOR settings -/
  clsOf : Tbl Nat := []
  /-- the last 64 base records, newest first -/
  bases : List BaseRec := []
  /-- site origin, ECEF in 0.1 mm (R148), and the origin of the axes in which the filters stand -/
  origin : Option (Int × Int × Int) := none
  frame : Option (Int × Int × Int) := none
  /-- E(k) of the last cycle, site time in ns -/
  lastCycle : Nat := 0
  /-- rovers of the cycle whose resolution has not been taken: their solutions, in AR order (R134) -/
  waiting : List (RtkSol × PendingObs × BaseRec) := []
  /-- AR_EN has been cleared: every hold is released at the next cycle (R135) -/
  dropHolds : Bool := false
  /-- BASE_GEN and base position of the last base record used (R149) -/
  baseGen : Option Nat := none
  basePos : Option BasePos := none
  /-- the whole second of site time of the last rate change (R142) -/
  rateSec : Nat := 0
  /-- shedding step in force, 0 to 10, and the elapsed time of the last step undone (R143) -/
  shed : Nat := 0
  undoneAt : Option Nat := none
  deriving DecidableEq, Repr


/-! ### Snapshot assist (chapter 06) -/

/-- One queue entry of a rover (R158 to R161). -/
structure SnapEntry where
  id : Nat
  count : Nat
  /-- L, once a chunk that is not the last has been held -/
  len : Option Nat := none
  /-- chunks held, as (index, data) -/
  chunks : Tbl (List Byte) := []
  /-- superframe number and elapsed time of the last chunk, and a MISSING reply sent since -/
  lastSf : Nat
  lastAt : Nat
  missed : Bool := false
  /-- order of completion, and elapsed time of completion -/
  ready : Option Nat := none
  readyAt : Nat := 0
  deriving DecidableEq, Repr

/-- The snapshot engine. -/
structure Snp where
  entries : Tbl (Option SnapEntry) := []
  /-- SNAP_ID of each rover's last freed entry, and superframe of its last QUEUE_FULL reply -/
  freed : Tbl (Option Nat) := []
  fullSf : Tbl Nat := []
  order : Nat := 0
  /-- the rover being solved, with the elapsed time of the start -/
  solving : Option (Nat × Nat) := none
  /-- replies waiting for a bulk-down grant, oldest first: rover slot, body (R164, R268) -/
  replies : List (Nat × List Byte) := []
  deriving DecidableEq, Repr

/-! ### The signal box (chapter 07) -/

/-- A block record (Table 7-2). -/
structure BlockRec where
  len : Nat
  flags : Nat
  vmax : Nat
  half : Nat
  zoneA : Nat
  zoneB : Nat
  linkIn : Nat
  linkOut : Nat
  e0 : Int
  n0 : Int
  e1 : Int
  n1 : Int
  deriving DecidableEq, Repr

/-- A points record (Table 7-3): COMMON and the legs, in order. -/
structure PointsRec where
  ends : List Nat
  flags : Nat
  zone : Nat
  deriving DecidableEq, Repr

/-- A site map (R169). -/
structure SiteMap where
  id : Nat
  originCrc : Nat
  blocks : List BlockRec
  points : List PointsRec
  /-- zone records: capacity and kind -/
  zones : List (Nat × Nat)
  deriving DecidableEq, Repr

/-- An authority, or the blocks of a tentative hold: blocks as BLOCK(i) words (Table 7-4). -/
structure Auth where
  id : Nat
  blocks : List Nat
  endOfs : Nat
  cutBack : Bool := false
  revoked : Bool := false
  last : Bool := false
  /-- site time in ns; none until it is issued at a commit point (R177) -/
  expiry : Option Nat := none
  deriving DecidableEq, Repr

/-- A block in RELEASING (R188): freed by an AUTH_ID at least as new, or at the EXPIRY of the superseded authority; that authority's
ID, and its EXPIRY once it has been committed. Only the unit that held it acknowledges it. -/
structure Releasing where
  block : Nat
  needId : Nat
  oldId : Nat
  expiry : Option Nat
  ackable : Bool := true
  deriving DecidableEq, Repr

/-- A tentative block being withdrawn for another rover (R196): the PREV_ID of the preview that no longer holds it, and
the superframe of its first commitment. -/
structure Withdraw where
  block : Nat
  prevId : Nat
  forSlot : Nat
  sf : Option Nat := none
  ackable : Bool := true
  deriving DecidableEq, Repr

/-- What the signal box holds of one rover. -/
structure SbxRover where
  route : List Nat := []
  routeEnd : Nat := 0
  prio : Nat := 0
  auth : Option Auth := none
  authId : Nat := 0
  prevId : Nat := 0
  /-- newest AUTH_ID and PREV_ID acknowledged -/
  ackAuth : Option Nat := none
  ackPrev : Option Nat := none
  occ : List Nat := []
  noneHold : Bool := false
  /-- the rover waited on, and the lanes' site time at which the wait began -/
  waitOn : Option Nat := none
  waitSince : Nat := 0
  /-- reason of Table 7-9 and block word at which the last extension stopped -/
  reason : Nat := 0
  stopAt : Option Nat := none
  tent : Option Auth := none
  withdraws : List Withdraw := []
  releasing : List Releasing := []
  /-- the AVOID set (R192): for each cut-back its blocks and the last superframe in which it holds them -/
  avoid : List (List Nat × Nat) := []
  /-- under a stop whose authority has been revoked; a fresh route is needed after release -/
  stopped : Bool := false
  deriving DecidableEq, Repr

/-- A route request waiting at the signal box (R182): from allotment. -/
structure RouteReq where
  slot : Nat
  prio : Nat
  tentative : Bool
  mapId : Nat
  route : List Nat
  endOfs : Nat
  deriving DecidableEq, Repr

/-- The signal box. -/
structure Sbx where
  rovers : Tbl SbxRover := []
  map : Option SiteMap := none
  staged : Option SiteMap := none
  /-- an image being checked: shared-partition offset and length -/
  staging : Option (Nat × Nat) := none
  norMap : Option SiteMap := none
  /-- the image whose activation has been accepted, to take effect at the next pass -/
  activate : Option SiteMap := none
  /-- zone capacities set by SBX_ZONE_SET (R200) -/
  zoneCap : Tbl (Option Nat) := []
  /-- rovers in each zone, in entry order -/
  zoneIn : Tbl (List Nat) := []
  /-- zones under a zone stop, as the lanes have taken them (R299) -/
  zoneStops : List Nat := []
  reqs : List RouteReq := []
  /-- superframe number F of the last pass -/
  passF : Option Nat := none
  /-- requests processed in the present whole second, and that second -/
  reqCount : Nat := 0
  reqSec : Nat := 0
  deriving DecidableEq, Repr

/-! ### Allotment (chapter 08) -/

/-- A task record (Table 8-1), with the route searches of R217 already made. -/
structure Task where
  state : Nat := 0
  type : Nat := 0
  prio : Nat := 0
  cap : Nat := 0
  origin : Nat := 65535
  dest : Nat := 65535
  workO : Nat := 0
  workD : Nat := 0
  slot : Nat := 255
  deadline : Nat := 0
  hostRef : Nat := 0
  /-- DEST was 0xFFFF: the bay has been placed by R221 -/
  anyBay : Bool := false
  tries : Nat := 0
  /-- a route to the present target is to be searched after this superframe F -/
  search : Option Nat := none
  deriving DecidableEq, Repr

/-- What allotment knows of a rover from its uplinks (Table 10-10). -/
structure AltRover where
  soc : Nat := 255
  atRest : Bool := false
  deriving DecidableEq, Repr

/-- A landmark image (R208): entries landmark-major. -/
structure Landmarks where
  mapId : Nat
  nlmk : Nat
  nblk : Nat
  entries : List Nat
  deriving DecidableEq, Repr

/-- A round in progress (R206, R211). -/
structure Round where
  /-- start, elapsed ns -/
  at_ : Nat
  /-- rover slots of the rows, and tasks of the columns -/
  rows : List Nat
  cols : List Nat
  /-- benefit of each row and column; none forbidden -/
  benefit : List (List (Option Int))
  deriving DecidableEq, Repr

/-- The metering input of the lanes (R360): whether it is valid; Feed-point energy of the demand interval so far (Wh), seconds left in it and
its length, Feed-point import power of the last seconds (W, newest first), Charge-point rms currents (mA) and voltages
(mV) of the phases, and the site demand cap (kW). -/
structure MeterLane where
  valid : Bool := false
  eWh : Nat := 0
  leftS : Nat := 0
  lenS : Nat := 900
  pW : List Int := []
  amps : List Nat := []
  volts : List Nat := []
  capKw : Nat := 0
  deriving DecidableEq, Repr

/-- The allotment engine. -/
structure Alt where
  tasks : Tbl Task := []
  rovers : Tbl AltRover := []
  lmk : Option Landmarks := none
  /-- a landmark image that waits for the staged map -/
  lmkNext : Option Landmarks := none
  lmkLoad : Option (Nat × Nat) := none
  round : Option Round := none
  /-- superframes counted since the last round -/
  sinceRound : Nat := 0
  /-- a round is to start after this superframe F (ALT_ROUND_NOW) -/
  now : Option Nat := none
  /-- re-route requests from the signal box: rover slot and the superframe of the request -/
  reroute : List (Nat × Nat) := []
  meter : MeterLane := {}
  deriving DecidableEq, Repr

/-! ### The timetabler (chapter 09) -/

/-- A cam table (R229): VERSION and entries, 256 per step. -/
structure Cam where
  version : Nat
  entries : List Nat
  deriving DecidableEq, Repr

/-- Limits of a profile class (Table 9-1). -/
structure TtbClass where
  vmax : Nat := 3000
  amax : Nat := 500
  dmax : Nat := 800
  dmaxE : Nat := 2000
  jmax : Nat := 1000
  deriving DecidableEq, Repr

/-- A profile position record (Table 9-2), with the words of the last authority. -/
structure Profile where
  /-- 0 NONE; 1 MOVING; 2 STANDSTILL; 3 INVALID -/
  state : Nat := 0
  fromFix : Bool := false
  overrun : Bool := false
  authId : Nat := 0
  camVer : Nat := 0
  /-- a CAM_VER has been reported -/
  camSeen : Bool := false
  npw : Nat := 0
  tRef : Nat := 0
  s : Nat := 0
  v : Nat := 0
  a : Int := 0
  n : Nat := 0
  /-- start of word 1, the word period in ms, the words, the index at the start of word 1, the distance there in nm, and the
  planned acceleration at each boundary -/
  t1 : Nat := 0
  pw : Nat := 50
  words : List Nat := []
  n0 : Nat := 0
  s0 : Nat := 0
  accs : List Int := []
  /-- the blocks of the authority profiled -/
  blocks : List Nat := []
  deriving DecidableEq, Repr

/-- An authority or preview handed to the timetabler and not yet committed (R227). -/
structure Job where
  slot : Nat
  preview : Bool
  auth : Auth
  /-- its class in R261 -/
  cls : Nat
  /-- profiled for the commit point of this site time, and the profile planned -/
  planned : Option Nat := none
  plan : Option Profile := none
  deriving DecidableEq, Repr

/-- The timetabler. -/
structure Ttb where
  profiles : Tbl Profile := []
  /-- the profile of the authority last committed to each rover -/
  sent : Tbl Profile := []
  classes : Tbl TtbClass := []
  clsOf : Tbl Nat := []
  jobs : List Job := []
  /-- the active cam table; none while the default is in force -/
  cam : Option Cam := none
  staged : Option Cam := none
  staging : Option (Nat × Nat) := none
  norCam : Option Cam := none
  /-- the table whose activation has been accepted, or a PW_MS, takes effect at the next superframe -/
  activate : Option Cam := none
  pwPend : Option Nat := none
  /-- commit point last made, site time in ns, and authorities profiled for the next -/
  commitAt : Nat := 0
  deriving DecidableEq, Repr

/-! ### The radio MAC (chapter 10) -/

/-- One entry of a slot table (R255). -/
structure SlotEntry where
  start : Nat
  count : Nat
  span : Nat
  type : Nat
  deriving DecidableEq, Repr

/-- A section waiting for a rover's downlink (R261): class 0 revoked or cut back, 1 withdrawing preview, 2 authority,
3 other preview; whether it is a preview; its ID; its body. -/
structure Section where
  cls : Nat
  preview : Bool
  id : Nat
  body : List Byte
  deriving DecidableEq, Repr

/-- A change of port of a bound rover that has not yet come into force (R269). -/
structure Move where
  port : Nat
  dn : Nat × Nat
  up : Nat × Nat
  /-- site time in ns from which the new runs apply -/
  at_ : Nat
  sent : Bool := false
  deriving DecidableEq, Repr

/-- What the MAC holds of one rover slot (R269 to R276). A run is (start, span). -/
structure Binding where
  bound : Bool := false
  unit : Nat := 0
  port : Nat := 0
  relay : Nat := 255
  hops : Nat := 0
  w : Nat := 1
  dn : Nat × Nat := (0, 0)
  up : Nat × Nat := (0, 0)
  joined : Bool := false
  lost : Bool := false
  misses : Nat := 0
  /-- consecutive uplinks received -/
  got : Nat := 0
  /-- a valid UP of the present superframe has been received -/
  heard : Bool := false
  /-- guard base in 10 µs, drift in 0.01 ppm -/
  g0 : Nat := 6
  d : Int := 0
  syncDrift : Int := 0
  rssi : Int := 0
  lastRelay : Nat := 255
  upCount : Nat := 0
  mistimed : Nat := 0
  /-- site time of the last UP, ms -/
  lastUp : Nat := 0
  /-- NONCE of the latest JOIN -/
  nonce : Nat := 0
  /-- DOWN frames with EVICTED still to be sent; none when no eviction is in progress -/
  evict : Option Nat := none
  move : Option Move := none
  /-- due uplinks since the last full-body grant; a full body is wanted -/
  fullCount : Nat := 0
  fullWant : Bool := true
  /-- FULL_REQ was set in the last uplink (R267) -/
  fullReq : Bool := false
  bulkWant : Bool := false
  /-- CAM_VER reported, and the offset of the next cam chunk (R268) -/
  camVer : Nat := 0
  camOff : Nat := 0
  sections : List Section := []
  /-- the value of STP_CNT for which EV_RAD_STOPTAG was raised (R265) -/
  tagFail : Option Nat := none
  /-- the full superframe number of the last DOWN or ASSIGN in its downlink run, and the last CTL sent (R260) -/
  downF : Option Nat := none
  ctl : List Byte := []
  /-- the full superframe number whose end has been assessed for a miss (R275) -/
  missF : Option Nat := none
  deriving DecidableEq, Repr

/-- One grant of a beacon (Table 10-8). -/
structure Grant where
  start : Nat
  span : Nat
  slot : Nat
  kind : Nat
  deriving DecidableEq, Repr

/-- An answer to a JOIN (R270): port, the JOIN's UNIT_ID and NONCE, RESULT, and the slot (255 none). -/
structure Answer where
  port : Nat
  unit : Nat
  nonce : Nat
  result : Nat
  slot : Nat
  rejoin : Bool
  deriving DecidableEq, Repr

/-- What the MAC holds of one port beside its registers. -/
structure RadPort where
  table : List SlotEntry := []
  grants : List Grant := []
  answers : List Answer := []
  /-- failed tags in the last second, elapsed time of the last EV_RAD_AUTH -/
  fails : Nat := 0
  authAt : Option Nat := none
  /-- the stop frame armed in the transceiver -/
  armed : List Byte := []
  /-- STP_TX edges raised of the repeats in progress -/
  edges : Nat := 0
  /-- elapsed time of the next edge; once three have been raised, of the end of the third transmission -/
  edgeAt : Nat := 0
  /-- turn of the next rover in bulk grants -/
  turn : Nat := 0
  /-- the body of the last beacon sent (R283) -/
  beacon : List Byte := []
  deriving DecidableEq, Repr

/-- A slot table change awaiting its switch instant (R257). -/
structure PendTables where
  n : Nat
  ver : Nat
  /-- switch instant, site time in ns -/
  at_ : Nat
  tables : Tbl (List SlotEntry)
  /-- the downlink and uplink runs of each bound rover from the switch on -/
  runs : Tbl ((Nat × Nat) × (Nat × Nat)) := []
  deriving DecidableEq, Repr

/-- The radio MAC. -/
structure Rad where
  rovers : Tbl Binding := []
  ports : Tbl RadPort := []
  pend : Option PendTables := none
  /-- keys of relayed uplinks, newest first, at most 1,024 (R278) -/
  seen : List Nat := []
  /-- T0 of the present superframe, site time in ns; none before the first -/
  t0 : Option Nat := none
  deriving DecidableEq, Repr

/-! ### The hard stop path (chapter 11) -/

/-- A zone stop (R299): the zone and the rovers it stopped. -/
structure ZoneStop where
  zone : Nat
  rovers : List Nat
  deriving DecidableEq, Repr

/-- A pending release of one rover or zone (R303): scope 1 or 2, slot or zone, and its T_R in site time, ns. -/
structure TargetRelease where
  scope : Nat
  target : Nat
  tr : Nat
  deriving DecidableEq, Repr

/-- The stop logic beside STP registers. -/
structure Stp where
  /-- since when each filtered input has been inactive (elapsed ns); none while active -/
  inactiveA : Option Nat := some 0
  inactiveB : Option Nat := some 0
  /-- since when the filtered inputs have differed (R291) -/
  diffSince : Option Nat := none
  /-- site time of the last firing; none when the path has not fired since the hub start (R301) -/
  firedAt : Option Nat := none
  /-- the largest SBX_EXP.AUTH_MS in force since the last firing (R301) -/
  authMax : Nat := 0
  /-- T_R of a pending fleet release, site time in ns (R301) -/
  release : Option Nat := none
  targets : List TargetRelease := []
  /-- rovers under STOP_ROVER, and zone stops (R299) -/
  rovers : List Nat := []
  zones : List ZoneStop := []
  /-- keys (ORIGIN, STOP_CNT, REP) of the chain stop frames accepted last, newest first, at most 16 (R295) -/
  chainKeys : List (Nat × Nat × Nat) := []
  /-- elapsed time of the last accepted chain stop frame (R288) -/
  chainAt : Nat := 0
  /-- REP of the next chain stop frame of this module, and the elapsed time of its last one (R296) -/
  rep : Nat := 0
  sentAt : Option Nat := none
  /-- the NOR copy of STOP_CNT (R294) -/
  norCnt : Nat := 0
  deriving DecidableEq, Repr
/-! ### Ethernet and the site chain (chapter 12) -/

/-- One address the switch has learned (R311): MAC address, port, elapsed time of the last frame. -/
structure Learned where
  mac : Nat
  port : Nat
  at_ : Nat
  deriving DecidableEq, Repr

/-- What the hub holds of one external port beside its registers. Times are elapsed ns, PTP times ps of site time. -/
structure EthPort where
  /-- the last HELLO heard and the last sent (R325) -/
  helloAt : Nat := 0
  helloSent : Option Nat := none
  /-- TYPE_ID of the last HELLO heard -/
  helloType : Nat := 0
  /-- the verify attempt in progress: its start, and attempts failed (R312) -/
  verifyAt : Nat := 0
  verifyN : Nat := 0
  /-- intervals in which pause has been honoured, newest first (R314), and since when pause is ignored -/
  pauses : List (Nat × Nat) := []
  ignAt : Nat := 0
  /-- link delay measurement (R317): sequence number and egress time of the last Pdelay_Req, when it was sent, a two-step
  answer awaiting its follow-up (t4, t2 and correction), and the last measurements in ps, newest first, at most 8 -/
  pdSeq : Nat := 0
  pdT1 : Option Int := none
  pdAt : Option Nat := none
  pdTwo : Option (Int × Int × Int) := none
  delays : List Int := []
  deriving DecidableEq, Repr

/-- The best Announce heard (R319): its dataset, the sender's port identity, the port and elapsed time of arrival. -/
structure Announce where
  /-- priority1, class, accuracy, variance, priority2 and grandmaster identity, as one number in that order -/
  rank : Nat
  steps : Nat
  src : Nat
  port : Nat
  at_ : Nat
  deriving DecidableEq, Repr

/-- The ordinary clock on port 2 (R319 to R321). -/
structure PtpClock where
  best : Option Announce := none
  /-- since when the clock has waited for an Announce -/
  since : Nat := 0
  /-- a two-step Sync awaiting its Follow_Up: sequence number, receipt in ps, correction in ps -/
  two : Option (Nat × Int × Int) := none
  /-- t1 and t2 of the last Sync, and sequence number and t3 of the last Delay_Req, in ps -/
  sync : Option (Int × Int) := none
  dreq : Option (Nat × Int) := none
  syncSeq : Nat := 0
  annSeq : Nat := 0
  dreqSeq : Nat := 0
  syncAt : Option Nat := none
  annAt : Option Nat := none
  dreqAt : Option Nat := none
  deriving DecidableEq, Repr

/-- A discovery of this module in progress (R327): its command, REQ_ID, start and the entries collected. -/
structure Discovery where
  sid : Nat
  seq : Nat
  reqId : Nat
  at_ : Nat
  entries : List (List Byte) := []
  deriving DecidableEq, Repr

/-- The Ethernet block. -/
structure Eth where
  table : List Learned := []
  ports : Tbl EthPort := []
  ptp : PtpClock := {}
  disc : List Discovery := []
  /-- The gateway's MAC address as ARP resolved it (R310). -/
  gateway : Option Nat := none
  deriving DecidableEq, Repr

/-! ### Metering (chapter 13) -/

/-- One harmonic window of a point (R343, R344): end, frequency in 0.01 Hz, of each channel twice the squares of its group values, in
2^-16 mV² or mA², and over the window the rms of every channel, mV or mA, and the mean P and Q of each phase, W and var. -/
structure MtrWindow where
  at_ : Nat
  freq : Nat
  groups : List (List Nat)
  rms : List Nat := []
  pW : List Int := []
  qVar : List Int := []
  deriving DecidableEq, Repr

/-- A channel's front end (R336, R337): the integrators and differences of its decimator; its last bit and the clocks since a transition;
samples in a row at saturation; the high-pass filter's last input and output, 2^-40 of full scale; filtered samples and samples
after the delay, newest first, 2^-23 of full scale; and the elapsed time at which it was last saturated or without data. -/
structure MtrChan where
  i1 : Nat := 0
  i2 : Nat := 0
  i3 : Nat := 0
  z1 : Nat := 0
  z2 : Nat := 0
  z3 : Nat := 0
  last : Bool := false
  idle : Nat := 0
  sat : Nat := 0
  x1 : Int := 0
  y1 : Int := 0
  y : List Int := []
  out : List Int := []
  badAt : Nat := 0
  deriving DecidableEq, Repr

/-- What the metering engine holds of one point. Energy is in units of 2^-46 µW × 125 µs, exactly. Channels are numbered as
in Table 13-1, phases 0 to 2. -/
structure MtrPoint where
  /-- samples of the present second; sums of squares per channel, in 2^-46 mV² or mA² -/
  n : Nat := 0
  sq : Tbl Nat := []
  /-- energy of the present second (index 4 × phase + 2 × quantity + direction) and the remainders below 1 mWh (index of R342) -/
  work : Tbl Nat := []
  rem : Tbl Nat := []
  /-- readings of the last whole second: frequency in 0.01 Hz; rms in mV or mA; W; var; VA -/
  freq : Nat := 0
  freqBad : Bool := false
  rms : Tbl Nat := []
  pW : Tbl Int := []
  qVar : Tbl Int := []
  sVa : Tbl Nat := []
  /-- whole seconds in a row in which a criterion of Table 13-3 has held, and in which it has been clear: phases 0 to 2, DEAD 3,
  REVERSE 4 -/
  faultIn : Tbl Nat := []
  faultOut : Tbl Nat := []
  /-- windows in a row with the criterion of SEQ, and clear of it; since when NEUTRAL has held, or has been clear -/
  seqIn : Nat := 0
  seqOut : Nat := 0
  neuIn : Option Nat := none
  neuOut : Option Nat := none
  /-- the front end of each channel; a channel shown with a fault: 1 saturated, 2 no data -/
  channels : Tbl MtrChan := []
  chan : Tbl Nat := []
  /-- active import energy of the demand interval; demand of the last interval and the highest, W -/
  demE : Nat := 0
  demLast : Nat := 0
  maxDem : Nat := 0
  /-- samples of the present harmonic window, their sums of squares per channel and their energy (indexed as `work`); the last 15
  windows, newest first -/
  nW : Nat := 0
  sqW : Tbl Nat := []
  workW : Tbl Nat := []
  windows : List MtrWindow := []
  deriving DecidableEq, Repr

/-- A pulse output (R348, R349): A × one kWh in the energy unit, pulses queued, elapsed time of the last leading edge. -/
structure PulseOut where
  acc : Nat := 0
  queue : Nat := 0
  lastEdge : Option Nat := none
  deriving DecidableEq, Repr

/-- A NOR copy of the accumulators (R353): sequence number, site time T_S, kind (0 periodic, 1 planned, 2 emergency) and the
accumulators (index 24 × point + index of R342). -/
structure EnergyCopy where
  seq : Nat
  ts : Nat
  kind : Nat
  acc : Tbl Nat
  deriving DecidableEq, Repr

/-- The metering engine. -/
structure Mtr where
  points : Tbl MtrPoint := []
  running : Bool := false
  /-- the last whole second of site time taken, and whether one has been taken since the start -/
  second : Nat := 0
  taken : Bool := false
  /-- the demand interval: start in site time and in elapsed time, flags of Table 13-2 -/
  intStart : Nat := 0
  intEl : Nat := 0
  intFlags : Nat := 0
  pulses : Tbl PulseOut := []
  /-- the accumulators in hub SRAM (R352) -/
  mirror : Tbl Nat := []
  /-- elapsed time of the last start of metering -/
  startEl : Nat := 0
  /-- a recovery record that waits for its end time: kind and start of the unmetered span (R355); none for no span -/
  recover : Option (Nat × Option Nat) := none
  /-- the last multiple of 900 s copied; elapsed time of a failed copy (R353) -/
  copyIdx : Nat := 0
  retry : Option Nat := none
  /-- site time at which the front end stopped for a change of CLK_SEL or WIREn -/
  restart : Option Nat := none
  deriving DecidableEq, Repr

/-! ### Lanes (chapter 14) -/

/-- The lanes' state beside LAN registers. Lane 0 is Lane A and lane 1 Lane B; times are elapsed ns. -/
structure Lan where
  /-- events of lane origin held during a switch-over (R373) -/
  heldEvents : List HeldEvent := []
  /-- the outputs of each engine with the present cause number, and that number (R367) -/
  tagCause : Nat := 0
  tagIdx : Tbl Nat := []
  /-- the lanes' tagged outputs since the last boundary input (R368) -/
  span : List LaneOut := []
  /-- whether a lane has taken every input since the last boundary, and the digest of it that awaits its comparison: superframe and D
  (R368, R369) -/
  whole : Tbl Bool := []
  digests : Tbl (Option (Nat × Nat)) := []
  /-- zero of the switch-over in progress (R373) -/
  switchAt : Nat := 0
  /-- a commanded switch is waiting for an agreeing digest (R376) -/
  commanded : Bool := false
  /-- entries to FAILED of each lane, newest first (R366) -/
  fails : Tbl (List Nat) := []
  /-- the last reset of each lane -/
  resetAt : Tbl Nat := []
  /-- the pre-copy of the racking lane has ended (R379) -/
  precopied : Bool := false
  /-- start of the rescrub after a first mismatch (R377) -/
  rescrub : Option Nat := none
  /-- the first mismatch of the present window -/
  window : Option Nat := none
  /-- level of the last mismatch while MISMATCH is in force, and agreeing digests since the second lane came back (R377) -/
  misLevel : Nat := 0
  agreed : Option Nat := none
  /-- corrected errors injected into each lane and not yet found by its scrub (R515) -/
  injected : Tbl Nat := []
  /-- an input of a lane was discarded poisoned, towards this engine: its next input shows the gap (Table 15-3) -/
  gap : Tbl (Option Nat) := []
  /-- an output of a lane was discarded poisoned and enters no digest (Table 15-3) -/
  lost : Tbl Bool := []
  deriving DecidableEq, Repr

/-! Lane states (Table 14-1). -/
def laneStRESET : Nat := 0
def laneStSELFTEST : Nat := 1
def laneStRACKING : Nat := 2
def laneStCHECKING : Nat := 3
def laneStSHADOW : Nat := 4
def laneStACTIVE : Nat := 5
def laneStFAILED : Nat := 6
def laneStRETIRED : Nat := 7
def laneStCOLD : Nat := 8

/-! ### The timetable sequencers (chapter 01) -/

/-- One step of a timetable as the step memory holds it: the 64-bit word of Table 1-4 and its SECDED check bits (R18). -/
structure StepWord where
  word : BitVec 64
  check : BitVec 8
  deriving DecidableEq, Repr

/-- The position of one engine's sequencer: the step being executed, the steps issued since the engine's last reset modulo 2^32,
and the elapsed time at which both were last taken down (R19, R20). -/
structure Sequencer where
  step : Nat := 0
  count : Nat := 0
  at_ : Nat := 0
  deriving DecidableEq, Repr

/-- The sequencers, under die × 256 + engine ID (Table 1-5; die 0 hub, 1 Lane A, 2 Lane B). -/
structure Engines where
  /-- generation numbers (R395); those of a lane engine stand once, under 0x100 + engine ID, for both lanes -/
  gen : Tbl Nat := []
  /-- the timetable loaded into each engine's step memory (R18) -/
  steps : Tbl (List StepWord) := []
  seqs : Tbl Sequencer := []
  deriving DecidableEq, Repr

/-! ### Queues, scheduler and arbiters (chapter 15) -/

/-- A packet in a queue: the fields of its header word (Table 15-2), and the errors that the test block has placed in it. -/
structure QPacket where
  len : Nat
  more : Bool := false
  gen : Nat := 0
  engine : Nat := 0
  seq : Nat := 0
  /-- words with an injected error not yet read, and whether two bits of each are inverted (R515) -/
  hurt : Nat := 0
  hurt2 : Bool := false
  /-- elapsed time from which its reader sees it: a queue delay of the test block puts it off (R512) -/
  ready : Nat := 0
  deriving DecidableEq, Repr

/-- One queue (R387 to R393). -/
structure Queue where
  /-- committed packets of the fill bank and packets of the drain bank, oldest first -/
  fill : List QPacket := []
  drain : List QPacket := []
  /-- the bank being filled, and whether each bank was written in SECDED mode -/
  bank : Nat := 0
  fillEcc : Bool := false
  drainEcc : Bool := false
  /-- packets of a writer that found no room and waits (R385), and since when the queue has been full (elapsed ns) -/
  wait : List QPacket := []
  full : Option Nat := none
  /-- an automatic change to SECDED has been made -/
  auto_ : Bool := false
  parErr : Nat := 0
  corr : Nat := 0
  poison : Nat := 0
  staleGen : Nat := 0
  commits : Nat := 0
  rewinds : Nat := 0
  deriving DecidableEq, Repr

/-- A work item (R398 to R404). Times are site time in ns. -/
structure WorkItem where
  /-- order of admission -/
  id : Nat
  flow : Nat
  flags : Nat := 0
  mask : Nat := 0
  all : Bool := false
  /-- the item waits on flags -/
  waiting : Bool := false
  timeout : Option Nat := none
  /-- on a siding: its index and due instant -/
  siding : Option (Nat × Nat) := none
  /-- admitted: it holds an entry of the release buffer; an item that found the window full waits at admission -/
  admitted : Bool := true
  /-- it became ready with status TIMEOUT -/
  timedOut : Bool := false
  deriving DecidableEq, Repr

/-- The hardware scheduler of the lanes. -/
structure Sch where
  items : List WorkItem := []
  nextId : Nat := 0
  /-- elapsed time of the last EV_SCH_WINDOW (R399) -/
  windowAt : Option Nat := none
  deriving DecidableEq, Repr

/-- A token arbiter (R405 to R408). -/
structure TokenArb where
  owner : Option Nat := none
  /-- requesters pending, without the owner -/
  pending : List Nat := []
  /-- effective priority above the base priority, and transfers taken away in a row, per requester -/
  extra : Tbl Nat := []
  takenRun : Tbl Nat := []
  /-- the owner has dropped its request and a stretch holds the token until this elapsed time (R516) -/
  stretch : Option Nat := none
  deriving DecidableEq, Repr

/-- The arbiters: the token arbiters, and the demand of each power requester at the last evaluation. -/
structure Arb where
  mat : TokenArb := {}
  dram : TokenArb := {}
  deriving DecidableEq, Repr


/-! ### Keys, tamper and update (chapter 16) -/

/-- Fuses: identity and limited-change settings (R15, R428). A fused value of a particular unit is the model's own 0. -/
structure Fuses where
  unitId : Nat := 0
  mac : Nat := 0
  /-- enrolment public key X ‖ Y, byte by byte -/
  epub : Tbl Byte := []
  /-- image-verification public key X ‖ Y -/
  imageKey : Nat := 0
  siteId : Nat := 0
  siteLeft : Nat := 4
  ownerId : Nat := 0
  ownerLeft : Nat := 1
  sealCrc : Nat := 0
  sealLeft : Nat := 16
  floor : Nat := 0
  floorLeft : Nat := 64
  deriving DecidableEq, Repr

/-- The key store beside SEC registers. -/
structure Sec where
  /-- key of each slot, as a number of up to 256 bits; an empty slot holds 0 (its usage is in SEC_SLOT) -/
  keys : Tbl Nat := []
  /-- the 256-bit mask the slots are stored under, and when it was drawn (R422) -/
  mask : Nat := 0
  maskAt : Nat := 0
  /-- the slot address scramble of this hub start (R422) -/
  scramble : Nat := 0
  /-- tamper sources whose condition holds (R419): a condition of the world, kept through every reset -/
  live : Nat := 0
  /-- tamper responses whose rest waits for the wake from Dormant or for the next hub start (R420): causes, RS_STATE before,
  TEMP, site time of the cause -/
  late : List (Nat × Nat × Nat × Nat) := []
  deriving DecidableEq, Repr

/-- What is known of an image in a NOR bank. -/
structure BankImage where
  vintage : Nat
  setFmt : Nat
  /-- the image is staged: written and verified, and not yet started by a decant -/
  staged : Bool := false
  /-- the bytes of the bank -/
  bytes : Tbl Byte := []
  deriving DecidableEq, Repr

/-- A boot record (R440). -/
structure BootRec where
  seq : Nat
  bank : Nat
  confirmed : Bool
  tries : Nat := 0
  deriving DecidableEq, Repr

/-- A transfer into the image buffer (R432, R437): source 0 host, 1 port 0, 2 port 1. -/
structure Transfer where
  id : Nat
  source : Nat
  length : Nat
  relay : Bool
  origin : Nat := 0
  /-- what is held: words of 4 bytes of a host transfer, chunks of 1,024 bytes of a chain transfer -/
  held : Tbl Bool := []
  /-- elapsed time of the last chunk, and of the last chunk or STATUS -/
  lastAt : Nat
  statusAt : Nat := 0
  deriving DecidableEq, Repr

/-- A relay of an image out of one port (R435 to R438): STATUS rounds without a new chunk, chunks missing at the last one, and
the BUSY answers: since when, and the last try. -/
structure Relay where
  active : Bool := false
  rounds : Nat := 0
  missing : Nat := 0
  busySince : Option Nat := none
  lastTry : Nat := 0
  deriving DecidableEq, Repr

/-- A pending decant schedule (R442). -/
structure Schedule where
  id : Nat
  origin : Nat
  chain : Bool
  expected : Nat
  td : Nat
  vintage : Nat
  acceptedAt : Nat
  acks : Nat := 0
  nak : Option Nat := none
  /-- held: the vote is over and the schedule stands -/
  held : Bool := false
  /-- ports that showed NBR_OK at scheduling, bit per port -/
  nbr : Nat := 0
  deriving DecidableEq, Repr

/-- The update logic beside UPD registers. -/
structure Upd where
  /-- the transfer in progress, being verified or being written -/
  xfer : Option Transfer := none
  /-- the 24 MiB image buffer in the hub DRAM partition -/
  buf : Tbl Byte := []
  xferSeq : Nat := 0
  banks : Tbl (Option BankImage) := [(0, some { vintage := 0, setFmt := 0 })]
  /-- boot records, newest first -/
  boot : List BootRec := [{ seq := 0, bank := 0, confirmed := true }]
  /-- the image that the running hub was started from, before confirmation -/
  unconfirmed : Bool := false
  /-- vintage and SET_FMT of the last confirmed image (R445) -/
  oldVintage : Nat := 0
  oldFmt : Nat := 0
  relays : Tbl Relay := []
  /-- ORIGIN, XFER_ID and number of chunks of the image being relayed -/
  relayOf : Nat × Nat × Nat := (0, 0, 0)
  stagedXfer : Option Nat := none
  sched : Option Schedule := none
  schedSeq : Nat := 0
  /-- an accepted UPD_DECANT: its decant instant -/
  decantAt : Option Nat := none
  /-- keys of DECANT frames handled (R442) -/
  seen : List (Nat × Nat × Nat × Nat) := []
  recovery : Bool := false
  deriving DecidableEq, Repr


/-! ### The cellar book (chapter 17) -/

/-- A record on its way to the cellar book (R449, R450): type, payload, time of the cause in µs and LATE. -/
structure Rec where
  type : Nat
  payload : List Byte
  timeUs : Nat
  late : Bool := false
  deriving DecidableEq, Repr

/-- What stands in a sector of the cellar book: a whole record, or a span that cannot be read (R456, R457). -/
inductive NorItem where
  /-- a record with a passing CRC: its SEQ and bytes -/
  | good (seq : Nat) (bytes : List Byte)
  /-- a damaged span: its length, its kind (0 damaged, 1 torn) and whether it has been reported -/
  | bad (length kind : Nat) (found : Bool)
  deriving DecidableEq, Repr

/-- One sector in use (R451): bytes used, the sector header with its erase count, and its contents in order. -/
structure Sector where
  /-- next free byte -/
  used : Nat := 16
  first : Nat := 0
  erases : Nat := 0
  items : List NorItem := []
  deriving DecidableEq, Repr

/-- The cellar book controller beside CBK registers. -/
structure Cbk where
  /-- records in Q37, oldest first -/
  q : List Rec := []
  /-- records that have taken a SEQ since manufacture: SEQ of the next record, modulo 2^24 -/
  next : Nat := 0
  /-- circulating area: sectors in use, oldest first, and erased sectors left of 176 -/
  circ : List Sector := []
  erased : Nat := 176
  /-- sectors taken into use since manufacture -/
  taken : Nat := 0
  /-- permanent area: sectors in use, oldest first, of 16 -/
  perm : List Sector := []
  /-- the newest cleared SEQ; none when nothing has been cleared (R460) -/
  cleared : Option Nat := none
  /-- recording is frozen: records buffered meanwhile (R454) -/
  buf : List (Nat × Rec) := []
  /-- elapsed time of the last CBK_FREEZE, site time of the start of the freeze, records dropped -/
  frozenAt : Nat := 0
  frozenTime : Nat := 0
  droppedN : Nat := 0
  /-- a reset of the hub has lost a freeze and its buffer (R455) -/
  freezeLost : Bool := false
  deriving DecidableEq, Repr

/-! ### Supply, power states and resets (chapter 18) -/

/-- The power states of Table 18-2, with the steps between them. -/
inductive PowerState where
  | off | backup
  /-- powered, the hub in reset or starting (Table 18-5) -/
  | starting
  | run | doze
  /-- from the acceptance of Dormant until its entry completes (R472) -/
  | entering
  | dormant
  deriving DecidableEq, Repr

/-- The VBAT domain (R15): kept through every reset and in Backup. -/
structure Vbat where
  /-- the 256-bit root secret; none in state BARE -/
  rs : Option Nat := none
  stopCnt : Option Nat := some 0
  /-- the always-on seconds counter: whole TAI seconds, none while it is not valid (R99) -/
  secs : Option Nat := none
  /-- how far it is into its second, in cycles of 4 ns of XAON's nominal rate -/
  frac : Nat := 0
  /-- latched tamper causes -/
  causes : Nat := 0
  brownouts : Nat := 0
  /-- the dip record kept over a brown-out: lowest VIN, time below VIN_WARN, flags (R483) -/
  dip : Option (Nat × Nat × Nat) := none
  /-- the sequence number of the newer of the two copies of the energy accumulators (R352) -/
  accSeq : Nat := 0
  /-- the older copy (R352): sequence number, accumulators, time and T_CUT -/
  accOld : Option (Nat × Tbl Nat × Nat × Option Nat) := none
  /-- the newer copy (R352): the accumulators of both points -/
  acc : Tbl Nat := []
  accValid : Bool := false
  /-- site time of its update, and T_CUT (R354) -/
  accTime : Nat := 0
  tCut : Option Nat := none
  deriving DecidableEq, Repr

/-- The power block beside PWR registers. -/
structure Pwr where
  state : PowerState := .starting
  /-- the hub has started: it serves commands outside Dormant -/
  hubReady : Bool := false
  /-- elapsed time of the hub start -/
  hubStartAt : Nat := 0
  /-- elapsed time of the last reset of the hub -/
  resetAt : Nat := 0
  /-- a brown-out has happened and VIN has not fallen below 2.5 V since (Table 18-3) -/
  brown : Bool := false
  /-- the SUPPLY source was put in force by a condition that still holds -/
  supplyOn : Bool := false
  /-- the reset kind of the next hub start (Table 18-3) -/
  kind : Nat := 0
  /-- a HUB_RST write accepted, to act once its reply has left (R478) -/
  rstReq : Bool := false
  /-- SET_POWER_STATE to Dormant has been accepted; entry begins once its reply has left (R472) -/
  entryDue : Bool := false
  /-- RESET_N is low -/
  resetHeld : Bool := false
  /-- acceptance of Dormant and its completion, elapsed ns -/
  enterAt : Nat := 0
  dormantAt : Nat := 0
  /-- wake sources latched, as PWR_WAKE_SRC shows them -/
  wake : Nat := 0
  /-- VIN below VIN_WARN since (elapsed ns), with the lowest VIN; since when VIN has been back at VIN_WARN -/
  dipSince : Option Nat := none
  dipMin : Nat := 0
  aboveAt : Option Nat := none
  /-- VSYS at the reset level since (elapsed ns) -/
  lowAt : Option Nat := none
  /-- REFCLK lost since; VOUT_3V3 off since -/
  refLostAt : Option Nat := none
  voutOffAt : Option Nat := none
  /-- AVFS per lane: readings in a row at or above TARGET + 5 %, and readings in a row below ALARM at code 40 -/
  high : Tbl Nat := []
  low : Tbl Nat := []
  deriving DecidableEq, Repr

/-! ### The TST block (chapter 20) -/

/-- The test perturbation block beside TST registers. -/
structure Tst where
  unlocked : Bool := false
  /-- elapsed time at which REMAIN reaches 0 -/
  until_ : Nat := 0
  /-- errors and corruptions armed and not yet placed -/
  errLeft : Nat := 0
  crcLeft : Nat := 0
  /-- GO of TST_CRC has been written, to arm once the reply has left -/
  crcDue : Bool := false
  /-- the 16-bit LFSR of slot jitter (R514) -/
  lfsr : Nat := 1
  deriving DecidableEq, Repr

/-! ### NOR settings (R434) -/

/-- The NOR settings that are register fields, in settings area A and in its mirror, area B: the saved value of each register and
the sequence number of each copy. -/
structure Nor where
  regs : Tbl Word := []
  /-- sequence number of the copy in area A -/
  seq : Nat := 0
  /-- the copy in area B -/
  regsB : Tbl Word := []
  seqB : Nat := 0
  /-- the site demand cap, kW (R361) -/
  capKw : Nat := 0
  /-- the energy rings, newest copy first, at most 128 (R353) -/
  energy : List EnergyCopy := []
  energySeq : Nat := 0
  deriving DecidableEq, Repr

/-! ### The whole machine -/

/-- Why the module stops. -/
inductive Fault where
  /-- No command raises it: the spec gives every command of the table an effect on the module. Safe. -/
  | unreached
  deriving DecidableEq, Repr

/-- Why the model gives a command no meaning. -/
inductive Refusal where
  /-- A command with no meaning yet, by its mnemonic; raised by a refused arm of the dispatch. Safe. -/
  | notModelled (mnemonic : String)
  deriving DecidableEq, Repr

/-- The state of the module. -/
structure State where
  /-- the commands that are waiting, first in, first out -/
  pending : List Instr := []
  /-- the model's own counter of free values -/
  free : Nat := 0
  /-- what has left the module, oldest first -/
  outs : List Output := []
  /-- every register of Table 20-1, under its address; an unlisted one holds its reset value -/
  regs : Tbl Word := []
  /-- the shared DRAM partition (R521) -/
  dram : List Host.Cell := []
  pins : Pins := {}
  time : TimeSt := {}
  svb : Svb := {}
  eng : Engines := {}
  sky : Sky := {}
  rtk : Rtk := {}
  snp : Snp := {}
  sbx : Sbx := {}
  alt : Alt := {}
  ttb : Ttb := {}
  stp : Stp := {}
  rad : Rad := {}
  eth : Eth := {}
  mtr : Mtr := {}
  que : Tbl Queue := []
  sch : Sch := {}
  arb : Arb := {}
  lan : Lan := {}
  fuses : Fuses := {}
  sec : Sec := {}
  upd : Upd := {}
  cbk : Cbk := {}
  pwr : Pwr := {}
  vbat : Vbat := {}
  tst : Tst := {}
  nor : Nor := {}
  deriving DecidableEq, Repr

/-- The module right after reset. -/
def State.reset : State := {}

end Sys2Proof.Machine
end

