-- ==== Sys2Proof/Machine/Store.lean ====
section
/-! DEFINITION. The named operations over indexed state, registers, bytes and the shared DRAM partition. -/

namespace Sys2Proof

/-- The value held at index `k`; an index not listed holds the default `d`. -/
def Tbl.get {α : Type} (d : α) : Tbl α → Nat → α
  | [], _ => d
  | (i, v) :: t, k => if i = k then v else Tbl.get d t k

/-- `t` with the value `v` at index `k`, listed in order. -/
def Tbl.insert {α : Type} : Tbl α → Nat → α → Tbl α
  | [], k, v => [(k, v)]
  | (i, u) :: t, k, v =>
    if k < i then (k, v) :: (i, u) :: t
    else if i = k then (k, v) :: t
    else (i, u) :: Tbl.insert t k v

/-- `t` with the value `v` at index `k`; a value equal to the default is not listed. -/
def Tbl.put {α : Type} [DecidableEq α] (d : α) (t : Tbl α) (k : Nat) (v : α) : Tbl α :=
  if v = d then t.filter (fun p => p.1 != k) else t.insert k v

/-- The canonical form of a table: indexes strictly rising and no value equal to the default. -/
def Tbl.wf {α : Type} [DecidableEq α] (d : α) : Tbl α → Bool
  | [] => true
  | (i, v) :: t => decide (v ≠ d) && t.all (fun p => decide (i < p.1)) && Tbl.wf d t

/-- The number a list of bytes spells, lowest byte first (R7). -/
def leNat : List Byte → Nat
  | [] => 0
  | b :: t => b.toNat + 256 * leNat t

/-- The number in `n` bytes of a payload from offset `o`; bytes beyond the end count 0. -/
def rdN (p : List Byte) (o n : Nat) : Nat := leNat ((p.drop o).take n)

/-- The two's complement value of the low `bits` bits of `v`. -/
def signed (bits v : Nat) : Int :=
  if v % 2 ^ bits < 2 ^ (bits - 1) then (v % 2 ^ bits : Nat) else (v % 2 ^ bits : Nat) - (2 ^ bits : Nat)

/-- The signed number in `n` bytes of a payload from offset `o`. -/
def rdI (p : List Byte) (o n : Nat) : Int := signed (8 * n) (rdN p o n)

/-- `v` in `n` bytes, lowest byte first, modulo 256^n (R7). -/
def le : Nat → Nat → List Byte
  | 0, _ => []
  | n + 1, v => BitVec.ofNat 8 v :: le n (v / 256)

/-- `v` in `n` bytes, highest byte first, for Ethernet and PTP headers (R7). -/
def be (n v : Nat) : List Byte := (le n v).reverse

/-- The number a list of bytes spells, highest byte first. -/
def beNat (p : List Byte) : Nat := leNat p.reverse

/-- The two's complement bits of `v` in `bits` bits. -/
def twos (bits : Nat) (v : Int) : Nat := (v % (2 ^ bits : Nat)).toNat

/-- `v` in `n` bytes of two's complement, lowest byte first. -/
def leI (n : Nat) (v : Int) : List Byte := le n (twos (8 * n) v)

/-- `n` zero bytes: a reserved span. -/
def zeros (n : Nat) : List Byte := List.replicate n 0

/-- `v` held within [lo, hi]. -/
def clampN (lo hi v : Nat) : Nat := max lo (min hi v)

/-- `v` held within [lo, hi]. -/
def clampI (lo hi v : Int) : Int := max lo (min hi v)

/-- `v` held within the range of an int32. -/
def satI32 (v : Int) : Int := clampI (-2147483648) 2147483647 v

/-- A setting whose value 0 acts as 1. -/
def orOne (v : Nat) : Nat := if v = 0 then 1 else v

/-- Bit `i` of `v`. -/
def bit (v i : Nat) : Bool := v.testBit i

/-- `v` with bit `i` set to `b`. -/
def withBit (v i : Nat) (b : Bool) : Nat := if v.testBit i = b then v else v ^^^ (2 ^ i)

/-- The number of bits set among the low `n` bits of `v`. -/
def popCount : Nat → Nat → Nat
  | 0, _ => 0
  | n + 1, v => v % 2 + popCount n (v / 2)

def b2n (b : Bool) : Nat := if b then 1 else 0

/-- The integer square root: the largest r with r² ≤ n, found bit by bit from 2^k down. -/
def isqrtFrom : Nat → Nat → Nat → Nat
  | 0, r, n => if (r + 1) * (r + 1) ≤ n then r + 1 else r
  | k + 1, r, n => if (r + 2 ^ (k + 1)) * (r + 2 ^ (k + 1)) ≤ n then isqrtFrom k (r + 2 ^ (k + 1)) n else isqrtFrom k r n

/-- The largest r with r² ≤ n, for n below 2^256. -/
def isqrt (n : Nat) : Nat := isqrtFrom 127 0 n

/-- `a` put into a sorted list before the first element it precedes. -/
def insertBy {α : Type} (before : α → α → Bool) (a : α) : List α → List α
  | [] => [a]
  | b :: t => if before a b then a :: b :: t else b :: insertBy before a t

/-- A list in an order; equal elements keep their places. -/
def sortBy {α : Type} (before : α → α → Bool) : List α → List α
  | [] => []
  | a :: t => insertBy (fun x y => !before y x) a (sortBy before t)

/-- `a / b` rounded up. -/
def ceilDiv (a b : Nat) : Nat := (a + b - 1) / b

namespace Machine

/-- The row of the register map that holds a register address; none for an unmapped address (R508). -/
def regRow (a : Nat) : Option RegRow :=
  (blockRows a).find? fun r =>
    decide (r.base ≤ a) && (a - r.base) % r.stride == 0 && decide ((a - r.base) / r.stride < r.count)

/-- The reset value of a register (Table 20-1 and the register tables); 0 for an unmapped address. -/
def regReset (a : Nat) : Word :=
  match regRow a with
  | some r => BitVec.ofNat 32 r.reset
  | none => 0

/-- The value of register `a`. -/
def State.reg (s : State) (a : Nat) : Word := Tbl.get (regReset a) s.regs a

/-- `s` with register `a` holding `v`. -/
def State.setReg (s : State) (a : Nat) (v : Word) : State := { s with regs := Tbl.put (regReset a) s.regs a v }

/-- The value of field `f` in a word. -/
def fldOf (f : Fld) (v : Nat) : Nat := v / 2 ^ f.lo % 2 ^ f.width

/-- The word `old` with field `f` holding `v`, modulo the field's width. -/
def fldIn (f : Fld) (old v : Nat) : Nat :=
  old / 2 ^ (f.lo + f.width) * 2 ^ (f.lo + f.width) + v % 2 ^ f.width * 2 ^ f.lo + old % 2 ^ f.lo

/-- The value of field `f`. -/
def State.fld (s : State) (f : Fld) : Nat := fldOf f (s.reg f.addr).toNat

/-- Whether the lowest bit of field `f` is 1. -/
def State.flag (s : State) (f : Fld) : Bool := s.fld f % 2 == 1

/-- `s` with field `f` holding `v`, modulo the field's width. -/
def State.setFld (s : State) (f : Fld) (v : Nat) : State :=
  s.setReg f.addr (BitVec.ofNat 32 (fldIn f (s.reg f.addr).toNat v))

/-- `s` with field `f` one greater, holding at its largest value. -/
def State.satInc (s : State) (f : Fld) : State := s.setFld f (min (s.fld f + 1) (2 ^ f.width - 1))

/-- `s` with field `f` greater by `n`, holding at its largest value. -/
def State.satAdd (s : State) (f : Fld) (n : Nat) : State := s.setFld f (min (s.fld f + n) (2 ^ f.width - 1))

/-- `s` with field `f` one greater, modulo its width. -/
def State.incFld (s : State) (f : Fld) : State := s.setFld f (s.fld f + 1)

/-- `s` with every register of a list back at its reset value. -/
def State.resetRegs (s : State) (as : List Nat) : State := as.foldl (fun t a => t.setReg a (regReset a)) s

/-- The byte of the shared DRAM partition at an offset (R521). -/
def State.dramByte (s : State) (o : Nat) : Byte := Tbl.get 0 s.dram o

/-- `n` bytes of a byte table from offset `o`. -/
def bytesAt (m : Tbl Byte) : Nat → Nat → List Byte
  | _, 0 => []
  | o, n + 1 => Tbl.get 0 m o :: bytesAt m (o + 1) n

/-- A byte table with the bytes `bs` stored from offset `o`. -/
def storeAt (m : Tbl Byte) (o : Nat) : List Byte → Tbl Byte
  | [] => m
  | b :: t => storeAt (Tbl.put 0 m o b) (o + 1) t

/-- `s` with bytes stored in the shared DRAM partition from offset `o`; the partition ends at offset 0x07FF_FFFF (R521), and no
byte is stored beyond it. -/
def State.dramStore (s : State) (o : Nat) (bs : List Byte) : State := { s with dram := storeAt s.dram o (bs.take (0x08000000 - o)) }

end Machine

end Sys2Proof
end

