-- ==== Sys2Proof/Machine/Flags.lean ====
section
/-! DEFINITION. Event flags and interrupt lines: the event sources (Table 15-6), raising an event, its packets
(R56, R57), the pending and enable bits and the pins IRQ0_N and IRQ1_N (R413, R414). -/

namespace Sys2Proof

/-! The numbers of the event sources (R412, Table 15-6). -/
namespace Ev
def sysDramFence : Nat := 0
def sysSvbAuth : Nat := 1
def sysSvbOut : Nat := 2
def sysSvbIdle : Nat := 3
def sysEngine : Nat := 4
def queParity : Nat := 5
def queSecded : Nat := 6
def quePoison : Nat := 7
def schFlow : Nat := 8
def schWindow : Nat := 9
def arbStarve : Nat := 10
def arbPwr : Nat := 11
def pwrWarn : Nat := 12
def pwrState : Nat := 13
def pwrAvfs : Nat := 14
def pwrTemp : Nat := 15
def skyEpoch : Nat := 16
def skyNav : Nat := 17
def skyAnt : Nat := 18
def skyGrade : Nat := 19
def skySpoof : Nat := 20
def skyItf : Nat := 21
def timState : Nat := 22
def timStep : Nat := 23
def timOffset : Nat := 24
def timIn : Nat := 25
def rtkAlert : Nat := 26
def rtkResid : Nat := 27
def rtkClass : Nat := 28
def rtkIntake : Nat := 29
def rtkLate : Nat := 30
def rtkShed : Nat := 31
def rtkBase : Nat := 32
def snpDone : Nat := 33
def snpQfull : Nat := 34
def sbxDeadlock : Nat := 35
def sbxHold : Nat := 36
def sbxMap : Nat := 37
def sbxZone : Nat := 38
def sbxWithdraw : Nat := 39
def altRound : Nat := 40
def altTask : Nat := 41
def altCharge : Nat := 42
def altLate : Nat := 43
def ttbOverrun : Nat := 44
def ttbLost : Nat := 45
def ttbCam : Nat := 46
def ttbLate : Nat := 47
def radLost : Nat := 48
def radPort : Nat := 49
def radGuard : Nat := 50
def radJoin : Nat := 51
def radAuth : Nat := 52
def radTable : Nat := 53
def radStoptag : Nat := 54
def stpStop : Nat := 55
def stpFault : Nat := 56
def stpSource : Nat := 57
def stpRelease : Nat := 58
def stpChain : Nat := 59
def ethLink : Nat := 60
def ethChain : Nat := 61
def ethPtp : Nat := 62
def ethPause : Nat := 63
def ethWake : Nat := 64
def mtrGap : Nat := 65
def mtrFault : Nat := 66
def mtrChan : Nat := 67
def mtrDemand : Nat := 68
def mtrPulse : Nat := 69
def lanDiag : Nat := 70
def lanSwitch : Nat := 71
def lanMismatch : Nat := 72
def lanRetire : Nat := 73
def lanRejoin : Nat := 74
def secTamper : Nat := 75
def secCask : Nat := 76
def secKeys : Nat := 77
def updImage : Nat := 78
def updRelay : Nat := 79
def updDecant : Nat := 80
def updSettings : Nat := 81
def cbkPerm : Nat := 82
def cbkErr : Nat := 83
def cbkClear : Nat := 84
def tstUnlock : Nat := 85
def tstLock : Nat := 86
def sysLc : Nat := 87

/-- The sources of class urgent (Table 15-6 and the event table of each block). -/
def urgent : List Nat :=
  [0, 7, 12, 15, 18, 20, 22, 23, 26, 27, 35, 36, 44, 45, 48, 49, 55, 56, 60, 65, 70, 71, 72, 73, 75, 80, 82, 85]

/-- Class 0 urgent, 1 normal (Table 2-11). -/
def cls (src : Nat) : Nat := if urgent.contains src then 0 else 1

/-- The sources raised by lane engines (Table 1-5): SCH, the matrix arbiter, RTK, SBX, ALT and TTB. -/
def ofLane (src : Nat) : Bool :=
  src == 8 || src == 9 || src == 10 || (26 ≤ src && src ≤ 32) || (35 ≤ src && src ≤ 47)

/-- The urgent sources as a 96-bit mask. -/
def urgentMask : Nat := urgent.foldl (fun m b => m + 2 ^ b) 0
end Ev

namespace Machine

/-! ### CRC-32C and packets -/

/-- One byte into a reflected Castagnoli CRC register (R31). -/
def crcByte (c : Nat) (b : Byte) : Nat :=
  let rec go : Nat → Nat → Nat
    | 0, x => x
    | n + 1, x => go n (if x % 2 = 1 then (x / 2) ^^^ 0x82F63B78 else x / 2)
  go 8 (c ^^^ b.toNat)

/-- CRC-32C of a span of bytes: initial value and final XOR 0xFFFF_FFFF (R31). -/
def crc32c (bs : List Byte) : Nat := bs.foldl crcByte 0xFFFFFFFF ^^^ 0xFFFFFFFF

/-- CMAC-64: AES-CMAC truncated to its first 64 bits (R32); the first byte of the tag is the lowest of the result. -/
def cmac64 (key : Nat) (msg : List Byte) : List Byte := le 8 ((Config.cmac key msg).toNat)

/-- A key of some bytes as one number, with a 1 above its last byte: keys of different lengths differ. -/
def keyOf (bs : List Byte) : Nat := leNat (bs ++ [1])

/-- The counter-mode KDF of SP 800-108 with AES-CMAC as the PRF, of `n` times 128 bits (R421). -/
def kdf (key : Nat) (label context : List Byte) (n : Nat) : List Byte :=
  ((List.range n).map fun i => le 16 (Config.cmac key (be 4 (i + 1) ++ label ++ [0] ++ context ++ be 4 (128 * n))).toNat).flatten

/-- A packet of the module (R30 to R32, Table 2-1): SESSION byte, SEQ, OPCODE and payload; with a key the tag is
appended and LENGTH counts it. -/
def packet (session seq opcode : Nat) (payload : List Byte) (key : Option Nat) : List Byte :=
  let n := payload.length + (if key.isSome then 8 else 0)
  let body := le 1 1 ++ le 1 session ++ le 2 seq ++ le 2 opcode ++ le 2 n ++ payload
  let body := match key with
    | some k => body ++ cmac64 k body
    | none => body
  [0xA5, 0x5E] ++ body ++ le 4 (crc32c body)

/-- The value a session has after a reset of the hub (R41): session 0 open at level C without authentication. -/
def Session.initial (sid : Nat) : Session := if sid = 0 then { isOpen := true, level := 1 } else {}

/-- The session under a SID. -/
def State.sess (s : State) (sid : Nat) : Session := Tbl.get (Session.initial sid) s.svb.sess sid

/-- The bytes of an output packet of a session, with its tag under `key` (R34, R56). -/
def packBody (sid : Nat) (key : Option Nat) : OutBody → List Byte
  | .reply seq op dup _ r =>
    packet (sid + 16 + (if dup then 32 else 0) + (if key.isSome then 128 else 0)) seq op (le 2 r.status ++ r.data) key
  | .event seq source cls dropped time detail =>
    packet (sid + 64 + (if key.isSome then 128 else 0)) seq 0x01FF
      (le 1 source ++ le 1 cls ++ le 2 dropped ++ le 8 time ++ detail) key

/-- The last `n` bytes of a span inverted (R517). -/
def invertTail (n : Nat) (bs : List Byte) : List Byte :=
  bs.take (bs.length - n) ++ (bs.drop (bs.length - n)).map (fun b => ~~~b)

/-- The bytes of an output packet, its CRC inverted when the test block corrupts it. -/
def packOut (sid : Nat) (p : OutPkt) : List Byte :=
  if p.bad then invertTail 4 (packBody sid p.key p.body) else packBody sid p.key p.body

/-- The key under which a packet of a session is tagged: every packet of an authenticated session, but for the reply to a
SESSION_OPEN and a reply outside the session (R32, R42). -/
def tagKey (ss : Session) : OutBody → Option Nat
  | .reply _ _ _ tagged _ => if tagged then some ss.key else none
  | .event .. => if ss.auth then some ss.key else none

/-- Whether a packet is an event packet. -/
def OutPkt.isEvent (p : OutPkt) : Bool :=
  match p.body with
  | .event .. => true
  | .reply .. => false

/-- Whether a packet is an event packet of class `c`. -/
def OutPkt.isClass (c : Nat) (p : OutPkt) : Bool :=
  match p.body with
  | .event _ _ cls _ _ _ => cls == c
  | .reply .. => false

/-! ### Pending bits, pins and level sources -/

/-- The 96 pending bits as one number. -/
def State.pend (s : State) : Nat :=
  (s.reg R.EVT_PEND0).toNat + 2 ^ 32 * (s.reg R.EVT_PEND1).toNat + 2 ^ 64 * (s.reg R.EVT_PEND2).toNat

/-- The 96 pin enables as one number. -/
def State.evtEn (s : State) : Nat :=
  (s.reg R.EVT_EN0).toNat + 2 ^ 32 * (s.reg R.EVT_EN1).toNat + 2 ^ 64 * (s.reg R.EVT_EN2).toNat

/-- IRQ0_N, IRQ1_N and EVT_STAT as the pending and enable bits make them (R413). -/
def State.syncIrq (s : State) : State :=
  let p := s.pend
  let u := p &&& Ev.urgentMask
  let n := p ^^^ u
  let s1 := (s.setFld F.EVT_STAT_URGENT (popCount 96 u)).setFld F.EVT_STAT_NORMAL (popCount 96 n)
  { s1 with pins := { s.pins with irq0 := u &&& s.evtEn != 0, irq1 := n &&& s.evtEn != 0 } }

/-- `s` with the pending bit of a source set to `b`. -/
def State.setPend (s : State) (src : Nat) (b : Bool) : State :=
  let a := R.EVT_PEND0 + 4 * (src / 32)
  s.setReg a (BitVec.ofNat 32 (withBit (s.reg a).toNat (src % 32) b))

/-- The level source EV_SYS_SVB_OUT follows session 0's output queue (R39, R414). -/
def State.syncOut (s : State) : State :=
  let now := !(s.sess 0).out.isEmpty
  if bit s.pend 2 = now then s
  else
    let s := s.setPend Ev.sysSvbOut now
    (if now then s.incFld F.EVT_CNT_RAISED else s).syncIrq

/-- SYS_SVB_STAT shows each session: 0 closed, 1 opening, 2 open, and its level (Table 2-13). -/
def State.syncSess (s : State) (sid : Nat) : State :=
  let ss := s.sess sid
  let st := if ss.isOpen then 2 else if ss.hs.isSome then 1 else 0
  s.setFld ⟨R.SYS_SVB_STAT, 4 * sid, 4⟩ (st + 4 * (if ss.isOpen then ss.level else 0))

/-- `s` with the session under a SID replaced. -/
def State.setSess (s : State) (sid : Nat) (ss : Session) : State :=
  ({ s with svb := { s.svb with sess := Tbl.put (Session.initial sid) s.svb.sess sid ss } } : State).syncSess sid

/-- `s` with an output appended. -/
def State.emit (s : State) (o : Output) : State := { s with outs := s.outs ++ [o] }

/-- The test block corrupts the next item of a target while corruptions of that target are armed (R517): whether it
corrupts this one, and the state after. -/
def State.corrupt (s : State) (target : Nat) : Bool × State :=
  if s.tst.crcLeft = 0 ∨ s.fld F.TST_CRC_TARGET ≠ target then (false, s)
  else
    let left := s.tst.crcLeft - 1
    let t : State := { s with tst := { s.tst with crcLeft := left } }
    (true, if left = 0 then (t.setFld F.TST_CRC_GO 0).setFld F.TST_STAT_ACTIVE (withBit (t.fld F.TST_STAT_ACTIVE) 5 false) else t)

/-- Queue a packet of a session: on UDP it leaves at once to `dst`; on SPI it waits for a READ (R38, R40). A lane's reply carries its
tag. -/
def State.sendPkt (s : State) (sid dst : Nat) (b : OutBody) (lane : Option LaneTag := none) : State :=
  let (bad, s) := s.corrupt 0
  let ss := s.sess sid
  let p : OutPkt := { body := b, key := tagKey ss b, bad := bad, lane := lane }
  if sid = 0 then (s.setSess 0 { ss with out := ss.out ++ [p] }).syncOut
  else s.emit (.udp dst (packOut sid p))

/-- One event packet of a session that subscribes to the source (R56, R57): SEQ counts queued packets; a full queue
of 64 drops the arriving event, or its oldest normal event when the arriving one is urgent. DESIGN CHOICE (entry 152): the count of
drops that a displaced packet carried goes with it, and a packet whose READ was cut short may be displaced like any other. -/
def State.eventTo (s : State) (src time : Nat) (detail : List Byte) (sid : Nat) : State :=
  let ss := s.sess sid
  if !ss.isOpen || !bit ss.mask src then s
  else
    let cls := Ev.cls src
    if (ss.out.filter OutPkt.isEvent).length < 64 then
      (s.setSess sid { ss with evSeq := (ss.evSeq + 1) % 65536, dropped := 0 }).sendPkt sid ss.peer
        (.event ss.evSeq src cls ss.dropped time detail)
    else if cls = 0 ∧ ss.out.any (OutPkt.isClass 1) then
      let kept := ss.out.eraseP (OutPkt.isClass 1)
      (s.setSess sid { ss with evSeq := (ss.evSeq + 1) % 65536, dropped := 0, out := kept }).sendPkt sid ss.peer
        (.event ss.evSeq src cls (min 65535 (ss.dropped + 1)) time detail)
    else s.setSess sid { ss with dropped := min 65535 (ss.dropped + 1) }

/-- Site time in whole ns, modulo 2^64 (R97). -/
def State.now (s : State) : Nat := s.time.ext / 2 ^ 32 % 2 ^ 64

/-- Elapsed time in whole ns: it counts like site time and never steps. -/
def State.el (s : State) : Nat := s.time.elapsed / 2 ^ 32

/-- A detail of exactly 8 bytes. -/
def detail8 (d : List Byte) : List Byte := (d ++ zeros 8).take 8

/-- An event leaves its engine: pending bit, EVT_CNT, pins, and one packet for each subscribing session (R413, R414). -/
def State.raiseAt (s : State) (src time : Nat) (detail : List Byte) : State :=
  let s := ((s.setPend src true).incFld F.EVT_CNT_RAISED).syncIrq
  [0, 1, 2, 3].foldl (fun t sid => t.eventTo src time (detail8 detail) sid) s

/-- Whether a lane is ACTIVE (state 1 of Table 14-1). -/
def State.laneActive (s : State) : Bool :=
  s.fld F.LAN_STAT_STATE_A == laneStACTIVE || s.fld F.LAN_STAT_STATE_B == laneStACTIVE

/-- Whether a switch-over is in progress (R373). -/
def State.switching (s : State) : Bool := s.flag F.LAN_STAT_SWITCHING

/-- The next tag of an engine's outputs (R367): the latest input has the number before the next one's. -/
def State.nextTag (s : State) (engine : Nat) : LaneTag :=
  let cause := if s.time.inputSeq = 0 then 4294967295 else s.time.inputSeq - 1
  ⟨cause, engine, if s.lan.tagCause = cause then Tbl.get 0 s.lan.tagIdx engine else 0⟩

/-- An engine of both lanes emits an output, which enters the digest (R367, R368). -/
def State.laneOut (s : State) (engine cls : Nat) (content : List Byte) : State :=
  let tag := s.nextTag engine
  let idx := if s.lan.tagCause = tag.cause then s.lan.tagIdx else []
  { s with lan := { s.lan with tagCause := tag.cause, tagIdx := Tbl.put 0 idx engine (tag.index + 1), span := s.lan.span ++ [⟨tag, cls, content, s.time.stamp⟩] } }

/-- The engine that raises an event of lane origin (Table 15-6): the scheduler, central RTK, the signal box, allotment, the timetabler. -/
def evEngine (src : Nat) : Nat :=
  if src < 10 then 0x14 else if src = 10 ∨ (26 ≤ src ∧ src ≤ 32) then 0x10 else if src < 40 then 0x11 else if src < 44 then 0x12 else 0x13

/-- Site time as the lanes have it: the stamp of the last lane input (R26). -/
def State.laneNow (s : State) : Nat := s.time.stamp

/-- Elapsed time at the last lane input. -/
def State.laneEl (s : State) : Nat := s.time.stampEl

/-- Raise an event. One of lane origin is an output of the lanes: it is held during a switch-over and leaves only as an output of the
active lane (R27, R413). -/
def State.raise (s : State) (src : Nat) (detail : List Byte) : State :=
  if Ev.ofLane src then
    let tag := s.nextTag (evEngine src)
    let t := s.laneOut (evEngine src) 2 (le 1 src ++ le 8 s.laneNow ++ detail8 detail)
    if s.switching then { t with lan := { t.lan with heldEvents := t.lan.heldEvents ++ [⟨tag, src, s.laneNow, detail8 detail⟩] } }
    else if s.laneActive then t.raiseAt src s.laneNow detail
    else s
  else s.raiseAt src s.now detail

end Machine

end Sys2Proof
end

