-- ==== Sys2Proof/Machine/Ops.lean ====
section
/-! DEFINITION. Operations shared by the families: draws, records for the cellar book, elapsed time, the state of the
fleet and of the lanes, and replies. -/

namespace Sys2Proof.Machine

/-! ### Draws and free values -/

/-- A random draw of the module of the width asked for. -/
def State.random (s : State) (width : Nat) : Nat := (Config.random width s.free).toNat

/-- A free value of the width asked for: a number the spec does not give. -/
def State.freeVal (s : State) (width : Nat) : Nat := (Config.free width s.free).toNat

/-- `s` after `n` draws or free values have been used. -/
def State.drew (s : State) (n : Nat) : State := { s with free := s.free + n }

/-! ### Time -/

/-- One millisecond and one second in ns. -/
def oneMs : Nat := 1000000
def oneSec : Nat := 1000000000

/-- GPS time of a site time, both in ns (R8, R100). -/
def gps (t : Nat) : Int := (t : Int) - 19 * oneSec

/-- Whether at least `d` ns have elapsed since the elapsed time `t0`. -/
def State.passed (s : State) (t0 d : Nat) : Bool := decide (t0 + d ≤ s.el)

/-! ### Records and lanes -/

/-- A record goes to the cellar book through Q37 (R450), with the time of its cause in µs. -/
def State.recordAt (s : State) (type : Nat) (payload : List Byte) (timeNs : Nat) (late : Bool) : State :=
  { s with cbk := { s.cbk with q := s.cbk.q ++ [⟨type, payload, timeNs / 1000 % 2 ^ 56, late⟩] } }

/-- A record whose cause is now. -/
def State.record (s : State) (type : Nat) (payload : List Byte) : State := s.recordAt type payload s.now false

/-- The state of a lane, 0 Lane A or 1 Lane B (Table 14-1). -/
def State.laneSt (s : State) (l : Nat) : Nat := if l = 0 then s.fld F.LAN_STAT_STATE_A else s.fld F.LAN_STAT_STATE_B

/-- `s` with a lane in a state. -/
def State.setLaneSt (s : State) (l v : Nat) : State :=
  if l = 0 then s.setFld F.LAN_STAT_STATE_A v else s.setFld F.LAN_STAT_STATE_B v

/-- A lane is in service in SHADOW or ACTIVE (R365). -/
def State.inService (s : State) (l : Nat) : Bool := s.laneSt l == laneStSHADOW || s.laneSt l == laneStACTIVE

/-- Whether any lane is in service. -/
def State.anyLane (s : State) : Bool := s.inService 0 || s.inService 1

/-- The clocks of the lanes run: Run and Doze, and entry to Dormant until they halt (R21, Table 18-2). -/
def State.laneClock (s : State) : Bool :=
  s.pwr.hubReady && (s.pwr.state == .run || s.pwr.state == .doze || s.pwr.state == .entering)

/-- The lane engines act: a lane is in service and has its clock. -/
def State.lanesRun (s : State) : Bool := s.laneClock && s.anyLane

/-- A lane engine acts of its own: nothing happens while the lanes do not run (R21). -/
def State.onLanes (s : State) (k : State) : State := if s.lanesRun then k else s

/-- The hub delivers the next input to both lanes, with its sequence number and its stamp (R26). -/
def State.laneInput (s : State) : State :=
  { s with time := { s.time with inputSeq := (s.time.inputSeq + 1) % 2 ^ 32, stamp := s.now, stampEl := s.el } }

/-- An input and what the lanes do with it: nothing while no lane is in service. -/
def State.toLanes (s : State) (k : State → State) : State := if s.anyLane then k s.laneInput else s.laneInput

/-- The power arbiter grants a requester of Table 15-5 its demand: without a grant its fast clock does not run (R22, R411). -/
def State.granted (s : State) (i : Nat) : Bool := s.fld (F.ARB_PWR_REQ_GRANT i) != 0

/-- An engine's clock waits for a grant that the arbiter refuses or has withdrawn (R411). -/
def State.gated (s : State) (id : Nat) : Bool :=
  match id with
  | 0x01 => s.flag (F.ARB_PWR_REQ_WAIT 2)
  | 0x12 => s.flag (F.ARB_PWR_REQ_WAIT 1)
  | _ => false

/-- The other lane. -/
def otherLane (l : Nat) : Nat := 1 - l

/-! ### Superframes (R253) -/

/-- The GPS epoch, 1980-01-06 00:00:00 UTC, in site time, ns. -/
def gpsEpoch : Nat := 315964819 * oneSec

/-- The superframe period of N slots, in ns. -/
def superframeNs (n : Nat) : Nat := n * 312500

/-- The superframe period in force, in ns. -/
def State.sfNs (s : State) : Nat := superframeNs (s.fld F.RAD_SF_NSLOT)

/-- Superframes are numbered from 2^36 superframes before the GPS epoch, so that none of those that run before a module has the time
counts below 0; SFN, F modulo 65,536, is the same. -/
def sfBase : Nat := 2 ^ 36

/-- The superframe of a site time, counted from `sfBase`, and the slot-0 instant of superframe f. -/
def State.sfAt (s : State) (t : Nat) : Nat := (t + sfBase * s.sfNs - gpsEpoch) / s.sfNs
def State.t0At (s : State) (f : Nat) : Nat := f * s.sfNs + gpsEpoch - sfBase * s.sfNs

/-- The present superframe, and its slot-0 instant. -/
def State.sf (s : State) : Nat := s.sfAt s.now
def State.t0 (s : State) : Nat := s.t0At s.sf

/-- The present superframe as the lanes have it (R26). -/
def State.laneSf (s : State) : Nat := s.sfAt s.laneNow

/-- The next 14.0 ms commit point: of this superframe until it has been made, else of the next (R185, R227). -/
def State.nextCommit (s : State) : Nat :=
  let c := s.t0At s.laneSf + 14 * oneMs
  if s.ttb.commitAt < c then c else c + s.sfNs

/-! ### Rovers and the fleet -/

/-- What each engine holds of rover slot `a`. -/
def State.bound (s : State) (a : Nat) : Binding := Tbl.get {} s.rad.rovers a
def State.setBound (s : State) (a : Nat) (b : Binding) : State :=
  { s with rad := { s.rad with rovers := Tbl.put {} s.rad.rovers a b } }
def State.sx (s : State) (a : Nat) : SbxRover := Tbl.get {} s.sbx.rovers a
def State.setSx (s : State) (a : Nat) (r : SbxRover) : State :=
  { s with sbx := { s.sbx with rovers := Tbl.put {} s.sbx.rovers a r } }
def State.rk (s : State) (a : Nat) : RtkRover := Tbl.get {} s.rtk.rovers a
def State.setRk (s : State) (a : Nat) (r : RtkRover) : State :=
  { s with rtk := { s.rtk with rovers := Tbl.put {} s.rtk.rovers a r } }
def State.prof (s : State) (a : Nat) : Profile := Tbl.get {} s.ttb.profiles a
def State.setProf (s : State) (a : Nat) (p : Profile) : State :=
  { s with ttb := { s.ttb with profiles := Tbl.put {} s.ttb.profiles a p } }
def State.task (s : State) (i : Nat) : Task := Tbl.get {} s.alt.tasks i

/-- Every rover slot. -/
def allSlots : List Nat := List.range 128

/-- The rover slots bound, in order (R269). -/
def State.boundSlots (s : State) : List Nat := (s.rad.rovers.filter fun p => p.2.bound).map (·.1)

/-- The committed authority of a rover that is live at a site time: it lapses at its EXPIRY (R178, R186). -/
def State.liveAt (s : State) (now a : Nat) : Option Auth :=
  match (s.sx a).auth with
  | some x =>
    match x.expiry with
    | some e => if now ≤ e then some x else none
    | none => some x
  | none => none

/-- The live committed authority of a rover by the site time of the hub. -/
def State.liveAuth (s : State) (a : Nat) : Option Auth := s.liveAt s.now a

/-- No rover holds a live committed authority: the fleet is parked. -/
def State.parked (s : State) : Bool := (s.sbx.rovers.map (·.1)).all fun a => (s.liveAuth a).isNone

/-- A stop of the whole fleet is in force. -/
def State.fleetStopped (s : State) : Bool := s.flag F.STP_STAT_STOPPED

/-- The fleet is stopped or parked (Table 2-8, FLEET_NOT_STOPPED). -/
def State.fleetHeld (s : State) : Bool := s.fleetStopped || s.parked

/-- A rover is under a stop: of the fleet, its own, or of a zone (R299). -/
def State.roverStopped (s : State) (a : Nat) : Bool :=
  s.fleetStopped || s.stp.rovers.contains a || s.stp.zones.any fun z => z.rovers.contains a

/-- The task a rover holds in states 3 to 6 (R204): its TASK_ID. -/
def State.current (s : State) (a : Nat) : Option Nat :=
  ((s.alt.tasks.filter fun p => p.2.slot == a && 3 ≤ p.2.state && p.2.state ≤ 6).map (·.1)).head?

/-- A rover is parked while its task is of type park or charge, or while it holds no authority; else it moves
(chapter 05, fix rates). -/
def State.roverMoving (s : State) (a : Nat) : Bool :=
  (s.liveAuth a).isSome &&
    match s.current a with
    | some t => (s.task t).type != 3 && (s.task t).type != 4
    | none => true

/-- The superframe length in slots that will be in force at a site time (R257): a pending table counts from its switch
instant. -/
def State.slotsAt (s : State) (t : Nat) : Nat :=
  match s.rad.pend with
  | some p => if p.at_ ≤ t then p.n else s.fld F.RAD_SF_NSLOT
  | none => s.fld F.RAD_SF_NSLOT

/-! ### Limited-change settings (R13, R428) -/

/-- A write to a limited-change setting, accepted (0) or refused for lack of changes (1), in the cellar book; an accepted one
raises EV_SYS_LC. -/
def State.lcDone (s : State) (off old new left result sid : Nat) : State :=
  let t := s.record 0x07 (le 4 off ++ le 4 old ++ le 4 new ++ le 2 left ++ le 1 result ++ le 1 sid)
  if result = 0 then t.raise Ev.sysLc (le 4 off ++ le 2 left) else t

/-! ### NOR settings -/

/-- A write of settings (R434): first to area A, under the next sequence number, and then the same copy to area B. -/
def Nor.write (n : Nor) (regs : Tbl Word) : Nor := { n with regs := regs, seq := n.seq + 1, regsB := regs, seqB := n.seq + 1 }

/-- The newest copy of the settings. -/
def Nor.newest (n : Nor) : Tbl Word := if n.seqB ≤ n.seq then n.regs else n.regsB

/-- Registers are stored in the NOR settings (R434). -/
def State.saveRegs (s : State) (as : List Nat) : State :=
  { s with nor := s.nor.write (as.foldl (fun m a => Tbl.put (regReset a) m a (s.reg a)) s.nor.newest) }

/-- The bits `mask` of a register are stored in the NOR settings with the value `v`; its other bits load as at reset. -/
def State.norStore (s : State) (a mask : Nat) (v : Word) : State :=
  let m := BitVec.ofNat 32 mask
  { s with nor := s.nor.write (Tbl.put (regReset a) s.nor.newest a ((regReset a &&& ~~~m) ||| (v &&& m))) }

/-! ### Replies -/

/-! Status codes (R51, Table 2-8). -/
namespace St
def ok : Nat := 0
def accepted : Nat := 1
def badOpcode : Nat := 0x10
def badLength : Nat := 0x11
def badParameter : Nat := 0x12
def badVersion : Nat := 0x13
def notAuthorised : Nat := 0x20
def authFailed : Nat := 0x21
def sessionNotOpen : Nat := 0x22
def busy : Nat := 0x30
def staleSequence : Nat := 0x31
def sequenceConflict : Nat := 0x32
def wrongState : Nat := 0x40
def engineRestarted : Nat := 0x41
def lcExhausted : Nat := 0x42
def fleetNotStopped : Nat := 0x43
def addressInvalid : Nat := 0x50
def internal : Nat := 0xFF
end St

/-- What executing a command answers: the state and its reply, or no reply yet (it follows later). -/
abbrev Res := State × Option Reply

/-- Refuse a command with a status; nothing changes. -/
def refuse (s : State) (status : Nat) : Res := (s, some ⟨status, []⟩)

/-- Answer OK with data. -/
def okWith (s : State) (data : List Byte) : Res := (s, some ⟨St.ok, data⟩)

/-- Answer OK without data. -/
def okay (s : State) : Res := okWith s []

/-- Answer ACCEPTED with data. -/
def accepted (s : State) (data : List Byte) : Res := (s, some ⟨St.accepted, data⟩)

/-- Execute `k` when the payload has the length the opcode gives it; otherwise BAD_LENGTH (Table 2-8). -/
def withLen (s : State) (n : Nat) (p : List Byte) (k : Res) : Res :=
  if p.length = n then k else refuse s St.badLength

end Sys2Proof.Machine
end

