-- ==== Sys2Proof/Machine/Sequencers.lean ====
section
/-! DEFINITION. The timetable sequencers (R17 to R20): step memory, the position of each engine's thread, and generation numbers. -/

namespace Sys2Proof.Machine

/-! ### Engines (Table 1-5) -/

/-- The engines of the hub and of a lane. -/
def hubEngines : List Nat := [0, 1, 2, 3, 4, 5, 6, 7, 8]
def laneEngineIds : List Nat := [0x10, 0x11, 0x12, 0x13, 0x14]

/-- The step rate of an engine, steps per second. -/
def stepRate (id : Nat) : Nat :=
  match id with
  | 0x00 => 163680000
  | 0x01 => 200000000
  | 0x02 => 250000000
  | 0x03 => 125000000
  | 0x04 | 0x06 | 0x07 => 100000000
  | 0x05 => 40000000
  | 0x08 => 10000000
  | 0x11 | 0x14 => 500000000
  | _ => 250000000

/-- The key of a sequencer: its die (0 hub, 1 Lane A, 2 Lane B) and its engine ID. -/
def seqKey (die id : Nat) : Nat := die * 256 + id

/-! ### Timetable steps (Table 1-4) -/

def StepWord.opclass (w : StepWord) : Nat := w.word.toNat / 2 ^ 60
def StepWord.next (w : StepWord) : Nat := w.word.toNat / 2 ^ 48 % 4096
def StepWord.alt (w : StepWord) : Nat := w.word.toNat / 2 ^ 36 % 4096
def StepWord.cond (w : StepWord) : Nat := w.word.toNat / 2 ^ 32 % 16
def StepWord.operand (w : StepWord) : Nat := w.word.toNat % 2 ^ 32

/-- The step after a step: a test-and-branch step goes to ALT where its condition is true, and every other goes to NEXT. -/
def StepWord.successor (w : StepWord) (cond : Bool) : Nat := if w.opclass = 2 ∧ cond then w.alt else w.next

/-- A word stored with its check bits. -/
def stepWord (w : BitVec 64) : StepWord := ⟨w, Config.secded w⟩

/-! ### Step memory and positions -/

def State.seqOf (s : State) (key : Nat) : Sequencer := Tbl.get {} s.eng.seqs key
def State.setSeq (s : State) (key : Nat) (q : Sequencer) : State := { s with eng := { s.eng with seqs := Tbl.put {} s.eng.seqs key q } }
def State.thread (s : State) (key : Nat) : List StepWord := Tbl.get [] s.eng.steps key

/-- A sequencer restarts at step 0 with no step issued (R396). -/
def State.seqRestart (s : State) (key : Nat) : State := s.setSeq key { at_ := s.el }

/-- The image that the hub runs. -/
def State.activeImage (s : State) : List (Nat × Byte) :=
  match Tbl.get none s.upd.banks (s.fld F.UPD_STAT_BANK) with
  | some i => i.bytes
  | none => []

/-- The timetable of an engine is loaded from the active image into its step memory, at most 4,096 steps (R18), and the engine stands
at step 0. -/
def State.loadSteps (s : State) (die id : Nat) : State :=
  let words := ((Config.timetable s.activeImage id).take 4096).map stepWord
  let key := seqKey die id
  ({ s with eng := { s.eng with steps := Tbl.put [] s.eng.steps key words } } : State).seqRestart key
def State.loadHubSteps (s : State) : State := hubEngines.foldl (fun t id => t.loadSteps 0 id) s
def State.loadLaneSteps (s : State) (l : Nat) : State := laneEngineIds.foldl (fun t id => t.loadSteps (l + 1) id) s

/-- The sequencer of a running engine is taken down. How many steps it has issued since the last time is a free value that its rate
bounds (R19); where it has issued any, the step it stands at is a free one of its thread, and else it has not moved. -/
def State.seqSync (s : State) (key : Nat) : State :=
  let q := s.seqOf key
  let n := s.freeVal 64 % (stepRate (key % 256) * (s.el - q.at_) / oneSec + 1)
  let step := if n = 0 then q.step else (s.drew 1).freeVal 12 % max 1 (s.thread key).length
  (s.drew 2).setSeq key ⟨step, (q.count + n) % 2 ^ 32, s.el⟩

/-- A gated sequencer issues no steps: the time passes and its position stands (R19). -/
def State.seqHold (s : State) (key : Nat) : State := s.setSeq key { s.seqOf key with at_ := s.el }

/-! ### Generation numbers (R395) -/

/-- The lane engines, as keys of the generation numbers: die × 256 + engine ID. -/
def laneEngines : List Nat := [0x110, 0x111, 0x112, 0x113, 0x114]

/-- The generation number of an engine, and its increment at a reset of the engine. -/
def State.genOf (s : State) (key : Nat) : Nat := Tbl.get 0 s.eng.gen key
def State.genUp (s : State) (key : Nat) : State :=
  { s with eng := { s.eng with gen := Tbl.put 0 s.eng.gen key ((s.genOf key + 1) % 256) } }

/-- The key of an engine's generation number: die × 256 + engine ID. -/
def genKey (id : Nat) : Nat := if 0x10 ≤ id then 0x100 + id else id

/-- The sequencers of an engine: one on the hub, or one on each lane. -/
def seqKeys (id : Nat) : List Nat := if 0x10 ≤ id then [seqKey 1 id, seqKey 2 id] else [seqKey 0 id]

end Sys2Proof.Machine
end

