-- ==== Sys2Proof/Machine/Queues.lean ====
section
/-! DEFINITION. The hardware queues (R384 to R394): packets, banks, racking, flushes and the views of QUE_SEL. -/

namespace Sys2Proof.Machine

/-- A queue's state. -/
def State.queue (s : State) (q : Nat) : Queue := Tbl.get {} s.que q

/-- Words of a packet: header and payload (R388). -/
def QPacket.words (p : QPacket) : Nat := 1 + ceilDiv p.len 8

/-- Committed words of a bank. -/
def bankWords (ps : List QPacket) : Nat := ps.foldl (fun n p => n + p.words) (0 : Nat)

/-- Whether a queue is, or changes at its next rack, to SECDED mode: forced or automatically (R393). -/
def State.eccWanted (s : State) (q : Nat) : Bool :=
  (s.queue q).auto_ || bit (if q < 32 then s.fld F.QUE_FORCE0_FORCE else s.fld F.QUE_FORCE1_FORCE) (q % 32)

/-- QUE_Q_STAT, QUE_Q_ERR and QUE_Q_CNT show the queue named in QUE_SEL; QUE_MODE and QUE_STAT follow every queue. -/
def State.syncQue (s : State) : State :=
  let k := s.queue (s.fld F.QUE_SEL_QUEUE)
  let t := (s.setFld F.QUE_Q_STAT_FILL_W (bankWords k.fill)).setFld F.QUE_Q_STAT_DRAIN_W (bankWords k.drain)
  let t := ((t.setFld F.QUE_Q_STAT_BANK k.bank).setFld F.QUE_Q_STAT_MODE (b2n k.fillEcc)).setFld F.QUE_Q_STAT_FULL (b2n k.full.isSome)
  let t := (t.setFld F.QUE_Q_STAT_EMPTY (b2n k.drain.isEmpty)).setFld F.QUE_Q_ERR_PAR_ERR k.parErr
  let t := ((t.setFld F.QUE_Q_ERR_CORR k.corr).setFld F.QUE_Q_ERR_POISON k.poison).setFld F.QUE_Q_ERR_STALE_GEN k.staleGen
  let t := (t.setFld F.QUE_Q_CNT_COMMITS k.commits).setFld F.QUE_Q_CNT_REWINDS k.rewinds
  let on := (s.que.filter fun p => p.2.fillEcc).map (·.1)
  let mask (lo : Nat) : Nat := on.foldl (fun m q => if lo ≤ q ∧ q < lo + 32 then m + 2 ^ (q - lo) else m) 0
  ((t.setFld F.QUE_MODE0_SECDED (mask 0)).setFld F.QUE_MODE1_SECDED (mask 32)).setFld F.QUE_STAT_SECDED_N on.length

/-- `s` with a queue replaced. -/
def State.setQueue (s : State) (q : Nat) (k : Queue) : State := ({ s with que := Tbl.put {} s.que q k } : State).syncQue

/-- The queues that carry replies and outputs of an engine (Table 15-1): of the lanes, the radio MAC, the sky baseband and the snapshot
engine. -/
def outQueue (q : Nat) : Bool := (decide (8 ≤ q) && decide (q < 20)) || [24, 25, 27, 32].contains q

/-- The source of an output packet is of an earlier life of its engine (R397). -/
def State.stale (s : State) (q : Nat) (p : QPacket) : Bool := outQueue q && p.gen != s.genOf (genKey p.engine)

/-- The reader of a queue takes what it sees in its drain bank, up to a packet with an error still to be read; an output of an old
generation is discarded (R397). -/
def State.drainQueue (s : State) (q : Nat) : State :=
  let k := s.queue q
  let taken := k.drain.takeWhile fun p => p.hurt == 0 && decide (p.ready ≤ s.el)
  if taken.isEmpty then s
  else s.setQueue q { k with drain := k.drain.drop taken.length, staleGen := min 255 (k.staleGen + (taken.filter (s.stale q)).length) }

/-- Every reader drains its bank. -/
def State.drainQueues (s : State) : State := (s.que.map (·.1)).foldl State.drainQueue s

/-! ### Writing -/

/-- FULL is forced to the writer of a queue without a break (R513). -/
def State.forcedFull (s : State) (q : Nat) : Bool :=
  s.flag F.TST_BP_EN && s.flag F.TST_BP_CONT && s.fld F.TST_BP_QUEUE == q

/-- Errors armed at a queue are placed in the words of a packet written to it, one per word (R515): how many, whether in two
bits, and the state after. -/
def State.inject (s : State) (q words : Nat) : Nat × Bool × State :=
  let target := s.fld F.TST_ERR_TARGET
  if s.tst.errLeft = 0 ∨ 2 < target ∨ s.fld F.TST_ERR_QUEUE ≠ q then (0, false, s)
  else
    let n := min s.tst.errLeft words
    let left := s.tst.errLeft - n
    let t : State := { s with tst := { s.tst with errLeft := left } }
    let t := if left = 0 then (t.setFld F.TST_ERR_GO 0).setFld F.TST_STAT_ACTIVE (withBit (t.fld F.TST_STAT_ACTIVE) 3 false) else t
    (n, target == 1, t)

/-- The clock of a queue's reader, Hz (Table 1-9): a lane's for Q00 to Q07, else the hub's. -/
def readerHz (q : Nat) : Nat := if q < 8 then 500000000 else 400000000

/-- The delay that the test block adds at a queue, in ns rounded up (R512): the longest of those set for it. -/
def State.queueDelay (s : State) (q : Nat) : Nat :=
  let clocks := [0, 1, 2, 3].foldl (fun n j => if s.flag (F.TST_QDLY_EN j) && s.fld (F.TST_QDLY_QUEUE j) == q then max n (s.fld (F.TST_QDLY_CYCLES j)) else n) (0 : Nat)
  ceilDiv (clocks * oneSec) (readerHz q)

/-- A packet that has room commits: it becomes visible whole (R389). -/
def State.commitPacket (s : State) (q : Nat) (p : QPacket) : State :=
  let (n, double, t) := s.inject q p.words
  let k := s.queue q
  t.setQueue q { k with fill := k.fill ++ [{ p with hurt := n, hurt2 := double, ready := s.el + s.queueDelay q }], commits := (k.commits + 1) % 65536 }

/-- Whether a queue has no room for a packet: FULL is set until the next rack (R387), or forced. -/
def State.noRoom (s : State) (q : Nat) (p : QPacket) : Bool :=
  decide (512 < bankWords (s.queue q).fill + p.words) || s.forcedFull q

/-- A writer's packets commit in order; from the first that finds no room on they wait (R385). -/
def State.writePackets (s : State) (q : Nat) : List QPacket → State
  | [] => s
  | p :: rest =>
    if s.noRoom q p then
      let k := s.queue q
      s.setQueue q { k with wait := p :: rest, full := some (k.full.getD s.el) }
    else (s.commitPacket q p).writePackets q rest

/-- Room has come: FULL clears and the writer that waits goes on. -/
def State.writerGoes (s : State) (q : Nat) : State :=
  let k := s.queue q
  (s.setQueue q { k with wait := [], full := none }).writePackets q k.wait

/-- A flush takes effect at a packet boundary: the packets of `drop` are discarded on both sides; what a writer has still to commit is
not affected (R391). -/
def State.flushQueue (s : State) (q : Nat) (drop : QPacket → Bool) : State :=
  let k := s.queue q
  (s.setQueue q { k with fill := k.fill.filter fun p => !drop p, drain := k.drain.filter fun p => !drop p }).writerGoes q

/-- The forced FULL of the test block ends at once (R518): `s` has it no longer in TST_BP, which named queue `q`. -/
def State.endForced (s : State) (q : Nat) : State := if (s.queue q).full.isSome then s.writerGoes q else s

/-- The queues a host may flush (Table 15-1). -/
def hostQueue (q : Nat) : Bool := q == 32

/-- QUE_FLUSH.GO (R384, R391). -/
def State.queFlush (s : State) : State :=
  let q := s.fld F.QUE_FLUSH_QUEUE
  if hostQueue q then s.flushQueue q fun _ => true else s.setFld F.QUE_STAT_FLUSH_REF 1

/-- QUE_CTL.CNT_CLR clears the counters of every queue. -/
def State.queCntClr (s : State) : State :=
  let clear (k : Queue) : Queue := { k with parErr := 0, corr := 0, poison := 0, staleGen := 0, commits := 0, rewinds := 0 }
  ({ s with que := s.que.foldl (fun t p => Tbl.put {} t p.1 (clear p.2)) [] } : State).syncQue

end Sys2Proof.Machine
end

