-- ==== Sys2Proof/Machine/Tokens.lean ====
section
/-! DEFINITION. The token arbiters of the matrix engine and of the DRAM bulk port (R405 to R408), and the stretching of their grants by
the test block (R516). -/

namespace Sys2Proof.Machine

/-- Class and base priority of a requester (Table 15-4): arbiter 0 matrix engine, 1 DRAM bulk port; none when unused. -/
def tokenReq (arb i : Nat) : Option (Nat × Nat) :=
  match arb, i with
  | 0, 0 => some (3, 8)
  | 0, 1 => some (1, 4)
  | 1, 0 => some (3, 8)
  | 1, 1 => some (2, 8)
  | 1, 2 => some (1, 4)
  | 1, 3 => some (1, 4)
  | 1, 4 => some (0, 4)
  | _, _ => none

def tokenClass (arb i : Nat) : Nat := ((tokenReq arb i).map (·.1)).getD 0

/-- The effective priority of a requester, saturating at 15. -/
def TokenArb.priority (a : TokenArb) (arb i : Nat) : Nat := min 15 (((tokenReq arb i).map (·.2)).getD 0 + Tbl.get 0 a.extra i)

/-- The winner of a round among requesters: the highest class, then the highest effective priority, then the lowest index. -/
def TokenArb.winner (a : TokenArb) (arb : Nat) (is_ : List Nat) : Option Nat :=
  is_.foldl (fun w i =>
    match w with
    | none => some i
    | some j =>
      let ki := (tokenClass arb i, a.priority arb i)
      let kj := (tokenClass arb j, a.priority arb j)
      if kj.1 < ki.1 ∨ (kj.1 = ki.1 ∧ (kj.2 < ki.2 ∨ (kj.2 = ki.2 ∧ i < j))) then some i else some j) none

/-- A round (R406): the winner is granted at its base priority and every other participant gains 1. An owner that keeps the token by a
stretch alone has no request and takes no part. -/
def TokenArb.round (a : TokenArb) (arb : Nat) : TokenArb :=
  let all := (if a.stretch.isSome then [] else a.owner.toList) ++ a.pending
  match a.winner arb all with
  | none => a
  | some w =>
    let losers := all.filter fun i => i != w
    let extra := losers.foldl (fun t i => Tbl.put 0 t i (min 15 (Tbl.get 0 t i + 1))) (Tbl.put 0 a.extra w 0)
    { a with owner := some w, pending := losers, extra := extra, stretch := none }

/-- An arbiter and its registers. -/
def State.tokenArb (s : State) (arb : Nat) : TokenArb := if arb = 0 then s.arb.mat else s.arb.dram
def State.setTokenArb (s : State) (arb : Nat) (a : TokenArb) : State :=
  let base := if arb = 0 then R.ARB_MAT else R.ARB_DRAM
  let t : State := if arb = 0 then { s with arb := { s.arb with mat := a } } else { s with arb := { s.arb with dram := a } }
  let req := a.pending.foldl (fun m i => m + 2 ^ i) 0
  let v := a.owner.getD 15 * 2 ^ 28 + ((a.owner.map (tokenClass arb)).getD 0) * 2 ^ 26 + req
  t.setReg base (BitVec.ofNat 32 v)

/-- A grant is counted, modulo 65,536, and a transfer taken away (saturating); EV_ARB_STARVE at 16 in a row (R408). -/
def State.tokenGranted (s : State) (arb : Nat) (taken : Option Nat) (owner : Nat) : State :=
  let cnt := if arb = 0 then R.ARB_MAT_CNT else R.ARB_DRAM_CNT
  let t := s.incFld ⟨cnt, 0, 16⟩
  match taken with
  | none => t
  | some i =>
    let a := t.tokenArb arb
    let n := Tbl.get 0 a.takenRun i + 1
    let t := (t.satInc ⟨cnt, 16, 16⟩).setTokenArb arb { a with takenRun := Tbl.put 0 a.takenRun i (if n = 16 then 0 else n) }
    if n = 16 then t.raise Ev.arbStarve (le 1 arb ++ le 1 i ++ le 1 owner) else t

/-- A round is held and its outcome shown; an owner of a lower class loses the token at once (R407). -/
def State.tokenRound (s : State) (arb : Nat) : State :=
  let a := s.tokenArb arb
  let b := a.round arb
  let t := s.setTokenArb arb b
  match b.owner with
  | some w => if b.owner = a.owner ∧ a.stretch.isNone then t else t.tokenGranted arb (if a.stretch.isSome then none else a.owner) w
  | none => t

/-- The token is free: a round is held among those pending (R408). -/
def State.tokenFree (s : State) (arb : Nat) : State :=
  let a := s.tokenArb arb
  let t := s.setTokenArb arb { a with owner := none, stretch := none }
  if a.pending.isEmpty then t else t.tokenRound arb

/-- The stretch of a grant that has run out ends. -/
def State.tokenSync (s : State) (arb : Nat) : State :=
  match (s.tokenArb arb).stretch with
  | some e => if e ≤ s.el then s.tokenFree arb else s
  | none => s

/-- A stretched token is released at once (R518). -/
def State.endStretch (s : State) : State :=
  [0, 1].foldl (fun t arb => if (t.tokenArb arb).stretch.isSome then t.tokenFree arb else t) s

/-- The extra hold of a token of an arbiter (R516), in ns. -/
def State.stretchNs (s : State) (arb : Nat) : Nat := if bit (s.fld F.TST_STRETCH_ARB) arb then s.fld F.TST_STRETCH_US * 1000 else 0

/-- A request (R406): it starts a round when the token is free, or when its class is higher than the owner's. -/
def State.tokenRequest (s : State) (arb i : Nat) : State :=
  let s := s.tokenSync arb
  let a := s.tokenArb arb
  if (tokenReq arb i).isNone ∨ a.pending.contains i ∨ (a.owner = some i ∧ a.stretch.isNone) then s
  else
    let t := s.setTokenArb arb { a with pending := a.pending ++ [i] }
    let start := match a.owner with
      | none => true
      | some o => decide (tokenClass arb o < tokenClass arb i)
    if start then t.tokenRound arb else t

/-- An owner drops its request, its transfer completed, and a round is held among those pending (R408), at once or, while its grant is
stretched, when the stretch ends (R516). -/
def State.tokenDrop (s : State) (arb i : Nat) : State :=
  let s := s.tokenSync arb
  let a := s.tokenArb arb
  if a.owner = some i ∧ a.stretch.isNone then
    let hold := s.stretchNs arb
    let t := s.setTokenArb arb { a with takenRun := Tbl.put 0 a.takenRun i 0, stretch := if hold = 0 then none else some (s.el + hold) }
    if hold = 0 then t.tokenFree arb else t
  else s.setTokenArb arb { a with pending := a.pending.filter fun j => j != i }

/-- The domain that a token arbiter works in has its clock: the lanes' for the matrix engine, the hub's for the DRAM bulk port (R21). -/
def State.onArb (s : State) (arb : Nat) (k : State) : State :=
  if arb = 0 then s.onLanes k else if s.pwr.hubReady && s.pwr.state != .dormant then k else s

/-- TOKEN_REQUEST (R406, R407). -/
def execTokenRequest (arb : Fin 2) (i : Fin 16) (s : State) : Host.Outcome State Fault Refusal :=
  .next (s.onArb arb.val (s.tokenRequest arb.val i.val))

/-- TOKEN_DROP (R408). -/
def execTokenDrop (arb : Fin 2) (i : Fin 16) (s : State) : Host.Outcome State Fault Refusal :=
  .next (s.onArb arb.val (s.tokenDrop arb.val i.val))

end Sys2Proof.Machine
end

