-- ==== Sys2Proof/Machine/Sveteb.lean ====
section
/-! DEFINITION. Sessions, sequence numbers, the reply cache and the delivery of replies (R41 to R50), shared by every
Sveteb command. -/

namespace Sys2Proof.Machine

/-- One opcode of Table 2-9: its code, the lowest level that may use it, whether a payload takes path L, whether it takes path S
and has its reply from the lanes, what executing it does, and what follows once its reply has been sent. An undefined opcode is
not `known`. -/
structure Op where
  code : Nat
  rights : Nat
  lane : List Byte → Bool := fun _ => false
  fast : Bool := false
  fromLane : Bool := false
  known : Bool := true
  run : State → Nat → Nat → List Byte → Res
  post : Nat → State → State := fun _ s => s

/-- A command on path H, path L, or path S (R45). -/
def opH (code rights : Nat) (run : State → Nat → Nat → List Byte → Res) : Op := { code := code, rights := rights, run := run }
def opL (code rights : Nat) (run : State → Nat → Nat → List Byte → Res) : Op :=
  { code := code, rights := rights, lane := fun _ => true, run := run }
def opS (code rights : Nat) (run : State → Nat → Nat → List Byte → Res) : Op :=
  { code := code, rights := rights, fast := true, run := run }

/-- Whether the hub serves commands: it is ready (R36) and not in Dormant (Table 18-2). -/
def State.serving (s : State) : Bool := s.pwr.hubReady && s.pwr.state != .dormant

/-! ### Closing a session -/

/-- The TST registers at and above 0x0010, which CLR_ALL and locking return to their reset values (R510, R518). -/
def tstPerturb : List Nat :=
  [R.TST_QDLY 0, R.TST_QDLY 1, R.TST_QDLY 2, R.TST_QDLY 3, R.TST_BP, R.TST_JIT, R.TST_ERR, R.TST_STRETCH, R.TST_CRC]

/-- The registers of `as` of the test block return to their reset values, and what they forced ends at once (R518). -/
def State.perturbEnd (s : State) (as : List Nat) : State :=
  ((s.resetRegs as).endForced (s.fld F.TST_BP_QUEUE)).endStretch

/-- The TST block locks and returns to normal operation (R510, R518), with EV_TST_LOCK. -/
def State.tstLock (s : State) (cause : Nat) : State :=
  if !s.tst.unlocked then s
  else
    let active := s.fld F.TST_STAT_ACTIVE
    let refused := s.fld F.TST_STAT_REFUSED
    let t := ({ s with tst := {} } : State).perturbEnd ([R.TST_CTL, R.TST_STAT] ++ tstPerturb)
    t.raise Ev.tstLock (le 1 cause ++ le 1 active ++ le 1 refused)

/-- SEC_SLOT(i).IN_SESSION of a slot follows the open sessions. -/
def State.syncInSession (s : State) (slot : Nat) : State :=
  let used := [0, 1, 2, 3].any fun sid => (s.sess sid).isOpen && (s.sess sid).auth && (s.sess sid).slot == slot
  s.setFld (F.SEC_SLOT_IN_SESSION (slot % 64)) (b2n used)

/-- The session under a SID ends: its reply cache and its event queue are cleared (R42); a session that holds the TST
block unlocked locks it (R510). Replies already queued still leave. -/
def State.sessionGone (s : State) (sid : Nat) : State :=
  let ss := s.sess sid
  let gone : Session := { hs := ss.hs, out := ss.out.filter fun p => !p.isEvent, peer := ss.peer }
  let t := (s.setSess sid gone).syncOut
  let t := if ss.isOpen && ss.auth then t.syncInSession ss.slot else t
  if ss.isOpen && t.tst.unlocked && t.fld F.TST_STAT_SID == sid then t.tstLock 2 else t

/-! ### Replies (R43 to R49) -/

/-- SYS_SVB_STAT.HELD: replies are held for a switch-over (R48). -/
def State.syncHeld (s : State) : State :=
  s.setFld F.SYS_SVB_STAT_HELD (b2n ([0, 1, 2, 3].any fun sid => (s.sess sid).outst.any (·.held)))

/-- A reply leaves: it is sent to the source of its command, tagged in an authenticated session (R32, R40). -/
def State.sendReply (s : State) (sid dst seq opcode : Nat) (dup : Bool) (r : Reply) (lane : Option LaneTag := none) : State :=
  s.sendPkt sid dst (.reply seq opcode dup (s.sess sid).auth r) lane

/-- The engine whose output the reply to a path L command is (R367): the engine of its group, the one that a register belongs to
or that RESET_ENGINE names, and otherwise the scheduler. -/
def opEngine (code : Nat) (p : List Byte) : Nat :=
  let block := rdN p 0 4 / 0x40000
  match code / 256 with
  | 4 => 0x10
  | 5 | 8 => 0x11
  | 6 => 0x12
  | 7 => 0x13
  | 2 => if block = 6 then 0x10 else if block = 8 then 0x11 else if block = 9 then 0x12 else if block = 10 then 0x13 else 0x14
  | _ => if code = 0x010B ∧ 0x10 ≤ rdN p 0 1 then rdN p 0 1 else 0x14

/-- The replies of a session that may leave, and those that stay (R46): a path S reply leaves as soon as it is ready; any other
only when every earlier command of the session on path H or L has its own sent. -/
def readyReplies : Bool → List Outst → List Outst × List Outst
  | _, [] => ([], [])
  | blocked, e :: t =>
    if e.reply.isSome && !e.held && (e.fast || !blocked) then
      let (go, stay) := readyReplies blocked t
      (e :: go, stay)
    else
      let (go, stay) := readyReplies (blocked || !e.fast) t
      (go, e :: stay)

/-- A command leaves the list of those that await their reply: the reply is stored in its cache entry and sent (R43, R44). Where the session has closed since, or another has been opened under its SID,
nothing is left to answer (entry 153). -/
def State.replyOut (s : State) (sid : Nat) (e : Outst) : State :=
  match e.reply with
  | none => s
  | some r =>
    let ss := s.sess sid
    let cache := ss.cache.map fun c => if c.seq = e.seq then { c with reply := some r } else c
    let t := (s.setSess sid { ss with cache := cache }).sendReply sid e.src e.seq e.opcode false r e.tag
    if sid = 0 then t else { t with svb := { t.svb with kept := t.svb.kept.filter fun o => some o.tag != e.tag } }

/-- Every reply of a session that may leave does. -/
def State.flushReplies (s : State) (sid : Nat) : State :=
  let ss := s.sess sid
  let (go, stay) := readyReplies false ss.outst
  (go.foldl (fun t e => t.replyOut sid e) (s.setSess sid { ss with outst := stay })).syncHeld

/-- The reply of a command is ready: one of the lanes with its tag, held while a switch-over is in progress (R48). -/
def State.answer (s : State) (sid seq : Nat) (tag : Option LaneTag) (r : Reply) : State :=
  let ss := s.sess sid
  let put (e : Outst) : Outst := if e.seq = seq ∧ e.reply.isNone then { e with reply := some r, tag := tag, held := tag.isSome && s.switching } else e
  (s.setSess sid { ss with outst := ss.outst.map put }).flushReplies sid

/-- A lane's reply that has not left is lost in its queue, with no twin to stand in for it: its command completes with INTERNAL
(Table 15-3). -/
def State.replyLost (s : State) (sid seq : Nat) : State :=
  let ss := s.sess sid
  let put (e : Outst) : Outst := if e.seq = seq then { e with reply := some ⟨St.internal, []⟩, tag := none, held := false } else e
  (s.setSess sid { ss with outst := ss.outst.map put }).flushReplies sid

/-- Complete a command with its reply: `engine` is the lane engine that gives it, none for a reply of the hub. A lane's reply is a
tagged output of both lanes; the shadow lane's is kept until the active lane's has left (R49, R374). -/
def State.finish (s : State) (sid seq opcode : Nat) (engine : Option Nat) (r : Reply) : State :=
  match engine with
  | none => s.answer sid seq none r
  | some g =>
    let tag := s.nextTag g
    let content := le 2 r.status ++ r.data
    let cls := if opcode = 0x0200 ∨ opcode = 0x0202 then 3 else 1
    let t := s.laneOut g cls content
    let shadow := s.laneSt 0 == laneStSHADOW || s.laneSt 1 == laneStSHADOW
    let t := if shadow then { t with svb := { t.svb with kept := t.svb.kept ++ [⟨tag, cls, content, s.time.stamp⟩] } } else t
    t.answer sid seq (some tag) r

/-- The replies of the outgoing lane that wait in session 0's output queue are discarded, and the shadow lane's with the same tags
stand in their place, held until the switch-over ends (R49, R373). Replies queued behind them keep their order (R46). -/
def State.recallReplies (s : State) : State :=
  let ss := s.sess 0
  let i := ss.out.findIdx fun p => p.lane.isSome
  let back := (ss.out.drop i).filter fun p => !p.isEvent
  let again := back.filterMap fun p =>
    match p.body with
    | .reply seq op false _ r => some { seq := seq, opcode := op, src := 0, reply := some r, tag := p.lane, held := p.lane.isSome : Outst }
    | _ => none
  if back.isEmpty then s
  else
    let cache := ss.cache.map fun c => if again.any fun e => e.seq == c.seq then { c with reply := none } else c
    ((s.setSess 0 { ss with out := ss.out.take i ++ (ss.out.drop i).filter OutPkt.isEvent, cache := cache, outst := again ++ ss.outst }).syncOut).syncHeld

/-- The place of a tag in tag order (R367): the cause number, counted up to the present one, then the index; the outputs of several
engines with equal tags stand in the order of their engine IDs (entry 155). -/
def State.tagOrder (s : State) (g : LaneTag) : Nat :=
  ((g.cause + 2 ^ 32 - s.time.inputSeq) % 2 ^ 32) * 2 ^ 40 + g.index % 2 ^ 32 * 2 ^ 8 + g.engine

/-- What a switch-over holds: the tag, and the session and sequence number of a reply or an event. -/
def State.heldOuts (s : State) : List (LaneTag × Sum (Nat × Nat) HeldEvent) :=
  let replies := [0, 1, 2, 3].flatMap fun sid => (s.sess sid).outst.filterMap fun e =>
    match e.held, e.tag with
    | true, some g => some (g, Sum.inl (sid, e.seq))
    | _, _ => none
  sortBy (fun a b => decide (s.tagOrder a.1 < s.tagOrder b.1)) (replies ++ s.lan.heldEvents.map fun e => (e.tag, Sum.inr e))

/-- One held output is released. -/
def State.releaseOut (s : State) : LaneTag × Sum (Nat × Nat) HeldEvent → State
  | (_, .inl (sid, seq)) =>
    let ss := s.sess sid
    (s.setSess sid { ss with outst := ss.outst.map fun e => if e.seq = seq then { e with held := false } else e }).flushReplies sid
  | (_, .inr e) => s.raiseAt e.source e.time e.detail

/-- The held outputs leave in tag order once the new active lane is in control (R48, R49, R373). -/
def State.releaseHeld (s : State) : State :=
  s.heldOuts.foldl State.releaseOut { s with lan := { s.lan with heldEvents := [] } }

/-- The commands of a session that await their reply (R43). -/
def awaiting (ss : Session) : Nat := ss.outst.length

/-- The commands that a module in recovery accepts (R441): PING, GET_IDENTITY and the UPD commands. -/
def recoveryOp (code : Nat) : Bool := code == 0x0100 || code == 0x0104 || (decide (0x0D02 ≤ code) && decide (code ≤ 0x0D07))

/-- A path L command of a session placed in an atomic flow while atomic flows do not exist is rejected (R400). -/
def State.flowRejects (s : State) (sid : Nat) : Bool := bit (s.fld F.SCH_SESS_ATOMIC) sid && !s.flag F.SCH_STAT_ATOMIC_ON

/-- What follows a reply happens once it has left: at once, or after those before it. -/
def State.follow (s : State) (sid seq : Nat) (op : Op) : State :=
  if (s.sess sid).outst.any fun e => e.seq == seq then
    { s with svb := { s.svb with posts := s.svb.posts ++ [(sid, seq, op.code)] } }
  else op.post sid s

/-- The lane engine whose output the reply to a command is: every path L command, and a path S command that the lanes take while one is in
service (R45, R50); none for a command of the hub. -/
def State.engineFor (s : State) (op : Op) (p : List Byte) : Option Nat :=
  if op.lane p || (op.fromLane && s.anyLane) then some (opEngine op.code p) else none

/-- Execute an accepted command (R41, R44, R50): a session level too low, a command not accepted in recovery, a path L command
with no lane in service and one rejected by the scheduler are refused, and whatever the status the reply is cached. -/
def State.execute (s : State) (sid seq : Nat) (op : Op) (p : List Byte) : State :=
  let lane := op.lane p
  let engine := s.engineFor op p
  let no (t : State) (status : Nat) : State := t.finish sid seq op.code none ⟨status, []⟩
  if (s.sess sid).level < op.rights then no s St.notAuthorised
  else if s.upd.recovery && op.known && !recoveryOp op.code then no s St.wrongState
  else if lane && !s.anyLane && !s.switching then no s St.wrongState
  else if lane && s.flowRejects sid then
    let t := (s.laneInput.satInc F.SCH_CNT_REJECTED).raise Ev.schFlow (le 2 sid ++ le 1 1)
    t.finish sid seq op.code engine ⟨St.wrongState, []⟩
  else
    match op.run (if lane then s.laneInput else s) sid seq p with
    | (t, some r) => (t.finish sid seq op.code engine r).follow sid seq op
    | (t, none) => t

/-- The handling of a command of an open session by its sequence number (R43, R44). -/
def State.accept (s : State) (sid src seq : Nat) (op : Op) (p : List Byte) : State :=
  let ss := s.sess sid
  let d := (seq + 65536 - ss.h) % 65536
  let crc := crc32c (le 2 op.code ++ p)
  match ss.cache.find? (fun e => e.seq == seq) with
  | some e =>
    if e.crc ≠ crc then s.sendReply sid src seq op.code false ⟨St.sequenceConflict, []⟩
    else
      match e.reply with
      | none => s.satInc F.SYS_SVB_ERR_DUP
      | some r => (s.satInc F.SYS_SVB_ERR_DUP).sendReply sid src seq op.code true r
  | none =>
    if d = 0 ∨ 32768 ≤ d then s.sendReply sid src seq op.code false ⟨St.staleSequence, []⟩
    else if 16 ≤ awaiting ss then s.sendReply sid src seq op.code false ⟨St.busy, []⟩
    else
      let cache := (ss.cache ++ [{ seq := seq, crc := crc, opcode := op.code }])
      let out : Outst := { seq := seq, opcode := op.code, src := src, fast := op.fast }
      (s.setSess sid { ss with h := seq, cache := cache.drop (cache.length - 16), outst := ss.outst ++ [out] }).execute sid seq op p

/-! ### Opening a session (R41, R42) -/

/-! Key usages (Table 16-4). -/
def usageSESSION : Nat := 1
def usageRADIO : Nat := 2
def usageSTOP : Nat := 3
def usageSIGN : Nat := 4
def usageENROL : Nat := 5

/-- The bytes of an ASCII label. -/
def ascii (l : List Char) : List Byte := l.map fun c => BitVec.ofNat 8 c.toNat

def sessionLabel : List Byte := ascii ['S', 'V', 'E', 'T', 'E', 'B']
def openLabel : List Byte := ascii ['O', 'P', 'E', 'N']

/-- What a session cask's key slot gives a SESSION_OPEN (R41): the slot's usage and cask LEVEL from SEC_SLOT. -/
def State.slotUsage (s : State) (i : Nat) : Nat := s.fld (F.SEC_SLOT_USAGE i)

/-- A discard or refusal counted in SYS_SVB_ERR.AUTH raises EV_SYS_SVB_AUTH with a kind (R33, R41). -/
def State.authFail (s : State) (sid kind : Nat) : State :=
  (s.satInc F.SYS_SVB_ERR_AUTH).raise Ev.sysSvbAuth (le 1 sid ++ le 1 kind)

/-- SESSION_OPEN (R41, R42, Table 2-7): outside R43, with AUTH clear. -/
def State.sessionOpen (s : State) (sid src seq : Nat) (p : List Byte) : State :=
  let say (t : State) (r : Reply) : State := t.sendPkt sid src (OutBody.reply seq 0x0101 false false r)
  let slot := rdN p 0 1
  let level := rdN p 1 1
  if p.length ≠ 10 then say s ⟨St.badLength, []⟩
  else if 63 < slot ∨ 2 < level then say s ⟨St.badParameter, []⟩
  else if s.slotUsage slot ≠ usageSESSION ∨ s.fld (F.SEC_SLOT_LEVEL slot) < level then
    say (s.authFail sid 1) ⟨St.authFailed, []⟩
  else
    let mn := s.random 64
    let hn := rdN p 2 8
    let key := keyOf (kdf (Tbl.get 0 s.sec.keys slot) sessionLabel (le 1 sid ++ le 8 hn ++ le 8 mn) 1)
    let ss := s.sess sid
    let t := (s.drew 1).setSess sid { ss with hs := some ⟨slot, level, hn, mn, key, s.el⟩ }
    let proof := cmac64 key (openLabel ++ le 8 hn ++ le 8 mn)
    say t ⟨St.ok, le 8 mn ++ proof⟩

/-- A correct SESSION_CONFIRM of a pending handshake (R42, R43): the previous session under the SID is closed and the
new one is open at the requested level, with this command as the first entry of its cache. -/
def State.sessionConfirm (s : State) (sid src seq : Nat) (p : List Byte) (h : Handshake) : State :=
  let t := s.sessionGone sid
  let e : CacheEntry := { seq := seq, crc := crc32c (le 2 0x0102 ++ p), opcode := 0x0102 }
  let ss : Session := { isOpen := true, level := h.level, auth := true, key := h.key, slot := h.slot, h := seq, cache := [e], outst := [{ seq := seq, opcode := 0x0102, src := src }], lastAuth := s.el, peer := src, out := (t.sess sid).out }
  let t := (t.setSess sid ss).syncOut
  let t := t.syncInSession h.slot
  t.answer sid seq none ⟨St.ok, []⟩

/-- The reply cache holds this very command: a repeat of it gets the stored reply (R43). -/
def Session.cached (ss : Session) (seq code : Nat) (p : List Byte) : Bool :=
  ss.cache.any fun e => e.seq == seq && e.crc == crc32c (le 2 code ++ p)

/-- A command that has passed R33 and R34, from the source `src` (R42, R43). A SESSION_CONFIRM without a pending handshake is refused
unless it repeats the one that opened the session. -/
def State.command (s : State) (sid src seq code : Nat) (op : Op) (p : List Byte) : State :=
  let ss := s.sess sid
  if code = 0x0101 then
    if s.upd.recovery then s.sendPkt sid src (.reply seq code false false ⟨St.wrongState, []⟩) else s.sessionOpen sid src seq p
  else
    match code == 0x0102, ss.hs with
    | true, some h => s.sessionConfirm sid src seq p h
    | conf, _ =>
      if !ss.isOpen then s.sendPkt sid src (.reply seq code false false ⟨St.sessionNotOpen, []⟩)
      else if conf && !ss.cached seq code p then s.sendReply sid src seq code false ⟨St.wrongState, []⟩
      else s.accept sid src seq op p

/-- Whether a session's transport takes its packets: SPI for session 0, and UDP on the module's address for the sessions that
UDP_EN enables (R35, R40, R310). -/
def State.udpEnabled (s : State) (sid : Nat) : Bool := bit (s.fld F.SYS_SVB_CTL_UDP_EN) (sid - 1)
def State.transportUp (s : State) (sid : Nat) : Bool :=
  if sid = 0 then s.flag F.SYS_SVB_CTL_SPI_EN else s.fld F.ETH_IP_ADDR_ADDR != 0 && !s.upd.recovery

/-- The payload length field of a command of a session: SESSION_OPEN carries no tag, SESSION_CONFIRM always one (R32). -/
def wireLength (auth : Bool) (code : Nat) (p : List Byte) : Nat :=
  p.length + (if code = 0x0101 then 0 else if auth || code == 0x0102 then 8 else 0)

/-- A command row: the host sends a command whose packet passes R33 from the session's own source, and the hub takes it
while it serves. A payload too long for a packet, and a session that UDP_EN disables, fail R33. -/
def State.host (s : State) (c : Cmd) (op : Op) : State :=
  let sid := c.sid.val
  if s.serving && s.transportUp sid then
    let ss := s.sess sid
    if 1408 < wireLength ss.auth op.code c.payload || (sid != 0 && !s.udpEnabled sid) then s.satInc F.SYS_SVB_ERR_FRAMING
    else
      let t := if ss.isOpen && ss.auth && op.code != 0x0101 then s.setSess sid { ss with lastAuth := s.el } else s
      t.command sid ss.peer c.seq.toNat op.code op c.payload
  else s

end Sys2Proof.Machine
end

