-- ==== Sys2Proof/Machine/Interlock.lean ====
section
/-! DEFINITION. The signal box's interlocking (chapter 07): the site map, occupancy, the conflict rules, authorities,
waits and cycles, tentative holds, and what a stop does to them (R199, Table 7-6). -/

namespace Sys2Proof.Machine

/-! Reasons of Table 7-9. -/
def rsNONE : Nat := 0
def rsNO_FIX : Nat := 1
def rsNOT_ON_START : Nat := 2
def rsROUTE_BROKEN : Nat := 3
def rsMAP_MISMATCH : Nat := 4
def rsSTOPPED : Nat := 5
def rsTIME_FREE : Nat := 6
def rsAVOID : Nat := 7
def rsDIRECTION : Nat := 8
def rsNO_MAP : Nat := 9
def rsBLOCK_HELD : Nat := 0x10
def rsPOINTS_HELD : Nat := 0x11
def rsZONE_FULL : Nat := 0x12
def rsZONE_STOPPED : Nat := 0x13
def rsTENTATIVE_OTHER : Nat := 0x14
def rsRELEASING : Nat := 0x15
def rsLIMIT : Nat := 0x16
def rsNO_HALT : Nat := 0x17
def rsDISABLED : Nat := 0x18

/-! ### The site map (R169 to R173) -/

/-- The block index of a BLOCK(i) word, and whether it is travelled from exit to entry (Table 7-4). -/
def wordBlock (w : Nat) : Nat := w % 16384
def wordRev (w : Nat) : Bool := bit w 14

def BlockRec.bidir (b : BlockRec) : Bool := bit b.flags 0
def BlockRec.bay (b : BlockRec) : Bool := bit b.flags 2
def BlockRec.noHalt (b : BlockRec) : Bool := bit b.flags 3

def blockZero : BlockRec := ⟨0, 0, 0, 0, 65535, 65535, 0x8000, 0x8000, 0, 0, 0, 0⟩

/-- Record `b` of a map. -/
def SiteMap.block (m : SiteMap) (b : Nat) : BlockRec := m.blocks.getD b blockZero

/-- The link word of an end of a block: 0 entry, 1 exit. -/
def SiteMap.link (m : SiteMap) (b e : Nat) : Nat := if e = 0 then (m.block b).linkIn else (m.block b).linkOut

/-- KIND and INDEX of a link word (Table 7-3). -/
def linkKind (w : Nat) : Nat := w / 16384 % 4
def linkIndex (w : Nat) : Nat := w % 16384

/-- The points that the ends of a block link to. -/
def SiteMap.pointsOf (m : SiteMap) (b : Nat) : List Nat :=
  (([m.link b 0, m.link b 1].filter fun w => linkKind w == 1).map linkIndex).eraseDups

/-- The ends named in a points record: block and end. -/
def SiteMap.pointEnds (m : SiteMap) (p : Nat) : List Nat :=
  match m.points[p]? with
  | some r => r.ends
  | none => []

/-- The blocks that have an end linked to a points. -/
def SiteMap.pointBlocks (m : SiteMap) (p : Nat) : List Nat := (m.pointEnds p).map (· % 16384)

/-- The zones of a block: ZONE_A, ZONE_B and those of the points at its ends (Table 7-5). -/
def SiteMap.zonesOf (m : SiteMap) (b : Nat) : List Nat :=
  let pz := (m.pointsOf b).map fun p => ((m.points[p]?).map (·.zone)).getD 65535
  ((([(m.block b).zoneA, (m.block b).zoneB] ++ pz).filter (· != 65535))).eraseDups

/-- Whether two route entries are joined at the travelled end, directly or through one points from COMMON to a leg or from
a leg to COMMON (R182). -/
def SiteMap.joined (m : SiteMap) (a b : Nat) : Bool :=
  let ea := if wordRev a then 0 else 1
  let eb := if wordRev b then 1 else 0
  let w := m.link (wordBlock a) ea
  if linkKind w = 0 then linkIndex w == wordBlock b && ea != eb
  else if linkKind w = 1 then
    let es := m.pointEnds (linkIndex w)
    let na := wordBlock a + 16384 * ea
    let nb := wordBlock b + 16384 * eb
    match es with
    | c :: legs => (c == na && legs.contains nb) || (c == nb && legs.contains na)
    | [] => false
  else false

/-- A block record from its 32 bytes. -/
def parseBlock (p : List Byte) : BlockRec :=
  ⟨rdN p 0 2, rdN p 2 1, rdN p 3 1, rdN p 4 1, rdN p 6 2, rdN p 8 2, rdN p 10 2, rdN p 12 2, rdI p 16 4, rdI p 20 4, rdI p 24 4, rdI p 28 4⟩

/-- A points record from its 16 bytes. -/
def parsePoints (p : List Byte) : PointsRec :=
  { ends := [rdN p 0 2, rdN p 2 2, rdN p 4 2] ++ (if rdN p 8 1 = 3 then [rdN p 6 2] else []), flags := rdN p 9 1, zone := rdN p 10 2 }

/-- The site map of an image (R169). -/
def parseMap (p : List Byte) : SiteMap :=
  let nb := rdN p 12 2
  let np := rdN p 14 2
  let nz := rdN p 16 2
  { id := rdN p 8 4, originCrc := rdN p 20 4,
    blocks := (List.range nb).map fun i => parseBlock (p.drop (32 + 32 * i)),
    points := (List.range np).map fun i => parsePoints (p.drop (32 + 32 * nb + 16 * i)),
    zones := (List.range nz).map fun i => (rdN p (32 + 32 * nb + 16 * np + 8 * i) 1, rdN p (33 + 32 * nb + 16 * np + 8 * i) 1) }

/-- CRC-32C over the 24-byte payload of RTK_SET_SITE_ORIGIN (Table 7-1). -/
def originCrc (o : Int × Int × Int) : Nat := crc32c (leI 8 o.1 ++ leI 8 o.2.1 ++ leI 8 o.2.2)

/-- The first index below `n` that fails a test. -/
def firstBad (n : Nat) (ok : Nat → Bool) : Option Nat := (List.range n).find? fun i => !ok i

/-- Whether every byte of a span is 0. -/
def allZero (p : List Byte) (o n : Nat) : Bool := rdN p o n == 0

def zoneOk (nz z : Nat) : Bool := z == 65535 || decide (z < nz)
def linkOk (nb np w : Nat) : Bool :=
  match linkKind w with
  | 0 => decide (linkIndex w < nb)
  | 1 => decide (linkIndex w < np)
  | 2 => linkIndex w == 0
  | _ => false

/-- Field ranges and reserved bytes of a block, points and zone record (CODE 5). -/
def blockFieldsOk (nb np nz : Nat) (p : List Byte) : Bool :=
  decide (rdN p 2 1 < 16) && allZero p 5 1 && allZero p 14 2 && zoneOk nz (rdN p 6 2) && zoneOk nz (rdN p 8 2)
    && linkOk nb np (rdN p 10 2) && linkOk nb np (rdN p 12 2)
def endOk (nb w : Nat) : Bool := decide (w < 32768) && decide (w % 16384 < nb)
def pointsFieldsOk (nb nz : Nat) (p : List Byte) : Bool :=
  endOk nb (rdN p 0 2) && endOk nb (rdN p 2 2) && endOk nb (rdN p 4 2)
    && (if rdN p 8 1 = 2 then rdN p 6 2 == 65535 else rdN p 8 1 != 3 || endOk nb (rdN p 6 2))
    && decide (rdN p 9 1 < 2) && zoneOk nz (rdN p 10 2) && allZero p 12 4
def zoneFieldsOk (p : List Byte) : Bool := decide (rdN p 0 1 ≤ 128) && decide (rdN p 1 1 ≤ 4) && allZero p 2 6

/-- A block's links agree with what they name (R171). -/
def SiteMap.linksOk (m : SiteMap) (b : Nat) : Bool :=
  [0, 1].all fun e =>
    let w := m.link b e
    match linkKind w with
    | 0 => m.link (linkIndex w) (1 - e) == b
    | 1 => (m.pointEnds (linkIndex w)).contains (b + 16384 * e)
    | _ => true

/-- Every end that a points record names links back to it (R171). -/
def SiteMap.pointsOk (m : SiteMap) (p : Nat) : Bool :=
  (m.pointEnds p).all fun w => m.link (w % 16384) (w / 16384) == 16384 + p

/-- The check of a map image against the origin in force (R173): CODE, KIND and INDEX of the first failure, in the order
of the codes. -/
def checkMap (p : List Byte) (origin : Option (Int × Int × Int)) : Option (Nat × Nat × Nat) :=
  let n := p.length
  let nb := rdN p 12 2
  let np := rdN p 14 2
  let nz := rdN p 16 2
  let m := parseMap p
  let rec_ (k i : Nat) : List Byte :=
    p.drop (if k = 1 then 32 + 32 * i else if k = 2 then 32 + 32 * nb + 16 * i else 32 + 32 * nb + 16 * np + 8 * i)
  if n < 36 ∨ crc32c (p.take (n - 4)) ≠ rdN p (n - 4) 4 then some (1, 0, 0)
  else if p.take 4 ≠ [0x54, 0x4C, 0x58, 0x4D] ∨ rdN p 4 1 ≠ 1 then some (2, 0, 0)
  else if nb = 0 ∨ 16384 < nb ∨ 4096 < np ∨ 1024 < nz ∨ rdN p 24 4 ≠ n ∨ n ≠ 36 + 32 * nb + 16 * np + 8 * nz then some (3, 0, 0)
  else if (origin.map originCrc) ≠ some (rdN p 20 4) then some (4, 0, 0)
  else if !(allZero p 5 3 && allZero p 18 2 && allZero p 28 4) || rdN p 8 4 == 0 then some (5, 0, 0)
  else
    match firstBad nb (fun i => blockFieldsOk nb np nz (rec_ 1 i)), firstBad np (fun i => pointsFieldsOk nb nz (rec_ 2 i)),
      firstBad nz (fun i => zoneFieldsOk (rec_ 3 i)) with
    | some i, _, _ => some (5, 1, i)
    | none, some i, _ => some (5, 2, i)
    | none, none, some i => some (5, 3, i)
    | none, none, none =>
      match firstBad nb m.linksOk, firstBad np m.pointsOk with
      | some i, _ => some (6, 1, i)
      | none, some i => some (7, 2, i)
      | none, none =>
        match firstBad nb (fun i => (m.block i).len != 0 && (m.block i).vmax != 0),
          firstBad np (fun i => rdN (rec_ 2 i) 8 1 == 2 || rdN (rec_ 2 i) 8 1 == 3) with
        | some i, _ => some (8, 1, i)
        | none, some i => some (8, 2, i)
        | none, none => none

/-! ### Geometry (R179) -/

/-- Whether a point lies within `r` mm of the segment of a block. -/
def BlockRec.within (b : BlockRec) (e n : Int) (r : Nat) : Bool :=
  let dx := b.e1 - b.e0
  let dy := b.n1 - b.n0
  let wx := e - b.e0
  let wy := n - b.n0
  let d := dx * dx + dy * dy
  let t := wx * dx + wy * dy
  let q : Int := (r : Int) * r
  if t ≤ 0 then decide (wx * wx + wy * wy ≤ q)
  else if d ≤ t then decide ((e - b.e1) * (e - b.e1) + (n - b.n1) * (n - b.n1) ≤ q)
  else decide ((wx * wx + wy * wy - q) * d ≤ t * t)

/-- The square of the distance of a point from a block's segment, times the square of its length, as a measure of
nearness among blocks: (numerator, denominator). -/
def BlockRec.dist2 (b : BlockRec) (e n : Int) : Int × Int :=
  let dx := b.e1 - b.e0
  let dy := b.n1 - b.n0
  let wx := e - b.e0
  let wy := n - b.n0
  let d := dx * dx + dy * dy
  let t := wx * dx + wy * dy
  if t ≤ 0 then (wx * wx + wy * wy, 1)
  else if d ≤ t then ((e - b.e1) * (e - b.e1) + (n - b.n1) * (n - b.n1), 1)
  else ((wx * wx + wy * wy) * d - t * t, d)

/-- The distance along a block from its travel entry, scaled to its LENGTH, in mm. -/
def BlockRec.alongMm (b : BlockRec) (rev : Bool) (e n : Int) : Nat :=
  let dx := b.e1 - b.e0
  let dy := b.n1 - b.n0
  let d := dx * dx + dy * dy
  let t := clampI 0 d ((e - b.e0) * dx + (n - b.n0) * dy)
  let x := if d = 0 then 0 else (t * (100 * b.len : Nat) / d).toNat
  if rev then 100 * b.len - x else x

/-- The same in 0.1 m. -/
def BlockRec.along (b : BlockRec) (rev : Bool) (e n : Int) : Nat := b.alongMm rev e n / 100

/-! ### Holders and zones (R187) -/

/-- The live committed authority of a rover as the lanes have it. -/
def State.laneAuth (s : State) (a : Nat) : Option Auth := s.liveAt s.laneNow a

/-- The RELEASING entries of a rover that still stand. -/
def State.relLive (s : State) (r : SbxRover) : List Releasing :=
  r.releasing.filter fun x => match x.expiry with
    | some e => decide (s.laneNow ≤ e)
    | none => true

/-- The blocks a rover holds: committed, occupied or RELEASING. -/
def State.heldBlocks (s : State) (a : Nat) : List Nat :=
  let r := s.sx a
  (match s.laneAuth a with
    | some x => x.blocks.map wordBlock
    | none => []) ++ r.occ ++ (s.relLive r).map (·.block)

/-- The rover slots that the signal box knows. -/
def State.sbxSlots (s : State) : List Nat := s.sbx.rovers.map (·.1)

/-- The rovers that hold a block. -/
def State.holders (s : State) (b : Nat) : List Nat := s.sbxSlots.filter fun a => (s.heldBlocks a).contains b

/-- Whether a block is RELEASING. -/
def State.isReleasing (s : State) (b : Nat) : Bool :=
  s.sbxSlots.any fun a => (s.relLive (s.sx a)).any fun x => x.block == b

/-- The holder of a tentative block: its hold has it, or it is being withdrawn from it (R196). -/
def State.tentHolder (s : State) (b : Nat) : Option Nat :=
  s.sbxSlots.find? fun a =>
    let r := s.sx a
    (match r.tent with
      | some t => (t.blocks.map wordBlock).contains b
      | none => false) || r.withdraws.any fun w => w.block == b

/-- The capacity of a zone: set by SBX_ZONE_SET, or that of the map. -/
def State.zoneCapOf (s : State) (m : SiteMap) (z : Nat) : Nat :=
  match Tbl.get none s.sbx.zoneCap z with
  | some c => c
  | none => ((m.zones[z]?).map (·.1)).getD 0

/-- The rovers that count in a zone. -/
def State.zoneCount (s : State) (m : SiteMap) (z : Nat) : List Nat :=
  s.sbxSlots.filter fun a => (s.heldBlocks a).any fun b => (m.zonesOf b).contains z

/-- The rovers that count in a zone, in entry order: those that counted before, then the newcomers. -/
def State.zoneOrder (s : State) (m : SiteMap) (z : Nat) : List Nat :=
  let now := s.zoneCount m z
  let old := (Tbl.get [] s.sbx.zoneIn z).filter now.contains
  old ++ now.filter fun a => !old.contains a

/-- The entry order of every zone follows what the rovers hold (R189). -/
def State.syncZones (s : State) : State :=
  let zin := match s.sbx.map with
    | some m => (List.range m.zones.length).foldl (fun t z => Tbl.put [] t z (s.zoneOrder m z)) []
    | none => []
  { s with sbx := { s.sbx with zoneIn := zin } }

/-- Zone membership follows what the rovers hold; SBX_STAT shows its counts. -/
def State.syncSbx (s : State) : State :=
  let t := s.syncZones
  let slots := t.sbxSlots
  let t := t.setFld F.SBX_STAT_WAITING (slots.filter fun a => (t.sx a).waitOn.isSome).length
  let t := t.setFld F.SBX_STAT_LIVE (slots.filter fun a => (t.laneAuth a).isSome).length
  let t := t.setFld F.SBX_STAT_TENT (slots.filter fun a => (t.sx a).tent.isSome).length
  let t := t.setFld F.SBX_STAT_NO_MAP (b2n t.sbx.map.isNone)
  let t := t.setFld F.SBX_STAT_STAGED (b2n t.sbx.staged.isSome)
  t.setFld F.SBX_STAT_STOPPED (b2n t.fleetStopped)

/-- The first full zone of a block in which rover `a` does not count (Table 7-5). -/
def State.fullZone (s : State) (m : SiteMap) (a b : Nat) : Option Nat :=
  (m.zonesOf b).find? fun z => !(s.zoneCount m z).contains a && decide (s.zoneCapOf m z ≤ (s.zoneCount m z).length)

/-- Why a block is not grantable to rover `a` (Table 7-5): the reason and the rover in the way; none when every rule
holds. Of several rules that fail, RELEASING and a zone stop, which make no wait, are named first and the Tentative rule last. Under
the Zone rule a wait that stands keeps the rover it names, which R193 changes. -/
def State.refusal (s : State) (m : SiteMap) (a w : Nat) : Option (Nat × Option Nat) :=
  let b := wordBlock w
  let other (l : List Nat) : Option Nat := (l.filter (· != a)).head?
  let zs := m.zonesOf b
  if m.blocks.length ≤ b then some (rsROUTE_BROKEN, none)
  else if wordRev w && !(m.block b).bidir then some (rsDIRECTION, none)
  else if s.isReleasing b then some (rsRELEASING, none)
  else if zs.any s.sbx.zoneStops.contains then some (rsZONE_STOPPED, none)
  else
    match other (s.holders b), other ((m.pointsOf b).flatMap fun p => (m.pointBlocks p).flatMap s.holders) with
    | some h, _ => some (rsBLOCK_HELD, some h)
    | none, some h => some (rsPOINTS_HELD, some h)
    | none, none =>
      match s.fullZone m a b with
      | some z =>
        let order := s.zoneOrder m z
        let r := s.sx a
        let stays := r.reason == rsZONE_FULL && r.stopAt == some w && (r.waitOn.any order.contains)
        some (rsZONE_FULL, if stays then r.waitOn else order.head?)
      | none =>
        match s.tentHolder b with
        | some h => if h = a then none else some (rsTENTATIVE_OTHER, some h)
        | none => none

/-! ### Authorities and previews (R177) -/

/-- AUTH_MS and TENT_MS in force, ns. -/
def State.authNs (s : State) : Nat := clampN 200 10000 (s.fld F.SBX_EXP_AUTH_MS) * oneMs
def State.tentNs (s : State) : Nat := clampN 200 60000 (s.fld F.SBX_EXP_TENT_MS) * oneMs

/-- Hand an authority or a preview to the timetabler (R227). -/
def State.hand (s : State) (a : Nat) (preview : Bool) (cls : Nat) (x : Auth) : State :=
  { s with ttb := { s.ttb with jobs := s.ttb.jobs ++ [{ slot := a, preview := preview, auth := x, cls := cls }] } }

/-- A new committed authority for rover `a`, with the next AUTH_ID. -/
def State.issueAuth (s : State) (a : Nat) (blocks : List Nat) (endOfs : Nat) (cutBack revoked last : Bool) : State :=
  let r := s.sx a
  let x : Auth := { id := r.authId, blocks := blocks, endOfs := endOfs, cutBack := cutBack, revoked := revoked, last := last }
  let t := s.setSx a { r with auth := some x, authId := (r.authId + 1) % 65536 }
  (t.satInc F.SBX_CNT0_GRANTS).hand a false (if cutBack || revoked then 0 else 2) x

/-- A preview of rover `a`'s tentative hold, with the next PREV_ID; an empty hold ends with it (R195, R196). -/
def State.issuePreview (s : State) (a : Nat) (blocks : List Nat) (endOfs : Nat) (withdraws : Bool) : State :=
  let r := s.sx a
  let x : Auth := { id := r.prevId, blocks := blocks, endOfs := endOfs }
  let t := s.setSx a { r with tent := if blocks.isEmpty then none else some x, prevId := (r.prevId + 1) % 65536 }
  t.hand a true (if withdraws then 1 else 3) x

/-- The EXPIRY an authority has, or will have when it is committed at the next commit point. -/
def State.expiryOf (s : State) (x : Auth) : Nat := x.expiry.getD (s.nextCommit + s.authNs)

/-- Blocks of rover `a` leave its authority `x` and enter RELEASING until the next AUTH_ID or a newer one is acknowledged, or
until the EXPIRY of `x`, which an authority not yet committed takes at its own commit point (R177, R188). -/
def State.toReleasing (s : State) (a : Nat) (x : Auth) (blocks : List Nat) : State :=
  let r := s.sx a
  let new := blocks.map fun b => ({ block := b, needId := r.authId, oldId := x.id, expiry := x.expiry } : Releasing)
  s.setSx a { r with releasing := r.releasing ++ new }

/-- RELEASING entries that wait for the EXPIRY of authority `id` take it. -/
def stampReleasing (id expiry : Nat) (l : List Releasing) : List Releasing :=
  l.map fun x => if x.oldId = id ∧ x.expiry.isNone then { x with expiry := some expiry } else x

/-- An authority that the timetabler never profiled is not committed: its blocks stay held until the EXPIRY it would have had
(Table 9-6). -/
def State.neverCommitted (s : State) (j : Job) : State :=
  let r := s.sx j.slot
  let e := s.expiryOf j.auth
  let auth := r.auth.map fun x => if x.id = j.auth.id ∧ x.expiry.isNone then { x with expiry := some e } else x
  if j.preview then s else s.setSx j.slot { r with auth := auth, releasing := stampReleasing j.auth.id e r.releasing }

/-- End rover `a`'s wait (R189). -/
def State.endWait (s : State) (a : Nat) : State := s.setSx a { s.sx a with waitOn := none, waitSince := 0, stopAt := none }

/-- END_OFS of a list of blocks that has lost some: it stays while the last block does, and is else the LENGTH of the last one left,
so that it is at most that LENGTH (Table 7-4). -/
def State.endFor (s : State) (old new : List Nat) (endOfs : Nat) : Nat :=
  match s.sbx.map, new.getLast? with
  | some m, some w => if old.getLast? = some w then min endOfs (m.block (wordBlock w)).len else (m.block (wordBlock w)).len
  | _, _ => 0

/-- Tentative blocks are withdrawn from their holder `h` at once for rover `a` (R196, R197); 255 names no rover. -/
def State.withdraw (s : State) (h : Nat) (blocks : List Nat) (a : Nat) : State :=
  let r := s.sx h
  match r.tent with
  | some t =>
    let gone := (t.blocks.map wordBlock).filter blocks.contains
    if gone.isEmpty then s
    else
      let kept := t.blocks.filter fun w => !blocks.contains (wordBlock w)
      let ws := gone.map fun b => ({ block := b, prevId := r.prevId, forSlot := a } : Withdraw)
      let u := s.setSx h { r with withdraws := r.withdraws ++ ws }
      (u.issuePreview h kept (s.endFor t.blocks kept t.endOfs) true).satInc F.SBX_CNT1_WITHDRAWS
  | none => s

/-- Withdraw the whole tentative hold of a rover (R197). -/
def State.withdrawAll (s : State) (h : Nat) : State :=
  match (s.sx h).tent with
  | some t => s.withdraw h (t.blocks.map wordBlock) 255
  | none => s

/-- The rover's own tentative blocks that become committed leave its hold (R197), and the changed hold is sent again. -/
def State.takeOwn (s : State) (a : Nat) (blocks : List Nat) : State :=
  let r := s.sx a
  let s := s.setSx a { r with withdraws := r.withdraws.filter fun w => !blocks.contains w.block }
  match r.tent with
  | some t =>
    let kept := t.blocks.filter fun w => !blocks.contains (wordBlock w)
    if kept.length = t.blocks.length then s
    else if kept.isEmpty then s.setSx a { s.sx a with tent := none }
    else s.issuePreview a kept (s.endFor t.blocks kept t.endOfs) false
  | none => s

/-! ### Extension (R183, R184) -/

/-- Site time of the epoch of a fix record, ns. -/
def FixRec.instant (r : FixRec) : Nat := gpsEpoch + r.epoch * oneMs

/-- Whether the latest fix of a rover allows an extension (R184). -/
def State.fixGood (s : State) (a : Nat) : Bool :=
  match (s.rk a).record with
  | some r => (r.cls == 3 || (r.cls == 2 && s.flag F.SBX_CTL_FLOAT_OK)) && s.laneNow ≤ r.instant + s.authNs
  | none => false

/-- Why no extension of rover `a` is made at all (R184); 0 when one may be. -/
def State.whyNot (s : State) (a : Nat) : Nat :=
  if s.sbx.map.isNone then rsNO_MAP
  else if !s.flag F.SBX_CTL_EN then rsDISABLED
  else if s.fld F.TIM_STAT_STATE = 0 then rsTIME_FREE
  else if s.roverStopped a || (s.sx a).stopped then rsSTOPPED
  else if !s.fixGood a then rsNO_FIX
  else rsNONE

/-- The longest run of route entries that every rule allows, at most `n`, and where and why it stops. -/
def State.run (s : State) (m : SiteMap) (a : Nat) : Nat → List Nat → List Nat × Option (Nat × Nat × Option Nat)
  | _, [] => ([], none)
  | 0, w :: _ => ([], some (w, rsLIMIT, none))
  | n + 1, w :: t =>
    match s.refusal m a w with
    | some (reason, h) => ([], some (w, reason, h))
    | none =>
      let r := s.run m a n t
      (w :: r.1, r.2)

/-- A run shortened back to a block without NO_HALT. -/
def haltRun (m : SiteMap) (run : List Nat) : List Nat :=
  (run.reverse.dropWhile fun w => (m.block (wordBlock w)).noHalt).reverse

def State.maxBlk (s : State) : Nat := clampN 1 64 (s.fld F.SBX_MARGIN_MAX_BLK)

/-- Whether a reason makes a wait (R189). -/
def makesWait (reason : Nat) : Bool := reason == rsBLOCK_HELD || reason == rsPOINTS_HELD || reason == rsZONE_FULL

/-- One extension of rover `a` (R183, R184, R189): the state, and whether it now waits on another rover than before. -/
def State.extendOnce (s : State) (a : Nat) : State × Bool :=
  let r := s.sx a
  let why := s.whyNot a
  let route := r.route.dropWhile fun w => !r.occ.contains (wordBlock w)
  if r.route.isEmpty then (s, false)
  else if why ≠ rsNONE ∨ route.isEmpty then
    let t := s.endWait a
    (t.setSx a { t.sx a with reason := if why ≠ rsNONE then why else rsNOT_ON_START }, false)
  else
    match s.sbx.map with
    | none => (s, false)
    | some m =>
      let (full, stop) := s.run m a s.maxBlk route
      let run := if stop.isSome then haltRun m full else full
      let live := match s.laneAuth a with
        | some x => x.blocks.length
        | none => 0
      let reason := match stop with
        | none => rsNONE
        | some (_, q, _) => if run.isEmpty && !full.isEmpty then rsNO_HALT else q
      let last := (m.block (wordBlock (run.getLast?.getD 0))).len
      let endOfs := if stop.isNone then min r.routeEnd last else last
      let t := if run.isEmpty || run.length < live then s
        else (s.takeOwn a (run.map wordBlock)).issueAuth a run endOfs false false stop.isNone
      let t := match stop with
        | some (w, q, some h) => if q = rsTENTATIVE_OTHER then t.withdraw h [wordBlock w] a else t
        | _ => t
      let on := match stop with
        | some (_, q, h) => if makesWait q then h else none
        | none => none
      let stopAt := match stop with
        | some (w, q, _) => if q = rsLIMIT then none else some w
        | none => none
      let same := r.waitOn.isSome && stopAt == r.stopAt && reason == r.reason
      let since := if on.isNone then 0 else if same then r.waitSince else s.laneNow
      let u := t.setSx a { t.sx a with waitOn := on, waitSince := since, stopAt := stopAt, reason := reason }
      (u.syncZones, on.isSome && (on != r.waitOn || !same))

/-! ### Circular waits (R190 to R192) -/

/-- The chain of waits from a rover: `some` path when it returns to `a`. -/
def State.chain (s : State) (a : Nat) : Nat → Nat → List Nat → Option (List Nat)
  | 0, _, _ => none
  | n + 1, x, path =>
    if x = a then some path
    else if path.contains x then none
    else
      match (s.sx x).waitOn with
      | some y => s.chain a n y (path ++ [x])
      | none => none

/-- Of some blocks the one nearest to a position; of equally near ones the first. -/
def SiteMap.nearest (m : SiteMap) (e n : Int) (bs : List Nat) : Option Nat :=
  bs.foldl (fun best b =>
    match best with
    | none => some b
    | some c =>
      let x := (m.block b).dist2 e n
      let y := (m.block c).dist2 e n
      if x.1 * y.2 < y.1 * x.2 then some b else some c) none

/-- The position of a rover's fix in use. -/
def State.fixPos (s : State) (a : Nat) : Int × Int × Int := ((s.rk a).record.map (·.pos)).getD (0, 0, 0)

/-- The current block of a rover (R179): of the occupied blocks of its route the one that holds the fix position, which is the nearest
one, and on a joint the earlier; without one on the route, the occupied block nearest to the fix (R210). -/
def State.currentBlock (s : State) (a : Nat) : Option Nat :=
  let r := s.sx a
  match s.sbx.map with
  | none => none
  | some m =>
    let p := s.fixPos a
    match m.nearest p.1 p.2.1 ((r.route.map wordBlock).filter r.occ.contains) with
    | some b => some b
    | none => m.nearest p.1 p.2.1 r.occ

/-- The block that a REVOKED or CUT_BACK authority holds: the current block, or of a rover that occupies none the block of its
authority nearest to its fix (entry 170). -/
def State.cutBlock (s : State) (a : Nat) : Option Nat :=
  match s.currentBlock a, s.sbx.map with
  | some b, _ => some b
  | none, some m => m.nearest (s.fixPos a).1 (s.fixPos a).2.1 (((s.laneAuth a).map fun x => x.blocks.map wordBlock).getD [])
  | none, none => none

/-- The direction in which a rover travels a block of its route or authority. -/
def State.travelRev (s : State) (a b : Nat) : Bool :=
  let ws := (s.sx a).route ++ (match s.laneAuth a with
    | some x => x.blocks
    | none => [])
  match ws.find? fun w => wordBlock w == b with
  | some w => wordRev w
  | none => false

/-- A rover is cut back to its current block, or revoked (R191 steps 1 to 3, R198): its route and wait end, the other blocks of its
live authority enter RELEASING and an authority over the current block follows. Answers the blocks released. -/
def State.curtail (s : State) (a : Nat) (revoke : Bool) : State × List Nat :=
  let cur := s.cutBlock a
  let rev := match cur with
    | some b => s.travelRev a b
    | none => false
  let t := (s.endWait a).setSx a { (s.endWait a).sx a with route := [] }
  let gone := match s.laneAuth a with
    | some x => (x.blocks.map wordBlock).filter fun b => some b ≠ cur
    | none => []
  let t := match s.laneAuth a with
    | some x => t.toReleasing a x gone
    | none => t
  match cur, s.sbx.map with
  | some b, some m =>
    let pos := s.fixPos a
    let ofs := if revoke then (m.block b).along rev pos.1 pos.2.1 else (m.block b).len
    (t.issueAuth a [b + (if rev then 16384 else 0)] ofs (!revoke) revoke false, gone)
  | _, _ => (t.setSx a { t.sx a with auth := none }, gone)

/-- Break a cycle (R190 to R192): the victim has the lowest priority, on equal priority the highest slot. Answers the
state and the rover that waited on the victim. -/
def State.breakCycle (s : State) (path : List Nat) : State × Option Nat :=
  let worse (v x : Nat) : Bool :=
    decide ((s.sx x).prio < (s.sx v).prio) || (decide ((s.sx x).prio = (s.sx v).prio) && decide (v < x))
  let v := path.foldl (fun v x => if worse v x then x else v) (path.headD 0)
  let waiter := path.find? fun x => (s.sx x).waitOn == some v
  let stops := path.filterMap fun x => (s.sx x).stopAt.map wordBlock
  let id := (s.sx v).authId
  let (t, gone) := s.curtail v false
  let avoid := ((gone ++ stops).eraseDups, t.laneSf + orOne (t.fld F.SBX_CTL_AVOID))
  let t := t.setSx v { t.sx v with avoid := (t.sx v).avoid ++ [avoid] }
  let t : State := { t with alt := { t.alt with reroute := t.alt.reroute ++ [(v, t.laneSf)] } }
  let t := t.satInc F.SBX_CNT1_CYCLES
  (t.raise Ev.sbxDeadlock (le 1 v ++ le 1 path.length ++ le 1 (s.sx v).prio ++ le 1 0 ++ le 2 id), waiter)

/-- Extend a rover; a new wait that closes a cycle is broken before the next request, and the rover that waited on the
victim is processed next (R185, R190, R191). Each break ends a route, so 128 rounds suffice. -/
def State.extendN : Nat → State → Nat → State
  | 0, s, _ => s
  | n + 1, s, a =>
    let (t, new) := s.extendOnce a
    if !new then t
    else
      match (t.sx a).waitOn with
      | none => t
      | some b =>
        match t.chain a 128 b [a] with
        | none => t
        | some path =>
          match t.breakCycle path with
          | (u, some w) => if w = a ∧ (u.sx a).route.isEmpty then u else u.extendN n w
          | (u, none) => u

def State.extend (s : State) (a : Nat) : State := s.extendN 128 a

/-- After ground has come free, the rovers that had stopped at a block now grantable are extended again, the lower slot
first (R185). -/
def State.retry (s : State) : State :=
  let t := s.sbxSlots.foldl (fun t a =>
    match (t.sx a).stopAt, t.sbx.map with
    | some w, some m => if (t.refusal m a w).isNone then t.extend a else t
    | _, _ => t) s
  t.syncSbx

/-! ### Occupancy (R179, R180, R186) -/

/-- The blocks that a fix occupies: within FOOT + HPL of the position, widened by HALF_WIDTH. -/
def State.occupied (s : State) (r : FixRec) : List Nat :=
  match s.sbx.map with
  | some m =>
    let reach := 100 * s.fld F.SBX_MARGIN_FOOT + r.hpl
    (List.range m.blocks.length).filter fun b => (m.block b).within r.pos.1 r.pos.2.1 (100 * (m.block b).half + reach)
  | none => []

/-- Blocks behind the rover that it no longer occupies leave its route and its authority (R186). -/
def dropBehind (r : SbxRover) : SbxRover :=
  let at_ (ws : List Nat) : List Nat :=
    if ws.any fun w => r.occ.contains (wordBlock w) then ws.dropWhile fun w => !r.occ.contains (wordBlock w) else ws
  { r with route := at_ r.route, auth := r.auth.map fun x => { x with blocks := at_ x.blocks } }

/-- A route has been run to its end (R186): the LAST authority is live and the fix lies within FOOT of the end point. -/
def State.routeDone (s : State) (a : Nat) : State :=
  let r := s.sx a
  match r.route, s.laneAuth a, s.sbx.map, (s.rk a).record with
  | [w], some x, some m, some f =>
    let pos := (m.block (wordBlock w)).along (wordRev w) f.pos.1 f.pos.2.1
    if x.last && r.occ.contains (wordBlock w) && r.routeEnd ≤ pos + s.fld F.SBX_MARGIN_FOOT then
      (s.endWait a).setSx a { (s.endWait a).sx a with route := [] }
    else s
  | _, _, _, _ => s

/-- A fix record reaches the signal box (R140, R179, R180): occupancy is evaluated again. -/
def State.takeFix (s : State) (a : Nat) (f : FixRec) (lastTow : Nat) : State :=
  let r := s.sx a
  if f.cls = 0 then
    if r.noneHold || r.occ.isEmpty then s
    else
      let t := s.setSx a { r with noneHold := true }
      t.raise Ev.sbxHold (le 1 a ++ le 1 0 ++ le 2 r.occ.length ++ le 4 lastTow)
  else
    let t := s.setSx a (dropBehind { r with noneHold := false, occ := s.occupied f })
    (t.routeDone a).retry

/-! ### Stops, lost rovers (Table 7-6) -/

/-- A rover is stopped (Table 7-6): its tentative hold is withdrawn, its route and wait end, its authority counts as revoked and its
unoccupied blocks enter RELEASING. With `send` a REVOKED authority over its current block follows (R299). -/
def State.stopRover (s : State) (send : Bool) (a : Nat) : State :=
  let t := s.withdrawAll a
  let cur := if send then t.cutBlock a else none
  let rev := match cur with
    | some b => t.travelRev a b
    | none => false
  let live := t.laneAuth a
  let occ := (t.sx a).occ
  let t := match live with
    | some x => t.toReleasing a x ((x.blocks.map wordBlock).filter fun b => !occ.contains b && some b != cur)
    | none => t
  let t := t.endWait a
  let t := t.setSx a { t.sx a with route := [], auth := none, stopped := true }
  let t := match live, cur, t.sbx.map with
    | some _, some b, some m =>
      let pos := t.fixPos a
      t.issueAuth a [b + (if rev then 16384 else 0)] ((m.block b).along rev pos.1 pos.2.1) false true false
    | _, _, _ => t
  if (t.prof a).state = 1 then t.setProf a { t.prof a with state := 2 } else t

/-- A rover is declared lost or evicted (Table 7-6): route, wait and tentative hold are cleared; withdraws under way go on (R196). -/
def State.dropRover (s : State) (a : Nat) : State :=
  let t := s.endWait a
  (t.setSx a { t.sx a with route := [], tent := none }).retry

/-- A slot is assigned anew (R177): its IDs restart at 0, what the earlier unit had to acknowledge ends by time alone, and authorities of
that unit not yet committed are not. -/
def State.renewIds (s : State) (a : Nat) : State :=
  let t := (s.ttb.jobs.filter fun j => j.slot == a).foldl State.neverCommitted s
  let t : State := { t with ttb := { t.ttb with jobs := t.ttb.jobs.filter fun j => j.slot != a } }
  let r := t.sx a
  let sf (w : Withdraw) : Option Nat := some (w.sf.getD t.laneSf)
  t.setSx a { r with authId := 0, prevId := 0, ackAuth := none, ackPrev := none, releasing := r.releasing.map fun x => { x with ackable := false }, withdraws := r.withdraws.map fun w => { w with ackable := false, sf := sf w } }

/-- A zone stop reaches the lanes (R299): the rovers that occupy or hold ground of the zone. -/
def State.zoneRovers (s : State) (z : Nat) : List Nat :=
  match s.sbx.map with
  | some m => s.zoneCount m z
  | none => []

/-! ### Requests (R182, R194) -/

/-- The blocks of a rover's AVOID set that still stand (R192). -/
def State.avoiding (s : State) (r : SbxRover) : List Nat := (r.avoid.filter fun x => s.laneSf ≤ x.2).flatMap (·.1)

/-- Why a route is refused (R182); 0 when it is accepted. A tentative route need not start on an occupied block. -/
def State.routeRefusal (s : State) (a mapId : Nat) (route : List Nat) (tentative : Bool) : Nat :=
  let r := s.sx a
  match s.sbx.map with
  | none => rsNO_MAP
  | some m =>
    let pairs := route.zip route.tail
    if mapId ≠ m.id then rsMAP_MISMATCH
    else if route.isEmpty || route.any fun w => m.blocks.length ≤ wordBlock w then rsROUTE_BROKEN
    else if !tentative && !r.occ.contains (wordBlock (route.headD 0)) then rsNOT_ON_START
    else if pairs.any fun p => !m.joined p.1 p.2 then rsROUTE_BROKEN
    else if route.any fun w => wordRev w && !(m.block (wordBlock w)).bidir then rsDIRECTION
    else if route.any fun w => (s.avoiding r).contains (wordBlock w) then rsAVOID
    else rsNONE

/-- The entries of an authority that are among the leading entries of a route: from the route's first entry on, as far as the two
agree (R182). -/
def leading (blocks route : List Nat) : List Nat :=
  let ahead := blocks.dropWhile fun w => some w != route.head?
  ((ahead.zip route).takeWhile fun p => p.1 == p.2).map (·.1)

/-- An accepted route replaces the previous one (R182): blocks of the live authority that are not among its leading
entries enter RELEASING. -/
def State.acceptRoute (s : State) (a prio endOfs : Nat) (route : List Nat) : State :=
  let t := match s.laneAuth a with
    | some x =>
      let kept := leading x.blocks route
      let u := s.toReleasing a x ((x.blocks.filter fun w => !kept.contains w).map wordBlock)
      u.setSx a { u.sx a with auth := some { x with blocks := kept, endOfs := s.endFor x.blocks kept x.endOfs, last := x.last && kept.getLast? == x.blocks.getLast? } }
    | none => s
  t.setSx a { t.sx a with route := route, routeEnd := endOfs, prio := prio, stopped := s.roverStopped a, stopAt := none }

/-- Why a block is not free for a tentative hold of rover `a` (R194); 0 when it is. It is free of every rover's hold, that of `a` too. -/
def State.unfree (s : State) (m : SiteMap) (a b : Nat) : Nat :=
  let zs := m.zonesOf b
  if s.isReleasing b then rsRELEASING
  else if !(s.holders b).isEmpty then rsBLOCK_HELD
  else if (match s.tentHolder b with
    | some h => h != a
    | none => false) || (s.sx a).withdraws.any fun w => w.block == b then rsTENTATIVE_OTHER
  else if zs.any s.sbx.zoneStops.contains then rsZONE_STOPPED
  else if zs.any fun z => decide (s.zoneCapOf m z ≤ (s.zoneCount m z).length) then rsZONE_FULL
  else rsNONE

/-- The answer to a request: result (Table 7-8), reason (Table 7-9), blocks, rover waited on, ID. -/
structure Answered where
  result : Nat
  reason : Nat
  blocks : Nat
  waitOn : Nat
  id : Nat

/-- A tentative request (R194, R195): the longest run of free blocks from the start of its route is held and previewed. -/
def State.tentative (s : State) (q : RouteReq) : State × Answered :=
  let a := q.slot
  let why := s.routeRefusal a q.mapId q.route true
  let why := if why ≠ rsNONE then why else if !s.flag F.SBX_CTL_PREVIEW_EN then rsDISABLED else if s.roverStopped a then rsSTOPPED else rsNONE
  match why, s.sbx.map with
  | 0, some m =>
    let run := (q.route.take s.maxBlk).takeWhile fun w => s.unfree m a (wordBlock w) == 0
    let reason := match q.route.drop run.length with
      | [] => rsNONE
      | w :: _ => if run.length = s.maxBlk then rsLIMIT else s.unfree m a (wordBlock w)
    let last := (m.block (wordBlock (run.getLast?.getD 0))).len
    let endOfs := if run.length = q.route.length then min q.endOfs last else last
    let had := (s.sx a).tent.isSome
    let t := if run.isEmpty && !had then s else s.issuePreview a run endOfs run.isEmpty
    let id := if run.isEmpty && !had then 0 else (s.sx a).prevId
    (t.retry, ⟨3, reason, run.length, 255, id⟩)
  | _, _ => (if why = rsAVOID then s.satInc F.SBX_CNT1_AVOID_REF else s, ⟨2, why, 0, 255, 0⟩)

/-- SBX_LOAD.REQ_S follows the whole seconds: the requests processed in the last one. -/
def State.syncReq (s : State) : State :=
  let sec := s.laneNow / oneSec
  if s.sbx.reqSec = sec then s
  else
    let t := s.setFld F.SBX_LOAD_REQ_S (if s.sbx.reqSec + 1 = sec then min 65535 s.sbx.reqCount else 0)
    { t with sbx := { t.sbx with reqSec := sec, reqCount := 0 } }

/-- A route request, checked and processed (R182, R185); it is granted what a new authority of the rover holds. -/
def State.routeRequest (s : State) (q : RouteReq) : State × Answered :=
  let s := s.syncReq
  let s : State := { s with sbx := { s.sbx with reqCount := s.sbx.reqCount + 1 } }
  let (t, r) := if q.tentative then s.tentative q
    else
      let a := q.slot
      let why := s.routeRefusal a q.mapId q.route false
      if why ≠ rsNONE then
        (if why = rsAVOID then s.satInc F.SBX_CNT1_AVOID_REF else s, ⟨2, why, 0, 255, 0⟩)
      else
        let t := ((s.acceptRoute a q.prio q.endOfs q.route).extend a).retry
        let x := t.sx a
        match t.laneAuth a, x.authId == (s.sx a).authId with
        | some u, false =>
          (t, ⟨if u.last && x.reason == rsNONE then 0 else 1, x.reason, u.blocks.length, x.waitOn.getD 255, u.id⟩)
        | _, _ => (t, ⟨2, x.reason, 0, x.waitOn.getD 255, 0⟩)
  (if r.result = 2 then t.satInc F.SBX_CNT0_REFUSED else t, r)

/-! ### Acknowledgements (R188, R196) -/

/-- Whether an ID is at least as new as another (R178). -/
def atLeastAsNew (new old : Nat) : Bool := decide ((new + 65536 - old) % 65536 ≤ 32767)

/-- A rover acknowledges an AUTH_ID and a PREV_ID: RELEASING and withdrawn blocks that they cover come free. -/
def State.acknowledge (s : State) (a : Nat) (authId prevId : Option Nat) : State :=
  let r := s.sx a
  let rel := match authId with
    | some i => r.releasing.filter fun x => !(x.ackable && atLeastAsNew i x.needId)
    | none => r.releasing
  let wd := match prevId with
    | some i => r.withdraws.filter fun x => !(x.ackable && atLeastAsNew i x.prevId)
    | none => r.withdraws
  let t := s.setSx a { r with releasing := rel, withdraws := wd, ackAuth := authId.orElse fun _ => r.ackAuth, ackPrev := prevId.orElse fun _ => r.ackPrev }
  if rel.length < r.releasing.length ∨ wd.length < r.withdraws.length then t.retry else t

end Sys2Proof.Machine
end

