-- ==== Sys2Proof/Machine/Numbers.lean ====
section
/-! DEFINITION. Whole-number roots, logarithms, medians and bit strings: the plain arithmetic of the data paths, exact up to one
rounding at the end. -/

namespace Sys2Proof

/-- The largest r below 2^b with r^k ≤ n, found bit by bit above `r`. -/
def nthRootFrom (k n : Nat) : Nat → Nat → Nat
  | 0, r => r
  | b + 1, r => if (r + 2 ^ b) ^ k ≤ n then nthRootFrom k n b (r + 2 ^ b) else nthRootFrom k n b r

/-- The k-th root of a number, rounded down, below 2^64. -/
def nthRoot (k n : Nat) : Nat := nthRootFrom k n 64 0

/-- The largest m below 2^b with 10^m × d ≤ n, found bit by bit above `m`. -/
def logFrom (n d : Nat) : Nat → Nat → Nat
  | 0, m => m
  | b + 1, m => if 10 ^ (m + 2 ^ b) * d ≤ n then logFrom n d b (m + 2 ^ b) else logFrom n d b m

/-- k × log10(n / d), rounded towards 0, for positive numbers: at most 16,383 in size. -/
def logRatio (k n d : Nat) : Int := if d ≤ n then (logFrom (n ^ k) (d ^ k) 14 0 : Nat) else -(logFrom (d ^ k) (n ^ k) 14 0 : Nat)

/-- The median of a list, the mean of its middle two where their number is even; 0 of none. -/
def median (l : List Int) : Int :=
  let m := sortBy (fun a b : Int => decide (a < b)) l
  (m.getD ((m.length - 1) / 2) 0 + m.getD (m.length / 2) 0) / 2

/-- The mean of a list, rounded down; 0 of none. -/
def meanI (l : List Int) : Int := l.foldl (· + ·) 0 / l.length

/-- The magnitude of a vector of whole numbers in 2^-16, rounded down. -/
def magnitude (i q : Int) : Nat := isqrt ((i * i + q * q).natAbs * 2 ^ 32)

/-- The distance of two points, rounded down. -/
def distance (a b : Int × Int × Int) : Nat :=
  let dx := a.1 - b.1
  let dy := a.2.1 - b.2.1
  let dz := a.2.2 - b.2.2
  isqrt (dx * dx + dy * dy + dz * dz).natAbs

/-- A quotient rounded to the nearest whole number, a half up. -/
def roundDiv (x : Int) (d : Nat) : Int := (2 * x + d) / (2 * d : Nat)

/-! ### Rational numbers -/

/-- Round to the nearest whole number, and to the nearest multiple of 2^-60. -/
def roundR (x : Rat) : Int := (x + 1 / 2).floor
def fine (x : Rat) : Rat := (roundR (x * 2 ^ 60) : Rat) / 2 ^ 60

/-- The square root of a number below 2^90 to 2^-40, rounded down; 0 of one that is not positive. -/
def sqrtR (x : Rat) : Rat := if x ≤ 0 then 0 else (isqrt (x * 2 ^ 80).floor.toNat : Rat) / 2 ^ 40

/-- The power 10^(k / 1000), to 10^-9. -/
def pow10 (k : Nat) : Rat := (nthRoot 1000 (10 ^ (9000 + k)) : Rat) / 10 ^ 9

/-- e^x by its series to the 40th power. -/
def expR (x : Rat) : Rat := fine ((List.range 40).foldr (fun k acc => 1 + x / (k + 1 : Nat) * acc) 1)

/-! ### The WGS 84 ellipsoid (R148) -/

/-- A point or a direction in three dimensions. -/
abbrev Vec := Rat × Rat × Rat

def dotV (a b : Vec) : Rat := a.1 * b.1 + a.2.1 * b.2.1 + a.2.2 * b.2.2
def addV (a b : Vec) : Vec := (a.1 + b.1, a.2.1 + b.2.1, a.2.2 + b.2.2)
def subV (a b : Vec) : Vec := (a.1 - b.1, a.2.1 - b.2.1, a.2.2 - b.2.2)
def scaleV (k : Rat) (a : Vec) : Vec := (k * a.1, k * a.2.1, k * a.2.2)

/-- The direction of a vector. -/
def unitV (a : Vec) : Vec := let n := sqrtR (dotV a a); (fine (a.1 / n), fine (a.2.1 / n), fine (a.2.2 / n))

/-- The directions east, north and up at a point, and its height above the ellipsoid in m. -/
structure Geodetic where
  east : Vec
  north : Vec
  up : Vec
  height : Rat
  deriving DecidableEq, Repr

/-- Sine and cosine of the geodetic latitude of a point at distance `p` from the axis and `z` from the equator, by `n` rounds of
tan φ = (z + e² N sin φ) / p. -/
def latitude (p z : Rat) : Nat → Rat × Rat
  | 0 => let v := unitV (p, z, 0); (v.2.1, v.1)
  | n + 1 =>
    let s := (latitude p z n).1
    let e2 : Rat := 669437999014 / 10 ^ 14
    let v := unitV (p, z + e2 * 6378137 * s / sqrtR (1 - e2 * s * s), 0)
    (v.2.1, v.1)

/-- The geodetic frame of an ECEF point in m. -/
def geodetic (x : Vec) : Geodetic :=
  let p := sqrtR (x.1 * x.1 + x.2.1 * x.2.1)
  let (s, c) := latitude p x.2.2 8
  let l : Rat × Rat := if p = 0 then (0, 1) else (fine (x.2.1 / p), fine (x.1 / p))
  let e2 : Rat := 669437999014 / 10 ^ 14
  { east := (-l.1, l.2, 0), north := (fine (-s * l.2), fine (-s * l.1), c), up := (fine (c * l.2), fine (c * l.1), s)
    height := fine (p * c + x.2.2 * s - 6378137 * sqrtR (1 - e2 * s * s)) }

/-- An ECEF position in 0.1 mm as a point in m, and back. -/
def metres (x : Int × Int × Int) : Vec := ((x.1 : Rat) / 10000, (x.2.1 : Rat) / 10000, (x.2.2 : Rat) / 10000)
def tenths (x : Vec) : Int × Int × Int := (roundR (x.1 * 10000), roundR (x.2.1 * 10000), roundR (x.2.2 * 10000))

/-- The base antenna reference point in ECEF, m: the position set and the height above the marker (R149; DEDUCED, entry 166). -/
def baseArp (b : Machine.BasePos) : Vec :=
  let m := metres (b.x, b.y, b.z)
  addV m (scaleV ((b.height : Rat) / 1000) (geodetic m).up)

/-! ### Bit strings, highest bit first -/

/-- `v` in `n` bits. -/
def bitsOf : Nat → Nat → List Bool
  | 0, _ => []
  | n + 1, v => v.testBit n :: bitsOf n v

/-- A two's complement number in `n` bits. -/
def bitsI (n : Nat) (v : Int) : List Bool := bitsOf n (twos n v)

/-- The number that a bit string spells. -/
def bitsNat (bs : List Bool) : Nat := bs.foldl (fun n b => 2 * n + b2n b) 0

/-- Bytes of a bit string, its last byte filled with 0 bits. -/
def packBits (bs : List Bool) : List Byte :=
  (List.range (ceilDiv bs.length 8)).map fun i => BitVec.ofNat 8 (bitsNat ((List.range 8).map fun j => bs.getD (8 * i + j) false))

/-- The bits of bytes. -/
def unpackBits (bs : List Byte) : List Bool := bs.flatMap fun b => bitsOf 8 b.toNat

/-- One bit into a CRC-24Q register (polynomial 0x1864CFB), and the CRC-24Q of a bit string from an initial value of 0. -/
def crc24Bit (r : Nat) (b : Bool) : Nat := (2 * r % 2 ^ 24) ^^^ (if (r.testBit 23).xor b then 0x864CFB else 0)
def crc24q (bs : List Bool) : Nat := bs.foldl crc24Bit 0

end Sys2Proof
end

