-- ==== Sys2Proof/Machine/Matrix.lean ====
section
/-! DEFINITION. Matrices of rational numbers, and the two best integer vectors of a least-squares problem (R134). -/

namespace Sys2Proof

abbrev Row := List Rat
abbrev Mat := List Row

def dotR (a b : Row) : Rat := (a.zipWith (· * ·) b).foldl (· + ·) 0
def addR (a b : Row) : Row := a.zipWith (· + ·) b
def subR (a b : Row) : Row := a.zipWith (· - ·) b
def scaleR (k : Rat) (a : Row) : Row := a.map (k * ·)

/-- The entry of a matrix at row i and column j; 0 outside. -/
def Mat.at (m : Mat) (i j : Nat) : Rat := (m.getD i []).getD j 0

/-- A matrix of `r` rows and `c` columns from its entries. -/
def matOf (r c : Nat) (f : Nat → Nat → Rat) : Mat := (List.range r).map fun i => (List.range c).map (f i)

def matT (c : Nat) (m : Mat) : Mat := (List.range c).map fun j => m.map fun r => r.getD j 0
def matVec (m : Mat) (v : Row) : Row := m.map (dotR · v)
/-- The product with the transpose of a matrix. -/
def mulT (a b : Mat) : Mat := a.map fun r => b.map (dotR r)
def addM (a b : Mat) : Mat := a.zipWith addR b
def subM (a b : Mat) : Mat := a.zipWith subR b

/-- Gauss and Jordan's elimination of `n` columns from column `col` on: the rows with a pivot, and the rows left; none when the matrix
is singular. -/
def gauss : Nat → Nat → Mat → Mat → Option Mat
  | 0, _, done, _ => some done.reverse
  | n + 1, col, done, rest =>
    match rest.find? fun r => r.getD col 0 != 0 with
    | none => none
    | some r =>
      let piv := scaleR (1 / r.getD col 0) r
      let elim (q : Row) : Row := subR q (scaleR (q.getD col 0) piv)
      gauss n (col + 1) (piv :: done.map elim) ((rest.erase r).map elim)

/-- The solution X of A X = B, by rows; none when A is singular. -/
def solveM (a b : Mat) : Option Mat := (gauss a.length 0 [] (a.zipWith (· ++ ·) b)).map fun m => m.map (·.drop a.length)

/-! ### Integer least squares (R134) -/

/-- One pass of integer Gauss transforms over the pairs of ambiguities: each float value less a whole multiple of another one, as long as
that makes its variance smaller. A row of the transformation, of the floats and of the covariance follow each other. DESIGN CHOICE
(entry 167): the order of the pairs. -/
def gaussPass (n : Nat) (s : Mat × Row × Mat) : Mat × Row × Mat :=
  ((List.range n).flatMap fun i => (List.range n).map fun j => (i, j)).foldl (fun s p =>
    let (t, a, q) := s
    let (i, j) := p
    let mu : Rat := if i = j then 0 else (roundR (q.at i j / q.at j j) : Rat)
    if mu = 0 then s
    else
      let row (m : Mat) : Mat := m.set i (subR (m.getD i []) (scaleR mu (m.getD j [])))
      (row t, a.set i (a.getD i 0 - mu * a.getD j 0), matT n (row (matT n (row q))))) s

/-- Passes until nothing changes, at most `k`. -/
def gaussPasses (n : Nat) : Nat → Mat × Row × Mat → Mat × Row × Mat
  | 0, s => s
  | k + 1, s => let t := gaussPass n s; if t.1 == s.1 then s else gaussPasses n k t

/-- Decorrelation by integer Gauss transforms, and a permutation that puts the least variance first: the transformation, and the
transformed floats and covariance. -/
def decorrelate (a : Row) (q : Mat) : Mat × Row × Mat :=
  let n := a.length
  let (t, z, qz) := gaussPasses n (8 * n) (matOf n n fun i j => if i = j then 1 else 0, a, q)
  let order := sortBy (fun i j : Nat => decide (qz.at i i < qz.at j j)) (List.range n)
  (order.map fun i => t.getD i [], order.map fun i => z.getD i 0, matOf n n fun i j => qz.at (order.getD i 0) (order.getD j 0))

/-- The k-th integer by distance from a number. -/
def nearby (x : Rat) (k : Nat) : Int :=
  let r := roundR x
  let d : Int := ((k + 1) / 2 : Nat)
  if decide (r ≤ x) == decide (k % 2 = 1) then r + d else r - d

/-- A place of the search: the integers chosen so far, last first, the distance so far, the next integer to try, and the floats and
covariance left, given those chosen. -/
structure Place where
  chosen : List Int
  dist : Rat
  next : Nat
  a : Row
  q : Mat

/-- What remains once the first of the floats takes an integer: the others given it. -/
def conditioned (a : Row) (q : Mat) (c : Int) : Row × Mat :=
  let v := q.at 0 0
  let d : Rat := a.getD 0 0 - c
  let n := a.length - 1
  ((List.range n).map fun i => a.getD (i + 1) 0 - q.at (i + 1) 0 / v * d, matOf n n fun i j => q.at (i + 1) (j + 1) - q.at (i + 1) 0 * q.at 0 (j + 1) / v)

/-- The two best with a vector added. -/
def keepTwo (best : List (Rat × List Int)) (x : Rat × List Int) : List (Rat × List Int) :=
  (sortBy (fun a b : Rat × List Int => decide (a.1 < b.1)) (best ++ [x])).take 2

/-- Depth-first search, one node a step: the two best vectors, nearest first, and the nodes visited; with no fuel left, one node more
than there was fuel. -/
def searchFrom : Nat → Nat → List Place → List (Rat × List Int) → List (Rat × List Int) × Nat
  | _, nodes, [], best => (best, nodes)
  | 0, nodes, _, best => (best, nodes + 1)
  | fuel + 1, nodes, p :: rest, best =>
    let c := nearby (p.a.getD 0 0) p.next
    let d : Rat := p.a.getD 0 0 - c
    let dist := p.dist + d * d / p.q.at 0 0
    let full := best.length == 2 && decide ((best.getD 1 (0, [])).1 ≤ dist)
    if full then searchFrom fuel (nodes + 1) rest best
    else
      let back : List Place := { p with next := p.next + 1 } :: rest
      if p.a.length ≤ 1 then searchFrom fuel (nodes + 1) back (keepTwo best (dist, (c :: p.chosen).reverse))
      else
        let (a, q) := conditioned p.a p.q c
        searchFrom fuel (nodes + 1) ({ chosen := c :: p.chosen, dist := dist, next := 0, a := a, q := q } :: back) best

/-- The two best integer vectors for floats of a covariance, with q of each, and the nodes visited; more nodes than `limit` end the
search. -/
def ilsSearch (limit : Nat) (a : Row) (q : Mat) : List (Rat × List Int) × Nat := searchFrom limit 0 [{ chosen := [], dist := 0, next := 0, a := a, q := q }] []

/-- The integers before a unimodular transformation: those of T x = z. -/
def backTransform (t : Mat) (z : List Int) : List Int := ((solveM t (z.map fun (v : Int) => [(v : Rat)])).getD []).map fun r => roundR (r.getD 0 0)

end Sys2Proof
end

