-- ==== Sys2Proof/Machine/Energy.lean ====
section
/-! DEFINITION. Energy and demand (R338 to R347, R352 to R357): accumulators, demand intervals, the copies kept across cuts
and the recovery record. Energy is an exact number of units of 2^-46 µW × 125 µs. -/

namespace Sys2Proof.Machine

/-- One mWh in the energy unit. -/
def mWhUnits : Nat := 28800000000 * 2 ^ 46

/-- The mean power in W of an energy over a time in ns. -/
def meanWatts (e ns : Nat) : Nat := if ns = 0 then 0 else e / (2 ^ 49 * ns)

/-- What the metering engine holds of a point. -/
def State.mp (s : State) (p : Nat) : MtrPoint := Tbl.get {} s.mtr.points p
def State.setMp (s : State) (p : Nat) (m : MtrPoint) : State :=
  { s with mtr := { s.mtr with points := Tbl.put {} s.mtr.points p m } }

/-- Whether a point is enabled, and whether it is single-phase (R335). -/
def State.mtrOn (s : State) (p : Nat) : Bool := s.flag (if p = 0 then F.MTR_CTL_EN0 else F.MTR_CTL_EN1)
def State.mtrSingle (s : State) (p : Nat) : Bool := s.flag (if p = 0 then F.MTR_CTL_WIRE0 else F.MTR_CTL_WIRE1)
def State.mtrPhases (s : State) (p : Nat) : List Nat := if s.mtrSingle p then [0] else [0, 1, 2]

/-- The flag byte of a point (Table 13-9). -/
def State.mtrFlags (s : State) (p : Nat) : Nat := s.fld (if p = 0 then F.MTR_STAT_P0 else F.MTR_STAT_P1)
def State.setMtrFlag (s : State) (p b : Nat) (on : Bool) : State :=
  s.setFld (if p = 0 then F.MTR_STAT_P0 else F.MTR_STAT_P1) (withBit (s.mtrFlags p) b on)

/-- MTR_CALG.FS of a channel of a point. -/
def State.fullScale (s : State) (p ch : Nat) : Nat := s.fld (F.MTR_CALG_FS (7 * p + ch))

/-- An accumulator of R342 from a set of them: the totals of phase 3 are the sums of the phases (R341). -/
def accAt (acc : Tbl Nat) (p phase kind : Nat) : Nat :=
  if phase = 3 then ([0, 1, 2].foldl (fun t f => t + Tbl.get 0 acc (24 * p + 6 * f + kind)) 0) % 2 ^ 64
  else Tbl.get 0 acc (24 * p + 6 * phase + kind)

/-- The present second's sums of a point go to accumulators and remainders; `s.mtr.mirror` holds the accumulators in hub
SRAM (R342, R352). `apparent` gives the apparent energy of a phase and direction. -/
def State.foldWork (s : State) (p : Nat) (apparent : Nat → Nat → Nat) : State :=
  let m := s.mp p
  let add (a : Tbl Nat × Tbl Nat) (phase kind e : Nat) : Tbl Nat × Tbl Nat :=
    let i := 6 * phase + kind
    let total := Tbl.get 0 a.2 i + e
    (Tbl.put 0 a.1 (24 * p + i) ((Tbl.get 0 a.1 (24 * p + i) + total / mWhUnits) % 2 ^ 64), Tbl.put 0 a.2 i (total % mWhUnits))
  let r := [0, 1, 2].foldl (fun (a : Tbl Nat × Tbl Nat) phase =>
    let a := [0, 1, 2, 3].foldl (fun a k => add a phase k (Tbl.get 0 m.work (4 * phase + k))) a
    add (add a phase 4 (apparent phase 0)) phase 5 (apparent phase 1)) (s.mtr.mirror, m.rem)
  let t := s.setMp p { m with work := [], rem := r.2 }
  { t with mtr := { t.mtr with mirror := r.1 } }

/-- The accumulators are written to the VBAT domain: the two copies there are written alternately, each with its sequence number, so
the copy that was the newest stays beside the new one (R352). -/
def State.saveVbat (s : State) (tCut : Option Nat) : State :=
  let v := s.vbat
  let old := if v.accValid then some (v.accSeq, v.acc, v.accTime, v.tCut) else v.accOld
  { s with vbat := { v with accSeq := v.accSeq + 1, accOld := old, acc := s.mtr.mirror, accValid := true, accTime := s.now / oneSec * oneSec, tCut := tCut } }

/-- A NOR copy of both points' accumulators (R353); the energy rings hold 128. -/
def State.norCopy (s : State) (kind : Nat) : State :=
  let c : EnergyCopy := ⟨s.nor.energySeq + 1, s.now, kind, s.mtr.mirror⟩
  { s with nor := { s.nor with energySeq := s.nor.energySeq + 1, energy := (c :: s.nor.energy).take 128 } }

/-- The partial second's sums of both points are taken, and the working sums cleared (R354). Apparent energy is formed once
per second only (R340). -/
def State.takePartial (s : State) : State := (s.foldWork 0 fun _ _ => 0).foldWork 1 fun _ _ => 0

/-- The energy save when VIN falls below VIN_WARN (R354): to the VBAT domain with T_CUT, or with VBAT below 2.0 V an
emergency NOR copy. -/
def State.energySave (s : State) : State :=
  if !s.mtr.running then s
  else
    let t := s.takePartial
    if t.flag F.PWR_STAT_VBAT_LOW then t.norCopy 2 else t.saveVbat (some t.now)

/-! ### Demand intervals (R345 to R347) -/

/-- T in ns: MTR_CTL.DEM_MIN where it divides 60, else 15 minutes. -/
def State.demandT (s : State) : Nat :=
  let m := s.fld F.MTR_CTL_DEM_MIN
  60 * oneSec * (if [1, 2, 3, 4, 5, 6, 10, 12, 15, 20, 30, 60].contains m then m else 15)

/-- The site time of an aligned boundary, modulo T: UTC is site time less TAI_UTC seconds. -/
def State.demandOffset (s : State) : Nat :=
  if s.flag F.TIM_UTC_VALID then s.fld F.TIM_UTC_TAI_UTC * oneSec % s.demandT else 0

/-- The end of the present interval: the first aligned boundary after its start. -/
def State.demandEnd (s : State) : Nat :=
  let t := s.demandT
  let off := s.demandOffset
  (s.mtr.intStart + t - off) / t * t + off

/-- Flags of an interval that begins now: SHORT (0), INCOMPLETE (1), NO_UTC (2), NO_TIME (3). -/
def State.newFlags (s : State) (first : Nat) : Nat :=
  first + 4 * b2n (!s.flag F.TIM_UTC_VALID) + 8 * b2n (s.fld F.TIM_STAT_STATE == 0)

/-- An interval begins now. -/
def State.openInterval (s : State) (first : Nat) : State :=
  let t : State := { s with mtr := { s.mtr with intStart := s.now, intEl := s.el, intFlags := s.newFlags first } }
  t.setFld F.MTR_STAT_NO_UTC (b2n (!s.flag F.TIM_UTC_VALID))

/-- The demand of a point in the interval that ends (R346). -/
def State.pointDemand (s : State) (p flags : Nat) : State :=
  if !s.mtrOn p then s
  else
    let m := s.mp p
    let d := min (meanWatts m.demE (s.el - s.mtr.intEl)) (2 ^ 32 - 1)
    let t := s.setMp p { m with demE := 0, demLast := d, maxDem := max m.maxDem d }
    t.raise Ev.mtrDemand (le 1 p ++ le 1 flags ++ zeros 2 ++ le 4 d)

/-- The present interval ends and the next begins; both are SHORT when a step of site time or a change of DEM_MIN is the
cause (R347). -/
def State.endInterval (s : State) (short : Bool) : State :=
  let flags := if short then s.mtr.intFlags ||| 1 else s.mtr.intFlags
  ((s.pointDemand 0 flags).pointDemand 1 flags).openInterval (b2n short)

/-! ### Stops and starts of metering (R353, R355, R356) -/

/-- BOUNDp in Wh: full-scale power over an unmetered span. -/
def State.gapBound (s : State) (p start stop : Nat) : Nat :=
  if !s.mtrOn p then 0
  else
    let w := (s.mtrPhases p).foldl (fun t f => t + s.fullScale p f * s.fullScale p (3 + f)) (0 : Nat)
    min (2 ^ 32 - 1) (w * (stop - start) / (1000000 * 3600 * oneSec))

/-- The recovery record, once T_B is known (R355, R356). -/
def State.gapRecord (s : State) (kind start stop : Nat) : State :=
  let mask := b2n (s.mtrOn 0) + 2 * b2n (s.mtrOn 1)
  let b0 := s.gapBound 0 start stop
  let b1 := s.gapBound 1 start stop
  let t := s.record 0x09 (le 1 kind ++ le 1 mask ++ zeros 2 ++ le 8 start ++ le 8 stop ++ le 4 b0 ++ le 4 b1)
  let t := if kind = 0 then t.satInc F.MTR_CNT_OUTAGES else if kind = 1 then (t.satInc F.MTR_CNT_GAPS).setFld F.MTR_STAT_GAP 1 else t
  t.raise Ev.mtrGap (le 1 kind ++ le 1 mask ++ zeros 2 ++ le 4 (max b0 b1))

/-- Metering starts: its unmetered span runs from `start` to now; the record waits for the first step of site time where
that has not been made. -/
def State.meterStart (s : State) (kind : Nat) (start : Option Nat) : State :=
  let fresh := s.mtr.intEl = 0 ∧ s.mtr.intStart = 0
  let t : State := { s with mtr := { s.mtr with running := true, startEl := s.el, second := s.now / oneSec, taken := false, restart := none, copyIdx := s.now / (900 * oneSec) } }
  let t := [0, 1].foldl (fun t p => t.setMp p { t.mp p with channels := [] }) t
  let t := if fresh then t.openInterval 2 else { t with mtr := { t.mtr with intFlags := t.mtr.intFlags ||| 2 } }
  if t.flag F.TIM_STAT_STEPPED then t.gapRecord kind (start.getD t.now) t.now
  else { t with mtr := { t.mtr with recover := some (kind, start) } }

/-- Metering stops after a planned copy (R353): the partial second is kept as in R354. -/
def State.meterStop (s : State) : State :=
  if !s.mtr.running then s
  else
    let t := (s.takePartial.norCopy 1)
    let t := t.saveVbat (some t.now)
    { t with mtr := { t.mtr with running := false, taken := false, intFlags := t.mtr.intFlags ||| 2 } }

/-- Metering starts again after a stop of this hub run: its outage record (R353). -/
def State.meterResume (s : State) : State :=
  if s.mtr.running then s else s.meterStart 0 (some (s.vbat.tCut.getD ((s.nor.energy.head?.map (·.ts)).getD s.now)))

/-- Metering starts at a start of the hub: the accumulators come from the first valid source of Table 13-4. -/
def State.meterRecover (s : State) : State :=
  let from_ (acc : Tbl Nat) : State := { s with mtr := { s.mtr with mirror := acc }, vbat := { s.vbat with acc := acc, accValid := true } }
  if s.vbat.accValid then (from_ s.vbat.acc).meterStart 0 (some (s.vbat.tCut.getD s.vbat.accTime))
  else
    match s.nor.energy.head? with
    | some c => (from_ c.acc).meterStart (if c.kind = 0 then 1 else 0) (some c.ts)
    | none => (from_ []).meterStart 2 none

/-- A step of site time ends the demand interval (R347), and the first one after a start gives a waiting recovery record its
end time T_B. -/
def State.meterStep (s : State) : State :=
  let t : State := { s with mtr := { s.mtr with second := s.now / oneSec, copyIdx := s.now / (900 * oneSec) } }
  let t := if t.mtr.running then t.endInterval true else t
  match t.mtr.recover with
  | some (kind, start) =>
    let tB := t.now - (t.el - t.mtr.startEl)
    ({ t with mtr := { t.mtr with recover := none } } : State).gapRecord kind (start.getD tB) tB
  | none => t

end Sys2Proof.Machine
end

