-- ==== Sys2Proof/Machine/TimeEngine.lean ====
section
/-! DEFINITION. The time engine (chapter 04): the counter, sources and discipline, steps, states and holdover, pulse
outputs and TIME_IN. Offsets are kept in ps, rates in 10^-12. -/

namespace Sys2Proof.Machine

/-! Time states (Table 4-1). -/
def tsFREE : Nat := 0
def tsLOCKING : Nat := 1
def tsLOCKED : Nat := 2
def tsHOLDOVER : Nat := 3
def tsEXPIRED : Nat := 4

def State.timState (s : State) : Nat := s.fld F.TIM_STAT_STATE

/-- clockClass of a time state (Table 4-1). -/
def clockClass (state : Nat) : Nat := if state = tsLOCKED then 6 else if state = tsLOCKING ∨ state = tsHOLDOVER then 7 else 248

/-- Change the time state, with EV_TIM_STATE on every change (R108); the announced clockClass follows it (R321). -/
def State.setTimState (s : State) (v : Nat) : State :=
  let old := s.timState
  if v = old then s
  else
    let t := (s.setFld F.TIM_STAT_STATE v).setFld F.ETH_PTP_STAT_CLASS (clockClass v)
    let t : State := { t with time := { t.time with lockSince := if v = tsLOCKING then t.time.lockSince else none } }
    t.raise Ev.timState (le 1 v ++ le 1 old ++ le 1 (t.fld F.TIM_STAT_SOURCE) ++ le 1 0 ++ le 4 (t.fld F.TIM_HOLD_AGE_AGE))

/-! ### The counter (R97, R99) -/

/-- TIME_INC in units of 2^-32 ns. -/
def State.timeInc (s : State) : Nat := s.fld F.TIM_INC_INT_INT * 2 ^ 32 + s.fld F.TIM_INC_FRAC_FRAC

/-- `n` × 4 ns on XAON: the always-on seconds counter counts (R99). DESIGN CHOICE (entry 163): XAON and REFCLK keep the ratio of their
nominal rates. -/
def State.aonCycles (s : State) (n : Nat) : State :=
  let f := s.vbat.frac + n
  { s with vbat := { s.vbat with frac := f % 250000000, secs := s.vbat.secs.map (· + f / 250000000) } }

/-- `n` cycles of the 250 MHz TIME clock: the extended count and elapsed time grow by TIME_INC each (R97), and the
holdover age follows (R109). -/
def State.timeCycles (s : State) (n : Nat) : State :=
  let s := s.aonCycles n
  let d := n * s.timeInc
  let t : State := { s with time := { s.time with ext := (s.time.ext + d) % 2 ^ 96, elapsed := s.time.elapsed + d } }
  match t.time.holdSince with
  | some h => t.setFld F.TIM_HOLD_AGE_AGE ((t.el - h) / oneSec)
  | none => t

/-- TIME cycles to the next 1 ms tick of elapsed time; a stopped counter is taken at 250,000 cycles. -/
def State.cyclesToTick (s : State) : Nat :=
  let u := oneMs * 2 ^ 32
  if s.timeInc = 0 then 250000 else ceilDiv ((s.time.elapsed / u + 1) * u - s.time.elapsed) s.timeInc

/-- Whether the TIME domain has a clock (R21, Table 1-9). -/
def State.timeRuns (s : State) : Bool := s.pwr.state != .off && s.pwr.state != .backup && !s.pwr.resetHeld

/-- WHOLE_SECOND (R99): at every whole second of site time the always-on seconds counter is rewritten from it while LOCKED. -/
def execWholeSecond (s : State) : Host.Outcome State Fault Refusal :=
  let now := s.now / oneSec
  .next <|
    if now ≤ s.time.lastSecond then s
    else
      let t : State := { s with time := { s.time with lastSecond := now } }
      if s.timState = tsLOCKED then { t with vbat := { t.vbat with secs := some now, frac := 0 } } else t

/-- Bits [31:0] of site time, with bits [63:32] latched into TIM_NOW_HI (R98). -/
def State.readNowLo (s : State) : Word × State :=
  (BitVec.ofNat 32 s.now, s.setReg R.TIM_NOW_HI (BitVec.ofNat 32 (s.now / 2 ^ 32)))

/-- TIM_NOW_LO_READ (R98). -/
def execTimNowLoRead (s : State) : Host.Outcome State Fault Refusal := .next s.readNowLo.2

/-! ### Sources and the discipline (R101 to R107) -/

/-- The state of a source, 1 GNSS or 2 PTP. -/
def State.source (s : State) (k : Nat) : TimeSource := if k = 1 then s.time.gnss else s.time.ptp

def State.setSource (s : State) (k : Nat) (v : TimeSource) : State :=
  if k = 1 then { s with time := { s.time with gnss := v } } else { s with time := { s.time with ptp := v } }

/-- The order in which TIM_CTL.SRC takes the sources (R102). -/
def State.sourceOrder (s : State) : List Nat :=
  match s.fld F.TIM_CTL_SRC with
  | 0 => [1, 2]
  | 1 => [2, 1]
  | 2 => [1]
  | _ => [2]

/-- The first qualified source in the order; 0 none. -/
def State.bestSource (s : State) : Nat := ((s.sourceOrder.filter fun k => (s.source k).qualified).head?).getD 0

/-- θ of the source in use, in ps; 0 with none. DESIGN CHOICE (entry 164): TIM_OFFSET keeps the last θ shown when there is none, while
TIME_GET answers 0. -/
def State.theta (s : State) : Int := if s.fld F.TIM_STAT_SOURCE = 0 then 0 else (s.source (s.fld F.TIM_STAT_SOURCE)).theta

def State.stepWarnPs (s : State) : Nat := s.fld F.TIM_LOOP_STEP_WARN * 1000000

/-- DETAIL of EV_TIM_OFFSET: θ as int32 ns, saturating, and the source. -/
def State.offsetDetail (s : State) : List Byte := leI 4 (satI32 (s.theta / 1000)) ++ le 1 (s.fld F.TIM_STAT_SOURCE)

/-- EV_TIM_OFFSET when |θ| passes STEP_WARN, at each doubling, and once when it falls back below (R107). -/
def State.offsetWarn (s : State) : State :=
  let a := s.theta.natAbs
  let w := s.time.offWarn
  if s.stepWarnPs < a then
    if w = 0 ∨ 2 * w ≤ a then
      ({ s with time := { s.time with offWarn := a } } : State).raise Ev.timOffset s.offsetDetail
    else s
  else if a < s.stepWarnPs ∧ w ≠ 0 then
    ({ s with time := { s.time with offWarn := 0 } } : State).raise Ev.timOffset s.offsetDetail
  else s

/-- θ of the source in use is shown, and LOCKED and LOCKING follow LOCK_THR (R107, R108). -/
def State.offsetSeen (s : State) : State :=
  let t := (s.setReg R.TIM_OFFSET (BitVec.ofNat 32 (twos 32 (satI32 (s.theta / 1000))))).offsetWarn
  if t.theta.natAbs ≤ 1000 * t.fld F.TIM_LOCK_LOCK_THR then
    { t with time := { t.time with lockSince := some (t.time.lockSince.getD t.el) } }
  else
    let u : State := { t with time := { t.time with lockSince := none } }
    if u.timState = tsLOCKED then u.setTimState tsLOCKING else u

/-- The rate y = y_f + p that an offset θ calls for, in 10^-12, with p within SLEW (R104). -/
def State.rateFor (s : State) (theta : Int) : Int :=
  let slew : Int := (orOne (s.fld F.TIM_LOOP_SLEW) * 1000 : Nat)
  s.time.yf + clampI (-slew) slew (-theta / (orOne (s.fld F.TIM_LOOP_TAU) : Nat))

/-- The rate in force: TIME_INC = 4 ns × (1 + y) (R104). -/
def State.setRate (s : State) (y : Int) : State :=
  let inc := ((4 * 2 ^ 32 : Int) * (10 ^ 12 + y) / 10 ^ 12).toNat
  let t := (s.setFld F.TIM_INC_INT_INT (inc / 2 ^ 32)).setFld F.TIM_INC_FRAC_FRAC (inc % 2 ^ 32)
  { t with time := { t.time with y := y } }

/-- The rate with p = 0; while REFCLK is lost the correction applied at its loss stands (R109, R467). -/
def State.freeRate (s : State) : State := if s.pwr.refLostAt.isSome then s else s.setRate (clampI (-(10 ^ 8)) (10 ^ 8) s.time.yf)

/-- A source delivers an offset θ in ps (R101): it has been valid without a break since its first such offset, a break
being a second without one. A source in use that would need more than 100 ppm is treated as invalid (R104). -/
def State.offerOffset (s : State) (k : Nat) (theta : Int) : State :=
  let src := s.source k
  if s.fld F.TIM_STAT_SOURCE = k ∧ s.flag F.TIM_STAT_STEPPED ∧ s.flag F.TIM_CTL_DISC_EN ∧ 10 ^ 8 < (s.rateFor theta).natAbs then
    (s.setSource k { src with theta := theta, validSince := none }).offsetSeen
  else
  let since := match src.validSince with
    | some v => if src.lastValid + oneSec < s.el then s.el else v
    | none => s.el
  let t := s.setSource k { src with theta := theta, validSince := some since, lastValid := s.el }
  if t.fld F.TIM_STAT_SOURCE = k then t.offsetSeen else t

/-- A source is invalid for now (R101). -/
def State.sourceInvalid (s : State) (k : Nat) : State := s.setSource k { s.source k with validSince := none }

/-- The discipline uses the first qualified source in the order; a change of source never steps time (R102). A source
in use takes HOLDOVER and EXPIRED to LOCKING (R110); with none, LOCKING and LOCKED pass to HOLDOVER, where y_f is frozen
and p is 0 (R109). -/
def State.selectSource (s : State) : State :=
  let b := s.bestSource
  let t := (s.setFld F.TIM_STAT_SOURCE b).setFld F.TIM_STAT_QUAL (b2n (b != 0))
  if b = 0 then
    if t.timState = tsLOCKING ∨ t.timState = tsLOCKED then
      let t : State := { t with time := { t.time with holdSince := some t.el, lockSince := none } }
      (t.freeRate.setFld F.TIM_HOLD_AGE_AGE 0).setTimState tsHOLDOVER
    else t
  else
    let t : State := { t with time := { t.time with holdSince := none } }
    let t := if t.timState = tsHOLDOVER ∨ t.timState = tsEXPIRED then t.setTimState tsLOCKING else t
    t.offsetSeen

/-- The first step is due at the next whole millisecond once a source is qualified with DISC_EN = 1 (R103). -/
def State.armFirstStep (s : State) : State :=
  if !s.flag F.TIM_STAT_STEPPED && s.flag F.TIM_CTL_DISC_EN && s.bestSource != 0 && s.time.stepAfter.isNone then
    { s with time := { s.time with stepAfter := some (s.now / oneMs) } }
  else s

/-- SOURCE_QUALIFY (R102, R104): a source valid without a break for QUAL seconds qualifies; when it comes into use, y_f is the frequency
error that its qualification window has measured. -/
def execSourceQualify (k : Fin 2) (yf : Int) (s : State) : Host.Outcome State Fault Refusal :=
  let n := k.val + 1
  let src := s.source n
  .next <|
    match src.validSince with
    | some v =>
      if !src.qualified && s.passed v (orOne (s.fld F.TIM_LOCK_QUAL) * oneSec) && decide (s.el ≤ src.lastValid + oneSec) then
        let t := s.setSource n { src with qualified := true }
        let t : State := if t.bestSource = n then { t with time := { t.time with yf := yf, yfSince := t.el } } else t
        t.selectSource.armFirstStep
      else s
    | none => s

/-- SOURCE_LOST (R102): a source invalid for 1 s is lost. -/
def execSourceLost (k : Fin 2) (s : State) : Host.Outcome State Fault Refusal :=
  let n := k.val + 1
  let src := s.source n
  .next <|
    if src.qualified && s.passed src.lastValid oneSec then
      (s.setSource n { src with qualified := false, validSince := none }).selectSource
    else s

/-- A write of TIM_CTL: the order of SRC selects anew, and a first step that waited for DISC_EN is due (R102, R103). -/
def State.timCtlWritten (s : State) : State := s.selectSource.armFirstStep

/-- DISCIPLINE_UPDATE (R104): once per second after the step, y = y_f + p with p within SLEW; a source that would need
more than 100 ppm raises EV_TIM_OFFSET and is treated as invalid. In HOLDOVER and EXPIRED p is 0 (R109). While REFCLK is lost
the correction applied at its loss stands (R467). -/
def execDisciplineUpdate (s : State) : Host.Outcome State Fault Refusal :=
  .next <|
    if s.flag F.TIM_STAT_STEPPED && s.flag F.TIM_CTL_DISC_EN && s.pwr.refLostAt.isNone && s.passed s.time.lastDisc oneSec then
      let t : State := { s with time := { s.time with lastDisc := s.el } }
      if t.fld F.TIM_STAT_SOURCE = 0 then t.freeRate
      else
        let y := t.rateFor t.theta
        if 10 ^ 8 < y.natAbs then
          ((t.setRate (clampI (-(10 ^ 8)) (10 ^ 8) y)).raise Ev.timOffset t.offsetDetail).sourceInvalid (t.fld F.TIM_STAT_SOURCE)
        else t.setRate y
    else s

/-- YF_REPLACE (R104): at the end of each 60 s of qualified offsets y_f takes the error measured over them. -/
def execYfReplace (yf : Int) (s : State) : Host.Outcome State Fault Refusal :=
  .next <|
    if s.fld F.TIM_STAT_SOURCE ≠ 0 ∧ s.passed s.time.yfSince (60 * oneSec) then
      { s with time := { s.time with yf := yf, yfSince := s.el } }
    else s

/-! ### Steps (R103, R105, R106) -/

/-- The latest whole multiple of `p` strictly before `t`. -/
def floorBefore (t p : Nat) : Nat := (t - 1) / p * p

/-- The measurement epoch period of a rate code, in ns (R80). -/
def epochPeriod (code : Nat) : Nat :=
  match code with
  | 0 => 1000 * oneMs
  | 1 => 500 * oneMs
  | 2 => 250 * oneMs
  | 3 => 200 * oneMs
  | 4 => 100 * oneMs
  | 5 => 50 * oneMs
  | 6 => 40 * oneMs
  | _ => 20 * oneMs

/-- Site time steps by `-theta` ps (R105): one input to both lanes, which carries the step size, EV_TIM_STEP, a TIME_STEP record; the next
measurement record carries TIME_STEPPED and an epoch instant passed over is not latched. -/
def State.step_ (s : State) (theta : Int) : State :=
  let before := s.now
  let src := s.fld F.TIM_STAT_SOURCE
  let d := -theta
  let ext := (((s.time.ext : Int) + d * 2 ^ 32 / 1000) % (2 ^ 96 : Nat)).toNat
  let t : State := { s with time := { s.time with ext := ext, stepped := true, stepSize := d } }
  let t : State := { t with time := { t.time with lastSecond := t.now / oneSec } }
  let last := floorBefore t.now (epochPeriod (t.fld F.SKY_CTL_EPOCH_RATE))
  let t : State := { t with sky := { t.sky with lastEpoch := last }, rtk := { t.rtk with lastCycle := last }, ttb := { t.ttb with commitAt := min t.ttb.commitAt t.now } }
  let t := (t.incFld F.TIM_STAT_STEPS).laneInput
  let t := t.raise Ev.timStep (leI 8 (d / 1000))
  let t := t.recordAt 0x02 (le 8 before ++ leI 8 (d / 1000) ++ le 1 src ++ le 1 (t.fld F.TIM_STAT_STEPS) ++ zeros 2) before false
  let t := t.setSource 1 { t.time.gnss with theta := t.time.gnss.theta - theta }
  (t.setSource 2 { t.time.ptp with theta := t.time.ptp.theta - theta }).meterStep

/-- FIRST_TIME_STEP (R103, Table 4-7): the step made without a command, at the next whole millisecond. -/
def execFirstTimeStep (s : State) : Host.Outcome State Fault Refusal :=
  .next <|
    match s.time.stepAfter with
    | some m =>
      if m < s.now / oneMs ∧ s.flag F.TIM_CTL_DISC_EN ∧ s.bestSource ≠ 0 ∧ ¬ s.flag F.TIM_STAT_STEPPED then
        let t : State := { s with time := { s.time with stepAfter := none, lastDisc := s.el } }
        let t := t.selectSource
        let t := t.step_ t.theta
        let t := (t.setFld F.TIM_STAT_STEPPED 1).setFld F.TIM_STAT_COARSE 0
        (t.setTimState tsLOCKING).offsetSeen
      else s
    | none => s

/-- TIME_RESTEP (R106). -/
def doTimeRestep (s : State) (sid seq : Nat) (p : List Byte) : Res :=
  withLen s 4 p <|
    if !s.fleetHeld then refuse s St.fleetNotStopped
    else if s.bestSource = 0 ∨ ¬ s.flag F.TIM_STAT_STEPPED ∨ ¬ s.flag F.TIM_CTL_DISC_EN then refuse s St.wrongState
    else ({ s with time := { s.time with restep := s.time.restep ++ [(sid, seq, s.now / oneMs)] } }, none)

def opTimeRestep : Op := { code := 0x0A03, rights := 2, run := doTimeRestep }
def execTimeRestep (c : Cmd) (s : State) : Host.Outcome State Fault Refusal := .next (s.host c opTimeRestep)

/-- The accepted step of TIME_RESTEP at the next whole millisecond, and then its reply (R106). DESIGN CHOICE (entry 157): a step whose
source has been lost since waits until one qualifies, and is made though DISC_EN has been cleared since. -/
def State.restepApply (s : State) : State :=
  match s.time.restep with
  | [] => s
  | (_, _, m) :: _ =>
    if m < s.now / oneMs ∧ s.bestSource ≠ 0 then
      let waiting := s.time.restep
      let d := -s.theta
      let t := ({ s with time := { s.time with restep := [] } } : State).step_ s.theta
      waiting.foldl (fun u w => u.finish w.1 w.2.1 0x0A03 none ⟨St.ok, leI 8 (d / 1000)⟩) t.offsetSeen
    else s

/-! ### States (R108 to R110) -/

/-- TIME_LOCK_HOLD (R108): |θ| within LOCK_THR without a break for LOCK_HOLD seconds. -/
def execTimeLockHold (s : State) : Host.Outcome State Fault Refusal :=
  .next <|
    match s.time.lockSince with
    | some v =>
      if s.timState = tsLOCKING ∧ s.passed v (s.fld F.TIM_LOCK_LOCK_HOLD * oneSec) then
        ({ s with time := { s.time with expired := false } } : State).setTimState tsLOCKED
      else s
    | none => s

/-- HOLDOVER_EXPIRE (R108): HOLDOVER has lasted HOLDOVER_LIMIT. -/
def execHoldoverExpire (s : State) : Host.Outcome State Fault Refusal :=
  .next <|
    match s.time.holdSince with
    | some h =>
      if s.timState = tsHOLDOVER ∧ s.passed h (clampN 60 604800 (s.fld F.TIM_HOLD_LIMIT) * oneSec) then
        ({ s with time := { s.time with expired := true } } : State).setTimState tsEXPIRED
      else s
    | none => s

/-- LEAP_SECOND_PASS (R100): an announced leap second has passed; site time does not step for it. -/
def execLeapSecondPass (s : State) : Host.Outcome State Fault Refusal :=
  .next <|
    match s.time.leapAt with
    | some (at_, taiUtc) =>
      if at_ ≤ s.now / oneSec then
        let t : State := { s with time := { s.time with leapAt := none } }
        ((t.setFld F.TIM_STAT_LEAP_PENDING 0).setFld F.TIM_UTC_LEAP_PENDING 0).setFld F.TIM_UTC_TAI_UTC taiUtc
      else s
    | none => s

/-! ### Pulse outputs (R111 to R113) -/

/-- PERIOD of a pulse output, in ns (Table 4-6). -/
def State.ppsPeriod (s : State) (k : Nat) : Nat :=
  match s.fld (F.TIM_PPS_CTL_PERIOD k) with
  | 1 => 100 * oneMs
  | 2 => 10 * oneMs
  | 3 => 2 * oneSec
  | 4 => 10 * oneSec
  | _ => oneSec

/-- The width in ms the time state gives a pulse at its leading edge (R111, R112, Table 4-1). -/
def State.ppsWidth (s : State) (k : Nat) : Nat :=
  let st := s.timState
  let ok := orOne (s.fld (F.TIM_PPS_WIDTH_OK k))
  let w :=
    if !s.flag (F.TIM_PPS_CTL_WCODE k) ∨ st = tsLOCKED then ok
    else if st = tsLOCKING ∨ st = tsHOLDOVER then s.fld (F.TIM_PPS_WIDTH_DEG k)
    else s.fld (F.TIM_PPS_WIDTH_INV k)
  if s.ppsPeriod k ≤ w * oneMs then s.ppsPeriod k / 2 / oneMs else w

/-- Whether the pulses are suppressed: FREE without FREE_OUT, and from EXPIRED with HOLD_ACT = 1 until LOCKED (R109). -/
def State.ppsSuppressed (s : State) : Bool :=
  (s.timState == tsFREE && !s.flag F.TIM_CTL_FREE_OUT) || (s.time.expired && s.flag F.TIM_CTL_HOLD_ACT)

/-- OFS − CABLE of a pulse output, in ps. -/
def State.ppsShift (s : State) (k : Nat) : Int :=
  signed 32 (s.fld (F.TIM_PPS_OFS_OFS k)) * 1000 - (s.fld (F.TIM_PPS_CABLE_CABLE k) : Nat)

/-- The index of the latest scheduled instant of a pulse output at or before now: instant n is n × PERIOD + OFS − CABLE. -/
def State.ppsIndex (s : State) (k : Nat) : Int := ((s.now : Int) * 1000 - s.ppsShift k) / (s.ppsPeriod k * 1000 : Nat)

/-- The level of a pulse output: active within a pulse, else inactive, and inactive while it is disabled or suppressed (R112, R113). -/
def State.ppsLevel (s : State) (k : Nat) : Bool :=
  let p := Tbl.get ({} : Pulse) s.time.pps k
  let within := match p.lastEdge with
    | some e => decide (s.el < e + p.width)
    | none => false
  (s.flag (F.TIM_PPS_CTL_EN k) && !s.ppsSuppressed && within) != s.flag (F.TIM_PPS_CTL_POL k)

/-- Enabling an output, or a write of PERIOD, OFS or CABLE, takes effect from the first scheduled edge at least 1 ms later (R113). -/
def State.ppsWritten (s : State) (k : Nat) : State :=
  let p := Tbl.get ({} : Pulse) s.time.pps k
  { s with time := { s.time with pps := Tbl.put {} s.time.pps k { p with writtenAt := some s.el, lastInstant := s.ppsIndex k } } }

/-- A write of a pulse output's control register: only EN set to 1 or a new PERIOD reschedules it. -/
def State.ppsCtlWritten (s old : State) (k : Nat) : State :=
  if (s.flag (F.TIM_PPS_CTL_EN k) && !old.flag (F.TIM_PPS_CTL_EN k)) || s.fld (F.TIM_PPS_CTL_PERIOD k) != old.fld (F.TIM_PPS_CTL_PERIOD k) then s.ppsWritten k
  else s

/-- PPS_EDGE (R112): the leading edge of a scheduled instant, at least half a period of elapsed time after the one before (R105) and
1 ms after a write (R113); an instant that does not meet this is passed over. DESIGN CHOICE (entry 165): the command comes within the
millisecond that follows the instant, and the edge stands at the instant, to 125 ps. -/
def execPpsEdge (k : Fin 2) (s : State) : Host.Outcome State Fault Refusal :=
  let p := Tbl.get ({} : Pulse) s.time.pps k.val
  let n := s.ppsIndex k.val
  let ps := (n * (s.ppsPeriod k.val * 1000 : Nat) + s.ppsShift k.val).toNat
  let late := s.now - ps / 1000
  let el := s.el - late
  let spaced := match p.lastEdge with
    | some e => decide (e + s.ppsPeriod k.val / 2 ≤ el)
    | none => true
  let settled := match p.writtenAt with
    | some w => decide (w + oneMs ≤ el)
    | none => true
  .next <|
    if !s.flag (F.TIM_PPS_CTL_EN k.val) || n == p.lastInstant then s
    else
      let emits := spaced && settled && decide (late < oneMs) && !s.ppsSuppressed
      let q : Pulse := if emits then { p with lastEdge := some el, lastInstant := n, width := s.ppsWidth k.val * oneMs } else { p with lastInstant := n }
      let t : State := { s with time := { s.time with pps := Tbl.put {} s.time.pps k.val q } }
      if emits then t.emit (.pps k.val (s.ppsWidth k.val) (s.flag (F.TIM_PPS_CTL_POL k.val)) ((ps + 62) / 125)) else t

/-- PPS_CONFIG (R112, R117): writes the output's registers and stores them in the NOR settings. -/
def doPpsConfig (s : State) (_ _ : Nat) (p : List Byte) : Res :=
  withLen s 20 p <|
    let k := rdN p 0 1
    if 1 < k then refuse s St.badParameter
    else
      let t := s.setFld ⟨R.TIM_PPS_CTL k, 0, 6⟩ (rdN p 4 4)
      let t := t.setReg (R.TIM_PPS_OFS k) (BitVec.ofNat 32 (rdN p 8 4))
      let t := t.setReg (R.TIM_PPS_CABLE k) (BitVec.ofNat 32 (rdN p 12 4))
      let t := t.setFld ⟨R.TIM_PPS_WIDTH k, 0, 30⟩ (rdN p 16 4)
      okay ((t.ppsWritten k).saveRegs [R.TIM_PPS_CTL k, R.TIM_PPS_OFS k, R.TIM_PPS_CABLE k, R.TIM_PPS_WIDTH k])

def opPpsConfig : Op := { code := 0x0A04, rights := 1, run := doPpsConfig }
def execPpsConfig (c : Cmd) (s : State) : Host.Outcome State Fault Refusal := .next (s.host c opPpsConfig)

/-! ### TIME_IN (R114, R115) -/

/-- A time within the present TIME cycle by phase interpolation: an extended count, `phase` ns of the nominal 4 ns on (R98). -/
def State.interpolated (s : State) (ext : Nat) (phase : Nat) : Nat := (ext + s.timeInc * phase / 4) / 2 ^ 32

/-- TIME_IN_EDGE (R98, R114, R115): an edge `phase` ns into the TIME cycle that begins a pulse of `width` ns. The glitch filter rejects
pulses shorter than 20 ns; an edge selected by EDGE is stamped less TIM_IN_DLY and enters the FIFO; one closer than 100 ns to the
previous stamped edge, or one that finds the FIFO full, is counted in OVF. -/
def execTimeInEdge (falling : Bool) (phase : Fin 4) (width : Nat) (s : State) : Host.Outcome State Fault Refusal :=
  let e := s.fld F.TIM_IN_CTL_EDGE
  let wanted := e == 2 || (e == 1 && falling) || ((e == 0 || e == 3) && !falling)
  let el := s.interpolated s.time.elapsed phase.val
  let close := match s.time.lastStamp with
    | some l => decide (el < l + 100)
    | none => false
  .next <|
    if !s.flag F.TIM_IN_CTL_EN || !wanted || decide (width < 20) then s
    else if close || 16 ≤ s.time.fifo.length then s.satInc F.TIM_IN_STAT_OVF
    else
      let at_ := ((s.interpolated s.time.ext phase.val : Int) - (signed 32 (s.fld F.TIM_IN_DLY_DLY) + 500) / 1000) % (2 ^ 64 : Nat)
      let st : Stamp := ⟨at_.toNat, s.fld F.TIM_STAT_STEPS, s.timState, falling⟩
      let fifo := s.time.fifo ++ [st]
      let t : State := { s with time := { s.time with fifo := fifo, lastStamp := some el } }
      let t := t.setFld F.TIM_IN_STAT_COUNT fifo.length
      if s.time.fifo.isEmpty then t.raise Ev.timIn (le 1 1) else t

/-- A read of TIM_IN_LO moves the oldest entry into the TIM_IN registers; an empty FIFO reads 0 with VALID = 0 (R115). -/
def State.readInLo (s : State) : Word × State :=
  match s.time.fifo with
  | [] => (0, ((s.setReg R.TIM_IN_LO 0).setReg R.TIM_IN_HI 0).setReg R.TIM_IN_META 0)
  | e :: rest =>
    let t : State := { s with time := { s.time with fifo := rest } }
    let t := t.setReg R.TIM_IN_LO (BitVec.ofNat 32 e.time)
    let t := t.setReg R.TIM_IN_HI (BitVec.ofNat 32 (e.time / 2 ^ 32))
    let t := (t.setReg R.TIM_IN_META 0).setFld F.TIM_IN_META_VALID 1
    let t := ((t.setFld F.TIM_IN_META_EDGE (b2n e.falling)).setFld F.TIM_IN_META_STATE e.state).setFld F.TIM_IN_META_STEPS e.steps
    (BitVec.ofNat 32 e.time, t.setFld F.TIM_IN_STAT_COUNT rest.length)

/-- TIM_IN_LO_READ (R115). -/
def execTimInLoRead (s : State) : Host.Outcome State Fault Refusal := .next s.readInLo.2

/-! ### TIME_GET (R117) -/

/-- TIME_GET (Table 4-2). -/
def doTimeGet (s : State) (_ _ : Nat) (p : List Byte) : Res :=
  withLen s 0 p <|
    okWith s (le 8 s.now ++ le 1 s.timState ++ le 1 (s.fld F.TIM_STAT_SOURCE)
      ++ le 1 (b2n (s.flag F.TIM_STAT_STEPPED) + 2 * b2n (s.flag F.TIM_STAT_COARSE) + 4 * b2n (s.flag F.TIM_STAT_LEAP_PENDING))
      ++ le 1 (s.fld F.TIM_STAT_STEPS) ++ leI 4 (satI32 (s.theta / 1000)) ++ leI 4 (satI32 s.time.y)
      ++ le 4 (s.fld F.TIM_HOLD_AGE_AGE) ++ le 2 (s.fld F.TIM_UTC_TAI_UTC) ++ zeros 2)

def opTimeGet : Op := { code := 0x0A02, rights := 0, run := doTimeGet }
def execTimeGet (c : Cmd) (s : State) : Host.Outcome State Fault Refusal := .next (s.host c opTimeGet)

end Sys2Proof.Machine
end

