-- ==== Sys2Proof/Machine/Tracking.lean ====
section
/-! DEFINITION. The front end, the channels and the band trackers of the sky baseband (chapter 03; signals R58): antenna and
interference, acquisition, handover, the tracking loops, and losses of lock. -/

namespace Sys2Proof.Machine

def Channel.zero : Channel := {}
def Tracker.zero : Tracker := {}

def State.chan (s : State) (c : Nat) : Channel := Tbl.get Channel.zero s.sky.chans c
def State.tracker (s : State) (c b : Nat) : Tracker := Tbl.get Tracker.zero s.sky.trk (2 * c + b)
def State.setChan (s : State) (c : Nat) (v : Channel) : State :=
  { s with sky := { s.sky with chans := Tbl.put Channel.zero s.sky.chans c v } }

/-- The SKY domain has its clock (Table 1-9) and the sky baseband is enabled. -/
def State.skyRuns (s : State) : Bool := s.flag F.SKY_CTL_EN && s.laneClock

/-- SKY_STAT.TRACK: channels in code lock on at least one band; STATE shows tracking once there is one. -/
def State.syncTrack (s : State) : State :=
  let locked := s.sky.chans.filter fun p => 3 ≤ (s.tracker p.1 0).state || 3 ≤ (s.tracker p.1 1).state
  let t := s.setFld F.SKY_STAT_TRACK locked.length
  if locked.isEmpty then t else t.setFld F.SKY_STAT_STATE 4

def State.setTracker (s : State) (c b : Nat) (v : Tracker) : State :=
  ({ s with sky := { s.sky with trk := Tbl.put Tracker.zero s.sky.trk (2 * c + b) v } } : State).syncTrack

/-! ### Signals (Table 3-1) -/

/-- A satellite's key: system × 256 + SVID. -/
def satKey (system svid : Nat) : Nat := system * 256 + svid
def Channel.sat (c : Channel) : Nat := satKey c.system c.svid

/-- The system of a signal code (Table 3-1, Table 3-9). -/
def sigSystem (signal : Nat) : Nat :=
  match signal with
  | 1 | 2 => 0
  | 3 | 4 => 1
  | 5 | 6 => 2
  | 7 | 8 => 3
  | _ => 4

/-- The band of a signal code: 0 L1, 1 L5. -/
def sigBand (signal : Nat) : Nat := (signal + 1) % 2

/-- The signal code of a system's L1-band signal; its L5-band signal is the next code (Table 3-1). -/
def l1Signal (system : Nat) : Nat := 2 * system + 1

/-- The nav TYPE of a signal code; none for SBAS. -/
def navType (signal : Nat) : Option Nat :=
  if signal = 7 then some 1 else if signal = 8 then some 2 else if 1 ≤ signal ∧ signal ≤ 6 then some signal else none

/-- The primary code period in ms: the first coherent integration time (R70). -/
def codePeriod (signal : Nat) : Nat := if signal = 3 then 4 else if signal = 5 then 10 else 1

/-- The code rate in chips per second, the chips of the primary code, and the carrier in Hz. -/
def codeRateOf (signal : Nat) : Nat := if sigBand signal = 0 then 1023000 else 10230000
def codeChips (signal : Nat) : Nat := codeRateOf signal / 1000 * codePeriod signal
def carrierOf (signal : Nat) : Nat := if sigBand signal = 0 then 1575420000 else 1176450000

/-- A BOC signal (Table 3-2), and a signal with a pilot. -/
def isBoc (signal : Nat) : Bool := signal == 3 || signal == 5
def isPilot (signal : Nat) : Bool := signal != 1 && signal != 7 && signal != 9

/-! ### Antenna (R59) -/

def State.antEvent (s : State) : State :=
  s.raise Ev.skyAnt (le 1 (s.fld F.SKY_ANT_SENSE) ++ le 2 (s.fld F.SKY_ANT_CURRENT))

/-- Whether a bias voltage is selected (Table 3-12). -/
def State.biasOn (s : State) : Bool := s.fld F.SKY_ANT_BIAS == 1 || s.fld F.SKY_ANT_BIAS == 2

/-- Class the sensed bias current in 0.1 mA (R59); an indication of open or short raises EV_SKY_ANT when it is entered. -/
def State.antSense (s : State) (current : Nat) : State :=
  let old := s.fld F.SKY_ANT_SENSE
  let t := s.setFld F.SKY_ANT_CURRENT (min current 65535)
  if current < 30 then
    let t := t.setFld F.SKY_ANT_SENSE 1
    if old = 1 then t else t.antEvent
  else if 1000 ≤ current then
    let t := t.setFld F.SKY_ANT_SENSE 2
    let t : State := { t with sky := { t.sky with biasRetry := t.el } }
    if old = 2 then t else t.antEvent
  else t.setFld F.SKY_ANT_SENSE 0

/-- A write of SKY_ANT: with no bias selected no current flows and SENSE shows bias disabled (Table 3-12); a bias selected anew is
sensed from its first reading on. -/
def State.antWritten (s : State) (was : Bool) : State :=
  if !s.biasOn then (s.setFld F.SKY_ANT_SENSE 3).setFld F.SKY_ANT_CURRENT 0
  else if was then s else s.setFld F.SKY_ANT_SENSE 3

/-- ANTENNA_OPEN: a current below 3.0 mA. -/
def execAntennaOpen (current : Nat) (s : State) : Host.Outcome State Fault Refusal :=
  .next (if s.biasOn && s.fld F.SKY_ANT_SENSE != 2 && current < 30 then s.antSense current else s)

/-- ANTENNA_SHORT: a current of 100 mA or more switches the bias off. -/
def execAntennaShort (current : Nat) (s : State) : Host.Outcome State Fault Refusal :=
  .next (if s.biasOn && s.fld F.SKY_ANT_SENSE != 2 && 1000 ≤ current then s.antSense current else s)

/-- ANTENNA_BIAS_RETRY: once per second after a short the bias is tried again. -/
def execAntennaBiasRetry (current : Nat) (s : State) : Host.Outcome State Fault Refusal :=
  .next (if s.biasOn && s.fld F.SKY_ANT_SENSE == 2 && s.passed s.sky.biasRetry oneSec then s.antSense current else s)

/-- ANTENNA_NORMAL: the current returns to the normal band after an open indication. -/
def execAntennaNormal (current : Nat) (s : State) : Host.Outcome State Fault Refusal :=
  .next (if s.biasOn && s.fld F.SKY_ANT_SENSE != 2 && 30 ≤ current && current < 1000 then s.antSense current else s)

/-! ### Interference (R61, R62) -/

/-! SKY_ITF_STAT holds the L1 band in bits [15:0] and the L5 band in bits [31:16]. -/
def fGain (b : Nat) : Fld := ⟨R.SKY_ITF_STAT, 16 * b + 8, 8⟩
def fNotch (b : Nat) : Fld := ⟨R.SKY_ITF_STAT, 16 * b + 4, 4⟩
def fBlank (b : Nat) : Fld := ⟨R.SKY_ITF_STAT, 16 * b, 4⟩

/-- EV_SKY_ITF with band, cause (0 notch, 1 blanking, 2 AGC step) and gain (R62). -/
def State.itfEvent (s : State) (band cause : Nat) : State :=
  s.raise Ev.skyItf (le 1 band ++ le 1 cause ++ le 1 (s.fld (fGain band)))

/-- Whether an interference condition holds on a band (FLAGS2.ITF, R62). -/
def State.itfOn (s : State) (b : Nat) : Bool := s.fld (fNotch b) != 0 || bit s.sky.itf (2 * b) || bit s.sky.itf (2 * b + 1)

/-- The line of a notch has been seen at or above the release level, or below it since a time. -/
def State.setNotchLow (s : State) (k : Nat) (since : Option Nat) : State :=
  { s with sky := { s.sky with notchLow := Tbl.put none s.sky.notchLow k since } }

/-- A notch engages or releases. -/
def State.setNotch (s : State) (b n : Nat) (on : Bool) : State :=
  (s.setFld (fNotch b) (withBit (s.fld (fNotch b)) n on)).setNotchLow (4 * b + n) none

/-- NOTCH_ENGAGE (R61, R62): a spectral line `level` dB above the noise floor, `freq` Hz from the centre of the band. A notch that is
engaged follows its line. -/
def execNotchEngage (band : Fin 2) (notch : Fin 4) (level : Nat) (freq : Int) (s : State) : Host.Outcome State Fault Refusal :=
  let k := 4 * band.val + notch.val
  .next <|
    if !bit (s.fld F.SKY_ITF_NOTCH_EN) notch.val || !s.skyRuns || level ≤ s.fld F.SKY_ITF_NOTCH_THR || 40920000 < freq.natAbs then s
    else
      let t : State := { s with sky := { s.sky with notchFreq := Tbl.put 0 s.sky.notchFreq k freq } }
      if bit (s.fld (fNotch band.val)) notch.val then t.setNotchLow k none
      else (t.setNotch band.val notch.val true).itfEvent band.val 0

/-- NOTCH_RELEASE (R61): the level of the notch's line, dB above the noise floor; the notch releases once it has stayed below
NOTCH_THR − 3 dB for 1 s. -/
def execNotchRelease (band : Fin 2) (notch : Fin 4) (level : Nat) (s : State) : Host.Outcome State Fault Refusal :=
  let k := 4 * band.val + notch.val
  .next <|
    if !bit (s.fld (fNotch band.val)) notch.val then s
    else if s.fld F.SKY_ITF_NOTCH_THR ≤ level + 3 then s.setNotchLow k none
    else
      match Tbl.get none s.sky.notchLow k with
      | none => s.setNotchLow k (some s.el)
      | some t => if s.passed t oneSec then s.setNotch band.val notch.val false else s

/-- A write of SKY_ITF: a notch that is no longer enabled releases. -/
def State.itfWritten (s : State) : State :=
  [0, 1].foldl (fun t b => [0, 1, 2, 3].foldl (fun t n => if bit (t.fld F.SKY_ITF_NOTCH_EN) n then t else if bit (t.fld (fNotch b)) n then t.setNotch b n false else t) t) s

/-- Pulse blanking (R61): the samples of a band with those blanked set to 0, and how many are. `left` samples of an extension are still
to be blanked. -/
def blanked (thr ext : Nat) : Nat → List (Int × Int) → List (Int × Int) × Nat
  | _, [] => ([], 0)
  | left, (i, q) :: t =>
    let pulse := thr != 0 && (decide (thr ≤ i.natAbs) || decide (thr ≤ q.natAbs))
    let (out, n) := blanked thr ext (if pulse then ext else left - 1) t
    if pulse || left != 0 then ((0, 0) :: out, n + 1) else ((i, q) :: out, n)

/-- The AGC's change over 10 ms, its time constant, in 0.5 dB steps: 1 − 1/e of what brings the rms of the samples to AGC_TGT, to the
nearest step (R61). -/
def agcSteps (target : Nat) (samples : List (Int × Int)) : Int :=
  let sq := samples.foldl (fun n x => n + (x.1 * x.1 + x.2 * x.2).natAbs) (0 : Nat)
  if sq = 0 ∨ target = 0 then 0 else (632 * logRatio 20 (target * target * samples.length) (2 * sq) + 500) / 1000

/-- INTERFERENCE_CONDITION (R61, R62): 10 ms of a band's samples. Their blanked share and the AGC gain that follows from them are
shown; a condition that comes to hold raises EV_SKY_ITF, and FLAGS2.ITF follows the conditions. -/
def execInterferenceCondition (band : Fin 2) (samples : List (Int × Int)) (s : State) : Host.Outcome State Fault Refusal :=
  let b := band.val
  let n := (blanked (s.fld F.SKY_ITF_BLANK_THR) (orOne (s.fld F.SKY_ITF_BLANK_EXT)) 0 samples).2
  let gain := (clampI 0 255 ((s.fld (fGain b) : Int) + agcSteps (s.fld F.SKY_ITF_AGC_TGT) samples)).toNat
  let past := (Tbl.get [] s.sky.gains b).filter fun x => s.el < x.1 + oneSec
  let isBlank := decide (20 * samples.length < 100 * n)
  let isStep := past.any fun x => decide (12 < gain - x.2 ∨ 12 < x.2 - gain)
  let t := (s.setFld (fBlank b) (min 15 (20 * n / samples.length))).setFld (fGain b) gain
  let itf := withBit (withBit s.sky.itf (2 * b) isBlank) (2 * b + 1) isStep
  let u : State := { t with sky := { t.sky with itf := itf, gains := Tbl.put [] t.sky.gains b ((s.el, gain) :: past) } }
  let u := if isBlank && !bit s.sky.itf (2 * b) then u.itfEvent b 1 else u
  .next (if !s.skyRuns || samples.isEmpty then s else if isStep && !bit s.sky.itf (2 * b + 1) then u.itfEvent b 2 else u)

/-! ### What is predicted of a satellite (R63, R66, R75) -/

/-- The nav TYPEs whose ephemerides a satellite may have: that of its L1-band signal first. -/
def navTypes (system : Nat) : List Nat := if system = 3 then [1, 2] else if system = 4 then [] else [2 * system + 1, 2 * system + 2]

/-- The ephemeris of a satellite in use. -/
def State.ephData (s : State) (sat : Nat) : Option (List Byte) :=
  ((navTypes (sat / 256)).map fun ty => (Tbl.get ({} : Ephemeris) s.sky.eph (8 * sat + ty)).inUse).find? fun d => !d.isEmpty

/-- The orbit of a satellite: its ephemeris, else its almanac. -/
def State.orbit (s : State) (sat : Nat) : Option (List Byte) :=
  (s.ephData sat).orElse fun _ => if (Tbl.get [] s.sky.almanacs sat).isEmpty then none else some (Tbl.get [] s.sky.almanacs sat)

/-- Where the antenna is taken to be (Table 3-4, check 4): the base position, else the site origin; none where the two are set and lie
more than 10 km apart. -/
def State.antennaAt (s : State) : Option (Int × Int × Int) :=
  match s.sky.base, s.rtk.origin with
  | some b, some o => if distance (b.x, b.y, b.z) o ≤ 100000000 then some (tenths (baseArp b)) else none
  | some b, none => some (tenths (baseArp b))
  | none, o => o

/-- The prediction of a satellite at a site time. -/
def State.predicted (s : State) (data : Option (List Byte)) (t : Nat) : Option Prediction :=
  match data, s.antennaAt with
  | some d, some p => some (Config.predict d p (gps t))
  | _, _ => none

/-- The Doppler that a prediction gives on a carrier, 2^-12 Hz: the range rate, and REFCLK's frequency estimate y_f, by which a fast
REFCLK lowers every Doppler. -/
def State.predictedDoppler (s : State) (p : Prediction) (carrier : Nat) : Int :=
  -(p.rate * carrier * 4096) / (299792458 * 1000 : Nat) - s.time.yf * carrier * 4096 / (10 ^ 12 : Nat)

/-- The NCOs at an elapsed time: they go on at the rates set (R64). -/
def Tracker.codeAt (t : Tracker) (el : Nat) : Int :=
  t.code + ((codeRateOf t.signal * 2 ^ 20 : Nat) + t.codeRate) * 2 ^ 28 * ((el : Int) - t.ncoAt) / 1000000000
def Tracker.carrierAt (t : Tracker) (el : Nat) : Int := t.carrier + t.doppler * 2 ^ 36 * ((el : Int) - t.ncoAt) / 1000000000

/-! ### Acquisition (R63, R66) -/

/-- EV_SKY_GRADE: channel, grade and the failing check bits (R76). -/
def State.gradeEvent (s : State) (c grade checks : Nat) : State :=
  s.raise Ev.skyGrade (le 1 c ++ le 1 grade ++ le 1 checks)

/-- The grade of a channel: 3 of a locked-out satellite, else the worse of its two band trackers' grades (R76, R79). -/
def State.chanGrade (s : State) (c : Nat) : Nat :=
  if (s.chan c).busy && s.sky.lockedOut.contains (s.chan c).sat then 3 else max (s.tracker c 0).grade (s.tracker c 1).grade

/-- A channel is released: both its trackers go idle; grade 3 stays with the satellite (R79). -/
def State.releaseChan (s : State) (c : Nat) : State :=
  ((s.setChan c Channel.zero).setTracker c 0 Tracker.zero).setTracker c 1 Tracker.zero

/-- The start that a satellite's search makes (Table 3-3): hot 3 with an ephemeris and time within 10 µs, warm 2 with an almanac and time
within 1 s, else cold 1. Time that a source disciplines is within 10 µs until EXPIRED; stepped or loaded from the seconds counter it is
within 1 s. -/
def State.searchKind (s : State) (sat : Nat) : Nat :=
  let fine := s.flag F.TIM_STAT_STEPPED && s.timState != tsFREE && s.timState != tsEXPIRED
  let rough := s.flag F.TIM_STAT_STEPPED || s.flag F.TIM_STAT_COARSE
  if (s.ephData sat).isSome && fine && s.antennaAt.isSome then 3
  else if (s.orbit sat).isSome && rough && s.antennaAt.isSome then 2 else 1

/-- The elevation that is predicted of a satellite now. -/
def State.elevNow (s : State) (sat : Nat) : Option Int := (s.predicted (s.orbit sat) s.now).map (·.elev)

/-- A satellite is predicted above the elevation mask. -/
def State.aboveMask (s : State) (sat : Nat) : Bool :=
  match s.elevNow sat with
  | some e => decide ((100 * s.fld F.SKY_CHK_A_ELEV_MASK : Nat) < e)
  | none => false

/-- Doppler span of a search in 2^-12 Hz, bin width, and code span in chips; none the full period (Table 3-3). -/
def searchSpan (kind : Nat) : Nat × Nat × Option Nat :=
  match kind with
  | 3 => (200 * 4096, 125 * 4096, some 10)
  | 2 => (1500 * 4096, 250 * 4096, none)
  | _ => (6000 * 4096, 250 * 4096, none)

/-- The distance of two code phases in chips × 2^10, around the primary code. -/
def codeApart (chips a b : Nat) : Nat :=
  let p := chips * 1024
  let d := (a % p + p - b % p) % p
  min d (p - d)

/-- The code phase of a satellite's L1-band signal that is predicted at a site time, in 2^-10 chip of its primary code. -/
def predictedCode (p : Prediction) (signal t : Nat) : Nat :=
  let ns : Int := gps t - p.range * 1000000000 / (299792458 * 2 ^ 20 : Nat)
  (ns * (codeRateOf signal : Nat) * 1024 / 1000000000 % (codeChips signal * 1024 : Nat)).toNat

/-- A detection lies in the search space of its satellite (Table 3-3): on a bin of the Doppler span around the predicted Doppler, and
within the code span. -/
def State.inSearch (s : State) (a : AcqIn) (sat : Nat) : Bool :=
  let kind := s.searchKind sat
  let (span, bin, code) := searchSpan kind
  let sig := l1Signal a.system.val
  let p := s.predicted (if kind = 1 then none else s.orbit sat) s.now
  let d := a.doppler - ((p.map fun x => s.predictedDoppler x (carrierOf sig)).getD 0)
  let near := match code, p with
    | some n, some x => decide (codeApart (codeChips sig) a.code (predictedCode x sig s.now) ≤ 1024 * n)
    | _, _ => true
  decide (d.natAbs ≤ span) && decide (d % (bin : Nat) = 0) && near && (kind == 1 || s.aboveMask sat)

/-- A cell is accepted above the detection threshold, and a separate dwell of 100 ms confirms it (R66). -/
def confirmed (a : AcqIn) : Bool :=
  decide (Config.detectThreshold < a.power) && decide (Config.detectThreshold < a.confirm) && decide (100 ≤ a.dwellMs)

/-- The satellites that an almanac or ephemeris names, of the enabled systems. -/
def State.knownSats (s : State) : List Nat :=
  let ephs := (s.sky.eph.filter fun p => !p.2.inUse.isEmpty).map fun p => p.1 / 8
  let alms := s.sky.almanacs.map fun p => p.1
  (ephs ++ alms).eraseDups.filter fun k => bit (s.fld F.SKY_CTL_SYS_EN) (k / 256)

/-- Whether a satellite goes before another when more candidates exist than free channels: SBAS satellites are left out first and then
the lowest (R63). -/
def State.outranks (s : State) (a b : Nat) : Bool :=
  let sbas (k : Nat) : Bool := k / 256 == 4
  if sbas a != sbas b then sbas b else decide ((s.elevNow b).getD 0 < (s.elevNow a).getD 0)

/-- The channels that hold no satellite. -/
def State.freeChans (s : State) : Nat := 128 - (s.sky.chans.filter fun p => p.2.busy).length

/-- Whether a satellite found is given one of the free channels: fewer candidates predicted above the mask and not yet held go before
it than there are free channels. -/
def State.getsChannel (s : State) (sat : Nat) : Bool :=
  let held (k : Nat) : Bool := s.sky.chans.any fun p => p.2.busy && p.2.sat == k
  decide (((s.knownSats.filter fun k => k != sat && !held k && s.aboveMask k).filter fun k => s.outranks k sat).length < s.freeChans)

/-- The L1-band tracker of an acquired satellite begins its pull-in from the detection. -/
def State.pullIn (s : State) (ch band signal : Nat) (doppler code : Int) : State :=
  let old := s.tracker ch band
  s.setTracker ch band
    { signal := signal, state := 2, tMs := codePeriod signal, fll := true, doppler := doppler, vel := doppler * 2 ^ 20, code := code
      ncoAt := s.el, codeRate := doppler * 256 / (carrierOf signal / codeRateOf signal : Nat), cslip := old.cslip }

/-- SATELLITE_ACQUIRED (R63, R66): a confirmed detection in the search space gives its satellite a free channel, or a channel that has
held it since it lost code lock (R79); a locked-out satellite enters grade 3 at once. -/
def execSatelliteAcquired (ch : Fin 128) (a : AcqIn) (s : State) : Host.Outcome State Fault Refusal :=
  let k := satKey a.system.val a.svid.toNat
  let c := s.chan ch.val
  let free := !c.busy && !(s.sky.chans.any fun p => p.2.busy && p.2.sat == k) && s.getsChannel k
  let again := c.busy && c.sat == k && decide ((s.tracker ch.val 0).state ≤ 1)
  .next <|
    if s.skyRuns && bit (s.fld F.SKY_CTL_SYS_EN) a.system.val && (free || again) && confirmed a && s.inSearch a k then
      let p := s.predicted (s.orbit k) s.now
      let t := if again then s else
        s.setChan ch.val { busy := true, system := a.system.val, svid := a.svid.toNat, elev := (p.map (·.elev)).getD 0, azim := (p.map (·.azim)).getD 0 }
      let t := t.pullIn ch.val 0 (l1Signal a.system.val) a.doppler ((a.code : Int) * 2 ^ 38)
      if s.sky.lockedOut.contains k && !again then t.gradeEvent ch.val 3 0 else t
    else s

/-- L5_HANDOVER (R67): the L5-band tracker starts with the L1-band Doppler × 115/154, at the code phase found within ±3 chips of ten
times the L1-band code phase (offset in 2^-10 chip), whose count of the transmit time it takes over; a satellite without a signal on the L5 band shows no detection there. -/
def execL5Handover (ch : Fin 128) (offset : Int) (power : Nat) (s : State) : Host.Outcome State Fault Refusal :=
  let c := s.chan ch.val
  let l1 := s.tracker ch.val 0
  .next <|
    if s.skyRuns && s.flag F.SKY_CTL_L5_EN && c.busy && 3 ≤ l1.state && decide ((s.tracker ch.val 1).state ≤ 1) && decide (offset.natAbs ≤ 3 * 1024)
        && decide (Config.detectThreshold < power) then
      let u := s.pullIn ch.val 1 (l1Signal c.system + 1) (l1.doppler * 115 / 154) (10 * l1.codeAt s.el + offset * 2 ^ 38)
      u.setTracker ch.val 1 { u.tracker ch.val 1 with timed := l1.timed }
    else s

/-- CHANNEL_RELEASE (R63): 30 s after its satellite has set below the mask, or at once when its system is disabled. -/
def execChannelRelease (ch : Fin 128) (s : State) : Host.Outcome State Fault Refusal :=
  let c := s.chan ch.val
  let set := match c.setAt with
    | some t0 => s.passed t0 (30 * oneSec)
    | none => false
  .next (if c.busy && (set || !bit (s.fld F.SKY_CTL_SYS_EN) c.system) then s.releaseChan ch.val else s)

/-! ### The tracking loops (R64, R69 to R74) -/

/-- A loss of carrier lock: CSLIP counts and LOCK_TIME returns to 0 (R79). -/
def Tracker.carrierLost (t : Tracker) : Tracker :=
  { t with state := min t.state 3, cslip := (t.cslip + 1) % 256, lockTime := 0, lockedSince := none, fll := true, halfCycle := false, phaseN := none }

/-- The offsets of the taps from the prompt in 0.05 chip (Table 3-2): VE and VL, E and L. N− and N+ stand at 1. -/
def State.veryEarly (s : State) (signal : Nat) : Int := if isBoc signal then 10 else (clampN 0x0A 0x1E (s.fld F.SKY_TAP_VEL_SP) : Nat)
def State.earlyLate (s : State) (signal : Nat) : Int :=
  (clampN 0x02 0x0A (if sigBand signal = 0 then s.fld F.SKY_TAP_EL_LO else s.fld F.SKY_TAP_EL_HI) : Nat)

/-- The tap at an offset, as I and Q. -/
def tapOf (i : LoopIn) (offset : Int) : Int × Int := ((i.corr.find? fun x => x.1 == offset).map (·.2)).getD (0, 0)
def magOf (i : LoopIn) (offset : Int) : Nat := magnitude (tapOf i offset).1 (tapOf i offset).2

/-- The DLL discriminator in chips (R69): double-delta on 1.023 Mcps signals with EL_LO = 0.10 and DD_EN = 1, else early-late power. -/
def State.dllError (s : State) (signal : Nat) (i : LoopIn) : Rat :=
  let d := s.earlyLate signal
  let e : Rat := magOf i (-d)
  let l : Rat := magOf i d
  if sigBand signal = 0 ∧ d = 2 ∧ s.flag F.SKY_TAP_DD_EN then (2 * ((magOf i (-1) : Rat) - magOf i 1) - (e - l)) / (e + l)
  else (e * e - l * l) / (e * e + l * l)

/-- The PLL discriminator in cycles (R69): four-quadrant on a pilot, two-quadrant on a data-only signal. -/
def pllError (signal : Nat) (p : Int × Int) : Rat :=
  let a := if isPilot signal || decide (0 ≤ p.1) then Config.atan2 p.2 p.1 else Config.atan2 (-p.2) (-p.1)
  (a : Rat) / 2 ^ 32

/-- π, to 20 digits. -/
def piR : Rat := 314159265358979323846 / 10 ^ 20

/-- The FLL discriminator in Hz (R69): the cross product of two successive prompts `t` seconds apart, over their power. -/
def fllError (p q : Int × Int) (t : Rat) : Rat :=
  ((p.1 * q.2 - q.1 * p.2 : Int) : Rat) / ((q.1 * q.1 + q.2 * q.2 : Int) * t * 2 * piR)

/-- The lock indicator (R72): the mean of (I² − Q²)/(I² + Q²) over the integrations of the last 100 ms. -/
def lockIndicator (el : Nat) (l : List Integ) : Rat :=
  let m := l.filter fun x => el < x.at_ + 100 * oneMs
  (m.map fun x => ((x.i * x.i - x.q * x.q : Int) : Rat) / (x.i * x.i + x.q * x.q : Int)).foldl (· + ·) 0 / m.length

/-- C/N0 in 0.01 dB-Hz by the narrowband-to-wideband power method over the prompts of a second (R74), each of one code period of `ms`:
in groups of 20 ms, with μ the mean ratio of the squared sum to the sum of squares over groups of m prompts, (μ − 1)/(m − μ) per code
period. -/
def cn0Of (ms : Nat) (prompts : List (Int × Int)) : Nat :=
  let m := 20 / ms
  let n := prompts.length / m
  let ratio (g : Nat) : Rat :=
    let l := (prompts.drop (g * m)).take m
    let i := l.foldl (fun a x => a + x.1) (0 : Int)
    let q := l.foldl (fun a x => a + x.2) (0 : Int)
    ((i * i + q * q : Int) : Rat) / (l.foldl (fun (a : Int) (x : Int × Int) => a + x.1 * x.1 + x.2 * x.2) 0 : Int)
  let mu : Rat := ((List.range n).map ratio).foldl (· + ·) 0 / (n : Rat)
  let x : Rat := 1000 / (ms : Rat) * (mu - 1) / ((m : Rat) - mu)
  if n = 0 ∨ mu ≤ 1 then 0 else if (m : Rat) ≤ mu then 16383 else (logRatio 1000 x.num.natAbs x.den).toNat

/-- C/N0 as a linear ratio in 0.001 Hz, rounded down. -/
def linearCn0 (cn0 : Nat) : Nat := nthRoot 1000 (10 ^ cn0 * 1000 ^ 1000)

/-- The DLL bandwidth in 0.001 Hz (R73): DLL_NOM × √(c / 10,000) within its limits. -/
def State.dllBand (s : State) (cn0 : Nat) : Nat :=
  let nom := s.fld F.SKY_DLL_DLL_NOM
  clampN (10 * s.fld F.SKY_DLL_DLL_BMIN) (10 * s.fld F.SKY_DLL_DLL_BMAX) (isqrt (nom * nom * linearCn0 cn0 / 100000))

/-- B* of R71 in 0.001 Hz, rounded down, from C/N0, the integration time in ms and the jerk in 0.001 rad/s³. -/
def pllBest (cn0 tMs jerk : Nat) : Nat :=
  let c := linearCn0 cn0
  nthRoot 7 (6 * 4828 * 4828 * jerk * jerk * c * c * (2 * tMs) * 10000 / (2 * tMs * c + 1000000))

/-- The loop filters over an integration of `t` seconds (R69): a third-order PLL of natural frequency B_P / 0.7845 assisted by a
second-order FLL of natural frequency FLL_B / 0.53, from errors in cycles and Hz. The answer is the PLL's new rate and frequency, the
carrier Doppler in Hz, and the third derivative in cycles/s³. -/
def loopFilter (vel acc bp fllB t dphi df : Rat) : Rat × Rat × Rat × Rat :=
  let w := bp * 10000 / 7845
  let wf := fllB * 100 / 53
  let third := w * w * w * dphi + wf * wf * df
  let acc' := acc + t * third
  let vel' := vel + t * ((acc + acc') / 2 + 11 / 10 * (w * w) * dphi + 1414 / 1000 * wf * df)
  (acc', vel', (vel + vel') / 2 + 24 / 10 * w * dphi, w * w * w * dphi)

/-- LOOP_UPDATE (R69, R70, R72 to R74): at the end of a coherent integration the NCOs have advanced, the loops set their rates anew, and
C/N0 and the lock indicator follow. Synchronisation makes the integration 20 ms. The indicator at LOCK_THR gives carrier lock, and its
fall counts as a loss of carrier lock. -/
def execLoopUpdate (ch : Fin 128) (band : Fin 2) (i : LoopIn) (s : State) : Host.Outcome State Fault Refusal :=
  let t := s.tracker ch.val band.val
  .next <|
    if t.state < 2 || !s.skyRuns then s
    else
      let p := tapOf i 0
      let v := s.veryEarly t.signal
      let now : Integ := { at_ := s.el, i := p.1, q := p.2, ve := magOf i (-v), vl := magOf i v, p := magOf i 0 }
      let integ := now :: t.integ.filter fun x => s.el < x.at_ + oneSec
      let prompts := (i.prompts ++ t.prompts).take (1000 / codePeriod t.signal)
      let cn0 := cn0Of (codePeriod t.signal) prompts
      let locked := decide ((s.fld F.SKY_LOOP_LOCK_THR : Rat) / 255 ≤ lockIndicator s.el integ)
      let since := if locked then some (t.lockedSince.getD s.el) else none
      let fll := match since with
        | some a => !s.passed a (200 * oneMs)
        | none => true
      let sec : Rat := (t.tMs : Rat) / 1000
      let df := match t.fll, t.integ with
        | true, x :: _ => fllError (x.i, x.q) p sec
        | _, _ => 0
      let bp : Rat := (t.pllBw : Rat) / 1000
      let (acc, vel, dop, third) := loopFilter ((t.vel : Rat) / 2 ^ 32) ((t.acc : Rat) / 2 ^ 32) bp ((s.fld F.SKY_LOOP_FLL_B : Rat) / 10) sec (pllError t.signal p) df
      let doppler := (dop * 4096).floor
      let dll := (4 * ((s.dllBand cn0 : Rat) / 1000) * s.dllError t.signal i * 2 ^ 20).floor
      let codeRate := (doppler : Rat) * 256 * (codeRateOf t.signal : Rat) / (carrierOf t.signal : Rat)
      let half := locked && (isPilot t.signal || i.polarity.isSome)
      let u : Tracker := { t with
        tMs := if i.synced then 20 else t.tMs, cn0 := cn0, dllBw := s.dllBand cn0, integ := integ, prompts := prompts
        code := t.codeAt s.el, carrier := t.carrierAt s.el, ncoAt := s.el
        doppler := doppler, codeRate := codeRate.floor + dll, vel := (vel * 2 ^ 32).floor, acc := (acc * 2 ^ 32).floor
        jerkRaw := (third * 2 * piR * 1000).floor.natAbs, lockedSince := since, fll := fll
        halfCycle := half || (locked && t.halfCycle), halfAdd := if isPilot t.signal then false else i.polarity.getD t.halfAdd }
      if locked then s.setTracker ch.val band.val { u with state := 4 }
      else if t.state = 4 then s.setTracker ch.val band.val u.carrierLost
      else s.setTracker ch.val band.val { u with state := max 3 u.state }

/-- PLL_BANDWIDTH_UPDATE (R71): every 100 ms the jerk estimate takes 1 − e^(−0.05) of its way to the loop's third-derivative state,
and B_P = clamp(B*, BMIN, BMAX), changing by a factor of at most 1.25. LOCK_TIME counts the same 100 ms (Table 3-6). -/
def execPllBandwidthUpdate (ch : Fin 128) (band : Fin 2) (s : State) : Host.Outcome State Fault Refusal :=
  let t := s.tracker ch.val band.val
  .next <|
    if t.state < 2 || !s.skyRuns then s
    else
      let bmax := 100 * s.fld F.SKY_LOOP_PLL_BMAX
      let bmin := min (100 * s.fld F.SKY_LOOP_PLL_BMIN) bmax
      let jerk := ((t.jerk : Int) + ((t.jerkRaw : Int) - t.jerk) * 48771 / 1000000).toNat
      let best := clampN bmin bmax (pllBest t.cn0 t.tMs (max jerk (1000 * s.fld F.SKY_DLL_JFLOOR)))
      let bw := if t.pllBw = 0 then best else clampN (t.pllBw * 4 / 5) (t.pllBw * 5 / 4) best
      s.setTracker ch.val band.val { t with jerk := jerk, pllBw := bw, lockTime := if t.state = 4 then min 65535 (t.lockTime + 1) else t.lockTime }

/-- The sums of |VE|, |VL| and |P| over the integrations of the last `d` ns. -/
def Tracker.sums (t : Tracker) (el d : Nat) : Nat × Nat × Nat :=
  (t.integ.filter fun x => el < x.at_ + d).foldl (fun a x => (a.1 + x.ve, a.2.1 + x.vl, a.2.2 + x.p)) (0, 0, 0)

/-- SIDE_PEAK_CORRECTION (R65): on a BOC signal a mean |VE| or |VL| over 200 ms above the mean |P| moves the code phase by 0.5 chip
towards the larger tap and counts a slip; on a BPSK signal an asymmetry above 0.10 over 1 s sets the MP flag. DESIGN CHOICE (entry 158):
with |VE| and |VL| equal the code phase moves towards VE. -/
def execSidePeakCorrection (ch : Fin 128) (band : Fin 2) (s : State) : Host.Outcome State Fault Refusal :=
  let t := s.tracker ch.val band.val
  .next <|
    if t.state < 2 || !s.skyRuns then s
    else if isBoc t.signal then
      let (ve, vl, p) := t.sums s.el (200 * oneMs)
      if p < max ve vl && s.passed t.peakAt (200 * oneMs) then
        let d : Int := if vl ≤ ve then -(2 ^ 47) else 2 ^ 47
        s.setTracker ch.val band.val { t with code := t.code + d, peakAt := s.el, integ := [], cslip := (t.cslip + 1) % 256 }
      else s
    else
      let (ve, vl, p) := t.sums s.el oneSec
      s.setTracker ch.val band.val { t with mp := decide (p < 10 * (ve - vl)) }

/-- CARRIER_LOCK_LOSS (R79). -/
def execCarrierLockLoss (ch : Fin 128) (band : Fin 2) (s : State) : Host.Outcome State Fault Refusal :=
  let t := s.tracker ch.val band.val
  .next (if t.state = 4 then s.setTracker ch.val band.val t.carrierLost else s)

/-- A band tracker goes back to acquisition: what it knew of lock, checks and grade is gone. -/
def Tracker.lost (t : Tracker) : Tracker :=
  { t.carrierLost with state := if t.state = 0 then 0 else 1, checks := 0, passed := 0, grade := 0, clean := 0, fails := 0, tMs := codePeriod t.signal, timed := false
                       integ := [], prompts := [] }

/-- The check history of a band tracker is cleared and its grade of 1 or 2 returns to 0 (R79). -/
def Tracker.forgotten (t : Tracker) : Tracker := { t with checks := 0, passed := 0, grade := 0, clean := 0, fails := 0 }

/-- Loss of code lock (R79): the tracker returns to acquisition, and the channel's check history on both bands is cleared. DESIGN CHOICE
(entry 158): it counts as a loss of carrier lock too, in CSLIP and LOCK_TIME, when the tracker had none. -/
def State.codeLost (s : State) (c b : Nat) : State :=
  let u := (s.setTracker c b (s.tracker c b).lost).setTracker c (1 - b) (s.tracker c (1 - b)).forgotten
  u.setChan c { u.chan c with l15 := [] }

/-- CODE_LOCK_LOSS (R79). -/
def execCodeLockLoss (ch : Fin 128) (band : Fin 2) (s : State) : Host.Outcome State Fault Refusal :=
  .next (if 3 ≤ (s.tracker ch.val band.val).state then s.codeLost ch.val band.val else s)

end Sys2Proof.Machine
end

