-- ==== Sys2Proof/Machine/Rtcm.lean ====
section
/-! DEFINITION. RTCM 3 output (R88 to R90): frames, MSM7, 1006, 1033, the ephemeris messages, and their datagrams. The bit layouts are
those of RTCM 10403.3, which R88 names (PRESUMED, entry 162). -/

namespace Sys2Proof.Machine

/-- A number in `n` bits of two's complement; the least of them, which marks an invalid value, where it does not fit. -/
def fitBits (n : Nat) (v : Int) : List Bool := bitsI n (if v.natAbs < 2 ^ (n - 1) then v else -(2 ^ (n - 1) : Nat))

/-- A frame: preamble, length, message and CRC-24Q. -/
def rtcmFrame (msg : List Bool) : List Byte :=
  let body := packBits msg
  let head := packBits (bitsOf 8 0xD3 ++ bitsOf 6 0 ++ bitsOf 10 body.length) ++ body
  head ++ packBits (bitsOf 24 (crc24q (unpackBits head)))

/-! ### MSM7 -/

/-- One cell of an MSM: satellite and signal, and what a signal record holds of them; `phase` is the carrier in 2^-24 cycle with the
whole cycles of the acquisition taken off. -/
structure MsmCell where
  sat : Nat
  sig : Nat
  carrierHz : Nat
  code : Nat
  phase : Option Int
  doppler : Int
  cn0 : Nat
  lockMs : Nat
  half : Bool
  deriving DecidableEq, Repr

/-- The MSM signal of a signal code: 2 (1C), 23 (5Q, and BeiDou's 5P) or 31 (BeiDou's 1P). -/
def msmSignal (signal : Nat) : Nat := if sigBand signal = 1 then 23 else if signal = 5 then 31 else 2

/-- The MSM satellite of an SVID, the PRN within its system. -/
def msmSat (system svid : Nat) : Nat :=
  if system = 3 ∧ 192 < svid then svid - 192 else if system = 4 ∧ 119 < svid then svid - 119 else svid

/-- The cells by satellite, lowest first, each satellite's by signal. -/
def msmSats (cells : List MsmCell) : List (List MsmCell) :=
  let ids := sortBy (fun a b : Nat => decide (a < b)) (cells.map (·.sat)).eraseDups
  ids.map fun k => sortBy (fun a b : MsmCell => decide (a.sig < b.sig)) (cells.filter fun c => c.sat == k)

/-- The signals of some satellites, lowest first. -/
def msmSigs (sats : List (List MsmCell)) : List Nat := sortBy (fun a b : Nat => decide (a < b)) (sats.flatten.map (·.sig)).eraseDups

/-- Whether satellites go into one message: at most 64 satellite-signal cells and 1,023 bytes (R89). -/
def msmFits (sats : List (List MsmCell)) : Bool :=
  let mask := sats.length * (msmSigs sats).length
  decide (mask ≤ 64) && decide (169 + mask + 36 * sats.length + 80 * sats.flatten.length ≤ 8 * 1023)

/-- The satellites of a system split into messages (R89). -/
def msmSplit (sats : List (List MsmCell)) : List (List (List MsmCell)) :=
  (sats.foldl (fun acc g =>
    match acc with
    | c :: t => if msmFits (c ++ [g]) then (c ++ [g]) :: t else [g] :: c :: t
    | [] => [[g]]) []).reverse

/-- A mask of `n` bits whose bit k, counted from 1 at the front, is set for each k of a list. -/
def maskBits (n : Nat) (l : List Nat) : List Bool := (List.range n).map fun i => l.contains (i + 1)

/-- A cell's pseudorange and its phase range in ms, and its phase range rate in m/s. -/
def MsmCell.range (c : MsmCell) : Rat := (c.code : Rat) * 1000 / (299792458 * 2 ^ 20 : Nat)
def MsmCell.phaseRange (c : MsmCell) : Option Rat := c.phase.map fun p => (p : Rat) * 1000 / (c.carrierHz * 2 ^ 24 : Nat)
def MsmCell.rangeRate (c : MsmCell) : Rat := -((c.doppler * 299792458 : Int) : Rat) / (c.carrierHz * 4096 : Nat)

/-- The lock time indicator of a lock time in ms (DF407): below 64 ms the time itself, then 32 steps to each doubling, at most 704. -/
def lockIndex (t : Nat) : Nat := if t < 64 then t else min 704 (32 * (Nat.log2 t - 5) + t / 2 ^ (Nat.log2 t - 5))

/-- One MSM7 message: its number, the station, the epoch time in its system's own time, whether more messages of the system follow, and
its satellites. -/
def msmBits (number station tow : Nat) (more : Bool) (sats : List (List MsmCell)) : List Bool :=
  let sigs := msmSigs sats
  let firsts := sats.filterMap (·.head?)
  let rough := firsts.map fun c => (c.sat, (roundR (c.range * 1024)).toNat, roundR c.rangeRate)
  let roughOf (k : Nat) : Nat × Int := ((rough.find? fun r => r.1 == k).map (·.2)).getD (0, 0)
  let cells := sats.flatten
  let each (f : MsmCell → List Bool) : List Bool := cells.flatMap f
  let fine (c : MsmCell) (x : Rat) : Rat := x - (((roughOf c.sat).1 : Nat) : Rat) / 1024
  bitsOf 12 number ++ bitsOf 12 station ++ bitsOf 30 tow ++ [more] ++ bitsOf 3 0 ++ bitsOf 7 0 ++ bitsOf 2 0 ++ bitsOf 2 0 ++ [false] ++ bitsOf 3 0
    ++ maskBits 64 (firsts.map (·.sat)) ++ maskBits 32 sigs ++ (sats.flatMap fun g => sigs.map fun k => g.any fun c => c.sig == k)
    ++ (rough.flatMap fun r => bitsOf 8 (min 255 (r.2.1 / 1024))) ++ (rough.flatMap fun _ => bitsOf 4 0)
    ++ (rough.flatMap fun r => bitsOf 10 (r.2.1 % 1024)) ++ (rough.flatMap fun r => fitBits 14 r.2.2)
    ++ each (fun c => fitBits 20 (roundR (fine c c.range * 2 ^ 29)))
    ++ each (fun c => match c.phaseRange with
        | some x => fitBits 24 (roundR (fine c x * 2 ^ 31))
        | none => bitsI 24 (-(2 ^ 23)))
    ++ each (fun c => bitsOf 10 (lockIndex c.lockMs)) ++ each (fun c => [!c.half]) ++ each (fun c => bitsOf 10 (min 1023 ((c.cn0 * 16 + 50) / 100)))
    ++ each (fun c => fitBits 15 (roundR ((c.rangeRate - (roughOf c.sat).2) * 10000)))

/-- The MSM7 messages of a system, in order (R89): each has the multiple-message bit set, except the last. -/
def msmMessages (number station tow : Nat) (cells : List MsmCell) : List (List Bool) :=
  let parts := msmSplit (msmSats cells)
  (List.range parts.length).map fun i => msmBits number station tow (decide (i + 1 < parts.length)) (parts.getD i [])

/-- The number of a system's MSM7. -/
def msmNumber (system : Nat) : Nat :=
  match system with
  | 0 => 1077
  | 1 => 1097
  | 2 => 1127
  | 3 => 1117
  | _ => 1107

/-- The time of the week in ms of a site time, in a system's own time: GPS time, less 14 s for BeiDou (R83, R88). -/
def weekMs (system t : Nat) : Nat :=
  (((t : Int) - gpsEpoch) / (oneMs : Int) - (if system = 2 then 14000 else 0)) % 604800000 |>.toNat

/-! ### The other messages -/

/-- Message 1006: the antenna reference point in ECEF, 0.1 mm, and its height above the marker. -/
def arpBits (station : Nat) (b : BasePos) : List Bool :=
  let p := tenths (baseArp b)
  bitsOf 12 1006 ++ bitsOf 12 station ++ bitsOf 6 0 ++ [true, false, true, false] ++ bitsI 38 p.1 ++ [true, false] ++ bitsI 38 p.2.1
    ++ bitsOf 2 0 ++ bitsI 38 p.2.2 ++ bitsOf 16 (min 65535 (10 * b.height))

/-- Message 1033: the receiver and antenna descriptors. -/
def descBits (station : Nat) : List Bool :=
  let text (i : Nat) : List Bool :=
    let t := (Config.descriptors.getD i []).take 31
    bitsOf 8 t.length ++ unpackBits t
  bitsOf 12 1033 ++ bitsOf 12 station ++ text 0 ++ bitsOf 8 0 ++ text 1 ++ text 2 ++ text 3 ++ text 4

/-- The ephemeris message of an entry of the store (Table 3-8): of a GPS or QZSS LNAV, a Galileo F/NAV or I/NAV ephemeris. -/
def ephNumber (key : Nat) : Option Nat :=
  match key / 8 / 256, key % 8 with
  | 0, 1 => some 1019
  | 3, 1 => some 1044
  | 1, 4 => some 1045
  | 1, 3 => some 1046
  | _, _ => none

/-- An ephemeris message: number, satellite, and its data fields. -/
def ephBits (number key : Nat) (data : List Byte) : List Bool :=
  let sat := msmSat (key / 8 / 256) (key / 8 % 256)
  let n := match number with
    | 1019 => 470
    | 1044 => 469
    | 1045 => 478
    | _ => 486
  bitsOf 12 number ++ bitsOf (if number = 1044 then 4 else 6) sat ++ bitsOf n (Config.rtcmEphemeris number data)

/-- Frames packed into datagrams, in order: whole frames only, at most 1,472 bytes each (R90). -/
def datagrams (frames : List (List Byte)) : List (List Byte) :=
  (frames.foldl (fun acc f =>
    match acc with
    | c :: t => if c.length + f.length ≤ 1472 then (c ++ f) :: t else f :: c :: t
    | [] => [f]) []).reverse

/-! ### The output of an epoch -/

/-- The entries of the ephemeris store whose message is due: on adoption and every 60 s. -/
def Ephemeris.toSend (e : Ephemeris) (now : Nat) : Bool := !e.inUse.isEmpty && (e.due || decide (e.sentAt + 60 ≤ now))

/-- The messages due at an epoch, in order (Table 3-8): the MSMs of the systems in the base record, 1006, 1033 and ephemerides. -/
def State.rtcmMsgs (s : State) (at_ : Nat) (cells : List (Nat × MsmCell)) : List (List Bool) :=
  let c := s.sky.rtcm
  let now := s.now / oneSec
  let systems := [0, 1, 3, 2] ++ (if bit c.flags 1 then [4] else [])
  let msm := if s.sky.msmCount + 1 < c.divisor then []
    else systems.flatMap fun k => msmMessages (msmNumber k) c.station (weekMs k at_) ((cells.filter fun x => x.1 == k).map (·.2))
  let arp := match s.sky.base with
    | some b => if s.sky.arpDue || decide (s.sky.arpAt + c.arpS ≤ now) then [arpBits c.station b] else []
    | none => []
  let desc := if bit c.flags 3 && decide (s.sky.descAt + c.descS ≤ now) then [descBits c.station] else []
  let ephs := if bit c.flags 2 then
      s.sky.eph.filterMap fun e => if e.2.toSend now then (ephNumber e.1).map fun n => ephBits n e.1 e.2.inUse else none
    else []
  msm ++ arp ++ desc ++ ephs

/-- The RTCM output of an epoch, while SKY_RTCM_CONFIG has enabled it. -/
def State.rtcmOutput (s : State) (at_ : Nat) (cells : List (Nat × MsmCell)) : State :=
  let c := s.sky.rtcm
  if !bit c.flags 0 then s
  else
    let now := s.now / oneSec
    let sky : Sky := { s.sky with msmCount := if c.divisor ≤ s.sky.msmCount + 1 then 0 else s.sky.msmCount + 1 }
    let sky : Sky := if s.sky.base.isSome && (s.sky.arpDue || decide (s.sky.arpAt + c.arpS ≤ now)) then { sky with arpAt := now, arpDue := false } else sky
    let sky : Sky := if bit c.flags 3 && decide (s.sky.descAt + c.descS ≤ now) then { sky with descAt := now } else sky
    let sky : Sky := if bit c.flags 2 then
        { sky with eph := sky.eph.map fun e => (e.1, if e.2.toSend now then { e.2 with due := false, sentAt := now } else e.2) }
      else sky
    let t : State := { s with sky := sky }
    let (frames, t) := (s.rtcmMsgs at_ cells).foldl (fun (a : List (List Byte) × State) m =>
      let r := a.2.corrupt 3
      let f := rtcmFrame m
      (a.1 ++ [if r.1 then invertTail 3 f else f], r.2)) ([], t)
    (datagrams frames).foldl (fun t d => t.emit (.rtcm (c.ip * 65536 + c.port) d)) t

end Sys2Proof.Machine
end

