-- ==== Sys2Proof/Machine/Sky.lean ====
section
/-! DEFINITION. The products of the sky baseband (chapter 03; events R96): the consistency checks and grades, measurement epochs and
records, navigation records, the ephemeris store, starts and commands. -/

namespace Sys2Proof.Machine

/-! ### The consistency checks (R75 to R77) -/

/-- Expected L1-band C/N0 in 0.001 dB-Hz at an elevation in 0.01 degree, interpolated linearly from SKY_PAT0 to SKY_PAT2. -/
def State.expectedCn0 (s : State) (elev : Int) : Int :=
  let e := elev.toNat
  let i := min 8 (e / 1000)
  let at_ (k : Nat) : Nat :=
    if k < 4 then s.fld F.SKY_PAT0_E / 256 ^ k % 256
    else if k < 8 then s.fld F.SKY_PAT1_E / 256 ^ (k - 4) % 256
    else s.fld F.SKY_PAT2_E / 256 ^ (k - 8) % 256
  let r := min 1000 (e - 1000 * i)
  ((at_ i * (1000 - r) + at_ (i + 1) * r : Nat) : Int)

/-- A check's finding: evaluated, beyond the warning threshold, beyond the fail threshold. -/
abbrev Found := Bool × Bool × Bool

/-- A check that cannot be evaluated. -/
def notFound : Found := (false, false, false)

/-- What one band tracker measures at an epoch instant. `code` is 0 until its transmit time is known. -/
structure Measure where
  chan : Nat
  band : Nat
  signal : Nat
  code : Int
  timed : Bool
  carrier : Int
  doppler : Int
  cn0 : Nat
  deriving DecidableEq, Repr

/-- The measurement of a band tracker at an epoch instant, sampled from its NCOs (R81, R83): CODE is c × (t_rx − t_tx) in 2^-20 m with
t_rx = EPOCH_TIME − 19 s and 14 s added for BeiDou; CARRIER, in 2^-24 cycle, grows as the range grows. -/
def State.measure (s : State) (at_ c b : Nat) : Measure :=
  let t := s.tracker c b
  let el := s.el - (s.now - at_)
  let tx := t.codeAt el * 1000000000 / (codeRateOf t.signal : Nat)
  let rx := (gps at_ - if sigSystem t.signal = 2 then 14 * oneSec else 0) * 2 ^ 48
  { chan := c, band := b, signal := t.signal, timed := t.timed
    code := if t.timed then (rx - tx) * 299792458 / (2 ^ 28 * oneSec : Nat) else 0
    carrier := -(t.carrierAt el) / 2 ^ 24 + (if t.halfAdd then 2 ^ 23 else 0), doppler := t.doppler, cn0 := t.cn0 }

/-- The measurements of every band tracker in code lock (R82). -/
def State.measures (s : State) (at_ : Nat) : List Measure :=
  (s.sky.trk.filter fun p => decide (3 ≤ p.2.state)).map fun p => s.measure at_ (p.1 / 2) (p.1 % 2)

/-- The satellite of a measurement, its carrier in Hz, and its range rate in mm/s. -/
def State.measSat (s : State) (m : Measure) : Nat := (s.chan m.chan).sat
def Measure.hz (m : Measure) : Nat := carrierOf m.signal
def Measure.rate (m : Measure) : Int := -(m.doppler * 299792458000) / (m.hz * 4096 : Nat)

/-- Check 1: power against elevation (Table 3-4). -/
def State.check1 (s : State) (at_ : Nat) (m : Measure) : Found :=
  match s.predicted (s.orbit (s.measSat m)) at_ with
  | some p =>
    if p.elev < -200 then (true, true, true)
    else if ((100 * s.fld F.SKY_CHK_A_ELEV_MASK : Nat) : Int) ≤ p.elev then
      let ofs := if m.band = 1 then 1000 * signed 8 (s.fld F.SKY_PAT2_L5_OFS) else 0
      let d := (10 * m.cn0 : Nat) - (s.expectedCn0 p.elev + ofs)
      (true, decide ((1000 * s.fld F.SKY_CHK_A_PWR_WARN : Nat) < d), decide ((1000 * s.fld F.SKY_CHK_A_PWR_FAIL : Nat) < d))
    else notFound
  | none => notFound

/-- P5 − P1 of a channel in 2^-20 m, when both bands give a pseudorange. -/
def l15Of (ms : List Measure) (c : Nat) : Option Int :=
  match ms.find? fun m => m.chan == c && m.band == 0 && m.timed, ms.find? fun m => m.chan == c && m.band == 1 && m.timed with
  | some a, some b => some (b.code - a.code)
  | _, _ => none

/-- P5 − P1 of every channel joins its last 60 s. -/
def State.noteL15 (s : State) (ms : List Measure) : State :=
  (s.sky.chans.map (·.1)).foldl (fun t c =>
    match l15Of ms c with
    | some d => t.setChan c { t.chan c with l15 := (t.el, d) :: (t.chan c).l15.filter fun x => t.el < x.1 + 60 * oneSec }
    | none => t) s

/-- Check 2: L1/L5 code consistency: P5 − P1 against its own 60 s moving mean, and after group delays within −2 m to +40 m. -/
def State.check2 (s : State) (ms : List Measure) (m : Measure) : Found :=
  match l15Of ms m.chan with
  | some d =>
    let dev := 10 * (d - meanI ((s.chan m.chan).l15.map (·.2))).natAbs
    let raw := d - ((s.ephData (s.measSat m)).map Config.groupDelay).getD 0
    let out := decide (raw < -2 * 2 ^ 20 ∨ 40 * 2 ^ 20 < raw)
    (true, out || decide (s.fld F.SKY_CHK_B_L15_WARN * 2 ^ 20 < dev), out || decide (s.fld F.SKY_CHK_A_L15_FAIL * 2 ^ 20 < dev))
  | none => notFound

/-- The residuals of pseudorange (2^-20 m) and range rate (mm/s) against the prediction from base position and ephemeris. -/
def State.residual (s : State) (at_ : Nat) (m : Measure) : Option (Int × Int) :=
  match s.ephData (s.measSat m), s.sky.base with
  | some d, some b =>
    if m.timed then
      let p := Config.predict d (tenths (baseArp b)) (gps at_)
      some (m.code - p.range, m.rate - p.rate)
    else none
  | _, _ => none

/-- The channels of some measurements, each once. -/
def measChannels (ms : List Measure) : List Nat := (ms.map (·.chan)).eraseDups

/-- The median residuals over all channels, when at least 4 channels give one (check 3). -/
def State.medians (s : State) (at_ : Nat) (ms : List Measure) : Option (Int × Int) :=
  let rs := ms.filterMap (s.residual at_)
  if (measChannels (ms.filter fun m => (s.residual at_ m).isSome)).length < 4 then none
  else some (median (rs.map (·.1)), median (rs.map (·.2)))

/-- Check 3: pseudorange and range rate against the predicted receiver clock. -/
def State.check3 (s : State) (at_ : Nat) (ms : List Measure) (m : Measure) : Found :=
  match s.residual at_ m, s.medians at_ ms with
  | some r, some med =>
    let pr := (r.1 - med.1).natAbs
    let rr := (r.2 - med.2).natAbs
    (true, decide (s.fld F.SKY_CHK_B_PR_WARN * 2 ^ 20 < pr) || decide (10 * s.fld F.SKY_CHK_C_RR_WARN < rr),
      decide (s.fld F.SKY_CHK_B_PR_FAIL * 2 ^ 20 < pr) || decide (10 * s.fld F.SKY_CHK_B_RR_FAIL < rr))
  | _, _ => notFound

/-- Check 4: Doppler against ephemeris or almanac and the REFCLK frequency estimate, scaled to the L1 carrier. -/
def State.check4 (s : State) (at_ : Nat) (m : Measure) : Found :=
  match s.predicted (s.orbit (s.measSat m)) at_ with
  | some p =>
    let d := (m.doppler - s.predictedDoppler p m.hz).natAbs * 1575420000
    let f := decide (s.fld F.SKY_CHK_C_DOP_FAIL * 4096 * m.hz < d)
    (true, f, f)
  | none => notFound

/-- The four findings of a band tracker. -/
def State.checksOf (s : State) (at_ : Nat) (ms : List Measure) (m : Measure) : List Found :=
  [s.check1 at_ m, s.check2 ms m, s.check3 at_ ms m, s.check4 at_ m]

/-- The CHECKS byte: [3:0] failed, [7:4] evaluated (Table 3-6). -/
def checkByte : List Found → Nat
  | [] => 0
  | (e, _, f) :: t => b2n f + 16 * b2n e + 2 * checkByte t

/-- Enter grade 3, which belongs to the satellite (R76, R79). -/
def State.lockOut (s : State) (c : Nat) : State :=
  let k := (s.chan c).sat
  if s.sky.lockedOut.contains k then s else { s with sky := { s.sky with lockedOut := k :: s.sky.lockedOut } }

/-- The grade of a band tracker after an epoch, from whether a check failed or a warning threshold was exceeded (R76). -/
def Tracker.graded (t : Tracker) (readmit : Nat) (failed warn : Bool) : Tracker :=
  let t := { t with fails := (2 * t.fails + b2n failed) % 2 ^ 20 }
  if failed then { t with grade := 2, clean := 0 }
  else if t.grade = 2 ∧ t.clean + 1 < readmit then { t with clean := t.clean + 1 }
  else { t with grade := b2n warn, clean := 0 }

/-- One measurement's findings are recorded in its tracker: CHECKS, the checks passed since acquisition (R79), and the grade. -/
def State.gradeOne (s : State) (fs : List Found) (m : Measure) : State :=
  let byte := checkByte fs
  let good := (byte / 16) &&& ((byte % 16) ^^^ 15)
  let t := s.tracker m.chan m.band
  let t := ({ t with checks := byte, passed := t.passed ||| good } : Tracker).graded (orOne (s.fld F.SKY_CHK_C_READMIT)) (byte % 16 != 0) (fs.any (·.2.1))
  let u := s.setTracker m.chan m.band t
  if 3 ≤ popCount 20 t.fails && byte % 16 != 0 then u.lockOut m.chan else u

/-- The failing check bits of a channel, over both its trackers. -/
def State.failBits (s : State) (c : Nat) : Nat := ((s.tracker c 0).checks % 16) ||| ((s.tracker c 1).checks % 16)

/-- The rule of R77: the channels that fail check 1 or 3 in one epoch, or any check during an AGC step, when they are SPOOF_N or more. -/
def State.spoofed (s : State) (chans : List Nat) : List Nat :=
  let n := s.fld F.SKY_CHK_C_SPOOF_N
  let mask := if bit s.sky.itf 1 || bit s.sky.itf 3 then 15 else 5
  let hit := chans.filter fun c => (s.failBits c &&& mask) != 0
  if n = 0 ∨ hit.length < n then [] else hit

/-- The checks and grades of an epoch: a channel that enters grade 2 or 3 raises EV_SKY_GRADE, and channels caught by R77 all enter grade 3
with EV_SKY_SPOOF. -/
def State.gradeEpoch (s : State) (at_ : Nat) (ms : List Measure) : State :=
  let chans := measChannels ms
  let t := (ms.map fun m => (m, s.checksOf at_ ms m)).foldl (fun t x => t.gradeOne x.2 x.1) s
  let hit := t.spoofed chans
  let t := hit.foldl (fun t c => t.lockOut c) t
  let t := chans.foldl (fun t c =>
    let g := t.chanGrade c
    if 2 ≤ g ∧ g ≠ s.chanGrade c then t.gradeEvent c g (t.failBits c) else t) t
  if hit.isEmpty then t else t.raise Ev.skySpoof (le 1 hit.length ++ le 1 (hit.foldl (fun b c => b ||| t.failBits c) 0))

/-- What an epoch notes of every satellite that a channel holds: its predicted elevation and azimuth, since when it has been below the
mask (R63), and its last Doppler on the L1 carrier (R92). -/
def State.noteSats (s : State) (at_ : Nat) (ms : List Measure) : State :=
  let t := (s.sky.chans.map (·.1)).foldl (fun t c =>
    let ch := t.chan c
    match t.predicted (t.orbit ch.sat) at_ with
    | some p =>
      let below := decide (p.elev < ((100 * t.fld F.SKY_CHK_A_ELEV_MASK : Nat) : Int))
      t.setChan c { ch with elev := p.elev, azim := p.azim, setAt := if below then some (ch.setAt.getD t.el) else none }
    | none => t.setChan c { ch with setAt := none }) s
  ms.foldl (fun t m => { t with sky := { t.sky with dopplers := Tbl.put 0 t.sky.dopplers (t.measSat m) (m.doppler * 1575420000 / (m.hz : Nat)) } }) t

/-! ### Measurement records (R80 to R84) -/

/-- A signal record (Table 3-6). -/
def State.signalRecord (s : State) (m : Measure) : List Byte :=
  let c := s.chan m.chan
  let t := s.tracker m.chan m.band
  let lock := b2n (t.state == 4)
  let status := s.chanGrade m.chan + 4 * lock + 8 * b2n t.halfCycle + 16 * b2n m.timed + 32 * lock + 64 + 128 * b2n (isPilot t.signal)
  let excl := s.sky.excluded.contains c.sat
  let code := if m.timed then m.code.toNat else (Config.free 64 (s.free + 2 * m.chan + m.band)).toNat
  le 1 m.chan ++ le 1 t.signal ++ le 1 c.svid ++ le 1 status ++ le 8 code ++ leI 8 m.carrier ++ leI 4 m.doppler
    ++ le 2 m.cn0 ++ le 2 t.lockTime ++ le 1 t.cslip ++ le 1 t.checks ++ le 1 (b2n excl + 2 * b2n (s.itfOn m.band)) ++ le 1 0

/-- Whether a measurement enters the base record: grade 0 or 1, not excluded by the host, and checks 3 and 4 passed at
least once since acquisition (R79, R82). -/
def State.inBase (s : State) (m : Measure) : Bool :=
  let t := s.tracker m.chan m.band
  s.chanGrade m.chan < 2 && !s.sky.excluded.contains (s.measSat m) && bit t.passed 2 && bit t.passed 3

/-- The header of a measurement record (Table 3-5). -/
def State.recordHeader (s : State) (at_ count : Nat) (posChanged : Bool) (bias drift : Int) : List Byte :=
  let hold := s.timState == tsFREE || s.timState == tsHOLDOVER || s.timState == tsEXPIRED
  le 8 at_ ++ le 2 s.sky.epochNo ++ le 2 count ++ le 1 (s.fld F.SKY_CTL_EPOCH_RATE) ++ le 1 s.sky.baseGen
    ++ le 2 (b2n s.time.stepped + 2 * b2n hold + 4 * b2n posChanged + 8 * b2n s.sky.base.isNone + 16 * b2n s.sky.rateChanged)
    ++ leI 4 bias ++ leI 4 drift

/-- A record closed by its CRC-32C (R82). -/
def closeRecord (bs : List Byte) : List Byte := bs ++ le 4 (crc32c bs)

/-- The signal of the base record as central RTK keeps it (R125, R126, R132). -/
def State.baseSig (s : State) (m : Measure) : BaseSig :=
  let t := s.tracker m.chan m.band
  { signal := t.signal, svid := (s.chan m.chan).svid, cslip := t.cslip, lockTime := t.lockTime, phaseOk := t.state == 4 && t.halfCycle
    elev := (s.chan m.chan).elev, code := m.code.toNat, carrier := m.carrier, doppler := m.doppler, cn0 := m.cn0 }

/-- The whole cycles taken off a carrier for RTCM 3, chosen once per acquisition: those that bring it to the pseudorange. -/
def Measure.cycles (m : Measure) : Int := roundR ((m.carrier : Rat) / 2 ^ 24 - (m.code : Rat) * m.hz / (299792458 * 2 ^ 20 : Nat))

/-- The RTCM cells of the base record, with their systems; phase ranges start near the pseudorange, and stay. -/
def State.rtcmCells (s : State) (used : List Measure) : List (Nat × MsmCell) × State :=
  used.foldl (fun a m =>
    let t := a.2.tracker m.chan m.band
    let c := a.2.chan m.chan
    let n := t.phaseN.getD m.cycles
    let cell : MsmCell := { sat := msmSat c.system c.svid, sig := msmSignal m.signal, carrierHz := m.hz, code := m.code.toNat, doppler := m.doppler
                            phase := if t.state = 4 then some (m.carrier - n * 2 ^ 24) else none, cn0 := m.cn0, lockMs := 100 * t.lockTime, half := t.halfCycle }
    (a.1 ++ [(c.system, cell)], if t.state = 4 then a.2.setTracker m.chan m.band { t with phaseN := some n } else a.2)) ([], s)

/-! ### The measurement epoch (R80 to R84) -/

/-- A base position set since the last epoch takes effect at this one (R94). -/
def State.applyBase (s : State) : State :=
  match s.sky.basePend with
  | some b => { s with sky := { s.sky with base := some b, basePend := none, baseGen := (s.sky.baseGen + 1) % 256, arpDue := true } }
  | none => s

/-- The GNSS source from a base record (R101): valid with a base position, 4 channels and CLK_BIAS (0.01 ns) computed;
θ = CLK_BIAS − TIM_ANT_DLY. -/
def State.gnssOffset (s : State) (channels : Nat) (bias : Option Int) : State :=
  match bias with
  | some b =>
    if s.sky.base.isSome ∧ 4 ≤ channels then s.offerOffset 1 (10 * b - (s.fld F.TIM_ANT_DLY_DLY : Nat)) else s.sourceInvalid 1
  | none => s.sourceInvalid 1

/-- The latest epoch instant at or before now, in site time: epoch instants are whole multiples of the period, since
every period divides the 19 s between GPS time and TAI (R80). -/
def State.epochInstant (s : State) : Nat :=
  s.now / epochPeriod (s.fld F.SKY_CTL_EPOCH_RATE) * epochPeriod (s.fld F.SKY_CTL_EPOCH_RATE)

/-- RTK_STAT.NO_BASE: no usable base record in the last MAX_AGE epochs (Table 5-9). -/
def State.syncBase (s : State) : State :=
  let span := orOne (s.fld F.RTK_CTL_MAX_AGE) * epochPeriod (s.fld F.SKY_CTL_EPOCH_RATE)
  s.setFld F.RTK_STAT_NO_BASE (b2n !(s.rtk.bases.any fun b => b.usable && decide (s.epochInstant < gpsEpoch + b.epoch * oneMs + span)))

/-- Everything that happens at one epoch instant. A code not known is a free value (entry 159). -/
def State.epoch (s : State) (bias : Option Int) (drift : Int) : State :=
  let at_ := s.epochInstant
  let posChanged := s.sky.basePend.isSome
  let s := s.applyBase
  let ms := s.measures at_
  let s := ((s.noteL15 ms).gradeEpoch at_ ms).noteSats at_ ms
  let used := ms.filter s.inBase
  let b := bias.getD 0
  let full := closeRecord (s.recordHeader at_ ms.length posChanged b drift ++ (ms.map s.signalRecord).flatten)
  let lane := closeRecord (s.recordHeader at_ used.length posChanged b drift ++ (used.map s.signalRecord).flatten)
  let no := s.sky.epochNo
  let slot := no % 64
  let (bad, s) := (s.drew 256).corrupt 1
  let s := s.dramStore (0x07E00000 + 9216 * slot) (if bad then invertTail 4 full else full)
  let s := (s.setFld F.SKY_MEAS_WR_EPOCH_NO no).setFld F.SKY_MEAS_WR_SLOT slot
  let usedN := (measChannels used).length
  let s := s.setFld F.SKY_STAT_USED usedN
  let rec_ : BaseRec := { epoch := (at_ - gpsEpoch) / oneMs, gen := s.sky.baseGen, usable := bias.isSome && b.natAbs ≤ 1000000000, pos := s.sky.base
                          bias := b, drift := drift, sigs := used.map s.baseSig }
  let (cells, s) := s.rtcmCells used
  let s := (s.rtcmOutput at_ cells).laneInput
  let sky : Sky := { s.sky with epochNo := (no + 1) % 65536, lastEpoch := at_, rateChanged := false, baseRecord := lane }
  let s : State := { s with sky := sky, time := { s.time with stepped := false } }
  let s : State := { s with rtk := { s.rtk with bases := (rec_ :: s.rtk.bases).take 64 } }
  (s.syncBase.gnssOffset usedN bias).raise Ev.skyEpoch (le 2 no ++ le 2 used.length)

/-- MEASUREMENT_EPOCH (R81): at each epoch instant, once; an instant that a step passed over is not latched (R105). -/
def execMeasurementEpoch (clkBias : Option Int) (clkDrift : Int) (s : State) : Host.Outcome State Fault Refusal :=
  .next (if s.skyRuns && s.serving && s.sky.lastEpoch < s.epochInstant then s.epoch clkBias clkDrift else s)

/-! ### Navigation records (R85 to R87) -/

/-- The check of an LNAV word of 30 bits by the IS-GPS-200 parity algorithm, after D29* and D30* of the word before it: the data bits with
the polarity that D30* gives, and whether parity holds. -/
def lnavWord (d29 d30 : Bool) (w : List Bool) : List Bool × Bool :=
  let d := (w.take 24).map (·.xor d30)
  let sum (star : Bool) (ks : List Nat) : Bool := ks.foldl (fun b k => b.xor (d.getD (k - 1) false)) star
  let parity := [sum d29 [1, 2, 3, 5, 6, 10, 11, 12, 13, 14, 17, 18, 20, 23], sum d30 [2, 3, 4, 6, 7, 11, 12, 13, 14, 15, 18, 19, 21, 24],
    sum d29 [1, 3, 4, 5, 7, 8, 12, 13, 14, 15, 16, 19, 20, 22], sum d30 [2, 4, 5, 6, 8, 9, 13, 14, 15, 16, 17, 20, 21, 23],
    sum d30 [1, 3, 5, 6, 7, 9, 10, 14, 15, 16, 17, 18, 21, 22, 24], sum d29 [3, 5, 6, 8, 9, 10, 11, 13, 15, 19, 22, 23, 24]]
  (d ++ w.drop 24, w.drop 24 == parity)

/-- The ten words of an LNAV subframe: payload, and the mask of the words that pass parity. -/
def lnavCheck : Nat → Bool × Bool → List Bool → List Bool × Nat
  | 0, _, _ => ([], 0)
  | n + 1, star, bits =>
    let w := bits.take 30
    let r := lnavWord star.1 star.2 w
    let t := lnavCheck n (w.getD 28 false, w.getD 29 false) (bits.drop 30)
    (r.1 ++ t.1, b2n r.2 + 2 * t.2)

/-- Whether a CRC-24Q over `n` bits from bit `o`, its last 24 the CRC, holds. -/
def crcHolds (o n : Nat) (bits : List Bool) : Bool := crc24q ((bits.drop o).take n) == 0

/-- The check of a message of a nav TYPE (R86): its payload, RESULT and WORDS. The spans of the CRCs are those of the interface
specifications (PRESUMED, entry 161). -/
def navCheck (ty : Nat) (i : NavIn) : List Bool × Nat × Nat :=
  let crc (n : Nat) (ok : Bool) : List Bool × Nat × Nat := (i.bits, b2n !(i.bits.length == n && ok), 0)
  match ty with
  | 1 =>
    let r := lnavCheck 10 i.star i.bits
    (r.1, if i.bits.length ≠ 300 ∨ r.2 = 0 then 1 else if r.2 = 0x3FF then 0 else 2, r.2)
  | 2 => crc 300 (crcHolds 0 300 i.bits)
  | 3 => crc 228 (crcHolds 0 220 i.bits)
  | 4 => crc 238 (crcHolds 0 238 i.bits)
  | 5 => crc 878 (i.sub1 && crcHolds 14 600 i.bits && crcHolds 614 264 i.bits)
  | _ => crc 288 (crcHolds 0 288 i.bits)

/-- A PASS ephemeris of a store entry (R87): adopted when it predicts within 100 m of the one in use or none is in use, or on its second
identical copy; an adopted one goes to both lanes as an input. Content that is in use already is no new ephemeris. -/
def State.takeEphemeris (s : State) (key : Nat) (content : List Byte) : State :=
  let e := Tbl.get ({} : Ephemeris) s.sky.eph key
  let at_ (d : List Byte) : Int × Int × Int := Config.satPosition d (gps s.now)
  if e.inUse = content then s
  else if e.inUse.isEmpty || decide (distance (at_ content) (at_ e.inUse) ≤ 100000) || e.candidate == content then
    let e' : Ephemeris := { e with inUse := content, candidate := [], due := true, since := s.now / oneSec }
    ({ s with sky := { s.sky with eph := Tbl.put {} s.sky.eph key e' } } : State).laneInput
  else { s with sky := { s.sky with eph := Tbl.put {} s.sky.eph key { e with candidate := content } } }

/-- UTC parameters of a PASS record (R100). -/
def State.takeUtc (s : State) (taiUtc : Nat) (leap : Option (Nat × Nat)) : State :=
  let t := (s.setFld F.TIM_UTC_TAI_UTC taiUtc).setFld F.TIM_UTC_VALID 1
  match leap with
  | some l =>
    if t.now / oneSec < l.1 then
      let t : State := { t with time := { t.time with leapAt := some l } }
      (t.setFld F.TIM_STAT_LEAP_PENDING 1).setFld F.TIM_UTC_LEAP_PENDING 1
    else t
  | none => t

/-- The code NCO's count is the satellite's transmit time: `chips` after that of a message's first symbol, in ms. -/
def Tracker.setTime (t : Tracker) (el ms chips : Nat) : Tracker :=
  if t.timed then t
  else { t with code := ((codeRateOf t.signal / 1000 * ms + chips : Nat) : Int) * 2 ^ 48 + t.codeAt el % 2 ^ 48, carrier := t.carrierAt el, ncoAt := el, timed := true }

/-- What a PASS record brings (R87, R91, R100): the payloads of its type held of the satellite make ephemerides and almanacs complete; GPS
LNAV and CNAV and Galileo I/NAV bring UTC. -/
def State.takeNav (s : State) (sat signal ty : Nat) (payload : List Byte) : State :=
  let key := 8 * sat + ty
  let held := (payload :: Tbl.get [] s.sky.nav key).take 125
  let eph := Config.navEphemeris ty held
  let t : State := { s with sky := { s.sky with nav := Tbl.put [] s.sky.nav key (if eph.isSome then [] else held) } }
  let t := match eph with
    | some d => t.takeEphemeris key d
    | none => t
  let t := (Config.navAlmanacs ty held).foldl (fun (t : State) a => { t with sky := { t.sky with almanacs := Tbl.put [] t.sky.almanacs a.1 a.2 } }) t
  match if signal ≤ 3 then Config.navUtc ty held else none with
  | some (v, leap) => t.takeUtc v leap
  | none => t

/-- Zero bytes that bring a span to a multiple of 4. -/
def pad4 (bs : List Byte) : List Byte := bs ++ zeros ((4 - bs.length % 4) % 4)

/-- NAV_RECORD (R85 to R87, Table 3-7): a message of 1 to 880 bits; TIME is the site time of the leading edge of its first symbol. -/
def execNavRecord (ch : Fin 128) (band : Fin 2) (i : NavIn) (s : State) : Host.Outcome State Fault Refusal :=
  let c := s.chan ch.val
  let t := s.tracker ch.val band.val
  .next <|
    match navType t.signal with
    | some ty =>
      if t.state < 3 || !s.skyRuns || i.bits.isEmpty || decide (880 < i.bits.length) then s
      else
        let (bits, result, words) := navCheck ty i
        let payload := packBits bits
        let head := le 1 ch.val ++ le 1 t.signal ++ le 1 c.svid ++ le 1 ty ++ le 8 (s.now - i.chips * oneSec / codeRateOf t.signal) ++ le 2 bits.length
          ++ le 1 result ++ le 1 (b2n i.inverted + 2 * b2n (ty != 1)) ++ le 2 words ++ le 2 (if ty = 1 then 0 else i.fec.toNat)
        let bytes := closeRecord (head ++ pad4 payload)
        let slot := s.fld F.SKY_NAV_WR_COUNT % 4096
        let (bad, u) := s.corrupt 2
        let u := u.dramStore (0x07F00000 + 256 * slot) (if bad then invertTail 4 bytes else bytes)
        let u := (u.incFld F.SKY_NAV_WR_COUNT).setFld F.SKY_NAV_WR_SLOT slot
        let u := u.raise Ev.skyNav (le 2 slot ++ le 1 c.svid ++ le 1 ty ++ le 1 result)
        if result = 0 then
          let u := match Config.navTime ty payload with
            | some ms => u.setTracker ch.val band.val ((u.tracker ch.val band.val).setTime u.el ms i.chips)
            | none => u
          u.takeNav c.sat t.signal ty payload
        else u
    | none => s

/-! ### Starts and restarts (R91, R92) -/

/-- Every tracker of every channel returns to acquisition. -/
def State.reacquire (s : State) : State :=
  ({ s with sky := { s.sky with trk := s.sky.trk.map fun p => (p.1, p.2.lost) } } : State).setFld F.SKY_STAT_TRACK 0

/-- Start from the data kept (R91): hot, warm or cold, shown in SKY_STAT.STATE. DESIGN CHOICE (entry 160): a hot start needs an ephemeris
to use, and the age of one counts from its adoption. -/
def State.skyStart (s : State) : State :=
  let used := s.sky.eph.filter fun e => !e.2.inUse.isEmpty
  let fresh := used.all fun e => decide (s.now / oneSec < e.2.since + 4 * 3600)
  let kind := if !used.isEmpty && fresh && s.timState != tsEXPIRED then 3 else if s.sky.almanacs.isEmpty then 1 else 2
  if s.flag F.SKY_CTL_EN then s.reacquire.setFld F.SKY_STAT_STATE kind else s

/-- SKY_HOT_RESTART (R92): SKY_CTL.RESTART. -/
def State.skyRestart (s : State) : State := s.reacquire.setFld F.SKY_STAT_STATE 3
def execSkyHotRestart (s : State) : Host.Outcome State Fault Refusal := .next s.skyRestart

/-- SKY_COLD_RESTART (R92): SKY_CTL.COLD discards the ephemerides, the almanacs and the Doppler history first. -/
def State.skyCold (s : State) : State :=
  let t := (s.sky.chans.map (·.1)).foldl (fun t c => t.releaseChan c) s
  let t : State := { t with sky := { t.sky with eph := [], nav := [], almanacs := [], dopplers := [] } }
  (t.setFld F.SKY_STAT_TRACK 0).setFld F.SKY_STAT_STATE 1
def execSkyColdRestart (s : State) : Host.Outcome State Fault Refusal := .next s.skyCold

/-- EPOCH_RATE_CHANGE (R80, R95): a pending SKY_CONFIG takes effect at its whole second of GPS time; the channels of a
system it disables are released, and L5_EN = 0 idles the L5-band trackers. -/
def execEpochRateChange (s : State) : Host.Outcome State Fault Refusal :=
  .next <|
    match s.sky.cfgPend with
    | some (sys, rate, at_) =>
      if at_ ≤ s.now / oneSec then
        let changed := rate != s.fld F.SKY_CTL_EPOCH_RATE
        let t := ((s.setFld F.SKY_CTL_SYS_EN sys).setFld F.SKY_CTL_L5_EN (sys / 32)).setFld F.SKY_CTL_EPOCH_RATE rate
        let t : State := { t with sky := { t.sky with cfgPend := none, rateChanged := t.sky.rateChanged || changed } }
        let gone := (t.sky.chans.filter fun p => !bit sys p.2.system).map (·.1)
        let t := gone.foldl (fun t c => t.releaseChan c) t
        if bit sys 5 then t else (t.sky.chans.map (·.1)).foldl (fun t c => t.setTracker c 1 Tracker.zero) t
      else s
    | none => s

/-! ### Commands (R93, R94) -/

/-- Whether the superframe and epoch periods are integer multiples of one another (R23), both in ns. -/
def periodsAgree (a b : Nat) : Bool := (a != 0 && b % a == 0) || (b != 0 && a % b == 0)

/-- The bits of SKY_CTL that SKY_CONFIG stores: EPOCH_RATE, L5_EN and SYS_EN. -/
def skyNorBits : Nat := fldIn F.SKY_CTL_EPOCH_RATE (fldIn F.SKY_CTL_L5_EN (fldIn F.SKY_CTL_SYS_EN 0 0xFFFFFFFF) 0xFFFFFFFF) 0xFFFFFFFF

/-- SKY_CONFIG: refused when a field is out of range or the rate would break R23 with the superframe in force at that second or
with one that is pending. DESIGN CHOICE
(entry 160): it replaces one that is still pending. -/
def doSkyConfig (s : State) (_ _ : Nat) (p : List Byte) : Res :=
  withLen s 4 p <|
    let sys := rdN p 0 1 % 64
    let rate := rdN p 1 1
    let at_ := s.now / oneSec + 1
    let agrees (n : Nat) : Bool := periodsAgree (epochPeriod rate) (superframeNs n)
    if 7 < rate ∨ !agrees (s.slotsAt (at_ * oneSec)) ∨ !(s.rad.pend.map (·.n)).all agrees then refuse s St.badParameter
    else
      let t : State := { s with sky := { s.sky with cfgPend := some (sys, rate, at_) } }
      let word := fldIn F.SKY_CTL_EPOCH_RATE (fldIn F.SKY_CTL_L5_EN (fldIn F.SKY_CTL_SYS_EN (s.reg R.SKY_CTL).toNat sys) (sys / 32)) rate
      okay (t.norStore R.SKY_CTL skyNorBits (BitVec.ofNat 32 word))
def opSkyConfig : Op := { code := 0x0300, rights := 1, run := doSkyConfig }
def execSkyConfig (c : Cmd) (s : State) : Host.Outcome State Fault Refusal := .next (s.host c opSkyConfig)

/-- Whether an ECEF position in 0.1 mm lies between 6,300 km and 6,400 km of the centre (R94, R148). -/
def ecefInRange (x y z : Int) : Bool :=
  let q := x * x + y * y + z * z
  decide (63000000000 * 63000000000 ≤ q ∧ q ≤ 64000000000 * 64000000000)

/-- SKY_SET_BASE_POSITION (R94): effective at the next epoch. -/
def doSkySetBasePosition (s : State) (_ _ : Nat) (p : List Byte) : Res :=
  withLen s 28 p <|
    let x := rdI p 0 8
    let y := rdI p 8 8
    let z := rdI p 16 8
    if !ecefInRange x y z then refuse s St.badParameter
    else okay { s with sky := { s.sky with basePend := some ⟨x, y, z, rdN p 24 2⟩ } }
def opSkySetBasePosition : Op := { code := 0x0301, rights := 1, run := doSkySetBasePosition }
def execSkySetBasePosition (c : Cmd) (s : State) : Host.Outcome State Fault Refusal := .next (s.host c opSkySetBasePosition)

/-- A band tracker of a satellite that is readmitted from grade 3 is in grade 2, its failures forgotten (DESIGN CHOICE, entry 160). -/
def State.readmit (s : State) (c b : Nat) : State :=
  let t := s.tracker c b
  if t.state = 0 then s else s.setTracker c b { t with grade := 2, clean := 0, fails := 0 }

/-- SKY_EXCLUDE (R78): exclude a satellite whatever its grade, or readmit it, which moves grade 3 to grade 2. -/
def doSkyExclude (s : State) (_ _ : Nat) (p : List Byte) : Res :=
  withLen s 4 p <|
    let sys := rdN p 0 1
    let act := rdN p 2 1
    if 4 < sys ∨ 1 < act then refuse s St.badParameter
    else
      let k := satKey sys (rdN p 1 1)
      if act = 1 then
        okay (if s.sky.excluded.contains k then s else { s with sky := { s.sky with excluded := k :: s.sky.excluded } })
      else
        let t : State := { s with sky := { s.sky with excluded := s.sky.excluded.filter (· != k), lockedOut := s.sky.lockedOut.filter (· != k) } }
        let cs := if s.sky.lockedOut.contains k then (t.sky.chans.filter fun c => c.2.busy && c.2.sat == k).map (·.1) else []
        okay (cs.foldl (fun t c => ((t.readmit c 0).readmit c 1).gradeEvent c 2 0) t)
def opSkyExclude : Op := { code := 0x0302, rights := 1, run := doSkyExclude }
def execSkyExclude (c : Cmd) (s : State) : Host.Outcome State Fault Refusal := .next (s.host c opSkyExclude)

/-- One entry of SKY_GET_CHANNELS (14 bytes). DESIGN CHOICE (entry 160): its check bits, MP and ITF are those of either band. -/
def State.chanEntry (s : State) (c : Nat) : List Byte :=
  let ch := s.chan c
  let a := s.tracker c 0
  let b := s.tracker c 1
  le 1 c ++ le 1 a.signal ++ le 1 ch.svid ++ le 1 (a.state + 16 * b.state) ++ le 1 (s.chanGrade c) ++ leI 1 (ch.elev / 100) ++ le 2 ch.azim
    ++ le 2 a.cn0 ++ le 2 b.cn0 ++ le 1 (a.checks ||| b.checks)
    ++ le 1 (b2n (ch.busy && s.sky.excluded.contains ch.sat) + 2 * b2n (a.mp || b.mp) + 4 * b2n (ch.busy && (s.itfOn 0 || s.itfOn 1)))

/-- SKY_GET_CHANNELS. -/
def doSkyGetChannels (s : State) (_ _ : Nat) (p : List Byte) : Res :=
  withLen s 2 p <|
    let first := rdN p 0 1
    let n := rdN p 1 1
    if n = 0 ∨ 32 < n ∨ 128 < first + n then refuse s St.badParameter
    else okWith s ((List.range n).map fun i => s.chanEntry (first + i)).flatten
def opSkyGetChannels : Op := { code := 0x0303, rights := 0, run := doSkyGetChannels }
def execSkyGetChannels (c : Cmd) (s : State) : Host.Outcome State Fault Refusal := .next (s.host c opSkyGetChannels)

/-- SKY_RTCM_CONFIG (R88, Table 3-9), stored in the NOR settings. -/
def doSkyRtcmConfig (s : State) (_ _ : Nat) (p : List Byte) : Res :=
  withLen s 12 p <|
    let r : RtcmCfg := { ip := rdN p 0 4, port := rdN p 4 2, divisor := rdN p 6 1, flags := rdN p 7 1 % 16, station := rdN p 8 2, arpS := rdN p 10 1, descS := rdN p 11 1 }
    if r.divisor = 0 ∨ 50 < r.divisor ∨ 4095 < r.station ∨ r.arpS = 0 ∨ r.descS = 0 then refuse s St.badParameter
    else okay { s with sky := { s.sky with rtcm := r, msmCount := 0 } }
def opSkyRtcmConfig : Op := { code := 0x0304, rights := 1, run := doSkyRtcmConfig }
def execSkyRtcmConfig (c : Cmd) (s : State) : Host.Outcome State Fault Refusal := .next (s.host c opSkyRtcmConfig)

end Sys2Proof.Machine
end

