-- ==== Sys2Proof/Machine/RtkFilter.lean ====
section
/-! DEFINITION. The filter of central RTK (R125 to R136): alignment, double differences, the extended Kalman filter and its ambiguities.
Its arithmetic is exact, and its state is rounded to 2^-40 once an epoch (DESIGN CHOICE, entry 167). -/

namespace Sys2Proof.Machine

/-- The key of a signal: signal code × 256 + SVID; the key of a satellite is that of its L1-band signal. -/
def sigKey (signal svid : Nat) : Nat := signal * 256 + svid
def satOf (key : Nat) : Nat := if key / 256 % 2 = 1 then key else key - 256

/-- The differencing group of a signal × 2 + its band (R127). -/
def groupOf (key : Nat) : Nat :=
  let c := key / 256
  (if c = 3 ∨ c = 4 then 1 else if c = 5 ∨ c = 6 then 2 else 0) * 2 + (if c % 2 = 1 then 0 else 1)

/-- The base's data for a signal. -/
def BaseRec.sig (b : BaseRec) (key : Nat) : Option BaseSig := b.sigs.find? fun x => sigKey x.signal x.svid == key

/-- Whether the phase of a signal is valid and resolved at both ends. -/
def phaseOk (x : RoverObs × BaseSig) : Bool := x.1.phaseValid && x.1.half && x.2.phaseOk
def obsKey (x : RoverObs × BaseSig) : Nat := sigKey x.1.signal x.1.svid

/-- The observations used of an epoch (R126): at both ends, with an adopted ephemeris, at the elevation mask, at 20 dB-Hz; in
ionosphere-free mode only those of satellites tracked on both bands at both ends (R136). -/
def State.usable (s : State) (ifree : Bool) (b : BaseRec) (q : PendingObs) : List (RoverObs × BaseSig) :=
  let us := q.obs.filterMap fun o =>
    match b.sig (sigKey o.signal o.svid) with
    | some g =>
      if o.signal ≤ 8 && (s.ephData (satKey (sigSystem o.signal) o.svid)).isSome
          && decide (((100 * s.fld F.RTK_QC_ELEV_MASK : Nat) : Int) ≤ g.elev) && decide (10 ≤ o.cn0) then some (o, g) else none
    | none => none
  if ifree then us.filter fun u => us.any fun v => v.1.signal != u.1.signal && satOf (obsKey v) == satOf (obsKey u) else us

/-- The reference satellite of each group and band (R127): kept while usable, else the highest with valid phase. -/
def newRefs (old : Tbl Nat) (used : List (RoverObs × BaseSig)) : Tbl Nat :=
  (List.range 6).foldl (fun t g =>
    let cand := used.filter fun x => phaseOk x && groupOf (obsKey x) == g
    let keep := cand.isEmpty || cand.any fun x => obsKey x == Tbl.get 0 old g
    let best := cand.foldl (fun m x =>
      match m with
      | none => some x
      | some y => if y.2.elev < x.2.elev then some x else some y) (none : Option (RoverObs × BaseSig))
    if keep then Tbl.put 0 t g (Tbl.get 0 old g)
    else
      match best with
      | some x => Tbl.put 0 t g (obsKey x)
      | none => t) []

/-- Integers of double differences moved to the new reference satellites (R127): those of a group whose new reference
has no integer are dropped. -/
def rebase (old new : Tbl Nat) (l : List (Nat × Int)) : List (Nat × Int) :=
  l.filterMap fun p =>
    let g := groupOf p.1
    let r0 := Tbl.get 0 old g
    let r1 := Tbl.get 0 new g
    if r0 = r1 then some p
    else
      match l.find? fun q => q.1 == r1 with
      | some q => if p.1 = r1 then some (r0, -p.2) else some (p.1, p.2 - q.2)
      | none => none

/-! ### The filter in rational numbers -/

/-- A filter being computed. -/
structure Filt where
  keys : List Nat
  x : Row
  p : Mat

def RtkFilter.open (f : RtkFilter) : Filt :=
  { keys := f.keys, x := f.x.map fun (v : Int) => (v : Rat) / 2 ^ 40, p := f.p.map fun r => r.map fun (v : Int) => (v : Rat) / 2 ^ 40 }
def Filt.close (f : Filt) (epoch : Nat) : RtkFilter :=
  { at_ := epoch, keys := f.keys, x := f.x.map fun v => roundR (v * 2 ^ 40), p := f.p.map fun r => r.map fun v => roundR (v * 2 ^ 40) }

def Filt.size (f : Filt) : Nat := 6 + f.keys.length
def Filt.index (f : Filt) (key : Nat) : Nat := 6 + f.keys.idxOf key
def Filt.pos (f : Filt) : Vec := (f.x.getD 0 0, f.x.getD 1 0, f.x.getD 2 0)
def Filt.vel (f : Filt) : Vec := (f.x.getD 3 0, f.x.getD 4 0, f.x.getD 5 0)

/-- A linear transformation of the state: its rows, for the ambiguities of `keys`. -/
def Filt.transform (f : Filt) (keys : List Nat) (t : Mat) : Filt := { keys := keys, x := matVec t f.x, p := mulT (mulT t f.p) t }

/-- The row that picks one entry of the state. -/
def unitRow (n i : Nat) : Row := (List.range n).map fun j => if i = j then 1 else 0

/-- The filter without some of its ambiguities. -/
def Filt.without (f : Filt) (gone : Nat → Bool) : Filt :=
  let keys := f.keys.filter fun k => !gone k
  f.transform keys ((List.range 6 ++ keys.map f.index).map (unitRow f.size))

/-- The filter with a new ambiguity of variance (30 cycles)² (R130). -/
def Filt.add (f : Filt) (key : Nat) (v : Rat) : Filt :=
  { keys := f.keys ++ [key], x := f.x ++ [v], p := matOf (f.size + 1) (f.size + 1) fun i j => if i = f.size ∧ j = f.size then 900 else f.p.at i j }

/-- Prediction over `dt` seconds with white-noise acceleration of spectral densities QH and QV (R130). -/
def Filt.predict (f : Filt) (dt : Rat) (c : RtkClass) : Filt :=
  let n := f.size
  let g := f.transform f.keys (matOf n n fun i j => if i = j then 1 else if i < 3 ∧ j = i + 3 then dt else 0)
  let q (i : Nat) : Rat := (if i % 3 = 2 then (c.qv : Rat) else c.qh) / 100
  { g with p := matOf n n fun i j =>
      g.p.at i j + (if 6 ≤ i ∨ 6 ≤ j then 0 else if i = j then q i * (if i < 3 then dt * dt * dt / 3 else dt)
        else if j = i + 3 ∨ i = j + 3 then q i * dt * dt / 2 else 0) }

/-- The ambiguities of a group moved to a new reference (R127): a linear transformation; those whose new reference has no ambiguity start
anew. -/
def Filt.rebase (f : Filt) (old new : Tbl Nat) : Filt :=
  let ref (k : Nat) : Nat × Nat := (Tbl.get 0 old (groupOf k), Tbl.get 0 new (groupOf k))
  let moved (k : Nat) : Bool := (ref k).1 != (ref k).2
  let f := f.without fun k => moved k && !f.keys.contains (ref k).2
  let row (k : Nat) : Row :=
    let own := unitRow f.size (f.index k)
    if !moved k then own
    else
      let r := unitRow f.size (f.index (ref k).2)
      if k = (ref k).2 then scaleR (-1) r else subR own r
  f.transform (f.keys.map fun k => if moved k && k == (ref k).2 then (ref k).1 else k)
    ((List.range 6).map (unitRow f.size) ++ f.keys.map row)

/-- A measurement update by rows H, innovations v and covariance R; unchanged where the innovations' covariance is singular. -/
def Filt.measure (f : Filt) (h : Mat) (v : Row) (r : Mat) : Filt :=
  let hp := mulT h f.p
  match solveM (addM (mulT hp h) r) hp with
  | some kt =>
    let k := matT kt.length (matT f.size kt)
    { f with x := addR f.x (matVec (matT f.size k) v), p := subM f.p (matVec2 k hp) }
  | none => f
where
  /-- Kᵀ times H P, from Kᵀ by rows. -/
  matVec2 (kt hp : Mat) : Mat := matOf f.size f.size fun i j => (kt.zipWith (fun a b => a.getD i 0 * b.getD j 0) hp).foldl (· + ·) 0

/-! ### Alignment and double differences -/

/-- One signal at both ends, rover less base and in m: code and phase aligned and corrected, the range difference predicted, the
direction to the satellite in the site axes, the variances, and the wavelength. -/
structure Pair where
  key : Nat
  elev : Int
  ok : Bool
  code : Rat
  phase : Rat
  pred : Rat
  los : Vec
  varC : Rat
  varP : Rat
  lam : Rat

/-- The wavelength of a signal. -/
def wavelength (signal : Nat) : Rat := 299792458 / (carrierOf signal : Rat)

/-- The zenith delay at a height, mapped to an elevation (R128). -/
def troposphere (height sinE : Rat) : Rat := 23 / 10 * expR (fine (-height / 8000)) / sinE

/-- The variance of an observation (R131), from a and b in m and C/N0 in 0.01 dB-Hz. -/
def obsVar (a b sinE : Rat) (cn0 : Nat) : Rat := (a * a + b * b / (sinE * sinE)) * (if cn0 < 3500 then pow10 (3500 - cn0) else 1)

/-- Where the antennas are, in ECEF and m, with the site axes and both ends' frames. -/
structure Ends where
  base : Vec
  rover : Vec
  axes : Geodetic
  atBase : Geodetic
  atRover : Geodetic

/-- A vector of the site axes in ECEF, and back (R148). -/
def toEcef (g : Geodetic) (v : Vec) : Vec := addV (scaleV v.1 g.east) (addV (scaleV v.2.1 g.north) (scaleV v.2.2 g.up))
def fromEcef (g : Geodetic) (v : Vec) : Vec := (dotV g.east v, dotV g.north v, dotV g.up v)

/-- The origin of the axes in which the filters stand, m; the base antenna before one is set. -/
def State.frameAt (s : State) (b : BasePos) : Vec :=
  match s.rtk.frame with
  | some o => metres o
  | none => baseArp b

/-- Both ends for a rover position in the site frame, against the base position of a record: the rover is the base antenna reference
point plus the baseline (R149). -/
def State.ends (s : State) (b : BasePos) (pos : Vec) : Ends :=
  let o := s.frameAt b
  let axes := geodetic o
  let base := baseArp b
  let now := baseArp (s.rtk.basePos.getD b)
  let rover := addV base (subV (addV o (toEcef axes pos)) now)
  { base := base, rover := rover, axes := axes, atBase := geodetic base, atRover := geodetic rover }

/-- One signal's pair at an epoch (R126, R128, R131). -/
def State.pairOf (s : State) (c : RtkClass) (e : Ends) (b : BaseRec) (q : PendingObs) (x : RoverObs × BaseSig) : Pair :=
  let (o, g) := x
  let lam := wavelength o.signal
  let data := (s.ephData (satKey (sigSystem o.signal) o.svid)).getD []
  let t := gps (gpsEpoch + q.epoch * oneMs)
  let sat := let p := Config.satPosition data t; ((p.1 : Rat) / 1000, (p.2.1 : Rat) / 1000, (p.2.2 : Rat) / 1000)
  let range (at_ dir : Vec) : Rat := ((Config.predict data (tenths at_) t).range : Rat) / 2 ^ 20 - dotV dir (subV at_ (metres (tenths at_)))
  let lb := unitV (subV sat e.base)
  let lr := unitV (subV sat e.rover)
  let sb := dotV lb e.atBase.up
  let sr := dotV lr e.atRover.up
  let rmove := lam * ((o.doppler : Rat) / 4) * ((q.clk : Rat) / 10 ^ 9) + troposphere e.atRover.height sr
  let bmove := lam * ((g.doppler : Rat) / 4096) * ((b.bias : Rat) / 10 ^ 11) + troposphere e.atBase.height sb
  let rho : Rat := (o.rho : Rat) / 10 ^ 6
  let mult : Rat := if sigBand o.signal = 0 then (c.l1c : Rat) / 10 else 1
  let ca := (c.cdA : Rat) / 100 * mult
  let cb := (c.cdB : Rat) / 100 * mult
  let pa := (c.phA : Rat) / 10000
  let pb := (c.phB : Rat) / 10000
  let rc := 100 * (o.cn0 + 10)
  { key := obsKey x, elev := g.elev, ok := phaseOk x, lam := lam
    code := (rho - rmove) - ((g.code : Rat) / 2 ^ 20 - bmove)
    phase := (rho + lam * (o.phase : Rat) / 2 ^ 10 - rmove) - (lam * (g.carrier : Rat) / 2 ^ 24 - bmove)
    pred := range e.rover lr - range e.base lb, los := fromEcef e.axes lr
    varC := obsVar ca cb sr rc + obsVar ca cb sb g.cn0, varP := obsVar pa pb sr rc + obsVar pa pb sb g.cn0 }

/-! The ionosphere-free combination and the wide lane (R136), in the ratio 154 : 115 of the two carriers. -/

def ifAlpha : Rat := 154 * 154 / (154 * 154 - 115 * 115 : Nat)
def ifBeta : Rat := 115 * 115 / (154 * 154 - 115 * 115 : Nat)
def narrowLane : Rat := 299792458 / (1575420000 + 1176450000 : Nat)
def wideLane : Rat := 299792458 / (1575420000 - 1176450000 : Nat)

/-- The phase in m that one wide-lane cycle adds to the ionosphere-free combination. -/
def wideShift : Rat := 299792458 * 115 * 115 / ((154 * 154 - 115 * 115) * 1176450000 : Nat)

/-- The ionosphere-free combination of a satellite's two pairs. -/
def ifCombine (a b : Pair) : Pair :=
  { a with ok := a.ok && b.ok, code := ifAlpha * a.code - ifBeta * b.code, phase := ifAlpha * a.phase - ifBeta * b.phase
           varC := ifAlpha * ifAlpha * a.varC + ifBeta * ifBeta * b.varC, varP := ifAlpha * ifAlpha * a.varP + ifBeta * ifBeta * b.varP, lam := narrowLane }

/-- The Melbourne–Wübbena combination of a satellite's two pairs, in wide-lane cycles. -/
def melbourne (a b : Pair) : Rat := a.phase / a.lam - b.phase / b.lam - (154 * a.code + 115 * b.code) / 269 / wideLane

/-- The pairs of an epoch at a rover position; combined by satellite in ionosphere-free mode. -/
def State.pairs (s : State) (a : Nat) (b : BaseRec) (q : PendingObs) (used : List (RoverObs × BaseSig)) (pos : Vec) : List Pair :=
  match b.pos with
  | some p =>
    let e := s.ends p pos
    used.map (s.pairOf (Tbl.get {} s.rtk.classes (Tbl.get 0 s.rtk.clsOf a)) e b q)
  | none => []

/-- The pairs that are differenced. -/
def combined (ifree : Bool) (ps : List Pair) : List Pair :=
  if ifree then ps.filterMap fun a => if a.key / 256 % 2 = 1 then (ps.find? fun b => b.key == a.key + 256).map (ifCombine a) else none else ps

/-- One double difference: its innovation without the ambiguity, its coefficients of east, north and up, and its variances. -/
structure Dd where
  key : Nat
  phase : Bool
  v : Rat
  h : Vec
  lam : Rat
  own : Rat
  refVar : Rat

/-- The double differences of an epoch (R127, R131): codes, and the phases that are valid; `wide` gives the wide-lane integers in
ionosphere-free mode, where a phase waits for its wide lane. -/
def doubles (refs : Tbl Nat) (wide : Option (List (Nat × Int))) (ps : List Pair) : List Dd :=
  ps.flatMap fun p =>
    match ps.find? fun r => r.key == Tbl.get 0 refs (groupOf p.key) && r.key != p.key && r.ok with
    | none => []
    | some r =>
      let h := scaleV (-1) (subV p.los r.los)
      let pred := p.pred - r.pred
      let code : Dd := { key := p.key, phase := false, v := p.code - r.code - pred, h := h, lam := 0, own := p.varC, refVar := r.varC }
      let shift : Option Rat := match wide with
        | none => some 0
        | some l => (l.find? fun w => w.1 == p.key).map fun w => wideShift * w.2
      match shift with
      | some d => if p.ok then [code, { code with phase := true, v := p.phase - r.phase - pred - d, lam := p.lam, own := p.varP, refVar := r.varP }] else [code]
      | none => [code]

/-- The covariance of double differences, with the correlation through the reference satellite (R131). -/
def ddCov (ds : List Dd) : Mat :=
  ds.map fun a => ds.map fun b =>
    if a.key = b.key ∧ a.phase = b.phase then a.own + a.refVar else if groupOf a.key = groupOf b.key ∧ a.phase = b.phase then a.refVar else 0

/-- The rows and innovations of double differences in a filter. -/
def Filt.rows (f : Filt) (ds : List Dd) : Mat :=
  ds.map fun d => [d.h.1, d.h.2.1, d.h.2.2, 0, 0, 0] ++ f.keys.map fun k => if d.phase && k == d.key then d.lam else 0
def Filt.innov (f : Filt) (ds : List Dd) : Row := ds.map fun d => d.v - (if d.phase then d.lam * f.x.getD (f.index d.key) 0 else 0)

/-! ### Initialisation, outliers and the update -/

/-- A code-only double-difference least-squares position, `n` rounds from a position in the site frame (R130); none when the geometry does
not give one. -/
def lsqPos (ddAt : Vec → List Dd) : Nat → Vec → Option Vec
  | 0, x => some x
  | n + 1, x =>
    let ds := (ddAt x).filter fun d => !d.phase
    let ht := matT 3 (ds.map fun d => [d.h.1, d.h.2.1, d.h.2.2])
    match solveM (mulT ht ht) ((matVec ht (ds.map (·.v))).map fun v => [v]) with
    | some dx => lsqPos ddAt n (addV x (dx.at 0 0, dx.at 1 0, dx.at 2 0))
    | none => none

/-- A new filter at a position (R130). -/
def Filt.start (x : Vec) : Filt := { keys := [], x := [x.1, x.2.1, x.2.2, 0, 0, 0], p := matOf 6 6 fun i j => if i = j then (if i < 3 then 100 else 25) else 0 }

/-- The double differences kept and those removed as outliers (R133): the single largest normalised innovation beyond the threshold (0.1 σ)
goes, at most `n` times. -/
def Filt.outliers (f : Filt) (thr : Nat) : Nat → List Dd → List Dd × List Dd
  | 0, ds => (ds, [])
  | n + 1, ds =>
    let h := f.rows ds
    let cov := addM (mulT (mulT h f.p) h) (ddCov ds)
    let v := f.innov ds
    let size (i : Nat) : Rat := v.getD i 0 * v.getD i 0 * 100 / cov.at i i
    let i := (List.range ds.length).foldl (fun m i => if size m < size i then i else m) 0
    match ds[i]? with
    | some d =>
      if ((thr * thr : Nat) : Rat) < size i then
        let r := f.outliers thr n (ds.eraseIdx i)
        (r.1, d :: r.2)
      else (ds, [])
    | none => (ds, [])

/-- The held integers are applied, each with a standard deviation of 0.001 cycle (R135). -/
def Filt.hold (f : Filt) (holds : List (Nat × Int)) : Filt :=
  let hs := holds.filter fun p => f.keys.contains p.1
  f.measure (hs.map fun p => unitRow f.size (f.index p.1)) (hs.map fun p => (p.2 : Rat) - f.x.getD (f.index p.1) 0)
    (matOf hs.length hs.length fun i j => if i = j then 1 / 10 ^ 6 else 0)

/-- The geometry-free phase of a satellite, rover less base, in µm, when both bands are valid. -/
def geometryFree (ps : List Pair) (sat : Nat) : Option Int :=
  match ps.find? fun p => p.key == sat && p.ok, ps.find? fun p => p.key == sat + 256 && p.ok with
  | some a, some b => some (roundR ((a.phase - b.phase) * 10 ^ 6))
  | _, _ => none

/-- Whether a use resets the ambiguity of a signal at either end (R132): a slip, the base's slip counter or lock time, an invalid phase, or
a jump of the geometry-free phase. -/
def State.ambReset (s : State) (r : RtkRover) (ps : List Pair) (u : RoverObs × BaseSig) : Bool :=
  let k := obsKey u
  let old := Tbl.get ({} : Amb) r.amb k
  let gf := match geometryFree ps (satOf k), r.gf.find? fun p => p.1 == satOf k with
    | some g, some h => decide (1000 * s.fld F.RTK_QC_GF_SLIP < (g - h.2).natAbs)
    | _, _ => false
  u.1.slip || (r.amb.any (fun p => p.1 == k) && (old.cslip != u.2.cslip || decide (u.2.lockTime < old.lockTime))) || u.2.lockTime == 0 || !phaseOk u || gf

/-- The double differences that an ambiguity of each reset signal enters: its own, and the whole group of a reference satellite. -/
def resetKeys (refs : Tbl Nat) (keys slipped : List Nat) : List Nat :=
  slipped ++ keys.filter fun k => slipped.contains (Tbl.get 0 refs (groupOf k))

/-- Wide-lane averages after an epoch, and the integers they fix (R136): a fractional part within 0.25 cycle and a standard deviation of
the average below 0.1 cycle. -/
def wideLanes (refs : Tbl Nat) (ps : List Pair) (r : RtkRover) : Tbl (Nat × Int × Int) × List (Nat × Int) :=
  let mwOf (k : Nat) : Option Rat := match ps.find? fun p => p.key == k && p.ok, ps.find? fun p => p.key == k + 256 && p.ok with
    | some a, some b => some (melbourne a b)
    | _, _ => none
  (ps.filter fun p => p.key / 256 % 2 == 1).foldl (fun t p =>
    let ref := Tbl.get 0 refs (groupOf p.key)
    match mwOf p.key, mwOf ref with
    | some x, some y =>
      if p.key = ref ∨ t.2.any (fun w => w.1 == p.key) then t
      else
        let d := roundR ((x - y) * 2 ^ 20)
        let (n, sum, sq) := Tbl.get (0, 0, 0) t.1 p.key
        let (n, sum, sq) := (n + 1, sum + d, sq + d * d)
        let mean : Rat := (sum : Rat) / (n * 2 ^ 20 : Nat)
        let var : Rat := ((sq : Rat) / (n * 2 ^ 40 : Nat) - mean * mean) / (n - 1 : Nat)
        let near := roundR mean
        if 2 ≤ n ∧ var < 1 / 100 ∧ mean - near ≤ 1 / 4 ∧ near - mean ≤ 1 / 4 then (Tbl.put (0, 0, 0) t.1 p.key (0, 0, 0), t.2 ++ [(p.key, near)])
        else (Tbl.put (0, 0, 0) t.1 p.key (n, sum, sq), t.2)
    | _, _ => t) (r.mw, r.wide)

/-- At most 60 ambiguities (R129): those of the signals present, of the highest elevation, then others held. -/
def ambLimit (present : List Pair) (keys : List Nat) : List Nat :=
  let now := (sortBy (fun a b : Pair => decide (b.elev < a.elev)) present).map (·.key)
  (now ++ keys.filter fun k => !now.contains k).take 60

/-- The measurement update of a rover's epoch (R127 to R133, R135): the rover after it, and the ambiguities reset in it. -/
def State.update (s : State) (a : Nat) (q : PendingObs) (b : BaseRec) : State × List Nat :=
  let r := s.rk a
  let cls := Tbl.get {} s.rtk.classes (Tbl.get 0 s.rtk.clsOf a)
  let used := s.usable r.ifree b q
  let refs := newRefs r.refs used
  let refs := if r.ifree then refs.filter fun p => p.1 % 2 == 0 else refs
  let dds (wide : List (Nat × Int)) (x : Vec) : List Dd := doubles refs (if r.ifree then some wide else none) (combined r.ifree (s.pairs a b q used x))
  let start : Vec := match b.pos with
    | some p => let o := s.frameAt p; fromEcef (geodetic o) (subV (baseArp (s.rtk.basePos.getD p)) o)
    | none => (0, 0, 0)
  let filt := match r.filt with
    | some f => some (f.open.predict (((q.epoch : Rat) - f.at_) / 1000) cls)
    | none => (lsqPos (dds []) 5 start).map Filt.start
  let x := (filt.map (·.pos)).getD start
  let ps := s.pairs a b q used x
  let slipped := (used.filter (s.ambReset r ps)).map obsKey
  let keys := (filt.map (·.keys)).getD []
  let reset := (if r.resetAll then keys ++ used.map obsKey else resetKeys refs (used.map obsKey ++ keys) slipped).eraseDups
  let gone (k : Nat) : Bool := r.resetAll || reset.contains k || (r.ifree && reset.contains (k + 256))
  let keep (l : List (Nat × Int)) : List (Nat × Int) := (rebase r.refs refs l).filter fun p => !gone p.1
  let r := { r with wide := keep r.wide, mw := r.mw.filter fun p => !gone p.1 && Tbl.get 0 r.refs (groupOf p.1) == Tbl.get 0 refs (groupOf p.1) }
  let (mw, wide) := if r.ifree then wideLanes refs ps r else ([], [])
  let ds := dds wide x
  let own := (combined r.ifree ps).filter fun p => ds.any fun d => d.phase && d.key == p.key
  let gfs := ((used.map fun u => satOf (obsKey u)).eraseDups).foldl (fun t k => match geometryFree ps k with
    | some g => (t.filter fun p => p.1 != k) ++ [(k, g)]
    | none => t) r.gf
  let base : RtkRover := { r with refs := refs, resetAll := false, mw := mw, wide := wide, gf := sortBy (fun p q => decide (p.1 < q.1)) gfs, holds := keep r.holds
                                  cands := r.cands.map (rebase r.refs refs), lastUsed := some q.epoch, misses := 0 }
  match filt with
  | none => (s.setRk a { base with codes := (ds.filter fun d => !d.phase).length, phases := 0, nsat := 0 }, reset)
  | some f =>
    let f := (f.rebase r.refs refs).without gone
    let take := ambLimit own f.keys
    let f := f.without fun k => !take.contains k
    let f := (own.filter fun p => take.contains p.key && !f.keys.contains p.key).foldl (fun f p =>
      match ds.find? fun d => d.phase && d.key == p.key, ds.find? fun d => !d.phase && d.key == p.key with
      | some ph, some co => f.add p.key (fine ((ph.v - co.v) / p.lam))
      | _, _ => f) f
    let f := f.hold base.holds
    let (ds, out) := f.outliers (s.fld F.RTK_QC_OUTLIER) 4 (ds.filter fun d => !d.phase || f.keys.contains d.key)
    let g := f.measure (f.rows ds) (f.innov ds) (ddCov ds)
    let rejected (k : Nat) : Nat := if out.any fun d => d.phase && d.key == k then (Tbl.get ({} : Amb) r.amb k).rejected + 1 else 0
    let bad := (f.keys.filter fun k => 3 ≤ rejected k)
    let amb := used.foldl (fun (t : Tbl Amb) u =>
      let k := obsKey u
      let old := Tbl.get ({} : Amb) r.amb k
      let on := f.keys.contains k && own.any fun p => p.key == k
      Tbl.put {} t k { uses := if !on || bad.contains k then 0 else if gone k then 1 else old.uses + 1, cslip := u.2.cslip, lockTime := u.2.lockTime
                       rejected := if bad.contains k then 0 else rejected k }) (r.amb.map fun p => (p.1, { p.2 with uses := 0 }))
    let g := g.without fun k => bad.contains k
    let sats := (((ds.map (·.key)) ++ ds.map fun d => Tbl.get 0 refs (groupOf d.key)).map satOf).eraseDups
    (s.setRk a { base with filt := some (g.close q.epoch), amb := amb, holds := base.holds.filter fun p => !bad.contains p.1
                           codes := (ds.filter fun d => !d.phase).length, phases := (ds.filter (·.phase)).length, nsat := sats.length }, reset ++ bad)

end Sys2Proof.Machine
end

