-- ==== Sys2Proof/Machine/Rtk.lean ====
section
/-! DEFINITION. Central RTK (chapter 05): intake of observation bodies, the cycle with ambiguity resolution, fix records, fix rates and
shedding, and the RTK commands. -/

namespace Sys2Proof.Machine

/-! ### Records and counts -/

/-- Counts of RTK_STAT follow the rovers. -/
def State.syncRtk (s : State) : State :=
  let rs := s.rtk.rovers.map (·.2)
  let cls (c : Nat) : Nat := (rs.filter fun r => (r.record.map (·.cls)).getD 0 == c).length
  let t := (s.setFld F.RTK_STAT_FIX (cls 3)).setFld F.RTK_STAT_FLOAT (cls 2)
  let t := (t.setFld F.RTK_STAT_ACTIVE (rs.filter (·.live)).length).setFld F.RTK_STAT_IF_ANY (b2n (rs.any (·.ifree)))
  (t.setFld F.RTK_STAT_NO_ORIGIN (b2n s.rtk.origin.isNone)).syncBase

/-- A new filter generation of a slot (R141): the filter, holds, delta reference, pending epoch and record go. The first filter after a
cold start carries GEN 0. -/
def State.newFilter (s : State) (a : Nat) : State :=
  let r := s.rk a
  (s.setRk a { gen := if r.had then (r.gen + 1) % 256 else r.gen, had := r.had, rate := r.rate, shed := r.shed, evAt := r.evAt }).syncRtk

/-- A fix record in its 40 bytes (Table 5-5). -/
def FixRec.bytes (a : Nat) (r : FixRec) : List Byte :=
  le 1 a ++ le 1 (r.cls + r.flags) ++ le 1 r.nsat ++ le 1 r.namb ++ le 4 r.tow
    ++ leI 4 r.pos.1 ++ leI 4 r.pos.2.1 ++ leI 4 r.pos.2.2 ++ leI 4 r.vel.1 ++ leI 4 r.vel.2.1 ++ leI 4 r.vel.2.2
    ++ le 2 r.hpl ++ le 2 r.vpl ++ le 2 r.age ++ le 1 r.ratio ++ le 1 r.gen

/-- The record a slot shows: a slot without one since its GEN last changed shows class NONE (R141). -/
def State.fixBytes (s : State) (a : Nat) : List Byte :=
  match (s.rk a).record with
  | some r => r.bytes a
  | none => ({ gen := (s.rk a).gen } : FixRec).bytes a

/-! ### Rates (R142, R143) -/

def State.rtkClass (s : State) (c : Nat) : RtkClass := Tbl.get {} s.rtk.classes c

/-- The base epoch period, ns. -/
def State.baseNs (s : State) : Nat := epochPeriod (s.fld F.SKY_CTL_EPOCH_RATE)

/-- The code of the largest rate that is at most a rate and 20 Hz and whose period is a whole multiple of the base epoch
period (R142). -/
def State.effRate (s : State) (code : Nat) : Nat :=
  let ok := (List.range 8).filter fun c =>
    epochPeriod (min code 5) ≤ epochPeriod c && epochPeriod c % s.baseNs == 0
  ok.foldl max 0

/-- The class rate code of a rover before shedding, by class and whether it moves. -/
def State.classRate (s : State) (a : Nat) : Nat :=
  let c := s.rtkClass (Tbl.get 0 s.rtk.clsOf a)
  if s.roverMoving a then c.moving else c.parked

/-- The rate code of a rover with `n` shedding steps taken: never faster than unshed (R143). -/
def State.shedRate (s : State) (n a : Nat) : Nat :=
  let code := s.classRate a
  let cls := Tbl.get 0 s.rtk.clsOf a
  if s.roverMoving a then
    if 3 ≤ n ∧ 10 - n ≤ cls then min code (s.fld F.RTK_PWR_MOVE_FLOOR) else code
  else if n = 0 then code
  else if n = 1 then min code 3
  else min code (s.fld F.RTK_PWR_PARK_FLOOR)

/-- Fixes per second of the rovers bound, with `n` steps taken. -/
def State.rtkLoad (s : State) (n : Nat) : Nat :=
  s.boundSlots.foldl (fun d a => d + oneSec / epochPeriod (s.effRate (s.shedRate n a))) 0

/-- DUE and GRANTED are shown; the demand in 10 mW units is DUE × UJ_FIX (R143). -/
def State.rtkDemand (s : State) : Nat := ceilDiv (s.rtkLoad 0 * s.fld F.RTK_PWR_UJ_FIX) 10000

/-- The RTK floor in 10 mW units: every rover at its floor (R143). -/
def State.rtkFloor (s : State) : Nat := ceilDiv (s.rtkLoad 10 * s.fld F.RTK_PWR_UJ_FIX) 10000

def State.showShed (s : State) : State :=
  let n := s.rtk.shed
  let bits := (List.range 8).foldl (fun b c => if 3 ≤ n ∧ 10 - n ≤ c then b + 2 ^ c else b) 0
  ((s.setFld F.RTK_STAT_SHED_PARK (min n 2)).setFld F.RTK_LOAD_SHED_MOVE bits).setFld F.RTK_LOAD_DUE (s.rtkLoad 0)

/-- RTK_SHED_STEP (R143): one step more when the grant covers fewer fixes than the load, or one step undone, at most one
per second, once the grant covers the next unshed load. -/
def execRtkShedStep (s : State) : Host.Outcome State Fault Refusal :=
  let n := s.rtk.shed
  let granted := s.fld F.RTK_LOAD_GRANTED
  let due := s.showShed
  let event (t : State) : State :=
    let t := t.showShed
    t.raise Ev.rtkShed (le 1 (t.fld F.RTK_STAT_SHED_PARK) ++ le 1 (t.fld F.RTK_LOAD_SHED_MOVE) ++ le 2 (t.fld F.RTK_LOAD_GRANTED) ++ le 2 (t.fld F.RTK_LOAD_DUE))
  let may := match s.rtk.undoneAt with
    | some u => s.passed u oneSec
    | none => true
  .next <|
    if granted < s.rtkLoad n ∧ n < 10 then event { s with rtk := { s.rtk with shed := n + 1 } }
    else if 0 < n ∧ s.rtkLoad (n - 1) ≤ granted ∧ may = true then event { s with rtk := { s.rtk with shed := n - 1, undoneAt := some s.el } }
    else due

/-- RTK_RATE_CHANGE (R142): at a whole second of GPS time every rover takes its effective rate; a change asks for a
full body (R267). -/
def execRtkRateChange (s : State) : Host.Outcome State Fault Refusal :=
  let sec := s.now / oneSec
  .next <|
    if sec ≤ s.rtk.rateSec then s
    else
      let t : State := { s with rtk := { s.rtk with rateSec := sec } }
      s.boundSlots.foldl (fun t a =>
        let code := s.effRate (s.shedRate s.rtk.shed a)
        let t := t.setRk a { t.rk a with shed := decide (code < s.effRate (s.classRate a)) }
        if (t.rk a).rate = code then t
        else (t.setRk a { t.rk a with rate := code }).setBound a { t.bound a with fullWant := true }) t.showShed

/-- The fix period of a rover in base epochs. -/
def State.fixN (s : State) (a : Nat) : Nat := orOne (epochPeriod (s.rk a).rate / s.baseNs)

/-! ### Intake (R119 to R126) -/

/-- The RTK_INTAKE counters: 0 FORMAT, 1 NO_REF, 2 STALE, 3 REPEAT; the event at most once per rover per second (R153). -/
def State.intakeDrop (s : State) (a counter tow : Nat) : State :=
  let f := match counter with
    | 0 => F.RTK_INTAKE_FORMAT
    | 1 => F.RTK_INTAKE_NO_REF
    | 2 => F.RTK_INTAKE_STALE
    | _ => F.RTK_INTAKE_REPEAT
  let t := s.satInc f
  let quiet := match (s.rk a).evAt with
    | some e => !s.passed e oneSec
    | none => false
  if quiet then t
  else (t.setRk a { t.rk a with evAt := some s.el }).raise Ev.rtkIntake (le 1 a ++ le 1 counter ++ le 4 tow)

/-- Carrier frequency of a signal, 10 kHz (Table 3-1). -/
def carrier10k (signal : Nat) : Nat := if signal % 2 = 1 then 157542 else 117645

/-- A full record from its 12 bytes (Table 5-2). -/
def parseFull (p : List Byte) : FullRec :=
  let b := rdN p 0 1
  let w := rdN p 6 4
  ⟨b % 16, rdN p 1 1, bit b 4, bit b 5, bit b 6, rdN p 2 4, signed 26 w, w / 2 ^ 26, rdI p 10 2⟩

/-- The observation of a full record: ρ in µm. -/
def FullRec.obs (r : FullRec) : RoverObs :=
  ⟨r.signal, r.svid, (r.code : Int) * 20000, r.phase, r.phaseValid, r.half, r.slip, r.cn0, r.doppler⟩

/-- The observation of a delta record against its full record, `dt` ms after it (R120): λ D_F dt in µm is
299,792,458 × D × dt / (40 × f), f in 10 kHz. -/
def deltaObs (r : FullRec) (w : Nat) (dt : Int) : RoverObs :=
  let pred := (r.code : Int) * 20000 - 299792458 * r.doppler * dt / (40 * carrier10k r.signal)
  ⟨r.signal, r.svid, pred + signed 11 (w / 256) * 100000, r.phase + 4 * signed 13 (w / 2 ^ 19), bit w 7, r.half, bit w 6, r.cn0, r.doppler⟩

/-- GPS time of a body's epoch in ms. -/
def bodyEpoch (p : List Byte) : Nat := rdN p 4 2 * 604800000 + rdN p 0 4

/-- The FORMAT test of R122. -/
def State.bodyOk (s : State) (p : List Byte) : Bool :=
  let nsig := rdN p 6 1 % 128
  let full := bit (rdN p 6 1) 7
  let tow := rdN p 0 4
  let clk := rdI p 8 4
  decide (p.length = 12 + (if full then 12 else 4) * nsig) && decide (1 ≤ nsig) && decide (nsig ≤ 64)
    && decide (tow < 604800000) && decide (clk.natAbs ≤ 1000000) && tow * oneMs % s.baseNs == 0
    && (!full || (List.range nsig).all fun i =>
      let b := rdN p (12 + 12 * i) 1
      decide (1 ≤ b % 16) && decide (b % 16 ≤ 10) && decide (b < 128))

/-- The base record of an epoch that the lanes hold. -/
def State.baseRec (s : State) (epoch : Nat) : Option BaseRec := s.rtk.bases.find? fun b => b.epoch == epoch

/-- A full body's records become the rover's delta reference when it is later than the stored one (R123). -/
def State.takeRef (s : State) (a : Nat) (p : List Byte) : State :=
  let r := s.rk a
  let e := bodyEpoch p
  let id := rdN p 7 1
  let recs := (List.range (rdN p 6 1 % 128)).map fun i => parseFull (p.drop (12 + 12 * i))
  let new : FullRef := ⟨e, id, recs⟩
  match r.ref with
  | some old =>
    if old.epoch < e then
      let jump := decide (3 ≤ (id + 256 - old.fullId) % 256)
      s.setRk a { r with ref := some new, resetAll := r.resetAll || jump }
    else s
  | none => s.setRk a { r with ref := some new }

/-- The observations of a body; none when its reference does not serve (NO_REF). -/
def State.bodyObs (s : State) (a : Nat) (p : List Byte) : Option (List RoverObs) :=
  let n := rdN p 6 1 % 128
  let e := bodyEpoch p
  if bit (rdN p 6 1) 7 then some ((List.range n).map fun i => (parseFull (p.drop (12 + 12 * i))).obs)
  else
    match (s.rk a).ref with
    | some ref =>
      let far := decide (ref.epoch + 19 * s.fixN a * (s.baseNs / oneMs) < e)
      if ref.fullId ≠ rdN p 7 1 ∨ far then none
      else
        (List.range n).mapM fun i =>
          let w := rdN p (12 + 4 * i) 4
          (ref.recs[w % 64]?).map fun r => deltaObs r w ((e : Int) - ref.epoch)
    | none => none

/-- Intake of an observation body of rover `a` (R122 to R124): a body that passes every test is the rover's pending
epoch, and the rover has a filter from its first one. -/
def State.intake (s : State) (a : Nat) (p : List Byte) : State :=
  let e := bodyEpoch p
  let tow := rdN p 0 4
  if !s.bodyOk p then s.intakeDrop a 0 tow
  else
    let full := bit (rdN p 6 1) 7
    let s := if full then s.takeRef a p else s
    match s.bodyObs a p with
    | none => s.intakeDrop a 1 tow
    | some obs =>
      let newest := (s.rtk.bases.map (·.epoch)).foldl max 0
      let old := decide (e + orOne (s.fld F.RTK_CTL_MAX_AGE) * (s.baseNs / oneMs) < newest)
      let r := s.rk a
      let used := match r.lastUsed with
        | some u => decide (e ≤ u)
        | none => false
      if (s.baseRec e).isNone ∨ old then s.intakeDrop a 2 tow
      else if used then s.intakeDrop a 3 tow
      else
        let take (t : State) : State :=
          (t.setRk a { t.rk a with pending := some ⟨e, rdI p 8 4, obs⟩, live := true, had := true }).syncRtk
        match r.pending with
        | some q => if e ≤ q.epoch then s.intakeDrop a 3 tow else take (s.intakeDrop a 3 (q.epoch % 604800000))
        | none => take s

/-- OBSERVATION_INTAKE: an observation body of a rover slot reaches the lanes. -/
def execObservationIntake (slot : Fin 128) (body : List Byte) (s : State) : Host.Outcome State Fault Refusal :=
  .next (if s.flag F.RTK_CTL_EN then s.onLanes (s.laneInput.intake slot.val body) else s)

/-! ### Ambiguity resolution (R134, R135) -/

/-- The elevation at the base of a signal. -/
def elevOf (used : List (RoverObs × BaseSig)) (key : Nat) : Int := ((used.find? fun u => obsKey u == key).map (·.2.elev)).getD 0

/-- The set without every ambiguity of its lowest-elevation satellite (R134). -/
def dropLowest (used : List (RoverObs × BaseSig)) (S : List Nat) : List Nat :=
  match S with
  | [] => []
  | k :: _ =>
    let low := S.foldl (fun m j => if elevOf used j < elevOf used m then j else m) k
    S.filter fun j => satOf j != satOf low

/-- RTK_AR settings as they act. -/
def State.arMin (s : State) : Nat := max 4 (s.fld F.RTK_AR_AR_MIN)
def State.ratioThr (s : State) : Nat := max 15 (s.fld F.RTK_AR_RATIO_THR)
def State.validN (s : State) : Nat := orOne (s.fld F.RTK_AR_VALID_N)
def State.searchMax (s : State) : Nat := 256 * orOne (s.fld F.RTK_AR_SEARCH_MAX)

/-- The floats and the covariance of a set of ambiguities. -/
def Filt.floats (f : Filt) (S : List Nat) : Row := S.map fun k => f.x.getD (f.index k) 0
def Filt.cov (f : Filt) (S : List Nat) : Mat := S.map fun k => S.map fun l => f.p.at (f.index k) (f.index l)

/-- The search over one set: the ratio in 0.1 rounded down (255 and more saturate), the best integers, and whether the nodes stayed within
the limit. -/
def Filt.search (f : Filt) (limit : Nat) (S : List Nat) : Option (Nat × List Int) :=
  let (t, z, qz) := decorrelate (f.floats S) (f.cov S)
  let r := ilsSearch limit z qz
  match r.1 with
  | [a, b] => if limit < r.2 then none else some (if a.1 = 0 then 255 else (10 * b.1 / a.1).floor.toNat, backTransform t a.2)
  | _ => none

/-- The search loop of R134: the last ratio, and the candidate with the steps it took. -/
def State.searchLoop (s : State) (f : Filt) (used : List (RoverObs × BaseSig)) : Nat → List Nat → Nat → Nat → Nat × Option (List (Nat × Int) × Nat)
  | 0, _, _, ratio => (ratio, none)
  | n + 1, S, steps, ratio =>
    match f.search s.searchMax S with
    | none => (ratio, none)
    | some (r, ints) =>
      if s.ratioThr ≤ r then (r, some (S.zip ints, steps))
      else if steps = s.fld F.RTK_AR_PF_STEPS then (r, none)
      else
        let S' := dropLowest used S
        if S'.length < s.arMin then (r, none) else s.searchLoop f used n S' (steps + 1) r

/-- The position and velocity given a candidate's integers, and their covariance (R134). -/
def Filt.fixed (f : Filt) (cand : List (Nat × Int)) : Filt :=
  let S := cand.map (·.1)
  let qba := matOf 6 S.length fun i j => f.p.at i (f.index (S.getD j 0))
  let d := subR (f.floats S) (cand.map fun c => (c.2 : Rat))
  match solveM (f.cov S) (matT 6 qba) with
  | some m =>
    let k := matT 6 m
    { keys := [], x := subR (f.x.take 6) (matVec k d), p := subM (matOf 6 6 fun i j => f.p.at i j) (mulT k qba) }
  | none => { keys := [], x := f.x.take 6, p := matOf 6 6 fun i j => f.p.at i j }

/-- Two candidates agree (R135). -/
def agree (n : Nat) (a b : List (Nat × Int)) : Bool :=
  let common := a.filter fun p => b.any fun q => q.1 == p.1
  (common.all fun p => b.contains p) && decide (n ≤ common.length)

/-- The candidate's integers held over those held before (R135). -/
def holdOver (cand holds : List (Nat × Int)) : List (Nat × Int) :=
  cand ++ holds.filter fun p => !cand.any fun q => q.1 == p.1

/-! ### Publication (R137 to R140) -/

/-- The larger eigenvalue of the east-north covariance, m² (R138). -/
def Filt.majorVar (f : Filt) : Rat :=
  let a := f.p.at 0 0
  let d := f.p.at 1 1
  let b := f.p.at 0 1
  (a + d) / 2 + sqrtR ((a - d) * (a - d) / 4 + b * b)

/-- A protection level (R138): K (0.1) × σ + B (mm), from the variance in m², rounded up to the next mm, saturating. -/
def protLevel (k : Nat) (var : Rat) (b : Nat) : Nat := min 65535 ((sqrtR var * (100 * k : Nat)).ceil.toNat + b)

/-- A vector in m as whole mm. -/
def mmOf (v : Vec) : Int × Int × Int := (roundR (1000 * v.1), roundR (1000 * v.2.1), roundR (1000 * v.2.2))

/-- Whether fix records are published (R125, R148). -/
def State.publishes (s : State) : Bool := s.timState != tsFREE && s.rtk.origin.isSome

/-- Publish a record of rover `a` at a site time: ALERT, the class event, the fix table and the signal box (R138, R140). -/
def State.publish (s : State) (a : Nat) (r : FixRec) (at_ : Nat) : State :=
  let k := s.rk a
  let hal := 10 * s.fld F.RTK_AL_HAL
  let val := 10 * s.fld F.RTK_AL_VAL
  let alert := (hal != 0 && decide (hal < r.hpl)) || (val != 0 && decide (val < r.vpl))
  let age := min 65535 (ceilDiv (at_ - r.instant) oneMs)
  let r : FixRec := { r with flags := r.flags + 4 * b2n k.ifree + 16 * b2n alert + 64 * b2n k.shed, age := age, gen := k.gen }
  let old := (k.record.map (·.cls)).getD 0
  let tow := (k.record.map (·.tow)).getD 0
  let t := s.setRk a { k with record := some r, alert := alert }
  let t := if alert && !k.alert then t.raise Ev.rtkAlert (le 1 a ++ le 1 r.cls ++ le 2 r.hpl ++ le 2 r.vpl) else t
  let t := if r.cls ≠ old then t.raise Ev.rtkClass (le 1 a ++ le 1 r.cls ++ le 1 old ++ le 1 r.gen) else t
  (t.takeFix a r tow).syncRtk

/-- The filter of a rover. -/
def RtkRover.solution (r : RtkRover) : Filt := match r.filt with
  | some f => f.open
  | none => { keys := [], x := [], p := [] }

/-- The class and levels of the float solution (R137, R138). -/
def State.floatRec (s : State) (a : Nat) : FixRec :=
  let r := s.rk a
  let f := r.solution
  let cls := if r.codes < 4 ∨ r.filt.isNone then 0 else if f.majorVar ≤ 1 / 4 ∧ 4 ≤ r.phases then 2 else 1
  let b := (if cls = 2 then 1 else 10) * s.fld F.RTK_PL_B_FLOAT
  { cls := cls, nsat := r.nsat, pos := mmOf f.pos, vel := mmOf f.vel,
    hpl := if cls = 0 then 65535 else protLevel (s.fld F.RTK_PL_K_H) f.majorVar b,
    vpl := if cls = 0 then 65535 else protLevel (s.fld F.RTK_PL_K_V) (f.p.at 2 2) b }

/-- The record of a fixed solution. -/
def State.fixedRec (s : State) (f : Filt) (cand : List (Nat × Int)) (steps : Nat) : FixRec :=
  { cls := 3, flags := 8 * b2n (steps != 0), nsat := ((cand.map fun p => satOf p.1).eraseDups).length, namb := cand.length,
    pos := mmOf f.pos, vel := mmOf f.vel,
    hpl := protLevel (s.fld F.RTK_PL_K_H) f.majorVar (s.fld F.RTK_PL_B_FIX),
    vpl := protLevel (s.fld F.RTK_PL_K_V) (f.p.at 2 2) (s.fld F.RTK_PL_B_FIX) }

/-! ### The cycle (R24, R124, R134, R139) -/

/-- A rover's solution is published, if records are, as `rec`, with what the epoch adds (R149). -/
def State.publishSol (s : State) (a : Nat) (q : PendingObs) (b : BaseRec) (rec_ : FixRec) (ratio : Nat) (at_ : Nat) : State :=
  let k := s.rk a
  let changed := match k.baseGen with
    | some g => g != b.gen
    | none => false
  if !s.publishes then s
  else
    let r : FixRec := { rec_ with tow := q.epoch % 604800000, epoch := q.epoch, ratio := min 255 ratio, flags := rec_.flags + 32 * b2n changed }
    (s.setRk a { k with baseGen := some b.gen, noneSent := false }).publish a r at_

/-- Float result of a rover with a note of AR_NOTE (R134), which breaks the run of accepted candidates (R135). -/
def State.floatResult (s : State) (a : Nat) (q : PendingObs) (b : BaseRec) (note : Bool) (ratio : Nat) (at_ : Nat) : State :=
  let t := s.setRk a { s.rk a with cands := [] }
  t.publishSol a q b { s.floatRec a with flags := 128 * b2n note } ratio at_

/-- Cycles in a row beyond IF_ON, or below IF_OFF in ionosphere-free mode, by the float horizontal distance from the base antenna (R136). -/
def State.countDistance (s : State) (a : Nat) (b : BaseRec) : State :=
  let r := s.rk a
  match r.filt, b.pos with
  | some f, some p =>
    let e := s.ends p f.open.pos
    let d := fromEcef e.axes (subV e.rover e.base)
    let m2 := d.1 * d.1 + d.2.1 * d.2.1
    let lim : Nat := 100 * (if r.ifree then min (s.fld F.RTK_IF_IF_OFF) (s.fld F.RTK_IF_IF_ON - 1) else s.fld F.RTK_IF_IF_ON)
    let far := if r.ifree then decide (m2 < ((lim * lim : Nat) : Rat)) else decide (((lim * lim : Nat) : Rat) < m2)
    s.setRk a { r with ifCount := if far then r.ifCount + 1 else 0 }
  | _, _ => s

/-- The largest double-difference phase residual of a fixed solution in mm, rounded up (R134). -/
def State.residualMm (s : State) (a : Nat) (q : PendingObs) (b : BaseRec) (used : List (RoverObs × BaseSig)) (pos : Vec) (cand : List (Nat × Int)) : Nat :=
  let r := s.rk a
  let ds := doubles r.refs (if r.ifree then some r.wide else none) (combined r.ifree (s.pairs a b q used pos))
  cand.foldl (fun m c =>
    match ds.find? fun d => d.phase && d.key == c.1 with
    | some d => let v := d.v - d.lam * c.2; max m ((if v < 0 then -v else v) * 1000).ceil.toNat
    | none => m) 0

/-- Resolution of one rover (R134). -/
def State.resolve (s : State) (a : Nat) (q : PendingObs) (b : BaseRec) (reset : List Nat) (at_ : Nat) : State :=
  let r := s.rk a
  let used := s.usable r.ifree b q
  let f := r.solution
  let S := f.keys.filter fun k => 3 ≤ (Tbl.get ({} : Amb) r.amb k).uses && !reset.contains k
  if !s.flag F.RTK_CTL_AR_EN ∨ S.length < s.arMin then s.floatResult a q b false 0 at_
  else
    match s.searchLoop f used 16 S 0 0 with
    | (ratio, none) => s.floatResult a q b false ratio at_
    | (ratio, some (cand, steps)) =>
      let fix := f.fixed cand
      let resid := s.residualMm a q b used fix.pos cand
      if s.fld F.RTK_QC_RES_THR < resid then
        let t := s.setRk a { r with holds := [] }
        let t := t.floatResult a q b true ratio at_
        t.raise Ev.rtkResid (le 1 a ++ le 2 (min 65535 resid) ++ le 1 cand.length)
      else
        let prev := r.cands.take (s.validN - 1)
        let ok := prev.length = s.validN - 1 && prev.all (agree s.arMin cand)
        let t := s.setRk a { r with cands := (cand :: r.cands).take 15, holds := if ok then holdOver cand r.holds else r.holds }
        if ok then t.publishSol a q b (s.fixedRec fix cand steps) ratio at_
        else t.publishSol a q b { s.floatRec a with flags := 128 } ratio at_

/-- AR order (R134): moving rovers before parked ones, then the lower class, then the lower slot. -/
def State.arOrder (s : State) (l : List Nat) : List Nat :=
  let key (a : Nat) : Nat := (if s.roverMoving a then 0 else 8) + Tbl.get 0 s.rtk.clsOf a
  sortBy (fun p q => decide (key p < key q) || (key p == key q && decide (p < q))) l

/-- The rovers due at E(k) (R142): rover epoch k − 1 counts base epochs of GPS time. -/
def State.dueAt (s : State) (ek : Nat) : List Nat :=
  let j := (ek - gpsEpoch) / s.baseNs - 1
  s.boundSlots.filter fun a => (j + a) % s.fixN a == 0

/-- A due cycle of a rover without data (R139), which breaks its run of candidates (R135); it counts only while records are published. -/
def State.missed (s : State) (a : Nat) : State :=
  let r := s.rk a
  s.setRk a { r with cands := [], misses := r.misses + b2n s.publishes }

/-- One due rover's turn in a cycle that started at `ek`. -/
def State.turn (s : State) (ek : Nat) (x : RtkSol) (cut : Bool) : State :=
  let a := x.slot.val
  let r := s.rk a
  let s := s.setRk a { r with pending := none }
  match r.pending with
  | some q =>
    match s.baseRec q.epoch with
    | some b =>
      if !b.usable then s.missed a
      else
        let (t, reset) := s.update a q b
        let t := (t.setRk a { t.rk a with misses := if s.publishes then 0 else r.misses }).countDistance a b
        if cut then { t with rtk := { t.rtk with waiting := t.rtk.waiting ++ [(x, q, b)] } }
        else t.resolve a q b reset (ek + 1000 * x.pubUs)
    | none => s.missed a
  | none => s.missed a

/-- The time that a cycle takes, in µs, up to its last record so far (R145). -/
def State.cycleTook (s : State) (us : Nat) : State :=
  let us := max (s.fld F.RTK_CYCLE_LAST_US) (min 65535 us)
  (s.setFld F.RTK_CYCLE_LAST_US us).setFld F.RTK_CYCLE_MAX_US (max us (s.fld F.RTK_CYCLE_MAX_US))

/-- The rovers whose resolution was not taken publish float results with AR_SKIPPED (R134, R147). -/
def State.cutWaiting (s : State) : State :=
  let ws := s.rtk.waiting
  if ws.isEmpty then s
  else
    let t : State := { s with rtk := { s.rtk with waiting := [] } }
    let t := ws.foldl (fun t w => t.floatResult w.1.slot.val w.2.1 w.2.2 true 0 t.laneNow) t
    let t := if s.publishes then t.cycleTook ((t.laneNow - t.rtk.lastCycle) / 1000) else t
    let t := (t.satInc F.RTK_CUTS_CUTS).satAdd F.RTK_CUTS_SKIPPED_AR ws.length
    t.raise Ev.rtkLate (le 1 ws.length ++ le 1 0 ++ le 2 (t.fld F.RTK_CYCLE_LAST_US))

/-- The position states of every filter shift by a vector of ECEF m. -/
def State.shiftFilters (s : State) (axes : Geodetic) (d : Vec) : State :=
  let e := fromEcef axes d
  let move (f : RtkFilter) : RtkFilter := { f.open with x := addR (f.open.x.take 3) [e.1, e.2.1, e.2.2] ++ f.open.x.drop 3 }.close f.at_
  { s with rtk := { s.rtk with rovers := s.rtk.rovers.map fun p => (p.1, { p.2 with filt := p.2.filt.map move }) } }

/-- The base position changed since the last cycle (R149): the filters shift, and EV_RTK_BASE tells the length in mm. -/
def State.baseShift (s : State) (b : BaseRec) : State :=
  let t : State := { s with rtk := { s.rtk with baseGen := some b.gen, basePos := b.pos } }
  match s.rtk.baseGen, s.rtk.basePos, b.pos with
  | some g, some p, some q =>
    if g = b.gen then t
    else
      let d := subV (baseArp q) (baseArp p)
      (t.shiftFilters (geodetic (s.frameAt p)) d).raise Ev.rtkBase (le 1 b.gen ++ zeros 3 ++ le 4 (roundR (1000 * sqrtR (dotV d d))).toNat)
  | _, _, _ => t

/-- The filters stand in the axes of the site origin: a new origin, which applies from the next cycle (R151), turns and shifts them. Before
one is set they stand in those of the base antenna (DESIGN CHOICE, entry 167). -/
def State.reframe (s : State) (b : BaseRec) : State :=
  let target := match s.rtk.origin with
    | some o => some o
    | none => b.pos.map fun p => tenths (baseArp p)
  match s.rtk.frame, target with
  | some o, some n =>
    if o = n ∨ s.rtk.origin.isNone then s
    else
      let a := geodetic (metres o)
      let c := geodetic (metres n)
      let turn (v : Vec) : Vec := fromEcef c (toEcef a v)
      let cols := [turn (1, 0, 0), turn (0, 1, 0), turn (0, 0, 1)]
      let rot (i j : Nat) : Rat := let v := cols.getD j (0, 0, 0); if i = 0 then v.1 else if i = 1 then v.2.1 else v.2.2
      let move (f : RtkFilter) : RtkFilter :=
        let g := f.open
        (g.transform g.keys (matOf g.size g.size fun i j =>
          if i < 3 ∧ j < 3 then rot i j else if 3 ≤ i ∧ i < 6 ∧ 3 ≤ j ∧ j < 6 then rot (i - 3) (j - 3) else if i = j then 1 else 0)).close f.at_
      let t : State := { s with rtk := { s.rtk with frame := some n, rovers := s.rtk.rovers.map fun p => (p.1, { p.2 with filt := p.2.filt.map move }) } }
      t.shiftFilters c (subV (metres o) (metres n))
  | none, some n => { s with rtk := { s.rtk with frame := some n } }
  | _, none => s

/-- RTK_CYCLE (R24): the cycle for rover epoch k − 1 at E(k), once per base epoch instant. The operand tells when the resolution of each
due rover is taken and its record published; from the first rover in AR order whose resolution would start more than 6.6 ms after E(k),
the rest wait for the deadline cut. -/
def State.rtkCycle (s : State) (ek : Nat) (sols : List RtkSol) : State :=
  let s := s.cutWaiting
  let s : State := ({ s with rtk := { s.rtk with lastCycle := ek } } : State).setFld F.RTK_CYCLE_LAST_US 0
  let s := match s.baseRec ((ek - s.baseNs - gpsEpoch) / oneMs) with
    | some b => (s.reframe b).baseShift b
    | none => s
  let s : State :=
    if s.rtk.dropHolds then
      { s with rtk := { s.rtk with dropHolds := false, rovers := s.rtk.rovers.map fun p => (p.1, { p.2 with holds := [], cands := [] }) } }
    else s
  let due := s.arOrder (s.dueAt ek)
  let sol (a : Nat) : RtkSol := (sols.find? fun x => x.slot.val == a).getD { slot := ⟨a % 128, Nat.mod_lt _ (by decide)⟩ }
  let xs := due.map sol
  let first := xs.takeWhile fun x => x.arUs ≤ 6600
  let rec_ (t : State) (x : RtkSol) : Option FixRec := (t.rk x.slot.val).record
  let t := first.foldl (fun t x => let u := t.turn ek x false; if rec_ u x = rec_ t x then u else u.cycleTook x.pubUs) s
  let t := (xs.drop first.length).foldl (fun t x => t.turn ek x true) t
  t.syncRtk

/-- The latest epoch instant that the lanes know of (R26). -/
def State.laneEpoch (s : State) : Nat := s.laneNow / s.baseNs * s.baseNs

def execRtkCycle (sols : List RtkSol) (s : State) : Host.Outcome State Fault Refusal :=
  let ek := s.laneEpoch
  .next (s.onLanes (if s.flag F.RTK_CTL_EN && s.rtk.lastCycle < ek then s.rtkCycle ek sols else s))

/-- AR_DEADLINE_CUT (R134): at E(k) + 6.6 ms. -/
def execArDeadlineCut (s : State) : Host.Outcome State Fault Refusal :=
  .next (s.onLanes (if s.rtk.lastCycle + 6600000 < s.laneNow then s.cutWaiting else s))

/-- FIX_LOST_NONE (R139): after LOST_N due cycles without data a record of class NONE is published, once. -/
def execFixLostNone (slot : Fin 128) (s : State) : Host.Outcome State Fault Refusal :=
  let a := slot.val
  let r := s.rk a
  .next <|
    if orOne (s.fld F.RTK_CTL_LOST_N) ≤ r.misses && !r.noneSent && s.publishes && s.flag F.RTK_CTL_EN && s.lanesRun then
      let old : FixRec := r.record.getD {}
      let new : FixRec := { pos := old.pos, tow := old.tow, epoch := old.epoch }
      (s.setRk a { r with noneSent := true }).publish a new s.laneNow
    else s

/-- IONO_FREE_SWITCH (R136): after ten consecutive cycles beyond IF_ON, or below IF_OFF, the mode changes and every
ambiguity of the rover is reset. -/
def execIonoFreeSwitch (slot : Fin 128) (s : State) : Host.Outcome State Fault Refusal :=
  let a := slot.val
  let r := s.rk a
  .next <|
    if s.lanesRun ∧ 10 ≤ r.ifCount ∧ (s.flag F.RTK_CTL_IF_EN ∨ r.ifree) then
      (s.setRk a { r with ifree := !r.ifree, ifCount := 0, resetAll := true, holds := [], cands := [], wide := [], mw := [] }).syncRtk
    else s

/-! ### Registers and commands -/

/-- RTK_AR_DISABLE (R135): AR_EN is cleared; the holds go at the next cycle. -/
def State.arDisable (s : State) : State :=
  let t := s.setFld F.RTK_CTL_AR_EN 0
  { t with rtk := { t.rtk with dropHolds := true } }
def execRtkArDisable (s : State) : Host.Outcome State Fault Refusal := .next s.arDisable

/-- RTK_CNT_CLR (R147). -/
def State.rtkCntClr (s : State) : State := (s.resetRegs [R.RTK_INTAKE, R.RTK_CUTS]).setFld F.RTK_CYCLE_MAX_US 0
def execRtkCntClr (s : State) : Host.Outcome State Fault Refusal := .next s.rtkCntClr

/-- RTK_SET_SITE_ORIGIN (R148, R151). -/
def doRtkSetSiteOrigin (s : State) (_ _ : Nat) (p : List Byte) : Res :=
  withLen s 24 p <|
    let x := rdI p 0 8
    let y := rdI p 8 8
    let z := rdI p 16 8
    if !ecefInRange x y z then refuse s St.badParameter
    else if !s.fleetHeld then refuse s St.fleetNotStopped
    else okay ({ s with rtk := { s.rtk with origin := some (x, y, z) } } : State).syncRtk
def opRtkSetSiteOrigin : Op := opL 0x0400 1 doRtkSetSiteOrigin
def execRtkSetSiteOrigin (c : Cmd) (s : State) : Host.Outcome State Fault Refusal := .next (s.host c opRtkSetSiteOrigin)

/-- RTK_SET_RATE_CLASS (R151, R152). -/
def doRtkSetRateClass (s : State) (_ _ : Nat) (p : List Byte) : Res :=
  withLen s 8 p <|
    let act := rdN p 0 1
    let c := rdN p 1 1
    let mv := rdN p 2 1
    let pk := rdN p 3 1
    let slot := rdN p 4 1
    let answer (t : State) : Res :=
      let k := t.rtkClass c
      okWith t (le 1 k.moving ++ le 1 k.parked ++ le 1 (t.effRate k.moving) ++ le 1 (t.effRate k.parked))
    if 2 < act ∨ 7 < c ∨ (act = 1 ∧ (7 < mv ∨ 7 < pk)) ∨ (act = 2 ∧ 127 < slot) then refuse s St.badParameter
    else if act = 1 then
      answer { s with rtk := { s.rtk with classes := Tbl.put {} s.rtk.classes c { s.rtkClass c with moving := mv, parked := pk } } }
    else if act = 2 then answer { s with rtk := { s.rtk with clsOf := Tbl.put 0 s.rtk.clsOf slot c } }
    else answer s
def opRtkSetRateClass : Op := opL 0x0401 1 doRtkSetRateClass
def execRtkSetRateClass (c : Cmd) (s : State) : Host.Outcome State Fault Refusal := .next (s.host c opRtkSetRateClass)

/-- RTK_SET_NOISE (R131, R151). -/
def doRtkSetNoise (s : State) (_ _ : Nat) (p : List Byte) : Res :=
  withLen s 14 p <|
    let act := rdN p 0 1
    let c := rdN p 1 1
    let k := s.rtkClass c
    let n : RtkClass := { k with qh := rdN p 2 2, qv := rdN p 4 2, phA := rdN p 6 1, phB := rdN p 7 1, cdA := rdN p 8 1, cdB := rdN p 9 1, l1c := rdN p 10 1 }
    let bad := n.qh = 0 ∨ n.qv = 0 ∨ n.phA = 0 ∨ n.phB = 0 ∨ n.cdA = 0 ∨ n.cdB = 0 ∨ n.l1c < 10 ∨ 100 < n.l1c
    let answer (t : State) : Res :=
      let k := t.rtkClass c
      okWith t (le 2 k.qh ++ le 2 k.qv ++ le 1 k.phA ++ le 1 k.phB ++ le 1 k.cdA ++ le 1 k.cdB ++ le 1 k.l1c ++ zeros 3)
    if 1 < act ∨ 7 < c ∨ (act = 1 ∧ bad) then refuse s St.badParameter
    else if act = 1 then answer { s with rtk := { s.rtk with classes := Tbl.put {} s.rtk.classes c n } }
    else answer s
def opRtkSetNoise : Op := opL 0x0402 1 doRtkSetNoise
def execRtkSetNoise (c : Cmd) (s : State) : Host.Outcome State Fault Refusal := .next (s.host c opRtkSetNoise)

/-- RTK_RESET_ROVER (R141, R152): GEN counts one, and the filter, holds and pending epoch go; so does the delta reference, as only a full
body starts the new filter. The last used epoch stands (R124). -/
def doRtkResetRover (s : State) (_ _ : Nat) (p : List Byte) : Res :=
  withLen s 4 p <|
    let a := rdN p 0 1
    if 127 < a then refuse s St.badParameter
    else
      let t := (s.setRk a { s.rk a with had := true }).newFilter a
      let t := t.setRk a { t.rk a with lastUsed := (s.rk a).lastUsed }
      okWith t (le 1 (t.rk a).gen ++ zeros 3)
def opRtkResetRover : Op := opL 0x0403 1 doRtkResetRover
def execRtkResetRover (c : Cmd) (s : State) : Host.Outcome State Fault Refusal := .next (s.host c opRtkResetRover)

/-- RTK_GET_FIX (R140). -/
def doRtkGetFix (s : State) (_ _ : Nat) (p : List Byte) : Res :=
  withLen s 4 p <|
    let a := rdN p 0 1
    let n := rdN p 1 1
    if n = 0 ∨ 32 < n ∨ 128 < a + n then refuse s St.badParameter
    else okWith s ((List.range n).map fun i => s.fixBytes (a + i)).flatten
def opRtkGetFix : Op := opL 0x0404 0 doRtkGetFix
def execRtkGetFix (c : Cmd) (s : State) : Host.Outcome State Fault Refusal := .next (s.host c opRtkGetFix)

end Sys2Proof.Machine
end

