-- ==== Sys2Proof/Machine/SignalBox.lean ====
section
/-! DEFINITION. The signal box's rows: lapses and expiries of authorities, holds and AVOID sets, and the SBX commands
(chapter 07; events R201, Table 7-14). The pass and the requests of allotment stand in Pass.lean. -/

namespace Sys2Proof.Machine

/-! ### Expiries (R186, R188, R192, R195, R196) -/

/-- AUTHORITY_EXPIRY (R186): an authority lapses at its EXPIRY and its unoccupied blocks are freed. -/
def execAuthorityExpiry (slot : Fin 128) (s : State) : Host.Outcome State Fault Refusal :=
  let a := slot.val
  let r := s.sx a
  .next (s.onLanes (if r.auth.isSome && (s.laneAuth a).isNone then (s.setSx a { r with auth := none }).retry else s))

/-- RELEASING_EXPIRY (R188): RELEASING blocks are freed at the EXPIRY of the superseded authority. -/
def execReleasingExpiry (slot : Fin 128) (s : State) : Host.Outcome State Fault Refusal :=
  let a := slot.val
  let r := s.sx a
  let live := s.relLive r
  .next (s.onLanes (if live.length < r.releasing.length then (s.setSx a { r with releasing := live }).retry else s))

/-- AVOID_EXPIRY (R192): what a cut-back put into the AVOID set ends with the AVOID-th whole superframe after it. -/
def execAvoidExpiry (slot : Fin 128) (s : State) : Host.Outcome State Fault Refusal :=
  let r := s.sx slot.val
  let left := r.avoid.filter fun x => decide (s.laneSf ≤ x.2)
  .next (s.onLanes (if left.length < r.avoid.length then s.setSx slot.val { r with avoid := left } else s))

/-- Whether two whole superframes have ended since the one in which a withdrawing preview was committed (R196). -/
def State.wdLapsed (s : State) (w : Withdraw) : Bool :=
  match w.sf with
  | some f => decide (f + 3 ≤ s.laneSf)
  | none => false

/-- WITHDRAW_TIMEOUT (R196): two whole superframes after the superframe in which a withdrawing preview was committed, its
blocks are granted without an acknowledgement. Each preview so ended counts once and raises one event, which names the first of its
blocks (entry 170). -/
def execWithdrawTimeout (slot : Fin 128) (s : State) : Host.Outcome State Fault Refusal :=
  let a := slot.val
  let r := s.sx a
  let done := r.withdraws.filter s.wdLapsed
  let ids := (done.map (·.prevId)).eraseDups
  let firsts := ids.filterMap fun i => done.find? fun w => w.prevId == i
  .next <| s.onLanes <|
    if done.isEmpty then s
    else
      let t := s.setSx a { r with withdraws := r.withdraws.filter fun x => !s.wdLapsed x }
      (firsts.foldl (fun t w =>
        (t.satInc F.SBX_CNT1_WD_TIMEOUT).raise Ev.sbxWithdraw (le 1 a ++ le 1 w.forSlot ++ le 2 w.prevId ++ le 2 w.block)) t).retry

/-- PREVIEW_EXPIRY (R195): a hold that is not converted ends at its EXPIRY, without a preview. -/
def execPreviewExpiry (slot : Fin 128) (s : State) : Host.Outcome State Fault Refusal :=
  let r := s.sx slot.val
  .next <| s.onLanes <|
    match r.tent with
    | some t =>
      match t.expiry with
      | some e => if e < s.laneNow then (s.setSx slot.val { r with tent := none }).retry else s
      | none => s
    | none => s

/-- PREVIEW_DISABLE (R197): clearing PREVIEW_EN withdraws every tentative hold. -/
def State.previewDisable (s : State) : State :=
  let t := s.setFld F.SBX_CTL_PREVIEW_EN 0
  (t.sbxSlots.foldl State.withdrawAll t).syncSbx
def execPreviewDisable (s : State) : Host.Outcome State Fault Refusal := .next s.previewDisable

/-- SBX_CNT_CLR (R200). -/
def State.sbxCntClr (s : State) : State := (s.resetRegs [R.SBX_CNT0, R.SBX_CNT1]).setFld F.SBX_LOAD_MAX_US 0
def execSbxCntClr (s : State) : Host.Outcome State Fault Refusal := .next s.sbxCntClr

/-! ### Maps (R173, R174) -/

/-- EV_SBX_MAP: result, CODE, MAP_ID, INDEX. -/
def State.mapEvent (s : State) (result code id index : Nat) : State :=
  s.raise Ev.sbxMap (le 1 result ++ le 1 code ++ le 4 id ++ le 2 index)

/-- An image in the shared partition: offset and length. -/
def imageRangeOk (off len : Nat) : Bool := off % 4 == 0 && decide (off + len ≤ 0x08000000)

/-- SBX_MAP_STAGE (R173, R200). -/
def doSbxMapStage (s : State) (_ _ : Nat) (p : List Byte) : Res :=
  withLen s 8 p <|
    let off := rdN p 0 4
    let len := rdN p 4 4
    if !imageRangeOk off len then refuse s St.badParameter
    else accepted { s with sbx := { s.sbx with staging := some (off, len) } } []
def opSbxMapStage : Op := opL 0x0500 1 doSbxMapStage
def execSbxMapStage (c : Cmd) (s : State) : Host.Outcome State Fault Refusal := .next (s.host c opSbxMapStage)

/-- SBX_MAP_STAGE_DONE (R173): the copied image passes its check and is staged, or is refused with its code. -/
def execSbxMapStageDone (s : State) : Host.Outcome State Fault Refusal :=
  .next <| s.onLanes <|
    match s.sbx.staging with
    | none => s
    | some (off, len) =>
      let p := bytesAt s.dram off len
      let t : State := { s with sbx := { s.sbx with staging := none } }
      match checkMap p s.rtk.origin with
      | some (code, kind, index) =>
        let t := ((t.setFld F.SBX_MAP_ERR_CODE code).setFld F.SBX_MAP_ERR_KIND kind).setFld F.SBX_MAP_ERR_INDEX index
        t.mapEvent 1 code (rdN p 8 4) index
      | none =>
        let m := parseMap p
        let t : State := { t with sbx := { t.sbx with staged := some m } }
        ((t.setReg R.SBX_MAP_STG (BitVec.ofNat 32 m.id)).setReg R.SBX_MAP_ERR 0).syncSbx.mapEvent 0 0 m.id 0

/-- Whether block `b` is the same in two maps, with the records of the points at its ends (R174). -/
def sameBlock (m n : SiteMap) (b : Nat) : Bool :=
  m.blocks[b]? == n.blocks[b]? && (m.blocks[b]?).isSome && (m.pointsOf b).all fun p => m.points[p]? == n.points[p]?

/-- The map whose indices the rovers' blocks have: the active one, or the one withdrawn last, which stands in the NOR settings (R175). -/
def State.groundMap (s : State) : Option SiteMap := s.sbx.map.orElse fun _ => s.sbx.norMap

/-- The first rover whose authority or RELEASING blocks prevent the activation of a map (R174). -/
def State.mapBlocker (s : State) (n : SiteMap) : Option Nat :=
  match s.groundMap with
  | none => none
  | some m =>
    s.sbxSlots.find? fun a =>
      let bs := (match s.laneAuth a with
        | some x => x.blocks.map wordBlock
        | none => []) ++ (s.relLive (s.sx a)).map (·.block)
      bs.any fun b => !sameBlock m n b

/-- SBX_MAP_ACTIVATE (R174): it takes effect at the start of the next pass. -/
def doSbxMapActivate (s : State) (_ _ : Nat) (p : List Byte) : Res :=
  withLen s 4 p <|
    match s.sbx.staged with
    | some m =>
      if m.id ≠ rdN p 0 4 then (s, some ⟨St.badParameter, []⟩)
      else
        match s.mapBlocker m with
        | some a => (s, some ⟨St.fleetNotStopped, le 1 a ++ zeros 3⟩)
        | none => okWith { s with sbx := { s.sbx with activate := some m } } (le 1 255 ++ zeros 3)
    | none => refuse s St.badParameter
def opSbxMapActivate : Op := opL 0x0501 1 doSbxMapActivate
def execSbxMapActivate (c : Cmd) (s : State) : Host.Outcome State Fault Refusal := .next (s.host c opSbxMapActivate)

/-! ### Commands (R198, R200) -/

/-- Whether END_OFS of a route lies beyond the LENGTH of its last block (Table 7-4): out of range on the active map. -/
def State.beyondEnd (s : State) (mapId endOfs : Nat) (route : List Nat) : Bool :=
  match s.sbx.map, route.getLast? with
  | some m, some w => m.id == mapId && decide (wordBlock w < m.blocks.length) && decide ((m.block (wordBlock w)).len < endOfs)
  | _, _ => false

/-- SBX_REQUEST (R182, Table 7-7). -/
def doSbxRequest (s : State) (_ _ : Nat) (p : List Byte) : Res :=
  let n := rdN p 8 2
  if p.length < 12 then refuse s St.badLength
  else if p.length ≠ 12 + 2 * n then refuse s St.badLength
  else
    let a := rdN p 0 1
    let route := (List.range n).map fun i => rdN p (12 + 2 * i) 2
    if 127 < a ∨ 7 < rdN p 1 1 ∨ 1 < rdN p 2 1 ∨ n = 0 ∨ 512 < n ∨ route.any (fun w => decide (32768 ≤ w)) ∨ s.beyondEnd (rdN p 4 4) (rdN p 10 2) route then refuse s St.badParameter
    else
      let (t, r) := s.routeRequest ⟨a, rdN p 1 1, bit (rdN p 2 1) 0, rdN p 4 4, route, rdN p 10 2⟩
      okWith t (le 1 r.result ++ le 1 r.reason ++ le 1 r.blocks ++ le 1 r.waitOn ++ le 2 r.id ++ zeros 2)
def opSbxRequest : Op := opL 0x0502 1 doSbxRequest
def execSbxRequest (c : Cmd) (s : State) : Host.Outcome State Fault Refusal := .next (s.host c opSbxRequest)

/-- SBX_RELEASE (R180, R198): mode 0 drops the route, so that the authority lapses; mode 1 ends a NONE hold. -/
def doSbxRelease (s : State) (_ _ : Nat) (p : List Byte) : Res :=
  withLen s 4 p <|
    let a := rdN p 0 1
    let mode := rdN p 1 1
    if 127 < a ∨ 1 < mode then refuse s St.badParameter
    else if mode = 0 then
      let t := s.endWait a
      okWith (t.setSx a { t.sx a with route := [] }).syncSbx (le 2 0 ++ zeros 2)
    else
      let r := s.sx a
      if !r.noneHold then refuse s St.wrongState
      else okWith (s.setSx a { r with noneHold := false, occ := [] }).retry (le 2 r.occ.length ++ zeros 2)
def opSbxRelease : Op := opL 0x0503 1 doSbxRelease
def execSbxRelease (c : Cmd) (s : State) : Host.Outcome State Fault Refusal := .next (s.host c opSbxRelease)

/-- SBX_REVOKE (R198): mode 0 issues a REVOKED authority at the rover's position, mode 1 cuts back to the current block; the route and the
wait end in both. A rover that has neither a current block nor a live authority is issued nothing, and the reply gives the AUTH_ID
issued last (entry 170). -/
def doSbxRevoke (s : State) (_ _ : Nat) (p : List Byte) : Res :=
  withLen s 4 p <|
    let a := rdN p 0 1
    let mode := rdN p 1 1
    if 127 < a ∨ 1 < mode then refuse s St.badParameter
    else
      let t := (s.curtail a (mode == 0)).1.retry
      let issued := (s.cutBlock a).isSome
      okWith t (le 2 (if issued then (s.sx a).authId else ((s.sx a).authId + 65535) % 65536) ++ zeros 2)
def opSbxRevoke : Op := opL 0x0504 1 doSbxRevoke
def execSbxRevoke (c : Cmd) (s : State) : Host.Outcome State Fault Refusal := .next (s.host c opSbxRevoke)

/-- SBX_ZONE_SET (R200): volatile; a capacity below the present count acts as a map capacity change under R174. -/
def doSbxZoneSet (s : State) (_ _ : Nat) (p : List Byte) : Res :=
  withLen s 4 p <|
    let z := rdN p 0 2
    let c := rdN p 2 1
    match s.sbx.map with
    | some m =>
      if m.zones.length ≤ z ∨ 128 < c then refuse s St.badParameter
      else
        let old := s.zoneCapOf m z
        let n := (s.zoneCount m z).length
        let t : State := { s with sbx := { s.sbx with zoneCap := Tbl.put none s.sbx.zoneCap z (some c) } }
        let t := if c < n then t.raise Ev.sbxZone (le 2 z ++ le 1 c ++ le 1 n) else t
        okWith t.retry (le 1 old ++ le 1 n ++ zeros 2)
    | none => refuse s St.badParameter
def opSbxZoneSet : Op := opL 0x0505 1 doSbxZoneSet
def execSbxZoneSet (c : Cmd) (s : State) : Host.Outcome State Fault Refusal := .next (s.host c opSbxZoneSet)

/-- The rover entry of SBX_GET_STATE (Table 7-10). -/
def State.sbxRoverEntry (s : State) (a : Nat) : List Byte :=
  let r := s.sx a
  let live := s.laneAuth a
  let blocks := match live with
    | some x => x.blocks
    | none => []
  let flags := b2n live.isSome + 2 * b2n (!r.route.isEmpty) + 4 * b2n r.waitOn.isSome + 8 * b2n r.tent.isSome
    + 16 * b2n (!(s.relLive r).isEmpty) + 32 * b2n r.noneHold + 64 * b2n (!(s.avoiding r).isEmpty)
  let ms := match live with
    | some x => ceilDiv (s.expiryOf x - s.laneNow) oneMs
    | none => 0
  le 1 a ++ le 1 flags ++ le 1 r.prio ++ le 1 blocks.length ++ le 2 ((r.auth.map (·.id)).getD ((r.authId + 65535) % 65536))
    ++ le 1 (r.waitOn.getD 255) ++ le 1 r.reason ++ le 2 (wordBlock (blocks.headD 0)) ++ le 2 (wordBlock (blocks.getLastD 0)) ++ le 4 ms

/-- The block entry. -/
def State.sbxBlockEntry (s : State) (b : Nat) : List Byte :=
  let slots := s.sbxSlots
  let rel := slots.find? fun a => (s.relLive (s.sx a)).any fun x => x.block == b
  let com := slots.find? fun a => match s.laneAuth a with
    | some x => (x.blocks.map wordBlock).contains b
    | none => false
  let occ := slots.find? fun a => (s.sx a).occ.contains b
  let st := if rel.isSome then 3 else if com.isSome then 1 else if (s.tentHolder b).isSome then 2 else 0
  let h := (((rel.orElse fun _ => com).orElse fun _ => s.tentHolder b).orElse fun _ => occ).getD 0
  le 2 (st + 4 * b2n occ.isSome + 16 * h)

/-- The zone entry. -/
def State.sbxZoneEntry (s : State) (m : SiteMap) (z : Nat) : List Byte :=
  let n := (s.zoneCount m z).length
  let c := s.zoneCapOf m z
  le 1 c ++ le 1 n ++ le 1 (b2n (Tbl.get none s.sbx.zoneCap z).isSome + 2 * b2n (s.sbx.zoneStops.contains z) + 4 * b2n (decide (c < n))) ++ le 1 0

/-- The points entry: locked to the leg a committed authority crossing it uses (Table 7-5). -/
def State.sbxPointsEntry (s : State) (m : SiteMap) (p : Nat) : List Byte :=
  let es := m.pointEnds p
  let legs := es.tail.map (· % 16384)
  let crosses (a : Nat) : Option Nat := match s.laneAuth a with
    | some x =>
      let bs := x.blocks.map wordBlock
      (bs.zip bs.tail).findSome? fun q =>
        if (es.headD 0) % 16384 = q.1 then legs.findIdx? (· == q.2)
        else if (es.headD 0) % 16384 = q.2 then legs.findIdx? (· == q.1) else none
    | none => none
  let lock := s.sbxSlots.findSome? fun a => (crosses a).map fun l => (a, l)
  let held := ((m.pointBlocks p).flatMap s.holders).head?
  let holder := ((lock.map (·.1)).orElse fun _ => held).getD 0
  le 2 ((lock.map (·.2)).getD 0 + 4 * b2n lock.isSome + 8 * b2n held.isSome + 16 * holder)

/-- SBX_GET_STATE (R200). -/
def doSbxGetState (s : State) (_ _ : Nat) (p : List Byte) : Res :=
  withLen s 4 p <|
    let kind := rdN p 0 1
    let first := rdN p 1 2
    let n := rdN p 3 1
    let all (size most : Nat) (f : Nat → List Byte) : Res :=
      if n = 0 ∨ most < n ∨ size < first + n then refuse s St.badParameter
      else okWith s ((List.range n).map fun i => f (first + i)).flatten
    match kind, s.sbx.map with
    | 0, _ => all 128 64 s.sbxRoverEntry
    | 1, some m => all m.blocks.length 255 s.sbxBlockEntry
    | 2, some m => all m.zones.length 64 (s.sbxZoneEntry m)
    | 3, some m => all m.points.length 255 (s.sbxPointsEntry m)
    | _, _ => refuse s St.badParameter
def opSbxGetState : Op := opL 0x0506 0 doSbxGetState
def execSbxGetState (c : Cmd) (s : State) : Host.Outcome State Fault Refusal := .next (s.host c opSbxGetState)

end Sys2Proof.Machine
end

