-- ==== Sys2Proof/Machine/Allotment.lean ====
section
/-! DEFINITION. Task allotment (chapter 08; interactions R224, Table 8-4): the task table, rounds with their cost matrix and auction, dispatch and route
searches, run-ahead proposals, charging under the site cap, and the ALT commands. -/

namespace Sys2Proof.Machine

/-! Task states (Table 8-2) and types (Table 8-1). -/
def tkFREE : Nat := 0
def tkPENDING : Nat := 1
def tkPROPOSED : Nat := 2
def tkTO_ORIGIN : Nat := 3
def tkWORK_O : Nat := 4
def tkTO_DEST : Nat := 5
def tkWORK_D : Nat := 6
def tkDONE : Nat := 7
def tkCANCELLED : Nat := 8
def tkFAILED : Nat := 9
def tyCharge : Nat := 3
def tyPark : Nat := 4
def noBlock : Nat := 65535

/-! ### The task table (R202 to R204) -/

def State.putTask (s : State) (i : Nat) (t : Task) : State :=
  { s with alt := { s.alt with tasks := Tbl.put {} s.alt.tasks i t } }

def State.syncAlt (s : State) : State :=
  let t := s.setFld F.ALT_STAT_PENDING (min 4095 (s.alt.tasks.filter fun p => p.2.state == tkPENDING).length)
  let match_ := match s.alt.lmk, s.sbx.map with
    | some l, some m => l.mapId == m.id
    | _, _ => false
  (t.setFld F.ALT_STAT_NO_LMK (b2n (!match_))).setFld F.ALT_STAT_BUSY (b2n s.alt.round.isSome)

/-- A task changes its state, with EV_ALT_TASK; a final state removes it from the table in the same step (R203). On its
return to PENDING it has no rover, and a charge task placed on a bay is to be placed again. -/
def State.setTask (s : State) (i new reason : Nat) : State :=
  let t := s.task i
  let slot := t.slot
  let u : Task :=
    if new = tkPENDING then { t with state := new, slot := 255, tries := 0, search := none, dest := if t.anyBay then noBlock else t.dest }
    else { t with state := new }
  let s := s.putTask i (if tkDONE ≤ new then {} else u)
  (s.raise Ev.altTask (le 2 i ++ le 1 new ++ le 1 t.state ++ le 1 slot ++ le 1 reason)).syncAlt

/-- The task proposed for a rover (R204). -/
def State.proposed (s : State) (a : Nat) : Option Nat :=
  ((s.alt.tasks.filter fun p => p.2.slot == a && p.2.state == tkPROPOSED).map (·.1)).head?

/-- The proposal of a rover ends and its hold is withdrawn by a preview (R219). -/
def State.endProposal (s : State) (a : Nat) : State :=
  match s.proposed a with
  | some i => (s.withdrawAll a).setTask i tkPENDING 0
  | none => s

/-- A task is taken up by rover `a` (R213, R214): TO_ORIGIN, or TO_DEST without an origin; its route is searched in the
next superframe. -/
def State.takeUp (s : State) (a i : Nat) : State :=
  let t := s.task i
  let s := s.putTask i { t with slot := a, search := some s.laneSf, tries := 0 }
  s.setTask i (if t.origin = noBlock then tkTO_DEST else tkTO_ORIGIN) 0

/-- A task that is not finished returns to PENDING (R216, R217, R222, R224), and a route of it that the signal box still holds is dropped
(entry 171); the hold of a proposal is withdrawn. -/
def State.giveBack (s : State) (i reason : Nat) : State :=
  let t := s.task i
  let s := if t.state = tkPROPOSED then s.withdrawAll t.slot
    else if t.state = tkTO_ORIGIN ∨ t.state = tkTO_DEST then (s.endWait t.slot).setSx t.slot { (s.endWait t.slot).sx t.slot with route := [] }
    else s
  s.setTask i tkPENDING reason

/-- A task under way fails: the proposal of its rover ends (R215, R219, Table 8-4). -/
def State.failTask (s : State) (i reason : Nat) : State :=
  let t := s.task i
  let u := s.setTask i tkFAILED reason
  if tkTO_ORIGIN ≤ t.state ∧ t.state ≤ tkWORK_D then u.endProposal t.slot
  else if t.state = tkPROPOSED then u.withdrawAll t.slot else u

/-! ### Bays (R221, R226) -/

/-- The block of a bay. -/
def State.bayBlock (s : State) (b : Nat) : Nat := s.fld (F.ALT_BAY_BLOCK b)

/-- The bays free for rover `a` (R221, R226). -/
def State.freeBays (s : State) (a : Nat) : List Nat :=
  match s.sbx.map with
  | some m =>
    (List.range 64).filter fun b =>
      let k := s.bayBlock b
      s.flag (F.ALT_BAY_EN b) && (m.block k).bay && (s.holders k).all (· == a)
        && decide (s.fld (F.ALT_ROVER_CHG_KW a) ≤ s.fld (F.ALT_BAY_KW b))
        && !(s.alt.tasks.any fun p => p.2.type == tyCharge && p.2.state != tkFREE && p.2.dest == k)
  | none => []

/-- The phases of a bay. -/
def State.bayPhases (s : State) (b : Nat) : List Nat :=
  let p := s.fld (F.ALT_BAY_PHASE b)
  if p = 3 then [0, 1, 2] else [p]

/-- The current that the charge tasks placed and not yet drawing add to a phase, mA (R221): CHG_KW × 1,000 / V, a third of
it on each phase of a three-phase bay. -/
def State.placedLoad (s : State) (ph : Nat) : Nat :=
  let v := orOne (s.alt.meter.volts.getD ph 0)
  s.alt.tasks.foldl (fun d p =>
    if p.2.type = tyCharge ∧ (p.2.state = tkTO_ORIGIN ∨ p.2.state = tkTO_DEST) then
      match (List.range 64).find? fun b => s.flag (F.ALT_BAY_EN b) && s.bayBlock b == p.2.dest with
      | some b =>
        let kw := s.fld (F.ALT_ROVER_CHG_KW p.2.slot)
        let phs := s.bayPhases b
        if phs.contains ph then d + kw * 1000000000 / v / phs.length else d
      | none => d
    else d) 0

/-- The load of a bay: the highest of its phases, mA. -/
def State.bayLoad (s : State) (b : Nat) : Nat :=
  ((s.bayPhases b).map fun ph => s.alt.meter.amps.getD ph 0 + s.placedLoad ph).foldl max 0

def Landmarks.entry (l : Landmarks) (k b : Nat) : Nat := l.entries.getD (k * l.nblk + b) 0xFFFFFFFF

/-- The estimate of R210 between two blocks in 0.5 m; none when the pair is unreachable. -/
def Landmarks.dist (l : Landmarks) (u v : Nat) : Option Nat :=
  let far := 65535
  (List.range l.nlmk).foldl (fun best k =>
    let lu := l.entry k u % 65536
    let lv := l.entry k v % 65536
    let ul := l.entry k u / 65536
    let vl := l.entry k v / 65536
    match best with
    | none => none
    | some d =>
      if lu ≠ far ∧ lv = far then none
      else
        let d := if lu ≠ far ∧ lv ≠ far then max d (lv - lu) else d
        some (if ul ≠ far ∧ vl ≠ far then max d (ul - vl) else d)) (some 0)

def State.dist (s : State) (u v : Nat) : Option Nat := s.alt.lmk.bind fun l => l.dist u v

/-- The bay for rover `a` at block `u`: the lowest load, then the nearer, then the lower index (R221). -/
def State.placeBay (s : State) (a u : Nat) : Option Nat :=
  let far (b : Nat) : Nat := (s.dist u (s.bayBlock b)).getD 0xFFFFFFFF
  (s.freeBays a).foldl (fun best b =>
    match best with
    | none => some b
    | some c =>
      if s.bayLoad b < s.bayLoad c ∨ (s.bayLoad b = s.bayLoad c ∧ far b < far c) then some b else some c) none

/-! ### Dispatch (R213, R218, R221) -/

/-- A task is dispatched to rover `a`: a charge task for any bay is placed on one, or returns to PENDING when none is free (R221). -/
def State.dispatch (s : State) (a i : Nat) : State :=
  let t := s.task i
  if t.dest = noBlock then
    match (s.currentBlock a).bind fun u => s.placeBay a u with
    | some b => (s.putTask i { t with dest := s.bayBlock b, anyBay := true }).takeUp a i
    | none => if t.state = tkPENDING then s else s.giveBack i 0
  else s.takeUp a i

/-- The rover's current task ends as DONE; the proposed task is taken up (R218). -/
def State.taskDone (s : State) (a i : Nat) : State :=
  let t := s.setTask i tkDONE 0
  match t.proposed a with
  | some j => t.dispatch a j
  | none => t

/-- The rover's task goes on to its destination: TO_DEST, or WORK_D when ORIGIN is DEST (R203). -/
def State.toDest (s : State) (i : Nat) : State :=
  let t := s.task i
  if t.origin = t.dest then s.setTask i tkWORK_D 0
  else (s.putTask i { t with search := some s.laneSf, tries := 0 }).setTask i tkTO_DEST 0

/-- The work at the destination is done: the task ends as DONE, but for a park task, which stays (Table 8-2). -/
def State.workDone (s : State) (a i : Nat) : State := if (s.task i).type = tyPark then s else s.taskDone a i

/-- A work or arrival report, or a state of charge, of a rover for a task (R203, Table 10-10). -/
def State.taskReport (s : State) (a taskId report soc : Nat) : State :=
  let s : State := { s with alt := { s.alt with rovers := Tbl.put {} s.alt.rovers a { Tbl.get ({} : AltRover) s.alt.rovers a with soc := soc } } }
  match s.current a with
  | some i =>
    let t := s.task i
    let s := if i ≠ taskId then s
      else if report = 1 ∧ t.state = tkTO_ORIGIN then s.setTask i tkWORK_O 0
      else if report = 2 ∧ t.state = tkWORK_O then s.toDest i
      else if report = 3 ∧ t.state = tkTO_DEST then s.setTask i tkWORK_D 0
      else if report = 4 ∧ t.state = tkWORK_D then s.workDone a i
      else s
    let t := s.task i
    if t.state = tkWORK_D ∧ t.type = tyCharge ∧ soc ≤ 100 ∧ s.fld F.ALT_CHG_SOC_FULL ≤ soc ∧ t.slot = a then s.taskDone a i else s
  | none => s

/-- A rover is lost or evicted (Table 8-4): its tasks in states 2 to 6 return to PENDING, and a generated charge task is
removed as CANCELLED. -/
def State.altLost (s : State) (a : Nat) : State :=
  let mine := (s.alt.tasks.filter fun p => p.2.slot == a && 2 ≤ p.2.state && p.2.state ≤ 6).map (·.1)
  mine.foldl (fun s i =>
    let t := s.task i
    if t.type = tyCharge ∧ t.hostRef = 0xFFFFFFFF then s.setTask i tkCANCELLED 0 else s.giveBack i 0) s

/-- After the release of a stop each task in TO_ORIGIN or TO_DEST of the rovers is routed afresh (Table 8-4). -/
def State.rerouteAll (s : State) (rovers : List Nat) : State :=
  s.alt.tasks.foldl (fun t p =>
    if rovers.contains p.2.slot ∧ (p.2.state = tkTO_ORIGIN ∨ p.2.state = tkTO_DEST) then t.putTask p.1 { p.2 with search := some s.laneSf, tries := 0 } else t) s

/-- A stop of the whole fleet withdraws the proposals (Table 8-4). -/
def State.altStop (s : State) : State := s.boundSlots.foldl State.endProposal s

/-! ### Charging (R220 to R223, R226) -/

/-- The state of charge a rover reported last; 255 unknown. -/
def State.soc (s : State) (a : Nat) : Nat := (Tbl.get ({} : AltRover) s.alt.rovers a).soc

/-- P of R220: Feed-point import power, mean over the last AVG_S seconds, W. -/
def State.feedPower (s : State) : Int :=
  let n := orOne (s.fld F.ALT_CHG2_AVG_S)
  let l := s.alt.meter.pW.take n
  if l.isEmpty then 0 else l.foldl (· + ·) 0 / l.length

/-- P_add: CHG_KW of the rovers holding charge tasks in TO_ORIGIN or TO_DEST. -/
def State.chargeDriving (s : State) : Nat :=
  s.alt.tasks.foldl (fun d p =>
    if p.2.type = tyCharge ∧ (p.2.state = tkTO_ORIGIN ∨ p.2.state = tkTO_DEST) then d + s.fld (F.ALT_ROVER_CHG_KW p.2.slot) else d) 0

/-- Test 1 of R220 with `kw` more than the Feed point draws: (E + P t) / T ≤ CAP − MARGIN, in Wh and s. An INVALID metering
input admits nothing (R360); CAP = 0 means no cap (R361). -/
def State.test1 (s : State) (kw : Nat) : Bool :=
  let m := s.alt.meter
  let p := s.feedPower + 1000 * (kw : Int)
  m.valid && (m.capKw == 0 || decide ((m.eWh : Int) * 3600 + p * m.leftS ≤ 1000 * ((m.capKw : Int) - s.fld F.ALT_CHG2_MARGIN) * m.lenS))

/-- Test 2: P + P_add + CHG_KW ≤ CAP × INST / 100. -/
def State.test2 (s : State) (kw : Nat) : Bool :=
  s.alt.meter.valid && (s.alt.meter.capKw == 0 || decide ((s.feedPower + 1000 * (kw : Int)) * 100 ≤ 1000 * (s.alt.meter.capKw : Int) * s.fld F.ALT_CHG_INST))

/-- EV_ALT_CHARGE: kind, slot, projected demand and P in kW. -/
def State.chargeEvent (s : State) (kind a kw : Nat) : State :=
  let m := s.alt.meter
  let p := s.feedPower + 1000 * (kw : Int)
  let d := ((m.eWh : Int) * 3600 + p * m.leftS) / (1000 * (orOne m.lenS : Nat))
  s.raise Ev.altCharge (le 1 kind ++ le 1 a ++ le 2 (min 65535 d.toNat) ++ le 2 (min 65535 (s.feedPower / 1000).toNat))

/-- A free index of the task table. -/
def State.freeTask (s : State) : Option Nat := (List.range 4096).find? fun i => (s.task i).state == tkFREE

/-- R223: a charge task for every free rover below SOC_LOW that holds none. -/
def State.genCharge (s : State) : State :=
  if !s.flag F.ALT_CTL_GEN_CHG then s
  else
    let idle := (s.alt.tasks.filter fun p => p.2.type == tyCharge && p.2.hostRef == 0xFFFFFFFF && p.2.state == tkPENDING).length
    let low := s.boundSlots.filter fun a => (s.current a).isNone && decide (s.soc a ≤ 100) && decide (s.soc a < s.fld F.ALT_CHG_SOC_LOW)
    (low.drop idle).foldl (fun t a =>
      match t.freeTask with
      | some i => (t.putTask i { type := tyCharge, prio := 6, hostRef := 0xFFFFFFFF, anyBay := true }).setTask i tkPENDING 0
      | none => t.chargeEvent 2 a 0) s

/-- R222: with test 1 failing and no candidate, the charge task in WORK_D of the rover with the highest state of charge,
then the higher slot, returns to PENDING. -/
def State.shedCharge (s : State) : State :=
  if !s.alt.meter.valid || s.test1 s.chargeDriving then s
  else
    let on := s.alt.tasks.filter fun p => p.2.type == tyCharge && p.2.state == tkWORK_D
    let best := on.foldl (fun b p =>
      match b with
      | none => some p
      | some q =>
        if s.soc q.2.slot < s.soc p.2.slot ∨ (s.soc q.2.slot = s.soc p.2.slot ∧ q.2.slot < p.2.slot) then some p else some q) none
    match best with
    | some p => ((s.setTask p.1 tkPENDING 4).satInc F.ALT_CNT_CHG_SHED).chargeEvent 1 p.2.slot s.chargeDriving
    | none => s

/-! ### The cost matrix (R206, R211) -/

/-- Estimated time to finish a rover's current task, in ns: the travel left at V_NOM and the work left. -/
def State.finishNs (s : State) (a : Nat) : Nat :=
  match s.current a, s.currentBlock a with
  | some i, some u =>
    let t := s.task i
    let v := orOne (s.fld F.ALT_CTL_V_NOM)
    let drive (d : Option Nat) : Nat := d.getD 0 * 5 * oneSec / v
    let od := if t.origin = noBlock ∨ t.dest = noBlock then 0 else drive (s.dist t.origin t.dest)
    if t.state = tkTO_ORIGIN then drive (s.dist u t.origin) + t.workO * oneSec + od + t.workD * oneSec
    else if t.state = tkWORK_O then t.workO * oneSec + od + t.workD * oneSec
    else if t.state = tkTO_DEST then drive (s.dist u t.dest) + t.workD * oneSec
    else t.workD * oneSec
  | some i, none => (s.task i).workD * oneSec
  | none, _ => 0

/-- The rows of a round (R206). -/
def State.roundRows (s : State) : List Nat :=
  s.boundSlots.filter fun a =>
    let fix := match (s.rk a).record with
      | some r => decide (1 ≤ r.cls)
      | none => false
    let free := (s.current a).isNone
    let soon := s.flag F.ALT_CTL_RA_EN && decide (s.finishNs a ≤ s.fld F.ALT_CTL_RUNAHEAD * oneSec)
    let park := match s.current a with
      | some i => (s.task i).type == tyPark && (s.task i).state == tkWORK_D
      | none => false
    !(s.bound a).lost && !s.roverStopped a && fix && (free || soon || (park && s.flag F.ALT_CTL_RA_EN))

/-- The columns: PENDING and PROPOSED tasks by priority, deadline and TASK_ID, at most 512. -/
def State.roundCols (s : State) : List Nat :=
  let l := (s.alt.tasks.filter fun p => p.2.state == tkPENDING || p.2.state == tkPROPOSED).map (·.1)
  let dl (i : Nat) : Nat := if (s.task i).deadline = 0 then 2 ^ 64 else (s.task i).deadline
  let before (i j : Nat) : Bool :=
    decide ((s.task j).prio < (s.task i).prio) ||
      ((s.task i).prio == (s.task j).prio && (decide (dl i < dl j) || (dl i == dl j && decide (i < j))))
  (sortBy before l).take 512

/-- The travel of a task from block `u` in 0.5 m (Table 8-3); none when unreachable. -/
def State.travel (s : State) (a u : Nat) (t : Task) : Option Nat :=
  if t.dest = noBlock then
    (s.freeBays a).foldl (fun best b =>
      match best, s.dist u (s.bayBlock b) with
      | none, d => d
      | some x, some y => some (min x y)
      | some x, none => some x) none
  else if t.origin = noBlock then s.dist u t.dest
  else
    match s.dist u t.origin, s.dist t.origin t.dest with
    | some x, some y => some (x + y)
    | _, _ => none

/-- The benefit of a task for a rover (R211), rounded to the nearest cost point; none when forbidden. -/
def State.benefit (s : State) (a i : Nat) (chargeOk : Bool) : Option Int :=
  let t := s.task i
  let soc := s.soc a
  let charge := t.type == tyCharge
  let max_ : Int := s.fld F.ALT_W2_COST_MAX
  let cap := s.fld (F.ALT_ROVER_CAP a)
  if t.cap &&& cap ≠ t.cap ∨ (charge ∧ !chargeOk) then none
  else
    match s.currentBlock a with
    | none => none
    | some u =>
      match s.travel a u t with
      | none => none
      | some d =>
        let v : Int := orOne (s.fld F.ALT_CTL_V_NOM)
        let g : Int := oneSec
        let den : Int := 2000 * v * g
        let start : Int := s.laneNow + s.finishNs a
        let late : Int := if t.deadline = 0 then 0 else max 0 (v * (start + (t.workO + t.workD) * g - t.deadline) + 5 * d * g)
        let left : Int := 2000 * soc - s.fld (F.ALT_ROVER_CONS a) * d
        let unknown := decide (100 < soc)
        let low := !charge && !unknown && decide (left < 2000 * (s.fld F.ALT_CHG_SOC_MIN : Int))
        let socCost : Int :=
          if unknown then 0
          else if charge then -(s.fld F.ALT_W1_W_SOC * ((s.fld F.ALT_CHG_SOC_FULL : Int) - soc) * den)
          else s.fld F.ALT_W1_W_SOC * (200000 - left) * v * g
        let num : Int := s.fld F.ALT_W0_W_DIST * d * 1000 * v * g + s.fld F.ALT_W0_W_LATE * 2000 * late + socCost - s.fld F.ALT_W1_W_PRIO * t.prio * den
        let cost : Int := (2 * num + den) / (2 * den)
        if low ∨ (unknown ∧ !charge ∧ t.type ≠ tyPark) ∨ max_ ≤ cost then none else some (max_ - cost)

/-- The rows that may charge in this round (R220): the candidates, one for each charge column, are the rows below SOC_LOW
and then the others; they are tested in slot order, and each one admitted adds its power. Answers the rows admitted and
the state with the refusals counted. -/
def State.chargeRows (s : State) (rows cols : List Nat) : State × List Nat :=
  let n := (cols.filter fun i => (s.task i).type == tyCharge).length
  let low := rows.filter fun a => s.soc a ≤ 100 && s.soc a < s.fld F.ALT_CHG_SOC_LOW
  let cand := sortBy (fun a b : Nat => decide (a < b)) ((low ++ rows.filter fun a => !low.contains a).take n)
  let r := cand.foldl (fun (t : State × List Nat × Nat) a =>
    let kw := t.2.2 + s.fld (F.ALT_ROVER_CHG_KW a)
    if s.test1 kw && s.test2 kw then (t.1, a :: t.2.1, kw)
    else
      let u := (t.1.satInc F.ALT_CNT_CHG_REFUSED).setFld F.ALT_STAT_CHG_BLOCKED 1
      (u.chargeEvent 0 a kw, t.2.1, t.2.2)) (s.setFld F.ALT_STAT_CHG_BLOCKED 0, [], s.chargeDriving)
  (r.1, r.2.1)

/-! ### The auction (R212) -/

/-- Prices and assignment of a phase: price per column, and the column of each row (an index beyond the columns is the
row's idle column). Values are scaled by a common denominator. -/
structure Bids where
  price : Tbl Int
  col : Tbl (Option Nat)

/-- The value of each permitted column for a row, scaled, with its idle column last. -/
def rowValues (scale : Int) (n : Nat) (b : Bids) (r : Nat) (row : List (Option Int)) : List (Nat × Int) :=
  let real := (List.range n).filterMap fun c => (row.getD c none).map fun v => (c, v * scale - Tbl.get 0 b.price c)
  real ++ [(n + r, -(Tbl.get 0 b.price (n + r)))]

/-- One bid of a row: the best column rises by the margin over the second best, plus ε; ties go to the lowest column. -/
def bid (scale eps : Int) (n : Nat) (b : Bids) (r : Nat) (row : List (Option Int)) : Bids :=
  let vs := rowValues scale n b r row
  let best := vs.foldl (fun m x => if m.2 < x.2 then x else m) (vs.headD (n + r, 0))
  let rest := (vs.filter fun x => x.1 != best.1).map (·.2)
  let second := rest.foldl max (rest.headD best.2)
  let held := (b.col.find? fun p => p.2 == some best.1).map (·.1)
  let col := match held with
    | some q => Tbl.put none b.col q none
    | none => b.col
  { price := Tbl.put 0 b.price best.1 (Tbl.get 0 b.price best.1 + (best.2 - second) + eps), col := Tbl.put none col r (some best.1) }

/-- One ε-phase: the lowest unassigned row bids until every row is assigned. -/
def phase (scale eps : Int) (n : Nat) (rows : List (List (Option Int))) : Nat → Bids → Bids
  | 0, b => b
  | k + 1, b =>
    match (List.range rows.length).find? fun r => (Tbl.get none b.col r).isNone with
    | none => b
    | some r => phase scale eps n rows k (bid scale eps n b r (rows.getD r []))

/-- The phases from an ε on, at most `k` of them. -/
def phases (scale : Int) (n : Nat) (rows : List (List (Option Int))) (bids : Nat) : Nat → Int → Bids → Bids
  | 0, _, b => b
  | k + 1, eps, b =>
    let low := scale / (rows.length + 1)
    let b' := phase scale eps n rows bids { b with col := [] }
    if eps ≤ low then b' else phases scale n rows bids k (max (eps / 4) low) b'

/-- The largest benefit of a matrix. -/
def maxBenefit (rows : List (List (Option Int))) : Int :=
  rows.foldl (fun m r => r.foldl (fun m x => max m (x.getD 0)) m) 0

/-- The columns assigned to the rows by the first `k` ε-phases; 32 phases reach the final ε. -/
def auction (n : Nat) (rows : List (List (Option Int))) (k : Nat) : List (Option Nat) :=
  let scale : Int := 8 * 4 ^ 24 * (rows.length + 1)
  let m := maxBenefit rows
  let bids := (n + rows.length + 1) * (2 * m.toNat + 4) * (rows.length + 1)
  let b := phases scale n rows bids k (m * scale / 8) { price := [], col := [] }
  (List.range rows.length).map fun r =>
    match Tbl.get none b.col r with
    | some c => if k = 0 then none else if c < n then some c else none
    | none => none

/-! ### Rounds (R205, R206, R213) -/

/-- A rover's wait under the Zone rule names the next rover in the entry order of the full zone, checked for a cycle (R193, R190). -/
def State.renameZone (s : State) (a : Nat) : State :=
  let r := s.sx a
  match s.sbx.map, r.waitOn, r.stopAt with
  | some m, some b, some w =>
    match if r.reason = rsZONE_FULL then s.fullZone m a (wordBlock w) else none with
    | some z =>
      let order := s.zoneOrder m z
      let next := order.getD (((order.findIdx? (· == b)).getD (order.length - 1) + 1) % orOne order.length) b
      let u := s.setSx a { r with waitOn := some next }
      match u.chain a 128 next [a] with
      | some path =>
        match u.breakCycle path with
        | (v, some w) => v.extend w
        | (v, none) => v
      | none => u
    | none => s
  | _, _, _ => s

/-- Every wait under the Zone rule is renamed as a round starts (R193). -/
def State.renameZones (s : State) : State := s.sbxSlots.foldl State.renameZone s

/-- ALLOT_ROUND_START (R205, R206). -/
def State.roundStart (s : State) : State :=
  let s := ((s.renameZones.genCharge).shedCharge)
  let rows := s.roundRows
  let cols := s.roundCols
  let (s, ok) := s.chargeRows rows cols
  let benefit := rows.map fun a => cols.map fun i => s.benefit a i (ok.contains a)
  let free := (rows.filter fun a => (s.current a).isNone).length
  let t : State := { s with alt := { s.alt with round := some ⟨s.laneEl, rows, cols, benefit⟩, sinceRound := 0, now := none } }
  (t.setFld F.ALT_STAT_FREE free).syncAlt

def execAllotRoundStart (s : State) : Host.Outcome State Fault Refusal :=
  let asked := match s.alt.now with
    | some f => decide (s.laneSf = f + 1)
    | none => false
  let due := asked || (decide (0 < s.alt.sinceRound) && s.alt.sinceRound % orOne (s.fld F.ALT_CTL_ROUND_SF) == 0)
  let at_ := decide (s.laneEpoch + 8 * oneMs ≤ s.laneNow)
  .next <| s.onLanes <|
    if !(due && at_ && s.flag F.ALT_CTL_EN) then s
    else if s.alt.round.isSome then ({ s with alt := { s.alt with sinceRound := 0, now := none } } : State).satInc F.ALT_CNT_LATE
    else if s.fleetStopped ∨ s.flag F.ALT_STAT_NO_LMK then { s with alt := { s.alt with sinceRound := 0, now := none } }
    else s.roundStart

/-- The result of a round for one row (R213): a free rover takes the task up, a busy one has it proposed, an idle column
ends a proposal. A rover that has been lost or unbound since the round began gets nothing (entry 171). -/
def State.applyRow (s : State) (a : Nat) (col : Option Nat) : State :=
  match col with
  | none => s.endProposal a
  | some i =>
    let t := s.task i
    if (t.state ≠ tkPENDING ∧ t.state ≠ tkPROPOSED) ∨ !(s.bound a).bound ∨ (s.bound a).lost then s
    else if (s.current a).isNone then (if t.state = tkPROPOSED ∧ t.slot ≠ a then s.endProposal t.slot else s).dispatch a i
    else if t.state = tkPROPOSED ∧ t.slot = a then s
    else
      let s := if t.state = tkPROPOSED then s.endProposal t.slot else s
      let s := s.endProposal a
      let s := (s.putTask i { s.task i with slot := a, search := some s.laneSf, tries := 0 }).setTask i tkPROPOSED 0
      match s.current a with
      | some j => if (s.task j).type = tyPark ∧ (s.task j).state = tkWORK_D then s.taskDone a j else s
      | none => s

/-- A proposal that a round has not made again ends (Table 8-2, R219). -/
def State.endStale (s : State) (made : List (Nat × Option Nat)) : State :=
  let old := s.alt.tasks.filter fun p => p.2.state == tkPROPOSED && !made.contains (p.2.slot, some p.1)
  old.foldl (fun t p => t.giveBack p.1 0) s

/-- The results of a round after `k` ε-phases are applied in slot order; they are an output of the lanes (R368). -/
def State.roundApply (s : State) (r : Round) (k result : Nat) : State :=
  let cols := (auction r.cols.length r.benefit k).map fun c => c.bind fun c => r.cols[c]?
  let made := r.rows.zip cols
  let s := made.foldl (fun t p => t.applyRow p.1 p.2) (s.endStale made)
  let given := cols.filter (·.isSome)
  let prop := (s.alt.tasks.filter fun p => p.2.state == tkPROPOSED).length
  let ms := min 65535 ((s.laneEl - r.at_) / oneMs)
  let s := ((s.setFld F.ALT_ROUND_LAST_MS ms).setFld F.ALT_STAT_ASSIGNED given.length)
  let s : State := { s with alt := { s.alt with round := none } }
  let s := s.laneOut 0x12 4 (made.map fun p => le 1 p.1 ++ le 2 (p.2.getD 65535)).flatten
  s.syncAlt.raise Ev.altRound (le 1 result ++ le 1 r.rows.length ++ le 2 r.cols.length ++ le 1 given.length ++ le 1 prop ++ le 2 ms)

/-- The instant by which a round must have ended (R207). -/
def State.roundLimit (s : State) (r : Round) : Nat := r.at_ + max 50 (s.fld F.ALT_ROUND_ROUND_MAX) * oneMs

/-- ALLOT_ROUND_END (R213), within ROUND_MAX of the round's start (R207). -/
def execAllotRoundEnd (s : State) : Host.Outcome State Fault Refusal :=
  .next <| s.onLanes <|
    match s.alt.round with
    | some r => if s.granted 1 && decide (s.laneEl ≤ s.roundLimit r) then s.roundApply r 32 0 else s
    | none => s

/-- ALLOT_ROUND_TIMEOUT (R207): after ROUND_MAX the round ends with the assignment of its last completed ε-phase, or
assigns nothing; `phases` of them had completed. -/
def execAllotRoundTimeout (phases : Nat) (s : State) : Host.Outcome State Fault Refusal :=
  .next <| s.onLanes <|
    match s.alt.round with
    | some r =>
      if s.roundLimit r ≤ s.laneEl then
        let t := (s.roundApply r (min phases 31) 1).satInc F.ALT_CNT_LATE
        t.raise Ev.altLate (le 1 phases ++ le 1 0 ++ le 2 (s.fld F.ALT_ROUND_ROUND_MAX))
      else s
    | none => s

/-! ### Route searches (R214 to R218) -/

/-- The entries that may follow a route entry. -/
def SiteMap.nexts (m : SiteMap) (w : Nat) : List Nat :=
  let e := if wordRev w then 0 else 1
  let l := m.link (wordBlock w) e
  let enter (x : Nat) : Nat := x % 16384 + (if x / 16384 % 2 = 1 then 16384 else 0)
  if linkKind l = 0 then [enter (linkIndex l + 16384 * (1 - e))]
  else if linkKind l = 1 then
    match m.pointEnds (linkIndex l) with
    | c :: legs => if c = wordBlock w + 16384 * e then legs.map enter else if legs.contains (wordBlock w + 16384 * e) then [enter c] else []
    | [] => []
  else []

/-- Whether a search of rover `a` may use an entry (R214). -/
def State.mayUse (s : State) (m : SiteMap) (a w : Nat) : Bool :=
  let b := wordBlock w
  let r := s.sx a
  decide (b < m.blocks.length) && (!wordRev w || (m.block b).bidir) && !(s.avoiding r).contains b
    && (m.zonesOf b).all fun z => s.zoneCapOf m z != 0 && !s.sbx.zoneStops.contains z

/-- One relaxation of the shortest travel to every entry, in 0.1 m. -/
def State.relax (s : State) (m : SiteMap) (a : Nat) (d : Tbl (Option Nat)) : Tbl (Option Nat) :=
  d.foldl (fun t p =>
    match p.2 with
    | none => t
    | some x =>
      (m.nexts p.1).foldl (fun t w =>
        if !s.mayUse m a w then t
        else
          let y := x + (m.block (wordBlock w)).len
          match Tbl.get none t w with
          | some z => if y < z then Tbl.put none t w (some y) else t
          | none => Tbl.put none t w (some y)) t) d

/-- The shortest travel from a block to a target block; none when there is no route. -/
def State.shortest (s : State) (m : SiteMap) (a u v : Nat) : Option Nat :=
  let start : Tbl (Option Nat) := Tbl.put none (Tbl.put none [] u (some 0)) (u + 16384) (some 0)
  let d := (List.range (2 * m.blocks.length)).foldl (fun t _ => s.relax m a t) start
  match Tbl.get none d v, Tbl.get none d (v + 16384) with
  | some x, some y => some (min x y)
  | some x, none => some x
  | none, y => y

/-- Whether a route is a shortest one of rover `a` from block `u` to block `v` (R214); of several, any. -/
def State.isShortest (s : State) (m : SiteMap) (a u v : Nat) (route : List Nat) : Bool :=
  !route.isEmpty && wordBlock (route.headD 65535) == u && wordBlock (route.getLastD 65535) == v
    && (route.zip route.tail).all (fun p => m.joined p.1 p.2)
    && route.tail.all (s.mayUse m a)
    && some ((route.tail.map fun w => (m.block (wordBlock w)).len).foldl (· + ·) 0) == s.shortest m a u v

/-- The task of a rover whose route is to be searched, with the blocks it runs between: the current task from the rover's
current block, or the proposed one from the end of the current task (R214, R218). -/
def State.searchOf (s : State) (a : Nat) (again : Bool) : Option (Nat × Nat × Nat × Bool) :=
  let due (i : Nat) : Bool :=
    let t := s.task i
    (match t.search with
      | some f => decide (f < s.laneSf)
      | none => false) && (t.tries != 0) == again
  let target (t : Task) : Nat := if t.state = tkTO_ORIGIN then t.origin else t.dest
  match s.current a, s.currentBlock a with
  | some i, some u =>
    if due i ∧ ((s.task i).state = tkTO_ORIGIN ∨ (s.task i).state = tkTO_DEST) then some (i, u, target (s.task i), false)
    else
      match s.proposed a with
      | some j =>
        let t := s.task j
        let first := if t.origin = noBlock then t.dest else t.origin
        if due j ∧ first ≠ noBlock then some (j, (s.task i).dest, first, true) else none
      | none => none
  | _, _ => none

/-- A route found is submitted to the signal box with the task's priority and END_OFS at the target's midpoint; one of more
than 512 entries fails the task (R214, R215); without a route the task returns to PENDING (R216). -/
def State.submit (s : State) (m : SiteMap) (a i u v : Nat) (prop : Bool) (route : List Nat) : State :=
  let t := s.task i
  let s := s.putTask i { t with search := none }
  match s.shortest m a u v with
  | none => if prop then (s.putTask i { t with search := none }) else (s.giveBack i 2).satInc F.ALT_CNT_ROUTE_FAIL
  | some _ =>
    if 512 < route.length then (s.failTask i 1).satInc F.ALT_CNT_ROUTE_FAIL
    else
      let q : RouteReq := ⟨a, t.prio, prop, m.id, route, (m.block v).len / 2⟩
      { s with sbx := { s.sbx with reqs := s.sbx.reqs ++ [q] } }

/-- The search of a rover's route, made when it is due and not before; `route` is the route found. -/
def State.search (s : State) (a : Nat) (again : Bool) (route : List Nat) : State :=
  match s.searchOf a again, s.sbx.map with
  | some (i, u, v, prop), some m =>
    if (s.shortest m a u v).isNone || s.isShortest m a u v route then s.submit m a i u v prop route else s
  | _, _ => s

/-- ROUTE_SEARCH (R214). -/
def execRouteSearch (slot : Fin 128) (route : List Nat) (s : State) : Host.Outcome State Fault Refusal :=
  .next (s.onLanes (if s.gated 0x12 then s else s.search slot.val false route))

/-- ROUTE_REFUSAL_RETRY (R217). -/
def execRouteRefusalRetry (slot : Fin 128) (route : List Nat) (s : State) : Host.Outcome State Fault Refusal :=
  .next (s.onLanes (if s.gated 0x12 then s else s.search slot.val true route))

/-- REROUTE_ANSWER (R216): a re-route request of the signal box is answered, in a later superframe than its own, with a new route to
the same target. -/
def execRerouteAnswer (slot : Fin 128) (route : List Nat) (s : State) : Host.Outcome State Fault Refusal :=
  let a := slot.val
  .next <| s.onLanes <|
    if s.gated 0x12 || !s.alt.reroute.any fun x => x.1 == a && decide (x.2 < s.laneSf) then s
    else
      let t : State := { s with alt := { s.alt with reroute := s.alt.reroute.filter fun x => x.1 != a } }
      match t.current a, t.currentBlock a, t.sbx.map with
      | some i, some u, some m =>
        let k := t.task i
        let v := if k.state = tkTO_ORIGIN then k.origin else k.dest
        if k.state ≠ tkTO_ORIGIN ∧ k.state ≠ tkTO_DEST then t
        else if (t.shortest m a u v).isNone || t.isShortest m a u v route then t.submit m a i u v false route
        else s
      | _, _, _ => t

/-- What the signal box's answer to a submitted route does to the task, the current one or the proposed one (R217). -/
def State.routeAnswer (s : State) (q : RouteReq) (r : Answered) : State :=
  match if r.result ≠ 2 then none else if q.tentative then s.proposed q.slot else s.current q.slot with
  | some i =>
    let t := s.task i
    if r.reason = rsMAP_MISMATCH ∨ r.reason = rsAVOID ∨ r.reason = rsNOT_ON_START then
      if t.tries < 3 then s.putTask i { t with search := some s.laneSf, tries := t.tries + 1 } else s.giveBack i 3
    else if 1 ≤ r.reason ∧ r.reason ≤ 9 then s.giveBack i 3
    else s
  | none => s

/-- RA_EN_CLEAR (R219): every proposal ends and its hold is withdrawn by a preview. -/
def State.raEnClear (s : State) : State :=
  let t := s.setFld F.ALT_CTL_RA_EN 0
  t.boundSlots.foldl State.endProposal t
def execRaEnClear (s : State) : Host.Outcome State Fault Refusal := .next s.raEnClear

/-- ALT_CNT_CLR (R225). -/
def State.altCntClr (s : State) : State := (s.resetRegs [R.ALT_CNT]).setFld F.ALT_ROUND_LAST_MS 0
def execAltCntClr (s : State) : Host.Outcome State Fault Refusal := .next s.altCntClr

/-! ### Commands (R225) -/

/-- A task record in its 32 bytes (Table 8-1). -/
def Task.bytes (i : Nat) (t : Task) : List Byte :=
  le 2 i ++ le 1 t.type ++ le 1 t.prio ++ le 2 t.cap ++ le 2 t.origin ++ le 2 t.dest ++ le 2 t.workO ++ le 2 t.workD
    ++ le 1 t.state ++ le 1 t.slot ++ le 8 t.deadline ++ le 4 t.hostRef ++ zeros 4

def taskBlockOk (b : Nat) : Bool := b == noBlock || decide (b < 16384)

/-- ALT_TASK_ADD (R202). -/
def doAltTaskAdd (s : State) (_ _ : Nat) (p : List Byte) : Res :=
  withLen s 32 p <|
    let ty := rdN p 2 1
    let o := rdN p 6 2
    let d := rdN p 8 2
    if 5 < ty ∨ 7 < rdN p 3 1 ∨ rdN p 28 4 ≠ 0 ∨ !taskBlockOk o ∨ !taskBlockOk d ∨ (d = noBlock ∧ ty ≠ tyCharge) then refuse s St.badParameter
    else
      match s.freeTask with
      | some i =>
        let t : Task := { type := ty, prio := rdN p 3 1, cap := rdN p 4 2, origin := o, dest := d, workO := rdN p 10 2, workD := rdN p 12 2, deadline := rdN p 16 8, hostRef := rdN p 24 4, anyBay := d == noBlock }
        okWith ((s.putTask i t).setTask i tkPENDING 0) (le 2 i ++ zeros 2)
      | none => (s, some ⟨St.wrongState, le 2 65535 ++ zeros 2⟩)
def opAltTaskAdd : Op := opL 0x0600 1 doAltTaskAdd
def execAltTaskAdd (c : Cmd) (s : State) : Host.Outcome State Fault Refusal := .next (s.host c opAltTaskAdd)

/-- A task is cancelled (R203, R219, Table 8-4): the route of a task under way is dropped as by SBX_RELEASE mode 0. -/
def State.cancelTask (s : State) (i : Nat) : State :=
  let t := s.task i
  if t.state = tkPROPOSED then (s.withdrawAll t.slot).setTask i tkCANCELLED 0
  else if 3 ≤ t.state ∧ t.state ≤ 6 then
    let u := s.endWait t.slot
    let u := if t.state = tkTO_ORIGIN ∨ t.state = tkTO_DEST then u.setSx t.slot { u.sx t.slot with route := [] } else s
    (u.setTask i tkCANCELLED 0).endProposal t.slot
  else s.setTask i tkCANCELLED 0

/-- ALT_TASK_CANCEL (R203): mode 1 stands in for the work report. -/
def doAltTaskCancel (s : State) (_ _ : Nat) (p : List Byte) : Res :=
  withLen s 4 p <|
    let i := rdN p 0 2
    let mode := rdN p 2 1
    if 4095 < i ∨ 1 < mode then refuse s St.badParameter
    else
      let t := s.task i
      let u := if t.state = tkFREE then s
        else if mode = 0 then s.cancelTask i
        else if t.state = tkWORK_O then s.toDest i
        else if t.state = tkWORK_D then s.workDone t.slot i
        else s
      okWith u (le 1 t.state ++ zeros 3)
def opAltTaskCancel : Op := opL 0x0601 1 doAltTaskCancel
def execAltTaskCancel (c : Cmd) (s : State) : Host.Outcome State Fault Refusal := .next (s.host c opAltTaskCancel)

/-- ALT_TASK_GET. -/
def doAltTaskGet (s : State) (_ _ : Nat) (p : List Byte) : Res :=
  withLen s 4 p <|
    let i := rdN p 0 2
    let n := rdN p 2 1
    if n = 0 ∨ 40 < n ∨ 4096 < i + n then refuse s St.badParameter
    else okWith s ((List.range n).map fun k => (s.task (i + k)).bytes (i + k)).flatten
def opAltTaskGet : Op := opL 0x0602 0 doAltTaskGet
def execAltTaskGet (c : Cmd) (s : State) : Host.Outcome State Fault Refusal := .next (s.host c opAltTaskGet)

/-- ALT_LANDMARKS_LOAD (R208). -/
def doAltLandmarksLoad (s : State) (_ _ : Nat) (p : List Byte) : Res :=
  withLen s 8 p <|
    let off := rdN p 0 4
    let len := rdN p 4 4
    if !imageRangeOk off len then refuse s St.badParameter
    else accepted { s with alt := { s.alt with lmkLoad := some (off, len) } } []
def opAltLandmarksLoad : Op := opL 0x0603 1 doAltLandmarksLoad
def execAltLandmarksLoad (c : Cmd) (s : State) : Host.Outcome State Fault Refusal := .next (s.host c opAltLandmarksLoad)

/-- The landmark image of a span (R208); none when it is refused. -/
def State.parseLandmarks (s : State) (p : List Byte) : Option Landmarks :=
  let n := p.length
  let nl := rdN p 8 2
  let nb := rdN p 10 2
  let id := rdN p 4 4
  let fits (m : Option SiteMap) : Bool := match m with
    | some m => m.id == id && m.blocks.length == nb
    | none => false
  if n < 20 ∨ crc32c (p.take (n - 4)) ≠ rdN p (n - 4) 4 ∨ p.take 4 ≠ [0x4C, 0x4D, 0x4B, 0x31] ∨ nl = 0 ∨ 64 < nl ∨ n ≠ 20 + 4 * nl * nb then none
  else if fits s.sbx.map || fits s.sbx.staged then some ⟨id, nl, nb, (List.range (nl * nb)).map fun i => rdN p (16 + 4 * i) 4⟩
  else none

/-- ALT_LANDMARKS_DONE (R208, R209): an image of the active map comes into use, one of the staged map waits for it. -/
def execAltLandmarksDone (s : State) : Host.Outcome State Fault Refusal :=
  .next <| s.onLanes <|
    match s.alt.lmkLoad with
    | none => s
    | some (off, len) =>
      let t : State := { s with alt := { s.alt with lmkLoad := none } }
      match s.parseLandmarks (bytesAt s.dram off len) with
      | some l =>
        let active := (s.sbx.map.map (·.id)) == some l.mapId
        let alt : Alt := if active then { t.alt with lmk := some l } else { t.alt with lmkNext := some l }
        ({ t with alt := alt } : State).syncAlt.raise Ev.altRound (le 1 2)
      | none => t.raise Ev.altRound (le 1 3)

/-- ALT_ROUND_NOW (R205). -/
def doAltRoundNow (s : State) (_ _ : Nat) (p : List Byte) : Res :=
  withLen s 4 p (okWith { s with alt := { s.alt with now := some s.laneSf } } (le 1 1 ++ zeros 3))
def opAltRoundNow : Op := opL 0x0604 1 doAltRoundNow
def execAltRoundNow (c : Cmd) (s : State) : Host.Outcome State Fault Refusal := .next (s.host c opAltRoundNow)

end Sys2Proof.Machine
end

