-- ==== Sys2Proof/Machine/Planner.lean ====
section
/-! DEFINITION. The timetabler's planner (R237 to R240): jerk-limited motion at a resolution of 1 ms (entry 169), and the walk of
profile words through a cam table (R231). -/

namespace Sys2Proof.Machine

/-! ### Motion -/

/-- A state of motion along a path: distance in 1/6 pm, speed in 1/2 nm/s, acceleration in µm/s². In these units a millisecond of
constant jerk is exact. -/
structure Motion where
  s : Int
  v : Int
  a : Int
  deriving DecidableEq, Repr

/-- What a plan keeps to (R238): accelerations in µm/s², jerk in µm/s² per ms, the end point as a distance of `Motion`, the instant
at which it stands still in ms from its start, the highest speed in mm/s and the path's blocks. `sharp`: no jerk limit (R240). -/
structure PlanLimits where
  sharp : Bool
  amax : Int
  dmax : Int
  jmax : Int
  endS : Int
  stopMs : Nat
  top : Nat
  map : SiteMap
  blocks : List Nat

/-- 1 mm and 1 mm/s in the units of `Motion`. -/
def unitMm : Int := 6000000000
def unitMmS : Int := 2000000

/-- A millisecond at jerk `j`. -/
def Motion.after (m : Motion) (j : Int) : Motion := ⟨m.s + 3 * m.v + 3 * m.a + j, m.v + 2 * m.a + j, m.a + j⟩

/-- A millisecond at acceleration `a`, taken up at once. -/
def Motion.at_ (m : Motion) (a : Int) : Motion := ⟨m.s + 3 * m.v + 3 * a, m.v + 2 * a, a⟩

/-- The VMAX in mm/s of the block of a path at a distance in mm from its start; beyond the path, of its last block (R238). -/
def SiteMap.vmaxAt (m : SiteMap) : List Nat → Nat → Nat
  | [], _ => 0
  | [w], _ => 100 * (m.block (wordBlock w)).vmax
  | w :: t, d =>
    let l := 100 * (m.block (wordBlock w)).len
    if d < l then 100 * (m.block (wordBlock w)).vmax else m.vmaxAt t (d - l)

/-- The speed limit at a state of motion: of the class and the cam table, and of the block. -/
def PlanLimits.cap (k : PlanLimits) (m : Motion) : Int :=
  unitMmS * (if k.blocks.isEmpty then k.top else min k.top (k.map.vmaxAt k.blocks (m.s / unitMm).toNat) : Nat)

/-- Whether a deceleration can still be taken back to 0, within the jerk limit, before the speed is 0. -/
def PlanLimits.eases (k : PlanLimits) (m : Motion) : Bool := decide (0 ≤ m.v) && (decide (0 ≤ m.a) || decide (m.a * m.a ≤ k.jmax * m.v))

/-- A millisecond of the hardest stop. -/
def PlanLimits.brake (k : PlanLimits) (m : Motion) : Motion :=
  if k.sharp then
    if m.v ≤ 2 * k.dmax then ⟨m.s + 3 * m.v * m.v / (4 * max 1 k.dmax), 0, 0⟩ else m.at_ (-k.dmax)
  else
    let hard := m.after (max (-k.jmax) (-k.dmax - m.a))
    if k.eases hard then hard
    else if m.a < 0 ∧ k.eases (m.after 0) then m.after 0
    else if m.a < 0 then m.after (min k.jmax (-m.a))
    else ⟨m.s + 3 * m.v, 0, 0⟩

/-- Whether the hardest stop from a state of motion at `t` ms meets every limit. -/
def PlanLimits.stops (k : PlanLimits) : Nat → Nat → Motion → Bool
  | 0, _, _ => false
  | n + 1, t, m =>
    if m.v < 0 ∨ k.cap m < m.v then false
    else if m.v = 0 ∧ m.a ≤ 0 then decide (m.s ≤ k.endS)
    else if k.stopMs ≤ t then false
    else k.stops n (t + 1) (k.brake m)

/-- The bound on the milliseconds of a stop: from 25.5 m/s at 10 mm/s². -/
def stopFuel : Nat := 4000000

/-- The next millisecond of a plan: the largest change of acceleration after which a stop that meets every limit is possible, else the
hardest stop (R238). -/
def PlanLimits.next (k : PlanLimits) (t : Nat) (m : Motion) : Motion :=
  let tries := if k.sharp then [m.at_ k.amax, m.at_ 0] else [m.after (min k.jmax (k.amax - m.a)), m.after 0]
  match tries.find? fun x => decide (x.a ≤ k.amax) && k.stops stopFuel (t + 1) x with
  | some x => x
  | none => if m.v = 0 ∧ m.a ≤ 0 then { m with a := 0 } else k.brake m

/-- The motion at each of the next `n` milliseconds. -/
def PlanLimits.trace (k : PlanLimits) : Nat → Nat → Motion → List Motion
  | 0, _, _ => []
  | n + 1, t, m => k.next t m :: k.trace n (t + 1) (k.next t m)

/-- Where the hardest stop ends. -/
def PlanLimits.stopAt (k : PlanLimits) : Nat → Motion → Int
  | 0, m => m.s
  | n + 1, m => if m.v ≤ 0 ∧ m.a ≤ 0 then m.s else k.stopAt n (k.brake m)

/-- Whether a start state can be brought to rest by the end point within the limits, whatever the speed limits (R240). -/
def PlanLimits.restable (k : PlanLimits) (m : Motion) : Bool := decide (k.stopAt stopFuel m ≤ k.endS)

/-! ### The walk through the cam table (R231) -/

/-- Words under way: the start of word 1 as a site time, the period in ms, the index at the start, the words, and the distance there in
nm. -/
structure Walk where
  t1 : Nat
  pw : Nat
  n0 : Nat
  words : List Nat
  s0 : Nat

/-- Twice the area under the interpolated cam from index `lo` to index `p / q`, times q². -/
def camArea (cam : Nat → Nat) (lo p q : Nat) : Int :=
  let k := p / q
  let r : Int := p % q
  let whole : Int := (List.range (k - lo)).foldl (fun (d : Int) i => d + (cam (lo + i) + cam (lo + i + 1) : Nat)) 0
  whole * q * q + 2 * cam k * r * q + ((cam (k + 1) : Int) - cam k) * r * r

/-- The distance in nm of a word from index `a` to index `b`, `t` ns into its period of `q` ns. -/
def wordPart (cam : Nat → Nat) (a b q t : Nat) : Nat :=
  if a = b then cam a * t / 1000
  else
    let lo := min a b
    let p := if a < b then a * q + (b - a) * t else a * q - (a - b) * t
    let x := camArea cam lo p q - camArea cam lo (a * q) q
    (x.natAbs * (q / 1000)) / (2 * q * q * (max a b - lo))

/-- The number of the word, from 1, and the time into it at a site time; after the last word its end. -/
def Walk.at_ (w : Walk) (t : Nat) : Nat × Nat :=
  let q := orOne w.pw * oneMs
  let d := t - w.t1
  if w.words.length * q ≤ d then (w.words.length, q) else (d / q + 1, d % q)

/-- The index at the end of word `i`, and at the start of word 1 for 0. -/
def Walk.index (w : Walk) (i : Nat) : Nat := if i = 0 then w.n0 else w.words.getD (i - 1) 0

/-- The distance in nm at a site time. -/
def Walk.dist (w : Walk) (cam : Nat → Nat) (t : Nat) : Nat :=
  let q := orOne w.pw * oneMs
  let (i, x) := w.at_ t
  if w.words.isEmpty then w.s0
  else (List.range (i - 1)).foldl (fun d k => d + wordPart cam (w.index k) (w.index (k + 1)) q q) w.s0 + wordPart cam (w.index (i - 1)) (w.index i) q x

/-- The motion commanded at a site time: speed between the neighbouring entries of the index reached; 0 past the last word. -/
def Walk.motion (w : Walk) (cam : Nat → Nat) (t : Nat) : Motion :=
  let q := orOne w.pw * oneMs
  let s : Int := 6000 * (w.dist cam t : Int)
  if t < w.t1 ∨ w.t1 + w.words.length * q ≤ t then ⟨s, 0, 0⟩
  else
    let (i, x) := w.at_ t
    let a := w.index (i - 1)
    let b := w.index i
    let p := if a ≤ b then a * q + (b - a) * x else a * q - (a - b) * x
    let c : Int := cam (p / q)
    let up : Int := (cam (p / q + 1) : Int) - c
    ⟨s, (c * q + up * (p % q : Nat)) * unitMmS / q, up * ((b : Int) - a) * 1000000 / orOne w.pw⟩

/-- The index commanded at a site time: linear within a word, 0 past the last (R231). -/
def Walk.indexAt (w : Walk) (t : Nat) : Nat :=
  let q := orOne w.pw * oneMs
  if t < w.t1 ∨ w.t1 + w.words.length * q ≤ t then 0
  else
    let (i, x) := w.at_ t
    let a := w.index (i - 1)
    let b := w.index i
    if a ≤ b then (a * q + (b - a) * x) / q else (a * q - (a - b) * x) / q

/-! ### Words (R239) -/

/-- Whether words walk past the planned distance at some millisecond, by 1 mm or more, or stand still later than the plan (R239,
entry 169). -/
def Walk.tooFar (w : Walk) (cam : Nat → Nat) (plan : List Motion) : Bool :=
  let still := plan.findIdx fun m => m.v == 0 && decide (m.a ≤ 0)
  (List.range plan.length).any fun i =>
    let t := w.t1 + (i + 1) * oneMs
    match plan[i]? with
    | some m => decide (m.s / 6000 + 1000000 ≤ w.dist cam t) || (decide (still < plan.length) && decide (still ≤ i) && w.indexAt t != 0)
    | none => false

/-- The last word that is not 0, one index lower. -/
def lowerLast (ws : List Nat) : List Nat :=
  let r := ws.reverse
  let z := r.takeWhile (· == 0)
  match r.drop z.length with
  | w :: t => (z ++ (w - 1) :: t).reverse
  | [] => ws

/-- Word indices lowered, latest first, until the walk keeps to the plan (R239). -/
def Walk.fit (w : Walk) (cam : Nat → Nat) (plan : List Motion) : Nat → Walk
  | 0 => w
  | k + 1 => if w.tooFar cam plan && w.words.any (· != 0) then Walk.fit { w with words := lowerLast w.words } cam plan k else w

/-! ### The path (R237) -/

/-- The end point of an authority's path, in mm from its start. -/
def SiteMap.pathEnd (m : SiteMap) (x : Auth) : Nat :=
  (x.blocks.dropLast.map fun w => 100 * (m.block (wordBlock w)).len).foldl (· + ·) 0 + 100 * x.endOfs

/-- A fix projected onto a path: the distance from its start in mm, and the speed along it in mm/s, which is not below 0 (R237). -/
def State.fixOnPath (s : State) (m : SiteMap) (a : Nat) (blocks : List Nat) : Nat × Nat :=
  let p := s.fixPos a
  let vel := ((s.rk a).record.map (·.vel)).getD (0, 0, 0)
  match m.nearest p.1 p.2.1 (blocks.map wordBlock) with
  | none => (0, 0)
  | some b =>
    let before := blocks.takeWhile fun w => wordBlock w != b
    let rev := (blocks.find? fun w => wordBlock w == b).any wordRev
    let k := m.block b
    let dx := k.e1 - k.e0
    let dy := k.n1 - k.n0
    let len := max 1 (Nat.sqrt (1000000 * (dx * dx + dy * dy).toNat))
    let v := 1000 * (vel.1 * dx + vel.2.1 * dy) / len
    ((before.map fun w => 100 * (m.block (wordBlock w)).len).foldl (· + ·) 0 + k.alongMm rev p.1 p.2.1, (if rev then -v else v).toNat)

end Sys2Proof.Machine
end

