-- ==== Sys2Proof/Machine/Timetabler.lean ====
section
/-! DEFINITION. The timetabler (chapter 09; interactions R244, events R246): cam tables, profile words over a planned profile, the commit of authorities
and previews to the radio queue, profile position records, and the TTB commands. -/

namespace Sys2Proof.Machine

/-! ### Cam tables (R228, R229, R232, R233) -/

/-! round(50 × (1 − cos(π p / 256))) for p = 0 to 255 (R232). -/
def camCurve0 : List Nat := [0, 0, 0, 0, 0, 0, 0, 0, 0, 0, 0, 0, 1, 1, 1, 1, 1, 1, 1, 1, 1, 2, 2, 2, 2, 2, 3, 3, 3, 3, 3, 4]
def camCurve1 : List Nat := [4, 4, 4, 5, 5, 5, 5, 6, 6, 6, 6, 7, 7, 7, 8, 8, 8, 9, 9, 9, 10, 10, 11, 11, 11, 12, 12, 13, 13, 13, 14, 14]
def camCurve2 : List Nat := [15, 15, 16, 16, 16, 17, 17, 18, 18, 19, 19, 20, 20, 21, 21, 22, 22, 23, 23, 24, 24, 25, 25, 26, 26, 27, 28, 28, 29, 29, 30, 30]
def camCurve3 : List Nat := [31, 31, 32, 33, 33, 34, 34, 35, 35, 36, 37, 37, 38, 38, 39, 40, 40, 41, 41, 42, 43, 43, 44, 44, 45, 46, 46, 47, 48, 48, 49, 49]
def camCurve4 : List Nat := [50, 51, 51, 52, 52, 53, 54, 54, 55, 56, 56, 57, 57, 58, 59, 59, 60, 60, 61, 62, 62, 63, 63, 64, 65, 65, 66, 66, 67, 67, 68, 69]
def camCurve5 : List Nat := [69, 70, 70, 71, 71, 72, 72, 73, 74, 74, 75, 75, 76, 76, 77, 77, 78, 78, 79, 79, 80, 80, 81, 81, 82, 82, 83, 83, 84, 84, 84, 85]
def camCurve6 : List Nat := [85, 86, 86, 87, 87, 87, 88, 88, 89, 89, 89, 90, 90, 91, 91, 91, 92, 92, 92, 93, 93, 93, 94, 94, 94, 94, 95, 95, 95, 95, 96, 96]
def camCurve7 : List Nat := [96, 96, 97, 97, 97, 97, 97, 98, 98, 98, 98, 98, 99, 99, 99, 99, 99, 99, 99, 99, 99, 100, 100, 100, 100, 100, 100, 100, 100, 100, 100, 100]
def camCurve : List Nat := camCurve0 ++ camCurve1 ++ camCurve2 ++ camCurve3 ++ camCurve4 ++ camCurve5 ++ camCurve6 ++ camCurve7

/-- An entry of the default cam table: VERSION 1, 64 steps (R232). -/
def defaultCam (n : Nat) : Nat := 100 * (n / 256) + camCurve.getD (n % 256) 0

/-- The active table: VERSION, number of entries, and an entry. -/
def State.camVersion (s : State) : Nat := (s.ttb.cam.map (·.version)).getD 1
def State.camSize (s : State) : Nat := match s.ttb.cam with
  | some c => c.entries.length
  | none => 16384
def State.camAt (s : State) (n : Nat) : Nat := match s.ttb.cam with
  | some c => c.entries.getD n 0
  | none => defaultCam n

/-- The registers that show the active and staged tables. -/
def State.showCam (s : State) : State :=
  let t := (s.setFld F.TTB_CAM_ACTIVE s.camVersion).setFld F.TTB_CAM_STAGED ((s.ttb.staged.map (·.version)).getD 0)
  let t := (t.setFld F.TTB_STAT_STAGED (b2n s.ttb.staged.isSome)).setFld F.TTB_STAT_DEFAULT_CAM (b2n s.ttb.cam.isNone)
  (t.setFld F.TTB_CAM_INFO_VTOP (s.camAt (s.camSize - 1))).setFld F.TTB_CAM_INFO_NSTEP (s.camSize / 256)

/-- Rovers whose reported VERSION is not the active one, rovers whose record is INVALID, and R230's limit, whose event is raised once
when it comes to stand. -/
def State.syncTtb (s : State) : State :=
  let ps := s.ttb.profiles.map (·.2)
  let t := s.setFld F.TTB_STAT_NOCAM (ps.filter fun p => p.camSeen && p.camVer != s.camVersion).length
  let t := t.setFld F.TTB_STAT_INVALID (ps.filter fun p => p.state == 3).length
  let overRun := decide (32 * s.fld F.TTB_CTL_PW_MS < s.authNs / oneMs)
  let t := if overRun && !s.flag F.TTB_STAT_LIMIT then t.raise Ev.ttbLate (le 1 1 ++ le 1 0 ++ le 2 (t.fld F.TTB_LOAD_LAST_US)) else t
  t.setFld F.TTB_STAT_LIMIT (b2n overRun)

/-- The check of a cam image (R233): CODE, and the first failing entry. -/
def checkCam (p : List Byte) (active : Nat) : Option (Nat × Nat) :=
  let n := p.length
  let ns := rdN p 6 2
  let cam (i : Nat) : Nat := rdN p (16 + 2 * i) 2
  if n < 20 ∨ crc32c (p.take (n - 4)) ≠ rdN p (n - 4) 4 then some (1, 0)
  else if p.take 4 ≠ [0x54, 0x43, 0x41, 0x4D] ∨ rdN p 4 1 ≠ 1 then some (2, 0)
  else if ns = 0 ∨ 256 < ns ∨ n ≠ 20 + 512 * ns then some (3, 0)
  else if cam 0 ≠ 0 then some (4, 0)
  else
    match (List.range (256 * ns - 1)).find? fun i => cam (i + 1) < cam i with
    | some i => some (5, i + 1)
    | none => if rdN p 8 2 = 0 ∨ rdN p 8 2 = active then some (6, 0) else none

/-- EV_TTB_CAM: result, CODE, VERSION, NSTEP. -/
def State.camEvent (s : State) (result code version nstep : Nat) : State :=
  s.raise Ev.ttbCam (le 1 result ++ le 1 code ++ le 2 version ++ le 2 nstep)

/-- TTB_CAM_STAGE (R233, R245). -/
def doTtbCamStage (s : State) (_ _ : Nat) (p : List Byte) : Res :=
  withLen s 8 p <|
    let off := rdN p 0 4
    let len := rdN p 4 4
    if !imageRangeOk off len then refuse s St.badParameter
    else accepted { s with ttb := { s.ttb with staging := some (off, len) } } []
def opTtbCamStage : Op := opL 0x0700 1 doTtbCamStage
def execTtbCamStage (c : Cmd) (s : State) : Host.Outcome State Fault Refusal := .next (s.host c opTtbCamStage)

/-- TTB_CAM_STAGE_DONE (R233). -/
def execTtbCamStageDone (s : State) : Host.Outcome State Fault Refusal :=
  .next <| s.onLanes <|
    match s.ttb.staging with
    | none => s
    | some (off, len) =>
      let p := bytesAt s.dram off len
      let t : State := { s with ttb := { s.ttb with staging := none } }
      match checkCam p s.camVersion with
      | some (code, i) =>
        let t := ((t.setFld F.TTB_CAM_ERR_CODE code).setFld F.TTB_CAM_ERR_STEP (i / 256)).setFld F.TTB_CAM_ERR_PHASE (i % 256)
        t.camEvent 1 code (rdN p 8 2) (rdN p 6 2)
      | none =>
        let c : Cam := ⟨rdN p 8 2, (List.range (256 * rdN p 6 2)).map fun i => rdN p (16 + 2 * i) 2⟩
        let t : State := { t with ttb := { t.ttb with staged := some c } }
        (t.setReg R.TTB_CAM_ERR 0).showCam.camEvent 0 0 c.version (rdN p 6 2)

/-- TTB_CAM_ACTIVATE (R234): from the next superframe. -/
def doTtbCamActivate (s : State) (_ _ : Nat) (p : List Byte) : Res :=
  withLen s 4 p <|
    match s.ttb.staged.filter fun c => c.version == rdN p 0 2 with
    | none => refuse s St.badParameter
    | some c =>
      if !s.fleetHeld then refuse s St.fleetNotStopped
      else okWith { s with ttb := { s.ttb with activate := some c } } (le 2 s.camVersion ++ zeros 2)
def opTtbCamActivate : Op := opL 0x0701 1 doTtbCamActivate
def execTtbCamActivate (c : Cmd) (s : State) : Host.Outcome State Fault Refusal := .next (s.host c opTtbCamActivate)

/-- What takes effect at the start of a superframe (R234, R236): a cam table, which is written to the NOR settings, and
PW_MS. -/
def State.ttbSuperframe (s : State) : State :=
  let s := match s.ttb.pwPend with
    | some v => (({ s with ttb := { s.ttb with pwPend := none } } : State).setFld F.TTB_CTL_PW_MS v).syncTtb
    | none => s
  match s.ttb.activate with
  | some c =>
    let t : State := { s with ttb := { s.ttb with cam := some c, norCam := some c, staged := s.ttb.staged.filter fun x => x != c, activate := none } }
    t.showCam.syncTtb.camEvent 2 0 c.version (c.entries.length / 256)
  | none => s

/-! ### Profile words (R230, R231, R239) -/

/-- The largest cam index whose entry does not exceed a speed in µm/s; a planned standstill is index 0. -/
def State.camIndex (s : State) (speed : Nat) : Nat :=
  if speed = 0 then 0
  else ((List.range s.camSize).filter fun n => 1000 * s.camAt n ≤ speed).getLastD 0

/-- The words of a profile under way. -/
def walkOf (p : Profile) : Walk := ⟨p.t1, p.pw, p.n0, p.words, p.s0⟩

/-- How far a new authority's path starts beyond the start of the one profiled before, in mm. -/
def State.pathShift (s : State) (old new : List Nat) : Nat :=
  match s.sbx.map with
  | some m =>
    let gone := old.takeWhile fun w => wordBlock w != wordBlock (new.headD 0)
    if gone.length = old.length then 0 else (gone.map fun w => 100 * (m.block (wordBlock w)).len).foldl (· + ·) 0
  | none => 0

/-! ### Planning and commitment (R227, R237, R240) -/

/-- Whether an authority is profiled: a committed one that is not REVOKED. -/
def Job.profiled (j : Job) : Bool := !j.preview && !j.auth.revoked

/-- Number of words of an authority (R230). -/
def State.npw (s : State) : Nat := ceilDiv (s.authNs / oneMs) (orOne (s.fld F.TTB_CTL_PW_MS))

/-- Why a rover's authority carries no words: 0 it carries them, 1 EN = 0 or an INVALID record, 2 R230's limit, 3 its cam
VERSION is not the active one (R235). -/
def State.noWords (s : State) (a : Nat) : Nat :=
  let p := s.prof a
  if !s.flag F.TTB_CTL_EN ∨ p.state = 3 then 1
  else if 32 * s.fld F.TTB_CTL_PW_MS < s.authNs / oneMs then 2
  else if !p.camSeen ∨ p.camVer ≠ s.camVersion then 3
  else 0

/-- The profile of the authority issued to the rover of a job before it: of one that waits in front of it for the same commit point, else
of the one committed last (R227). -/
def State.planBase (s : State) (j : Job) (c : Nat) : Profile :=
  let before := (s.ttb.jobs.takeWhile fun x => x != j).filter fun x => x.slot == j.slot && x.planned == some c
  (before.filterMap (·.plan)).getLastD (Tbl.get {} s.ttb.sent j.slot)

/-- The limits of a plan over an authority's path that starts at `ts` for commit point `c` (R238); `hard`: under R240. -/
def State.planLimits (s : State) (m : SiteMap) (j : Job) (c ts : Nat) (hard : Bool) : PlanLimits :=
  let k := Tbl.get ({} : TtbClass) s.ttb.classes (Tbl.get 0 s.ttb.clsOf j.slot)
  { sharp := hard, amax := 1000 * (k.amax : Int), dmax := 1000 * ((if hard then k.dmaxE else k.dmax : Nat) : Int), jmax := k.jmax,
    endS := unitMm * (m.pathEnd j.auth : Nat), stopMs := (c + s.authNs - 10 * s.fld F.TTB_CTL_STOP_MS * oneMs - ts) / oneMs,
    top := min k.vmax (s.camAt (s.camSize - 1)), map := m, blocks := j.auth.blocks }

/-- The plan of one authority against a commit point (R227, R237 to R240): the profile with its words, and the overrun in mm. -/
def State.planned (s : State) (m : SiteMap) (j : Job) (c : Nat) : Profile × Nat :=
  let a := j.slot
  let p := s.prof a
  let base := s.planBase j c
  let cam := s.camAt
  let n := s.npw
  let pw := orOne (s.fld F.TTB_CTL_PW_MS)
  let ts := c + s.authNs - n * pw * oneMs
  let w := walkOf base
  let live := p.state == 1 && decide (base.t1 ≤ ts) && decide (ts ≤ base.t1 + base.words.length * orOne base.pw * oneMs)
  let shift : Int := unitMm * (s.pathShift base.blocks j.auth.blocks : Nat)
  let cmd := w.motion cam ts
  let cmd : Motion := { cmd with s := cmd.s - shift }
  let fix := s.fixOnPath m a j.auth.blocks
  let hpl := ((s.rk a).record.map (·.hpl)).getD 0
  let off := (cmd.s - unitMm * fix.1).natAbs
  let keep := live && decide (off ≤ unitMm.toNat * (100 * s.fld F.TTB_CTL_TRACK_TOL + hpl))
  let start : Motion := if keep then cmd else ⟨unitMm * fix.1, unitMmS * fix.2, 0⟩
  let n0 := if live then w.indexAt ts else 0
  let soft := s.planLimits m j c ts false
  let hard := j.auth.cutBack || !soft.restable start
  let k := if hard then s.planLimits m j c ts true else soft
  let past := if hard then ((k.stopAt stopFuel start - k.endS) / unitMm).toNat else 0
  let plan := k.trace (n * pw) 0 start
  let at_ (i : Nat) : Motion := plan.getD ((i + 1) * pw - 1) start
  let idx := (List.range n).map fun i => min (s.camIndex ((at_ i).v / 2000).toNat) (s.camSize - 1)
  let w' := Walk.fit ⟨ts, pw, n0, idx, (start.s / 6000).toNat⟩ cam plan (idx.foldl (· + ·) 0)
  let words := w'.words
  let state := if words.any (· != 0) || n0 != 0 then 1 else 2
  let p : Profile := { p with state := state, fromFix := !keep, overrun := past != 0, authId := j.auth.id, npw := n, tRef := ts }
  ({ p with s := (start.s / unitMm).toNat, v := (start.v / unitMmS).toNat, a := start.a / 1000, n := n0, t1 := ts, pw := pw, words := words, n0 := n0, s0 := w'.s0, accs := (List.range n).map (fun i => (at_ i).a / 1000), blocks := j.auth.blocks }, past)

/-- One authority is profiled: the rover's position record is updated (R241); one without words keeps its record but for AUTH_ID and NPW. -/
def State.plan (s : State) (j : Job) (c : Nat) : State × Profile :=
  let a := j.slot
  let p := s.prof a
  match s.noWords a, s.sbx.map with
  | 0, some m =>
    let (p', past) := s.planned m j c
    let t := s.setProf a p'
    let t := if p'.fromFix then t.satInc F.TTB_CNT_RESYNC else t
    let t := if past = 0 then t
      else (t.satInc F.TTB_CNT_OVERRUN).raise Ev.ttbOverrun (le 1 a ++ le 1 0 ++ le 2 j.auth.id ++ le 2 (min 65535 past))
    (t, p')
  | r, _ =>
    let t := if r = 3 then s.satInc F.TTB_CNT_NOCAM else s
    let p' : Profile := { p with authId := j.auth.id, npw := 0, words := [], blocks := j.auth.blocks, state := if p.state = 1 then 2 else p.state }
    (t.setProf a p', p')

/-- PROFILE_PLAN (R227, R237): the first committed authority not yet planned against the next commit point. -/
def execProfilePlan (s : State) : Host.Outcome State Fault Refusal :=
  let c := s.nextCommit
  let wants (j : Job) : Bool := j.profiled && j.planned != some c
  .next <| s.onLanes <|
    match s.ttb.jobs.findIdx? wants with
    | some i =>
      match s.ttb.jobs[i]? with
      | some j =>
        let (t, p) := s.plan j c
        { t with ttb := { t.ttb with jobs := t.ttb.jobs.set i { j with planned := some c, plan := some p } } }
      | none => s
    | none => s

/-- The words that an authority carries. -/
def Job.words (j : Job) : List Nat := ((j.plan.map fun p => p.words.take p.npw).getD [])

/-- An authority body with its words (R176, Table 7-4). -/
def State.authBody (s : State) (j : Job) (expiry : Nat) : List Byte :=
  let x := j.auth
  let flags := b2n j.preview + 2 * b2n x.cutBack + 4 * b2n x.revoked + 8 * b2n x.last
  le 1 j.slot ++ le 1 flags ++ le 2 x.id ++ le 4 ((s.sbx.map.map (·.id)).getD 0) ++ le 8 expiry ++ le 2 x.endOfs
    ++ le 1 x.blocks.length ++ le 1 j.words.length ++ (x.blocks.map (le 2)).flatten ++ (j.words.map (le 2)).flatten

/-- A section due to a rover: an older carried one of the same kind is dropped (R261). -/
def State.addSection (s : State) (a : Nat) (x : Section) : State :=
  let b := s.bound a
  s.setBound a { b with sections := (b.sections.filter fun y => y.preview != x.preview) ++ [x] }

/-- One authority or preview is committed to the radio queue: the commit point is its issue time (R177, R185). -/
def State.commitJob (s : State) (c : Nat) (j : Job) : State :=
  let a := j.slot
  let r := s.sx a
  let expiry := j.auth.expiry.getD (c + if j.preview then s.tentNs else s.authNs)
  let stamp (x : Option Auth) : Option Auth := x.map fun y => if y.id = j.auth.id ∧ y.expiry.isNone then { y with expiry := some expiry } else y
  let ws := r.withdraws.map fun w => if w.prevId = j.auth.id ∧ w.sf.isNone then { w with sf := some (s.sfAt c) } else w
  let t := if j.preview then s.setSx a { r with tent := stamp r.tent, withdraws := ws } else s.setSx a { r with auth := stamp r.auth, releasing := stampReleasing j.auth.id expiry r.releasing }
  let t : State := match j.plan with
    | some p => { t with ttb := { t.ttb with sent := Tbl.put {} t.ttb.sent a p } }
    | none => t
  let body := s.authBody j expiry
  (t.laneOut 0x13 0 (le 1 a ++ le 1 (b2n j.preview) ++ body)).addSection a ⟨j.cls, j.preview, j.auth.id, body⟩

/-- AUTHORITY_COMMIT (R227): at the 14.0 ms commit point; an authority not profiled for it waits for the next, and so does every
authority while a decant is held (R443). `us` is the time the profiling took. -/
def execAuthorityCommit (us : Nat) (s : State) : Host.Outcome State Fault Refusal :=
  let c := s.t0At s.laneSf + 14 * oneMs
  .next <| s.onLanes <|
    if s.laneNow < c ∨ c ≤ s.ttb.commitAt then s
    else
      let late (j : Job) : Bool := j.profiled && j.planned != some c
      let held (j : Job) : Bool := s.flag F.UPD_STAT_HOLD && !j.preview
      let go := s.ttb.jobs.filter fun j => !late j && !held j
      let wait := s.ttb.jobs.filter fun j => late j || held j
      let t : State := { s with ttb := { s.ttb with jobs := wait, commitAt := c } }
      let t := go.foldl (fun t j => t.commitJob c j) t
      let t := t.setFld F.TTB_STAT_PROFILED (go.filter Job.profiled).length
      let t := (t.setFld F.TTB_LOAD_LAST_US (min 65535 us)).setFld F.TTB_LOAD_MAX_US (max (min 65535 us) (t.fld F.TTB_LOAD_MAX_US))
      let t := t.syncTtb.syncSbx
      let lates := wait.filter late
      if lates.isEmpty then t
      else (t.satAdd F.TTB_CNT_LATE lates.length).raise Ev.ttbLate (le 1 0 ++ le 1 lates.length ++ le 2 (min 65535 us))

/-- PROFILE_WORD_BOUNDARY (R241): the position record of a rover at the latest word boundary; past the last word it stands
still. -/
def execProfileWordBoundary (slot : Fin 128) (s : State) : Host.Outcome State Fault Refusal :=
  let a := slot.val
  let p := s.prof a
  let pw := orOne p.pw * oneMs
  .next <| s.onLanes <|
    if p.state ≠ 1 ∨ s.laneNow < p.tRef + pw then s
    else
      let i := min p.words.length ((s.laneNow - p.t1) / pw)
      let n := if i = p.words.length then 0 else p.words.getD (i - 1) 0
      let d := (walkOf p).dist s.camAt (p.t1 + i * pw)
      s.setProf a { p with tRef := p.t1 + i * pw, s := d / 1000000, v := s.camAt n, a := p.accs.getD (i - 1) 0, n := n, state := if i = p.words.length then 2 else 1 }

/-- A rover reports its cam VERSION, or asks for a fresh authority after its record was lost (R235, R243). -/
def State.camReport (s : State) (a ver : Nat) (needAuth : Bool) : State :=
  let p := s.prof a
  (s.setProf a { p with camVer := ver, camSeen := true, state := if p.state = 3 ∧ needAuth then 2 else p.state }).syncTtb

/-- TTB_CNT_CLR (R245). -/
def State.ttbCntClr (s : State) : State := (s.resetRegs [R.TTB_CNT]).setFld F.TTB_LOAD_MAX_US 0
def execTtbCntClr (s : State) : Host.Outcome State Fault Refusal := .next s.ttbCntClr

/-! ### Commands (R236, R241, R245) -/

def State.ttbClass (s : State) (c : Nat) : TtbClass := Tbl.get {} s.ttb.classes c

/-- The limits of Table 9-1. -/
def TtbClass.ok (k : TtbClass) : Bool :=
  decide (10 ≤ k.vmax ∧ k.vmax ≤ 25500 ∧ 10 ≤ k.amax ∧ k.amax ≤ 5000 ∧ 10 ≤ k.dmax ∧ k.dmax ≤ 5000 ∧ k.dmax ≤ k.dmaxE ∧ k.dmaxE ≤ 10000 ∧ 10 ≤ k.jmax ∧ k.jmax ≤ 20000)

/-- TTB_SET_LIMITS (R236). -/
def doTtbSetLimits (s : State) (_ _ : Nat) (p : List Byte) : Res :=
  withLen s 16 p <|
    let act := rdN p 0 1
    let c := rdN p 1 1
    let slot := rdN p 2 1
    let pw := rdN p 3 1
    let k : TtbClass := ⟨rdN p 4 2, rdN p 6 2, rdN p 8 2, rdN p 10 2, rdN p 12 2⟩
    let answer (t : State) : Res :=
      let k := t.ttbClass c
      okWith t (le 2 k.vmax ++ le 2 k.amax ++ le 2 k.dmax ++ le 2 k.dmaxE ++ le 2 k.jmax ++ le 1 (t.fld F.TTB_CTL_PW_MS) ++ le 1 0)
    if 3 < act ∨ 7 < c ∨ (act = 1 ∧ !k.ok) ∨ (act = 2 ∧ 127 < slot) ∨ (act = 3 ∧ (pw < 10 ∨ 250 < pw)) then refuse s St.badParameter
    else if act = 1 then answer { s with ttb := { s.ttb with classes := Tbl.put {} s.ttb.classes c k } }
    else if act = 2 then answer { s with ttb := { s.ttb with clsOf := Tbl.put 0 s.ttb.clsOf slot c } }
    else if act = 3 then
      if !s.fleetHeld then refuse s St.fleetNotStopped
      else
        let t : State := { s with ttb := { s.ttb with pwPend := some pw } }
        answer (t.norStore F.TTB_CTL_PW_MS.addr (fldIn F.TTB_CTL_PW_MS 0 255) (BitVec.ofNat 32 (fldIn F.TTB_CTL_PW_MS 0 pw)))
    else answer s
def opTtbSetLimits : Op := opL 0x0702 1 doTtbSetLimits
def execTtbSetLimits (c : Cmd) (s : State) : Host.Outcome State Fault Refusal := .next (s.host c opTtbSetLimits)

/-- The profile position record of a rover (Table 9-2). -/
def State.profBytes (s : State) (a : Nat) : List Byte :=
  let p := s.prof a
  le 1 a ++ le 1 (p.state + 8 * b2n p.fromFix + 16 * b2n p.overrun) ++ le 2 p.authId ++ le 2 p.camVer ++ le 1 (Tbl.get 0 s.ttb.clsOf a)
    ++ le 1 p.npw ++ le 8 p.tRef ++ le 4 p.s ++ le 2 p.v ++ leI 2 p.a ++ le 2 p.n ++ zeros 2

/-- TTB_GET_PROFILE (R241). -/
def doTtbGetProfile (s : State) (_ _ : Nat) (p : List Byte) : Res :=
  withLen s 4 p <|
    let a := rdN p 0 1
    if 127 < a then refuse s St.badParameter
    else okWith s (s.profBytes a ++ (((s.prof a).words.take (s.prof a).npw).map (le 2)).flatten)
def opTtbGetProfile : Op := opL 0x0703 0 doTtbGetProfile
def execTtbGetProfile (c : Cmd) (s : State) : Host.Outcome State Fault Refusal := .next (s.host c opTtbGetProfile)

end Sys2Proof.Machine
end

