-- ==== Sys2Proof/Machine/Pass.lean ====
section
/-! DEFINITION. The signal box's pass (R185) with the map changes that take effect at its start, and the requests that
allotment submits. -/

namespace Sys2Proof.Machine

/-! ### Map changes (R174, R175) -/

/-- The number shown as the active map. -/
def State.showMap (s : State) : State :=
  let t := s.setReg R.SBX_MAP_ID (BitVec.ofNat 32 ((s.sbx.map.map (·.id)).getD 0))
  (t.setReg R.SBX_MAP_STG (BitVec.ofNat 32 ((s.sbx.staged.map (·.id)).getD 0))).syncSbx.syncAlt

/-- Every live committed authority is revoked as under SBX_REVOKE mode 0, and every route, wait and hold ends (R175). -/
def State.revokeAll (s : State) : State :=
  s.sbxSlots.foldl (fun t a =>
    let u := if (t.laneAuth a).isSome then (t.curtail a true).1 else t.endWait a
    u.setSx a { u.sx a with route := [], tent := none }) s

/-- Staged maps whose ORIGIN_CRC does not match the origin in force are discarded (R175). -/
def State.dropStaged (s : State) (crc : Option Nat) : State :=
  let fits (m : SiteMap) : Bool := some m.originCrc == crc
  let s : State := { s with sbx := { s.sbx with activate := s.sbx.activate.filter fits } }
  match s.sbx.staged with
  | some m => if fits m then s else ({ s with sbx := { s.sbx with staged := none } } : State).mapEvent 3 4 m.id 0
  | none => s

/-- At a pass, maps whose ORIGIN_CRC does not match the origin in force are discarded or withdrawn (R175). -/
def State.originCheck (s : State) : State :=
  let crc := s.rtk.origin.map originCrc
  let s := s.dropStaged crc
  match s.sbx.map with
  | some m =>
    if some m.originCrc = crc then s.showMap
    else
      let t := s.revokeAll
      ({ t with sbx := { t.sbx with map := none } } : State).showMap.mapEvent 3 4 m.id 0
  | none => s.showMap

/-- Tasks whose ORIGIN or DEST no longer exists fail at a map activation (Table 8-4). -/
def State.checkTasks (s : State) (m : SiteMap) : State :=
  let gone (b : Nat) : Bool := b != noBlock && decide (m.blocks.length ≤ b)
  let bad := (s.alt.tasks.filter fun p => p.2.state != tkFREE && (gone p.2.origin || gone p.2.dest)).map (·.1)
  bad.foldl (fun t i => t.failTask i 0) s

/-- Occupancy is evaluated on the active map at the fixes in use (R179); a NONE hold stands (R180). -/
def State.reoccupy (s : State) : State :=
  s.sbxSlots.foldl (fun t a =>
    match (t.rk a).record with
    | some f => if (t.sx a).noneHold || f.cls == 0 then t else t.setSx a { t.sx a with occ := t.occupied f }
    | none => t) s

/-- The image whose activation was accepted comes into force (R174); while a live authority or a RELEASING block has come to prevent it,
it waits for a later pass (entry 170). -/
def State.activateMap (s : State) : State :=
  match s.sbx.activate.filter fun n => (s.mapBlocker n).isNone with
  | some n =>
    let old := s.groundMap
    let keeps (a : Nat) : Bool := match old with
      | some m => (s.sx a).route.all fun w => sameBlock m n (wordBlock w)
      | none => false
    let t := s.sbxSlots.foldl State.withdrawAll s
    let t := t.sbxSlots.foldl (fun t a => if keeps a then t else (t.endWait a).setSx a { (t.endWait a).sx a with route := [] }) t
    let sbx : Sbx := { t.sbx with map := some n, norMap := some n, staged := t.sbx.staged.filter fun m => m != n, activate := none, zoneCap := [] }
    let t : State := { t with sbx := sbx }
    let t : State := match t.alt.lmkNext with
      | some l => if l.mapId = n.id then { t with alt := { t.alt with lmk := some l, lmkNext := none } } else t
      | none => t
    let t := (t.reoccupy.showMap).mapEvent 2 0 n.id 0
    let crowded := (List.range n.zones.length).filter fun z => t.zoneCapOf n z < (t.zoneCount n z).length
    let t := crowded.foldl (fun t z => t.raise Ev.sbxZone (le 2 z ++ le 1 (t.zoneCapOf n z) ++ le 1 (t.zoneCount n z).length)) t
    t.checkTasks n
  | none => s

/-! ### The pass (R185) -/

/-- How long a rover has waited without a break. -/
def State.waited (s : State) (a : Nat) : Nat := if (s.sx a).waitOn.isSome then s.laneNow - (s.sx a).waitSince else 0

/-- The order of the pass: higher priority, then the longer unbroken wait, then the lower slot. -/
def State.passOrder (s : State) : List Nat :=
  let before (a b : Nat) : Bool :=
    let x := s.sx a
    let y := s.sx b
    decide (y.prio < x.prio) || (x.prio == y.prio && (decide (s.waited b < s.waited a) || (s.waited a == s.waited b && decide (a < b))))
  sortBy before (s.sbxSlots.filter fun a => !(s.sx a).route.isEmpty)

/-- Holds that have not changed are sent again every superframe while previews are enabled (R195). -/
def State.resendPreviews (s : State) : State :=
  if !s.flag F.SBX_CTL_PREVIEW_EN then s
  else
    s.sbxSlots.foldl (fun t a =>
      match (t.sx a).tent with
      | some x => if t.ttb.jobs.any fun j => j.slot == a && j.preview then t else t.hand a true 3 x
      | none => t) s

/-- SBX_PASS (R185): once per superframe, from 8.0 ms after its slot 0; `us` is the time it takes. -/
def execSbxPass (us : Nat) (s : State) : Host.Outcome State Fault Refusal :=
  let f := s.laneSf
  .next <| s.onLanes <|
    if s.laneNow < s.t0At f + 8 * oneMs ∨ s.sbx.passF = some f then s
    else
      let t : State := { s with sbx := { s.sbx with passF := some f } }
      let t := t.originCheck.activateMap
      let t := (t.passOrder.foldl State.extend t).resendPreviews
      (t.setFld F.SBX_LOAD_MAX_US (max (min 65535 us) (t.fld F.SBX_LOAD_MAX_US))).syncSbx

/-- ROUTE_REQUEST (R182, R185): the next route that allotment has submitted is checked and processed. -/
def execRouteRequest (s : State) : Host.Outcome State Fault Refusal :=
  .next <| s.onLanes <|
    match s.sbx.reqs with
    | [] => s
    | q :: rest =>
      let (t, r) := ({ s with sbx := { s.sbx with reqs := rest } } : State).routeRequest q
      t.routeAnswer q r

end Sys2Proof.Machine
end

