-- ==== Sys2Proof/Machine/Frames.lean ====
section
/-! DEFINITION. What leaves on Ethernet and on the air: key slots by usage (R425), frames on an external port, chain
frames (R323), the stop frame (R264) and tagged radio frames (R258). -/

namespace Sys2Proof.Machine

/-! ### Keys in use (R425) -/

/-- The key of a slot named by a register, while it holds a key of the usage asked for. -/
def State.keyIn (s : State) (slot usage : Nat) : Option Nat :=
  if slot < 64 ∧ s.slotUsage slot = usage then some (Tbl.get 0 s.sec.keys slot) else none

/-- The stop key, and the radio key of a KEY_ID (R281). -/
def State.stopKey (s : State) : Option Nat := s.keyIn (s.fld F.RAD_KEY_STOP_SLOT) usageSTOP
def State.radioKey (s : State) (keyId : Nat) : Option Nat :=
  s.keyIn (if keyId = 0 then s.fld F.RAD_KEY_SLOT0 else s.fld F.RAD_KEY_SLOT1) usageRADIO

/-- A tag under the stop key; all zero bytes while no stop key is loaded (R294). -/
def State.stopTag (s : State) (msg : List Byte) : List Byte :=
  match s.stopKey with
  | some k => cmac64 k msg
  | none => zeros 8

/-! ### Ethernet -/

/-- NET and SITE_ID of the module. -/
def State.net (s : State) : Nat := s.fld F.RAD_CTL_NET
def State.site (s : State) : Nat := s.fuses.siteId

/-- The module's MAC address, in order of its octets (R310). -/
def State.macBytes (s : State) : List Byte := be 2 (s.fld F.ETH_MAC_HI_MAC_HI) ++ be 4 (s.fld F.ETH_MAC_LO_MAC_LO)

/-- Whether an external port has link and may send: nothing is sent in Dormant (R328) or before the hub runs. -/
def State.ethUp (s : State) (n : Nat) : Bool :=
  s.flag (F.ETH_P_CFG_EN n) && s.flag (F.ETH_P_STAT_LINK n) && s.pwr.hubReady && s.pwr.state != .dormant

/-- A frame leaves on an external port, padded to 60 bytes; without link it is not sent. -/
def State.ethSend (s : State) (n : Nat) (bytes : List Byte) : State :=
  if s.ethUp n then (s.satInc (F.ETH_P_CNT1_TX_OK (n % 2))).emit (.eth n (bytes ++ zeros (60 - bytes.length))) else s

/-! Chain frame types (Table 12-3). -/
def ctSTOP : Nat := 0x01
def ctHELLO : Nat := 0x02
def ctDISCOVER : Nat := 0x03
def ctREPLY : Nat := 0x04
def ctIMAGE : Nat := 0x10
def ctDECANT : Nat := 0x11

/-- The chain destination address. -/
def chainDA : List Byte := [0x03, 0x4A, 0x58, 0x43, 0x48, 0x00]

/-- A chain frame (Table 12-3). -/
def State.chainFrame (s : State) (ctype : Nat) (payload : List Byte) : List Byte :=
  chainDA ++ s.macBytes ++ [0x88, 0xB5] ++ le 1 1 ++ le 1 ctype ++ le 2 payload.length ++ payload

/-- The payload of a chain stop frame (Table 11-2) of this module. -/
def State.stopPayload (s : State) (rep : Nat) : List Byte :=
  let head := le 2 s.site ++ le 1 s.net ++ le 1 rep ++ le 4 (s.fld F.STP_CNT_STOP_CNT)
  head ++ le 1 0 ++ zeros 3 ++ s.stopTag head

/-! ### Radio -/

/-- What the MAC holds of a port. -/
def State.port (s : State) (n : Nat) : RadPort := Tbl.get {} s.rad.ports n
def State.setPort (s : State) (n : Nat) (p : RadPort) : State :=
  { s with rad := { s.rad with ports := Tbl.put {} s.rad.ports n p } }

/-- The radio ports enabled. -/
def State.portsOn (s : State) : List Nat := [0, 1, 2, 3].filter fun n => s.flag (F.RAD_P_CFG_EN n)

/-- The air rates of Table 10-16, bit/s. -/
def rateBits (code : Nat) : Nat := [50000, 100000, 250000, 500000, 1000000, 2000000, 4000000, 8000000].getD code 50000

/-- PHY_OH of profile 0x00, the one profile of the image (R248). -/
def phyOh : Nat := 8

/-- The air time of `n` MAC bytes at a rate, in ns, rounded up. -/
def airNs (code n : Nat) : Nat := ceilDiv ((n + phyOh) * 8 * oneSec) (rateBits code)

/-- The capacity of a run in MAC bytes, for the module as sender (R254). -/
def runCapacity (code span : Nat) : Nat := (span * 312500 - 60000) * rateBits code / (8 * oneSec) - phyOh

/-- The stop frame of a STOP_CNT, with TTL 7 (R264). -/
def State.stopFrame (s : State) (cnt : Nat) : List Byte :=
  let tail := le 2 s.site ++ le 1 s.net ++ le 1 0 ++ le 4 cnt
  le 1 0x18 ++ le 1 7 ++ tail ++ s.stopTag (le 1 0x18 ++ tail)

/-- The stop frame the transceivers hold armed: it carries the value the next firing will use (R294). -/
def State.nextStopFrame (s : State) : List Byte := s.stopFrame ((s.fld F.STP_CNT_STOP_CNT + 1) % 2 ^ 32)

/-! Radio frame types (Table 10-7). -/
def ftBEACON : Nat := 1
def ftDOWN : Nat := 2
def ftUP : Nat := 3
def ftBULK_DN : Nat := 4
def ftBULK_UP : Nat := 5
def ftJOIN : Nat := 6
def ftASSIGN : Nat := 7

/-- MSG_ID of a frame (R278). -/
def msgId (sfn slot : Nat) : Nat := (sfn % 512 * 128 + slot) % 65536

/-- The bytes of a radio frame of the module (R258, Table 10-6), tagged under the key of TX_KEY; without a key its tag is a
free value. `ttl` is the TTL of a flooded frame, 0 when FLOOD is clear. -/
def State.radioFrame (s : State) (ftype slot sfn ttl : Nat) (body : List Byte) : List Byte :=
  let id := s.fld F.RAD_KEY_TX_KEY
  let head := le 1 (ftype + 16) ++ le 1 (b2n (ttl != 0)) ++ le 2 s.site ++ le 1 s.net ++ le 1 slot ++ le 2 sfn
    ++ le 2 body.length ++ le 1 id ++ le 1 0
  let mid := if ttl = 0 then [] else le 2 (msgId (sfn % 65536) slot)
  let ext := if ttl = 0 then [] else le 1 ttl ++ le 1 255 ++ mid
  let tag := match s.radioKey id with
    | some k => cmac64 k (head ++ mid ++ body)
    | none => le 8 (s.freeVal 64)
  head ++ ext ++ body ++ tag

/-- A received radio frame taken apart (R258). -/
structure RxFrame where
  ftype : Nat
  flood : Bool
  up : Bool
  slot : Nat
  sfn : Nat
  /-- RELAY of the flood extension, 255 when the frame came directly; MSG_ID -/
  relay : Nat
  msg : Nat
  body : List Byte
  /-- the tag passes under the key its KEY_ID chooses -/
  tagOk : Bool

/-- A frame of the module's own SITE_ID and NET, with a length that fits; none for any other. -/
def State.rxFrame (s : State) (p : List Byte) : Option RxFrame :=
  let flood := bit (rdN p 1 1) 0
  let ext := if flood then 4 else 0
  let len := rdN p 8 2
  if p.length < 12 ∨ rdN p 0 1 / 16 ≠ 1 ∨ rdN p 2 2 ≠ s.site ∨ rdN p 4 1 ≠ s.net ∨ p.length ≠ 12 + ext + len + 8 then none
  else
    let mid := if flood then (p.drop 14).take 2 else []
    let body := (p.drop (12 + ext)).take len
    let tagOk := match s.radioKey (rdN p 10 1 % 2) with
      | some k => rdN p 10 1 ≤ 1 && cmac64 k (p.take 12 ++ mid ++ body) == p.drop (12 + ext + len)
      | none => false
    some ⟨rdN p 0 1 % 16, flood, bit (rdN p 1 1) 1, rdN p 5 1, rdN p 6 2, if flood then rdN p 13 1 else 255, if flood then rdN p 14 2 else 0, body, tagOk⟩

/-- Tag failures of a port in the last second, EV_RAD_AUTH at most once a second (R281). -/
def State.tagFail (s : State) (n ftype : Nat) : State :=
  let q := s.port n
  let t := s.satInc (F.RAD_P_CNT0_TAG_FAIL n)
  let quiet := match q.authAt with
    | some e => !s.passed e oneSec
    | none => false
  if quiet then t.setPort n { q with fails := q.fails + 1 }
  else (t.setPort n { q with fails := 0, authAt := some s.el }).raise Ev.radAuth (le 1 n ++ le 1 (min 255 (q.fails + 1)) ++ le 1 ftype)

/-- A frame received on an enabled port: foreign frames are ignored, one whose tag fails is discarded and counted (R281). -/
def State.rxCheck (s : State) (n : Nat) (bytes : List Byte) : State × Option RxFrame :=
  if !s.flag (F.RAD_P_CFG_EN n) || !s.flag F.RAD_CTL_EN || s.flag (F.RAD_P_STAT_SLEEP n) || !s.pwr.hubReady then (s, none)
  else
    match s.rxFrame bytes with
    | some f => if f.tagOk then (s.satInc (F.RAD_P_CNT1_RX_OK n), some f) else (s.tagFail n f.ftype, none)
    | none => (s, none)

end Sys2Proof.Machine
end

