-- ==== Sys2Proof/Machine/StopPath.lean ====
section
/-! DEFINITION. The hard stop path (R287 to R296, R305): its sources, its firing, what the lanes take of a stop, and chain stop
frames. -/

namespace Sys2Proof.Machine

/-! Bits of STP_SRC (Table 11-1). -/
def srcPIN_A : Nat := 0
def srcPIN_B : Nat := 1
def srcDISC : Nat := 2
def srcCMD : Nat := 3
def srcLANES : Nat := 4
def srcMISMATCH : Nat := 5
def srcHUB_CHECK : Nat := 6
def srcSUPPLY : Nat := 7
def srcCHAIN : Nat := 8
def srcTAMPER : Nat := 9
def srcRESET : Nat := 10
def srcREFCLK : Nat := 11

/-- The level sources (Table 11-1): all but CMD and RESET. -/
def levelSources : Nat := 0xBF7

/-- Whether a source is in force. -/
def State.inForce (s : State) (src : Nat) : Bool := bit (s.fld F.STP_SRC_SRC) src

/-- Whether a source other than CHAIN and RESET is in force (R296). -/
def State.ownSource (s : State) : Bool := s.fld F.STP_SRC_SRC &&& 0xAFF != 0

/-- The rovers under STOP_ROVER or a zone stop. -/
def State.targetStops (s : State) : List Nat :=
  allSlots.filter fun a => s.stp.rovers.contains a || s.stp.zones.any fun z => z.rovers.contains a

/-- STP_STAT.ROVERS and the STOPPED bits (R293, R299): a fired stop of the whole fleet sets every bit. -/
def State.syncStop (s : State) : State :=
  let rs := s.targetStops
  let mask := if s.fleetStopped && s.stp.firedAt.isSome then 2 ^ 128 - 1 else rs.foldl (fun m a => m + 2 ^ a) 0
  let t := (s.setFld F.STP_STAT_ROVERS rs.length).setFld F.STP_STAT_RELEASE_PEND (b2n s.stp.release.isSome)
  [0, 1, 2, 3].foldl (fun t i => t.setFld (F.STP_ROVER_STOPPED i) (mask / 2 ^ (32 * i))) t

/-- STOP_OUT_A_N and STOP_OUT_B_N at their active or inactive level, and read back. -/
def State.stopOut (s : State) (active : Bool) : State :=
  let t : State := { s with pins := { s.pins with stopOutA := active, stopOutB := active } }
  (t.setFld F.STP_STAT_OUT_A (b2n active)).setFld F.STP_STAT_OUT_B (b2n active)

/-! ### Chain stop frames (R295, R296) -/

/-- The next chain stop frame of this module leaves on both Ethernet ports, with the express class (R293 step 4, R296); while
nothing can be sent it is still due. -/
def State.chainStop (s : State) : State :=
  if s.pwr.state = .dormant ∨ !s.pwr.hubReady then { s with stp := { s.stp with sentAt := none } }
  else
    let f := s.chainFrame ctSTOP (s.stopPayload s.stp.rep)
    let t := (s.ethSend 0 f).ethSend 1 f
    { t with stp := { t.stp with rep := (s.stp.rep + 1) % 256, sentAt := some s.el } }

/-! ### Firing (R293) -/

/-- The time between STP_TX edges on a port (R250): 1 ms from 250 kbit/s up, else the stop frame's air time plus 0.5 ms
rounded up to a whole millisecond. -/
def State.edgeGap (s : State) (n : Nat) : Nat :=
  let code := s.fld (F.RAD_P_CFG_RATE n)
  if 2 ≤ code then oneMs else ceilDiv (airNs code 18 + oneMs / 2) oneMs * oneMs

/-- The first STP_TX edge on a port (R250): the frame its transceiver holds is sent and is armed anew afterwards. -/
def State.stopEdge (s : State) (n : Nat) : State :=
  let t := (s.emit (.stpTx n)).setPort n { s.port n with edges := 1, edgeAt := s.el + s.edgeGap n }
  (t.setFld (F.RAD_P_STAT_STOPPING n) 1).setFld (F.RAD_P_STAT_ARM_OK n) 0

/-- The lanes take a stop of the whole fleet as one input (R293 step 5, Tables 7-6, 8-4, 9-3). -/
def State.lanesStop (s : State) : State :=
  s.toLanes fun t => ((t.sbxSlots.foldl (fun u a => u.stopRover false a) t).altStop).syncSbx

/-- The hard stop path fires (R293, R294, R307). -/
def State.fire (s : State) : State :=
  let cnt := (s.fld F.STP_CNT_STOP_CNT + 1) % 2 ^ 32
  let t : State := { s with stp := { s.stp with firedAt := some s.now, authMax := s.authNs, norCnt := cnt, rep := 0 }, vbat := { s.vbat with stopCnt := some cnt } }
  let t := (t.setFld F.STP_CNT_STOP_CNT cnt).setFld F.STP_STAT_STOPPED 1
  let t := (t.portsOn.foldl (fun t n => t.stopEdge n) t).stopOut true
  let t := t.syncStop
  let t := if t.flag F.STP_CTL_CHAIN_SEND && t.ownSource then t.chainStop else t
  let detail := le 4 (t.fld F.STP_SRC_SRC) ++ le 4 cnt
  ((t.raise Ev.stpStop detail).record 0x03 detail).lanesStop

/-- EV_STP_SOURCE and its record (R307). -/
def State.sourceEvent (s : State) (src : Nat) (on : Bool) : State :=
  let d := le 1 src ++ le 1 (b2n on) ++ zeros 2 ++ le 4 (s.fld F.STP_CNT_STOP_CNT)
  (s.raise Ev.stpSource d).record 0x04 d

/-- EV_STP_RELEASE; a release done or abandoned is recorded (R303). -/
def State.releaseEvent (s : State) (scope result target : Nat) : State :=
  let d := le 1 scope ++ le 1 result ++ le 2 target ++ le 4 (s.fld F.STP_CNT_STOP_CNT)
  let t := s.raise Ev.stpRelease d
  if result = 0 then t else t.record 0x05 d

/-- A source comes into force (R287): it abandons a pending release (R302), fires the path while no stop of the whole fleet
is in force, and otherwise starts the chain frames of a module that had no source of its own (R296). In Dormant it wakes
the module (R473). -/
def State.sourceOn (s : State) (src : Nat) : State :=
  if s.inForce src then s
  else
    let own := s.ownSource
    let t := s.setFld F.STP_SRC_SRC (withBit (s.fld F.STP_SRC_SRC) src true)
    let t := (t.setFld F.STP_LATCH_SEEN (withBit (t.fld F.STP_LATCH_SEEN) src true)).sourceEvent src true
    let t := if t.stp.release.isSome
      then (({ t with stp := { t.stp with release := none } } : State).syncStop).releaseEvent 0 2 0 else t
    let t : State := { t with pwr := { t.pwr with wake := withBit t.pwr.wake 3 (bit t.pwr.wake 3 || t.pwr.state == .dormant || t.pwr.state == .entering) } }
    if !t.fleetStopped then t.fire
    else if !own && t.ownSource && t.flag F.STP_CTL_CHAIN_SEND then t.chainStop
    else t

/-- A source leaves force (R288). -/
def State.sourceOff (s : State) (src : Nat) : State :=
  if s.inForce src then (s.setFld F.STP_SRC_SRC (withBit (s.fld F.STP_SRC_SRC) src false)).sourceEvent src false else s

/-- A write of SBX_EXP: the largest AUTH_MS since the firing bounds T_R (R301). -/
def State.noteAuthMs (s : State) : State := { s with stp := { s.stp with authMax := max s.stp.authMax s.authNs } }

/-! ### Received chain stop frames (R295) -/

/-- A chain stop frame received on port `n`: accepted, it puts CHAIN in force and goes on by the other port. -/
def State.chainStopIn (s : State) (n : Nat) (p : List Byte) : State :=
  let origin := rdN p 2 1
  let cnt := rdN p 4 4
  let rep := rdN p 3 1
  let hops := rdN p 8 1
  let key := (origin, cnt, rep)
  if p.length ≠ 20 ∨ rdN p 0 2 ≠ s.site ∨ origin = s.net ∨ s.stp.chainKeys.contains key ∨ !s.flag F.STP_CTL_CHAIN_OBEY then s
  else
    let failed := match s.stopKey with
      | some k => cmac64 k (p.take 8) != p.drop 12
      | none => true
    let t : State := { s with stp := { s.stp with chainKeys := (key :: s.stp.chainKeys).take 16, chainAt := s.el } }
    let t := t.raise Ev.stpChain (le 1 origin ++ le 1 hops ++ le 1 (b2n failed) ++ le 1 rep ++ le 4 cnt)
    let t := t.sourceOn srcCHAIN
    if hops < 15 then t.ethSend (1 - n) (t.chainFrame ctSTOP (p.take 8 ++ le 1 (hops + 1) ++ p.drop 9)) else t

/-- The payload of a chain frame of a type; none for any other frame (Table 12-3). -/
def chainPayload (ctype : Nat) (f : List Byte) : Option (List Byte) :=
  if f.take 6 = chainDA ∧ (f.drop 12).take 2 = [0x88, 0xB5] ∧ rdN f 14 1 = 1 ∧ rdN f 15 1 = ctype ∧ 18 + rdN f 16 2 ≤ f.length
  then some ((f.drop 18).take (rdN f 16 2)) else none

end Sys2Proof.Machine
end

