-- ==== Sys2Proof/Machine/Survive.lean ====
section
/-! DEFINITION. What a reset leaves (R479, Table 18-4), and a cold start of the lanes (R378). -/

namespace Sys2Proof.Machine

/-- The ST bits of a register (R11). -/
def stBits (a : Nat) : Nat :=
  match regRow a with
  | some r => r.st
  | none => 0

/-- A register after a reset that keeps its ST fields. -/
def keepSt (a : Nat) (v : Word) : Word :=
  let m := BitVec.ofNat 32 (stBits a)
  (regReset a &&& ~~~m) ||| (v &&& m)

/-- Every register of an address range returns to its reset value; its ST fields keep theirs where `st` says so. -/
def State.resetRange (s : State) (lo hi : Nat) (st : Bool) : State :=
  (s.regs.filter fun p => decide (lo ≤ p.1) && decide (p.1 < hi)).foldl
    (fun t p => t.setReg p.1 (if st then keepSt p.1 p.2 else regReset p.1)) s

/-- The fields of an address range kept in the NOR settings are loaded from the newest copy (R434). -/
def State.loadNor (s : State) (lo hi : Nat) : State :=
  (s.nor.newest.filter fun p => decide (lo ≤ p.1) && decide (p.1 < hi)).foldl (fun t p => t.setReg p.1 p.2) s

/-- The profile records after a cold start (R243): every record becomes INVALID. -/
def lostProfiles (t : Tbl Profile) : Tbl Profile :=
  (t.filter fun p => p.2.state != 0).map fun p => (p.1, { state := 3 })

/-- The registers of the lanes return to their reset values, and the NOR settings of them are delivered again. -/
def State.laneRegsLost (s : State) : State :=
  let t := (s.resetRange 0x40000 0x50000 false).resetRegs [R.ARB_MAT, R.ARB_MAT_CNT]
  let t := (t.resetRange 0x180000 0x1C0000 false).resetRange 0x200000 0x2C0000 false
  (t.loadNor 0x180000 0x1C0000).loadNor 0x200000 0x2C0000

/-- The lanes begin a span: no whole one has been taken (R368, Table 14-3). -/
def State.spanAnew (s : State) : State := { s with lan := { s.lan with span := [], whole := [], digests := [] } }

/-- A cold start of the lanes (R378): their first input carries the NOR settings and the active site map; nothing else of
them is recovered, and each engine takes its next generation number. -/
def State.lanesCold (s : State) : State :=
  let t := s.spanAnew.laneInput.laneRegsLost
  let t := laneEngines.foldl (fun t k => t.genUp k) t
  let t := laneEngineIds.foldl (fun t id => (seqKeys id).foldl State.seqRestart t) t
  let rtk : Rtk := { classes := s.rtk.classes, clsOf := s.rtk.clsOf, origin := s.rtk.origin }
  let sbx : Sbx := { map := s.sbx.norMap, norMap := s.sbx.norMap, zoneStops := s.stp.zones.map (·.zone) }
  let alt : Alt := { meter := { capKw := s.nor.capKw } }
  let lost := lostProfiles s.ttb.profiles
  let ttb : Ttb := { classes := s.ttb.classes, clsOf := s.ttb.clsOf, cam := s.ttb.norCam, norCam := s.ttb.norCam, profiles := lost, commitAt := s.ttb.commitAt }
  let t : State := { t with rtk := rtk, sbx := sbx, alt := alt, ttb := ttb }
  let t := ((t.syncRtk.originCheck).showMap.showCam).syncTtb
  if lost.isEmpty then t else t.raise Ev.ttbLost (le 1 lost.length)

end Sys2Proof.Machine
end

