-- ==== Sys2Proof/Machine/Lanes.lean ====
section
/-! DEFINITION. The lanes (chapter 14; interactions R381, Table 14-3): their states, diagnosis, switch-over, the digest and its mismatches, racking and cold
start, and the lane commands. The model holds the lanes' contents once, for both lanes in step. -/

namespace Sys2Proof.Machine

/-! Checks of Table 14-2. -/
def dgWATCHDOG : Nat := 0
def dgCHECKSUM : Nat := 1
def dgECC_UE : Nat := 2
def dgECC_RATE : Nat := 3
def dgAVFS : Nat := 4
def dgDRAM_FENCE : Nat := 5
def dgSTEP_MEM : Nat := 6
def dgINPUT_GAP : Nat := 7
def dgRACK : Nat := 8
def dgHEARTBEAT : Nat := 9
def dgDIGEST_LATE : Nat := 10

/-- The ACTIVE lane (R365). -/
def State.activeLane (s : State) : Option Nat :=
  if s.laneSt 0 = laneStACTIVE then some 0 else if s.laneSt 1 = laneStACTIVE then some 1 else none

/-- Its code in replies and events: 0xFF none. -/
def State.activeCode (s : State) : Nat := s.activeLane.getD 255

/-- The fields of a lane's LAN_DIAG register. -/
def fDiagEngine (l : Nat) : Fld := if l = 0 then F.LAN_DIAG_A_ENGINE else F.LAN_DIAG_B_ENGINE
def fDiagCause (l : Nat) : Fld := if l = 0 then F.LAN_DIAG_A_CAUSE else F.LAN_DIAG_B_CAUSE

/-- A lane is reset and begins its self-test (Table 14-1), its supply at code 40 (R469). It posts no digest until it has taken every
input of a span, and errors placed in its memories are gone. -/
def State.laneReset (s : State) (l : Nat) : State :=
  let t := (s.setLaneSt l laneStSELFTEST).resetRegs [if l = 0 then R.PWR_AVFS_A else R.PWR_AVFS_B]
  { t with lan := { s.lan with resetAt := Tbl.put 0 s.lan.resetAt l s.el, precopied := false, whole := Tbl.put false s.lan.whole l false, digests := Tbl.put none s.lan.digests l none, injected := Tbl.put 0 s.lan.injected l 0 }, pwr := { s.pwr with high := Tbl.put 0 s.pwr.high l 0, low := Tbl.put 0 s.pwr.low l 0 } }

/-- A FAILED lane is reset at once while AUTO_REJOIN = 1; during a switch-over, once that has ended. -/
def State.autoRejoin (s : State) (l : Nat) : State :=
  if s.flag F.LAN_CTL_AUTO_REJOIN && s.laneSt l == laneStFAILED && !s.switching then s.laneReset l else s

/-- EV_LAN_SWITCH. -/
def State.switchEvent (s : State) (kind us : Nat) : State :=
  s.raise Ev.lanSwitch (le 1 s.activeCode ++ le 1 kind ++ le 2 us ++ le 4 s.time.inputSeq)

/-- A commanded switch still pending is abandoned (R376). -/
def State.abandonSwitch (s : State) : State :=
  if s.lan.commanded then ({ s with lan := { s.lan with commanded := false } } : State).switchEvent 2 0 else s

/-- No lane remains in service (R371, R380): LANES comes into force, and a lane being racked or checked is reset for a cold
start. -/
def State.noLaneLeft (s : State) : State :=
  let redo (t : State) (l : Nat) : State :=
    if t.laneSt l = laneStRACKING ∨ t.laneSt l = laneStCHECKING then t.laneReset l else t
  (redo (redo s 0) 1).sourceOn srcLANES

/-- The incoming lane of a switch-over has failed (R373): what is held is discarded, path L commands whose reply has not left
complete with ENGINE_RESTARTED, and no lane is in service. -/
def State.switchFailed (s : State) : State :=
  let ended (e : Outst) : Outst := if e.held then { e with reply := some ⟨St.engineRestarted, []⟩ } else e
  let t := [0, 1, 2, 3].foldl (fun t sid => t.setSess sid { t.sess sid with outst := (t.sess sid).outst.map ended }) s
  let t : State := { t with lan := { t.lan with heldEvents := [] }, svb := { t.svb with kept := [] } }
  ((t.setFld F.LAN_STAT_SWITCHING 0).noLaneLeft).releaseHeld

/-- The failures of a lane within the last hour, this one included. -/
def State.failsInHour (s : State) (l : Nat) : List Nat :=
  s.el :: (Tbl.get [] s.lan.fails l).filter fun t => decide (s.el < t + 3600 * oneSec)

/-- Whether a lane is subject to the checks of Table 14-2: from SELF_TEST on. -/
def State.laneLive (s : State) (l : Nat) : Bool :=
  let st := s.laneSt l
  st != laneStRESET && st != laneStFAILED && st != laneStRETIRED

/-- A lane fails a check and gives up (R366, R370, R371). -/
def State.laneFail (s : State) (l cause engine : Nat) : State :=
  if !s.laneLive l then s
  else
    let before := s.laneSt l
    let t := if s.fld (fDiagCause l) = 0 then s.setFld (fDiagEngine l) engine else s
    let t := t.setFld (fDiagCause l) (withBit (t.fld (fDiagCause l)) cause true)
    let detail := le 1 l ++ le 1 (t.fld (fDiagEngine l)) ++ le 2 (t.fld (fDiagCause l)) ++ le 1 before ++ zeros 3
    let t := ((t.satInc F.LAN_CNT_DIAG_FAILS).record 0x0B detail)
    let fails := t.failsInHour l
    let retire := t.flag F.LAN_CTL_RETIRE_EN && decide (3 ≤ fails.length)
    let t : State := { t with lan := { t.lan with fails := Tbl.put [] t.lan.fails l fails } }
    let t := t.setLaneSt l (if retire then laneStRETIRED else laneStFAILED)
    let t : State := { t with lan := { t.lan with digests := Tbl.put none t.lan.digests l none, whole := Tbl.put false t.lan.whole l false } }
    let other := otherLane l
    let takeOver := before == laneStACTIVE && t.laneSt other == laneStSHADOW
    let t := if takeOver then
        { t.setFld F.LAN_STAT_SWITCHING 1 with lan := { t.lan with switchAt := t.el, commanded := false } }.recallReplies else t
    let t := t.raise Ev.lanDiag detail
    let t := if retire then t.raise Ev.lanRetire (le 1 l ++ le 1 fails.length ++ le 2 (t.fld (fDiagCause l))) else t
    let t := t.abandonSwitch
    let t := if takeOver then t
      else if s.switching then t.switchFailed
      else if before = laneStACTIVE then t.noLaneLeft
      else t
    (t.autoRejoin l).autoRejoin other

/-- LANE_SELF_TEST_DONE (R365): on pass, with the timetable loaded (R18), to RACKING while another lane is in service, else to COLD. -/
def execLaneSelfTestDone (lane : Fin 2) (pass : Bool) (s : State) : Host.Outcome State Fault Refusal :=
  let l := lane.val
  .next <|
    if s.laneSt l ≠ laneStSELFTEST then s
    else if !pass then s.laneFail l dgRACK 255
    else (s.loadLaneSteps l).setLaneSt l (if s.inService (otherLane l) then laneStRACKING else laneStCOLD)

/-! The partitions of the DRAM (Table 1-3, R16), as offsets in the order of the table (entry 156). -/
def dramPartitions : List (Nat × Nat) := [(0, 320), (320, 320), (640, 128), (768, 256)]

/-- Whether an offset lies in partition `i`. -/
def inPartition (i offset : Nat) : Bool :=
  let (base, len) := dramPartitions.getD i (0, 0)
  decide (base * 2 ^ 20 ≤ offset) && decide (offset < (base + len) * 2 ^ 20)

/-- The DRAM that a lane's engines may write: the lane's own partition. -/
def laneMayWrite (l offset : Nat) : Bool := inPartition l offset

/-- LANE_DIAG_FAIL (R370): a lane fails one of the checks it makes itself. A write outside the partitions that it may write is blocked
and raises EV_SYS_DRAM_FENCE; a write inside them is no failure (R16). -/
def execLaneDiagFail (lane : Fin 2) (cause : Fin 9) (engine : Byte) (offset : Word) (s : State) : Host.Outcome State Fault Refusal :=
  let l := lane.val
  .next <|
    if !s.laneLive l || (cause.val == dgDRAM_FENCE && laneMayWrite l offset.toNat) then s
    else
      let t := if cause.val = dgDRAM_FENCE then s.raise Ev.sysDramFence (le 1 l ++ le 1 engine.toNat ++ zeros 2 ++ le 4 offset.toNat) else s
      t.laneFail l cause.val (if cause.val = dgRACK then 255 else engine.toNat)

/-- HEARTBEAT_LOSS (R370). -/
def execHeartbeatLoss (lane : Fin 2) (s : State) : Host.Outcome State Fault Refusal := .next (s.laneFail lane.val dgHEARTBEAT 255)

/-- ENGINE_WATCHDOG (R370). -/
def execEngineWatchdog (lane : Fin 2) (engine : Byte) (s : State) : Host.Outcome State Fault Refusal :=
  .next (s.laneFail lane.val dgWATCHDOG engine.toNat)

/-- LANE_SCRUB (R370): the scrub of a second finds a wrong state checksum or not, and corrected errors are held against
ECC_THR. -/
def execLaneScrub (lane : Fin 2) (corrected : BitVec 16) (bad : Option Byte) (s : State) : Host.Outcome State Fault Refusal :=
  let l := lane.val
  .next <|
    if !s.laneLive l then s
    else
      let n := corrected.toNat + Tbl.get 0 s.lan.injected l
      let t : State := { s with lan := { s.lan with injected := Tbl.put 0 s.lan.injected l 0 } }
      let t := t.setFld (if l = 0 then F.LAN_ECC_CORR_A else F.LAN_ECC_CORR_B) (min 65535 n)
      match bad with
      | some e => t.laneFail l dgCHECKSUM e.toNat
      | none => if orOne (t.fld F.LAN_CTL_ECC_THR) < n then t.laneFail l dgECC_RATE 255 else t

/-! ### Switch-over (R373 to R376) -/

/-- A lane becomes ACTIVE. -/
def State.makeActive (s : State) (l : Nat) : State := (s.setLaneSt l laneStACTIVE).setFld F.LAN_STAT_ACTIVE l

/-- The switch-over ends (R373): the held outputs leave in tag order and the incoming lane is ACTIVE. -/
def State.switchOverEnd (s : State) : State :=
  if !s.switching then s
  else
    let l := if s.laneSt 0 = laneStSHADOW then 0 else 1
    let us := min 65535 ((s.el - s.lan.switchAt) / 1000)
    let t := (s.makeActive l).releaseHeld.setFld F.LAN_STAT_SWITCHING 0
    let t := (t.setFld F.LAN_TIME_SWITCH_US us).satInc F.LAN_CNT_SWITCHES
    (t.switchEvent 0 us).autoRejoin (otherLane l)

/-- LAN_SWITCH (R376, R380). -/
def doLanSwitch (s : State) (_ _ : Nat) (p : List Byte) : Res :=
  withLen s 4 p <|
    match s.activeLane with
    | none => refuse s St.wrongState
    | some l =>
      if s.laneSt (otherLane l) ≠ laneStSHADOW ∨ s.fld F.LAN_DIG_AGREE_RUN = 0 then refuse s St.wrongState
      else accepted { s with lan := { s.lan with commanded := true } } (le 1 (otherLane l) ++ zeros 3)

def opLanSwitch : Op := opH 0x0C01 2 doLanSwitch
def execLanSwitch (c : Cmd) (s : State) : Host.Outcome State Fault Refusal := .next (s.host c opLanSwitch)

/-- The commanded switch at a digest boundary whose digests agree (R376). -/
def State.commandedSwitch (s : State) : State :=
  match s.lan.commanded, s.activeLane with
  | true, some l =>
    let t := (s.setLaneSt l laneStSHADOW).makeActive (otherLane l)
    let t : State := { t with lan := { t.lan with commanded := false } }
    ((t.setFld F.LAN_TIME_SWITCH_US 0).satInc F.LAN_CNT_SWITCHES).switchEvent 1 0
  | _, _ => s

/-! ### The digest (R367 to R369, R377) -/

/-- EV_LAN_REJOIN: a lane has reached SHADOW, racked (0) or by a cold start (1). -/
def State.rejoined (s : State) (l kind : Nat) : State :=
  let ms := min 65535 ((s.el - Tbl.get 0 s.lan.resetAt l) / oneMs)
  let t := (s.setLaneSt l laneStSHADOW).setFld F.LAN_TIME_REJOIN_MS ms
  let t := if kind = 0 then t.satInc F.LAN_CNT_REJOINS else t
  let t : State := { t with lan := { t.lan with agreed := if t.lan.misLevel = 0 then none else some 0 } }
  t.raise Ev.lanRejoin (le 1 l ++ le 1 kind ++ le 2 ms)

/-- An agreeing comparison counts towards the end of MISMATCH (R377): two after a rack at level 1, three at level 2, none at
level 3. -/
def State.agreement (s : State) : State :=
  match s.lan.agreed with
  | none => s
  | some n =>
    let need := if s.lan.misLevel = 1 then 2 else 3
    if s.lan.misLevel < 3 ∧ need ≤ n + 1 then
      let t : State := { s with lan := { s.lan with agreed := none, misLevel := 0 } }
      (t.setFld F.LAN_STAT_MISMATCH 0).sourceOff srcMISMATCH
    else { s with lan := { s.lan with agreed := some (n + 1) } }

/-- Two lanes in service post different digests (R377). After a third mismatch only a reset of the hub ends MISMATCH, whatever window
a later one falls in. -/
def State.mismatch (s : State) (sfn a b : Nat) : State :=
  let level := min 3 (s.fld F.LAN_STAT_MIS_LVL + 1)
  let t : State := { s with lan := { s.lan with window := some (s.lan.window.getD s.el), misLevel := (if s.lan.misLevel = 3 then 3 else level), agreed := none } }
  let t := ((t.setFld F.LAN_STAT_MIS_LVL level).setFld F.LAN_STAT_MISMATCH 1).satInc F.LAN_CNT_MISMATCHES
  let head := le 1 level ++ zeros 1 ++ le 2 sfn ++ zeros 4
  let t := (t.record 0x0C (head ++ le 8 a ++ le 8 b)).raise Ev.lanMismatch head
  let t := (t.sourceOn srcMISMATCH).abandonSwitch
  if level = 1 then { t with lan := { t.lan with rescrub := some t.el } }
  else if level = 2 then ((t.laneReset 0).laneReset 1).noLaneLeft
  else t

/-- The active lane's digest is shown, and every comparison recorded in LAN_DIG. -/
def State.showDigest (s : State) (sfn d : Nat) : State :=
  ((s.setFld F.LAN_DIG_SFN sfn).setFld F.LAN_DIG_LO_D_LO d).setFld F.LAN_DIG_HI_D_HI (d / 2 ^ 32)

/-- A comparison of the active lane's digest with the other lane's: CHECKING and COLD lanes reach SHADOW at their first
agreeing one. -/
def State.compare (s : State) (l sfn da db : Nat) : State :=
  let o := otherLane l
  let st := s.laneSt o
  let t := s.showDigest sfn da
  if da = db then
    let t := t.satInc F.LAN_DIG_AGREE_RUN
    if st = laneStCHECKING then t.rejoined o 0
    else if st = laneStCOLD then t.rejoined o 1
    else t.agreement.commandedSwitch
  else
    let t := t.setFld F.LAN_DIG_AGREE_RUN 0
    if st = laneStSHADOW then t.mismatch sfn (if l = 0 then da else db) (if l = 0 then db else da)
    else t.laneFail o dgRACK 255

/-! The digest of a superframe (R368). -/

/-- One bit, and one byte, into a reflected CRC-64 register of polynomial 0x42F0_E1EB_A9EA_3693. -/
def crc64Bit (x : Nat) : Nat := if x % 2 = 1 then (x / 2) ^^^ 0xC96C5795D7870F42 else x / 2
def crc64Byte (c : Nat) (b : Byte) : Nat := (List.range 8).foldl (fun x _ => crc64Bit x) (c ^^^ b.toNat)

/-- CRC-64 of a span of bytes: initial value and final XOR all ones. -/
def crc64 (bs : List Byte) : Nat := bs.foldl crc64Byte (2 ^ 64 - 1) ^^^ (2 ^ 64 - 1)

/-- An output as the digest covers it: tag, class, length, content. -/
def LaneOut.bytes (o : LaneOut) : List Byte := le 4 o.tag.cause ++ le 2 o.tag.index ++ le 1 o.cls ++ le 2 o.content.length ++ o.content

/-- D of the outputs of a span and of what the engines' states have come to: each engine's checksum, a free value, and its generation
number, in the order of their IDs (entry 155). -/
def State.digest (s : State) (span : List LaneOut) : Nat :=
  let outs := sortBy (fun a b => decide (s.tagOrder a.tag < s.tagOrder b.tag)) span
  let engine (i : Nat) : List Byte := le 8 ((s.drew i).freeVal 64) ++ le 1 (s.genOf (laneEngines.getD i 0))
  crc64 (outs.flatMap LaneOut.bytes ++ (List.range 5).flatMap engine)

/-- A lane takes the inputs of a span and forms its digest, whatever its role (R365, R368). -/
def State.laneTakes (s : State) (l : Nat) : Bool := s.inService l || s.laneSt l == laneStCHECKING || s.laneSt l == laneStCOLD

/-- The boundary input (R368): the first tick stamped at or after T0(k + 1) − 2 ms closes span k. Each lane that has taken all of it
posts D(k), and the next span begins with that input. `before` is the stamp of the tick before. -/
def State.digestBoundary (s : State) (before : Nat) : State :=
  let next := s.sfAt (s.laneNow + 2 * oneMs)
  if next ≤ s.sfAt (before + 2 * oneMs) then s
  else
    let start := s.t0At next - 2 * oneMs
    let d := s.digest (s.lan.span.filter fun o => decide (o.stamp < start))
    -- the digest of a lane that lost an output differs, by what is a free value
    let of_ (l : Nat) : Nat := if Tbl.get false s.lan.lost l then d ^^^ orOne ((s.drew 5).freeVal 64) else d
    let post (m : Tbl (Option (Nat × Nat))) (l : Nat) : Tbl (Option (Nat × Nat)) :=
      if s.laneTakes l && Tbl.get false s.lan.whole l then Tbl.put none m l (some (next - 1, of_ l)) else m
    let whole (m : Tbl Bool) (l : Nat) : Tbl Bool := Tbl.put false m l (s.laneTakes l)
    ({ s with lan := { s.lan with span := s.lan.span.filter fun o => !decide (o.stamp < start), digests := [0, 1].foldl post s.lan.digests, whole := [0, 1].foldl whole s.lan.whole, lost := [] } } : State).drew 6

/-- A lane whose last input was discarded poisoned finds that its next one is not the previous one plus 1 (Tables 14-2, 15-3). -/
def State.inputGaps (s : State) : State :=
  let gone := s.lan.gap
  [0, 1].foldl (fun t l => match Tbl.get none gone l with
    | some e => t.laneFail l dgINPUT_GAP e
    | none => t) { s with lan := { s.lan with gap := [] } }

/-- LANE_TICK (R26): time runs to the next 1 ms tick, which goes to both lanes as one stamped input, once their clocks run. In Dormant
the TIME domain runs and the halted lanes get no tick; without the TIME domain nothing happens. By then every queue's reader has
drained its bank. -/
def State.laneTick (s : State) : State :=
  if !s.timeRuns then s
  else
    let t := ((s.timeCycles s.cyclesToTick).drainQueues.tokenSync 0).tokenSync 1
    if !t.laneClock then t
    else ((({ t with time := { t.time with ticks := t.time.ticks + 1 } } : State).laneInput).digestBoundary s.time.stamp).inputGaps

/-- DIGEST_COMPARE (R369, R372, R377): the digests the lanes have posted, as they reach the hub: each with the bits in which that lane's
differs from what its inputs give, or not posted. The hub compares when both are posted; a lane in service that has not posted by 1 ms
after the superframe fails with DIGEST_LATE. No digest is compared in Dormant. -/
def execDigestCompare (a b : Option (BitVec 64)) (s : State) : Host.Outcome State Fault Refusal :=
  let due (l : Nat) : Option (Nat × Nat) := Tbl.get none s.lan.digests l
  let post (l : Nat) : Option Nat :=
    match due l, (if l = 0 then a else b) with
    | some (_, d), some e => some (d ^^^ e.toNat)
    | _, _ => none
  let missing (l : Nat) : Bool := (due l).isSome && (post l).isNone
  .next <|
    match (due 0).orElse fun _ => due 1 with
    | none => s
    | some (k, _) =>
      if s.switching ∨ s.pwr.state = .dormant ∨ ((missing 0 || missing 1) ∧ s.now < s.t0At (k + 1) + oneMs) then s
      else
        let t : State := { s with lan := { s.lan with digests := [] } }
        let late (t : State) (l : Nat) : State := if t.inService l && missing l then t.laneFail l dgDIGEST_LATE 255 else t
        let t := late (late t 0) 1
        match t.activeLane with
        | none => t
        | some l =>
          match post l, post (otherLane l) with
          | some da, some db =>
            if t.laneTakes (otherLane l) then t.compare l (k % 65536) da db else t.showDigest (t.fld F.LAN_DIG_SFN) da
          | some da, none => t.showDigest (t.fld F.LAN_DIG_SFN) da
          | none, _ => t

/-- RESCRUB_DONE (R377): a lane that fails is FAILED; if both pass, the shadow lane is reset and racked. -/
def execRescrubDone (bad : Option (Fin 2 × Byte)) (s : State) : Host.Outcome State Fault Refusal :=
  .next <|
    match s.lan.rescrub with
    | none => s
    | some _ =>
      let t : State := { s with lan := { s.lan with rescrub := none } }
      match bad with
      | some (l, e) => t.laneFail l.val dgCHECKSUM e.toNat
      | none =>
        match t.activeLane with
        | some l => if t.laneSt (otherLane l) = laneStSHADOW then t.laneReset (otherLane l) else t
        | none => t

/-- MISMATCH_WINDOW_END (R377): MIS_WIN minutes after the first mismatch. -/
def execMismatchWindowEnd (s : State) : Host.Outcome State Fault Refusal :=
  .next <|
    match s.lan.window with
    | some w =>
      if s.passed w (orOne (s.fld F.LAN_CTL_MIS_WIN) * 60 * oneSec) then
        ({ s with lan := { s.lan with window := none } } : State).setFld F.LAN_STAT_MIS_LVL 0
      else s
    | none => s

/-! ### Racking and cold start (R378, R379) -/

/-- The lane being racked. -/
def State.rackingLane (s : State) : Option Nat :=
  if s.laneSt 0 = laneStRACKING then some 0 else if s.laneSt 1 = laneStRACKING then some 1 else none

/-- RACK_PRECOPY_DONE (R379): the rack engine works only while the power arbiter grants it its demand (R22, Table 15-5). -/
def execRackPrecopyDone (s : State) : Host.Outcome State Fault Refusal :=
  .next (if s.rackingLane.isSome && s.granted 3 then { s with lan := { s.lan with precopied := true } } else s)

/-- RACK_POINT (R379): the marked pages are copied and the lane enters CHECKING, with no whole span yet, or the copy fails. -/
def execRackPoint (good : Bool) (s : State) : Host.Outcome State Fault Refusal :=
  .next <|
    match s.rackingLane with
    | some l =>
      if !s.lan.precopied || !s.granted 3 then s
      else if good then { s.setLaneSt l laneStCHECKING with lan := { s.lan with precopied := false } }
      else s.laneFail l dgRACK 255
    | none => s

/-- A lane in FAILED or RETIRED goes to RESET (LAN_CTL.RESTORE_A and RESTORE_B). -/
def State.laneRestore (s : State) (l : Nat) : State :=
  if s.laneSt l = laneStFAILED ∨ s.laneSt l = laneStRETIRED then s.laneReset l else s

/-- LANE_RESTORE (R365). -/
def execLaneRestore (lane : Fin 2) (s : State) : Host.Outcome State Fault Refusal := .next (s.laneRestore lane.val)

/-- LAN_CNT_CLR clears LAN_CNT and LAN_TIME. -/
def State.lanCntClr (s : State) : State := s.resetRegs [R.LAN_CNT, R.LAN_TIME]
def execLanCntClr (s : State) : Host.Outcome State Fault Refusal := .next s.lanCntClr

/-- LAN_GET_STATE (R382). -/
def doLanGetState (s : State) (_ _ : Nat) (p : List Byte) : Res :=
  withLen s 0 p <|
    okWith s (le 1 s.activeCode ++ le 1 (s.laneSt 0) ++ le 1 (s.laneSt 1) ++ le 1 (s.fld F.LAN_STAT_MIS_LVL)
      ++ le 4 (s.reg R.LAN_DIAG_A).toNat ++ le 4 (s.reg R.LAN_DIAG_B).toNat ++ le 4 (s.reg R.LAN_CNT).toNat
      ++ le 2 (s.fld F.LAN_DIG_SFN) ++ le 1 (s.fld F.LAN_DIG_AGREE_RUN) ++ zeros 1)

def opLanGetState : Op := opH 0x0C00 0 doLanGetState
def execLanGetState (c : Cmd) (s : State) : Host.Outcome State Fault Refusal := .next (s.host c opLanGetState)

end Sys2Proof.Machine
end

