-- ==== Sys2Proof/Machine/SnapSolve.lean ====
section
/-! DEFINITION. The solve of a snapshot (R155, R162, R165): samples, searches, and the coarse-time least squares. -/

namespace Sys2Proof.Machine

/-- A 2-bit value in sign-magnitude: bit 1 the sign, bit 0 the magnitude (R155). -/
def sampleValue (v : Nat) : Int := (if bit v 1 then -1 else 1) * (if bit v 0 then 3 else 1)

/-- The two samples of a byte in time order, I and Q (R155). -/
def samplePair (b : Byte) : List (Int × Int) :=
  let v := b.toNat
  [(sampleValue (v / 64 % 4), sampleValue (v / 16 % 4)), (sampleValue (v / 4 % 4), sampleValue (v % 4))]

/-- The samples of a band. -/
def bandSamples (bs : List Byte) : List (Int × Int) := bs.flatMap samplePair

/-- The sample rate in Hz (R154). -/
def snapRate : Nat := 20460000

/-- One satellite of a solve: its channel, ephemeris, L1-band signal, and what is predicted at the prior position. -/
structure SnapSat where
  chan : Channel
  data : List Byte
  signal : Nat
  doppler : Rat

/-- The Doppler in Hz that a prediction gives on a signal. -/
def dopplerHz (p : Prediction) (signal : Nat) : Rat := -((p.rate : Rat) * carrierOf signal) / (299792458 * 1000 : Nat)

/-- The coherent correlation of a band's samples with a code at a start phase (2^-8 chip) and a frequency, and its power normalised by the
power of the samples. -/
def correlate (samples : List (Int × Int)) (signal svid phase : Nat) (hz : Rat) : Rat :=
  let period := codeChips signal * 256
  let r := samples.zipIdx.foldl (fun (a : Int × Int × Nat) x =>
    let ((i, q), n) := x
    let c := Config.codeValue signal svid ((phase + n * codeRateOf signal * 256 / snapRate) % period)
    let ph := roundR (hz * n * 2 ^ 32 / snapRate)
    let co := Config.cosine ph
    let si := Config.cosine (ph - 2 ^ 30)
    (a.1 + c * (i * co + q * si), a.2.1 + c * (q * co - i * si), a.2.2 + (i * i + q * q).natAbs)) (0, 0, 0)
  ((r.1 * r.1 + r.2.1 * r.2.1 : Int) : Rat) / (2 ^ 60 * (samples.length * r.2.2 : Nat) : Nat)

/-- The best code phase of a list, with its power. -/
def bestPhase (samples : List (Int × Int)) (signal svid : Nat) (hz : Rat) (phases : List Nat) : Nat × Rat :=
  phases.foldl (fun m ph => let p := correlate samples signal svid ph hz; if m.2 < p then (ph, p) else m) (0, 0)

/-- The code phases of a full period, one sample apart. -/
def allPhases (signal : Nat) : List Nat :=
  let step := codeRateOf signal * 256 / snapRate
  (List.range (codeChips signal * 256 / step)).map (· * step)

/-- The offsets of a span in 125 Hz bins. -/
def offsets (span : Nat) : List Rat := (List.range (2 * (span / 125) + 1)).map fun (i : Nat) => ((125 * i : Nat) : Rat) - (span / 125 * 125 : Nat)

/-- The common clock offset: the one with the greatest sum of the powers of the 4 highest satellites; none when no bin passes detection. -/
def commonOffset (samples : List (Int × Int)) (sats : List SnapSat) (span : Nat) : Option Rat :=
  let power (f : Rat) : Rat := ((sats.take 4).map fun x => (bestPhase samples x.signal x.chan.svid (x.doppler + f) (allPhases x.signal)).2).foldl (· + ·) 0
  let best := (offsets span).foldl (fun m f => let p := power f; if m.2 < p then (f, p) else m) ((0, 0) : Rat × Rat)
  if Config.snapThreshold < best.2 then some best.1 else none

/-- A satellite detected: its code phase at the first sample in 2^-8 chip of its L1-band code, and its C/N0 in dB-Hz from the normalised
power (DESIGN CHOICE, entry 168). -/
structure SnapFix where
  sat : SnapSat
  phase : Rat
  cn0 : Nat
  refined : Bool

/-- The code search of one satellite about the common offset. -/
def snapDetect (l1 l5 : List (Int × Int)) (useL5 : Bool) (f : Rat) (x : SnapSat) : Option SnapFix :=
  let hits := ([-250, -125, 0, 125, 250] : List Rat).map fun d => (d, bestPhase l1 x.signal x.chan.svid (x.doppler + f + d) (allPhases x.signal))
  let best := hits.foldl (fun m h => if m.2.2 < h.2.2 then h else m) ((0, 0, 0) : Rat × Nat × Rat)
  if best.2.2 ≤ Config.snapThreshold then none
  else
    let p := best.2.2
    let ratio := p * snapRate / (1 - p)
    let cn0 : Nat := if 1 ≤ p then 73 else (logRatio 10 ratio.num.natAbs ratio.den).toNat
    let base : SnapFix := { sat := x, phase := best.2.1, cn0 := cn0, refined := false }
    if !useL5 then some base
    else
      let s5 := x.signal + 1
      let n := codeChips s5 * 256
      let around := (List.range 13).map fun k => (10 * best.2.1 + 128 * k + n - 768) % n
      let r := bestPhase l5 s5 x.chan.svid ((x.doppler + f + best.1) * 115 / 154) around
      if r.2 ≤ Config.snapThreshold then some base
      else
        let d := ((r.1 + n - 10 * best.2.1 % n + n / 2) % n : Nat)
        some { base with phase := (best.2.1 : Rat) + ((d : Rat) - (n / 2 : Nat)) / 10, refined := true }

/-- The state of the coarse-time solution: position in the site axes (m), clock bias (m) and coarse-time error (s). -/
structure Coarse where
  pos : Vec
  bias : Rat
  dt : Rat

/-- What one satellite gives at a trial: its pseudorange less prediction, and its row. -/
def coarseRow (axes : Geodetic) (o : Vec) (t : Int) (c : Coarse) (x : SnapFix × Rat) : Row × Rat :=
  let at_ := addV o (toEcef axes c.pos)
  let g := t + roundR (c.dt * 10 ^ 9)
  let p := Config.predict x.1.sat.data (tenths at_) g
  let sp := Config.satPosition x.1.sat.data g
  let l := fromEcef axes (unitV (subV ((sp.1 : Rat) / 1000, (sp.2.1 : Rat) / 1000, (sp.2.2 : Rat) / 1000) at_))
  ([-l.1, -l.2.1, -l.2.2, 1, (p.rate : Rat) / 1000], x.2 - ((p.range : Rat) / 2 ^ 20 + c.bias))

/-- Least squares, at most `n` iterations, until a position change below 1 m (DESIGN CHOICE, entry 168): the solution and the inverse of the
normal matrix. -/
def coarseSolve (row : Coarse → SnapFix × Rat → Row × Rat) (xs : List (SnapFix × Rat)) : Nat → Coarse → Option (Coarse × Mat)
  | 0, _ => none
  | n + 1, c =>
    let rows := xs.map (row c)
    let ht := matT 5 (rows.map (·.1))
    let eye := matOf 5 5 fun i j => if i = j then 1 else 0
    match solveM (mulT ht ht) eye with
    | none => none
    | some inv =>
      let d := matVec inv (matVec ht (rows.map (·.2)))
      let c' : Coarse := { pos := addV c.pos (d.getD 0 0, d.getD 1 0, d.getD 2 0), bias := c.bias + d.getD 3 0, dt := c.dt + d.getD 4 0 }
      let far := d.getD 0 0 * d.getD 0 0 + d.getD 1 0 * d.getD 1 0 + d.getD 2 0 * d.getD 2 0
      if far < 1 then some (c', inv) else coarseSolve row xs n c'

/-- A solution: position and deviations, the clocks, and the seeds' frequency. -/
structure SnapSol where
  pos : Vec
  hsig : Rat
  vsig : Rat
  clk : Rat
  fc : Rat
  refined : Bool
  cn0s : List (Nat × Nat)

/-- How a solve ends (R162). -/
inductive SnapEnd where
  | tooFew (detected : Nat)
  | noConverge (rms : Nat)
  | solved (x : SnapSol)

/-- The satellites of grade 0 or 1 above the elevation mask, highest first (R162). -/
def State.snapSats (s : State) : List Channel :=
  let cs := (s.sky.chans.filter fun p => p.2.busy && decide (s.chanGrade p.1 ≤ 1) && decide (((100 * s.fld F.SKY_CHK_A_ELEV_MASK : Nat) : Int) < p.2.elev)).map (·.2)
  sortBy (fun x y => decide (y.elev < x.elev)) cs

/-- The satellites of grade 0 or 1 with an adopted ephemeris. -/
def State.snapBase (s : State) : Nat :=
  (s.sky.chans.filter fun p => p.2.busy && decide (s.chanGrade p.1 ≤ 1) && (s.ephData p.2.sat).isSome).length

/-- The origin of the site frame, m: the base antenna before one is set. -/
def State.siteOrigin (s : State) : Vec :=
  match s.rtk.origin, s.sky.base with
  | some o, _ => metres o
  | none, some b => baseArp b
  | none, none => (0, 0, 0)

/-- The prior position in the site frame (R162): the hint at the base's height, else the base position. -/
def State.snapPrior (s : State) (p : List Byte) : Vec :=
  let o := s.siteOrigin
  let b := match s.sky.base with
    | some b => fromEcef (geodetic o) (subV (baseArp b) o)
    | none => (0, 0, 0)
  if bit (rdN p 16 1) 0 then (10 * (rdI p 12 2 : Rat), 10 * (rdI p 14 2 : Rat), b.2.2) else b

/-- The solve of a complete stream (R162). -/
def State.snapSolve (s : State) (p : List Byte) : SnapEnd :=
  let o := s.siteOrigin
  let axes := geodetic o
  let prior := s.snapPrior p
  let t := gps (rdN p 0 8)
  let pred (d : List Byte) : Prediction := Config.predict d (tenths (addV o (toEcef axes prior))) t
  let sats := s.snapSats.filterMap fun c => (s.ephData c.sat).map fun d =>
    ({ chan := c, data := d, signal := l1Signal c.system, doppler := dopplerHz (pred d) (l1Signal c.system) } : SnapSat)
  let fUnc := rdN p 10 2
  let span := if fUnc = 0 then 100 * s.fld F.SNP_CTL_FSPAN else fUnc * 157542 / 100000
  let l1 := bandSamples ((p.drop 32).take 40920)
  let l5 := bandSamples ((p.drop 40952).take 40920)
  let useL5 := bit (rdN p 16 1) 1 && s.flag F.SNP_CTL_L5_USE
  match commonOffset l1 sats span with
  | none => .tooFew 0
  | some fc =>
    let found := sats.filterMap (snapDetect l1 l5 useL5 fc)
    if found.length < max 5 (s.fld F.SNP_LIM_MIN_SAT) then .tooFew found.length
    else
      let unit : Rat := 299792458 * (found.foldl (fun g x => Nat.gcd g (codePeriod x.sat.signal)) 0 : Nat) / 1000
      let frac (x : SnapFix) : Rat := 299792458 * ((t : Rat) / 10 ^ 9 - x.phase / (256 * codeRateOf x.sat.signal : Nat))
      let range (x : SnapFix) : Rat := ((pred x.sat.data).range : Rat) / 2 ^ 20
      let b0 : Rat := match found with
        | x :: _ => let d := frac x - range x; d - unit * roundR (d / unit)
        | [] => 0
      let xs := found.map fun x => let d := range x + b0 - frac x; (x, fine (frac x + unit * roundR (d / unit)))
      let row := coarseRow axes o t
      match coarseSolve row xs 8 { pos := prior, bias := fine b0, dt := 0 } with
      | none => .noConverge 255
      | some (c, inv) =>
        let vs := xs.map fun x => (row c x).2
        let sq := vs.foldl (fun a v => a + v * v) (0 : Rat)
        let rms := sqrtR (sq / xs.length)
        if ((s.fld F.SNP_LIM_RES_MAX : Nat) : Rat) < rms then .noConverge (min 255 rms.ceil.toNat)
        else
          let var := sq / ((xs.length - 5 : Nat) : Rat)
          let us := unit / 299792458
          let clk := c.bias / 299792458
          .solved { pos := c.pos, hsig := sqrtR (var * (inv.at 0 0 + inv.at 1 1)), vsig := sqrtR (var * inv.at 2 2)
                    clk := clk + us * roundR ((-c.dt - clk) / us), fc := fc, refined := found.any (·.refined)
                    cn0s := found.map fun x => (x.sat.chan.sat, x.cn0) }

/-- T_REF: the first whole 100 ms at least 100 ms after the reply is built (R165). -/
def tRef (now : Nat) : Nat := ceilDiv (now + 100 * oneMs) (100 * oneMs) * (100 * oneMs)

/-- One seed of a SOLVED reply (Table 6-3): Doppler as the rover's NCO finds it, the code phase at T_REF, and the C/N0 found. -/
def State.seed (s : State) (x : SnapSol) (at_ : Nat) (c : Channel) : List Byte :=
  let sig := l1Signal c.system
  let o := s.siteOrigin
  let p := Config.predict ((s.ephData c.sat).getD []) (tenths (addV o (toEcef (geodetic o) x.pos))) (gps at_)
  let cn0 := match x.cn0s.find? fun y => y.1 == c.sat with
    | some y => min 63 (y.2 - 10)
    | none => 0
  le 1 sig ++ le 1 c.svid ++ leI 2 (roundR (2 * (dopplerHz p sig + x.fc))) ++ le 3 (predictedCode p sig at_ / 4) ++ le 1 cn0

/-- The data of a SOLVED reply from its byte 2 on (Table 6-3). -/
def State.solvedData (s : State) (p : List Byte) (x : SnapSol) : List Byte :=
  let sats := s.snapSats.take 32
  let hold := s.fld F.TIM_STAT_STATE == tsHOLDOVER || s.fld F.TIM_STAT_STATE == tsEXPIRED
  let at_ := tRef s.now
  let mm := (roundR (1000 * x.pos.1), roundR (1000 * x.pos.2.1), roundR (1000 * x.pos.2.2))
  le 1 sats.length ++ le 1 (b2n x.refined + 2 * b2n hold + 4 * b2n (bit (rdN p 16 1) 0)) ++ leI 4 mm.1 ++ leI 4 mm.2.1 ++ leI 4 mm.2.2
    ++ le 2 (min 65535 (roundR (10 * x.hsig)).toNat) ++ le 2 (min 65535 (roundR (10 * x.vsig)).toNat) ++ le 8 at_ ++ leI 4 (roundR (x.clk * 10 ^ 8))
    ++ leI 4 (roundR (-x.fc / 1575420000 * 10 ^ 11)) ++ zeros 4 ++ sats.flatMap (s.seed x at_)

end Sys2Proof.Machine
end

