-- ==== Sys2Proof/Machine/Snapshot.lean ====
section
/-! DEFINITION. Snapshot assist (chapter 06; the stream R154, R155; a reply grants nothing R166): chunks, the queue of entries, solves and their replies. -/

namespace Sys2Proof.Machine

/-! Result codes (Table 6-2). -/
def snSOLVED : Nat := 0x00
def snMISSING : Nat := 0x01
def snINCOMPLETE : Nat := 0x10
def snBAD_CRC : Nat := 0x11
def snBAD_FORMAT : Nat := 0x12
def snQUEUE_FULL : Nat := 0x13
def snNO_BASE : Nat := 0x14
def snTOO_FEW : Nat := 0x15
def snNO_CONVERGE : Nat := 0x16
def snTIMEOUT : Nat := 0x17
def snDISABLED : Nat := 0x18

/-! ### Entries -/

def State.snap (s : State) (a : Nat) : Option SnapEntry := Tbl.get none s.snp.entries a
def State.setSnap (s : State) (a : Nat) (e : Option SnapEntry) : State :=
  { s with snp := { s.snp with entries := Tbl.put none s.snp.entries a e } }

/-- Complete entries that await a solve: rover slots. -/
def State.snapReady (s : State) : List Nat :=
  (s.snp.entries.filter fun p => match p.2 with
    | some e => e.ready.isSome && (s.snp.solving.map (·.1)) != some p.1
    | none => false).map (·.1)

/-- SNP_STAT follows the queue. -/
def State.syncSnp (s : State) : State :=
  let t := (s.setFld F.SNP_STAT_USED s.snp.entries.length).setFld F.SNP_STAT_READY s.snapReady.length
  (t.setFld F.SNP_STAT_BUSY (b2n s.snp.solving.isSome)).setFld F.SNP_STAT_SLOT ((s.snp.solving.map (·.1)).getD 0)

/-- The entry of a rover is freed (R158, R159): its SNAP_ID is kept as the last one freed, and a solve of it is abandoned. -/
def State.freeSnap (s : State) (a : Nat) : State :=
  match s.snap a with
  | some e =>
    let t := s.setSnap a none
    let solving := if (s.snp.solving.map (·.1)) = some a then none else s.snp.solving
    let t : State := { t with snp := { t.snp with freed := Tbl.put none t.snp.freed a (some e.id), solving := solving } }
    t.syncSnp
  | none => s

/-- A reply body waits for the rover's next bulk-down grant (R164, R268). -/
def State.snapReply (s : State) (a id result : Nat) (data : List Byte) : State :=
  { s with snp := { s.snp with replies := s.snp.replies ++ [(a, le 1 id ++ le 1 result ++ data)] } }

/-- A final reply: counted, with EV_SNP_DONE (R164). -/
def State.snapDone (s : State) (a id result nseed : Nat) (data : List Byte) : State :=
  let t := (s.snapReply a id result data).satInc (if result = snSOLVED then F.SNP_CNT_SOLVED else F.SNP_CNT_FAILED)
  t.raise Ev.snpDone (le 1 a ++ le 1 id ++ le 1 result ++ le 1 nseed ++ le 2 (t.fld F.SNP_TIME_LAST_MS))

/-- A final reply of an entry, which is then freed; a complete entry's time to its reply is shown (R163). -/
def State.snapEnd (s : State) (a : Nat) (e : SnapEntry) (result nseed : Nat) (data : List Byte) : State :=
  let t := if e.ready.isSome then
      let ms := min 65535 ((s.el - e.readyAt) / oneMs)
      (s.setFld F.SNP_TIME_LAST_MS ms).setFld F.SNP_TIME_MAX_MS (max ms (s.fld F.SNP_TIME_MAX_MS))
    else s
  (t.snapDone a e.id result nseed data).freeSnap a

/-- Every entry is freed without a reply and counted as ABANDONED (R167). -/
def State.abandonSnaps (s : State) : State :=
  s.snp.entries.foldl (fun t p => (t.freeSnap p.1).satInc F.SNP_DROP_ABANDONED) s

/-! ### Chunks (R157 to R160) -/

/-- The stream of a complete entry. -/
def SnapEntry.stream (e : SnapEntry) : List Byte := (e.chunks.map (·.2)).flatten

/-- The check of a complete stream (R160): 0 when it passes, else the result it is freed with. -/
def checkStream (p : List Byte) : Nat :=
  let l5 := b2n (bit (rdN p 16 1) 1)
  if p.length ≠ 32 + 40920 * (1 + l5) then snBAD_FORMAT
  else if crc32c (p.take 28) ≠ rdN p 28 4 ∨ crc32c (p.drop 32) ≠ rdN p 24 4 then snBAD_CRC
  else if rdN p 17 1 ≠ 1 ∨ rdN p 8 2 = 0 ∨ 10000 < rdN p 8 2 ∨ rdN p 18 6 ≠ 0 ∨ 4 ≤ rdN p 16 1 then snBAD_FORMAT
  else 0

/-- All chunks of an entry are held: it becomes complete or is freed (R160). -/
def State.snapComplete (s : State) (a : Nat) (e : SnapEntry) : State :=
  match checkStream e.stream with
  | 0 =>
    let t := s.setSnap a (some { e with ready := some s.snp.order, readyAt := s.el })
    ({ t with snp := { t.snp with order := t.snp.order + 1 } } : State).syncSnp
  | r => s.snapEnd a e r 0 (zeros 2)

/-- A chunk length L that R157 allows. -/
def chunkLenOk (l : Nat) : Bool := l % 16 == 0 && decide (64 ≤ l) && decide (l ≤ 1008)

/-- A chunk is held by the rover's entry (R158); a chunk held again is stored again. -/
def State.snapStore (s : State) (a : Nat) (e : SnapEntry) (idx : Nat) (data : List Byte) : State :=
  let last := idx + 1 == e.count
  let len := if last then e.len else some data.length
  let e : SnapEntry := { e with len := len, chunks := e.chunks.insert idx data, lastSf := s.sf, lastAt := s.el, missed := false }
  let t := (s.setSnap a (some e)).syncSnp
  if e.chunks.length = e.count ∧ e.ready.isNone then t.snapComplete a e else t

/-- A new SNAP_ID (R159): the rover's entry in any state is superseded; with 32 entries in use the chunk is refused. -/
def State.snapOpen (s : State) (a id count idx : Nat) (data : List Byte) : State :=
  let t := if (s.snap a).isSome then (s.freeSnap a).satInc F.SNP_DROP_SUPERSEDED else s
  if 32 ≤ t.snp.entries.length then
    let t := t.satInc F.SNP_DROP_QFULL
    if Tbl.get 0 t.snp.fullSf a = t.sf + 1 then t
    else
      let ready := t.snapReady.length
      let t : State := { t with snp := { t.snp with fullSf := Tbl.put 0 t.snp.fullSf a (t.sf + 1) } }
      let t := t.raise Ev.snpQfull (le 1 a ++ le 1 (t.snp.entries.length) ++ le 1 ready)
      t.snapDone a id snQUEUE_FULL 0 (le 1 ready ++ zeros 1)
  else t.snapStore a { id := id, count := count, lastSf := t.sf, lastAt := t.el } idx data

/-- A chunk body of rover `a` (R157 to R159). -/
def State.chunk (s : State) (a : Nat) (p : List Byte) : State :=
  let id := rdN p 0 1
  let idx := rdN p 2 2
  let count := rdN p 4 2
  let n := rdN p 6 2
  let data := p.drop 8
  let bad := s.satInc F.SNP_DROP_CHUNK_BAD
  if p.length ≠ 8 + n ∨ count ≤ idx ∨ (idx + 1 < count ∧ chunkLenOk n = false) then bad
  else
    match s.snap a with
    | some e =>
      if e.id = id then
        let fits := idx + 1 == count || (match e.len with
          | some l => l == n
          | none => true)
        if e.count = count && fits then s.snapStore a e idx data else bad
      else if Tbl.get none s.snp.freed a = some id then bad
      else s.snapOpen a id count idx data
    | none =>
      if Tbl.get none s.snp.freed a = some id then bad
      else if !s.flag F.SNP_CTL_EN then s.snapDone a id snDISABLED 0 (zeros 2)
      else s.snapOpen a id count idx data

/-- BULK_UP_RECEIVE (R158, R263): a BULK_UP frame of a bound rover in a granted run. -/
def execBulkUpReceive (port : Fin 4) (bytes : List Byte) (s : State) : Host.Outcome State Fault Refusal :=
  .next <|
    match s.rxCheck port.val bytes with
    | (t, some f) =>
      if f.ftype = ftBULK_UP ∧ (t.bound f.slot).bound ∧ rdN f.body 0 1 = 1 then
        (t.setBound f.slot { t.bound f.slot with bulkWant := false }).chunk f.slot (f.body.drop 2)
      else t
    | (t, none) => t

/-! ### Waits of incomplete entries (R160) -/

/-- The chunks an entry lacks. -/
def SnapEntry.missing (e : SnapEntry) : List Nat := (List.range e.count).filter fun i => !(e.chunks.any fun c => c.1 == i)

/-- A list of flags as bytes, the first in bit 0. -/
def bitmap (n : Nat) (set : List Nat) : List Byte := le (ceilDiv n 8) (set.foldl (fun m i => m + 2 ^ i) 0)

/-- SNAPSHOT_MISSING: an incomplete entry without a chunk for GAP superframes. -/
def execSnapshotMissing (slot : Fin 128) (s : State) : Host.Outcome State Fault Refusal :=
  let a := slot.val
  .next <|
    match s.snap a with
    | some e =>
      if e.ready.isNone && !e.missed && decide (e.lastSf + orOne (s.fld F.SNP_CTL_GAP) ≤ s.sf) then
        (s.setSnap a (some { e with missed := true })).snapReply a e.id snMISSING (le 2 e.count ++ bitmap e.count e.missing)
      else s
    | none => s

/-- SNAPSHOT_ASM_TIMEOUT: an incomplete entry without a chunk for ASM_TO seconds. -/
def execSnapshotAsmTimeout (slot : Fin 128) (s : State) : Host.Outcome State Fault Refusal :=
  let a := slot.val
  .next <|
    match s.snap a with
    | some e =>
      if e.ready.isNone && s.passed e.lastAt (orOne (s.fld F.SNP_CTL_ASM_TO) * oneSec) then
        s.snapEnd a e snINCOMPLETE 0 (le 2 (e.missing.headD 0))
      else s
    | none => s

/-! ### Solves (R161, R162, R165) -/

/-- SNAPSHOT_SOLVE_START: the entry that became complete first, once the power budget and the DRAM bulk-port token are
granted; without a base it ends at once with NO_BASE. -/
def execSnapshotSolveStart (s : State) : Host.Outcome State Fault Refusal :=
  let order (a : Nat) : Nat := ((s.snap a).bind (·.ready)).getD 0
  let first := (sortBy (fun a b => decide (order a < order b)) s.snapReady).head?
  .next <|
    if s.snp.solving.isSome || s.fld (F.ARB_PWR_REQ_GRANT 2) == 0 || s.fld F.ARB_DRAM_OWNER != 1 || !s.flag F.SNP_CTL_EN then s
    else
      match first with
      | some a =>
        match s.snap a with
        | some e =>
          if s.fld F.TIM_STAT_STATE = 0 ∨ s.snapBase < 5 then s.snapEnd a e snNO_BASE 0 (zeros 2)
          else ({ s with snp := { s.snp with solving := some (a, s.el) } } : State).syncSnp
        | none => s
      | none => s

/-- SNAPSHOT_SOLVE_DONE (R162): the solve ends while its clock is granted (R22). -/
def execSnapshotSolveDone (s : State) : Host.Outcome State Fault Refusal :=
  .next <|
    match s.snp.solving with
    | some (a, _) =>
      match s.snap a with
      | some e =>
        if !s.granted 2 then s
        else
          match s.snapSolve e.stream with
          | .tooFew n => s.snapEnd a e snTOO_FEW 0 (le 1 (min 255 n) ++ zeros 1)
          | .noConverge rms => s.snapEnd a e snNO_CONVERGE 0 (le 1 rms ++ zeros 1)
          | .solved x => s.snapEnd a e snSOLVED (min 32 s.snapSats.length) (s.solvedData e.stream x)
      | none => s
    | none => s

/-- SNAPSHOT_SOLVE_TIMEOUT (R161). -/
def execSnapshotSolveTimeout (s : State) : Host.Outcome State Fault Refusal :=
  .next <|
    match s.snp.solving with
    | some (a, at_) =>
      match s.snap a with
      | some e => if s.passed at_ (max 100 (s.fld F.SNP_LIM_SOLVE_MAX) * oneMs) then s.snapEnd a e snTIMEOUT 0 (zeros 2) else s
      | none => s
    | none => s

/-! ### Register actions (R167, R168) -/

def execSnpFlush (s : State) : Host.Outcome State Fault Refusal := .next s.abandonSnaps

/-- SNP_DISABLE: SNP_CTL.EN is cleared. -/
def execSnpDisable (s : State) : Host.Outcome State Fault Refusal := .next (s.setFld F.SNP_CTL_EN 0).abandonSnaps

def State.snpCntClr (s : State) : State := (s.resetRegs [R.SNP_CNT, R.SNP_DROP]).setFld F.SNP_TIME_MAX_MS 0
def execSnpCntClr (s : State) : Host.Outcome State Fault Refusal := .next s.snpCntClr

end Sys2Proof.Machine
end

