-- ==== Sys2Proof/Machine/Arbiters.lean ====
section
/-! DEFINITION. The module power arbiter (R409 to R411) and the pending and enable bits of the event sources (R413). -/

namespace Sys2Proof.Machine

/-! ### The power arbiter -/

/-- BASE in the present power state (Table 18-2), 10 mW. -/
def State.pwrBase (s : State) : Nat :=
  match s.pwr.state with
  | .doze => 120
  | .dormant => 5
  | _ => 160

/-- The load of the rovers' fix rates in force, fixes per second. -/
def State.rtkRates (s : State) : Nat := s.boundSlots.foldl (fun d a => d + oneSec / epochPeriod (s.rk a).rate) (0 : Nat)

/-- The demand of each requester (Table 15-5). -/
def State.pwrDemand (s : State) (i : Nat) : Nat :=
  match i with
  | 0 => s.rtkDemand - s.rtkFloor
  | 1 => if s.alt.round.isSome then 120 else 0
  | 2 => if s.snp.solving.isSome || !s.snapReady.isEmpty then 90 else 0
  | 3 => if s.rackingLane.isSome then 60 else 0
  | 4 => if s.fld F.UPD_STAT_STAGE == 2 then 40 else 0
  | _ => 0

/-- The requesters in the order of R410: class 3 down to 0, lowest index first. -/
def pwrOrder : List Nat := [3, 0, 1, 2, 4]

/-- Class of a requester. -/
def pwrClass (i : Nat) : Nat :=
  match i with
  | 0 => 2
  | 1 => 1
  | 2 => 1
  | 3 => 3
  | _ => 0

/-- The grants of R410, from what is available: while WARN = 1 classes 0 and 1 get none (R481), and in Dormant there are none. -/
def State.pwrGrants (s : State) (avail : Nat) : List (Nat × Nat) :=
  let loadAbove := ceilDiv (s.rtkRates * s.fld F.RTK_PWR_UJ_FIX) 10000 - s.rtkFloor
  (pwrOrder.foldl (fun (a : List (Nat × Nat) × Nat) i =>
    let d := s.pwrDemand i
    let barred := s.pwr.state == .dormant || (s.flag F.PWR_STAT_WARN && decide (pwrClass i ≤ 1))
    let g := if barred then 0 else if i = 0 then min d a.2 else if d ≤ a.2 then d else 0
    let left := if i = 0 ∧ g < loadAbove then a.2 - loadAbove else a.2 - g
    ((i, g) :: a.1, left)) ([], avail)).1

/-- EV_ARB_PWR, with GRANTED and CAP as ARB_PWR_STAT and ARB_PWR_CAP show them (Table 15-7). -/
def State.pwrEvent (s : State) (req kind demand : Nat) : State :=
  s.raise Ev.arbPwr (le 1 req ++ le 1 kind ++ le 2 demand ++ le 2 (s.fld F.ARB_PWR_STAT_GRANTED) ++ le 2 (s.fld F.ARB_PWR_CAP_CAP))

/-- The sequencers whose clock a requester waits for: they keep their positions while it does (R19). -/
def pwrSeqs (i : Nat) : List Nat := if i = 1 then seqKeys 0x12 else if i = 2 then seqKeys 0x01 else []

/-- The new grant of a requester is shown, with EV_ARB_PWR when it is refused, withdrawn, or granted after waiting (R411). -/
def State.showGrant (s : State) (i g : Nat) : State :=
  let d := s.pwrDemand i
  let was := s.fld (F.ARB_PWR_REQ_GRANT i)
  let waited := s.flag (F.ARB_PWR_REQ_WAIT i)
  let waits := decide (d ≠ 0) && g == 0
  let t := ((s.setFld (F.ARB_PWR_REQ_DEMAND i) d).setFld (F.ARB_PWR_REQ_GRANT i) g).setFld (F.ARB_PWR_REQ_WAIT i) (b2n waits)
  let t := t.setFld F.ARB_PWR_STAT_WAIT (withBit (t.fld F.ARB_PWR_STAT_WAIT) i waits)
  let t := if waits && !waited then (pwrSeqs i).foldl State.seqSync t else if waited && !waits then (pwrSeqs i).foldl State.seqHold t else t
  if waits && !waited then t.pwrEvent i (if was = 0 then 0 else 1) d
  else if waited && g != 0 then t.pwrEvent i 2 d
  else t

/-- The arbiter evaluates its grants (R409 to R411). -/
def State.pwrEvaluate (s : State) : State :=
  let cap := s.fld F.ARB_PWR_CAP_CAP
  let res := s.pwrBase + s.fld F.ARB_PWR_RES_VOUT + s.rtkFloor
  let isOver := decide (cap < res)
  let grants := s.pwrGrants (cap - res)
  let t := ((s.setFld F.ARB_PWR_RES_BASE s.pwrBase).setFld F.ARB_PWR_RES_FLOOR s.rtkFloor).setFld F.ARB_PWR_STAT_RESERVED res
  let was := t.flag F.ARB_PWR_STAT_OVER
  let t := (t.setFld F.ARB_PWR_STAT_OVER (b2n isOver)).setFld F.ARB_PWR_STAT_GRANTED (grants.foldl (fun n g => n + g.2) res)
  let t := if isOver && !was then t.pwrEvent 255 3 res else t
  let t := pwrOrder.foldl (fun t i => t.showGrant i (Tbl.get 0 grants i)) t
  let uj := orOne (t.fld F.RTK_PWR_UJ_FIX)
  t.setFld F.RTK_LOAD_GRANTED (min 4095 ((t.rtkFloor + Tbl.get 0 grants 0) * 10000 / uj))

/-- POWER_REEVALUATE (R411): within 100 µs of a change of demand, of CAP or of a reservation, with the VOUT_3V3 load measured
as a mean over 100 ms, 10 mW rounded up. -/
def execPowerReevaluate (vout : BitVec 11) (s : State) : Host.Outcome State Fault Refusal :=
  .next (if s.pwr.hubReady then (s.setFld F.ARB_PWR_RES_VOUT vout.toNat).pwrEvaluate else s)

/-- SET_POWER_CAP (R409, R415). -/
def doSetPowerCap (s : State) (_ _ : Nat) (p : List Byte) : Res :=
  withLen s 4 p <|
    let say (t : State) : Res := okWith t (le 2 (t.fld F.ARB_PWR_CAP_CAP) ++ le 2 (t.fld F.ARB_PWR_STAT_GRANTED) ++ zeros 4)
    match rdN p 0 1 with
    | 0 => say s
    | 1 =>
      if rdN p 2 2 < 600 ∨ 1800 < rdN p 2 2 then refuse s St.badParameter
      else say ((s.setFld F.ARB_PWR_CAP_CAP (rdN p 2 2)).saveRegs [R.ARB_PWR_CAP])
    | _ => refuse s St.badParameter

def opSetPowerCap : Op := opH 0x0107 1 doSetPowerCap
def execSetPowerCap (c : Cmd) (s : State) : Host.Outcome State Fault Refusal := .next (s.host c opSetPowerCap)

/-! ### Event bits (R413, R414) -/

/-- Pending bits of one register clear where `mask` is 1; bit 2 of EVT_PEND0 follows R414 and is not cleared so. -/
def State.pendClear (s : State) (i : Nat) (mask : Word) : State :=
  let a := R.EVT_PEND0 + 4 * i
  let m := if i = 0 then mask &&& ~~~4#32 else mask
  (s.setReg a (s.reg a &&& ~~~m)).syncIrq

/-- EVT_PEND_CLEAR (R413). -/
def execEvtPendClear (i : Fin 3) (mask : Word) (s : State) : Host.Outcome State Fault Refusal := .next (s.pendClear i.val mask)

/-- A write to an enable register; reserved sources read as 0. -/
def State.enWrite (s : State) (i : Nat) (v : Word) : State :=
  (s.setReg (R.EVT_EN0 + 4 * i) (if i = 2 then v &&& 0xFFFFFF#32 else v)).syncIrq

/-- EVT_EN_WRITE (R413). -/
def execEvtEnWrite (i : Fin 3) (value : Word) (s : State) : Host.Outcome State Fault Refusal := .next (s.enWrite i.val value)

end Sys2Proof.Machine
end

