-- ==== Sys2Proof/Machine/Keys.lean ====
section
/-! DEFINITION. The key store (R416 to R427; interactions R446, Table 16-12): key slots, casks, command signatures, and the tamper response (R419, R420). -/

namespace Sys2Proof.Machine

/-! ### Identity and slots -/

/-- UNIT_ID, and OWNER_ID in a cask, in little-endian order (R421). -/
def State.unitBytes (s : State) : List Byte := le 8 s.fuses.unitId

/-- RS_ID of a root secret (Table 16-2). -/
def State.rsId (s : State) (rs : Nat) : List Byte := (kdf rs (ascii ['R', 'S', 'I', 'D']) s.unitBytes 1).take 4

/-- The slots named by RAD_KEY or SEC_CTL.SIGN_SLOT. -/
def State.namedSlots (s : State) : List Nat :=
  [s.fld F.RAD_KEY_SLOT0, s.fld F.RAD_KEY_SLOT1, s.fld F.RAD_KEY_STOP_SLOT, s.fld F.SEC_CTL_SIGN_SLOT]

/-- SEC_SLOT.NAMED of every slot, SEC_STAT.SLOTS_USED, RS_STATE and BOUND, and SEC_RSID follow the key store. -/
def State.syncKeys (s : State) : State :=
  let names := s.namedSlots
  let t := (List.range 64).foldl (fun t i => t.setFld (F.SEC_SLOT_NAMED i) (b2n (names.contains i))) s
  let used := (List.range 64).filter fun i => s.slotUsage i != 0
  let t := (t.setFld F.SEC_STAT_SLOTS_USED used.length).setFld F.SEC_STAT_RS_STATE (b2n s.vbat.rs.isSome)
  let t := t.setFld F.SEC_STAT_BOUND (b2n (s.fuses.ownerId != 0))
  t.setFld F.SEC_RSID_RS_ID (match s.vbat.rs with
    | some rs => leNat (s.rsId rs)
    | none => 0)

/-- Every key slot is empty. -/
def State.clearSlots (s : State) : State :=
  ({ s with sec := { s.sec with keys := [] } } : State).resetRegs ((List.range 64).map R.SEC_SLOT)

/-- ARM_OK clears on every enabled port whose transceiver holds another stop frame than the next one: it is to be armed anew
(R251, R425). -/
def State.rearm (s : State) : State :=
  s.portsOn.foldl (fun t n => if (t.port n).armed = s.nextStopFrame then t else t.setFld (F.RAD_P_STAT_ARM_OK n) 0) s

/-- EV_SEC_KEYS. -/
def State.keysEvent (s : State) (kind slot opcode : Nat) : State := s.raise Ev.secKeys (le 1 kind ++ le 1 slot ++ le 2 opcode)

/-- The stop key and the radio keys in use have changed from those of `old`: EV_SEC_KEYS, and the stop frames are armed anew. -/
def State.keysChanged (s old : State) (opcode : Nat) : State :=
  let t := s.syncKeys
  let t := if t.stopKey = old.stopKey then t else (t.keysEvent 1 (t.fld F.RAD_KEY_STOP_SLOT) opcode).rearm
  let t := if t.radioKey 0 = old.radioKey 0 then t else t.keysEvent 2 (t.fld F.RAD_KEY_SLOT0) opcode
  if t.radioKey 1 = old.radioKey 1 then t else t.keysEvent 2 (t.fld F.RAD_KEY_SLOT1) opcode

/-! ### Signatures (R427) -/

/-- The bytes a command signature covers. -/
def State.signedBytes (s : State) (sid seq opcode : Nat) (p : List Byte) : List Byte :=
  ascii ['S', 'I', 'G', 'N'] ++ s.unitBytes ++ le 1 sid ++ le 2 seq ++ le 2 opcode ++ p

/-- Whether the last 8 bytes of a payload are the cask signature of the command. -/
def State.sigOk (s : State) (sid seq opcode : Nat) (p : List Byte) : Bool :=
  match s.keyIn (s.fld F.SEC_CTL_SIGN_SLOT) usageSIGN with
  | some k => 8 ≤ p.length && p.drop (p.length - 8) == cmac64 k (s.signedBytes sid seq opcode (p.take (p.length - 8)))
  | none => false

/-- A signature missing or wrong. -/
def State.sigFail (s : State) (opcode : Nat) : Res :=
  refuse ((s.satInc F.SEC_CNT_SIG_FAIL).keysEvent 0 (s.fld F.SEC_CTL_SIGN_SLOT) opcode) St.notAuthorised

/-- CHECK of the SIGN slot; 0 while it holds no key of its usage. -/
def State.signCheck (s : State) : List Byte :=
  match s.keyIn (s.fld F.SEC_CTL_SIGN_SLOT) usageSIGN with
  | some k => (kdf k (ascii ['C', 'H', 'E', 'C', 'K']) [] 1).take 4
  | none => zeros 4

/-! ### Casks (R417, R423 to R426) -/

/-- MAGIC, FORMAT, USAGE, KLEN and the length of a cask are valid (Table 16-3). -/
def caskOk (c : List Byte) : Bool :=
  let usage := rdN c 5 1
  let klen := rdN c 7 1
  c.take 5 == [0x43, 0x41, 0x53, 0x4B, 0x01] && decide (1 ≤ usage) && decide (usage ≤ 5) && (klen == 16 || klen == 32)
    && (usage != 5 || klen == 32) && c.length == (if usage = 5 then 84 else 20) + klen + 8

/-- Bytes 8 to 15 and 16 to 19 of a cask: UNIT_ID, and RS_ID or OWNER_ID. -/
def caskUnit (c : List Byte) : List Byte := (c.drop 8).take 8
def caskId (c : List Byte) : List Byte := (c.drop 16).take 4

/-- EV_SEC_CASK (Table 16-16). -/
def State.caskEvent (s : State) (slot usage result : Nat) : State := s.raise Ev.secCask (le 1 slot ++ le 1 usage ++ le 1 result)

/-- A cask refused: the reply and the result of its event, a failure of match or unwrap counted. -/
def State.caskRefuse (s : State) (slot usage result : Nat) : Res :=
  let t := (if result = 2 ∨ result = 3 then s.satInc F.SEC_CNT_UNWRAP_FAIL else s).caskEvent slot usage result
  refuse t (if result = 6 then St.badParameter else if result = 5 then St.wrongState else St.notAuthorised)

/-- An enrolment cask (R417): its conditions in the order listed. -/
def State.enrol (s : State) (sid slot : Nat) (c : List Byte) : Res :=
  let kek := keyOf (kdf (keyOf (Config.ecdh ((c.drop 20).take 64))) (ascii ['E', 'N', 'R', 'O', 'L']) (c.take 84) 2)
  if sid ≠ 0 ∨ s.vbat.rs.isSome ∨ s.sec.live ≠ 0 then s.caskRefuse slot 5 5
  else if caskUnit c ≠ s.unitBytes ∨ (s.fuses.ownerId ≠ 0 ∧ caskId c ≠ le 4 s.fuses.ownerId) then s.caskRefuse slot 5 3
  else
    match Config.unwrap kek (c.drop 84) with
    | none => s.caskRefuse slot 5 2
    | some rs =>
      let t : State := { s with vbat := { s.vbat with rs := some (keyOf rs) } }
      let t := ((t.clearSlots.syncKeys).satInc F.SEC_CNT_LOADS).caskEvent slot 5 4
      okWith (t.drew 1) (le 1 slot ++ le 1 5 ++ le 1 (rdN c 6 1 % 4) ++ zeros 1 ++ le 4 (s.freeVal 32))

/-- The slot a cask goes to: 0xFF chooses the lowest empty one; none when no slot can take it (R424). -/
def State.caskSlot (s : State) (given : Nat) : Option Nat :=
  if given = 255 then (List.range 64).find? fun i => s.slotUsage i == 0
  else if s.flag (F.SEC_SLOT_IN_SESSION given) then none
  else some given

/-- An ordinary cask that unwraps goes into its slot (R424, R425). -/
def State.caskInto (s : State) (slot : Nat) (c key : List Byte) : State :=
  let usage := rdN c 5 1
  let check := kdf (keyOf key) (ascii ['C', 'H', 'E', 'C', 'K']) [] 1
  let t : State := { s with sec := { s.sec with keys := Tbl.put 0 s.sec.keys slot (keyOf key) } }
  let t := ((t.setFld (F.SEC_SLOT_USAGE slot) usage).setFld (F.SEC_SLOT_LEVEL slot) (rdN c 6 1)).setFld (F.SEC_SLOT_CHECK slot) (rdN check 0 2)
  let t := (t.satInc F.SEC_CNT_LOADS).keysChanged s 0x0D00
  if slot = s.fld F.RAD_KEY_STOP_SLOT ∧ usage = usageSTOP then t.rearm.sourceOff srcTAMPER else t

/-- An ordinary cask (R416, R424). -/
def State.caskLoad (s : State) (given : Nat) (c : List Byte) : Res :=
  let usage := rdN c 5 1
  match s.vbat.rs with
  | none => s.caskRefuse given usage 5
  | some rs =>
    if caskUnit c ≠ s.unitBytes ∨ caskId c ≠ s.rsId rs then s.caskRefuse given usage 3
    else
      match Config.unwrap (keyOf (kdf rs (ascii ['C', 'A', 'S', 'K']) (c.take 20) 2)) (c.drop 20) with
      | none => s.caskRefuse given usage 2
      | some key =>
        match s.caskSlot given with
        | none => s.caskRefuse given usage 5
        | some slot =>
          let t := (s.caskInto slot c key).caskEvent given usage 0
          okWith t (le 1 slot ++ le 1 usage ++ le 1 (t.fld (F.SEC_SLOT_LEVEL slot)) ++ zeros 1 ++ (kdf (keyOf key) (ascii ['C', 'H', 'E', 'C', 'K']) [] 1).take 4)

/-- SEC_CASK_LOAD (R424, R447). -/
def doSecCaskLoad (s : State) (sid _ : Nat) (p : List Byte) : Res :=
  let slot := rdN p 0 1
  let c := p.drop 4
  let usage := rdN c 5 1
  if p.length < 4 ∨ c.length ≠ rdN p 2 2 then refuse s St.badLength
  else if !caskOk c ∨ (usage ≠ 5 ∧ 63 < slot ∧ slot ≠ 255) then s.caskRefuse slot usage 6
  else if usage = 5 then s.enrol sid slot c
  else s.caskLoad slot c

def opSecCaskLoad : Op := opH 0x0D00 1 doSecCaskLoad
def execSecCaskLoad (c : Cmd) (s : State) : Host.Outcome State Fault Refusal := .next (s.host c opSecCaskLoad)

/-- SEC_CASK_UNLOAD (R426): refused for the slot of the stop key and of the radio key in use for sending. -/
def doSecCaskUnload (s : State) (_ _ : Nat) (p : List Byte) : Res :=
  let slot := rdN p 0 1
  let tx := if s.fld F.RAD_KEY_TX_KEY = 0 then s.fld F.RAD_KEY_SLOT0 else s.fld F.RAD_KEY_SLOT1
  withLen s 4 p <|
    if 63 < slot then refuse s St.badParameter
    else if slot = s.fld F.RAD_KEY_STOP_SLOT ∨ slot = tx then refuse s St.wrongState
    else
      let usage := s.slotUsage slot
      let t : State := { s with sec := { s.sec with keys := Tbl.put 0 s.sec.keys slot 0 } }
      let t := (t.setReg (R.SEC_SLOT slot) (s.reg (R.SEC_SLOT slot) &&& 0x00200000)).keysChanged s 0x0D01
      okay (t.caskEvent slot usage 1)

/-- A session whose key slot no longer holds its key closes (R426). -/
def State.closeKeyless (s : State) (_ : Nat) : State :=
  [0, 1, 2, 3].foldl (fun t sid => if (t.sess sid).auth && t.slotUsage (t.sess sid).slot != usageSESSION then t.sessionGone sid else t) s

def opSecCaskUnload : Op := { code := 0x0D01, rights := 1, run := doSecCaskUnload, post := fun sid s => s.closeKeyless sid }
def execSecCaskUnload (c : Cmd) (s : State) : Host.Outcome State Fault Refusal := .next (s.host c opSecCaskUnload)

/-- SEC_CNT_CLR: SEC_CTL.CNT_CLR clears SEC_CNT. -/
def State.secCntClr (s : State) : State := s.resetRegs [R.SEC_CNT]
def execSecCntClr (s : State) : Host.Outcome State Fault Refusal := .next s.secCntClr

/-- KEY_MASK_REDRAW (R422): the mask of the key slots is drawn anew every 10 minutes. -/
def execKeyMaskRedraw (s : State) : Host.Outcome State Fault Refusal :=
  .next <|
    if s.pwr.hubReady && s.pwr.state != .dormant && s.passed s.sec.maskAt (600 * oneSec) then
      { s with sec := { s.sec with mask := s.random 256, maskAt := s.el }, free := s.free + 1 }
    else s

/-! ### Tamper (R419, R420) -/

/-- SEC_TAMPER and SEC_STAT.TAMPER_LIVE follow the sources and the latched causes. -/
def State.syncTamper (s : State) : State :=
  ((s.setFld F.SEC_TAMPER_LIVE s.sec.live).setFld F.SEC_TAMPER_CAUSE s.vbat.causes).setFld F.SEC_STAT_TAMPER_LIVE (b2n (s.sec.live != 0))

/-- Session 0 returns to level C without authentication (R41, R420); one that has never been authenticated is there. -/
def State.session0Back (s : State) : State :=
  if (s.sess 0).auth || !(s.sess 0).isOpen then
    let t := s.sessionGone 0
    t.setSess 0 { t.sess 0 with isOpen := true, level := 1, hs := none }
  else s.setSess 0 { s.sess 0 with hs := none }

/-- STOP_CNT restarts from the NOR copy plus 65,536 when the VBAT copy has been lost (R294). -/
def State.recoverCnt (s : State) : State :=
  if s.vbat.stopCnt.isSome then s
  else
    let cnt := (s.stp.norCnt + 65536) % 2 ^ 32
    ({ s with vbat := { s.vbat with stopCnt := some cnt } } : State).setFld F.STP_CNT_STOP_CNT cnt

/-- What the hub does of a tamper response while it runs (R420 step 4): both VBAT copies of the accumulators (R357), sessions, stop frames, EV_SEC_TAMPER and its record. -/
def State.tamperRest (s : State) (causes before temp time running : Nat) : State :=
  let t := s.recoverCnt
  let t := (t.saveVbat none).saveVbat none
  let t := (([1, 2, 3].foldl State.sessionGone t).session0Back).rearm
  let t := t.satInc F.SEC_CNT_TAMPERS
  let t := t.raise Ev.secTamper (le 1 causes ++ le 1 before ++ le 2 temp)
  t.recordAt 0x08 (le 1 causes ++ le 1 before ++ le 2 temp ++ le 1 running ++ zeros 3) time false

/-- The tamper response (R420): root secret and key slots are zeroed, the rest of the VBAT SRAM cleared and the cause
latched; the always-on seconds counter is no SRAM and runs on. A running hub does the rest at once; in Dormant the TAMPER source fires the path and wakes the module, and the rest
waits for the wake; while no hub runs it waits for the next start. -/
def State.tamper (s : State) (k : Nat) : State :=
  let before := b2n s.vbat.rs.isSome
  let causes := withBit s.vbat.causes k true
  let temp := s.fld F.SEC_TEMP_TEMP
  let t : State := { s with vbat := { stopCnt := none, causes := causes, secs := s.vbat.secs, frac := s.vbat.frac } }
  let t := t.clearSlots.syncKeys.syncTamper
  let later : State := { t with sec := { t.sec with late := t.sec.late ++ [(causes, before, temp, t.now)] } }
  match s.pwr.state with
  | .dormant =>
    let u : State := { later with pwr := { later.pwr with wake := withBit later.pwr.wake 4 true } }
    (u.tstLock 3).sourceOn srcTAMPER
  | .off | .backup | .starting => later
  | _ =>
    if s.pwr.hubReady then
      let u : State := { t with pwr := { t.pwr with wake := withBit t.pwr.wake 4 (bit t.pwr.wake 4 || t.pwr.state == .entering) } }
      (((u.tstLock 3).recoverCnt).sourceOn srcTAMPER).tamperRest causes before temp s.now 1
    else later

/-- TAMPER_CONDITION_END (R419): the source may fire again once it is detected anew. -/
def execTamperConditionEnd (k : Fin 6) (s : State) : Host.Outcome State Fault Refusal :=
  .next (({ s with sec := { s.sec with live := withBit s.sec.live k.val false } } : State).syncTamper)

end Sys2Proof.Machine
end

