-- ==== Sys2Proof/Machine/Cellar.lean ====
section
/-! DEFINITION. The cellar book (chapter 17): records, the permanent and the circulating area, freeze, read and clear.
Records are numbered without end here; SEQ is that number modulo 2^24. -/

namespace Sys2Proof.Machine

/-- SEQ of a record number. -/
def seq24 (n : Nat) : Nat := n % 2 ^ 24

/-- Bytes of one sector, and of its header (R451). -/
def sectorBytes : Nat := 65536

/-- A record as it stands in NOR (Table 17-1). -/
def recordBytes (words flags type seq timeUs : Nat) (payload : List Byte) : List Byte :=
  let body := le 1 (4 * words + flags) ++ le 1 type ++ le 3 seq ++ le 7 timeUs ++ payload ++ zeros (4 * words - 16 - payload.length)
  body ++ le 4 (crc32c body)

/-- The bytes of record number `n`. -/
def Rec.bytes (r : Rec) (n : Nat) (timeFree : Bool) : List Byte :=
  recordBytes (4 + ceilDiv r.payload.length 4) (2 * b2n r.late + b2n timeFree) r.type (seq24 n) r.timeUs r.payload

/-- The marker of a span that cannot be read (R456). -/
def markerBytes (n skipped : Nat) : List Byte := recordBytes 5 0 0xFF (seq24 n) 0 (le 4 skipped)

/-! ### What is retained -/

/-- The oldest record number that can be retained: the newest 65,536, less what has been cleared (R453, R460). -/
def State.cbkFloor (s : State) : Nat := max ((s.cbk.cleared.map (· + 1)).getD 0) (s.cbk.next - 65536)

/-- The record numbers standing whole in a list of sectors. -/
def goodNumbers (ss : List Sector) : List Nat :=
  (ss.map fun x => x.items.filterMap fun i => match i with
    | .good n _ => some n
    | .bad _ _ _ => none).flatten

/-- The oldest retained record number; the next one when none is retained. -/
def State.cbkOldest (s : State) : Nat :=
  (((goodNumbers s.cbk.circ).filter fun n => s.cbkFloor ≤ n).head?).getD (max s.cbkFloor (s.cbk.next - s.cbk.buf.length))

/-- The CBK registers follow the book. -/
def State.syncCbk (s : State) : State :=
  let perm := (goodNumbers s.cbk.perm).length
  let t := (s.setFld F.CBK_NEWEST_SEQ (s.cbk.next - 1)).setFld F.CBK_OLDEST_SEQ s.cbkOldest
  let t := (t.setFld F.CBK_PERM_PERM_N perm).setFld F.CBK_STAT_PERM_FULL (b2n (decide (4096 ≤ perm)))
  t.setFld F.CBK_BUF_HELD s.cbk.buf.length

/-- EV_CBK_ERR. -/
def State.cbkErr (s : State) (kind skipped n : Nat) : State :=
  s.raise Ev.cbkErr (le 1 kind ++ le 1 0 ++ le 2 skipped ++ le 4 (seq24 n))

/-! ### Writing (R450 to R453, R458) -/

/-- `ss` with an item of `n` bytes appended in its last sector. -/
def appendItem : List Sector → NorItem → Nat → List Sector
  | [], _, _ => []
  | [x], i, n => [{ x with items := x.items ++ [i], used := x.used + n }]
  | x :: t, i, n => x :: appendItem t i n

/-- Whether the last sector has room for `n` bytes. -/
def roomIn (ss : List Sector) (n : Nat) : Bool :=
  match ss.getLast? with
  | some x => decide (x.used + n ≤ sectorBytes)
  | none => false

/-- The oldest sectors are erased while fewer than two erased ones remain and they hold no retained record. -/
def eraseOld (floor : Nat) : Nat → Cbk → Cbk
  | 0, c => c
  | k + 1, c =>
    match c.circ with
    | x :: y :: rest =>
      if c.erased < 2 ∧ (goodNumbers [x]).all (fun n => n < floor) then eraseOld floor k { c with circ := y :: rest, erased := c.erased + 1 } else c
    | _ => c

/-- The next erased sector of the circulating area is taken into use. -/
def State.newSector (s : State) (n : Nat) : State :=
  let c := s.cbk
  let c := { c with circ := c.circ ++ [{ first := n, erases := c.taken / 176 }], erased := c.erased - 1, taken := c.taken + 1 }
  { s with cbk := eraseOld s.cbkFloor 176 c }

/-- An item goes into the circulating area. -/
def State.circItem (s : State) (n : Nat) (i : NorItem) (len : Nat) : State :=
  let t := if roomIn s.cbk.circ len then s else s.newSector n
  { t with cbk := { t.cbk with circ := appendItem t.cbk.circ i len } }

/-- A record goes into the permanent area, while it is one of the first 4,096. -/
def State.permItem (s : State) (n : Nat) (bytes : List Byte) : State :=
  if 4096 ≤ n then s
  else
    let ss := if roomIn s.cbk.perm bytes.length then s.cbk.perm else s.cbk.perm ++ [{ first := n }]
    { s with cbk := { s.cbk with perm := appendItem ss (.good n bytes) bytes.length } }

/-- EV_CBK_PERM as the permanent area fills, and the PERM_FULL record (R452). -/
def State.permEvent (s : State) (before : Nat) : State :=
  let now := s.fld F.CBK_PERM_PERM_N
  if before < 3968 ∧ now = 3968 then s.raise Ev.cbkPerm (le 2 now ++ le 1 0)
  else if before < 4096 ∧ now = 4096 then (s.raise Ev.cbkPerm (le 2 now ++ le 1 1)).record 0x14 (le 2 now ++ zeros 2)
  else s

/-- Record number `n` is written to NOR; `fails` of its writes failed: after one it stands at the next aligned offset, after two
in the next erased sector (R458). -/
def State.writeRecord (s : State) (n : Nat) (r : Rec) (fails : Nat) : State :=
  let bytes := r.bytes n (s.fld F.TIM_STAT_STATE == 0)
  let len := bytes.length
  let hurt (t : State) : State := (t.circItem n (.bad len 0 false) len).satInc F.CBK_CNT_WRITE_FAIL
  let t := match fails with
    | 0 => s
    | 1 => hurt s
    | _ => ((hurt (hurt s)).newSector n).cbkErr 4 len n
  let before := t.fld F.CBK_PERM_PERM_N
  (((t.circItem n (.good n bytes) len).permItem n bytes).syncCbk).permEvent before

/-- A record arrives (R450, R454): it takes its SEQ, and is written, or buffered while recording is frozen. -/
def State.arrive (s : State) (r : Rec) (fails : Nat) : State :=
  let n := s.cbk.next
  let t : State := { s with cbk := { s.cbk with next := n + 1 } }
  if !t.flag F.CBK_STAT_FROZEN then t.writeRecord n r fails
  else if t.cbk.buf.length < 256 then ({ t with cbk := { t.cbk with buf := t.cbk.buf ++ [(n, r)] } } : State).syncCbk
  else (({ t with cbk := { t.cbk with droppedN := t.cbk.droppedN + 1 } } : State).satInc F.CBK_CNT_DROPPED).syncCbk

/-- Whether the controller runs. -/
def State.cbkRuns (s : State) : Bool := s.pwr.hubReady && s.pwr.state != .dormant

/-- CBK_RECORD_WRITE (R450): the oldest record of Q37; `fails` of its writes fail. -/
def execCbkRecordWrite (fails : Fin 3) (s : State) : Host.Outcome State Fault Refusal :=
  .next <|
    match s.cbk.q with
    | r :: rest => if s.cbkRuns then ({ s with cbk := { s.cbk with q := rest } } : State).arrive r fails.val else s
    | [] => s

/-! ### Freeze (R454, R455) -/

/-- The freeze ends: the buffered records are written in SEQ order, and a FREEZE_DROP record when any was dropped. -/
def State.thaw (s : State) : State :=
  if !s.flag F.CBK_STAT_FROZEN then s
  else
    let buf := s.cbk.buf
    let lost := s.cbk.droppedN
    let t := ({ s with cbk := { s.cbk with buf := [], droppedN := 0 } } : State).setFld F.CBK_STAT_FROZEN 0
    let t := (buf.foldl (fun t x => t.writeRecord x.1 x.2 0) t).syncCbk
    if lost = 0 then t
    else
      let n := t.cbk.next
      (t.arrive ⟨0x13, le 4 lost ++ le 8 s.cbk.frozenTime, s.now / 1000 % 2 ^ 56, false⟩ 0).cbkErr 3 0 n

/-- Every record waiting is written, the frozen ones first: before the restart of a decant and in the entry to Dormant. -/
def State.cbkFlush (s : State) : State :=
  let t := s.thaw
  t.cbk.q.foldl (fun t r => t.arrive r 0) { t with cbk := { t.cbk with q := [] } }

/-- CBK_FREEZE_TIMEOUT (R454). -/
def execCbkFreezeTimeout (s : State) : Host.Outcome State Fault Refusal :=
  .next (if s.flag F.CBK_STAT_FROZEN && s.passed s.cbk.frozenAt (orOne (s.fld F.CBK_CTL_FREEZE_MAX) * oneSec) then s.thaw else s)

/-- CBK_CNT_CLR. -/
def State.cbkCntClr (s : State) : State := s.resetRegs [R.CBK_CNT]
def execCbkCntClr (s : State) : Host.Outcome State Fault Refusal := .next s.cbkCntClr

/-- CBK_FREEZE (R454). -/
def doCbkFreeze (s : State) (_ _ : Nat) (p : List Byte) : Res :=
  withLen s 4 p <|
    let start := if s.flag F.CBK_STAT_FROZEN then s.cbk.frozenTime else s.now
    let t := ({ s with cbk := { s.cbk with frozenAt := s.el, frozenTime := start } } : State).setFld F.CBK_STAT_FROZEN 1
    okWith t (le 4 (t.fld F.CBK_NEWEST_SEQ) ++ le 4 (t.fld F.CBK_OLDEST_SEQ))

def opCbkFreeze : Op := opH 0x0E00 0 doCbkFreeze
def execCbkFreeze (c : Cmd) (s : State) : Host.Outcome State Fault Refusal := .next (s.host c opCbkFreeze)

/-- CBK_THAW (R454). -/
def doCbkThaw (s : State) (_ _ : Nat) (p : List Byte) : Res :=
  withLen s 4 p (okWith s.thaw (le 2 s.cbk.buf.length ++ le 2 (min 65535 s.cbk.droppedN)))

def opCbkThaw : Op := opH 0x0E01 0 doCbkThaw
def execCbkThaw (c : Cmd) (s : State) : Host.Outcome State Fault Refusal := .next (s.host c opCbkThaw)

/-! ### Reading (R456, R461) -/

/-- What a read meets in an area: a record, or a span that cannot be read with its kind and length, not yet reported when
`fresh`. -/
structure CbkEntry where
  n : Nat
  bytes : List Byte
  span : Option (Nat × Nat) := none
  fresh : Bool := false
  /-- record numbers before and after a span -/
  before : Nat := 0
  after : Nat := 0
  deriving DecidableEq, Repr

/-- The entries of some items in order: `last` is the number after the last good record, `open_` a span being skipped (kind,
length, fresh). -/
def entries : Nat → Option (Nat × Nat × Bool) → List NorItem → List CbkEntry
  | last, open_, [] =>
    match open_ with
    | some (k, l, f) => [⟨last, markerBytes last l, some (k, l), f, last - 1, last⟩]
    | none => []
  | last, open_, .bad l k found :: t =>
    match open_ with
    | some (k0, l0, f0) => entries last (some (k0, l0 + l, f0 || !found)) t
    | none => entries last (some (k, l, !found)) t
  | last, open_, .good n bytes :: t =>
    let rest := ⟨n, bytes, none, false, 0, 0⟩ :: entries (n + 1) none t
    match open_ with
    | some (k, l, f) => ⟨last, markerBytes last l, some (k, l), f, last - 1, n⟩ :: rest
    | none => rest

/-- The entries of an area from a record number on. -/
def areaEntries (ss : List Sector) (first : Nat) : List CbkEntry :=
  let all := entries ((ss.head?.map (·.first)).getD 0) none ((ss.map (·.items)).flatten)
  all.filter fun e => first ≤ e.n

/-- As many entries as fit in a count and in 1,390 bytes. -/
def fitting : Nat → Nat → List CbkEntry → List CbkEntry
  | _, 0, _ => []
  | _, _, [] => []
  | room, k + 1, e :: t => if e.bytes.length ≤ room then e :: fitting (room - e.bytes.length) k t else []

/-- The record number that a SEQ names, counted back from the next one. -/
def State.fullSeq (s : State) (q : Nat) : Nat :=
  let d := (s.cbk.next + 2 ^ 24 - q) % 2 ^ 24
  if d ≤ s.cbk.next then s.cbk.next - d else q

/-- The spans of an area in front of the numbers given have been reported. -/
def markFound (ns : List Nat) : Nat → List NorItem → List NorItem
  | _, [] => []
  | last, .bad l k f :: t => .bad l k (f || ns.contains last) :: markFound ns last t
  | _, .good n bytes :: t => .good n bytes :: markFound ns (n + 1) t

/-- The same over the sectors of an area. -/
def markSectors (ns : List Nat) : Nat → List Sector → List Sector
  | _, [] => []
  | last, x :: t =>
    let next := match (goodNumbers [x]).getLast? with
      | some n => n + 1
      | none => last
    { x with items := markFound ns last x.items } :: markSectors ns next t

/-- A damaged span found for the first time (R456). -/
def State.damage (s : State) (e : CbkEntry) : State :=
  match e.span with
  | some (kind, len) =>
    if e.fresh then
      let t := (s.record 0x12 (le 1 kind ++ le 1 0 ++ le 2 len ++ le 4 (seq24 e.before) ++ le 4 (seq24 e.after))).satInc F.CBK_CNT_DAMAGED
      (t.setFld F.CBK_STAT_DAMAGED 1).cbkErr kind len e.n
    else s
  | none => s

/-- The spans among some entries are reported and marked. -/
def State.found (s : State) (permanent : Bool) (es : List CbkEntry) : State :=
  let ns := (es.filter fun e => e.span.isSome).map (·.n)
  let mark (ss : List Sector) : List Sector := markSectors ns ((ss.head?.map (·.first)).getD 0) ss
  let t : State := if permanent then { s with cbk := { s.cbk with perm := mark s.cbk.perm } } else { s with cbk := { s.cbk with circ := mark s.cbk.circ } }
  es.foldl State.damage t

/-- CBK_READ (R456, R461). -/
def doCbkRead (s : State) (_ _ : Nat) (p : List Byte) : Res :=
  let area := rdN p 0 1
  let count := rdN p 2 2
  withLen s 8 p <|
    if 1 < area ∨ count = 0 ∨ 64 < count then refuse s St.badParameter
    else
      let ss := if area = 0 then s.cbk.perm else s.cbk.circ
      let asked := s.fullSeq (rdN p 4 3)
      let oldest := if area = 0 then ((goodNumbers ss).head?).getD 0 else s.cbkOldest
      let es := fitting 1390 count (areaEntries ss (max asked oldest))
      let newest := (goodNumbers ss).getLast?
      let ends := es.any fun e => e.span.isNone && some e.n == newest
      let next := match es.getLast? with
        | some e => if e.span.isSome then e.after else e.n + 1
        | none => max asked oldest
      okWith (s.found (area == 0) es) (le 4 (seq24 next) ++ le 1 es.length ++ le 1 (b2n (decide (asked < oldest)) + 2 * b2n ends) ++ zeros 2 ++ (es.map (·.bytes)).flatten)

def opCbkRead : Op := opH 0x0E02 0 doCbkRead
def execCbkRead (c : Cmd) (s : State) : Host.Outcome State Fault Refusal := .next (s.host c opCbkRead)

/-! ### Clearing (R459, R460) -/

/-- CBK_CLEAR (R459, R460). -/
def doCbkClear (s : State) (sid seq : Nat) (p : List Byte) : Res :=
  let upto := rdN p 0 3
  let oldest := s.fld F.CBK_OLDEST_SEQ
  let span := (s.fld F.CBK_NEWEST_SEQ + 2 ^ 24 - oldest) % 2 ^ 24
  let n := (upto + 2 ^ 24 - oldest) % 2 ^ 24
  withLen s 12 p <|
    if !s.sigOk sid seq 0x0E03 p then s.sigFail 0x0E03
    else if s.flag F.CBK_STAT_FROZEN then refuse s St.wrongState
    else if s.cbk.next = 0 ∨ s.cbkOldest = s.cbk.next ∨ span < n then refuse s St.badParameter
    else
      let t := ({ s with cbk := { s.cbk with cleared := some (s.cbkOldest + n) } } : State).syncCbk
      let t := (t.record 0x11 (le 1 sid ++ zeros 3 ++ le 4 oldest ++ le 4 upto ++ s.signCheck)).satInc F.CBK_CNT_CLEARS
      let t := t.raise Ev.cbkClear (le 1 sid ++ zeros 3 ++ le 4 upto)
      okWith t (le 4 (n + 1) ++ le 4 ((upto + 1) % 2 ^ 24))

def opCbkClear : Op := opH 0x0E03 2 doCbkClear
def execCbkClear (c : Cmd) (s : State) : Host.Outcome State Fault Refusal := .next (s.host c opCbkClear)

/-! ### The hub start (R457, R460) -/

/-- UPTO of the newest CLEAR record of some items, as a record number. -/
def lastClear (items : List NorItem) : Option Nat :=
  items.foldl (fun a i => match i with
    | .good n bytes => if rdN bytes 1 1 = 0x11 then some (n - (n + 2 ^ 24 - rdN bytes 20 3) % 2 ^ 24) else a
    | .bad _ _ _ => a) none

/-- The controller starts: the write position stands after the last good record, a record torn by a power loss (`torn` words,
0 none) takes no SEQ, and the newest CLEAR record gives the cleared range. -/
def State.cbkStart (s : State) (torn : Nat) : State :=
  let items := (s.cbk.circ.map (·.items)).flatten
  let next := match (goodNumbers s.cbk.circ).getLast? with
    | some n => n + 1
    | none => 0
  let t : State := { s with cbk := { s.cbk with q := [], buf := [], droppedN := 0, next := next, cleared := lastClear items } }
  let t := if torn = 0 then t else t.circItem next (.bad (4 * torn) 1 false) (4 * torn)
  t.syncCbk

end Sys2Proof.Machine
end

