-- ==== Sys2Proof/Machine/Images.lean ====
section
/-! DEFINITION. Images (R429 to R438): transfers into the image buffer, verification, staging and the relay along the chain;
and decant schedules (R442 to R444). What a decant does to the module stands in Restart.lean. -/

namespace Sys2Proof.Machine

/-! STAGE of UPD_STAT. -/
def sgEMPTY : Nat := 0
def sgRECEIVING : Nat := 1
def sgVERIFYING : Nat := 2
def sgWRITING : Nat := 3
def sgSTAGED : Nat := 4
def sgFAILED : Nat := 5

def State.stage (s : State) : Nat := s.fld F.UPD_STAT_STAGE

/-- `s` with STAGE and RESULT as given. -/
def State.setStage (s : State) (stage result : Nat) : State := (s.setFld F.UPD_STAT_STAGE stage).setFld F.UPD_STAT_RESULT result

/-- The bank that does not run. -/
def State.spareBank (s : State) : Nat := 1 - s.fld F.UPD_STAT_BANK

def State.setBank (s : State) (b : Nat) (i : Option BankImage) : State :=
  { s with upd := { s.upd with banks := Tbl.put none s.upd.banks b i } }

/-- The staged image: what the spare bank holds while it waits for a decant. -/
def State.stagedImage (s : State) : Option BankImage := (Tbl.get none s.upd.banks s.spareBank).filter (·.staged)

/-- UPD_VINT_STG and UPD_FMT.STAGED show the staged image. -/
def State.syncBank (s : State) : State :=
  let i := s.stagedImage
  (s.setFld F.UPD_VINT_STG_VINTAGE ((i.map (·.vintage)).getD 0)).setFld F.UPD_FMT_STAGED ((i.map (·.setFmt)).getD 0)

/-! ### The manifest (R430) and verification (R431) -/

/-- The number in `n` bytes of the image buffer from offset `o`. -/
def rdM (m : Tbl Byte) (o n : Nat) : Nat := leNat (bytesAt m o n)

/-- KIND, OFFSET and LENGTH of part `j`. -/
def partKind (m : Tbl Byte) (j : Nat) : Nat := rdM m (32 + 48 * j) 1
def partOffset (m : Tbl Byte) (j : Nat) : Nat := rdM m (36 + 48 * j) 4
def partLength (m : Tbl Byte) (j : Nat) : Nat := rdM m (40 + 48 * j) 4

def imageVintage (m : Tbl Byte) : Nat := rdM m 12 4
def imageLen (m : Tbl Byte) : Nat := rdM m 16 4
def imageUnits (m : Tbl Byte) : Nat := rdM m 20 2

/-- The parts of an image. -/
def partList : List Nat := [0, 1, 2, 3, 4, 5, 6, 7]

/-- Two parts do not overlap. -/
def apart (m : Tbl Byte) (i j : Nat) : Bool :=
  decide (partOffset m i + partLength m i ≤ partOffset m j) || decide (partOffset m j + partLength m j ≤ partOffset m i)

/-- Check 1 of Table 16-8, the length received apart. -/
def formatOk (m : Tbl Byte) : Bool :=
  bytesAt m 0 6 == [0x54, 0x4C, 0x58, 0x49, 0x01, 0x08]
    && ([1, 2, 3, 4, 5, 6, 7, 8].all fun k => (partList.filter fun j => partKind m j == k).length == 1)
    && (partList.all fun j => partOffset m j % 4096 == 0 && decide (partOffset m j + partLength m j ≤ imageLen m))
    && (partList.all fun i => partList.all fun j => i == j || apart m i j)

/-- Bytes held of a transfer. -/
def Transfer.bytes (x : Transfer) : Nat := x.held.length * (if x.source = 0 then 4 else 1024)

/-- The length received is that of the image: the last chunk on the chain is padded. -/
def Transfer.lengthOk (x : Transfer) (len : Nat) : Bool :=
  x.bytes == x.length && (if x.source = 0 then x.length == len else x.length == ceilDiv len 1024 * 1024)

/-- RESULT of the verification of the buffer (Table 16-8), the first check that fails. -/
def State.verify (s : State) (x : Transfer) : Nat :=
  let m := s.upd.buf
  let body := 416 + 8 * imageUnits m
  let hashOk (j : Nat) : Bool := Config.sha256 (bytesAt m (partOffset m j) (partLength m j)) == bytesAt m (48 + 48 * j) 32
  if !formatOk m || !x.lengthOk (imageLen m) then 1
  else if !Config.imageSigned s.fuses.imageKey (bytesAt m 0 body) (bytesAt m body 64) then 2
  else if rdM m 8 2 ≠ s.fld F.SYS_ID_TYPE_ID then 3
  else if !partList.all hashOk then 4
  else if imageVintage m / 2 ^ 24 < s.fuses.floor then 5
  else if rdM m 6 2 % 2 = 1 ∧ !((List.range (imageUnits m)).any fun u => rdM m (416 + 8 * u) 8 == s.fuses.unitId) then 6
  else 0

/-! ### The end of a transfer -/

/-- EV_UPD_IMAGE. -/
def State.imageEvent (s : State) (x : Transfer) (result : Nat) : State :=
  s.raise Ev.updImage (le 1 result ++ le 1 x.source ++ le 2 x.id ++ le 4 (imageVintage s.upd.buf))

/-- The transfer, its verification or its bank write ends without a staged image. -/
def State.transferFail (s : State) (result : Nat) : State :=
  match s.upd.xfer with
  | some x => (({ s with upd := { s.upd with xfer := none } } : State).setStage sgFAILED result).imageEvent x result
  | none => s

/-- UPD_PROG.BYTES of the transfer in progress. -/
def State.setXfer (s : State) (x : Transfer) : State :=
  ({ s with upd := { s.upd with xfer := some x } } : State).setFld F.UPD_PROG_BYTES x.bytes

/-- A transfer opens: the buffer is empty. -/
def State.openXfer (s : State) (x : Transfer) : State :=
  let t : State := { s with upd := { s.upd with buf := [] } }
  ((t.setStage sgRECEIVING 0).setFld F.UPD_STAT_XFER_ID x.id).setXfer x

/-! ### Relay (R435 to R438) -/

def State.relay (s : State) (n : Nat) : Relay := Tbl.get {} s.upd.relays n
def State.relaying (s : State) : Bool := [0, 1].any fun n => (s.relay n).active

def State.setRelay (s : State) (n : Nat) (r : Relay) : State :=
  let t : State := { s with upd := { s.upd with relays := Tbl.put {} s.upd.relays n r } }
  t.setFld F.UPD_STAT_RELAYING (b2n t.relaying)

/-- An IMAGE chain frame (R436): `sub` 0 DATA, 1 STATUS, 2 DONE. -/
def State.imageFrame (s : State) (origin sub id index count : Nat) (rest : List Byte) : List Byte :=
  s.chainFrame ctIMAGE (le 2 s.site ++ le 1 origin ++ le 1 sub ++ le 2 id ++ zeros 2 ++ le 4 index ++ le 4 count ++ rest)

/-- DATA frames of a range of chunks leave on a port. -/
def State.sendChunks (s : State) (n first count : Nat) : State :=
  let (origin, id, total) := s.upd.relayOf
  (List.range count).foldl (fun t k =>
    let i := first + k
    if i < total then t.ethSend n (t.imageFrame origin 0 id i total (bytesAt t.upd.buf (1024 * i) 1024)) else t) s

/-- EV_UPD_RELAY. -/
def State.relayEvent (s : State) (n result : Nat) : State :=
  s.raise Ev.updRelay (le 1 n ++ le 1 result ++ le 2 s.upd.relayOf.2.1 ++ le 1 (s.fld (F.ETH_P_STAT_NBR_NET n)))

/-- The relay out of a port ends with a result of Table 16-16. -/
def State.relayEnd (s : State) (n result : Nat) : State := if (s.relay n).active then (s.setRelay n {}).relayEvent n result else s

/-- The verified image of the buffer goes on to each port allowed (R435). -/
def State.startRelays (s : State) (x : Transfer) : State :=
  let fits (n : Nat) : Bool := x.source != n + 1 && s.flag (F.ETH_P_STAT_NBR_OK n) && (Tbl.get ({} : EthPort) s.eth.ports n).helloType == s.fld F.SYS_ID_TYPE_ID
  if !s.flag F.UPD_CTL_RELAY_EN || !x.relay then s
  else
    let total := ceilDiv (imageLen s.upd.buf) 1024
    let t : State := { s with upd := { s.upd with relayOf := (x.origin, x.id, total) } }
    ([0, 1].filter fits).foldl (fun t n => (t.setRelay n { active := true, missing := total }).sendChunks n 0 total) t

/-- A link of a port that relays is lost. -/
def State.relayLost (s : State) (n : Nat) : State := s.relayEnd n 3

/-! ### Host transfers (R432, R433) -/

/-- A transfer, verification, bank write, relay or decant in progress bars another transfer. -/
def State.updBusy (s : State) : Bool :=
  s.upd.xfer.isSome || s.relaying || s.upd.sched.isSome || s.upd.decantAt.isSome

/-- UPD_IMAGE_BEGIN (R432). -/
def doUpdImageBegin (s : State) (_ _ : Nat) (p : List Byte) : Res :=
  let len := rdN p 0 4
  withLen s 8 p <|
    if len % 4 ≠ 0 ∨ 25165824 < len then refuse s St.badParameter
    else if s.updBusy then refuse s St.wrongState
    else
      let id := s.net * 256 + s.upd.xferSeq % 256
      let t : State := { s with upd := { s.upd with xferSeq := s.upd.xferSeq + 1 } }
      let x : Transfer := { id := id, source := 0, length := len, relay := bit (rdN p 4 1) 0, origin := s.net, lastAt := s.el }
      okWith (t.openXfer x) (le 2 id ++ zeros 2)

def opUpdImageBegin : Op := opH 0x0D02 1 doUpdImageBegin
def execUpdImageBegin (c : Cmd) (s : State) : Host.Outcome State Fault Refusal := .next (s.host c opUpdImageBegin)

/-- The open transfer of the host with an XFER_ID. -/
def State.hostXfer (s : State) (id : Nat) : Option Transfer :=
  s.upd.xfer.filter fun x => x.id == id && x.source == 0 && s.stage == sgRECEIVING

/-- UPD_IMAGE_DATA (R432): a chunk sent again overwrites the same bytes. -/
def doUpdImageData (s : State) (_ _ : Nat) (p : List Byte) : Res :=
  let off := rdN p 4 4
  let n := rdN p 8 2
  if p.length < 12 ∨ p.length ≠ 12 + n then refuse s St.badLength
  else if off % 4 ≠ 0 ∨ n % 4 ≠ 0 ∨ n < 4 ∨ 1280 < n then refuse s St.badParameter
  else
    match s.hostXfer (rdN p 0 2) with
    | none => refuse s St.wrongState
    | some x =>
      if x.length < off + n then refuse s St.badParameter
      else
        let held := (List.range (n / 4)).foldl (fun h k => Tbl.put false h (off / 4 + k) true) x.held
        let t : State := { s with upd := { s.upd with buf := storeAt s.upd.buf off (p.drop 12) } }
        okay (t.setXfer { x with held := held, lastAt := s.el })

def opUpdImageData : Op := opH 0x0D03 1 doUpdImageData
def execUpdImageData (c : Cmd) (s : State) : Host.Outcome State Fault Refusal := .next (s.host c opUpdImageData)

/-- UPD_IMAGE_END (R432). -/
def doUpdImageEnd (s : State) (_ _ : Nat) (p : List Byte) : Res :=
  withLen s 4 p <|
    match s.hostXfer (rdN p 0 2) with
    | none => refuse s St.wrongState
    | some _ => accepted (s.setStage sgVERIFYING 0) []

def opUpdImageEnd : Op := opH 0x0D04 1 doUpdImageEnd
def execUpdImageEnd (c : Cmd) (s : State) : Host.Outcome State Fault Refusal := .next (s.host c opUpdImageEnd)

/-- A transfer of a kind that has had no chunk for 60 s ends with TIMEOUT. -/
def State.xferTimeout (s : State) (chain : Bool) : State :=
  match s.upd.xfer with
  | some x => if s.stage = sgRECEIVING ∧ (x.source != 0) = chain ∧ s.passed x.lastAt (60 * oneSec) then s.transferFail 7 else s
  | none => s

/-- IMAGE_TRANSFER_TIMEOUT (R432). -/
def execImageTransferTimeout (s : State) : Host.Outcome State Fault Refusal := .next (s.xferTimeout false)

/-- RELAY_RECEIVE_TIMEOUT (R438). -/
def execRelayReceiveTimeout (s : State) : Host.Outcome State Fault Refusal := .next (s.xferTimeout true)

/-- What the receiver of a relay answers after its verification (R436, R437). -/
def State.answerRelay (s : State) (x : Transfer) (result : Nat) : State :=
  if x.source = 0 then s
  else if result = 0 then s.ethSend (x.source - 1) (s.imageFrame x.origin 2 x.id 0 (x.length / 1024) [])
  else s.ethSend (x.source - 1) (s.imageFrame x.origin 1 x.id 0 (x.length / 1024) (le 1 2))

/-- IMAGE_VERIFY_DONE (R22, R431, R433, R435): the verification in DRAM, whose clock has been granted, ends; a sound image is written into the spare bank, which
holds no staged image from then on. -/
def execImageVerifyDone (s : State) : Host.Outcome State Fault Refusal :=
  .next <|
    match s.upd.xfer with
    | some x =>
      if s.stage ≠ sgVERIFYING ∨ !s.granted 4 then s
      else
        let r := s.verify x
        let t :=
          if r = 0 then
            let t : State := { s with upd := { s.upd with stagedXfer := none } }
            (t.setBank s.spareBank none).syncBank.setStage sgWRITING 0
          else (s.transferFail r).satInc F.UPD_CNT_VERIFY_FAIL
        let t := t.answerRelay x r
        if r = 0 ∨ r = 5 ∨ r = 6 then t.startRelays x else t
    | none => s

/-- BANK_WRITE_DONE (R433): the image is written and has been verified again from NOR, or that failed. -/
def execBankWriteDone (good : Bool) (s : State) : Host.Outcome State Fault Refusal :=
  .next <|
    match s.upd.xfer with
    | some x =>
      if s.stage ≠ sgWRITING then s
      else if good then
        let t := (s.setBank s.spareBank (some { vintage := imageVintage s.upd.buf, setFmt := rdM s.upd.buf 10 2, staged := true, bytes := s.upd.buf })).syncBank
        let t : State := { t with upd := { t.upd with xfer := none, stagedXfer := some x.id } }
        (t.setStage sgSTAGED 0).imageEvent x 0
      else (s.transferFail 8).satInc F.UPD_CNT_VERIFY_FAIL
    | none => s

/-- UPD_ABORT: UPD_CTL.ABORT ends the transfer, verification or bank write with ABORTED. -/
def State.updAbort (s : State) : State := s.transferFail 10
def execUpdAbort (s : State) : Host.Outcome State Fault Refusal := .next s.updAbort

/-- UPD_CNT_CLR. -/
def State.updCntClr (s : State) : State := s.resetRegs [R.UPD_CNT]
def execUpdCntClr (s : State) : Host.Outcome State Fault Refusal := .next s.updCntClr

/-! ### The receiver and the sender of a relay -/

/-- The chunks that a transfer misses. -/
def Transfer.missing (x : Transfer) : List Nat := (List.range (x.length / 1024)).filter fun i => !(x.held.any fun h => h.1 == i)

/-- Numbers in order as ranges (first, count) of at most 65,535. -/
def rangesOf : List Nat → List (Nat × Nat)
  | [] => []
  | i :: t =>
    match rangesOf t with
    | (f, n) :: rest => if f = i + 1 ∧ n < 65535 then (i, n + 1) :: rest else (i, 1) :: (f, n) :: rest
    | [] => [(i, 1)]

/-- A DATA frame on port `n` (R437). -/
def State.imageData (s : State) (n : Nat) (p : List Byte) : State :=
  let origin := rdN p 2 1
  let id := rdN p 4 2
  let index := rdN p 8 4
  let count := rdN p 12 4
  if p.length ≠ 1040 ∨ count = 0 ∨ 24576 < count ∨ count ≤ index then s
  else
    let into (t : State) (x : Transfer) : State :=
      let u : State := { t with upd := { t.upd with buf := storeAt t.upd.buf (1024 * index) (p.drop 16) } }
      u.setXfer { x with held := Tbl.put false x.held index true, lastAt := s.el, statusAt := s.el }
    let fresh : Transfer := { id := id, source := n + 1, length := 1024 * count, relay := true, origin := origin, lastAt := s.el, statusAt := s.el }
    match s.upd.xfer with
    | some x =>
      if x.id = id ∧ x.source = n + 1 then if s.stage = sgRECEIVING ∧ x.length = 1024 * count then into s x else s
      else s.ethSend n (s.imageFrame origin 1 id 0 count (le 1 1))
    | none =>
      if s.upd.stagedXfer = some id then s.ethSend n (s.imageFrame origin 2 id 0 count [])
      else if s.updBusy then s.ethSend n (s.imageFrame origin 1 id 0 count (le 1 1))
      else into (s.openXfer fresh) fresh

/-- IMAGE_STATUS_SEND (R437): STATUS once every chunk is held, which starts the verification, or after 50 ms without a DATA
frame. -/
def execImageStatusSend (s : State) : Host.Outcome State Fault Refusal :=
  .next <|
    match s.upd.xfer with
    | some x =>
      let miss := x.missing
      if s.stage ≠ sgRECEIVING ∨ x.source = 0 ∨ (!miss.isEmpty ∧ !s.passed x.statusAt (50 * oneMs)) then s
      else
        let ranges := ((rangesOf miss).take 64).map fun r => le 4 r.1 ++ le 2 r.2
        let t := s.ethSend (x.source - 1) (s.imageFrame x.origin 1 x.id 0 (x.length / 1024) (le 1 0 ++ ranges.flatten))
        let t := t.setXfer { x with statusAt := s.el }
        if miss.isEmpty then t.setStage sgVERIFYING 0 else t
    | none => s

/-- The ranges of a STATUS frame. -/
def statusRanges : Nat → List Byte → List (Nat × Nat)
  | 0, _ => []
  | k + 1, p => if p.length < 6 then [] else (rdN p 0 4, rdN p 4 2) :: statusRanges k (p.drop 6)

/-- A STATUS or DONE frame on port `n`, for the relay out of that port (R437). -/
def State.imageStatus (s : State) (n : Nat) (p : List Byte) : State :=
  let r := s.relay n
  if !r.active ∨ rdN p 2 1 ≠ s.upd.relayOf.1 ∨ rdN p 4 2 ≠ s.upd.relayOf.2.1 then s
  else if rdN p 3 1 = 2 then s.relayEnd n 0
  else
    match rdN p 16 1 with
    | 0 =>
      let ranges := statusRanges 64 (p.drop 17)
      let miss := ranges.foldl (fun k x => k + x.2) (0 : Nat)
      let rounds := if miss = 0 ∨ miss < r.missing then 0 else r.rounds + 1
      ranges.foldl (fun t x => t.sendChunks n x.1 x.2) (s.setRelay n { r with rounds := rounds, missing := miss, busySince := none })
    | 1 => s.setRelay n { r with busySince := some (r.busySince.getD s.el), lastTry := if r.busySince.isSome then r.lastTry else s.el }
    | 2 => s.relayEnd n 0
    | _ => s

/-- An IMAGE chain frame of the module's own site. -/
def State.imageIn (s : State) (n : Nat) (p : List Byte) : State :=
  if rdN p 0 2 ≠ s.site ∨ p.length < 16 then s
  else if rdN p 3 1 = 0 then s.imageData n p
  else s.imageStatus n p

/-- RELAY_BUSY_RETRY (R437): every 5 s the sender that was answered BUSY tries again. -/
def execRelayBusyRetry (n : Fin 2) (s : State) : Host.Outcome State Fault Refusal :=
  let i := n.val
  let r := s.relay i
  .next <|
    if r.active && r.busySince.isSome && s.passed r.lastTry (5 * oneSec) then
      ((s.setRelay i { r with lastTry := s.el }).relayEvent i 1).sendChunks i 0 s.upd.relayOf.2.2
    else s

/-- RELAY_FAIL (R438): ten STATUS rounds without a new chunk, or 60 s of BUSY. -/
def execRelayFail (n : Fin 2) (s : State) : Host.Outcome State Fault Refusal :=
  let i := n.val
  let r := s.relay i
  let busy := match r.busySince with
    | some t => s.passed t (60 * oneSec)
    | none => false
  .next (if r.active && (decide (10 ≤ r.rounds) || busy) then (s.satInc F.UPD_CNT_RELAY_FAIL).relayEnd i 2 else s)

/-! ### Decant schedules (R442 to R444) -/

/-- EV_UPD_DECANT and its record (Table 17-2). -/
def State.decantEvent (s : State) (kind reason schedId before after : Nat) : State :=
  let head := le 1 kind ++ le 1 reason ++ le 2 schedId
  (s.raise Ev.updDecant (head ++ le 4 after)).record 0x0D (head ++ le 4 before ++ le 4 after)

/-- SCHED, HOLD and T_D as the schedule stands. -/
def State.setSched (s : State) (x : Option Schedule) : State :=
  let td := (x.map (·.td)).getD 0
  let t : State := { s with upd := { s.upd with sched := x } }
  let t := t.setFld F.UPD_STAT_SCHED (b2n ((x.map (·.held)).getD false))
  let t := if x.isNone then t.setFld F.UPD_STAT_HOLD 0 else t
  (t.setFld F.UPD_TD_LO_TD_LO td).setFld F.UPD_TD_HI_TD_HI (td / 2 ^ 32)

/-- EV_UPD_DECANT of a schedule. -/
def State.schedEvent (s : State) (x : Schedule) (kind reason : Nat) : State :=
  s.decantEvent kind reason x.id (s.fld F.UPD_VINT_ACT_VINTAGE) x.vintage

/-- The schedule ends without a decant. -/
def State.schedEnd (s : State) (kind reason : Nat) : State :=
  match s.upd.sched with
  | some x => (s.setSched none).schedEvent x kind reason
  | none => s

/-- A DECANT frame of this module about a schedule (R442). -/
def State.decantFrame (s : State) (x : Schedule) (action reason : Nat) : List Byte :=
  s.chainFrame ctDECANT (le 2 s.site ++ le 1 x.origin ++ le 1 action ++ le 2 x.id ++ le 1 0 ++ le 1 reason ++ le 8 x.td ++ le 4 x.vintage ++ le 1 s.net ++ zeros 3)

/-- The same bytes on both ports. -/
def State.ethBoth (s : State) (f : List Byte) : State := if s.flag F.ETH_CTL_CHAIN_EN then (s.ethSend 0 f).ethSend 1 f else s

/-- Whether a schedule can still be cancelled: before T_D − 200 ms (R443). -/
def State.cancellable (s : State) (x : Schedule) : Bool := decide (s.now + 200 * oneMs < x.td)

/-- A schedule of this module is cancelled for a reason, and ABORT leaves on both ports (R443). -/
def State.schedAbort (s : State) (reason : Nat) : State :=
  match s.upd.sched with
  | some x => if s.cancellable x then (s.ethBoth (s.decantFrame x 4 reason)).schedEnd 5 reason else s
  | none => s

/-- A neighbour that a schedule counts on is lost (R443). -/
def State.neighbourLost (s : State) (n : Nat) : State :=
  match s.upd.sched with
  | some x => if bit x.nbr n then s.schedAbort 6 else s
  | none => s

/-- The ports that show NBR_OK. -/
def State.nbrMask (s : State) : Nat := b2n (s.flag (F.ETH_P_STAT_NBR_OK 0)) + 2 * b2n (s.flag (F.ETH_P_STAT_NBR_OK 1))

/-- Whether the staged image has the vintage named. -/
def State.stagedIs (s : State) (vintage : Nat) : Bool := s.stage == sgSTAGED && s.fld F.UPD_VINT_STG_VINTAGE == vintage

/-- UPD_DECANT_SCHEDULE (R442). -/
def doUpdDecantSchedule (s : State) (_ _ : Nat) (p : List Byte) : Res :=
  let act := rdN p 0 1
  let chain := rdN p 1 1 = 1
  let td := rdN p 4 8
  let vint := rdN p 12 4
  withLen s 16 p <|
    if 1 < act ∨ 1 < rdN p 1 1 then refuse s St.badParameter
    else if act = 1 then
      match s.upd.sched with
      | some x =>
        if s.cancellable x then accepted ((if x.chain then s.ethBoth (s.decantFrame x 3 0) else s).schedEnd 4 0) (le 2 x.id ++ zeros 2)
        else refuse s St.wrongState
      | none => refuse s St.wrongState
    else if rdN p 2 1 = 0 ∨ 16 < rdN p 2 1 ∨ td < s.now + 5 * oneSec ∨ s.now + 86400 * oneSec < td then refuse s St.badParameter
    else if s.upd.sched.isSome ∨ s.upd.decantAt.isSome ∨ !s.stagedIs vint then refuse s St.wrongState
    else
      let id := s.upd.schedSeq % 65536
      let x : Schedule := { id := id, origin := s.net, chain := chain, expected := rdN p 2 1, td := td, vintage := vint, acceptedAt := s.el, held := !chain, nbr := s.nbrMask }
      let t := ({ s with upd := { s.upd with schedSeq := s.upd.schedSeq + 1 } } : State).setSched (some x)
      let t := if chain then t.ethBoth (t.decantFrame x 0 0) else t.schedEvent x 3 0
      accepted t (le 2 id ++ zeros 2)

def opUpdDecantSchedule : Op := opH 0x0D06 2 doUpdDecantSchedule
def execUpdDecantSchedule (c : Cmd) (s : State) : Host.Outcome State Fault Refusal := .next (s.host c opUpdDecantSchedule)

/-- A DECANT chain frame received on port `n` (R442, R443). -/
def State.decantIn (s : State) (n : Nat) (p : List Byte) : State :=
  let origin := rdN p 2 1
  let action := rdN p 3 1
  let id := rdN p 4 2
  let hops := rdN p 6 1
  let reason := rdN p 7 1
  let td := rdN p 8 8
  let key := (origin, id, action, rdN p 20 1)
  if p.length ≠ 24 ∨ rdN p 0 2 ≠ s.site ∨ s.upd.seen.contains key then s
  else
    let t : State := { s with upd := { s.upd with seen := key :: s.upd.seen } }
    let on (u : State) (bytes : List Byte) : State := u.ethSend (1 - n) (u.chainFrame ctDECANT bytes)
    let hop (u : State) : State := if hops < 15 then on u (p.take 6 ++ le 1 (hops + 1) ++ p.drop 7) else u
    let ends (u : State) (kind : Nat) : State :=
      match u.upd.sched with
      | some x => if x.id = id ∧ x.origin = origin ∧ u.cancellable x then u.schedEnd kind reason else u
      | none => u
    match action with
    | 0 =>
      if origin = s.net then t
      else
        let x : Schedule := { id := id, origin := origin, chain := true, expected := 0, td := td, vintage := rdN p 16 4, acceptedAt := s.el, nbr := s.nbrMask }
        let nak := if !s.stagedIs x.vintage then 1 else if s.upd.sched.isSome ∨ s.upd.decantAt.isSome then 2 else 0
        let t := t.ethSend n (t.decantFrame x (if nak = 0 then 1 else 2) nak)
        hop (if nak = 0 then t.setSched (some x) else t)
    | 1 | 2 =>
      if origin ≠ s.net then on t p
      else
        match t.upd.sched with
        | some x =>
          if x.id ≠ id ∨ x.origin ≠ origin ∨ x.held then t
          else t.setSched (some (if action = 1 then { x with acks := x.acks + 1 } else { x with nak := some (x.nak.getD reason) }))
        | none => t
    | 3 => ends (hop t) 4
    | 4 => if s.now + 200 * oneMs < td then ends (hop t) 5 else t
    | _ => t

/-- DECANT_VOTE_END (R442): 2 s after its acceptance the origin holds the schedule or sends CANCEL; any other module holds the
schedule it has acknowledged. -/
def execDecantVoteEnd (s : State) : Host.Outcome State Fault Refusal :=
  .next <|
    match s.upd.sched with
    | some x =>
      if x.held || !s.passed x.acceptedAt (2 * oneSec) then s
      else if x.origin = s.net ∧ (x.nak.isSome ∨ x.acks < x.expected) then
        (s.ethBoth (s.decantFrame x 3 (x.nak.getD 0))).schedEnd 4 (x.nak.getD 0)
      else (s.setSched (some { x with held := true })).schedEvent x 3 0
    | none => s

/-- The reason for which a module gives up its schedule at T_D − 500 ms (R443); none when all conditions hold. -/
def State.holdRefusal (s : State) (x : Schedule) : Option Nat :=
  if !s.fleetHeld then some 5
  else if s.fld F.TIM_STAT_STATE = 0 then some 3
  else if s.relaying then some 4
  else if x.nbr &&& s.nbrMask ≠ x.nbr then some 6
  else none

/-- DECANT_HOLD_CHECK (R443). -/
def execDecantHoldCheck (s : State) : Host.Outcome State Fault Refusal :=
  .next <|
    match s.upd.sched with
    | some x =>
      if !x.held || s.flag F.UPD_STAT_HOLD || decide (s.now + 500 * oneMs < x.td) then s
      else
        match s.holdRefusal x with
        | some r => s.schedAbort r
        | none => s.setFld F.UPD_STAT_HOLD 1
    | none => s

/-- UPD_DECANT (R439): the decant instant is its acceptance. -/
def doUpdDecant (s : State) (_ _ : Nat) (p : List Byte) : Res :=
  withLen s 4 p <|
    if !s.stagedIs (rdN p 0 4) ∨ s.relaying ∨ s.upd.sched.isSome ∨ s.upd.decantAt.isSome ∨ !s.anyLane then refuse s St.wrongState
    else if !s.fleetHeld then refuse s St.fleetNotStopped
    else accepted { s with upd := { s.upd with decantAt := some s.now } } (le 8 s.now)

def opUpdDecant : Op := opH 0x0D05 2 doUpdDecant
def execUpdDecant (c : Cmd) (s : State) : Host.Outcome State Fault Refusal := .next (s.host c opUpdDecant)

/-- UPD_GET_STATE (R447). -/
def doUpdGetState (s : State) (_ _ : Nat) (p : List Byte) : Res :=
  withLen s 0 p <|
    okWith s (le 1 s.stage ++ le 1 (s.fld F.UPD_STAT_RESULT) ++ le 1 (s.fld F.UPD_STAT_BANK) ++ zeros 1
      ++ le 4 (s.fld F.UPD_VINT_ACT_VINTAGE) ++ le 4 (s.fld F.UPD_VINT_STG_VINTAGE) ++ le 1 (s.fld F.UPD_FLOOR_FLOOR)
      ++ le 1 (s.fld F.UPD_FLOOR_LEFT) ++ le 2 (s.fld F.UPD_FMT_ACTIVE) ++ le 2 (s.fld F.UPD_FMT_STAGED) ++ zeros 2
      ++ le 8 ((s.upd.sched.map (·.td)).getD 0) ++ le 4 (s.fld F.UPD_PROG_BYTES))

def opUpdGetState : Op := opH 0x0D07 0 doUpdGetState
def execUpdGetState (c : Cmd) (s : State) : Host.Outcome State Fault Refusal := .next (s.host c opUpdGetState)

end Sys2Proof.Machine
end

