-- ==== Sys2Proof/Machine/Ethernet.lean ====
section
/-! DEFINITION. The Ethernet block (chapter 12): links, the switch and its transparent clock, pause, the messages of the
site chain, MDIO and configuration. What a received frame does as a whole stands in Switch.lean. -/

namespace Sys2Proof.Machine

/-- What the hub holds of an external port. -/
def State.ep (s : State) (n : Nat) : EthPort := Tbl.get {} s.eth.ports n
def State.setEp (s : State) (n : Nat) (p : EthPort) : State :=
  { s with eth := { s.eth with ports := Tbl.put {} s.eth.ports n p } }

/-! ### Links (R308, R330) and preemption (R312) -/

/-- EV_ETH_LINK (R330). -/
def State.linkEvent (s : State) (n : Nat) : State :=
  s.raise Ev.ethLink (le 1 n ++ le 1 (s.fld (F.ETH_P_STAT_LINK n)) ++ le 1 (s.fld (F.ETH_P_STAT_SPEED_1G n))
    ++ le 1 (s.fld (F.ETH_P_STAT_VERIFY n)))

/-- The link bits of ETH_STAT follow the ports. -/
def State.syncLink (s : State) : State :=
  (s.setFld F.ETH_STAT_P0_LINK (s.fld (F.ETH_P_STAT_LINK 0))).setFld F.ETH_STAT_P1_LINK (s.fld (F.ETH_P_STAT_LINK 1))

/-- A port starts the verify exchange when preemption is enabled on it (R312). -/
def State.startVerify (s : State) (n : Nat) : State :=
  let on := s.flag (F.ETH_P_CFG_PREEMPT n) && s.flag (F.ETH_P_STAT_LINK n)
  (s.setFld (F.ETH_P_STAT_VERIFY n) (b2n on)).setEp n { s.ep n with verifyAt := s.el, verifyN := 0 }

/-- Link delays are measured again after a port gains link and on the exit from Dormant (R317, R330). -/
def State.restartPdelay (s : State) (n : Nat) : State :=
  s.setEp n { s.ep n with pdT1 := none, pdAt := none, pdTwo := none, delays := [] }

/-- An ARP packet of the module for Ethernet and IPv4 (RFC 826): operation, target MAC and IPv4 address. -/
def State.arpPacket (s : State) (op tha tpa : Nat) : List Byte :=
  s.macBytes ++ be 2 0x0806 ++ be 2 1 ++ be 2 0x0800 ++ be 1 6 ++ be 1 4 ++ be 2 op
    ++ s.macBytes ++ be 4 (s.fld F.ETH_IP_ADDR_ADDR) ++ be 6 tha ++ be 4 tpa

/-- The gateway is looked for by ARP on a port (R310): when the port gains link and when port 2 is configured. -/
def State.askGateway (s : State) (n : Nat) : State :=
  if s.fld F.ETH_IP_ADDR_ADDR = 0 ∨ s.fld F.ETH_IP_GW_GW = 0 then s
  else s.ethSend n (be 6 0xFFFFFFFFFFFF ++ s.arpPacket 1 0 (s.fld F.ETH_IP_GW_GW))

/-- ETH_LINK_UP (R308): an enabled port gains link, at the forced speed or the one negotiated. -/
def execEthLinkUp (n : Fin 2) (fast : Bool) (s : State) : Host.Outcome State Fault Refusal :=
  let i := n.val
  .next <|
    if s.flag (F.ETH_P_CFG_EN i) && !s.flag (F.ETH_P_STAT_LINK i) && s.pwr.hubReady && s.pwr.state != .dormant then
      let speed := match s.fld (F.ETH_P_CFG_SPEED i) with
        | 1 => 1
        | 2 => 0
        | _ => b2n fast
      let t := (s.setFld (F.ETH_P_STAT_LINK i) 1).setFld (F.ETH_P_STAT_EQ_LOCK i) 1
      ((((t.setFld (F.ETH_P_STAT_SPEED_1G i) speed).startVerify i).restartPdelay i).syncLink.linkEvent i).askGateway i
    else s

/-- A port has no link any more (R330); a relay out of it ends (Table 16-16). -/
def State.linkDown (s : State) (n : Nat) : State :=
  if s.flag (F.ETH_P_STAT_LINK n) then
    let t := (s.setFld (F.ETH_P_STAT_LINK n) 0).setFld (F.ETH_P_STAT_EQ_LOCK n) 0
    (((t.setFld (F.ETH_P_STAT_SPEED_1G n) 0).setFld (F.ETH_P_STAT_VERIFY n) 0).syncLink.linkEvent n).relayLost n
  else s

/-- ETH_LINK_DOWN (R330). -/
def execEthLinkDown (n : Fin 2) (s : State) : Host.Outcome State Fault Refusal := .next (s.linkDown n.val)

/-- PREEMPT_VERIFY (R312): an attempt is answered, or ends after 10 ms; after the third the verify has failed. -/
def execPreemptVerify (n : Fin 2) (answered : Bool) (s : State) : Host.Outcome State Fault Refusal :=
  let i := n.val
  let p := s.ep i
  .next <|
    if s.fld (F.ETH_P_STAT_VERIFY i) ≠ 1 then s
    else if answered then s.setFld (F.ETH_P_STAT_VERIFY i) 2
    else if !s.passed p.verifyAt (10 * oneMs) then s
    else if 2 ≤ p.verifyN then s.setFld (F.ETH_P_STAT_VERIFY i) 3
    else s.setEp i { p with verifyAt := s.el, verifyN := p.verifyN + 1 }

/-! ### The address table (R311) -/

/-- ETH_STAT.LEARNED follows the table. -/
def State.setTable (s : State) (t : List Learned) : State :=
  ({ s with eth := { s.eth with table := t } } : State).setFld F.ETH_STAT_LEARNED t.length

/-- The MAC addresses of a frame. -/
def frameDA (f : List Byte) : Nat := beNat (f.take 6)
def frameSA (f : List Byte) : Nat := beNat ((f.drop 6).take 6)

/-- EtherType of an untagged frame. -/
def etherType (f : List Byte) : Nat := beNat ((f.drop 12).take 2)

/-- Whether an address is a group address. -/
def isGroup (mac : Nat) : Bool := bit mac 40

/-- The source address of a frame is learned; a full table of 1,024 takes no new one. -/
def State.learn (s : State) (n mac : Nat) : State :=
  if isGroup mac then s
  else
    let rest := s.eth.table.filter fun l => l.mac != mac
    if 1024 ≤ rest.length then s else s.setTable (⟨mac, n, s.el⟩ :: rest)

/-- ADDRESS_AGE_OUT (R311): 300 s after its last frame an address leaves the table. -/
def execAddressAgeOut (mac : Nat) (s : State) : Host.Outcome State Fault Refusal :=
  .next <|
    if s.eth.table.any fun l => l.mac == mac && s.passed l.at_ (300 * oneSec) then
      s.setTable (s.eth.table.filter fun l => l.mac != mac)
    else s

/-! ### Pause (R313, R314) -/

/-- The time pause has been honoured in the 1,000 ms before now, in ns. -/
def State.pauseSum (s : State) (n : Nat) : Nat :=
  (s.ep n).pauses.foldl (fun t p => t + (min p.2 s.el - max p.1 (s.el - oneSec))) (0 : Nat)

/-- ETH_Pn_PAUSE.SUM as it stands now. -/
def State.syncPause (s : State) (n : Nat) : State :=
  s.setFld (F.ETH_P_PAUSE_SUM n) (min 1000 (s.pauseSum n / oneMs))

/-- A pause frame (IEEE 802.3x): its quanta. -/
def pauseQuanta (f : List Byte) : Option Nat :=
  if frameDA f = 0x0180C2000001 ∧ etherType f = 0x8808 ∧ beNat ((f.drop 14).take 2) = 1 then some (beNat ((f.drop 16).take 2))
  else none

/-- One pause quantum, 512 bit times, in ns. -/
def State.quantum (s : State) (n : Nat) : Nat := if s.flag (F.ETH_P_STAT_SPEED_1G n) then 512 else 5120

/-- A received pause frame is honoured while PAUSE_RX is set and pause is not ignored (R313, R314). -/
def State.pauseIn (s : State) (n quanta : Nat) : State :=
  if s.flag (F.ETH_P_CFG_PAUSE_RX n) && !s.flag (F.ETH_P_STAT_PAUSE_IGN n) then
    let p := s.ep n
    let kept := (p.pauses.filter fun q => s.el < q.2 + oneSec).map fun q => (q.1, min q.2 s.el)
    (s.setEp n { p with pauses := (s.el, s.el + quanta * s.quantum n) :: kept }).syncPause n
  else s

/-- A pause frame of the module. -/
def State.pauseOut (s : State) (n quanta : Nat) : State :=
  if s.flag (F.ETH_P_CFG_PAUSE_TX n) then
    s.ethSend n (be 6 0x0180C2000001 ++ s.macBytes ++ be 2 0x8808 ++ be 2 1 ++ be 2 quanta)
  else s

/-- PAUSE_WATCHDOG (R314): the sum reaches PAUSE_MAX. -/
def execPauseWatchdog (n : Fin 2) (s : State) : Host.Outcome State Fault Refusal :=
  let i := n.val
  .next <|
    if !s.flag (F.ETH_P_STAT_PAUSE_IGN i) && clampN 10 1000 (s.fld F.ETH_CTL_PAUSE_MAX) * oneMs ≤ s.pauseSum i then
      let p := s.ep i
      let t := s.setEp i { p with ignAt := s.el, pauses := p.pauses.map fun q => (q.1, min q.2 s.el) }
      let t := ((t.syncPause i).setFld (F.ETH_P_STAT_PAUSE_IGN i) 1).satInc (F.ETH_P_CNT0_PAUSE_WD i)
      t.raise Ev.ethPause (le 1 i ++ le 1 (t.fld (F.ETH_P_CNT0_PAUSE_WD i)))
    else s

/-- PAUSE_IGNORE_END (R314): after 100 ms the sum restarts and pause is honoured again. -/
def execPauseIgnoreEnd (n : Fin 2) (s : State) : Host.Outcome State Fault Refusal :=
  let i := n.val
  .next <|
    if s.flag (F.ETH_P_STAT_PAUSE_IGN i) && s.passed (s.ep i).ignAt (100 * oneMs) then
      ((s.setEp i { s.ep i with pauses := [] }).setFld (F.ETH_P_STAT_PAUSE_IGN i) 0).syncPause i
    else s

/-! ### The transparent clock (R315 to R318) -/

/-- `f` with the bytes from offset `o` replaced. -/
def setBytes (f : List Byte) (o : Nat) (bs : List Byte) : List Byte := f.take o ++ bs ++ f.drop (o + bs.length)

/-- Where the PTP message of an untagged frame stands, and its transport: 0 Annex E, 1 UDP/IPv4 (Annex C). -/
def ptpAt (f : List Byte) : Option (Nat × Nat) :=
  let ihl := rdN f 14 1 % 16 * 4
  let dport := beNat ((f.drop (14 + ihl + 2)).take 2)
  if etherType f = 0x88F7 then some (0, 14)
  else if etherType f = 0x0800 ∧ rdN f 14 1 / 16 = 4 ∧ rdN f 23 1 = 17 ∧ (dport = 319 ∨ dport = 320) then some (1, 14 + ihl + 8)
  else none

/-- A PTP event message of another transport: UDP/IPv6 port 319. -/
def ptpOther (f : List Byte) : Bool :=
  etherType f == 0x86DD && rdN f 20 1 == 17 && beNat ((f.drop 56).take 2) == 319

/-- messageType of the PTP message at an offset. -/
def ptpType (f : List Byte) (o : Nat) : Nat := rdN f o 1 % 16

def ptSYNC : Nat := 0
def ptDELAY_REQ : Nat := 1
def ptPDELAY_REQ : Nat := 2
def ptPDELAY_RESP : Nat := 3
def ptFOLLOW_UP : Nat := 8
def ptDELAY_RESP : Nat := 9
def ptPDELAY_FOLLOW : Nat := 10
def ptANNOUNCE : Nat := 11

/-- A sum of 16-bit words folded to one's complement. -/
def fold16 (x : Nat) : Nat := if x = 0 then 0 else (x - 1) % 65535 + 1

/-- The sum of the big-endian 16-bit words of a span. -/
def sum16 : List Byte → Nat
  | a :: b :: t => a.toNat * 256 + b.toNat + sum16 t
  | [a] => a.toNat * 256
  | [] => 0

/-- The sum of the complements of those words. -/
def sum16not (bs : List Byte) : Nat := sum16 (bs.map fun b => ~~~b)

/-- A UDP checksum updated for a span that changes (R315): 0 stays 0. -/
def checksumFor (old : Nat) (before after : List Byte) : Nat :=
  if old = 0 then 0
  else
    let c := 65535 - fold16 (65535 - old + sum16not before + sum16 after)
    if c = 0 then 65535 else c

/-- A time in ps in units of 2^-16 ns, rounded to the nearest unit (R316). -/
def ps16 (ps : Int) : Int := (ps * 131072 + 1000) / 2000

/-- correctionField of a PTP message, in 2^-16 ns. -/
def ptpCorr (f : List Byte) (o : Nat) : Int := signed 64 (beNat ((f.drop (o + 8)).take 8))

/-- A frame with `units` added to its correctionField; a non-zero UDP checksum follows (R315). -/
def addCorr (f : List Byte) (transport o : Nat) (units : Int) : List Byte :=
  let before := (f.drop (o + 8)).take 8
  let after := be 8 (twos 64 (ptpCorr f o + units))
  let g := setBytes f (o + 8) after
  if transport = 1 then setBytes g (o - 2) (be 2 (checksumFor (beNat ((f.drop (o - 2)).take 2)) before after)) else g

/-- Compensated wire times in ps (R316). -/
def State.ingressPs (s : State) (n stamp : Nat) : Int := (stamp : Int) - signed 32 (s.fld (F.ETH_P_ING_ING n))
def State.egressPs (s : State) (n stamp : Nat) : Int := (stamp : Int) + signed 32 (s.fld (F.ETH_P_EG_EG n))

/-- Whether the clock works in P2P mode. -/
def State.p2p (s : State) : Bool := s.flag F.ETH_PTP_CTL_TC_MODE

/-- A frame in transit from port `n` as it leaves the other port (R315, R317): the state with its counters, and the bytes. -/
def State.tcFrame (s : State) (n : Nat) (x : EthIn) : State × List Byte :=
  if !s.flag F.ETH_PTP_CTL_TC_EN then (s, x.bytes)
  else
    match ptpAt x.bytes with
    | some (tr, o) =>
      if 4 ≤ ptpType x.bytes o then (s, x.bytes)
      else
        let residence := ps16 (s.egressPs (1 - n) x.tx - s.ingressPs n x.rx)
        if s.p2p && ptpType x.bytes o == ptSYNC then
          if (s.ep n).delays.isEmpty then (s.satInc (F.ETH_P_CNT0_TC_NOCORR n), addCorr x.bytes tr o residence)
          else (s, addCorr x.bytes tr o (residence + (s.fld (F.ETH_P_LDELAY_LDELAY n) * 65536 : Nat)))
        else (s, addCorr x.bytes tr o residence)
    | none => if ptpOther x.bytes then (s.satInc (F.ETH_P_CNT0_TC_NOCORR n), x.bytes) else (s, x.bytes)

/-- A frame goes on to the other external port; one that finds no room there is counted in DROP (R311). -/
def State.transit (s : State) (n : Nat) (x : EthIn) : State :=
  if !s.ethUp (1 - n) then s
  else if !x.room then s.satInc (F.ETH_P_CNT0_DROP (1 - n))
  else
    let (t, bytes) := s.tcFrame n x
    t.ethSend (1 - n) bytes

/-! ### The module's own address (R310) -/

/-- The module's IPv4 address, first octet in bits [31:24]. -/
def State.ip (s : State) : Nat := s.fld F.ETH_IP_ADDR_ADDR

/-- The module's MAC address as one number. -/
def State.mac (s : State) : Nat := beNat s.macBytes

/-- An IPv4 header without options (RFC 791), with its checksum. -/
def ipHeader (src dst proto ttl len : Nat) : List Byte :=
  let head (c : Nat) := be 1 0x45 ++ be 1 0 ++ be 2 (20 + len) ++ be 4 0 ++ be 1 ttl ++ be 1 proto ++ be 2 c ++ be 4 src ++ be 4 dst
  head (65535 - fold16 (sum16 (head 0)))

/-- An ARP packet for the module's address: a request is answered, and the gateway's reply gives its MAC address (R310). -/
def State.arpIn (s : State) (n : Nat) (f : List Byte) : State :=
  let sha := beNat ((f.drop 22).take 6)
  let spa := beNat ((f.drop 28).take 4)
  if s.ip = 0 ∨ (f.drop 14).take 6 ≠ be 2 1 ++ be 2 0x0800 ++ be 1 6 ++ be 1 4 ∨ beNat ((f.drop 38).take 4) ≠ s.ip then s
  else
    match beNat ((f.drop 20).take 2) with
    | 1 => s.ethSend n (be 6 sha ++ s.arpPacket 2 sha spa)
    | 2 => if spa = s.fld F.ETH_IP_GW_GW then { s with eth := { s.eth with gateway := some sha } } else s
    | _ => s

/-- Whether a frame is an IPv4 packet to the module's address, and its protocol and payload. -/
def State.ipFor (s : State) (f : List Byte) : Option (Nat × List Byte) :=
  let ihl := rdN f 14 1 % 16 * 4
  let len := beNat ((f.drop 16).take 2)
  if etherType f = 0x0800 ∧ rdN f 14 1 / 16 = 4 ∧ 20 ≤ ihl ∧ ihl ≤ len ∧ 14 + len ≤ f.length ∧ s.ip ≠ 0 ∧ beNat ((f.drop 30).take 4) = s.ip
  then some (rdN f 23 1, (f.drop (14 + ihl)).take (len - ihl))
  else none

/-- An ICMP echo request is answered (RFC 792). -/
def State.icmpIn (s : State) (n : Nat) (f p : List Byte) : State :=
  if rdN p 0 1 = 8 ∧ rdN p 1 1 = 0 then
    let body (c : Nat) := be 1 0 ++ be 1 0 ++ be 2 c ++ p.drop 4
    let answer := body (65535 - fold16 (sum16 (body 0)))
    s.ethSend n ((f.drop 6).take 6 ++ s.macBytes ++ be 2 0x0800 ++ ipHeader s.ip (beNat ((f.drop 26).take 4)) 1 64 answer.length ++ answer)
  else s

/-! ### The site chain (R322 to R327) -/

/-- EV_ETH_CHAIN. -/
def State.chainEvent (s : State) (n cause : Nat) : State :=
  s.raise Ev.ethChain (le 1 n ++ le 1 cause ++ le 1 (s.fld (F.ETH_P_STAT_NBR_NET n)))

/-- A duplicate NET has been seen (R325, R327). -/
def State.dupNet (s : State) (n : Nat) : State :=
  if s.flag F.ETH_STAT_DUP_NET then s else (s.setFld F.ETH_STAT_DUP_NET 1).chainEvent n 2

/-- HELLO_SEND (R325). -/
def execHelloSend (n : Fin 2) (s : State) : Host.Outcome State Fault Refusal :=
  let i := n.val
  let due := match (s.ep i).helloSent with
    | some t => s.passed t (100 * oneMs)
    | none => true
  .next <|
    if s.ethUp i && due && s.flag F.ETH_CTL_CHAIN_EN then
      let f := s.chainFrame ctHELLO (le 2 s.site ++ le 1 s.net ++ le 1 i ++ le 2 (s.fld F.SYS_ID_TYPE_ID) ++ zeros 2)
      (s.setEp i { s.ep i with helloSent := some s.el }).ethSend i f
    else s

/-- A HELLO (R325). -/
def State.helloIn (s : State) (n : Nat) (p : List Byte) : State :=
  if p.length ≠ 8 then s
  else
    let net := rdN p 2 1
    let new := !s.flag (F.ETH_P_STAT_NBR_OK n) || s.fld (F.ETH_P_STAT_NBR_NET n) != net
    let t := s.setEp n { s.ep n with helloAt := s.el, helloType := rdN p 4 2 }
    let t := (t.setFld (F.ETH_P_STAT_NBR_NET n) net).setFld (F.ETH_P_STAT_NBR_OK n) 1
    let t := if new then t.chainEvent n 0 else t
    if net = s.net then t.dupNet n else t

/-- NEIGHBOUR_TIMEOUT (R325, R443): 350 ms without a HELLO. -/
def execNeighbourTimeout (n : Fin 2) (s : State) : Host.Outcome State Fault Refusal :=
  let i := n.val
  .next <|
    if s.flag (F.ETH_P_STAT_NBR_OK i) && s.passed (s.ep i).helloAt (350 * oneMs) then
      ((s.setFld (F.ETH_P_STAT_NBR_OK i) 0).chainEvent i 1).neighbourLost i
    else s

/-- The module's own entry of a discovery: NET, a byte, TYPE_ID, vintage and UNIT_ID. -/
def State.ownEntry (s : State) (second : Nat) : List Byte :=
  le 1 s.net ++ le 1 second ++ le 2 (s.fld F.SYS_ID_TYPE_ID) ++ le 4 (s.fld F.UPD_VINT_ACT_VINTAGE) ++ le 8 s.fuses.unitId

/-- A DISCOVER is answered on its port and, unless HOPS has reached 15, goes on by the other (R327). -/
def State.discoverIn (s : State) (n : Nat) (p : List Byte) : State :=
  if p.length ≠ 8 then s
  else
    let hops := rdN p 3 1
    let head := p.take 3 ++ le 1 (hops + 1)
    let t := s.ethSend n (s.chainFrame ctREPLY (head ++ (p.drop 4).take 2 ++ s.ownEntry 0))
    if hops < 15 then t.ethSend (1 - n) (t.chainFrame ctDISCOVER (head ++ p.drop 4)) else t

/-- A DISCOVER_REPLY goes on unchanged, or is collected by its origin (R327). -/
def State.discoverReplyIn (s : State) (n : Nat) (p : List Byte) : State :=
  if p.length ≠ 22 then s
  else if rdN p 2 1 ≠ s.net then s.ethSend (1 - n) (s.chainFrame ctREPLY p)
  else
    let hops := rdN p 3 1
    let pos : Int := if n = 0 then -(hops : Int) else hops
    let entry := (p.drop 6).take 1 ++ leI 1 pos ++ p.drop 8
    let add (d : Discovery) : Discovery :=
      if d.reqId = rdN p 4 2 ∧ d.entries.length < 15 then { d with entries := d.entries ++ [entry] } else d
    { s with eth := { s.eth with disc := s.eth.disc.map add } }

/-- CHAIN_DISCOVER (R327, Table 12-6): a DISCOVER on each port with link; the reply follows. -/
def doChainDiscover (s : State) (sid seq : Nat) (p : List Byte) : Res :=
  withLen s 4 p <|
    let f := s.chainFrame ctDISCOVER (le 2 s.site ++ le 1 s.net ++ le 1 0 ++ p.take 2 ++ zeros 2)
    let t := if s.flag F.ETH_CTL_CHAIN_EN then (s.ethSend 0 f).ethSend 1 f else s
    ({ t with eth := { t.eth with disc := t.eth.disc ++ [⟨sid, seq, rdN p 0 2, t.el, []⟩] } }, none)

def opChainDiscover : Op := opH 0x0A05 0 doChainDiscover
def execChainDiscover (c : Cmd) (s : State) : Host.Outcome State Fault Refusal := .next (s.host c opChainDiscover)

/-- Whether a list holds a value twice. -/
def hasTwin : List Nat → Bool
  | [] => false
  | a :: t => t.contains a || hasTwin t

/-- The collection of a discovery ends (R327): after 10 ms the module replies with itself first and each module found. -/
def State.discoverCollectEnd (s : State) : State :=
  match s.eth.disc with
  | [] => s
  | d :: rest =>
    if s.passed d.at_ (10 * oneMs) then
      let entries := s.ownEntry 0 :: d.entries
      let t : State := { s with eth := { s.eth with disc := rest } }
      let t := t.setFld F.ETH_STAT_CHAIN_N (entries.length - 1)
      let t := if hasTwin (entries.map fun e => rdN e 0 1) then (t.setFld F.ETH_STAT_DUP_NET 1).chainEvent 0 2 else t
      t.finish d.sid d.seq 0x0A05 none ⟨St.ok, le 1 entries.length ++ le 1 (t.fld F.ETH_STAT_DUP_NET) ++ zeros 2 ++ entries.flatten⟩
    else s

/-! ### MDIO (R309) and the counters -/

/-- A write to ETH_MDIO: ignored while GO reads 1; GO starts a transaction. -/
def State.mdioWrite (s : State) (v : Word) : State :=
  if s.flag F.ETH_MDIO_GO then s
  else
    let t := s.setReg R.ETH_MDIO (v &&& 0xC3FFFFFF)
    if t.flag F.ETH_MDIO_GO then
      t.emit (.mdio (t.fld F.ETH_MDIO_PHYAD) (t.fld F.ETH_MDIO_REGAD) (t.flag F.ETH_MDIO_READ) (t.fld F.ETH_MDIO_DATA))
    else t

/-- MDIO_GO (R309): a write to ETH_MDIO with GO set. -/
def execMdioGo (value : Word) (s : State) : Host.Outcome State Fault Refusal := .next (s.mdioWrite (value ||| 0x80000000))

/-- MDIO_DONE (R309): GO clears, and a read leaves its result in DATA. -/
def execMdioDone (data : BitVec 16) (s : State) : Host.Outcome State Fault Refusal :=
  .next <|
    if s.flag F.ETH_MDIO_GO then
      let t := s.setFld F.ETH_MDIO_GO 0
      if t.flag F.ETH_MDIO_READ then t.setFld F.ETH_MDIO_DATA data.toNat else t
    else s

/-- CNT_CLR clears every ETH_Pn_CNT0 and ETH_Pn_CNT1. -/
def State.ethCntClr (s : State) : State := s.resetRegs [R.ETH_P_CNT0 0, R.ETH_P_CNT1 0, R.ETH_P_CNT0 1, R.ETH_P_CNT1 1]

/-- ETH_CNT_CLR (Table 12-7). -/
def execEthCntClr (s : State) : Host.Outcome State Fault Refusal := .next s.ethCntClr

/-! ### Configuration (R331) -/

/-- ETH_PORT_CONFIG of an external port (Table 12-6). A port disabled loses its link (R330). -/
def State.portConfig (s : State) (n : Nat) (p : List Byte) : State :=
  let flags := rdN p 1 1
  let was := s.flag (F.ETH_P_CFG_PREEMPT n)
  let t := (s.setFld (F.ETH_P_CFG_EN n) flags).setFld (F.ETH_P_CFG_PREEMPT n) (flags / 2)
  let t := (t.setFld (F.ETH_P_CFG_PAUSE_RX n) (flags / 4)).setFld (F.ETH_P_CFG_PAUSE_TX n) (flags / 8)
  let t := (t.setFld (F.ETH_P_CFG_SPEED n) (rdN p 2 1)).setReg (R.ETH_P_ING n) (BitVec.ofNat 32 (rdN p 4 4))
  let t := t.setReg (R.ETH_P_EG n) (BitVec.ofNat 32 (rdN p 8 4))
  let t := if t.flag (F.ETH_P_CFG_PREEMPT n) = was then t else t.startVerify n
  let t := if t.flag (F.ETH_P_CFG_EN n) then t else t.linkDown n
  t.saveRegs [R.ETH_P_CFG n, R.ETH_P_ING n, R.ETH_P_EG n]

/-- ETH_PORT_CONFIG (R331). -/
def doEthPortConfig (s : State) (_ _ : Nat) (p : List Byte) : Res :=
  let port := rdN p 0 1
  if p.length = 12 ∧ port ≠ 2 then
    if 2 < port ∨ 2 < rdN p 2 1 then refuse s St.badParameter
    else
      let t := s.portConfig port p
      okWith t (le 1 (t.fld (F.ETH_P_STAT_LINK port)) ++ le 1 (t.fld (F.ETH_P_STAT_SPEED_1G port)) ++ le 1 (t.fld (F.ETH_P_STAT_VERIFY port)) ++ zeros 1)
  else if p.length = 16 ∧ 2 ≤ port then
    let prefixLen := rdN p 8 1
    if 2 < port ∨ 30 < prefixLen ∨ (prefixLen ≠ 0 ∧ prefixLen < 8) then refuse s St.badParameter
    else
      let t := (s.setFld F.ETH_IP_ADDR_ADDR (rdN p 4 4)).setFld F.ETH_IP_NET_PREFIX prefixLen
      let t := (t.setFld F.ETH_IP_GW_GW (rdN p 12 4)).saveRegs [R.ETH_IP_ADDR, R.ETH_IP_NET, R.ETH_IP_GW]
      okay ((({ t with eth := { t.eth with gateway := none } } : State).askGateway 0).askGateway 1)
  else refuse s St.badLength

def opEthPortConfig : Op := opH 0x0A00 1 doEthPortConfig
def execEthPortConfig (c : Cmd) (s : State) : Host.Outcome State Fault Refusal := .next (s.host c opEthPortConfig)

end Sys2Proof.Machine
end

