-- ==== Sys2Proof/Machine/EngineReset.lean ====
section
/-! DEFINITION. RESET_ENGINE (R395, R396, Table 15-8): the reset of one engine. -/

namespace Sys2Proof.Machine

/-- An engine that RESET_ENGINE may name: known, and not the time engine, the key store or the module power arbiter. -/
def resettable (id : Nat) : Bool := [0, 1, 3, 4, 5, 7, 0x10, 0x11, 0x12, 0x13, 0x14].contains id

/-- The queues towards an engine (Table 15-1): a queue shared by several engines of a lane gives up the packets that name it. -/
def queuesTo (id : Nat) : List Nat :=
  if 0x10 ≤ id then [0, 1, 2, 3, 4, 5, 6, 7]
  else
    match id with
    | 1 => [26]
    | 3 => [35, 36]
    | 4 => [8, 12, 20, 21, 22, 23, 27]
    | 7 => [37]
    | _ => []

/-- Requests outstanding at an engine, which its reset ends with ENGINE_RESTARTED: discoveries at the switch, route requests at
the signal box, re-route requests at allotment, and at the timetabler the authorities it has not yet profiled. -/
def State.outstanding (s : State) (id : Nat) : Nat :=
  match id with
  | 0x03 => s.eth.disc.length
  | 0x11 => s.sbx.reqs.length
  | 0x12 => s.alt.reroute.length
  | 0x13 => (s.ttb.jobs.filter fun j => j.profiled && j.planned.isNone).length
  | _ => 0

/-- The signal box loses routes, waits, holds and RELEASING states (Table 7-6). -/
def SbxRover.restart (r : SbxRover) : SbxRover :=
  { r with route := [], routeEnd := 0, waitOn := none, waitSince := 0, reason := 0, stopAt := none, tent := none, withdraws := [], releasing := [], noneHold := false, occ := [] }

/-- What a reset ends and clears of one engine's own state, as its chapter states (Table 18-4 note i). -/
def State.engineCleared (s : State) (id : Nat) : State :=
  match id with
  | 0x01 => ({ s with snp := { s.snp with solving := none } } : State).syncSnp
  | 0x03 =>
    let ds := s.eth.disc
    let t : State := { s with eth := { s.eth with disc := [] } }
    ds.foldl (fun t d => t.finish d.sid d.seq 0x0A05 none ⟨St.engineRestarted, []⟩) t
  | 0x05 => if s.mtr.running then s.meterStop.meterResume else s
  | 0x07 => { s with cbk := { s.cbk with q := [] } }
  | 0x10 => { s with rtk := { s.rtk with waiting := [] } }
  | 0x11 =>
    let rovers := s.sbx.rovers.foldl (fun t p => Tbl.put {} t p.1 p.2.restart) []
    ({ s with sbx := { s.sbx with rovers := rovers, reqs := [] } } : State).syncSbx
  | 0x12 =>
    let t : State := { s with alt := { s.alt with round := none, reroute := [] } }
    (t.boundSlots.foldl State.endProposal t).syncAlt
  | 0x13 =>
    let lost := s.ttb.jobs.filter fun j => j.profiled && j.planned.isNone
    let t := lost.foldl State.neverCommitted s
    ({ t with ttb := { t.ttb with jobs := t.ttb.jobs.filter fun j => !(j.profiled && j.planned.isNone) } } : State).syncTtb
  | _ => s

/-- The reset of an engine, in the order of R396. -/
def State.engineReset (s : State) (id : Nat) : State :=
  let n := s.outstanding id
  let t := s.genUp (genKey id)
  let t := (queuesTo id).foldl (fun t q => t.flushQueue q fun p => decide (id < 0x10) || p.engine == id) t
  let t := (seqKeys id).foldl State.seqRestart (t.engineCleared id)
  t.raise Ev.sysEngine (le 1 id ++ le 1 (if 0x10 ≤ id then 1 else 0) ++ le 1 (t.genOf (genKey id)) ++ [0] ++ le 2 n)

/-- RESET_ENGINE (Table 15-8): a lane engine is reset in both lanes as one input, and engine 0x03 once the reply has left. -/
def doResetEngine (s : State) (_ _ : Nat) (p : List Byte) : Res :=
  withLen s 4 p <|
    let id := rdN p 0 1
    if !resettable id then refuse s St.badParameter
    else if (id = 4 ∨ 0x10 ≤ id) ∧ !s.fleetHeld then refuse s St.fleetNotStopped
    else
      let gen := (s.genOf (genKey id) + 1) % 256
      let t : State := if id = 3 then { s with svb := { s.svb with switchReset := true } } else s.engineReset id
      okWith t (le 1 gen ++ le 2 (s.outstanding id) ++ [0])

/-- The reset of the switch follows the reply. -/
def State.switchResetDue (s : State) : State :=
  if s.svb.switchReset then ({ s with svb := { s.svb with switchReset := false } } : State).engineReset 3 else s

def opResetEngine : Op :=
  { code := 0x010B, rights := 1, lane := fun p => decide (0x10 ≤ rdN p 0 1), run := doResetEngine, post := fun _ s => s.switchResetDue }
def execResetEngine (c : Cmd) (s : State) : Host.Outcome State Fault Refusal := .next (s.host c opResetEngine)

end Sys2Proof.Machine
end

