-- ==== Sys2Proof/Machine/FrontEnd.lean ====
section
/-! DEFINITION. The metering front end (R334, R336, R337): from a channel's modulator bits to its calibrated sample, and the two quantities
of R339. -/

namespace Sys2Proof.Machine

/-- The modulator clock that CLK_SEL sets, Hz, and the decimation ratio OSR: that clock divided by 8 kHz (R334). -/
def State.modClock (s : State) : Nat := [20000000, 16000000, 10000000, 8000000, 5000000].getD (s.fld F.MTR_CTL_CLK_SEL) 20000000
def State.osr (s : State) : Nat := s.modClock / 8000

/-- The metering engine keeps its clock request in Run and Doze while either point is enabled (R334); without it nothing is sampled. -/
def State.meterClock (s : State) : Bool :=
  s.pwr.hubReady && (s.pwr.state == .run || s.pwr.state == .doze || s.pwr.state == .entering) && (s.mtrOn 0 || s.mtrOn 1)

/-- The registers of the decimator hold numbers modulo 2^36, above the cube of the largest OSR. -/
def cicMod : Nat := 2 ^ 36

/-- One modulator bit passes the three integrators; the clocks since the input's last transition are counted (R337). -/
def MtrChan.clock (c : MtrChan) (b : Bool) : MtrChan :=
  let i1 := (c.i1 + b2n b) % cicMod
  let i2 := (c.i2 + i1) % cicMod
  let i3 := (c.i3 + i2) % cicMod
  { c with i1 := i1, i2 := i2, i3 := i3, last := b, idle := if b == c.last then c.idle + 1 else 0 }

/-- The three differences of a sample, which end the sinc3 decimator: of OSR^3 where the stream was all ones (R336 stage 1). -/
def MtrChan.comb (c : MtrChan) : Nat × MtrChan :=
  let d1 := (c.i3 + cicMod - c.z1) % cicMod
  let d2 := (d1 + cicMod - c.z2) % cicMod
  ((d2 + cicMod - c.z3) % cicMod, { c with z1 := c.i3, z2 := d1, z3 := d2 })

/-- The pole of the high-pass filter with its corner at 0.5 Hz, (1 − k) / (1 + k) with k the tangent of π × 0.5 / 8000, in 2^-40. -/
def hpPole : Int := 1099079935327

/-- The high-pass filter (R336 stage 2), in 2^-40 of full scale. -/
def MtrChan.highPass (c : MtrChan) (x : Int) : Int × MtrChan :=
  let y := roundDiv ((hpPole + 2 ^ 40) * (x - c.x1) + 2 * hpPole * c.y1) (2 ^ 41)
  (y, { c with x1 := x, y1 := y })

/-- The delay of MTR_CALP.DELAY beyond eight samples (R336 stage 3): of whole samples exactly; what a fraction of one gives is a free
value. `y` is the newest of the filtered samples. -/
def delayed (delay : Int) (y : List Int) : Int :=
  let d := (8 * 4096 + delay).toNat
  if d % 4096 = 0 then y.getD (d / 4096) 0 else Config.fractionalDelay (d % 4096) (y.drop (d / 4096))

/-- A channel is saturated, or has no data (R337). -/
def MtrChan.saturated (c : MtrChan) : Bool := decide (4 ≤ c.sat)
def MtrChan.noData (c : MtrChan) : Bool := decide (1024 ≤ c.idle)

/-- A sample of a channel, at elapsed time `el`: the bits of its stream since the sample before, the first one least significant, pass
the stages of R336 but the scaling. With no data it reads 0. -/
def MtrChan.sample (c : MtrChan) (osr : Nat) (delay : Int) (el bits : Nat) : MtrChan :=
  let (d, c) := ((List.range osr).foldl (fun c i => c.clock (bits.testBit i)) c).comb
  let full : Int := (osr ^ 3 : Nat)
  let v : Int := 2 * (d : Int) - full
  let (y, c) := c.highPass (roundDiv (v * 2 ^ 40) (osr ^ 3))
  let c := { c with sat := if decide (98 * full ≤ 100 * v.natAbs) then c.sat + 1 else 0, y := (roundDiv y (2 ^ 17) :: c.y).take 17 }
  let out := if c.noData then 0 else delayed delay c.y
  { c with out := (out :: c.out).take 64, badAt := if c.saturated || c.noData then el else c.badAt }

/-- A channel of a point. -/
def MtrPoint.channel (m : MtrPoint) (ch : Nat) : MtrChan := Tbl.get {} m.channels ch

/-- MTR_CALP.DELAY of a channel of a point, in 2^-12 sample. -/
def State.calDelay (s : State) (p ch : Nat) : Int := (BitVec.ofNat 16 (s.fld (F.MTR_CALP_DELAY (7 * p + ch)))).toInt

/-- The channels that a point uses: all seven, or with WIREn = 1 only Va, Ia and In (R335). -/
def State.usedChannels (s : State) (p : Nat) : List Nat := if s.mtrSingle p then [0, 3, 6] else List.range 7

/-- A sample instant of an enabled point: every channel it uses takes its sample. -/
def State.sampleChannels (s : State) (p : Nat) (x : MtrIn) : State :=
  if !s.mtrOn p then s
  else
    let m := s.mp p
    let chs := (s.usedChannels p).foldl (fun t ch =>
      Tbl.put {} t ch ((m.channel ch).sample s.osr (s.calDelay p ch) s.el (x.bits.getD ch 0).toNat)) m.channels
    s.setMp p { m with channels := chs }

/-- A quantity of a channel in 2^-23 mV or mA (R336 stage 4): its sample, that delayed by 90°, and that delayed to match. With FS = 0 it
reads 0. -/
def State.scaled (s : State) (p ch : Nat) (f : List Int → Int) : Int := f ((s.mp p).channel ch).out * s.fullScale p ch
def sampleNow (l : List Int) : Int := l.headD 0

end Sys2Proof.Machine
end

