-- ==== Sys2Proof/Machine/Metering.lean ====
section
/-! DEFINITION. The metering engine (chapter 13): samples, readings, harmonics, faults, pulses, the demand cap and the
metering commands. -/

namespace Sys2Proof.Machine

/-! ### Samples (R336 to R339, R348) -/

/-- `e` more at an index of a table of energies. -/
def addAt (t : Tbl Nat) (i e : Nat) : Tbl Nat := Tbl.put 0 t i (Tbl.get 0 t i + e)

/-- Power `x` of a phase goes to import or export of a quantity, never offset against another (R338, R339). -/
def addPower (t : Tbl Nat) (phase qty : Nat) (x : Int) : Tbl Nat :=
  addAt t (4 * phase + 2 * qty + (if 0 ≤ x then 0 else 1)) x.natAbs

/-- The energies of the present sample of a point, by phase and kind (R338, R339). -/
def State.sampleWork (s : State) (p : Nat) : Tbl Nat :=
  (s.mtrPhases p).foldl (fun t f =>
    let t := addPower t f 0 (s.scaled p f sampleNow * s.scaled p (3 + f) sampleNow)
    addPower t f 1 (s.scaled p f Config.delay90 * s.scaled p (3 + f) Config.delayMatch)) []

/-- Sums of squares with the present sample of a point, by channel. -/
def State.sampleSquares (s : State) (p : Nat) (sq : Tbl Nat) : Tbl Nat :=
  (s.usedChannels p).foldl (fun t ch => addAt t ch ((s.scaled p ch sampleNow).natAbs ^ 2)) sq

/-- The sum over the phases of one kind of energy. -/
def sumKind (t : Tbl Nat) (k : Nat) : Nat := Tbl.get 0 t k + Tbl.get 0 t (4 + k) + Tbl.get 0 t (8 + k)

/-- The present sample of one enabled point goes to its sums. -/
def State.meterSample (s : State) (p : Nat) : State :=
  if !s.mtrOn p then s
  else
    let m := s.mp p
    let w := s.sampleWork p
    let more (t : Tbl Nat) : Tbl Nat := w.foldl (fun t e => addAt t e.1 e.2) t
    s.setMp p { m with n := m.n + 1, sq := s.sampleSquares p m.sq, nW := m.nW + 1, sqW := s.sampleSquares p m.sqW, work := more m.work, workW := more m.workW, demE := m.demE + sumKind w 0 }

/-- One kWh in the energy unit, and K of a pulse output (R348). -/
def kWhUnits : Nat := 1000000 * mWhUnits
def State.pulseK (s : State) (k : Nat) : Nat := clampN 1 1000000 (s.fld (F.MTR_PK_K k))

/-- QTY of a pulse output; 3 acts as 0. -/
def State.pulseQty (s : State) (k : Nat) : Nat := s.fld (F.MTR_PLS_QTY k) % 3

/-- Energy `e` reaches an enabled pulse output: A grows by e × K, and at 1 a pulse is queued; beyond 255 it is lost (R348,
R349). -/
def State.pulseAdd (s : State) (k e : Nat) : State :=
  if !s.flag (F.MTR_PLS_EN k) then s
  else
    let q := Tbl.get ({} : PulseOut) s.mtr.pulses k
    let a := q.acc + e * s.pulseK k
    let put (s : State) (q : PulseOut) : State := { s with mtr := { s.mtr with pulses := Tbl.put {} s.mtr.pulses k q } }
    if a < kWhUnits then put s { q with acc := a }
    else if q.queue < 255 then put s { q with acc := a - kWhUnits, queue := q.queue + 1 }
    else
      let t := (put s { q with acc := a - kWhUnits }).satInc F.MTR_CNT_PULSE_LOST
      t.raise Ev.mtrPulse (le 1 k ++ zeros 3 ++ le 1 (t.fld F.MTR_CNT_PULSE_LOST))

/-- METERING_SAMPLE (R336, R338): a sample instant of both points. -/
def execMeteringSample (x0 x1 : MtrIn) (s : State) : Host.Outcome State Fault Refusal :=
  .next <|
    if !s.mtr.running || !s.meterClock then s
    else
      let u := (s.sampleChannels 0 x0).sampleChannels 1 x1
      let energy (k : Nat) : Nat :=
        let p := u.fld (F.MTR_PLS_POINT k)
        if !u.mtrOn p ∨ u.pulseQty k = 2 then 0 else sumKind (u.sampleWork p) (2 * u.pulseQty k + u.fld (F.MTR_PLS_DIR k))
      [0, 1, 2, 3].foldl (fun t k => t.pulseAdd k (energy k)) ((u.meterSample 0).meterSample 1)

/-- EPULSE_EMIT (R349): the next pulse once the inactive time of the one before has ended. -/
def execEpulseEmit (k : Fin 4) (s : State) : Host.Outcome State Fault Refusal :=
  let i := k.val
  let q := Tbl.get ({} : PulseOut) s.mtr.pulses i
  let width := orOne (s.fld (F.MTR_PLS_WIDTH i))
  let free := match q.lastEdge with
    | some t => s.passed t (2 * width * oneMs)
    | none => true
  .next <|
    if s.mtr.running && s.flag (F.MTR_PLS_EN i) && !s.flag F.MTR_STAT_CAL_BAD && q.queue != 0 && free then
      ({ s with mtr := { s.mtr with pulses := Tbl.put {} s.mtr.pulses i { q with queue := q.queue - 1, lastEdge := some s.el } } } : State).emit (.epulse i width (s.flag (F.MTR_PLS_POL i)))
    else s

/-! ### Whole seconds (R340, R343, R352, R360) -/

/-- The rms of a channel over the second, mV or mA. -/
def MtrPoint.rmsOf (m : MtrPoint) (ch : Nat) : Nat := if m.n = 0 then 0 else isqrt (Tbl.get 0 m.sq ch / (m.n * 2 ^ 46))

/-- The mean power of a phase in W, or var, over `n` samples of energy `work`. -/
def meanPower (work : Tbl Nat) (n phase qty : Nat) : Int :=
  if n = 0 then 0
  else (((Tbl.get 0 work (4 * phase + 2 * qty) : Nat) : Int) - (Tbl.get 0 work (4 * phase + 2 * qty + 1) : Nat)) / (n * (2 ^ 46 * 1000000) : Nat)

/-- A mean power of the second. -/
def MtrPoint.mean (m : MtrPoint) (phase qty : Nat) : Int := meanPower m.work m.n phase qty

/-- Apparent energy of a phase in the second, Vrms × Irms × 1 s, and its import part (R340). -/
def MtrPoint.apparent (m : MtrPoint) (phase dir : Nat) : Nat :=
  let s := m.rmsOf phase * m.rmsOf (3 + phase) * 8000 * 2 ^ 46
  let i := Tbl.get 0 m.work (4 * phase)
  let e := Tbl.get 0 m.work (4 * phase + 1)
  let imp := if i + e = 0 then s else s * i / (i + e)
  if dir = 0 then imp else s - imp

/-- V_OK and V_LOSS of a point in mV. -/
def State.vNom (s : State) (p : Nat) : Nat := s.fld (if p = 0 then F.MTR_NOM0_V_NOM else F.MTR_NOM1_V_NOM)
def State.iNom (s : State) (p : Nat) : Nat := s.fld (if p = 0 then F.MTR_NOM0_I_NOM else F.MTR_NOM1_I_NOM)
def State.vOk (s : State) (p : Nat) : Nat := s.fld F.MTR_FLT_V_OK * s.vNom p
def State.vLoss (s : State) (p : Nat) : Nat := s.fld F.MTR_FLT_V_LOSS * s.vNom p

/-- The per-second criteria of Table 13-3 after a second: phases 0 to 2, DEAD 3, REVERSE 4. -/
def State.secondFaults (s : State) (p : Nat) (m : MtrPoint) : MtrPoint :=
  let phases := s.mtrPhases p
  let v (f : Nat) : Nat := m.rmsOf f
  let bump (m : MtrPoint) (i : Nat) (on off : Bool) : MtrPoint :=
    { m with faultIn := Tbl.put 0 m.faultIn i (if on then Tbl.get 0 m.faultIn i + 1 else 0), faultOut := Tbl.put 0 m.faultOut i (if off then Tbl.get 0 m.faultOut i + 1 else 0) }
  let lossy (f : Nat) : Bool :=
    phases.contains f && decide (v f < s.vLoss p) && (s.mtrSingle p || phases.any fun g => g != f && decide (s.vOk p ≤ v g))
  let n := [0, 1, 2].foldl (fun n f => bump n f (lossy f) (decide (s.vOk p ≤ v f))) m
  let n := bump n 3 (phases.all fun f => decide (v f < s.vLoss p)) (phases.any fun f => decide (s.vOk p ≤ v f))
  let thr := s.fld (if p = 0 then F.MTR_REV_REV_THR0 else F.MTR_REV_REV_THR1) * 1000000000 * 8000 * 2 ^ 46
  let rev := decide (sumKind m.work 0 + thr < sumKind m.work 1)
  bump n 4 rev !rev

/-- The end of a second for one point: readings, faults, and its sums to the accumulators. -/
def State.pointSecond (s : State) (p freq : Nat) : State :=
  let m := s.mp p
  let bad := freq < 4250 ∨ 6900 < freq ∨ !((s.mtrPhases p).any fun f => decide (s.vOk p ≤ m.rmsOf f))
  let rms := (List.range 7).foldl (fun t ch => Tbl.put 0 t ch (m.rmsOf ch)) []
  let pW := [0, 1, 2].foldl (fun t f => Tbl.put (0 : Int) t f (m.mean f 0)) []
  let qVar := [0, 1, 2].foldl (fun t f => Tbl.put (0 : Int) t f (m.mean f 1)) []
  let sVa := [0, 1, 2].foldl (fun t f => Tbl.put 0 t f (m.rmsOf f * m.rmsOf (3 + f) / 1000000)) []
  let t := s.foldWork p (m.apparent)
  let k := t.mp p
  let k := { s.secondFaults p m with work := k.work, rem := k.rem, n := 0, sq := [], freq := freq, freqBad := decide bad, rms := rms, pW := pW, qVar := qVar, sVa := sVa }
  t.setMp p k

/-- The apparent energy of a second reaches the pulse outputs that count it. -/
def State.apparentPulse (s : State) (pts : List MtrPoint) (k : Nat) : State :=
  if s.pulseQty k ≠ 2 then s
  else
    let m := pts.getD (s.fld (F.MTR_PLS_POINT k)) {}
    s.pulseAdd k ([0, 1, 2].foldl (fun t f => t + m.apparent f (s.fld (F.MTR_PLS_DIR k))) (0 : Nat))

/-- The metering input of both lanes (R360), with the Feed point's active import of the last second: INVALID while metering is stopped,
or while CHAN, DEAD or CAL_BAD is set on the Feed point. -/
def State.meterInput (s : State) (watts : Nat) : State :=
  let feed := s.mp 0
  let charge := s.mp 1
  let ok := s.mtr.running && !bit (s.mtrFlags 0) 7 && !bit (s.mtrFlags 0) 6 && !s.flag F.MTR_STAT_CAL_BAD
  let pW := ((watts : Int) :: s.alt.meter.pW).take 256
  let amps := [0, 1, 2].map fun f => Tbl.get 0 charge.rms (3 + f)
  let volts := [0, 1, 2].map fun f => Tbl.get 0 charge.rms f
  let left := (s.demandEnd - s.now) / oneSec
  let m : MeterLane := { valid := ok, eWh := feed.demE / (1000 * mWhUnits), leftS := left, lenS := s.demandT / oneSec, pW := pW, amps := amps, volts := volts, capKw := s.alt.meter.capKw }
  s.toLanes fun t => { t with alt := { t.alt with meter := m } }

/-- METER_SECOND (R340, R343, R352, R360): a whole second of site time, with the frequency measured at each point. While metering is
stopped only its INVALID input goes to the lanes. -/
def execMeterSecond (freq0 freq1 : Nat) (s : State) : Host.Outcome State Fault Refusal :=
  .next <|
    if !s.pwr.hubReady ∨ s.pwr.state = .dormant ∨ s.now / oneSec ≤ s.mtr.second then s
    else
      let pts := [s.mp 0, s.mp 1]
      let t : State := { s with mtr := { s.mtr with second := s.now / oneSec } }
      if !s.mtr.running then t.meterInput 0
      else
        let t : State := { t with mtr := { t.mtr with taken := true } }
        let t := (t.pointSecond 0 freq0).pointSecond 1 freq1
        let t := t.saveVbat none
        let t := [0, 1, 2, 3].foldl (fun t k => t.apparentPulse pts k) t
        t.meterInput (meanWatts (sumKind (s.mp 0).work 0) oneSec)

/-! ### Harmonics (R344) -/

/-- A bin of a channel, and the square of its magnitude in 2^-16 mV² or mA². -/
def winBin (x : WindowIn) (ch k : Nat) : Int × Int := (x.bins.getD ch []).getD k (0, 0)
def normSq (c : Int × Int) : Nat := (c.1 * c.1 + c.2 * c.2).natAbs

/-- Twice the square of group h of a channel (R344), in 2^-16 mV² or mA²: the bins about h × N, those at both ends counted half. -/
def winGroupSq (x : WindowIn) (n ch h : Nat) : Nat :=
  let c (k : Nat) : Nat := normSq (winBin x ch k)
  let inner := ((List.range (n - 1)).map fun i => c (n * h - n / 2 + 1 + i)).foldl (· + ·) 0
  c (n * h - n / 2) + 2 * inner + c (n * h + n / 2)

/-- The sum of the fundamentals of three channels. -/
def winSum3 (x : WindowIn) (n ch : Nat) : Int × Int :=
  let a := winBin x ch n
  let b := winBin x (ch + 1) n
  let c := winBin x (ch + 2) n
  (a.1 + b.1 + c.1, a.2 + b.2 + c.2)

/-- The fundamental angle of Vb less that of Va lies between +90° and +150° (Table 13-3): the tangent of 30° squared is 1/3. -/
def winReversed (x : WindowIn) (n : Nat) : Bool :=
  let a := winBin x 0 n
  let b := winBin x 1 n
  let dot := b.1 * a.1 + b.2 * a.2
  let cross := b.2 * a.1 - b.1 * a.2
  decide (0 < cross) && decide (dot ≤ 0) && decide (dot * dot ≤ 3 * (cross * cross))

/-- The rms of a channel over the window, mV or mA (R343). -/
def MtrPoint.windowRms (m : MtrPoint) (ch : Nat) : Nat := if m.nW = 0 then 0 else isqrt (Tbl.get 0 m.sqW ch / (m.nW * 2 ^ 46))

/-- The criteria of SEQ and of NEUTRAL in a window (Table 13-3); `n` is the number of its cycles. -/
def State.seqWrong (s : State) (p n : Nat) (x : WindowIn) : Bool :=
  ([0, 1, 2].all fun f => decide (s.vOk p ≤ (s.mp p).windowRms f)) && winReversed x n
def State.neutralWrong (s : State) (p n : Nat) (x : WindowIn) : Bool :=
  let vn := s.vNom p * 100
  let limit := s.iNom p * 100
  let less (a b : Int × Int) : Int × Int := (a.1 - b.1, a.2 - b.2)
  let inStep (f : Nat) : Bool :=
    let d := 100 * normSq (less (winBin x f n) (winBin x ((f + 1) % 3) n))
    decide (243 * vn ^ 2 * 2 ^ 16 ≤ d) && decide (d ≤ 363 * vn ^ 2 * 2 ^ 16)
  let shifted := decide ((3 * s.fld F.MTR_FLT_V0_THR * s.vNom p) ^ 2 * 2 ^ 16 ≤ normSq (winSum3 x n 0))
  (shifted && [0, 1, 2].all inStep) || (decide (limit ^ 2 * 2 ^ 16 ≤ normSq (winSum3 x n 3)) && decide ((s.mp p).windowRms 6 < limit))

/-- The fundamental cycles of a window: 10 at 50 Hz, 12 at 60 Hz. -/
def State.windowCycles (s : State) : Nat := if s.flag F.MTR_CTL_F_NOM then 12 else 10

/-- HARMONIC_WINDOW_END (R344): group values are stored; SEQ and NEUTRAL are judged (Table 13-3). Without a frequency the window ran at
the nominal one (R343). -/
def execHarmonicWindowEnd (p : Fin 2) (x : WindowIn) (s : State) : Host.Outcome State Fault Refusal :=
  let i := p.val
  .next <|
    if !s.mtr.running ∨ !s.mtrOn i then s
    else
      let m := s.mp i
      let n := s.windowCycles
      let groups := (List.range 7).map fun ch => (List.range 63).map fun h => winGroupSq x n ch (h + 1)
      let seq := s.seqWrong i n x
      let neutral := s.neutralWrong i n x
      let power (qty : Nat) : List Int := [0, 1, 2].map fun f => meanPower m.workW m.nW f qty
      let w : MtrWindow := ⟨s.now, if m.freqBad then 500 * n else x.freq, groups, (List.range 7).map m.windowRms, power 0, power 1⟩
      let neuIn := if neutral then some (m.neuIn.getD s.el) else none
      let neuOut := if neutral then none else some (m.neuOut.getD s.el)
      s.setMp i { m with windows := (w :: m.windows).take 15, nW := 0, sqW := [], workW := [], seqIn := (if seq then m.seqIn + 1 else 0), seqOut := (if seq then 0 else m.seqOut + 1), neuIn := neuIn, neuOut := neuOut }

/-! ### Faults (R337, R351) -/

/-- EV_MTR_FAULT. -/
def State.mtrFault (s : State) (p cause : Nat) (on : Bool) (mask : Nat) : State :=
  s.raise Ev.mtrFault (le 1 p ++ le 1 cause ++ le 1 (b2n on) ++ le 1 mask)

/-- Whether since an instant a time has passed; never while there is none. -/
def State.since (s : State) (t : Option Nat) (d : Nat) : Bool :=
  match t with
  | some e => s.passed e d
  | none => false

/-- Whether the criterion of a flag (bit of Table 13-9) has held long enough to enter, and been clear long enough to leave. -/
def State.faultDue (s : State) (p flag : Nat) : Bool × Bool :=
  let m := s.mp p
  let revS := orOne (s.fld F.MTR_FLT_REV_S)
  match flag with
  | 3 => (decide (3 ≤ m.seqIn) && !s.mtrSingle p, decide (3 ≤ m.seqOut))
  | 4 => (s.since m.neuIn oneSec && !s.mtrSingle p, s.since m.neuOut (5 * oneSec))
  | 5 => (decide (revS ≤ Tbl.get 0 m.faultIn 4), decide (revS ≤ Tbl.get 0 m.faultOut 4))
  | 6 => (decide (1 ≤ Tbl.get 0 m.faultIn 3), decide (5 ≤ Tbl.get 0 m.faultOut 3))
  | f => (decide (1 ≤ Tbl.get 0 m.faultIn f), decide (5 ≤ Tbl.get 0 m.faultOut f))

/-- The cause code of a flag in EV_MTR_FAULT, and its phase mask. -/
def State.faultCause (s : State) (p flag : Nat) : Nat × Nat :=
  let all := if s.mtrSingle p then 1 else 7
  match flag with
  | 3 => (0, all)
  | 4 => (1, all)
  | 5 => (3, all)
  | 6 => (4, all)
  | f => (2, 2 ^ f)

/-- METER_FAULT_CHANGE (R351): a condition of an enabled point enters or leaves after its time. -/
def execMeterFaultChange (p : Fin 2) (flag : Fin 7) (s : State) : Host.Outcome State Fault Refusal :=
  let i := p.val
  let on := bit (s.mtrFlags i) flag.val
  let due := s.faultDue i flag.val
  .next <|
    if s.mtr.running && s.mtrOn i && (if on then due.2 else due.1) then
      let c := s.faultCause i flag.val
      (s.setMtrFlag i flag.val (!on)).mtrFault i c.1 (!on) c.2
    else s

/-- CHANNEL_FAULT (R337): a channel is saturated (0) or has no data (1), or has been clear for 1 s (2). -/
def execChannelFault (p : Fin 2) (channel : Fin 7) (cause : Fin 3) (s : State) : Host.Outcome State Fault Refusal :=
  let i := p.val
  let ch := channel.val
  let m := s.mp i
  let c := m.channel ch
  let was := Tbl.get 0 m.chan ch
  let event (s : State) : State := s.raise Ev.mtrChan (le 1 (7 * i + ch) ++ le 1 cause.val)
  .next <|
    if !s.mtr.running ∨ !s.mtrOn i then s
    else if cause.val = 2 then
      if was ≠ 0 ∧ !c.saturated ∧ !c.noData ∧ s.passed c.badAt oneSec then
        let t := s.setMp i { m with chan := Tbl.put 0 m.chan ch 0 }
        event (t.setMtrFlag i 7 !(t.mp i).chan.isEmpty)
      else s
    else if was = cause.val + 1 ∨ (if cause.val = 0 then !c.saturated else !c.noData) then s
    else
      let t := s.setMp i { m with chan := Tbl.put 0 m.chan ch (cause.val + 1) }
      event ((t.setMtrFlag i 7 true).satInc F.MTR_CNT_CHAN_FAULT)

/-! ### Demand and copies -/

/-- DEMAND_INTERVAL_END (R345, R346). -/
def execDemandIntervalEnd (s : State) : Host.Outcome State Fault Refusal :=
  .next (if s.mtr.running ∧ s.demandEnd ≤ s.now then s.endInterval false else s)

/-- DEM_CLR clears MAX_DEM of both points. -/
def State.demClr (s : State) : State :=
  (s.setMp 0 { s.mp 0 with maxDem := 0 }).setMp 1 { s.mp 1 with maxDem := 0 }

/-- DEM_CLR (R346). -/
def execDemClr (s : State) : Host.Outcome State Fault Refusal := .next s.demClr

/-- CNT_CLR clears MTR_CNT. -/
def State.mtrCntClr (s : State) : State := s.resetRegs [R.MTR_CNT]

/-- MTR_CNT_CLR (R364). -/
def execMtrCntClr (s : State) : Host.Outcome State Fault Refusal := .next s.mtrCntClr

/-- A periodic copy is written, or has failed and is due again after 1 s. -/
def State.periodicCopy (s : State) (good : Bool) : State :=
  if good then { s.norCopy 0 with mtr := { s.mtr with retry := none } } else { s with mtr := { s.mtr with retry := some s.el } }

/-- ENERGY_NOR_COPY (R353): at each whole multiple of 900 s in TAI. -/
def execEnergyNorCopy (good : Bool) (s : State) : Host.Outcome State Fault Refusal :=
  .next <|
    if s.mtr.running ∧ s.mtr.copyIdx < s.now / (900 * oneSec) then
      ({ s with mtr := { s.mtr with copyIdx := s.now / (900 * oneSec) } } : State).periodicCopy good
    else s

/-- ENERGY_COPY_RETRY (R353): a failed copy is retried every second. -/
def execEnergyCopyRetry (good : Bool) (s : State) : Host.Outcome State Fault Refusal :=
  .next (if s.mtr.running && s.since s.mtr.retry oneSec then s.periodicCopy good else s)

/-! ### Settings (R358 to R363) -/

/-- The 28 calibration registers, in address order. -/
def calRegs : List Nat := (List.range 28).map fun i => R.MTR_CALG 0 + 4 * i

/-- The calibration stored in the NOR settings, and its CRC-32C (R358). -/
def State.storedCal (s : State) : List Byte := (calRegs.map fun a => le 4 (Tbl.get (regReset a) s.nor.newest a).toNat).flatten
def State.calCrc (s : State) : Nat := crc32c s.storedCal

/-- MTR_SEAL, SEALED and LEFT follow the fuses. -/
def State.syncSeal (s : State) : State :=
  ((s.setFld F.MTR_SEAL_CRC s.fuses.sealCrc).setFld F.MTR_STAT_SEALED (b2n (s.fuses.sealCrc != 0))).setFld F.MTR_STAT_LEFT s.fuses.sealLeft

/-- The check of the stored calibration at every start of the hub (R359). -/
def State.calCheck (s : State) : State :=
  let t := s.syncSeal
  if t.fuses.sealCrc ≠ 0 ∧ t.calCrc ≠ t.fuses.sealCrc then
    let u := (t.setFld F.MTR_STAT_CAL_BAD 1).record 0x0A (le 4 t.calCrc ++ le 4 t.fuses.sealCrc)
    (u.mtrFault 0 5 true 0).mtrFault 1 5 true 0
  else t.setFld F.MTR_STAT_CAL_BAD 0

/-- What a change of the metering settings brings (R347, R362): a change of DEM_MIN ends the interval; one of CLK_SEL or
WIREn stops the front end until it has restarted. -/
def State.mtrChanged (s old : State) : State :=
  let t := if s.demandT = old.demandT ∨ !s.mtr.running then s else s.endInterval true
  let same := s.fld F.MTR_CTL_CLK_SEL = old.fld F.MTR_CTL_CLK_SEL ∧ s.fld F.MTR_CTL_WIRE0 = old.fld F.MTR_CTL_WIRE0
    ∧ s.fld F.MTR_CTL_WIRE1 = old.fld F.MTR_CTL_WIRE1
  if same ∨ !t.mtr.running then t
  else { t with mtr := { t.mtr with running := false, taken := false, restart := some t.now, intFlags := t.mtr.intFlags ||| 2 } }

/-- METER_FRONT_END_RESTART (R362): the front end is back and an outage record is written. -/
def execMeterFrontEndRestart (s : State) : Host.Outcome State Fault Refusal :=
  .next <|
    match s.mtr.restart with
    | some t => s.meterStart 0 (some t)
    | none => s

/-- The registers MTR_CONFIG writes, in the order of its payload, with their writable bits; SC fields are ignored. -/
def mtrConfigRegs : List (Nat × Nat) :=
  [(R.MTR_CTL, 0xFC000F33), (R.MTR_NOM0, 0xFFFFFFFF), (R.MTR_NOM1, 0xFFFFFFFF), (R.MTR_FLT, 0xFFFFFFFF), (R.MTR_REV, 0xFFFFFFFF)]
    ++ [0, 1, 2, 3].map (fun k => (R.MTR_PLS k, 0xC0000FFF)) ++ [0, 1, 2, 3].map (fun k => (R.MTR_PK k, 0x000FFFFF))

/-- MTR_CONFIG (R363). -/
def doMtrConfig (s : State) (_ _ : Nat) (p : List Byte) : Res :=
  withLen s 52 p <|
    let t := (mtrConfigRegs.zip (List.range 13)).foldl (fun t r => t.setReg r.1.1 (BitVec.ofNat 32 (rdN p (4 * r.2) 4 &&& r.1.2))) s
    okay ((t.saveRegs (mtrConfigRegs.map (·.1))).mtrChanged s)

def opMtrConfig : Op := opH 0x0B00 1 doMtrConfig
def execMtrConfig (c : Cmd) (s : State) : Host.Outcome State Fault Refusal := .next (s.host c opMtrConfig)

/-- The reading record of a point (Table 13-7). -/
def State.reading (s : State) (p : Nat) : List Byte :=
  let m := s.mp p
  let flags2 := b2n m.freqBad + 2 * s.fld F.MTR_STAT_CAL_BAD + 4 * s.fld F.MTR_STAT_GAP + 8 * b2n (bit s.mtr.intFlags 1)
  let u32 (v : Nat) : List Byte := le 4 (min v (2 ^ 32 - 1))
  le 8 (s.mtr.second * oneSec) ++ le 1 (s.mtrFlags p) ++ le 1 flags2 ++ le 2 m.freq
    ++ ((List.range 7).map fun ch => u32 (Tbl.get 0 m.rms ch)).flatten
    ++ ([0, 1, 2].map fun f => leI 4 (satI32 (Tbl.get 0 m.pW f))).flatten
    ++ ([0, 1, 2].map fun f => leI 4 (satI32 (Tbl.get 0 m.qVar f))).flatten
    ++ ([0, 1, 2].map fun f => u32 (Tbl.get 0 m.sVa f)).flatten
    ++ u32 (m.demE / (1000 * mWhUnits)) ++ u32 m.demLast ++ u32 m.maxDem
    ++ ((List.range 24).map fun i => le 8 (accAt s.mtr.mirror p (i / 6) (i % 6))).flatten

/-- MTR_GET_READINGS (R363). -/
def doMtrGetReadings (s : State) (_ _ : Nat) (p : List Byte) : Res :=
  withLen s 4 p <|
    if 1 < rdN p 0 1 then refuse s St.badParameter else okWith s (s.reading (rdN p 0 1))

def opMtrGetReadings : Op := opH 0x0B01 0 doMtrGetReadings
def execMtrGetReadings (c : Cmd) (s : State) : Host.Outcome State Fault Refusal := .next (s.host c opMtrGetReadings)

/-- Twice the mean square of group h of a channel: of the last window, or over the last 15 windows for the 3 s value (R344). -/
def MtrPoint.groupSq (m : MtrPoint) (ch h : Nat) (threeS : Bool) : Nat :=
  let ws := if threeS then m.windows else m.windows.take 1
  let g (w : MtrWindow) : Nat := (w.groups.getD ch []).getD (h - 1) 0
  if ws.isEmpty then 0 else (ws.map g).foldl (· + ·) 0 / ws.length

/-- G_1 in mV or mA, and a ratio to it in 0.01 % from squares. -/
def groupValue (sq : Nat) : Nat := isqrt (sq / 2 ^ 17)
def groupRatio (sq one : Nat) : Nat := isqrt (sq * 100000000 / one)

/-- MTR_GET_HARMONICS (R344, Table 13-6). With G_1 = 0 the spec states no ratio to it: THD and G_2 to G_63 are free values. -/
def doMtrGetHarmonics (s : State) (_ _ : Nat) (p : List Byte) : Res :=
  withLen s 4 p <|
    let point := rdN p 0 1
    let ch := rdN p 1 1
    let mode := rdN p 2 1
    if 1 < point ∨ 6 < ch ∨ 1 < mode then refuse s St.badParameter
    else
      let m := s.mp point
      let g (h : Nat) : Nat := m.groupSq ch h (mode == 1)
      let head := le 8 ((m.windows.head?.map (·.at_)).getD 0) ++ le 4 (groupValue (g 1)) ++ le 2 ((m.windows.head?.map (·.freq)).getD 0)
      if g 1 = 0 then
        ((s.drew 63), some ⟨St.ok, head ++ ((List.range 63).map fun i => le 2 ((Config.free 16 (s.free + i)).toNat)).flatten⟩)
      else
        let hs := (List.range 62).map fun i => g (i + 2)
        okWith s (head ++ le 2 (min 65535 (groupRatio (hs.foldl (· + ·) 0) (g 1))) ++ (hs.map fun v => le 2 (min 65535 (groupRatio v (g 1)))).flatten)

def opMtrGetHarmonics : Op := opH 0x0B02 0 doMtrGetHarmonics
def execMtrGetHarmonics (c : Cmd) (s : State) : Host.Outcome State Fault Refusal := .next (s.host c opMtrGetHarmonics)

/-- MTR_SET_CAP (R361): path L; the value applies from the next round. -/
def doMtrSetCap (s : State) (_ _ : Nat) (p : List Byte) : Res :=
  withLen s 4 p <|
    if 1 < rdN p 0 1 then refuse s St.badParameter
    else
      let t := if rdN p 0 1 = 0 then s else
        { s with alt := { s.alt with meter := { s.alt.meter with capKw := rdN p 2 2 } }, nor := { s.nor.write s.nor.newest with capKw := rdN p 2 2 } }
      okWith t (le 2 t.alt.meter.capKw ++ zeros 2)

def opMtrSetCap : Op := opL 0x0B03 1 doMtrSetCap
def execMtrSetCap (c : Cmd) (s : State) : Host.Outcome State Fault Refusal := .next (s.host c opMtrSetCap)

/-- MTR_CAL_SEAL (R358): store, seal or open; each seal or opening uses one of the 16 changes. -/
def doMtrCalSeal (s : State) (sid _ : Nat) (p : List Byte) : Res :=
  withLen s 4 p <|
    let say (t : State) : Res := okWith t (le 1 t.fuses.sealLeft ++ le 1 (b2n (t.fuses.sealCrc != 0)) ++ zeros 2 ++ le 4 t.fuses.sealCrc)
    let burn (v : Nat) : Res :=
      if s.fuses.sealLeft = 0 then (s.lcDone R.MTR_SEAL s.fuses.sealCrc v 0 1 sid, some ⟨St.lcExhausted, []⟩)
      else
        let t : State := { s with fuses := { s.fuses with sealCrc := v, sealLeft := s.fuses.sealLeft - 1 } }
        say (t.syncSeal.lcDone R.MTR_SEAL s.fuses.sealCrc v t.fuses.sealLeft 0 sid)
    match rdN p 0 1 with
    | 0 => say (s.saveRegs calRegs)
    | 1 => if s.calCrc = 0 then refuse s St.badParameter else burn s.calCrc
    | 2 => burn 0
    | _ => refuse s St.badParameter

def opMtrCalSeal : Op := opH 0x0B04 2 doMtrCalSeal
def execMtrCalSeal (c : Cmd) (s : State) : Host.Outcome State Fault Refusal := .next (s.host c opMtrCalSeal)

end Sys2Proof.Machine
end

