-- ==== Sys2Proof/Machine/Ptp.lean ====
section
/-! DEFINITION. The PTP ordinary clock on port 2 and the link delay measurement (R316, R317, R319 to R321). Message layouts
are those of IEEE 1588-2019. -/

namespace Sys2Proof.Machine

/-! ### Messages -/

/-- The clock identity of the module: the EUI-64 made of its MAC address. -/
def State.clockId (s : State) : Nat := beNat (s.macBytes.take 3 ++ [0xFF, 0xFE] ++ s.macBytes.drop 3)

/-- A port identity: clock identity and port number as one number of 80 bits. -/
def State.portId (s : State) (n : Nat) : Nat := s.clockId * 65536 + n

/-- 2^k seconds in ns, for k as an int8 field. -/
def logNs (field : Nat) : Nat :=
  let k := signed 8 field
  if 0 ≤ k then oneSec * 2 ^ k.toNat else oneSec / 2 ^ k.natAbs

/-- A PTP timestamp: 48 bits of seconds and 32 bits of ns, from a time in ps. -/
def ptpStamp (ps : Int) : List Byte :=
  let ns := (ps / 1000).toNat
  be 6 (ns / oneSec) ++ be 4 (ns % oneSec)

/-- The PTP timestamp at an offset, in ps. -/
def stampPs (f : List Byte) (o : Nat) : Int :=
  ((beNat ((f.drop o).take 6) * oneSec + beNat ((f.drop (o + 6)).take 4)) * 1000 : Nat)

/-- The part of a time in ps below 1 ns, as a correctionField. -/
def subNs (ps : Int) : Int := ps16 (ps % 1000)

/-- A correctionField in ps. -/
def corrPs (units : Int) : Int := units * 1000 / 65536

/-- A PTP message with its header. -/
def State.ptpMessage (s : State) (mtype flags : Nat) (corr : Int) (src seq control logInt : Nat) (body : List Byte) : List Byte :=
  be 1 mtype ++ be 1 0x12 ++ be 2 (34 + body.length) ++ be 1 (s.fld F.ETH_PTP_CTL_DOMAIN) ++ be 1 0 ++ be 2 flags
    ++ be 8 (twos 64 corr) ++ zeros 4 ++ be 10 src ++ be 2 seq ++ be 1 control ++ be 1 logInt ++ body

/-- The multicast address of a PTP message over a transport: peer delay messages have their own. -/
def ptpDA (transport : Nat) (peer : Bool) : Nat :=
  if transport = 0 then (if peer then 0x0180C200000E else 0x011B19000000) else (if peer then 0x01005E00006B else 0x01005E000181)

/-- A PTP message leaves on a port, over the transport set by TRANSPORT. -/
def State.ptpSend (s : State) (n : Nat) (peer : Bool) (m : List Byte) : State :=
  let tr := s.fld F.ETH_PTP_CTL_TRANSPORT
  let head := be 6 (ptpDA tr peer) ++ s.macBytes
  if tr = 0 then s.ethSend n (head ++ be 2 0x88F7 ++ m)
  else
    let port := if rdN m 0 1 % 16 < 4 then 319 else 320
    let udp := be 2 port ++ be 2 port ++ be 2 (8 + m.length) ++ be 2 0 ++ m
    let dst := if peer then 0xE000006B else 0xE0000181
    s.ethSend n (head ++ be 2 0x0800 ++ ipHeader s.ip dst 17 1 udp.length ++ udp)

/-- The egress wire time of a message sent now, in ps of site time (R316). -/
def State.egressNow (s : State) (n : Nat) : Int := s.egressPs n (s.time.ext * 1000 / 2 ^ 32)

/-! Fields of a received message at an offset. -/
def ptpFlags (f : List Byte) (o : Nat) : Nat := beNat ((f.drop (o + 6)).take 2)
def ptpSrc (f : List Byte) (o : Nat) : Nat := beNat ((f.drop (o + 20)).take 10)
def ptpSeq (f : List Byte) (o : Nat) : Nat := beNat ((f.drop (o + 30)).take 2)
def ptpTwoStep (f : List Byte) (o : Nat) : Bool := bit (ptpFlags f o) 9
/-- requestingPortIdentity, after a timestamp. -/
def ptpReq (f : List Byte) (o : Nat) : Nat := beNat ((f.drop (o + 44)).take 10)

/-! ### Link delay (R317) -/

/-- A measurement enters the mean of the last 8, shown in ETH_Pn_LDELAY in ns. -/
def State.linkDelay (s : State) (n : Nat) (ps : Int) : State :=
  let ds := (ps :: (s.ep n).delays).take 8
  let mean := (ds.foldl (fun a d => a + d) (0 : Int) / (ds.length : Nat) + 500) / 1000
  (s.setEp n { s.ep n with delays := ds, pdT1 := none, pdTwo := none }).setFld (F.ETH_P_LDELAY_LDELAY n) (clampI 0 (2 ^ 32 - 1) mean).toNat

/-- PDELAY_REQ_SEND (R317): every 2^LOG_DREQ s in P2P mode. -/
def execPdelayReqSend (n : Fin 2) (s : State) : Host.Outcome State Fault Refusal :=
  let i := n.val
  let p := s.ep i
  let due := match p.pdAt with
    | some t => s.passed t (logNs (s.fld F.ETH_PTP_INT_LOG_DREQ))
    | none => true
  .next <|
    if s.ethUp i && s.p2p && due then
      let seq := (p.pdSeq + 1) % 65536
      let m := s.ptpMessage ptPDELAY_REQ 0 0 (s.portId (i + 1)) seq 5 0x7F (zeros 20)
      (s.setEp i { p with pdSeq := seq, pdAt := some s.el, pdT1 := some (s.egressNow i), pdTwo := none }).ptpSend i true m
    else s

/-- A Pdelay_Req of the neighbour is answered with a one-step Pdelay_Resp (R317): its correction carries the turnaround. -/
def State.pdelayReqIn (s : State) (n : Nat) (x : EthIn) (o : Nat) : State :=
  if !s.p2p then s
  else
    let turn := ps16 (s.egressPs n x.tx - s.ingressPs n x.rx)
    let body := zeros 10 ++ be 10 (ptpSrc x.bytes o)
    let m := s.ptpMessage ptPDELAY_RESP 0 (ptpCorr x.bytes o + turn) (s.portId (n + 1)) (ptpSeq x.bytes o) 5 0x7F body
    s.ptpSend n true (setBytes m 4 ((x.bytes.drop (o + 4)).take 1))

/-- A Pdelay_Resp, or the follow-up of a two-step one, to the last Pdelay_Req of the port (R317). -/
def State.pdelayRespIn (s : State) (n : Nat) (x : EthIn) (o : Nat) : State :=
  let p := s.ep n
  if !s.p2p ∨ ptpReq x.bytes o ≠ s.portId (n + 1) ∨ ptpSeq x.bytes o ≠ p.pdSeq then s
  else
    match p.pdT1 with
    | none => s
    | some t1 =>
      if ptpType x.bytes o = ptPDELAY_RESP then
        let t4 := s.ingressPs n x.rx
        if ptpTwoStep x.bytes o then
          s.setEp n { p with pdTwo := some (t4, stampPs x.bytes (o + 34), corrPs (ptpCorr x.bytes o)) }
        else s.linkDelay n ((t4 - t1 - corrPs (ptpCorr x.bytes o)) / 2)
      else
        match p.pdTwo with
        | none => s
        | some (t4, t2, corr) =>
          s.linkDelay n (((t4 - t1) - (stampPs x.bytes (o + 34) - t2) - corr - corrPs (ptpCorr x.bytes o)) / 2)

/-! ### Port states and the choice of a master (R319, R320) -/

/-! IEEE 1588 port states. -/
def psDISABLED : Nat := 3
def psLISTENING : Nat := 4
def psMASTER : Nat := 6
def psPASSIVE : Nat := 7
def psSLAVE : Nat := 9

def State.ptpState (s : State) : Nat := s.fld F.ETH_PTP_STAT_PORT_STATE

/-- A change of the clock's port (R320): EV_ETH_PTP on every change of state; the PTP source ends when it leaves SLAVE. -/
def State.setPtpState (s : State) (st slavePort : Nat) : State :=
  let old := s.ptpState
  let t := (s.setFld F.ETH_PTP_STAT_PORT_STATE st).setFld F.ETH_PTP_STAT_SLAVE_PORT slavePort
  if st = old then t
  else
    let t := if old = psSLAVE then t.sourceInvalid 2 else t
    t.raise Ev.ethPtp (le 1 st ++ le 1 old ++ le 1 slavePort ++ le 1 (t.fld F.ETH_PTP_STAT_CLASS))

/-- The clock starts in its role: after a reset of the hub and when the PTP settings change. -/
def State.ptpStart (s : State) : State :=
  let ptp : PtpClock := { since := s.el, syncSeq := s.eth.ptp.syncSeq, annSeq := s.eth.ptp.annSeq, dreqSeq := s.eth.ptp.dreqSeq }
  let t : State := { s with eth := { s.eth with ptp := ptp } }
  let st := match t.fld F.ETH_PTP_CTL_ROLE with
    | 0 => psDISABLED
    | 2 => psMASTER
    | _ => psLISTENING
  t.setPtpState st 3

/-- clockAccuracy and offsetScaledLogVariance of the time state (Table 12-2). -/
def State.clockAccuracy (s : State) : Nat :=
  if s.timState = tsLOCKED then 0x21 else if s.timState = tsLOCKING ∨ s.timState = tsHOLDOVER then 0x23 else 0xFE
def State.clockVariance (s : State) : Nat := if s.timState = tsLOCKED then 0x4E5D else 0xFFFF

/-- A dataset in the order in which the best master clock algorithm compares it. -/
def dataRank (prio1 cls acc var prio2 id : Nat) : Nat :=
  ((((prio1 * 256 + cls) * 256 + acc) * 65536 + var) * 256 + prio2) * 2 ^ 64 + id

/-- The module's own dataset (Table 12-2). -/
def State.ownRank (s : State) : Nat :=
  dataRank (s.fld F.ETH_PTP_CTL_PRIO1) (clockClass s.timState) s.clockAccuracy s.clockVariance (s.fld F.ETH_PTP_CTL_PRIO2) s.clockId

/-- Whether one Announce beats another: by dataset, then by steps removed, then by sender. -/
def Announce.better (a b : Announce) : Bool :=
  a.rank < b.rank || (a.rank == b.rank && (a.steps < b.steps || (a.steps == b.steps && a.src < b.src)))

/-- The announce interval times ANN_TO, in ns. -/
def State.announceWait (s : State) : Nat := s.fld F.ETH_PTP_INT_ANN_TO * logNs (s.fld F.ETH_PTP_INT_LOG_ANN)

/-- The state the best Announce asks for (R319): a slave-only clock follows it; under the algorithm the better dataset is
master, and a clock of class up to 127 that loses is passive. -/
def State.decidePtp (s : State) (a : Announce) : State :=
  let role := s.fld F.ETH_PTP_CTL_ROLE
  if role = 1 then s.setPtpState psSLAVE a.port
  else if role = 3 then
    if s.ownRank < a.rank then s.setPtpState psMASTER 3
    else if clockClass s.timState ≤ 127 then s.setPtpState psPASSIVE 3
    else s.setPtpState psSLAVE a.port
  else s

/-- An Announce in the clock's domain (R319). -/
def State.announceIn (s : State) (n : Nat) (f : List Byte) (o : Nat) : State :=
  if s.fld F.ETH_PTP_CTL_ROLE % 2 = 0 ∨ ptpSrc f o / 65536 = s.clockId then s
  else
    let rank := dataRank (rdN f (o + 47) 1) (rdN f (o + 48) 1) (rdN f (o + 49) 1) (beNat ((f.drop (o + 50)).take 2)) (rdN f (o + 52) 1)
      (beNat ((f.drop (o + 53)).take 8))
    let a : Announce := ⟨rank, beNat ((f.drop (o + 61)).take 2), ptpSrc f o, n, s.el⟩
    let wins := match s.eth.ptp.best with
      | some b => b.src == a.src || a.better b || s.passed b.at_ s.announceWait
      | none => true
    if wins then
      ({ s with eth := { s.eth with ptp := { s.eth.ptp with best := some a } } } : State).decidePtp a
    else s

/-- PTP_ANNOUNCE_TIMEOUT (R320): announceReceiptTimeout expires and the PTP source ends; under the algorithm the module
becomes master. -/
def execPtpAnnounceTimeout (s : State) : Host.Outcome State Fault Refusal :=
  let last := match s.eth.ptp.best with
    | some b => b.at_
    | none => s.eth.ptp.since
  let role := s.fld F.ETH_PTP_CTL_ROLE
  .next <|
    if role % 2 = 1 ∧ s.passed last s.announceWait ∧ s.pwr.hubReady ∧ s.pwr.state ≠ .dormant then
      let t : State := { s with eth := { s.eth with ptp := { s.eth.ptp with best := none, since := s.el, two := none } } }
      t.setPtpState (if role = 3 then psMASTER else psLISTENING) 3
    else s

/-- PTP_CONFIG (R319, R331, Table 12-6). -/
def doPtpConfig (s : State) (_ _ : Nat) (p : List Byte) : Res :=
  withLen s 12 p <|
    if 3 < rdN p 0 1 ∨ 127 < rdN p 2 1 ∨ rdI p 5 1 < -7 ∨ 1 < rdI p 5 1 ∨ rdI p 6 1 < -3 ∨ 4 < rdI p 6 1 ∨ rdI p 7 1 < -7 ∨ 5 < rdI p 7 1
      ∨ rdN p 8 1 < 2 ∨ 10 < rdN p 8 1 then refuse s St.badParameter
    else
      let flags := rdN p 1 1
      let t := (s.setFld F.ETH_PTP_CTL_ROLE (rdN p 0 1)).setFld F.ETH_PTP_CTL_TC_EN flags
      let t := (t.setFld F.ETH_PTP_CTL_TC_MODE (flags / 2)).setFld F.ETH_PTP_CTL_TRANSPORT (flags / 4)
      let t := (t.setFld F.ETH_PTP_CTL_DOMAIN (rdN p 2 1)).setFld F.ETH_PTP_CTL_PRIO1 (rdN p 3 1)
      let t := (t.setFld F.ETH_PTP_CTL_PRIO2 (rdN p 4 1)).setFld F.ETH_PTP_INT_LOG_SYNC (rdN p 5 1)
      let t := (t.setFld F.ETH_PTP_INT_LOG_ANN (rdN p 6 1)).setFld F.ETH_PTP_INT_LOG_DREQ (rdN p 7 1)
      let t := t.setFld F.ETH_PTP_INT_ANN_TO (rdN p 8 1)
      okay ((if t.reg R.ETH_PTP_CTL = s.reg R.ETH_PTP_CTL then t else t.ptpStart).saveRegs [R.ETH_PTP_CTL, R.ETH_PTP_INT])

def opPtpConfig : Op := opH 0x0A01 1 doPtpConfig
def execPtpConfig (c : Cmd) (s : State) : Host.Outcome State Fault Refusal := .next (s.host c opPtpConfig)

/-! ### As slave (R320) -/

/-- The path delay in ps: the E2E mean path delay or the link delay of the slave port. -/
def State.pathDelay (s : State) : Int :=
  if s.p2p then (s.fld (F.ETH_P_LDELAY_LDELAY (s.fld F.ETH_PTP_STAT_SLAVE_PORT)) * 1000 : Nat)
  else signed 32 (s.fld F.ETH_PTP_DELAY_DELAY) * 1000

/-- One offset, from a Sync's origin time with all corrections and its receipt, in ps. -/
def State.syncOffset (s : State) (t1 t2 : Int) : State :=
  let t : State := { s with eth := { s.eth with ptp := { s.eth.ptp with sync := some (t1, t2), two := none } } }
  t.offerOffset 2 (t2 - (t1 + t.pathDelay))

/-- Whether a message comes from the master the clock follows. -/
def State.fromMaster (s : State) (n : Nat) (f : List Byte) (o : Nat) : Bool :=
  s.ptpState == psSLAVE && s.fld F.ETH_PTP_STAT_SLAVE_PORT == n &&
    match s.eth.ptp.best with
    | some b => b.src == ptpSrc f o
    | none => false

/-- A Sync, one-step or two-step, of the master followed. -/
def State.syncIn (s : State) (n : Nat) (x : EthIn) (o : Nat) : State :=
  if !s.fromMaster n x.bytes o then s
  else
    let t2 := s.ingressPs n x.rx
    let corr := corrPs (ptpCorr x.bytes o)
    if ptpTwoStep x.bytes o then
      { s with eth := { s.eth with ptp := { s.eth.ptp with two := some (ptpSeq x.bytes o, t2, corr) } } }
    else s.syncOffset (stampPs x.bytes (o + 34) + corr) t2

/-- The Follow_Up of a two-step Sync. -/
def State.followUpIn (s : State) (n : Nat) (x : EthIn) (o : Nat) : State :=
  if !s.fromMaster n x.bytes o then s
  else
    match s.eth.ptp.two with
    | some (seq, t2, corr) =>
      if seq = ptpSeq x.bytes o then s.syncOffset (stampPs x.bytes (o + 34) + corr + corrPs (ptpCorr x.bytes o)) t2 else s
    | none => s

/-- PTP_DELAY_REQ_SEND (R319): in E2E mode, on the slave port only. -/
def execPtpDelayReqSend (s : State) : Host.Outcome State Fault Refusal :=
  let n := s.fld F.ETH_PTP_STAT_SLAVE_PORT
  let due := match s.eth.ptp.dreqAt with
    | some t => s.passed t (logNs (s.fld F.ETH_PTP_INT_LOG_DREQ))
    | none => true
  .next <|
    if s.ptpState == psSLAVE && !s.p2p && due && n < 2 && s.ethUp n then
      let seq := (s.eth.ptp.dreqSeq + 1) % 65536
      let m := s.ptpMessage ptDELAY_REQ 0 0 (s.portId 1) seq 1 0x7F (zeros 10)
      let ptp := { s.eth.ptp with dreqSeq := seq, dreqAt := some s.el, dreq := some (seq, s.egressNow n) }
      ({ s with eth := { s.eth with ptp := ptp } } : State).ptpSend n false m
    else s

/-- A Delay_Resp to the last Delay_Req updates the mean path delay, int32 ns (R320). -/
def State.delayRespIn (s : State) (n : Nat) (x : EthIn) (o : Nat) : State :=
  if !s.fromMaster n x.bytes o ∨ ptpReq x.bytes o ≠ s.portId 1 then s
  else
    match s.eth.ptp.dreq, s.eth.ptp.sync with
    | some (seq, t3), some (t1, t2) =>
      if seq = ptpSeq x.bytes o then
        let t4 := stampPs x.bytes (o + 34) - corrPs (ptpCorr x.bytes o)
        let t := s.setFld F.ETH_PTP_DELAY_DELAY (twos 32 (satI32 (((t2 - t3) + (t4 - t1)) / 2000)))
        { t with eth := { t.eth with ptp := { t.eth.ptp with dreq := none } } }
      else s
    | _, _ => s

/-! ### As master (R319, R321) -/

/-- PTP_SYNC_SEND (R319): one-step Syncs on every enabled port, with the egress wire time of each. -/
def execPtpSyncSend (s : State) : Host.Outcome State Fault Refusal :=
  let due := match s.eth.ptp.syncAt with
    | some t => s.passed t (logNs (s.fld F.ETH_PTP_INT_LOG_SYNC))
    | none => true
  .next <|
    if s.ptpState == psMASTER && due then
      let seq := (s.eth.ptp.syncSeq + 1) % 65536
      let t : State := { s with eth := { s.eth with ptp := { s.eth.ptp with syncSeq := seq, syncAt := some s.el } } }
      let send (t : State) (n : Nat) : State :=
        let at_ := t.egressNow n
        t.ptpSend n false (t.ptpMessage ptSYNC 0 (subNs at_) (t.portId 1) seq 0 (t.fld F.ETH_PTP_INT_LOG_SYNC) (ptpStamp at_))
      send (send t 0) 1
    else s

/-- timeSource (Table 12-2). -/
def State.ptpTimeSource (s : State) : Nat :=
  match s.fld F.TIM_STAT_SOURCE with
  | 1 => 0x20
  | 2 => 0x40
  | _ => 0xA0

/-- PTP_ANNOUNCE_SEND (R321, Table 12-2). -/
def execPtpAnnounceSend (s : State) : Host.Outcome State Fault Refusal :=
  let due := match s.eth.ptp.annAt with
    | some t => s.passed t (logNs (s.fld F.ETH_PTP_INT_LOG_ANN))
    | none => true
  .next <|
    if s.ptpState == psMASTER && due then
      let seq := (s.eth.ptp.annSeq + 1) % 65536
      let locked := s.timState == tsLOCKED
      let flags := b2n (s.flag F.TIM_UTC_LEAP_PENDING) + 4 * b2n (s.flag F.TIM_UTC_VALID) + 8 + 16 * b2n locked
        + 32 * b2n (locked || s.timState == tsLOCKING)
      let body := zeros 10 ++ be 2 (s.fld F.TIM_UTC_TAI_UTC) ++ zeros 1 ++ be 1 (s.fld F.ETH_PTP_CTL_PRIO1) ++ be 1 (clockClass s.timState)
        ++ be 1 s.clockAccuracy ++ be 2 s.clockVariance ++ be 1 (s.fld F.ETH_PTP_CTL_PRIO2) ++ be 8 s.clockId ++ be 2 0 ++ be 1 s.ptpTimeSource
      let m := s.ptpMessage ptANNOUNCE flags 0 (s.portId 1) seq 5 (s.fld F.ETH_PTP_INT_LOG_ANN) body
      let t : State := { s with eth := { s.eth with ptp := { s.eth.ptp with annSeq := seq, annAt := some s.el } } }
      (t.ptpSend 0 false m).ptpSend 1 false m
    else s

/-- A Delay_Req to the module as E2E master is answered as IEEE 1588 has it. -/
def State.delayReqIn (s : State) (n : Nat) (x : EthIn) (o : Nat) : State :=
  if s.ptpState ≠ psMASTER ∨ s.p2p then s
  else
    let t4 := s.ingressPs n x.rx
    let body := ptpStamp t4 ++ be 10 (ptpSrc x.bytes o)
    s.ptpSend n false (s.ptpMessage ptDELAY_RESP 0 (ptpCorr x.bytes o - subNs t4) (s.portId 1) (ptpSeq x.bytes o) 3 0x7F body)

/-- A PTP message for the ordinary clock: of its domain and transport, while the clock is enabled (R319). -/
def State.ptpIn (s : State) (n : Nat) (x : EthIn) (tr o : Nat) : State :=
  if s.fld F.ETH_PTP_CTL_ROLE = 0 ∨ tr ≠ s.fld F.ETH_PTP_CTL_TRANSPORT ∨ rdN x.bytes (o + 4) 1 ≠ s.fld F.ETH_PTP_CTL_DOMAIN then s
  else
    match ptpType x.bytes o with
    | 0 => s.syncIn n x o
    | 1 => s.delayReqIn n x o
    | 8 => s.followUpIn n x o
    | 9 => s.delayRespIn n x o
    | 11 => s.announceIn n x.bytes o
    | _ => s

end Sys2Proof.Machine
end

