-- ==== Sys2Proof/Machine/Radio.lean ====
section
/-! DEFINITION. The radio MAC (chapter 10): slot tables and superframes, beacons and grants, downlinks, uplinks, joins,
misses and guard times, bindings, the armed stop frames and the RAD commands. -/

namespace Sys2Proof.Machine

/-! ### Slot tables (R253 to R257) -/

/-! Run types (Table 10-4). -/
def rnBEACON : Nat := 1
def rnCONTENTION : Nat := 2
def rnDOWN : Nat := 3
def rnUP : Nat := 4
def rnPOOL : Nat := 5
def rnRELAY_DN : Nat := 6
def rnRELAY_BCN : Nat := 7
def rnRELAY_UP : Nat := 8

/-- The default slot table (Table 10-5). -/
def defaultTable : List SlotEntry :=
  [⟨0, 1, 1, 1⟩, ⟨1, 4, 1, 2⟩, ⟨5, 1, 43, 5⟩, ⟨48, 32, 1, 3⟩, ⟨80, 8, 1, 6⟩, ⟨88, 8, 1, 7⟩, ⟨96, 32, 1, 4⟩, ⟨128, 8, 1, 8⟩, ⟨136, 1, 24, 5⟩]

/-- The slot table in force on a port: the default one until another is set (R256). -/
def State.tableOf (s : State) (n : Nat) : List SlotEntry := if (s.port n).table.isEmpty then defaultTable else (s.port n).table

/-- The runs of a type, as (start, span), in order of the table. -/
def runsOf (t : List SlotEntry) (type : Nat) : List (Nat × Nat) :=
  ((t.filter fun e => e.type == type).map fun e => (List.range e.count).map fun i => (e.start + i * e.span, e.span)).flatten

/-- The largest capacity among the runs of a type at a rate; `d` when the table has none. -/
def topCapacity (t : List SlotEntry) (code type d : Nat) : Nat :=
  match runsOf t type with
  | [] => d
  | l => (l.map fun r => runCapacity code r.2).foldl max 0

/-- The minimum capacity of a run of a type (Table 10-4). -/
def minCapacity (t : List SlotEntry) (code type : Nat) : Nat :=
  if type = rnBEACON then 84
  else if type = rnCONTENTION then 36
  else if type = rnDOWN then 244
  else if type = rnUP then 64
  else if type = rnRELAY_DN then topCapacity t code rnDOWN 244
  else if type = rnRELAY_BCN then topCapacity t code rnBEACON 84
  else if type = rnRELAY_UP then topCapacity t code rnUP 64
  else 0

/-- Whether two entries overlap. -/
def SlotEntry.overlaps (x y : SlotEntry) : Bool :=
  decide (x.start < y.start + y.count * y.span) && decide (y.start < x.start + x.count * x.span)

/-- Whether entry `i` of a table is right at a rate (R255): an overlap is charged to the later entry. -/
def entryOk (t : List SlotEntry) (n code i : Nat) : Bool :=
  match t[i]? with
  | none => false
  | some e =>
    let before := t.take i
    let relays : Nat := ((before ++ [e]).filter fun x => x.type == e.type).foldl (fun d x => d + x.count) 0
    decide (e.type ≤ 8) && decide (1 ≤ e.count) && decide (1 ≤ e.span) && decide (e.start + e.count * e.span ≤ n)
      && (i != 0 || e.type == rnBEACON && e.count == 1 && e.start == 0)
      && before.all (fun x => !x.overlaps e)
      && (e.type != rnPOOL || e.count == 1)
      && decide (minCapacity t code e.type ≤ runCapacity code e.span)
      && (e.type < rnRELAY_DN || decide (relays ≤ 8))

/-- The rovers bound to a port, a change of port in progress counting for the new one. -/
def State.onPort (s : State) (n : Nat) : List Nat :=
  s.boundSlots.filter fun a => (match (s.bound a).move with
    | some m => m.port
    | none => (s.bound a).port) == n

/-- The first fault of a table on a port (R257): an entry's index, 0xFE for the whole table; none when R255 holds. -/
def State.tableFault (s : State) (n code port : Nat) (t : List SlotEntry) : Option Nat :=
  match (List.range t.length).find? fun i => !entryOk t n code i with
  | some i => some i
  | none =>
    let need := (s.onPort port).length
    if (runsOf t rnCONTENTION).isEmpty ∨ (runsOf t rnDOWN).length < need ∨ (runsOf t rnUP).length < need then some 0xFE else none

/-! ### Bindings and registers -/

/-- The wake period in force of a rover (R271). -/
def State.wakeOf (s : State) (a : Nat) : Nat :=
  let b := s.bound a
  let held := b.relay < 8 || !(s.sx a).route.isEmpty || (s.liveAuth a).isSome
  let charging := match s.current a with
    | some i => (s.task i).type == tyCharge && (s.task i).state == tkWORK_D
    | none => false
  if held then 1 else if charging then orOne (min b.w (500 * oneMs / s.sfNs)) else orOne b.w

/-- Whether rover `a` is awake in superframe `f` (R271). -/
def State.awake (s : State) (a f : Nat) : Bool := (f + a) % s.wakeOf a == 0

/-- RAD_STAT and the port counts follow the bindings. -/
def State.syncRad (s : State) : State :=
  let bs := s.boundSlots.map s.bound
  let t := (s.setFld F.RAD_STAT_BOUND bs.length).setFld F.RAD_STAT_JOINED (bs.filter fun b => b.joined && !b.lost).length
  let t := t.setFld F.RAD_STAT_LOST (bs.filter (·.lost)).length
  let mask (f : Nat → Bool) : Nat := [0, 1, 2, 3].foldl (fun m n => if f n then m + 2 ^ n else m) 0
  let t := (t.setFld F.RAD_STAT_FAULT (mask fun n => s.flag (F.RAD_P_STAT_FAULT n))).setFld F.RAD_STAT_UP (mask fun n => s.flag (F.RAD_P_STAT_UP n))
  [0, 1, 2, 3].foldl (fun t n =>
    let on := s.onPort n
    (t.setFld (F.RAD_P_STAT_ROVERS n) on.length).setFld (F.RAD_P_STAT_RELAYS n) (on.filter fun a => (s.bound a).relay < 8).length) t

/-- A rover's snapshot entry is freed without a reply (R167). -/
def State.snapGone (s : State) (a : Nat) : State :=
  if (s.snap a).isSome then (s.freeSnap a).satInc F.SNP_DROP_ABANDONED else s

/-- The binding of a rover slot is removed (R283): its tasks, its ground, its snapshot entry. -/
def State.unbind (s : State) (a : Nat) : State :=
  let t := (s.setBound a {}).snapGone a
  let t : State := { t with snp := { t.snp with freed := Tbl.put none t.snp.freed a none, replies := t.snp.replies.filter fun r => r.1 != a } }
  (((t.laneInput.altLost a).dropRover a).syncSbx).syncRad

/-- A rover is declared lost (R275, Table 7-6, Table 8-4). -/
def State.loseRover (s : State) (a : Nat) : State :=
  let b := s.bound a
  let t := (s.setBound a { b with lost := true }).raise Ev.radLost (le 1 a ++ le 1 b.port ++ le 1 b.misses ++ le 1 0 ++ le 4 b.lastUp)
  let t := (((t.laneInput.altLost a).dropRover a).syncSbx).syncRad
  if b.evict.isSome then t.unbind a else t

/-- The superframe that has begun: its full number and T0. -/
def State.frame (s : State) : Option (Nat × Nat) := s.rad.t0.map fun t => (s.sfAt t, t)

/-- The site time of a slot of the superframe that has begun. -/
def slotAt (t0 slotNo : Nat) : Nat := t0 + slotNo * 312500

/-- The offset of an RPn_TXT edge in µs (R514), drawn between −AMP and +AMP for a port with slot jitter. What the LFSR steps to and the
offset that it gives are free values. -/
def State.jitter (s : State) (n : Nat) : Int × State :=
  if bit (s.fld F.TST_JIT_PORTS) n then
    let amp := min 0xFA (s.fld F.TST_JIT_AMP)
    let x := orOne (s.freeVal 16)
    (((x % (2 * amp + 1) : Nat) : Int) - amp, { s with tst := { s.tst with lfsr := x }, free := s.free + 1 })
  else (0, s)

/-- TX_LAT of profile 0x00, ns (R248). -/
def txLat : Nat := 20000

/-- A radio frame leaves on a port at a slot of the superframe that has begun: RPn_TXT rises TX_LAT before its on-air start (R249). -/
def State.radioSend (s : State) (port slotNo ftype slot sfn ttl : Nat) (body : List Byte) : State :=
  let bytes := s.radioFrame ftype slot sfn ttl body
  let t := if (s.radioKey (s.fld F.RAD_KEY_TX_KEY)).isSome then s else s.drew 1
  let (jit, t) := t.jitter port
  let start := match s.rad.t0 with
    | some t0 => slotAt t0 slotNo
    | none => s.now
  (t.emit (.radio port slotNo ((start : Int) - txLat + jit * 1000).toNat bytes)).satInc (F.RAD_P_CNT1_TX_OK (port % 4))

/-! ### Beacons and grants (R259, R266 to R268) -/

/-- The least SPAN that carries `n` MAC bytes at a rate. -/
def leastSpan (code n : Nat) : Nat := ((List.range 256).find? fun k => n ≤ runCapacity code k).getD 256

/-- Runs carved so far: pools as (next free slot, end), and the grants made. -/
structure Carve where
  pools : List (Nat × Nat)
  grants : List Grant := []

/-- Carve one run of `span` slots from the first pool that starts at or after `from_` and has room; without room nothing is
granted. -/
def Carve.take (c : Carve) (from_ span slot kind limit : Nat) : Carve :=
  let fits (p : Nat × Nat) : Bool := decide (from_ ≤ p.1) && decide (p.1 + span ≤ p.2)
  if limit ≤ c.grants.length then c
  else
    match c.pools.findIdx? fits with
    | some i =>
      match c.pools[i]? with
      | some p => { pools := c.pools.set i (p.1 + span, p.2), grants := c.grants ++ [⟨p.1, span, slot, kind⟩] }
      | none => c
    | none => c

/-- Whether a superframe holds a rover epoch that is due (R142, R272). -/
def State.dueEpoch (s : State) (a t0 : Nat) : Bool :=
  let p := epochPeriod (s.rk a).rate
  let g := t0 - gpsEpoch
  decide (ceilDiv g p * p < g + s.sfNs)

/-- The rovers of a port that the MAC serves in superframe `f`. -/
def State.served (s : State) (n f : Nat) : List Nat :=
  s.boundSlots.filter fun a => (s.bound a).port == n && !(s.bound a).lost && s.awake a f

/-- Grants in turn: passes over the rovers, each taking one run while it still wants one and holds fewer than BULK_MAX of them (R266). -/
def State.bulkTurns (s : State) (c : Carve) (rovers : List Nat) (want : Nat → Nat) (kind limit : Nat) : Nat → Nat → Carve
  | 0, _ => c
  | k + 1, pass =>
    let has (c : Carve) (a : Nat) : Nat := (c.grants.filter fun g => g.slot == a && decide (g.kind ≤ 1)).length
    let c' := rovers.foldl (fun c a =>
      if pass < want a ∧ has c a < orOne (s.fld F.RAD_CTL_BULK_MAX) then c.take 0 (orOne (s.fld F.RAD_CTL_BULK_SPAN)) a kind limit else c) c
    s.bulkTurns c' rovers want kind limit k (pass + 1)

/-- The grants of a beacon of port `n` (R266), and the rovers given a full-body run. -/
def State.carve (s : State) (n f t0 : Nat) : List Grant × List Nat :=
  let tbl := s.tableOf n
  let code := s.fld (F.RAD_P_CFG_RATE n)
  let on := s.onPort n
  let hops := (on.map fun a => (s.bound a).hops).foldl max 0
  let ext := if hops = 0 then 0 else 4
  let room := topCapacity tbl code rnBEACON 84
  let room := if hops = 0 ∨ (runsOf tbl rnRELAY_BCN).isEmpty then room else min room (topCapacity tbl code rnRELAY_BCN 84)
  let limit := (room - (84 + ext)) / 6
  let pools := (runsOf tbl rnPOOL).map fun p => (p.1, p.1 + p.2)
  let lastUp := ((runsOf tbl rnUP).map fun r => r.1 + r.2).foldl max 0
  let rovers := s.served n f
  let full := rovers.filter fun a => (s.bound a).fullReq || (s.dueEpoch a t0 && ((s.bound a).fullWant || decide (15 ≤ (s.bound a).fullCount)))
  let spanOf (a : Nat) : Nat := leastSpan code (812 + if (s.bound a).hops = 0 then 0 else 4)
  let c : Carve := { pools := pools }
  let c := full.foldl (fun c a => c.take lastUp (spanOf a) a 2 limit) c
  let given := (c.grants.map (·.slot))
  let relayOf (a : Nat) : Option Nat := on.find? fun r => (s.bound r).relay == (s.bound a).lastRelay && (s.bound a).lastRelay < 8
  let c := given.foldl (fun c a =>
    match relayOf a with
    | some r => if (s.bound a).hops = 0 then c else c.take lastUp (spanOf a) r 4 limit
    | none => c) c
  let c := (s.port n).answers.foldl (fun c _ => c.take 0 (leastSpan code 52) 255 3 limit) c
  let near := rovers.filter fun a => (s.bound a).hops == 0
  let turn := near.filter (fun a => decide ((s.port n).turn ≤ a)) ++ near.filter (fun a => decide (a < (s.port n).turn))
  let bmax := orOne (s.fld F.RAD_CTL_BULK_MAX)
  let c := s.bulkTurns c turn (fun a => (s.snp.replies.filter fun r => r.1 == a).length) 0 limit bmax 0
  let cam (a : Nat) : Nat := if (s.bound a).camVer = s.camVersion ∨ !(s.bound a).joined then 0 else bmax
  let c := s.bulkTurns c turn cam 0 limit bmax 0
  let up (a : Nat) : Nat := if (s.bound a).bulkWant then bmax else 0
  let c := s.bulkTurns c turn up 1 limit bmax 0
  (c.grants, given)

/-- The beacon body (Table 10-8). -/
def State.beaconBody (s : State) (n t0 : Nat) (grants : List Grant) : List Byte :=
  let st := s.fld F.TIM_STAT_STATE
  let noLane := !s.laneActive && !s.switching
  let noAuth := s.flag (F.RAD_P_STAT_FAULT n) || noLane || st == 0
  let flags := b2n (s.fleetStopped || noLane) + 2 * b2n s.switching + 4 * b2n noAuth + 8 * b2n (st == tsHOLDOVER || st == tsEXPIRED) + 16 * b2n s.rad.pend.isSome
  let lost := (s.boundSlots.filter fun a => (s.bound a).lost).foldl (fun m a => m + 2 ^ a) 0
  le 8 t0 ++ le 2 (s.fld F.RAD_SF_NSLOT) ++ le 1 n ++ le 1 (s.fld (F.RAD_P_CFG_RATE n)) ++ le 1 flags ++ le 1 0
    ++ le 2 (s.fld F.RAD_SF_TABLE_VER) ++ le 4 (s.fld F.STP_CNT_STOP_CNT) ++ le 2 s.camVersion ++ zeros 2
    ++ le 4 ((s.sbx.map.map (·.id)).getD 0) ++ ([0, 1, 2, 3].map fun i => le 4 (s.fld (F.STP_ROVER_STOPPED i))).flatten ++ le 16 lost
    ++ le 1 grants.length ++ zeros 3
    ++ (grants.map fun g => le 2 g.start ++ le 1 g.span ++ le 1 g.slot ++ le 1 g.kind ++ le 1 0).flatten

/-- The beacon body during a switch-over (Table 10-13): the last one with HOLD set, SLOT0_TIME updated and no grant. What the hub itself
sets of a stop stays current: STOP, STOP_CNT and the STOPPED bits (entry 172). -/
def State.holdBody (s : State) (n t0 : Nat) : List Byte :=
  let now := s.beaconBody n t0 []
  let last := (s.port n).beacon
  if last.length < 64 then now
  else
    let flags := rdN last 12 1 / 4 * 4 + 2 + rdN now 12 1 % 2
    le 8 t0 ++ (last.drop 8).take 4 ++ le 1 flags ++ (last.drop 13).take 3 ++ (now.drop 16).take 4 ++ (last.drop 20).take 8 ++ (now.drop 28).take 16
      ++ (last.drop 44).take 16 ++ zeros 4

/-- Whether a port may raise RPn_TXT: enabled, awake, its stop frame armed once, no stop transmission in progress (R250, R485),
and not in recovery (R441). -/
def State.mayTx (s : State) (n : Nat) : Bool :=
  s.flag F.RAD_CTL_EN && s.flag (F.RAD_P_CFG_EN n) && !s.flag (F.RAD_P_STAT_SLEEP n) && !s.flag (F.RAD_P_STAT_STOPPING n)
    && !(s.port n).armed.isEmpty && !s.upd.recovery

/-- The beacon of a port is built and sent (R259, R266): no run is granted during a switch-over, without site time or before
the first beacon's start-up state ends. -/
def State.beacon (s : State) (f t0 n : Nat) : State :=
  if !s.mayTx n then (s.setPort n { s.port n with grants := [] }).setFld (F.RAD_P_STAT_UP n) (if s.flag (F.RAD_P_STAT_STOPPING n) then s.fld (F.RAD_P_STAT_UP n) else 0)
  else
    let none_ := s.switching || s.fld F.TIM_STAT_STATE == 0
    let (gs, full) := if none_ then ([], []) else s.carve n f t0
    let bulk := (gs.filter fun g => g.kind ≤ 1).map (·.slot)
    let t := s.setPort n { s.port n with grants := gs, turn := match bulk.getLast? with
      | some a => a + 1
      | none => (s.port n).turn }
    let t := (s.served n f).foldl (fun t a =>
      let b := t.bound a
      let count := if s.dueEpoch a t0 then b.fullCount + 1 else b.fullCount
      t.setBound a (if full.contains a then { b with fullWant := false, fullReq := false, fullCount := 0 } else { b with fullCount := count })) t
    let hops := ((s.onPort n).map fun a => (s.bound a).hops).foldl max 0
    let body := if s.switching then s.holdBody n t0 else s.beaconBody n t0 gs
    let t := t.setPort n { t.port n with beacon := body }
    (t.radioSend n 0 ftBEACON 255 (f % 65536) hops body).setFld (F.RAD_P_STAT_UP n) 1

/-- SUPERFRAME_START (R253): once at each slot-0 instant. The timetabler, allotment and the MAC begin the superframe. -/
def State.superframeStart (s : State) : State :=
  let t0 := s.t0
  let s := if s.ttb.activate.isSome then s.boundSlots.foldl (fun t a => t.setBound a { t.bound a with camOff := 0 }) s else s
  let t := s.ttbSuperframe
  let t : State := { t with alt := { t.alt with sinceRound := t.alt.sinceRound + 1 } }
  let t : State := { t with rad := { t.rad with t0 := some t0 } }
  let t := t.boundSlots.foldl (fun t a => t.setBound a { t.bound a with heard := false }) t
  let moved := t.boundSlots.filter fun a => match (t.bound a).move with
    | some m => m.sent && decide (m.at_ ≤ t0)
    | none => false
  let t := moved.foldl (fun t a =>
    match (t.bound a).move with
    | some m => t.setBound a { t.bound a with port := m.port, dn := m.dn, up := m.up, move := none }
    | none => t) t
  let f := t.sfAt t0
  ([0, 1, 2, 3].foldl (fun t n => t.beacon f t0 n) t).syncRad

def execSuperframeStart (s : State) : Host.Outcome State Fault Refusal :=
  .next (if !s.serving ∨ s.rad.t0 = some s.t0 then s else s.superframeStart)

/-- FIRST_BEACON (R485): at the first slot-0 instant after its armed stop frame has been read back a port sends its first
beacon. -/
def execFirstBeacon (port : Fin 4) (s : State) : Host.Outcome State Fault Refusal :=
  let n := port.val
  .next <|
    if s.serving && s.mayTx n && !s.flag (F.RAD_P_STAT_FAULT n) && !s.flag (F.RAD_P_STAT_UP n) && decide (s.now < s.t0 + 312500) then
      (if s.rad.t0 = some s.t0 then (s.beacon (s.sfAt s.t0) s.t0 n).syncRad else s.superframeStart)
    else s

/-! ### Downlinks (R260, R261, R269) -/

/-- The CTL block of a DOWN (Table 10-9). -/
def State.ctlBlock (s : State) (a nsec : Nat) : List Byte :=
  let b := s.bound a
  let charge := match s.current a with
    | some i => (s.task i).type == tyCharge && (s.task i).state == tkWORK_D
    | none => false
  let flags := b2n charge + 2 * b2n b.evict.isSome + 4 * b2n (b.camVer != s.camVersion)
  le 1 b.g0 ++ le 1 (s.wakeOf a) ++ leI 2 b.d ++ le 1 (s.fixN a) ++ le 1 flags ++ le 1 nsec ++ le 1 0

/-- Sections in the order of R261, as many as fit `room` bytes: those sent, and those carried. -/
def fitSections : Nat → List Section → List Section × List Section
  | _, [] => ([], [])
  | room, x :: t =>
    if x.body.length ≤ room then
      let r := fitSections (room - x.body.length) t
      (x :: r.1, r.2)
    else ([], x :: t)

/-- An ASSIGN body (R263): `port`, runs and EFF_SFN as given. -/
def State.assignBody (s : State) (a nonce result port : Nat) (dn up : Nat × Nat) (ver eff : Nat) (tbl : List SlotEntry) : List Byte :=
  let b := s.bound a
  let rd := (runsOf tbl rnRELAY_DN).headD (0, 0)
  le 8 b.unit ++ le 4 nonce ++ le 1 result ++ le 1 a ++ le 1 port ++ le 2 dn.1 ++ le 2 up.1 ++ le 1 dn.2 ++ le 1 up.2
    ++ le 2 rd.1 ++ le 1 rd.2 ++ le 1 b.hops ++ le 1 (s.wakeOf a) ++ le 1 b.g0 ++ le 2 ver ++ le 2 eff ++ le 1 0

/-- An ASSIGN to a bound rover clears its LOST bit and its miss count (R275). -/
def State.assigned (s : State) (a : Nat) : State := s.setBound a { s.bound a with lost := false, misses := 0 }

/-- The frame of a rover's downlink run, sent at its start: an ASSIGN under R257 or R269, else a DOWN. -/
def State.downlink (s : State) (a f : Nat) : State :=
  let b := s.bound a
  let sfn := f % 65536
  let ttl := b.hops
  let send (t : State) (ftype : Nat) (body : List Byte) : State := t.radioSend b.port b.dn.1 ftype a sfn ttl body
  let hold := s.fld F.TIM_STAT_STATE == 0 || s.switching
  match (if hold then none else b.move), (if hold then none else s.rad.pend) with
  | some m, _ =>
    let eff := f + 1
    let t := (s.setBound a { b with move := some { m with sent := true, at_ := s.t0At eff } }).assigned a
    send t ftASSIGN (s.assignBody a b.nonce 2 m.port m.dn m.up (s.fld F.RAD_SF_TABLE_VER) (eff % 65536) (s.tableOf m.port))
  | none, some p =>
    let r := Tbl.get (b.dn, b.up) p.runs a
    let tbl := Tbl.get (s.tableOf b.port) p.tables b.port
    send (s.assigned a) ftASSIGN (s.assignBody a b.nonce 0 b.port r.1 r.2 p.ver (s.fld F.RAD_SF_PEND_EFF_SFN) tbl)
  | none, none =>
    if s.switching then
      let told := if bit (rdN b.ctl 5 1) 1 then b.evict.map fun n => n - 1 else b.evict
      send (s.setBound a { b with evict := told }) ftDOWN ((b.ctl.take 6 ++ zeros 6).take 6 ++ zeros 2)
    else
      let code := s.fld (F.RAD_P_CFG_RATE b.port)
      let due := sortBy (fun x y : Section => decide (x.cls < y.cls)) (b.sections.filter fun x => x.preview || !s.flag (F.RAD_P_STAT_FAULT b.port))
      let held := b.sections.filter fun x => !(x.preview || !s.flag (F.RAD_P_STAT_FAULT b.port))
      let (go, wait) := fitSections (runCapacity code b.dn.2 - (28 + if ttl = 0 then 0 else 4)) due
      let ctl := s.ctlBlock a go.length
      let left := b.evict.map fun n => n - 1
      let t := s.setBound a { b with sections := held ++ wait, ctl := ctl, evict := left }
      send t ftDOWN (ctl ++ (go.map (·.body)).flatten)

/-- DOWNLINK_RUN (R260): the run of an awake rover that is not lost, once in a superframe; without a lane there is none. -/
def execDownlinkRun (slot : Fin 128) (s : State) : Host.Outcome State Fault Refusal :=
  let a := slot.val
  let b := s.bound a
  .next <|
    match s.frame with
    | some (f, t0) =>
      if !b.bound || b.lost || b.downF == some f || !s.awake a f || decide (s.now < slotAt t0 b.dn.1) || !s.mayTx b.port
          || (!s.laneActive && !s.switching) || !s.serving then s
      else (s.downlink a f).setBound a { (s.downlink a f).bound a with downF := some f }
    | none => s

/-- The bytes of the active cam image (R233). -/
def State.camImage (s : State) : List Byte :=
  let head := [0x54, 0x43, 0x41, 0x4D, 1, 0] ++ le 2 (s.camSize / 256) ++ le 2 s.camVersion ++ zeros 6
  let body := head ++ ((List.range s.camSize).map fun i => le 2 (s.camAt i)).flatten
  body ++ le 4 (crc32c body)

/-- `n` bytes of the active cam image from an offset: entries are formed as they are sent, the CRC with the last bytes. -/
def State.camBytes (s : State) (o n : Nat) : List Byte := (s.camImage.drop o).take n

/-- BULK_DOWN_RUN (R268): the next bulk-down grant of a port: a snapshot reply if one waits, else a cam chunk. -/
def execBulkDownRun (port : Fin 4) (s : State) : Host.Outcome State Fault Refusal :=
  let n := port.val
  let q := s.port n
  .next <|
    match s.frame, q.grants.find? fun g => g.kind == 0 with
    | some (f, t0), some g =>
      if s.now < slotAt t0 g.start ∨ !s.serving then s
      else
        let t := s.setPort n { q with grants := q.grants.erase g }
        if !s.mayTx n then t
        else
          let a := g.slot
          let b := s.bound a
          match s.snp.replies.findIdx? fun r => r.1 == a with
          | some i =>
            let body := ((s.snp.replies[i]?).map (·.2)).getD []
            let t : State := { t with snp := { t.snp with replies := t.snp.replies.eraseIdx i } }
            t.radioSend n g.start ftBULK_DN a (f % 65536) 0 (le 1 2 ++ le 1 0 ++ body)
          | none =>
            if b.camVer = s.camVersion then t
            else
              let room := runCapacity (s.fld (F.RAD_P_CFG_RATE n)) g.span - 30
              let d := s.camBytes b.camOff room
              let off := if room = 0 ∨ 20 + 2 * s.camSize ≤ b.camOff + room then 0 else b.camOff + room
              let t := t.setBound a { b with camOff := off }
              t.radioSend n g.start ftBULK_DN a (f % 65536) 0 (le 1 1 ++ le 1 0 ++ le 2 s.camVersion ++ le 4 b.camOff ++ le 2 d.length ++ d)
    | _, _ => s

/-! ### Uplinks (R262, R273 to R275) -/

/-- The half-window of R273 for an uplink that starts `dt` ns after T0, in ns. -/
def Binding.window (b : Binding) (dt : Nat) : Nat := b.g0 * 10000 + b.d.natAbs * dt / 100000000

/-- The content of an UP is delivered to the lanes (R262): acknowledgements, reports, cam VERSION and observation body. -/
def State.upToLanes (s : State) (a : Nat) (p : List Byte) : State :=
  let report := rdN p 8 1
  let flags := rdN p 10 1
  let t := s.laneInput.acknowledge a (if bit report 4 then none else some (rdN p 0 2)) (if bit report 5 then none else some (rdN p 2 2))
  let t := t.camReport a (rdN p 4 2) (bit flags 3)
  let r := Tbl.get ({} : AltRover) t.alt.rovers a
  let t : State := { t with alt := { t.alt with rovers := Tbl.put {} t.alt.rovers a { r with atRest := bit flags 4 } } }
  let t := t.taskReport a (rdN p 6 2) (report % 16) (rdN p 9 1)
  let t := if bit flags 0 && t.flag F.RTK_CTL_EN then t.intake a (p.drop 12) else t
  t.syncSbx

/-- An UP of the superframe itself resets the misses; 8 in a row bring the guard base back to 60 µs (R275). -/
def Binding.received (b : Binding) : Binding :=
  let got := b.got + 1
  { b with heard := true, misses := 0, got := got, g0 := if 8 ≤ got then 6 else b.g0 }

/-- RX_LAT of profile 0x00: the air time of 48 bits plus 2 µs, in ns (R248). -/
def rxLat (code : Nat) : Nat := ceilDiv (48 * oneSec) (rateBits code) + 2000

/-- The slot at which the run of a received UP starts: the sender's full-body run or its uplink run; of a relayed copy, the relay-forward
run or the run of the last forwarder in the relay-up group (R266, R277). -/
def State.upSlot (s : State) (n : Nat) (fr : RxFrame) : Nat :=
  let gs := (s.port n).grants
  let b := s.bound fr.slot
  if fr.flood && fr.relay != 255 then
    let relay := (s.onPort n).find? fun r => (s.bound r).relay == fr.relay
    match gs.find? fun g => g.kind == 4 && some g.slot == relay with
    | some g => g.start
    | none => ((runsOf (s.tableOf n) rnRELAY_UP).getD fr.relay (b.up.1, 0)).1
  else
    match gs.find? fun g => g.kind == 2 && g.slot == fr.slot with
    | some g => g.start
    | none => b.up.1

/-- The MAC's own use of an UP of a bound rover (R249, R265, R267, R273, R275, R282). `rxts` is the RPn_RXTS stamp, a site time: less
RX_LAT it is the frame's on-air start, held against the start of its run. -/
def State.upToMac (s : State) (n : Nat) (fr : RxFrame) (rxts : Nat) (rssi : Int) (current : Bool) : State :=
  let a := fr.slot
  let b := s.bound a
  let p := fr.body
  let flags := rdN p 10 1
  let off := s.upSlot n fr * 312500
  let err : Int := (rxts : Int) - rxLat (s.fld (F.RAD_P_CFG_RATE n)) - ((s.rad.t0.getD s.t0) + off : Nat)
  let late := decide (b.window off < err.natAbs)
  let sd := rdI p 11 1
  let lim : Int := 100 * (s.fld F.RAD_GUARD_DRIFT_MAX : Int)
  let d := clampI (-lim) lim (b.d + (100 * sd - b.d) / 4)
  let b := if current then b.received else b
  let b := { b with joined := true, d := d, syncDrift := sd, rssi := rssi, lastRelay := fr.relay, upCount := min 65535 (b.upCount + 1), mistimed := if late then min 255 (b.mistimed + 1) else b.mistimed }
  let b := { b with lastUp := s.now / oneMs % 2 ^ 32, camVer := rdN p 4 2, fullReq := b.fullReq || bit flags 1, bulkWant := bit flags 2 }
  let cnt := s.fld F.STP_CNT_STOP_CNT
  let tell := bit flags 5 && b.tagFail != some cnt
  let t := s.setBound a (if tell then { b with tagFail := some cnt } else b)
  let t := if late then t.satInc (F.RAD_P_CNT0_MISTIMED n) else t
  let t := if tell then t.raise Ev.radStoptag (le 1 a ++ zeros 3 ++ le 4 cnt) else t
  t.syncRad

/-- UP_FRAME_RECEIVE (R262, R278, R282). -/
def execUpFrameReceive (port : Fin 4) (bytes : List Byte) (rxts : Nat) (rssi : Int) (s : State) : Host.Outcome State Fault Refusal :=
  let n := port.val
  .next <|
    match s.rxCheck n bytes with
    | (t, some f) =>
      if f.ftype ≠ ftUP ∨ !f.up ∨ !(t.bound f.slot).bound ∨ f.body.length < 12 then t
      else
        let key := (f.ftype * 256 + f.slot) * 65536 + f.msg
        let relayed := f.flood && f.relay != 255
        if relayed && t.rad.seen.contains key then t.satInc (F.RAD_P_CNT0_DUP n)
        else
          let t : State := if relayed then { t with rad := { t.rad with seen := (key :: t.rad.seen).take 1024 } } else t
          let current := match t.frame with
            | some (fn, _) => fn % 65536 == f.sfn
            | none => false
          let t := t.upToMac n f rxts rssi current
          if t.anyLane || t.switching then t.upToLanes f.slot f.body else t
    | (t, none) => t

/-- RADIO_RX_ERROR (R248): a frame whose CRC-16 failed. -/
def execRadioRxError (port : Fin 4) (s : State) : Host.Outcome State Fault Refusal :=
  .next (if s.flag (F.RAD_P_CFG_EN port.val) && s.pwr.hubReady then s.satInc (F.RAD_P_CNT0_RX_ERR port.val) else s)

/-- UPLINK_MISS (R275): at the end of a superframe, for a joined rover that was awake and was not heard; 2 in a row double its
guard base, 4 declare it lost. -/
def execUplinkMiss (slot : Fin 128) (s : State) : Host.Outcome State Fault Refusal :=
  let a := slot.val
  let b := s.bound a
  .next <|
    match s.frame with
    | some (f, t0) =>
      if !b.bound || !b.joined || b.lost || b.heard || b.missF == some f || !s.awake a f || decide (s.now < t0 + s.sfNs) || !s.serving then s
      else
        let m := b.misses + 1
        let dbl := m == s.fld F.RAD_GUARD_MISS_DBL
        let b : Binding := { b with misses := m, got := 0, missF := some f, g0 := if dbl then 12 else b.g0 }
        let t := s.setBound a b
        let t := if dbl then t.raise Ev.radGuard (le 1 a ++ le 1 b.g0 ++ le 1 m ++ le 1 0 ++ leI 2 b.d) else t
        if s.fld F.RAD_GUARD_MISS_LOST ≤ m then t.loseRover a else t
    | none => s

/-! ### Joining (R270) -/

/-- The slot bound to a UNIT_ID. -/
def State.slotOf (s : State) (unit : Nat) : Option Nat := s.boundSlots.find? fun a => (s.bound a).unit == unit

/-- JOIN_RECEIVE (R270): the JOIN is matched to a binding and an answer prepared; an unbound unit raises EV_RAD_JOIN. -/
def execJoinReceive (port : Fin 4) (bytes : List Byte) (s : State) : Host.Outcome State Fault Refusal :=
  let n := port.val
  .next <|
    match s.rxCheck n bytes with
    | (t, some f) =>
      if f.ftype ≠ ftJOIN ∨ f.body.length ≠ 16 ∨ !t.flag F.RAD_CTL_JOIN_EN ∨ t.fld F.TIM_STAT_STATE = 0 then t
      else
        let unit := rdN f.body 0 8
        let nonce := rdN f.body 12 4
        let rejoin := bit (rdN f.body 11 1) 0
        let q := t.port n
        match t.slotOf unit with
        | some a =>
          let b := t.bound a
          let t := t.setBound a { b with nonce := nonce, camVer := rdN f.body 8 2 }
          t.setPort n { q with answers := q.answers ++ [⟨n, unit, nonce, if b.port = n then 0 else 2, a, rejoin⟩] }
        | none =>
          let t := t.raise Ev.radJoin (le 1 2 ++ le 1 255 ++ le 6 unit)
          t.setPort n { q with answers := q.answers ++ [⟨n, unit, nonce, 1, 255, rejoin⟩] }
    | (t, none) => t

/-- JOIN_ANSWER (R270, R275): the ASSIGN of the oldest answer leaves in the next join-answer grant of the port. -/
def execJoinAnswer (port : Fin 4) (s : State) : Host.Outcome State Fault Refusal :=
  let n := port.val
  let q := s.port n
  .next <|
    match s.frame, q.grants.find? (fun g => g.kind == 3), q.answers with
    | some (f, t0), some g, x :: rest =>
      if s.now < slotAt t0 g.start ∨ !s.serving then s
      else
        let t := s.setPort n { q with grants := q.grants.erase g, answers := rest }
        if !s.mayTx n then t
        else
          let ver := s.fld F.RAD_SF_TABLE_VER
          if x.result = 1 ∨ !(s.bound x.slot).bound then
            let body := le 8 x.unit ++ le 4 x.nonce ++ le 1 1 ++ le 1 255 ++ le 1 n ++ zeros 12 ++ le 2 ver ++ le 2 f ++ le 1 0
            (t.radioSend n g.start ftASSIGN 255 (f % 65536) 0 body).satInc F.RAD_JOIN_CNT_REFUSED
          else
            let a := x.slot
            let b := s.bound a
            let body := s.assignBody a x.nonce x.result b.port b.dn b.up ver (f % 65536) (s.tableOf b.port)
            let t := (t.radioSend n g.start ftASSIGN a (f % 65536) 0 body).satInc F.RAD_JOIN_CNT_ACCEPTED
            let t := (t.assigned a).setBound a { (t.assigned a).bound a with joined := true, got := 0 }
            (t.raise Ev.radJoin (le 1 (b2n x.rejoin) ++ le 1 a ++ le 6 x.unit)).syncRad
    | _, _, _ => s

/-- EVICTION_COMPLETE (R283): after 3 DOWN frames with EVICTED, or once the rover is lost. -/
def execEvictionComplete (slot : Fin 128) (s : State) : Host.Outcome State Fault Refusal :=
  let b := s.bound slot.val
  .next (if b.bound && (b.evict == some 0 || (b.evict.isSome && b.lost)) then s.unbind slot.val else s)

/-! ### The switch of tables (R257) -/

/-- EV_RAD_TABLE: kind 0 accepted, 1 in force. -/
def State.tableEvent (s : State) (ver eff n kind : Nat) : State :=
  s.raise Ev.radTable (le 2 ver ++ le 2 eff ++ le 2 n ++ le 1 kind)

/-- SLOT_TABLE_SWITCH (R257): a pending table comes into force at its switch instant; one whose instant has passed, in a restart, at a
slot-0 instant of its period. -/
def execSlotTableSwitch (s : State) : Host.Outcome State Fault Refusal :=
  .next <|
    match s.rad.pend with
    | some p =>
      let period := superframeNs p.n
      let past := decide (p.at_ + period ≤ s.now) && decide (312500 ≤ (s.now - gpsEpoch) % orOne period)
      if s.now < p.at_ ∨ past ∨ !s.serving then s
      else
        let t := (s.setFld F.RAD_SF_TABLE_VER p.ver).setFld F.RAD_SF_NSLOT p.n
        let eff := t.fld F.RAD_SF_PEND_EFF_SFN
        let t := (t.setFld F.RAD_SF_PEND_PENDING 0).setFld F.RAD_SF_PEND_NSLOT 0
        let t : State := { t with rad := { t.rad with pend := none } }
        let t := p.tables.foldl (fun t x => t.setPort x.1 { t.port x.1 with table := x.2, grants := [] }) t
        let t := t.boundSlots.foldl (fun t a =>
          let b := t.bound a
          let r := Tbl.get (b.dn, b.up) p.runs a
          match b.move with
          | some m => t.setBound a { b with port := m.port, dn := r.1, up := r.2, move := none }
          | none => t.setBound a { b with dn := r.1, up := r.2 }) t
        t.tableEvent p.ver eff p.n 1
    | none => s

/-! ### Armed stop frames (R250, R251) -/

/-- What a transceiver answers to READ_STOP and STATUS: its armed frame and status bits (Table 10-3); none without an
answer. -/
abbrev ReadBack := Option (List Byte × Nat)

/-- The fault a read-back shows (R251): the cause of EV_RAD_PORT, none when the port is sound. -/
def State.armFault (s : State) (n : Nat) (back : ReadBack) : Option Nat :=
  match back with
  | none => some 3
  | some (f, st) => if f ≠ (s.port n).armed then some 0 else if !bit st 3 then some 1 else if bit st 5 then some 2 else none

/-- A port's state after a read-back: entry to fault and recovery raise EV_RAD_PORT. -/
def State.assess (s : State) (n : Nat) (back : ReadBack) : State :=
  let was := s.flag (F.RAD_P_STAT_FAULT n)
  match s.armFault n back with
  | some c =>
    let t := (s.setFld (F.RAD_P_STAT_FAULT n) 1).setFld (F.RAD_P_STAT_ARM_OK n) 0
    (if was then t else t.raise Ev.radPort (le 1 n ++ le 1 c)).syncRad
  | none =>
    let ok := b2n ((s.port n).armed == s.nextStopFrame)
    let t := (s.setFld (F.RAD_P_STAT_FAULT n) 0).setFld (F.RAD_P_STAT_ARM_OK n) ok
    (if was then t.raise Ev.radPort (le 1 n ++ le 1 4) else t).syncRad

/-- Whether the MAC can exchange with a transceiver now. -/
def State.portReady (s : State) (n : Nat) : Bool :=
  s.flag (F.RAD_P_CFG_EN n) && s.pwr.hubReady && !s.flag (F.RAD_P_STAT_SLEEP n) && !s.flag (F.RAD_P_STAT_STOPPING n)

/-- STOP_FRAME_ARM (R251, R264, R294): the frame of the next firing is armed and read back. -/
def execStopFrameArm (port : Fin 4) (back : ReadBack) (s : State) : Host.Outcome State Fault Refusal :=
  let n := port.val
  .next <|
    if !s.portReady n then s
    else
      let f := s.nextStopFrame
      let t := (s.setPort n { s.port n with armed := f }).emit (.xcvr n "ARM_STOP" (le 1 f.length ++ f))
      (t.setFld (F.RAD_P_ARM_STOP_CNT n) (s.fld F.STP_CNT_STOP_CNT + 1)).assess n back

/-- ARM_READBACK (R251): once a second. -/
def execArmReadback (port : Fin 4) (back : ReadBack) (s : State) : Host.Outcome State Fault Refusal :=
  .next (if s.portReady port.val && !(s.port port.val).armed.isEmpty then s.assess port.val back else s)

/-- STP_TX_REPEAT (R250): the second and third edges on every enabled port as they fall due; after the third transmission
RPn_TXT is allowed again. -/
def execStpTxRepeat (s : State) : Host.Outcome State Fault Refusal :=
  .next <| [0, 1, 2, 3].foldl (fun t n =>
    let q := t.port n
    if q.edges = 0 ∨ t.el < q.edgeAt then t
    else if q.edges < 3 then
      let gap := if q.edges = 2 then 100000 + airNs (t.fld (F.RAD_P_CFG_RATE n)) 18 else t.edgeGap n
      (t.emit (.stpTx n)).setPort n { q with edges := q.edges + 1, edgeAt := q.edgeAt + gap }
    else (t.setPort n { q with edges := 0 }).setFld (F.RAD_P_STAT_STOPPING n) 0) s

/-- RAD_CNT_CLR (R286). -/
def State.radCntClr (s : State) : State :=
  s.resetRegs ([R.RAD_JOIN_CNT] ++ ([0, 1, 2, 3].map fun n => [R.RAD_P_CNT0 n, R.RAD_P_CNT1 n]).flatten)
def execRadCntClr (s : State) : Host.Outcome State Fault Refusal := .next s.radCntClr

/-! ### Commands (R284, R285) -/

/-- RAD_PORT_CONFIG (R248, R284). The image carries profile 0x00 only. -/
def doRadPortConfig (s : State) (_ _ : Nat) (p : List Byte) : Res :=
  withLen s 8 p <|
    let n := rdN p 0 1
    let code := rdN p 2 1
    let pend := match s.rad.pend with
      | some q => (s.tableFault q.n code n (Tbl.get (s.tableOf n) q.tables n)).isSome
      | none => false
    if 3 < n ∨ rdN p 1 1 ≠ 0 ∨ 7 < code ∨ 1 < rdN p 5 1 then refuse s St.badParameter
    else if (s.tableFault (s.fld F.RAD_SF_NSLOT) code n (s.tableOf n)).isSome || pend then refuse s St.wrongState
    else if !(s.onPort n).isEmpty && !s.fleetHeld then refuse s St.fleetNotStopped
    else
      let en := rdN p 5 1
      let t := ((s.setFld (F.RAD_P_CFG_PROFILE n) 0).setFld (F.RAD_P_CFG_RATE n) code).setFld (F.RAD_P_CFG_CHANNEL n) (rdN p 3 1)
      let t := ((t.setFld (F.RAD_P_CFG_TXPWR n) (rdN p 4 1)).setFld (F.RAD_P_CFG_EN n) en).saveRegs [R.RAD_P_CFG n]
      let t := if s.flag (F.RAD_P_CFG_EN n) && en == 1 then t
        else (t.resetRegs [R.RAD_P_STAT n, R.RAD_P_ARM n]).setPort n { s.port n with armed := [], grants := [], edges := 0 }
      let t := if en = 1 then t.emit (.xcvr n "CONFIG" (le 1 code ++ le 1 (rdN p 3 1) ++ le 1 (rdN p 4 1))) else t
      okWith t.syncRad (le 1 phyOh ++ le 2 (runCapacity code 1) ++ le 1 0)
def opRadPortConfig : Op := opH 0x0900 1 doRadPortConfig
def execRadPortConfig (c : Cmd) (s : State) : Host.Outcome State Fault Refusal := .next (s.host c opRadPortConfig)

/-- The entries of a RAD_SUPERFRAME_SET payload; one whose last byte is not 0 has no type (R255). -/
def parseTable (p : List Byte) (n : Nat) : List SlotEntry :=
  (List.range n).map fun i => ⟨rdN p (6 * i) 2, rdN p (6 * i + 2) 1, rdN p (6 * i + 3) 1, if rdN p (6 * i + 5) 1 = 0 then rdN p (6 * i + 4) 1 else 255⟩

/-- The runs of the rovers bound, taken afresh from a table in slot order (R257, R269). -/
def State.newRuns (s : State) (tables : Tbl (List SlotEntry)) : Tbl ((Nat × Nat) × (Nat × Nat)) :=
  [0, 1, 2, 3].foldl (fun m n =>
    let tbl := Tbl.get (s.tableOf n) tables n
    (s.onPort n).zipIdx.foldl (fun m a => m.insert a.1 ((runsOf tbl rnDOWN).getD a.2 (0, 0), (runsOf tbl rnUP).getD a.2 (0, 0))) m) []

/-- The switch instant of a table accepted now (R257), in site time. -/
def State.switchAt (s : State) (n : Nat) : Nat :=
  let w := (s.boundSlots.map s.wakeOf).foldl max 1
  let l := Nat.lcm (Nat.lcm s.sfNs (superframeNs n)) oneSec
  gpsEpoch + ceilDiv (s.now + (w + 2) * s.sfNs - gpsEpoch) l * l

/-- The epoch rate code in force once a pending SKY_CONFIG has taken effect, which is no later than any table switch (R23). -/
def State.rateToCome (s : State) : Nat := (s.sky.cfgPend.map fun c => c.2.1).getD (s.fld F.SKY_CTL_EPOCH_RATE)

/-- What fails in a table set (R257): 0xFF for N, mask or NENT, an entry's index, 0xFE for a whole table. -/
def State.tableSetFault (s : State) (n mask nent : Nat) (tbl : List SlotEntry) : Option Nat :=
  if n < 64 ∨ 640 < n ∨ !periodsAgree (epochPeriod s.rateToCome) (superframeNs n) ∨ mask = 0 ∨ 15 < mask ∨ nent = 0 ∨ 32 < nent
      ∨ (n ≠ s.fld F.RAD_SF_NSLOT ∧ mask ≠ 15) then some 0xFF
  else
    let faults := ([0, 1, 2, 3].filter fun i => bit mask i).filterMap fun i => s.tableFault n (s.fld (F.RAD_P_CFG_RATE i)) i tbl
    if faults.isEmpty then none else some (faults.foldl min 0xFE)

/-- RAD_SUPERFRAME_SET (R257). -/
def doRadSuperframeSet (s : State) (_ _ : Nat) (p : List Byte) : Res :=
  let n := rdN p 0 2
  let mask := rdN p 2 1
  let nent := rdN p 3 1
  let tbl := parseTable (p.drop 4) nent
  let ver := match s.rad.pend with
    | some q => q.ver
    | none => s.fld F.RAD_SF_TABLE_VER
  if p.length ≠ 4 + 6 * nent then refuse s St.badLength
  else if !s.fleetHeld then refuse s St.fleetNotStopped
  else
    match s.tableSetFault n mask nent tbl with
    | some e => (s, some ⟨St.badParameter, le 2 ver ++ le 2 (s.fld F.RAD_SF_PEND_EFF_SFN) ++ le 1 e ++ zeros 3⟩)
    | none =>
      let old := match s.rad.pend with
        | some q => if q.n = n then q.tables else []
        | none => []
      let tables := ([0, 1, 2, 3].filter fun i => bit mask i).foldl (fun t i => t.insert i tbl) old
      let ver := (ver + 1) % 65536
      let at_ := s.switchAt n
      let eff := (at_ - gpsEpoch) / superframeNs n % 65536
      let t : State := { s with rad := { s.rad with pend := some ⟨n, ver, at_, tables, s.newRuns tables⟩ } }
      let t := ((t.setFld F.RAD_SF_PEND_EFF_SFN eff).setFld F.RAD_SF_PEND_PENDING 1).setFld F.RAD_SF_PEND_NSLOT n
      okWith (t.tableEvent ver eff n 0) (le 2 ver ++ le 2 eff ++ le 1 255 ++ zeros 3)
def opRadSuperframeSet : Op := opH 0x0901 1 doRadSuperframeSet
def execRadSuperframeSet (c : Cmd) (s : State) : Host.Outcome State Fault Refusal := .next (s.host c opRadSuperframeSet)

/-- The lowest run of a type of a table that no other rover of the port uses. -/
def lowestFree (tbl : List SlotEntry) (type : Nat) (used : List (Nat × Nat)) : Option (Nat × Nat) :=
  (sortBy (fun x y : Nat × Nat => decide (x.1 < y.1)) (runsOf tbl type)).find? fun r => !used.contains r

/-- The runs in use on a port by rovers other than `a`: downlink and uplink. -/
def State.runsUsed (s : State) (n a : Nat) : List ((Nat × Nat) × (Nat × Nat)) :=
  ((s.boundSlots.filter (· != a)).map fun x =>
    let b := s.bound x
    (if b.port = n then [(b.dn, b.up)] else []) ++ (match b.move with
      | some m => if m.port = n then [(m.dn, m.up)] else []
      | none => [])).flatten

/-- Free runs of a port for rover `a`, and under a pending table as well (R269, R257). -/
def State.freeRuns (s : State) (n a : Nat) : Option (((Nat × Nat) × (Nat × Nat)) × Option ((Nat × Nat) × (Nat × Nat))) :=
  let pick (tbl : List SlotEntry) (used : List ((Nat × Nat) × (Nat × Nat))) : Option ((Nat × Nat) × (Nat × Nat)) :=
    match lowestFree tbl rnDOWN (used.map (·.1)), lowestFree tbl rnUP (used.map (·.2)) with
    | some d, some u => some (d, u)
    | _, _ => none
  match pick (s.tableOf n) (s.runsUsed n a) with
  | none => none
  | some now =>
    match s.rad.pend with
    | none => some (now, none)
    | some p =>
      let used := ((s.onPort n).filter (· != a)).map fun x => Tbl.get ((0, 0), (0, 0)) p.runs x
      match pick (Tbl.get (s.tableOf n) p.tables n) used with
      | some r => some (now, some r)
      | none => none

/-- The runs a rover is to use under a pending table. -/
def State.pendRuns (s : State) (a : Nat) (r : Option ((Nat × Nat) × (Nat × Nat))) : State :=
  match s.rad.pend, r with
  | some p, some x => { s with rad := { s.rad with pend := some { p with runs := p.runs.insert a x } } }
  | _, _ => s

/-- A new assignment under R141 and R177: the filter is created again and the IDs restart. -/
def State.newRover (s : State) (a : Nat) : State :=
  let t := if (s.bound a).bound then (s.altLost a).dropRover a else s
  let t := t.newFilter a
  let t := (t.renewIds a).setProf a {}
  let t : State := { t with ttb := { t.ttb with sent := Tbl.put {} t.ttb.sent a {} } }
  let t : State := { t with snp := { t.snp with freed := Tbl.put none t.snp.freed a none } }
  { t with alt := { t.alt with rovers := Tbl.put {} t.alt.rovers a {} } }

/-- RAD_ROVER_ASSIGN (R269, R277, R285). -/
def doRadRoverAssign (s : State) (_ _ : Nat) (p : List Byte) : Res :=
  withLen s 16 p <|
    let a := rdN p 0 1
    let n := rdN p 1 1
    let unit := rdN p 2 8
    let relay := rdN p 10 1
    let hops := rdN p 11 1
    let w := rdN p 12 1
    let b := s.bound a
    let same := b.bound && b.unit == unit
    let target := match b.move with
      | some m => m.port
      | none => b.port
    let keep := same && target == n
    let clash := relay < 8 && (s.onPort n).any fun x => x != a && (s.bound x).relay == relay
    let reply (t : State) (dn up : Nat × Nat) : Res := okWith t.syncRad (le 2 dn.1 ++ le 2 up.1)
    if 127 < a ∨ 3 < n ∨ (7 < relay ∧ relay ≠ 255) ∨ 7 < hops ∨ w = 0 then refuse s St.badParameter
    else if clash then refuse s St.wrongState
    else if keep then
      let t := s.setBound a { b with relay := relay, hops := hops, w := w, evict := none }
      match b.move with
      | some m => reply t m.dn m.up
      | none => reply t b.dn b.up
    else
      match s.freeRuns n a with
      | none => refuse s St.wrongState
      | some (r, r') =>
        if same then
          let b' : Binding := { b with relay := relay, hops := hops, w := w, evict := none }
          let t := if b.joined && !b.lost then s.setBound a { b' with move := some ⟨n, r.1, r.2, s.now, false⟩ }
            else s.setBound a { b' with port := n, dn := r.1, up := r.2, move := none }
          reply (t.pendRuns a r') r.1 r.2
        else
          let t := s.newRover a
          let d : Int := 100 * (s.fld F.RAD_GUARD_DRIFT_INIT : Int)
          let fresh : Binding := { bound := true, unit := unit, port := n, relay := relay, hops := hops, w := w, dn := r.1, up := r.2, d := d }
          reply ((t.setBound a fresh).pendRuns a r') r.1 r.2
def opRadRoverAssign : Op := opL 0x0902 1 doRadRoverAssign
def execRadRoverAssign (c : Cmd) (s : State) : Host.Outcome State Fault Refusal := .next (s.host c opRadRoverAssign)

/-- RAD_ROVER_EVICT (R283): EVICTED in the next 3 DOWN frames; a lost rover's binding goes at once. -/
def doRadRoverEvict (s : State) (_ _ : Nat) (p : List Byte) : Res :=
  withLen s 4 p <|
    let a := rdN p 0 1
    let b := s.bound a
    if 127 < a ∨ !b.bound then refuse s St.badParameter
    else if b.lost then okay (s.unbind a)
    else okay ((s.setBound a { b with evict := some (b.evict.getD 3) }).snapGone a)
def opRadRoverEvict : Op := opL 0x0903 1 doRadRoverEvict
def execRadRoverEvict (c : Cmd) (s : State) : Host.Outcome State Fault Refusal := .next (s.host c opRadRoverEvict)

/-- One entry of RAD_GET_LINK (Table 10-15). -/
def State.linkBytes (s : State) (a : Nat) : List Byte :=
  let b := s.bound a
  let st := if !b.bound then 0 else if b.lost then 3 else if b.joined then 2 else 1
  le 1 a ++ le 1 b.port ++ le 1 st ++ le 1 b.misses ++ le 1 b.g0 ++ le 1 b.w ++ leI 2 b.d ++ leI 1 b.syncDrift ++ leI 1 b.rssi
    ++ le 1 b.lastRelay ++ le 1 b.hops ++ le 2 b.upCount ++ le 1 b.mistimed ++ le 1 0 ++ le 4 b.lastUp

/-- RAD_GET_LINK (R285). -/
def doRadGetLink (s : State) (_ _ : Nat) (p : List Byte) : Res :=
  withLen s 4 p <|
    let a := rdN p 0 1
    let n := rdN p 1 1
    if n = 0 ∨ 32 < n ∨ 128 < a + n then refuse s St.badParameter
    else okWith s ((List.range n).map fun i => s.linkBytes (a + i)).flatten
def opRadGetLink : Op := opH 0x0904 0 doRadGetLink
def execRadGetLink (c : Cmd) (s : State) : Host.Outcome State Fault Refusal := .next (s.host c opRadGetLink)

end Sys2Proof.Machine
end

