-- ==== Sys2Proof/Machine/Restart.lean ====
section
/-! DEFINITION. Resets of the hub and its start (R439, R440, R445, R476 to R480, R485): what a reset leaves (Table 18-4), the
choice of the bank, and what the hub does until it is ready. -/

namespace Sys2Proof.Machine

/-! ### Supply bits -/

/-- Whether the module is powered. -/
def State.powered (s : State) : Bool := s.pwr.state != .off && s.pwr.state != .backup

/-- PWR_STAT.STATE, REF_OK, PG and PWR_GOOD (R477, Table 18-8). -/
def State.syncPwr (s : State) : State :=
  let ref := s.powered && s.pwr.refLostAt.isNone
  let pg := ref && !s.pwr.resetHeld
  let t : State := { s with pins := { s.pins with pwrGood := pg } }
  let t := (t.setFld F.PWR_STAT_STATE (b2n (s.pwr.state == .doze))).setFld F.PWR_STAT_REF_OK (b2n ref)
  (t.setFld F.PWR_STAT_PG (b2n pg)).setFld F.PWR_STAT_WARN (b2n s.pwr.dipSince.isSome)

/-! ### What a reset of the hub leaves (Table 18-4) -/

/-- An address of the TIM block. -/
def inTim (a : Nat) : Bool := decide (0x140000 ≤ a) && decide (a < 0x180000)

/-- Registers that show a measurement or what the NOR settings hold, and so stand as they are: PWR_SUP, PWR_SUP2, RAD_SF. -/
def standing : List Nat := [R.PWR_SUP, R.PWR_SUP2, R.RAD_SF, R.RAD_SF_PEND]

/-- The value of a register after a reset: `soft` for the codes 4 to 7, which keep the TIME domain and the ST fields; the TST
block locks at every reset (R510). -/
def afterReset (soft : Bool) (a : Nat) (v : Word) : Word :=
  if 0x4C0000 ≤ a then regReset a
  else if standing.contains a ∨ (soft = true ∧ inTim a = true) then v else if soft then keepSt a v else regReset a

/-- What the NOR settings hold of a binding (R269). -/
def Binding.kept (b : Binding) : Binding :=
  if b.bound then { bound := true, unit := b.unit, port := b.port, relay := b.relay, hops := b.hops, w := b.w, dn := b.dn, up := b.up, move := b.move } else {}

/-- The time engine after a reset: the TIME domain goes on, or the counter restarts from the always-on seconds counter (R99);
the model's elapsed time never restarts. -/
def State.timeAfter (s : State) (soft : Bool) : TimeSt :=
  if soft then
    { s.time with inputSeq := 0, restep := [], gnss := { s.time.gnss with validSince := none }, ptp := { s.time.ptp with validSince := none } }
  else { elapsed := s.time.elapsed, ext := s.vbat.secs.getD 0 * oneSec * 2 ^ 32 % 2 ^ 96, lastSecond := s.vbat.secs.getD 0 }

/-- A reset of the hub and both lanes, of a kind of Table 18-3 (R478, R479): it starts with RESET in force, STOP_OUT active and
the lanes in reset. -/
def State.hubReset (s : State) (soft : Bool) (kind : Nat) : State :=
  let regs := s.regs.foldl (fun m p => Tbl.put (regReset p.1) m p.1 (afterReset soft p.1 p.2)) []
  let rovers := (s.rad.rovers.filter fun p => p.2.bound).map fun p => (p.1, p.2.kept)
  let ports := (s.rad.ports.filter fun p => !p.2.table.isEmpty).map fun p => (p.1, ({ table := p.2.table } : RadPort))
  let time := s.timeAfter soft
  let now := time.ext / 2 ^ 32 % 2 ^ 64
  let pwr : Pwr := { resetAt := s.el, kind := kind, resetHeld := s.pwr.resetHeld, brown := s.pwr.brown, dipSince := s.pwr.dipSince, dipMin := s.pwr.dipMin, lowAt := s.pwr.lowAt, refLostAt := s.pwr.refLostAt, voutOffAt := s.pwr.voutOffAt, supplyOn := s.pwr.supplyOn, aboveAt := s.pwr.aboveAt }
  let frozen := s.flag F.CBK_STAT_FROZEN
  let t : State :=
    { pending := s.pending, free := s.free, outs := s.outs, regs := regs, pins := { s.pins with irq0 := false, irq1 := false, stopOutA := true, stopOutB := true }
      time := time
      sky := { base := s.sky.basePend.orElse fun _ => s.sky.base, rtcm := s.sky.rtcm, lastEpoch := now }
      rtk := { classes := s.rtk.classes, clsOf := s.rtk.clsOf, origin := s.rtk.origin, lastCycle := now }
      sbx := { norMap := s.sbx.norMap }
      ttb := { classes := s.ttb.classes, clsOf := s.ttb.clsOf, norCam := s.ttb.norCam, profiles := s.ttb.profiles, commitAt := now }
      stp := { norCnt := s.stp.norCnt, inactiveA := some s.el, inactiveB := some s.el }
      rad := { rovers := rovers, ports := ports, pend := s.rad.pend }
      fuses := s.fuses
      sec := { live := s.sec.live, late := s.sec.late }
      upd := { banks := s.upd.banks, boot := s.upd.boot, oldVintage := s.upd.oldVintage, oldFmt := s.upd.oldFmt }
      cbk := { circ := s.cbk.circ, erased := s.cbk.erased, taken := s.cbk.taken, perm := s.cbk.perm, next := s.cbk.next, freezeLost := frozen || s.cbk.freezeLost }
      pwr := pwr, vbat := s.vbat, nor := s.nor }
  let u := (t.setFld F.STP_LATCH_SEEN (withBit (t.fld F.STP_LATCH_SEEN) srcRESET true)).setFld F.TIM_STAT_COARSE
    (if soft then t.fld F.TIM_STAT_COARSE else b2n s.vbat.secs.isSome)
  let stands := [F.PWR_STAT_VBAT_LOW, F.PWR_STAT_HOLD_OK, F.PWR_STAT_HOT].foldl (fun u f => u.setFld f (s.fld f)) u
  stands.syncPwr

/-! ### The boot ROM (R440, R441) -/

/-- Whether a bank passes the boot ROM's checks: an image, its signature and hashes (`ok`), and the vintage floor. -/
def State.bankOk (s : State) (b : Nat) (ok : Bool) : Bool :=
  match Tbl.get none s.upd.banks b with
  | some i => ok && decide (s.fuses.floor ≤ i.vintage / 2 ^ 24)
  | none => false

/-- The newest boot record. -/
def State.bootRec (s : State) : BootRec := (s.upd.boot.head?).getD { seq := 0, bank := 0, confirmed := true }

/-- A boot record is written. -/
def State.writeBoot (s : State) (b : BootRec) : State := { s with upd := { s.upd with boot := (b :: s.upd.boot).take 64 } }

/-- The bank that starts: the one the newest record names, else the other one when that has failed its checks or has been
tried twice without confirmation; none when neither passes. The result says whether the start falls back. -/
def State.bootChoice (s : State) (ok : Nat → Bool) : Option (Nat × Bool) :=
  let r := s.bootRec
  let tired := !r.confirmed && decide (2 ≤ r.tries)
  if s.bankOk r.bank (ok r.bank) && !tired then some (r.bank, false)
  else if s.bankOk (1 - r.bank) (ok (1 - r.bank)) then some (1 - r.bank, true)
  else none

/-- EV_UPD_DECANT of a fallback, and UPD_STAT.FELL_BACK and FALLBACKS. -/
def State.fellBack (s : State) : State :=
  let t := (s.setFld F.UPD_STAT_FELL_BACK 1).satInc F.UPD_CNT_FALLBACKS
  t.decantEvent 2 0 0 s.upd.oldVintage (t.fld F.UPD_VINT_ACT_VINTAGE)

/-! ### Settings at a format change (R445, Table 16-11) -/

/-- Whether the running image has another settings format than the last confirmed one. -/
def State.formatChanged (s : State) : Bool := s.upd.unconfirmed && s.fld F.UPD_FMT_ACTIVE != s.upd.oldFmt

/-- The hub registers of Table 16-11, but for the calibration: MTR settings, the power cap, and STP_CTL. -/
def formatRegs : List Nat := mtrConfigRegs.map (·.1) ++ [R.ARB_PWR_CAP, R.STP_CTL]

/-- The new image converts the settings in hub SRAM at its start: those of Table 16-11 stand at their reset values. -/
def State.formatHub (s : State) : State := if s.formatChanged then s.resetRegs formatRegs else s

/-- Once the new image is confirmed it writes the converted settings to NOR, with EV_UPD_SETTINGS and a record. -/
def State.formatNor (s : State) : State :=
  if !s.formatChanged then s
  else
    let lane (a : Nat) : Bool := decide (0x180000 ≤ a) && decide (a < 0x1C0000) || decide (0x280000 ≤ a) && decide (a < 0x2C0000)
    let nor : Nor := { s.nor.write (s.nor.newest.filter fun p => !formatRegs.contains p.1 && !lane p.1) with capKw := 0 }
    let t : State := { s with nor := nor, rtk := { s.rtk with classes := [], clsOf := [] }, ttb := { s.ttb with classes := [], clsOf := [], norCam := none } }
    let d := le 2 s.upd.oldFmt ++ le 2 (s.fld F.UPD_FMT_ACTIVE) ++ le 2 0x3F ++ zeros 2
    (t.raise Ev.updSettings d).record 0x0E d

/-- The image is confirmed when its first lane becomes ACTIVE (R440): a confirmed boot record, and the new settings format. -/
def State.confirmImage (s : State) : State :=
  if !s.upd.unconfirmed then s
  else
    let v := s.fld F.UPD_VINT_ACT_VINTAGE
    let t := s.writeBoot { seq := s.bootRec.seq + 1, bank := s.fld F.UPD_STAT_BANK, confirmed := true }
    let t := if t.flag F.UPD_STAT_FELL_BACK then t else t.decantEvent 1 0 0 s.upd.oldVintage v
    let t := t.formatNor
    { t with upd := { t.upd with unconfirmed := false, oldVintage := v, oldFmt := t.fld F.UPD_FMT_ACTIVE } }

/-! ### The start of the hub (Table 18-5) -/

/-- Settings and fuses are loaded: the NOR settings of the hub, those of the TIM block only where it has been reset (R434). -/
def State.loadHub (s : State) (soft : Bool) : State :=
  let t := (s.loadNor 0 0x40000).loadNor 0x50000 0x140000
  let t := if soft then t else t.loadNor 0x140000 0x180000
  let t := (t.loadNor 0x1C0000 0x200000).loadNor 0x2C0000 0x500000
  let f := s.fuses
  let t := (t.setFld F.SEC_UNIT_LO_UNIT_LO f.unitId).setFld F.SEC_UNIT_HI_UNIT_HI (f.unitId / 2 ^ 32)
  let t := ((t.setFld F.SEC_SITE_SITE_ID f.siteId).setFld F.SEC_SITE_LEFT f.siteLeft).setFld F.SEC_BIND_OWNER_ID f.ownerId
  let t := (List.range 16).foldl (fun t i => t.setFld (F.SEC_EPUB_EPUB i) (leNat (bytesAt f.epub (4 * i) 4))) t
  let t := (t.setFld F.UPD_FLOOR_FLOOR f.floor).setFld F.UPD_FLOOR_LEFT f.floorLeft
  let t := (t.setFld F.ETH_MAC_HI_MAC_HI (f.mac / 2 ^ 32)).setFld F.ETH_MAC_LO_MAC_LO f.mac
  (t.setFld F.ETH_PTP_STAT_CLASS (clockClass t.timState)).calCheck

/-- What the always-on domain has kept: STOP_CNT, brown-outs, tamper causes. -/
def State.loadVbat (s : State) : State :=
  let t := match s.vbat.stopCnt with
    | some c => s.setFld F.STP_CNT_STOP_CNT c
    | none => s.recoverCnt
  t.setFld F.PWR_DIP_BROWNOUTS t.vbat.brownouts

/-- The running image shown in UPD registers, and the staged one (R433). -/
def State.showImage (s : State) (b : Nat) : State :=
  let i := (Tbl.get none s.upd.banks b).getD { vintage := 0, setFmt := 0 }
  let t := ((s.setFld F.UPD_STAT_BANK b).setFld F.UPD_VINT_ACT_VINTAGE i.vintage).setFld F.UPD_FMT_ACTIVE i.setFmt
  let t := t.syncBank
  if t.stagedImage.isSome then t.setStage sgSTAGED 0 else t

/-- Records of the time before the start: the START record, LATE after a freeze that was lost; the tamper causes met meanwhile;
the dip that ended in a brown-out (R420, R455, R483). -/
def State.startRecords (s : State) : State :=
  let start := le 1 s.pwr.kind ++ le 1 (s.fld F.UPD_STAT_BANK) ++ zeros 2 ++ le 4 (s.fld F.UPD_VINT_ACT_VINTAGE)
  let t := s.recordAt 0x01 start s.now s.cbk.freezeLost
  let t := s.sec.late.foldl (fun t x => t.recordAt 0x08 (le 1 x.1 ++ le 1 x.2.1 ++ le 2 x.2.2.1 ++ zeros 4) x.2.2.2 true) t
  let t := match s.vbat.dip with
    | some (mv, us, flags) => t.recordAt 0x0F (le 2 mv ++ zeros 2 ++ le 4 us ++ le 1 flags ++ zeros 3) s.now true
    | none => t
  { t with sec := { t.sec with late := [] }, vbat := { t.vbat with dip := none }, cbk := { t.cbk with freezeLost := false } }

/-- The hub is ready: HS_RDY_N low, session 0 open at level C, lanes in self-test, LANES in force, and whatever other condition
of a stop source stands. -/
def State.hubRuns (s : State) : State :=
  let pwr : Pwr := { s.pwr with state := .run, hubReady := true, hubStartAt := s.el }
  let t : State := { s with pwr := pwr, svb := { s.svb with rdyHigh := false }, sec := { s.sec with mask := s.random 256, maskAt := s.el, scramble := (s.drew 1).random 64 }, free := s.free + 2 }
  let t := (t.stopOut true).setFld F.PWR_STAT_LAST_RESET s.pwr.kind
  let t := (((t.syncPwr.syncKeys).syncTamper).syncStop).syncCbk
  let t := ([0, 1, 2, 3].foldl State.syncSess t).syncIrq
  let t := ((t.skyStart.ptpStart).syncRad).syncSnp
  let t := (t.loadHubSteps.laneReset 0).laneReset 1
  let t := t.sourceOn srcLANES
  let t := if t.pwr.refLostAt.isSome then t.sourceOn srcREFCLK else t
  if t.pwr.supplyOn then t.sourceOn srcSUPPLY else t

/-- HUB_START (R485, Table 18-5): the boot ROM checks the banks (`ok0`, `ok1`: signature and hashes), settings and energy are
recovered, and the hub becomes ready; `torn` words of a record were being written when power was lost (R457). With no sound
bank the module stays in recovery (R441). A pin reset ends with the rising edge of RESET_N, from which the start runs (R477). -/
def State.hubStart (s : State) (ok0 ok1 : Bool) (torn : Nat) : State :=
  let soft := decide (4 ≤ s.pwr.kind)
  match s.bootChoice (fun b => if b = 0 then ok0 else ok1) with
  | none =>
    let t : State := { s with pwr := { s.pwr with state := .run, hubReady := true, hubStartAt := s.el }, svb := { s.svb with rdyHigh := false }, upd := { s.upd with recovery := true } }
    let t := ((t.loadHub soft).setFld F.PWR_STAT_LAST_RESET s.pwr.kind).stopOut true
    (t.syncPwr.syncKeys).syncSess 0
  | some (b, back) =>
    let r := s.bootRec
    let s := if back then { s with pwr := { s.pwr with kind := 7 } } else s
    let t := if back then s.writeBoot { seq := r.seq + 1, bank := b, confirmed := false, tries := 1 }
      else if r.confirmed then s
      else { s with upd := { s.upd with boot := { r with tries := r.tries + 1 } :: s.upd.boot.drop 1 } }
    let t : State := { t with upd := { t.upd with unconfirmed := back || !r.confirmed } }
    let t := ((t.loadHub soft).loadVbat).showImage b
    let t := ((t.formatHub.cbkStart torn).startRecords).meterRecover
    let t := t.hubRuns
    if back ∨ (s.pwr.kind = 7 ∧ !r.confirmed) then t.fellBack else t

def execHubStart (ok0 ok1 : Bool) (torn : Fin 32) (s : State) : Host.Outcome State Fault Refusal :=
  let time := if s.pwr.resetHeld then s.timeAfter false else s.time
  .next (if s.pwr.state = .starting then ({ s with pwr := { s.pwr with resetHeld := false }, time := time } : State).hubStart ok0 ok1 torn.val else s)

/-- BOOT_FALLBACK (R440): the image is not confirmed within 4 s of the reset: a record names the other bank, and the module is
reset. -/
def execBootFallback (s : State) : Host.Outcome State Fault Refusal :=
  .next <|
    if s.upd.unconfirmed && s.pwr.hubReady && s.passed s.pwr.resetAt (4 * oneSec) then
      (s.writeBoot { seq := s.bootRec.seq + 1, bank := s.spareBank, confirmed := false }).hubReset true 7
    else s

/-- COLD_START_READY (R378): the first lane ready becomes ACTIVE and LANES leaves force; with both ready at once that is Lane
A. The other lane waits in COLD for its first agreeing digest. A new image is confirmed by it (R440). -/
def execColdStartReady (lane : Fin 2) (s : State) : Host.Outcome State Fault Refusal :=
  let l := lane.val
  .next <|
    if s.laneSt l ≠ laneStCOLD ∨ s.anyLane ∨ s.switching then s
    else
      let t := ((s.makeActive l).confirmImage).lanesCold
      let t := t.sourceOff srcLANES
      let ms := min 65535 ((t.el - Tbl.get 0 t.lan.resetAt l) / oneMs)
      (t.setFld F.LAN_TIME_REJOIN_MS ms).raise Ev.lanRejoin (le 1 l ++ le 1 1 ++ le 2 ms)

/-! ### Decant (R439, Table 16-10) -/

/-- The decant sequence: event and record, snapshot entries, the planned energy copy, the cellar book buffer, the boot record
naming the staged bank, and the reset. -/
def State.decant (s : State) (schedId : Nat) : State :=
  let v := s.fld F.UPD_VINT_STG_VINTAGE
  let t := s.decantEvent 0 0 schedId (s.fld F.UPD_VINT_ACT_VINTAGE) v
  let t := ((t.satInc F.UPD_CNT_DECANTS).abandonSnaps).meterStop
  let t := t.cbkFlush
  let b := t.spareBank
  let t := t.setBank b ((Tbl.get none t.upd.banks b).map fun i => { i with staged := false })
  let t : State := { t with upd := { t.upd with oldVintage := s.fld F.UPD_VINT_ACT_VINTAGE, oldFmt := s.fld F.UPD_FMT_ACTIVE } }
  (t.writeBoot { seq := t.bootRec.seq + 1, bank := b, confirmed := false }).hubReset true 6

/-- DECANT_RUN (R439): an accepted UPD_DECANT, at its instant, by the running hub. -/
def execDecantRun (s : State) : Host.Outcome State Fault Refusal :=
  .next <|
    match s.upd.decantAt with
    | some t => if s.pwr.hubReady && decide (t ≤ s.now) then s.decant 0 else s
    | none => s

/-- DECANT_AT_TD (R443): a module that still holds its schedule decants at T_D by its own site time. -/
def execDecantAtTd (s : State) : Host.Outcome State Fault Refusal :=
  .next <|
    match s.upd.sched with
    | some x => if s.pwr.hubReady && x.held && s.flag F.UPD_STAT_HOLD && decide (x.td ≤ s.now) then s.decant x.id else s
    | none => s

end Sys2Proof.Machine
end

