-- ==== Sys2Proof/Machine/Wake.lean ====
section
/-! DEFINITION. The exit from Dormant (R329, R473, R474). -/

namespace Sys2Proof.Machine

/-- A profile record on leaving Dormant (R242): MOVING and STANDSTILL become STANDSTILL, and CAM_VER and CLASS are kept. -/
def Profile.woken (p : Profile) : Profile :=
  if p.state = 1 ∨ p.state = 2 then { state := 2, authId := p.authId, camVer := p.camVer, camSeen := p.camSeen } else p

/-- The resume input of the lanes (R474): a cold start but for what they keep, which is their roles, retention SRAM, DRAM
partition and generation numbers. Each engine takes its next generation number, and every filter is created again. -/
def State.lanesResume (s : State) : State :=
  let t := laneEngines.foldl (fun t k => t.genUp k) s.spanAnew.laneInput.laneRegsLost
  let t := laneEngineIds.foldl (fun t id => (seqKeys id).foldl State.seqRestart t) t
  let rtk : Rtk := { classes := s.rtk.classes, clsOf := s.rtk.clsOf, origin := s.rtk.origin, rovers := s.rtk.rovers, lastCycle := s.rtk.lastCycle }
  let keep (r : SbxRover) : SbxRover := { authId := r.authId, prevId := r.prevId, stopped := r.stopped }
  let sbx : Sbx := { map := s.sbx.norMap, norMap := s.sbx.norMap, staged := s.sbx.staged, zoneStops := s.stp.zones.map (·.zone), rovers := s.sbx.rovers.map fun p => (p.1, keep p.2) }
  let alt : Alt := { tasks := s.alt.tasks, lmk := s.alt.lmk, lmkNext := s.alt.lmkNext, meter := { capKw := s.nor.capKw } }
  let ttb : Ttb := { classes := s.ttb.classes, clsOf := s.ttb.clsOf, cam := s.ttb.norCam, norCam := s.ttb.norCam, staged := s.ttb.staged, profiles := s.ttb.profiles.map fun p => (p.1, p.2.woken), commitAt := s.ttb.commitAt }
  let t : State := { t with rtk := rtk, sbx := sbx, alt := alt, ttb := ttb, sch := {} }
  let t := (t.rtk.rovers.map (·.1)).foldl State.newFilter t
  let t := t.boundSlots.foldl State.endProposal t
  ((((t.rerouteAll t.boundSlots).originCheck).showMap.showCam).syncTtb).syncSbx.syncRtk

/-- The radio ports wake (R252): WAKE to each transceiver, whose armed frame is to be checked; rovers are expected anew. -/
def State.radioWake (s : State) : State :=
  let t := s.portsOn.foldl (fun t n => ((t.emit (.xcvr n "WAKE" [])).setFld (F.RAD_P_STAT_SLEEP n) 0).setFld (F.RAD_P_STAT_ARM_OK n) 0) s
  let t := t.boundSlots.foldl (fun t a => t.setBound a { t.bound a with misses := 0, got := 0, g0 := 6 }) t
  { t with rad := { t.rad with t0 := none } }

/-- The rest of the tamper responses met in Dormant (R420): their records are written without LATE, with hub running = 0. -/
def State.tamperOwed (s : State) : State :=
  let owed := s.sec.late
  owed.foldl (fun t x => t.tamperRest x.1 x.2.1 x.2.2.1 x.2.2.2 0) { s with sec := { s.sec with late := [] } }

/-- The module leaves Dormant once a wake source is latched (R474). -/
def State.wakeExit (s : State) : State :=
  if s.pwr.state ≠ .dormant ∨ s.pwr.wake = 0 then s
  else
    let w := s.pwr.wake
    let t : State := { s with pwr := { s.pwr with state := .run, wake := 0 }, svb := { s.svb with rdyHigh := false } }
    let t := (t.setFld F.PWR_WAKE_SRC_SRC w).syncPwr
    let t := t.raise Ev.pwrState (le 1 0 ++ le 1 2 ++ le 1 w)
    let t := if bit w 1 then t.raise Ev.ethWake (le 1 (t.fld F.ETH_WAKE_STAT_CAUSE) ++ le 1 (t.fld F.ETH_WAKE_STAT_PAT_NO) ++ le 1 (t.fld F.ETH_WAKE_CTL_PORT)) else t
    let t := t.radioWake.tamperOwed
    let t := ((((t.startVerify 0).startVerify 1).restartPdelay 0).restartPdelay 1).ptpStart
    let t := t.skyStart.meterResume
    let t := if t.fleetStopped && t.ownSource && t.flag F.STP_CTL_CHAIN_SEND && t.stp.sentAt.isNone then t.chainStop else t
    t.lanesResume.syncRad

/-- A wake source is latched: at once an exit from Dormant, or during entry once that has completed (R472). -/
def State.wakeBy (s : State) (k : Nat) : State :=
  if s.pwr.state = .dormant ∨ s.pwr.state = .entering then
    ({ s with pwr := { s.pwr with wake := withBit s.pwr.wake k true } } : State).wakeExit
  else s

/-- WAKE_IN (R473): the pin has been high for 100 µs. -/
def execWakeIn (s : State) : Host.Outcome State Fault Refusal := .next (if s.flag F.PWR_WAKE_PIN_EN then s.wakeBy 0 else s)

/-- WAKE_TIMER (R473): TIMER seconds after entry. -/
def execWakeTimer (s : State) : Host.Outcome State Fault Refusal :=
  let t := s.fld F.PWR_WAKE_TIMER
  .next (if t ≠ 0 ∧ s.passed s.pwr.enterAt (t * oneSec) then s.wakeBy 2 else s)

/-! ### The wake-pattern detector (R329) -/

/-- Whether a span holds a magic packet for a MAC address. -/
def hasMagic (mac : List Byte) : List Byte → Bool
  | [] => false
  | b :: t => (b :: t).take 102 == (List.replicate 6 (0xFF : Byte)) ++ (List.replicate 16 mac).flatten || hasMagic mac t

/-- Whether a frame equals pattern `p` in every byte whose mask bit is 1. -/
def State.matchesPattern (s : State) (p : Nat) (f : List Byte) : Bool :=
  (List.range 128).all fun i =>
    !bit (s.fld (F.ETH_WAKE_MSK_MASK p (i / 32))) (i % 32) || (f.getD i 0).toNat == s.fld (F.ETH_WAKE_PAT_DATA p (i / 4)) / 2 ^ (8 * (i % 4)) % 256

/-- The wake cause of a frame and its pattern number: 1 magic, 2 pattern, 3 chain stop; 0 none. -/
def State.wakeCause (s : State) (f : List Byte) : Nat × Nat :=
  let stop := match chainPayload ctSTOP f with
    | some p => rdN p 0 2 == s.site
    | none => false
  let pats := (List.range 8).filter fun p => bit (s.fld F.ETH_WAKE_CTL_PAT_EN) p && s.matchesPattern p f
  if s.flag F.ETH_WAKE_CTL_CHAIN_STOP && stop then (3, 0)
  else if s.flag F.ETH_WAKE_CTL_MAGIC && hasMagic s.macBytes f then (1, 0)
  else
    match pats with
    | p :: _ => (2, p)
    | [] => (0, 0)

/-- WAKE_FRAME (R329): a frame on the wake port in Dormant; a chain stop frame goes to the hard stop path whether the
detector may wake the module or not. -/
def execWakeFrame (n : Fin 2) (x : EthIn) (s : State) : Host.Outcome State Fault Refusal :=
  .next <|
    if (s.pwr.state ≠ .dormant ∧ s.pwr.state ≠ .entering) ∨ n.val ≠ s.fld F.ETH_WAKE_CTL_PORT ∨ !x.fcsOk ∨ 1518 < x.bytes.length then s
    else
      let (cause, pat) := s.wakeCause x.bytes
      if cause = 0 ∨ (cause ≠ 3 ∧ !s.flag F.PWR_WAKE_ETH_EN) then s
      else
        let t := (s.setFld F.ETH_WAKE_STAT_CAUSE cause).setFld F.ETH_WAKE_STAT_PAT_NO pat
        let t : State := { t with pwr := { t.pwr with wake := withBit t.pwr.wake 1 (bit t.pwr.wake 1 || s.flag F.PWR_WAKE_ETH_EN) } }
        let p := (chainPayload ctSTOP x.bytes).getD []
        let t := if cause = 3 then t.chainStopIn n.val p else t
        let u := t.wakeExit
        let hops := rdN p 8 1
        if cause = 3 ∧ hops < 15 ∧ u.stp.chainKeys ≠ s.stp.chainKeys then u.ethSend (1 - n.val) (u.chainFrame ctSTOP (p.take 8 ++ le 1 (hops + 1) ++ p.drop 9)) else u

end Sys2Proof.Machine
end

