-- ==== Sys2Proof/Machine/Power.lean ====
section
/-! DEFINITION. Supply, power states and resets (chapter 18), and the detection of tamper (R419, R420). -/

namespace Sys2Proof.Machine

/-- EV_PWR_WARN, while the hub runs. -/
def State.warnEvent (s : State) (kind mv us : Nat) : State :=
  if s.pwr.hubReady then s.raise Ev.pwrWarn (le 1 kind ++ le 1 0 ++ le 2 mv ++ le 4 (min us (2 ^ 32 - 1))) else s

def State.vin (s : State) : Nat := s.fld F.PWR_SUP_VIN

/-! ### Supply dips (R481 to R483) -/

/-- What the hub does within 1 ms of the warning (R481): grants of classes 0 and 1 withdrawn, the energy save, the end of a
freeze, the end of a bank write. -/
def State.atWarn (s : State) : State :=
  if !s.pwr.hubReady then s
  else
    let t := (s.pwrEvaluate.energySave).thaw
    if t.stage = sgWRITING then t.transferFail 9 else t

/-- VIN_BELOW_WARN (R481): the VIN pin falls below VIN_WARN, or falls further in a dip. -/
def execVinBelowWarn (mv : BitVec 16) (s : State) : Host.Outcome State Fault Refusal :=
  let v := mv.toNat
  .next <|
    if !s.powered then s
    else
      let s := s.setFld F.PWR_SUP_VIN v
      match s.pwr.dipSince with
      | some _ => { s with pwr := { s.pwr with dipMin := min s.pwr.dipMin v, aboveAt := none } }
      | none =>
        let t : State := { s with pwr := { s.pwr with dipSince := some s.el, dipMin := v, aboveAt := none } }
        ((t.setFld F.PWR_STAT_WARN 1).warnEvent 0 v 0).atWarn

/-- SUPPLY_DIP_LONG (R288, R481): VIN has stayed below VIN_WARN for longer than AUTH_MS. -/
def execSupplyDipLong (s : State) : Host.Outcome State Fault Refusal :=
  .next <|
    match s.pwr.dipSince, s.pwr.aboveAt with
    | some t, none =>
      if t + s.authNs < s.el ∧ s.pwr.hubReady then
        (({ s with pwr := { s.pwr with supplyOn := true } } : State).sourceOn srcSUPPLY).wakeExit
      else s
    | _, _ => s

/-- VIN_AT_OR_ABOVE_WARN (R288): SUPPLY leaves force; the dip itself goes on until R482. -/
def execVinAtOrAboveWarn (mv : BitVec 16) (s : State) : Host.Outcome State Fault Refusal :=
  .next <|
    if !s.powered then s
    else
      let t := s.setFld F.PWR_SUP_VIN mv.toNat
      let above := if s.pwr.dipSince.isSome then some (s.pwr.aboveAt.getD s.el) else none
      ({ t with pwr := { t.pwr with supplyOn := false, aboveAt := above } } : State).sourceOff srcSUPPLY

/-- VIN_DIP_END (R482): VIN has stayed at or above VIN_WARN + 0.2 V for 1 ms; `lowest` is the lowest VIN met. -/
def execVinDipEnd (lowest : BitVec 16) (s : State) : Host.Outcome State Fault Refusal :=
  .next <|
    match s.pwr.dipSince with
    | none => s
    | some d =>
      let above := s.pwr.aboveAt.getD (s.el - oneMs)
      if !s.passed above oneMs then s
      else
        let mv := min s.pwr.dipMin lowest.toNat
        let us := (above - d) / 1000
        let t : State := { s with pwr := { s.pwr with dipSince := none, aboveAt := none, supplyOn := false } }
        let t := (t.sourceOff srcSUPPLY).setFld F.PWR_STAT_WARN 0
        let t := ((t.setFld F.PWR_DIP_MIN_MV mv).satInc F.PWR_DIP_DIPS).setFld F.PWR_DIP_T_T_US (min us (2 ^ 32 - 1))
        let t := if t.pwr.hubReady then t.pwrEvaluate else t
        (t.warnEvent 1 mv us).record 0x0F (le 2 mv ++ zeros 2 ++ le 4 us ++ le 1 1 ++ zeros 3)

/-- VSYS_RESET_LEVEL (R483): SUPPLY comes into force, and the dip record is kept in the VBAT domain; the energy is saved when
the hold-up of R354 has been given. -/
def execVsysResetLevel (mv : BitVec 16) (s : State) : Host.Outcome State Fault Refusal :=
  .next <|
    if !s.powered ∨ s.pwr.lowAt.isSome then s
    else
      let since := s.pwr.dipSince.getD s.el
      let need := if s.flag F.PWR_STAT_VBAT_LOW then 30 * oneMs else 2 * oneMs
      let low := if s.pwr.dipSince.isSome then min s.pwr.dipMin mv.toNat else mv.toNat
      let dip := (low, (s.el - since) / 1000, b2n (s.passed since need) + 2)
      let t : State := { s.setFld F.PWR_SUP_VIN mv.toNat with pwr := { s.pwr with lowAt := some s.el, supplyOn := true }, vbat := { s.vbat with dip := some dip } }
      if s.pwr.hubReady then t.sourceOn srcSUPPLY else t

/-- BROWN_OUT_RESET (R475, R483): 150 µs later; the module is in Backup, or in Off with VBAT below 1.8 V. -/
def execBrownOutReset (s : State) : Host.Outcome State Fault Refusal :=
  .next <|
    match s.pwr.lowAt with
    | some t =>
      if !s.passed t 150000 ∨ !s.powered then s
      else
        let u := s.hubReset false 2
        let off := bit u.sec.live 4
        let pwr : Pwr := { u.pwr with state := if off then .off else .backup, brown := true, resetHeld := false, dipSince := none, aboveAt := none, lowAt := none, supplyOn := false, refLostAt := none, voutOffAt := none }
        ({ u with pwr := pwr, vbat := { u.vbat with brownouts := min 255 (u.vbat.brownouts + 1) } } : State).syncPwr
    | none => s

/-- POWER_ON (R476, R485): VIN at or above 4.5 V for 10 ms; `low` when VIN has fallen below 2.5 V, `away` the seconds the always-on
counter has counted meanwhile. From Off the VBAT domain is lost, which is itself a tamper cause (Table 18-4). -/
def execPowerOn (low : Bool) (away : Nat) (s : State) : Host.Outcome State Fault Refusal :=
  .next <|
    if s.powered then s
    else
      let off := s.pwr.state == .off
      let kind := if off then 0 else if s.pwr.brown && !low then 2 else 1
      let vbat : Vbat := if off then { stopCnt := none, causes := withBit s.vbat.causes 4 true } else { s.vbat with secs := s.vbat.secs.map (· + away) }
      let t := ({ s with vbat := vbat, pwr := { s.pwr with brown := false } } : State).hubReset false kind
      (t.stopOut true).syncPwr

/-- PWR_CNT_CLR (R482): PWR_CTL.CNT_CLR. -/
def State.pwrCntClr (s : State) : State := (s.setFld F.PWR_DIP_DIPS 0).resetRegs [R.PWR_DIP_T]
def execPwrCntClr (s : State) : Host.Outcome State Fault Refusal := .next s.pwrCntClr

/-! ### Supplies, REFCLK and temperature (R464 to R467, R469) -/

/-- VBAT_LOW (R464). -/
def execVbatLow (mv : BitVec 16) (s : State) : Host.Outcome State Fault Refusal :=
  .next <|
    let t := s.setFld F.PWR_SUP2_VBAT mv.toNat
    if !s.powered ∨ s.flag F.PWR_STAT_VBAT_LOW then (if s.powered then t else s)
    else (t.setFld F.PWR_STAT_VBAT_LOW 1).warnEvent 3 s.vin 0

/-- VBAT_LOW_END (R464). -/
def execVbatLowEnd (mv : BitVec 16) (s : State) : Host.Outcome State Fault Refusal :=
  .next (if s.powered then (s.setFld F.PWR_SUP2_VBAT mv.toNat).setFld F.PWR_STAT_VBAT_LOW 0 else s)

/-- VOUT_TRIP (R466): the output is off for 100 ms, and the PHYs lose power. -/
def execVoutTrip (s : State) : Host.Outcome State Fault Refusal :=
  .next <|
    if !s.powered ∨ s.pwr.voutOffAt.isSome then s
    else
      let t : State := { s with pwr := { s.pwr with voutOffAt := some s.el } }
      let t := (t.setFld F.PWR_STAT_VOUT_OC 1).warnEvent 2 s.vin 0
      (t.linkDown 0).linkDown 1

/-- VOUT_RESTART (R466). -/
def execVoutRestart (s : State) : Host.Outcome State Fault Refusal :=
  .next <|
    match s.pwr.voutOffAt with
    | some t => if s.passed t (100 * oneMs) then { s with pwr := { s.pwr with voutOffAt := none } } else s
    | none => s

/-- REFCLK_LOST (R467): `err` is the measured frequency error of the backup oscillator, 10^-12. -/
def execRefclkLost (err : Int) (s : State) : Host.Outcome State Fault Refusal :=
  .next <|
    if !s.powered ∨ s.pwr.refLostAt.isSome then s
    else
      let t := ({ s with pwr := { s.pwr with refLostAt := some s.el } } : State).syncPwr
      let gone (x : TimeSource) : TimeSource := { x with validSince := none, qualified := false }
      let t : State := { t with time := { t.time with gnss := gone t.time.gnss, ptp := gone t.time.ptp } }
      let t := (t.setRate (t.time.yf + err)).selectSource
      if !t.pwr.hubReady then t
      else
        let t := (t.warnEvent 4 s.vin 0).reacquire
        (((t.linkDown 0).linkDown 1).sourceOn srcREFCLK).wakeExit

/-- REFCLK_RESTORED (R467): present without a gap for 10 ms. -/
def execRefclkRestored (s : State) : Host.Outcome State Fault Refusal :=
  .next <|
    match s.pwr.refLostAt with
    | none => s
    | some l =>
      if !s.passed l (10 * oneMs) then s
      else
        let t := ({ s with pwr := { s.pwr with refLostAt := none } } : State).syncPwr
        let t := t.setRate t.time.yf
        if !t.pwr.hubReady then t
        else
          let t := t.warnEvent 5 s.vin ((s.el - l) / 1000)
          let t := if t.pwr.state = .dormant then t else t.skyStart
          t.sourceOff srcREFCLK

/-- Fields of a lane's PWR_AVFS register. -/
def fAvfsCode (l : Nat) : Fld := if l = 0 then F.PWR_AVFS_A_CODE else F.PWR_AVFS_B_CODE
def fAvfsMargin (l : Nat) : Fld := if l = 0 then F.PWR_AVFS_A_MARGIN else F.PWR_AVFS_B_MARGIN
def fAvfsMax (l : Nat) : Fld := if l = 0 then F.PWR_AVFS_A_CODE_MAX else F.PWR_AVFS_B_CODE_MAX
def fAvfsTop (l : Nat) : Fld := if l = 0 then F.PWR_AVFS_A_TOP else F.PWR_AVFS_B_TOP

/-- The next code of a lane's supply from its margin (R469), and the readings in a row at or above TARGET + 5 %. -/
def State.avfsNext (s : State) (code m high : Nat) : Nat × Nat :=
  let target := s.fld F.PWR_AVFS_CTL_TARGET
  let alarm := if target ≤ s.fld F.PWR_AVFS_CTL_ALARM then target - 1 else s.fld F.PWR_AVFS_CTL_ALARM
  if !s.flag F.PWR_AVFS_CTL_EN then (40, 0)
  else if m < alarm then (min 40 (code + 4), 0)
  else if m < target then (min 40 (code + 1), 0)
  else if m < target + 5 then (code, 0)
  else if high + 1 < 100 then (code, high + 1)
  else (code - 1, 0)

/-- AVFS_READING (R469): the least margin of a lane, once every 1 ms. CODE_MAX counts from the first time code 40 is left. -/
def execAvfsReading (lane : Fin 2) (m : Byte) (s : State) : Host.Outcome State Fault Refusal :=
  let l := lane.val
  let v := m.toNat
  .next <|
    if !s.pwr.hubReady ∨ s.pwr.state = .dormant ∨ !s.laneLive l then s
    else
      let target := s.fld F.PWR_AVFS_CTL_TARGET
      let alarm := if target ≤ s.fld F.PWR_AVFS_CTL_ALARM then target - 1 else s.fld F.PWR_AVFS_CTL_ALARM
      let code := s.fld (fAvfsCode l)
      let (next, high) := s.avfsNext code v (Tbl.get 0 s.pwr.high l)
      let low := if code = 40 ∧ v < alarm then Tbl.get 0 s.pwr.low l + 1 else 0
      let t : State := { s with pwr := { s.pwr with high := Tbl.put 0 s.pwr.high l high, low := Tbl.put 0 s.pwr.low l low } }
      let t := ((t.setFld (fAvfsCode l) next).setFld (fAvfsMargin l) v).setFld (fAvfsTop l) (b2n (next == 40))
      let top := t.fld (fAvfsMax l)
      let t := if next = 40 ∧ top = 0 then t else t.setFld (fAvfsMax l) (max top next)
      let ev (t : State) (kind : Nat) : State := t.raise Ev.pwrAvfs (le 1 l ++ le 1 next ++ le 1 v ++ le 1 kind)
      let t := if code ≠ 40 ∧ next = 40 then ev t 0 else if code = 40 ∧ next ≠ 40 then ev t 1 else t
      if 10 ≤ low then t.laneFail l dgAVFS 255 else t

/-- DIE_TEMP_HIGH (R487): a die temperature, 0.1 °C, that crosses TEMP_HI. -/
def execDieTempHigh (temp : BitVec 16) (s : State) : Host.Outcome State Fault Refusal :=
  let hot := decide (10 * (s.fld F.PWR_CTL_TEMP_HI : Int) ≤ temp.toInt)
  .next <|
    if !s.pwr.hubReady then s
    else
      let t := s.setFld F.SEC_TEMP_TEMP temp.toNat
      if hot = t.flag F.PWR_STAT_HOT then t
      else (t.setFld F.PWR_STAT_HOT (b2n hot)).raise Ev.pwrTemp (le 2 temp.toNat ++ le 1 (b2n hot))

/-! ### Resets (R476 to R478) -/

/-- PIN_RESET (R477): the module stays in reset until RESET_N rises. A power-on start that it interrupts keeps its kind, whose
scope is the wider (R480). -/
def execPinReset (s : State) : Host.Outcome State Fault Refusal :=
  .next <|
    if !s.powered then s
    else
      let kind := if s.pwr.state == .starting && decide (s.pwr.kind < 3) then s.pwr.kind else 3
      let t : State := { s with pwr := { s.pwr with resetHeld := true } }
      t.hubReset false kind

/-- HUB_WATCHDOG (R476): the hub service processor has not answered for 100 ms. -/
def execHubWatchdog (s : State) : Host.Outcome State Fault Refusal :=
  .next (if s.pwr.hubReady && s.pwr.state != .dormant then s.hubReset true 4 else s)

/-- A write of 0xA5 to PWR_CTL.HUB_RST (R478): a reset is to follow its reply, or RST_REFUSED. -/
def State.hubRst (s : State) : State :=
  if s.fleetHeld then { s with pwr := { s.pwr with rstReq := true } } else s.setFld F.PWR_STAT_RST_REFUSED 1

/-- A reset that was asked for acts once the reply has left. -/
def State.rstDue (s : State) : State := if s.pwr.rstReq then s.hubReset true 5 else s

/-- HUB_RST (R478). -/
def execHubRst (s : State) : Host.Outcome State Fault Refusal := .next (if s.serving then s.hubRst.rstDue else s)

/-! ### Power states (R470 to R472) -/

/-- The power state as GET_STATUS and EV_PWR_STATE give it. -/
def State.pwrCode (s : State) : Nat :=
  match s.pwr.state with
  | .doze => 1
  | .dormant | .entering => 2
  | _ => 0

/-- The reason for which Dormant is refused (R472). -/
def State.dormantRefusal (s : State) : Option Nat :=
  let busy (l : Nat) : Bool := [laneStSELFTEST, laneStRACKING, laneStCHECKING, laneStCOLD].contains (s.laneSt l)
  if !s.fleetHeld then some St.fleetNotStopped
  else if s.flag F.PWR_STAT_WARN || s.switching || busy 0 || busy 1 then some St.wrongState
  else none

/-- SET_POWER_STATE (R471, R472). -/
def doSetPowerState (s : State) (_ _ : Nat) (p : List Byte) : Res :=
  withLen s 4 p <|
    let want := rdN p 0 1
    let before := le 1 s.pwrCode ++ zeros 3
    if 2 < want then refuse s St.badParameter
    else if s.pwr.state = .entering ∨ s.pwr.entryDue then refuse s St.wrongState
    else if want = 2 then
      match s.dormantRefusal with
      | some e => refuse s e
      | none =>
        let t := s.setFld F.PWR_WAKE_TIMER (rdN p 2 2)
        let t := t.norStore R.PWR_WAKE 0xFFFF0003 (t.reg R.PWR_WAKE)
        okWith { t with pwr := { t.pwr with entryDue := true } } before
    else
      let st : PowerState := if want = 0 then .run else .doze
      if s.pwr.state = st then okWith s before
      else
        let t := ({ s with pwr := { s.pwr with state := st } } : State).syncPwr
        okWith (t.raise Ev.pwrState (le 1 want ++ le 1 s.pwrCode ++ le 1 (s.fld F.PWR_WAKE_SRC_SRC))) before

/-- Entry to Dormant begins once the reply has left (R472 step 1). -/
def State.entryBegin (s : State) : State :=
  if !s.pwr.entryDue then s
  else
    let old := s.pwrCode
    let t : State := { s with pwr := { s.pwr with entryDue := false, state := .entering, enterAt := s.el, wake := 0 }, upd := { s.upd with decantAt := none } }
    let t := ((t.tstLock 4).abandonSnaps).meterStop
    let t := ((((t.transferFail 10).relayEnd 0 2).relayEnd 1 2).schedEnd 4 0).cbkFlush
    t.raise Ev.pwrState (le 1 2 ++ le 1 old ++ le 1 (s.fld F.PWR_WAKE_SRC_SRC))

def opSetPowerState : Op := { code := 0x0106, rights := 1, run := doSetPowerState, post := fun _ s => s.entryBegin }
def execSetPowerState (c : Cmd) (s : State) : Host.Outcome State Fault Refusal := .next (s.host c opSetPowerState)

/-- A transceiver is put to sleep (R252). -/
def State.portSleep (s : State) (n : Nat) : State :=
  let t := (s.emit (.xcvr n "SLEEP" [])).setPort n { s.port n with grants := [], answers := [] }
  (t.setFld (F.RAD_P_STAT_SLEEP n) 1).setFld (F.RAD_P_STAT_UP n) 0

/-- DORMANT_ENTRY_COMPLETE (R472 steps 2 and 3): transceivers asleep, beacons ended and every live authority lapsed, lanes
halted, sky baseband and switch stopped. A wake source latched during entry ends Dormant at once. -/
def execDormantEntryComplete (s : State) : Host.Outcome State Fault Refusal :=
  .next <|
    if s.pwr.state ≠ .entering ∨ !s.passed s.pwr.enterAt (32 * oneMs) then s
    else
      let t := s.portsOn.foldl State.portSleep s
      let lapse (r : SbxRover) : SbxRover := { r with auth := none }
      let t : State := { t with sbx := { t.sbx with rovers := t.sbx.rovers.map fun p => (p.1, lapse p.2) } }
      let t := ((t.sourceInvalid 1).sourceInvalid 2).syncSbx
      let t : State := { t with pwr := { t.pwr with state := .dormant, dormantAt := t.el }, svb := { t.svb with rdyHigh := true } }
      (t.syncRad.syncPwr).wakeExit

/-- GET_STATUS (R486). -/
def doGetStatus (s : State) (_ _ : Nat) (p : List Byte) : Res :=
  withLen s 0 p <|
    okWith s (le 1 s.pwrCode ++ le 1 (s.fld F.PWR_STAT_LAST_RESET) ++ le 1 s.activeCode ++ le 1 s.timState ++ le 4 (s.fld F.STP_SRC_SRC)
      ++ le 1 (s.fld F.SEC_STAT_RS_STATE) ++ le 1 s.stage ++ zeros 2 ++ le 2 s.vin ++ le 2 (s.fld F.PWR_SUP2_VBAT)
      ++ le 4 ((s.el - s.pwr.hubStartAt) / oneSec))
def opGetStatus : Op := opH 0x0105 0 doGetStatus
def execGetStatus (c : Cmd) (s : State) : Host.Outcome State Fault Refusal := .next (s.host c opGetStatus)

/-! ### Tamper (R419, R420) -/

/-- TAMPER_DETECT (R420): a source is detected; while its condition lasts it fires no further response. With VBAT below 1.8 V
in Backup the module is in Off (Table 18-2). -/
def execTamperDetect (k : Fin 6) (temp : BitVec 16) (s : State) : Host.Outcome State Fault Refusal :=
  .next <|
    if s.pwr.state = .off ∨ bit s.sec.live k.val then s
    else
      let t := s.setFld F.SEC_TEMP_TEMP temp.toNat
      let t : State := { t with sec := { t.sec with live := withBit t.sec.live k.val true } }
      let t := (t.tamper k.val).wakeExit
      if t.pwr.state = .backup ∧ k.val = 4 then { t with pwr := { t.pwr with state := .off } } else t

end Sys2Proof.Machine
end

