-- ==== Sys2Proof/Machine/Scheduler.lean ====
section
/-! DEFINITION. The hardware scheduler of the lanes (R398 to R404): work items, flows, waits, sidings and the release window. -/

namespace Sys2Proof.Machine

/-- SCH_STAT and SCH_WAIT follow the items. -/
def State.syncSch (s : State) : State :=
  let it := s.sch.items
  let t := s.setFld F.SCH_STAT_IN_USE it.length
  let t := t.setFld F.SCH_WAIT_ON_SIDING (it.filter fun i => i.siding.isSome).length
  t.setFld F.SCH_WAIT_WAITING (it.filter (·.waiting)).length

/-- Entries of the release buffer in use (R399). -/
def State.windowUsed (s : State) : Nat := (s.sch.items.filter (·.admitted)).length

/-- An item is ready: it neither waits on flags nor stands on a siding. -/
def WorkItem.ready (i : WorkItem) : Bool := i.admitted && !i.waiting && i.siding.isNone

/-- Items release in the order of their admission within their flow (R399, R400): an item leaves once it is ready and no
earlier item of its flow is left. -/
def releaseItems (its : List WorkItem) : List WorkItem :=
  (its.foldl (fun (a : List WorkItem × List Nat) i =>
    if i.ready && !a.2.contains i.flow then a else (a.1 ++ [i], i.flow :: a.2)) ([], [])).1

/-- Items waiting at admission enter the window as it frees, in order. -/
def admitItems : Nat → List WorkItem → List WorkItem
  | _, [] => []
  | n, i :: t => if i.admitted then i :: admitItems n t else if n = 0 then i :: t else { i with admitted := true } :: admitItems (n - 1) t

/-- An item is rejected: counted, with EV_SCH_FLOW (R400). The queue it names is the same from either lane, whose outputs are equal
(R367; entry 29). -/
def State.rejectItem (s : State) (flow q : Nat) : State := (s.satInc F.SCH_CNT_REJECTED).raise Ev.schFlow (le 2 flow ++ le 1 q)

/-- The items still in the queues of atomic flows, Q01 and Q05, are rejected (R401): both lanes hold the same ones, and the flow of each
is one of 0 to 255, a free value. -/
def State.rejectQueued (s : State) : State :=
  let q := if s.laneSt 1 = laneStACTIVE then 5 else 1
  let held := (s.queue q).drain ++ (s.queue q).fill ++ (s.queue q).wait
  let t := held.foldl (fun t _ => (t.drew 1).rejectItem (t.freeVal 8) 1) s
  [1, 5].foldl (fun t i => t.setQueue i { t.queue i with fill := [], drain := [], wait := [], full := none }) t

/-- ATOMIC_EN takes effect once the release buffer is empty (R401); the window is 256 entries while atomic flows are in effect,
else 512 (R399). -/
def State.atomicEffect (s : State) : State :=
  if s.flag F.SCH_STAT_ATOMIC_PEND && s.windowUsed == 0 then
    let on := s.fld F.SCH_CTL_ATOMIC_EN
    let t := (s.setFld F.SCH_STAT_ATOMIC_ON on).setFld F.SCH_STAT_ATOMIC_PEND 0
    let t := t.setFld F.SCH_STAT_WINDOW (if on = 1 then 256 else 512)
    if on = 1 then t else t.rejectQueued
  else s

/-- Release, then admission, until nothing moves: two rounds cover an admission that frees nothing further. -/
def State.runSch (s : State) : State :=
  let its := releaseItems s.sch.items
  let used := (its.filter (·.admitted)).length
  let its := releaseItems (admitItems (s.fld F.SCH_STAT_WINDOW - used) its)
  ({ s with sch := { s.sch with items := its } } : State).syncSch

/-- A write of ATOMIC_EN: pending until it takes effect. -/
def State.atomicWritten (s : State) : State :=
  (s.setFld F.SCH_STAT_ATOMIC_PEND (b2n (s.fld F.SCH_CTL_ATOMIC_EN != s.fld F.SCH_STAT_ATOMIC_ON))).atomicEffect

/-- WORK_ITEM_ADMIT (R399, R400, R403): by the stamp of the input that places it, an item of a flow, with a wait or a place on a siding. An atomic item never times out;
an item of an atomic flow that is not in effect is rejected. -/
def execWorkItemAdmit (flow : Fin 4096) (atomic_ : Bool) (mask : Word) (all : Bool) (timeout : BitVec 16) (siding : Option (Fin 8 × BitVec 16))
    (s : State) : Host.Outcome State Fault Refusal :=
  .next <|
    if !s.lanesRun ∨ 1024 ≤ s.sch.items.length then s
    else if atomic_ && (!s.flag F.SCH_STAT_ATOMIC_ON || decide (256 ≤ flow.val)) then s.rejectItem flow.val 1
    else
      let room := decide (s.windowUsed < s.fld F.SCH_STAT_WINDOW)
      let due := if timeout = 0 ∨ atomic_ then none else some (s.laneNow + timeout.toNat * oneMs)
      let place := match siding with
        | some (k, d) => if d = 0 then none else some (k.val, s.laneNow + d.toNat * oneMs)
        | none => none
      let it : WorkItem := { id := s.sch.nextId, flow := flow.val, mask := mask.toNat, all := all, waiting := mask.toNat != 0, timeout := due, siding := place, admitted := room }
      let t : State := { s with sch := { s.sch with items := s.sch.items ++ [it], nextId := s.sch.nextId + 1 } }
      if room then t.runSch
      else
        let t := t.syncSch.satInc F.SCH_CNT_WIN_FULL
        let may := match t.sch.windowAt with
          | some w => decide (w + oneSec ≤ t.laneEl)
          | none => true
        if may then
          ({ t with sch := { t.sch with windowAt := some t.laneEl } } : State).raise Ev.schWindow (le 2 (t.fld F.SCH_STAT_WINDOW) ++ le 2 t.sch.items.length)
        else t

/-- The wait of an item against its flags (R398). The flags that satisfy it are cleared in the same step. -/
def WorkItem.satisfy (i : WorkItem) : WorkItem :=
  let hit := i.flags &&& i.mask
  if i.waiting && (if i.all then hit == i.mask else hit != 0) then { i with waiting := false, flags := i.flags ^^^ hit } else i

/-- EVENT_FLAG_POST (R398): flags are set in an item. -/
def execEventFlagPost (item : Nat) (flags : Word) (s : State) : Host.Outcome State Fault Refusal :=
  .next <|
    if !s.lanesRun then s
    else
      let its := s.sch.items.map fun i => if i.id = item then { i with flags := i.flags ||| flags.toNat }.satisfy else i
      ({ s with sch := { s.sch with items := its } } : State).runSch

/-- SIDING_DUE (R403, R404): the items due leave their sidings, in the order of due tick, siding and insertion. -/
def execSidingDue (s : State) : Host.Outcome State Fault Refusal :=
  .next <| s.onLanes <|
    let its := s.sch.items.map fun i =>
      match i.siding with
      | some (_, d) => if d ≤ s.laneNow then { i with siding := none } else i
      | none => i
    ({ s with sch := { s.sch with items := its } } : State).runSch

/-- WAIT_TIMEOUT (R404): the waits due expire and their items become ready with status TIMEOUT. -/
def execWaitTimeout (s : State) : Host.Outcome State Fault Refusal :=
  let due (i : WorkItem) : Bool := i.waiting && (match i.timeout with
    | some t => decide (t ≤ s.laneNow)
    | none => false)
  .next <| s.onLanes <|
    let n := (s.sch.items.filter due).length
    let its := s.sch.items.map fun i => if due i then { i with waiting := false, timedOut := true } else i
    (({ s with sch := { s.sch with items := its } } : State).satAdd F.SCH_CNT_TIMEOUTS n).runSch

/-- ATOMIC_EN_EFFECT (R401). -/
def execAtomicEnEffect (s : State) : Host.Outcome State Fault Refusal := .next (s.onLanes s.atomicEffect)

/-- SCH_CNT_CLR (R400). -/
def State.schCntClr (s : State) : State := s.resetRegs [R.SCH_CNT]
def execSchCntClr (s : State) : Host.Outcome State Fault Refusal := .next s.schCntClr

end Sys2Proof.Machine
end

