-- ==== Sys2Proof/Machine/Stop.lean ====
section
/-! DEFINITION. Stopping the fleet (chapter 11): stop inputs, discrepancy and self-check, the chain, releases, and the
stop commands. -/

namespace Sys2Proof.Machine

/-! ### The stop inputs (R290, R291) -/

/-- The path has left reset: the hub is powered and no reset of it is being held. -/
def State.pathRuns (s : State) : Bool := s.pwr.state != .off && s.pwr.state != .backup && !s.pwr.resetHeld

/-- The time since which the filtered inputs have differed. -/
def State.syncDiff (s : State) : State :=
  let d := if s.fld F.STP_STAT_IN_A = s.fld F.STP_STAT_IN_B then none else s.stp.diffSince.orElse fun _ => some s.el
  { s with stp := { s.stp with diffSince := d } }

/-- A filtered input: its register bit, and since when it has been inactive. -/
def State.setInput (s : State) (k : Fin 2) (active : Bool) : State :=
  let since := if active then none else some s.el
  let t : State := if k.val = 0 then { s with stp := { s.stp with inactiveA := since } } else { s with stp := { s.stp with inactiveB := since } }
  (t.setFld (if k.val = 0 then F.STP_STAT_IN_A else F.STP_STAT_IN_B) (b2n active)).syncDiff

/-- STOP_INPUT_ACTIVE (R290): input A (0) or B (1) has been low for FILT. -/
def execStopInputActive (k : Fin 2) (s : State) : Host.Outcome State Fault Refusal :=
  .next (if s.pathRuns then ((s.setInput k true).sourceOn k.val).wakeExit else s)

/-- STOP_INPUT_INACTIVE (R288). -/
def execStopInputInactive (k : Fin 2) (s : State) : Host.Outcome State Fault Refusal :=
  let on := if k.val = 0 then s.flag F.STP_STAT_IN_A else s.flag F.STP_STAT_IN_B
  .next (if s.pathRuns && on then (s.setInput k false).sourceOff k.val else s)

/-- EV_STP_FAULT and its record (R291, R292). -/
def State.stopFault (s : State) (cause : Nat) : State :=
  let d := le 1 cause ++ le 1 (s.fld F.STP_STAT_IN_A) ++ le 1 (s.fld F.STP_STAT_IN_B) ++ zeros 5
  (s.raise Ev.stpFault d).record 0x06 d

/-- STOP_DISCREPANCY (R291): the filtered inputs have differed for more than 10 ms. -/
def execStopDiscrepancy (s : State) : Host.Outcome State Fault Refusal :=
  let long := match s.stp.diffSince with
    | some t => decide (t + 10 * oneMs < s.el)
    | none => false
  .next (if long && !s.inForce srcDISC then ((s.stopFault 3).sourceOn srcDISC).wakeExit else s)

/-- STP_CTL.DISC_CLR (R291): no effect unless both inputs are inactive. -/
def State.discClr (s : State) : State :=
  if s.flag F.STP_STAT_IN_A || s.flag F.STP_STAT_IN_B then s else s.sourceOff srcDISC
def execDiscClr (s : State) : Host.Outcome State Fault Refusal := .next s.discClr

/-- HUB_CHECK_FAIL (R292): cause 0 the halves differ, 1 or 2 a STOP_OUT read-back. -/
def execHubCheckFail (cause : Fin 3) (s : State) : Host.Outcome State Fault Refusal :=
  .next (if s.pathRuns && !s.inForce srcHUB_CHECK then ((s.stopFault cause.val).sourceOn srcHUB_CHECK).wakeExit else s)

/-! ### The chain (R295, R296) -/

/-- CHAIN_STOP_RECEIVE (R295): a frame on external port `n`. -/
def execChainStopReceive (n : Fin 2) (frame : List Byte) (s : State) : Host.Outcome State Fault Refusal :=
  .next <|
    match chainPayload ctSTOP frame with
    | some p => if s.ethUp n.val then (s.satInc (F.ETH_P_CNT1_RX_OK n.val)).chainStopIn n.val p else s
    | none => s

/-- CHAIN_STOP_REPEAT (R296): every 100 ms while a source other than CHAIN and RESET is in force. -/
def execChainStopRepeat (s : State) : Host.Outcome State Fault Refusal :=
  let due := match s.stp.sentAt with
    | some t => s.passed t (100 * oneMs)
    | none => true
  .next (if due && s.fleetStopped && s.ownSource && s.flag F.STP_CTL_CHAIN_SEND then s.chainStop else s)

/-- CHAIN_SOURCE_TIMEOUT (R288): 300 ms since the last chain stop frame accepted. -/
def execChainSourceTimeout (s : State) : Host.Outcome State Fault Refusal :=
  .next (if s.passed s.stp.chainAt (300 * oneMs) then s.sourceOff srcCHAIN else s)

/-! ### Releases (R301 to R303) -/

/-- STOP_RELEASE_DUE (R302): at T_R. -/
def execStopReleaseDue (s : State) : Host.Outcome State Fault Refusal :=
  .next <|
    match s.stp.release with
    | some tr =>
      if s.now < tr then s
      else
        let t := (s.sourceOff srcCMD).sourceOff srcRESET
        let t : State := { t with stp := { t.stp with release := none, firedAt := none, authMax := 0 } }
        let t := ((t.setFld F.STP_STAT_STOPPED 0).stopOut false).syncStop
        let t := t.releaseEvent 0 1 0
        t.toLanes fun u => (u.rerouteAll u.boundSlots).syncSbx
    | none => s

/-- The stop of one rover or of one zone ends: its STOPPED bits clear unless another stop covers the rover, and its rovers
are routed afresh (R303, Table 8-4). -/
def State.endTarget (s : State) (scope target : Nat) : State :=
  let before := s.targetStops
  let zs := s.stp.zones.filter fun z => z.zone != target
  let t : State := if scope = 1 then { s with stp := { s.stp with rovers := s.stp.rovers.filter (· != target) } }
    else { s with stp := { s.stp with zones := zs }, sbx := { s.sbx with zoneStops := s.sbx.zoneStops.filter (· != target) } }
  let freed := before.filter fun a => !t.targetStops.contains a
  (t.syncStop.releaseEvent scope 1 target).toLanes fun u => ((u.rerouteAll freed).retry).syncSbx

/-- TARGET_RELEASE_DUE (R303): the pending releases of rovers and zones whose time has come. -/
def execTargetReleaseDue (s : State) : Host.Outcome State Fault Refusal :=
  let due := s.stp.targets.filter fun x => x.tr ≤ s.now
  let t : State := { s with stp := { s.stp with targets := s.stp.targets.filter fun x => s.now < x.tr } }
  .next (due.foldl (fun t x => t.endTarget x.scope x.target) t)

/-- A stop of the same rover or zone abandons its pending release (R303). -/
def State.abandonTarget (s : State) (scope target : Nat) : State :=
  if s.stp.targets.any fun x => x.scope == scope && x.target == target then
    let t : State := { s with stp := { s.stp with targets := s.stp.targets.filter fun x => !(x.scope == scope && x.target == target) } }
    t.releaseEvent scope 2 target
  else s

/-! ### Commands (R306) -/

/-- STOP_ALL (R46, R287): CMD comes into force. -/
def doStopAll (s : State) (_ _ : Nat) (p : List Byte) : Res :=
  withLen s 4 p <|
    let t := s.sourceOn srcCMD
    okWith t (le 4 (t.fld F.STP_CNT_STOP_CNT))
def opStopAll : Op := opS 0x0800 1 doStopAll
def execStopAll (c : Cmd) (s : State) : Host.Outcome State Fault Refusal := .next (s.host c opStopAll)

/-- STOP_ROVER (R299, R300). -/
def doStopRover (s : State) (_ _ : Nat) (p : List Byte) : Res :=
  withLen s 4 p <|
    let a := rdN p 0 1
    if 127 < a ∨ !(s.bound a).bound then refuse s St.badParameter
    else
      let t := s.abandonTarget 1 a
      let t : State := { t with stp := { t.stp with rovers := if t.stp.rovers.contains a then t.stp.rovers else t.stp.rovers ++ [a] } }
      okay (t.syncStop.toLanes fun u => (u.stopRover true a).syncSbx)
def opStopRover : Op := opS 0x0801 1 doStopRover
def execStopRover (c : Cmd) (s : State) : Host.Outcome State Fault Refusal := .next (s.host c opStopRover)

/-- The refusal of a STOP_ZONE by the active lane (R300); 0 when it is accepted. -/
def State.zoneRefusal (s : State) (z : Nat) : Nat :=
  let full := 64 ≤ s.stp.zones.length && !s.stp.zones.any fun x => x.zone == z
  if s.anyLane then
    match s.sbx.map with
    | none => St.wrongState
    | some m => if m.zones.length ≤ z then St.badParameter else if full then St.wrongState else 0
  else if full then St.wrongState else 0

/-- STOP_ZONE (R299, R300): the zone enters zone stop and its rovers are stopped by the lanes. -/
def doStopZone (s : State) (_ _ : Nat) (p : List Byte) : Res :=
  withLen s 4 p <|
    let z := rdN p 0 2
    if s.zoneRefusal z ≠ 0 then refuse s (s.zoneRefusal z)
    else
      let t := (s.abandonTarget 2 z).laneInput
      let rs := if s.anyLane then t.zoneRovers z else []
      let old := ((t.stp.zones.find? fun x => x.zone == z).map (·.rovers)).getD []
      let zs := (t.stp.zones.filter fun x => x.zone != z) ++ [⟨z, old ++ rs.filter fun a => !old.contains a⟩]
      let ls := if t.sbx.zoneStops.contains z then t.sbx.zoneStops else t.sbx.zoneStops ++ [z]
      let t : State := { t with stp := { t.stp with zones := zs }, sbx := { t.sbx with zoneStops := ls } }
      let t := (rs.foldl (fun t a => t.stopRover true a) t.syncStop).syncSbx
      okWith t (le 1 (if s.anyLane then rs.length else 255) ++ zeros 3)
def opStopZone : Op := { opS 0x0802 1 doStopZone with fromLane := true }
def execStopZone (c : Cmd) (s : State) : Host.Outcome State Fault Refusal := .next (s.host c opStopZone)

/-- Whether a stop of the whole fleet may be released (R301). -/
def State.mayRelease (s : State) : Bool :=
  let quiet (x : Option Nat) : Bool := match x with
    | some t => s.passed t (100 * oneMs)
    | none => false
  s.fld F.STP_SRC_SRC &&& levelSources == 0 && quiet s.stp.inactiveA && quiet s.stp.inactiveB
    && s.portsOn.all fun n => s.flag (F.RAD_P_STAT_ARM_OK n)

/-- The reply data of STOP_RELEASE: sources in force and T_R. -/
def State.releaseData (s : State) (tr : Nat) : List Byte := le 4 (s.fld F.STP_SRC_SRC) ++ le 8 tr

/-- STOP_RELEASE (R301, R303). -/
def doStopRelease (s : State) (_ _ : Nat) (p : List Byte) : Res :=
  withLen s 4 p <|
    let scope := rdN p 0 1
    let x := rdN p 2 2
    if scope = 0 then
      if !s.fleetStopped then okWith s (le 4 0 ++ le 8 0)
      else
        match s.stp.release with
        | some tr => okWith s (s.releaseData tr)
        | none =>
          if !s.mayRelease then (s, some ⟨St.wrongState, s.releaseData 0⟩)
          else
            let tr := match s.stp.firedAt with
              | some f => max (s.now + oneMs) (f + s.stp.authMax)
              | none => s.now + oneMs
            let t := ({ s with stp := { s.stp with release := some tr } } : State).syncStop
            okWith (t.releaseEvent 0 0 0) (t.releaseData tr)
    else if 2 < scope then refuse s St.badParameter
    else
      let nz := (s.sbx.map.map (·.zones.length)).getD 0
      let bad := if scope = 1 then decide (127 < x) else decide (nz ≤ x)
      let on := if scope = 1 then s.stp.rovers.contains x else s.stp.zones.any fun z => z.zone == x
      if bad then refuse s St.badParameter
      else if !on then okWith s (s.releaseData 0)
      else
        match s.stp.targets.find? fun y => y.scope == scope && y.target == x with
        | some y => okWith s (s.releaseData y.tr)
        | none =>
          let tr := s.now + s.authNs
          let t : State := { s with stp := { s.stp with targets := s.stp.targets ++ [⟨scope, x, tr⟩] } }
          okWith (t.releaseEvent scope 0 x) (t.releaseData tr)
def opStopRelease : Op := opH 0x0803 2 doStopRelease
def execStopRelease (c : Cmd) (s : State) : Host.Outcome State Fault Refusal := .next (s.host c opStopRelease)

/-- STOP_GET_STATE (R306). -/
def doStopGetState (s : State) (_ _ : Nat) (p : List Byte) : Res :=
  withLen s 0 p <|
    let zs := sortBy (fun x y : Nat => decide (x < y)) (s.stp.zones.map (·.zone))
    okWith s (le 4 (s.fld F.STP_SRC_SRC) ++ le 4 (s.fld F.STP_LATCH_SEEN) ++ le 4 (s.fld F.STP_CNT_STOP_CNT) ++ le 8 (s.stp.release.getD 0)
      ++ ([0, 1, 2, 3].map fun i => le 4 (s.fld (F.STP_ROVER_STOPPED i))).flatten ++ le 1 zs.length ++ zeros 3 ++ (zs.map (le 2)).flatten)
def opStopGetState : Op := opH 0x0804 0 doStopGetState
def execStopGetState (c : Cmd) (s : State) : Host.Outcome State Fault Refusal := .next (s.host c opStopGetState)

end Sys2Proof.Machine
end

