-- ==== Sys2Proof/Machine/Test.lean ====
section
/-! DEFINITION. The test perturbation block (chapter 20; what it cannot touch R511, events R520): locking and unlocking, injections and corruptions. -/

namespace Sys2Proof.Machine

/-- TST_STAT.ACTIVE follows the perturbations set (Table 20-4). -/
def State.syncTst (s : State) : State :=
  let delay := [0, 1, 2, 3].any fun j => s.flag (F.TST_QDLY_EN j) && decide (s.fld (F.TST_QDLY_QUEUE j) < 40)
  let bits := [delay, s.flag F.TST_BP_EN, s.fld F.TST_JIT_PORTS != 0, s.tst.errLeft != 0, s.fld F.TST_STRETCH_ARB != 0, s.tst.crcLeft != 0]
  s.setFld F.TST_STAT_ACTIVE ((List.range 6).foldl (fun n i => n + (if bits.getD i false then 2 ^ i else 0)) (0 : Nat))

/-- Seconds until automatic lock. -/
def State.remain (s : State) : Nat := if s.tst.unlocked then min 65535 (ceilDiv (s.tst.until_ - s.el) oneSec) else 0

/-- A perturbation is ignored or discarded. -/
def State.tstRefused (s : State) : State := s.setFld F.TST_STAT_REFUSED 1

/-! ### Locking (R509, R510, R518, R519) -/

/-- TST_UNLOCK: a signed command, while the fleet is stopped or parked and no other session holds the block. -/
def doTstUnlock (s : State) (sid seq : Nat) (p : List Byte) : Res :=
  withLen s 12 p <|
    let d := rdN p 0 2
    if !s.sigOk sid seq 0x0F00 p then s.sigFail 0x0F00
    else if d < 60 ∨ 14400 < d then refuse s St.badParameter
    else if !s.fleetHeld then refuse s St.fleetNotStopped
    else if s.tst.unlocked && s.fld F.TST_STAT_SID != sid then refuse s St.wrongState
    else
      let t : State := { s with tst := { s.tst with unlocked := true, until_ := s.el + d * oneSec } }
      let t := (t.setFld F.TST_STAT_SID sid).setFld F.TST_STAT_REMAIN t.remain
      okWith (t.raise Ev.tstUnlock (le 1 sid ++ [0] ++ le 2 d)) (le 2 t.remain ++ zeros 2)

def opTstUnlock : Op := opH 0x0F00 2 doTstUnlock
def execTstUnlock (c : Cmd) (s : State) : Host.Outcome State Fault Refusal := .next (s.host c opTstUnlock)

/-- TST_LOCK; without effect while the block is locked. -/
def doTstLock (s : State) (_ _ : Nat) (p : List Byte) : Res :=
  withLen s 4 p <|
    okWith (s.tstLock 0) (le 1 (s.fld F.TST_STAT_ACTIVE) ++ zeros 3)

def opTstLock : Op := opH 0x0F01 1 doTstLock
def execTstLock (c : Cmd) (s : State) : Host.Outcome State Fault Refusal := .next (s.host c opTstLock)

/-- TST_AUTOLOCK: REMAIN has reached 0. -/
def execTstAutolock (s : State) : Host.Outcome State Fault Refusal :=
  .next (if s.tst.unlocked && s.remain == 0 then s.tstLock 1 else s)

/-- TST_CTL.CLR_ALL returns the registers 0x0010 to 0x0030 to their reset values (R518). -/
def State.tstClrAll (s : State) : State :=
  if !s.tst.unlocked then s
  else
    (({ s with tst := { s.tst with errLeft := 0, crcLeft := 0, lfsr := 1 } } : State).perturbEnd tstPerturb).syncTst
def execTstClrAll (s : State) : Host.Outcome State Fault Refusal := .next s.tstClrAll

/-! ### Injections and corruptions (R515, R517) -/

/-- TST_ERR.GO (R515): errors at a queue wait for its next words; errors at a lane are placed at once in a lane in service. -/
def State.errGo (s : State) : State :=
  let n := orOne (s.fld F.TST_ERR_COUNT)
  let target := s.fld F.TST_ERR_TARGET
  let l := if s.fld F.TST_ERR_LANE = 1 then 1 else 0
  if !s.tst.unlocked then s
  else if target ≤ 2 then
    (({ s with tst := { s.tst with errLeft := n } } : State).setFld F.TST_ERR_GO 1).syncTst
  else if !s.inService l then s.tstRefused
  else
    match target with
    | 3 | 5 => { s with lan := { s.lan with injected := Tbl.put 0 s.lan.injected l (Tbl.get 0 s.lan.injected l + n) } }
    | 7 => s.laneFail l dgSTEP_MEM 255
    | _ => s.laneFail l dgECC_UE 255

/-- TST_ERR_GO: GO with the settings that TST_ERR holds. -/
def execTstErrGo (s : State) : Host.Outcome State Fault Refusal := .next s.errGo

/-- TST_CRC.GO (R517): the next COUNT items of TARGET are corrupted. -/
def State.crcGo (s : State) : State :=
  if !s.tst.unlocked then s
  else
    let n := orOne (s.fld F.TST_CRC_COUNT)
    (({ s with tst := { s.tst with crcLeft := n } } : State).setFld F.TST_CRC_GO 1).syncTst
def execTstCrcGo (s : State) : Host.Outcome State Fault Refusal := .next s.crcGo

/-- A write of TST_JIT (R514): the LFSR starts at SEED, 0 acting as 1. -/
def State.jitWrite (s : State) (v : Word) : State :=
  if !s.tst.unlocked then s
  else
    let t := s.setReg R.TST_JIT (v &&& 0xFFFFFF0F#32)
    ({ t with tst := { t.tst with lfsr := orOne (t.fld F.TST_JIT_SEED) } } : State).syncTst
def execTstJitWrite (value : Word) (s : State) : Host.Outcome State Fault Refusal := .next (s.jitWrite value)

/-- A queue delay or a forced FULL has been written: a delay at a queue that does not exist acts as off and is refused (R512). -/
def State.tstQueues (s : State) (a : Nat) : State :=
  let bad := [0, 1, 2, 3].any fun j => a == R.TST_QDLY j && s.flag (F.TST_QDLY_EN j) && decide (40 ≤ s.fld (F.TST_QDLY_QUEUE j))
  (if bad then s.tstRefused else s).syncTst

end Sys2Proof.Machine
end

