-- ==== Sys2Proof/Machine/Traffic.lean ====
section
/-! DEFINITION. What happens on the queues (chapter 15): commits, rewinds, racks, errors and flushes. -/

namespace Sys2Proof.Machine

/-- Whether a queue has a writer (Table 15-1). -/
def queueUsed (q : Nat) : Bool := decide (q < 40)

/-- QUEUE_COMMIT (R385, R387, R389): a packet becomes visible whole; one that finds no room in the fill bank waits and sets FULL. -/
def execQueueCommit (q : Fin 64) (len : Fin 4089) (more : Bool) (gen engine : Byte) (seq : Word) (s : State) :
    Host.Outcome State Fault Refusal :=
  let i := q.val
  let k := s.queue i
  let p : QPacket := { len := len.val, more := more, gen := gen.toNat, engine := engine.toNat, seq := seq.toNat }
  .next <|
    if !queueUsed i then s
    -- the Ethernet and radio receivers discard a frame that finds no room; any other writer waits (R385)
    else if s.noRoom i p && ((decide (20 ≤ i) && decide (i ≤ 23)) || i == 33 || i == 34) then s
    else (s.setQueue i { k with wait := [] }).writePackets i (k.wait ++ [p])

/-- PACKET_REWIND (R390). -/
def execPacketRewind (q : Fin 64) (s : State) : Host.Outcome State Fault Refusal :=
  let k := s.queue q.val
  .next (if queueUsed q.val then s.setQueue q.val { k with rewinds := min 65535 (k.rewinds + 1) } else s)

/-- QUEUE_RACK (R387, R393): the banks swap when the drain bank is empty and the fill bank holds a committed packet; the mode in
force applies to the new fill bank. -/
def execQueueRack (q : Fin 64) (s : State) : Host.Outcome State Fault Refusal :=
  let i := q.val
  let k := s.queue i
  .next <|
    if k.drain.isEmpty ∧ !k.fill.isEmpty then
      (s.setQueue i { k with fill := [], drain := k.fill, bank := 1 - k.bank, drainEcc := k.fillEcc, fillEcc := s.eccWanted i }).writerGoes i
    else s

/-- An engine that reads a queue, for EV_QUE_POISON: the packet's own target towards the lanes, the radio MAC, the snapshot
engine, the switch and the cellar book where they read; 0xFF the hub service processor. -/
def readerEngine (q : Nat) (p : QPacket) : Nat :=
  if q < 8 then p.engine
  else if 20 ≤ q ∧ q ≤ 23 then 0x04
  else if q = 26 then 0x01
  else if q = 35 ∨ q = 36 then 0x03
  else if q = 37 then 0x07
  else if q = 39 then 0x06
  else 0xFF

/-- What becomes of a poisoned packet (Table 15-3): towards a lane, the input is discarded and the lane's next one shows the gap; from the
shadow lane, the output is discarded and enters no digest; from the active lane, the shadow lane's output takes its place. `source` is the event's source, `reply` the session, sequence number and
opcode of a reply, where the packet held one. -/
def State.poisoned (s : State) (q : Nat) (p : QPacket) (source : Nat) (reply : Option (Nat × Nat × Nat)) : State :=
  if q < 8 then { s with lan := { s.lan with gap := Tbl.put none s.lan.gap (q / 4) (some p.engine) } }
  else if q < 16 then
    let l := (q - 8) / 4
    if s.activeLane ≠ some l then { s with lan := { s.lan with lost := Tbl.put false s.lan.lost l true } }
    else if s.laneSt (otherLane l) = laneStSHADOW then s
    else
      match q % 4, reply with
      | 1, some (sid, seq, op) =>
        let t := s.record 0x10 (le 1 p.engine ++ le 1 1 ++ le 2 op ++ le 4 p.seq)
        if sid < 4 then t.replyLost sid seq else t
      | 2, _ =>
        [0, 1, 2, 3].foldl (fun t sid =>
          let ss := t.sess sid
          if ss.isOpen && bit ss.mask source then t.setSess sid { ss with dropped := min 65535 (ss.dropped + 1) } else t) s
      | _, _ => s
  else s

/-- QUEUE_READ_ERROR (R392 to R394): a word of the packet at the head of the drain bank fails its check; a word
hurt by the test block fails in the bits it inverted. -/
def execQueueReadError (q : Fin 64) (double : Bool) (source : Fin 88) (reply : Option (Nat × Nat × Nat)) (s : State) :
    Host.Outcome State Fault Refusal :=
  let i := q.val
  let k := s.queue i
  .next <|
    match k.drain with
    | [] => s
    | p :: rest =>
      let two := if p.hurt = 0 then double else p.hurt2
      if k.drainEcc && !two then s.setQueue i { k with corr := min 255 (k.corr + 1), drain := { p with hurt := p.hurt - 1 } :: rest }
      else
        let n := if k.drainEcc then k.parErr else min 255 (k.parErr + 1)
        let thr := s.fld F.QUE_CTL_PAR_THR
        let change := !k.drainEcc && !k.auto_ && thr != 0 && decide (thr ≤ n)
        let t := s.setQueue i { k with drain := rest, parErr := n, poison := min 255 (k.poison + 1), auto_ := k.auto_ || change }
        let t := if k.drainEcc then t else t.raise Ev.queParity (le 1 i ++ le 1 n)
        let t := if change then t.raise Ev.queSecded (le 1 i ++ le 1 0) else t
        (t.raise Ev.quePoison (le 1 i ++ le 1 (readerEngine i p) ++ le 4 p.seq)).poisoned i p source.val reply

/-- QUEUE_FULL_TIMEOUT (R385): a queue towards a lane full for 2 ms. -/
def execQueueFullTimeout (q : Fin 8) (s : State) : Host.Outcome State Fault Refusal :=
  let due := match (s.queue q.val).full with
    | some t => s.passed t (2 * oneMs)
    | none => false
  .next (if due then s.laneFail (q.val / 4) dgHEARTBEAT 255 else s)

/-- QUE_FLUSH (R391). -/
def execQueFlush (s : State) : Host.Outcome State Fault Refusal := .next s.queFlush

/-- QUE_CNT_CLR (R392). -/
def execQueCntClr (s : State) : Host.Outcome State Fault Refusal := .next s.queCntClr

/-- A write of QUE_FORCE changes queues to SECDED, or back to parity without an automatic change; the mode applies at the next
rack (R393). EV_QUE_SECDED is raised for each queue newly forced. -/
def State.queForced (s : State) (lo old new : Nat) : State :=
  (List.range 32).foldl (fun t i =>
    if !bit old i && bit new i && !(t.queue (lo + i)).auto_ then t.raise Ev.queSecded (le 1 (lo + i) ++ le 1 1) else t) s

end Sys2Proof.Machine
end

