-- ==== Sys2Proof/Machine/Registers.lean ====
section
/-! DEFINITION. Register access (R9 to R14, R28, R53 to R55, R508): what a read returns and latches, what a write leaves in a
register and what it starts, and the register commands. -/

namespace Sys2Proof.Machine

/-! ### Addresses -/

/-- A register of a block marked "lane" in Table 20-1. -/
def laneReg (a : Nat) : Bool :=
  (decide (0x40000 ≤ a) && decide (a < 0x50000)) || a == R.ARB_MAT || a == R.ARB_MAT_CNT
    || (decide (0x180000 ≤ a) && decide (a < 0x1C0000)) || (decide (0x200000 ≤ a) && decide (a < 0x2C0000))

/-- A register of the TST block. -/
def tstReg (a : Nat) : Bool := decide (0x4C0000 ≤ a)

/-- A register of the stored calibration (R358). -/
def calReg (a : Nat) : Bool := calRegs.contains a

/-- The address of a mapped register, which a TST register is only while the block is unlocked (R53, R508). -/
def State.mapped (s : State) (a : Nat) : Bool := a % 4 == 0 && (regRow a).isSome && (!tstReg a || s.tst.unlocked)

/-! ### Reads -/

/-- The lane that a DIE code names: Lane A, Lane B, or the active lane. -/
def State.dieLane (s : State) (die : Nat) : Option Nat :=
  match die with
  | 1 => some 0
  | 2 => some 1
  | 3 => s.activeLane
  | _ => none

/-- Whether Table 1-5 has an engine on the hub, or on a lane. -/
def hubEngine (id : Nat) : Bool := decide (id ≤ 8)
def laneEngine (id : Nat) : Bool := decide (0x10 ≤ id) && decide (id ≤ 0x14)

/-- STATE of an engine whose sequencer has its clock: as the class of the step it stands at has it, waiting for an event or halted, and
else running (Tables 1-4, 1-7). -/
def State.stepState (s : State) (key : Nat) : Nat :=
  match (s.thread key)[(s.seqOf key).step]? with
  | some w => if w.opclass = 3 then 1 else if w.opclass = 5 then 3 else 0
  | none => 0

/-- The sequencer that SYS_TT_SEL selects and its STATE (Table 1-7): none for no such engine or with no lane active. An engine of a
lane that has left service is in reset or halted, which is a free value. -/
def State.ttState (s : State) (die id : Nat) : Nat × Option Nat :=
  if die = 0 then
    if !hubEngine id then (0xF, none)
    else
      let key := seqKey 0 id
      if !s.pwr.hubReady then (4, some key) else if s.gated id then (2, some key) else (s.stepState key, some key)
  else if !laneEngine id then (0xF, none)
  else
    match s.dieLane die with
    | none => (4, none)
    | some l =>
      let key := seqKey (l + 1) id
      if !s.laneLive l then (if s.laneSt l = laneStRESET then 4 else 3 + s.freeVal 1, some key)
      else if s.gated id || !s.laneClock then (2, some key)
      else (s.stepState key, some key)

/-- SYS_TT_POS_READ (R20): the position of the selected engine, with SYS_TT_COUNT latched in the same cycle. -/
def State.readTtPos (s : State) : Word × State :=
  let die := s.fld F.SYS_TT_SEL_DIE
  let id := s.fld F.SYS_TT_SEL_ENGINE
  let (st0, key) := s.ttState die id
  let s := match key with
    | some k => if st0 < 2 then s.seqSync k else s
    | none => s
  let st := if st0 < 2 then (s.ttState die id).1 else st0
  let q := match key with
    | some k => s.seqOf k
    | none => {}
  let t := if st0 = 3 then s.drew 1 else s
  let t := ((t.setFld F.SYS_TT_POS_GEN (if st = 0xF then 0 else s.genOf (genKey id))).setFld F.SYS_TT_POS_STATE st).setFld F.SYS_TT_POS_STEP q.step
  let t := t.setFld F.SYS_TT_COUNT_COUNT q.count
  (t.reg R.SYS_TT_POS, t)
def execSysTtPosRead (s : State) : Host.Outcome State Fault Refusal := .next s.readTtPos.2

/-- What a read of a register returns, and what it latches. The HOLDUP voltage and the VOUT_3V3 current are measurements that no
command supplies: free values. -/
def State.readReg (s : State) (a : Nat) : Word × State :=
  if a = R.SYS_TT_POS then s.readTtPos
  else if a = R.TIM_NOW_LO then s.readNowLo
  else if a = R.TIM_IN_LO then s.readInLo
  else if a = R.PWR_SUP then
    let t := (s.setFld F.PWR_SUP_HOLDUP (s.freeVal 16)).drew 1
    (t.reg a, t)
  else if a = R.PWR_SUP2 then
    let t := (s.setFld F.PWR_SUP2_VOUT_MA (s.freeVal 16)).drew 1
    (t.reg a, t)
  else if a = R.ETH_P_PAUSE 0 then
    let t := s.syncPause 0
    (t.reg a, t)
  else if a = R.ETH_P_PAUSE 1 then
    let t := s.syncPause 1
    (t.reg a, t)
  else if a = R.SBX_LOAD then
    let t := s.onLanes s.syncReq
    (t.reg a, t)
  else if a = R.TST_STAT then
    let t := s.setFld F.TST_STAT_REMAIN s.remain
    (t.reg a, t)
  else if a = R.ARB_MAT ∨ a = R.ARB_MAT_CNT then
    let t := s.tokenSync 0
    (t.reg a, t)
  else if a = R.ARB_DRAM ∨ a = R.ARB_DRAM_CNT then
    let t := s.tokenSync 1
    (t.reg a, t)
  else (s.reg a, s)

/-- Registers read one after the other (R55). -/
def State.readBlock (s : State) : List Nat → List Byte × State
  | [] => ([], s)
  | a :: rest =>
    let (v, t) := s.readReg a
    let (bs, u) := t.readBlock rest
    (le 4 v.toNat ++ bs, u)

/-! ### What a write leaves in a register (R9 to R11, R54) -/

/-- The value after a write of `v` under `mask`: RW bits take the value, W1C bits written 1 clear, ST bits written 1 return to their
reset value (R11), and every other bit stays. Table 0-6 says that an ST bit clears: the two differ for STP_LATCH.SEEN[10], whose
reset value is 1 and which stands there (DESIGN CHOICE, entry 154). -/
def writeWord (row : RegRow) (old v mask : Word) : Word :=
  let rw := BitVec.ofNat 32 row.rw &&& mask
  let clear := BitVec.ofNat 32 row.w1c &&& mask &&& v
  let st := BitVec.ofNat 32 row.st &&& mask &&& v
  ((((old &&& ~~~rw) ||| (v &&& rw)) &&& ~~~clear) &&& ~~~st) ||| (BitVec.ofNat 32 row.reset &&& st)

/-- The bits of a register that the NOR settings keep when REG_WRITE changes them (Table 16-11). -/
def norMask (a : Nat) : Nat :=
  if a = R.PWR_CTL then 0xFFFF00
  else if a = R.PWR_WAKE then 0xFFFF0003
  else if a = R.SKY_ANT ∨ a = R.TIM_CTL then 3
  else if a = R.TIM_ANT_DLY then 0xFFFFFFFF
  else if a = R.STP_CTL then 0x300
  else if a = R.RAD_CTL then 0xFF00
  else if a = R.RAD_KEY then 0x80FFFFFF
  else if a = R.UPD_CTL then 1
  else 0

/-- Whether the lowest bit of a field is written 1. -/
def onBit (w : Word) (f : Fld) : Bool := w.toNat.testBit f.lo

/-- A UDP session whose enable bit is 0 is closed (R40). -/
def State.udpClose (s : State) (sid : Nat) : State :=
  let t := s.sessionGone sid
  t.setSess sid { t.sess sid with hs := none }
def State.udpDue (s : State) : State :=
  [1, 2, 3].foldl (fun t sid => if t.udpEnabled sid || (!(t.sess sid).isOpen && (t.sess sid).hs.isNone) then t else t.udpClose sid) s

/-- SVB_CNT_CLR (R33). -/
def State.svbCntClr (s : State) : State := s.resetRegs [R.SYS_SVB_ERR]
def execSvbCntClr (s : State) : Host.Outcome State Fault Refusal := .next s.svbCntClr

/-- UDP_SESSION_DISABLE (R40): the session's bit of SYS_SVB_CTL.UDP_EN is cleared. -/
def execUdpSessionDisable (sid : Fin 4) (s : State) : Host.Outcome State Fault Refusal :=
  .next <|
    if sid.val = 0 then s
    else (s.setFld F.SYS_SVB_CTL_UDP_EN (withBit (s.fld F.SYS_SVB_CTL_UDP_EN) (sid.val - 1) false)).udpDue

/-- SKY_CTL: EN starts the baseband from the data kept or takes it out of use; RESTART and COLD (R92). -/
def State.skyWritten (s old : State) (w : Word) : State :=
  let was := old.flag F.SKY_CTL_EN
  let on := s.flag F.SKY_CTL_EN
  let t := if on && !was then s.skyStart
    else if was && !on then ((s.sky.chans.map (·.1)).foldl (fun t c => t.releaseChan c) s).setFld F.SKY_STAT_STATE 0 else s
  if !on then t
  else if onBit w F.SKY_CTL_COLD then t.skyCold
  else if onBit w F.SKY_CTL_RESTART then t.skyRestart
  else t

/-- A write of SKY_CTL, of the antenna's bias or of the interference chain's settings. -/
def State.wroteSky (s old : State) (a : Nat) (w : Word) : State :=
  if a = R.SKY_CTL then s.skyWritten old w
  else if a = R.SKY_ANT then s.antWritten old.biasOn
  else if a = R.SKY_ITF then s.itfWritten
  else s

/-! What a write starts, block by block: `s` holds the new value, `old` is the state before, and `w` the bits written 1. -/

def State.wroteSys (s : State) (a : Nat) (w : Word) : State :=
  if a = R.SYS_SVB_CTL then
    if onBit w F.SYS_SVB_CTL_CNT_CLR then s.svbCntClr else s
  else if a = R.PWR_CTL then
    let t := if onBit w F.PWR_CTL_CNT_CLR then s.pwrCntClr else s
    if w.toNat / 2 ^ 24 = 0xA5 then t.hubRst else t
  else s

def State.wroteQue (s old : State) (a : Nat) (w : Word) : State :=
  if a = R.QUE_CTL then if onBit w F.QUE_CTL_CNT_CLR then s.queCntClr else s
  else if a = R.QUE_FLUSH then if onBit w F.QUE_FLUSH_GO then s.queFlush else s
  else if a = R.QUE_SEL then s.syncQue
  else if a = R.QUE_FORCE0 then s.queForced 0 (old.reg a).toNat (s.reg a).toNat
  else if a = R.QUE_FORCE1 then s.queForced 32 (old.reg a).toNat (s.reg a).toNat
  else s

def State.wroteSch (s : State) (a : Nat) (w : Word) : State :=
  if a = R.SCH_CTL then (if onBit w F.SCH_CTL_CNT_CLR then s.schCntClr else s).atomicWritten else s

/-- A write to a pulse output's registers (R113). -/
def State.wroteTim (s old : State) (a : Nat) : State :=
  if a = R.TIM_CTL then s.timCtlWritten
  else if 0x140040 ≤ a ∧ a < 0x140060 then
    let k := (a - 0x140040) / 16
    if a = R.TIM_PPS_CTL k then s.ppsCtlWritten old k
    else if a = R.TIM_PPS_OFS k ∨ a = R.TIM_PPS_CABLE k then s.ppsWritten k
    else s
  else s

def State.wroteRtk (s old : State) (a : Nat) (w : Word) : State :=
  if a = R.RTK_CTL then
    let t := if onBit w F.RTK_CTL_CNT_CLR then s.rtkCntClr else s
    if old.flag F.RTK_CTL_AR_EN && !t.flag F.RTK_CTL_AR_EN then t.syncBase.arDisable else t.syncBase
  else s

def State.wroteSnp (s old : State) (a : Nat) (w : Word) : State :=
  if a = R.SNP_CTL then
    let t := if onBit w F.SNP_CTL_CNT_CLR then s.snpCntClr else s
    if onBit w F.SNP_CTL_FLUSH || (old.flag F.SNP_CTL_EN && !t.flag F.SNP_CTL_EN) then t.abandonSnaps else t
  else s

def State.wroteSbx (s old : State) (a : Nat) (w : Word) : State :=
  if a = R.SBX_CTL then
    let t := if onBit w F.SBX_CTL_CNT_CLR then s.sbxCntClr else s
    if old.flag F.SBX_CTL_PREVIEW_EN && !t.flag F.SBX_CTL_PREVIEW_EN then t.previewDisable else t
  else if a = R.SBX_EXP then s.noteAuthMs.syncTtb
  else s

def State.wroteAlt (s old : State) (a : Nat) (w : Word) : State :=
  if a = R.ALT_CTL then
    let t := if onBit w F.ALT_CTL_CNT_CLR then s.altCntClr else s
    if old.flag F.ALT_CTL_RA_EN && !t.flag F.ALT_CTL_RA_EN then t.raEnClear else t
  else s

def State.wroteTtb (s : State) (a : Nat) (w : Word) : State :=
  if a = R.TTB_CTL then if onBit w F.TTB_CTL_CNT_CLR then s.ttbCntClr else s else s

def State.wroteRad (s old : State) (a : Nat) (w : Word) : State :=
  if a = R.STP_CTL then if onBit w F.STP_CTL_DISC_CLR then s.discClr else s
  else if a = R.RAD_CTL then if onBit w F.RAD_CTL_CNT_CLR then s.radCntClr else s
  else if a = R.RAD_KEY then s.keysChanged old 0x0201
  else s

def State.wroteEth (s : State) (a : Nat) (w : Word) : State :=
  if a = R.ETH_CTL then if onBit w F.ETH_CTL_CNT_CLR then s.ethCntClr else s
  else if a = R.ETH_PTP_CTL then s.ptpStart
  else s

def State.wroteMtr (s old : State) (a : Nat) (w : Word) : State :=
  if a = R.MTR_CTL then
    let t := if onBit w F.MTR_CTL_CNT_CLR then s.mtrCntClr else s
    let t := if onBit w F.MTR_CTL_DEM_CLR then t.demClr else t
    t.mtrChanged old
  else s

/-- A write to LAN_CTL: its counters and restores, and a FAILED lane is reset once AUTO_REJOIN = 1 (Table 14-1). -/
def State.wroteLan (s : State) (a : Nat) (w : Word) : State :=
  if a = R.LAN_CTL then
    let t := if onBit w F.LAN_CTL_CNT_CLR then s.lanCntClr else s
    let t := if onBit w F.LAN_CTL_RESTORE_A then t.laneRestore 0 else t
    let t := if onBit w F.LAN_CTL_RESTORE_B then t.laneRestore 1 else t
    (t.autoRejoin 0).autoRejoin 1
  else s

def State.wroteSec (s old : State) (a : Nat) (w : Word) : State :=
  if a = R.SEC_CTL then (if onBit w F.SEC_CTL_CNT_CLR then s.secCntClr else s).keysChanged old 0x0201
  else if a = R.SEC_TAMPER then { s with vbat := { s.vbat with causes := s.fld F.SEC_TAMPER_CAUSE } }
  else s

def State.wroteUpd (s : State) (a : Nat) (w : Word) : State :=
  if a = R.UPD_CTL then
    let t := if onBit w F.UPD_CTL_CNT_CLR then s.updCntClr else s
    if onBit w F.UPD_CTL_ABORT then t.updAbort else t
  else if a = R.CBK_CTL then if onBit w F.CBK_CTL_CNT_CLR then s.cbkCntClr else s
  else s

/-- The TST block: CLR_ALL, injections, corruptions armed once the reply has left, jitter, delays and forced FULL. -/
def State.wroteTst (s old : State) (a : Nat) (w : Word) : State :=
  if a = R.TST_CTL then if onBit w F.TST_CTL_CLR_ALL then s.tstClrAll else s
  else if a = R.TST_ERR then if onBit w F.TST_ERR_GO then s.errGo else s
  else if a = R.TST_CRC then if onBit w F.TST_CRC_GO then { s with tst := { s.tst with crcDue := true } } else s
  else if a = R.TST_STAT then s
  else (if a = R.TST_BP then s.endForced (old.fld F.TST_BP_QUEUE) else s).tstQueues a

/-- What a write starts. -/
def State.wrote (s old : State) (a : Nat) (w : Word) : State :=
  if a < 0x20000 then s.wroteSys a w
  else if a < 0x40000 then s.wroteQue old a w
  else if a < 0x50000 then s.wroteSch a w
  else if a < 0x140000 then s.wroteSky old a w
  else if a < 0x180000 then s.wroteTim old a
  else if a < 0x1C0000 then s.wroteRtk old a w
  else if a < 0x200000 then s.wroteSnp old a w
  else if a < 0x240000 then s.wroteSbx old a w
  else if a < 0x280000 then s.wroteAlt old a w
  else if a < 0x2C0000 then s.wroteTtb a w
  else if a < 0x340000 then s.wroteRad old a w
  else if a < 0x380000 then s.wroteEth a w
  else if a < 0x3C0000 then s.wroteMtr old a w
  else if a < 0x400000 then s.wroteLan a w
  else if a < 0x440000 then s.wroteSec old a w
  else if a < 0x4C0000 then s.wroteUpd a w
  else s.wroteTst old a w

/-- A write of `v` under `mask` to a mapped register. TIM_INC is written only while DISC_EN = 0, and TIM_IN_STAT.OVF clears only for
all ones. -/
def State.writeReg (s : State) (a : Nat) (v mask : Word) : State :=
  let w := v &&& mask
  match regRow a with
  | none => s
  | some row =>
    if R.EVT_PEND0 ≤ a ∧ a ≤ R.EVT_PEND2 then s.pendClear ((a - R.EVT_PEND0) / 4) w
    else if R.EVT_EN0 ≤ a ∧ a ≤ R.EVT_EN2 then s.enWrite ((a - R.EVT_EN0) / 4) ((s.reg a &&& ~~~mask) ||| w)
    else if a = R.ETH_MDIO then s.mdioWrite ((s.reg a &&& ~~~mask &&& 0x7FFFFFFF#32) ||| w)
    else if a = R.TST_JIT then s.jitWrite ((s.reg a &&& ~~~mask) ||| w)
    else if (a = R.TIM_INC_INT ∨ a = R.TIM_INC_FRAC) ∧ s.flag F.TIM_CTL_DISC_EN then s
    else if a = R.TIM_IN_STAT then if w.toNat / 2 ^ 16 = 0xFFFF then s.setFld F.TIM_IN_STAT_OVF 0 else s
    else
      let t := s.setReg a (writeWord row (s.reg a) v mask)
      let t := if norMask a = 0 ∨ t.reg a = s.reg a then t else t.norStore a (norMask a) (t.reg a)
      t.wrote s a w

/-- REGISTER_WRITE (R9 to R12): a write of a whole register as REG_WRITE makes it. A write to a lane register is an input of the lanes
and needs one in service (R28, R50). -/
def execRegisterWrite (addr : Nat) (value : Word) (s : State) : Host.Outcome State Fault Refusal :=
  .next <|
    if !s.mapped addr || !s.serving || (calReg addr && s.fuses.sealCrc != 0) then s
    else if laneReg addr then (if s.anyLane || s.switching then s.laneInput.writeReg addr value 0xFFFFFFFF#32 else s)
    else s.writeReg addr value 0xFFFFFFFF#32

/-! ### The register commands (R53 to R55) -/

/-- Acts that follow the reply to a register write: a reset of the hub, the corruption of CRCs, the closing of UDP sessions. -/
def State.writeDue (s : State) : State :=
  let t := if s.tst.crcDue then ({ s with tst := { s.tst with crcDue := false } } : State).crcGo else s
  t.udpDue.rstDue

/-- REG_READ. -/
def doRegRead (s : State) (_ _ : Nat) (p : List Byte) : Res :=
  withLen s 4 p <|
    let a := rdN p 0 4
    if !s.mapped a then refuse s St.addressInvalid
    else
      let (v, t) := s.readReg a
      okWith t (le 4 v.toNat)

/-- A register command takes path L for a lane register. -/
def regLane (p : List Byte) : Bool := laneReg (rdN p 0 4)

def opRegRead : Op := { code := 0x0200, rights := 0, lane := regLane, run := doRegRead }
def execRegRead (c : Cmd) (s : State) : Host.Outcome State Fault Refusal := .next (s.host c opRegRead)

/-- Why a write by a session is refused: an unmapped register, a TST register of another session, an LC field, a sealed
calibration (R53, R55, R359, R509). -/
def State.writeRefusal (s : State) (sid a : Nat) (mask : Word) : Option Nat :=
  if !s.mapped a then some St.addressInvalid
  else if tstReg a && s.fld F.TST_STAT_SID != sid then some St.notAuthorised
  else if calReg a && s.fuses.sealCrc != 0 then some St.notAuthorised
  else
    match regRow a with
    | some row => if mask &&& BitVec.ofNat 32 row.lc = 0 then none else some St.notAuthorised
    | none => some St.addressInvalid

/-- REG_WRITE. -/
def doRegWrite (s : State) (sid _ : Nat) (p : List Byte) : Res :=
  withLen s 8 p <|
    let a := rdN p 0 4
    match s.writeRefusal sid a 0xFFFFFFFF#32 with
    | some st => refuse s st
    | none => okay (s.writeReg a (BitVec.ofNat 32 (rdN p 4 4)) 0xFFFFFFFF#32)

def opRegWrite : Op := { code := 0x0201, rights := 1, lane := regLane, run := doRegWrite, post := fun _ s => s.writeDue }
def execRegWrite (c : Cmd) (s : State) : Host.Outcome State Fault Refusal := .next (s.host c opRegWrite)

/-- REG_READ_BLOCK: every address is checked before any is read. -/
def doRegReadBlock (s : State) (_ _ : Nat) (p : List Byte) : Res :=
  withLen s 6 p <|
    let a := rdN p 0 4
    let n := rdN p 4 2
    let as := (List.range n).map fun i => a + 4 * i
    if n = 0 ∨ 256 < n then refuse s St.badParameter
    else if !as.all s.mapped then refuse s St.addressInvalid
    else
      let (bs, t) := s.readBlock as
      okWith t bs

def opRegReadBlock : Op := { code := 0x0202, rights := 0, lane := regLane, run := doRegReadBlock }
def execRegReadBlock (c : Cmd) (s : State) : Host.Outcome State Fault Refusal := .next (s.host c opRegReadBlock)

/-- REG_MODIFY: the reply carries the previous value. -/
def doRegModify (s : State) (sid _ : Nat) (p : List Byte) : Res :=
  withLen s 12 p <|
    let a := rdN p 0 4
    let mask := BitVec.ofNat 32 (rdN p 4 4)
    match s.writeRefusal sid a mask with
    | some st => refuse s st
    | none =>
      let (v, t) := s.readReg a
      okWith (t.writeReg a (BitVec.ofNat 32 (rdN p 8 4)) mask) (le 4 v.toNat)

def opRegModify : Op := { code := 0x0203, rights := 1, lane := regLane, run := doRegModify, post := fun _ s => s.writeDue }
def execRegModify (c : Cmd) (s : State) : Host.Outcome State Fault Refusal := .next (s.host c opRegModify)

/-- A change of a limited-change setting to `v`: its register, fuses and count (Table 16-5). -/
def State.lcWrite (s : State) (a v : Nat) : State :=
  if a = R.SEC_SITE then
    let t : State := { s with fuses := { s.fuses with siteId := v, siteLeft := s.fuses.siteLeft - 1 } }
    ((t.setFld F.SEC_SITE_SITE_ID v).setFld F.SEC_SITE_LEFT t.fuses.siteLeft).rearm
  else if a = R.SEC_BIND then
    let t : State := { s with fuses := { s.fuses with ownerId := v, ownerLeft := s.fuses.ownerLeft - 1 } }
    (t.setFld F.SEC_BIND_OWNER_ID v).syncKeys
  else
    let t : State := { s with fuses := { s.fuses with floor := v, floorLeft := s.fuses.floorLeft - 1 } }
    (t.setFld F.UPD_FLOOR_FLOOR v).setFld F.UPD_FLOOR_LEFT t.fuses.floorLeft

/-- REG_WRITE_LC (R55, R428), checked in the order of R428. -/
def doRegWriteLc (s : State) (sid seq : Nat) (p : List Byte) : Res :=
  withLen s 16 p <|
    let a := rdN p 0 4
    let v := rdN p 4 4
    let f := s.fuses
    let site := decide (a = R.SEC_SITE)
    let bind_ := decide (a = R.SEC_BIND)
    let v := if site then v % 65536 else v
    let (old, left) := if site then (f.siteId, f.siteLeft) else if bind_ then (f.ownerId, f.ownerLeft) else (f.floor, f.floorLeft)
    if !(site || bind_ || decide (a = R.UPD_FLOOR)) then refuse s St.addressInvalid
    else if !s.sigOk sid seq 0x0204 p then s.sigFail 0x0204
    else if site && !s.fleetHeld then refuse s St.fleetNotStopped
    else if bind_ && v == 0 then refuse s St.badParameter
    else if bind_ && s.vbat.rs.isNone then refuse s St.wrongState
    else if !site && !bind_ && (v != f.floor + 1 || decide (s.fld F.UPD_VINT_ACT_VINTAGE / 2 ^ 24 < v)) then refuse s St.badParameter
    else if left = 0 then (s.lcDone a old v 0 1 sid, some ⟨St.lcExhausted, []⟩)
    else okWith ((s.lcWrite a v).lcDone a old v (left - 1) 0 sid) (le 2 (left - 1))

def opRegWriteLc : Op := opH 0x0204 2 doRegWriteLc
def execRegWriteLc (c : Cmd) (s : State) : Host.Outcome State Fault Refusal := .next (s.host c opRegWriteLc)

end Sys2Proof.Machine
end

