-- ==== Sys2Proof/Machine/Session.lean ====
section
/-! DEFINITION. The session, identity and bulk commands (R41, R42, R52, R56, R521). -/

namespace Sys2Proof.Machine

/-- PING (Table 2-9) echoes its payload. A payload whose echo would not fit a reply (R30) has the wrong length. -/
def doPing (s : State) (sid _ : Nat) (p : List Byte) : Res :=
  if 1406 < wireLength (s.sess sid).auth 0x0100 p then refuse s St.badLength else okWith s p
def opPing : Op := opH 0x0100 0 doPing
def execPing (c : Cmd) (s : State) : Host.Outcome State Fault Refusal := .next (s.host c opPing)

/-- SESSION_OPEN and SESSION_CONFIRM are handled before R43 (R42): they never come to execution as other commands do. -/
def opSessionOpen : Op := opH 0x0101 0 fun s _ _ _ => refuse s St.wrongState
def execSessionOpen (c : Cmd) (s : State) : Host.Outcome State Fault Refusal := .next (s.host c opSessionOpen)

def opSessionConfirm : Op := opH 0x0102 0 fun s _ _ _ => refuse s St.wrongState
def execSessionConfirm (c : Cmd) (s : State) : Host.Outcome State Fault Refusal := .next (s.host c opSessionConfirm)

/-- SESSION_CLOSE (R42): the session closes once the reply has been sent. -/
def doSessionClose (s : State) (sid _ : Nat) (p : List Byte) : Res :=
  withLen s 0 p (okay (s.setSess sid { s.sess sid with closing := true }))

/-- The session of a SESSION_CLOSE that has its reply closes. -/
def State.closeDue (sid : Nat) (s : State) : State := if (s.sess sid).closing then s.sessionGone sid else s

def opSessionClose : Op := { code := 0x0103, rights := 0, run := doSessionClose, post := State.closeDue }
def execSessionClose (c : Cmd) (s : State) : Host.Outcome State Fault Refusal := .next (s.host c opSessionClose)

/-- HANDSHAKE_LAPSE (R42): 5 s without a valid SESSION_CONFIRM. -/
def execHandshakeLapse (sid : Fin 4) (s : State) : Host.Outcome State Fault Refusal :=
  let ss := s.sess sid.val
  .next <|
    match ss.hs with
    | some h => if s.passed h.at_ (5 * oneSec) then s.setSess sid.val { ss with hs := none } else s
    | none => s

/-- UDP_SESSION_IDLE (R42): IDLE_S seconds without an authenticated packet; 0 sets no timeout. -/
def execUdpSessionIdle (sid : Fin 4) (s : State) : Host.Outcome State Fault Refusal :=
  let i := sid.val
  let n := s.fld F.SYS_SVB_CTL_IDLE_S
  .next <|
    if i ≠ 0 ∧ (s.sess i).isOpen = true ∧ n ≠ 0 ∧ s.passed (s.sess i).lastAuth (n * oneSec) = true then
      (s.sessionGone i).raise Ev.sysSvbIdle (le 1 i)
    else s

/-- GET_IDENTITY (Table 2-15). -/
def doGetIdentity (s : State) (_ _ : Nat) (p : List Byte) : Res :=
  withLen s 0 p <|
    let step := 16 * s.fld F.SYS_ID_STEP_MAJOR + s.fld F.SYS_ID_STEP_MINOR
    let vintage := if s.upd.recovery then 0 else s.fld F.UPD_VINT_ACT_VINTAGE
    okWith s (le 2 (s.fld F.SYS_ID_TYPE_ID) ++ le 1 step ++ [0] ++ le 4 vintage ++ le 8 s.fuses.unitId)
def opGetIdentity : Op := opH 0x0104 0 doGetIdentity
def execGetIdentity (c : Cmd) (s : State) : Host.Outcome State Fault Refusal := .next (s.host c opGetIdentity)

/-- EVENT_SUBSCRIBE (R56): the session's 96-bit mask of event sources. -/
def doEventSubscribe (s : State) (sid _ : Nat) (p : List Byte) : Res :=
  withLen s 12 p <| okay (s.setSess sid { s.sess sid with mask := rdN p 0 12 })
def opEventSubscribe : Op := opH 0x0108 0 doEventSubscribe
def execEventSubscribe (c : Cmd) (s : State) : Host.Outcome State Fault Refusal := .next (s.host c opEventSubscribe)

/-- A span of the shared DRAM partition that a bulk command may name (R521). -/
def bulkOk (off len : Nat) : Bool := off % 4 == 0 && len % 4 == 0 && decide (off + len ≤ 0x08000000)

/-- BULK_WRITE (R521). -/
def doBulkWrite (s : State) (_ _ : Nat) (p : List Byte) : Res :=
  let off := rdN p 0 4
  let data := p.drop 4
  if p.length < 5 then refuse s St.badLength
  else if !bulkOk off data.length then refuse s St.badParameter
  else okay (s.dramStore off data)
def opBulkWrite : Op := opH 0x0109 1 doBulkWrite
def execBulkWrite (c : Cmd) (s : State) : Host.Outcome State Fault Refusal := .next (s.host c opBulkWrite)

/-- BULK_READ (R521). -/
def doBulkRead (s : State) (_ _ : Nat) (p : List Byte) : Res :=
  withLen s 8 p <|
    let off := rdN p 0 4
    let len := rdN p 4 2
    if len < 4 ∨ 1396 < len ∨ !bulkOk off len then refuse s St.badParameter
    else okWith s (bytesAt s.dram off len)
def opBulkRead : Op := opH 0x010A 0 doBulkRead
def execBulkRead (c : Cmd) (s : State) : Host.Outcome State Fault Refusal := .next (s.host c opBulkRead)

end Sys2Proof.Machine
end

