-- ==== Sys2Proof/Machine/Transport.lean ====
section
/-! DEFINITION. The opcodes (Table 2-9) and the host transports: SPI for session 0 (R35 to R39), UDP for sessions 1 to 3 (R40),
and the tests that every received packet passes (R30 to R34). -/

namespace Sys2Proof.Machine

/-! ### Opcodes -/

def opsSys : List Op := [opPing, opSessionOpen, opSessionConfirm, opSessionClose, opGetIdentity, opGetStatus, opSetPowerState, opSetPowerCap, opEventSubscribe, opBulkWrite, opBulkRead, opResetEngine]
def opsReg : List Op := [opRegRead, opRegWrite, opRegReadBlock, opRegModify, opRegWriteLc]
def opsSky : List Op := [opSkyConfig, opSkySetBasePosition, opSkyExclude, opSkyGetChannels, opSkyRtcmConfig]
def opsRtk : List Op := [opRtkSetSiteOrigin, opRtkSetRateClass, opRtkSetNoise, opRtkResetRover, opRtkGetFix]
def opsSbx : List Op := [opSbxMapStage, opSbxMapActivate, opSbxRequest, opSbxRelease, opSbxRevoke, opSbxZoneSet, opSbxGetState]
def opsAlt : List Op := [opAltTaskAdd, opAltTaskCancel, opAltTaskGet, opAltLandmarksLoad, opAltRoundNow]
def opsTtb : List Op := [opTtbCamStage, opTtbCamActivate, opTtbSetLimits, opTtbGetProfile]
def opsStp : List Op := [opStopAll, opStopRover, opStopZone, opStopRelease, opStopGetState]
def opsRad : List Op := [opRadPortConfig, opRadSuperframeSet, opRadRoverAssign, opRadRoverEvict, opRadGetLink]
def opsEth : List Op := [opEthPortConfig, opPtpConfig, opTimeGet, opTimeRestep, opPpsConfig, opChainDiscover]
def opsMtr : List Op := [opMtrConfig, opMtrGetReadings, opMtrGetHarmonics, opMtrSetCap, opMtrCalSeal]
def opsLan : List Op := [opLanGetState, opLanSwitch]
def opsSec : List Op := [opSecCaskLoad, opSecCaskUnload, opUpdImageBegin, opUpdImageData, opUpdImageEnd, opUpdDecant, opUpdDecantSchedule, opUpdGetState]
def opsCbk : List Op := [opCbkFreeze, opCbkThaw, opCbkRead, opCbkClear]
def opsTst : List Op := [opTstUnlock, opTstLock]

/-- Every opcode of Table 2-9. -/
def allOps : List Op := opsSys ++ opsReg ++ opsSky ++ opsRtk ++ opsSbx ++ opsAlt ++ opsTtb ++ opsStp ++ opsRad ++ opsEth ++ opsMtr ++ opsLan ++ opsSec ++ opsCbk ++ opsTst

/-- The command of an opcode. -/
def opOf (code : Nat) : Option Op := allOps.find? fun o => o.code == code

/-- An undefined opcode receives BAD_OPCODE (R52). -/
def undefinedOp (code : Nat) : Op := { code := code, rights := 0, known := false, run := fun s _ _ _ => refuse s St.badOpcode }

/-- UNDEFINED_OPCODE (R52): a command with any opcode, which is undefined unless Table 2-9 lists it. -/
def execUndefinedOpcode (c : Cmd) (opcode : BitVec 16) (s : State) : Host.Outcome State Fault Refusal :=
  .next (s.host c ((opOf opcode.toNat).getD (undefinedOp opcode.toNat)))

/-! ### Received packets (R30 to R34) -/

/-- Bytes that hold exactly one packet: the sync bytes, a LENGTH of at most 1,408, and nothing before or after it. -/
def onePacket (b : List Byte) : Bool :=
  decide (14 ≤ b.length) && rdN b 0 2 == 0x5EA5 && decide (rdN b 8 2 ≤ 1408) && b.length == 14 + rdN b 8 2

/-- The tag of a packet under a key (R32): it covers byte 2 through the last payload byte before it. -/
def tagOk (key : Nat) (b : List Byte) : Bool :=
  let n := rdN b 8 2
  bit (rdN b 3 1) 7 && decide (8 ≤ n) && cmac64 key ((b.drop 2).take n) == (b.drop (2 + n)).take 8

/-- The payload of a packet without its tag, which AUTH announces (Table 2-2). -/
def bodyOf (b : List Byte) : List Byte :=
  let n := rdN b 8 2
  let p := (b.drop 10).take n
  if bit (rdN b 3 1) 7 then p.take (n - 8) else p

/-- A packet that has passed R33: one of another VERSION receives BAD_VERSION (R34). -/
def State.versioned (s : State) (sid src : Nat) (b : List Byte) : State :=
  let seq := rdN b 4 2
  let code := rdN b 6 2
  let ss := s.sess sid
  if rdN b 2 1 ≠ 1 then s.sendPkt sid src (.reply seq code false (ss.isOpen && ss.auth && code != 0x0101) ⟨St.badVersion, []⟩)
  else s.command sid src seq code ((opOf code).getD (undefinedOp code)) (bodyOf b)

/-- A packet received on SPI or UDP (R33): whether it was taken, and the state after. `src` is where a reply to it goes. -/
def State.ingest (s : State) (udp : Bool) (src : Nat) (b : List Byte) : Bool × State :=
  let flags := rdN b 3 1
  let sid := flags % 16
  let code := rdN b 6 2
  let n := b.length - 4
  let ss := s.sess sid
  let kind := if code = 0x0102 then 1 else 0
  let framing : Bool × State := (false, s.satInc F.SYS_SVB_ERR_FRAMING)
  let wrongSid := if udp then sid == 0 || decide (3 < sid) || !s.udpEnabled sid else sid != 0
  if !onePacket b then framing
  else if rdN b n 4 ≠ crc32c ((b.drop 2).take (n - 2)) then (false, s.satInc F.SYS_SVB_ERR_CRC)
  else if wrongSid || flags / 16 % 8 != 0 then framing
  else if code = 0x0101 then
    if bit flags 7 then (false, s.authFail sid 0) else (true, s.versioned sid src b)
  else
    match code == 0x0102, ss.hs with
    | true, some h => if tagOk h.key b then (true, s.versioned sid src b) else (false, s.authFail sid 1)
    | _, _ =>
      if ss.isOpen && ss.auth then
        if tagOk ss.key b then (true, (s.setSess sid { ss with lastAuth := s.el, peer := src }).versioned sid src b)
        else (false, s.authFail sid kind)
      else (true, s.versioned sid src b)

/-- UDP_DATAGRAM (R40): a datagram to port 48110 of the module's address, from IPv4 address × 65,536 + port `src`. -/
def execUdpDatagram (src : Nat) (bytes : List Byte) (s : State) : Host.Outcome State Fault Refusal :=
  .next (if s.serving && s.transportUp 1 then (s.ingest true src bytes).2 else s)

/-! ### SPI (R35 to R39) -/

/-- HS_RDY_N goes high after a transaction. -/
def State.spiBusy (s : State) : State := { s with svb := { s.svb with rdyHigh := true } }

/-- A framing error: counted in SYS_SVB_ERR.FRAMING and shown by FRAMING of the status word. -/
def State.spiFraming (s : State) : State := ({ s with svb := { s.svb with framing := true } } : State).satInc F.SYS_SVB_ERR_FRAMING

/-- The next output packet of session 0 (R38, R39): one whose READ ended early, else the oldest urgent event, else the oldest
packet. -/
def State.nextOut (s : State) : Option OutPkt :=
  let out := (s.sess 0).out
  (out.find? (·.cut)).orElse fun _ => (out.find? (OutPkt.isClass 0)).orElse fun _ => out.head?

/-- A transaction on SPI: ignored and counted as a framing error while HS_RDY_N is high, which it is from reset until the hub is
ready and in Dormant (R36, R474), and not taken while SPI_EN is 0. -/
def State.spi (s : State) (k : State → State) : State :=
  if !s.powered || s.pwr.resetHeld then s
  else if s.svb.rdyHigh then s.spiFraming
  else if !s.serving || !s.transportUp 0 then s
  else (k s).spiBusy

/-- The status word of Table 2-4. Commands execute as they arrive, so the input buffer is empty between transactions. -/
def State.statusWord (s : State) : List Byte :=
  let len := match s.nextOut with
    | some p => (packOut 0 p).length
    | none => 0
  le 2 len ++ le 2 8192 ++ le 1 (b2n s.svb.overflow + 2 * b2n s.svb.framing + 4 * s.fld F.SYS_SVB_STAT_HELD) ++ zeros 3

/-- SPI_STATUS: OVERFLOW and FRAMING clear when the status word is read (R37). -/
def execSpiStatus (s : State) : Host.Outcome State Fault Refusal :=
  .next <| s.spi fun s => ({ s with svb := { s.svb with overflow := false, framing := false } } : State).emit (.spi s.statusWord)

/-- SPI_WRITE (R37): one packet into the input buffer. -/
def execSpiWrite (bytes : List Byte) (s : State) : Host.Outcome State Fault Refusal :=
  .next <| s.spi fun s =>
    if 8192 < bytes.length then { s with svb := { s.svb with overflow := true } }
    else
      let (taken, t) := s.ingest false 0 bytes
      if taken then t else { t with svb := { t.svb with framing := true } }

/-- SPI_READ (R38): the host clocks out `n` bytes of the next packet, followed by 0x00 bytes. The packet leaves the queue when the READ
has taken its last CRC byte. -/
def execSpiRead (n : Nat) (s : State) : Host.Outcome State Fault Refusal :=
  .next <| s.spi fun s =>
    let ss := s.sess 0
    match s.nextOut with
    | none => s.emit (.spi (zeros n))
    | some p =>
      let bytes := packOut 0 p
      let t := s.emit (.spi ((bytes ++ zeros (n - bytes.length)).take n))
      if bytes.length ≤ n then
        let t := (t.setSess 0 { ss with out := ss.out.erase p }).syncOut
        { t with svb := { t.svb with kept := t.svb.kept.filter fun o => some o.tag != p.lane } }
      else t.setSess 0 { ss with out := ss.out.replace p { p with cut := true } }

/-- SPI_INVALID_CODE (R35): a code other than STATUS, WRITE and READ. -/
def execSpiInvalidCode (code : Byte) (s : State) : Host.Outcome State Fault Refusal :=
  .next (if 1 ≤ code.toNat ∧ code.toNat ≤ 3 then s else s.spi State.spiFraming)

/-- SPI_CS_WHILE_BUSY (R36). -/
def execSpiCsWhileBusy (s : State) : Host.Outcome State Fault Refusal :=
  .next (if s.powered && !s.pwr.resetHeld && s.svb.rdyHigh then s.spiFraming else s)

/-- HS_RDY_READY (R36): the module is ready for the next transaction. -/
def execHsRdyReady (s : State) : Host.Outcome State Fault Refusal :=
  .next (if s.serving then { s with svb := { s.svb with rdyHigh := false } } else s)

end Sys2Proof.Machine
end

