-- ==== Sys2Proof/Machine/Due.lean ====
section
/-! DEFINITION. What becomes due: instants after which a reply may leave, and what follows a reply that has left. -/

namespace Sys2Proof.Machine

/-- What was to follow a reply happens once it has left (R472, R478, Table 15-8). -/
def State.runPosts (s : State) : State :=
  let due (p : Nat × Nat × Nat) : Bool := !(s.sess p.1).outst.any fun e => e.seq == p.2.1
  (s.svb.posts.filter due).foldl
    (fun t p =>
      match opOf p.2.2 with
      | some op => op.post p.1 t
      | none => t)
    { s with svb := { s.svb with posts := s.svb.posts.filter fun p => !due p } }

/-- LANE_TICK (R26): the next 1 ms tick, and by then whatever follows a reply that has left. -/
def execLaneTick (s : State) : Host.Outcome State Fault Refusal := .next s.laneTick.runPosts

/-- SWITCH_OVER_END (R373). -/
def execSwitchOverEnd (s : State) : Host.Outcome State Fault Refusal := .next s.switchOverEnd.runPosts

/-- DISCOVER_COLLECT_END (R327). -/
def execDiscoverCollectEnd (s : State) : Host.Outcome State Fault Refusal := .next s.discoverCollectEnd.runPosts

/-- RESTEP_APPLY (R106). -/
def execRestepApply (s : State) : Host.Outcome State Fault Refusal := .next s.restepApply.runPosts

end Sys2Proof.Machine
end

