-- ==== Sys2Proof/Machine/Switch.lean ====
section
/-! DEFINITION. What a received Ethernet frame does (R311, R324): checks, learning, forwarding, and delivery on port 2 to the
chain, the clocks, ARP, ICMP and Sveteb. -/

namespace Sys2Proof.Machine

/-! ### Destination addresses -/

/-- 01-80-C2-00-00-00 to 01-80-C2-00-00-0F, never forwarded. -/
def isReserved (mac : Nat) : Bool := mac / 16 == 0x0180C200000

/-- The PTP multicasts of the ordinary clock (IEEE 1588 Annexes E and C). -/
def isPtpGroup (mac : Nat) : Bool := mac == 0x011B19000000 || mac == 0x01005E000181

def broadcast : Nat := 0xFFFFFFFFFFFF

/-- The chain destination address of Table 12-3. -/
def chainMac : Nat := beNat chainDA

/-- A VLAN-tagged frame. -/
def isTagged (f : List Byte) : Bool := etherType f == 0x8100

/-- A Pdelay message, which the port handles itself (R317). -/
def isPdelay (f : List Byte) : Bool :=
  match ptpAt f with
  | some (_, o) => [ptPDELAY_REQ, ptPDELAY_RESP, ptPDELAY_FOLLOW].contains (ptpType f o)
  | none => false

/-! ### Delivery on port 2 -/

/-- A chain frame (R324): of this version, type and site; all but STOP only while CHAIN_EN = 1. -/
def State.chainIn (s : State) (n : Nat) (f : List Byte) : State :=
  match chainPayload (rdN f 15 1) f with
  | none => s
  | some p =>
    let ctype := rdN f 15 1
    if rdN p 0 2 ≠ s.site then s
    else if ctype = ctSTOP then s.chainStopIn n p
    else if !s.flag F.ETH_CTL_CHAIN_EN then s
    else if ctype = ctHELLO then s.helloIn n p
    else if ctype = ctDISCOVER then s.discoverIn n p
    else if ctype = ctREPLY then s.discoverReplyIn n p
    else if ctype = ctIMAGE then s.imageIn n p
    else if ctype = ctDECANT then s.decantIn n p
    else s

/-- A UDP datagram to the module: one to port 48110 goes to Sveteb (R40). A bad checksum discards it (RFC 768). -/
def State.udpIn (s : State) (f p : List Byte) : State :=
  let src := beNat ((f.drop 26).take 4)
  let len := beNat ((p.drop 4).take 2)
  let pseudo := (f.drop 26).take 8 ++ be 2 17 ++ be 2 len
  let good := beNat ((p.drop 6).take 2) == 0 || fold16 (sum16 (pseudo ++ p.take len)) == 65535
  if len < 8 ∨ p.length < len ∨ !good ∨ beNat ((p.drop 2).take 2) ≠ 48110 ∨ !s.serving ∨ !s.transportUp 1 then s
  else (s.ingest true (src * 65536 + beNat (p.take 2)) ((p.take len).drop 8)).2

/-- A frame delivered on port 2; a tagged one is discarded, and so is an IP fragment (R40, R311). -/
def State.portTwo (s : State) (n : Nat) (x : EthIn) : State :=
  let f := x.bytes
  if isTagged f then s
  else
    match ptpAt f with
    | some (tr, o) => s.ptpIn n x tr o
    | none =>
      if etherType f = 0x0806 then s.arpIn n f
      else
        match s.ipFor f with
        | some (proto, p) =>
          if beNat ((f.drop 20).take 2) % 0x4000 ≠ 0 then s
          else if proto = 1 then s.icmpIn n f p
          else if proto = 17 then s.udpIn f p
          else s
        | none => s

/-- A Pdelay message: handled by the port in P2P mode, discarded in E2E mode (R317). -/
def State.pdelayIn (s : State) (n : Nat) (x : EthIn) : State :=
  match ptpAt x.bytes with
  | some (_, o) => if ptpType x.bytes o = ptPDELAY_REQ then s.pdelayReqIn n x o else s.pdelayRespIn n x o
  | none => s

/-! ### The switch -/

/-- Forwarding of a good frame (R311). -/
def State.forward (s : State) (n : Nat) (x : EthIn) : State :=
  let da := frameDA x.bytes
  if isPdelay x.bytes then s.pdelayIn n x
  else if isReserved da then s
  else if da = chainMac then s.chainIn n x.bytes
  else if da = s.mac then s.portTwo n x
  else if da = broadcast ∨ isPtpGroup da then (s.transit n x).portTwo n x
  else
    match s.eth.table.find? fun l => l.mac == da with
    | some l => if l.port = n then s else s.transit n x
    | none => s.transit n x

/-- A frame received on an external port with link (R311, R313). `bytes` stand without the FCS. -/
def State.frameIn (s : State) (n : Nat) (x : EthIn) : State :=
  if !s.ethUp n then s
  else if !x.fcsOk ∨ 1518 < x.bytes.length then s.satInc (F.ETH_P_CNT0_RX_ERR n)
  else
    let t := (s.satInc (F.ETH_P_CNT1_RX_OK n)).learn n (frameSA x.bytes)
    let t := if x.fill = 1 then t.pauseOut n 0xFFFF else if x.fill = 2 then t.pauseOut n 0 else t
    match pauseQuanta x.bytes with
    | some q => t.pauseIn n q
    | none => t.forward n x

/-- ETH_FRAME_RECEIVE (R311): any frame. -/
def execEthFrameReceive (n : Fin 2) (x : EthIn) (s : State) : Host.Outcome State Fault Refusal := .next (s.frameIn n.val x)

/-! A row that names a kind of frame is the receipt of such a frame; any other frame is not that happening. -/

def State.frameOf (s : State) (n : Fin 2) (x : EthIn) (kind : Bool) : Host.Outcome State Fault Refusal :=
  .next (if kind then s.frameIn n.val x else s)

/-- A PTP message of one of some types. -/
def isPtp (types : List Nat) (f : List Byte) : Bool :=
  match ptpAt f with
  | some (_, o) => types.contains (ptpType f o)
  | none => false

/-- A chain frame of a type, with a SUB where one is named. -/
def isChain (ctype : Nat) (sub : Nat → Bool) (f : List Byte) : Bool :=
  match chainPayload ctype f with
  | some p => sub (rdN p 3 1)
  | none => false

def execPauseFrameReceive (n : Fin 2) (x : EthIn) (s : State) : Host.Outcome State Fault Refusal := s.frameOf n x (pauseQuanta x.bytes).isSome
def execPdelayRespReceive (n : Fin 2) (x : EthIn) (s : State) : Host.Outcome State Fault Refusal :=
  s.frameOf n x (isPtp [ptPDELAY_RESP, ptPDELAY_FOLLOW] x.bytes)
def execPdelayReqReceive (n : Fin 2) (x : EthIn) (s : State) : Host.Outcome State Fault Refusal := s.frameOf n x (isPtp [ptPDELAY_REQ] x.bytes)
def execPtpAnnounceReceive (n : Fin 2) (x : EthIn) (s : State) : Host.Outcome State Fault Refusal := s.frameOf n x (isPtp [ptANNOUNCE] x.bytes)
def execPtpSyncReceive (n : Fin 2) (x : EthIn) (s : State) : Host.Outcome State Fault Refusal := s.frameOf n x (isPtp [ptSYNC, ptFOLLOW_UP] x.bytes)
def execPtpDelayRespReceive (n : Fin 2) (x : EthIn) (s : State) : Host.Outcome State Fault Refusal := s.frameOf n x (isPtp [ptDELAY_RESP] x.bytes)
def execArpRequest (n : Fin 2) (x : EthIn) (s : State) : Host.Outcome State Fault Refusal := s.frameOf n x (etherType x.bytes == 0x0806)
def execIcmpEcho (n : Fin 2) (x : EthIn) (s : State) : Host.Outcome State Fault Refusal :=
  s.frameOf n x (etherType x.bytes == 0x0800 && rdN x.bytes 23 1 == 1)
def execHelloReceive (n : Fin 2) (x : EthIn) (s : State) : Host.Outcome State Fault Refusal := s.frameOf n x (isChain ctHELLO (fun _ => true) x.bytes)
def execDiscoverReceive (n : Fin 2) (x : EthIn) (s : State) : Host.Outcome State Fault Refusal :=
  s.frameOf n x (isChain ctDISCOVER (fun _ => true) x.bytes)
def execDiscoverReplyReceive (n : Fin 2) (x : EthIn) (s : State) : Host.Outcome State Fault Refusal :=
  s.frameOf n x (isChain ctREPLY (fun _ => true) x.bytes)
def execImageDataReceive (n : Fin 2) (x : EthIn) (s : State) : Host.Outcome State Fault Refusal := s.frameOf n x (isChain ctIMAGE (· == 0) x.bytes)
def execImageStatusReceive (n : Fin 2) (x : EthIn) (s : State) : Host.Outcome State Fault Refusal := s.frameOf n x (isChain ctIMAGE (· != 0) x.bytes)
def execDecantFrameReceive (n : Fin 2) (x : EthIn) (s : State) : Host.Outcome State Fault Refusal :=
  s.frameOf n x (isChain ctDECANT (fun _ => true) x.bytes)

end Sys2Proof.Machine
end

