-- ==== Sys2Proof/Machine/Dispatch.lean ====
section
/-! DEFINITION. One arm per command: a direct call of its meaning. -/

namespace Sys2Proof.Machine

/-- The effect of a command on everything but the queue of waiting commands. -/
def exec (i : Instr) (s : State) : Host.Outcome State Fault Refusal :=
  match i with
  | .spiWrite bytes => Sys2Proof.Machine.execSpiWrite bytes s
  | .spiRead n => Sys2Proof.Machine.execSpiRead n s
  | .spiInvalidCode code => Sys2Proof.Machine.execSpiInvalidCode code s
  | .udpDatagram src bytes => Sys2Proof.Machine.execUdpDatagram src bytes s
  | .undefinedOpcode c opcode => Sys2Proof.Machine.execUndefinedOpcode c opcode s
  | .handshakeLapse sid => Sys2Proof.Machine.execHandshakeLapse sid s
  | .udpSessionIdle sid => Sys2Proof.Machine.execUdpSessionIdle sid s
  | .ping c => Sys2Proof.Machine.execPing c s
  | .sessionOpen c => Sys2Proof.Machine.execSessionOpen c s
  | .sessionConfirm c => Sys2Proof.Machine.execSessionConfirm c s
  | .sessionClose c => Sys2Proof.Machine.execSessionClose c s
  | .getIdentity c => Sys2Proof.Machine.execGetIdentity c s
  | .getStatus c => Sys2Proof.Machine.execGetStatus c s
  | .setPowerState c => Sys2Proof.Machine.execSetPowerState c s
  | .setPowerCap c => Sys2Proof.Machine.execSetPowerCap c s
  | .eventSubscribe c => Sys2Proof.Machine.execEventSubscribe c s
  | .bulkWrite c => Sys2Proof.Machine.execBulkWrite c s
  | .bulkRead c => Sys2Proof.Machine.execBulkRead c s
  | .resetEngine c => Sys2Proof.Machine.execResetEngine c s
  | .regRead c => Sys2Proof.Machine.execRegRead c s
  | .regWrite c => Sys2Proof.Machine.execRegWrite c s
  | .regReadBlock c => Sys2Proof.Machine.execRegReadBlock c s
  | .regModify c => Sys2Proof.Machine.execRegModify c s
  | .regWriteLc c => Sys2Proof.Machine.execRegWriteLc c s
  | .registerWrite addr value => Sys2Proof.Machine.execRegisterWrite addr value s
  | .udpSessionDisable sid => Sys2Proof.Machine.execUdpSessionDisable sid s
  | .skyConfig c => Sys2Proof.Machine.execSkyConfig c s
  | .skySetBasePosition c => Sys2Proof.Machine.execSkySetBasePosition c s
  | .skyExclude c => Sys2Proof.Machine.execSkyExclude c s
  | .skyGetChannels c => Sys2Proof.Machine.execSkyGetChannels c s
  | .skyRtcmConfig c => Sys2Proof.Machine.execSkyRtcmConfig c s
  | .measurementEpoch clkBias clkDrift => Sys2Proof.Machine.execMeasurementEpoch clkBias clkDrift s
  | .antennaOpen current => Sys2Proof.Machine.execAntennaOpen current s
  | .antennaShort current => Sys2Proof.Machine.execAntennaShort current s
  | .antennaBiasRetry current => Sys2Proof.Machine.execAntennaBiasRetry current s
  | .notchEngage band notch level freq => Sys2Proof.Machine.execNotchEngage band notch level freq s
  | .notchRelease band notch level => Sys2Proof.Machine.execNotchRelease band notch level s
  | .interferenceCondition band samples => Sys2Proof.Machine.execInterferenceCondition band samples s
  | .satelliteAcquired ch a => Sys2Proof.Machine.execSatelliteAcquired ch a s
  | .l5Handover ch offset power => Sys2Proof.Machine.execL5Handover ch offset power s
  | .channelRelease ch => Sys2Proof.Machine.execChannelRelease ch s
  | .loopUpdate ch band v => Sys2Proof.Machine.execLoopUpdate ch band v s
  | .pllBandwidthUpdate ch band => Sys2Proof.Machine.execPllBandwidthUpdate ch band s
  | .sidePeakCorrection ch band => Sys2Proof.Machine.execSidePeakCorrection ch band s
  | .carrierLockLoss ch band => Sys2Proof.Machine.execCarrierLockLoss ch band s
  | .codeLockLoss ch band => Sys2Proof.Machine.execCodeLockLoss ch band s
  | .navRecord ch band v => Sys2Proof.Machine.execNavRecord ch band v s
  | .timeInEdge falling phase width => Sys2Proof.Machine.execTimeInEdge falling phase width s
  | .sourceQualify k yf => Sys2Proof.Machine.execSourceQualify k yf s
  | .sourceLost k => Sys2Proof.Machine.execSourceLost k s
  | .yfReplace yf => Sys2Proof.Machine.execYfReplace yf s
  | .ppsEdge k => Sys2Proof.Machine.execPpsEdge k s
  | .observationIntake slot body => Sys2Proof.Machine.execObservationIntake slot body s
  | .rtkCycle sols => Sys2Proof.Machine.execRtkCycle sols s
  | .fixLostNone slot => Sys2Proof.Machine.execFixLostNone slot s
  | .ionoFreeSwitch slot => Sys2Proof.Machine.execIonoFreeSwitch slot s
  | .rtkSetSiteOrigin c => Sys2Proof.Machine.execRtkSetSiteOrigin c s
  | .rtkSetRateClass c => Sys2Proof.Machine.execRtkSetRateClass c s
  | .rtkSetNoise c => Sys2Proof.Machine.execRtkSetNoise c s
  | .rtkResetRover c => Sys2Proof.Machine.execRtkResetRover c s
  | .rtkGetFix c => Sys2Proof.Machine.execRtkGetFix c s
  | .bulkUpReceive port bytes => Sys2Proof.Machine.execBulkUpReceive port bytes s
  | .snapshotSolveDone => Sys2Proof.Machine.execSnapshotSolveDone s
  | .snapshotMissing slot => Sys2Proof.Machine.execSnapshotMissing slot s
  | .snapshotAsmTimeout slot => Sys2Proof.Machine.execSnapshotAsmTimeout slot s
  | .sbxPass us => Sys2Proof.Machine.execSbxPass us s
  | .authorityExpiry slot => Sys2Proof.Machine.execAuthorityExpiry slot s
  | .releasingExpiry slot => Sys2Proof.Machine.execReleasingExpiry slot s
  | .avoidExpiry slot => Sys2Proof.Machine.execAvoidExpiry slot s
  | .withdrawTimeout slot => Sys2Proof.Machine.execWithdrawTimeout slot s
  | .previewExpiry slot => Sys2Proof.Machine.execPreviewExpiry slot s
  | .sbxMapStage c => Sys2Proof.Machine.execSbxMapStage c s
  | .sbxMapActivate c => Sys2Proof.Machine.execSbxMapActivate c s
  | .sbxRequest c => Sys2Proof.Machine.execSbxRequest c s
  | .sbxRelease c => Sys2Proof.Machine.execSbxRelease c s
  | .sbxRevoke c => Sys2Proof.Machine.execSbxRevoke c s
  | .sbxZoneSet c => Sys2Proof.Machine.execSbxZoneSet c s
  | .sbxGetState c => Sys2Proof.Machine.execSbxGetState c s
  | .allotRoundTimeout phases => Sys2Proof.Machine.execAllotRoundTimeout phases s
  | .routeSearch slot route => Sys2Proof.Machine.execRouteSearch slot route s
  | .rerouteAnswer slot route => Sys2Proof.Machine.execRerouteAnswer slot route s
  | .routeRefusalRetry slot route => Sys2Proof.Machine.execRouteRefusalRetry slot route s
  | .altTaskAdd c => Sys2Proof.Machine.execAltTaskAdd c s
  | .altTaskCancel c => Sys2Proof.Machine.execAltTaskCancel c s
  | .altTaskGet c => Sys2Proof.Machine.execAltTaskGet c s
  | .altLandmarksLoad c => Sys2Proof.Machine.execAltLandmarksLoad c s
  | .altRoundNow c => Sys2Proof.Machine.execAltRoundNow c s
  | .profilePlan => Sys2Proof.Machine.execProfilePlan s
  | .authorityCommit us => Sys2Proof.Machine.execAuthorityCommit us s
  | .profileWordBoundary slot => Sys2Proof.Machine.execProfileWordBoundary slot s
  | .ttbCamStage c => Sys2Proof.Machine.execTtbCamStage c s
  | .ttbCamActivate c => Sys2Proof.Machine.execTtbCamActivate c s
  | .ttbSetLimits c => Sys2Proof.Machine.execTtbSetLimits c s
  | .ttbGetProfile c => Sys2Proof.Machine.execTtbGetProfile c s
  | .downlinkRun slot => Sys2Proof.Machine.execDownlinkRun slot s
  | .bulkDownRun port => Sys2Proof.Machine.execBulkDownRun port s
  | .upFrameReceive port bytes rxts rssi => Sys2Proof.Machine.execUpFrameReceive port bytes rxts rssi s
  | .joinReceive port bytes => Sys2Proof.Machine.execJoinReceive port bytes s
  | .joinAnswer port => Sys2Proof.Machine.execJoinAnswer port s
  | .uplinkMiss slot => Sys2Proof.Machine.execUplinkMiss slot s
  | .evictionComplete slot => Sys2Proof.Machine.execEvictionComplete slot s
  | .stopFrameArm port back => Sys2Proof.Machine.execStopFrameArm port back s
  | .armReadback port back => Sys2Proof.Machine.execArmReadback port back s
  | .radPortConfig c => Sys2Proof.Machine.execRadPortConfig c s
  | .radSuperframeSet c => Sys2Proof.Machine.execRadSuperframeSet c s
  | .radRoverAssign c => Sys2Proof.Machine.execRadRoverAssign c s
  | .radRoverEvict c => Sys2Proof.Machine.execRadRoverEvict c s
  | .radGetLink c => Sys2Proof.Machine.execRadGetLink c s
  | .stopInputActive k => Sys2Proof.Machine.execStopInputActive k s
  | .stopInputInactive k => Sys2Proof.Machine.execStopInputInactive k s
  | .hubCheckFail cause => Sys2Proof.Machine.execHubCheckFail cause s
  | .chainStopReceive n frame => Sys2Proof.Machine.execChainStopReceive n frame s
  | .stopAll c => Sys2Proof.Machine.execStopAll c s
  | .stopRover c => Sys2Proof.Machine.execStopRover c s
  | .stopZone c => Sys2Proof.Machine.execStopZone c s
  | .stopRelease c => Sys2Proof.Machine.execStopRelease c s
  | .stopGetState c => Sys2Proof.Machine.execStopGetState c s
  | .ethLinkUp n fast => Sys2Proof.Machine.execEthLinkUp n fast s
  | .ethLinkDown n => Sys2Proof.Machine.execEthLinkDown n s
  | .ethFrameReceive n x => Sys2Proof.Machine.execEthFrameReceive n x s
  | .addressAgeOut mac => Sys2Proof.Machine.execAddressAgeOut mac s
  | .preemptVerify n answered => Sys2Proof.Machine.execPreemptVerify n answered s
  | .pauseFrameReceive n x => Sys2Proof.Machine.execPauseFrameReceive n x s
  | .pauseWatchdog n => Sys2Proof.Machine.execPauseWatchdog n s
  | .pauseIgnoreEnd n => Sys2Proof.Machine.execPauseIgnoreEnd n s
  | .pdelayReqSend n => Sys2Proof.Machine.execPdelayReqSend n s
  | .pdelayRespReceive n x => Sys2Proof.Machine.execPdelayRespReceive n x s
  | .pdelayReqReceive n x => Sys2Proof.Machine.execPdelayReqReceive n x s
  | .ptpAnnounceReceive n x => Sys2Proof.Machine.execPtpAnnounceReceive n x s
  | .ptpSyncReceive n x => Sys2Proof.Machine.execPtpSyncReceive n x s
  | .ptpDelayRespReceive n x => Sys2Proof.Machine.execPtpDelayRespReceive n x s
  | .arpRequest n x => Sys2Proof.Machine.execArpRequest n x s
  | .icmpEcho n x => Sys2Proof.Machine.execIcmpEcho n x s
  | .helloSend n => Sys2Proof.Machine.execHelloSend n s
  | .helloReceive n x => Sys2Proof.Machine.execHelloReceive n x s
  | .neighbourTimeout n => Sys2Proof.Machine.execNeighbourTimeout n s
  | .discoverReceive n x => Sys2Proof.Machine.execDiscoverReceive n x s
  | .discoverReplyReceive n x => Sys2Proof.Machine.execDiscoverReplyReceive n x s
  | .wakeFrame n x => Sys2Proof.Machine.execWakeFrame n x s
  | .mdioGo value => Sys2Proof.Machine.execMdioGo value s
  | .mdioDone data => Sys2Proof.Machine.execMdioDone data s
  | .ethPortConfig c => Sys2Proof.Machine.execEthPortConfig c s
  | .ptpConfig c => Sys2Proof.Machine.execPtpConfig c s
  | .timeGet c => Sys2Proof.Machine.execTimeGet c s
  | .timeRestep c => Sys2Proof.Machine.execTimeRestep c s
  | .ppsConfig c => Sys2Proof.Machine.execPpsConfig c s
  | .chainDiscover c => Sys2Proof.Machine.execChainDiscover c s
  | .meterSecond freq0 freq1 => Sys2Proof.Machine.execMeterSecond freq0 freq1 s
  | .harmonicWindowEnd p x => Sys2Proof.Machine.execHarmonicWindowEnd p x s
  | .energyNorCopy good => Sys2Proof.Machine.execEnergyNorCopy good s
  | .energyCopyRetry good => Sys2Proof.Machine.execEnergyCopyRetry good s
  | .epulseEmit k => Sys2Proof.Machine.execEpulseEmit k s
  | .channelFault p channel cause => Sys2Proof.Machine.execChannelFault p channel cause s
  | .meterFaultChange p flag => Sys2Proof.Machine.execMeterFaultChange p flag s
  | .mtrConfig c => Sys2Proof.Machine.execMtrConfig c s
  | .mtrGetReadings c => Sys2Proof.Machine.execMtrGetReadings c s
  | .mtrGetHarmonics c => Sys2Proof.Machine.execMtrGetHarmonics c s
  | .mtrSetCap c => Sys2Proof.Machine.execMtrSetCap c s
  | .mtrCalSeal c => Sys2Proof.Machine.execMtrCalSeal c s
  | .laneSelfTestDone lane pass => Sys2Proof.Machine.execLaneSelfTestDone lane pass s
  | .laneDiagFail lane cause engine offset => Sys2Proof.Machine.execLaneDiagFail lane cause engine offset s
  | .heartbeatLoss lane => Sys2Proof.Machine.execHeartbeatLoss lane s
  | .engineWatchdog lane engine => Sys2Proof.Machine.execEngineWatchdog lane engine s
  | .laneScrub lane corrected bad => Sys2Proof.Machine.execLaneScrub lane corrected bad s
  | .digestCompare a b => Sys2Proof.Machine.execDigestCompare a b s
  | .rescrubDone bad => Sys2Proof.Machine.execRescrubDone bad s
  | .rackPoint good => Sys2Proof.Machine.execRackPoint good s
  | .coldStartReady lane => Sys2Proof.Machine.execColdStartReady lane s
  | .laneRestore lane => Sys2Proof.Machine.execLaneRestore lane s
  | .lanGetState c => Sys2Proof.Machine.execLanGetState c s
  | .lanSwitch c => Sys2Proof.Machine.execLanSwitch c s
  | .queueCommit q len more gen engine seq => Sys2Proof.Machine.execQueueCommit q len more gen engine seq s
  | .packetRewind q => Sys2Proof.Machine.execPacketRewind q s
  | .queueRack q => Sys2Proof.Machine.execQueueRack q s
  | .queueReadError q double source reply => Sys2Proof.Machine.execQueueReadError q double source reply s
  | .queueFullTimeout q => Sys2Proof.Machine.execQueueFullTimeout q s
  | .workItemAdmit flow atomic_ mask all timeout siding => Sys2Proof.Machine.execWorkItemAdmit flow atomic_ mask all timeout siding s
  | .eventFlagPost item flags => Sys2Proof.Machine.execEventFlagPost item flags s
  | .tokenRequest arb k => Sys2Proof.Machine.execTokenRequest arb k s
  | .tokenDrop arb k => Sys2Proof.Machine.execTokenDrop arb k s
  | .powerReevaluate vout => Sys2Proof.Machine.execPowerReevaluate vout s
  | .evtPendClear k mask => Sys2Proof.Machine.execEvtPendClear k mask s
  | .tamperDetect k temp => Sys2Proof.Machine.execTamperDetect k temp s
  | .tamperConditionEnd k => Sys2Proof.Machine.execTamperConditionEnd k s
  | .secCaskLoad c => Sys2Proof.Machine.execSecCaskLoad c s
  | .secCaskUnload c => Sys2Proof.Machine.execSecCaskUnload c s
  | .updImageBegin c => Sys2Proof.Machine.execUpdImageBegin c s
  | .updImageData c => Sys2Proof.Machine.execUpdImageData c s
  | .updImageEnd c => Sys2Proof.Machine.execUpdImageEnd c s
  | .bankWriteDone good => Sys2Proof.Machine.execBankWriteDone good s
  | .imageDataReceive n x => Sys2Proof.Machine.execImageDataReceive n x s
  | .imageStatusReceive n x => Sys2Proof.Machine.execImageStatusReceive n x s
  | .relayBusyRetry n => Sys2Proof.Machine.execRelayBusyRetry n s
  | .relayFail n => Sys2Proof.Machine.execRelayFail n s
  | .updDecant c => Sys2Proof.Machine.execUpdDecant c s
  | .updDecantSchedule c => Sys2Proof.Machine.execUpdDecantSchedule c s
  | .decantFrameReceive n x => Sys2Proof.Machine.execDecantFrameReceive n x s
  | .updGetState c => Sys2Proof.Machine.execUpdGetState c s
  | .cbkRecordWrite fails => Sys2Proof.Machine.execCbkRecordWrite fails s
  | .cbkFreeze c => Sys2Proof.Machine.execCbkFreeze c s
  | .cbkThaw c => Sys2Proof.Machine.execCbkThaw c s
  | .cbkRead c => Sys2Proof.Machine.execCbkRead c s
  | .cbkClear c => Sys2Proof.Machine.execCbkClear c s
  | .powerOn low away => Sys2Proof.Machine.execPowerOn low away s
  | .hubStart ok0 ok1 torn => Sys2Proof.Machine.execHubStart ok0 ok1 torn s
  | .firstBeacon port => Sys2Proof.Machine.execFirstBeacon port s
  | .vinBelowWarn mv => Sys2Proof.Machine.execVinBelowWarn mv s
  | .vinDipEnd lowest => Sys2Proof.Machine.execVinDipEnd lowest s
  | .vsysResetLevel mv => Sys2Proof.Machine.execVsysResetLevel mv s
  | .vbatLow mv => Sys2Proof.Machine.execVbatLow mv s
  | .refclkLost err => Sys2Proof.Machine.execRefclkLost err s
  | .avfsReading lane m => Sys2Proof.Machine.execAvfsReading lane m s
  | .dieTempHigh temp => Sys2Proof.Machine.execDieTempHigh temp s
  | .tstUnlock c => Sys2Proof.Machine.execTstUnlock c s
  | .tstLock c => Sys2Proof.Machine.execTstLock c s
  | .tstJitWrite value => Sys2Proof.Machine.execTstJitWrite value s
  | .meteringSample x0 x1 => Sys2Proof.Machine.execMeteringSample x0 x1 s
  | .vinAtOrAboveWarn mv => Sys2Proof.Machine.execVinAtOrAboveWarn mv s
  | .vbatLowEnd mv => Sys2Proof.Machine.execVbatLowEnd mv s
  | .antennaNormal current => Sys2Proof.Machine.execAntennaNormal current s
  | .radioRxError port => Sys2Proof.Machine.execRadioRxError port s
  | .evtEnWrite k value => Sys2Proof.Machine.execEvtEnWrite k value s
  | .spiStatus => Sys2Proof.Machine.execSpiStatus s
  | .spiCsWhileBusy => Sys2Proof.Machine.execSpiCsWhileBusy s
  | .hsRdyReady => Sys2Proof.Machine.execHsRdyReady s
  | .sysTtPosRead => Sys2Proof.Machine.execSysTtPosRead s
  | .svbCntClr => Sys2Proof.Machine.execSvbCntClr s
  | .skyColdRestart => Sys2Proof.Machine.execSkyColdRestart s
  | .skyHotRestart => Sys2Proof.Machine.execSkyHotRestart s
  | .epochRateChange => Sys2Proof.Machine.execEpochRateChange s
  | .timInLoRead => Sys2Proof.Machine.execTimInLoRead s
  | .timNowLoRead => Sys2Proof.Machine.execTimNowLoRead s
  | .firstTimeStep => Sys2Proof.Machine.execFirstTimeStep s
  | .restepApply => Sys2Proof.Machine.execRestepApply s
  | .disciplineUpdate => Sys2Proof.Machine.execDisciplineUpdate s
  | .timeLockHold => Sys2Proof.Machine.execTimeLockHold s
  | .holdoverExpire => Sys2Proof.Machine.execHoldoverExpire s
  | .leapSecondPass => Sys2Proof.Machine.execLeapSecondPass s
  | .laneTick => Sys2Proof.Machine.execLaneTick s
  | .wholeSecond => Sys2Proof.Machine.execWholeSecond s
  | .arDeadlineCut => Sys2Proof.Machine.execArDeadlineCut s
  | .rtkRateChange => Sys2Proof.Machine.execRtkRateChange s
  | .rtkShedStep => Sys2Proof.Machine.execRtkShedStep s
  | .rtkArDisable => Sys2Proof.Machine.execRtkArDisable s
  | .rtkCntClr => Sys2Proof.Machine.execRtkCntClr s
  | .snapshotSolveStart => Sys2Proof.Machine.execSnapshotSolveStart s
  | .snapshotSolveTimeout => Sys2Proof.Machine.execSnapshotSolveTimeout s
  | .snpFlush => Sys2Proof.Machine.execSnpFlush s
  | .snpDisable => Sys2Proof.Machine.execSnpDisable s
  | .snpCntClr => Sys2Proof.Machine.execSnpCntClr s
  | .routeRequest => Sys2Proof.Machine.execRouteRequest s
  | .previewDisable => Sys2Proof.Machine.execPreviewDisable s
  | .sbxCntClr => Sys2Proof.Machine.execSbxCntClr s
  | .sbxMapStageDone => Sys2Proof.Machine.execSbxMapStageDone s
  | .allotRoundStart => Sys2Proof.Machine.execAllotRoundStart s
  | .allotRoundEnd => Sys2Proof.Machine.execAllotRoundEnd s
  | .altCntClr => Sys2Proof.Machine.execAltCntClr s
  | .altLandmarksDone => Sys2Proof.Machine.execAltLandmarksDone s
  | .ttbCntClr => Sys2Proof.Machine.execTtbCntClr s
  | .ttbCamStageDone => Sys2Proof.Machine.execTtbCamStageDone s
  | .superframeStart => Sys2Proof.Machine.execSuperframeStart s
  | .slotTableSwitch => Sys2Proof.Machine.execSlotTableSwitch s
  | .stpTxRepeat => Sys2Proof.Machine.execStpTxRepeat s
  | .radCntClr => Sys2Proof.Machine.execRadCntClr s
  | .stopDiscrepancy => Sys2Proof.Machine.execStopDiscrepancy s
  | .discClr => Sys2Proof.Machine.execDiscClr s
  | .chainStopRepeat => Sys2Proof.Machine.execChainStopRepeat s
  | .chainSourceTimeout => Sys2Proof.Machine.execChainSourceTimeout s
  | .stopReleaseDue => Sys2Proof.Machine.execStopReleaseDue s
  | .targetReleaseDue => Sys2Proof.Machine.execTargetReleaseDue s
  | .ptpAnnounceTimeout => Sys2Proof.Machine.execPtpAnnounceTimeout s
  | .ptpSyncSend => Sys2Proof.Machine.execPtpSyncSend s
  | .ptpAnnounceSend => Sys2Proof.Machine.execPtpAnnounceSend s
  | .ptpDelayReqSend => Sys2Proof.Machine.execPtpDelayReqSend s
  | .discoverCollectEnd => Sys2Proof.Machine.execDiscoverCollectEnd s
  | .ethCntClr => Sys2Proof.Machine.execEthCntClr s
  | .demandIntervalEnd => Sys2Proof.Machine.execDemandIntervalEnd s
  | .meterFrontEndRestart => Sys2Proof.Machine.execMeterFrontEndRestart s
  | .demClr => Sys2Proof.Machine.execDemClr s
  | .mtrCntClr => Sys2Proof.Machine.execMtrCntClr s
  | .switchOverEnd => Sys2Proof.Machine.execSwitchOverEnd s
  | .rackPrecopyDone => Sys2Proof.Machine.execRackPrecopyDone s
  | .lanCntClr => Sys2Proof.Machine.execLanCntClr s
  | .queFlush => Sys2Proof.Machine.execQueFlush s
  | .queCntClr => Sys2Proof.Machine.execQueCntClr s
  | .sidingDue => Sys2Proof.Machine.execSidingDue s
  | .waitTimeout => Sys2Proof.Machine.execWaitTimeout s
  | .atomicEnEffect => Sys2Proof.Machine.execAtomicEnEffect s
  | .schCntClr => Sys2Proof.Machine.execSchCntClr s
  | .keyMaskRedraw => Sys2Proof.Machine.execKeyMaskRedraw s
  | .secCntClr => Sys2Proof.Machine.execSecCntClr s
  | .imageTransferTimeout => Sys2Proof.Machine.execImageTransferTimeout s
  | .imageVerifyDone => Sys2Proof.Machine.execImageVerifyDone s
  | .updAbort => Sys2Proof.Machine.execUpdAbort s
  | .updCntClr => Sys2Proof.Machine.execUpdCntClr s
  | .imageStatusSend => Sys2Proof.Machine.execImageStatusSend s
  | .relayReceiveTimeout => Sys2Proof.Machine.execRelayReceiveTimeout s
  | .decantRun => Sys2Proof.Machine.execDecantRun s
  | .decantVoteEnd => Sys2Proof.Machine.execDecantVoteEnd s
  | .decantHoldCheck => Sys2Proof.Machine.execDecantHoldCheck s
  | .decantAtTd => Sys2Proof.Machine.execDecantAtTd s
  | .bootFallback => Sys2Proof.Machine.execBootFallback s
  | .cbkFreezeTimeout => Sys2Proof.Machine.execCbkFreezeTimeout s
  | .cbkCntClr => Sys2Proof.Machine.execCbkCntClr s
  | .supplyDipLong => Sys2Proof.Machine.execSupplyDipLong s
  | .brownOutReset => Sys2Proof.Machine.execBrownOutReset s
  | .voutTrip => Sys2Proof.Machine.execVoutTrip s
  | .voutRestart => Sys2Proof.Machine.execVoutRestart s
  | .refclkRestored => Sys2Proof.Machine.execRefclkRestored s
  | .dormantEntryComplete => Sys2Proof.Machine.execDormantEntryComplete s
  | .wakeIn => Sys2Proof.Machine.execWakeIn s
  | .wakeTimer => Sys2Proof.Machine.execWakeTimer s
  | .pinReset => Sys2Proof.Machine.execPinReset s
  | .hubWatchdog => Sys2Proof.Machine.execHubWatchdog s
  | .hubRst => Sys2Proof.Machine.execHubRst s
  | .pwrCntClr => Sys2Proof.Machine.execPwrCntClr s
  | .tstAutolock => Sys2Proof.Machine.execTstAutolock s
  | .tstClrAll => Sys2Proof.Machine.execTstClrAll s
  | .tstErrGo => Sys2Proof.Machine.execTstErrGo s
  | .tstCrcGo => Sys2Proof.Machine.execTstCrcGo s
  | .mismatchWindowEnd => Sys2Proof.Machine.execMismatchWindowEnd s
  | .raEnClear => Sys2Proof.Machine.execRaEnClear s

end Sys2Proof.Machine
end

