-- ==== Sys2Proof/WellFormed.lean ====
section
/-! DEFINITION. What a well-formed command is: the bounds on its operands that their types do not state. The module meets an
ill-formed command as its meaning says; no statement asks for well-formedness unless it names it. -/

namespace Sys2Proof

/-- A command's payload fits a packet (R30). -/
def Cmd.wf (c : Cmd) : Bool := decide (c.payload.length ≤ 1408)

/-- An Ethernet frame has its two addresses and its EtherType. -/
def wfFrame (f : List Byte) : Bool := decide (14 ≤ f.length)
def EthIn.wf (x : EthIn) : Bool := wfFrame x.bytes

/-- A MAC address has 48 bits (R310). -/
def wfMac (mac : Nat) : Bool := decide (mac < 2 ^ 48)

/-- A register address has 32 bits (Table 2-10) and is a multiple of 4 (R53). -/
def wfAddress (a : Nat) : Bool := decide (a < 2 ^ 32) && a % 4 == 0

/-- Whether a command is well formed. -/
def Instr.wf (i : Instr) : Bool :=
  match i with
  | .spiStatus => true
  | .spiWrite _ => true
  | .spiRead _ => true
  | .spiInvalidCode _ => true
  | .spiCsWhileBusy => true
  | .hsRdyReady => true
  | .udpDatagram src bytes => decide (src < 2 ^ 48) && decide (bytes.length ≤ 65507)
  | .undefinedOpcode c _ => c.wf
  | .handshakeLapse _ => true
  | .udpSessionIdle _ => true
  | .ping c => c.wf
  | .sessionOpen c => c.wf
  | .sessionConfirm c => c.wf
  | .sessionClose c => c.wf
  | .getIdentity c => c.wf
  | .getStatus c => c.wf
  | .setPowerState c => c.wf
  | .setPowerCap c => c.wf
  | .eventSubscribe c => c.wf
  | .bulkWrite c => c.wf
  | .bulkRead c => c.wf
  | .resetEngine c => c.wf
  | .regRead c => c.wf
  | .regWrite c => c.wf
  | .regReadBlock c => c.wf
  | .regModify c => c.wf
  | .regWriteLc c => c.wf
  | .registerWrite addr _ => wfAddress addr
  | .sysTtPosRead => true
  | .svbCntClr => true
  | .udpSessionDisable _ => true
  | .skyConfig c => c.wf
  | .skySetBasePosition c => c.wf
  | .skyExclude c => c.wf
  | .skyGetChannels c => c.wf
  | .skyRtcmConfig c => c.wf
  | .skyColdRestart => true
  | .skyHotRestart => true
  | .measurementEpoch _ _ => true
  | .epochRateChange => true
  | .antennaOpen _ => true
  | .antennaShort _ => true
  | .antennaBiasRetry _ => true
  | .notchEngage _ _ _ _ => true
  | .notchRelease _ _ _ => true
  | .interferenceCondition _ samples => decide (0 < samples.length)
  | .satelliteAcquired _ _ => true
  | .l5Handover _ _ _ => true
  | .channelRelease _ => true
  | .loopUpdate _ _ _ => true
  | .pllBandwidthUpdate _ _ => true
  | .sidePeakCorrection _ _ => true
  | .carrierLockLoss _ _ => true
  | .codeLockLoss _ _ => true
  | .navRecord _ _ _ => true
  | .timeInEdge _ _ _ => true
  | .timInLoRead => true
  | .timNowLoRead => true
  | .sourceQualify _ _ => true
  | .sourceLost _ => true
  | .firstTimeStep => true
  | .restepApply => true
  | .disciplineUpdate => true
  | .yfReplace _ => true
  | .timeLockHold => true
  | .holdoverExpire => true
  | .leapSecondPass => true
  | .ppsEdge _ => true
  | .laneTick => true
  | .wholeSecond => true
  | .observationIntake _ _ => true
  | .rtkCycle _ => true
  | .arDeadlineCut => true
  | .fixLostNone _ => true
  | .ionoFreeSwitch _ => true
  | .rtkRateChange => true
  | .rtkShedStep => true
  | .rtkArDisable => true
  | .rtkCntClr => true
  | .rtkSetSiteOrigin c => c.wf
  | .rtkSetRateClass c => c.wf
  | .rtkSetNoise c => c.wf
  | .rtkResetRover c => c.wf
  | .rtkGetFix c => c.wf
  | .bulkUpReceive _ _ => true
  | .snapshotSolveStart => true
  | .snapshotSolveDone => true
  | .snapshotSolveTimeout => true
  | .snapshotMissing _ => true
  | .snapshotAsmTimeout _ => true
  | .snpFlush => true
  | .snpDisable => true
  | .snpCntClr => true
  | .sbxPass _ => true
  | .routeRequest => true
  | .authorityExpiry _ => true
  | .releasingExpiry _ => true
  | .avoidExpiry _ => true
  | .withdrawTimeout _ => true
  | .previewExpiry _ => true
  | .previewDisable => true
  | .sbxCntClr => true
  | .sbxMapStage c => c.wf
  | .sbxMapStageDone => true
  | .sbxMapActivate c => c.wf
  | .sbxRequest c => c.wf
  | .sbxRelease c => c.wf
  | .sbxRevoke c => c.wf
  | .sbxZoneSet c => c.wf
  | .sbxGetState c => c.wf
  | .allotRoundStart => true
  | .allotRoundEnd => true
  | .allotRoundTimeout _ => true
  | .routeSearch _ _ => true
  | .rerouteAnswer _ _ => true
  | .routeRefusalRetry _ _ => true
  | .altCntClr => true
  | .altTaskAdd c => c.wf
  | .altTaskCancel c => c.wf
  | .altTaskGet c => c.wf
  | .altLandmarksLoad c => c.wf
  | .altLandmarksDone => true
  | .altRoundNow c => c.wf
  | .profilePlan => true
  | .authorityCommit _ => true
  | .profileWordBoundary _ => true
  | .ttbCntClr => true
  | .ttbCamStage c => c.wf
  | .ttbCamStageDone => true
  | .ttbCamActivate c => c.wf
  | .ttbSetLimits c => c.wf
  | .ttbGetProfile c => c.wf
  | .superframeStart => true
  | .downlinkRun _ => true
  | .bulkDownRun _ => true
  | .upFrameReceive _ _ _ _ => true
  | .joinReceive _ _ => true
  | .joinAnswer _ => true
  | .uplinkMiss _ => true
  | .evictionComplete _ => true
  | .slotTableSwitch => true
  | .stopFrameArm _ _ => true
  | .armReadback _ _ => true
  | .stpTxRepeat => true
  | .radCntClr => true
  | .radPortConfig c => c.wf
  | .radSuperframeSet c => c.wf
  | .radRoverAssign c => c.wf
  | .radRoverEvict c => c.wf
  | .radGetLink c => c.wf
  | .stopInputActive _ => true
  | .stopInputInactive _ => true
  | .stopDiscrepancy => true
  | .discClr => true
  | .hubCheckFail _ => true
  | .chainStopReceive _ frame => wfFrame frame
  | .chainStopRepeat => true
  | .chainSourceTimeout => true
  | .stopReleaseDue => true
  | .targetReleaseDue => true
  | .stopAll c => c.wf
  | .stopRover c => c.wf
  | .stopZone c => c.wf
  | .stopRelease c => c.wf
  | .stopGetState c => c.wf
  | .ethLinkUp _ _ => true
  | .ethLinkDown _ => true
  | .ethFrameReceive _ x => x.wf
  | .addressAgeOut mac => wfMac mac
  | .preemptVerify _ _ => true
  | .pauseFrameReceive _ x => x.wf
  | .pauseWatchdog _ => true
  | .pauseIgnoreEnd _ => true
  | .pdelayReqSend _ => true
  | .pdelayRespReceive _ x => x.wf
  | .pdelayReqReceive _ x => x.wf
  | .ptpAnnounceReceive _ x => x.wf
  | .ptpAnnounceTimeout => true
  | .ptpSyncReceive _ x => x.wf
  | .ptpSyncSend => true
  | .ptpAnnounceSend => true
  | .ptpDelayReqSend => true
  | .ptpDelayRespReceive _ x => x.wf
  | .arpRequest _ x => x.wf
  | .icmpEcho _ x => x.wf
  | .helloSend _ => true
  | .helloReceive _ x => x.wf
  | .neighbourTimeout _ => true
  | .discoverReceive _ x => x.wf
  | .discoverReplyReceive _ x => x.wf
  | .discoverCollectEnd => true
  | .wakeFrame _ x => x.wf
  | .mdioGo _ => true
  | .mdioDone _ => true
  | .ethCntClr => true
  | .ethPortConfig c => c.wf
  | .ptpConfig c => c.wf
  | .timeGet c => c.wf
  | .timeRestep c => c.wf
  | .ppsConfig c => c.wf
  | .chainDiscover c => c.wf
  | .meterSecond _ _ => true
  | .harmonicWindowEnd _ _ => true
  | .demandIntervalEnd => true
  | .energyNorCopy _ => true
  | .energyCopyRetry _ => true
  | .epulseEmit _ => true
  | .channelFault _ _ _ => true
  | .meterFaultChange _ _ => true
  | .meterFrontEndRestart => true
  | .demClr => true
  | .mtrCntClr => true
  | .mtrConfig c => c.wf
  | .mtrGetReadings c => c.wf
  | .mtrGetHarmonics c => c.wf
  | .mtrSetCap c => c.wf
  | .mtrCalSeal c => c.wf
  | .laneSelfTestDone _ _ => true
  | .laneDiagFail _ _ _ _ => true
  | .switchOverEnd => true
  | .heartbeatLoss _ => true
  | .engineWatchdog _ _ => true
  | .laneScrub _ _ _ => true
  | .digestCompare _ _ => true
  | .rescrubDone _ => true
  | .rackPrecopyDone => true
  | .rackPoint _ => true
  | .coldStartReady _ => true
  | .laneRestore _ => true
  | .lanCntClr => true
  | .lanGetState c => c.wf
  | .lanSwitch c => c.wf
  | .queueCommit _ _ _ _ _ _ => true
  | .packetRewind _ => true
  | .queueRack _ => true
  | .queueReadError _ _ _ _ => true
  | .queueFullTimeout _ => true
  | .queFlush => true
  | .queCntClr => true
  | .workItemAdmit _ _ _ _ _ _ => true
  | .eventFlagPost _ _ => true
  | .sidingDue => true
  | .waitTimeout => true
  | .atomicEnEffect => true
  | .schCntClr => true
  | .tokenRequest _ _ => true
  | .tokenDrop _ _ => true
  | .powerReevaluate _ => true
  | .evtPendClear _ _ => true
  | .tamperDetect _ _ => true
  | .tamperConditionEnd _ => true
  | .keyMaskRedraw => true
  | .secCaskLoad c => c.wf
  | .secCaskUnload c => c.wf
  | .secCntClr => true
  | .updImageBegin c => c.wf
  | .updImageData c => c.wf
  | .updImageEnd c => c.wf
  | .imageTransferTimeout => true
  | .imageVerifyDone => true
  | .bankWriteDone _ => true
  | .updAbort => true
  | .updCntClr => true
  | .imageDataReceive _ x => x.wf
  | .imageStatusSend => true
  | .imageStatusReceive _ x => x.wf
  | .relayBusyRetry _ => true
  | .relayFail _ => true
  | .relayReceiveTimeout => true
  | .updDecant c => c.wf
  | .decantRun => true
  | .updDecantSchedule c => c.wf
  | .decantFrameReceive _ x => x.wf
  | .decantVoteEnd => true
  | .decantHoldCheck => true
  | .decantAtTd => true
  | .bootFallback => true
  | .updGetState c => c.wf
  | .cbkRecordWrite _ => true
  | .cbkFreezeTimeout => true
  | .cbkCntClr => true
  | .cbkFreeze c => c.wf
  | .cbkThaw c => c.wf
  | .cbkRead c => c.wf
  | .cbkClear c => c.wf
  | .powerOn _ _ => true
  | .hubStart _ _ _ => true
  | .firstBeacon _ => true
  | .vinBelowWarn _ => true
  | .supplyDipLong => true
  | .vinDipEnd _ => true
  | .vsysResetLevel _ => true
  | .brownOutReset => true
  | .vbatLow _ => true
  | .voutTrip => true
  | .voutRestart => true
  | .refclkLost _ => true
  | .refclkRestored => true
  | .avfsReading _ _ => true
  | .dieTempHigh _ => true
  | .dormantEntryComplete => true
  | .wakeIn => true
  | .wakeTimer => true
  | .pinReset => true
  | .hubWatchdog => true
  | .hubRst => true
  | .pwrCntClr => true
  | .tstUnlock c => c.wf
  | .tstLock c => c.wf
  | .tstAutolock => true
  | .tstClrAll => true
  | .tstErrGo => true
  | .tstCrcGo => true
  | .tstJitWrite _ => true
  | .meteringSample _ _ => true
  | .vinAtOrAboveWarn _ => true
  | .vbatLowEnd _ => true
  | .antennaNormal _ => true
  | .radioRxError _ => true
  | .mismatchWindowEnd => true
  | .raEnClear => true
  | .evtEnWrite _ _ => true

end Sys2Proof
end

