-- ==== Sys2Proof/Machine/Operands.lean ====
section
/-! DEFINITION. The two forms of operand a command of the table has: the packet of a Sveteb command, and the quantities that
the outside world or a data path supplies with an event. -/

namespace Sys2Proof.Machine

/-- The key of a command packet's tag (R32, R33): none for SESSION_OPEN, the key of the pending handshake for the SESSION_CONFIRM
that completes it, and otherwise the key of an authenticated session. -/
def Session.packetKey (ss : Session) (code : Nat) : Option Nat :=
  if code = 0x0101 then none
  else
    match code == 0x0102, ss.hs with
    | true, some h => some h.key
    | _, _ => if ss.isOpen && ss.auth then some ss.key else none

/-- A command row as the packet that carries it (R30 to R32): the bytes the host sends for an opcode in a session, with the tag
that R33 asks for. -/
def State.wire (s : State) (c : Cmd) (opcode : Nat) : List Byte :=
  let key := (s.sess c.sid.val).packetKey opcode
  packet (c.sid.val + (if key.isSome then 128 else 0)) c.seq.toNat opcode c.payload key

end Sys2Proof.Machine
end

