-- ==== Sys2Proof/Machine/Step.lean ====
section
/-! DEFINITION. One step of the block: the command at the front of the queue, or one cycle of the TIME clock. -/

namespace Sys2Proof.Machine

/-- What happens while no command waits: one cycle of the 250 MHz TIME clock, where that domain runs (R97); the always-on domain counts in
a reset too. -/
def State.idle (s : State) : State := if s.timeRuns then s.timeCycles 1 else if s.pwr.resetHeld then s.aonCycles 1 else s

/-- One step: the command at the front of the queue acts on the state without it. -/
def step (s : State) : Host.Outcome State Fault Refusal :=
  match s.pending with
  | [] => .next s.idle
  | c :: rest => exec c { s with pending := rest }

/-- `s` with the command that a word spells at the front of its queue; no word spells one. -/
def State.withFetchWord (s : State) (nbits w : Nat) : State :=
  match decodeTableWord nbits w with
  | some c => { s with pending := c :: s.pending }
  | none => s

end Sys2Proof.Machine
end

