-- ==== Sys2Proof/Safety.lean ====
section
/-! DEFINITION. The terms in which claims about the module are made: when the hub takes a command and how it answers,
what a command leaves as it was, and the canonical form of the shared DRAM partition. -/

namespace Sys2Proof.Machine

/-! ### Commands of the host -/

/-- The command's transport reaches the module and its packet fits (R30, R35, R40): the hub serves, the session's
transport is up and enabled, and the payload with its tag is at most 1,408 bytes. -/
def State.reaches (s : State) (c : Cmd) (code : Nat) : Bool :=
  s.serving && s.transportUp c.sid.val && (c.sid.val == 0 || s.udpEnabled c.sid.val)
    && decide (wireLength (s.sess c.sid.val).auth code c.payload ≤ 1408)

/-- The command and the opcode of a command row; none for every other row. An opcode that Table 2-9 does not list is answered
BAD_OPCODE (R52). -/
def commandOf : Instr → Option (Cmd × Op)
  | .altTaskAdd c => some (c, opAltTaskAdd)
  | .altTaskCancel c => some (c, opAltTaskCancel)
  | .altTaskGet c => some (c, opAltTaskGet)
  | .altLandmarksLoad c => some (c, opAltLandmarksLoad)
  | .altRoundNow c => some (c, opAltRoundNow)
  | .setPowerCap c => some (c, opSetPowerCap)
  | .cbkFreeze c => some (c, opCbkFreeze)
  | .cbkThaw c => some (c, opCbkThaw)
  | .cbkRead c => some (c, opCbkRead)
  | .cbkClear c => some (c, opCbkClear)
  | .resetEngine c => some (c, opResetEngine)
  | .chainDiscover c => some (c, opChainDiscover)
  | .ethPortConfig c => some (c, opEthPortConfig)
  | .updImageBegin c => some (c, opUpdImageBegin)
  | .updImageData c => some (c, opUpdImageData)
  | .updImageEnd c => some (c, opUpdImageEnd)
  | .updDecantSchedule c => some (c, opUpdDecantSchedule)
  | .updDecant c => some (c, opUpdDecant)
  | .updGetState c => some (c, opUpdGetState)
  | .secCaskLoad c => some (c, opSecCaskLoad)
  | .secCaskUnload c => some (c, opSecCaskUnload)
  | .lanSwitch c => some (c, opLanSwitch)
  | .lanGetState c => some (c, opLanGetState)
  | .mtrConfig c => some (c, opMtrConfig)
  | .mtrGetReadings c => some (c, opMtrGetReadings)
  | .mtrGetHarmonics c => some (c, opMtrGetHarmonics)
  | .mtrSetCap c => some (c, opMtrSetCap)
  | .mtrCalSeal c => some (c, opMtrCalSeal)
  | .setPowerState c => some (c, opSetPowerState)
  | .getStatus c => some (c, opGetStatus)
  | .ptpConfig c => some (c, opPtpConfig)
  | .radPortConfig c => some (c, opRadPortConfig)
  | .radSuperframeSet c => some (c, opRadSuperframeSet)
  | .radRoverAssign c => some (c, opRadRoverAssign)
  | .radRoverEvict c => some (c, opRadRoverEvict)
  | .radGetLink c => some (c, opRadGetLink)
  | .regRead c => some (c, opRegRead)
  | .regWrite c => some (c, opRegWrite)
  | .regReadBlock c => some (c, opRegReadBlock)
  | .regModify c => some (c, opRegModify)
  | .regWriteLc c => some (c, opRegWriteLc)
  | .rtkSetSiteOrigin c => some (c, opRtkSetSiteOrigin)
  | .rtkSetRateClass c => some (c, opRtkSetRateClass)
  | .rtkSetNoise c => some (c, opRtkSetNoise)
  | .rtkResetRover c => some (c, opRtkResetRover)
  | .rtkGetFix c => some (c, opRtkGetFix)
  | .ping c => some (c, opPing)
  | .sessionOpen c => some (c, opSessionOpen)
  | .sessionConfirm c => some (c, opSessionConfirm)
  | .sessionClose c => some (c, opSessionClose)
  | .getIdentity c => some (c, opGetIdentity)
  | .eventSubscribe c => some (c, opEventSubscribe)
  | .bulkWrite c => some (c, opBulkWrite)
  | .bulkRead c => some (c, opBulkRead)
  | .sbxMapStage c => some (c, opSbxMapStage)
  | .sbxMapActivate c => some (c, opSbxMapActivate)
  | .sbxRequest c => some (c, opSbxRequest)
  | .sbxRelease c => some (c, opSbxRelease)
  | .sbxRevoke c => some (c, opSbxRevoke)
  | .sbxZoneSet c => some (c, opSbxZoneSet)
  | .sbxGetState c => some (c, opSbxGetState)
  | .skyConfig c => some (c, opSkyConfig)
  | .skySetBasePosition c => some (c, opSkySetBasePosition)
  | .skyExclude c => some (c, opSkyExclude)
  | .skyGetChannels c => some (c, opSkyGetChannels)
  | .skyRtcmConfig c => some (c, opSkyRtcmConfig)
  | .stopAll c => some (c, opStopAll)
  | .stopRover c => some (c, opStopRover)
  | .stopZone c => some (c, opStopZone)
  | .stopRelease c => some (c, opStopRelease)
  | .stopGetState c => some (c, opStopGetState)
  | .tstUnlock c => some (c, opTstUnlock)
  | .tstLock c => some (c, opTstLock)
  | .timeRestep c => some (c, opTimeRestep)
  | .ppsConfig c => some (c, opPpsConfig)
  | .timeGet c => some (c, opTimeGet)
  | .ttbCamStage c => some (c, opTtbCamStage)
  | .ttbCamActivate c => some (c, opTtbCamActivate)
  | .ttbSetLimits c => some (c, opTtbSetLimits)
  | .ttbGetProfile c => some (c, opTtbGetProfile)
  | .undefinedOpcode c opcode => some (c, (opOf opcode.toNat).getD (undefinedOp opcode.toNat))
  | _ => none

/-- The command is new to its open session (R43): its SEQ is none of the reply cache and is 1 to 32,767 ahead of the newest,
and fewer than 16 commands, none of them with that SEQ, await their reply. -/
def Session.fresh (ss : Session) (seq : Nat) : Bool :=
  let d := (seq + 65536 - ss.h) % 65536
  ss.isOpen && ss.cache.all (fun e => e.seq != seq) && ss.outst.all (fun e => e.seq != seq) && decide (0 < d) && decide (d < 32768)
    && decide (awaiting ss < 16)

/-- The hub executes the command (R33, R41, R43, R44, R50, R400, R441): it reaches the module, is new to its open session,
the session's level suffices, a module in recovery accepts the opcode, and a path L command finds a lane in service, or a
switch-over in progress, and no rejecting flow. -/
def State.takes (s : State) (c : Cmd) (op : Op) : Bool :=
  let ss := s.sess c.sid.val
  s.reaches c op.code && op.code != 0x0101 && op.code != 0x0102 && ss.fresh c.seq.toNat && decide (op.rights ≤ ss.level)
    && (!s.upd.recovery || !op.known || recoveryOp op.code)
    && (!op.lane c.payload || ((s.anyLane || s.switching) && !s.flowRejects c.sid.val))

/-- `s` with the command recorded in its session (R42, R43): the last authenticated packet is now, SEQ is the newest, the
reply cache holds the command, still without a reply, and it awaits one; a path L command takes the next lane input number (R26). -/
def State.entered (s : State) (c : Cmd) (op : Op) : State :=
  let sid := c.sid.val
  let ss := s.sess sid
  let t := if ss.auth then s.setSess sid { ss with lastAuth := s.el } else s
  let ss := t.sess sid
  let e : CacheEntry := { seq := c.seq.toNat, crc := crc32c (le 2 op.code ++ c.payload), opcode := op.code }
  let cache := ss.cache ++ [e]
  let out : Outst := { seq := c.seq.toNat, opcode := op.code, src := ss.peer, fast := op.fast }
  let t := t.setSess sid { ss with h := c.seq.toNat, cache := cache.drop (cache.length - 16), outst := ss.outst ++ [out] }
  if op.lane c.payload then t.laneInput else t

/-- The command has its reply (R43, R44, R46, R48): its entry of the reply cache holds it, or it waits until earlier replies of the
session have been sent or a switch-over ends. -/
def State.answered (t : State) (c : Cmd) (r : Reply) : Prop :=
  (∃ e ∈ (t.sess c.sid.val).cache, e.seq = c.seq.toNat ∧ e.reply = some r) ∨
    ∃ e ∈ (t.sess c.sid.val).outst, e.seq = c.seq.toNat ∧ e.reply = some r

/-- The command is answered OK with data. -/
def State.ok (t : State) (c : Cmd) (data : List Byte) : Prop := t.answered c ⟨St.ok, data⟩

/-- A packet with this body has left the session towards its host (R38, R40): on SPI it waits in the output queue of session 0,
on UDP it has been sent to `dst`. -/
def State.left (t : State) (sid dst : Nat) (b : OutBody) : Prop :=
  ∃ p : OutPkt, p.body = b ∧ if sid = 0 then p ∈ (t.sess 0).out else Output.udp dst (packOut sid p) ∈ t.outs

/-- An output is a given radio frame in a given slot of the superframe that has begun: its RPn_TXT edge stands TX_LAT before the slot, moved
by no more than the jitter that the test block gives the port (R249, R514). -/
def State.isFrame (s : State) (port slotNo : Nat) (bytes : List Byte) : Output → Bool
  | .radio q n x b =>
    let edge : Int := ((slotAt (s.rad.t0.getD s.now) slotNo : Nat) : Int) - txLat
    let amp := if bit (s.fld F.TST_JIT_PORTS) port then 1000 * min 250 (s.fld F.TST_JIT_AMP) else 0
    q == port && n == slotNo && b == bytes && decide ((x : Int) - edge.toNat ≤ amp) && decide ((edge.toNat : Int) - x ≤ amp)
  | _ => false

/-- One radio frame has left the module, and nothing else. -/
def State.sends (s t : State) (port slotNo : Nat) (bytes : List Byte) : Bool :=
  t.outs.take s.outs.length == s.outs && (t.outs.drop s.outs.length).length == 1 && (t.outs.drop s.outs.length).all (s.isFrame port slotNo bytes)

/-- The command answers a next state, and `P` holds of it. -/
def Gives (i : Instr) (s : State) (P : State → Prop) : Prop := ∃ t, exec i s = .next t ∧ P t

/-! ### What a command leaves as it was -/

/-- A part of the state that is not a register; `dram` is the shared DRAM partition. -/
inductive Part where
  | free | outs | dram | pins | time | svb | eng | sky | rtk | snp | sbx | alt | ttb | stp | rad | eth | mtr | que | sch | arb | lan
  | fuses | sec | upd | cbk | pwr | vbat | tst | nor
  deriving DecidableEq, Repr

/-- The part is the same in two states; of the shared DRAM partition, every byte reads the same. -/
def Part.same (s t : State) : Part → Prop
  | .free => t.free = s.free
  | .outs => t.outs = s.outs
  | .dram => ∀ o, t.dramByte o = s.dramByte o
  | .pins => t.pins = s.pins
  | .time => t.time = s.time
  | .svb => t.svb = s.svb
  | .eng => t.eng = s.eng
  | .sky => t.sky = s.sky
  | .rtk => t.rtk = s.rtk
  | .snp => t.snp = s.snp
  | .sbx => t.sbx = s.sbx
  | .alt => t.alt = s.alt
  | .ttb => t.ttb = s.ttb
  | .stp => t.stp = s.stp
  | .rad => t.rad = s.rad
  | .eth => t.eth = s.eth
  | .mtr => t.mtr = s.mtr
  | .que => t.que = s.que
  | .sch => t.sch = s.sch
  | .arb => t.arb = s.arb
  | .lan => t.lan = s.lan
  | .fuses => t.fuses = s.fuses
  | .sec => t.sec = s.sec
  | .upd => t.upd = s.upd
  | .cbk => t.cbk = s.cbk
  | .pwr => t.pwr = s.pwr
  | .vbat => t.vbat = s.vbat
  | .tst => t.tst = s.tst
  | .nor => t.nor = s.nor

/-- The blocks of the register space (Table 20-1). -/
inductive Block where
  | SYS | PWR | EVT | QUE | SCH | ARB | SKY | TIM | RTK | SNP | SBX | ALT | TTB | STP | RAD | ETH | MTR | LAN | SEC | UPD | CBK
  | TST
  deriving DecidableEq, Repr

/-- First address and length of a block (Table 20-1). -/
def Block.span : Block → Nat × Nat
  | .SYS => (0x000000, 0x10000)
  | .PWR => (0x010000, 0x10000)
  | .EVT => (0x020000, 0x10000)
  | .QUE => (0x030000, 0x10000)
  | .SCH => (0x040000, 0x10000)
  | .ARB => (0x050000, 0x10000)
  | .SKY => (0x100000, 0x40000)
  | .TIM => (0x140000, 0x40000)
  | .RTK => (0x180000, 0x40000)
  | .SNP => (0x1C0000, 0x40000)
  | .SBX => (0x200000, 0x40000)
  | .ALT => (0x240000, 0x40000)
  | .TTB => (0x280000, 0x40000)
  | .STP => (0x2C0000, 0x40000)
  | .RAD => (0x300000, 0x40000)
  | .ETH => (0x340000, 0x40000)
  | .MTR => (0x380000, 0x40000)
  | .LAN => (0x3C0000, 0x40000)
  | .SEC => (0x400000, 0x40000)
  | .UPD => (0x440000, 0x40000)
  | .CBK => (0x480000, 0x40000)
  | .TST => (0x4C0000, 0x40000)

/-- The address lies in the block. -/
def Block.holds (b : Block) (a : Nat) : Bool := decide (b.span.1 ≤ a) && decide (a < b.span.1 + b.span.2)

/-- From `s` to `t` the queue of waiting commands and every part but those of `ps` are as they were; of the registers it says
nothing. -/
def State.keeps (s t : State) (ps : List Part) : Prop := t.pending = s.pending ∧ ∀ p, p ∉ ps → p.same s t

/-- From `s` to `t` nothing changes but the parts `ps`, the registers `rs` and the registers of the blocks `bs`: the queue of
waiting commands, every other part and every other register are as they were. -/
def State.changesOnly (s t : State) (ps : List Part) (rs : List Nat) (bs : List Block) : Prop :=
  t.pending = s.pending ∧ (∀ p, p ∉ ps → p.same s t) ∧
    ∀ a, a ∉ rs → (∀ b ∈ bs, b.holds a = false) → t.reg a = s.reg a

/-- The registers that show the sessions, the event sources and the test corruption of packets: every command that answers or
raises an event may change them (R34, R57, R413, R517). -/
def busRegs : List Nat :=
  [R.SYS_SVB_STAT, R.SYS_SVB_ERR, R.EVT_PEND0, R.EVT_PEND1, R.EVT_PEND2, R.EVT_STAT, R.EVT_CNT, R.TST_CRC, R.TST_STAT]

/-! ### The shared DRAM partition (R521) -/

/-- The canonical form of the shared DRAM partition: offsets strictly rising and below 128 MiB, and no byte equal to what
an unlisted offset reads as. -/
def Memory.wf (m : List Host.Cell) : Bool := Tbl.wf 0 m && m.all fun p => decide (p.1 < 0x08000000)

end Sys2Proof.Machine
end

