-- ==== Sys2Proof/Certificates/Slice0/Obligations.lean ====
section
/-! DEFINITION. The statements about the module, for the provers. Every clause about a command says that it answers a next
state (`Gives`) and what that state holds. -/

open Sys2Proof Sys2Proof.Machine

/-- A step runs the command at the front of the queue; an empty queue idles for one TIME cycle -/
def Obligations.StepRunsTheFrontCommand : Prop :=
  (∀ (s : State) (c : Instr) (rest : List Instr), s.pending = c :: rest →
      step s = exec c { s with pending := rest }) ∧
  (∀ (s : State), s.pending = [] →
      step s = .next (if s.timeRuns then s.timeCycles 1 else s))

/-- Every command answers a next state: none faults and none is refused -/
def Obligations.NoCommandStops : Prop :=
  (∀ (s : State) (i : Instr), ∃ t, exec i s = .next t)

/-- No command changes the queue of waiting commands -/
def Obligations.CommandsLeaveTheQueueOfWaitingCommands : Prop :=
  (∀ (s : State) (t : State) (i : Instr), exec i s = .next t →
      t.pending = s.pending)

/-- SPI transactions, UDP datagrams and undefined opcodes: what each leaves. Where the rules leave a point open it follows
the model's choice of log entries 17, 22, 24 to 29, 152. -/
def Obligations.SpiAndUdpTransactionsComplete : Prop :=
  (∀ (s : State), s.powered = true →
      s.pwr.resetHeld = false →
      s.serving = true →
      s.svb.rdyHigh = false →
      s.transportUp 0 = true →
      Gives (.spiStatus) s fun t =>
      t.outs = s.outs ++ [.spi (le 2 (match s.nextOut with | some p => (packOut 0 p).length | none => 0) ++ le 2 8192 ++ le 1 (b2n s.svb.overflow + 2 * b2n s.svb.framing + 4 * s.fld F.SYS_SVB_STAT_HELD) ++ zeros 3)] ∧
      t.svb.overflow = false ∧ t.svb.framing = false ∧ t.svb.rdyHigh = true) ∧
  (∀ (s : State) (b : List Byte), s.powered = true →
      s.pwr.resetHeld = false →
      s.serving = true →
      s.svb.rdyHigh = false →
      s.transportUp 0 = true →
      8192 < b.length →
      Gives (.spiWrite b) s fun t =>
      t.svb.overflow = true ∧ t.svb.rdyHigh = true ∧ t.regs = s.regs) ∧
  (∀ (s : State) (b : List Byte), s.powered = true →
      s.pwr.resetHeld = false →
      s.serving = true →
      s.svb.rdyHigh = false →
      s.transportUp 0 = true →
      b.length ≤ 8192 →
      onePacket b = false →
      Gives (.spiWrite b) s fun t =>
      t.svb.framing = true ∧ t.svb.rdyHigh = true ∧
      t.fld F.SYS_SVB_ERR_FRAMING = min (s.fld F.SYS_SVB_ERR_FRAMING + 1) 255) ∧
  (∀ (s : State) (b : List Byte), s.powered = true →
      s.pwr.resetHeld = false →
      s.serving = true →
      s.svb.rdyHigh = false →
      s.transportUp 0 = true →
      b.length ≤ 8192 →
      onePacket b = true →
      rdN b (b.length - 4) 4 ≠ crc32c ((b.drop 2).take (b.length - 6)) →
      Gives (.spiWrite b) s fun t =>
      t.svb.framing = true ∧ t.svb.rdyHigh = true ∧
      t.fld F.SYS_SVB_ERR_CRC = min (s.fld F.SYS_SVB_ERR_CRC + 1) 255) ∧
  (∀ (s : State) (b : List Byte), s.powered = true →
      s.pwr.resetHeld = false →
      s.serving = true →
      s.svb.rdyHigh = false →
      s.transportUp 0 = true →
      b.length ≤ 8192 →
      (s.ingest false 0 b).1 = true →
      Gives (.spiWrite b) s fun t =>
      t = (s.ingest false 0 b).2.spiBusy) ∧
  (∀ (s : State) (n : Nat) (p : OutPkt), s.powered = true →
      s.pwr.resetHeld = false →
      s.serving = true →
      s.svb.rdyHigh = false →
      s.transportUp 0 = true →
      s.nextOut = some p →
      (packOut 0 p).length ≤ n →
      Gives (.spiRead n) s fun t =>
      t.outs = s.outs ++ [.spi (packOut 0 p ++ zeros (n - (packOut 0 p).length))] ∧
      (t.sess 0).out = (s.sess 0).out.erase p ∧ t.svb.kept = s.svb.kept.filter (fun o => some o.tag != p.lane) ∧ t.svb.rdyHigh = true) ∧
  (∀ (s : State) (n : Nat) (p : OutPkt), s.powered = true →
      s.pwr.resetHeld = false →
      s.serving = true →
      s.svb.rdyHigh = false →
      s.transportUp 0 = true →
      s.nextOut = some p →
      n < (packOut 0 p).length →
      Gives (.spiRead n) s fun t =>
      t.outs = s.outs ++ [.spi ((packOut 0 p).take n)] ∧ t.nextOut = some { p with cut := true } ∧
      (t.sess 0).out = (s.sess 0).out.replace p { p with cut := true } ∧ t.svb.kept = s.svb.kept ∧ t.svb.rdyHigh = true) ∧
  (∀ (s : State) (n : Nat), s.powered = true →
      s.pwr.resetHeld = false →
      s.serving = true →
      s.svb.rdyHigh = false →
      s.transportUp 0 = true →
      s.nextOut = none →
      Gives (.spiRead n) s fun t =>
      t.outs = s.outs ++ [.spi (zeros n)] ∧ (t.sess 0).out = (s.sess 0).out ∧ t.svb.rdyHigh = true) ∧
  (∀ (s : State) (b : Byte), s.powered = true →
      s.pwr.resetHeld = false →
      s.serving = true →
      s.svb.rdyHigh = false →
      s.transportUp 0 = true →
      (b.toNat = 0 ∨ 3 < b.toNat) →
      Gives (.spiInvalidCode b) s fun t =>
      t.svb.framing = true ∧ t.svb.rdyHigh = true ∧
      t.fld F.SYS_SVB_ERR_FRAMING = min (s.fld F.SYS_SVB_ERR_FRAMING + 1) 255) ∧
  (∀ (s : State) (b : Byte), s.powered = true →
      s.pwr.resetHeld = false →
      s.svb.rdyHigh = true →
      (b.toNat = 0 ∨ 3 < b.toNat) →
      Gives (.spiInvalidCode b) s fun t =>
      t.svb.framing = true ∧
      t.fld F.SYS_SVB_ERR_FRAMING = min (s.fld F.SYS_SVB_ERR_FRAMING + 1) 255) ∧
  (∀ (s : State) (b : Byte), 1 ≤ b.toNat →
      b.toNat ≤ 3 →
      Gives (.spiInvalidCode b) s fun t =>
      t = s) ∧
  (∀ (s : State), s.powered = true →
      s.pwr.resetHeld = false →
      s.svb.rdyHigh = true →
      Gives (.spiCsWhileBusy) s fun t =>
      t.svb.framing = true ∧
      t.fld F.SYS_SVB_ERR_FRAMING = min (s.fld F.SYS_SVB_ERR_FRAMING + 1) 255) ∧
  (∀ (s : State), s.serving = true →
      Gives (.hsRdyReady) s fun t =>
      t = { s with svb := { s.svb with rdyHigh := false } }) ∧
  (∀ (s : State) (src : Nat) (b : List Byte), s.serving = true →
      s.transportUp 1 = true →
      onePacket b = false →
      Gives (.udpDatagram src b) s fun t =>
      t.fld F.SYS_SVB_ERR_FRAMING = min (s.fld F.SYS_SVB_ERR_FRAMING + 1) 255 ∧ t.svb = s.svb) ∧
  (∀ (s : State) (src : Nat) (b : List Byte), s.serving = true →
      s.transportUp 1 = true →
      onePacket b = true →
      rdN b (b.length - 4) 4 ≠ crc32c ((b.drop 2).take (b.length - 6)) →
      Gives (.udpDatagram src b) s fun t =>
      t.fld F.SYS_SVB_ERR_CRC = min (s.fld F.SYS_SVB_ERR_CRC + 1) 255 ∧ t.svb = s.svb) ∧
  (∀ (s : State) (src : Nat) (b : List Byte), s.serving = true →
      s.transportUp 1 = true →
      Gives (.udpDatagram src b) s fun t =>
      t = (s.ingest true src b).2) ∧
  (∀ (s : State) (c : Cmd) (code : BitVec 16), opOf code.toNat = none →
      s.takes c (undefinedOp code.toNat) = true →
      Gives (.undefinedOpcode c code) s fun t =>
      t.answered c ⟨0x10, []⟩) ∧
  (∀ (s : State) (c : Cmd) (code : BitVec 16), opOf code.toNat = none →
      Gives (.undefinedOpcode c code) s fun t =>
      s.changesOnly t [.outs, .pins, .svb, .tst] busRegs []) ∧
  (∀ (s : State) (c : Cmd) (code : BitVec 16) (op : Op), opOf code.toNat = some op →
      s.takes c op = true →
      Gives (.undefinedOpcode c code) s fun t =>
      t = s.host c op)

/-- PING, SESSION_OPEN, SESSION_CONFIRM, SESSION_CLOSE, EVENT_SUBSCRIBE and the session timeouts: what each leaves. Where the rules leave a point open it follows
the model's choice of log entries 3, 15 to 23, 30 to 32, 153, 182. -/
def Obligations.SessionCommandsComplete : Prop :=
  (∀ (s : State) (c : Cmd), s.takes c opPing = true →
      wireLength (s.sess c.sid.val).auth 0x0100 c.payload ≤ 1406 →
      Gives (.ping c) s fun t =>
      t.ok c c.payload) ∧
  (∀ (s : State) (c : Cmd) (key : Nat), s.reaches c 0x0101 = true →
      s.upd.recovery = false →
      c.payload.length = 10 →
      rdN c.payload 0 1 ≤ 63 →
      rdN c.payload 1 1 ≤ 2 →
      s.slotUsage (rdN c.payload 0 1) = usageSESSION →
      rdN c.payload 1 1 ≤ s.fld (F.SEC_SLOT_LEVEL (rdN c.payload 0 1)) →
      key = keyOf (kdf (Tbl.get 0 s.sec.keys (rdN c.payload 0 1)) sessionLabel (le 1 c.sid.val ++ le 8 (rdN c.payload 2 8) ++ le 8 (s.random 64)) 1) →
      Gives (.sessionOpen c) s fun t =>
      (t.sess c.sid.val).hs = some ⟨rdN c.payload 0 1, rdN c.payload 1 1, rdN c.payload 2 8, s.random 64, key, s.el⟩ ∧ t.free = s.free + 1 ∧
      (t.sess c.sid.val).cache = (s.sess c.sid.val).cache ∧
      t.left c.sid.val (s.sess c.sid.val).peer (.reply c.seq.toNat 0x0101 false false
        ⟨0, le 8 (s.random 64) ++ cmac64 key (openLabel ++ le 8 (rdN c.payload 2 8) ++ le 8 (s.random 64))⟩)) ∧
  (∀ (s : State) (c : Cmd) (h : Handshake), s.reaches c 0x0102 = true →
      (s.sess c.sid.val).hs = some h →
      Gives (.sessionConfirm c) s fun t =>
      (t.sess c.sid.val).isOpen = true ∧ (t.sess c.sid.val).level = h.level ∧ (t.sess c.sid.val).auth = true ∧
      (t.sess c.sid.val).key = h.key ∧ (t.sess c.sid.val).slot = h.slot ∧ (t.sess c.sid.val).h = c.seq.toNat ∧
      (t.sess c.sid.val).hs = none ∧ (t.sess c.sid.val).mask = 0 ∧ (t.sess c.sid.val).cache.length = 1 ∧ t.ok c []) ∧
  (∀ (s : State) (c : Cmd), s.takes c opSessionClose = true →
      c.payload = [] →
      ((s.sess c.sid.val).outst.all (fun e => e.fast || (e.reply.isSome && !e.held)) = true) →
      Gives (.sessionClose c) s fun t =>
      (t.sess c.sid.val).isOpen = false ∧ (t.sess c.sid.val).cache = [] ∧ (t.sess c.sid.val).mask = 0 ∧
      t.left c.sid.val (s.sess c.sid.val).peer (.reply c.seq.toNat 0x0103 false (s.sess c.sid.val).auth ⟨0, []⟩)) ∧
  (∀ (s : State) (c : Cmd), s.takes c opSessionClose = true →
      c.payload = [] →
      ((s.sess c.sid.val).outst.any (fun e => !e.fast && (e.reply.isNone || e.held)) = true) →
      Gives (.sessionClose c) s fun t =>
      t.ok c [] ∧ (t.sess c.sid.val).isOpen = true ∧ (t.sess c.sid.val).closing = true ∧ t.svb.posts = s.svb.posts ++ [(c.sid.val, c.seq.toNat, 0x0103)]) ∧
  (∀ (s : State) (c : Cmd), s.takes c opEventSubscribe = true →
      c.payload.length = 12 →
      Gives (.eventSubscribe c) s fun t =>
      t.ok c [] ∧ (t.sess c.sid.val).mask = rdN c.payload 0 12) ∧
  (∀ (s : State) (i : Fin 4) (h : Handshake), (s.sess i.val).hs = some h →
      h.at_ + 5 * oneSec ≤ s.el →
      Gives (.handshakeLapse i) s fun t =>
      t.sess i.val = { s.sess i.val with hs := none }) ∧
  (∀ (s : State) (i : Fin 4) (h : Handshake), (s.sess i.val).hs = some h →
      s.el < h.at_ + 5 * oneSec →
      Gives (.handshakeLapse i) s fun t =>
      t = s) ∧
  (∀ (s : State) (i : Fin 4), i.val ≠ 0 →
      (s.sess i.val).isOpen = true →
      s.fld F.SYS_SVB_CTL_IDLE_S ≠ 0 →
      (s.sess i.val).lastAuth + s.fld F.SYS_SVB_CTL_IDLE_S * oneSec ≤ s.el →
      Gives (.udpSessionIdle i) s fun t =>
      (t.sess i.val).isOpen = false ∧ (t.sess i.val).cache = [] ∧ bit t.pend Ev.sysSvbIdle = true)

/-- GET_IDENTITY, BULK_*, REG_* and the register events: replies, bytes and registers. Where the rules leave a point open it follows
the model's choice of log entries 14, 19, 32 to 37, 148, 154. -/
def Obligations.IdentityBulkAndRegisterCommandsComplete : Prop :=
  (∀ (s : State) (c : Cmd), s.takes c opGetIdentity = true →
      c.payload = [] →
      s.upd.recovery = false →
      Gives (.getIdentity c) s fun t =>
      t.ok c (le 2 (s.fld F.SYS_ID_TYPE_ID) ++ le 1 (16 * s.fld F.SYS_ID_STEP_MAJOR + s.fld F.SYS_ID_STEP_MINOR) ++ [0] ++
        le 4 (s.fld F.UPD_VINT_ACT_VINTAGE) ++ le 8 s.fuses.unitId)) ∧
  (∀ (s : State) (c : Cmd), s.takes c opBulkWrite = true →
      5 ≤ c.payload.length →
      rdN c.payload 0 4 % 4 = 0 →
      c.payload.length % 4 = 0 →
      rdN c.payload 0 4 + (c.payload.length - 4) ≤ 0x08000000 →
      Gives (.bulkWrite c) s fun t =>
      t.ok c [] ∧ (∀ i, i < c.payload.length - 4 → t.dramByte (rdN c.payload 0 4 + i) = c.payload.getD (4 + i) 0) ∧
      ∀ o, o < rdN c.payload 0 4 ∨ rdN c.payload 0 4 + (c.payload.length - 4) ≤ o → t.dramByte o = s.dramByte o) ∧
  (∀ (s : State) (c : Cmd), s.takes c opBulkRead = true →
      c.payload.length = 8 →
      rdN c.payload 0 4 % 4 = 0 →
      rdN c.payload 4 2 % 4 = 0 →
      4 ≤ rdN c.payload 4 2 →
      rdN c.payload 4 2 ≤ 1396 →
      rdN c.payload 0 4 + rdN c.payload 4 2 ≤ 0x08000000 →
      Gives (.bulkRead c) s fun t =>
      t.ok c ((List.range (rdN c.payload 4 2)).map fun i => s.dramByte (rdN c.payload 0 4 + i))) ∧
  (∀ (s : State) (c : Cmd), s.takes c opRegRead = true →
      c.payload.length = 4 →
      s.mapped (rdN c.payload 0 4) = true →
      Gives (.regRead c) s fun t =>
      t.ok c (le 4 ((s.entered c opRegRead).readReg (rdN c.payload 0 4)).1.toNat)) ∧
  (∀ (s : State) (c : Cmd), s.takes c opRegRead = true →
      c.payload.length = 4 →
      s.mapped (rdN c.payload 0 4) = true →
      rdN c.payload 0 4 ∉ [R.SYS_SVB_STAT, R.SYS_TT_POS, R.TIM_NOW_LO, R.TIM_IN_LO, R.PWR_SUP, R.PWR_SUP2, R.SBX_LOAD, R.ARB_MAT, R.ARB_MAT_CNT, R.ARB_DRAM, R.ARB_DRAM_CNT, R.ETH_P_PAUSE 0, R.ETH_P_PAUSE 1, R.TST_STAT] →
      Gives (.regRead c) s fun t =>
      t.ok c (le 4 (s.reg (rdN c.payload 0 4)).toNat)) ∧
  (∀ (s : State) (c : Cmd), s.takes c opRegRead = true →
      c.payload.length = 4 →
      s.mapped (rdN c.payload 0 4) = false →
      Gives (.regRead c) s fun t =>
      t.answered c ⟨0x50, []⟩) ∧
  (∀ (s : State) (c : Cmd) (as : List Nat), s.takes c opRegReadBlock = true →
      c.payload.length = 6 →
      0 < rdN c.payload 4 2 →
      rdN c.payload 4 2 ≤ 256 →
      (as = (List.range (rdN c.payload 4 2)).map fun i => rdN c.payload 0 4 + 4 * i) →
      as.all s.mapped = true →
      Gives (.regReadBlock c) s fun t =>
      t.ok c ((s.entered c opRegReadBlock).readBlock as).1) ∧
  (∀ (s : State) (c : Cmd) (as : List Nat), s.takes c opRegReadBlock = true →
      c.payload.length = 6 →
      0 < rdN c.payload 4 2 →
      rdN c.payload 4 2 ≤ 256 →
      (as = (List.range (rdN c.payload 4 2)).map fun i => rdN c.payload 0 4 + 4 * i) →
      as.all s.mapped = false →
      Gives (.regReadBlock c) s fun t =>
      t.answered c ⟨0x50, []⟩) ∧
  (∀ (s : State) (c : Cmd), s.takes c opRegWrite = true →
      c.payload.length = 8 →
      (s.entered c opRegWrite).writeRefusal c.sid.val (rdN c.payload 0 4) 0xFFFFFFFF#32 = none →
      Gives (.regWrite c) s fun t =>
      t = (((s.entered c opRegWrite).writeReg (rdN c.payload 0 4) (BitVec.ofNat 32 (rdN c.payload 4 4)) 0xFFFFFFFF#32).finish c.sid.val c.seq.toNat 0x0201
        (s.engineFor opRegWrite c.payload) ⟨0, []⟩).follow c.sid.val c.seq.toNat opRegWrite) ∧
  (∀ (s : State) (c : Cmd), s.takes c opRegWrite = true →
      c.payload.length = 8 →
      s.mapped (rdN c.payload 0 4) = true →
      rdN c.payload 0 4 = R.SKY_ANT →
      s.pwr.rstReq = false →
      Gives (.regWrite c) s fun t =>
      t.ok c [] ∧ t.fld F.SKY_ANT_BIAS = rdN c.payload 4 4 % 4) ∧
  (∀ (s : State) (c : Cmd), s.takes c opRegModify = true →
      c.payload.length = 12 →
      (s.entered c opRegModify).writeRefusal c.sid.val (rdN c.payload 0 4) (BitVec.ofNat 32 (rdN c.payload 4 4)) = none →
      Gives (.regModify c) s fun t =>
      t = ((((s.entered c opRegModify).readReg (rdN c.payload 0 4)).2.writeReg (rdN c.payload 0 4) (BitVec.ofNat 32 (rdN c.payload 8 4)) (BitVec.ofNat 32 (rdN c.payload 4 4))).finish
        c.sid.val c.seq.toNat 0x0203 (s.engineFor opRegModify c.payload) ⟨0, le 4 ((s.entered c opRegModify).readReg (rdN c.payload 0 4)).1.toNat⟩).follow c.sid.val c.seq.toNat opRegModify) ∧
  (∀ (s : State) (c : Cmd), s.takes c opRegWriteLc = true →
      c.payload.length = 16 →
      s.sigOk c.sid.val c.seq.toNat 0x0204 c.payload = true →
      rdN c.payload 0 4 = R.UPD_FLOOR →
      rdN c.payload 4 4 = s.fuses.floor + 1 →
      rdN c.payload 4 4 ≤ s.fld F.UPD_VINT_ACT_VINTAGE / 2 ^ 24 →
      0 < s.fuses.floorLeft →
      Gives (.regWriteLc c) s fun t =>
      t.ok c (le 2 (s.fuses.floorLeft - 1)) ∧ t.fuses.floor = s.fuses.floor + 1 ∧ t.fuses.floorLeft = s.fuses.floorLeft - 1 ∧
      t.fld F.UPD_FLOOR_FLOOR = (s.fuses.floor + 1) % 2 ^ F.UPD_FLOOR_FLOOR.width) ∧
  (∀ (s : State) (a : Nat) (v : Word), s.serving = true →
      s.mapped a = true →
      (calReg a = false ∨ s.fuses.sealCrc = 0) →
      laneReg a = false →
      Gives (.registerWrite a v) s fun t =>
      t = s.writeReg a v 0xFFFFFFFF#32) ∧
  (∀ (s : State) (a : Nat) (v : Word), s.serving = true →
      s.mapped a = true →
      (calReg a = false ∨ s.fuses.sealCrc = 0) →
      laneReg a = true →
      (s.anyLane = true ∨ s.switching = true) →
      Gives (.registerWrite a v) s fun t =>
      t = s.laneInput.writeReg a v 0xFFFFFFFF#32) ∧
  (∀ (s : State) (die : Nat) (id : Nat) (key : Nat), s.fld F.SYS_TT_SEL_DIE = die →
      s.fld F.SYS_TT_SEL_ENGINE = id →
      (s.ttState die id).2 = some key →
      (s.ttState die id).1 < 2 →
      Gives (.sysTtPosRead) s fun t =>
      t.fld F.SYS_TT_POS_STATE = ((s.seqSync key).ttState die id).1 % 16 ∧ t.fld F.SYS_TT_POS_GEN = s.genOf (genKey id) % 256 ∧
      t.fld F.SYS_TT_POS_STEP = ((s.seqSync key).seqOf key).step % 4096 ∧ t.fld F.SYS_TT_COUNT_COUNT = ((s.seqSync key).seqOf key).count % 2 ^ 32 ∧
      (((s.seqSync key).seqOf key).count + 2 ^ 32 - (s.seqOf key).count % 2 ^ 32) % 2 ^ 32 ≤ stepRate (key % 256) * (s.el - (s.seqOf key).at_) / oneSec) ∧
  (∀ (s : State) (die : Nat) (id : Nat) (key : Nat), s.fld F.SYS_TT_SEL_DIE = die →
      s.fld F.SYS_TT_SEL_ENGINE = id →
      (s.ttState die id).2 = some key →
      2 ≤ (s.ttState die id).1 →
      (s.ttState die id).1 ≠ 15 →
      Gives (.sysTtPosRead) s fun t =>
      t.fld F.SYS_TT_POS_STATE = (s.ttState die id).1 % 16 ∧ t.fld F.SYS_TT_POS_GEN = s.genOf (genKey id) % 256 ∧
      t.fld F.SYS_TT_POS_STEP = (s.seqOf key).step % 4096 ∧ t.fld F.SYS_TT_COUNT_COUNT = (s.seqOf key).count % 2 ^ 32 ∧ t.eng = s.eng) ∧
  (∀ (s : State) (die : Nat) (id : Nat), s.fld F.SYS_TT_SEL_DIE = die →
      s.fld F.SYS_TT_SEL_ENGINE = id →
      (s.ttState die id).1 = 15 →
      Gives (.sysTtPosRead) s fun t =>
      t.fld F.SYS_TT_POS_STATE = 15 ∧ t.fld F.SYS_TT_POS_GEN = 0 ∧ t.fld F.SYS_TT_POS_STEP = 0 ∧ t.fld F.SYS_TT_COUNT_COUNT = 0) ∧
  (∀ (s : State), Gives (.svbCntClr) s fun t =>
      t.reg R.SYS_SVB_ERR = 0 ∧ t.svb = s.svb) ∧
  (∀ (s : State) (i : Fin 4), i.val ≠ 0 →
      Gives (.udpSessionDisable i) s fun t =>
      t.udpEnabled i.val = false ∧ (t.sess i.val).isOpen = false ∧ (t.sess i.val).hs = none)

/-- The CNT_CLR bits, DEM_CLR and writes to the pending and enable bits: what each clears. Where the rules leave a point open it follows
the model's choice of log entries 14. -/
def Obligations.CounterClearsAndEventBitsComplete : Prop :=
  (∀ (s : State), Gives (.pwrCntClr) s fun t =>
      t.reg R.PWR_DIP_T = 0 ∧ t.fld F.PWR_DIP_DIPS = 0 ∧ t.fld F.PWR_DIP_MIN_MV = s.fld F.PWR_DIP_MIN_MV ∧
      t.fld F.PWR_DIP_BROWNOUTS = s.fld F.PWR_DIP_BROWNOUTS ∧ ∀ a, a ≠ R.PWR_DIP → a ≠ R.PWR_DIP_T → t.reg a = s.reg a) ∧
  (∀ (s : State), Gives (.rtkCntClr) s fun t =>
      t.reg R.RTK_INTAKE = 0 ∧ t.reg R.RTK_CUTS = 0 ∧ t.fld F.RTK_CYCLE_MAX_US = 0 ∧ t.fld F.RTK_CYCLE_LAST_US = s.fld F.RTK_CYCLE_LAST_US ∧
      ∀ a, a ≠ R.RTK_INTAKE → a ≠ R.RTK_CUTS → a ≠ R.RTK_CYCLE → t.reg a = s.reg a) ∧
  (∀ (s : State), Gives (.snpCntClr) s fun t =>
      t.reg R.SNP_CNT = 0 ∧ t.reg R.SNP_DROP = 0 ∧ t.fld F.SNP_TIME_MAX_MS = 0 ∧
      ∀ a, a ≠ R.SNP_CNT → a ≠ R.SNP_DROP → a ≠ R.SNP_TIME → t.reg a = s.reg a) ∧
  (∀ (s : State), Gives (.sbxCntClr) s fun t =>
      t.reg R.SBX_CNT0 = 0 ∧ t.reg R.SBX_CNT1 = 0 ∧ t.fld F.SBX_LOAD_MAX_US = 0 ∧ t.fld F.SBX_LOAD_REQ_S = s.fld F.SBX_LOAD_REQ_S ∧
      ∀ a, a ≠ R.SBX_CNT0 → a ≠ R.SBX_CNT1 → a ≠ R.SBX_LOAD → t.reg a = s.reg a) ∧
  (∀ (s : State), Gives (.altCntClr) s fun t =>
      t.reg R.ALT_CNT = 0 ∧ t.fld F.ALT_ROUND_LAST_MS = 0 ∧
      ∀ a, a ≠ R.ALT_CNT → a ≠ R.ALT_ROUND → t.reg a = s.reg a) ∧
  (∀ (s : State), Gives (.ttbCntClr) s fun t =>
      t.reg R.TTB_CNT = 0 ∧ t.fld F.TTB_LOAD_MAX_US = 0 ∧ t.fld F.TTB_LOAD_LAST_US = s.fld F.TTB_LOAD_LAST_US ∧
      ∀ a, a ≠ R.TTB_CNT → a ≠ R.TTB_LOAD → t.reg a = s.reg a) ∧
  (∀ (s : State), Gives (.radCntClr) s fun t =>
      t.reg R.RAD_JOIN_CNT = 0 ∧ (∀ n, n < 4 → t.reg (R.RAD_P_CNT0 n) = 0 ∧ t.reg (R.RAD_P_CNT1 n) = 0) ∧
      ∀ a, a ≠ R.RAD_JOIN_CNT → (∀ n, n < 4 → a ≠ R.RAD_P_CNT0 n ∧ a ≠ R.RAD_P_CNT1 n) → t.reg a = s.reg a) ∧
  (∀ (s : State), Gives (.ethCntClr) s fun t =>
      t.reg (R.ETH_P_CNT0 0) = 0 ∧ t.reg (R.ETH_P_CNT1 0) = 0 ∧ t.reg (R.ETH_P_CNT0 1) = 0 ∧ t.reg (R.ETH_P_CNT1 1) = 0 ∧ ∀ a, a ≠ R.ETH_P_CNT0 0 → a ≠ R.ETH_P_CNT1 0 → a ≠ R.ETH_P_CNT0 1 → a ≠ R.ETH_P_CNT1 1 → t.reg a = s.reg a) ∧
  (∀ (s : State), Gives (.mtrCntClr) s fun t =>
      t.reg (R.MTR_CNT) = 0 ∧ ∀ a, a ≠ R.MTR_CNT → t.reg a = s.reg a) ∧
  (∀ (s : State), Gives (.lanCntClr) s fun t =>
      t.reg (R.LAN_CNT) = 0 ∧ t.reg (R.LAN_TIME) = 0 ∧ ∀ a, a ≠ R.LAN_CNT → a ≠ R.LAN_TIME → t.reg a = s.reg a) ∧
  (∀ (s : State), Gives (.schCntClr) s fun t =>
      t.reg (R.SCH_CNT) = 0 ∧ ∀ a, a ≠ R.SCH_CNT → t.reg a = s.reg a) ∧
  (∀ (s : State), Gives (.secCntClr) s fun t =>
      t.reg (R.SEC_CNT) = 0 ∧ ∀ a, a ≠ R.SEC_CNT → t.reg a = s.reg a) ∧
  (∀ (s : State), Gives (.updCntClr) s fun t =>
      t.reg (R.UPD_CNT) = 0 ∧ ∀ a, a ≠ R.UPD_CNT → t.reg a = s.reg a) ∧
  (∀ (s : State), Gives (.cbkCntClr) s fun t =>
      t.reg (R.CBK_CNT) = 0 ∧ ∀ a, a ≠ R.CBK_CNT → t.reg a = s.reg a) ∧
  (∀ (s : State), Gives (.queCntClr) s fun t =>
      ∀ q, (t.queue q).parErr = 0 ∧ (t.queue q).corr = 0 ∧ (t.queue q).poison = 0 ∧ (t.queue q).staleGen = 0 ∧
      (t.queue q).commits = 0 ∧ (t.queue q).rewinds = 0) ∧
  (∀ (s : State), Gives (.demClr) s fun t =>
      (t.mp 0).maxDem = 0 ∧ (t.mp 1).maxDem = 0 ∧ t.regs = s.regs) ∧
  (∀ (s : State) (i : Fin 3) (m : Word), Gives (.evtPendClear i m) s fun t =>
      t.reg (R.EVT_PEND0 + 4 * i.val) = s.reg (R.EVT_PEND0 + 4 * i.val) &&& ~~~(if i.val = 0 then m &&& ~~~4#32 else m) ∧
      t.pins.irq0 = (t.pend &&& Ev.urgentMask &&& t.evtEn != 0) ∧
      t.pins.irq1 = ((t.pend ^^^ (t.pend &&& Ev.urgentMask)) &&& t.evtEn != 0)) ∧
  (∀ (s : State) (i : Fin 3) (v : Word), Gives (.evtEnWrite i v) s fun t =>
      t.reg (R.EVT_EN0 + 4 * i.val) = (if i.val = 2 then v &&& 0xFFFFFF#32 else v) ∧
      t.pins.irq0 = (t.pend &&& Ev.urgentMask &&& t.evtEn != 0) ∧
      t.pins.irq1 = ((t.pend ^^^ (t.pend &&& Ev.urgentMask)) &&& t.evtEn != 0))

/-- Token requests and drops, the power arbiter and SET_POWER_CAP: owner, waiters, grants. Where the rules leave a point open it follows
the model's choice of log entries 116, 117, 175. -/
def Obligations.ArbitersComplete : Prop :=
  (∀ (s : State) (arb : Fin 2) (i : Fin 16), (s.tokenArb arb.val).stretch = none →
      ((tokenReq arb.val i.val).isNone ∨ (s.tokenArb arb.val).pending.contains i.val = true ∨ (s.tokenArb arb.val).owner = some i.val) →
      Gives (.tokenRequest arb i) s fun t =>
      t = s) ∧
  (∀ (s : State) (arb : Fin 2) (i : Fin 16), (if arb.val = 0 then s.lanesRun else s.pwr.hubReady && s.pwr.state != .dormant) = false →
      Gives (.tokenRequest arb i) s fun t =>
      t = s) ∧
  (∀ (s : State) (arb : Fin 2) (i : Fin 16), (if arb.val = 0 then s.lanesRun else s.pwr.hubReady && s.pwr.state != .dormant) = false →
      Gives (.tokenDrop arb i) s fun t =>
      t = s) ∧
  (∀ (s : State) (arb : Fin 2) (i : Fin 16), (if arb.val = 0 then s.lanesRun else s.pwr.hubReady && s.pwr.state != .dormant) = true →
      (s.tokenArb arb.val).stretch = none →
      (tokenReq arb.val i.val).isSome = true →
      (s.tokenArb arb.val).owner = none →
      (s.tokenArb arb.val).pending = [] →
      Gives (.tokenRequest arb i) s fun t =>
      (t.tokenArb arb.val).owner = some i.val ∧ (t.tokenArb arb.val).pending = []) ∧
  (∀ (s : State) (arb : Fin 2) (i : Fin 16) (o : Nat), (if arb.val = 0 then s.lanesRun else s.pwr.hubReady && s.pwr.state != .dormant) = true →
      ((s.tokenArb arb.val).stretch.all (fun e => decide (s.el < e)) = true) →
      (tokenReq arb.val i.val).isSome = true →
      (s.tokenArb arb.val).owner = some o →
      i.val ≠ o →
      (s.tokenArb arb.val).pending.contains i.val = false →
      tokenClass arb.val i.val ≤ tokenClass arb.val o →
      Gives (.tokenRequest arb i) s fun t =>
      (t.tokenArb arb.val).owner = some o ∧ (t.tokenArb arb.val).pending = (s.tokenArb arb.val).pending ++ [i.val] ∧ (t.tokenArb arb.val).stretch = (s.tokenArb arb.val).stretch) ∧
  (∀ (s : State) (arb : Fin 2) (i : Fin 16) (o : Nat), (if arb.val = 0 then s.lanesRun else s.pwr.hubReady && s.pwr.state != .dormant) = true →
      (s.tokenArb arb.val).stretch = none →
      (tokenReq arb.val i.val).isSome = true →
      (s.tokenArb arb.val).owner = some o →
      (s.tokenArb arb.val).pending = [] →
      tokenClass arb.val o < tokenClass arb.val i.val →
      Gives (.tokenRequest arb i) s fun t =>
      (t.tokenArb arb.val).owner = some i.val ∧ (t.tokenArb arb.val).pending = [o] ∧
      t.fld (if arb.val = 0 then F.ARB_MAT_CNT_GRANTS else F.ARB_DRAM_CNT_GRANTS) = (s.fld (if arb.val = 0 then F.ARB_MAT_CNT_GRANTS else F.ARB_DRAM_CNT_GRANTS) + 1) % 65536) ∧
  (∀ (s : State) (arb : Fin 2) (i : Fin 16) (o : Nat) (e : Nat), (if arb.val = 0 then s.lanesRun else s.pwr.hubReady && s.pwr.state != .dormant) = true →
      (s.tokenArb arb.val).stretch = some e →
      (tokenReq arb.val i.val).isSome = true →
      (s.tokenArb arb.val).owner = some o →
      (s.tokenArb arb.val).pending = [] →
      (s.el < e → tokenClass arb.val o < tokenClass arb.val i.val) →
      Gives (.tokenRequest arb i) s fun t =>
      (t.tokenArb arb.val).owner = some i.val ∧ (t.tokenArb arb.val).pending = [] ∧ (t.tokenArb arb.val).stretch = none) ∧
  (∀ (s : State) (arb : Fin 2) (i : Fin 16), (if arb.val = 0 then s.lanesRun else s.pwr.hubReady && s.pwr.state != .dormant) = true →
      (s.tokenArb arb.val).stretch = none →
      s.stretchNs arb.val = 0 →
      (s.tokenArb arb.val).owner = some i.val →
      (s.tokenArb arb.val).pending = [] →
      Gives (.tokenDrop arb i) s fun t =>
      (t.tokenArb arb.val).owner = none ∧ (t.tokenArb arb.val).pending = []) ∧
  (∀ (s : State) (arb : Fin 2) (i : Fin 16) (j : Nat), (if arb.val = 0 then s.lanesRun else s.pwr.hubReady && s.pwr.state != .dormant) = true →
      (s.tokenArb arb.val).stretch = none →
      s.stretchNs arb.val = 0 →
      (s.tokenArb arb.val).owner = some i.val →
      (s.tokenArb arb.val).pending = [j] →
      Gives (.tokenDrop arb i) s fun t =>
      (t.tokenArb arb.val).owner = some j ∧ (t.tokenArb arb.val).pending = []) ∧
  (∀ (s : State) (arb : Fin 2) (i : Fin 16), (if arb.val = 0 then s.lanesRun else s.pwr.hubReady && s.pwr.state != .dormant) = true →
      (s.tokenArb arb.val).stretch = none →
      0 < s.stretchNs arb.val →
      (s.tokenArb arb.val).owner = some i.val →
      Gives (.tokenDrop arb i) s fun t =>
      (t.tokenArb arb.val).owner = some i.val ∧ (t.tokenArb arb.val).pending = (s.tokenArb arb.val).pending ∧ (t.tokenArb arb.val).stretch = some (s.el + s.stretchNs arb.val)) ∧
  (∀ (s : State) (arb : Fin 2) (i : Fin 16), (if arb.val = 0 then s.lanesRun else s.pwr.hubReady && s.pwr.state != .dormant) = true →
      ((s.tokenArb arb.val).stretch.all (fun e => decide (s.el < e)) = true) →
      ((s.tokenArb arb.val).owner ≠ some i.val ∨ (s.tokenArb arb.val).stretch.isSome = true) →
      Gives (.tokenDrop arb i) s fun t =>
      (t.tokenArb arb.val).owner = (s.tokenArb arb.val).owner ∧ (t.tokenArb arb.val).stretch = (s.tokenArb arb.val).stretch ∧ (t.tokenArb arb.val).pending = (s.tokenArb arb.val).pending.filter fun j => j != i.val) ∧
  (∀ (s : State) (v : BitVec 11) (res : Nat), s.pwr.hubReady = true →
      res = s.pwrBase + v.toNat + s.rtkFloor →
      Gives (.powerReevaluate v) s fun t =>
      t.fld F.ARB_PWR_STAT_RESERVED = res % 2048 ∧ t.fld F.ARB_PWR_STAT_OVER = b2n (decide (s.fld F.ARB_PWR_CAP_CAP < res)) ∧
      t.fld F.ARB_PWR_RES_VOUT = v.toNat ∧ t.fld F.ARB_PWR_RES_BASE = s.pwrBase ∧
      ∀ i ∈ List.range 5, t.fld (F.ARB_PWR_REQ_GRANT i) = Tbl.get 0 (s.pwrGrants (s.fld F.ARB_PWR_CAP_CAP - res)) i % 2048) ∧
  (∀ (s : State) (v : BitVec 11), s.pwr.hubReady = false →
      Gives (.powerReevaluate v) s fun t =>
      t = s) ∧
  (∀ (s : State) (c : Cmd), s.takes c opSetPowerCap = true →
      c.payload.length = 4 →
      rdN c.payload 0 1 = 1 →
      600 ≤ rdN c.payload 2 2 →
      rdN c.payload 2 2 ≤ 1800 →
      Gives (.setPowerCap c) s fun t =>
      t.ok c (le 2 (rdN c.payload 2 2) ++ le 2 (s.fld F.ARB_PWR_STAT_GRANTED) ++ zeros 4) ∧ t.fld F.ARB_PWR_CAP_CAP = rdN c.payload 2 2 ∧
      Tbl.get 0 t.nor.newest R.ARB_PWR_CAP = t.reg R.ARB_PWR_CAP) ∧
  (∀ (s : State) (c : Cmd), s.takes c opSetPowerCap = true →
      c.payload.length = 4 →
      rdN c.payload 0 1 = 0 →
      Gives (.setPowerCap c) s fun t =>
      t.ok c (le 2 (s.fld F.ARB_PWR_CAP_CAP) ++ le 2 (s.fld F.ARB_PWR_STAT_GRANTED) ++ zeros 4) ∧ t.reg R.ARB_PWR_CAP = s.reg R.ARB_PWR_CAP)

/-- Commits, racks, read errors, rewinds and flushes of the hardware queues. Where the rules leave a point open it follows
the model's choice of log entries 113, 114, 174. -/
def Obligations.QueueEventsComplete : Prop :=
  (∀ (s : State) (q : Fin 64) (len : Fin 4089) (more : Bool) (gen : Byte) (eng : Byte) (seq : Word), q.val < 40 →
      (s.queue q.val).wait = [] →
      bankWords (s.queue q.val).fill + (1 + ceilDiv len.val 8) ≤ 512 →
      s.forcedFull q.val = false →
      s.tst.errLeft = 0 →
      Gives (.queueCommit q len more gen eng seq) s fun t =>
      (t.queue q.val).fill = (s.queue q.val).fill ++ [{ len := len.val, more := more, gen := gen.toNat, engine := eng.toNat, seq := seq.toNat, ready := s.el + s.queueDelay q.val }] ∧
      (t.queue q.val).commits = ((s.queue q.val).commits + 1) % 65536 ∧ (t.queue q.val).drain = (s.queue q.val).drain ∧
      ∀ k, k ≠ q.val → t.queue k = s.queue k) ∧
  (∀ (s : State) (q : Fin 64) (len : Fin 4089) (more : Bool) (gen : Byte) (eng : Byte) (seq : Word), q.val < 40 →
      (s.queue q.val).wait = [] →
      (512 < bankWords (s.queue q.val).fill + (1 + ceilDiv len.val 8) ∨ s.forcedFull q.val = true) →
      (q.val < 20 ∨ 23 < q.val) →
      q.val ≠ 33 →
      q.val ≠ 34 →
      Gives (.queueCommit q len more gen eng seq) s fun t =>
      (t.queue q.val).fill = (s.queue q.val).fill ∧ (t.queue q.val).full = some ((s.queue q.val).full.getD s.el) ∧ (t.queue q.val).commits = (s.queue q.val).commits ∧ (t.queue q.val).wait = [{ len := len.val, more := more, gen := gen.toNat, engine := eng.toNat, seq := seq.toNat }]) ∧
  (∀ (s : State) (q : Fin 64) (len : Fin 4089) (more : Bool) (gen : Byte) (eng : Byte) (seq : Word) (w : QPacket) (ws : List QPacket), q.val < 40 →
      (s.queue q.val).wait = w :: ws →
      s.noRoom q.val w = true →
      (q.val < 20 ∨ 23 < q.val) →
      q.val ≠ 33 →
      q.val ≠ 34 →
      Gives (.queueCommit q len more gen eng seq) s fun t =>
      (t.queue q.val).fill = (s.queue q.val).fill ∧ (t.queue q.val).full = some ((s.queue q.val).full.getD s.el) ∧ (t.queue q.val).commits = (s.queue q.val).commits ∧ (t.queue q.val).wait = (s.queue q.val).wait ++ [{ len := len.val, more := more, gen := gen.toNat, engine := eng.toNat, seq := seq.toNat }]) ∧
  (∀ (s : State) (q : Fin 64) (len : Fin 4089) (more : Bool) (gen : Byte) (eng : Byte) (seq : Word), (20 ≤ q.val ∧ q.val ≤ 23 ∨ q.val = 33 ∨ q.val = 34) →
      (512 < bankWords (s.queue q.val).fill + (1 + ceilDiv len.val 8) ∨ s.forcedFull q.val = true) →
      Gives (.queueCommit q len more gen eng seq) s fun t =>
      t = s) ∧
  (∀ (s : State) (q : Fin 64) (len : Fin 4089) (more : Bool) (gen : Byte) (eng : Byte) (seq : Word), 40 ≤ q.val →
      Gives (.queueCommit q len more gen eng seq) s fun t =>
      t = s) ∧
  (∀ (s : State) (q : Fin 64), q.val < 40 →
      Gives (.packetRewind q) s fun t =>
      (t.queue q.val) = { s.queue q.val with rewinds := min 65535 ((s.queue q.val).rewinds + 1) } ∧ ∀ k, k ≠ q.val → t.queue k = s.queue k) ∧
  (∀ (s : State) (q : Fin 64), (s.queue q.val).drain = [] →
      (s.queue q.val).fill ≠ [] →
      (s.queue q.val).wait = [] →
      Gives (.queueRack q) s fun t =>
      (t.queue q.val).drain = (s.queue q.val).fill ∧ (t.queue q.val).bank = 1 - (s.queue q.val).bank ∧
      (t.queue q.val).drainEcc = (s.queue q.val).fillEcc ∧ (t.queue q.val).fillEcc = s.eccWanted q.val ∧ (t.queue q.val).full = none ∧ (t.queue q.val).fill = []) ∧
  (∀ (s : State) (q : Fin 64) (w : QPacket), (s.queue q.val).drain = [] →
      (s.queue q.val).fill ≠ [] →
      (s.queue q.val).wait = [w] →
      w.words ≤ 512 →
      s.forcedFull q.val = false →
      s.tst.errLeft = 0 →
      Gives (.queueRack q) s fun t =>
      (t.queue q.val).drain = (s.queue q.val).fill ∧ (t.queue q.val).bank = 1 - (s.queue q.val).bank ∧
      (t.queue q.val).drainEcc = (s.queue q.val).fillEcc ∧ (t.queue q.val).fillEcc = s.eccWanted q.val ∧ (t.queue q.val).full = none ∧ (t.queue q.val).wait = [] ∧ (t.queue q.val).fill = [{ w with hurt := 0, hurt2 := false, ready := s.el + s.queueDelay q.val }]) ∧
  (∀ (s : State) (q : Fin 64), ((s.queue q.val).drain ≠ [] ∨ (s.queue q.val).fill = []) →
      Gives (.queueRack q) s fun t =>
      t = s) ∧
  (∀ (s : State) (q : Fin 64) (p : QPacket) (rest : List QPacket) (src : Fin 88) (double : Bool) (rep : Option (Nat × Nat × Nat)), (s.queue q.val).drain = p :: rest →
      (s.queue q.val).drainEcc = true →
      (if p.hurt = 0 then double else p.hurt2) = false →
      Gives (.queueReadError q double src rep) s fun t =>
      (t.queue q.val).corr = min 255 ((s.queue q.val).corr + 1) ∧ (t.queue q.val).drain = { p with hurt := p.hurt - 1 } :: rest ∧
      (t.queue q.val).poison = (s.queue q.val).poison) ∧
  (∀ (s : State) (q : Fin 64) (p : QPacket) (rest : List QPacket) (src : Fin 88) (double : Bool) (rep : Option (Nat × Nat × Nat)), 16 ≤ q.val →
      (s.queue q.val).drain = p :: rest →
      ((s.queue q.val).drainEcc = false ∨ (if p.hurt = 0 then double else p.hurt2) = true) →
      Gives (.queueReadError q double src rep) s fun t =>
      (t.queue q.val).drain = rest ∧ (t.queue q.val).poison = min 255 ((s.queue q.val).poison + 1) ∧
      (t.queue q.val).parErr = (if (s.queue q.val).drainEcc then (s.queue q.val).parErr else min 255 ((s.queue q.val).parErr + 1)) ∧
      bit t.pend Ev.quePoison = true) ∧
  (∀ (s : State) (q : Fin 64) (p : QPacket) (rest : List QPacket) (src : Fin 88) (double : Bool) (rep : Option (Nat × Nat × Nat)), q.val < 8 →
      (s.queue q.val).drain = p :: rest →
      ((s.queue q.val).drainEcc = false ∨ (if p.hurt = 0 then double else p.hurt2) = true) →
      Gives (.queueReadError q double src rep) s fun t =>
      (t.queue q.val).drain = rest ∧ (t.queue q.val).poison = min 255 ((s.queue q.val).poison + 1) ∧ t.lan.gap = Tbl.put none s.lan.gap (q.val / 4) (some p.engine)) ∧
  (∀ (s : State) (q : Fin 64) (p : QPacket) (rest : List QPacket) (src : Fin 88) (double : Bool) (rep : Option (Nat × Nat × Nat)), (8 ≤ q.val ∧ q.val < 16) →
      s.activeLane ≠ some ((q.val - 8) / 4) →
      (s.queue q.val).drain = p :: rest →
      ((s.queue q.val).drainEcc = false ∨ (if p.hurt = 0 then double else p.hurt2) = true) →
      Gives (.queueReadError q double src rep) s fun t =>
      (t.queue q.val).drain = rest ∧ (t.queue q.val).poison = min 255 ((s.queue q.val).poison + 1) ∧ t.lan.lost = Tbl.put false s.lan.lost ((q.val - 8) / 4) true) ∧
  (∀ (s : State) (q : Fin 64) (p : QPacket) (rest : List QPacket) (src : Fin 88) (double : Bool) (rep : Option (Nat × Nat × Nat)) (sid : Nat) (seq : Nat) (op : Nat), (8 ≤ q.val ∧ q.val < 16) →
      s.activeLane = some ((q.val - 8) / 4) →
      s.laneSt (otherLane ((q.val - 8) / 4)) ≠ laneStSHADOW →
      q.val % 4 = 1 →
      rep = some (sid, seq, op) →
      sid < 4 →
      ((s.sess sid).outst.any (fun e => e.seq == seq) = true) →
      ((s.sess sid).cache.any (fun e => e.seq == seq) = true) →
      (s.queue q.val).drain = p :: rest →
      ((s.queue q.val).drainEcc = false ∨ (if p.hurt = 0 then double else p.hurt2) = true) →
      Gives (.queueReadError q double src rep) s fun t =>
      (t.queue q.val).drain = rest ∧ (t.queue q.val).poison = min 255 ((s.queue q.val).poison + 1) ∧ ((∃ e ∈ (t.sess sid).cache, e.seq = seq ∧ e.reply = some ⟨0xFF, []⟩) ∨ ∃ e ∈ (t.sess sid).outst, e.seq = seq ∧ e.reply = some ⟨0xFF, []⟩)) ∧
  (∀ (s : State) (q : Fin 64) (p : QPacket) (rest : List QPacket) (src : Fin 88) (double : Bool) (rep : Option (Nat × Nat × Nat)) (sid : Nat), (8 ≤ q.val ∧ q.val < 16) →
      s.activeLane = some ((q.val - 8) / 4) →
      s.laneSt (otherLane ((q.val - 8) / 4)) ≠ laneStSHADOW →
      q.val % 4 = 2 →
      sid < 4 →
      (s.sess sid).isOpen = true →
      bit (s.sess sid).mask src.val = true →
      (s.queue q.val).drain = p :: rest →
      ((s.queue q.val).drainEcc = false ∨ (if p.hurt = 0 then double else p.hurt2) = true) →
      Gives (.queueReadError q double src rep) s fun t =>
      (t.queue q.val).drain = rest ∧ (t.queue q.val).poison = min 255 ((s.queue q.val).poison + 1) ∧ 0 < (t.sess sid).dropped) ∧
  (∀ (s : State) (q : Fin 8) (at_ : Nat), (s.queue q.val).full = some at_ →
      at_ + 2 * oneMs ≤ s.el →
      Gives (.queueFullTimeout q) s fun t =>
      t = s.laneFail (q.val / 4) dgHEARTBEAT 255) ∧
  (∀ (s : State), s.fld F.QUE_FLUSH_QUEUE = 32 →
      (s.queue 32).wait = [] →
      Gives (.queFlush) s fun t =>
      (t.queue 32).fill = [] ∧ (t.queue 32).drain = [] ∧ (t.queue 32).full = none) ∧
  (∀ (s : State), s.fld F.QUE_FLUSH_QUEUE ≠ 32 →
      Gives (.queFlush) s fun t =>
      t.fld F.QUE_STAT_FLUSH_REF = 1 ∧ t.que = s.que)

/-- Work items: admission, flags, sidings, timeouts and ATOMIC_EN. Where the rules leave a point open it follows
the model's choice of log entries 29, 115, 177. -/
def Obligations.SchedulerEventsComplete : Prop :=
  (∀ (s : State) (flow : Fin 4096) (at_ : Bool) (mask : Word) (all : Bool) (tmo : BitVec 16) (sd : Option (Fin 8 × BitVec 16)), s.lanesRun = true →
      s.sch.items.length < 1024 →
      at_ = false →
      mask ≠ 0 →
      s.windowUsed < s.fld F.SCH_STAT_WINDOW →
      Gives (.workItemAdmit flow at_ mask all tmo sd) s fun t =>
      t.sch.nextId = s.sch.nextId + 1 ∧ ∃ it ∈ t.sch.items, it.id = s.sch.nextId ∧ it.flow = flow.val ∧ it.mask = mask.toNat ∧ it.all = all ∧ it.waiting = true ∧
      it.admitted = true ∧
      it.siding = (sd.bind fun p => if p.2 = 0 then none else some (p.1.val, s.laneNow + p.2.toNat * oneMs)) ∧ it.timeout = (if tmo = 0 then none else some (s.laneNow + tmo.toNat * oneMs))) ∧
  (∀ (s : State) (flow : Fin 4096) (at_ : Bool) (mask : Word) (all : Bool) (tmo : BitVec 16) (sd : Option (Fin 8 × BitVec 16)), s.lanesRun = true →
      s.sch.items.length < 1024 →
      at_ = false →
      s.fld F.SCH_STAT_WINDOW ≤ s.windowUsed →
      Gives (.workItemAdmit flow at_ mask all tmo sd) s fun t =>
      t.sch.nextId = s.sch.nextId + 1 ∧ t.sch.items.length = s.sch.items.length + 1 ∧ t.fld F.SCH_CNT_WIN_FULL = min (s.fld F.SCH_CNT_WIN_FULL + 1) 255) ∧
  (∀ (s : State) (flow : Fin 4096) (at_ : Bool) (mask : Word) (all : Bool) (tmo : BitVec 16) (sd : Option (Fin 8 × BitVec 16)), s.lanesRun = true →
      s.sch.items.length < 1024 →
      at_ = true →
      (s.flag F.SCH_STAT_ATOMIC_ON = false ∨ 256 ≤ flow.val) →
      Gives (.workItemAdmit flow at_ mask all tmo sd) s fun t =>
      t.fld F.SCH_CNT_REJECTED = min (s.fld F.SCH_CNT_REJECTED + 1) 255 ∧ t.sch = s.sch) ∧
  (∀ (s : State) (item : Nat) (fl : Word), s.lanesRun = true →
      Gives (.eventFlagPost item fl) s fun t =>
      ∀ j ∈ t.sch.items, ∃ i ∈ s.sch.items, j = { (if i.id = item then { i with flags := i.flags ||| fl.toNat }.satisfy else i) with admitted := j.admitted }) ∧
  (∀ (s : State), s.lanesRun = true →
      Gives (.sidingDue) s fun t =>
      ∀ j ∈ t.sch.items, ∃ i ∈ s.sch.items, j = { i with admitted := j.admitted, siding := i.siding.filter fun p => decide (s.laneNow < p.2) }) ∧
  (∀ (s : State), s.lanesRun = true →
      Gives (.waitTimeout) s fun t =>
      (∀ j ∈ t.sch.items, ∃ i ∈ s.sch.items, j = { i with admitted := j.admitted, waiting := i.waiting && !(i.timeout.any fun d => decide (d ≤ s.laneNow)), timedOut := i.timedOut || (i.waiting && i.timeout.any fun d => decide (d ≤ s.laneNow)) }) ∧
      t.fld F.SCH_CNT_TIMEOUTS = min (s.fld F.SCH_CNT_TIMEOUTS + (s.sch.items.filter fun i => i.waiting && i.timeout.any fun d => decide (d ≤ s.laneNow)).length) 255) ∧
  (∀ (s : State) (flow : Fin 4096) (at_ : Bool) (mask : Word) (all : Bool) (tmo : BitVec 16) (sd : Option (Fin 8 × BitVec 16)), (s.lanesRun = false ∨ 1024 ≤ s.sch.items.length) →
      Gives (.workItemAdmit flow at_ mask all tmo sd) s fun t =>
      t = s) ∧
  (∀ (s : State), s.lanesRun = true →
      s.flag F.SCH_STAT_ATOMIC_PEND = true →
      s.windowUsed = 0 →
      Gives (.atomicEnEffect) s fun t =>
      t.fld F.SCH_STAT_ATOMIC_ON = s.fld F.SCH_CTL_ATOMIC_EN ∧ t.fld F.SCH_STAT_ATOMIC_PEND = 0 ∧
      t.fld F.SCH_STAT_WINDOW = (if s.fld F.SCH_CTL_ATOMIC_EN = 1 then 256 else 512)) ∧
  (∀ (s : State) (q : Nat), s.lanesRun = true →
      s.flag F.SCH_STAT_ATOMIC_PEND = true →
      s.windowUsed = 0 →
      s.fld F.SCH_CTL_ATOMIC_EN = 0 →
      q = (if s.laneSt 1 = laneStACTIVE then 5 else 1) →
      Gives (.atomicEnEffect) s fun t =>
      t.fld F.SCH_CNT_REJECTED = min (s.fld F.SCH_CNT_REJECTED + ((s.queue q).drain.length + (s.queue q).fill.length + (s.queue q).wait.length)) 255 ∧
      (t.queue 1).fill = [] ∧ (t.queue 1).drain = [] ∧ (t.queue 5).fill = [] ∧ (t.queue 5).drain = []) ∧
  (∀ (s : State), (s.flag F.SCH_STAT_ATOMIC_PEND = false ∨ s.windowUsed ≠ 0 ∨ s.lanesRun = false) →
      Gives (.atomicEnEffect) s fun t =>
      t = s)

/-- The antenna bias, notches, interference conditions and sky restarts: fields and events. Where the rules leave a point open it follows
the model's choice of log entries 11, 43, 184. -/
def Obligations.AntennaAndInterferenceEventsComplete : Prop :=
  (∀ (s : State) (i : Nat), s.biasOn = true →
      s.fld F.SKY_ANT_SENSE ≠ 2 →
      i < 30 →
      Gives (.antennaOpen i) s fun t =>
      t.fld F.SKY_ANT_SENSE = 1 ∧ t.fld F.SKY_ANT_CURRENT = i ∧ (s.fld F.SKY_ANT_SENSE ≠ 1 → bit t.pend Ev.skyAnt = true)) ∧
  (∀ (s : State) (i : Nat), s.biasOn = true →
      s.fld F.SKY_ANT_SENSE ≠ 2 →
      1000 ≤ i →
      Gives (.antennaShort i) s fun t =>
      t.fld F.SKY_ANT_SENSE = 2 ∧ t.fld F.SKY_ANT_CURRENT = min i 65535 ∧ t.sky.biasRetry = s.el ∧ bit t.pend Ev.skyAnt = true) ∧
  (∀ (s : State) (i : Nat), s.biasOn = true →
      s.fld F.SKY_ANT_SENSE = 2 →
      s.sky.biasRetry + oneSec ≤ s.el →
      Gives (.antennaBiasRetry i) s fun t =>
      t.fld F.SKY_ANT_SENSE = (if i < 30 then 1 else if 1000 ≤ i then 2 else 0) ∧ t.fld F.SKY_ANT_CURRENT = min i 65535 ∧
      (1000 ≤ i → t.sky.biasRetry = s.el)) ∧
  (∀ (s : State) (i : Nat), s.biasOn = true →
      s.fld F.SKY_ANT_SENSE ≠ 2 →
      30 ≤ i →
      i < 1000 →
      Gives (.antennaNormal i) s fun t =>
      t.fld F.SKY_ANT_SENSE = 0 ∧ t.fld F.SKY_ANT_CURRENT = i) ∧
  (∀ (s : State) (b : Fin 2) (n : Fin 4) (lv : Nat) (f : Int), bit (s.fld F.SKY_ITF_NOTCH_EN) n.val = true →
      s.skyRuns = true →
      s.fld F.SKY_ITF_NOTCH_THR < lv →
      f.natAbs ≤ 40920000 →
      bit (s.fld (fNotch b.val)) n.val = false →
      Gives (.notchEngage b n lv f) s fun t =>
      t.fld (fNotch b.val) = withBit (s.fld (fNotch b.val)) n.val true ∧ Tbl.get 0 t.sky.notchFreq (4 * b.val + n.val) = f ∧ bit t.pend Ev.skyItf = true) ∧
  (∀ (s : State) (b : Fin 2) (n : Fin 4) (lv : Nat) (f : Int), bit (s.fld F.SKY_ITF_NOTCH_EN) n.val = true →
      s.skyRuns = true →
      s.fld F.SKY_ITF_NOTCH_THR < lv →
      f.natAbs ≤ 40920000 →
      bit (s.fld (fNotch b.val)) n.val = true →
      Gives (.notchEngage b n lv f) s fun t =>
      t.regs = s.regs ∧ Tbl.get 0 t.sky.notchFreq (4 * b.val + n.val) = f ∧ Tbl.get none t.sky.notchLow (4 * b.val + n.val) = none) ∧
  (∀ (s : State) (b : Fin 2) (n : Fin 4) (lv : Nat) (f : Int), (bit (s.fld F.SKY_ITF_NOTCH_EN) n.val = false ∨ s.skyRuns = false ∨ lv ≤ s.fld F.SKY_ITF_NOTCH_THR ∨ 40920000 < f.natAbs) →
      Gives (.notchEngage b n lv f) s fun t =>
      t = s) ∧
  (∀ (s : State) (b : Fin 2) (n : Fin 4) (lv : Nat), bit (s.fld (fNotch b.val)) n.val = true →
      s.fld F.SKY_ITF_NOTCH_THR ≤ lv + 3 →
      Gives (.notchRelease b n lv) s fun t =>
      t.regs = s.regs ∧ Tbl.get none t.sky.notchLow (4 * b.val + n.val) = none) ∧
  (∀ (s : State) (b : Fin 2) (n : Fin 4) (lv : Nat), bit (s.fld (fNotch b.val)) n.val = true →
      lv + 3 < s.fld F.SKY_ITF_NOTCH_THR →
      Tbl.get none s.sky.notchLow (4 * b.val + n.val) = none →
      Gives (.notchRelease b n lv) s fun t =>
      t.regs = s.regs ∧ Tbl.get none t.sky.notchLow (4 * b.val + n.val) = some s.el) ∧
  (∀ (s : State) (b : Fin 2) (n : Fin 4) (lv : Nat) (since : Nat), bit (s.fld (fNotch b.val)) n.val = true →
      lv + 3 < s.fld F.SKY_ITF_NOTCH_THR →
      Tbl.get none s.sky.notchLow (4 * b.val + n.val) = some since →
      since + oneSec ≤ s.el →
      Gives (.notchRelease b n lv) s fun t =>
      bit (t.fld (fNotch b.val)) n.val = false ∧ ∀ k ∈ List.range 4, k ≠ n.val → bit (t.fld (fNotch b.val)) k = bit (s.fld (fNotch b.val)) k) ∧
  (∀ (s : State) (b : Fin 2) (n : Fin 4) (lv : Nat) (since : Nat), bit (s.fld (fNotch b.val)) n.val = true →
      lv + 3 < s.fld F.SKY_ITF_NOTCH_THR →
      Tbl.get none s.sky.notchLow (4 * b.val + n.val) = some since →
      s.el < since + oneSec →
      Gives (.notchRelease b n lv) s fun t =>
      t = s) ∧
  (∀ (s : State) (b : Fin 2) (n : Fin 4) (lv : Nat), bit (s.fld (fNotch b.val)) n.val = false →
      Gives (.notchRelease b n lv) s fun t =>
      t = s) ∧
  (∀ (s : State) (b : Fin 2) (l : List (Int × Int)) (n : Nat) (g : Nat), s.skyRuns = true →
      l ≠ [] →
      n = (blanked (s.fld F.SKY_ITF_BLANK_THR) (orOne (s.fld F.SKY_ITF_BLANK_EXT)) 0 l).2 →
      g = (clampI 0 255 ((s.fld (fGain b.val) : Int) + agcSteps (s.fld F.SKY_ITF_AGC_TGT) l)).toNat →
      Gives (.interferenceCondition b l) s fun t =>
      t.fld (fBlank b.val) = min 15 (20 * n / l.length) ∧ t.fld (fGain b.val) = g ∧ bit t.sky.itf (2 * b.val) = decide (20 * l.length < 100 * n) ∧
      bit t.sky.itf (2 * b.val + 1) = ((Tbl.get [] s.sky.gains b.val).any fun x => decide (s.el < x.1 + oneSec) && decide (12 < g - x.2 ∨ 12 < x.2 - g)) ∧
      ((20 * l.length < 100 * n ∧ bit s.sky.itf (2 * b.val) = false) → bit t.pend Ev.skyItf = true)) ∧
  (∀ (s : State), Gives (.skyColdRestart) s fun t =>
      t.sky.eph = [] ∧ t.sky.nav = [] ∧ t.sky.almanacs = [] ∧ t.sky.dopplers = [] ∧ t.fld F.SKY_STAT_STATE = 1 ∧ t.fld F.SKY_STAT_TRACK = 0 ∧
      ∀ k ∈ List.range 128, t.chan k = {}) ∧
  (∀ (s : State), Gives (.skyHotRestart) s fun t =>
      t.fld F.SKY_STAT_STATE = 3 ∧ t.fld F.SKY_STAT_TRACK = 0 ∧ (∀ p ∈ t.sky.trk, p.2.state ≤ 1 ∧ p.2.grade = 0 ∧ p.2.checks = 0) ∧ t.sky.eph = s.sky.eph ∧ t.sky.chans = s.sky.chans)

/-- Acquisition, handover, loops, side peaks and losses of lock: what each leaves in channel and tracker. Where the rules leave a point open it follows
the model's choice of log entries 11, 40, 158, 183, 185. -/
def Obligations.ChannelAndTrackerEventsComplete : Prop :=
  (∀ (s : State) (ch : Fin 128) (a : AcqIn), s.skyRuns = true →
      bit (s.fld F.SKY_CTL_SYS_EN) a.system.val = true →
      (s.chan ch.val).busy = false →
      (s.sky.chans.any (fun p => p.2.busy && p.2.sat == satKey a.system.val a.svid.toNat) = false) →
      s.getsChannel (satKey a.system.val a.svid.toNat) = true →
      confirmed a = true →
      s.inSearch a (satKey a.system.val a.svid.toNat) = true →
      Gives (.satelliteAcquired ch a) s fun t =>
      t.chan ch.val = { busy := true, system := a.system.val, svid := a.svid.toNat, elev := ((s.predicted (s.orbit (satKey a.system.val a.svid.toNat)) s.now).map (·.elev)).getD 0, azim := ((s.predicted (s.orbit (satKey a.system.val a.svid.toNat)) s.now).map (·.azim)).getD 0 } ∧
      t.tracker ch.val 0 = { signal := l1Signal a.system.val, state := 2, tMs := codePeriod (l1Signal a.system.val), fll := true, doppler := a.doppler, vel := a.doppler * 2 ^ 20, code := (a.code : Int) * 2 ^ 38, ncoAt := s.el, codeRate := a.doppler * 256 / (carrierOf (l1Signal a.system.val) / codeRateOf (l1Signal a.system.val) : Nat), cslip := (s.tracker ch.val 0).cslip } ∧
      (s.sky.lockedOut.contains (satKey a.system.val a.svid.toNat) = true → t.chanGrade ch.val = 3 ∧ bit t.pend Ev.skyGrade = true)) ∧
  (∀ (s : State) (ch : Fin 128) (a : AcqIn), s.skyRuns = true →
      bit (s.fld F.SKY_CTL_SYS_EN) a.system.val = true →
      (s.chan ch.val).busy = true →
      (s.chan ch.val).sat = satKey a.system.val a.svid.toNat →
      (s.tracker ch.val 0).state ≤ 1 →
      confirmed a = true →
      s.inSearch a (satKey a.system.val a.svid.toNat) = true →
      Gives (.satelliteAcquired ch a) s fun t =>
      t.chan ch.val = s.chan ch.val ∧
      t.tracker ch.val 0 = { signal := l1Signal a.system.val, state := 2, tMs := codePeriod (l1Signal a.system.val), fll := true, doppler := a.doppler, vel := a.doppler * 2 ^ 20, code := (a.code : Int) * 2 ^ 38, ncoAt := s.el, codeRate := a.doppler * 256 / (carrierOf (l1Signal a.system.val) / codeRateOf (l1Signal a.system.val) : Nat), cslip := (s.tracker ch.val 0).cslip }) ∧
  (∀ (s : State) (ch : Fin 128) (o : Int) (pw : Nat), s.skyRuns = true →
      s.flag F.SKY_CTL_L5_EN = true →
      (s.chan ch.val).busy = true →
      3 ≤ (s.tracker ch.val 0).state →
      (s.tracker ch.val 1).state ≤ 1 →
      o.natAbs ≤ 3 * 1024 →
      Config.detectThreshold < pw →
      Gives (.l5Handover ch o pw) s fun t =>
      t.tracker ch.val 1 = { signal := l1Signal (s.chan ch.val).system + 1, state := 2, tMs := codePeriod (l1Signal (s.chan ch.val).system + 1), fll := true, doppler := ((s.tracker ch.val 0).doppler * 115 / 154), vel := ((s.tracker ch.val 0).doppler * 115 / 154) * 2 ^ 20, code := 10 * (s.tracker ch.val 0).codeAt s.el + o * 2 ^ 38, ncoAt := s.el, codeRate := ((s.tracker ch.val 0).doppler * 115 / 154) * 256 / (carrierOf (l1Signal (s.chan ch.val).system + 1) / codeRateOf (l1Signal (s.chan ch.val).system + 1) : Nat), cslip := (s.tracker ch.val 1).cslip, timed := (s.tracker ch.val 0).timed } ∧
      t.tracker ch.val 0 = s.tracker ch.val 0) ∧
  (∀ (s : State) (ch : Fin 128), (s.chan ch.val).busy = true →
      ((s.chan ch.val).setAt.any (fun t0 => s.passed t0 (30 * oneSec)) = true ∨ bit (s.fld F.SKY_CTL_SYS_EN) (s.chan ch.val).system = false) →
      Gives (.channelRelease ch) s fun t =>
      t.chan ch.val = {} ∧ t.tracker ch.val 0 = {} ∧ t.tracker ch.val 1 = {}) ∧
  (∀ (s : State) (ch : Fin 128) (b : Fin 2) (i : LoopIn) (df : Rat), 2 ≤ (s.tracker ch.val b.val).state →
      s.skyRuns = true →
      (df = (if (s.tracker ch.val b.val).fll then ((s.tracker ch.val b.val).integ.head?.map fun x => fllError (x.i, x.q) (tapOf i 0) (((s.tracker ch.val b.val).tMs : Rat) / 1000)).getD 0 else 0)) →
      Gives (.loopUpdate ch b i) s fun t =>
      (t.tracker ch.val b.val).integ = ⟨s.el, (tapOf i 0).1, (tapOf i 0).2, magOf i (-(s.veryEarly (s.tracker ch.val b.val).signal)), magOf i (s.veryEarly (s.tracker ch.val b.val).signal), magOf i 0⟩ :: (s.tracker ch.val b.val).integ.filter (fun x => s.el < x.at_ + oneSec) ∧
      (t.tracker ch.val b.val).cn0 = cn0Of (codePeriod (s.tracker ch.val b.val).signal) ((i.prompts ++ (s.tracker ch.val b.val).prompts).take (1000 / codePeriod (s.tracker ch.val b.val).signal)) ∧ (t.tracker ch.val b.val).dllBw = s.dllBand (t.tracker ch.val b.val).cn0 ∧ (t.tracker ch.val b.val).tMs = (if i.synced then 20 else (s.tracker ch.val b.val).tMs) ∧
      (t.tracker ch.val b.val).doppler = ((loopFilter (((s.tracker ch.val b.val).vel : Rat) / 2 ^ 32) (((s.tracker ch.val b.val).acc : Rat) / 2 ^ 32) (((s.tracker ch.val b.val).pllBw : Rat) / 1000) ((s.fld F.SKY_LOOP_FLL_B : Rat) / 10) (((s.tracker ch.val b.val).tMs : Rat) / 1000) (pllError (s.tracker ch.val b.val).signal (tapOf i 0)) df).2.2.1 * 4096).floor ∧
      (t.tracker ch.val b.val).codeRate = (((t.tracker ch.val b.val).doppler : Rat) * 256 * (codeRateOf (s.tracker ch.val b.val).signal : Rat) / (carrierOf (s.tracker ch.val b.val).signal : Rat)).floor + (4 * (((t.tracker ch.val b.val).dllBw : Rat) / 1000) * s.dllError (s.tracker ch.val b.val).signal i * 2 ^ 20).floor ∧
      (t.tracker ch.val b.val).code = (s.tracker ch.val b.val).codeAt s.el ∧ (t.tracker ch.val b.val).carrier = (s.tracker ch.val b.val).carrierAt s.el ∧ (t.tracker ch.val b.val).ncoAt = s.el ∧
      (t.tracker ch.val b.val).state = (if (s.fld F.SKY_LOOP_LOCK_THR : Rat) / 255 ≤ lockIndicator s.el (t.tracker ch.val b.val).integ then 4 else if (s.tracker ch.val b.val).state = 4 then 3 else max 3 (s.tracker ch.val b.val).state) ∧
      (t.tracker ch.val b.val).cslip = (if (s.tracker ch.val b.val).state = 4 ∧ ¬ (s.fld F.SKY_LOOP_LOCK_THR : Rat) / 255 ≤ lockIndicator s.el (t.tracker ch.val b.val).integ then ((s.tracker ch.val b.val).cslip + 1) % 256 else (s.tracker ch.val b.val).cslip)) ∧
  (∀ (s : State) (ch : Fin 128) (b : Fin 2) (i : LoopIn), ((s.tracker ch.val b.val).state < 2 ∨ s.skyRuns = false) →
      Gives (.loopUpdate ch b i) s fun t =>
      t = s) ∧
  (∀ (s : State) (ch : Fin 128) (b : Fin 2) (j : Nat) (best : Nat) (lo : Nat) (hi : Nat), 2 ≤ (s.tracker ch.val b.val).state →
      s.skyRuns = true →
      hi = 100 * s.fld F.SKY_LOOP_PLL_BMAX →
      lo = min (100 * s.fld F.SKY_LOOP_PLL_BMIN) hi →
      j = (((s.tracker ch.val b.val).jerk : Int) + (((s.tracker ch.val b.val).jerkRaw : Int) - (s.tracker ch.val b.val).jerk) * 48771 / 1000000).toNat →
      best = clampN lo hi (pllBest (s.tracker ch.val b.val).cn0 (s.tracker ch.val b.val).tMs (max j (1000 * s.fld F.SKY_DLL_JFLOOR))) →
      Gives (.pllBandwidthUpdate ch b) s fun t =>
      (t.tracker ch.val b.val).jerk = j ∧ (t.tracker ch.val b.val).pllBw = (if (s.tracker ch.val b.val).pllBw = 0 then best else clampN ((s.tracker ch.val b.val).pllBw * 4 / 5) ((s.tracker ch.val b.val).pllBw * 5 / 4) best) ∧
      (t.tracker ch.val b.val).lockTime = (if (s.tracker ch.val b.val).state = 4 then min 65535 ((s.tracker ch.val b.val).lockTime + 1) else (s.tracker ch.val b.val).lockTime) ∧ (t.tracker ch.val b.val).state = (s.tracker ch.val b.val).state) ∧
  (∀ (s : State) (ch : Fin 128) (b : Fin 2) (ve : Nat) (vl : Nat) (p : Nat), 2 ≤ (s.tracker ch.val b.val).state →
      s.skyRuns = true →
      isBoc (s.tracker ch.val b.val).signal = true →
      (s.tracker ch.val b.val).sums s.el (200 * oneMs) = (ve, vl, p) →
      p < max ve vl →
      (s.tracker ch.val b.val).peakAt + 200 * oneMs ≤ s.el →
      Gives (.sidePeakCorrection ch b) s fun t =>
      (t.tracker ch.val b.val).code = (s.tracker ch.val b.val).code + (if vl ≤ ve then -(2 ^ 47) else 2 ^ 47) ∧ (t.tracker ch.val b.val).cslip = ((s.tracker ch.val b.val).cslip + 1) % 256 ∧ (t.tracker ch.val b.val).peakAt = s.el) ∧
  (∀ (s : State) (ch : Fin 128) (b : Fin 2) (ve : Nat) (vl : Nat) (p : Nat), 2 ≤ (s.tracker ch.val b.val).state →
      s.skyRuns = true →
      isBoc (s.tracker ch.val b.val).signal = true →
      (s.tracker ch.val b.val).sums s.el (200 * oneMs) = (ve, vl, p) →
      (max ve vl ≤ p ∨ s.el < (s.tracker ch.val b.val).peakAt + 200 * oneMs) →
      Gives (.sidePeakCorrection ch b) s fun t =>
      t = s) ∧
  (∀ (s : State) (ch : Fin 128) (b : Fin 2) (ve : Nat) (vl : Nat) (p : Nat), 2 ≤ (s.tracker ch.val b.val).state →
      s.skyRuns = true →
      isBoc (s.tracker ch.val b.val).signal = false →
      (s.tracker ch.val b.val).sums s.el (oneSec) = (ve, vl, p) →
      Gives (.sidePeakCorrection ch b) s fun t =>
      (t.tracker ch.val b.val).mp = decide (p < 10 * (ve - vl)) ∧ (t.tracker ch.val b.val).cslip = (s.tracker ch.val b.val).cslip ∧ (t.tracker ch.val b.val).code = (s.tracker ch.val b.val).code) ∧
  (∀ (s : State) (ch : Fin 128) (b : Fin 2), (s.tracker ch.val b.val).state = 4 →
      Gives (.carrierLockLoss ch b) s fun t =>
      (t.tracker ch.val b.val).state = 3 ∧ (t.tracker ch.val b.val).cslip = ((s.tracker ch.val b.val).cslip + 1) % 256 ∧ (t.tracker ch.val b.val).lockTime = 0 ∧ (t.tracker ch.val b.val).halfCycle = false) ∧
  (∀ (s : State) (ch : Fin 128) (b : Fin 2), 3 ≤ (s.tracker ch.val b.val).state →
      Gives (.codeLockLoss ch b) s fun t =>
      (t.tracker ch.val b.val).state = 1 ∧ (t.tracker ch.val b.val).checks = 0 ∧ (t.tracker ch.val b.val).passed = 0 ∧ (t.tracker ch.val b.val).grade = 0 ∧ (t.tracker ch.val b.val).fails = 0 ∧ (t.tracker ch.val b.val).lockTime = 0 ∧ (t.tracker ch.val b.val).tMs = codePeriod (s.tracker ch.val b.val).signal ∧ (t.tracker ch.val b.val).cslip = ((s.tracker ch.val b.val).cslip + 1) % 256 ∧
      (t.tracker ch.val (1 - b.val)).state = (s.tracker ch.val (1 - b.val)).state ∧ (t.tracker ch.val (1 - b.val)).checks = 0 ∧ (t.tracker ch.val (1 - b.val)).passed = 0 ∧ (t.tracker ch.val (1 - b.val)).grade = 0 ∧ (t.tracker ch.val (1 - b.val)).fails = 0 ∧ t.sky.lockedOut = s.sky.lockedOut ∧ (t.chan ch.val).l15 = [])

/-- Measurement epochs, navigation records, rate changes and the SKY commands. Where the rules leave a point open it follows
the model's choice of log entries 11, 38, 39, 41, 42, 159 to 162. -/
def Obligations.EpochsNavigationAndSkyCommandsComplete : Prop :=
  (∀ (s : State) (bias : Option Int) (dr : Int), s.skyRuns = true →
      s.serving = true →
      s.sky.lastEpoch < s.epochInstant →
      Gives (.measurementEpoch bias dr) s fun t =>
      t.sky.lastEpoch = s.epochInstant ∧ t.sky.epochNo = (s.sky.epochNo + 1) % 65536 ∧ t.fld F.SKY_MEAS_WR_EPOCH_NO = s.sky.epochNo % 65536 ∧
      t.fld F.SKY_MEAS_WR_SLOT = s.sky.epochNo % 64 ∧ t.sky.basePend = none ∧ t.sky.base = (s.sky.basePend <|> s.sky.base) ∧
      t.time.inputSeq = (s.time.inputSeq + 1) % 2 ^ 32 ∧ t.time.stamp = s.now ∧ bit t.pend Ev.skyEpoch = true ∧
      (t.rtk.bases.map (·.epoch)).head? = some ((s.epochInstant - gpsEpoch) / oneMs) ∧ (t.rtk.bases.map (·.bias)).head? = some (bias.getD 0)) ∧
  (∀ (s : State) (ch : Fin 128) (b : Fin 2) (i : NavIn) (ty : Nat), navType (s.tracker ch.val b.val).signal = some ty →
      3 ≤ (s.tracker ch.val b.val).state →
      s.skyRuns = true →
      0 < i.bits.length →
      i.bits.length ≤ 880 →
      Gives (.navRecord ch b i) s fun t =>
      t.fld F.SKY_NAV_WR_COUNT = (s.fld F.SKY_NAV_WR_COUNT + 1) % 2 ^ 20 ∧ t.fld F.SKY_NAV_WR_SLOT = s.fld F.SKY_NAV_WR_COUNT % 4096 ∧ bit t.pend Ev.skyNav = true ∧
      ((navCheck ty i).2.1 ≠ 0 → t.sky.eph = s.sky.eph ∧ t.sky.almanacs = s.sky.almanacs ∧ t.sky.nav = s.sky.nav)) ∧
  (∀ (s : State) (ch : Fin 128) (b : Fin 2) (i : NavIn) (ty : Nat) (old : Ephemeris) (held : List (List Byte)), navType (s.tracker ch.val b.val).signal = some ty →
      3 ≤ (s.tracker ch.val b.val).state →
      s.skyRuns = true →
      0 < i.bits.length →
      i.bits.length ≤ 880 →
      (navCheck ty i).2.1 = 0 →
      old = Tbl.get ({} : Ephemeris) s.sky.eph (8 * (s.chan ch.val).sat + ty) →
      held = (packBits (navCheck ty i).1 :: Tbl.get [] s.sky.nav (8 * (s.chan ch.val).sat + ty)).take 125 →
      Gives (.navRecord ch b i) s fun t =>
      Tbl.get [] t.sky.nav (8 * (s.chan ch.val).sat + ty) = (if (Config.navEphemeris ty held).isSome then [] else held) ∧
      ∀ e, Config.navEphemeris ty held = some e → old.inUse = [] ∨ old.candidate = e ∨ distance (Config.satPosition e (gps s.now)) (Config.satPosition old.inUse (gps s.now)) ≤ 100000 →
        (Tbl.get ({} : Ephemeris) t.sky.eph (8 * (s.chan ch.val).sat + ty)).inUse = e) ∧
  (∀ (s : State) (sys : Nat) (rate : Nat) (at_ : Nat), s.sky.cfgPend = some (sys, rate, at_) →
      at_ * oneSec ≤ s.now →
      Gives (.epochRateChange) s fun t =>
      t.fld F.SKY_CTL_SYS_EN = sys % 32 ∧ t.fld F.SKY_CTL_L5_EN = sys / 32 % 2 ∧ t.fld F.SKY_CTL_EPOCH_RATE = rate % 16 ∧ t.sky.cfgPend = none ∧
      ∀ k ∈ List.range 128, (t.chan k).busy = true → bit sys (t.chan k).system = true) ∧
  (∀ (s : State) (c : Cmd), s.takes c opSkyConfig = true →
      c.payload.length = 4 →
      rdN c.payload 1 1 ≤ 7 →
      periodsAgree (epochPeriod (rdN c.payload 1 1)) (superframeNs (s.slotsAt ((s.now / oneSec + 1) * oneSec))) = true →
      ((s.rad.pend.map (·.n)).all (fun n => periodsAgree (epochPeriod (rdN c.payload 1 1)) (superframeNs n)) = true) →
      Gives (.skyConfig c) s fun t =>
      t.ok c [] ∧ t.sky.cfgPend = some (rdN c.payload 0 1 % 64, rdN c.payload 1 1, s.now / oneSec + 1)) ∧
  (∀ (s : State) (c : Cmd), s.takes c opSkySetBasePosition = true →
      c.payload.length = 28 →
      ecefInRange (rdI c.payload 0 8) (rdI c.payload 8 8) (rdI c.payload 16 8) = true →
      Gives (.skySetBasePosition c) s fun t =>
      t.ok c [] ∧ t.sky.basePend = some ⟨rdI c.payload 0 8, rdI c.payload 8 8, rdI c.payload 16 8, rdN c.payload 24 2⟩ ∧ t.sky.base = s.sky.base) ∧
  (∀ (s : State) (c : Cmd), s.takes c opSkyExclude = true →
      c.payload.length = 4 →
      rdN c.payload 0 1 ≤ 4 →
      rdN c.payload 2 1 = 1 →
      Gives (.skyExclude c) s fun t =>
      t.ok c [] ∧ t.sky.excluded.contains (satKey (rdN c.payload 0 1) (rdN c.payload 1 1)) = true) ∧
  (∀ (s : State) (c : Cmd), s.takes c opSkyExclude = true →
      c.payload.length = 4 →
      rdN c.payload 0 1 ≤ 4 →
      rdN c.payload 2 1 = 0 →
      Gives (.skyExclude c) s fun t =>
      t.ok c [] ∧ t.sky.excluded.contains (satKey (rdN c.payload 0 1) (rdN c.payload 1 1)) = false ∧
      t.sky.lockedOut.contains (satKey (rdN c.payload 0 1) (rdN c.payload 1 1)) = false) ∧
  (∀ (s : State) (c : Cmd), s.takes c opSkyGetChannels = true →
      c.payload.length = 2 →
      0 < rdN c.payload 1 1 →
      rdN c.payload 1 1 ≤ 32 →
      rdN c.payload 0 1 + rdN c.payload 1 1 ≤ 128 →
      Gives (.skyGetChannels c) s fun t =>
      t.ok c ((List.range (rdN c.payload 1 1)).map fun i => s.chanEntry (rdN c.payload 0 1 + i)).flatten ∧ t.sky = s.sky) ∧
  (∀ (s : State) (c : Cmd), s.takes c opSkyRtcmConfig = true →
      c.payload.length = 12 →
      1 ≤ rdN c.payload 6 1 →
      rdN c.payload 6 1 ≤ 50 →
      rdN c.payload 8 2 ≤ 4095 →
      1 ≤ rdN c.payload 10 1 →
      1 ≤ rdN c.payload 11 1 →
      Gives (.skyRtcmConfig c) s fun t =>
      t.ok c [] ∧ t.sky.rtcm = ⟨rdN c.payload 0 4, rdN c.payload 4 2, rdN c.payload 6 1, rdN c.payload 7 1 % 16, rdN c.payload 8 2, rdN c.payload 10 1, rdN c.payload 11 1⟩)

/-- Ticks, whole seconds, sources, discipline and time states: counter, rate and state. Where the rules leave a point open it follows
the model's choice of log entries 8, 9, 44, 48, 163, 164. -/
def Obligations.TimeSourcesAndDisciplineComplete : Prop :=
  (∀ (s : State), s.timeRuns = true →
      s.laneClock = true →
      s.lan.gap = [] →
      s.svb.posts = [] →
      Gives (.laneTick) s fun t =>
      t.time.ext = (s.time.ext + s.cyclesToTick * s.timeInc) % 2 ^ 96 ∧ t.time.elapsed = s.time.elapsed + s.cyclesToTick * s.timeInc ∧
      t.time.ticks = s.time.ticks + 1 ∧ t.time.inputSeq = (s.time.inputSeq + 1) % 2 ^ 32 ∧ t.time.stamp = t.now ∧ t.time.stampEl = t.el) ∧
  (∀ (s : State), s.timeRuns = true →
      s.laneClock = false →
      s.svb.posts = [] →
      Gives (.laneTick) s fun t =>
      t.time.ext = (s.time.ext + s.cyclesToTick * s.timeInc) % 2 ^ 96 ∧ t.time.elapsed = s.time.elapsed + s.cyclesToTick * s.timeInc ∧
      t.time.ticks = s.time.ticks ∧ t.time.inputSeq = s.time.inputSeq ∧ t.time.stamp = s.time.stamp) ∧
  (∀ (s : State), s.timeRuns = false →
      s.svb.posts = [] →
      Gives (.laneTick) s fun t =>
      t = s) ∧
  (∀ (s : State), s.time.lastSecond < s.now / oneSec →
      Gives (.wholeSecond) s fun t =>
      t.time.lastSecond = s.now / oneSec ∧ t.vbat.secs = (if s.timState = tsLOCKED then some (s.now / oneSec) else s.vbat.secs) ∧ t.vbat.frac = (if s.timState = tsLOCKED then 0 else s.vbat.frac) ∧
      t.regs = s.regs) ∧
  (∀ (s : State), s.now / oneSec ≤ s.time.lastSecond →
      Gives (.wholeSecond) s fun t =>
      t = s) ∧
  (∀ (s : State) (k : Fin 2) (yf : Int) (v : Nat), (s.source (k.val + 1)).validSince = some v →
      (s.source (k.val + 1)).qualified = false →
      v + orOne (s.fld F.TIM_LOCK_QUAL) * oneSec ≤ s.el →
      s.el ≤ (s.source (k.val + 1)).lastValid + oneSec →
      Gives (.sourceQualify k yf) s fun t =>
      (t.source (k.val + 1)).qualified = true ∧ (t.bestSource = k.val + 1 → t.time.yf = yf ∧ t.time.yfSince = s.el) ∧ (t.bestSource ≠ k.val + 1 → t.time.yf = s.time.yf) ∧ t.fld F.TIM_STAT_SOURCE = t.bestSource ∧
      t.fld F.TIM_STAT_QUAL = b2n (t.bestSource != 0) ∧ (t.bestSource ≠ 0 → t.timState ≠ tsHOLDOVER ∧ t.timState ≠ tsEXPIRED)) ∧
  (∀ (s : State) (k : Fin 2), (s.source (k.val + 1)).qualified = true →
      (s.source (k.val + 1)).lastValid + oneSec ≤ s.el →
      Gives (.sourceLost k) s fun t =>
      (t.source (k.val + 1)).qualified = false ∧ t.fld F.TIM_STAT_SOURCE = t.bestSource ∧
      (t.bestSource = 0 → (s.timState = tsLOCKING ∨ s.timState = tsLOCKED) → t.timState = tsHOLDOVER ∧ t.time.holdSince = some s.el ∧ bit t.pend Ev.timState = true)) ∧
  (∀ (s : State), s.flag F.TIM_STAT_STEPPED = true →
      s.flag F.TIM_CTL_DISC_EN = true →
      s.pwr.refLostAt = none →
      s.time.lastDisc + oneSec ≤ s.el →
      s.fld F.TIM_STAT_SOURCE = 0 →
      Gives (.disciplineUpdate) s fun t =>
      t.time.y = clampI (-(10 ^ 8)) (10 ^ 8) s.time.yf ∧ t.time.lastDisc = s.el ∧ (t.timeInc : Int) = (4 * 2 ^ 32 : Int) * (10 ^ 12 + t.time.y) / 10 ^ 12) ∧
  (∀ (s : State) (y : Int) (slew : Int), s.flag F.TIM_STAT_STEPPED = true →
      s.flag F.TIM_CTL_DISC_EN = true →
      s.pwr.refLostAt = none →
      s.time.lastDisc + oneSec ≤ s.el →
      s.fld F.TIM_STAT_SOURCE ≠ 0 →
      slew = ((orOne (s.fld F.TIM_LOOP_SLEW) * 1000 : Nat) : Int) →
      y = s.time.yf + clampI (-slew) slew (-s.theta / ((orOne (s.fld F.TIM_LOOP_TAU) : Nat) : Int)) →
      y.natAbs ≤ 10 ^ 8 →
      Gives (.disciplineUpdate) s fun t =>
      t.time.y = y ∧ t.time.lastDisc = s.el ∧ (t.timeInc : Int) = (4 * 2 ^ 32 : Int) * (10 ^ 12 + y) / 10 ^ 12) ∧
  (∀ (s : State), s.flag F.TIM_STAT_STEPPED = true →
      s.flag F.TIM_CTL_DISC_EN = true →
      s.pwr.refLostAt = none →
      s.time.lastDisc + oneSec ≤ s.el →
      s.fld F.TIM_STAT_SOURCE ≠ 0 →
      10 ^ 8 < (s.time.yf + clampI (-((orOne (s.fld F.TIM_LOOP_SLEW) * 1000 : Nat) : Int)) ((orOne (s.fld F.TIM_LOOP_SLEW) * 1000 : Nat) : Int) (-s.theta / ((orOne (s.fld F.TIM_LOOP_TAU) : Nat) : Int))).natAbs →
      Gives (.disciplineUpdate) s fun t =>
      t.time.y.natAbs = 10 ^ 8 ∧ bit t.pend Ev.timOffset = true ∧ (t.source (s.fld F.TIM_STAT_SOURCE)).validSince = none) ∧
  (∀ (s : State) (yf : Int), s.fld F.TIM_STAT_SOURCE ≠ 0 →
      s.time.yfSince + 60 * oneSec ≤ s.el →
      Gives (.yfReplace yf) s fun t =>
      t.time.yf = yf ∧ t.time.yfSince = s.el ∧ t.regs = s.regs) ∧
  (∀ (s : State) (v : Nat), s.time.lockSince = some v →
      s.timState = tsLOCKING →
      v + s.fld F.TIM_LOCK_LOCK_HOLD * oneSec ≤ s.el →
      Gives (.timeLockHold) s fun t =>
      t.timState = tsLOCKED ∧ t.time.expired = false ∧ bit t.pend Ev.timState = true ∧ t.fld F.ETH_PTP_STAT_CLASS = 6) ∧
  (∀ (s : State) (h : Nat), s.time.holdSince = some h →
      s.timState = tsHOLDOVER →
      h + clampN 60 604800 (s.fld F.TIM_HOLD_LIMIT) * oneSec ≤ s.el →
      Gives (.holdoverExpire) s fun t =>
      t.timState = tsEXPIRED ∧ t.time.expired = true ∧ bit t.pend Ev.timState = true ∧ t.fld F.ETH_PTP_STAT_CLASS = 248) ∧
  (∀ (s : State), Gives (.timNowLoRead) s fun t =>
      t = s.setReg R.TIM_NOW_HI (BitVec.ofNat 32 (s.now / 2 ^ 32)))

/-- Steps, leap seconds, pulses, TIME_IN and the TIME commands: counter, registers, replies. Where the rules leave a point open it follows
the model's choice of log entries 9, 45 to 47, 157, 165. -/
def Obligations.TimeStepsPulsesAndStampsComplete : Prop :=
  (∀ (s : State) (m : Nat) (th : Int), s.time.stepAfter = some m →
      m < s.now / oneMs →
      s.flag F.TIM_CTL_DISC_EN = true →
      s.bestSource ≠ 0 →
      s.flag F.TIM_STAT_STEPPED = false →
      th = (s.source s.bestSource).theta →
      Gives (.firstTimeStep) s fun t =>
      t.time.ext = (((s.time.ext : Int) + -th * 2 ^ 32 / 1000) % ((2 ^ 96 : Nat) : Int)).toNat ∧ t.fld F.TIM_STAT_STEPS = (s.fld F.TIM_STAT_STEPS + 1) % 256 ∧
      t.fld F.TIM_STAT_STEPPED = 1 ∧ t.fld F.TIM_STAT_COARSE = 0 ∧ t.timState = tsLOCKING ∧ t.time.stepAfter = none ∧
      t.time.inputSeq = (s.time.inputSeq + 1) % 2 ^ 32 ∧ bit t.pend Ev.timStep = true) ∧
  (∀ (s : State) (sid : Nat) (seq : Nat) (m : Nat) (th : Int) (e : Outst), s.time.restep = [(sid, seq, m)] →
      m < s.now / oneMs →
      s.bestSource ≠ 0 →
      th = s.theta →
      e ∈ (s.sess sid).outst →
      e.seq = seq →
      e.reply = none →
      ((s.sess sid).cache.any (fun x => x.seq == seq) = true) →
      s.svb.posts = [] →
      Gives (.restepApply) s fun t =>
      t.time.restep = [] ∧ t.time.ext = (((s.time.ext : Int) + -th * 2 ^ 32 / 1000) % ((2 ^ 96 : Nat) : Int)).toNat ∧ t.fld F.TIM_STAT_STEPS = (s.fld F.TIM_STAT_STEPS + 1) % 256 ∧
      bit t.pend Ev.timStep = true ∧ ((∃ x ∈ (t.sess sid).cache, x.seq = seq ∧ x.reply = some ⟨0, leI 8 (-th / 1000)⟩) ∨ ∃ x ∈ (t.sess sid).outst, x.seq = seq ∧ x.reply = some ⟨0, leI 8 (-th / 1000)⟩)) ∧
  (∀ (s : State) (c : Cmd), s.takes c opTimeRestep = true →
      c.payload.length = 4 →
      s.fleetHeld = true →
      s.bestSource ≠ 0 →
      s.flag F.TIM_STAT_STEPPED = true →
      s.flag F.TIM_CTL_DISC_EN = true →
      Gives (.timeRestep c) s fun t =>
      t.time.restep = s.time.restep ++ [(c.sid.val, c.seq.toNat, s.now / oneMs)] ∧ t.time.ext = s.time.ext ∧
      (∃ e ∈ (t.sess c.sid.val).cache, e.seq = c.seq.toNat ∧ e.reply = none) ∧ ∃ e ∈ (t.sess c.sid.val).outst, e.seq = c.seq.toNat ∧ e.reply = none) ∧
  (∀ (s : State) (at_ : Nat) (u : Nat), s.time.leapAt = some (at_, u) →
      at_ ≤ s.now / oneSec →
      Gives (.leapSecondPass) s fun t =>
      t.time.leapAt = none ∧ t.fld F.TIM_UTC_TAI_UTC = u % 65536 ∧ t.fld F.TIM_UTC_LEAP_PENDING = 0 ∧ t.fld F.TIM_STAT_LEAP_PENDING = 0 ∧ t.time.ext = s.time.ext) ∧
  (∀ (s : State) (k : Fin 2) (ps : Nat) (el : Nat), s.flag (F.TIM_PPS_CTL_EN k.val) = true →
      s.ppsIndex k.val ≠ (Tbl.get ({} : Pulse) s.time.pps k.val).lastInstant →
      ps = (s.ppsIndex k.val * (s.ppsPeriod k.val * 1000 : Nat) + s.ppsShift k.val).toNat →
      el = s.el - (s.now - ps / 1000) →
      ((Tbl.get ({} : Pulse) s.time.pps k.val).lastEdge.all (fun e => decide (e + s.ppsPeriod k.val / 2 ≤ el)) = true) →
      ((Tbl.get ({} : Pulse) s.time.pps k.val).writtenAt.all (fun w => decide (w + oneMs ≤ el)) = true) →
      s.now - ps / 1000 < oneMs →
      s.ppsSuppressed = false →
      Gives (.ppsEdge k) s fun t =>
      t.outs = s.outs ++ [.pps k.val (s.ppsWidth k.val) (s.flag (F.TIM_PPS_CTL_POL k.val)) ((ps + 62) / 125)] ∧ (Tbl.get ({} : Pulse) t.time.pps k.val).lastEdge = some el ∧
      (Tbl.get ({} : Pulse) t.time.pps k.val).lastInstant = s.ppsIndex k.val ∧ (Tbl.get ({} : Pulse) t.time.pps k.val).width = s.ppsWidth k.val * oneMs ∧ t.regs = s.regs) ∧
  (∀ (s : State) (k : Fin 2) (ps : Nat) (el : Nat), s.flag (F.TIM_PPS_CTL_EN k.val) = true →
      s.ppsIndex k.val ≠ (Tbl.get ({} : Pulse) s.time.pps k.val).lastInstant →
      ps = (s.ppsIndex k.val * (s.ppsPeriod k.val * 1000 : Nat) + s.ppsShift k.val).toNat →
      el = s.el - (s.now - ps / 1000) →
      ((Tbl.get ({} : Pulse) s.time.pps k.val).lastEdge.any (fun e => decide (el < e + s.ppsPeriod k.val / 2)) = true ∨ (Tbl.get ({} : Pulse) s.time.pps k.val).writtenAt.any (fun w => decide (el < w + oneMs)) = true ∨ oneMs ≤ s.now - ps / 1000 ∨ s.ppsSuppressed = true) →
      Gives (.ppsEdge k) s fun t =>
      t.outs = s.outs ∧ (Tbl.get ({} : Pulse) t.time.pps k.val) = { (Tbl.get ({} : Pulse) s.time.pps k.val) with lastInstant := s.ppsIndex k.val }) ∧
  (∀ (s : State) (k : Fin 2), (s.flag (F.TIM_PPS_CTL_EN k.val) = false ∨ s.ppsIndex k.val = (Tbl.get ({} : Pulse) s.time.pps k.val).lastInstant) →
      Gives (.ppsEdge k) s fun t =>
      t = s) ∧
  (∀ (s : State) (f : Bool) (ph : Fin 4) (w : Nat), s.flag F.TIM_IN_CTL_EN = true →
      (s.fld F.TIM_IN_CTL_EDGE == 2 || (s.fld F.TIM_IN_CTL_EDGE == 1 && f) || ((s.fld F.TIM_IN_CTL_EDGE == 0 || s.fld F.TIM_IN_CTL_EDGE == 3) && !f)) = true →
      20 ≤ w →
      (s.time.lastStamp.all (fun l => decide (l + 100 ≤ s.interpolated s.time.elapsed ph.val)) = true) →
      s.time.fifo.length < 16 →
      Gives (.timeInEdge f ph w) s fun t =>
      t.time.fifo = s.time.fifo ++ [⟨(((s.interpolated s.time.ext ph.val : Int) - (signed 32 (s.fld F.TIM_IN_DLY_DLY) + 500) / 1000) % ((2 ^ 64 : Nat) : Int)).toNat, s.fld F.TIM_STAT_STEPS, s.timState, f⟩] ∧
      t.fld F.TIM_IN_STAT_COUNT = s.time.fifo.length + 1 ∧ t.time.lastStamp = some (s.interpolated s.time.elapsed ph.val) ∧ (s.time.fifo = [] → bit t.pend Ev.timIn = true)) ∧
  (∀ (s : State) (f : Bool) (ph : Fin 4) (w : Nat), s.flag F.TIM_IN_CTL_EN = true →
      (s.fld F.TIM_IN_CTL_EDGE == 2 || (s.fld F.TIM_IN_CTL_EDGE == 1 && f) || ((s.fld F.TIM_IN_CTL_EDGE == 0 || s.fld F.TIM_IN_CTL_EDGE == 3) && !f)) = true →
      20 ≤ w →
      (s.time.lastStamp.all (fun l => decide (l + 100 ≤ s.interpolated s.time.elapsed ph.val)) = false ∨ 16 ≤ s.time.fifo.length) →
      Gives (.timeInEdge f ph w) s fun t =>
      t.time.fifo = s.time.fifo ∧ t.fld F.TIM_IN_STAT_OVF = min (s.fld F.TIM_IN_STAT_OVF + 1) 65535) ∧
  (∀ (s : State) (f : Bool) (ph : Fin 4) (w : Nat), (s.flag F.TIM_IN_CTL_EN = false ∨ (s.fld F.TIM_IN_CTL_EDGE == 2 || (s.fld F.TIM_IN_CTL_EDGE == 1 && f) || ((s.fld F.TIM_IN_CTL_EDGE == 0 || s.fld F.TIM_IN_CTL_EDGE == 3) && !f)) = false ∨ w < 20) →
      Gives (.timeInEdge f ph w) s fun t =>
      t = s) ∧
  (∀ (s : State) (e : Stamp) (rest : List Stamp), s.time.fifo = e :: rest →
      Gives (.timInLoRead) s fun t =>
      t.time.fifo = rest ∧ t.reg R.TIM_IN_LO = BitVec.ofNat 32 e.time ∧ t.reg R.TIM_IN_HI = BitVec.ofNat 32 (e.time / 2 ^ 32) ∧ t.fld F.TIM_IN_META_VALID = 1 ∧
      t.fld F.TIM_IN_META_EDGE = b2n e.falling ∧ t.fld F.TIM_IN_META_STATE = e.state % 16 ∧ t.fld F.TIM_IN_META_STEPS = e.steps % 256) ∧
  (∀ (s : State), s.time.fifo = [] →
      Gives (.timInLoRead) s fun t =>
      t.reg R.TIM_IN_LO = 0 ∧ t.reg R.TIM_IN_HI = 0 ∧ t.reg R.TIM_IN_META = 0 ∧ t.time = s.time) ∧
  (∀ (s : State) (c : Cmd), s.takes c opTimeGet = true →
      c.payload = [] →
      Gives (.timeGet c) s fun t =>
      t.ok c (le 8 s.now ++ le 1 s.timState ++ le 1 (s.fld F.TIM_STAT_SOURCE) ++
        le 1 (b2n (s.flag F.TIM_STAT_STEPPED) + 2 * b2n (s.flag F.TIM_STAT_COARSE) + 4 * b2n (s.flag F.TIM_STAT_LEAP_PENDING)) ++
        le 1 (s.fld F.TIM_STAT_STEPS) ++ leI 4 (satI32 (s.theta / 1000)) ++ leI 4 (satI32 s.time.y) ++
        le 4 (s.fld F.TIM_HOLD_AGE_AGE) ++ le 2 (s.fld F.TIM_UTC_TAI_UTC) ++ zeros 2)) ∧
  (∀ (s : State) (c : Cmd), s.takes c opPpsConfig = true →
      c.payload.length = 20 →
      rdN c.payload 0 1 ≤ 1 →
      Gives (.ppsConfig c) s fun t =>
      t.ok c [] ∧ t.fld ⟨R.TIM_PPS_CTL (rdN c.payload 0 1), 0, 6⟩ = rdN c.payload 4 4 % 64 ∧
      t.fld (F.TIM_PPS_OFS_OFS (rdN c.payload 0 1)) = rdN c.payload 8 4 ∧ t.fld (F.TIM_PPS_CABLE_CABLE (rdN c.payload 0 1)) = rdN c.payload 12 4 ∧
      t.fld ⟨R.TIM_PPS_WIDTH (rdN c.payload 0 1), 0, 30⟩ = rdN c.payload 16 4 % 2 ^ 30 ∧
      (Tbl.get ({} : Pulse) t.time.pps (rdN c.payload 0 1)).writtenAt = some s.el)

/-- Observation intake, the RTK cycle, the deadline cut, NONE records, mode, rates and shedding. Where the rules leave a point open it follows
the model's choice of log entries 49 to 52, 166, 167. -/
def Obligations.RtkIntakeAndCyclesComplete : Prop :=
  (∀ (s : State) (k : Fin 128) (p : List Byte), s.flag F.RTK_CTL_EN = true →
      s.lanesRun = true →
      s.bodyOk p = false →
      Gives (.observationIntake k p) s fun t =>
      t.fld F.RTK_INTAKE_FORMAT = min (s.fld F.RTK_INTAKE_FORMAT + 1) 255 ∧ (t.rk k.val).pending = (s.rk k.val).pending ∧ (t.rk k.val).record = (s.rk k.val).record ∧
      t.time.inputSeq = (s.time.inputSeq + 1) % 2 ^ 32 ∧ ((s.rk k.val).evAt = none → ((s.laneActive && !s.switching) = true → bit t.pend Ev.rtkIntake = true))) ∧
  (∀ (s : State) (k : Fin 128) (p : List Byte) (obs : List RoverObs), s.flag F.RTK_CTL_EN = true →
      s.lanesRun = true →
      s.bodyOk p = true →
      (if bit (rdN p 6 1) 7 then s.takeRef k.val p else s).bodyObs k.val p = some obs →
      s.baseRec (bodyEpoch p) ≠ none →
      (s.rtk.bases.all (fun b => decide (b.epoch ≤ bodyEpoch p + orOne (s.fld F.RTK_CTL_MAX_AGE) * (s.baseNs / oneMs))) = true) →
      ((s.rk k.val).lastUsed.all (fun u => decide (u < bodyEpoch p)) = true) →
      ((s.rk k.val).pending.all (fun q => decide (q.epoch < bodyEpoch p)) = true) →
      Gives (.observationIntake k p) s fun t =>
      (t.rk k.val).pending = some ⟨bodyEpoch p, rdI p 8 4, obs⟩ ∧ (t.rk k.val).live = true ∧ (t.rk k.val).had = true ∧ (t.rk k.val).record = (s.rk k.val).record ∧ t.time.inputSeq = (s.time.inputSeq + 1) % 2 ^ 32) ∧
  (∀ (s : State) (sols : List RtkSol), s.flag F.RTK_CTL_EN = true →
      s.lanesRun = true →
      s.rtk.lastCycle < s.laneEpoch →
      Gives (.rtkCycle sols) s fun t =>
      t.rtk.lastCycle = s.laneEpoch ∧ t.rtk.dropHolds = false ∧ t.fld F.RTK_CYCLE_LAST_US ≤ t.fld F.RTK_CYCLE_MAX_US ∧
      (∀ a ∈ s.dueAt s.laneEpoch, a < 128 → (t.rk a).pending = none) ∧
      ∀ a ∈ s.dueAt s.laneEpoch, a < 128 → s.publishes = true → (s.rk a).pending = none → (s.rk a).misses < (t.rk a).misses) ∧
  (∀ (s : State) (sols : List RtkSol), s.flag F.RTK_CTL_EN = true →
      s.lanesRun = true →
      s.laneEpoch ≤ s.rtk.lastCycle →
      Gives (.rtkCycle sols) s fun t =>
      t = s) ∧
  (∀ (s : State) (w : RtkSol × PendingObs × BaseRec) (ws : List (RtkSol × PendingObs × BaseRec)), s.lanesRun = true →
      s.rtk.lastCycle + 6600000 < s.laneNow →
      s.rtk.waiting = w :: ws →
      Gives (.arDeadlineCut) s fun t =>
      t.rtk.waiting = [] ∧ t.fld F.RTK_CUTS_CUTS = min (s.fld F.RTK_CUTS_CUTS + 1) (2 ^ F.RTK_CUTS_CUTS.width - 1) ∧ ((s.laneActive && !s.switching) = true → bit t.pend Ev.rtkLate = true) ∧
      t.fld F.RTK_CUTS_SKIPPED_AR = min (s.fld F.RTK_CUTS_SKIPPED_AR + (ws.length + 1)) (2 ^ F.RTK_CUTS_SKIPPED_AR.width - 1) ∧
      (s.publishes = true → ((t.rk w.1.slot.val).record.map fun r => bit r.flags 7 && decide (r.cls ≤ 2)) = some true)) ∧
  (∀ (s : State) (k : Fin 128), s.flag F.RTK_CTL_EN = true →
      s.lanesRun = true →
      orOne (s.fld F.RTK_CTL_LOST_N) ≤ (s.rk k.val).misses →
      (s.rk k.val).noneSent = false →
      s.publishes = true →
      Gives (.fixLostNone k) s fun t =>
      (t.rk k.val).noneSent = true ∧ (t.rk k.val).record.map (·.cls) = some 0 ∧ (t.rk k.val).record.map (fun r => (r.hpl, r.vpl)) = some (65535, 65535)) ∧
  (∀ (s : State) (k : Fin 128), s.lanesRun = true →
      10 ≤ (s.rk k.val).ifCount →
      (s.flag F.RTK_CTL_IF_EN = true ∨ (s.rk k.val).ifree = true) →
      Gives (.ionoFreeSwitch k) s fun t =>
      (t.rk k.val).ifree = !(s.rk k.val).ifree ∧ (t.rk k.val).ifCount = 0 ∧ (t.rk k.val).resetAll = true ∧ (t.rk k.val).holds = [] ∧ (t.rk k.val).record = (s.rk k.val).record) ∧
  (∀ (s : State), s.rtk.rateSec < s.now / oneSec →
      Gives (.rtkRateChange) s fun t =>
      t.rtk.rateSec = s.now / oneSec ∧ (∀ a ∈ s.boundSlots, (t.rk a).rate = s.effRate (s.shedRate s.rtk.shed a)) ∧
      ∀ a ∈ s.boundSlots, (s.rk a).rate ≠ s.effRate (s.shedRate s.rtk.shed a) → (t.bound a).fullWant = true) ∧
  (∀ (s : State), s.fld F.RTK_LOAD_GRANTED < s.rtkLoad s.rtk.shed →
      s.rtk.shed < 10 →
      Gives (.rtkShedStep) s fun t =>
      t.rtk.shed = s.rtk.shed + 1 ∧ t.fld F.RTK_STAT_SHED_PARK = min (s.rtk.shed + 1) 2 ∧ ((s.laneActive && !s.switching) = true → bit t.pend Ev.rtkShed = true)) ∧
  (∀ (s : State), s.rtk.shed ≠ 0 →
      s.rtkLoad s.rtk.shed ≤ s.fld F.RTK_LOAD_GRANTED →
      s.rtkLoad (s.rtk.shed - 1) ≤ s.fld F.RTK_LOAD_GRANTED →
      (s.rtk.undoneAt.all (fun u => s.passed u oneSec) = true) →
      Gives (.rtkShedStep) s fun t =>
      t.rtk.shed = s.rtk.shed - 1 ∧ t.rtk.undoneAt = some s.el ∧ ((s.laneActive && !s.switching) = true → bit t.pend Ev.rtkShed = true)) ∧
  (∀ (s : State), Gives (.rtkArDisable) s fun t =>
      t.fld F.RTK_CTL_AR_EN = 0 ∧ t.rtk.dropHolds = true ∧ t.rtk.rovers = s.rtk.rovers)

/-- RTK commands: the site origin, rate classes, noise settings, rover reset and fix records. Where the rules leave a point open it follows
the model's choice of log entries 19, 51. -/
def Obligations.RtkCommandsComplete : Prop :=
  (∀ (s : State) (c : Cmd), s.takes c opRtkSetSiteOrigin = true →
      c.payload.length = 24 →
      ecefInRange (rdI c.payload 0 8) (rdI c.payload 8 8) (rdI c.payload 16 8) = true →
      s.fleetHeld = true →
      Gives (.rtkSetSiteOrigin c) s fun t =>
      t.ok c [] ∧ t.rtk.origin = some (rdI c.payload 0 8, rdI c.payload 8 8, rdI c.payload 16 8) ∧ t.fld F.RTK_STAT_NO_ORIGIN = 0) ∧
  (∀ (s : State) (c : Cmd), s.takes c opRtkSetRateClass = true →
      c.payload.length = 8 →
      (rdN c.payload 0 1 = 0 ∨ (rdN c.payload 0 1 = 2 ∧ rdN c.payload 4 1 ≤ 127)) →
      rdN c.payload 1 1 ≤ 7 →
      Gives (.rtkSetRateClass c) s fun t =>
      t.ok c (le 1 (Tbl.get ({} : RtkClass) s.rtk.classes (rdN c.payload 1 1)).moving ++ le 1 (Tbl.get ({} : RtkClass) s.rtk.classes (rdN c.payload 1 1)).parked ++ le 1 (s.effRate (Tbl.get ({} : RtkClass) s.rtk.classes (rdN c.payload 1 1)).moving) ++ le 1 (s.effRate (Tbl.get ({} : RtkClass) s.rtk.classes (rdN c.payload 1 1)).parked)) ∧
      (Tbl.get ({} : RtkClass) t.rtk.classes (rdN c.payload 1 1)) = (Tbl.get ({} : RtkClass) s.rtk.classes (rdN c.payload 1 1)) ∧ Tbl.get 0 t.rtk.clsOf (rdN c.payload 4 1) = (if rdN c.payload 0 1 = 2 then rdN c.payload 1 1 else Tbl.get 0 s.rtk.clsOf (rdN c.payload 4 1))) ∧
  (∀ (s : State) (c : Cmd), s.takes c opRtkSetRateClass = true →
      c.payload.length = 8 →
      rdN c.payload 0 1 = 1 →
      rdN c.payload 1 1 ≤ 7 →
      rdN c.payload 2 1 ≤ 7 →
      rdN c.payload 3 1 ≤ 7 →
      Gives (.rtkSetRateClass c) s fun t =>
      t.ok c (le 1 (rdN c.payload 2 1) ++ le 1 (rdN c.payload 3 1) ++ le 1 (s.effRate (rdN c.payload 2 1)) ++ le 1 (s.effRate (rdN c.payload 3 1))) ∧
      (Tbl.get ({} : RtkClass) t.rtk.classes (rdN c.payload 1 1)) = { (Tbl.get ({} : RtkClass) s.rtk.classes (rdN c.payload 1 1)) with moving := rdN c.payload 2 1, parked := rdN c.payload 3 1 }) ∧
  (∀ (s : State) (c : Cmd), s.takes c opRtkSetNoise = true →
      c.payload.length = 14 →
      rdN c.payload 0 1 = 0 →
      rdN c.payload 1 1 ≤ 7 →
      Gives (.rtkSetNoise c) s fun t =>
      t.ok c (le 2 (Tbl.get ({} : RtkClass) s.rtk.classes (rdN c.payload 1 1)).qh ++ le 2 (Tbl.get ({} : RtkClass) s.rtk.classes (rdN c.payload 1 1)).qv ++ le 1 (Tbl.get ({} : RtkClass) s.rtk.classes (rdN c.payload 1 1)).phA ++ le 1 (Tbl.get ({} : RtkClass) s.rtk.classes (rdN c.payload 1 1)).phB ++ le 1 (Tbl.get ({} : RtkClass) s.rtk.classes (rdN c.payload 1 1)).cdA ++ le 1 (Tbl.get ({} : RtkClass) s.rtk.classes (rdN c.payload 1 1)).cdB ++ le 1 (Tbl.get ({} : RtkClass) s.rtk.classes (rdN c.payload 1 1)).l1c ++ zeros 3) ∧ t.rtk = s.rtk) ∧
  (∀ (s : State) (c : Cmd), s.takes c opRtkSetNoise = true →
      c.payload.length = 14 →
      rdN c.payload 0 1 = 1 →
      rdN c.payload 1 1 ≤ 7 →
      rdN c.payload 2 2 ≠ 0 →
      rdN c.payload 4 2 ≠ 0 →
      rdN c.payload 6 1 ≠ 0 →
      rdN c.payload 7 1 ≠ 0 →
      rdN c.payload 8 1 ≠ 0 →
      rdN c.payload 9 1 ≠ 0 →
      10 ≤ rdN c.payload 10 1 →
      rdN c.payload 10 1 ≤ 100 →
      Gives (.rtkSetNoise c) s fun t =>
      t.ok c ((c.payload.drop 2).take 9 ++ zeros 3) ∧ (Tbl.get ({} : RtkClass) t.rtk.classes (rdN c.payload 1 1)) = { (Tbl.get ({} : RtkClass) s.rtk.classes (rdN c.payload 1 1)) with qh := rdN c.payload 2 2, qv := rdN c.payload 4 2, phA := rdN c.payload 6 1, phB := rdN c.payload 7 1, cdA := rdN c.payload 8 1, cdB := rdN c.payload 9 1, l1c := rdN c.payload 10 1 }) ∧
  (∀ (s : State) (c : Cmd), s.takes c opRtkResetRover = true →
      c.payload.length = 4 →
      rdN c.payload 0 1 ≤ 127 →
      Gives (.rtkResetRover c) s fun t =>
      t.ok c (le 1 ((s.rk (rdN c.payload 0 1)).gen + 1) ++ zeros 3) ∧ (t.rk (rdN c.payload 0 1)).gen = ((s.rk (rdN c.payload 0 1)).gen + 1) % 256 ∧
      (t.rk (rdN c.payload 0 1)).live = false ∧ (t.rk (rdN c.payload 0 1)).record = none ∧ (t.rk (rdN c.payload 0 1)).pending = none ∧ (t.rk (rdN c.payload 0 1)).holds = []) ∧
  (∀ (s : State) (c : Cmd), s.takes c opRtkGetFix = true →
      c.payload.length = 4 →
      rdN c.payload 1 1 ≠ 0 →
      rdN c.payload 1 1 ≤ 32 →
      rdN c.payload 0 1 + rdN c.payload 1 1 ≤ 128 →
      Gives (.rtkGetFix c) s fun t =>
      t.ok c ((List.range (rdN c.payload 1 1)).map fun i => s.fixBytes (rdN c.payload 0 1 + i)).flatten ∧ t.rtk = s.rtk)

/-- Snapshot chunks, MISSING replies, timeouts, solves, flush and disable: entries, replies and counts. Where the rules leave a point open it follows
the model's choice of log entries 53, 54, 168. -/
def Obligations.SnapshotsComplete : Prop :=
  (∀ (s : State) (k : Fin 4) (p : List Byte) (f : RxFrame) (d : List Byte), s.flag (F.RAD_P_CFG_EN k.val) = true →
      s.flag F.RAD_CTL_EN = true →
      s.flag (F.RAD_P_STAT_SLEEP k.val) = false →
      s.pwr.hubReady = true →
      s.rxFrame p = some f →
      f.tagOk = true →
      f.ftype = ftBULK_UP →
      (s.bound f.slot).bound = true →
      rdN f.body 0 1 = 1 →
      d = f.body.drop 2 →
      d.length = 8 + rdN d 6 2 →
      rdN d 2 2 + 1 < rdN d 4 2 →
      chunkLenOk (rdN d 6 2) = true →
      s.flag F.SNP_CTL_EN = true →
      s.snap f.slot = none →
      Tbl.get none s.snp.freed f.slot ≠ some (rdN d 0 1) →
      s.snp.entries.length < 32 →
      Gives (.bulkUpReceive k p) s fun t =>
      (t.snap f.slot).map (fun e => (e.id, e.count)) = some (rdN d 0 1, rdN d 4 2) ∧
      (t.snap f.slot).map (fun e => e.chunks) = some [(rdN d 2 2, d.drop 8)] ∧
      t.snp.replies = s.snp.replies ∧ (t.bound f.slot).bulkWant = false) ∧
  (∀ (s : State) (k : Fin 4) (p : List Byte) (f : RxFrame) (d : List Byte) (e : SnapEntry), s.flag (F.RAD_P_CFG_EN k.val) = true →
      s.flag F.RAD_CTL_EN = true →
      s.flag (F.RAD_P_STAT_SLEEP k.val) = false →
      s.pwr.hubReady = true →
      s.rxFrame p = some f →
      f.tagOk = true →
      f.ftype = ftBULK_UP →
      (s.bound f.slot).bound = true →
      rdN f.body 0 1 = 1 →
      d = f.body.drop 2 →
      d.length = 8 + rdN d 6 2 →
      rdN d 2 2 + 1 < rdN d 4 2 →
      chunkLenOk (rdN d 6 2) = true →
      s.snap f.slot = some e →
      e.id = rdN d 0 1 →
      e.count = rdN d 4 2 →
      (e.len.all (fun l => l == rdN d 6 2) = true) →
      (e.chunks.insert (rdN d 2 2) (d.drop 8)).length ≠ e.count →
      Gives (.bulkUpReceive k p) s fun t =>
      (t.snap f.slot).map (fun x => (x.id, x.count, x.ready)) = some (e.id, e.count, e.ready) ∧
      (t.snap f.slot).map (fun x => x.chunks) = some (e.chunks.insert (rdN d 2 2) (d.drop 8)) ∧ t.snp.replies = s.snp.replies) ∧
  (∀ (s : State) (k : Fin 4) (p : List Byte) (f : RxFrame) (d : List Byte), s.flag (F.RAD_P_CFG_EN k.val) = true →
      s.flag F.RAD_CTL_EN = true →
      s.flag (F.RAD_P_STAT_SLEEP k.val) = false →
      s.pwr.hubReady = true →
      s.rxFrame p = some f →
      f.tagOk = true →
      f.ftype = ftBULK_UP →
      (s.bound f.slot).bound = true →
      rdN f.body 0 1 = 1 →
      d = f.body.drop 2 →
      (d.length ≠ 8 + rdN d 6 2 ∨ rdN d 4 2 ≤ rdN d 2 2) →
      Gives (.bulkUpReceive k p) s fun t =>
      t.fld F.SNP_DROP_CHUNK_BAD = min (s.fld F.SNP_DROP_CHUNK_BAD + 1) (2 ^ F.SNP_DROP_CHUNK_BAD.width - 1) ∧ t.snp = s.snp) ∧
  (∀ (s : State) (k : Fin 128) (e : SnapEntry), s.snap k.val = some e →
      e.ready = none →
      e.missed = false →
      e.lastSf + orOne (s.fld F.SNP_CTL_GAP) ≤ s.sf →
      Gives (.snapshotMissing k) s fun t =>
      t.snp.replies = s.snp.replies ++ [(k.val, le 1 e.id ++ le 1 1 ++ (le 2 e.count ++ bitmap e.count e.missing))] ∧ t.snap k.val = some { e with missed := true }) ∧
  (∀ (s : State) (k : Fin 128) (e : SnapEntry), s.snap k.val = some e →
      e.ready = none →
      s.passed e.lastAt (orOne (s.fld F.SNP_CTL_ASM_TO) * oneSec) = true →
      Gives (.snapshotAsmTimeout k) s fun t =>
      t.snap k.val = none ∧ t.snp.replies = s.snp.replies ++ [(k.val, le 1 e.id ++ le 1 0x10 ++ le 2 (e.missing.headD 0))] ∧ bit t.pend Ev.snpDone = true ∧ Tbl.get none t.snp.freed k.val = some e.id ∧
      t.fld F.SNP_CNT_FAILED = min (s.fld F.SNP_CNT_FAILED + 1) (2 ^ F.SNP_CNT_FAILED.width - 1)) ∧
  (∀ (s : State) (k : Nat) (e : SnapEntry), s.snp.solving = none →
      s.fld (F.ARB_PWR_REQ_GRANT 2) ≠ 0 →
      s.fld F.ARB_DRAM_OWNER = 1 →
      s.flag F.SNP_CTL_EN = true →
      s.snapReady = [k] →
      s.snap k = some e →
      s.fld F.TIM_STAT_STATE ≠ 0 →
      5 ≤ s.snapBase →
      Gives (.snapshotSolveStart) s fun t =>
      t.snp.solving = some (k, s.el) ∧ t.fld F.SNP_STAT_BUSY = 1 ∧ t.snp.entries = s.snp.entries ∧ t.snp.replies = s.snp.replies) ∧
  (∀ (s : State) (k : Nat) (e : SnapEntry), s.snp.solving = none →
      s.fld (F.ARB_PWR_REQ_GRANT 2) ≠ 0 →
      s.fld F.ARB_DRAM_OWNER = 1 →
      s.flag F.SNP_CTL_EN = true →
      s.snapReady = [k] →
      s.snap k = some e →
      (s.fld F.TIM_STAT_STATE = 0 ∨ s.snapBase < 5) →
      Gives (.snapshotSolveStart) s fun t =>
      t.snap k = none ∧ t.snp.replies = s.snp.replies ++ [(k, le 1 e.id ++ le 1 0x14 ++ zeros 2)] ∧ bit t.pend Ev.snpDone = true ∧ Tbl.get none t.snp.freed k = some e.id ∧
      t.fld F.SNP_CNT_FAILED = min (s.fld F.SNP_CNT_FAILED + 1) (2 ^ F.SNP_CNT_FAILED.width - 1)) ∧
  (∀ (s : State) (k : Nat) (n : Nat) (e : SnapEntry), s.snp.solving = some (k, n) →
      s.snap k = some e →
      s.granted 2 = true →
      Gives (.snapshotSolveDone) s fun t =>
      t.snap k = none ∧ t.snp.replies = s.snp.replies ++ [(k, le 1 e.id ++ (match s.snapSolve e.stream with | .tooFew m => le 1 0x15 ++ (le 1 (min 255 m) ++ zeros 1) | .noConverge r => le 1 0x16 ++ (le 1 r ++ zeros 1) | .solved x => le 1 0 ++ s.solvedData e.stream x))] ∧
      bit t.pend Ev.snpDone = true ∧ Tbl.get none t.snp.freed k = some e.id ∧ t.snp.solving = none ∧
      t.fld F.SNP_CNT_SOLVED = min (s.fld F.SNP_CNT_SOLVED + (match s.snapSolve e.stream with | .solved _ => 1 | _ => 0)) (2 ^ F.SNP_CNT_SOLVED.width - 1) ∧ t.fld F.SNP_CNT_FAILED = min (s.fld F.SNP_CNT_FAILED + (match s.snapSolve e.stream with | .solved _ => 0 | _ => 1)) (2 ^ F.SNP_CNT_FAILED.width - 1)) ∧
  (∀ (s : State), (s.granted 2 = false ∨ s.snp.solving = none) →
      Gives (.snapshotSolveDone) s fun t =>
      t = s) ∧
  (∀ (s : State) (k : Nat) (n : Nat) (e : SnapEntry), s.snp.solving = some (k, n) →
      s.snap k = some e →
      s.passed n (max 100 (s.fld F.SNP_LIM_SOLVE_MAX) * oneMs) = true →
      Gives (.snapshotSolveTimeout) s fun t =>
      t.snap k = none ∧ t.snp.replies = s.snp.replies ++ [(k, le 1 e.id ++ le 1 0x17 ++ zeros 2)] ∧ bit t.pend Ev.snpDone = true ∧ Tbl.get none t.snp.freed k = some e.id ∧
      t.fld F.SNP_CNT_FAILED = min (s.fld F.SNP_CNT_FAILED + 1) (2 ^ F.SNP_CNT_FAILED.width - 1) ∧ t.snp.solving = none) ∧
  (∀ (s : State), Gives (.snpFlush) s fun t =>
      (∀ i ∈ List.range 128, t.snap i = none) ∧ t.snp.replies = s.snp.replies ∧ t.fld F.SNP_CTL_EN = s.fld F.SNP_CTL_EN) ∧
  (∀ (s : State), Gives (.snpDisable) s fun t =>
      (∀ i ∈ List.range 128, t.snap i = none) ∧ t.snp.replies = s.snp.replies ∧ t.fld F.SNP_CTL_EN = 0)

/-- The pass, and the expiry of authorities, RELEASING blocks, AVOID sets, withdrawals and holds. Where the rules leave a point open it follows
the model's choice of log entries 55 to 62, 66, 170. -/
def Obligations.SignalBoxPassAndExpiriesComplete : Prop :=
  (∀ (s : State) (us : Nat) (n : SiteMap), s.lanesRun = true →
      s.t0At s.laneSf + 8 * oneMs ≤ s.laneNow →
      s.sbx.passF ≠ some s.laneSf →
      (s.sbx.map.all (fun m => s.rtk.origin.map originCrc == some m.originCrc) = true) →
      s.sbx.activate = some n →
      s.rtk.origin.map originCrc = some n.originCrc →
      s.mapBlocker n = none →
      Gives (.sbxPass us) s fun t =>
      t.sbx.map = some n ∧ t.sbx.staged ≠ some n ∧ t.sbx.activate = none ∧ t.sbx.passF = some s.laneSf ∧ t.fld F.SBX_LOAD_MAX_US = max (min 65535 us) (s.fld F.SBX_LOAD_MAX_US) % 65536) ∧
  (∀ (s : State) (us : Nat), s.lanesRun = true →
      s.t0At s.laneSf + 8 * oneMs ≤ s.laneNow →
      s.sbx.passF ≠ some s.laneSf →
      (s.sbx.map.all (fun m => s.rtk.origin.map originCrc == some m.originCrc) = true) →
      s.sbx.activate = none →
      (s.sbx.staged.all (fun m => s.rtk.origin.map originCrc == some m.originCrc) = true) →
      Gives (.sbxPass us) s fun t =>
      t.sbx.map = s.sbx.map ∧ t.sbx.staged = s.sbx.staged ∧ t.sbx.passF = some s.laneSf ∧ t.fld F.SBX_LOAD_MAX_US = max (min 65535 us) (s.fld F.SBX_LOAD_MAX_US) % 65536) ∧
  (∀ (s : State) (us : Nat) (m : SiteMap), s.lanesRun = true →
      s.t0At s.laneSf + 8 * oneMs ≤ s.laneNow →
      s.sbx.passF ≠ some s.laneSf →
      s.sbx.map = some m →
      s.rtk.origin.map originCrc ≠ some m.originCrc →
      s.sbx.activate = none →
      Gives (.sbxPass us) s fun t =>
      t.sbx.map = none ∧ (∀ j ∈ List.range 128, (t.sx j).route = [] ∧ (t.sx j).tent = none ∧ (t.sx j).waitOn = none) ∧ ((s.laneActive && !s.switching) = true → bit t.pend Ev.sbxMap = true)) ∧
  (∀ (s : State) (us : Nat), (s.sbx.passF = some s.laneSf ∨ s.laneNow < s.t0At s.laneSf + 8 * oneMs ∨ s.lanesRun = false) →
      Gives (.sbxPass us) s fun t =>
      t = s) ∧
  (∀ (s : State) (k : Fin 128) (a : Auth) (e : Nat), s.lanesRun = true →
      (s.sx k.val).auth = some a →
      a.expiry = some e →
      e < s.laneNow →
      (s.sbxSlots.all (fun j => (s.sx j).stopAt.isNone) = true) →
      Gives (.authorityExpiry k) s fun t =>
      (t.sx k.val).auth = none ∧ (t.sx k.val).route = (s.sx k.val).route ∧ (∀ j ∈ List.range 128, j ≠ k.val → t.sx j = s.sx j)) ∧
  (∀ (s : State) (k : Fin 128) (r : Releasing) (e : Nat), s.lanesRun = true →
      r ∈ (s.sx k.val).releasing →
      r.expiry = some e →
      e < s.laneNow →
      (s.sbxSlots.all (fun j => (s.sx j).stopAt.isNone) = true) →
      Gives (.releasingExpiry k) s fun t =>
      (t.sx k.val).releasing = (s.sx k.val).releasing.filter (fun x => x.expiry.all fun y => decide (s.laneNow ≤ y)) ∧ (t.sx k.val).auth = (s.sx k.val).auth ∧ (∀ j ∈ List.range 128, j ≠ k.val → t.sx j = s.sx j)) ∧
  (∀ (s : State) (k : Fin 128) (v : List Nat × Nat), s.lanesRun = true →
      v ∈ (s.sx k.val).avoid →
      v.2 < s.laneSf →
      Gives (.avoidExpiry k) s fun t =>
      t.sx k.val = { s.sx k.val with avoid := (s.sx k.val).avoid.filter fun y => decide (s.laneSf ≤ y.2) } ∧ (∀ j ∈ List.range 128, j ≠ k.val → t.sx j = s.sx j)) ∧
  (∀ (s : State) (k : Fin 128) (w : Withdraw) (f : Nat), s.lanesRun = true →
      w ∈ (s.sx k.val).withdraws →
      w.sf = some f →
      f + 3 ≤ s.laneSf →
      (s.sbxSlots.all (fun j => (s.sx j).stopAt.isNone) = true) →
      Gives (.withdrawTimeout k) s fun t =>
      w ∉ (t.sx k.val).withdraws ∧ ((s.laneActive && !s.switching) = true → bit t.pend Ev.sbxWithdraw = true) ∧ (∀ j ∈ List.range 128, j ≠ k.val → t.sx j = s.sx j) ∧
      t.fld F.SBX_CNT1_WD_TIMEOUT = min (s.fld F.SBX_CNT1_WD_TIMEOUT + (((s.sx k.val).withdraws.filter s.wdLapsed).map (·.prevId)).eraseDups.length) (2 ^ F.SBX_CNT1_WD_TIMEOUT.width - 1)) ∧
  (∀ (s : State) (k : Fin 128) (a : Auth) (e : Nat), s.lanesRun = true →
      (s.sx k.val).tent = some a →
      a.expiry = some e →
      e < s.laneNow →
      (s.sbxSlots.all (fun j => (s.sx j).stopAt.isNone) = true) →
      Gives (.previewExpiry k) s fun t =>
      (t.sx k.val).tent = none ∧ (t.sx k.val).auth = (s.sx k.val).auth ∧ (∀ j ∈ List.range 128, j ≠ k.val → t.sx j = s.sx j) ∧ t.ttb.jobs = s.ttb.jobs) ∧
  (∀ (s : State), Gives (.previewDisable) s fun t =>
      t.fld F.SBX_CTL_PREVIEW_EN = 0 ∧ ∀ j ∈ List.range 128, (t.sx j).tent.all (fun x => x.blocks.isEmpty) = true ∧ (t.sx j).auth = (s.sx j).auth) ∧
  (∀ (s : State) (off : Nat) (len : Nat) (p : List Byte), s.lanesRun = true →
      s.sbx.staging = some (off, len) →
      p = bytesAt s.dram off len →
      checkMap p s.rtk.origin = none →
      Gives (.sbxMapStageDone) s fun t =>
      t.sbx.staged = some (parseMap p) ∧ t.sbx.staging = none ∧ t.sbx.map = s.sbx.map ∧ t.reg R.SBX_MAP_STG = BitVec.ofNat 32 (rdN p 8 4) ∧
      t.reg R.SBX_MAP_ERR = 0 ∧ ((s.laneActive && !s.switching) = true → bit t.pend Ev.sbxMap = true)) ∧
  (∀ (s : State) (off : Nat) (len : Nat) (code : Nat) (kind : Nat) (index : Nat) (p : List Byte), s.lanesRun = true →
      s.sbx.staging = some (off, len) →
      p = bytesAt s.dram off len →
      checkMap p s.rtk.origin = some (code, kind, index) →
      Gives (.sbxMapStageDone) s fun t =>
      t.sbx.staged = s.sbx.staged ∧ t.sbx.staging = none ∧ t.sbx.map = s.sbx.map ∧ t.fld F.SBX_MAP_ERR_CODE = code ∧ ((s.laneActive && !s.switching) = true → bit t.pend Ev.sbxMap = true))

/-- SBX commands: staging and activation, requests, release, revocation, zones and state. Where the rules leave a point open it follows
the model's choice of log entries 58, 62 to 66, 170. -/
def Obligations.SignalBoxCommandsComplete : Prop :=
  (∀ (s : State) (c : Cmd), s.takes c opSbxMapStage = true →
      c.payload.length = 8 →
      rdN c.payload 0 4 % 4 = 0 →
      rdN c.payload 0 4 + rdN c.payload 4 4 ≤ 0x08000000 →
      Gives (.sbxMapStage c) s fun t =>
      t.answered c ⟨1, []⟩ ∧ t.sbx.staging = some (rdN c.payload 0 4, rdN c.payload 4 4)) ∧
  (∀ (s : State) (c : Cmd) (m : SiteMap), s.takes c opSbxMapActivate = true →
      c.payload.length = 4 →
      s.sbx.staged = some m →
      m.id = rdN c.payload 0 4 →
      s.laneInput.mapBlocker m = none →
      Gives (.sbxMapActivate c) s fun t =>
      t.ok c (le 1 255 ++ zeros 3) ∧ t.sbx.activate = some m ∧ t.sbx.map = s.sbx.map) ∧
  (∀ (s : State) (c : Cmd) (m : SiteMap) (a : Nat), s.takes c opSbxMapActivate = true →
      c.payload.length = 4 →
      s.sbx.staged = some m →
      m.id = rdN c.payload 0 4 →
      s.laneInput.mapBlocker m = some a →
      Gives (.sbxMapActivate c) s fun t =>
      t.answered c ⟨0x43, le 1 a ++ zeros 3⟩ ∧ t.sbx = s.sbx) ∧
  (∀ (s : State) (c : Cmd) (r : List Nat) (why : Nat), s.takes c opSbxRequest = true →
      c.payload.length = 12 + 2 * rdN c.payload 8 2 →
      rdN c.payload 0 1 ≤ 127 →
      rdN c.payload 1 1 ≤ 7 →
      rdN c.payload 8 2 ≠ 0 →
      rdN c.payload 8 2 ≤ 512 →
      (r = (List.range (rdN c.payload 8 2)).map fun i => rdN c.payload (12 + 2 * i) 2) →
      (r.all (fun w => decide (w < 32768)) = true) →
      rdN c.payload 2 1 = 0 →
      s.beyondEnd (rdN c.payload 4 4) (rdN c.payload 10 2) r = false →
      s.laneInput.routeRefusal (rdN c.payload 0 1) (rdN c.payload 4 4) r false = why →
      why ≠ 0 →
      Gives (.sbxRequest c) s fun t =>
      t.ok c (le 1 2 ++ le 1 why ++ le 1 0 ++ le 1 255 ++ le 2 0 ++ zeros 2) ∧ (∀ j ∈ List.range 128, t.sx j = s.sx j) ∧
      t.fld F.SBX_CNT0_REFUSED = min (s.fld F.SBX_CNT0_REFUSED + 1) (2 ^ F.SBX_CNT0_REFUSED.width - 1)) ∧
  (∀ (s : State) (c : Cmd) (r : List Nat) (m : SiteMap), s.takes c opSbxRequest = true →
      c.payload.length = 12 + 2 * rdN c.payload 8 2 →
      rdN c.payload 0 1 ≤ 127 →
      rdN c.payload 1 1 ≤ 7 →
      rdN c.payload 8 2 ≠ 0 →
      rdN c.payload 8 2 ≤ 512 →
      (r = (List.range (rdN c.payload 8 2)).map fun i => rdN c.payload (12 + 2 * i) 2) →
      (r.all (fun w => decide (w < 32768)) = true) →
      rdN c.payload 2 1 = 0 →
      s.beyondEnd (rdN c.payload 4 4) (rdN c.payload 10 2) r = false →
      s.laneInput.routeRefusal (rdN c.payload 0 1) (rdN c.payload 4 4) r false = 0 →
      s.sbx.map = some m →
      (s.laneInput.setSx (rdN c.payload 0 1) { s.sx (rdN c.payload 0 1) with stopped := false }).whyNot (rdN c.payload 0 1) = 0 →
      s.roverStopped (rdN c.payload 0 1) = false →
      s.laneInput.laneAuth (rdN c.payload 0 1) = none →
      (s.sx (rdN c.payload 0 1)).tent = none →
      r.length ≤ s.maxBlk →
      (r.all (fun w => (s.laneInput.refusal m (rdN c.payload 0 1) w).isNone) = true) →
      (s.sbxSlots.all (fun j => (s.sx j).stopAt.isNone) = true) →
      Gives (.sbxRequest c) s fun t =>
      t.ok c (le 1 0 ++ le 1 0 ++ le 1 r.length ++ le 1 255 ++ le 2 (s.sx (rdN c.payload 0 1)).authId ++ zeros 2) ∧
      (t.sx (rdN c.payload 0 1)).auth = some { id := (s.sx (rdN c.payload 0 1)).authId, blocks := r, endOfs := min (rdN c.payload 10 2) (m.block (wordBlock (r.getLast?.getD 0))).len, last := true } ∧ (t.sx (rdN c.payload 0 1)).authId = ((s.sx (rdN c.payload 0 1)).authId + 1) % 65536 ∧
      (t.sx (rdN c.payload 0 1)).route = r ∧ t.fld F.SBX_CNT0_GRANTS = min (s.fld F.SBX_CNT0_GRANTS + 1) (2 ^ F.SBX_CNT0_GRANTS.width - 1) ∧ t.ttb.jobs.length = s.ttb.jobs.length + 1) ∧
  (∀ (s : State) (q : RouteReq) (rest : List RouteReq) (m : SiteMap), s.lanesRun = true →
      s.sbx.reqs = q :: rest →
      q.tentative = false →
      s.routeRefusal q.slot q.mapId q.route false = 0 →
      s.sbx.map = some m →
      (s.setSx q.slot { s.sx q.slot with stopped := false }).whyNot q.slot = 0 →
      s.roverStopped q.slot = false →
      s.laneAuth q.slot = none →
      (s.sx q.slot).tent = none →
      q.route.length ≤ s.maxBlk →
      (q.route.all (fun w => (s.refusal m q.slot w).isNone) = true) →
      (s.sbxSlots.all (fun j => (s.sx j).stopAt.isNone) = true) →
      Gives (.routeRequest) s fun t =>
      t.sbx.reqs = rest ∧ (t.sx q.slot).auth = some { id := (s.sx q.slot).authId, blocks := q.route, endOfs := min (q.endOfs) (m.block (wordBlock (q.route.getLast?.getD 0))).len, last := true } ∧ (t.sx q.slot).authId = ((s.sx q.slot).authId + 1) % 65536 ∧
      (t.sx q.slot).route = q.route ∧ t.fld F.SBX_CNT0_GRANTS = min (s.fld F.SBX_CNT0_GRANTS + 1) (2 ^ F.SBX_CNT0_GRANTS.width - 1) ∧ t.ttb.jobs.length = s.ttb.jobs.length + 1) ∧
  (∀ (s : State) (c : Cmd), s.takes c opSbxRelease = true →
      c.payload.length = 4 →
      (rdN c.payload 0 1) ≤ 127 →
      rdN c.payload 1 1 = 0 →
      Gives (.sbxRelease c) s fun t =>
      t.ok c (zeros 4) ∧ (t.sx (rdN c.payload 0 1)).route = [] ∧ (t.sx (rdN c.payload 0 1)).waitOn = none ∧ (t.sx (rdN c.payload 0 1)).auth = (s.sx (rdN c.payload 0 1)).auth) ∧
  (∀ (s : State) (c : Cmd), s.takes c opSbxRelease = true →
      c.payload.length = 4 →
      (rdN c.payload 0 1) ≤ 127 →
      rdN c.payload 1 1 = 1 →
      (s.sx (rdN c.payload 0 1)).noneHold = true →
      (s.sbxSlots.all (fun j => (s.sx j).stopAt.isNone) = true) →
      Gives (.sbxRelease c) s fun t =>
      t.ok c (le 2 (s.sx (rdN c.payload 0 1)).occ.length ++ zeros 2) ∧ (t.sx (rdN c.payload 0 1)).noneHold = false ∧ (t.sx (rdN c.payload 0 1)).occ = []) ∧
  (∀ (s : State) (c : Cmd) (b : Nat), s.takes c opSbxRevoke = true →
      c.payload.length = 4 →
      (rdN c.payload 0 1) ≤ 127 →
      rdN c.payload 1 1 ≤ 1 →
      s.laneInput.cutBlock (rdN c.payload 0 1) = some b →
      (s.sbxSlots.all (fun j => (s.sx j).stopAt.isNone) = true) →
      Gives (.sbxRevoke c) s fun t =>
      t.ok c (le 2 (s.sx (rdN c.payload 0 1)).authId ++ zeros 2) ∧ (t.sx (rdN c.payload 0 1)).route = [] ∧ (t.sx (rdN c.payload 0 1)).waitOn = none ∧ (t.sx (rdN c.payload 0 1)).auth.map (fun x => (x.id, x.revoked, x.cutBack)) = some ((s.sx (rdN c.payload 0 1)).authId, rdN c.payload 1 1 == 0, rdN c.payload 1 1 != 0) ∧
      (t.sx (rdN c.payload 0 1)).auth.map (fun x => x.blocks) = some [b + (if s.laneInput.travelRev (rdN c.payload 0 1) b then 16384 else 0)] ∧
      (s.laneInput.laneAuth (rdN c.payload 0 1)).all (fun a => a.blocks.all fun w => wordBlock w == b || (t.sx (rdN c.payload 0 1)).releasing.any (fun x => x.block == wordBlock w)) = true) ∧
  (∀ (s : State) (c : Cmd), s.takes c opSbxRevoke = true →
      c.payload.length = 4 →
      (rdN c.payload 0 1) ≤ 127 →
      rdN c.payload 1 1 ≤ 1 →
      s.laneInput.cutBlock (rdN c.payload 0 1) = none →
      (s.sbxSlots.all (fun j => (s.sx j).stopAt.isNone) = true) →
      Gives (.sbxRevoke c) s fun t =>
      t.ok c (le 2 (((s.sx (rdN c.payload 0 1)).authId + 65535) % 65536) ++ zeros 2) ∧ (t.sx (rdN c.payload 0 1)).route = [] ∧ (t.sx (rdN c.payload 0 1)).waitOn = none ∧ (t.sx (rdN c.payload 0 1)).auth = none) ∧
  (∀ (s : State) (c : Cmd) (m : SiteMap), s.takes c opSbxZoneSet = true →
      c.payload.length = 4 →
      s.sbx.map = some m →
      (rdN c.payload 0 2) < m.zones.length →
      rdN c.payload 2 1 ≤ 128 →
      (s.sbxSlots.all (fun j => (s.sx j).stopAt.isNone) = true) →
      Gives (.sbxZoneSet c) s fun t =>
      t.ok c (le 1 (s.zoneCapOf m (rdN c.payload 0 2)) ++ le 1 (s.laneInput.zoneCount m (rdN c.payload 0 2)).length ++ zeros 2) ∧ t.zoneCapOf m (rdN c.payload 0 2) = rdN c.payload 2 1) ∧
  (∀ (s : State) (c : Cmd), s.takes c opSbxGetState = true →
      c.payload.length = 4 →
      rdN c.payload 3 1 ≠ 0 →
      rdN c.payload 0 1 = 0 →
      rdN c.payload 3 1 ≤ 64 →
      rdN c.payload 1 2 + rdN c.payload 3 1 ≤ 128 →
      Gives (.sbxGetState c) s fun t =>
      t.ok c ((List.range (rdN c.payload 3 1)).map fun i => s.laneInput.sbxRoverEntry (rdN c.payload 1 2 + i)).flatten) ∧
  (∀ (s : State) (c : Cmd) (m : SiteMap), s.takes c opSbxGetState = true →
      c.payload.length = 4 →
      rdN c.payload 3 1 ≠ 0 →
      rdN c.payload 0 1 = 1 →
      s.sbx.map = some m →
      rdN c.payload 1 2 + rdN c.payload 3 1 ≤ m.blocks.length →
      Gives (.sbxGetState c) s fun t =>
      t.ok c ((List.range (rdN c.payload 3 1)).map fun i => s.laneInput.sbxBlockEntry (rdN c.payload 1 2 + i)).flatten) ∧
  (∀ (s : State) (c : Cmd) (m : SiteMap), s.takes c opSbxGetState = true →
      c.payload.length = 4 →
      rdN c.payload 3 1 ≠ 0 →
      rdN c.payload 0 1 = 2 →
      s.sbx.map = some m →
      rdN c.payload 3 1 ≤ 64 →
      rdN c.payload 1 2 + rdN c.payload 3 1 ≤ m.zones.length →
      Gives (.sbxGetState c) s fun t =>
      t.ok c ((List.range (rdN c.payload 3 1)).map fun i => s.laneInput.sbxZoneEntry m (rdN c.payload 1 2 + i)).flatten) ∧
  (∀ (s : State) (c : Cmd) (m : SiteMap), s.takes c opSbxGetState = true →
      c.payload.length = 4 →
      rdN c.payload 3 1 ≠ 0 →
      rdN c.payload 0 1 = 3 →
      s.sbx.map = some m →
      rdN c.payload 1 2 + rdN c.payload 3 1 ≤ m.points.length →
      Gives (.sbxGetState c) s fun t =>
      t.ok c ((List.range (rdN c.payload 3 1)).map fun i => s.laneInput.sbxPointsEntry m (rdN c.payload 1 2 + i)).flatten)

/-- Rounds, route searches, re-routes, landmark images and RA_EN: what each leaves. Where the rules leave a point open it follows
the model's choice of log entries 67 to 71, 171. -/
def Obligations.AllotmentRoundsAndRoutesComplete : Prop :=
  (∀ (s : State), s.lanesRun = true →
      (s.alt.now.any (fun f => s.laneSf == f + 1) = true ∨ (0 < s.alt.sinceRound ∧ s.alt.sinceRound % orOne (s.fld F.ALT_CTL_ROUND_SF) = 0)) →
      s.laneEpoch + 8 * oneMs ≤ s.laneNow →
      s.flag F.ALT_CTL_EN = true →
      s.alt.round = none →
      s.fleetStopped = false →
      s.flag F.ALT_STAT_NO_LMK = false →
      Gives (.allotRoundStart) s fun t =>
      t.alt.round.any (fun r => r.at_ == s.laneEl && decide (r.cols.length ≤ 512) && r.rows.all (fun a => s.boundSlots.contains a) && r.benefit.length == r.rows.length) = true ∧
      t.alt.sinceRound = 0 ∧ t.alt.now = none ∧ t.fld F.ALT_STAT_BUSY = 1) ∧
  (∀ (s : State) (r : Round), s.lanesRun = true →
      (s.alt.now.any (fun f => s.laneSf == f + 1) = true ∨ (0 < s.alt.sinceRound ∧ s.alt.sinceRound % orOne (s.fld F.ALT_CTL_ROUND_SF) = 0)) →
      s.laneEpoch + 8 * oneMs ≤ s.laneNow →
      s.flag F.ALT_CTL_EN = true →
      s.alt.round = some r →
      Gives (.allotRoundStart) s fun t =>
      t.fld F.ALT_CNT_LATE = min (s.fld F.ALT_CNT_LATE + 1) (2 ^ F.ALT_CNT_LATE.width - 1) ∧ t.alt.round = some r ∧ t.alt.tasks = s.alt.tasks ∧ t.alt.sinceRound = 0) ∧
  (∀ (s : State), s.lanesRun = true →
      (s.alt.now.any (fun f => s.laneSf == f + 1) = true ∨ (0 < s.alt.sinceRound ∧ s.alt.sinceRound % orOne (s.fld F.ALT_CTL_ROUND_SF) = 0)) →
      s.laneEpoch + 8 * oneMs ≤ s.laneNow →
      s.flag F.ALT_CTL_EN = true →
      s.alt.round = none →
      (s.fleetStopped = true ∨ s.flag F.ALT_STAT_NO_LMK = true) →
      Gives (.allotRoundStart) s fun t =>
      t.alt.round = none ∧ t.alt.tasks = s.alt.tasks ∧ t.alt.sinceRound = 0 ∧ t.regs = s.regs) ∧
  (∀ (s : State) (r : Round), s.lanesRun = true →
      s.alt.round = some r →
      s.fld (F.ARB_PWR_REQ_GRANT 1) ≠ 0 →
      s.laneEl ≤ r.at_ + max 50 (s.fld F.ALT_ROUND_ROUND_MAX) * oneMs →
      Gives (.allotRoundEnd) s fun t =>
      t.alt.round = none ∧ t.fld F.ALT_STAT_BUSY = 0 ∧ ((s.laneActive && !s.switching) = true → bit t.pend Ev.altRound = true)) ∧
  (∀ (s : State) (n : Nat) (r : Round), s.lanesRun = true →
      s.alt.round = some r →
      r.at_ + max 50 (s.fld F.ALT_ROUND_ROUND_MAX) * oneMs ≤ s.laneEl →
      Gives (.allotRoundTimeout n) s fun t =>
      t.alt.round = none ∧ ((s.laneActive && !s.switching) = true → bit t.pend Ev.altLate = true) ∧ t.fld F.ALT_CNT_LATE = min (s.fld F.ALT_CNT_LATE + 1) (2 ^ F.ALT_CNT_LATE.width - 1)) ∧
  (∀ (s : State) (k : Fin 128) (rt : List Nat) (i : Nat) (u : Nat) (v : Nat) (prop : Bool) (m : SiteMap), s.lanesRun = true →
      s.gated 0x12 = false →
      s.searchOf k.val false = some (i, u, v, prop) →
      s.sbx.map = some m →
      s.shortest m k.val u v ≠ none →
      s.isShortest m k.val u v rt = true →
      rt.length ≤ 512 →
      Gives (.routeSearch k rt) s fun t =>
      t.sbx.reqs = s.sbx.reqs ++ [⟨k.val, (s.task i).prio, prop, m.id, rt, (m.block v).len / 2⟩] ∧ t.task i = { s.task i with search := none } ∧ t.sbx.rovers = s.sbx.rovers) ∧
  (∀ (s : State) (k : Fin 128) (rt : List Nat) (i : Nat) (u : Nat) (v : Nat) (prop : Bool) (m : SiteMap), s.lanesRun = true →
      s.gated 0x12 = false →
      s.searchOf k.val false = some (i, u, v, prop) →
      s.sbx.map = some m →
      s.shortest m k.val u v = none →
      prop = false →
      Gives (.routeSearch k rt) s fun t =>
      t.sbx.reqs = s.sbx.reqs ∧ (t.task i).state = 1 ∧ (t.task i).slot = 255 ∧ t.fld F.ALT_CNT_ROUTE_FAIL = min (s.fld F.ALT_CNT_ROUTE_FAIL + 1) (2 ^ F.ALT_CNT_ROUTE_FAIL.width - 1)) ∧
  (∀ (s : State) (k : Fin 128) (rt : List Nat) (i : Nat) (u : Nat) (v : Nat) (prop : Bool) (m : SiteMap), s.lanesRun = true →
      s.gated 0x12 = false →
      s.searchOf k.val true = some (i, u, v, prop) →
      s.sbx.map = some m →
      s.shortest m k.val u v ≠ none →
      s.isShortest m k.val u v rt = true →
      rt.length ≤ 512 →
      Gives (.routeRefusalRetry k rt) s fun t =>
      t.sbx.reqs = s.sbx.reqs ++ [⟨k.val, (s.task i).prio, prop, m.id, rt, (m.block v).len / 2⟩] ∧ t.task i = { s.task i with search := none } ∧ t.sbx.rovers = s.sbx.rovers) ∧
  (∀ (s : State) (k : Fin 128) (rt : List Nat) (i : Nat) (u : Nat) (v : Nat) (prop : Bool) (m : SiteMap), s.lanesRun = true →
      s.gated 0x12 = false →
      s.searchOf k.val true = some (i, u, v, prop) →
      s.sbx.map = some m →
      s.shortest m k.val u v = none →
      prop = false →
      Gives (.routeRefusalRetry k rt) s fun t =>
      t.sbx.reqs = s.sbx.reqs ∧ (t.task i).state = 1 ∧ (t.task i).slot = 255 ∧ t.fld F.ALT_CNT_ROUTE_FAIL = min (s.fld F.ALT_CNT_ROUTE_FAIL + 1) (2 ^ F.ALT_CNT_ROUTE_FAIL.width - 1)) ∧
  (∀ (s : State) (k : Fin 128) (rt : List Nat) (i : Nat) (u : Nat) (v : Nat) (f : Nat) (m : SiteMap), s.lanesRun = true →
      s.gated 0x12 = false →
      (k.val, f) ∈ s.alt.reroute →
      f < s.laneSf →
      s.current k.val = some i →
      s.currentBlock k.val = some u →
      s.sbx.map = some m →
      ((s.task i).state = 3 ∨ (s.task i).state = 5) →
      v = (if (s.task i).state = 3 then (s.task i).origin else (s.task i).dest) →
      s.shortest m k.val u v ≠ none →
      s.isShortest m k.val u v rt = true →
      rt.length ≤ 512 →
      Gives (.rerouteAnswer k rt) s fun t =>
      t.sbx.reqs = s.sbx.reqs ++ [⟨k.val, (s.task i).prio, false, m.id, rt, (m.block v).len / 2⟩] ∧ t.alt.reroute = s.alt.reroute.filter (fun y => y.1 != k.val)) ∧
  (∀ (s : State) (a : Nat) (i : Nat), a ∈ s.boundSlots →
      s.proposed a = some i →
      Gives (.raEnClear) s fun t =>
      t.fld F.ALT_CTL_RA_EN = 0 ∧ (t.task i).state = 1 ∧ (t.task i).slot = 255) ∧
  (∀ (s : State) (off : Nat) (len : Nat) (p : List Byte) (l : Landmarks), s.lanesRun = true →
      s.alt.lmkLoad = some (off, len) →
      p = bytesAt s.dram off len →
      s.parseLandmarks p = some l →
      s.sbx.map.map (·.id) = some l.mapId →
      Gives (.altLandmarksDone) s fun t =>
      t.alt.lmk = some l ∧ t.alt.lmkLoad = none ∧ t.fld F.ALT_STAT_NO_LMK = 0 ∧ ((s.laneActive && !s.switching) = true → bit t.pend Ev.altRound = true)) ∧
  (∀ (s : State) (off : Nat) (len : Nat) (p : List Byte) (l : Landmarks), s.lanesRun = true →
      s.alt.lmkLoad = some (off, len) →
      p = bytesAt s.dram off len →
      s.parseLandmarks p = some l →
      s.sbx.map.map (·.id) ≠ some l.mapId →
      Gives (.altLandmarksDone) s fun t =>
      t.alt.lmk = s.alt.lmk ∧ t.alt.lmkNext = some l ∧ t.alt.lmkLoad = none ∧ ((s.laneActive && !s.switching) = true → bit t.pend Ev.altRound = true)) ∧
  (∀ (s : State) (off : Nat) (len : Nat) (p : List Byte), s.lanesRun = true →
      s.alt.lmkLoad = some (off, len) →
      p = bytesAt s.dram off len →
      s.parseLandmarks p = none →
      Gives (.altLandmarksDone) s fun t =>
      t.alt = { s.alt with lmkLoad := none } ∧ ((s.laneActive && !s.switching) = true → bit t.pend Ev.altRound = true))

/-- The auction of a round gives no task to two rovers and no rover a task it may not take. Where the rules leave a point open it follows
the model's choice of log entries 67, 68, 171. -/
def Obligations.AuctionAssignsPermittedColumnsOnce : Prop :=
  (∀ (n : Nat) (rows : List (List (Option Int))) (k : Nat) (i : Nat) (j : Nat) (c : Nat), i ≠ j →
      (auction n rows k)[i]? = some (some c) →
      (auction n rows k)[j]? ≠ some (some c)) ∧
  (∀ (n : Nat) (rows : List (List (Option Int))) (k : Nat) (i : Nat) (c : Nat), (auction n rows k)[i]? = some (some c) →
      c < n ∧ (rows.getD i []).getD c none ≠ none)

/-- ALT commands: tasks added, cancelled and read, landmark loads, ALT_ROUND_NOW. Where the rules leave a point open it follows
the model's choice of log entries 65, 71, 171. -/
def Obligations.AllotmentCommandsComplete : Prop :=
  (∀ (s : State) (c : Cmd) (i : Nat), s.takes c opAltTaskAdd = true →
      c.payload.length = 32 →
      rdN c.payload 2 1 ≤ 5 →
      rdN c.payload 3 1 ≤ 7 →
      taskBlockOk (rdN c.payload 6 2) = true →
      taskBlockOk (rdN c.payload 8 2) = true →
      (rdN c.payload 8 2 ≠ noBlock ∨ rdN c.payload 2 1 = tyCharge) →
      s.freeTask = some i →
      Gives (.altTaskAdd c) s fun t =>
      t.ok c (le 2 i ++ zeros 2) ∧ t.task i = { state := 1, type := rdN c.payload 2 1, prio := rdN c.payload 3 1, cap := rdN c.payload 4 2, origin := rdN c.payload 6 2, dest := rdN c.payload 8 2, workO := rdN c.payload 10 2, workD := rdN c.payload 12 2, slot := 255, deadline := rdN c.payload 16 8, hostRef := rdN c.payload 24 4, anyBay := rdN c.payload 8 2 == noBlock }) ∧
  (∀ (s : State) (c : Cmd), s.takes c opAltTaskCancel = true →
      c.payload.length = 4 →
      (rdN c.payload 0 2) ≤ 4095 →
      rdN c.payload 2 1 = 0 →
      (s.task (rdN c.payload 0 2)).state ≠ 0 →
      Gives (.altTaskCancel c) s fun t =>
      t.ok c (le 1 (s.task (rdN c.payload 0 2)).state ++ zeros 3) ∧ t.task (rdN c.payload 0 2) = {} ∧ ((s.laneActive && !s.switching) = true → bit t.pend Ev.altTask = true)) ∧
  (∀ (s : State) (c : Cmd), s.takes c opAltTaskCancel = true →
      c.payload.length = 4 →
      (rdN c.payload 0 2) ≤ 4095 →
      rdN c.payload 2 1 = 1 →
      (s.task (rdN c.payload 0 2)).state = 4 →
      Gives (.altTaskCancel c) s fun t =>
      t.ok c (le 1 4 ++ zeros 3) ∧ (t.task (rdN c.payload 0 2)).state = (if (s.task (rdN c.payload 0 2)).origin = (s.task (rdN c.payload 0 2)).dest then 6 else 5)) ∧
  (∀ (s : State) (c : Cmd), s.takes c opAltTaskCancel = true →
      c.payload.length = 4 →
      (rdN c.payload 0 2) ≤ 4095 →
      rdN c.payload 2 1 = 1 →
      (s.task (rdN c.payload 0 2)).state = 6 →
      (s.task (rdN c.payload 0 2)).type ≠ tyPark →
      Gives (.altTaskCancel c) s fun t =>
      t.ok c (le 1 6 ++ zeros 3) ∧ t.task (rdN c.payload 0 2) = {}) ∧
  (∀ (s : State) (c : Cmd), s.takes c opAltTaskCancel = true →
      c.payload.length = 4 →
      (rdN c.payload 0 2) ≤ 4095 →
      rdN c.payload 2 1 ≤ 1 →
      ((s.task (rdN c.payload 0 2)).state = 0 ∨ (rdN c.payload 2 1 = 1 ∧ (s.task (rdN c.payload 0 2)).state ≠ 4 ∧ ((s.task (rdN c.payload 0 2)).state ≠ 6 ∨ (s.task (rdN c.payload 0 2)).type = tyPark))) →
      Gives (.altTaskCancel c) s fun t =>
      t.ok c (le 1 (s.task (rdN c.payload 0 2)).state ++ zeros 3) ∧ t.alt = s.alt) ∧
  (∀ (s : State) (c : Cmd), s.takes c opAltTaskGet = true →
      c.payload.length = 4 →
      rdN c.payload 2 1 ≠ 0 →
      rdN c.payload 2 1 ≤ 40 →
      (rdN c.payload 0 2) + rdN c.payload 2 1 ≤ 4096 →
      Gives (.altTaskGet c) s fun t =>
      t.ok c ((List.range (rdN c.payload 2 1)).map fun k => (s.task ((rdN c.payload 0 2) + k)).bytes ((rdN c.payload 0 2) + k)).flatten ∧ t.alt = s.alt) ∧
  (∀ (s : State) (c : Cmd), s.takes c opAltLandmarksLoad = true →
      c.payload.length = 8 →
      rdN c.payload 0 4 % 4 = 0 →
      rdN c.payload 0 4 + rdN c.payload 4 4 ≤ 0x08000000 →
      Gives (.altLandmarksLoad c) s fun t =>
      t.answered c ⟨1, []⟩ ∧ t.alt.lmkLoad = some (rdN c.payload 0 4, rdN c.payload 4 4)) ∧
  (∀ (s : State) (c : Cmd), s.takes c opAltRoundNow = true →
      c.payload.length = 4 →
      Gives (.altRoundNow c) s fun t =>
      t.ok c (le 1 1 ++ zeros 3) ∧ t.alt = { s.alt with now := some s.laneInput.laneSf })

/-- Profiles, the commit point, word boundaries, cam tables, limits and position records. Where the rules leave a point open it follows
the model's choice of log entries 72, 73, 151, 169. -/
def Obligations.TimetablerCommitsAndProfilesComplete : Prop :=
  (∀ (s : State) (j : Job) (l : List Job) (m : SiteMap), s.lanesRun = true →
      s.ttb.jobs = j :: l →
      j.profiled = true →
      j.planned ≠ some s.nextCommit →
      s.noWords j.slot = 0 →
      s.sbx.map = some m →
      Gives (.profilePlan) s fun t =>
      t.ttb.jobs = { j with planned := some s.nextCommit, plan := some (t.prof j.slot) } :: l ∧ (t.prof j.slot).words.length = s.npw ∧ (t.prof j.slot).words.all (fun w => decide (w ≤ s.camSize - 1)) = true ∧
      (t.prof j.slot).authId = j.auth.id ∧ (t.prof j.slot).npw = s.npw ∧ (t.prof j.slot).pw = orOne (s.fld F.TTB_CTL_PW_MS)) ∧
  (∀ (s : State) (j : Job) (l : List Job), s.lanesRun = true →
      s.ttb.jobs = j :: l →
      j.profiled = true →
      j.planned ≠ some s.nextCommit →
      (s.noWords j.slot ≠ 0 ∨ s.sbx.map = none) →
      Gives (.profilePlan) s fun t =>
      t.ttb.jobs = { j with planned := some s.nextCommit, plan := some (t.prof j.slot) } :: l ∧ (t.prof j.slot).words = [] ∧ (t.prof j.slot).npw = 0 ∧ (t.prof j.slot).authId = j.auth.id) ∧
  (∀ (s : State), s.lanesRun = true →
      (s.ttb.jobs.all (fun j => !(j.profiled && j.planned != some s.nextCommit)) = true) →
      Gives (.profilePlan) s fun t =>
      t = s) ∧
  (∀ (s : State) (us : Nat) (cp : Nat), s.lanesRun = true →
      cp = s.t0At s.laneSf + 14 * oneMs →
      cp ≤ s.laneNow →
      s.ttb.commitAt < cp →
      Gives (.authorityCommit us) s fun t =>
      t.ttb.commitAt = cp ∧ t.ttb.jobs = s.ttb.jobs.filter (fun j => (j.profiled && j.planned != some cp) || (s.flag F.UPD_STAT_HOLD && !j.preview)) ∧ t.fld F.TTB_LOAD_LAST_US = min 65535 us) ∧
  (∀ (s : State) (us : Nat) (cp : Nat) (j : Job) (a : Auth), s.lanesRun = true →
      cp = s.t0At s.laneSf + 14 * oneMs →
      cp ≤ s.laneNow →
      s.ttb.commitAt < cp →
      s.ttb.jobs = [j] →
      j.preview = false →
      (j.auth.revoked = true ∨ j.planned = some cp) →
      s.flag F.UPD_STAT_HOLD = false →
      (s.sx j.slot).auth = some a →
      a.id = j.auth.id →
      a.expiry = none →
      j.auth.expiry = none →
      Gives (.authorityCommit us) s fun t =>
      (t.sx j.slot).auth = some { a with expiry := some (cp + s.authNs) } ∧ (t.bound j.slot).sections.getLast? = some ⟨j.cls, false, j.auth.id, s.authBody j (cp + s.authNs)⟩ ∧ t.ttb.jobs = []) ∧
  (∀ (s : State) (k : Fin 128), s.lanesRun = true →
      (s.prof k.val).state = 1 →
      (s.prof k.val).tRef + (orOne (s.prof k.val).pw * oneMs) ≤ s.laneNow →
      (s.prof k.val).words.length ≤ (s.laneNow - (s.prof k.val).t1) / (orOne (s.prof k.val).pw * oneMs) →
      Gives (.profileWordBoundary k) s fun t =>
      (t.prof k.val).state = 2 ∧ (t.prof k.val).n = 0 ∧ (t.prof k.val).v = s.camAt 0 ∧ (t.prof k.val).tRef = (s.prof k.val).t1 + (s.prof k.val).words.length * (orOne (s.prof k.val).pw * oneMs)) ∧
  (∀ (s : State) (k : Fin 128) (i : Nat), s.lanesRun = true →
      (s.prof k.val).state = 1 →
      (s.prof k.val).tRef + (orOne (s.prof k.val).pw * oneMs) ≤ s.laneNow →
      i = (s.laneNow - (s.prof k.val).t1) / (orOne (s.prof k.val).pw * oneMs) →
      i < (s.prof k.val).words.length →
      Gives (.profileWordBoundary k) s fun t =>
      (t.prof k.val).state = 1 ∧ (t.prof k.val).tRef = (s.prof k.val).t1 + i * (orOne (s.prof k.val).pw * oneMs) ∧ (t.prof k.val).n = (s.prof k.val).words.getD (i - 1) 0 ∧
      (t.prof k.val).v = s.camAt ((s.prof k.val).words.getD (i - 1) 0) ∧ (t.prof k.val).words = (s.prof k.val).words) ∧
  (∀ (s : State) (c : Cmd), s.takes c opTtbCamStage = true →
      c.payload.length = 8 →
      rdN c.payload 0 4 % 4 = 0 →
      rdN c.payload 0 4 + rdN c.payload 4 4 ≤ 0x08000000 →
      Gives (.ttbCamStage c) s fun t =>
      t.answered c ⟨1, []⟩ ∧ t.ttb.staging = some (rdN c.payload 0 4, rdN c.payload 4 4)) ∧
  (∀ (s : State) (off : Nat) (len : Nat) (p : List Byte), s.lanesRun = true →
      s.ttb.staging = some (off, len) →
      p = bytesAt s.dram off len →
      checkCam p s.camVersion = none →
      Gives (.ttbCamStageDone) s fun t =>
      t.ttb.staged = some ⟨rdN p 8 2, (List.range (256 * rdN p 6 2)).map fun i => rdN p (16 + 2 * i) 2⟩ ∧ t.ttb.staging = none ∧ t.ttb.cam = s.ttb.cam ∧ t.reg R.TTB_CAM_ERR = 0 ∧
      t.fld F.TTB_CAM_STAGED = rdN p 8 2 ∧ ((s.laneActive && !s.switching) = true → bit t.pend Ev.ttbCam = true)) ∧
  (∀ (s : State) (off : Nat) (len : Nat) (code : Nat) (i : Nat) (p : List Byte), s.lanesRun = true →
      s.ttb.staging = some (off, len) →
      p = bytesAt s.dram off len →
      checkCam p s.camVersion = some (code, i) →
      Gives (.ttbCamStageDone) s fun t =>
      t.ttb.staged = s.ttb.staged ∧ t.ttb.staging = none ∧ t.fld F.TTB_CAM_ERR_CODE = code ∧ ((s.laneActive && !s.switching) = true → bit t.pend Ev.ttbCam = true)) ∧
  (∀ (s : State) (c : Cmd) (m : Cam), s.takes c opTtbCamActivate = true →
      c.payload.length = 4 →
      s.ttb.staged = some m →
      m.version = rdN c.payload 0 2 →
      s.fleetHeld = true →
      Gives (.ttbCamActivate c) s fun t =>
      t.ok c (le 2 s.camVersion ++ zeros 2) ∧ t.ttb.activate = some m ∧ t.ttb.cam = s.ttb.cam) ∧
  (∀ (s : State) (c : Cmd) (l : TtbClass), s.takes c opTtbSetLimits = true →
      c.payload.length = 16 →
      rdN c.payload 1 1 ≤ 7 →
      rdN c.payload 0 1 = 0 →
      s.ttbClass (rdN c.payload 1 1) = l →
      Gives (.ttbSetLimits c) s fun t =>
      t.ok c (le 2 l.vmax ++ le 2 l.amax ++ le 2 l.dmax ++ le 2 l.dmaxE ++ le 2 l.jmax ++ le 1 (s.fld F.TTB_CTL_PW_MS) ++ le 1 0) ∧ t.ttb = s.ttb) ∧
  (∀ (s : State) (c : Cmd) (l : TtbClass), s.takes c opTtbSetLimits = true →
      c.payload.length = 16 →
      rdN c.payload 1 1 ≤ 7 →
      rdN c.payload 0 1 = 1 →
      l = ⟨rdN c.payload 4 2, rdN c.payload 6 2, rdN c.payload 8 2, rdN c.payload 10 2, rdN c.payload 12 2⟩ →
      l.ok = true →
      Gives (.ttbSetLimits c) s fun t =>
      t.ok c (le 2 l.vmax ++ le 2 l.amax ++ le 2 l.dmax ++ le 2 l.dmaxE ++ le 2 l.jmax ++ le 1 (s.fld F.TTB_CTL_PW_MS) ++ le 1 0) ∧ t.ttbClass (rdN c.payload 1 1) = l) ∧
  (∀ (s : State) (c : Cmd) (l : TtbClass), s.takes c opTtbSetLimits = true →
      c.payload.length = 16 →
      rdN c.payload 1 1 ≤ 7 →
      rdN c.payload 0 1 = 2 →
      rdN c.payload 2 1 ≤ 127 →
      s.ttbClass (rdN c.payload 1 1) = l →
      Gives (.ttbSetLimits c) s fun t =>
      t.ok c (le 2 l.vmax ++ le 2 l.amax ++ le 2 l.dmax ++ le 2 l.dmaxE ++ le 2 l.jmax ++ le 1 (s.fld F.TTB_CTL_PW_MS) ++ le 1 0) ∧ Tbl.get 0 t.ttb.clsOf (rdN c.payload 2 1) = rdN c.payload 1 1) ∧
  (∀ (s : State) (c : Cmd) (l : TtbClass), s.takes c opTtbSetLimits = true →
      c.payload.length = 16 →
      rdN c.payload 1 1 ≤ 7 →
      rdN c.payload 0 1 = 3 →
      10 ≤ rdN c.payload 3 1 →
      rdN c.payload 3 1 ≤ 250 →
      s.fleetHeld = true →
      s.ttbClass (rdN c.payload 1 1) = l →
      Gives (.ttbSetLimits c) s fun t =>
      t.ok c (le 2 l.vmax ++ le 2 l.amax ++ le 2 l.dmax ++ le 2 l.dmaxE ++ le 2 l.jmax ++ le 1 (s.fld F.TTB_CTL_PW_MS) ++ le 1 0) ∧ t.ttb.pwPend = some (rdN c.payload 3 1) ∧ t.fld F.TTB_CTL_PW_MS = s.fld F.TTB_CTL_PW_MS) ∧
  (∀ (s : State) (c : Cmd), s.takes c opTtbGetProfile = true →
      c.payload.length = 4 →
      rdN c.payload 0 1 ≤ 127 →
      Gives (.ttbGetProfile c) s fun t =>
      t.ok c (s.profBytes (rdN c.payload 0 1) ++ (((s.prof (rdN c.payload 0 1)).words.take (s.prof (rdN c.payload 0 1)).npw).map (le 2)).flatten) ∧ t.ttb = s.ttb)

/-- Every millisecond of a plan keeps the acceleration, jerk and speed limits, and the plan stands still at its stop instant. Where the rules leave a point open it follows
the model's choice of log entries 169. -/
def Obligations.TimetablerPlansKeepTheirLimits : Prop :=
  (∀ (k : PlanLimits) (n : Nat) (m : Motion), k.sharp = false →
      0 ≤ k.amax →
      0 ≤ k.dmax →
      0 ≤ k.jmax →
      -k.dmax ≤ m.a →
      m.a ≤ k.amax →
      -k.dmax ≤ (k.next n m).a ∧ (k.next n m).a ≤ k.amax ∧ (((k.next n m).a - m.a ≤ k.jmax ∧ m.a - (k.next n m).a ≤ k.jmax) ∨ ((k.next n m).a = 0 ∧ (k.next n m).v = 0))) ∧
  (∀ (k : PlanLimits) (n : Nat) (f : Nat) (i : Nat) (m : Motion) (p : Motion) (l : Nat), k.stops f n m = true →
      (k.trace l n m)[i]? = some p →
      0 ≤ p.v ∧ p.v ≤ k.cap p ∧ (k.stopMs ≤ n + i + 1 → p.v = 0))

/-- Superframes, beacons, downlinks, bulk-down runs and join answers: frames sent and bindings. Where the rules leave a point open it follows
the model's choice of log entries 80, 83, 86 to 88, 172, 176, 186. -/
def Obligations.SuperframesAndDownlinksComplete : Prop :=
  (∀ (s : State), s.serving = true →
      s.rad.t0 ≠ some s.t0 →
      Gives (.superframeStart) s fun t =>
      t.rad.t0 = some s.t0 ∧ t.alt.sinceRound = s.alt.sinceRound + 1 ∧ (∀ a ∈ s.boundSlots, (t.bound a).heard = false) ∧
      ∀ n ∈ List.range 4, s.mayTx n = true → t.flag (F.RAD_P_STAT_UP n) = true ∧ (t.outs.drop s.outs.length).any (fun o => match o with | .radio q 0 _ _ => q == n | _ => false) = true) ∧
  (∀ (s : State) (k : Fin 4), s.serving = true →
      s.mayTx k.val = true →
      s.flag (F.RAD_P_STAT_FAULT k.val) = false →
      s.flag (F.RAD_P_STAT_UP k.val) = false →
      s.now < s.t0 + 312500 →
      Gives (.firstBeacon k) s fun t =>
      t.flag (F.RAD_P_STAT_UP k.val) = true ∧ (t.outs.drop s.outs.length).any (fun o => match o with | .radio q 0 _ _ => q == k.val | _ => false) = true) ∧
  (∀ (s : State) (k : Fin 128) (f : Nat) (t0 : Nat) (x : List Section × List Section), s.frame = some (f, t0) →
      (s.bound k.val).bound = true →
      (s.bound k.val).lost = false →
      (s.bound k.val).downF ≠ some f →
      s.awake k.val f = true →
      slotAt t0 (s.bound k.val).dn.1 ≤ s.now →
      s.mayTx (s.bound k.val).port = true →
      s.laneActive = true →
      s.serving = true →
      s.fld F.TIM_STAT_STATE ≠ 0 →
      (s.bound k.val).move = none →
      s.rad.pend = none →
      s.switching = false →
      (x = fitSections (runCapacity (s.fld (F.RAD_P_CFG_RATE (s.bound k.val).port)) (s.bound k.val).dn.2 - (28 + if (s.bound k.val).hops = 0 then 0 else 4)) (sortBy (fun u v : Section => decide (u.cls < v.cls)) ((s.bound k.val).sections.filter fun y => y.preview || !s.flag (F.RAD_P_STAT_FAULT (s.bound k.val).port)))) →
      Gives (.downlinkRun k) s fun t =>
      s.sends t (s.bound k.val).port (s.bound k.val).dn.1 (s.radioFrame ftDOWN k.val (f % 65536) (s.bound k.val).hops (s.ctlBlock k.val x.1.length ++ (x.1.map (·.body)).flatten)) = true ∧ (t.bound k.val).downF = some f ∧ ((s.bound k.val).evict = none → (t.bound k.val).evict = none)) ∧
  (∀ (s : State) (k : Fin 128) (f : Nat) (t0 : Nat) (m : Move), s.frame = some (f, t0) →
      (s.bound k.val).bound = true →
      (s.bound k.val).lost = false →
      (s.bound k.val).downF ≠ some f →
      s.awake k.val f = true →
      slotAt t0 (s.bound k.val).dn.1 ≤ s.now →
      s.mayTx (s.bound k.val).port = true →
      s.laneActive = true →
      s.serving = true →
      s.fld F.TIM_STAT_STATE ≠ 0 →
      (s.bound k.val).move = some m →
      s.switching = false →
      Gives (.downlinkRun k) s fun t =>
      s.sends t (s.bound k.val).port (s.bound k.val).dn.1 (s.radioFrame ftASSIGN k.val (f % 65536) (s.bound k.val).hops (s.assignBody k.val (s.bound k.val).nonce 2 m.port m.dn m.up (s.fld F.RAD_SF_TABLE_VER) ((f + 1) % 65536) (s.tableOf m.port))) = true ∧
      (t.bound k.val).downF = some f ∧ (t.bound k.val).move = some { m with sent := true, at_ := s.t0At (f + 1) } ∧ (t.bound k.val).lost = false ∧ (t.bound k.val).misses = 0) ∧
  (∀ (s : State) (k : Fin 128) (f : Nat) (t0 : Nat) (p : PendTables) (r : (Nat × Nat) × (Nat × Nat)), s.frame = some (f, t0) →
      (s.bound k.val).bound = true →
      (s.bound k.val).lost = false →
      (s.bound k.val).downF ≠ some f →
      s.awake k.val f = true →
      slotAt t0 (s.bound k.val).dn.1 ≤ s.now →
      s.mayTx (s.bound k.val).port = true →
      s.laneActive = true →
      s.serving = true →
      s.fld F.TIM_STAT_STATE ≠ 0 →
      (s.bound k.val).move = none →
      s.switching = false →
      s.rad.pend = some p →
      r = Tbl.get ((s.bound k.val).dn, (s.bound k.val).up) p.runs k.val →
      Gives (.downlinkRun k) s fun t =>
      s.sends t (s.bound k.val).port (s.bound k.val).dn.1 (s.radioFrame ftASSIGN k.val (f % 65536) (s.bound k.val).hops (s.assignBody k.val (s.bound k.val).nonce 0 (s.bound k.val).port r.1 r.2 p.ver (s.fld F.RAD_SF_PEND_EFF_SFN) (Tbl.get (s.tableOf (s.bound k.val).port) p.tables (s.bound k.val).port))) = true ∧ (t.bound k.val).downF = some f ∧ (t.bound k.val).misses = 0) ∧
  (∀ (s : State) (k : Fin 4) (f : Nat) (t0 : Nat) (g : Grant) (b : List Byte) (rest : List (Nat × List Byte)), s.frame = some (f, t0) →
      ((s.port k.val).grants.find? (fun z => z.kind == 0) = some g) →
      slotAt t0 g.start ≤ s.now →
      s.serving = true →
      s.mayTx k.val = true →
      s.snp.replies = (g.slot, b) :: rest →
      Gives (.bulkDownRun k) s fun t =>
      t.snp.replies = rest ∧ s.sends t k.val g.start (s.radioFrame ftBULK_DN g.slot (f % 65536) 0 (le 1 2 ++ le 1 0 ++ b)) = true ∧ (t.port k.val).grants = (s.port k.val).grants.erase g) ∧
  (∀ (s : State) (k : Fin 4) (f : Nat) (t0 : Nat) (g : Grant) (n : Nat) (d : List Byte), s.frame = some (f, t0) →
      ((s.port k.val).grants.find? (fun z => z.kind == 0) = some g) →
      slotAt t0 g.start ≤ s.now →
      s.serving = true →
      s.mayTx k.val = true →
      (s.snp.replies.all (fun y => y.1 != g.slot) = true) →
      (s.bound g.slot).camVer ≠ s.camVersion →
      n = runCapacity (s.fld (F.RAD_P_CFG_RATE k.val)) g.span - 30 →
      d = s.camBytes (s.bound g.slot).camOff n →
      Gives (.bulkDownRun k) s fun t =>
      s.sends t k.val g.start (s.radioFrame ftBULK_DN g.slot (f % 65536) 0 (le 1 1 ++ le 1 0 ++ le 2 s.camVersion ++ le 4 (s.bound g.slot).camOff ++ le 2 d.length ++ d)) = true ∧
      (t.bound g.slot).camOff = (if n = 0 ∨ 20 + 2 * s.camSize ≤ (s.bound g.slot).camOff + n then 0 else (s.bound g.slot).camOff + n)) ∧
  (∀ (s : State) (k : Fin 4) (f : Nat) (t0 : Nat) (g : Grant) (y : Answer) (rest : List Answer), s.frame = some (f, t0) →
      ((s.port k.val).grants.find? (fun z => z.kind == 3) = some g) →
      slotAt t0 g.start ≤ s.now →
      s.serving = true →
      s.mayTx k.val = true →
      (s.port k.val).answers = y :: rest →
      (y.result = 1 ∨ (s.bound y.slot).bound = false) →
      Gives (.joinAnswer k) s fun t =>
      (t.port k.val).answers = rest ∧ t.fld (F.RAD_JOIN_CNT_REFUSED) = min (s.fld (F.RAD_JOIN_CNT_REFUSED) + 1) (2 ^ (F.RAD_JOIN_CNT_REFUSED).width - 1) ∧
      s.sends t k.val g.start (s.radioFrame ftASSIGN 255 (f % 65536) 0 (le 8 y.unit ++ le 4 y.nonce ++ le 1 1 ++ le 1 255 ++ le 1 k.val ++ zeros 12 ++ le 2 (s.fld F.RAD_SF_TABLE_VER) ++ le 2 f ++ le 1 0)) = true) ∧
  (∀ (s : State) (k : Fin 4) (f : Nat) (t0 : Nat) (g : Grant) (y : Answer) (rest : List Answer) (b : Binding), s.frame = some (f, t0) →
      ((s.port k.val).grants.find? (fun z => z.kind == 3) = some g) →
      slotAt t0 g.start ≤ s.now →
      s.serving = true →
      s.mayTx k.val = true →
      (s.port k.val).answers = y :: rest →
      y.result ≠ 1 →
      s.bound y.slot = b →
      b.bound = true →
      Gives (.joinAnswer k) s fun t =>
      (t.port k.val).answers = rest ∧ t.fld (F.RAD_JOIN_CNT_ACCEPTED) = min (s.fld (F.RAD_JOIN_CNT_ACCEPTED) + 1) (2 ^ (F.RAD_JOIN_CNT_ACCEPTED).width - 1) ∧ (t.bound y.slot).joined = true ∧ (t.bound y.slot).lost = false ∧ bit t.pend Ev.radJoin = true ∧
      (t.outs.drop s.outs.length).any (s.isFrame k.val g.start (s.radioFrame ftASSIGN y.slot (f % 65536) 0 (s.assignBody y.slot y.nonce y.result b.port b.dn b.up (s.fld F.RAD_SF_TABLE_VER) (f % 65536) (s.tableOf b.port)))) = true)

/-- Uplinks, joins, misses, evictions, table switches, armed stop frames and STP_TX repeats. Where the rules leave a point open it follows
the model's choice of log entries 76, 80, 81, 84, 85, 89. -/
def Obligations.UplinksTablesAndStopFramesComplete : Prop :=
  (∀ (s : State) (k : Fin 4) (p : List Byte) (f : RxFrame) (rxts : Nat) (rssi : Int), s.flag (F.RAD_P_CFG_EN k.val) = true →
      s.flag F.RAD_CTL_EN = true →
      s.flag (F.RAD_P_STAT_SLEEP k.val) = false →
      s.pwr.hubReady = true →
      s.rxFrame p = some f →
      f.tagOk = true →
      f.ftype = ftUP →
      f.up = true →
      (s.bound f.slot).bound = true →
      12 ≤ f.body.length →
      f.flood = false →
      s.anyLane = true →
      Gives (.upFrameReceive k p rxts rssi) s fun t =>
      (t.bound f.slot).joined = true ∧ (t.bound f.slot).upCount = min 65535 ((s.bound f.slot).upCount + 1) ∧ (t.bound f.slot).rssi = rssi ∧ (t.bound f.slot).syncDrift = rdI f.body 11 1 ∧ (t.bound f.slot).camVer = rdN f.body 4 2 ∧
      (s.frame.any (fun y => y.1 % 65536 == f.sfn) = true → (t.bound f.slot).heard = true ∧ (t.bound f.slot).misses = 0) ∧ t.time.inputSeq = (s.time.inputSeq + 1) % 2 ^ 32 ∧
      (t.prof f.slot).camVer = rdN f.body 4 2 ∧ t.fld (F.RAD_P_CNT1_RX_OK k.val) = min (s.fld (F.RAD_P_CNT1_RX_OK k.val) + 1) (2 ^ (F.RAD_P_CNT1_RX_OK k.val).width - 1)) ∧
  (∀ (s : State) (k : Fin 4) (p : List Byte) (f : RxFrame) (a : Nat), s.flag (F.RAD_P_CFG_EN k.val) = true →
      s.flag F.RAD_CTL_EN = true →
      s.flag (F.RAD_P_STAT_SLEEP k.val) = false →
      s.pwr.hubReady = true →
      s.rxFrame p = some f →
      f.tagOk = true →
      f.ftype = ftJOIN →
      f.body.length = 16 →
      s.flag F.RAD_CTL_JOIN_EN = true →
      s.fld F.TIM_STAT_STATE ≠ 0 →
      s.slotOf (rdN f.body 0 8) = some a →
      Gives (.joinReceive k p) s fun t =>
      (t.port k.val).answers = (s.port k.val).answers ++ [⟨k.val, rdN f.body 0 8, rdN f.body 12 4, if (s.bound a).port = k.val then 0 else 2, a, bit (rdN f.body 11 1) 0⟩] ∧
      (t.bound a).nonce = rdN f.body 12 4 ∧ (t.bound a).camVer = rdN f.body 8 2 ∧ (t.bound a).joined = (s.bound a).joined) ∧
  (∀ (s : State) (k : Fin 4) (p : List Byte) (f : RxFrame), s.flag (F.RAD_P_CFG_EN k.val) = true →
      s.flag F.RAD_CTL_EN = true →
      s.flag (F.RAD_P_STAT_SLEEP k.val) = false →
      s.pwr.hubReady = true →
      s.rxFrame p = some f →
      f.tagOk = true →
      f.ftype = ftJOIN →
      f.body.length = 16 →
      s.flag F.RAD_CTL_JOIN_EN = true →
      s.fld F.TIM_STAT_STATE ≠ 0 →
      s.slotOf (rdN f.body 0 8) = none →
      Gives (.joinReceive k p) s fun t =>
      (t.port k.val).answers = (s.port k.val).answers ++ [⟨k.val, rdN f.body 0 8, rdN f.body 12 4, 1, 255, bit (rdN f.body 11 1) 0⟩] ∧ bit t.pend Ev.radJoin = true ∧ t.rad.rovers = s.rad.rovers) ∧
  (∀ (s : State) (k : Fin 128) (f : Nat) (t0 : Nat), s.frame = some (f, t0) →
      (s.bound k.val).bound = true →
      (s.bound k.val).joined = true →
      (s.bound k.val).lost = false →
      (s.bound k.val).heard = false →
      (s.bound k.val).missF ≠ some f →
      s.awake k.val f = true →
      t0 + s.sfNs ≤ s.now →
      s.serving = true →
      (s.bound k.val).misses + 1 < s.fld F.RAD_GUARD_MISS_LOST →
      Gives (.uplinkMiss k) s fun t =>
      (t.bound k.val).misses = (s.bound k.val).misses + 1 ∧ (t.bound k.val).missF = some f ∧ (t.bound k.val).lost = false ∧ (t.bound k.val).g0 = (if (s.bound k.val).misses + 1 = s.fld F.RAD_GUARD_MISS_DBL then 12 else (s.bound k.val).g0)) ∧
  (∀ (s : State) (k : Fin 128) (f : Nat) (t0 : Nat), s.frame = some (f, t0) →
      (s.bound k.val).bound = true →
      (s.bound k.val).joined = true →
      (s.bound k.val).lost = false →
      (s.bound k.val).heard = false →
      (s.bound k.val).missF ≠ some f →
      s.awake k.val f = true →
      t0 + s.sfNs ≤ s.now →
      s.serving = true →
      s.fld F.RAD_GUARD_MISS_LOST ≤ (s.bound k.val).misses + 1 →
      (s.bound k.val).evict = none →
      Gives (.uplinkMiss k) s fun t =>
      (t.bound k.val).lost = true ∧ (t.bound k.val).bound = true ∧ (t.bound k.val).misses = (s.bound k.val).misses + 1 ∧ bit t.pend Ev.radLost = true) ∧
  (∀ (s : State) (k : Fin 128), (s.bound k.val).bound = true →
      ((s.bound k.val).evict = some 0 ∨ ((s.bound k.val).evict.isSome = true ∧ (s.bound k.val).lost = true)) →
      Gives (.evictionComplete k) s fun t =>
      (t.bound k.val) = {} ∧ t.snap k.val = none ∧ t.time.inputSeq = (s.time.inputSeq + 1) % 2 ^ 32) ∧
  (∀ (s : State) (p : PendTables), s.rad.pend = some p →
      p.at_ ≤ s.now →
      (s.now < p.at_ + superframeNs p.n ∨ (s.now - gpsEpoch) % orOne (superframeNs p.n) < 312500) →
      s.serving = true →
      Gives (.slotTableSwitch) s fun t =>
      t.rad.pend = none ∧ t.fld F.RAD_SF_TABLE_VER = p.ver % 2 ^ F.RAD_SF_TABLE_VER.width ∧ t.fld F.RAD_SF_NSLOT = p.n % 2 ^ F.RAD_SF_NSLOT.width ∧ t.fld F.RAD_SF_PEND_PENDING = 0 ∧
      (∀ a ∈ s.boundSlots, ((t.bound a).dn, (t.bound a).up) = Tbl.get ((s.bound a).dn, (s.bound a).up) p.runs a) ∧ bit t.pend Ev.radTable = true) ∧
  (∀ (s : State) (k : Fin 4) (f : List Byte) (st : Nat), s.portReady k.val = true →
      f = s.nextStopFrame →
      bit st 3 = true →
      bit st 5 = false →
      Gives (.stopFrameArm k (some (f, st))) s fun t =>
      (t.port k.val).armed = s.nextStopFrame ∧ t.fld (F.RAD_P_STAT_ARM_OK k.val) = 1 ∧ t.fld (F.RAD_P_STAT_FAULT k.val) = 0 ∧
      t.fld (F.RAD_P_ARM_STOP_CNT k.val) = (s.fld F.STP_CNT_STOP_CNT + 1) % 2 ^ 32 ∧ .xcvr k.val "ARM_STOP" (le 1 s.nextStopFrame.length ++ s.nextStopFrame) ∈ t.outs) ∧
  (∀ (s : State) (k : Fin 4) (b : ReadBack), s.portReady k.val = true →
      (b = none ∨ (b.any (fun y => y.1 != s.nextStopFrame || !bit y.2 3 || bit y.2 5)) = true) →
      Gives (.stopFrameArm k b) s fun t =>
      t.fld (F.RAD_P_STAT_FAULT k.val) = 1 ∧ t.fld (F.RAD_P_STAT_ARM_OK k.val) = 0 ∧ (s.flag (F.RAD_P_STAT_FAULT k.val) = false → bit t.pend Ev.radPort = true)) ∧
  (∀ (s : State) (k : Fin 4) (f : List Byte) (st : Nat), s.portReady k.val = true →
      (s.port k.val).armed ≠ [] →
      f = (s.port k.val).armed →
      bit st 3 = true →
      bit st 5 = false →
      Gives (.armReadback k (some (f, st))) s fun t =>
      t.fld (F.RAD_P_STAT_FAULT k.val) = 0 ∧ t.fld (F.RAD_P_STAT_ARM_OK k.val) = (if f = s.nextStopFrame then 1 else 0) ∧ (s.flag (F.RAD_P_STAT_FAULT k.val) = true → bit t.pend Ev.radPort = true)) ∧
  (∀ (s : State) (k : Fin 4) (b : ReadBack), s.portReady k.val = true →
      (s.port k.val).armed ≠ [] →
      (b = none ∨ (b.any (fun y => y.1 != (s.port k.val).armed || !bit y.2 3 || bit y.2 5)) = true) →
      Gives (.armReadback k b) s fun t =>
      t.fld (F.RAD_P_STAT_FAULT k.val) = 1 ∧ t.fld (F.RAD_P_STAT_ARM_OK k.val) = 0) ∧
  (∀ (s : State) (k : Fin 4), (s.port k.val).edges ≠ 0 →
      (s.port k.val).edges < 3 →
      (s.port k.val).edgeAt ≤ s.el →
      Gives (.stpTxRepeat) s fun t =>
      (t.port k.val).edges = (s.port k.val).edges + 1 ∧ Output.stpTx k.val ∈ t.outs.drop s.outs.length) ∧
  (∀ (s : State) (k : Fin 4), 3 ≤ (s.port k.val).edges →
      (s.port k.val).edgeAt ≤ s.el →
      Gives (.stpTxRepeat) s fun t =>
      (t.port k.val).edges = 0 ∧ t.fld (F.RAD_P_STAT_STOPPING k.val) = 0) ∧
  (∀ (s : State) (k : Fin 4), s.flag (F.RAD_P_CFG_EN k.val) = true →
      s.pwr.hubReady = true →
      Gives (.radioRxError k) s fun t =>
      t = s.satInc (F.RAD_P_CNT0_RX_ERR k.val))

/-- RAD commands: ports, slot tables, assignments, evictions and link entries. Where the rules leave a point open it follows
the model's choice of log entries 65, 82 to 84. -/
def Obligations.RadioCommandsComplete : Prop :=
  (∀ (s : State) (c : Cmd), s.takes c opRadPortConfig = true →
      c.payload.length = 8 →
      (rdN c.payload 0 1) ≤ 3 →
      rdN c.payload 1 1 = 0 →
      rdN c.payload 2 1 ≤ 7 →
      rdN c.payload 5 1 ≤ 1 →
      s.tableFault (s.fld F.RAD_SF_NSLOT) (rdN c.payload 2 1) (rdN c.payload 0 1) (s.tableOf (rdN c.payload 0 1)) = none →
      (s.rad.pend.all (fun q => (s.tableFault q.n (rdN c.payload 2 1) (rdN c.payload 0 1) (Tbl.get (s.tableOf (rdN c.payload 0 1)) q.tables (rdN c.payload 0 1))).isNone) = true) →
      (s.onPort (rdN c.payload 0 1) = [] ∨ s.fleetHeld = true) →
      Gives (.radPortConfig c) s fun t =>
      t.ok c (le 1 phyOh ++ le 2 (runCapacity (rdN c.payload 2 1) 1) ++ le 1 0) ∧ t.fld (F.RAD_P_CFG_RATE (rdN c.payload 0 1)) = rdN c.payload 2 1 ∧ t.fld (F.RAD_P_CFG_CHANNEL (rdN c.payload 0 1)) = rdN c.payload 3 1 ∧
      t.fld (F.RAD_P_CFG_TXPWR (rdN c.payload 0 1)) = rdN c.payload 4 1 ∧ t.fld (F.RAD_P_CFG_EN (rdN c.payload 0 1)) = rdN c.payload 5 1) ∧
  (∀ (s : State) (c : Cmd) (tb : List SlotEntry), s.takes c opRadSuperframeSet = true →
      c.payload.length = 4 + 6 * rdN c.payload 3 1 →
      s.fleetHeld = true →
      tb = parseTable (c.payload.drop 4) (rdN c.payload 3 1) →
      s.tableSetFault (rdN c.payload 0 2) (rdN c.payload 2 1) (rdN c.payload 3 1) tb = none →
      Gives (.radSuperframeSet c) s fun t =>
      t.ok c (le 2 (((s.rad.pend.map (·.ver)).getD (s.fld F.RAD_SF_TABLE_VER) + 1) % 65536) ++ le 2 ((s.switchAt (rdN c.payload 0 2) - gpsEpoch) / superframeNs (rdN c.payload 0 2) % 65536) ++ le 1 255 ++ zeros 3) ∧ t.fld F.RAD_SF_PEND_PENDING = 1 ∧ t.rad.pend.map (fun q => (q.n, q.ver, q.at_)) = some ((rdN c.payload 0 2), ((s.rad.pend.map (·.ver)).getD (s.fld F.RAD_SF_TABLE_VER) + 1) % 65536, s.switchAt (rdN c.payload 0 2)) ∧
      (∀ n ∈ List.range 4, bit (rdN c.payload 2 1) n = true → t.rad.pend.map (fun q => Tbl.get [] q.tables n) = some tb) ∧ t.fld F.RAD_SF_NSLOT = s.fld F.RAD_SF_NSLOT) ∧
  (∀ (s : State) (c : Cmd) (b : Binding) (r : ((Nat × Nat) × (Nat × Nat)) × Option ((Nat × Nat) × (Nat × Nat))), s.takes c opRadRoverAssign = true →
      c.payload.length = 16 →
      (rdN c.payload 0 1) ≤ 127 →
      (rdN c.payload 1 1) ≤ 3 →
      (rdN c.payload 10 1 ≤ 7 ∨ rdN c.payload 10 1 = 255) →
      rdN c.payload 11 1 ≤ 7 →
      rdN c.payload 12 1 ≠ 0 →
      (8 ≤ rdN c.payload 10 1 ∨ (s.onPort (rdN c.payload 1 1)).all (fun y => y == (rdN c.payload 0 1) || (s.bound y).relay != rdN c.payload 10 1) = true) →
      s.bound (rdN c.payload 0 1) = b →
      (b.bound = false ∨ b.unit ≠ rdN c.payload 2 8) →
      s.freeRuns (rdN c.payload 1 1) (rdN c.payload 0 1) = some r →
      Gives (.radRoverAssign c) s fun t =>
      t.ok c (le 2 r.1.1.1 ++ le 2 r.1.2.1) ∧ t.bound (rdN c.payload 0 1) = { bound := true, unit := rdN c.payload 2 8, port := (rdN c.payload 1 1), relay := rdN c.payload 10 1, hops := rdN c.payload 11 1, w := rdN c.payload 12 1, dn := r.1.1, up := r.1.2, d := 100 * (s.fld F.RAD_GUARD_DRIFT_INIT : Int) } ∧
      (t.rk (rdN c.payload 0 1)).record = none ∧ (t.sx (rdN c.payload 0 1)).authId = 0 ∧ (t.sx (rdN c.payload 0 1)).prevId = 0) ∧
  (∀ (s : State) (c : Cmd) (b : Binding), s.takes c opRadRoverAssign = true →
      c.payload.length = 16 →
      (rdN c.payload 0 1) ≤ 127 →
      (rdN c.payload 1 1) ≤ 3 →
      (rdN c.payload 10 1 ≤ 7 ∨ rdN c.payload 10 1 = 255) →
      rdN c.payload 11 1 ≤ 7 →
      rdN c.payload 12 1 ≠ 0 →
      (8 ≤ rdN c.payload 10 1 ∨ (s.onPort (rdN c.payload 1 1)).all (fun y => y == (rdN c.payload 0 1) || (s.bound y).relay != rdN c.payload 10 1) = true) →
      s.bound (rdN c.payload 0 1) = b →
      b.bound = true →
      b.unit = rdN c.payload 2 8 →
      b.move = none →
      b.port = (rdN c.payload 1 1) →
      Gives (.radRoverAssign c) s fun t =>
      t.ok c (le 2 b.dn.1 ++ le 2 b.up.1) ∧ t.bound (rdN c.payload 0 1) = { b with relay := rdN c.payload 10 1, hops := rdN c.payload 11 1, w := rdN c.payload 12 1, evict := none } ∧ t.rk (rdN c.payload 0 1) = s.rk (rdN c.payload 0 1)) ∧
  (∀ (s : State) (c : Cmd) (b : Binding) (r : ((Nat × Nat) × (Nat × Nat)) × Option ((Nat × Nat) × (Nat × Nat))), s.takes c opRadRoverAssign = true →
      c.payload.length = 16 →
      (rdN c.payload 0 1) ≤ 127 →
      (rdN c.payload 1 1) ≤ 3 →
      (rdN c.payload 10 1 ≤ 7 ∨ rdN c.payload 10 1 = 255) →
      rdN c.payload 11 1 ≤ 7 →
      rdN c.payload 12 1 ≠ 0 →
      (8 ≤ rdN c.payload 10 1 ∨ (s.onPort (rdN c.payload 1 1)).all (fun y => y == (rdN c.payload 0 1) || (s.bound y).relay != rdN c.payload 10 1) = true) →
      s.bound (rdN c.payload 0 1) = b →
      b.bound = true →
      b.unit = rdN c.payload 2 8 →
      b.move = none →
      b.port ≠ (rdN c.payload 1 1) →
      b.joined = true →
      b.lost = false →
      s.freeRuns (rdN c.payload 1 1) (rdN c.payload 0 1) = some r →
      Gives (.radRoverAssign c) s fun t =>
      t.ok c (le 2 r.1.1.1 ++ le 2 r.1.2.1) ∧ (t.bound (rdN c.payload 0 1)).move = some ⟨(rdN c.payload 1 1), r.1.1, r.1.2, s.now, false⟩ ∧ (t.bound (rdN c.payload 0 1)).port = b.port ∧ t.rk (rdN c.payload 0 1) = s.rk (rdN c.payload 0 1)) ∧
  (∀ (s : State) (c : Cmd), s.takes c opRadRoverEvict = true →
      c.payload.length = 4 →
      (rdN c.payload 0 1) ≤ 127 →
      (s.bound (rdN c.payload 0 1)).bound = true →
      (s.bound (rdN c.payload 0 1)).lost = false →
      Gives (.radRoverEvict c) s fun t =>
      t.ok c [] ∧ t.bound (rdN c.payload 0 1) = { s.bound (rdN c.payload 0 1) with evict := some ((s.bound (rdN c.payload 0 1)).evict.getD 3) } ∧ t.snap (rdN c.payload 0 1) = none) ∧
  (∀ (s : State) (c : Cmd), s.takes c opRadRoverEvict = true →
      c.payload.length = 4 →
      (rdN c.payload 0 1) ≤ 127 →
      (s.bound (rdN c.payload 0 1)).bound = true →
      (s.bound (rdN c.payload 0 1)).lost = true →
      Gives (.radRoverEvict c) s fun t =>
      t.ok c [] ∧ t.bound (rdN c.payload 0 1) = {}) ∧
  (∀ (s : State) (c : Cmd), s.takes c opRadGetLink = true →
      c.payload.length = 4 →
      rdN c.payload 1 1 ≠ 0 →
      rdN c.payload 1 1 ≤ 32 →
      (rdN c.payload 0 1) + rdN c.payload 1 1 ≤ 128 →
      Gives (.radGetLink c) s fun t =>
      t.ok c ((List.range (rdN c.payload 1 1)).map fun i => s.linkBytes ((rdN c.payload 0 1) + i)).flatten ∧ t.rad = s.rad)

/-- Stop inputs, discrepancy, self-check, chain stops and releases that fall due: what each leaves. Where the rules leave a point open it follows
the model's choice of log entries 74 to 77, 79, 178. -/
def Obligations.StopSourcesComplete : Prop :=
  (∀ (s : State) (k : Fin 2), s.pathRuns = true →
      s.inForce k.val = false →
      s.fleetStopped = false →
      Gives (.stopInputActive k) s fun t =>
      t.fld (if k.val = 0 then F.STP_STAT_IN_A else F.STP_STAT_IN_B) = 1 ∧ bit (t.fld F.STP_SRC_SRC) k.val = true ∧ t.fld F.STP_STAT_STOPPED = 1 ∧ t.fld F.STP_CNT_STOP_CNT = (s.fld F.STP_CNT_STOP_CNT + 1) % 2 ^ 32 ∧ t.pins.stopOutA = true ∧ t.pins.stopOutB = true ∧
      (∀ n ∈ s.portsOn, Output.stpTx n ∈ t.outs.drop s.outs.length) ∧ bit t.pend Ev.stpStop = true) ∧
  (∀ (s : State) (k : Fin 2), s.pathRuns = true →
      (s.inForce k.val = true ∨ s.fleetStopped = true) →
      Gives (.stopInputActive k) s fun t =>
      t.fld (if k.val = 0 then F.STP_STAT_IN_A else F.STP_STAT_IN_B) = 1 ∧ bit (t.fld F.STP_SRC_SRC) k.val = true ∧ t.fld F.STP_CNT_STOP_CNT = s.fld F.STP_CNT_STOP_CNT) ∧
  (∀ (s : State) (k : Fin 2), s.pathRuns = true →
      s.flag (if k.val = 0 then F.STP_STAT_IN_A else F.STP_STAT_IN_B) = true →
      Gives (.stopInputInactive k) s fun t =>
      t.fld (if k.val = 0 then F.STP_STAT_IN_A else F.STP_STAT_IN_B) = 0 ∧ bit (t.fld F.STP_SRC_SRC) k.val = false ∧ t.fld F.STP_STAT_STOPPED = s.fld F.STP_STAT_STOPPED) ∧
  (∀ (s : State) (d : Nat), s.stp.diffSince = some d →
      d + 10 * oneMs < s.el →
      s.inForce srcDISC = false →
      Gives (.stopDiscrepancy) s fun t =>
      bit (t.fld F.STP_SRC_SRC) 2 = true ∧ t.fld F.STP_STAT_STOPPED = 1 ∧ bit t.pend Ev.stpFault = true) ∧
  (∀ (s : State), s.flag F.STP_STAT_IN_A = false →
      s.flag F.STP_STAT_IN_B = false →
      Gives (.discClr) s fun t =>
      bit (t.fld F.STP_SRC_SRC) 2 = false ∧ t.fld F.STP_STAT_STOPPED = s.fld F.STP_STAT_STOPPED) ∧
  (∀ (s : State) (k : Fin 3), s.pathRuns = true →
      s.inForce srcHUB_CHECK = false →
      Gives (.hubCheckFail k) s fun t =>
      bit (t.fld F.STP_SRC_SRC) 6 = true ∧ t.fld F.STP_STAT_STOPPED = 1 ∧ bit t.pend Ev.stpFault = true) ∧
  (∀ (s : State) (n : Fin 2) (f : List Byte) (p : List Byte) (g : List Byte), s.ethUp n.val = true →
      chainPayload ctSTOP f = some p →
      p.length = 20 →
      rdN p 0 2 = s.site →
      rdN p 2 1 ≠ s.net →
      (rdN p 2 1, rdN p 4 4, rdN p 3 1) ∉ s.stp.chainKeys →
      s.flag F.STP_CTL_CHAIN_OBEY = true →
      g = s.chainFrame ctSTOP (p.take 8 ++ le 1 (rdN p 8 1 + 1) ++ p.drop 9) →
      Gives (.chainStopReceive n f) s fun t =>
      bit (t.fld F.STP_SRC_SRC) 8 = true ∧ (s.inForce srcCHAIN = false ∨ s.fleetStopped = true → t.fld F.STP_STAT_STOPPED = 1) ∧ t.stp.chainKeys.head? = some (rdN p 2 1, rdN p 4 4, rdN p 3 1) ∧ t.stp.chainAt = s.el ∧ bit t.pend Ev.stpChain = true ∧
      (rdN p 8 1 < 15 → s.ethUp (1 - n.val) = true → Output.eth (1 - n.val) (g ++ zeros (60 - g.length)) ∈ t.outs.drop s.outs.length)) ∧
  (∀ (s : State) (g : List Byte), (s.stp.sentAt.all (fun a => s.passed a (100 * oneMs)) = true) →
      s.fleetStopped = true →
      s.ownSource = true →
      s.flag F.STP_CTL_CHAIN_SEND = true →
      s.pwr.state ≠ .dormant →
      s.pwr.hubReady = true →
      g = s.chainFrame ctSTOP (s.stopPayload s.stp.rep) →
      Gives (.chainStopRepeat) s fun t =>
      t.stp = { s.stp with rep := (s.stp.rep + 1) % 256, sentAt := some s.el } ∧ ∀ n ∈ List.range 2, s.ethUp n = true → Output.eth n (g ++ zeros (60 - g.length)) ∈ t.outs.drop s.outs.length) ∧
  (∀ (s : State), s.passed s.stp.chainAt (300 * oneMs) = true →
      Gives (.chainSourceTimeout) s fun t =>
      bit (t.fld F.STP_SRC_SRC) 8 = false ∧ t.fld F.STP_STAT_STOPPED = s.fld F.STP_STAT_STOPPED ∧ (s.inForce srcCHAIN = true → bit t.pend Ev.stpSource = true)) ∧
  (∀ (s : State) (r : Nat), s.stp.release = some r →
      r ≤ s.now →
      Gives (.stopReleaseDue) s fun t =>
      t.fld F.STP_STAT_STOPPED = 0 ∧ bit (t.fld F.STP_SRC_SRC) 3 = false ∧ bit (t.fld F.STP_SRC_SRC) 10 = false ∧ t.stp.release = none ∧ t.pins.stopOutA = false ∧ t.pins.stopOutB = false ∧
      t.fld F.STP_STAT_RELEASE_PEND = 0 ∧ bit t.pend Ev.stpRelease = true ∧ t.time.inputSeq = (s.time.inputSeq + 1) % 2 ^ 32) ∧
  (∀ (s : State) (r : TargetRelease), r ∈ s.stp.targets →
      r.tr ≤ s.now →
      Gives (.targetReleaseDue) s fun t =>
      r ∉ t.stp.targets ∧ (r.scope = 1 → r.target ∉ t.stp.rovers) ∧ (r.scope ≠ 1 → t.stp.zones.all (fun z => z.zone != r.target) = true ∧ r.target ∉ t.sbx.zoneStops) ∧ bit t.pend Ev.stpRelease = true)

/-- STOP commands: the stop of the fleet, a rover or a zone, its release, and the state of stops. Where the rules leave a point open it follows
the model's choice of log entries 77, 78. -/
def Obligations.StopCommandsComplete : Prop :=
  (∀ (s : State) (c : Cmd), s.takes c opStopAll = true →
      c.payload.length = 4 →
      s.inForce srcCMD = false →
      s.fleetStopped = false →
      Gives (.stopAll c) s fun t =>
      t.ok c (le 4 (s.fld F.STP_CNT_STOP_CNT + 1)) ∧ bit (t.fld F.STP_SRC_SRC) 3 = true ∧ t.fld F.STP_STAT_STOPPED = 1 ∧ t.fld F.STP_CNT_STOP_CNT = (s.fld F.STP_CNT_STOP_CNT + 1) % 2 ^ 32 ∧ t.pins.stopOutA = true ∧ t.pins.stopOutB = true ∧
      (∀ n ∈ s.portsOn, Output.stpTx n ∈ t.outs.drop s.outs.length) ∧ bit t.pend Ev.stpStop = true) ∧
  (∀ (s : State) (c : Cmd), s.takes c opStopAll = true →
      c.payload.length = 4 →
      (s.inForce srcCMD = true ∨ s.fleetStopped = true) →
      Gives (.stopAll c) s fun t =>
      t.ok c (le 4 (s.fld F.STP_CNT_STOP_CNT)) ∧ bit (t.fld F.STP_SRC_SRC) 3 = true ∧ t.fld F.STP_CNT_STOP_CNT = s.fld F.STP_CNT_STOP_CNT) ∧
  (∀ (s : State) (c : Cmd), s.takes c opStopRover = true →
      c.payload.length = 4 →
      (rdN c.payload 0 1) ≤ 127 →
      (s.bound (rdN c.payload 0 1)).bound = true →
      Gives (.stopRover c) s fun t =>
      t.ok c [] ∧ (rdN c.payload 0 1) ∈ t.stp.rovers ∧ bit (t.fld (F.STP_ROVER_STOPPED ((rdN c.payload 0 1) / 32))) ((rdN c.payload 0 1) % 32) = true ∧ (s.anyLane = true → (t.sx (rdN c.payload 0 1)).stopped = true ∧ (t.sx (rdN c.payload 0 1)).route = []) ∧ t.roverStopped (rdN c.payload 0 1) = true) ∧
  (∀ (s : State) (c : Cmd), s.takes c opStopZone = true →
      c.payload.length = 4 →
      s.zoneRefusal (rdN c.payload 0 2) = 0 →
      Gives (.stopZone c) s fun t =>
      t.ok c (le 1 (if s.anyLane then (s.laneInput.zoneRovers (rdN c.payload 0 2)).length else 255) ++ zeros 3) ∧ (rdN c.payload 0 2) ∈ t.sbx.zoneStops ∧ t.stp.zones.any (fun y => y.zone == (rdN c.payload 0 2)) = true ∧
      (s.anyLane = true → ∀ a ∈ s.laneInput.zoneRovers (rdN c.payload 0 2), (t.sx a).stopped = true ∧ t.stp.zones.any (fun y => y.zone == (rdN c.payload 0 2) && y.rovers.contains a) = true)) ∧
  (∀ (s : State) (c : Cmd), s.takes c opStopRelease = true →
      c.payload.length = 4 →
      (rdN c.payload 0 1) = 0 →
      s.fleetStopped = false →
      Gives (.stopRelease c) s fun t =>
      t.ok c (zeros 12) ∧ t.stp = s.stp) ∧
  (∀ (s : State) (c : Cmd) (r : Nat), s.takes c opStopRelease = true →
      c.payload.length = 4 →
      (rdN c.payload 0 1) = 0 →
      s.fleetStopped = true →
      s.stp.release = some r →
      Gives (.stopRelease c) s fun t =>
      t.ok c (le 4 (s.fld F.STP_SRC_SRC) ++ le 8 r) ∧ t.stp = s.stp) ∧
  (∀ (s : State) (c : Cmd) (r : Nat), s.takes c opStopRelease = true →
      c.payload.length = 4 →
      (rdN c.payload 0 1) = 0 →
      s.fleetStopped = true →
      s.stp.release = none →
      s.mayRelease = true →
      r = (match s.stp.firedAt with | some f => max (s.now + oneMs) (f + s.stp.authMax) | none => s.now + oneMs) →
      Gives (.stopRelease c) s fun t =>
      t.ok c (le 4 (s.fld F.STP_SRC_SRC) ++ le 8 r) ∧ t.stp = { s.stp with release := some r } ∧ t.fld F.STP_STAT_RELEASE_PEND = 1 ∧ t.fld F.STP_STAT_STOPPED = 1 ∧ bit t.pend Ev.stpRelease = true) ∧
  (∀ (s : State) (c : Cmd), s.takes c opStopRelease = true →
      c.payload.length = 4 →
      (rdN c.payload 0 1) = 0 →
      s.fleetStopped = true →
      s.stp.release = none →
      s.mayRelease = false →
      Gives (.stopRelease c) s fun t =>
      t.answered c ⟨0x40, le 4 (s.fld F.STP_SRC_SRC) ++ le 8 0⟩ ∧ t.stp = s.stp) ∧
  (∀ (s : State) (c : Cmd), s.takes c opStopRelease = true →
      c.payload.length = 4 →
      ((rdN c.payload 0 1) = 1 ∨ (rdN c.payload 0 1) = 2) →
      (if (rdN c.payload 0 1) = 1 then (rdN c.payload 2 2) ≤ 127 ∧ (rdN c.payload 2 2) ∈ s.stp.rovers else (rdN c.payload 2 2) < (s.sbx.map.map (·.zones.length)).getD 0 ∧ s.stp.zones.any (fun y => y.zone == (rdN c.payload 2 2)) = true) →
      (s.stp.targets.any (fun y => y.scope == (rdN c.payload 0 1) && y.target == (rdN c.payload 2 2)) = false) →
      Gives (.stopRelease c) s fun t =>
      t.ok c (le 4 (s.fld F.STP_SRC_SRC) ++ le 8 (s.now + s.authNs)) ∧ t.stp.targets = s.stp.targets ++ [⟨(rdN c.payload 0 1), (rdN c.payload 2 2), s.now + s.authNs⟩] ∧ bit t.pend Ev.stpRelease = true) ∧
  (∀ (s : State) (c : Cmd), s.takes c opStopGetState = true →
      c.payload = [] →
      Gives (.stopGetState c) s fun t =>
      t.ok c (le 4 (s.fld F.STP_SRC_SRC) ++ le 4 (s.fld F.STP_LATCH_SEEN) ++ le 4 (s.fld F.STP_CNT_STOP_CNT) ++ le 8 (s.stp.release.getD 0) ++ (([0, 1, 2, 3].map fun i => le 4 (s.fld (F.STP_ROVER_STOPPED i))).flatten) ++
        le 1 s.stp.zones.length ++ zeros 3 ++ ((sortBy (fun y z : Nat => decide (y < z)) (s.stp.zones.map (·.zone))).map (le 2)).flatten) ∧ t.stp = s.stp)

/-- Links, the switch, pause, MDIO, ARP and ICMP: what each event leaves. Where the rules leave a point open it follows
the model's choice of log entries 90, 91, 94, 98 to 100. -/
def Obligations.EthernetLinksSwitchAndPauseComplete : Prop :=
  (∀ (s : State) (n : Fin 2) (fast : Bool), s.flag (F.ETH_P_CFG_EN n.val) = true →
      s.flag (F.ETH_P_STAT_LINK n.val) = false →
      s.pwr.hubReady = true →
      s.pwr.state ≠ .dormant →
      Gives (.ethLinkUp n fast) s fun t =>
      t.fld (F.ETH_P_STAT_LINK n.val) = 1 ∧ t.fld (F.ETH_P_STAT_EQ_LOCK n.val) = 1 ∧ t.fld (F.ETH_P_STAT_SPEED_1G n.val) = (if s.fld (F.ETH_P_CFG_SPEED n.val) = 1 then 1 else if s.fld (F.ETH_P_CFG_SPEED n.val) = 2 then 0 else b2n fast) ∧
      t.fld (F.ETH_P_STAT_VERIFY n.val) = b2n (s.flag (F.ETH_P_CFG_PREEMPT n.val)) ∧ t.fld (if n = 0 then F.ETH_STAT_P0_LINK else F.ETH_STAT_P1_LINK) = 1 ∧ (t.ep n.val).delays = [] ∧ bit t.pend Ev.ethLink = true) ∧
  (∀ (s : State) (n : Fin 2), s.flag (F.ETH_P_STAT_LINK n.val) = true →
      Gives (.ethLinkDown n) s fun t =>
      t.fld (F.ETH_P_STAT_LINK n.val) = 0 ∧ t.fld (F.ETH_P_STAT_EQ_LOCK n.val) = 0 ∧ t.fld (F.ETH_P_STAT_SPEED_1G n.val) = 0 ∧ t.fld (F.ETH_P_STAT_VERIFY n.val) = 0 ∧ t.fld (if n = 0 then F.ETH_STAT_P0_LINK else F.ETH_STAT_P1_LINK) = 0 ∧ (t.relay n.val).active = false ∧ bit t.pend Ev.ethLink = true) ∧
  (∀ (s : State) (n : Fin 2), s.fld (F.ETH_P_STAT_VERIFY n.val) = 1 →
      Gives (.preemptVerify n true) s fun t =>
      t.fld (F.ETH_P_STAT_VERIFY n.val) = 2) ∧
  (∀ (s : State) (n : Fin 2), s.fld (F.ETH_P_STAT_VERIFY n.val) = 1 →
      s.passed (s.ep n.val).verifyAt (10 * oneMs) = true →
      Gives (.preemptVerify n false) s fun t =>
      if 2 ≤ (s.ep n.val).verifyN then t.fld (F.ETH_P_STAT_VERIFY n.val) = 3 else t.ep n.val = { s.ep n.val with verifyAt := s.el, verifyN := (s.ep n.val).verifyN + 1 } ∧ t.regs = s.regs) ∧
  (∀ (s : State) (n : Fin 2) (x : EthIn), s.ethUp n.val = true →
      (x.fcsOk = false ∨ 1518 < x.bytes.length) →
      Gives (.ethFrameReceive n x) s fun t =>
      t.fld (F.ETH_P_CNT0_RX_ERR n.val) = min (s.fld (F.ETH_P_CNT0_RX_ERR n.val) + 1) 255 ∧ t.outs = s.outs ∧ t.eth = s.eth) ∧
  (∀ (s : State) (n : Fin 2) (x : EthIn), s.ethUp n.val = true →
      x.fcsOk = true →
      x.bytes.length ≤ 1518 →
      x.fill = 0 →
      pauseQuanta x.bytes = none →
      isPdelay x.bytes = false →
      isReserved (frameDA x.bytes) = false →
      frameDA x.bytes ≠ chainMac →
      frameDA x.bytes ≠ s.mac →
      frameDA x.bytes ≠ broadcast →
      isPtpGroup (frameDA x.bytes) = false →
      (∀ l ∈ s.eth.table, l.mac = frameDA x.bytes → l.port ≠ n.val) →
      frameDA x.bytes ≠ frameSA x.bytes →
      s.ethUp (1 - n.val) = true →
      x.room = true →
      s.flag F.ETH_PTP_CTL_TC_EN = false →
      Gives (.ethFrameReceive n x) s fun t =>
      t.fld (F.ETH_P_CNT1_RX_OK n.val) = min (s.fld (F.ETH_P_CNT1_RX_OK n.val) + 1) 65535 ∧ (isGroup (frameSA x.bytes) = false → (s.eth.table.filter fun l => l.mac != frameSA x.bytes).length < 1024 → t.eth.table.head? = some ⟨frameSA x.bytes, n.val, s.el⟩) ∧ t.outs.drop s.outs.length = [Output.eth (1 - n.val) (x.bytes ++ zeros (60 - x.bytes.length))]) ∧
  (∀ (s : State) (n : Fin 2) (x : EthIn) (a : Learned), s.ethUp n.val = true →
      x.fcsOk = true →
      x.bytes.length ≤ 1518 →
      x.fill = 0 →
      pauseQuanta x.bytes = none →
      isPdelay x.bytes = false →
      isReserved (frameDA x.bytes) = false →
      frameDA x.bytes ≠ chainMac →
      frameDA x.bytes ≠ s.mac →
      frameDA x.bytes ≠ broadcast →
      isPtpGroup (frameDA x.bytes) = false →
      (s.eth.table.find? (fun l => l.mac == frameDA x.bytes) = some a) →
      a.port = n.val →
      Gives (.ethFrameReceive n x) s fun t =>
      t.fld (F.ETH_P_CNT1_RX_OK n.val) = min (s.fld (F.ETH_P_CNT1_RX_OK n.val) + 1) 65535 ∧ t.outs = s.outs) ∧
  (∀ (s : State) (n : Fin 2) (x : EthIn), s.ethUp n.val = true →
      x.fcsOk = true →
      x.bytes.length ≤ 1518 →
      x.fill = 0 →
      pauseQuanta x.bytes = none →
      isPdelay x.bytes = false →
      isReserved (frameDA x.bytes) = false →
      frameDA x.bytes ≠ chainMac →
      frameDA x.bytes ≠ s.mac →
      frameDA x.bytes ≠ broadcast →
      isPtpGroup (frameDA x.bytes) = false →
      (∀ l ∈ s.eth.table, l.mac = frameDA x.bytes → l.port ≠ n.val) →
      frameDA x.bytes ≠ frameSA x.bytes →
      s.ethUp (1 - n.val) = true →
      x.room = false →
      Gives (.ethFrameReceive n x) s fun t =>
      t.fld (F.ETH_P_CNT1_RX_OK n.val) = min (s.fld (F.ETH_P_CNT1_RX_OK n.val) + 1) 65535 ∧ t.outs = s.outs ∧ t.fld (F.ETH_P_CNT0_DROP (1 - n.val)) = min (s.fld (F.ETH_P_CNT0_DROP (1 - n.val)) + 1) 255) ∧
  (∀ (s : State) (n : Fin 2) (x : EthIn), s.ethUp n.val = true →
      x.fcsOk = true →
      x.bytes.length ≤ 1518 →
      x.fill = 0 →
      pauseQuanta x.bytes = none →
      x.bytes.length ≤ 1518 →
      isReserved (frameDA x.bytes) = true →
      isPdelay x.bytes = false →
      Gives (.ethFrameReceive n x) s fun t =>
      t.fld (F.ETH_P_CNT1_RX_OK n.val) = min (s.fld (F.ETH_P_CNT1_RX_OK n.val) + 1) 65535 ∧ t.outs = s.outs) ∧
  (∀ (s : State) (mac : Nat), (s.eth.table.any (fun l => l.mac == mac && s.passed l.at_ (300 * oneSec)) = true) →
      Gives (.addressAgeOut mac) s fun t =>
      t.eth = { s.eth with table := s.eth.table.filter fun l => l.mac != mac }) ∧
  (∀ (s : State) (n : Fin 2) (x : EthIn) (q : Nat), s.ethUp n.val = true →
      x.fcsOk = true →
      x.bytes.length ≤ 1518 →
      x.fill = 0 →
      pauseQuanta x.bytes = some q →
      s.flag (F.ETH_P_CFG_PAUSE_RX n.val) = true →
      s.flag (F.ETH_P_STAT_PAUSE_IGN n.val) = false →
      Gives (.pauseFrameReceive n x) s fun t =>
      t.fld (F.ETH_P_CNT1_RX_OK n.val) = min (s.fld (F.ETH_P_CNT1_RX_OK n.val) + 1) 65535 ∧ (t.ep n.val).pauses.head? = some (s.el, s.el + q * s.quantum n.val) ∧ t.outs = s.outs) ∧
  (∀ (s : State) (n : Fin 2) (x : EthIn) (q : Nat), s.ethUp n.val = true →
      x.fcsOk = true →
      x.bytes.length ≤ 1518 →
      x.fill = 0 →
      pauseQuanta x.bytes = some q →
      (s.flag (F.ETH_P_CFG_PAUSE_RX n.val) = false ∨ s.flag (F.ETH_P_STAT_PAUSE_IGN n.val) = true) →
      Gives (.pauseFrameReceive n x) s fun t =>
      t.fld (F.ETH_P_CNT1_RX_OK n.val) = min (s.fld (F.ETH_P_CNT1_RX_OK n.val) + 1) 65535 ∧ t.ep n.val = s.ep n.val ∧ t.outs = s.outs) ∧
  (∀ (s : State) (n : Fin 2), s.flag (F.ETH_P_STAT_PAUSE_IGN n.val) = false →
      clampN 10 1000 (s.fld F.ETH_CTL_PAUSE_MAX) * oneMs ≤ s.pauseSum n.val →
      Gives (.pauseWatchdog n) s fun t =>
      t.fld (F.ETH_P_STAT_PAUSE_IGN n.val) = 1 ∧ t.fld (F.ETH_P_CNT0_PAUSE_WD n.val) = min (s.fld (F.ETH_P_CNT0_PAUSE_WD n.val) + 1) 255 ∧ (t.ep n.val).ignAt = s.el ∧ bit t.pend Ev.ethPause = true) ∧
  (∀ (s : State) (n : Fin 2), s.flag (F.ETH_P_STAT_PAUSE_IGN n.val) = true →
      s.passed (s.ep n.val).ignAt (100 * oneMs) = true →
      Gives (.pauseIgnoreEnd n) s fun t =>
      t.fld (F.ETH_P_STAT_PAUSE_IGN n.val) = 0 ∧ (t.ep n.val).pauses = []) ∧
  (∀ (s : State) (n : Fin 2) (x : EthIn) (a : List Byte), s.ethUp n.val = true →
      x.fcsOk = true →
      x.bytes.length ≤ 1518 →
      x.fill = 0 →
      frameDA x.bytes = broadcast →
      etherType x.bytes = 0x0806 →
      s.ip ≠ 0 →
      (x.bytes.drop 14).take 8 = be 2 1 ++ be 2 0x0800 ++ be 1 6 ++ be 1 4 ++ be 2 1 →
      beNat ((x.bytes.drop 38).take 4) = s.ip →
      a = (x.bytes.drop 22).take 6 ++ s.macBytes ++ be 2 0x0806 ++ be 2 1 ++ be 2 0x0800 ++ be 1 6 ++ be 1 4 ++ be 2 2 ++ s.macBytes ++ be 4 s.ip ++ (x.bytes.drop 22).take 6 ++ (x.bytes.drop 28).take 4 →
      Gives (.arpRequest n x) s fun t =>
      t.fld (F.ETH_P_CNT1_RX_OK n.val) = min (s.fld (F.ETH_P_CNT1_RX_OK n.val) + 1) 65535 ∧ Output.eth n.val (a ++ zeros (60 - a.length)) ∈ t.outs.drop s.outs.length) ∧
  (∀ (s : State) (n : Fin 2) (x : EthIn), s.ethUp n.val = true →
      x.fcsOk = true →
      x.bytes.length ≤ 1518 →
      x.fill = 0 →
      (frameDA x.bytes = broadcast ∨ frameDA x.bytes = s.mac) →
      isReserved (frameDA x.bytes) = false →
      frameDA x.bytes ≠ chainMac →
      etherType x.bytes = 0x0806 →
      s.ip ≠ 0 →
      (x.bytes.drop 14).take 8 = be 2 1 ++ be 2 0x0800 ++ be 1 6 ++ be 1 4 ++ be 2 2 →
      beNat ((x.bytes.drop 38).take 4) = s.ip →
      beNat ((x.bytes.drop 28).take 4) = s.fld F.ETH_IP_GW_GW →
      Gives (.arpRequest n x) s fun t =>
      t.fld (F.ETH_P_CNT1_RX_OK n.val) = min (s.fld (F.ETH_P_CNT1_RX_OK n.val) + 1) 65535 ∧ t.eth.gateway = some (beNat ((x.bytes.drop 22).take 6))) ∧
  (∀ (s : State) (n : Fin 2) (x : EthIn) (p : List Byte) (a : List Byte), s.ethUp n.val = true →
      x.fcsOk = true →
      x.bytes.length ≤ 1518 →
      x.fill = 0 →
      frameDA x.bytes = s.mac →
      isReserved s.mac = false →
      s.mac ≠ chainMac →
      s.ipFor x.bytes = some (1, p) →
      beNat ((x.bytes.drop 20).take 2) % 0x4000 = 0 →
      rdN p 0 1 = 8 →
      rdN p 1 1 = 0 →
      a = be 1 0 ++ be 1 0 ++ be 2 (65535 - fold16 (sum16 (be 1 0 ++ be 1 0 ++ be 2 0 ++ p.drop 4))) ++ p.drop 4 →
      Gives (.icmpEcho n x) s fun t =>
      t.fld (F.ETH_P_CNT1_RX_OK n.val) = min (s.fld (F.ETH_P_CNT1_RX_OK n.val) + 1) 65535 ∧ t.outs.drop s.outs.length = [Output.eth n.val (((x.bytes.drop 6).take 6 ++ s.macBytes ++ be 2 0x0800 ++ ipHeader s.ip (beNat ((x.bytes.drop 26).take 4)) 1 64 a.length ++ a) ++ zeros (60 - ((x.bytes.drop 6).take 6 ++ s.macBytes ++ be 2 0x0800 ++ ipHeader s.ip (beNat ((x.bytes.drop 26).take 4)) 1 64 a.length ++ a).length))]) ∧
  (∀ (s : State) (value : Word), s.flag F.ETH_MDIO_GO = false →
      Gives (.mdioGo value) s fun t =>
      t.reg R.ETH_MDIO = (value ||| 0x80000000) &&& 0xC3FFFFFF ∧ t.outs = s.outs ++ [.mdio (t.fld F.ETH_MDIO_PHYAD) (t.fld F.ETH_MDIO_REGAD) (t.flag F.ETH_MDIO_READ) (t.fld F.ETH_MDIO_DATA)]) ∧
  (∀ (s : State) (value : Word), s.flag F.ETH_MDIO_GO = true →
      Gives (.mdioGo value) s fun t =>
      t = s) ∧
  (∀ (s : State) (data : BitVec 16), s.flag F.ETH_MDIO_GO = true →
      Gives (.mdioDone data) s fun t =>
      t.fld F.ETH_MDIO_GO = 0 ∧ t.fld F.ETH_MDIO_DATA = (if s.flag F.ETH_MDIO_READ then data.toNat else s.fld F.ETH_MDIO_DATA))

/-- The site chain, wake frames and the Ethernet commands: what each leaves. Where the rules leave a point open it follows
the model's choice of log entries 90, 92, 97, 98, 138, 180. -/
def Obligations.ChainAndEthernetCommandsComplete : Prop :=
  (∀ (s : State) (n : Fin 2) (f : List Byte), s.ethUp n.val = true →
      ((s.ep n.val).helloSent.all (fun a => s.passed a (100 * oneMs)) = true) →
      s.flag F.ETH_CTL_CHAIN_EN = true →
      f = s.chainFrame ctHELLO (le 2 s.site ++ le 1 s.net ++ le 1 n.val ++ le 2 (s.fld F.SYS_ID_TYPE_ID) ++ zeros 2) →
      Gives (.helloSend n) s fun t =>
      (t.ep n.val).helloSent = some s.el ∧ t.outs.drop s.outs.length = [Output.eth n.val (f ++ zeros (60 - f.length))]) ∧
  (∀ (s : State) (n : Fin 2) (x : EthIn) (p : List Byte), s.ethUp n.val = true →
      x.fcsOk = true →
      x.bytes.length ≤ 1518 →
      x.fill = 0 →
      chainPayload ctHELLO x.bytes = some p →
      rdN p 0 2 = s.site →
      s.flag F.ETH_CTL_CHAIN_EN = true →
      p.length = 8 →
      Gives (.helloReceive n x) s fun t =>
      t.fld (F.ETH_P_CNT1_RX_OK n.val) = min (s.fld (F.ETH_P_CNT1_RX_OK n.val) + 1) 65535 ∧ t.fld (F.ETH_P_STAT_NBR_OK n.val) = 1 ∧ t.fld (F.ETH_P_STAT_NBR_NET n.val) = rdN p 2 1 ∧ (t.ep n.val).helloAt = s.el ∧ (t.ep n.val).helloType = rdN p 4 2 ∧
      (s.flag (F.ETH_P_STAT_NBR_OK n.val) = false ∨ s.fld (F.ETH_P_STAT_NBR_NET n.val) ≠ rdN p 2 1 → bit t.pend Ev.ethChain = true) ∧ (rdN p 2 1 = s.net → t.flag F.ETH_STAT_DUP_NET = true)) ∧
  (∀ (s : State) (n : Fin 2), s.flag (F.ETH_P_STAT_NBR_OK n.val) = true →
      s.passed (s.ep n.val).helloAt (350 * oneMs) = true →
      Gives (.neighbourTimeout n) s fun t =>
      t.fld (F.ETH_P_STAT_NBR_OK n.val) = 0 ∧ bit t.pend Ev.ethChain = true ∧ (∀ y ∈ s.upd.sched.toList, bit y.nbr n.val = true → s.cancellable y = true → t.upd.sched = none)) ∧
  (∀ (s : State) (n : Fin 2) (x : EthIn) (p : List Byte) (f : List Byte) (g : List Byte), s.ethUp n.val = true →
      x.fcsOk = true →
      x.bytes.length ≤ 1518 →
      x.fill = 0 →
      chainPayload ctDISCOVER x.bytes = some p →
      rdN p 0 2 = s.site →
      s.flag F.ETH_CTL_CHAIN_EN = true →
      p.length = 8 →
      f = s.chainFrame ctREPLY ((p.take 3 ++ le 1 (rdN p 3 1 + 1)) ++ (p.drop 4).take 2 ++ s.ownEntry 0) →
      g = s.chainFrame ctDISCOVER ((p.take 3 ++ le 1 (rdN p 3 1 + 1)) ++ p.drop 4) →
      Gives (.discoverReceive n x) s fun t =>
      t.fld (F.ETH_P_CNT1_RX_OK n.val) = min (s.fld (F.ETH_P_CNT1_RX_OK n.val) + 1) 65535 ∧ Output.eth n.val (f ++ zeros (60 - f.length)) ∈ t.outs.drop s.outs.length ∧
      (rdN p 3 1 < 15 → s.ethUp (1 - n.val) = true → Output.eth (1 - n.val) (g ++ zeros (60 - g.length)) ∈ t.outs.drop s.outs.length) ∧ (15 ≤ rdN p 3 1 → (t.outs.drop s.outs.length).length = 1)) ∧
  (∀ (s : State) (n : Fin 2) (x : EthIn) (p : List Byte) (f : List Byte), s.ethUp n.val = true →
      x.fcsOk = true →
      x.bytes.length ≤ 1518 →
      x.fill = 0 →
      chainPayload ctREPLY x.bytes = some p →
      rdN p 0 2 = s.site →
      s.flag F.ETH_CTL_CHAIN_EN = true →
      p.length = 22 →
      rdN p 2 1 ≠ s.net →
      s.ethUp (1 - n.val) = true →
      f = s.chainFrame ctREPLY p →
      Gives (.discoverReplyReceive n x) s fun t =>
      t.fld (F.ETH_P_CNT1_RX_OK n.val) = min (s.fld (F.ETH_P_CNT1_RX_OK n.val) + 1) 65535 ∧ t.outs.drop s.outs.length = [Output.eth (1 - n.val) (f ++ zeros (60 - f.length))]) ∧
  (∀ (s : State) (n : Fin 2) (x : EthIn) (p : List Byte) (d : Discovery), s.ethUp n.val = true →
      x.fcsOk = true →
      x.bytes.length ≤ 1518 →
      x.fill = 0 →
      chainPayload ctREPLY x.bytes = some p →
      rdN p 0 2 = s.site →
      s.flag F.ETH_CTL_CHAIN_EN = true →
      p.length = 22 →
      rdN p 2 1 = s.net →
      s.eth.disc = [d] →
      d.reqId = rdN p 4 2 →
      d.entries.length < 15 →
      Gives (.discoverReplyReceive n x) s fun t =>
      t.fld (F.ETH_P_CNT1_RX_OK n.val) = min (s.fld (F.ETH_P_CNT1_RX_OK n.val) + 1) 65535 ∧ t.eth.disc = [{ d with entries := d.entries ++ [(p.drop 6).take 1 ++ leI 1 (if n = 0 then -(rdN p 3 1 : Int) else rdN p 3 1) ++ p.drop 8] }]) ∧
  (∀ (s : State) (c : Cmd) (f : List Byte), s.takes c opChainDiscover = true →
      c.payload.length = 4 →
      s.flag F.ETH_CTL_CHAIN_EN = true →
      f = s.chainFrame ctDISCOVER (le 2 s.site ++ le 1 s.net ++ le 1 0 ++ c.payload.take 2 ++ zeros 2) →
      Gives (.chainDiscover c) s fun t =>
      t.eth.disc = s.eth.disc ++ [⟨c.sid.val, c.seq.toNat, rdN c.payload 0 2, s.el, []⟩] ∧ ∀ n ∈ List.range 2, s.ethUp n = true → Output.eth n (f ++ zeros (60 - f.length)) ∈ t.outs.drop s.outs.length) ∧
  (∀ (s : State) (d : Discovery) (l : List Discovery) (e : Outst), s.eth.disc = d :: l →
      s.passed d.at_ (10 * oneMs) = true →
      (s.sess d.sid).outst = [e] →
      e.seq = d.seq →
      e.opcode = 0x0A05 →
      e.reply = none →
      s.svb.posts = [] →
      Gives (.discoverCollectEnd) s fun t =>
      t.eth.disc = l ∧ t.fld F.ETH_STAT_CHAIN_N = (d.entries.length) % 16 ∧ (hasTwin ((s.ownEntry 0 :: d.entries).map fun y => rdN y 0 1) = true → t.flag F.ETH_STAT_DUP_NET = true) ∧
      t.left d.sid e.src (.reply d.seq 0x0A05 false (s.sess d.sid).auth ⟨0, le 1 (s.ownEntry 0 :: d.entries).length ++ le 1 (t.fld F.ETH_STAT_DUP_NET) ++ zeros 2 ++ (s.ownEntry 0 :: d.entries).flatten⟩)) ∧
  (∀ (s : State) (n : Fin 2) (x : EthIn), s.pwr.state = .dormant →
      n.val = s.fld F.ETH_WAKE_CTL_PORT →
      x.fcsOk = true →
      x.bytes.length ≤ 1518 →
      s.flag F.PWR_WAKE_ETH_EN = true →
      ((s.wakeCause x.bytes).1 = 1 ∨ (s.wakeCause x.bytes).1 = 2) →
      Gives (.wakeFrame n x) s fun t =>
      t.pwr.state = .run ∧ t.pwr.wake = 0 ∧ t.fld F.ETH_WAKE_STAT_CAUSE = (s.wakeCause x.bytes).1 ∧ t.fld F.ETH_WAKE_STAT_PAT_NO = (s.wakeCause x.bytes).2 % 8 ∧ bit (t.fld F.PWR_WAKE_SRC_SRC) 1 = true ∧ bit t.pend Ev.ethWake = true ∧ bit t.pend Ev.pwrState = true) ∧
  (∀ (s : State) (n : Fin 2) (x : EthIn), s.pwr.state = .dormant →
      n.val = s.fld F.ETH_WAKE_CTL_PORT →
      x.fcsOk = true →
      x.bytes.length ≤ 1518 →
      (s.wakeCause x.bytes).1 = 3 →
      Gives (.wakeFrame n x) s fun t =>
      t.fld F.ETH_WAKE_STAT_CAUSE = 3 ∧ (s.flag F.PWR_WAKE_ETH_EN = true → t.pwr.state = .run ∧ bit t.pend Ev.ethWake = true)) ∧
  (∀ (s : State) (c : Cmd) (n : Nat), s.takes c opEthPortConfig = true →
      c.payload.length = 12 →
      n = rdN c.payload 0 1 →
      n < 2 →
      rdN c.payload 2 1 ≤ 2 →
      Gives (.ethPortConfig c) s fun t =>
      t.ok c (le 1 (t.fld (F.ETH_P_STAT_LINK n)) ++ le 1 (t.fld (F.ETH_P_STAT_SPEED_1G n)) ++ le 1 (t.fld (F.ETH_P_STAT_VERIFY n)) ++ zeros 1) ∧
      t.fld (F.ETH_P_CFG_EN n) = rdN c.payload 1 1 % 2 ∧ t.fld (F.ETH_P_CFG_PREEMPT n) = rdN c.payload 1 1 / 2 % 2 ∧ t.fld (F.ETH_P_CFG_PAUSE_RX n) = rdN c.payload 1 1 / 4 % 2 ∧ t.fld (F.ETH_P_CFG_PAUSE_TX n) = rdN c.payload 1 1 / 8 % 2 ∧
      t.fld (F.ETH_P_CFG_SPEED n) = rdN c.payload 2 1 ∧ (t.reg (R.ETH_P_ING n)).toNat = rdN c.payload 4 4 ∧ (t.reg (R.ETH_P_EG n)).toNat = rdN c.payload 8 4 ∧ (rdN c.payload 1 1 % 2 = 0 → t.fld (F.ETH_P_STAT_LINK n) = 0) ∧ t.nor.seq = s.nor.seq + 1) ∧
  (∀ (s : State) (c : Cmd), s.takes c opEthPortConfig = true →
      ((c.payload.length = 12 ∧ (2 < rdN c.payload 0 1 ∨ (rdN c.payload 0 1 ≠ 2 ∧ 2 < rdN c.payload 2 1))) ∨ (c.payload.length = 16 ∧ (2 < rdN c.payload 0 1 ∨ (rdN c.payload 0 1 = 2 ∧ (30 < rdN c.payload 8 1 ∨ (0 < rdN c.payload 8 1 ∧ rdN c.payload 8 1 < 8)))))) →
      Gives (.ethPortConfig c) s fun t =>
      t.answered c ⟨0x12, []⟩ ∧ t.nor = s.nor) ∧
  (∀ (s : State) (c : Cmd), s.takes c opEthPortConfig = true →
      c.payload.length = 16 →
      rdN c.payload 0 1 = 2 →
      (rdN c.payload 8 1 = 0 ∨ 8 ≤ rdN c.payload 8 1 ∧ rdN c.payload 8 1 ≤ 30) →
      Gives (.ethPortConfig c) s fun t =>
      t.ok c [] ∧ t.fld F.ETH_IP_ADDR_ADDR = rdN c.payload 4 4 ∧ t.fld F.ETH_IP_NET_PREFIX = rdN c.payload 8 1 ∧ t.fld F.ETH_IP_GW_GW = rdN c.payload 12 4 ∧ t.nor.seq = s.nor.seq + 1) ∧
  (∀ (s : State) (c : Cmd), s.takes c opPtpConfig = true →
      c.payload.length = 12 →
      rdN c.payload 0 1 ≤ 3 →
      rdN c.payload 2 1 ≤ 127 →
      (-7 ≤ rdI c.payload 5 1 ∧ rdI c.payload 5 1 ≤ 1) →
      (-3 ≤ rdI c.payload 6 1 ∧ rdI c.payload 6 1 ≤ 4) →
      (-7 ≤ rdI c.payload 7 1 ∧ rdI c.payload 7 1 ≤ 5) →
      (2 ≤ rdN c.payload 8 1 ∧ rdN c.payload 8 1 ≤ 10) →
      Gives (.ptpConfig c) s fun t =>
      t.ok c [] ∧ t.fld F.ETH_PTP_CTL_ROLE = rdN c.payload 0 1 ∧ t.fld F.ETH_PTP_CTL_TC_EN = rdN c.payload 1 1 % 2 ∧ t.fld F.ETH_PTP_CTL_TC_MODE = rdN c.payload 1 1 / 2 % 2 ∧ t.fld F.ETH_PTP_CTL_TRANSPORT = rdN c.payload 1 1 / 4 % 2 ∧ t.fld F.ETH_PTP_CTL_DOMAIN = rdN c.payload 2 1 ∧
      t.fld F.ETH_PTP_CTL_PRIO1 = rdN c.payload 3 1 ∧ t.fld F.ETH_PTP_CTL_PRIO2 = rdN c.payload 4 1 ∧ t.fld F.ETH_PTP_INT_LOG_SYNC = rdN c.payload 5 1 ∧ t.fld F.ETH_PTP_INT_LOG_ANN = rdN c.payload 6 1 ∧ t.fld F.ETH_PTP_INT_LOG_DREQ = rdN c.payload 7 1 ∧ t.fld F.ETH_PTP_INT_ANN_TO = rdN c.payload 8 1 ∧ t.nor.seq = s.nor.seq + 1) ∧
  (∀ (s : State) (c : Cmd), s.takes c opPtpConfig = true →
      c.payload.length = 12 →
      (¬ (rdN c.payload 0 1 ≤ 3 ∧ rdN c.payload 2 1 ≤ 127 ∧ -7 ≤ rdI c.payload 5 1 ∧ rdI c.payload 5 1 ≤ 1 ∧ -3 ≤ rdI c.payload 6 1 ∧ rdI c.payload 6 1 ≤ 4 ∧ -7 ≤ rdI c.payload 7 1 ∧ rdI c.payload 7 1 ≤ 5 ∧ 2 ≤ rdN c.payload 8 1 ∧ rdN c.payload 8 1 ≤ 10)) →
      Gives (.ptpConfig c) s fun t =>
      t.answered c ⟨0x12, []⟩ ∧ t.nor = s.nor)

/-- Link delay measurement and the PTP clock as slave and as master: what each event leaves. Where the rules leave a point open it follows
the model's choice of log entries 90, 93 to 96. -/
def Obligations.LinkDelayAndPtpClockComplete : Prop :=
  (∀ (s : State) (n : Fin 2), s.ethUp n.val = true →
      s.p2p = true →
      ((s.ep n.val).pdAt.all (fun a => s.passed a (logNs (s.fld F.ETH_PTP_INT_LOG_DREQ))) = true) →
      Gives (.pdelayReqSend n) s fun t =>
      t.ep n.val = { s.ep n.val with pdSeq := ((s.ep n.val).pdSeq + 1) % 65536, pdAt := some s.el, pdT1 := some (s.egressNow n.val), pdTwo := none } ∧ (t.outs.drop s.outs.length).length = 1) ∧
  (∀ (s : State) (n : Fin 2) (x : EthIn) (tr : Nat) (o : Nat) (a : Int), s.ethUp n.val = true →
      x.fcsOk = true →
      x.bytes.length ≤ 1518 →
      x.fill = 0 →
      ptpAt x.bytes = some (tr, o) →
      s.p2p = true →
      ptpReq x.bytes o = s.portId (n.val + 1) →
      ptpSeq x.bytes o = (s.ep n.val).pdSeq →
      (s.ep n.val).pdT1 = some a →
      ptpType x.bytes o = ptPDELAY_RESP →
      ptpTwoStep x.bytes o = false →
      Gives (.pdelayRespReceive n x) s fun t =>
      t.fld (F.ETH_P_CNT1_RX_OK n.val) = min (s.fld (F.ETH_P_CNT1_RX_OK n.val) + 1) 65535 ∧ (t.ep n.val).delays = ((s.ingressPs n.val x.rx - a - corrPs (ptpCorr x.bytes o)) / 2 :: (s.ep n.val).delays).take 8 ∧ (t.ep n.val).pdT1 = none ∧ t.fld (F.ETH_P_LDELAY_LDELAY n.val) = (clampI 0 (2 ^ 32 - 1) (((t.ep n.val).delays.foldl (fun y z => y + z) (0 : Int) / ((t.ep n.val).delays.length : Nat) + 500) / 1000)).toNat) ∧
  (∀ (s : State) (n : Fin 2) (x : EthIn) (tr : Nat) (o : Nat) (a : Int), s.ethUp n.val = true →
      x.fcsOk = true →
      x.bytes.length ≤ 1518 →
      x.fill = 0 →
      ptpAt x.bytes = some (tr, o) →
      s.p2p = true →
      ptpReq x.bytes o = s.portId (n.val + 1) →
      ptpSeq x.bytes o = (s.ep n.val).pdSeq →
      (s.ep n.val).pdT1 = some a →
      ptpType x.bytes o = ptPDELAY_RESP →
      ptpTwoStep x.bytes o = true →
      Gives (.pdelayRespReceive n x) s fun t =>
      t.ep n.val = { s.ep n.val with pdTwo := some (s.ingressPs n.val x.rx, stampPs x.bytes (o + 34), corrPs (ptpCorr x.bytes o)) }) ∧
  (∀ (s : State) (n : Fin 2) (x : EthIn) (tr : Nat) (o : Nat) (a : Int) (y : Int) (z : Int) (k : Int), s.ethUp n.val = true →
      x.fcsOk = true →
      x.bytes.length ≤ 1518 →
      x.fill = 0 →
      ptpAt x.bytes = some (tr, o) →
      s.p2p = true →
      ptpReq x.bytes o = s.portId (n.val + 1) →
      ptpSeq x.bytes o = (s.ep n.val).pdSeq →
      (s.ep n.val).pdT1 = some a →
      ptpType x.bytes o = ptPDELAY_FOLLOW →
      (s.ep n.val).pdTwo = some (y, z, k) →
      Gives (.pdelayRespReceive n x) s fun t =>
      (t.ep n.val).delays = (((y - a) - (stampPs x.bytes (o + 34) - z) - k - corrPs (ptpCorr x.bytes o)) / 2 :: (s.ep n.val).delays).take 8 ∧ t.fld (F.ETH_P_LDELAY_LDELAY n.val) = (clampI 0 (2 ^ 32 - 1) (((t.ep n.val).delays.foldl (fun b d => b + d) (0 : Int) / ((t.ep n.val).delays.length : Nat) + 500) / 1000)).toNat) ∧
  (∀ (s : State) (n : Fin 2) (x : EthIn) (tr : Nat) (o : Nat), s.ethUp n.val = true →
      x.fcsOk = true →
      x.bytes.length ≤ 1518 →
      x.fill = 0 →
      ptpAt x.bytes = some (tr, o) →
      s.p2p = true →
      ptpType x.bytes o = ptPDELAY_REQ →
      Gives (.pdelayReqReceive n x) s fun t =>
      t.fld (F.ETH_P_CNT1_RX_OK n.val) = min (s.fld (F.ETH_P_CNT1_RX_OK n.val) + 1) 65535 ∧ (t.outs.drop s.outs.length).length = 1 ∧ t.ep n.val = s.ep n.val) ∧
  (∀ (s : State) (n : Fin 2) (x : EthIn) (tr : Nat) (o : Nat), s.ethUp n.val = true →
      x.fcsOk = true →
      x.bytes.length ≤ 1518 →
      x.fill = 0 →
      ptpAt x.bytes = some (tr, o) →
      s.p2p = false →
      ptpType x.bytes o = ptPDELAY_REQ →
      Gives (.pdelayReqReceive n x) s fun t =>
      t.fld (F.ETH_P_CNT1_RX_OK n.val) = min (s.fld (F.ETH_P_CNT1_RX_OK n.val) + 1) 65535 ∧ t.outs = s.outs ∧ t.ep n.val = s.ep n.val) ∧
  (∀ (s : State) (n : Fin 2) (x : EthIn) (tr : Nat) (o : Nat), s.ethUp n.val = true →
      x.fcsOk = true →
      x.bytes.length ≤ 1518 →
      x.fill = 0 →
      ptpAt x.bytes = some (tr, o) →
      (isPtpGroup (frameDA x.bytes) = true ∨ (frameDA x.bytes = s.mac ∧ isReserved s.mac = false ∧ s.mac ≠ chainMac)) →
      s.fld F.ETH_PTP_CTL_ROLE ≠ 0 →
      tr = s.fld F.ETH_PTP_CTL_TRANSPORT →
      rdN x.bytes (o + 4) 1 = s.fld F.ETH_PTP_CTL_DOMAIN →
      ptpType x.bytes o = ptANNOUNCE →
      s.fld F.ETH_PTP_CTL_ROLE = 1 →
      ptpSrc x.bytes o / 65536 ≠ s.clockId →
      s.eth.ptp.best = none →
      Gives (.ptpAnnounceReceive n x) s fun t =>
      t.fld F.ETH_PTP_STAT_PORT_STATE = psSLAVE ∧ t.fld F.ETH_PTP_STAT_SLAVE_PORT = n.val ∧ (∃ b ∈ t.eth.ptp.best.toList, b.src = ptpSrc x.bytes o ∧ b.port = n.val ∧ b.at_ = s.el) ∧ (s.ptpState ≠ psSLAVE → bit t.pend Ev.ethPtp = true)) ∧
  (∀ (s : State) (n : Fin 2) (x : EthIn) (tr : Nat) (o : Nat), s.ethUp n.val = true →
      x.fcsOk = true →
      x.bytes.length ≤ 1518 →
      x.fill = 0 →
      ptpAt x.bytes = some (tr, o) →
      (isPtpGroup (frameDA x.bytes) = true ∨ (frameDA x.bytes = s.mac ∧ isReserved s.mac = false ∧ s.mac ≠ chainMac)) →
      s.fld F.ETH_PTP_CTL_ROLE ≠ 0 →
      tr = s.fld F.ETH_PTP_CTL_TRANSPORT →
      rdN x.bytes (o + 4) 1 = s.fld F.ETH_PTP_CTL_DOMAIN →
      s.fromMaster n.val x.bytes o = true →
      ptpType x.bytes o = ptSYNC →
      ptpTwoStep x.bytes o = false →
      Gives (.ptpSyncReceive n x) s fun t =>
      t.eth.ptp.sync = some (stampPs x.bytes (o + 34) + corrPs (ptpCorr x.bytes o), s.ingressPs n.val x.rx) ∧ t.eth.ptp.two = none ∧ (t.source 2).theta = s.ingressPs n.val x.rx - (stampPs x.bytes (o + 34) + corrPs (ptpCorr x.bytes o) + s.pathDelay) ∧ (t.source 2).lastValid = s.el) ∧
  (∀ (s : State) (n : Fin 2) (x : EthIn) (tr : Nat) (o : Nat), s.ethUp n.val = true →
      x.fcsOk = true →
      x.bytes.length ≤ 1518 →
      x.fill = 0 →
      ptpAt x.bytes = some (tr, o) →
      (isPtpGroup (frameDA x.bytes) = true ∨ (frameDA x.bytes = s.mac ∧ isReserved s.mac = false ∧ s.mac ≠ chainMac)) →
      s.fld F.ETH_PTP_CTL_ROLE ≠ 0 →
      tr = s.fld F.ETH_PTP_CTL_TRANSPORT →
      rdN x.bytes (o + 4) 1 = s.fld F.ETH_PTP_CTL_DOMAIN →
      s.fromMaster n.val x.bytes o = true →
      ptpType x.bytes o = ptSYNC →
      ptpTwoStep x.bytes o = true →
      Gives (.ptpSyncReceive n x) s fun t =>
      t.eth.ptp.two = some (ptpSeq x.bytes o, s.ingressPs n.val x.rx, corrPs (ptpCorr x.bytes o)) ∧ t.time = s.time) ∧
  (∀ (s : State) (n : Fin 2) (x : EthIn) (tr : Nat) (o : Nat) (a : Int) (b : Int), s.ethUp n.val = true →
      x.fcsOk = true →
      x.bytes.length ≤ 1518 →
      x.fill = 0 →
      ptpAt x.bytes = some (tr, o) →
      (isPtpGroup (frameDA x.bytes) = true ∨ (frameDA x.bytes = s.mac ∧ isReserved s.mac = false ∧ s.mac ≠ chainMac)) →
      s.fld F.ETH_PTP_CTL_ROLE ≠ 0 →
      tr = s.fld F.ETH_PTP_CTL_TRANSPORT →
      rdN x.bytes (o + 4) 1 = s.fld F.ETH_PTP_CTL_DOMAIN →
      s.fromMaster n.val x.bytes o = true →
      ptpType x.bytes o = ptFOLLOW_UP →
      s.eth.ptp.two = some (ptpSeq x.bytes o, a, b) →
      Gives (.ptpSyncReceive n x) s fun t =>
      t.eth.ptp.sync = some (stampPs x.bytes (o + 34) + b + corrPs (ptpCorr x.bytes o), a) ∧ t.eth.ptp.two = none ∧ (t.source 2).theta = a - (stampPs x.bytes (o + 34) + b + corrPs (ptpCorr x.bytes o) + s.pathDelay)) ∧
  (∀ (s : State) (n : Fin 2) (x : EthIn) (tr : Nat) (o : Nat) (a : Int) (b : Int) (y : Int), s.ethUp n.val = true →
      x.fcsOk = true →
      x.bytes.length ≤ 1518 →
      x.fill = 0 →
      ptpAt x.bytes = some (tr, o) →
      (isPtpGroup (frameDA x.bytes) = true ∨ (frameDA x.bytes = s.mac ∧ isReserved s.mac = false ∧ s.mac ≠ chainMac)) →
      s.fld F.ETH_PTP_CTL_ROLE ≠ 0 →
      tr = s.fld F.ETH_PTP_CTL_TRANSPORT →
      rdN x.bytes (o + 4) 1 = s.fld F.ETH_PTP_CTL_DOMAIN →
      s.fromMaster n.val x.bytes o = true →
      ptpType x.bytes o = ptDELAY_RESP →
      ptpReq x.bytes o = s.portId 1 →
      s.eth.ptp.sync = some (a, b) →
      s.eth.ptp.dreq = some (ptpSeq x.bytes o, y) →
      Gives (.ptpDelayRespReceive n x) s fun t =>
      t.eth.ptp.dreq = none ∧ t.fld F.ETH_PTP_DELAY_DELAY = twos 32 (satI32 (((b - y) + (stampPs x.bytes (o + 34) - corrPs (ptpCorr x.bytes o) - a)) / 2000))) ∧
  (∀ (s : State), s.fld F.ETH_PTP_CTL_ROLE % 2 = 1 →
      s.passed ((s.eth.ptp.best.map (·.at_)).getD s.eth.ptp.since) s.announceWait = true →
      s.pwr.hubReady = true →
      s.pwr.state ≠ .dormant →
      Gives (.ptpAnnounceTimeout) s fun t =>
      t.eth.ptp.best = none ∧ t.fld F.ETH_PTP_STAT_PORT_STATE = (if s.fld F.ETH_PTP_CTL_ROLE = 3 then psMASTER else psLISTENING) ∧ t.fld F.ETH_PTP_STAT_SLAVE_PORT = 3 ∧ (s.ptpState = psSLAVE → (t.source 2).validSince = none ∧ bit t.pend Ev.ethPtp = true)) ∧
  (∀ (s : State), s.ptpState = psMASTER →
      (s.eth.ptp.syncAt.all (fun a => s.passed a (logNs (s.fld F.ETH_PTP_INT_LOG_SYNC))) = true) →
      Gives (.ptpSyncSend) s fun t =>
      t.eth.ptp = { s.eth.ptp with syncSeq := (s.eth.ptp.syncSeq + 1) % 65536, syncAt := some s.el } ∧ (t.outs.drop s.outs.length).length = b2n (s.ethUp 0) + b2n (s.ethUp 1)) ∧
  (∀ (s : State), s.ptpState = psMASTER →
      (s.eth.ptp.annAt.all (fun a => s.passed a (logNs (s.fld F.ETH_PTP_INT_LOG_ANN))) = true) →
      Gives (.ptpAnnounceSend) s fun t =>
      t.eth.ptp = { s.eth.ptp with annSeq := (s.eth.ptp.annSeq + 1) % 65536, annAt := some s.el } ∧ (t.outs.drop s.outs.length).length = b2n (s.ethUp 0) + b2n (s.ethUp 1)) ∧
  (∀ (s : State) (n : Nat), s.ptpState = psSLAVE →
      s.p2p = false →
      (s.eth.ptp.dreqAt.all (fun a => s.passed a (logNs (s.fld F.ETH_PTP_INT_LOG_DREQ))) = true) →
      n = s.fld F.ETH_PTP_STAT_SLAVE_PORT →
      n < 2 →
      s.ethUp n = true →
      Gives (.ptpDelayReqSend) s fun t =>
      t.eth.ptp = { s.eth.ptp with dreqSeq := (s.eth.ptp.dreqSeq + 1) % 65536, dreqAt := some s.el, dreq := some ((s.eth.ptp.dreqSeq + 1) % 65536, s.egressNow n) } ∧ (t.outs.drop s.outs.length).length = 1)

/-- Metering: samples, seconds, windows, faults, pulses, demand intervals and copies: what each leaves. Where the rules leave a point open it follows
the model's choice of log entries 101 to 106, 108, 173. -/
def Obligations.MeteringSamplesFaultsAndCopiesComplete : Prop :=
  (∀ (s : State) (x : MtrIn) (y : MtrIn) (u : State), s.mtr.running = true →
      s.mtrOn 0 = true →
      s.meterClock = true →
      u = (s.sampleChannels 0 x).sampleChannels 1 y →
      Gives (.meteringSample x y) s fun t =>
      (t.mp 0).n = (s.mp 0).n + 1 ∧ (t.mp 0).sq = u.sampleSquares 0 (s.mp 0).sq ∧ (t.mp 0).work = (u.sampleWork 0).foldl (fun d e => addAt d e.1 e.2) (s.mp 0).work ∧ (t.mp 0).demE = (s.mp 0).demE + sumKind (u.sampleWork 0) 0 ∧
      (∀ k ∈ s.usedChannels 0, (t.mp 0).channel k = ((s.mp 0).channel k).sample s.osr (s.calDelay 0 k) s.el (x.bits.getD k 0).toNat) ∧ (s.mtrOn 1 = false → t.mp 1 = s.mp 1)) ∧
  (∀ (s : State) (x : MtrIn) (y : MtrIn) (u : State), s.mtr.running = true →
      s.mtrOn 1 = true →
      s.meterClock = true →
      u = (s.sampleChannels 0 x).sampleChannels 1 y →
      Gives (.meteringSample x y) s fun t =>
      (t.mp 1).n = (s.mp 1).n + 1 ∧ (t.mp 1).sq = u.sampleSquares 1 (s.mp 1).sq ∧ (t.mp 1).demE = (s.mp 1).demE + sumKind (u.sampleWork 1) 0 ∧
      (∀ k ∈ s.usedChannels 1, (t.mp 1).channel k = ((s.mp 1).channel k).sample s.osr (s.calDelay 1 k) s.el (y.bits.getD k 0).toNat)) ∧
  (∀ (s : State) (f : Nat) (g : Nat), s.mtr.running = true →
      s.pwr.hubReady = true →
      s.pwr.state ≠ .dormant →
      s.mtr.second < s.now / oneSec →
      Gives (.meterSecond f g) s fun t =>
      t.mtr.second = s.now / oneSec ∧ t.mtr.taken = true ∧ (t.mp 0).n = 0 ∧ (t.mp 0).sq = [] ∧ (t.mp 0).work = [] ∧ (t.mp 0).freq = f ∧ (t.mp 1).freq = g ∧ (∀ k ∈ List.range 7, Tbl.get 0 (t.mp 0).rms k = (s.mp 0).rmsOf k ∧ Tbl.get 0 (t.mp 1).rms k = (s.mp 1).rmsOf k) ∧
      (∀ k ∈ List.range 3, Tbl.get 0 (t.mp 0).pW k = (s.mp 0).mean k 0 ∧ Tbl.get 0 (t.mp 1).pW k = (s.mp 1).mean k 0) ∧ t.vbat.acc = t.mtr.mirror ∧ t.vbat.accValid = true ∧ t.vbat.accTime = s.now / oneSec * oneSec ∧ t.time.inputSeq = (s.time.inputSeq + 1) % 2 ^ 32 ∧
      (s.anyLane = true → t.alt.meter.pW = (((meanWatts (sumKind (s.mp 0).work 0) oneSec : Nat) : Int) :: s.alt.meter.pW).take 256)) ∧
  (∀ (s : State) (f : Nat) (g : Nat), s.mtr.running = false →
      s.pwr.hubReady = true →
      s.pwr.state ≠ .dormant →
      s.mtr.second < s.now / oneSec →
      Gives (.meterSecond f g) s fun t =>
      t.mtr = { s.mtr with second := s.now / oneSec } ∧ t.vbat = s.vbat ∧ t.time.inputSeq = (s.time.inputSeq + 1) % 2 ^ 32 ∧ (s.anyLane = true → t.alt.meter.valid = false)) ∧
  (∀ (s : State) (p : Fin 2) (x : WindowIn), s.mtr.running = true →
      s.mtrOn p.val = true →
      Gives (.harmonicWindowEnd p x) s fun t =>
      (t.mp p.val).windows = (⟨s.now, if (s.mp p.val).freqBad then 500 * s.windowCycles else x.freq, (List.range 7).map fun k => (List.range 63).map fun h => winGroupSq x s.windowCycles k (h + 1), (List.range 7).map (s.mp p.val).windowRms, (List.range 3).map (fun f => meanPower (s.mp p.val).workW (s.mp p.val).nW f 0), (List.range 3).map (fun f => meanPower (s.mp p.val).workW (s.mp p.val).nW f 1)⟩ :: (s.mp p.val).windows).take 15 ∧ ((t.mp p.val).seqIn = 0 ∧ (t.mp p.val).seqOut = (s.mp p.val).seqOut + 1 ∨ (t.mp p.val).seqOut = 0 ∧ (t.mp p.val).seqIn = (s.mp p.val).seqIn + 1) ∧
      ((t.mp p.val).neuIn = none ∧ (t.mp p.val).neuOut = some ((s.mp p.val).neuOut.getD s.el) ∨ (t.mp p.val).neuOut = none ∧ (t.mp p.val).neuIn = some ((s.mp p.val).neuIn.getD s.el))) ∧
  (∀ (s : State) (p : Fin 2) (k : Fin 7) (z : Fin 3), s.mtr.running = true →
      s.mtrOn p.val = true →
      z.val < 2 →
      Tbl.get 0 (s.mp p.val).chan k.val ≠ z.val + 1 →
      (if z.val = 0 then ((s.mp p.val).channel k.val).saturated else ((s.mp p.val).channel k.val).noData) = true →
      Gives (.channelFault p k z) s fun t =>
      Tbl.get 0 (t.mp p.val).chan k.val = z.val + 1 ∧ bit (t.mtrFlags p.val) 7 = true ∧ t.fld F.MTR_CNT_CHAN_FAULT = min (s.fld F.MTR_CNT_CHAN_FAULT + 1) (2 ^ F.MTR_CNT_CHAN_FAULT.width - 1) ∧ bit t.pend Ev.mtrChan = true) ∧
  (∀ (s : State) (p : Fin 2) (k : Fin 7) (z : Fin 3), s.mtr.running = true →
      s.mtrOn p.val = true →
      z.val = 2 →
      Tbl.get 0 (s.mp p.val).chan k.val ≠ 0 →
      ((s.mp p.val).channel k.val).saturated = false →
      ((s.mp p.val).channel k.val).noData = false →
      s.passed ((s.mp p.val).channel k.val).badAt oneSec = true →
      Gives (.channelFault p k z) s fun t =>
      Tbl.get 0 (t.mp p.val).chan k.val = 0 ∧ bit t.pend Ev.mtrChan = true) ∧
  (∀ (s : State) (p : Fin 2) (k : Fin 7), s.mtr.running = true →
      s.mtrOn p.val = true →
      bit (s.mtrFlags p.val) k.val = false →
      (s.faultDue p.val k.val).1 = true →
      Gives (.meterFaultChange p k) s fun t =>
      bit (t.mtrFlags p.val) k.val = true ∧ bit t.pend Ev.mtrFault = true) ∧
  (∀ (s : State) (p : Fin 2) (k : Fin 7), s.mtr.running = true →
      s.mtrOn p.val = true →
      bit (s.mtrFlags p.val) k.val = true →
      (s.faultDue p.val k.val).2 = true →
      Gives (.meterFaultChange p k) s fun t =>
      bit (t.mtrFlags p.val) k.val = false ∧ bit t.pend Ev.mtrFault = true) ∧
  (∀ (s : State) (k : Fin 4), s.mtr.running = true →
      s.flag (F.MTR_PLS_EN k.val) = true →
      s.flag F.MTR_STAT_CAL_BAD = false →
      0 < (Tbl.get ({} : PulseOut) s.mtr.pulses k.val).queue →
      ((Tbl.get ({} : PulseOut) s.mtr.pulses k.val).lastEdge.all (fun a => s.passed a (2 * orOne (s.fld (F.MTR_PLS_WIDTH k.val)) * oneMs)) = true) →
      Gives (.epulseEmit k) s fun t =>
      Tbl.get ({} : PulseOut) t.mtr.pulses k.val = { (Tbl.get ({} : PulseOut) s.mtr.pulses k.val) with queue := (Tbl.get ({} : PulseOut) s.mtr.pulses k.val).queue - 1, lastEdge := some s.el } ∧ t.outs = s.outs ++ [.epulse k.val (orOne (s.fld (F.MTR_PLS_WIDTH k.val))) (s.flag (F.MTR_PLS_POL k.val))]) ∧
  (∀ (s : State), s.mtr.running = true →
      s.demandEnd ≤ s.now →
      Gives (.demandIntervalEnd) s fun t =>
      t.mtr.intStart = s.now ∧ t.mtr.intEl = s.el ∧ (s.mtrOn 0 = true → (t.mp 0).demE = 0 ∧ (t.mp 0).demLast = min (meanWatts (s.mp 0).demE (s.el - s.mtr.intEl)) (2 ^ 32 - 1) ∧ (t.mp 0).maxDem = max (s.mp 0).maxDem (t.mp 0).demLast ∧ bit t.pend Ev.mtrDemand = true) ∧ (s.mtrOn 1 = true → (t.mp 1).demE = 0 ∧ (t.mp 1).demLast = min (meanWatts (s.mp 1).demE (s.el - s.mtr.intEl)) (2 ^ 32 - 1) ∧ bit t.pend Ev.mtrDemand = true)) ∧
  (∀ (s : State), s.mtr.running = true →
      s.mtr.copyIdx < s.now / (900 * oneSec) →
      Gives (.energyNorCopy true) s fun t =>
      t.mtr.copyIdx = s.now / (900 * oneSec) ∧ t.mtr.retry = none ∧ t.nor.energySeq = s.nor.energySeq + 1 ∧ t.nor.energy = (⟨s.nor.energySeq + 1, s.now, 0, s.mtr.mirror⟩ :: s.nor.energy).take 128) ∧
  (∀ (s : State), s.mtr.running = true →
      s.mtr.copyIdx < s.now / (900 * oneSec) →
      Gives (.energyNorCopy false) s fun t =>
      t.mtr.copyIdx = s.now / (900 * oneSec) ∧ t.mtr.retry = some s.el ∧ t.nor = s.nor) ∧
  (∀ (s : State) (g : Bool) (a : Nat), s.mtr.running = true →
      s.mtr.retry = some a →
      a + oneSec ≤ s.el →
      Gives (.energyCopyRetry g) s fun t =>
      (g = true → t.mtr.retry = none ∧ t.nor.energySeq = s.nor.energySeq + 1) ∧ (g = false → t.mtr.retry = some s.el ∧ t.nor = s.nor)) ∧
  (∀ (s : State) (a : Nat), s.mtr.restart = some a →
      Gives (.meterFrontEndRestart) s fun t =>
      t.mtr.running = true ∧ t.mtr.restart = none ∧ t.mtr.startEl = s.el ∧ t.mtr.taken = false ∧ (s.flag F.TIM_STAT_STEPPED = true → t.fld F.MTR_CNT_OUTAGES = min (s.fld F.MTR_CNT_OUTAGES + 1) (2 ^ F.MTR_CNT_OUTAGES.width - 1) ∧ bit t.pend Ev.mtrGap = true) ∧ (s.flag F.TIM_STAT_STEPPED = false → t.mtr.recover = some (0, some a)))

/-- MTR commands: what each answers and leaves. Where the rules leave a point open it follows
the model's choice of log entries 106, 107. -/
def Obligations.MeteringCommandsComplete : Prop :=
  (∀ (s : State) (c : Cmd), s.takes c opMtrConfig = true →
      c.payload.length = 52 →
      Gives (.mtrConfig c) s fun t =>
      t.ok c [] ∧ t.reg R.MTR_CTL = BitVec.ofNat 32 (rdN c.payload 0 4 &&& 0xFC000F33) ∧ (t.reg R.MTR_NOM0).toNat = rdN c.payload 4 4 ∧ (t.reg R.MTR_NOM1).toNat = rdN c.payload 8 4 ∧ (t.reg R.MTR_FLT).toNat = rdN c.payload 12 4 ∧ (t.reg R.MTR_REV).toNat = rdN c.payload 16 4 ∧
      (∀ k ∈ List.range 4, t.reg (R.MTR_PLS k) = BitVec.ofNat 32 (rdN c.payload (20 + 4 * k) 4 &&& 0xC0000FFF) ∧ (t.reg (R.MTR_PK k)).toNat = rdN c.payload (36 + 4 * k) 4 % 2 ^ 20) ∧ t.nor.seq = s.nor.seq + 1 ∧ (s.mtr.running = true → t.fld F.MTR_CTL_CLK_SEL ≠ s.fld F.MTR_CTL_CLK_SEL → t.mtr.running = false ∧ t.mtr.restart = some s.now)) ∧
  (∀ (s : State) (c : Cmd), s.takes c opMtrGetReadings = true →
      c.payload.length = 4 →
      rdN c.payload 0 1 ≤ 1 →
      Gives (.mtrGetReadings c) s fun t =>
      t.ok c (s.reading (rdN c.payload 0 1)) ∧ t.mtr = s.mtr) ∧
  (∀ (s : State) (c : Cmd), s.takes c opMtrGetReadings = true →
      c.payload.length = 4 →
      1 < rdN c.payload 0 1 →
      Gives (.mtrGetReadings c) s fun t =>
      t.answered c ⟨0x12, []⟩ ∧ t.mtr = s.mtr) ∧
  (∀ (s : State) (c : Cmd) (m : MtrPoint) (h : List Byte), s.takes c opMtrGetHarmonics = true →
      c.payload.length = 4 →
      rdN c.payload 0 1 ≤ 1 →
      rdN c.payload 1 1 ≤ 6 →
      rdN c.payload 2 1 ≤ 1 →
      m = s.mp (rdN c.payload 0 1) →
      h = le 8 ((m.windows.head?.map (·.at_)).getD 0) ++ le 4 (groupValue (m.groupSq (rdN c.payload 1 1) 1 (rdN c.payload 2 1 == 1))) ++ le 2 ((m.windows.head?.map (·.freq)).getD 0) →
      0 < m.groupSq (rdN c.payload 1 1) 1 (rdN c.payload 2 1 == 1) →
      Gives (.mtrGetHarmonics c) s fun t =>
      t.ok c (h ++ le 2 (min 65535 (groupRatio (((List.range 62).map fun k => m.groupSq (rdN c.payload 1 1) (k + 2) (rdN c.payload 2 1 == 1)).foldl (fun a v => a + v) (0 : Nat)) (m.groupSq (rdN c.payload 1 1) 1 (rdN c.payload 2 1 == 1)))) ++ (((List.range 62).map fun k => le 2 (min 65535 (groupRatio (m.groupSq (rdN c.payload 1 1) (k + 2) (rdN c.payload 2 1 == 1)) (m.groupSq (rdN c.payload 1 1) 1 (rdN c.payload 2 1 == 1))))).flatten)) ∧ t.mtr = s.mtr ∧ t.free = s.free) ∧
  (∀ (s : State) (c : Cmd) (m : MtrPoint) (h : List Byte), s.takes c opMtrGetHarmonics = true →
      c.payload.length = 4 →
      rdN c.payload 0 1 ≤ 1 →
      rdN c.payload 1 1 ≤ 6 →
      rdN c.payload 2 1 ≤ 1 →
      m = s.mp (rdN c.payload 0 1) →
      h = le 8 ((m.windows.head?.map (·.at_)).getD 0) ++ le 4 (groupValue (m.groupSq (rdN c.payload 1 1) 1 (rdN c.payload 2 1 == 1))) ++ le 2 ((m.windows.head?.map (·.freq)).getD 0) →
      m.groupSq (rdN c.payload 1 1) 1 (rdN c.payload 2 1 == 1) = 0 →
      Gives (.mtrGetHarmonics c) s fun t =>
      (∃ a : List Byte, a.length = 126 ∧ t.ok c (h ++ a)) ∧ t.mtr = s.mtr) ∧
  (∀ (s : State) (c : Cmd), s.takes c opMtrGetHarmonics = true →
      c.payload.length = 4 →
      (1 < rdN c.payload 0 1 ∨ 6 < rdN c.payload 1 1 ∨ 1 < rdN c.payload 2 1) →
      Gives (.mtrGetHarmonics c) s fun t =>
      t.answered c ⟨0x12, []⟩ ∧ t.mtr = s.mtr) ∧
  (∀ (s : State) (c : Cmd), s.takes c opMtrSetCap = true →
      c.payload.length = 4 →
      rdN c.payload 0 1 = 0 →
      Gives (.mtrSetCap c) s fun t =>
      t.ok c (le 2 s.alt.meter.capKw ++ zeros 2) ∧ t.alt = s.alt ∧ t.nor = s.nor) ∧
  (∀ (s : State) (c : Cmd), s.takes c opMtrSetCap = true →
      c.payload.length = 4 →
      rdN c.payload 0 1 = 1 →
      Gives (.mtrSetCap c) s fun t =>
      t.ok c (le 2 (rdN c.payload 2 2) ++ zeros 2) ∧ t.alt.meter.capKw = rdN c.payload 2 2 ∧ t.nor.capKw = rdN c.payload 2 2 ∧ t.nor.seq = s.nor.seq + 1) ∧
  (∀ (s : State) (c : Cmd), s.takes c opMtrCalSeal = true →
      c.payload.length = 4 →
      rdN c.payload 0 1 = 0 →
      Gives (.mtrCalSeal c) s fun t =>
      t.ok c (le 1 t.fuses.sealLeft ++ le 1 (b2n (t.fuses.sealCrc != 0)) ++ zeros 2 ++ le 4 t.fuses.sealCrc) ∧ t.fuses = s.fuses ∧ t.nor.seq = s.nor.seq + 1 ∧ (∀ r ∈ calRegs, Tbl.get (regReset r) t.nor.regs r = s.reg r)) ∧
  (∀ (s : State) (c : Cmd) (v : Nat), s.takes c opMtrCalSeal = true →
      c.payload.length = 4 →
      ((rdN c.payload 0 1 = 1 ∧ s.calCrc ≠ 0 ∧ v = s.calCrc) ∨ (rdN c.payload 0 1 = 2 ∧ v = 0)) →
      0 < s.fuses.sealLeft →
      Gives (.mtrCalSeal c) s fun t =>
      t.ok c (le 1 t.fuses.sealLeft ++ le 1 (b2n (t.fuses.sealCrc != 0)) ++ zeros 2 ++ le 4 t.fuses.sealCrc) ∧ t.fuses = { s.fuses with sealCrc := v, sealLeft := s.fuses.sealLeft - 1 } ∧ t.fld F.MTR_SEAL_CRC = v % 2 ^ 32 ∧ t.cbk.q.length = s.cbk.q.length + 1 ∧ bit t.pend Ev.sysLc = true) ∧
  (∀ (s : State) (c : Cmd), s.takes c opMtrCalSeal = true →
      c.payload.length = 4 →
      ((rdN c.payload 0 1 = 1 ∧ s.calCrc ≠ 0) ∨ rdN c.payload 0 1 = 2) →
      s.fuses.sealLeft = 0 →
      Gives (.mtrCalSeal c) s fun t =>
      t.answered c ⟨0x42, []⟩ ∧ t.fuses = s.fuses ∧ t.cbk.q.length = s.cbk.q.length + 1) ∧
  (∀ (s : State) (c : Cmd), s.takes c opMtrCalSeal = true →
      c.payload.length = 4 →
      (2 < rdN c.payload 0 1 ∨ (rdN c.payload 0 1 = 1 ∧ s.calCrc = 0)) →
      Gives (.mtrCalSeal c) s fun t =>
      t.answered c ⟨0x12, []⟩ ∧ t.fuses = s.fuses)

/-- Lane states, checks, switch-over, digests, racking and the lane commands: what each leaves. Where the rules leave a point open it follows
the model's choice of log entries 6, 109 to 112, 155, 156. -/
def Obligations.LanesChecksSwitchOverAndDigestsComplete : Prop :=
  (∀ (s : State) (lane : Fin 2), s.laneSt lane.val = laneStSELFTEST →
      Gives (.laneSelfTestDone lane true) s fun t =>
      t.laneSt lane.val = (if s.inService (otherLane lane.val) then laneStRACKING else laneStCOLD) ∧ t.laneSt (otherLane lane.val) = s.laneSt (otherLane lane.val)) ∧
  (∀ (s : State) (lane : Fin 2), s.laneSt lane.val = laneStSELFTEST →
      Gives (.laneSelfTestDone lane false) s fun t =>
      ((t.laneSt lane.val = laneStFAILED ∧ s.flag F.LAN_CTL_AUTO_REJOIN = false ∨ t.laneSt lane.val = laneStFAILED ∧ t.switching = true ∨ t.laneSt lane.val = laneStRETIRED ∧ s.flag F.LAN_CTL_RETIRE_EN = true ∧ 3 ≤ (s.failsInHour lane.val).length ∨ t.laneSt lane.val = laneStSELFTEST ∧ s.flag F.LAN_CTL_AUTO_REJOIN = true) ∧ bit (t.fld (fDiagCause lane.val)) dgRACK = true ∧ Tbl.get [] t.lan.fails lane.val = s.failsInHour lane.val ∧ t.fld F.LAN_CNT_DIAG_FAILS = min (s.fld F.LAN_CNT_DIAG_FAILS + 1) (2 ^ F.LAN_CNT_DIAG_FAILS.width - 1) ∧ bit t.pend Ev.lanDiag = true)) ∧
  (∀ (s : State) (lane : Fin 2) (k : Fin 9) (e : Byte) (o : Word), s.laneLive lane.val = true →
      (k.val ≠ dgDRAM_FENCE ∨ laneMayWrite lane.val o.toNat = false) →
      Gives (.laneDiagFail lane k e o) s fun t =>
      ((t.laneSt lane.val = laneStFAILED ∧ s.flag F.LAN_CTL_AUTO_REJOIN = false ∨ t.laneSt lane.val = laneStFAILED ∧ t.switching = true ∨ t.laneSt lane.val = laneStRETIRED ∧ s.flag F.LAN_CTL_RETIRE_EN = true ∧ 3 ≤ (s.failsInHour lane.val).length ∨ t.laneSt lane.val = laneStSELFTEST ∧ s.flag F.LAN_CTL_AUTO_REJOIN = true) ∧ bit (t.fld (fDiagCause lane.val)) k.val = true ∧ Tbl.get [] t.lan.fails lane.val = s.failsInHour lane.val ∧ t.fld F.LAN_CNT_DIAG_FAILS = min (s.fld F.LAN_CNT_DIAG_FAILS + 1) (2 ^ F.LAN_CNT_DIAG_FAILS.width - 1) ∧ bit t.pend Ev.lanDiag = true) ∧ (s.laneSt lane.val = laneStACTIVE → s.switching = false → if s.laneSt (otherLane lane.val) = laneStSHADOW then t.switching = true ∧ t.lan.switchAt = s.el else bit (t.fld F.STP_SRC_SRC) srcLANES = true) ∧ (k.val = dgDRAM_FENCE → bit t.pend Ev.sysDramFence = true)) ∧
  (∀ (s : State) (lane : Fin 2) (k : Fin 9) (e : Byte) (o : Word), k.val = dgDRAM_FENCE →
      laneMayWrite lane.val o.toNat = true →
      Gives (.laneDiagFail lane k e o) s fun t =>
      t = s) ∧
  (∀ (s : State) (lane : Fin 2), s.laneLive lane.val = true →
      Gives (.heartbeatLoss lane) s fun t =>
      ((t.laneSt lane.val = laneStFAILED ∧ s.flag F.LAN_CTL_AUTO_REJOIN = false ∨ t.laneSt lane.val = laneStFAILED ∧ t.switching = true ∨ t.laneSt lane.val = laneStRETIRED ∧ s.flag F.LAN_CTL_RETIRE_EN = true ∧ 3 ≤ (s.failsInHour lane.val).length ∨ t.laneSt lane.val = laneStSELFTEST ∧ s.flag F.LAN_CTL_AUTO_REJOIN = true) ∧ bit (t.fld (fDiagCause lane.val)) dgHEARTBEAT = true ∧ Tbl.get [] t.lan.fails lane.val = s.failsInHour lane.val ∧ t.fld F.LAN_CNT_DIAG_FAILS = min (s.fld F.LAN_CNT_DIAG_FAILS + 1) (2 ^ F.LAN_CNT_DIAG_FAILS.width - 1) ∧ bit t.pend Ev.lanDiag = true) ∧ (s.laneSt lane.val = laneStACTIVE → s.switching = false → if s.laneSt (otherLane lane.val) = laneStSHADOW then t.switching = true ∧ t.lan.switchAt = s.el else bit (t.fld F.STP_SRC_SRC) srcLANES = true)) ∧
  (∀ (s : State) (lane : Fin 2) (e : Byte), s.laneLive lane.val = true →
      Gives (.engineWatchdog lane e) s fun t =>
      ((t.laneSt lane.val = laneStFAILED ∧ s.flag F.LAN_CTL_AUTO_REJOIN = false ∨ t.laneSt lane.val = laneStFAILED ∧ t.switching = true ∨ t.laneSt lane.val = laneStRETIRED ∧ s.flag F.LAN_CTL_RETIRE_EN = true ∧ 3 ≤ (s.failsInHour lane.val).length ∨ t.laneSt lane.val = laneStSELFTEST ∧ s.flag F.LAN_CTL_AUTO_REJOIN = true) ∧ bit (t.fld (fDiagCause lane.val)) dgWATCHDOG = true ∧ Tbl.get [] t.lan.fails lane.val = s.failsInHour lane.val ∧ t.fld F.LAN_CNT_DIAG_FAILS = min (s.fld F.LAN_CNT_DIAG_FAILS + 1) (2 ^ F.LAN_CNT_DIAG_FAILS.width - 1) ∧ bit t.pend Ev.lanDiag = true) ∧ (s.laneSt lane.val = laneStACTIVE → s.switching = false → if s.laneSt (otherLane lane.val) = laneStSHADOW then t.switching = true ∧ t.lan.switchAt = s.el else bit (t.fld F.STP_SRC_SRC) srcLANES = true)) ∧
  (∀ (s : State) (lane : Fin 2) (n : BitVec 16) (e : Byte), s.laneLive lane.val = true →
      Gives (.laneScrub lane n (some e)) s fun t =>
      ((t.laneSt lane.val = laneStFAILED ∧ s.flag F.LAN_CTL_AUTO_REJOIN = false ∨ t.laneSt lane.val = laneStFAILED ∧ t.switching = true ∨ t.laneSt lane.val = laneStRETIRED ∧ s.flag F.LAN_CTL_RETIRE_EN = true ∧ 3 ≤ (s.failsInHour lane.val).length ∨ t.laneSt lane.val = laneStSELFTEST ∧ s.flag F.LAN_CTL_AUTO_REJOIN = true) ∧ bit (t.fld (fDiagCause lane.val)) dgCHECKSUM = true ∧ Tbl.get [] t.lan.fails lane.val = s.failsInHour lane.val ∧ t.fld F.LAN_CNT_DIAG_FAILS = min (s.fld F.LAN_CNT_DIAG_FAILS + 1) (2 ^ F.LAN_CNT_DIAG_FAILS.width - 1) ∧ bit t.pend Ev.lanDiag = true) ∧ (s.laneSt lane.val = laneStACTIVE → s.switching = false → if s.laneSt (otherLane lane.val) = laneStSHADOW then t.switching = true ∧ t.lan.switchAt = s.el else bit (t.fld F.STP_SRC_SRC) srcLANES = true) ∧ Tbl.get 0 t.lan.injected lane.val = 0) ∧
  (∀ (s : State) (lane : Fin 2) (n : BitVec 16) (m : Nat), s.laneLive lane.val = true →
      m = n.toNat + Tbl.get 0 s.lan.injected lane.val →
      Gives (.laneScrub lane n none) s fun t =>
      t.fld (if lane.val = 0 then F.LAN_ECC_CORR_A else F.LAN_ECC_CORR_B) = min 65535 m ∧ Tbl.get 0 t.lan.injected lane.val = 0 ∧ (if orOne (s.fld F.LAN_CTL_ECC_THR) < m then ((t.laneSt lane.val = laneStFAILED ∧ s.flag F.LAN_CTL_AUTO_REJOIN = false ∨ t.laneSt lane.val = laneStFAILED ∧ t.switching = true ∨ t.laneSt lane.val = laneStRETIRED ∧ s.flag F.LAN_CTL_RETIRE_EN = true ∧ 3 ≤ (s.failsInHour lane.val).length ∨ t.laneSt lane.val = laneStSELFTEST ∧ s.flag F.LAN_CTL_AUTO_REJOIN = true) ∧ bit (t.fld (fDiagCause lane.val)) dgECC_RATE = true ∧ Tbl.get [] t.lan.fails lane.val = s.failsInHour lane.val ∧ t.fld F.LAN_CNT_DIAG_FAILS = min (s.fld F.LAN_CNT_DIAG_FAILS + 1) (2 ^ F.LAN_CNT_DIAG_FAILS.width - 1) ∧ bit t.pend Ev.lanDiag = true) else t.laneSt lane.val = s.laneSt lane.val)) ∧
  (∀ (s : State), s.switching = true →
      s.laneSt 0 = laneStSHADOW →
      s.svb.posts = [] →
      Gives (.switchOverEnd) s fun t =>
      t.switching = false ∧ t.laneSt 0 = laneStACTIVE ∧ t.fld F.LAN_STAT_ACTIVE = 0 ∧ t.lan.heldEvents = [] ∧ t.heldOuts = [] ∧ t.fld F.LAN_TIME_SWITCH_US = min 65535 ((s.el - s.lan.switchAt) / 1000) ∧ t.fld F.LAN_CNT_SWITCHES = min (s.fld F.LAN_CNT_SWITCHES + 1) (2 ^ F.LAN_CNT_SWITCHES.width - 1) ∧ bit t.pend Ev.lanSwitch = true) ∧
  (∀ (s : State), s.switching = true →
      s.laneSt 0 ≠ laneStSHADOW →
      s.svb.posts = [] →
      Gives (.switchOverEnd) s fun t =>
      t.switching = false ∧ t.laneSt 1 = laneStACTIVE ∧ t.fld F.LAN_STAT_ACTIVE = 1 ∧ t.lan.heldEvents = [] ∧ t.heldOuts = [] ∧ bit t.pend Ev.lanSwitch = true) ∧
  (∀ (s : State) (k : Nat) (d0 : Nat) (d1 : Nat) (a : BitVec 64) (b : BitVec 64), Tbl.get none s.lan.digests 0 = some (k, d0) →
      Tbl.get none s.lan.digests 1 = some (k, d1) →
      s.switching = false →
      s.pwr.state ≠ .dormant →
      d0 ^^^ a.toNat = d1 ^^^ b.toNat →
      s.laneSt 0 = laneStACTIVE →
      s.laneSt 1 = laneStSHADOW →
      s.lan.agreed = none →
      s.lan.commanded = false →
      Gives (.digestCompare (some a) (some b)) s fun t =>
      t.lan.digests = [] ∧ t.fld F.LAN_DIG_SFN = k % 65536 ∧ t.fld F.LAN_DIG_LO_D_LO = (d0 ^^^ a.toNat) % 2 ^ 32 ∧ t.fld F.LAN_DIG_HI_D_HI = (d0 ^^^ a.toNat) / 2 ^ 32 % 2 ^ 32 ∧ t.fld F.LAN_DIG_AGREE_RUN = min (s.fld F.LAN_DIG_AGREE_RUN + 1) (2 ^ F.LAN_DIG_AGREE_RUN.width - 1) ∧ t.laneSt 0 = laneStACTIVE ∧ t.laneSt 1 = laneStSHADOW) ∧
  (∀ (s : State) (k : Nat) (d0 : Nat) (d1 : Nat) (a : BitVec 64) (b : BitVec 64), Tbl.get none s.lan.digests 0 = some (k, d0) →
      Tbl.get none s.lan.digests 1 = some (k, d1) →
      s.switching = false →
      s.pwr.state ≠ .dormant →
      d0 ^^^ a.toNat = d1 ^^^ b.toNat →
      s.laneSt 0 = laneStACTIVE →
      s.laneSt 1 = laneStSHADOW →
      s.lan.agreed = none →
      s.lan.commanded = true →
      Gives (.digestCompare (some a) (some b)) s fun t =>
      t.laneSt 0 = laneStSHADOW ∧ t.laneSt 1 = laneStACTIVE ∧ t.fld F.LAN_STAT_ACTIVE = 1 ∧ t.lan.commanded = false ∧ bit t.pend Ev.lanSwitch = true) ∧
  (∀ (s : State) (k : Nat) (d0 : Nat) (d1 : Nat) (a : BitVec 64) (b : BitVec 64), Tbl.get none s.lan.digests 0 = some (k, d0) →
      Tbl.get none s.lan.digests 1 = some (k, d1) →
      s.switching = false →
      s.pwr.state ≠ .dormant →
      d0 ^^^ a.toNat = d1 ^^^ b.toNat →
      s.laneSt 0 = laneStACTIVE →
      (s.laneSt 1 = laneStCHECKING ∨ s.laneSt 1 = laneStCOLD) →
      Gives (.digestCompare (some a) (some b)) s fun t =>
      t.lan.digests = [] ∧ t.fld F.LAN_DIG_SFN = k % 65536 ∧ t.fld F.LAN_DIG_LO_D_LO = (d0 ^^^ a.toNat) % 2 ^ 32 ∧ t.fld F.LAN_DIG_HI_D_HI = (d0 ^^^ a.toNat) / 2 ^ 32 % 2 ^ 32 ∧ t.fld F.LAN_DIG_AGREE_RUN = min (s.fld F.LAN_DIG_AGREE_RUN + 1) (2 ^ F.LAN_DIG_AGREE_RUN.width - 1) ∧ t.laneSt 1 = laneStSHADOW ∧ t.fld F.LAN_TIME_REJOIN_MS = min 65535 ((s.el - Tbl.get 0 s.lan.resetAt 1) / oneMs) ∧ bit t.pend Ev.lanRejoin = true) ∧
  (∀ (s : State) (k : Nat) (d0 : Nat) (d1 : Nat) (a : BitVec 64) (b : BitVec 64), Tbl.get none s.lan.digests 0 = some (k, d0) →
      Tbl.get none s.lan.digests 1 = some (k, d1) →
      s.switching = false →
      s.pwr.state ≠ .dormant →
      d0 ^^^ a.toNat ≠ d1 ^^^ b.toNat →
      s.laneSt 0 = laneStACTIVE →
      (s.laneSt 1 = laneStCHECKING ∨ s.laneSt 1 = laneStCOLD) →
      Gives (.digestCompare (some a) (some b)) s fun t =>
      t.lan.digests = [] ∧ t.fld F.LAN_DIG_SFN = k % 65536 ∧ t.fld F.LAN_DIG_LO_D_LO = (d0 ^^^ a.toNat) % 2 ^ 32 ∧ t.fld F.LAN_DIG_HI_D_HI = (d0 ^^^ a.toNat) / 2 ^ 32 % 2 ^ 32 ∧ t.fld F.LAN_DIG_AGREE_RUN = 0 ∧ ((t.laneSt 1 = laneStFAILED ∧ s.flag F.LAN_CTL_AUTO_REJOIN = false ∨ t.laneSt 1 = laneStFAILED ∧ t.switching = true ∨ t.laneSt 1 = laneStRETIRED ∧ s.flag F.LAN_CTL_RETIRE_EN = true ∧ 3 ≤ (s.failsInHour 1).length ∨ t.laneSt 1 = laneStSELFTEST ∧ s.flag F.LAN_CTL_AUTO_REJOIN = true) ∧ bit (t.fld (fDiagCause 1)) dgRACK = true ∧ Tbl.get [] t.lan.fails 1 = s.failsInHour 1 ∧ t.fld F.LAN_CNT_DIAG_FAILS = min (s.fld F.LAN_CNT_DIAG_FAILS + 1) (2 ^ F.LAN_CNT_DIAG_FAILS.width - 1) ∧ bit t.pend Ev.lanDiag = true) ∧ t.laneSt 0 = laneStACTIVE) ∧
  (∀ (s : State) (k : Nat) (d0 : Nat) (d1 : Nat) (a : BitVec 64) (b : BitVec 64), Tbl.get none s.lan.digests 0 = some (k, d0) →
      Tbl.get none s.lan.digests 1 = some (k, d1) →
      s.switching = false →
      s.pwr.state ≠ .dormant →
      d0 ^^^ a.toNat ≠ d1 ^^^ b.toNat →
      s.laneSt 0 = laneStACTIVE →
      s.laneSt 1 = laneStSHADOW →
      Gives (.digestCompare (some a) (some b)) s fun t =>
      t.lan.digests = [] ∧ t.fld F.LAN_DIG_SFN = k % 65536 ∧ t.fld F.LAN_DIG_LO_D_LO = (d0 ^^^ a.toNat) % 2 ^ 32 ∧ t.fld F.LAN_DIG_HI_D_HI = (d0 ^^^ a.toNat) / 2 ^ 32 % 2 ^ 32 ∧ t.fld F.LAN_DIG_AGREE_RUN = 0 ∧ t.fld F.LAN_STAT_MIS_LVL = (min 3 (s.fld F.LAN_STAT_MIS_LVL + 1)) ∧ t.fld F.LAN_STAT_MISMATCH = 1 ∧ t.fld F.LAN_CNT_MISMATCHES = min (s.fld F.LAN_CNT_MISMATCHES + 1) (2 ^ F.LAN_CNT_MISMATCHES.width - 1) ∧ t.lan.misLevel = (min 3 (s.fld F.LAN_STAT_MIS_LVL + 1)) ∧
      bit (t.fld F.STP_SRC_SRC) srcMISMATCH = true ∧ (s.inForce srcMISMATCH = false → t.fld F.STP_STAT_STOPPED = 1) ∧ bit t.pend Ev.lanMismatch = true ∧ ((min 3 (s.fld F.LAN_STAT_MIS_LVL + 1)) = 1 → t.lan.rescrub = some s.el) ∧ ((min 3 (s.fld F.LAN_STAT_MIS_LVL + 1)) = 2 → t.laneSt 0 = laneStSELFTEST ∧ t.laneSt 1 = laneStSELFTEST ∧ bit (t.fld F.STP_SRC_SRC) srcLANES = true)) ∧
  (∀ (s : State) (k : Nat) (d0 : Nat) (b : Option (BitVec 64)), Tbl.get none s.lan.digests 0 = some (k, d0) →
      s.switching = false →
      s.pwr.state ≠ .dormant →
      s.t0At (k + 1) + oneMs ≤ s.now →
      s.inService 1 = false →
      s.laneSt 0 = laneStACTIVE →
      Gives (.digestCompare none b) s fun t =>
      t.lan.digests = [] ∧ ((t.laneSt 0 = laneStFAILED ∧ s.flag F.LAN_CTL_AUTO_REJOIN = false ∨ t.laneSt 0 = laneStFAILED ∧ t.switching = true ∨ t.laneSt 0 = laneStRETIRED ∧ s.flag F.LAN_CTL_RETIRE_EN = true ∧ 3 ≤ (s.failsInHour 0).length ∨ t.laneSt 0 = laneStSELFTEST ∧ s.flag F.LAN_CTL_AUTO_REJOIN = true) ∧ bit (t.fld (fDiagCause 0)) dgDIGEST_LATE = true ∧ Tbl.get [] t.lan.fails 0 = s.failsInHour 0 ∧ t.fld F.LAN_CNT_DIAG_FAILS = min (s.fld F.LAN_CNT_DIAG_FAILS + 1) (2 ^ F.LAN_CNT_DIAG_FAILS.width - 1) ∧ bit t.pend Ev.lanDiag = true) ∧ bit (t.fld F.STP_SRC_SRC) srcLANES = true) ∧
  (∀ (s : State) (k : Nat) (d0 : Nat) (b : Option (BitVec 64)), Tbl.get none s.lan.digests 0 = some (k, d0) →
      s.switching = false →
      s.pwr.state ≠ .dormant →
      s.now < s.t0At (k + 1) + oneMs →
      Gives (.digestCompare none b) s fun t =>
      t = s) ∧
  (∀ (s : State) (l : Fin 2), s.timeRuns = true →
      s.laneClock = true →
      s.lan.gap = [] →
      s.svb.posts = [] →
      s.laneTakes l.val = true →
      Tbl.get false s.lan.whole l.val = true →
      Gives (.laneTick) s fun t =>
      (s.sfAt (s.time.stamp + 2 * oneMs) < s.sfAt (t.now + 2 * oneMs) → ∃ d, Tbl.get none t.lan.digests l.val = some (s.sfAt (t.now + 2 * oneMs) - 1, d)) ∧ (s.sfAt (t.now + 2 * oneMs) ≤ s.sfAt (s.time.stamp + 2 * oneMs) → t.lan.digests = s.lan.digests)) ∧
  (∀ (s : State) (l : Fin 2) (e : Nat), s.timeRuns = true →
      s.laneClock = true →
      s.lan.gap = [(l.val, some e)] →
      s.svb.posts = [] →
      s.laneLive l.val = true →
      Gives (.laneTick) s fun t =>
      t.lan.gap = [] ∧ bit (t.fld (fDiagCause l.val)) dgINPUT_GAP = true ∧ bit t.pend Ev.lanDiag = true) ∧
  (∀ (s : State) (l : Fin 2) (e : Byte) (a : Nat), s.lan.rescrub = some a →
      s.laneLive l.val = true →
      Gives (.rescrubDone (some (l, e))) s fun t =>
      t.lan.rescrub = none ∧ ((t.laneSt l.val = laneStFAILED ∧ s.flag F.LAN_CTL_AUTO_REJOIN = false ∨ t.laneSt l.val = laneStFAILED ∧ t.switching = true ∨ t.laneSt l.val = laneStRETIRED ∧ s.flag F.LAN_CTL_RETIRE_EN = true ∧ 3 ≤ (s.failsInHour l.val).length ∨ t.laneSt l.val = laneStSELFTEST ∧ s.flag F.LAN_CTL_AUTO_REJOIN = true) ∧ bit (t.fld (fDiagCause l.val)) dgCHECKSUM = true ∧ Tbl.get [] t.lan.fails l.val = s.failsInHour l.val ∧ t.fld F.LAN_CNT_DIAG_FAILS = min (s.fld F.LAN_CNT_DIAG_FAILS + 1) (2 ^ F.LAN_CNT_DIAG_FAILS.width - 1) ∧ bit t.pend Ev.lanDiag = true)) ∧
  (∀ (s : State) (a : Nat), s.lan.rescrub = some a →
      s.laneSt 0 = laneStACTIVE →
      s.laneSt 1 = laneStSHADOW →
      Gives (.rescrubDone none) s fun t =>
      t.lan.rescrub = none ∧ t.laneSt 0 = laneStACTIVE ∧ t.laneSt 1 = laneStSELFTEST ∧ Tbl.get 0 t.lan.resetAt 1 = s.el) ∧
  (∀ (s : State) (w : Nat), s.lan.window = some w →
      s.passed w (orOne (s.fld F.LAN_CTL_MIS_WIN) * 60 * oneSec) = true →
      Gives (.mismatchWindowEnd) s fun t =>
      t.lan.window = none ∧ t.fld F.LAN_STAT_MIS_LVL = 0) ∧
  (∀ (s : State) (l : Nat), s.granted 3 = true →
      s.rackingLane = some l →
      Gives (.rackPrecopyDone) s fun t =>
      t.lan.precopied = true ∧ t.regs = s.regs) ∧
  (∀ (s : State) (l : Nat), s.granted 3 = true →
      s.rackingLane = some l →
      s.lan.precopied = true →
      Gives (.rackPoint true) s fun t =>
      t.laneSt l = laneStCHECKING ∧ t.lan.precopied = false ∧ t.laneSt (otherLane l) = s.laneSt (otherLane l)) ∧
  (∀ (s : State) (l : Nat), s.granted 3 = true →
      s.rackingLane = some l →
      s.lan.precopied = true →
      Gives (.rackPoint false) s fun t =>
      ((t.laneSt l = laneStFAILED ∧ s.flag F.LAN_CTL_AUTO_REJOIN = false ∨ t.laneSt l = laneStFAILED ∧ t.switching = true ∨ t.laneSt l = laneStRETIRED ∧ s.flag F.LAN_CTL_RETIRE_EN = true ∧ 3 ≤ (s.failsInHour l).length ∨ t.laneSt l = laneStSELFTEST ∧ s.flag F.LAN_CTL_AUTO_REJOIN = true) ∧ bit (t.fld (fDiagCause l)) dgRACK = true ∧ Tbl.get [] t.lan.fails l = s.failsInHour l ∧ t.fld F.LAN_CNT_DIAG_FAILS = min (s.fld F.LAN_CNT_DIAG_FAILS + 1) (2 ^ F.LAN_CNT_DIAG_FAILS.width - 1) ∧ bit t.pend Ev.lanDiag = true)) ∧
  (∀ (s : State), s.granted 3 = false →
      Gives (.rackPrecopyDone) s fun t =>
      t = s) ∧
  (∀ (s : State) (g : Bool), s.granted 3 = false →
      Gives (.rackPoint g) s fun t =>
      t = s) ∧
  (∀ (s : State) (lane : Fin 2), s.laneSt lane.val = laneStCOLD →
      s.anyLane = false →
      s.switching = false →
      Gives (.coldStartReady lane) s fun t =>
      t.laneSt lane.val = laneStACTIVE ∧ t.fld F.LAN_STAT_ACTIVE = lane.val ∧ bit (t.fld F.STP_SRC_SRC) srcLANES = false ∧ t.fld F.LAN_TIME_REJOIN_MS = min 65535 ((s.el - Tbl.get 0 s.lan.resetAt lane.val) / oneMs) ∧ t.upd.unconfirmed = false ∧ t.sbx.map = s.sbx.norMap ∧ t.alt.tasks = [] ∧ bit t.pend Ev.lanRejoin = true) ∧
  (∀ (s : State) (lane : Fin 2), (s.laneSt lane.val = laneStFAILED ∨ s.laneSt lane.val = laneStRETIRED) →
      Gives (.laneRestore lane) s fun t =>
      t.laneSt lane.val = laneStSELFTEST ∧ t.lan.fails = s.lan.fails ∧ Tbl.get 0 t.lan.resetAt lane.val = s.el ∧ t.laneSt (otherLane lane.val) = s.laneSt (otherLane lane.val)) ∧
  (∀ (s : State) (c : Cmd) (l : Nat), s.takes c opLanSwitch = true →
      c.payload.length = 4 →
      s.activeLane = some l →
      s.laneSt (otherLane l) = laneStSHADOW →
      s.fld F.LAN_DIG_AGREE_RUN ≠ 0 →
      Gives (.lanSwitch c) s fun t =>
      t.answered c ⟨0x01, le 1 (otherLane l) ++ zeros 3⟩ ∧ t.lan.commanded = true) ∧
  (∀ (s : State) (c : Cmd), s.takes c opLanSwitch = true →
      c.payload.length = 4 →
      (s.activeLane = none ∨ (s.laneSt (otherLane (s.activeLane.getD 0)) ≠ laneStSHADOW ∨ s.fld F.LAN_DIG_AGREE_RUN = 0)) →
      Gives (.lanSwitch c) s fun t =>
      t.answered c ⟨0x40, []⟩ ∧ t.lan = s.lan) ∧
  (∀ (s : State) (c : Cmd), s.takes c opLanGetState = true →
      c.payload = [] →
      Gives (.lanGetState c) s fun t =>
      t.ok c (le 1 s.activeCode ++ le 1 (s.laneSt 0) ++ le 1 (s.laneSt 1) ++ le 1 (s.fld F.LAN_STAT_MIS_LVL) ++ le 4 (s.reg R.LAN_DIAG_A).toNat ++ le 4 (s.reg R.LAN_DIAG_B).toNat ++ le 4 (s.reg R.LAN_CNT).toNat ++ le 2 (s.fld F.LAN_DIG_SFN) ++ le 1 (s.fld F.LAN_DIG_AGREE_RUN) ++ zeros 1) ∧ t.lan = s.lan)

/-- Casks, key slots and the tamper response: what each command and event leaves. Where the rules leave a point open it follows
the model's choice of log entries 10, 119 to 123, 179. -/
def Obligations.KeyStoreAndTamperComplete : Prop :=
  (∀ (s : State) (c : Cmd), s.takes c opSecCaskLoad = true →
      (c.payload.length < 4 ∨ (c.payload.drop 4).length ≠ rdN c.payload 2 2) →
      Gives (.secCaskLoad c) s fun t =>
      t.answered c ⟨0x11, []⟩ ∧ t.sec = s.sec ∧ t.vbat = s.vbat) ∧
  (∀ (s : State) (c : Cmd) (z : List Byte), s.takes c opSecCaskLoad = true →
      4 ≤ c.payload.length →
      (c.payload.drop 4).length = rdN c.payload 2 2 →
      z = c.payload.drop 4 →
      (caskOk z = false ∨ (rdN z 5 1 ≠ 5 ∧ 63 < (rdN c.payload 0 1) ∧ (rdN c.payload 0 1) ≠ 255)) →
      Gives (.secCaskLoad c) s fun t =>
      t.answered c ⟨0x12, []⟩ ∧ t.sec = s.sec ∧ t.vbat = s.vbat ∧ bit t.pend Ev.secCask = true) ∧
  (∀ (s : State) (c : Cmd) (z : List Byte), s.takes c opSecCaskLoad = true →
      4 ≤ c.payload.length →
      (c.payload.drop 4).length = rdN c.payload 2 2 →
      z = c.payload.drop 4 →
      caskOk z = true →
      rdN z 5 1 = 5 →
      (c.sid ≠ 0 ∨ s.vbat.rs ≠ none ∨ s.sec.live ≠ 0) →
      Gives (.secCaskLoad c) s fun t =>
      t.answered c ⟨0x40, []⟩ ∧ t.sec = s.sec ∧ t.vbat = s.vbat ∧ bit t.pend Ev.secCask = true) ∧
  (∀ (s : State) (c : Cmd) (z : List Byte), s.takes c opSecCaskLoad = true →
      4 ≤ c.payload.length →
      (c.payload.drop 4).length = rdN c.payload 2 2 →
      z = c.payload.drop 4 →
      caskOk z = true →
      rdN z 5 1 = 5 →
      c.sid = 0 →
      s.vbat.rs = none →
      s.sec.live = 0 →
      (caskUnit z ≠ s.unitBytes ∨ (s.fuses.ownerId ≠ 0 ∧ caskId z ≠ le 4 s.fuses.ownerId)) →
      Gives (.secCaskLoad c) s fun t =>
      t.answered c ⟨0x20, []⟩ ∧ t.sec = s.sec ∧ t.vbat = s.vbat ∧ t.fld F.SEC_CNT_UNWRAP_FAIL = min (s.fld F.SEC_CNT_UNWRAP_FAIL + 1) 255 ∧ bit t.pend Ev.secCask = true) ∧
  (∀ (s : State) (c : Cmd) (z : List Byte), s.takes c opSecCaskLoad = true →
      4 ≤ c.payload.length →
      (c.payload.drop 4).length = rdN c.payload 2 2 →
      z = c.payload.drop 4 →
      caskOk z = true →
      rdN z 5 1 = 5 →
      c.sid = 0 →
      s.vbat.rs = none →
      s.sec.live = 0 →
      caskUnit z = s.unitBytes →
      (s.fuses.ownerId = 0 ∨ caskId z = le 4 s.fuses.ownerId) →
      Gives (.secCaskLoad c) s fun t =>
      bit t.pend Ev.secCask = true ∧ (match Config.unwrap (keyOf (kdf (keyOf (Config.ecdh ((z.drop 20).take 64))) (ascii ['E', 'N', 'R', 'O', 'L']) (z.take 84) 2)) (z.drop 84) with
        | none => t.answered c ⟨0x20, []⟩ ∧ t.vbat = s.vbat ∧ t.fld F.SEC_CNT_UNWRAP_FAIL = min (s.fld F.SEC_CNT_UNWRAP_FAIL + 1) 255
        | some rs => (∃ d : List Byte, d.length = 4 ∧ t.ok c (le 1 (rdN c.payload 0 1) ++ le 1 5 ++ le 1 (rdN z 6 1 % 4) ++ zeros 1 ++ d)) ∧ t.vbat = { s.vbat with rs := some (keyOf rs) } ∧ t.sec.keys = [] ∧ t.fld F.SEC_CNT_LOADS = min (s.fld F.SEC_CNT_LOADS + 1) 255 ∧
          ∀ i ∈ List.range 64, t.slotUsage i = 0)) ∧
  (∀ (s : State) (c : Cmd) (z : List Byte), s.takes c opSecCaskLoad = true →
      4 ≤ c.payload.length →
      (c.payload.drop 4).length = rdN c.payload 2 2 →
      z = c.payload.drop 4 →
      caskOk z = true →
      rdN z 5 1 ≠ 5 →
      ((rdN c.payload 0 1) ≤ 63 ∨ (rdN c.payload 0 1) = 255) →
      s.vbat.rs = none →
      Gives (.secCaskLoad c) s fun t =>
      t.answered c ⟨0x40, []⟩ ∧ t.sec = s.sec ∧ bit t.pend Ev.secCask = true) ∧
  (∀ (s : State) (c : Cmd) (z : List Byte) (k : Nat), s.takes c opSecCaskLoad = true →
      4 ≤ c.payload.length →
      (c.payload.drop 4).length = rdN c.payload 2 2 →
      z = c.payload.drop 4 →
      caskOk z = true →
      rdN z 5 1 ≠ 5 →
      ((rdN c.payload 0 1) ≤ 63 ∨ (rdN c.payload 0 1) = 255) →
      s.vbat.rs = some k →
      (caskUnit z ≠ s.unitBytes ∨ caskId z ≠ s.rsId k) →
      Gives (.secCaskLoad c) s fun t =>
      t.answered c ⟨0x20, []⟩ ∧ t.sec = s.sec ∧ t.fld F.SEC_CNT_UNWRAP_FAIL = min (s.fld F.SEC_CNT_UNWRAP_FAIL + 1) 255 ∧ bit t.pend Ev.secCask = true) ∧
  (∀ (s : State) (c : Cmd) (z : List Byte) (k : Nat) (j : Nat), s.takes c opSecCaskLoad = true →
      4 ≤ c.payload.length →
      (c.payload.drop 4).length = rdN c.payload 2 2 →
      z = c.payload.drop 4 →
      caskOk z = true →
      rdN z 5 1 ≠ 5 →
      ((rdN c.payload 0 1) ≤ 63 ∨ (rdN c.payload 0 1) = 255) →
      s.vbat.rs = some k →
      caskUnit z = s.unitBytes →
      caskId z = s.rsId k →
      s.caskSlot (rdN c.payload 0 1) = some j →
      Gives (.secCaskLoad c) s fun t =>
      bit t.pend Ev.secCask = true ∧ (match Config.unwrap (keyOf (kdf k (ascii ['C', 'A', 'S', 'K']) (z.take 20) 2)) (z.drop 20) with
        | none => t.answered c ⟨0x20, []⟩ ∧ t.sec = s.sec ∧ t.fld F.SEC_CNT_UNWRAP_FAIL = min (s.fld F.SEC_CNT_UNWRAP_FAIL + 1) 255
        | some key => t.ok c (le 1 j ++ le 1 (rdN z 5 1) ++ le 1 (t.fld (F.SEC_SLOT_LEVEL j)) ++ zeros 1 ++ (kdf (keyOf key) (ascii ['C', 'H', 'E', 'C', 'K']) [] 1).take 4) ∧ Tbl.get 0 t.sec.keys j = keyOf key ∧ t.slotUsage j = rdN z 5 1 ∧
          t.fld (F.SEC_SLOT_LEVEL j) = rdN z 6 1 % 4 ∧ t.fld (F.SEC_SLOT_CHECK j) = rdN (kdf (keyOf key) (ascii ['C', 'H', 'E', 'C', 'K']) [] 1) 0 2 ∧ t.fld F.SEC_CNT_LOADS = min (s.fld F.SEC_CNT_LOADS + 1) 255)) ∧
  (∀ (s : State) (c : Cmd) (z : List Byte) (k : Nat), s.takes c opSecCaskLoad = true →
      4 ≤ c.payload.length →
      (c.payload.drop 4).length = rdN c.payload 2 2 →
      z = c.payload.drop 4 →
      caskOk z = true →
      rdN z 5 1 ≠ 5 →
      ((rdN c.payload 0 1) ≤ 63 ∨ (rdN c.payload 0 1) = 255) →
      s.vbat.rs = some k →
      caskUnit z = s.unitBytes →
      caskId z = s.rsId k →
      s.caskSlot (rdN c.payload 0 1) = none →
      Gives (.secCaskLoad c) s fun t =>
      t.sec = s.sec ∧ bit t.pend Ev.secCask = true ∧ (if (Config.unwrap (keyOf (kdf k (ascii ['C', 'A', 'S', 'K']) (z.take 20) 2)) (z.drop 20)).isSome then t.answered c ⟨0x40, []⟩ else t.answered c ⟨0x20, []⟩ ∧ t.fld F.SEC_CNT_UNWRAP_FAIL = min (s.fld F.SEC_CNT_UNWRAP_FAIL + 1) 255)) ∧
  (∀ (s : State) (c : Cmd), s.takes c opSecCaskUnload = true →
      c.payload.length = 4 →
      (rdN c.payload 0 1) ≤ 63 →
      (rdN c.payload 0 1) ≠ s.fld F.RAD_KEY_STOP_SLOT →
      (rdN c.payload 0 1) ≠ (if s.fld F.RAD_KEY_TX_KEY = 0 then s.fld F.RAD_KEY_SLOT0 else s.fld F.RAD_KEY_SLOT1) →
      Gives (.secCaskUnload c) s fun t =>
      t.left c.sid.val (s.sess c.sid.val).peer (.reply c.seq.toNat 0x0D01 false (s.sess c.sid.val).auth ⟨0, []⟩) ∧ Tbl.get 0 t.sec.keys (rdN c.payload 0 1) = 0 ∧ t.slotUsage (rdN c.payload 0 1) = 0 ∧ t.fld (F.SEC_SLOT_LEVEL (rdN c.payload 0 1)) = 0 ∧ bit t.pend Ev.secCask = true ∧ (∀ k ∈ List.range 4, (t.sess k).auth = true → t.slotUsage (t.sess k).slot = usageSESSION)) ∧
  (∀ (s : State) (c : Cmd), s.takes c opSecCaskUnload = true →
      c.payload.length = 4 →
      (rdN c.payload 0 1) ≤ 63 →
      ((rdN c.payload 0 1) = s.fld F.RAD_KEY_STOP_SLOT ∨ (rdN c.payload 0 1) = (if s.fld F.RAD_KEY_TX_KEY = 0 then s.fld F.RAD_KEY_SLOT0 else s.fld F.RAD_KEY_SLOT1)) →
      Gives (.secCaskUnload c) s fun t =>
      t.left c.sid.val (s.sess c.sid.val).peer (.reply c.seq.toNat 0x0D01 false (s.sess c.sid.val).auth ⟨64, []⟩) ∧ t.sec = s.sec) ∧
  (∀ (s : State) (c : Cmd), s.takes c opSecCaskUnload = true →
      c.payload.length = 4 →
      63 < (rdN c.payload 0 1) →
      Gives (.secCaskUnload c) s fun t =>
      t.left c.sid.val (s.sess c.sid.val).peer (.reply c.seq.toNat 0x0D01 false (s.sess c.sid.val).auth ⟨18, []⟩) ∧ t.sec = s.sec) ∧
  (∀ (s : State), s.pwr.hubReady = true →
      s.pwr.state ≠ .dormant →
      s.passed s.sec.maskAt (600 * oneSec) = true →
      Gives (.keyMaskRedraw) s fun t =>
      t.sec = { s.sec with mask := s.random 256, maskAt := s.el } ∧ t.free = s.free + 1 ∧ t.regs = s.regs) ∧
  (∀ (s : State) (k : Fin 6), bit s.sec.live k.val = true →
      Gives (.tamperConditionEnd k) s fun t =>
      bit t.sec.live k.val = false ∧ t.sec.keys = s.sec.keys ∧ t.vbat = s.vbat ∧ (∀ j ∈ List.range 6, j ≠ k.val → bit t.sec.live j = bit s.sec.live j)) ∧
  (∀ (s : State) (k : Fin 6) (a : BitVec 16), s.pwr.state ≠ .off →
      bit s.sec.live k.val = false →
      (s.pwr.state = .run ∨ s.pwr.state = .doze) →
      s.pwr.hubReady = true →
      Gives (.tamperDetect k a) s fun t =>
      bit t.sec.live k.val = true ∧ t.vbat.rs = none ∧ bit t.vbat.causes k.val = true ∧ t.sec.keys = [] ∧ (∀ i ∈ List.range 64, t.slotUsage i = 0) ∧ t.fld F.SEC_TEMP_TEMP = a.toNat ∧ bit (t.fld F.STP_SRC_SRC) srcTAMPER = true ∧ (∀ i ∈ List.range 4, i ≠ 0 → (t.sess i).isOpen = false) ∧ ((s.sess 0).auth = true → (t.sess 0).isOpen = true ∧ (t.sess 0).level = 1 ∧ (t.sess 0).auth = false) ∧ t.fld F.SEC_CNT_TAMPERS = min (s.fld F.SEC_CNT_TAMPERS + 1) 255 ∧ bit t.pend Ev.secTamper = true) ∧
  (∀ (s : State) (k : Fin 6) (a : BitVec 16), s.pwr.state ≠ .off →
      bit s.sec.live k.val = false →
      s.pwr.state = .dormant →
      Gives (.tamperDetect k a) s fun t =>
      bit t.sec.live k.val = true ∧ t.vbat.rs = none ∧ bit t.vbat.causes k.val = true ∧ t.sec.keys = [] ∧ (∀ i ∈ List.range 64, t.slotUsage i = 0) ∧ t.fld F.SEC_TEMP_TEMP = a.toNat ∧ t.pwr.state = .run ∧ bit (t.fld F.STP_SRC_SRC) srcTAMPER = true ∧ bit t.pend Ev.secTamper = true) ∧
  (∀ (s : State) (k : Fin 6) (a : BitVec 16), s.pwr.state ≠ .off →
      bit s.sec.live k.val = false →
      (s.pwr.state = .backup ∨ s.pwr.state = .starting) →
      Gives (.tamperDetect k a) s fun t =>
      bit t.sec.live k.val = true ∧ t.vbat.rs = none ∧ bit t.vbat.causes k.val = true ∧ t.sec.keys = [] ∧ (∀ i ∈ List.range 64, t.slotUsage i = 0) ∧ t.fld F.SEC_TEMP_TEMP = a.toNat ∧ t.sec.late.length = s.sec.late.length + 1 ∧ t.pwr.state = (if s.pwr.state = .backup ∧ k.val = 4 then .off else s.pwr.state))

/-- Image transfers, verification, bank writes and relays: what each command, frame and event leaves. Where the rules leave a point open it follows
the model's choice of log entries 10, 124, 125, 181. -/
def Obligations.ImageTransfersAndRelaysComplete : Prop :=
  (∀ (s : State) (c : Cmd) (x : Transfer), s.takes c opUpdImageBegin = true →
      c.payload.length = 8 →
      (rdN c.payload 0 4) % 4 = 0 →
      (rdN c.payload 0 4) ≤ 25165824 →
      s.updBusy = false →
      x = { id := s.net * 256 + s.upd.xferSeq % 256, source := 0, length := (rdN c.payload 0 4), relay := bit (rdN c.payload 4 1) 0, origin := s.net, lastAt := s.el } →
      Gives (.updImageBegin c) s fun t =>
      t.ok c (le 2 x.id ++ zeros 2) ∧ t.upd.xfer = some x ∧ t.upd.buf = [] ∧ t.upd.xferSeq = s.upd.xferSeq + 1 ∧ t.fld F.UPD_STAT_STAGE = sgRECEIVING ∧ t.fld F.UPD_STAT_RESULT = 0 ∧ t.fld F.UPD_PROG_BYTES = 0) ∧
  (∀ (s : State) (c : Cmd), s.takes c opUpdImageBegin = true →
      c.payload.length = 8 →
      ((rdN c.payload 0 4) % 4 ≠ 0 ∨ 25165824 < (rdN c.payload 0 4) ∨ s.updBusy = true) →
      Gives (.updImageBegin c) s fun t =>
      t.answered c ⟨(if (rdN c.payload 0 4) % 4 ≠ 0 ∨ 25165824 < (rdN c.payload 0 4) then 0x12 else 0x40), []⟩ ∧ t.upd = s.upd) ∧
  (∀ (s : State) (c : Cmd) (o : Nat) (m : Nat) (x : Transfer), s.takes c opUpdImageData = true →
      c.payload.length = 12 + rdN c.payload 8 2 →
      o = rdN c.payload 4 4 →
      m = rdN c.payload 8 2 →
      o % 4 = 0 →
      m % 4 = 0 →
      4 ≤ m →
      m ≤ 1280 →
      s.hostXfer (rdN c.payload 0 2) = some x →
      o + m ≤ x.length →
      Gives (.updImageData c) s fun t =>
      t.ok c [] ∧ t.upd.buf = storeAt s.upd.buf o (c.payload.drop 12) ∧ t.upd.xfer.map (fun y => (y.id, y.source, y.length, y.relay, y.origin, y.lastAt)) = some (x.id, x.source, x.length, x.relay, x.origin, s.el) ∧ t.upd.xfer.any (fun y => (List.range (m / 4)).all fun k => Tbl.get false y.held (o / 4 + k)) = true ∧ t.fld F.UPD_PROG_BYTES = (t.upd.xfer.map Transfer.bytes).getD 0 % 0x100000000) ∧
  (∀ (s : State) (c : Cmd) (o : Nat) (m : Nat) (x : Transfer), s.takes c opUpdImageData = true →
      c.payload.length = 12 + rdN c.payload 8 2 →
      o = rdN c.payload 4 4 →
      m = rdN c.payload 8 2 →
      o % 4 = 0 →
      m % 4 = 0 →
      4 ≤ m →
      m ≤ 1280 →
      s.hostXfer (rdN c.payload 0 2) = some x →
      x.length < o + m →
      Gives (.updImageData c) s fun t =>
      t.answered c ⟨0x12, []⟩ ∧ t.upd = s.upd) ∧
  (∀ (s : State) (c : Cmd) (o : Nat) (m : Nat), s.takes c opUpdImageData = true →
      c.payload.length = 12 + rdN c.payload 8 2 →
      o = rdN c.payload 4 4 →
      m = rdN c.payload 8 2 →
      o % 4 = 0 →
      m % 4 = 0 →
      4 ≤ m →
      m ≤ 1280 →
      s.hostXfer (rdN c.payload 0 2) = none →
      Gives (.updImageData c) s fun t =>
      t.answered c ⟨0x40, []⟩ ∧ t.upd = s.upd) ∧
  (∀ (s : State) (c : Cmd) (x : Transfer), s.takes c opUpdImageEnd = true →
      c.payload.length = 4 →
      s.hostXfer (rdN c.payload 0 2) = some x →
      Gives (.updImageEnd c) s fun t =>
      t.answered c ⟨0x01, []⟩ ∧ t.fld F.UPD_STAT_STAGE = sgVERIFYING ∧ t.fld F.UPD_STAT_RESULT = 0 ∧ t.upd = s.upd) ∧
  (∀ (s : State) (c : Cmd), s.takes c opUpdImageEnd = true →
      c.payload.length = 4 →
      s.hostXfer (rdN c.payload 0 2) = none →
      Gives (.updImageEnd c) s fun t =>
      t.answered c ⟨0x40, []⟩ ∧ t.upd = s.upd) ∧
  (∀ (s : State) (x : Transfer), s.upd.xfer = some x →
      s.stage = sgRECEIVING →
      s.passed x.lastAt (60 * oneSec) = true →
      x.source = 0 →
      Gives (.imageTransferTimeout) s fun t =>
      t.upd.xfer = none ∧ t.fld F.UPD_STAT_STAGE = sgFAILED ∧ t.fld F.UPD_STAT_RESULT = 7 ∧ bit t.pend Ev.updImage = true) ∧
  (∀ (s : State) (x : Transfer), s.upd.xfer = some x →
      s.stage = sgRECEIVING →
      s.passed x.lastAt (60 * oneSec) = true →
      x.source ≠ 0 →
      Gives (.relayReceiveTimeout) s fun t =>
      t.upd.xfer = none ∧ t.fld F.UPD_STAT_STAGE = sgFAILED ∧ t.fld F.UPD_STAT_RESULT = 7 ∧ bit t.pend Ev.updImage = true) ∧
  (∀ (s : State) (x : Transfer), s.upd.xfer = some x →
      Gives (.updAbort) s fun t =>
      t.upd.xfer = none ∧ t.fld F.UPD_STAT_STAGE = sgFAILED ∧ t.fld F.UPD_STAT_RESULT = 10 ∧ bit t.pend Ev.updImage = true) ∧
  (∀ (s : State) (x : Transfer), s.upd.xfer = some x →
      s.stage = sgVERIFYING →
      s.granted 4 = true →
      Gives (.imageVerifyDone) s fun t =>
      (s.verify x = 0 → t.upd.xfer = some x ∧ t.fld F.UPD_STAT_STAGE = sgWRITING ∧ t.fld F.UPD_STAT_RESULT = 0 ∧ t.upd.stagedXfer = none ∧ t.stagedImage = none) ∧ (s.verify x ≠ 0 → t.upd.xfer = none ∧ t.fld F.UPD_STAT_STAGE = sgFAILED ∧ t.fld F.UPD_STAT_RESULT = s.verify x ∧ bit t.pend Ev.updImage = true ∧ t.fld F.UPD_CNT_VERIFY_FAIL = min (s.fld F.UPD_CNT_VERIFY_FAIL + 1) 255) ∧
      (x.source ≠ 0 → s.ethUp (x.source - 1) = true → t.outs ≠ s.outs)) ∧
  (∀ (s : State), s.granted 4 = false →
      Gives (.imageVerifyDone) s fun t =>
      t = s) ∧
  (∀ (s : State) (x : Transfer), s.upd.xfer = some x →
      s.stage = sgWRITING →
      Gives (.bankWriteDone true) s fun t =>
      t.upd.xfer = none ∧ t.upd.stagedXfer = some x.id ∧ t.fld F.UPD_STAT_STAGE = sgSTAGED ∧ t.fld F.UPD_STAT_RESULT = 0 ∧ Tbl.get none t.upd.banks s.spareBank = some { vintage := imageVintage s.upd.buf, setFmt := rdM s.upd.buf 10 2, staged := true } ∧ bit t.pend Ev.updImage = true) ∧
  (∀ (s : State) (x : Transfer), s.upd.xfer = some x →
      s.stage = sgWRITING →
      Gives (.bankWriteDone false) s fun t =>
      t.upd.xfer = none ∧ t.fld F.UPD_STAT_STAGE = sgFAILED ∧ t.fld F.UPD_STAT_RESULT = 8 ∧ bit t.pend Ev.updImage = true ∧ t.fld F.UPD_CNT_VERIFY_FAIL = min (s.fld F.UPD_CNT_VERIFY_FAIL + 1) 255 ∧ t.upd.banks = s.upd.banks) ∧
  (∀ (s : State) (n : Fin 2) (x : EthIn) (p : List Byte) (j : Nat) (m : Nat), s.ethUp n.val = true →
      x.fcsOk = true →
      x.bytes.length ≤ 1518 →
      x.fill = 0 →
      chainPayload ctIMAGE x.bytes = some p →
      rdN p 0 2 = s.site →
      s.flag F.ETH_CTL_CHAIN_EN = true →
      rdN p 3 1 = 0 →
      p.length = 1040 →
      j = rdN p 8 4 →
      m = rdN p 12 4 →
      j < m →
      m ≤ 24576 →
      s.upd.xfer = none →
      s.upd.stagedXfer ≠ some (rdN p 4 2) →
      s.updBusy = false →
      Gives (.imageDataReceive n x) s fun t =>
      t.fld F.UPD_STAT_STAGE = sgRECEIVING ∧ t.fld F.UPD_STAT_RESULT = 0 ∧ t.upd.buf = storeAt [] (1024 * j) (p.drop 16) ∧ ∃ y ∈ t.upd.xfer.toList, Tbl.get false y.held j = true ∧ y.lastAt = s.el ∧ y.statusAt = s.el ∧ y.id = rdN p 4 2 ∧ y.source = n.val + 1 ∧ y.length = 1024 * m ∧ y.origin = rdN p 2 1) ∧
  (∀ (s : State) (n : Fin 2) (x : EthIn) (p : List Byte) (j : Nat) (m : Nat) (y : Transfer), s.ethUp n.val = true →
      x.fcsOk = true →
      x.bytes.length ≤ 1518 →
      x.fill = 0 →
      chainPayload ctIMAGE x.bytes = some p →
      rdN p 0 2 = s.site →
      s.flag F.ETH_CTL_CHAIN_EN = true →
      rdN p 3 1 = 0 →
      p.length = 1040 →
      j = rdN p 8 4 →
      m = rdN p 12 4 →
      j < m →
      m ≤ 24576 →
      s.upd.xfer = some y →
      y.id = rdN p 4 2 →
      y.source = n.val + 1 →
      s.stage = sgRECEIVING →
      y.length = 1024 * m →
      Gives (.imageDataReceive n x) s fun t =>
      t.upd.xfer = some { y with held := Tbl.put false y.held j true, lastAt := s.el, statusAt := s.el } ∧ t.upd.buf = storeAt s.upd.buf (1024 * j) (p.drop 16) ∧ t.outs = s.outs) ∧
  (∀ (s : State) (n : Fin 2) (x : EthIn) (p : List Byte) (j : Nat) (m : Nat) (y : Transfer) (g : List Byte), s.ethUp n.val = true →
      x.fcsOk = true →
      x.bytes.length ≤ 1518 →
      x.fill = 0 →
      chainPayload ctIMAGE x.bytes = some p →
      rdN p 0 2 = s.site →
      s.flag F.ETH_CTL_CHAIN_EN = true →
      rdN p 3 1 = 0 →
      p.length = 1040 →
      j = rdN p 8 4 →
      m = rdN p 12 4 →
      j < m →
      m ≤ 24576 →
      s.upd.xfer = some y →
      (y.id ≠ rdN p 4 2 ∨ y.source ≠ n.val + 1) →
      g = s.imageFrame (rdN p 2 1) 1 (rdN p 4 2) 0 m (le 1 1) →
      Gives (.imageDataReceive n x) s fun t =>
      t.upd = s.upd ∧ t.outs.drop s.outs.length = [Output.eth n.val (g ++ zeros (60 - g.length))]) ∧
  (∀ (s : State) (n : Fin 2) (x : EthIn) (p : List Byte) (j : Nat) (m : Nat) (g : List Byte), s.ethUp n.val = true →
      x.fcsOk = true →
      x.bytes.length ≤ 1518 →
      x.fill = 0 →
      chainPayload ctIMAGE x.bytes = some p →
      rdN p 0 2 = s.site →
      s.flag F.ETH_CTL_CHAIN_EN = true →
      rdN p 3 1 = 0 →
      p.length = 1040 →
      j = rdN p 8 4 →
      m = rdN p 12 4 →
      j < m →
      m ≤ 24576 →
      s.upd.xfer = none →
      s.upd.stagedXfer = some (rdN p 4 2) →
      g = s.imageFrame (rdN p 2 1) 2 (rdN p 4 2) 0 m [] →
      Gives (.imageDataReceive n x) s fun t =>
      t.upd = s.upd ∧ t.outs.drop s.outs.length = [Output.eth n.val (g ++ zeros (60 - g.length))]) ∧
  (∀ (s : State) (x : Transfer) (g : List Byte), s.upd.xfer = some x →
      s.stage = sgRECEIVING →
      x.source ≠ 0 →
      (x.missing = [] ∨ s.passed x.statusAt (50 * oneMs) = true) →
      s.ethUp (x.source - 1) = true →
      (g = s.imageFrame x.origin 1 x.id 0 (x.length / 1024) (le 1 0 ++ (((rangesOf x.missing).take 64).map fun r => le 4 r.1 ++ le 2 r.2).flatten)) →
      Gives (.imageStatusSend) s fun t =>
      t.upd.xfer = some { x with statusAt := s.el } ∧ (x.missing = [] → t.fld F.UPD_STAT_STAGE = sgVERIFYING ∧ t.fld F.UPD_STAT_RESULT = 0) ∧ (x.missing ≠ [] → t.stage = sgRECEIVING) ∧ t.outs.drop s.outs.length = [Output.eth (x.source - 1) (g ++ zeros (60 - g.length))]) ∧
  (∀ (s : State) (n : Fin 2) (x : EthIn) (p : List Byte) (r : Relay), s.ethUp n.val = true →
      x.fcsOk = true →
      x.bytes.length ≤ 1518 →
      x.fill = 0 →
      chainPayload ctIMAGE x.bytes = some p →
      rdN p 0 2 = s.site →
      s.flag F.ETH_CTL_CHAIN_EN = true →
      s.relay n.val = r →
      r.active = true →
      16 ≤ p.length →
      rdN p 2 1 = s.upd.relayOf.1 →
      rdN p 4 2 = s.upd.relayOf.2.1 →
      (rdN p 3 1 = 2 ∨ (rdN p 3 1 ≠ 0 ∧ rdN p 16 1 = 2)) →
      Gives (.imageStatusReceive n x) s fun t =>
      (t.relay n.val).active = false ∧ bit t.pend Ev.updRelay = true) ∧
  (∀ (s : State) (n : Fin 2) (x : EthIn) (p : List Byte) (r : Relay), s.ethUp n.val = true →
      x.fcsOk = true →
      x.bytes.length ≤ 1518 →
      x.fill = 0 →
      chainPayload ctIMAGE x.bytes = some p →
      rdN p 0 2 = s.site →
      s.flag F.ETH_CTL_CHAIN_EN = true →
      s.relay n.val = r →
      r.active = true →
      16 ≤ p.length →
      rdN p 2 1 = s.upd.relayOf.1 →
      rdN p 4 2 = s.upd.relayOf.2.1 →
      rdN p 3 1 = 1 →
      rdN p 16 1 = 1 →
      Gives (.imageStatusReceive n x) s fun t =>
      t.relay n.val = { r with busySince := some (r.busySince.getD s.el), lastTry := if r.busySince.isSome then r.lastTry else s.el } ∧ t.outs = s.outs) ∧
  (∀ (s : State) (n : Fin 2) (x : EthIn) (p : List Byte) (r : Relay) (z : Nat), s.ethUp n.val = true →
      x.fcsOk = true →
      x.bytes.length ≤ 1518 →
      x.fill = 0 →
      chainPayload ctIMAGE x.bytes = some p →
      rdN p 0 2 = s.site →
      s.flag F.ETH_CTL_CHAIN_EN = true →
      s.relay n.val = r →
      r.active = true →
      16 ≤ p.length →
      rdN p 2 1 = s.upd.relayOf.1 →
      rdN p 4 2 = s.upd.relayOf.2.1 →
      rdN p 3 1 = 1 →
      rdN p 16 1 = 0 →
      (z = (statusRanges 64 (p.drop 17)).foldl (fun k q => k + q.2) (0 : Nat)) →
      Gives (.imageStatusReceive n x) s fun t =>
      t.relay n.val = { r with rounds := if z = 0 ∨ z < r.missing then 0 else r.rounds + 1, missing := z, busySince := none }) ∧
  (∀ (s : State) (n : Fin 2) (r : Relay) (a : Nat), s.relay n.val = r →
      r.active = true →
      r.busySince = some a →
      s.passed r.lastTry (5 * oneSec) = true →
      Gives (.relayBusyRetry n) s fun t =>
      t.relay n.val = { r with lastTry := s.el } ∧ bit t.pend Ev.updRelay = true) ∧
  (∀ (s : State) (n : Fin 2) (r : Relay), s.relay n.val = r →
      r.active = true →
      (10 ≤ r.rounds ∨ r.busySince.any (fun a => s.passed a (60 * oneSec)) = true) →
      Gives (.relayFail n) s fun t =>
      (t.relay n.val).active = false ∧ t.fld F.UPD_CNT_RELAY_FAIL = min (s.fld F.UPD_CNT_RELAY_FAIL + 1) 255 ∧ bit t.pend Ev.updRelay = true)

/-- Decants and decant schedules: what each command, frame and event leaves. Where the rules leave a point open it follows
the model's choice of log entries 126, 127, 132, 141. -/
def Obligations.DecantsAndSchedulesComplete : Prop :=
  (∀ (s : State) (c : Cmd), s.takes c opUpdDecant = true →
      c.payload.length = 4 →
      s.stagedIs (rdN c.payload 0 4) = true →
      s.relaying = false →
      s.upd.sched = none →
      s.upd.decantAt = none →
      s.anyLane = true →
      s.fleetHeld = true →
      Gives (.updDecant c) s fun t =>
      t.answered c ⟨0x01, le 8 s.now⟩ ∧ t.upd = { s.upd with decantAt := some s.now }) ∧
  (∀ (s : State) (c : Cmd), s.takes c opUpdDecant = true →
      c.payload.length = 4 →
      s.stagedIs (rdN c.payload 0 4) = true →
      s.relaying = false →
      s.upd.sched = none →
      s.upd.decantAt = none →
      s.anyLane = true →
      s.fleetHeld = false →
      Gives (.updDecant c) s fun t =>
      t.answered c ⟨0x43, []⟩ ∧ t.upd = s.upd) ∧
  (∀ (s : State) (c : Cmd), s.takes c opUpdDecant = true →
      c.payload.length = 4 →
      (s.stagedIs (rdN c.payload 0 4) = false ∨ s.relaying = true ∨ s.upd.sched ≠ none ∨ s.upd.decantAt ≠ none ∨ s.anyLane = false) →
      Gives (.updDecant c) s fun t =>
      t.answered c ⟨0x40, []⟩ ∧ t.upd = s.upd) ∧
  (∀ (s : State) (a : Nat), s.pwr.hubReady = true →
      s.upd.decantAt = some a →
      a ≤ s.now →
      Gives (.decantRun) s fun t =>
      t.pwr.state = .starting ∧ t.pwr.kind = 6 ∧ t.pins.stopOutA = true ∧ t.pins.stopOutB = true ∧ t.upd.boot.head? = some { seq := s.bootRec.seq + 1, bank := s.spareBank, confirmed := false } ∧ t.upd.oldVintage = s.fld F.UPD_VINT_ACT_VINTAGE ∧ t.upd.sched = none ∧ t.upd.decantAt = none) ∧
  (∀ (s : State) (y : Schedule), s.pwr.hubReady = true →
      s.upd.sched = some y →
      y.held = true →
      s.flag F.UPD_STAT_HOLD = true →
      y.td ≤ s.now →
      Gives (.decantAtTd) s fun t =>
      t.pwr.state = .starting ∧ t.pwr.kind = 6 ∧ t.pins.stopOutA = true ∧ t.pins.stopOutB = true ∧ t.upd.boot.head? = some { seq := s.bootRec.seq + 1, bank := s.spareBank, confirmed := false } ∧ t.upd.oldVintage = s.fld F.UPD_VINT_ACT_VINTAGE ∧ t.upd.sched = none ∧ t.upd.decantAt = none) ∧
  (∀ (s : State) (c : Cmd) (y : Schedule), s.takes c opUpdDecantSchedule = true →
      c.payload.length = 16 →
      rdN c.payload 1 1 ≤ 1 →
      rdN c.payload 0 1 = 0 →
      (1 ≤ rdN c.payload 2 1 ∧ rdN c.payload 2 1 ≤ 16) →
      s.now + 5 * oneSec ≤ (rdN c.payload 4 8) →
      (rdN c.payload 4 8) ≤ s.now + 86400 * oneSec →
      s.upd.sched = none →
      s.upd.decantAt = none →
      s.stagedIs (rdN c.payload 12 4) = true →
      y = { id := s.upd.schedSeq % 65536, origin := s.net, chain := rdN c.payload 1 1 = 1, expected := rdN c.payload 2 1, td := (rdN c.payload 4 8), vintage := rdN c.payload 12 4, acceptedAt := s.el, held := rdN c.payload 1 1 ≠ 1, nbr := s.nbrMask } →
      Gives (.updDecantSchedule c) s fun t =>
      t.answered c ⟨0x01, le 2 y.id ++ zeros 2⟩ ∧ t.upd.sched = some y ∧ t.upd.schedSeq = s.upd.schedSeq + 1 ∧ t.fld F.UPD_STAT_SCHED = b2n y.held ∧ t.fld F.UPD_TD_LO_TD_LO = y.td % 0x100000000 ∧ t.fld F.UPD_TD_HI_TD_HI = y.td / 0x100000000 % 0x100000000 ∧ (y.chain = false → bit t.pend Ev.updDecant = true) ∧
      (y.chain = true → s.flag F.ETH_CTL_CHAIN_EN = true → ∀ n ∈ List.range 2, s.ethUp n = true → Output.eth n (s.decantFrame y 0 0 ++ zeros (60 - (s.decantFrame y 0 0).length)) ∈ t.outs.drop s.outs.length)) ∧
  (∀ (s : State) (c : Cmd), s.takes c opUpdDecantSchedule = true →
      c.payload.length = 16 →
      rdN c.payload 1 1 ≤ 1 →
      rdN c.payload 0 1 = 0 →
      (1 ≤ rdN c.payload 2 1 ∧ rdN c.payload 2 1 ≤ 16) →
      s.now + 5 * oneSec ≤ (rdN c.payload 4 8) →
      (rdN c.payload 4 8) ≤ s.now + 86400 * oneSec →
      (s.upd.sched ≠ none ∨ s.upd.decantAt ≠ none ∨ s.stagedIs (rdN c.payload 12 4) = false) →
      Gives (.updDecantSchedule c) s fun t =>
      t.answered c ⟨0x40, []⟩ ∧ t.upd = s.upd) ∧
  (∀ (s : State) (c : Cmd), s.takes c opUpdDecantSchedule = true →
      c.payload.length = 16 →
      (1 < rdN c.payload 0 1 ∨ 1 < rdN c.payload 1 1 ∨ (rdN c.payload 0 1 = 0 ∧ (rdN c.payload 2 1 = 0 ∨ 16 < rdN c.payload 2 1 ∨ (rdN c.payload 4 8) < s.now + 5 * oneSec ∨ s.now + 86400 * oneSec < (rdN c.payload 4 8)))) →
      Gives (.updDecantSchedule c) s fun t =>
      t.answered c ⟨0x12, []⟩ ∧ t.upd = s.upd) ∧
  (∀ (s : State) (c : Cmd) (y : Schedule), s.takes c opUpdDecantSchedule = true →
      c.payload.length = 16 →
      rdN c.payload 1 1 ≤ 1 →
      rdN c.payload 0 1 = 1 →
      s.upd.sched = some y →
      s.now + 200 * oneMs < y.td →
      Gives (.updDecantSchedule c) s fun t =>
      t.answered c ⟨0x01, le 2 y.id ++ zeros 2⟩ ∧ t.upd.sched = none ∧ t.fld F.UPD_STAT_SCHED = 0 ∧ t.fld F.UPD_STAT_HOLD = 0 ∧ bit t.pend Ev.updDecant = true) ∧
  (∀ (s : State) (c : Cmd), s.takes c opUpdDecantSchedule = true →
      c.payload.length = 16 →
      rdN c.payload 1 1 ≤ 1 →
      rdN c.payload 0 1 = 1 →
      (s.upd.sched.all (fun y => decide (y.td ≤ s.now + 200 * oneMs)) = true) →
      Gives (.updDecantSchedule c) s fun t =>
      t.answered c ⟨0x40, []⟩ ∧ t.upd = s.upd) ∧
  (∀ (s : State) (n : Fin 2) (x : EthIn) (p : List Byte) (y : Schedule), s.ethUp n.val = true →
      x.fcsOk = true →
      x.bytes.length ≤ 1518 →
      x.fill = 0 →
      chainPayload ctDECANT x.bytes = some p →
      rdN p 0 2 = s.site →
      s.flag F.ETH_CTL_CHAIN_EN = true →
      p.length = 24 →
      (rdN p 2 1, rdN p 4 2, rdN p 3 1, rdN p 20 1) ∉ s.upd.seen →
      rdN p 3 1 = 0 →
      rdN p 2 1 ≠ s.net →
      y = { id := rdN p 4 2, origin := rdN p 2 1, chain := true, expected := 0, td := rdN p 8 8, vintage := rdN p 16 4, acceptedAt := s.el, nbr := s.nbrMask } →
      s.stagedIs y.vintage = true →
      s.upd.sched = none →
      s.upd.decantAt = none →
      Gives (.decantFrameReceive n x) s fun t =>
      t.upd.sched = some y ∧ t.upd.seen = (rdN p 2 1, rdN p 4 2, rdN p 3 1, rdN p 20 1) :: s.upd.seen ∧ Output.eth n.val (s.decantFrame y 1 0 ++ zeros (60 - (s.decantFrame y 1 0).length)) ∈ t.outs.drop s.outs.length) ∧
  (∀ (s : State) (n : Fin 2) (x : EthIn) (p : List Byte) (y : Schedule), s.ethUp n.val = true →
      x.fcsOk = true →
      x.bytes.length ≤ 1518 →
      x.fill = 0 →
      chainPayload ctDECANT x.bytes = some p →
      rdN p 0 2 = s.site →
      s.flag F.ETH_CTL_CHAIN_EN = true →
      p.length = 24 →
      (rdN p 2 1, rdN p 4 2, rdN p 3 1, rdN p 20 1) ∉ s.upd.seen →
      rdN p 3 1 = 0 →
      rdN p 2 1 ≠ s.net →
      y = { id := rdN p 4 2, origin := rdN p 2 1, chain := true, expected := 0, td := rdN p 8 8, vintage := rdN p 16 4, acceptedAt := s.el, nbr := s.nbrMask } →
      s.stagedIs y.vintage = false →
      Gives (.decantFrameReceive n x) s fun t =>
      t.upd.sched = s.upd.sched ∧ t.upd.seen = (rdN p 2 1, rdN p 4 2, rdN p 3 1, rdN p 20 1) :: s.upd.seen ∧ Output.eth n.val (s.decantFrame y 2 1 ++ zeros (60 - (s.decantFrame y 2 1).length)) ∈ t.outs.drop s.outs.length) ∧
  (∀ (s : State) (n : Fin 2) (x : EthIn) (p : List Byte) (y : Schedule), s.ethUp n.val = true →
      x.fcsOk = true →
      x.bytes.length ≤ 1518 →
      x.fill = 0 →
      chainPayload ctDECANT x.bytes = some p →
      rdN p 0 2 = s.site →
      s.flag F.ETH_CTL_CHAIN_EN = true →
      p.length = 24 →
      (rdN p 2 1, rdN p 4 2, rdN p 3 1, rdN p 20 1) ∉ s.upd.seen →
      rdN p 3 1 = 0 →
      rdN p 2 1 ≠ s.net →
      y = { id := rdN p 4 2, origin := rdN p 2 1, chain := true, expected := 0, td := rdN p 8 8, vintage := rdN p 16 4, acceptedAt := s.el, nbr := s.nbrMask } →
      s.stagedIs y.vintage = true →
      (s.upd.sched ≠ none ∨ s.upd.decantAt ≠ none) →
      Gives (.decantFrameReceive n x) s fun t =>
      t.upd.sched = s.upd.sched ∧ t.upd.seen = (rdN p 2 1, rdN p 4 2, rdN p 3 1, rdN p 20 1) :: s.upd.seen ∧ Output.eth n.val (s.decantFrame y 2 2 ++ zeros (60 - (s.decantFrame y 2 2).length)) ∈ t.outs.drop s.outs.length) ∧
  (∀ (s : State) (n : Fin 2) (x : EthIn) (p : List Byte) (y : Schedule), s.ethUp n.val = true →
      x.fcsOk = true →
      x.bytes.length ≤ 1518 →
      x.fill = 0 →
      chainPayload ctDECANT x.bytes = some p →
      rdN p 0 2 = s.site →
      s.flag F.ETH_CTL_CHAIN_EN = true →
      p.length = 24 →
      (rdN p 2 1, rdN p 4 2, rdN p 3 1, rdN p 20 1) ∉ s.upd.seen →
      rdN p 3 1 = 1 →
      rdN p 2 1 = s.net →
      s.upd.sched = some y →
      y.id = rdN p 4 2 →
      y.origin = s.net →
      y.held = false →
      Gives (.decantFrameReceive n x) s fun t =>
      t.upd.sched = some { y with acks := y.acks + 1 } ∧ t.upd.seen = (rdN p 2 1, rdN p 4 2, rdN p 3 1, rdN p 20 1) :: s.upd.seen) ∧
  (∀ (s : State) (n : Fin 2) (x : EthIn) (p : List Byte) (y : Schedule), s.ethUp n.val = true →
      x.fcsOk = true →
      x.bytes.length ≤ 1518 →
      x.fill = 0 →
      chainPayload ctDECANT x.bytes = some p →
      rdN p 0 2 = s.site →
      s.flag F.ETH_CTL_CHAIN_EN = true →
      p.length = 24 →
      (rdN p 2 1, rdN p 4 2, rdN p 3 1, rdN p 20 1) ∉ s.upd.seen →
      rdN p 3 1 = 2 →
      rdN p 2 1 = s.net →
      s.upd.sched = some y →
      y.id = rdN p 4 2 →
      y.origin = s.net →
      y.held = false →
      Gives (.decantFrameReceive n x) s fun t =>
      t.upd.sched = some { y with nak := some (y.nak.getD (rdN p 7 1)) } ∧ t.upd.seen = (rdN p 2 1, rdN p 4 2, rdN p 3 1, rdN p 20 1) :: s.upd.seen) ∧
  (∀ (s : State) (n : Fin 2) (x : EthIn) (p : List Byte) (y : Schedule), s.ethUp n.val = true →
      x.fcsOk = true →
      x.bytes.length ≤ 1518 →
      x.fill = 0 →
      chainPayload ctDECANT x.bytes = some p →
      rdN p 0 2 = s.site →
      s.flag F.ETH_CTL_CHAIN_EN = true →
      p.length = 24 →
      (rdN p 2 1, rdN p 4 2, rdN p 3 1, rdN p 20 1) ∉ s.upd.seen →
      (rdN p 3 1 = 3 ∨ (rdN p 3 1 = 4 ∧ s.now + 200 * oneMs < rdN p 8 8)) →
      s.upd.sched = some y →
      y.id = rdN p 4 2 →
      y.origin = rdN p 2 1 →
      s.cancellable y = true →
      Gives (.decantFrameReceive n x) s fun t =>
      t.upd.sched = none ∧ t.fld F.UPD_STAT_SCHED = 0 ∧ t.upd.seen = (rdN p 2 1, rdN p 4 2, rdN p 3 1, rdN p 20 1) :: s.upd.seen ∧ bit t.pend Ev.updDecant = true) ∧
  (∀ (s : State) (y : Schedule), s.upd.sched = some y →
      y.held = false →
      s.passed y.acceptedAt (2 * oneSec) = true →
      y.origin = s.net →
      (y.nak ≠ none ∨ y.acks < y.expected) →
      Gives (.decantVoteEnd) s fun t =>
      t.upd.sched = none ∧ t.fld F.UPD_STAT_SCHED = 0 ∧ bit t.pend Ev.updDecant = true) ∧
  (∀ (s : State) (y : Schedule), s.upd.sched = some y →
      y.held = false →
      s.passed y.acceptedAt (2 * oneSec) = true →
      (y.origin ≠ s.net ∨ (y.nak = none ∧ y.expected ≤ y.acks)) →
      Gives (.decantVoteEnd) s fun t =>
      t.upd.sched = some { y with held := true } ∧ t.fld F.UPD_STAT_SCHED = 1 ∧ bit t.pend Ev.updDecant = true) ∧
  (∀ (s : State) (y : Schedule), s.upd.sched = some y →
      y.held = true →
      s.flag F.UPD_STAT_HOLD = false →
      y.td ≤ s.now + 500 * oneMs →
      s.holdRefusal y = none →
      Gives (.decantHoldCheck) s fun t =>
      t.fld F.UPD_STAT_HOLD = 1 ∧ t.upd = s.upd) ∧
  (∀ (s : State) (y : Schedule) (r : Nat), s.upd.sched = some y →
      y.held = true →
      s.flag F.UPD_STAT_HOLD = false →
      y.td ≤ s.now + 500 * oneMs →
      s.holdRefusal y = some r →
      s.cancellable y = true →
      Gives (.decantHoldCheck) s fun t =>
      t.upd.sched = none ∧ t.fld F.UPD_STAT_HOLD = 0 ∧ bit t.pend Ev.updDecant = true) ∧
  (∀ (s : State), s.upd.unconfirmed = true →
      s.pwr.hubReady = true →
      s.passed s.pwr.resetAt (4 * oneSec) = true →
      Gives (.bootFallback) s fun t =>
      t.pwr.state = .starting ∧ t.pwr.kind = 7 ∧ t.upd.boot.head? = some { seq := s.bootRec.seq + 1, bank := s.spareBank, confirmed := false }) ∧
  (∀ (s : State) (c : Cmd), s.takes c opUpdGetState = true →
      c.payload = [] →
      Gives (.updGetState c) s fun t =>
      t.ok c (le 1 s.stage ++ le 1 (s.fld F.UPD_STAT_RESULT) ++ le 1 (s.fld F.UPD_STAT_BANK) ++ zeros 1 ++ le 4 (s.fld F.UPD_VINT_ACT_VINTAGE) ++ le 4 (s.fld F.UPD_VINT_STG_VINTAGE) ++ le 1 (s.fld F.UPD_FLOOR_FLOOR) ++ le 1 (s.fld F.UPD_FLOOR_LEFT) ++ le 2 (s.fld F.UPD_FMT_ACTIVE) ++
        le 2 (s.fld F.UPD_FMT_STAGED) ++ zeros 2 ++ le 8 ((s.upd.sched.map (·.td)).getD 0) ++ le 4 (s.fld F.UPD_PROG_BYTES)) ∧ t.upd = s.upd)

/-- The cellar book: writing, freezing, reading and clearing: what each leaves. Where the rules leave a point open it follows
the model's choice of log entries 128 to 131. -/
def Obligations.CellarBookComplete : Prop :=
  (∀ (s : State) (k : Fin 3) (r : Rec) (l : List Rec), s.cbk.q = r :: l →
      s.cbkRuns = true →
      s.flag F.CBK_STAT_FROZEN = false →
      Gives (.cbkRecordWrite k) s fun t =>
      t.cbk.next = s.cbk.next + 1 ∧ t.cbk.q.take l.length = l ∧ (goodNumbers t.cbk.circ).getLast? = some s.cbk.next ∧ (∃ x ∈ t.cbk.circ.getLast?.toList, x.items.getLast? = some (.good s.cbk.next (r.bytes s.cbk.next (s.fld F.TIM_STAT_STATE == 0)))) ∧ t.fld F.CBK_NEWEST_SEQ = s.cbk.next % 2 ^ 24 ∧ t.fld F.CBK_CNT_WRITE_FAIL = min (s.fld F.CBK_CNT_WRITE_FAIL + k.val) 255) ∧
  (∀ (s : State) (k : Fin 3) (r : Rec) (l : List Rec), s.cbk.q = r :: l →
      s.cbkRuns = true →
      s.flag F.CBK_STAT_FROZEN = true →
      Gives (.cbkRecordWrite k) s fun t =>
      t.cbk.next = s.cbk.next + 1 ∧ t.cbk.q = l ∧ t.cbk.circ = s.cbk.circ ∧ (if s.cbk.buf.length < 256 then t.cbk.buf = s.cbk.buf ++ [(s.cbk.next, r)] else t.cbk.buf = s.cbk.buf ∧ t.cbk.droppedN = s.cbk.droppedN + 1 ∧ t.fld F.CBK_CNT_DROPPED = min (s.fld F.CBK_CNT_DROPPED + 1) 255)) ∧
  (∀ (s : State) (c : Cmd), s.takes c opCbkFreeze = true →
      c.payload.length = 4 →
      Gives (.cbkFreeze c) s fun t =>
      t.ok c (le 4 (s.fld F.CBK_NEWEST_SEQ) ++ le 4 (s.fld F.CBK_OLDEST_SEQ)) ∧ t.fld F.CBK_STAT_FROZEN = 1 ∧ t.cbk.frozenAt = s.el ∧ t.cbk.frozenTime = (if s.flag F.CBK_STAT_FROZEN then s.cbk.frozenTime else s.now)) ∧
  (∀ (s : State) (c : Cmd), s.takes c opCbkThaw = true →
      c.payload.length = 4 →
      s.flag F.CBK_STAT_FROZEN = true →
      Gives (.cbkThaw c) s fun t =>
      t.ok c (le 2 s.cbk.buf.length ++ le 2 (min 65535 s.cbk.droppedN)) ∧ t.fld F.CBK_STAT_FROZEN = 0 ∧ t.cbk.buf = [] ∧ t.cbk.droppedN = 0 ∧ t.cbk.next = s.cbk.next + (if s.cbk.droppedN = 0 then 0 else 1) ∧ (s.cbk.droppedN ≠ 0 → bit t.pend Ev.cbkErr = true)) ∧
  (∀ (s : State) (c : Cmd), s.takes c opCbkThaw = true →
      c.payload.length = 4 →
      s.flag F.CBK_STAT_FROZEN = false →
      Gives (.cbkThaw c) s fun t =>
      t.ok c (le 2 s.cbk.buf.length ++ le 2 (min 65535 s.cbk.droppedN)) ∧ t.cbk = s.cbk) ∧
  (∀ (s : State), s.flag F.CBK_STAT_FROZEN = true →
      s.passed s.cbk.frozenAt (orOne (s.fld F.CBK_CTL_FREEZE_MAX) * oneSec) = true →
      Gives (.cbkFreezeTimeout) s fun t =>
      t.fld F.CBK_STAT_FROZEN = 0 ∧ t.cbk.buf = [] ∧ t.cbk.droppedN = 0 ∧ t.cbk.next = s.cbk.next + (if s.cbk.droppedN = 0 then 0 else 1) ∧ (s.cbk.droppedN ≠ 0 → bit t.pend Ev.cbkErr = true)) ∧
  (∀ (s : State) (c : Cmd) (l : List Sector) (o : Nat) (es : List CbkEntry), s.takes c opCbkRead = true →
      c.payload.length = 8 →
      (rdN c.payload 0 1) ≤ 1 →
      (1 ≤ rdN c.payload 2 2 ∧ rdN c.payload 2 2 ≤ 64) →
      l = (if (rdN c.payload 0 1) = 0 then s.cbk.perm else s.cbk.circ) →
      o = (if (rdN c.payload 0 1) = 0 then (goodNumbers l).head?.getD 0 else s.cbkOldest) →
      es = fitting 1390 (rdN c.payload 2 2) (areaEntries l (max (s.fullSeq (rdN c.payload 4 3)) o)) →
      Gives (.cbkRead c) s fun t =>
      t.ok c (le 4 (seq24 (match es.getLast? with | some e => if e.span.isSome then e.after else e.n + 1 | none => max (s.fullSeq (rdN c.payload 4 3)) o)) ++ le 1 es.length ++
        le 1 (b2n (decide (s.fullSeq (rdN c.payload 4 3) < o)) + 2 * b2n (es.any fun e => e.span.isNone && some e.n == (goodNumbers l).getLast?)) ++ zeros 2 ++ (es.map (·.bytes)).flatten) ∧ t.cbk.next = s.cbk.next ∧ goodNumbers t.cbk.circ = goodNumbers s.cbk.circ) ∧
  (∀ (s : State) (c : Cmd), s.takes c opCbkRead = true →
      c.payload.length = 8 →
      (1 < (rdN c.payload 0 1) ∨ rdN c.payload 2 2 = 0 ∨ 64 < rdN c.payload 2 2) →
      Gives (.cbkRead c) s fun t =>
      t.answered c ⟨0x12, []⟩ ∧ t.cbk = s.cbk) ∧
  (∀ (s : State) (c : Cmd), s.takes c opCbkClear = true →
      c.payload.length = 12 →
      s.sigOk c.sid.val c.seq.toNat 0x0E03 c.payload = false →
      Gives (.cbkClear c) s fun t =>
      t.answered c ⟨0x20, []⟩ ∧ t.cbk = s.cbk ∧ t.fld F.SEC_CNT_SIG_FAIL = min (s.fld F.SEC_CNT_SIG_FAIL + 1) 255 ∧ bit t.pend Ev.secKeys = true) ∧
  (∀ (s : State) (c : Cmd), s.takes c opCbkClear = true →
      c.payload.length = 12 →
      s.sigOk c.sid.val c.seq.toNat 0x0E03 c.payload = true →
      s.flag F.CBK_STAT_FROZEN = true →
      Gives (.cbkClear c) s fun t =>
      t.answered c ⟨0x40, []⟩ ∧ t.cbk = s.cbk) ∧
  (∀ (s : State) (c : Cmd), s.takes c opCbkClear = true →
      c.payload.length = 12 →
      s.sigOk c.sid.val c.seq.toNat 0x0E03 c.payload = true →
      s.flag F.CBK_STAT_FROZEN = false →
      s.cbk.next ≠ 0 →
      s.cbkOldest ≠ s.cbk.next →
      ((rdN c.payload 0 3 + 2 ^ 24 - s.fld F.CBK_OLDEST_SEQ) % 2 ^ 24) ≤ ((s.fld F.CBK_NEWEST_SEQ + 2 ^ 24 - s.fld F.CBK_OLDEST_SEQ) % 2 ^ 24) →
      Gives (.cbkClear c) s fun t =>
      t.ok c (le 4 (((rdN c.payload 0 3 + 2 ^ 24 - s.fld F.CBK_OLDEST_SEQ) % 2 ^ 24) + 1) ++ le 4 ((rdN c.payload 0 3 + 1) % 2 ^ 24)) ∧ t.cbk.cleared = some (s.cbkOldest + ((rdN c.payload 0 3 + 2 ^ 24 - s.fld F.CBK_OLDEST_SEQ) % 2 ^ 24)) ∧ t.cbk.q.length = s.cbk.q.length + 1 ∧ t.fld F.CBK_CNT_CLEARS = min (s.fld F.CBK_CNT_CLEARS + 1) 255 ∧ bit t.pend Ev.cbkClear = true)

/-- Supply dips, VBAT, VOUT_3V3, REFCLK, the lane supplies and the die temperature: what each event leaves. Where the rules leave a point open it follows
the model's choice of log entries 135, 136, 139, 140. -/
def Obligations.SupplyClockAndTemperatureEventsComplete : Prop :=
  (∀ (s : State) (v : BitVec 16), s.powered = true →
      s.pwr.dipSince = none →
      Gives (.vinBelowWarn v) s fun t =>
      t.fld F.PWR_SUP_VIN = v.toNat ∧ t.fld F.PWR_STAT_WARN = 1 ∧ t.pwr.dipSince = some s.el ∧ t.pwr.dipMin = v.toNat ∧ t.pwr.aboveAt = none ∧ (s.pwr.hubReady = true → bit t.pend Ev.pwrWarn = true) ∧ (s.pwr.hubReady = true → t.flag F.CBK_STAT_FROZEN = false ∧ (s.mtr.running = true → s.flag F.PWR_STAT_VBAT_LOW = false → t.vbat.tCut = some s.now ∧ t.vbat.acc = t.mtr.mirror) ∧ (s.stage = sgWRITING → s.upd.xfer ≠ none → t.stage = sgFAILED ∧ t.fld F.UPD_STAT_RESULT = 9))) ∧
  (∀ (s : State) (v : BitVec 16) (d : Nat), s.powered = true →
      s.pwr.dipSince = some d →
      Gives (.vinBelowWarn v) s fun t =>
      t.fld F.PWR_SUP_VIN = v.toNat ∧ t.pwr.dipMin = min s.pwr.dipMin v.toNat ∧ t.pwr.dipSince = some d ∧ t.pwr.aboveAt = none ∧ t.outs = s.outs) ∧
  (∀ (s : State) (d : Nat), s.pwr.dipSince = some d →
      s.pwr.aboveAt = none →
      d + s.authNs < s.el →
      s.pwr.hubReady = true →
      s.pwr.state ≠ .dormant →
      Gives (.supplyDipLong) s fun t =>
      bit (t.fld F.STP_SRC_SRC) srcSUPPLY = true ∧ t.pwr.supplyOn = true ∧ (s.inForce srcSUPPLY = false → t.fld F.STP_STAT_STOPPED = 1)) ∧
  (∀ (s : State) (v : BitVec 16), s.powered = true →
      Gives (.vinAtOrAboveWarn v) s fun t =>
      t.fld F.PWR_SUP_VIN = v.toNat ∧ bit (t.fld F.STP_SRC_SRC) srcSUPPLY = false ∧ t.pwr.supplyOn = false ∧ (s.pwr.dipSince ≠ none → t.pwr.aboveAt = some (s.pwr.aboveAt.getD s.el))) ∧
  (∀ (s : State) (v : BitVec 16) (d : Nat) (a : Nat), s.pwr.dipSince = some d →
      s.pwr.aboveAt = some a →
      s.passed a oneMs = true →
      Gives (.vinDipEnd v) s fun t =>
      t.pwr.dipSince = none ∧ t.pwr.aboveAt = none ∧ bit (t.fld F.STP_SRC_SRC) srcSUPPLY = false ∧ t.fld F.PWR_STAT_WARN = 0 ∧ t.fld F.PWR_DIP_MIN_MV = (min s.pwr.dipMin v.toNat) % 65536 ∧ t.fld F.PWR_DIP_DIPS = min (s.fld F.PWR_DIP_DIPS + 1) 255 ∧ t.fld F.PWR_DIP_T_T_US = min ((a - d) / 1000) 0xFFFFFFFF ∧ (s.pwr.hubReady = true → bit t.pend Ev.pwrWarn = true) ∧ s.cbk.q.length < t.cbk.q.length) ∧
  (∀ (s : State) (v : BitVec 16), s.powered = true →
      s.pwr.lowAt = none →
      Gives (.vsysResetLevel v) s fun t =>
      t.fld F.PWR_SUP_VIN = v.toNat ∧ t.pwr.lowAt = some s.el ∧ t.pwr.supplyOn = true ∧ t.vbat.dip ≠ none ∧ (s.pwr.hubReady = true → bit (t.fld F.STP_SRC_SRC) srcSUPPLY = true)) ∧
  (∀ (s : State) (a : Nat), s.powered = true →
      s.pwr.lowAt = some a →
      s.passed a 150000 = true →
      Gives (.brownOutReset) s fun t =>
      t.pwr.state = (if bit s.sec.live 4 then .off else .backup) ∧ t.pwr.hubReady = false ∧ t.pwr.brown = true ∧ t.vbat.brownouts = min 255 (s.vbat.brownouts + 1) ∧ t.pins.pwrGood = false ∧ t.pins.stopOutA = true ∧ t.pins.stopOutB = true) ∧
  (∀ (s : State) (v : BitVec 16), s.powered = true →
      s.flag F.PWR_STAT_VBAT_LOW = false →
      Gives (.vbatLow v) s fun t =>
      t.fld F.PWR_SUP2_VBAT = v.toNat ∧ t.fld F.PWR_STAT_VBAT_LOW = 1 ∧ (s.pwr.hubReady = true → bit t.pend Ev.pwrWarn = true)) ∧
  (∀ (s : State) (v : BitVec 16), s.powered = true →
      Gives (.vbatLowEnd v) s fun t =>
      t.fld F.PWR_SUP2_VBAT = v.toNat ∧ t.fld F.PWR_STAT_VBAT_LOW = 0 ∧ t.outs = s.outs) ∧
  (∀ (s : State), s.powered = true →
      s.pwr.voutOffAt = none →
      Gives (.voutTrip) s fun t =>
      t.pwr.voutOffAt = some s.el ∧ t.fld F.PWR_STAT_VOUT_OC = 1 ∧ t.flag (F.ETH_P_STAT_LINK 0) = false ∧ t.flag (F.ETH_P_STAT_LINK 1) = false ∧ (s.pwr.hubReady = true → bit t.pend Ev.pwrWarn = true)) ∧
  (∀ (s : State) (a : Nat), s.pwr.voutOffAt = some a →
      s.passed a (100 * oneMs) = true →
      Gives (.voutRestart) s fun t =>
      t.pwr = { s.pwr with voutOffAt := none } ∧ t.regs = s.regs) ∧
  (∀ (s : State) (e : Int), s.powered = true →
      s.pwr.refLostAt = none →
      Gives (.refclkLost e) s fun t =>
      t.pwr.refLostAt = some s.el ∧ t.pins.pwrGood = false ∧ t.fld F.PWR_STAT_REF_OK = 0 ∧ t.time.gnss.qualified = false ∧ t.time.ptp.qualified = false ∧ (s.pwr.hubReady = true → bit (t.fld F.STP_SRC_SRC) srcREFCLK = true ∧ t.flag (F.ETH_P_STAT_LINK 0) = false ∧ t.flag (F.ETH_P_STAT_LINK 1) = false ∧ bit t.pend Ev.pwrWarn = true)) ∧
  (∀ (s : State) (a : Nat), s.powered = true →
      s.pwr.refLostAt = some a →
      s.passed a (10 * oneMs) = true →
      Gives (.refclkRestored) s fun t =>
      t.pwr.refLostAt = none ∧ t.fld F.PWR_STAT_REF_OK = 1 ∧ t.pins.pwrGood = !s.pwr.resetHeld ∧ (s.pwr.hubReady = true → bit (t.fld F.STP_SRC_SRC) srcREFCLK = false ∧ bit t.pend Ev.pwrWarn = true)) ∧
  (∀ (s : State) (lane : Fin 2) (m : Byte) (n : Nat × Nat) (k : Nat), s.pwr.hubReady = true →
      s.pwr.state ≠ .dormant →
      s.laneLive lane.val = true →
      n = s.avfsNext (s.fld (fAvfsCode lane.val)) m.toNat (Tbl.get 0 s.pwr.high lane.val) →
      (k = (if s.fld (fAvfsCode lane.val) = 40 ∧ m.toNat < (if s.fld F.PWR_AVFS_CTL_TARGET ≤ s.fld F.PWR_AVFS_CTL_ALARM then s.fld F.PWR_AVFS_CTL_TARGET - 1 else s.fld F.PWR_AVFS_CTL_ALARM) then Tbl.get 0 s.pwr.low lane.val + 1 else 0)) →
      k < 10 →
      Gives (.avfsReading lane m) s fun t =>
      t.fld (fAvfsCode lane.val) = n.1 % 256 ∧ t.fld (fAvfsMargin lane.val) = m.toNat ∧ t.fld (fAvfsTop lane.val) = b2n (n.1 == 40) ∧ Tbl.get 0 t.pwr.high lane.val = n.2 ∧ Tbl.get 0 t.pwr.low lane.val = k ∧ (¬ (s.fld (fAvfsCode lane.val) = 40 ↔ n.1 = 40) → bit t.pend Ev.pwrAvfs = true)) ∧
  (∀ (s : State) (lane : Fin 2) (m : Byte) (n : Nat × Nat) (k : Nat), s.pwr.hubReady = true →
      s.pwr.state ≠ .dormant →
      s.laneLive lane.val = true →
      n = s.avfsNext (s.fld (fAvfsCode lane.val)) m.toNat (Tbl.get 0 s.pwr.high lane.val) →
      (k = (if s.fld (fAvfsCode lane.val) = 40 ∧ m.toNat < (if s.fld F.PWR_AVFS_CTL_TARGET ≤ s.fld F.PWR_AVFS_CTL_ALARM then s.fld F.PWR_AVFS_CTL_TARGET - 1 else s.fld F.PWR_AVFS_CTL_ALARM) then Tbl.get 0 s.pwr.low lane.val + 1 else 0)) →
      10 ≤ k →
      Gives (.avfsReading lane m) s fun t =>
      bit (t.fld (fDiagCause lane.val)) dgAVFS = true ∧ t.laneSt lane.val ≠ laneStACTIVE ∧ t.laneSt lane.val ≠ laneStSHADOW ∧ bit t.pend Ev.lanDiag = true) ∧
  (∀ (s : State) (v : BitVec 16), s.pwr.hubReady = true →
      Gives (.dieTempHigh v) s fun t =>
      t.fld F.SEC_TEMP_TEMP = v.toNat ∧ t.flag F.PWR_STAT_HOT = decide (10 * (s.fld F.PWR_CTL_TEMP_HI : Int) ≤ v.toInt) ∧ (s.flag F.PWR_STAT_HOT ≠ decide (10 * (s.fld F.PWR_CTL_TEMP_HI : Int) ≤ v.toInt) → bit t.pend Ev.pwrTemp = true))

/-- Power states, resets, the start of the hub, RESET_ENGINE and GET_STATUS: what each leaves. Where the rules leave a point open it follows
the model's choice of log entries 2, 118, 131 to 139, 145, 182. -/
def Obligations.PowerStatesResetsAndStartsComplete : Prop :=
  (∀ (s : State) (c : Cmd) (w : PowerState), s.takes c opSetPowerState = true →
      c.payload.length = 4 →
      (rdN c.payload 0 1) < 2 →
      s.pwr.state ≠ .entering →
      s.pwr.entryDue = false →
      w = (if (rdN c.payload 0 1) = 0 then .run else .doze) →
      Gives (.setPowerState c) s fun t =>
      t.ok c (le 1 s.pwrCode ++ zeros 3) ∧ t.pwr.state = w ∧ (s.pwr.state ≠ w → bit t.pend Ev.pwrState = true ∧ t.fld F.PWR_STAT_STATE = b2n ((rdN c.payload 0 1) == 1))) ∧
  (∀ (s : State) (c : Cmd), s.takes c opSetPowerState = true →
      c.payload.length = 4 →
      (rdN c.payload 0 1) = 2 →
      s.pwr.state ≠ .entering →
      s.pwr.entryDue = false →
      s.dormantRefusal = none →
      ((s.sess c.sid.val).outst.all (fun e => e.fast || (e.reply.isSome && !e.held)) = true) →
      Gives (.setPowerState c) s fun t =>
      t.ok c (le 1 s.pwrCode ++ zeros 3) ∧ t.pwr.state = .entering ∧ t.pwr.enterAt = s.el ∧ t.pwr.entryDue = false ∧ t.pwr.wake = 0 ∧ t.fld F.PWR_WAKE_TIMER = rdN c.payload 2 2 ∧ t.tst.unlocked = false ∧ t.upd.xfer = none ∧ (t.relay 0).active = false ∧ (t.relay 1).active = false ∧ t.upd.sched = none ∧ t.upd.decantAt = none ∧ t.mtr.running = false ∧ t.flag F.CBK_STAT_FROZEN = false ∧ bit t.pend Ev.pwrState = true) ∧
  (∀ (s : State) (c : Cmd), s.takes c opSetPowerState = true →
      c.payload.length = 4 →
      (rdN c.payload 0 1) = 2 →
      s.pwr.state ≠ .entering →
      s.pwr.entryDue = false →
      s.dormantRefusal = none →
      ((s.sess c.sid.val).outst.any (fun e => !e.fast && (e.reply.isNone || e.held)) = true) →
      Gives (.setPowerState c) s fun t =>
      t.ok c (le 1 s.pwrCode ++ zeros 3) ∧ t.pwr = { s.pwr with entryDue := true } ∧ t.svb.posts = s.svb.posts ++ [(c.sid.val, c.seq.toNat, 0x0106)] ∧ t.fld F.PWR_WAKE_TIMER = rdN c.payload 2 2) ∧
  (∀ (s : State) (c : Cmd) (e : Nat), s.takes c opSetPowerState = true →
      c.payload.length = 4 →
      (rdN c.payload 0 1) = 2 →
      s.pwr.state ≠ .entering →
      s.pwr.entryDue = false →
      s.dormantRefusal = some e →
      Gives (.setPowerState c) s fun t =>
      t.answered c ⟨e, []⟩ ∧ t.pwr = s.pwr) ∧
  (∀ (s : State) (c : Cmd), s.takes c opSetPowerState = true →
      c.payload.length = 4 →
      s.pwr.entryDue = false →
      (2 < (rdN c.payload 0 1) ∨ s.pwr.state = .entering) →
      Gives (.setPowerState c) s fun t =>
      t.answered c ⟨(if 2 < (rdN c.payload 0 1) then 0x12 else 0x40), []⟩ ∧ t.pwr = s.pwr) ∧
  (∀ (s : State) (c : Cmd), s.takes c opSetPowerState = true →
      c.payload.length = 4 →
      s.pwr.entryDue = true →
      (rdN c.payload 0 1) ≤ 2 →
      ((s.sess c.sid.val).outst.any (fun e => !e.fast && (e.reply.isNone || e.held)) = true) →
      Gives (.setPowerState c) s fun t =>
      t.pwr = s.pwr ∧ t.svb.posts = s.svb.posts ++ [(c.sid.val, c.seq.toNat, 0x0106)] ∧ (t.sess c.sid.val).outst.any (fun e => e.seq == c.seq.toNat && e.reply == some ⟨0x40, []⟩) = true) ∧
  (∀ (s : State), s.pwr.state = .entering →
      s.passed s.pwr.enterAt (32 * oneMs) = true →
      s.pwr.wake = 0 →
      Gives (.dormantEntryComplete) s fun t =>
      t.pwr.state = .dormant ∧ t.pwr.dormantAt = s.el ∧ t.svb.rdyHigh = true ∧ (∀ a ∈ t.sbx.rovers, a.2.auth = none) ∧ (∀ n ∈ s.portsOn, t.fld (F.RAD_P_STAT_SLEEP n) = 1 ∧ t.fld (F.RAD_P_STAT_UP n) = 0)) ∧
  (∀ (s : State), s.pwr.state = .entering →
      s.passed s.pwr.enterAt (32 * oneMs) = true →
      s.pwr.wake ≠ 0 →
      Gives (.dormantEntryComplete) s fun t =>
      t.pwr.state = .run ∧ t.pwr.wake = 0 ∧ t.fld F.PWR_WAKE_SRC_SRC = s.pwr.wake % 2 ^ F.PWR_WAKE_SRC_SRC.width ∧ bit t.pend Ev.pwrState = true) ∧
  (∀ (s : State), s.pwr.state = .dormant →
      s.flag F.PWR_WAKE_PIN_EN = true →
      Gives (.wakeIn) s fun t =>
      t.pwr.state = .run ∧ t.pwr.wake = 0 ∧ t.svb.rdyHigh = false ∧ bit (t.fld F.PWR_WAKE_SRC_SRC) 0 = true ∧ bit t.pend Ev.pwrState = true ∧ (∀ n ∈ s.portsOn, t.fld (F.RAD_P_STAT_SLEEP n) = 0)) ∧
  (∀ (s : State), s.pwr.state = .entering →
      s.flag F.PWR_WAKE_PIN_EN = true →
      Gives (.wakeIn) s fun t =>
      t.pwr = { s.pwr with wake := withBit s.pwr.wake 0 true } ∧ t.regs = s.regs) ∧
  (∀ (s : State), s.pwr.state = .dormant →
      s.fld F.PWR_WAKE_TIMER ≠ 0 →
      s.passed s.pwr.enterAt (s.fld F.PWR_WAKE_TIMER * oneSec) = true →
      Gives (.wakeTimer) s fun t =>
      t.pwr.state = .run ∧ t.pwr.wake = 0 ∧ t.svb.rdyHigh = false ∧ bit (t.fld F.PWR_WAKE_SRC_SRC) 2 = true ∧ bit t.pend Ev.pwrState = true ∧ (∀ n ∈ s.portsOn, t.fld (F.RAD_P_STAT_SLEEP n) = 0)) ∧
  (∀ (s : State) (b : Bool) (n : Nat), s.powered = false →
      Gives (.powerOn b n) s fun t =>
      t.pwr.state = .starting ∧ t.pwr.kind = (if s.pwr.state = .off then 0 else if s.pwr.brown = true ∧ b = false then 2 else 1) ∧ t.pwr.hubReady = false ∧ t.pins.stopOutA = true ∧ t.pins.stopOutB = true ∧ bit (t.fld F.STP_LATCH_SEEN) srcRESET = true ∧ t.pwr.resetAt = s.el ∧ t.pwr.brown = false ∧ (s.pwr.state = .off → t.vbat.rs = none ∧ t.vbat.stopCnt = none ∧ t.vbat.causes = withBit s.vbat.causes 4 true) ∧ (s.pwr.state ≠ .off → t.vbat = { s.vbat with secs := s.vbat.secs.map (· + n) })) ∧
  (∀ (s : State), s.powered = true →
      Gives (.pinReset) s fun t =>
      t.pwr.state = .starting ∧ t.pwr.kind = (if s.pwr.state = .starting ∧ s.pwr.kind < 3 then s.pwr.kind else 3) ∧ t.pwr.hubReady = false ∧ t.pins.stopOutA = true ∧ t.pins.stopOutB = true ∧ bit (t.fld F.STP_LATCH_SEEN) srcRESET = true ∧ t.pwr.resetAt = s.el ∧ t.pwr.resetHeld = true ∧ t.pins.pwrGood = false) ∧
  (∀ (s : State), s.pwr.hubReady = true →
      s.pwr.state ≠ .dormant →
      Gives (.hubWatchdog) s fun t =>
      t.pwr.state = .starting ∧ t.pwr.kind = 4 ∧ t.pwr.hubReady = false ∧ t.pins.stopOutA = true ∧ t.pins.stopOutB = true ∧ bit (t.fld F.STP_LATCH_SEEN) srcRESET = true ∧ t.pwr.resetAt = s.el ∧ t.time.ext = s.time.ext ∧ (∀ b ∈ List.range 4, (t.sess b).auth = false)) ∧
  (∀ (s : State), s.serving = true →
      s.fleetHeld = true →
      Gives (.hubRst) s fun t =>
      t.pwr.state = .starting ∧ t.pwr.kind = 5 ∧ t.pwr.hubReady = false ∧ t.pins.stopOutA = true ∧ t.pins.stopOutB = true ∧ bit (t.fld F.STP_LATCH_SEEN) srcRESET = true ∧ t.pwr.resetAt = s.el) ∧
  (∀ (s : State), s.serving = true →
      s.fleetHeld = false →
      s.pwr.rstReq = false →
      Gives (.hubRst) s fun t =>
      t.fld F.PWR_STAT_RST_REFUSED = 1 ∧ t.pwr = s.pwr ∧ t.time = s.time) ∧
  (∀ (s : State) (a : Bool) (d : Bool) (n : Fin 32) (b : Nat) (k : Bool), s.pwr.state = .starting →
      (s.bootChoice (fun bank => if bank = 0 then a else d) = some (b, k)) →
      Gives (.hubStart a d n) s fun t =>
      t.pwr.state = .run ∧ t.pwr.hubReady = true ∧ t.pwr.resetHeld = false ∧ t.svb.rdyHigh = false ∧ t.pins.stopOutA = true ∧ t.pins.stopOutB = true ∧ t.fld F.PWR_STAT_LAST_RESET = (if k then 7 else s.pwr.kind) % 16 ∧ t.fld F.UPD_STAT_BANK = b % 2 ∧ t.laneSt 0 = laneStSELFTEST ∧ t.laneSt 1 = laneStSELFTEST ∧ bit (t.fld F.STP_SRC_SRC) srcLANES = true ∧ (k = true → t.fld F.UPD_STAT_FELL_BACK = 1 ∧ bit t.pend Ev.updDecant = true)) ∧
  (∀ (s : State) (a : Bool) (d : Bool) (n : Fin 32), s.pwr.state = .starting →
      (s.bootChoice (fun bank => if bank = 0 then a else d) = none) →
      Gives (.hubStart a d n) s fun t =>
      t.pwr.state = .run ∧ t.pwr.hubReady = true ∧ t.upd.recovery = true ∧ t.svb.rdyHigh = false ∧ t.fld F.PWR_STAT_LAST_RESET = s.pwr.kind % 16) ∧
  (∀ (s : State) (c : Cmd), s.takes c opGetStatus = true →
      c.payload = [] →
      Gives (.getStatus c) s fun t =>
      t.ok c (le 1 s.pwrCode ++ le 1 (s.fld F.PWR_STAT_LAST_RESET) ++ le 1 s.activeCode ++ le 1 s.timState ++ le 4 (s.fld F.STP_SRC_SRC) ++ le 1 (s.fld F.SEC_STAT_RS_STATE) ++ le 1 s.stage ++ zeros 2 ++
        le 2 s.vin ++ le 2 (s.fld F.PWR_SUP2_VBAT) ++ le 4 ((s.el - s.pwr.hubStartAt) / oneSec)) ∧ t.pwr = s.pwr) ∧
  (∀ (s : State) (c : Cmd) (n : Nat), s.takes c opResetEngine = true →
      c.payload.length = 4 →
      n = rdN c.payload 0 1 →
      resettable n = true →
      n ≠ 3 →
      s.svb.switchReset = false →
      ((n = 4 ∨ 16 ≤ n) → s.fleetHeld = true) →
      Gives (.resetEngine c) s fun t =>
      t.ok c (le 1 ((s.genOf (genKey n) + 1) % 256) ++ le 2 (s.outstanding n) ++ [0]) ∧ t.genOf (genKey n) = (s.genOf (genKey n) + 1) % 256 ∧ bit t.pend Ev.sysEngine = true) ∧
  (∀ (s : State) (c : Cmd) (n : Nat), s.takes c opResetEngine = true →
      c.payload.length = 4 →
      n = rdN c.payload 0 1 →
      n = 3 →
      ((s.sess c.sid.val).outst.all (fun e => e.fast || (e.reply.isSome && !e.held)) = true) →
      (∀ d ∈ s.eth.disc, d.sid = c.sid.val → d.seq ≠ c.seq.toNat) →
      Gives (.resetEngine c) s fun t =>
      t.ok c (le 1 ((s.genOf 3 + 1) % 256) ++ le 2 s.eth.disc.length ++ [0]) ∧ t.eth.disc = [] ∧ t.genOf (genKey n) = (s.genOf (genKey n) + 1) % 256 ∧ bit t.pend Ev.sysEngine = true) ∧
  (∀ (s : State) (c : Cmd) (n : Nat), s.takes c opResetEngine = true →
      c.payload.length = 4 →
      n = rdN c.payload 0 1 →
      n = 3 →
      ((s.sess c.sid.val).outst.any (fun e => !e.fast && (e.reply.isNone || e.held)) = true) →
      Gives (.resetEngine c) s fun t =>
      t.ok c (le 1 ((s.genOf 3 + 1) % 256) ++ le 2 s.eth.disc.length ++ [0]) ∧ t.eth.disc = s.eth.disc ∧ t.svb.switchReset = true ∧ t.svb.posts = s.svb.posts ++ [(c.sid.val, c.seq.toNat, 0x010B)]) ∧
  (∀ (s : State) (c : Cmd) (n : Nat), s.takes c opResetEngine = true →
      c.payload.length = 4 →
      n = rdN c.payload 0 1 →
      s.svb.switchReset = false →
      (resettable n = false ∨ ((n = 4 ∨ 16 ≤ n) ∧ s.fleetHeld = false)) →
      Gives (.resetEngine c) s fun t =>
      t.answered c ⟨(if resettable n then 0x43 else 0x12), []⟩ ∧ t.genOf (genKey n) = s.genOf (genKey n) ∧ t.eth = s.eth)

/-- The test perturbation block: unlocking, locking, injections and corruptions: what each leaves. Where the rules leave a point open it follows
the model's choice of log entries 142 to 144, 174 to 176. -/
def Obligations.TestPerturbationBlockComplete : Prop :=
  (∀ (s : State) (c : Cmd), s.takes c opTstUnlock = true →
      c.payload.length = 12 →
      s.sigOk c.sid.val c.seq.toNat 0x0F00 c.payload = false →
      Gives (.tstUnlock c) s fun t =>
      t.answered c ⟨0x20, []⟩ ∧ t.tst.unlocked = s.tst.unlocked ∧ t.tst.until_ = s.tst.until_ ∧ t.fld F.SEC_CNT_SIG_FAIL = min (s.fld F.SEC_CNT_SIG_FAIL + 1) 255) ∧
  (∀ (s : State) (c : Cmd), s.takes c opTstUnlock = true →
      c.payload.length = 12 →
      s.sigOk c.sid.val c.seq.toNat 0x0F00 c.payload = true →
      ((rdN c.payload 0 2) < 60 ∨ 14400 < (rdN c.payload 0 2)) →
      Gives (.tstUnlock c) s fun t =>
      t.answered c ⟨0x12, []⟩ ∧ t.tst.unlocked = s.tst.unlocked ∧ t.tst.until_ = s.tst.until_) ∧
  (∀ (s : State) (c : Cmd), s.takes c opTstUnlock = true →
      c.payload.length = 12 →
      s.sigOk c.sid.val c.seq.toNat 0x0F00 c.payload = true →
      (60 ≤ (rdN c.payload 0 2) ∧ (rdN c.payload 0 2) ≤ 14400) →
      s.fleetHeld = false →
      Gives (.tstUnlock c) s fun t =>
      t.answered c ⟨0x43, []⟩ ∧ t.tst.unlocked = s.tst.unlocked ∧ t.tst.until_ = s.tst.until_) ∧
  (∀ (s : State) (c : Cmd), s.takes c opTstUnlock = true →
      c.payload.length = 12 →
      s.sigOk c.sid.val c.seq.toNat 0x0F00 c.payload = true →
      (60 ≤ (rdN c.payload 0 2) ∧ (rdN c.payload 0 2) ≤ 14400) →
      s.fleetHeld = true →
      s.tst.unlocked = true →
      s.fld F.TST_STAT_SID ≠ c.sid.val →
      Gives (.tstUnlock c) s fun t =>
      t.answered c ⟨0x40, []⟩ ∧ t.tst.unlocked = s.tst.unlocked ∧ t.tst.until_ = s.tst.until_) ∧
  (∀ (s : State) (c : Cmd), s.takes c opTstUnlock = true →
      c.payload.length = 12 →
      s.sigOk c.sid.val c.seq.toNat 0x0F00 c.payload = true →
      (60 ≤ (rdN c.payload 0 2) ∧ (rdN c.payload 0 2) ≤ 14400) →
      s.fleetHeld = true →
      (s.tst.unlocked = false ∨ s.fld F.TST_STAT_SID = c.sid.val) →
      Gives (.tstUnlock c) s fun t =>
      t.ok c (le 2 (rdN c.payload 0 2) ++ zeros 2) ∧ t.tst.unlocked = true ∧ t.tst.until_ = s.el + (rdN c.payload 0 2) * oneSec ∧ t.fld F.TST_STAT_SID = c.sid.val ∧ t.fld F.TST_STAT_REMAIN = (rdN c.payload 0 2) ∧ bit t.pend Ev.tstUnlock = true) ∧
  (∀ (s : State) (c : Cmd), s.takes c opTstLock = true →
      c.payload.length = 4 →
      s.tst.unlocked = true →
      s.tst.crcLeft = 0 →
      Gives (.tstLock c) s fun t =>
      t.ok c (le 1 (s.fld F.TST_STAT_ACTIVE) ++ zeros 3) ∧ t.tst = {} ∧ (∀ a ∈ [R.TST_CTL, R.TST_STAT] ++ tstPerturb, t.reg a = regReset a) ∧ bit t.pend Ev.tstLock = true) ∧
  (∀ (s : State) (c : Cmd), s.takes c opTstLock = true →
      c.payload.length = 4 →
      s.tst.unlocked = false →
      s.tst.crcLeft = 0 →
      Gives (.tstLock c) s fun t =>
      t.ok c (le 1 (s.fld F.TST_STAT_ACTIVE) ++ zeros 3) ∧ t.tst = s.tst) ∧
  (∀ (s : State), s.tst.unlocked = true →
      s.tst.until_ ≤ s.el →
      Gives (.tstAutolock) s fun t =>
      t.tst = {} ∧ (∀ a ∈ [R.TST_CTL, R.TST_STAT] ++ tstPerturb, t.reg a = regReset a) ∧ bit t.pend Ev.tstLock = true) ∧
  (∀ (s : State), s.tst.unlocked = true →
      Gives (.tstClrAll) s fun t =>
      (∀ a ∈ tstPerturb, t.reg a = regReset a) ∧ t.tst = { s.tst with errLeft := 0, crcLeft := 0, lfsr := 1 } ∧ t.outs = s.outs) ∧
  (∀ (s : State) (v : Word), s.tst.unlocked = true →
      Gives (.tstJitWrite v) s fun t =>
      t.reg R.TST_JIT = v &&& 0xFFFFFF0F ∧ t.tst = { s.tst with lfsr := orOne (v.toNat / 256 % 65536) }) ∧
  (∀ (s : State), s.tst.unlocked = true →
      s.fld F.TST_ERR_TARGET ≤ 2 →
      Gives (.tstErrGo) s fun t =>
      t.tst = { s.tst with errLeft := orOne (s.fld F.TST_ERR_COUNT) } ∧ t.fld F.TST_ERR_GO = 1 ∧ bit (t.fld F.TST_STAT_ACTIVE) 3 = true) ∧
  (∀ (s : State), s.tst.unlocked = true →
      3 ≤ s.fld F.TST_ERR_TARGET →
      s.inService (if s.fld F.TST_ERR_LANE = 1 then 1 else 0) = false →
      Gives (.tstErrGo) s fun t =>
      t.fld F.TST_STAT_REFUSED = 1 ∧ t.lan = s.lan ∧ t.tst = s.tst) ∧
  (∀ (s : State) (l : Nat), s.tst.unlocked = true →
      (s.fld F.TST_ERR_TARGET = 3 ∨ s.fld F.TST_ERR_TARGET = 5) →
      l = (if s.fld F.TST_ERR_LANE = 1 then 1 else 0) →
      s.inService l = true →
      Gives (.tstErrGo) s fun t =>
      Tbl.get 0 t.lan.injected l = Tbl.get 0 s.lan.injected l + orOne (s.fld F.TST_ERR_COUNT) ∧ t.regs = s.regs) ∧
  (∀ (s : State) (l : Nat), s.tst.unlocked = true →
      (s.fld F.TST_ERR_TARGET = 4 ∨ 6 ≤ s.fld F.TST_ERR_TARGET) →
      l = (if s.fld F.TST_ERR_LANE = 1 then 1 else 0) →
      s.inService l = true →
      Gives (.tstErrGo) s fun t =>
      bit (t.fld (fDiagCause l)) (if s.fld F.TST_ERR_TARGET = 7 then dgSTEP_MEM else dgECC_UE) = true ∧ bit t.pend Ev.lanDiag = true) ∧
  (∀ (s : State), s.tst.unlocked = true →
      Gives (.tstCrcGo) s fun t =>
      t.tst = { s.tst with crcLeft := orOne (s.fld F.TST_CRC_COUNT) } ∧ t.fld F.TST_CRC_GO = 1 ∧ bit (t.fld F.TST_STAT_ACTIVE) 5 = true) ∧
  (∀ (s : State), s.tst.unlocked = false →
      exec .tstClrAll s = .next s) ∧
  (∀ (s : State), s.tst.unlocked = false →
      exec .tstErrGo s = .next s) ∧
  (∀ (s : State), s.tst.unlocked = false →
      exec .tstCrcGo s = .next s) ∧
  (∀ (s : State) (v : Word), s.tst.unlocked = false →
      exec (.tstJitWrite v) s = .next s)

/-- After reset every register reads its reset value, session 0 is open at level C, and no command waits -/
def Obligations.ResetLeavesTheResetValues : Prop :=
  (∀ (a : Nat), State.reset.reg a = regReset a) ∧
  (∀ (a : Nat), regRow a = none →
      State.reset.reg a = 0) ∧
  (State.reset.reg R.SYS_ID = 0x9640B020 ∧ State.reset.reg R.SYS_SVB_CTL = 0x003C000F ∧ State.reset.reg R.SYS_SVB_STAT = 6 ∧ State.reset.reg R.PWR_CTL = 0x506900 ∧
    State.reset.reg R.PWR_WAKE = 3 ∧ State.reset.reg (R.ARB_PWR_REQ 0) = 0xA ∧ State.reset.reg (R.STP_ROVER 3) = 0 ∧ State.reset.reg (R.MTR_PLS 1) = 0x150) ∧
  (State.reset.sess 0 = { isOpen := true, level := 1 } ∧ State.reset.sess 1 = {} ∧ State.reset.sess 2 = {} ∧ State.reset.sess 3 = {} ∧
    State.reset.pending = [] ∧ State.reset.pins.stopOutA = true ∧ State.reset.pins.stopOutB = true ∧ State.reset.svb.rdyHigh = true ∧
    State.reset.pwr.state = .starting ∧ State.reset.pwr.hubReady = false) ∧
  (∀ (o : Nat), State.reset.dramByte o = 0) ∧
  (Memory.wf State.reset.dram = true)

/-- R43: a command executes once, under a fresh sequence number; repeats, stale and conflicting ones do not -/
def Obligations.CommandsExecuteOnceBySequenceNumber : Prop :=
  (∀ (s : State) (t : State) (c : Cmd) (h : Handshake), s.reaches c 0x0102 = true →
      (s.sess c.sid.val).hs = some h →
      exec (.sessionConfirm c) s = .next t →
      (t.sess c.sid.val).isOpen = true ∧ (t.sess c.sid.val).h = c.seq.toNat ∧ (t.sess c.sid.val).cache.map (·.seq) = [c.seq.toNat]) ∧
  (∀ (s : State) (t : State) (i : Instr) (c : Cmd) (op : Op) (f : CacheEntry), commandOf i = some (c, op) →
      s.reaches c op.code = true →
      op.code ≠ 0x0101 →
      op.code ≠ 0x0102 →
      (s.sess c.sid.val).isOpen = true →
      exec i s = .next t →
      ((s.sess c.sid.val).cache.find? (fun e => e.seq == c.seq.toNat) = some f) →
      f.crc ≠ crc32c (le 2 op.code ++ c.payload) →
      t.left c.sid.val (s.sess c.sid.val).peer (.reply c.seq.toNat op.code false (s.sess c.sid.val).auth ⟨0x32, []⟩) ∧
      (t.sess c.sid.val).h = (s.sess c.sid.val).h ∧ (t.sess c.sid.val).cache = (s.sess c.sid.val).cache ∧ s.changesOnly t [.outs, .pins, .svb, .tst] busRegs []) ∧
  (∀ (s : State) (t : State) (i : Instr) (c : Cmd) (op : Op) (f : CacheEntry), commandOf i = some (c, op) →
      s.reaches c op.code = true →
      op.code ≠ 0x0101 →
      op.code ≠ 0x0102 →
      (s.sess c.sid.val).isOpen = true →
      exec i s = .next t →
      ((s.sess c.sid.val).cache.find? (fun e => e.seq == c.seq.toNat) = some f) →
      f.crc = crc32c (le 2 op.code ++ c.payload) →
      f.reply = none →
      t.fld F.SYS_SVB_ERR_DUP = min (s.fld F.SYS_SVB_ERR_DUP + 1) 255 ∧ t.outs = s.outs ∧ (t.sess c.sid.val).out = (s.sess c.sid.val).out ∧
      (t.sess c.sid.val).h = (s.sess c.sid.val).h ∧ (t.sess c.sid.val).cache = (s.sess c.sid.val).cache ∧ s.changesOnly t [.outs, .pins, .svb, .tst] busRegs []) ∧
  (∀ (s : State) (t : State) (i : Instr) (c : Cmd) (op : Op) (f : CacheEntry) (r : Reply), commandOf i = some (c, op) →
      s.reaches c op.code = true →
      op.code ≠ 0x0101 →
      op.code ≠ 0x0102 →
      (s.sess c.sid.val).isOpen = true →
      exec i s = .next t →
      ((s.sess c.sid.val).cache.find? (fun e => e.seq == c.seq.toNat) = some f) →
      f.crc = crc32c (le 2 op.code ++ c.payload) →
      f.reply = some r →
      t.fld F.SYS_SVB_ERR_DUP = min (s.fld F.SYS_SVB_ERR_DUP + 1) 255 ∧
      t.left c.sid.val (s.sess c.sid.val).peer (.reply c.seq.toNat op.code true (s.sess c.sid.val).auth r) ∧
      (t.sess c.sid.val).h = (s.sess c.sid.val).h ∧ (t.sess c.sid.val).cache = (s.sess c.sid.val).cache ∧ s.changesOnly t [.outs, .pins, .svb, .tst] busRegs []) ∧
  (∀ (s : State) (t : State) (i : Instr) (c : Cmd) (op : Op), commandOf i = some (c, op) →
      s.reaches c op.code = true →
      op.code ≠ 0x0101 →
      op.code ≠ 0x0102 →
      (s.sess c.sid.val).isOpen = true →
      exec i s = .next t →
      ((s.sess c.sid.val).cache.find? (fun e => e.seq == c.seq.toNat) = none) →
      ((c.seq.toNat + 65536 - (s.sess c.sid.val).h) % 65536 = 0 ∨ 32768 ≤ (c.seq.toNat + 65536 - (s.sess c.sid.val).h) % 65536) →
      t.left c.sid.val (s.sess c.sid.val).peer (.reply c.seq.toNat op.code false (s.sess c.sid.val).auth ⟨0x31, []⟩) ∧
      (t.sess c.sid.val).h = (s.sess c.sid.val).h ∧ (t.sess c.sid.val).cache = (s.sess c.sid.val).cache ∧ s.changesOnly t [.outs, .pins, .svb, .tst] busRegs []) ∧
  (∀ (s : State) (t : State) (i : Instr) (c : Cmd) (op : Op), commandOf i = some (c, op) →
      s.reaches c op.code = true →
      op.code ≠ 0x0101 →
      op.code ≠ 0x0102 →
      (s.sess c.sid.val).isOpen = true →
      exec i s = .next t →
      ((s.sess c.sid.val).cache.find? (fun e => e.seq == c.seq.toNat) = none) →
      0 < (c.seq.toNat + 65536 - (s.sess c.sid.val).h) % 65536 →
      (c.seq.toNat + 65536 - (s.sess c.sid.val).h) % 65536 < 32768 →
      16 ≤ awaiting (s.sess c.sid.val) →
      t.left c.sid.val (s.sess c.sid.val).peer (.reply c.seq.toNat op.code false (s.sess c.sid.val).auth ⟨0x30, []⟩) ∧
      (t.sess c.sid.val).h = (s.sess c.sid.val).h ∧ (t.sess c.sid.val).cache = (s.sess c.sid.val).cache ∧ s.changesOnly t [.outs, .pins, .svb, .tst] busRegs []) ∧
  (∀ (s : State) (i : Instr) (c : Cmd) (op : Op) (u : State) (r : Reply), commandOf i = some (c, op) →
      s.reaches c op.code = true →
      op.code ≠ 0x0101 →
      op.code ≠ 0x0102 →
      (s.sess c.sid.val).isOpen = true →
      s.takes c op = true →
      op.run (s.entered c op) c.sid.val c.seq.toNat c.payload = (u, some r) →
      exec i s = .next ((u.finish c.sid.val c.seq.toNat op.code (s.engineFor op c.payload) r).follow c.sid.val c.seq.toNat op)) ∧
  (∀ (s : State) (i : Instr) (c : Cmd) (op : Op) (u : State), commandOf i = some (c, op) →
      s.reaches c op.code = true →
      op.code ≠ 0x0101 →
      op.code ≠ 0x0102 →
      (s.sess c.sid.val).isOpen = true →
      s.takes c op = true →
      op.run (s.entered c op) c.sid.val c.seq.toNat c.payload = (u, none) →
      exec i s = .next u) ∧
  (∀ (s : State) (c : Cmd) (op : Op), s.takes c op = true →
      ((s.entered c op).sess c.sid.val).h = c.seq.toNat ∧ ((s.entered c op).sess c.sid.val).cache.length ≤ 16 ∧
      (∃ f ∈ ((s.entered c op).sess c.sid.val).cache, f.seq = c.seq.toNat ∧ f.reply = none) ∧
      ∃ k, ((s.entered c op).sess c.sid.val).cache.map (·.seq) = ((s.sess c.sid.val).cache.map (·.seq)).drop k ++ [c.seq.toNat])

/-- A command that is out of rights, out of reach or not accepted in its state executes nothing. Where the rules leave a point open it follows
the model's choice of log entries 19, 23. -/
def Obligations.RefusedCommandsExecuteNothing : Prop :=
  (∀ (s : State) (t : State) (i : Instr) (c : Cmd) (op : Op), commandOf i = some (c, op) →
      exec i s = .next t →
      (s.serving = false ∨ s.transportUp c.sid.val = false) →
      t = s) ∧
  (∀ (s : State) (t : State) (i : Instr) (c : Cmd) (op : Op), commandOf i = some (c, op) →
      exec i s = .next t →
      s.serving = true →
      s.transportUp c.sid.val = true →
      (1408 < wireLength (s.sess c.sid.val).auth op.code c.payload ∨ (c.sid.val ≠ 0 ∧ s.udpEnabled c.sid.val = false)) →
      t = s.satInc F.SYS_SVB_ERR_FRAMING) ∧
  (∀ (s : State) (t : State) (i : Instr) (c : Cmd) (op : Op), commandOf i = some (c, op) →
      s.reaches c op.code = true →
      op.code ≠ 0x0101 →
      op.code ≠ 0x0102 →
      exec i s = .next t →
      (s.sess c.sid.val).isOpen = false →
      t.left c.sid.val (s.sess c.sid.val).peer (.reply c.seq.toNat op.code false false ⟨0x22, []⟩) ∧ (t.sess c.sid.val).isOpen = false ∧
      s.changesOnly t [.outs, .pins, .svb, .tst] busRegs []) ∧
  (∀ (s : State) (t : State) (i : Instr) (c : Cmd) (op : Op), commandOf i = some (c, op) →
      s.reaches c op.code = true →
      op.code ≠ 0x0101 →
      op.code ≠ 0x0102 →
      exec i s = .next t →
      (s.sess c.sid.val).fresh c.seq.toNat = true →
      (s.sess c.sid.val).level < op.rights →
      t.answered c ⟨0x20, []⟩ ∧ (t.sess c.sid.val).h = c.seq.toNat ∧
      s.changesOnly t [.outs, .pins, .svb, .tst] busRegs []) ∧
  (∀ (s : State) (t : State) (i : Instr) (c : Cmd) (op : Op), commandOf i = some (c, op) →
      s.reaches c op.code = true →
      op.code ≠ 0x0101 →
      op.code ≠ 0x0102 →
      exec i s = .next t →
      (s.sess c.sid.val).fresh c.seq.toNat = true →
      op.rights ≤ (s.sess c.sid.val).level →
      s.upd.recovery = true →
      recoveryOp op.code = false →
      t.answered c ⟨0x40, []⟩ ∧ (t.sess c.sid.val).h = c.seq.toNat ∧
      s.changesOnly t [.outs, .pins, .svb, .tst] busRegs []) ∧
  (∀ (s : State) (t : State) (i : Instr) (c : Cmd) (op : Op), commandOf i = some (c, op) →
      s.reaches c op.code = true →
      op.code ≠ 0x0101 →
      op.code ≠ 0x0102 →
      exec i s = .next t →
      (s.sess c.sid.val).fresh c.seq.toNat = true →
      op.rights ≤ (s.sess c.sid.val).level →
      s.upd.recovery = false →
      op.lane c.payload = true →
      s.anyLane = false →
      s.switching = false →
      t.answered c ⟨0x40, []⟩ ∧ (t.sess c.sid.val).h = c.seq.toNat ∧
      s.changesOnly t [.outs, .pins, .svb, .tst] busRegs [])

/-- R390: a rewound packet vanishes, REWINDS is incremented, and its reader never sees any part of it -/
def Obligations.RewoundPacketsNeverAppear : Prop :=
  (∀ (s : State) (q : Fin 64), q.val < 40 →
      Gives (.packetRewind q) s fun t =>
      (t.queue q.val).fill = (s.queue q.val).fill ∧ (t.queue q.val).drain = (s.queue q.val).drain ∧
      (t.queue q.val).rewinds = min 65535 ((s.queue q.val).rewinds + 1) ∧ (∀ k, k ≠ q.val → t.queue k = s.queue k) ∧
      (s.fld F.QUE_SEL_QUEUE = q.val → t.fld F.QUE_Q_CNT_REWINDS = (t.queue q.val).rewinds)) ∧
  (∀ (s : State) (t : State) (u : State) (q : Fin 64), exec (.packetRewind q) s = .next t →
      exec (.queueRack q) t = .next u →
      (u.queue q.val).drain = if (s.queue q.val).drain = [] then (s.queue q.val).fill else (s.queue q.val).drain)

/-- R475: the module enters Backup or Off only through the reset level and leaves them only by power-on -/
def Obligations.BackupAndOffOnlyByResetLevelAndPowerOn : Prop :=
  (∀ (s : State) (t : State) (i : Instr), s.powered = true →
      exec i s = .next t →
      t.powered = false →
      i = .brownOutReset ∧ s.pwr.lowAt.isSome = true) ∧
  (∀ (s : State) (t : State) (i : Instr), s.powered = false →
      s.pwr.hubReady = false →
      exec i s = .next t →
      t.powered = true →
      ∃ low away, i = .powerOn low away) ∧
  (∀ (s : State) (t : State) (i : Instr), (s.powered = false → s.pwr.hubReady = false) →
      exec i s = .next t →
      t.powered = false → t.pwr.hubReady = false)

/-- No command changes the fused identity, gives back a change, lowers the vintage floor or changes a setting unpaid. Where the rules leave a point open it follows
the model's choice of log entries 36, 107. -/
def Obligations.FusesOnlyBurn : Prop :=
  (∀ (s : State) (t : State) (i : Instr), exec i s = .next t →
      t.fuses.unitId = s.fuses.unitId ∧ t.fuses.mac = s.fuses.mac ∧ t.fuses.epub = s.fuses.epub ∧ s.fuses.floor ≤ t.fuses.floor ∧
      (t.fuses.siteLeft = s.fuses.siteLeft ∧ t.fuses.siteId = s.fuses.siteId ∨ t.fuses.siteLeft + 1 = s.fuses.siteLeft) ∧
      (t.fuses.ownerLeft = s.fuses.ownerLeft ∧ t.fuses.ownerId = s.fuses.ownerId ∨ t.fuses.ownerLeft + 1 = s.fuses.ownerLeft) ∧
      (t.fuses.sealLeft = s.fuses.sealLeft ∧ t.fuses.sealCrc = s.fuses.sealCrc ∨ t.fuses.sealLeft + 1 = s.fuses.sealLeft) ∧
      (t.fuses.floorLeft = s.fuses.floorLeft ∧ t.fuses.floor = s.fuses.floor ∨ t.fuses.floorLeft + 1 = s.fuses.floorLeft))

/-- The bytes of a packet that spells a command, on SPI or UDP, have the effect of that command's row. Where the rules leave a point open it follows
the model's choice of log entries 10, 17, 22, 24, 25. -/
def Obligations.PacketsSpellTheirCommands : Prop :=
  (∀ (s : State) (t : State) (i : Instr) (c : Cmd) (op : Op), commandOf i = some (c, op) →
      s.reaches c op.code = true →
      exec i s = .next t →
      c.sid.val = 0 →
      (s.sess 0).peer = 0 →
      s.svb.rdyHigh = false →
      exec (.spiWrite (s.wire c op.code)) s = .next t.spiBusy) ∧
  (∀ (s : State) (t : State) (i : Instr) (c : Cmd) (op : Op), commandOf i = some (c, op) →
      s.reaches c op.code = true →
      exec i s = .next t →
      c.sid.val ≠ 0 →
      exec (.udpDatagram (s.sess c.sid.val).peer (s.wire c op.code)) s = .next t)

/-- Every step keeps the shared DRAM partition in canonical form -/
def Obligations.SharedDramKeepsItsCanonicalForm : Prop :=
  (∀ (s : State) (t : State), Memory.wf s.dram = true →
      step s = .next t →
      Memory.wf t.dram = true)

/-- What each command of the SPI transactions, the session commands and the register commands leaves as it was -/
def Obligations.FramesOfTransportsSessionsAndRegisters : Prop :=
  (∀ (s : State) (n : Nat), Gives (.spiRead n) s fun t =>
      s.changesOnly t [.outs, .pins, .svb] ([R.EVT_CNT, R.EVT_PEND0, R.EVT_PEND1, R.EVT_PEND2, R.EVT_STAT, R.SYS_SVB_ERR, R.SYS_SVB_STAT]) []) ∧
  (∀ (s : State) (code : Byte), Gives (.spiInvalidCode code) s fun t =>
      s.changesOnly t [.svb] ([R.SYS_SVB_ERR]) []) ∧
  (∀ (s : State) (sid : Fin 4), Gives (.handshakeLapse sid) s fun t =>
      s.changesOnly t [.svb] ([R.SYS_SVB_STAT]) []) ∧
  (∀ (s : State) (sid : Fin 4), Gives (.udpSessionIdle sid) s fun t =>
      s.changesOnly t [.outs, .pins, .svb, .que, .arb, .lan, .tst] ([R.ARB_DRAM, R.ARB_DRAM_CNT, R.ARB_MAT, R.ARB_MAT_CNT, R.QUE_MODE0, R.QUE_MODE1, R.QUE_Q_CNT, R.QUE_Q_ERR, R.QUE_Q_STAT, R.QUE_STAT, R.TST_BP, R.TST_CTL, R.TST_ERR, R.TST_JIT, R.TST_STRETCH] ++ (List.range 64).map R.SEC_SLOT ++ (List.range 4).map R.TST_QDLY ++ busRegs) []) ∧
  (∀ (s : State) (c : Cmd), Gives (.ping c) s fun t =>
      s.changesOnly t [.outs, .pins, .svb, .tst] (busRegs) []) ∧
  (∀ (s : State) (c : Cmd), Gives (.sessionOpen c) s fun t =>
      s.changesOnly t [.free, .outs, .pins, .svb, .tst] (busRegs) []) ∧
  (∀ (s : State) (c : Cmd), Gives (.sessionConfirm c) s fun t =>
      s.changesOnly t [.outs, .pins, .svb, .que, .arb, .lan, .tst] ([R.ARB_DRAM, R.ARB_DRAM_CNT, R.ARB_MAT, R.ARB_MAT_CNT, R.QUE_MODE0, R.QUE_MODE1, R.QUE_Q_CNT, R.QUE_Q_ERR, R.QUE_Q_STAT, R.QUE_STAT, R.TST_BP, R.TST_CTL, R.TST_ERR, R.TST_JIT, R.TST_STRETCH] ++ (List.range 64).map R.SEC_SLOT ++ (List.range 4).map R.TST_QDLY ++ busRegs) []) ∧
  (∀ (s : State) (c : Cmd), Gives (.sessionClose c) s fun t =>
      s.changesOnly t [.outs, .pins, .svb, .que, .arb, .lan, .tst] ([R.ARB_DRAM, R.ARB_DRAM_CNT, R.ARB_MAT, R.ARB_MAT_CNT, R.QUE_MODE0, R.QUE_MODE1, R.QUE_Q_CNT, R.QUE_Q_ERR, R.QUE_Q_STAT, R.QUE_STAT, R.TST_BP, R.TST_CTL, R.TST_ERR, R.TST_JIT, R.TST_STRETCH] ++ (List.range 64).map R.SEC_SLOT ++ (List.range 4).map R.TST_QDLY ++ busRegs) []) ∧
  (∀ (s : State) (c : Cmd), Gives (.getIdentity c) s fun t =>
      s.changesOnly t [.outs, .pins, .svb, .tst] (busRegs) []) ∧
  (∀ (s : State) (c : Cmd), Gives (.eventSubscribe c) s fun t =>
      s.changesOnly t [.outs, .pins, .svb, .tst] (busRegs) []) ∧
  (∀ (s : State) (c : Cmd), Gives (.bulkWrite c) s fun t =>
      s.changesOnly t [.outs, .dram, .pins, .svb, .tst] (busRegs) []) ∧
  (∀ (s : State) (c : Cmd), Gives (.bulkRead c) s fun t =>
      s.changesOnly t [.outs, .pins, .svb, .tst] (busRegs) []) ∧
  (∀ (s : State) (c : Cmd), Gives (.regRead c) s fun t =>
      s.changesOnly t [.free, .outs, .pins, .time, .svb, .eng, .sbx, .arb, .lan, .tst] ([R.ARB_DRAM, R.ARB_DRAM_CNT, R.ARB_MAT, R.ARB_MAT_CNT, R.PWR_SUP, R.PWR_SUP2, R.SBX_LOAD, R.SCH_CNT, R.SYS_TT_COUNT, R.SYS_TT_POS, R.TIM_IN_HI, R.TIM_IN_LO, R.TIM_IN_META, R.TIM_IN_STAT, R.TIM_NOW_HI] ++ (List.range 2).map R.ETH_P_PAUSE ++ busRegs) []) ∧
  (∀ (s : State) (c : Cmd), Gives (.regWrite c) s fun t =>
      s.keeps t [.free, .outs, .dram, .pins, .time, .svb, .eng, .sky, .rtk, .snp, .sbx, .alt, .ttb, .stp, .rad, .eth, .mtr, .que, .sch, .arb, .lan, .sec, .upd, .cbk, .pwr, .vbat, .tst, .nor]) ∧
  (∀ (s : State) (c : Cmd), Gives (.regReadBlock c) s fun t =>
      s.changesOnly t [.free, .outs, .pins, .time, .svb, .eng, .sbx, .arb, .lan, .tst] ([R.ARB_DRAM, R.ARB_DRAM_CNT, R.ARB_MAT, R.ARB_MAT_CNT, R.PWR_SUP, R.PWR_SUP2, R.SBX_LOAD, R.SCH_CNT, R.SYS_TT_COUNT, R.SYS_TT_POS, R.TIM_IN_HI, R.TIM_IN_LO, R.TIM_IN_META, R.TIM_IN_STAT, R.TIM_NOW_HI] ++ (List.range 2).map R.ETH_P_PAUSE ++ busRegs) []) ∧
  (∀ (s : State) (c : Cmd), Gives (.regModify c) s fun t =>
      s.keeps t [.free, .outs, .dram, .pins, .time, .svb, .eng, .sky, .rtk, .snp, .sbx, .alt, .ttb, .stp, .rad, .eth, .mtr, .que, .sch, .arb, .lan, .sec, .upd, .cbk, .pwr, .vbat, .tst, .nor]) ∧
  (∀ (s : State) (c : Cmd), Gives (.regWriteLc c) s fun t =>
      s.changesOnly t [.outs, .pins, .svb, .fuses, .cbk, .tst] ([R.SEC_BIND, R.SEC_CNT, R.SEC_RSID, R.SEC_SITE, R.SEC_STAT, R.UPD_FLOOR] ++ (List.range 4).map R.RAD_P_STAT ++ (List.range 64).map R.SEC_SLOT ++ busRegs) []) ∧
  (∀ (s : State) (addr : Nat) (value : Word), Gives (.registerWrite addr value) s fun t =>
      s.keeps t [.free, .outs, .pins, .time, .svb, .sky, .rtk, .snp, .sbx, .alt, .ttb, .stp, .rad, .eth, .mtr, .que, .arb, .lan, .upd, .cbk, .pwr, .vbat, .tst, .nor]) ∧
  (∀ (s : State) (sid : Fin 4), Gives (.udpSessionDisable sid) s fun t =>
      s.changesOnly t [.outs, .pins, .svb, .que, .arb, .lan, .tst] ([R.ARB_DRAM, R.ARB_DRAM_CNT, R.ARB_MAT, R.ARB_MAT_CNT, R.QUE_MODE0, R.QUE_MODE1, R.QUE_Q_CNT, R.QUE_Q_ERR, R.QUE_Q_STAT, R.QUE_STAT, R.SYS_SVB_CTL, R.TST_BP, R.TST_CTL, R.TST_ERR, R.TST_JIT, R.TST_STRETCH] ++ (List.range 64).map R.SEC_SLOT ++ (List.range 4).map R.TST_QDLY ++ busRegs) []) ∧
  (∀ (s : State), Gives (.spiStatus) s fun t =>
      s.changesOnly t [.outs, .svb] ([R.SYS_SVB_ERR]) []) ∧
  (∀ (s : State), Gives (.spiCsWhileBusy) s fun t =>
      s.changesOnly t [.svb] ([R.SYS_SVB_ERR]) []) ∧
  (∀ (s : State), Gives (.hsRdyReady) s fun t =>
      s.changesOnly t [.svb] ([]) []) ∧
  (∀ (s : State), Gives (.sysTtPosRead) s fun t =>
      s.changesOnly t [.free, .eng] ([R.SYS_TT_COUNT, R.SYS_TT_POS]) []) ∧
  (∀ (s : State), Gives (.svbCntClr) s fun t =>
      s.changesOnly t [] ([R.SYS_SVB_ERR]) [])

/-- What each command of the sky baseband and the time engine leaves as it was -/
def Obligations.FramesOfTheSkyBasebandAndTheTimeEngine : Prop :=
  (∀ (s : State) (c : Cmd), Gives (.skyConfig c) s fun t =>
      s.changesOnly t [.outs, .pins, .svb, .sky, .tst, .nor] (busRegs) []) ∧
  (∀ (s : State) (c : Cmd), Gives (.skySetBasePosition c) s fun t =>
      s.changesOnly t [.outs, .pins, .svb, .sky, .tst] (busRegs) []) ∧
  (∀ (s : State) (c : Cmd), Gives (.skyExclude c) s fun t =>
      s.changesOnly t [.outs, .pins, .svb, .sky, .tst] ([R.SKY_STAT] ++ busRegs) []) ∧
  (∀ (s : State) (c : Cmd), Gives (.skyGetChannels c) s fun t =>
      s.changesOnly t [.outs, .pins, .svb, .tst] (busRegs) []) ∧
  (∀ (s : State) (c : Cmd), Gives (.skyRtcmConfig c) s fun t =>
      s.changesOnly t [.outs, .pins, .svb, .sky, .tst] (busRegs) []) ∧
  (∀ (s : State) (clkBias : Option Int) (clkDrift : Int), Gives (.measurementEpoch clkBias clkDrift) s fun t =>
      s.changesOnly t [.free, .outs, .dram, .pins, .time, .svb, .sky, .rtk, .tst] ([R.ETH_PTP_STAT, R.RTK_STAT, R.SKY_MEAS_WR, R.SKY_STAT, R.TIM_OFFSET, R.TIM_STAT] ++ busRegs) []) ∧
  (∀ (s : State) (current : Nat), Gives (.antennaOpen current) s fun t =>
      s.changesOnly t [.outs, .pins, .svb, .sky, .tst] ([R.SKY_ANT] ++ busRegs) []) ∧
  (∀ (s : State) (current : Nat), Gives (.antennaShort current) s fun t =>
      s.changesOnly t [.outs, .pins, .svb, .sky, .tst] ([R.SKY_ANT] ++ busRegs) []) ∧
  (∀ (s : State) (current : Nat), Gives (.antennaBiasRetry current) s fun t =>
      s.changesOnly t [.outs, .pins, .svb, .sky, .tst] ([R.SKY_ANT] ++ busRegs) []) ∧
  (∀ (s : State) (band : Fin 2) (notch : Fin 4) (level : Nat) (freq : Int), Gives (.notchEngage band notch level freq) s fun t =>
      s.changesOnly t [.outs, .pins, .svb, .sky, .tst] ([R.SKY_ITF_STAT] ++ busRegs) []) ∧
  (∀ (s : State) (band : Fin 2) (notch : Fin 4) (level : Nat), Gives (.notchRelease band notch level) s fun t =>
      s.changesOnly t [.sky] ([R.SKY_ITF_STAT]) []) ∧
  (∀ (s : State) (band : Fin 2) (samples : List (Int × Int)), Gives (.interferenceCondition band samples) s fun t =>
      s.changesOnly t [.outs, .pins, .svb, .sky, .tst] ([R.SKY_ITF, R.SKY_ITF_STAT] ++ busRegs) []) ∧
  (∀ (s : State) (ch : Fin 128) (a : AcqIn), Gives (.satelliteAcquired ch a) s fun t =>
      s.changesOnly t [.outs, .pins, .svb, .sky, .tst] ([R.SKY_STAT] ++ busRegs) []) ∧
  (∀ (s : State) (ch : Fin 128) (offset : Int) (power : Nat), Gives (.l5Handover ch offset power) s fun t =>
      s.changesOnly t [.sky] ([R.SKY_STAT]) []) ∧
  (∀ (s : State) (ch : Fin 128), Gives (.channelRelease ch) s fun t =>
      s.changesOnly t [.sky] ([R.SKY_STAT]) []) ∧
  (∀ (s : State) (ch : Fin 128) (band : Fin 2) (v : LoopIn), Gives (.loopUpdate ch band v) s fun t =>
      s.changesOnly t [.sky] ([R.SKY_STAT]) []) ∧
  (∀ (s : State) (ch : Fin 128) (band : Fin 2), Gives (.pllBandwidthUpdate ch band) s fun t =>
      s.changesOnly t [.sky] ([R.SKY_STAT]) []) ∧
  (∀ (s : State) (ch : Fin 128) (band : Fin 2), Gives (.sidePeakCorrection ch band) s fun t =>
      s.changesOnly t [.sky] ([R.SKY_STAT]) []) ∧
  (∀ (s : State) (ch : Fin 128) (band : Fin 2), Gives (.carrierLockLoss ch band) s fun t =>
      s.changesOnly t [.sky] ([R.SKY_STAT]) []) ∧
  (∀ (s : State) (ch : Fin 128) (band : Fin 2), Gives (.codeLockLoss ch band) s fun t =>
      s.changesOnly t [.sky] ([R.SKY_STAT]) []) ∧
  (∀ (s : State) (ch : Fin 128) (band : Fin 2) (v : NavIn), Gives (.navRecord ch band v) s fun t =>
      s.changesOnly t [.outs, .dram, .pins, .time, .svb, .sky, .tst] ([R.SKY_NAV_WR, R.SKY_STAT, R.TIM_STAT, R.TIM_UTC] ++ busRegs) []) ∧
  (∀ (s : State) (falling : Bool) (phase : Fin 4) (width : Nat), Gives (.timeInEdge falling phase width) s fun t =>
      s.changesOnly t [.outs, .pins, .time, .svb, .tst] ([R.TIM_IN_STAT] ++ busRegs) []) ∧
  (∀ (s : State) (k : Fin 2) (yf : Int), Gives (.sourceQualify k yf) s fun t =>
      s.changesOnly t [.outs, .pins, .time, .svb, .tst] ([R.ETH_PTP_STAT, R.TIM_HOLD_AGE, R.TIM_INC_FRAC, R.TIM_INC_INT, R.TIM_OFFSET, R.TIM_STAT] ++ busRegs) []) ∧
  (∀ (s : State) (k : Fin 2), Gives (.sourceLost k) s fun t =>
      s.changesOnly t [.outs, .pins, .time, .svb, .tst] ([R.ETH_PTP_STAT, R.TIM_HOLD_AGE, R.TIM_INC_FRAC, R.TIM_INC_INT, R.TIM_OFFSET, R.TIM_STAT] ++ busRegs) []) ∧
  (∀ (s : State) (yf : Int), Gives (.yfReplace yf) s fun t =>
      s.changesOnly t [.time] ([]) []) ∧
  (∀ (s : State) (k : Fin 2), Gives (.ppsEdge k) s fun t =>
      s.changesOnly t [.outs, .time] ([]) []) ∧
  (∀ (s : State) (c : Cmd), Gives (.timeGet c) s fun t =>
      s.changesOnly t [.outs, .pins, .svb, .tst] (busRegs) []) ∧
  (∀ (s : State) (c : Cmd), Gives (.timeRestep c) s fun t =>
      s.changesOnly t [.outs, .pins, .time, .svb, .tst] (busRegs) []) ∧
  (∀ (s : State) (c : Cmd), Gives (.ppsConfig c) s fun t =>
      s.changesOnly t [.outs, .pins, .time, .svb, .tst, .nor] ((List.range 2).map R.TIM_PPS_CABLE ++ (List.range 2).map R.TIM_PPS_CTL ++ (List.range 2).map R.TIM_PPS_OFS ++ (List.range 2).map R.TIM_PPS_WIDTH ++ busRegs) []) ∧
  (∀ (s : State) (current : Nat), Gives (.antennaNormal current) s fun t =>
      s.changesOnly t [.outs, .pins, .svb, .sky, .tst] ([R.SKY_ANT] ++ busRegs) []) ∧
  (∀ (s : State), Gives (.skyColdRestart) s fun t =>
      s.changesOnly t [.sky] ([R.SKY_STAT]) []) ∧
  (∀ (s : State), Gives (.skyHotRestart) s fun t =>
      s.changesOnly t [.sky] ([R.SKY_STAT]) []) ∧
  (∀ (s : State), Gives (.epochRateChange) s fun t =>
      s.changesOnly t [.sky] ([R.SKY_CTL, R.SKY_STAT]) []) ∧
  (∀ (s : State), Gives (.timInLoRead) s fun t =>
      s.changesOnly t [.time] ([R.TIM_IN_HI, R.TIM_IN_LO, R.TIM_IN_META, R.TIM_IN_STAT]) []) ∧
  (∀ (s : State), Gives (.timNowLoRead) s fun t =>
      s.changesOnly t [] ([R.TIM_NOW_HI]) []) ∧
  (∀ (s : State), Gives (.firstTimeStep) s fun t =>
      s.changesOnly t [.outs, .pins, .time, .svb, .sky, .rtk, .ttb, .mtr, .cbk, .tst] ([R.ETH_PTP_STAT, R.MTR_CNT, R.MTR_STAT, R.TIM_HOLD_AGE, R.TIM_INC_FRAC, R.TIM_INC_INT, R.TIM_OFFSET, R.TIM_STAT] ++ busRegs) []) ∧
  (∀ (s : State), Gives (.disciplineUpdate) s fun t =>
      s.changesOnly t [.outs, .pins, .time, .svb, .tst] ([R.TIM_INC_FRAC, R.TIM_INC_INT] ++ busRegs) []) ∧
  (∀ (s : State), Gives (.timeLockHold) s fun t =>
      s.changesOnly t [.outs, .pins, .time, .svb, .tst] ([R.ETH_PTP_STAT, R.TIM_STAT] ++ busRegs) []) ∧
  (∀ (s : State), Gives (.holdoverExpire) s fun t =>
      s.changesOnly t [.outs, .pins, .time, .svb, .tst] ([R.ETH_PTP_STAT, R.TIM_STAT] ++ busRegs) []) ∧
  (∀ (s : State), Gives (.leapSecondPass) s fun t =>
      s.changesOnly t [.time] ([R.TIM_STAT, R.TIM_UTC]) []) ∧
  (∀ (s : State), Gives (.wholeSecond) s fun t =>
      s.changesOnly t [.time, .vbat] ([]) [])

/-- What each command of the RTK engine and snapshot assist leaves as it was -/
def Obligations.FramesOfRtkAndSnapshots : Prop :=
  (∀ (s : State) (slot : Fin 128) (body : List Byte), Gives (.observationIntake slot body) s fun t =>
      s.changesOnly t [.outs, .pins, .time, .svb, .rtk, .lan, .tst] ([R.RTK_INTAKE, R.RTK_STAT] ++ busRegs) []) ∧
  (∀ (s : State) (sols : List RtkSol), Gives (.rtkCycle sols) s fun t =>
      s.changesOnly t [.outs, .pins, .svb, .rtk, .sbx, .alt, .ttb, .lan, .tst] ([R.RTK_CUTS, R.RTK_CYCLE, R.RTK_STAT, R.SBX_CNT0, R.SBX_CNT1, R.SBX_STAT] ++ busRegs) []) ∧
  (∀ (s : State) (slot : Fin 128), Gives (.fixLostNone slot) s fun t =>
      s.changesOnly t [.outs, .pins, .svb, .rtk, .sbx, .alt, .ttb, .lan, .tst] ([R.RTK_STAT, R.SBX_CNT0, R.SBX_CNT1, R.SBX_STAT] ++ busRegs) []) ∧
  (∀ (s : State) (slot : Fin 128), Gives (.ionoFreeSwitch slot) s fun t =>
      s.changesOnly t [.rtk] ([R.RTK_STAT]) []) ∧
  (∀ (s : State) (c : Cmd), Gives (.rtkSetSiteOrigin c) s fun t =>
      s.changesOnly t [.outs, .pins, .time, .svb, .rtk, .lan, .tst] ([R.RTK_STAT, R.SCH_CNT] ++ busRegs) []) ∧
  (∀ (s : State) (c : Cmd), Gives (.rtkSetRateClass c) s fun t =>
      s.changesOnly t [.outs, .pins, .time, .svb, .rtk, .lan, .tst] ([R.SCH_CNT] ++ busRegs) []) ∧
  (∀ (s : State) (c : Cmd), Gives (.rtkSetNoise c) s fun t =>
      s.changesOnly t [.outs, .pins, .time, .svb, .rtk, .lan, .tst] ([R.SCH_CNT] ++ busRegs) []) ∧
  (∀ (s : State) (c : Cmd), Gives (.rtkResetRover c) s fun t =>
      s.changesOnly t [.outs, .pins, .time, .svb, .rtk, .lan, .tst] ([R.RTK_STAT, R.SCH_CNT] ++ busRegs) []) ∧
  (∀ (s : State) (c : Cmd), Gives (.rtkGetFix c) s fun t =>
      s.changesOnly t [.outs, .pins, .time, .svb, .lan, .tst] ([R.SCH_CNT] ++ busRegs) []) ∧
  (∀ (s : State) (port : Fin 4) (bytes : List Byte), Gives (.bulkUpReceive port bytes) s fun t =>
      s.changesOnly t [.outs, .pins, .svb, .snp, .rad, .tst] ([R.SNP_CNT, R.SNP_DROP, R.SNP_STAT, R.SNP_TIME] ++ (List.range 4).map R.RAD_P_CNT0 ++ (List.range 4).map R.RAD_P_CNT1 ++ busRegs) []) ∧
  (∀ (s : State), Gives (.snapshotSolveDone) s fun t =>
      s.changesOnly t [.outs, .pins, .svb, .snp, .tst] ([R.SNP_CNT, R.SNP_STAT, R.SNP_TIME] ++ busRegs) []) ∧
  (∀ (s : State) (slot : Fin 128), Gives (.snapshotMissing slot) s fun t =>
      s.changesOnly t [.snp] ([]) []) ∧
  (∀ (s : State) (slot : Fin 128), Gives (.snapshotAsmTimeout slot) s fun t =>
      s.changesOnly t [.outs, .pins, .svb, .snp, .tst] ([R.SNP_CNT, R.SNP_STAT, R.SNP_TIME] ++ busRegs) []) ∧
  (∀ (s : State), Gives (.arDeadlineCut) s fun t =>
      s.changesOnly t [.outs, .pins, .svb, .rtk, .sbx, .alt, .ttb, .lan, .tst] ([R.RTK_CUTS, R.RTK_CYCLE, R.RTK_STAT, R.SBX_CNT0, R.SBX_CNT1, R.SBX_STAT] ++ busRegs) []) ∧
  (∀ (s : State), Gives (.rtkRateChange) s fun t =>
      s.changesOnly t [.rtk, .rad] ([R.RTK_LOAD, R.RTK_STAT]) []) ∧
  (∀ (s : State), Gives (.rtkShedStep) s fun t =>
      s.changesOnly t [.outs, .pins, .svb, .rtk, .lan, .tst] ([R.RTK_LOAD, R.RTK_STAT] ++ busRegs) []) ∧
  (∀ (s : State), Gives (.rtkArDisable) s fun t =>
      s.changesOnly t [.rtk] ([R.RTK_CTL]) []) ∧
  (∀ (s : State), Gives (.rtkCntClr) s fun t =>
      s.changesOnly t [] ([R.RTK_CUTS, R.RTK_CYCLE, R.RTK_INTAKE]) []) ∧
  (∀ (s : State), Gives (.snapshotSolveStart) s fun t =>
      s.changesOnly t [.outs, .pins, .svb, .snp, .tst] ([R.SNP_CNT, R.SNP_STAT, R.SNP_TIME] ++ busRegs) []) ∧
  (∀ (s : State), Gives (.snapshotSolveTimeout) s fun t =>
      s.changesOnly t [.outs, .pins, .svb, .snp, .tst] ([R.SNP_CNT, R.SNP_STAT, R.SNP_TIME] ++ busRegs) []) ∧
  (∀ (s : State), Gives (.snpFlush) s fun t =>
      s.changesOnly t [.snp] ([R.SNP_DROP, R.SNP_STAT]) []) ∧
  (∀ (s : State), Gives (.snpDisable) s fun t =>
      s.changesOnly t [.snp] ([R.SNP_CTL, R.SNP_DROP, R.SNP_STAT]) []) ∧
  (∀ (s : State), Gives (.snpCntClr) s fun t =>
      s.changesOnly t [] ([R.SNP_CNT, R.SNP_DROP, R.SNP_TIME]) [])

/-- What each command of the signal box, allotment and the timetabler leaves as it was -/
def Obligations.FramesOfSignalBoxAllotmentAndTimetabler : Prop :=
  (∀ (s : State) (us : Nat), Gives (.sbxPass us) s fun t =>
      s.changesOnly t [.outs, .pins, .svb, .sbx, .alt, .ttb, .lan, .tst] ([R.ALT_STAT, R.SBX_CNT0, R.SBX_CNT1, R.SBX_LOAD, R.SBX_MAP_ID, R.SBX_MAP_STG, R.SBX_STAT] ++ busRegs) []) ∧
  (∀ (s : State) (slot : Fin 128), Gives (.authorityExpiry slot) s fun t =>
      s.changesOnly t [.outs, .pins, .svb, .sbx, .alt, .ttb, .lan, .tst] ([R.SBX_CNT0, R.SBX_CNT1, R.SBX_STAT] ++ busRegs) []) ∧
  (∀ (s : State) (slot : Fin 128), Gives (.releasingExpiry slot) s fun t =>
      s.changesOnly t [.outs, .pins, .svb, .sbx, .alt, .ttb, .lan, .tst] ([R.SBX_CNT0, R.SBX_CNT1, R.SBX_STAT] ++ busRegs) []) ∧
  (∀ (s : State) (slot : Fin 128), Gives (.avoidExpiry slot) s fun t =>
      s.changesOnly t [.sbx] ([]) []) ∧
  (∀ (s : State) (slot : Fin 128), Gives (.withdrawTimeout slot) s fun t =>
      s.changesOnly t [.outs, .pins, .svb, .sbx, .alt, .ttb, .lan, .tst] ([R.SBX_CNT0, R.SBX_CNT1, R.SBX_STAT] ++ busRegs) []) ∧
  (∀ (s : State) (slot : Fin 128), Gives (.previewExpiry slot) s fun t =>
      s.changesOnly t [.outs, .pins, .svb, .sbx, .alt, .ttb, .lan, .tst] ([R.SBX_CNT0, R.SBX_CNT1, R.SBX_STAT] ++ busRegs) []) ∧
  (∀ (s : State) (c : Cmd), Gives (.sbxMapStage c) s fun t =>
      s.changesOnly t [.outs, .pins, .time, .svb, .sbx, .lan, .tst] ([R.SCH_CNT] ++ busRegs) []) ∧
  (∀ (s : State) (c : Cmd), Gives (.sbxMapActivate c) s fun t =>
      s.changesOnly t [.outs, .pins, .time, .svb, .sbx, .lan, .tst] ([R.SCH_CNT] ++ busRegs) []) ∧
  (∀ (s : State) (c : Cmd), Gives (.sbxRequest c) s fun t =>
      s.changesOnly t [.outs, .pins, .time, .svb, .sbx, .alt, .ttb, .lan, .tst] ([R.SBX_CNT0, R.SBX_CNT1, R.SBX_LOAD, R.SBX_STAT, R.SCH_CNT] ++ busRegs) []) ∧
  (∀ (s : State) (c : Cmd), Gives (.sbxRelease c) s fun t =>
      s.changesOnly t [.outs, .pins, .time, .svb, .sbx, .alt, .ttb, .lan, .tst] ([R.SBX_CNT0, R.SBX_CNT1, R.SBX_STAT, R.SCH_CNT] ++ busRegs) []) ∧
  (∀ (s : State) (c : Cmd), Gives (.sbxRevoke c) s fun t =>
      s.changesOnly t [.outs, .pins, .time, .svb, .sbx, .alt, .ttb, .lan, .tst] ([R.SBX_CNT0, R.SBX_CNT1, R.SBX_STAT, R.SCH_CNT] ++ busRegs) []) ∧
  (∀ (s : State) (c : Cmd), Gives (.sbxZoneSet c) s fun t =>
      s.changesOnly t [.outs, .pins, .time, .svb, .sbx, .alt, .ttb, .lan, .tst] ([R.SBX_CNT0, R.SBX_CNT1, R.SBX_STAT, R.SCH_CNT] ++ busRegs) []) ∧
  (∀ (s : State) (c : Cmd), Gives (.sbxGetState c) s fun t =>
      s.changesOnly t [.outs, .pins, .time, .svb, .lan, .tst] ([R.SCH_CNT] ++ busRegs) []) ∧
  (∀ (s : State) (phases : Nat), Gives (.allotRoundTimeout phases) s fun t =>
      s.changesOnly t [.outs, .pins, .svb, .sbx, .alt, .ttb, .lan, .tst] ([R.ALT_CNT, R.ALT_ROUND, R.ALT_STAT, R.SBX_CNT1] ++ busRegs) []) ∧
  (∀ (s : State) (slot : Fin 128) (route : List Nat), Gives (.routeSearch slot route) s fun t =>
      s.changesOnly t [.outs, .pins, .svb, .sbx, .alt, .ttb, .lan, .tst] ([R.ALT_CNT, R.ALT_STAT, R.SBX_CNT1] ++ busRegs) []) ∧
  (∀ (s : State) (slot : Fin 128) (route : List Nat), Gives (.rerouteAnswer slot route) s fun t =>
      s.changesOnly t [.outs, .pins, .svb, .sbx, .alt, .ttb, .lan, .tst] ([R.ALT_CNT, R.ALT_STAT, R.SBX_CNT1] ++ busRegs) []) ∧
  (∀ (s : State) (slot : Fin 128) (route : List Nat), Gives (.routeRefusalRetry slot route) s fun t =>
      s.changesOnly t [.outs, .pins, .svb, .sbx, .alt, .ttb, .lan, .tst] ([R.ALT_CNT, R.ALT_STAT, R.SBX_CNT1] ++ busRegs) []) ∧
  (∀ (s : State) (c : Cmd), Gives (.altTaskAdd c) s fun t =>
      s.changesOnly t [.outs, .pins, .time, .svb, .alt, .lan, .tst] ([R.ALT_STAT, R.SCH_CNT] ++ busRegs) []) ∧
  (∀ (s : State) (c : Cmd), Gives (.altTaskCancel c) s fun t =>
      s.changesOnly t [.outs, .pins, .time, .svb, .sbx, .alt, .ttb, .lan, .tst] ([R.ALT_STAT, R.SBX_CNT1, R.SCH_CNT] ++ busRegs) []) ∧
  (∀ (s : State) (c : Cmd), Gives (.altTaskGet c) s fun t =>
      s.changesOnly t [.outs, .pins, .time, .svb, .lan, .tst] ([R.SCH_CNT] ++ busRegs) []) ∧
  (∀ (s : State) (c : Cmd), Gives (.altLandmarksLoad c) s fun t =>
      s.changesOnly t [.outs, .pins, .time, .svb, .alt, .lan, .tst] ([R.SCH_CNT] ++ busRegs) []) ∧
  (∀ (s : State) (c : Cmd), Gives (.altRoundNow c) s fun t =>
      s.changesOnly t [.outs, .pins, .time, .svb, .alt, .lan, .tst] ([R.SCH_CNT] ++ busRegs) []) ∧
  (∀ (s : State), Gives (.profilePlan) s fun t =>
      s.changesOnly t [.outs, .pins, .svb, .ttb, .lan, .tst] ([R.TTB_CNT] ++ busRegs) []) ∧
  (∀ (s : State) (us : Nat), Gives (.authorityCommit us) s fun t =>
      s.changesOnly t [.outs, .pins, .svb, .sbx, .ttb, .rad, .lan, .tst] ([R.SBX_STAT, R.TTB_CNT, R.TTB_LOAD, R.TTB_STAT] ++ busRegs) []) ∧
  (∀ (s : State) (slot : Fin 128), Gives (.profileWordBoundary slot) s fun t =>
      s.changesOnly t [.outs, .pins, .svb, .ttb, .lan, .tst] ([R.TTB_CNT] ++ busRegs) []) ∧
  (∀ (s : State) (c : Cmd), Gives (.ttbCamStage c) s fun t =>
      s.changesOnly t [.outs, .pins, .time, .svb, .ttb, .lan, .tst] ([R.SCH_CNT] ++ busRegs) []) ∧
  (∀ (s : State) (c : Cmd), Gives (.ttbCamActivate c) s fun t =>
      s.changesOnly t [.outs, .pins, .time, .svb, .ttb, .lan, .tst] ([R.SCH_CNT] ++ busRegs) []) ∧
  (∀ (s : State) (c : Cmd), Gives (.ttbSetLimits c) s fun t =>
      s.changesOnly t [.outs, .pins, .time, .svb, .ttb, .lan, .tst, .nor] ([R.SCH_CNT] ++ busRegs) []) ∧
  (∀ (s : State) (c : Cmd), Gives (.ttbGetProfile c) s fun t =>
      s.changesOnly t [.outs, .pins, .time, .svb, .ttb, .lan, .tst] ([R.SCH_CNT, R.TTB_CNT] ++ busRegs) []) ∧
  (∀ (s : State), Gives (.routeRequest) s fun t =>
      s.changesOnly t [.outs, .pins, .svb, .sbx, .alt, .ttb, .lan, .tst] ([R.ALT_STAT, R.SBX_CNT0, R.SBX_CNT1, R.SBX_LOAD, R.SBX_STAT] ++ busRegs) []) ∧
  (∀ (s : State), Gives (.previewDisable) s fun t =>
      s.changesOnly t [.sbx, .ttb] ([R.SBX_CNT1, R.SBX_CTL, R.SBX_STAT]) []) ∧
  (∀ (s : State), Gives (.sbxCntClr) s fun t =>
      s.changesOnly t [] ([R.SBX_CNT0, R.SBX_CNT1, R.SBX_LOAD]) []) ∧
  (∀ (s : State), Gives (.sbxMapStageDone) s fun t =>
      s.changesOnly t [.outs, .pins, .svb, .sbx, .lan, .tst] ([R.SBX_MAP_ERR, R.SBX_MAP_STG, R.SBX_STAT] ++ busRegs) []) ∧
  (∀ (s : State), Gives (.allotRoundStart) s fun t =>
      s.changesOnly t [.outs, .pins, .svb, .sbx, .alt, .ttb, .lan, .tst] ([R.ALT_CNT, R.ALT_STAT, R.SBX_CNT0, R.SBX_CNT1] ++ busRegs) []) ∧
  (∀ (s : State), Gives (.allotRoundEnd) s fun t =>
      s.changesOnly t [.outs, .pins, .svb, .sbx, .alt, .ttb, .lan, .tst] ([R.ALT_ROUND, R.ALT_STAT, R.SBX_CNT1] ++ busRegs) []) ∧
  (∀ (s : State), Gives (.altCntClr) s fun t =>
      s.changesOnly t [] ([R.ALT_CNT, R.ALT_ROUND]) []) ∧
  (∀ (s : State), Gives (.altLandmarksDone) s fun t =>
      s.changesOnly t [.outs, .pins, .svb, .alt, .lan, .tst] ([R.ALT_STAT] ++ busRegs) []) ∧
  (∀ (s : State), Gives (.ttbCntClr) s fun t =>
      s.changesOnly t [] ([R.TTB_CNT, R.TTB_LOAD]) []) ∧
  (∀ (s : State), Gives (.ttbCamStageDone) s fun t =>
      s.changesOnly t [.outs, .pins, .svb, .ttb, .lan, .tst] ([R.TTB_CAM, R.TTB_CAM_ERR, R.TTB_CAM_INFO, R.TTB_STAT] ++ busRegs) []) ∧
  (∀ (s : State), Gives (.raEnClear) s fun t =>
      s.changesOnly t [.outs, .pins, .svb, .sbx, .alt, .ttb, .lan, .tst] ([R.ALT_CTL, R.ALT_STAT, R.SBX_CNT1] ++ busRegs) [])

/-- What each command of the radio MAC and the stop path leaves as it was -/
def Obligations.FramesOfRadioAndStop : Prop :=
  (∀ (s : State) (slot : Fin 128), Gives (.downlinkRun slot) s fun t =>
      s.changesOnly t [.free, .outs, .rad, .tst] ((List.range 4).map R.RAD_P_CNT1) []) ∧
  (∀ (s : State) (port : Fin 4), Gives (.bulkDownRun port) s fun t =>
      s.changesOnly t [.free, .outs, .snp, .rad, .tst] ((List.range 4).map R.RAD_P_CNT1) []) ∧
  (∀ (s : State) (port : Fin 4) (bytes : List Byte) (rxts : Nat) (rssi : Int), Gives (.upFrameReceive port bytes rxts rssi) s fun t =>
      s.changesOnly t [.outs, .pins, .time, .svb, .rtk, .sbx, .alt, .ttb, .rad, .lan, .tst] ([R.ALT_STAT, R.RAD_STAT, R.RTK_INTAKE, R.RTK_STAT, R.SBX_CNT0, R.SBX_CNT1, R.SBX_STAT, R.TTB_STAT] ++ (List.range 4).map R.RAD_P_CNT0 ++ (List.range 4).map R.RAD_P_CNT1 ++ (List.range 4).map R.RAD_P_STAT ++ busRegs) []) ∧
  (∀ (s : State) (port : Fin 4) (bytes : List Byte), Gives (.joinReceive port bytes) s fun t =>
      s.changesOnly t [.outs, .pins, .svb, .rad, .tst] ((List.range 4).map R.RAD_P_CNT0 ++ (List.range 4).map R.RAD_P_CNT1 ++ busRegs) []) ∧
  (∀ (s : State) (port : Fin 4), Gives (.joinAnswer port) s fun t =>
      s.changesOnly t [.free, .outs, .pins, .svb, .rad, .tst] ([R.RAD_JOIN_CNT, R.RAD_STAT] ++ (List.range 4).map R.RAD_P_CNT1 ++ (List.range 4).map R.RAD_P_STAT ++ busRegs) []) ∧
  (∀ (s : State) (slot : Fin 128), Gives (.uplinkMiss slot) s fun t =>
      s.changesOnly t [.outs, .pins, .time, .svb, .snp, .sbx, .alt, .ttb, .rad, .lan, .tst] ([R.ALT_STAT, R.RAD_STAT, R.SBX_CNT0, R.SBX_CNT1, R.SBX_STAT, R.SNP_DROP, R.SNP_STAT] ++ (List.range 4).map R.RAD_P_STAT ++ busRegs) []) ∧
  (∀ (s : State) (slot : Fin 128), Gives (.evictionComplete slot) s fun t =>
      s.changesOnly t [.outs, .pins, .time, .svb, .snp, .sbx, .alt, .ttb, .rad, .lan, .tst] ([R.ALT_STAT, R.RAD_STAT, R.SBX_CNT0, R.SBX_CNT1, R.SBX_STAT, R.SNP_DROP, R.SNP_STAT] ++ (List.range 4).map R.RAD_P_STAT ++ busRegs) []) ∧
  (∀ (s : State) (port : Fin 4) (back : Option (List Byte × Nat)), Gives (.stopFrameArm port back) s fun t =>
      s.changesOnly t [.outs, .pins, .svb, .rad, .tst] ([R.RAD_STAT] ++ (List.range 4).map R.RAD_P_ARM ++ (List.range 4).map R.RAD_P_STAT ++ busRegs) []) ∧
  (∀ (s : State) (port : Fin 4) (back : Option (List Byte × Nat)), Gives (.armReadback port back) s fun t =>
      s.changesOnly t [.outs, .pins, .svb, .tst] ([R.RAD_STAT] ++ (List.range 4).map R.RAD_P_STAT ++ busRegs) []) ∧
  (∀ (s : State) (c : Cmd), Gives (.radPortConfig c) s fun t =>
      s.changesOnly t [.outs, .pins, .svb, .rad, .tst, .nor] ([R.RAD_SF, R.RAD_STAT] ++ (List.range 4).map R.RAD_P_ARM ++ (List.range 4).map R.RAD_P_CFG ++ (List.range 4).map R.RAD_P_STAT ++ busRegs) []) ∧
  (∀ (s : State) (c : Cmd), Gives (.radSuperframeSet c) s fun t =>
      s.changesOnly t [.outs, .pins, .svb, .rad, .tst] ([R.RAD_SF_PEND] ++ busRegs) []) ∧
  (∀ (s : State) (c : Cmd), Gives (.radRoverAssign c) s fun t =>
      s.changesOnly t [.outs, .pins, .time, .svb, .rtk, .snp, .sbx, .alt, .ttb, .rad, .lan, .tst] ([R.ALT_STAT, R.RAD_STAT, R.RTK_STAT, R.SBX_CNT0, R.SBX_CNT1, R.SBX_STAT, R.SCH_CNT] ++ (List.range 4).map R.RAD_P_STAT ++ busRegs) []) ∧
  (∀ (s : State) (c : Cmd), Gives (.radRoverEvict c) s fun t =>
      s.changesOnly t [.outs, .pins, .time, .svb, .snp, .sbx, .alt, .ttb, .rad, .lan, .tst] ([R.ALT_STAT, R.RAD_STAT, R.SBX_CNT0, R.SBX_CNT1, R.SBX_STAT, R.SCH_CNT, R.SNP_DROP, R.SNP_STAT] ++ (List.range 4).map R.RAD_P_STAT ++ busRegs) []) ∧
  (∀ (s : State) (c : Cmd), Gives (.radGetLink c) s fun t =>
      s.changesOnly t [.outs, .pins, .svb, .tst] (busRegs) []) ∧
  (∀ (s : State) (k : Fin 2), Gives (.stopInputActive k) s fun t =>
      s.changesOnly t [.outs, .pins, .time, .svb, .eng, .sky, .rtk, .sbx, .alt, .ttb, .stp, .rad, .eth, .mtr, .que, .sch, .arb, .lan, .sec, .cbk, .pwr, .vbat, .tst] ([R.ALT_STAT, R.ARB_DRAM, R.ARB_DRAM_CNT, R.ARB_MAT, R.ARB_MAT_CNT, R.ETH_PTP_STAT, R.MTR_CNT, R.MTR_STAT, R.PWR_STAT, R.PWR_WAKE_SRC, R.QUE_MODE0, R.QUE_MODE1, R.QUE_Q_CNT, R.QUE_Q_ERR, R.QUE_Q_STAT, R.QUE_STAT, R.RAD_STAT, R.RTK_STAT, R.SBX_CNT0, R.SBX_CNT1, R.SBX_MAP_ID, R.SBX_MAP_STG, R.SBX_STAT, R.SEC_CNT, R.SKY_STAT, R.STP_CNT, R.STP_LATCH, R.STP_SRC, R.STP_STAT, R.TST_BP, R.TST_CTL, R.TST_ERR, R.TST_JIT, R.TST_STRETCH, R.TTB_CAM, R.TTB_CAM_INFO, R.TTB_STAT] ++ (List.range 2).map R.ETH_P_CNT1 ++ (List.range 2).map R.ETH_P_STAT ++ (List.range 4).map R.RAD_P_STAT ++ (List.range 64).map R.SEC_SLOT ++ (List.range 4).map R.STP_ROVER ++ (List.range 4).map R.TST_QDLY ++ busRegs) [.ALT, .RTK, .SBX, .SCH, .TTB]) ∧
  (∀ (s : State) (k : Fin 2), Gives (.stopInputInactive k) s fun t =>
      s.changesOnly t [.outs, .pins, .svb, .stp, .cbk, .tst] ([R.STP_SRC, R.STP_STAT] ++ busRegs) []) ∧
  (∀ (s : State) (cause : Fin 3), Gives (.hubCheckFail cause) s fun t =>
      s.changesOnly t [.outs, .pins, .time, .svb, .eng, .sky, .rtk, .sbx, .alt, .ttb, .stp, .rad, .eth, .mtr, .que, .sch, .arb, .lan, .sec, .cbk, .pwr, .vbat, .tst] ([R.ALT_STAT, R.ARB_DRAM, R.ARB_DRAM_CNT, R.ARB_MAT, R.ARB_MAT_CNT, R.ETH_PTP_STAT, R.MTR_CNT, R.MTR_STAT, R.PWR_STAT, R.PWR_WAKE_SRC, R.QUE_MODE0, R.QUE_MODE1, R.QUE_Q_CNT, R.QUE_Q_ERR, R.QUE_Q_STAT, R.QUE_STAT, R.RAD_STAT, R.RTK_STAT, R.SBX_CNT0, R.SBX_CNT1, R.SBX_MAP_ID, R.SBX_MAP_STG, R.SBX_STAT, R.SEC_CNT, R.SKY_STAT, R.STP_CNT, R.STP_LATCH, R.STP_SRC, R.STP_STAT, R.TST_BP, R.TST_CTL, R.TST_ERR, R.TST_JIT, R.TST_STRETCH, R.TTB_CAM, R.TTB_CAM_INFO, R.TTB_STAT] ++ (List.range 2).map R.ETH_P_CNT1 ++ (List.range 2).map R.ETH_P_STAT ++ (List.range 4).map R.RAD_P_STAT ++ (List.range 64).map R.SEC_SLOT ++ (List.range 4).map R.STP_ROVER ++ (List.range 4).map R.TST_QDLY ++ busRegs) [.ALT, .RTK, .SBX, .SCH, .TTB]) ∧
  (∀ (s : State) (n : Fin 2) (frame : List Byte), Gives (.chainStopReceive n frame) s fun t =>
      s.changesOnly t [.outs, .pins, .time, .svb, .sbx, .alt, .ttb, .stp, .rad, .lan, .cbk, .pwr, .vbat, .tst] ([R.ALT_STAT, R.SBX_CNT0, R.SBX_CNT1, R.SBX_STAT, R.STP_CNT, R.STP_LATCH, R.STP_SRC, R.STP_STAT] ++ (List.range 2).map R.ETH_P_CNT1 ++ (List.range 4).map R.RAD_P_STAT ++ (List.range 4).map R.STP_ROVER ++ busRegs) []) ∧
  (∀ (s : State) (c : Cmd), Gives (.stopAll c) s fun t =>
      s.changesOnly t [.outs, .pins, .time, .svb, .sbx, .alt, .ttb, .stp, .rad, .lan, .cbk, .pwr, .vbat, .tst] ([R.ALT_STAT, R.SBX_CNT0, R.SBX_CNT1, R.SBX_STAT, R.STP_CNT, R.STP_LATCH, R.STP_SRC, R.STP_STAT] ++ (List.range 2).map R.ETH_P_CNT1 ++ (List.range 4).map R.RAD_P_STAT ++ (List.range 4).map R.STP_ROVER ++ busRegs) []) ∧
  (∀ (s : State) (c : Cmd), Gives (.stopRover c) s fun t =>
      s.changesOnly t [.outs, .pins, .time, .svb, .sbx, .ttb, .stp, .cbk, .tst] ([R.SBX_CNT0, R.SBX_CNT1, R.SBX_STAT, R.STP_STAT] ++ (List.range 4).map R.STP_ROVER ++ busRegs) []) ∧
  (∀ (s : State) (c : Cmd), Gives (.stopZone c) s fun t =>
      s.changesOnly t [.outs, .pins, .time, .svb, .sbx, .ttb, .stp, .lan, .cbk, .tst] ([R.SBX_CNT0, R.SBX_CNT1, R.SBX_STAT, R.STP_STAT] ++ (List.range 4).map R.STP_ROVER ++ busRegs) []) ∧
  (∀ (s : State) (c : Cmd), Gives (.stopRelease c) s fun t =>
      s.changesOnly t [.outs, .pins, .svb, .stp, .cbk, .tst] ([R.STP_STAT] ++ (List.range 4).map R.STP_ROVER ++ busRegs) []) ∧
  (∀ (s : State) (c : Cmd), Gives (.stopGetState c) s fun t =>
      s.changesOnly t [.outs, .pins, .svb, .tst] (busRegs) []) ∧
  (∀ (s : State) (port : Fin 4), Gives (.firstBeacon port) s fun t =>
      s.changesOnly t [.free, .outs, .pins, .svb, .alt, .ttb, .rad, .lan, .tst] ([R.RAD_STAT, R.TTB_CAM, R.TTB_CAM_INFO, R.TTB_CTL, R.TTB_STAT] ++ (List.range 4).map R.RAD_P_CNT1 ++ (List.range 4).map R.RAD_P_STAT ++ busRegs) []) ∧
  (∀ (s : State) (port : Fin 4), Gives (.radioRxError port) s fun t =>
      s.changesOnly t [] ((List.range 4).map R.RAD_P_CNT0) []) ∧
  (∀ (s : State), Gives (.superframeStart) s fun t =>
      s.changesOnly t [.free, .outs, .pins, .svb, .alt, .ttb, .rad, .lan, .tst] ([R.RAD_STAT, R.TTB_CAM, R.TTB_CAM_INFO, R.TTB_CTL, R.TTB_STAT] ++ (List.range 4).map R.RAD_P_CNT1 ++ (List.range 4).map R.RAD_P_STAT ++ busRegs) []) ∧
  (∀ (s : State), Gives (.slotTableSwitch) s fun t =>
      s.changesOnly t [.outs, .pins, .svb, .rad, .tst] ([R.RAD_SF, R.RAD_SF_PEND] ++ busRegs) []) ∧
  (∀ (s : State), Gives (.stpTxRepeat) s fun t =>
      s.changesOnly t [.outs, .rad] ((List.range 4).map R.RAD_P_STAT) []) ∧
  (∀ (s : State), Gives (.radCntClr) s fun t =>
      s.changesOnly t [] ([R.RAD_JOIN_CNT] ++ (List.range 4).map R.RAD_P_CNT0 ++ (List.range 4).map R.RAD_P_CNT1) []) ∧
  (∀ (s : State), Gives (.stopDiscrepancy) s fun t =>
      s.changesOnly t [.outs, .pins, .time, .svb, .eng, .sky, .rtk, .sbx, .alt, .ttb, .stp, .rad, .eth, .mtr, .que, .sch, .arb, .lan, .sec, .cbk, .pwr, .vbat, .tst] ([R.ALT_STAT, R.ARB_DRAM, R.ARB_DRAM_CNT, R.ARB_MAT, R.ARB_MAT_CNT, R.ETH_PTP_STAT, R.MTR_CNT, R.MTR_STAT, R.PWR_STAT, R.PWR_WAKE_SRC, R.QUE_MODE0, R.QUE_MODE1, R.QUE_Q_CNT, R.QUE_Q_ERR, R.QUE_Q_STAT, R.QUE_STAT, R.RAD_STAT, R.RTK_STAT, R.SBX_CNT0, R.SBX_CNT1, R.SBX_MAP_ID, R.SBX_MAP_STG, R.SBX_STAT, R.SEC_CNT, R.SKY_STAT, R.STP_CNT, R.STP_LATCH, R.STP_SRC, R.STP_STAT, R.TST_BP, R.TST_CTL, R.TST_ERR, R.TST_JIT, R.TST_STRETCH, R.TTB_CAM, R.TTB_CAM_INFO, R.TTB_STAT] ++ (List.range 2).map R.ETH_P_CNT1 ++ (List.range 2).map R.ETH_P_STAT ++ (List.range 4).map R.RAD_P_STAT ++ (List.range 64).map R.SEC_SLOT ++ (List.range 4).map R.STP_ROVER ++ (List.range 4).map R.TST_QDLY ++ busRegs) [.ALT, .RTK, .SBX, .SCH, .TTB]) ∧
  (∀ (s : State), Gives (.discClr) s fun t =>
      s.changesOnly t [.outs, .pins, .svb, .cbk, .tst] ([R.STP_SRC] ++ busRegs) []) ∧
  (∀ (s : State), Gives (.chainStopRepeat) s fun t =>
      s.changesOnly t [.outs, .stp] ((List.range 2).map R.ETH_P_CNT1) []) ∧
  (∀ (s : State), Gives (.chainSourceTimeout) s fun t =>
      s.changesOnly t [.outs, .pins, .svb, .cbk, .tst] ([R.STP_SRC] ++ busRegs) []) ∧
  (∀ (s : State), Gives (.stopReleaseDue) s fun t =>
      s.changesOnly t [.outs, .pins, .time, .svb, .sbx, .alt, .stp, .cbk, .tst] ([R.SBX_STAT, R.STP_SRC, R.STP_STAT] ++ (List.range 4).map R.STP_ROVER ++ busRegs) []) ∧
  (∀ (s : State), Gives (.targetReleaseDue) s fun t =>
      s.changesOnly t [.outs, .pins, .time, .svb, .sbx, .alt, .ttb, .stp, .lan, .cbk, .tst] ([R.SBX_CNT0, R.SBX_CNT1, R.SBX_STAT, R.STP_STAT] ++ (List.range 4).map R.STP_ROVER ++ busRegs) [])

/-- What each command of the Ethernet ports, the PTP clock, the chain and the metering engine leaves as it was -/
def Obligations.FramesOfEthernetAndMetering : Prop :=
  (∀ (s : State) (n : Fin 2) (fast : Bool), Gives (.ethLinkUp n fast) s fun t =>
      s.changesOnly t [.outs, .pins, .svb, .eth, .tst] ([R.ETH_STAT] ++ (List.range 2).map R.ETH_P_CNT1 ++ (List.range 2).map R.ETH_P_STAT ++ busRegs) []) ∧
  (∀ (s : State) (n : Fin 2), Gives (.ethLinkDown n) s fun t =>
      s.changesOnly t [.outs, .pins, .svb, .upd, .tst] ([R.ETH_STAT, R.UPD_STAT] ++ (List.range 2).map R.ETH_P_STAT ++ busRegs) []) ∧
  (∀ (s : State) (mac : Nat), Gives (.addressAgeOut mac) s fun t =>
      s.changesOnly t [.eth] ([R.ETH_STAT]) []) ∧
  (∀ (s : State) (n : Fin 2) (answered : Bool), Gives (.preemptVerify n answered) s fun t =>
      s.changesOnly t [.eth] ((List.range 2).map R.ETH_P_STAT) []) ∧
  (∀ (s : State) (n : Fin 2) (x : EthIn), Gives (.pauseFrameReceive n x) s fun t =>
      s.changesOnly t [.outs, .eth] ([R.ETH_STAT] ++ (List.range 2).map R.ETH_P_CNT0 ++ (List.range 2).map R.ETH_P_CNT1 ++ (List.range 2).map R.ETH_P_PAUSE) []) ∧
  (∀ (s : State) (n : Fin 2), Gives (.pauseWatchdog n) s fun t =>
      s.changesOnly t [.outs, .pins, .svb, .eth, .tst] ((List.range 2).map R.ETH_P_CNT0 ++ (List.range 2).map R.ETH_P_PAUSE ++ (List.range 2).map R.ETH_P_STAT ++ busRegs) []) ∧
  (∀ (s : State) (n : Fin 2), Gives (.pauseIgnoreEnd n) s fun t =>
      s.changesOnly t [.eth] ((List.range 2).map R.ETH_P_PAUSE ++ (List.range 2).map R.ETH_P_STAT) []) ∧
  (∀ (s : State) (n : Fin 2), Gives (.pdelayReqSend n) s fun t =>
      s.changesOnly t [.outs, .eth] ((List.range 2).map R.ETH_P_CNT1) []) ∧
  (∀ (s : State) (n : Fin 2) (x : EthIn), Gives (.pdelayRespReceive n x) s fun t =>
      s.changesOnly t [.outs, .eth] ([R.ETH_STAT] ++ (List.range 2).map R.ETH_P_CNT0 ++ (List.range 2).map R.ETH_P_CNT1 ++ (List.range 2).map R.ETH_P_LDELAY) []) ∧
  (∀ (s : State) (n : Fin 2) (x : EthIn), Gives (.pdelayReqReceive n x) s fun t =>
      s.changesOnly t [.outs, .eth] ([R.ETH_STAT] ++ (List.range 2).map R.ETH_P_CNT0 ++ (List.range 2).map R.ETH_P_CNT1) []) ∧
  (∀ (s : State) (n : Fin 2) (x : EthIn), Gives (.ptpAnnounceReceive n x) s fun t =>
      s.changesOnly t [.outs, .pins, .time, .svb, .eth, .tst] ([R.ETH_PTP_DELAY, R.ETH_PTP_STAT, R.ETH_STAT, R.TIM_OFFSET, R.TIM_STAT] ++ (List.range 2).map R.ETH_P_CNT0 ++ (List.range 2).map R.ETH_P_CNT1 ++ busRegs) []) ∧
  (∀ (s : State) (n : Fin 2) (x : EthIn), Gives (.ptpSyncReceive n x) s fun t =>
      s.changesOnly t [.outs, .pins, .time, .svb, .eth, .tst] ([R.ETH_PTP_DELAY, R.ETH_PTP_STAT, R.ETH_STAT, R.TIM_OFFSET, R.TIM_STAT] ++ (List.range 2).map R.ETH_P_CNT0 ++ (List.range 2).map R.ETH_P_CNT1 ++ busRegs) []) ∧
  (∀ (s : State) (n : Fin 2) (x : EthIn), Gives (.ptpDelayRespReceive n x) s fun t =>
      s.changesOnly t [.outs, .pins, .time, .svb, .eth, .tst] ([R.ETH_PTP_DELAY, R.ETH_PTP_STAT, R.ETH_STAT, R.TIM_OFFSET, R.TIM_STAT] ++ (List.range 2).map R.ETH_P_CNT0 ++ (List.range 2).map R.ETH_P_CNT1 ++ busRegs) []) ∧
  (∀ (s : State) (n : Fin 2) (x : EthIn), Gives (.arpRequest n x) s fun t =>
      s.changesOnly t [.outs, .eth] ([R.ETH_STAT] ++ (List.range 2).map R.ETH_P_CNT0 ++ (List.range 2).map R.ETH_P_CNT1) []) ∧
  (∀ (s : State) (n : Fin 2) (x : EthIn), Gives (.icmpEcho n x) s fun t =>
      s.changesOnly t [.outs, .eth] ([R.ETH_STAT] ++ (List.range 2).map R.ETH_P_CNT0 ++ (List.range 2).map R.ETH_P_CNT1) []) ∧
  (∀ (s : State) (n : Fin 2), Gives (.helloSend n) s fun t =>
      s.changesOnly t [.outs, .eth] ((List.range 2).map R.ETH_P_CNT1) []) ∧
  (∀ (s : State) (n : Fin 2) (x : EthIn), Gives (.helloReceive n x) s fun t =>
      s.changesOnly t [.outs, .pins, .svb, .eth, .tst] ([R.ETH_STAT] ++ (List.range 2).map R.ETH_P_CNT0 ++ (List.range 2).map R.ETH_P_CNT1 ++ (List.range 2).map R.ETH_P_STAT ++ busRegs) []) ∧
  (∀ (s : State) (n : Fin 2), Gives (.neighbourTimeout n) s fun t =>
      s.changesOnly t [.outs, .pins, .svb, .upd, .cbk, .tst] ([R.UPD_STAT, R.UPD_TD_HI, R.UPD_TD_LO] ++ (List.range 2).map R.ETH_P_CNT1 ++ (List.range 2).map R.ETH_P_STAT ++ busRegs) []) ∧
  (∀ (s : State) (n : Fin 2) (x : EthIn), Gives (.discoverReceive n x) s fun t =>
      s.changesOnly t [.outs, .eth] ([R.ETH_STAT] ++ (List.range 2).map R.ETH_P_CNT0 ++ (List.range 2).map R.ETH_P_CNT1) []) ∧
  (∀ (s : State) (n : Fin 2) (x : EthIn), Gives (.discoverReplyReceive n x) s fun t =>
      s.changesOnly t [.outs, .eth] ([R.ETH_STAT] ++ (List.range 2).map R.ETH_P_CNT0 ++ (List.range 2).map R.ETH_P_CNT1) []) ∧
  (∀ (s : State) (value : Word), Gives (.mdioGo value) s fun t =>
      s.changesOnly t [.outs] ([R.ETH_MDIO]) []) ∧
  (∀ (s : State) (data : BitVec 16), Gives (.mdioDone data) s fun t =>
      s.changesOnly t [] ([R.ETH_MDIO]) []) ∧
  (∀ (s : State) (c : Cmd), Gives (.ethPortConfig c) s fun t =>
      s.changesOnly t [.outs, .pins, .svb, .eth, .upd, .tst, .nor] ([R.ETH_IP_ADDR, R.ETH_IP_GW, R.ETH_IP_NET, R.ETH_STAT, R.UPD_STAT] ++ (List.range 2).map R.ETH_P_CFG ++ (List.range 2).map R.ETH_P_CNT1 ++ (List.range 2).map R.ETH_P_EG ++ (List.range 2).map R.ETH_P_ING ++ (List.range 2).map R.ETH_P_STAT ++ busRegs) []) ∧
  (∀ (s : State) (c : Cmd), Gives (.ptpConfig c) s fun t =>
      s.changesOnly t [.outs, .pins, .time, .svb, .eth, .tst, .nor] ([R.ETH_PTP_CTL, R.ETH_PTP_INT, R.ETH_PTP_STAT] ++ busRegs) []) ∧
  (∀ (s : State) (c : Cmd), Gives (.chainDiscover c) s fun t =>
      s.changesOnly t [.outs, .pins, .svb, .eth, .tst] ((List.range 2).map R.ETH_P_CNT1 ++ busRegs) []) ∧
  (∀ (s : State) (freq0 : Nat) (freq1 : Nat), Gives (.meterSecond freq0 freq1) s fun t =>
      s.changesOnly t [.outs, .pins, .time, .svb, .alt, .mtr, .vbat, .tst] ([R.MTR_CNT] ++ busRegs) []) ∧
  (∀ (s : State) (p : Fin 2) (x : WindowIn), Gives (.harmonicWindowEnd p x) s fun t =>
      s.changesOnly t [.mtr] ([]) []) ∧
  (∀ (s : State) (good : Bool), Gives (.energyNorCopy good) s fun t =>
      s.changesOnly t [.mtr, .nor] ([]) []) ∧
  (∀ (s : State) (good : Bool), Gives (.energyCopyRetry good) s fun t =>
      s.changesOnly t [.mtr, .nor] ([]) []) ∧
  (∀ (s : State) (k : Fin 4), Gives (.epulseEmit k) s fun t =>
      s.changesOnly t [.outs, .mtr] ([]) []) ∧
  (∀ (s : State) (p : Fin 2) (channel : Fin 7) (cause : Fin 3), Gives (.channelFault p channel cause) s fun t =>
      s.changesOnly t [.outs, .pins, .svb, .mtr, .tst] ([R.MTR_CNT, R.MTR_STAT] ++ busRegs) []) ∧
  (∀ (s : State) (p : Fin 2) (flag : Fin 7), Gives (.meterFaultChange p flag) s fun t =>
      s.changesOnly t [.outs, .pins, .svb, .tst] ([R.MTR_STAT] ++ busRegs) []) ∧
  (∀ (s : State) (c : Cmd), Gives (.mtrConfig c) s fun t =>
      s.changesOnly t [.outs, .pins, .svb, .mtr, .tst, .nor] ([R.MTR_CTL, R.MTR_FLT, R.MTR_NOM0, R.MTR_NOM1, R.MTR_REV, R.MTR_STAT] ++ (List.range 4).map R.MTR_PK ++ (List.range 4).map R.MTR_PLS ++ busRegs) []) ∧
  (∀ (s : State) (c : Cmd), Gives (.mtrGetReadings c) s fun t =>
      s.changesOnly t [.outs, .pins, .svb, .tst] (busRegs) []) ∧
  (∀ (s : State) (c : Cmd), Gives (.mtrGetHarmonics c) s fun t =>
      s.changesOnly t [.free, .outs, .pins, .svb, .tst] (busRegs) []) ∧
  (∀ (s : State) (c : Cmd), Gives (.mtrSetCap c) s fun t =>
      s.changesOnly t [.outs, .pins, .time, .svb, .alt, .lan, .tst, .nor] ([R.SCH_CNT] ++ busRegs) []) ∧
  (∀ (s : State) (c : Cmd), Gives (.mtrCalSeal c) s fun t =>
      s.changesOnly t [.outs, .pins, .svb, .fuses, .cbk, .tst, .nor] ([R.MTR_SEAL, R.MTR_STAT] ++ busRegs) []) ∧
  (∀ (s : State) (n : Fin 2) (x : EthIn), Gives (.imageDataReceive n x) s fun t =>
      s.changesOnly t [.outs, .pins, .svb, .eth, .upd, .tst] ([R.ETH_STAT, R.UPD_PROG, R.UPD_STAT] ++ (List.range 2).map R.ETH_P_CNT0 ++ (List.range 2).map R.ETH_P_CNT1 ++ busRegs) []) ∧
  (∀ (s : State) (n : Fin 2) (x : EthIn), Gives (.imageStatusReceive n x) s fun t =>
      s.changesOnly t [.outs, .pins, .svb, .eth, .upd, .tst] ([R.ETH_STAT, R.UPD_PROG, R.UPD_STAT] ++ (List.range 2).map R.ETH_P_CNT0 ++ (List.range 2).map R.ETH_P_CNT1 ++ busRegs) []) ∧
  (∀ (s : State) (n : Fin 2) (x : EthIn), Gives (.decantFrameReceive n x) s fun t =>
      s.changesOnly t [.outs, .pins, .svb, .eth, .upd, .cbk, .tst] ([R.ETH_STAT, R.UPD_STAT, R.UPD_TD_HI, R.UPD_TD_LO] ++ (List.range 2).map R.ETH_P_CNT0 ++ (List.range 2).map R.ETH_P_CNT1 ++ busRegs) []) ∧
  (∀ (s : State) (x0 : MtrIn) (x1 : MtrIn), Gives (.meteringSample x0 x1) s fun t =>
      s.changesOnly t [.outs, .pins, .svb, .mtr, .tst] ([R.MTR_CNT] ++ busRegs) []) ∧
  (∀ (s : State), Gives (.ptpAnnounceTimeout) s fun t =>
      s.changesOnly t [.outs, .pins, .time, .svb, .eth, .tst] ([R.ETH_PTP_STAT] ++ busRegs) []) ∧
  (∀ (s : State), Gives (.ptpSyncSend) s fun t =>
      s.changesOnly t [.outs, .eth] ((List.range 2).map R.ETH_P_CNT1) []) ∧
  (∀ (s : State), Gives (.ptpAnnounceSend) s fun t =>
      s.changesOnly t [.outs, .eth] ((List.range 2).map R.ETH_P_CNT1) []) ∧
  (∀ (s : State), Gives (.ptpDelayReqSend) s fun t =>
      s.changesOnly t [.outs, .eth] ((List.range 2).map R.ETH_P_CNT1) []) ∧
  (∀ (s : State), Gives (.ethCntClr) s fun t =>
      s.changesOnly t [] ((List.range 2).map R.ETH_P_CNT0 ++ (List.range 2).map R.ETH_P_CNT1) []) ∧
  (∀ (s : State), Gives (.demandIntervalEnd) s fun t =>
      s.changesOnly t [.outs, .pins, .svb, .mtr, .tst] ([R.MTR_STAT] ++ busRegs) []) ∧
  (∀ (s : State), Gives (.meterFrontEndRestart) s fun t =>
      s.changesOnly t [.outs, .pins, .svb, .mtr, .cbk, .tst] ([R.MTR_CNT, R.MTR_STAT] ++ busRegs) []) ∧
  (∀ (s : State), Gives (.demClr) s fun t =>
      s.changesOnly t [.mtr] ([]) []) ∧
  (∀ (s : State), Gives (.mtrCntClr) s fun t =>
      s.changesOnly t [] ([R.MTR_CNT]) [])

/-- What each command of the lanes, the queues, the scheduler, the arbiters, the event registers and what falls due leaves as it was -/
def Obligations.FramesOfLanesQueuesSchedulerAndArbiters : Prop :=
  (∀ (s : State) (c : Cmd), Gives (.setPowerCap c) s fun t =>
      s.changesOnly t [.outs, .pins, .svb, .tst, .nor] ([R.ARB_PWR_CAP] ++ busRegs) []) ∧
  (∀ (s : State) (c : Cmd), Gives (.resetEngine c) s fun t =>
      s.changesOnly t [.outs, .pins, .time, .svb, .eng, .rtk, .snp, .sbx, .alt, .ttb, .eth, .mtr, .que, .lan, .cbk, .vbat, .tst, .nor] ([R.ALT_STAT, R.MTR_CNT, R.MTR_STAT, R.QUE_MODE0, R.QUE_MODE1, R.QUE_Q_CNT, R.QUE_Q_ERR, R.QUE_Q_STAT, R.QUE_STAT, R.SBX_CNT1, R.SBX_STAT, R.SCH_CNT, R.SNP_STAT, R.TST_ERR, R.TTB_STAT] ++ busRegs) []) ∧
  (∀ (s : State) (lane : Fin 2) (pass : Bool), Gives (.laneSelfTestDone lane pass) s fun t =>
      s.changesOnly t [.outs, .pins, .time, .svb, .eng, .sbx, .alt, .ttb, .stp, .rad, .lan, .cbk, .pwr, .vbat, .tst] ([R.ALT_STAT, R.LAN_CNT, R.LAN_CTL, R.LAN_DIAG_A, R.LAN_DIAG_B, R.LAN_STAT, R.PWR_AVFS_A, R.PWR_AVFS_B, R.SBX_CNT0, R.SBX_CNT1, R.SBX_STAT, R.STP_CNT, R.STP_LATCH, R.STP_SRC, R.STP_STAT] ++ (List.range 2).map R.ETH_P_CNT1 ++ (List.range 4).map R.RAD_P_STAT ++ (List.range 4).map R.STP_ROVER ++ busRegs) []) ∧
  (∀ (s : State) (lane : Fin 2) (cause : Fin 9) (engine : Byte) (offset : Word), Gives (.laneDiagFail lane cause engine offset) s fun t =>
      s.changesOnly t [.outs, .pins, .time, .svb, .sbx, .alt, .ttb, .stp, .rad, .lan, .cbk, .pwr, .vbat, .tst] ([R.ALT_STAT, R.LAN_CNT, R.LAN_CTL, R.LAN_DIAG_A, R.LAN_DIAG_B, R.LAN_STAT, R.PWR_AVFS_A, R.PWR_AVFS_B, R.SBX_CNT0, R.SBX_CNT1, R.SBX_STAT, R.STP_CNT, R.STP_LATCH, R.STP_SRC, R.STP_STAT] ++ (List.range 2).map R.ETH_P_CNT1 ++ (List.range 4).map R.RAD_P_STAT ++ (List.range 4).map R.STP_ROVER ++ busRegs) []) ∧
  (∀ (s : State) (lane : Fin 2), Gives (.heartbeatLoss lane) s fun t =>
      s.changesOnly t [.outs, .pins, .time, .svb, .sbx, .alt, .ttb, .stp, .rad, .lan, .cbk, .pwr, .vbat, .tst] ([R.ALT_STAT, R.LAN_CNT, R.LAN_CTL, R.LAN_DIAG_A, R.LAN_DIAG_B, R.LAN_STAT, R.PWR_AVFS_A, R.PWR_AVFS_B, R.SBX_CNT0, R.SBX_CNT1, R.SBX_STAT, R.STP_CNT, R.STP_LATCH, R.STP_SRC, R.STP_STAT] ++ (List.range 2).map R.ETH_P_CNT1 ++ (List.range 4).map R.RAD_P_STAT ++ (List.range 4).map R.STP_ROVER ++ busRegs) []) ∧
  (∀ (s : State) (lane : Fin 2) (engine : Byte), Gives (.engineWatchdog lane engine) s fun t =>
      s.changesOnly t [.outs, .pins, .time, .svb, .sbx, .alt, .ttb, .stp, .rad, .lan, .cbk, .pwr, .vbat, .tst] ([R.ALT_STAT, R.LAN_CNT, R.LAN_CTL, R.LAN_DIAG_A, R.LAN_DIAG_B, R.LAN_STAT, R.PWR_AVFS_A, R.PWR_AVFS_B, R.SBX_CNT0, R.SBX_CNT1, R.SBX_STAT, R.STP_CNT, R.STP_LATCH, R.STP_SRC, R.STP_STAT] ++ (List.range 2).map R.ETH_P_CNT1 ++ (List.range 4).map R.RAD_P_STAT ++ (List.range 4).map R.STP_ROVER ++ busRegs) []) ∧
  (∀ (s : State) (lane : Fin 2) (corrected : BitVec 16) (bad : Option Byte), Gives (.laneScrub lane corrected bad) s fun t =>
      s.changesOnly t [.outs, .pins, .time, .svb, .sbx, .alt, .ttb, .stp, .rad, .lan, .cbk, .pwr, .vbat, .tst] ([R.ALT_STAT, R.LAN_CNT, R.LAN_CTL, R.LAN_DIAG_A, R.LAN_DIAG_B, R.LAN_ECC, R.LAN_STAT, R.PWR_AVFS_A, R.PWR_AVFS_B, R.SBX_CNT0, R.SBX_CNT1, R.SBX_STAT, R.STP_CNT, R.STP_LATCH, R.STP_SRC, R.STP_STAT] ++ (List.range 2).map R.ETH_P_CNT1 ++ (List.range 4).map R.RAD_P_STAT ++ (List.range 4).map R.STP_ROVER ++ busRegs) []) ∧
  (∀ (s : State) (a : Option (BitVec 64)) (b : Option (BitVec 64)), Gives (.digestCompare a b) s fun t =>
      s.changesOnly t [.outs, .pins, .time, .svb, .sbx, .alt, .ttb, .stp, .rad, .lan, .cbk, .pwr, .vbat, .tst] ([R.ALT_STAT, R.LAN_CNT, R.LAN_CTL, R.LAN_DIAG_A, R.LAN_DIAG_B, R.LAN_DIG, R.LAN_DIG_HI, R.LAN_DIG_LO, R.LAN_STAT, R.LAN_TIME, R.PWR_AVFS_A, R.PWR_AVFS_B, R.SBX_CNT0, R.SBX_CNT1, R.SBX_STAT, R.STP_CNT, R.STP_LATCH, R.STP_SRC, R.STP_STAT] ++ (List.range 2).map R.ETH_P_CNT1 ++ (List.range 4).map R.RAD_P_STAT ++ (List.range 4).map R.STP_ROVER ++ busRegs) []) ∧
  (∀ (s : State) (bad : Option (Fin 2 × Byte)), Gives (.rescrubDone bad) s fun t =>
      s.changesOnly t [.outs, .pins, .time, .svb, .sbx, .alt, .ttb, .stp, .rad, .lan, .cbk, .pwr, .vbat, .tst] ([R.ALT_STAT, R.LAN_CNT, R.LAN_CTL, R.LAN_DIAG_A, R.LAN_DIAG_B, R.LAN_STAT, R.PWR_AVFS_A, R.PWR_AVFS_B, R.SBX_CNT0, R.SBX_CNT1, R.SBX_STAT, R.STP_CNT, R.STP_LATCH, R.STP_SRC, R.STP_STAT] ++ (List.range 2).map R.ETH_P_CNT1 ++ (List.range 4).map R.RAD_P_STAT ++ (List.range 4).map R.STP_ROVER ++ busRegs) []) ∧
  (∀ (s : State) (good : Bool), Gives (.rackPoint good) s fun t =>
      s.changesOnly t [.outs, .pins, .time, .svb, .sbx, .alt, .ttb, .stp, .rad, .lan, .cbk, .pwr, .vbat, .tst] ([R.ALT_STAT, R.LAN_CNT, R.LAN_CTL, R.LAN_DIAG_A, R.LAN_DIAG_B, R.LAN_STAT, R.PWR_AVFS_A, R.PWR_AVFS_B, R.SBX_CNT0, R.SBX_CNT1, R.SBX_STAT, R.STP_CNT, R.STP_LATCH, R.STP_SRC, R.STP_STAT] ++ (List.range 2).map R.ETH_P_CNT1 ++ (List.range 4).map R.RAD_P_STAT ++ (List.range 4).map R.STP_ROVER ++ busRegs) []) ∧
  (∀ (s : State) (lane : Fin 2), Gives (.laneRestore lane) s fun t =>
      s.changesOnly t [.lan, .pwr] ([R.LAN_STAT, R.PWR_AVFS_A, R.PWR_AVFS_B]) []) ∧
  (∀ (s : State) (c : Cmd), Gives (.lanGetState c) s fun t =>
      s.changesOnly t [.outs, .pins, .svb, .tst] (busRegs) []) ∧
  (∀ (s : State) (c : Cmd), Gives (.lanSwitch c) s fun t =>
      s.changesOnly t [.outs, .pins, .svb, .lan, .tst] (busRegs) []) ∧
  (∀ (s : State) (q : Fin 64) (len : Fin 4089) (more : Bool) (gen : Byte) (engine : Byte) (seq : Word), Gives (.queueCommit q len more gen engine seq) s fun t =>
      s.changesOnly t [.que, .tst] ([R.QUE_MODE0, R.QUE_MODE1, R.QUE_Q_CNT, R.QUE_Q_ERR, R.QUE_Q_STAT, R.QUE_STAT, R.TST_ERR, R.TST_STAT]) []) ∧
  (∀ (s : State) (q : Fin 64), Gives (.packetRewind q) s fun t =>
      s.changesOnly t [.que] ([R.QUE_MODE0, R.QUE_MODE1, R.QUE_Q_CNT, R.QUE_Q_ERR, R.QUE_Q_STAT, R.QUE_STAT]) []) ∧
  (∀ (s : State) (q : Fin 64), Gives (.queueRack q) s fun t =>
      s.changesOnly t [.que, .tst] ([R.QUE_MODE0, R.QUE_MODE1, R.QUE_Q_CNT, R.QUE_Q_ERR, R.QUE_Q_STAT, R.QUE_STAT, R.TST_ERR, R.TST_STAT]) []) ∧
  (∀ (s : State) (q : Fin 64) (double : Bool) (source : Fin 88) (reply : Option (Nat × Nat × Nat)), Gives (.queueReadError q double source reply) s fun t =>
      s.changesOnly t [.outs, .pins, .svb, .que, .lan, .cbk, .tst] ([R.QUE_MODE0, R.QUE_MODE1, R.QUE_Q_CNT, R.QUE_Q_ERR, R.QUE_Q_STAT, R.QUE_STAT] ++ busRegs) []) ∧
  (∀ (s : State) (q : Fin 8), Gives (.queueFullTimeout q) s fun t =>
      s.changesOnly t [.outs, .pins, .time, .svb, .sbx, .alt, .ttb, .stp, .rad, .lan, .cbk, .pwr, .vbat, .tst] ([R.ALT_STAT, R.LAN_CNT, R.LAN_CTL, R.LAN_DIAG_A, R.LAN_DIAG_B, R.LAN_STAT, R.PWR_AVFS_A, R.PWR_AVFS_B, R.SBX_CNT0, R.SBX_CNT1, R.SBX_STAT, R.STP_CNT, R.STP_LATCH, R.STP_SRC, R.STP_STAT] ++ (List.range 2).map R.ETH_P_CNT1 ++ (List.range 4).map R.RAD_P_STAT ++ (List.range 4).map R.STP_ROVER ++ busRegs) []) ∧
  (∀ (s : State) (flow : Fin 4096) (atomic_ : Bool) (mask : Word) (all : Bool) (timeout : BitVec 16) (siding : Option (Fin 8 × BitVec 16)), Gives (.workItemAdmit flow atomic_ mask all timeout siding) s fun t =>
      s.changesOnly t [.outs, .pins, .svb, .sch, .lan, .tst] ([R.SCH_CNT, R.SCH_STAT, R.SCH_WAIT] ++ busRegs) []) ∧
  (∀ (s : State) (item : Nat) (flags : Word), Gives (.eventFlagPost item flags) s fun t =>
      s.changesOnly t [.sch] ([R.SCH_STAT, R.SCH_WAIT]) []) ∧
  (∀ (s : State) (arb : Fin 2) (k : Fin 16), Gives (.tokenRequest arb k) s fun t =>
      s.changesOnly t [.outs, .pins, .svb, .arb, .lan, .tst] ([R.ARB_DRAM, R.ARB_DRAM_CNT, R.ARB_MAT, R.ARB_MAT_CNT] ++ busRegs) []) ∧
  (∀ (s : State) (arb : Fin 2) (k : Fin 16), Gives (.tokenDrop arb k) s fun t =>
      s.changesOnly t [.outs, .pins, .svb, .arb, .lan, .tst] ([R.ARB_DRAM, R.ARB_DRAM_CNT, R.ARB_MAT, R.ARB_MAT_CNT] ++ busRegs) []) ∧
  (∀ (s : State) (vout : BitVec 11), Gives (.powerReevaluate vout) s fun t =>
      s.changesOnly t [.free, .outs, .pins, .svb, .eng, .tst] ([R.ARB_PWR_RES, R.ARB_PWR_STAT, R.RTK_LOAD] ++ (List.range 8).map R.ARB_PWR_REQ ++ busRegs) []) ∧
  (∀ (s : State) (k : Fin 3) (mask : Word), Gives (.evtPendClear k mask) s fun t =>
      s.changesOnly t [.pins] ([R.EVT_PEND0, R.EVT_PEND1, R.EVT_PEND2, R.EVT_STAT]) []) ∧
  (∀ (s : State) (k : Fin 3) (value : Word), Gives (.evtEnWrite k value) s fun t =>
      s.changesOnly t [.pins] ([R.EVT_EN0, R.EVT_EN1, R.EVT_EN2, R.EVT_STAT]) []) ∧
  (∀ (s : State), s.svb.posts = [] →
      Gives (.restepApply) s fun t =>
      s.changesOnly t [.outs, .pins, .time, .svb, .sky, .rtk, .ttb, .mtr, .cbk, .tst] ([R.ETH_PTP_STAT, R.MTR_CNT, R.MTR_STAT, R.TIM_OFFSET, R.TIM_STAT] ++ busRegs) []) ∧
  (∀ (s : State), s.svb.posts = [] →
      Gives (.laneTick) s fun t =>
      s.changesOnly t [.free, .outs, .pins, .time, .svb, .sbx, .alt, .ttb, .stp, .rad, .que, .arb, .lan, .cbk, .pwr, .vbat, .tst] ([R.ALT_STAT, R.ARB_DRAM, R.ARB_DRAM_CNT, R.ARB_MAT, R.ARB_MAT_CNT, R.LAN_CNT, R.LAN_CTL, R.LAN_DIAG_A, R.LAN_DIAG_B, R.LAN_STAT, R.PWR_AVFS_A, R.PWR_AVFS_B, R.QUE_MODE0, R.QUE_MODE1, R.QUE_Q_CNT, R.QUE_Q_ERR, R.QUE_Q_STAT, R.QUE_STAT, R.SBX_CNT0, R.SBX_CNT1, R.SBX_STAT, R.STP_CNT, R.STP_LATCH, R.STP_SRC, R.STP_STAT, R.TIM_HOLD_AGE] ++ (List.range 2).map R.ETH_P_CNT1 ++ (List.range 4).map R.RAD_P_STAT ++ (List.range 4).map R.STP_ROVER ++ busRegs) []) ∧
  (∀ (s : State), s.svb.posts = [] →
      Gives (.discoverCollectEnd) s fun t =>
      s.changesOnly t [.outs, .pins, .svb, .eth, .tst] ([R.ETH_STAT] ++ busRegs) []) ∧
  (∀ (s : State), s.svb.posts = [] →
      Gives (.switchOverEnd) s fun t =>
      s.changesOnly t [.outs, .pins, .svb, .lan, .pwr, .tst] ([R.LAN_CNT, R.LAN_STAT, R.LAN_TIME, R.PWR_AVFS_A, R.PWR_AVFS_B] ++ busRegs) []) ∧
  (∀ (s : State), Gives (.rackPrecopyDone) s fun t =>
      s.changesOnly t [.lan] ([]) []) ∧
  (∀ (s : State), Gives (.lanCntClr) s fun t =>
      s.changesOnly t [] ([R.LAN_CNT, R.LAN_TIME]) []) ∧
  (∀ (s : State), Gives (.queFlush) s fun t =>
      s.changesOnly t [.que, .tst] ([R.QUE_MODE0, R.QUE_MODE1, R.QUE_Q_CNT, R.QUE_Q_ERR, R.QUE_Q_STAT, R.QUE_STAT, R.TST_ERR, R.TST_STAT]) []) ∧
  (∀ (s : State), Gives (.queCntClr) s fun t =>
      s.changesOnly t [.que] ([R.QUE_MODE0, R.QUE_MODE1, R.QUE_Q_CNT, R.QUE_Q_ERR, R.QUE_Q_STAT, R.QUE_STAT]) []) ∧
  (∀ (s : State), Gives (.sidingDue) s fun t =>
      s.changesOnly t [.sch] ([R.SCH_STAT, R.SCH_WAIT]) []) ∧
  (∀ (s : State), Gives (.waitTimeout) s fun t =>
      s.changesOnly t [.sch] ([R.SCH_CNT, R.SCH_STAT, R.SCH_WAIT]) []) ∧
  (∀ (s : State), Gives (.atomicEnEffect) s fun t =>
      s.changesOnly t [.free, .outs, .pins, .svb, .que, .lan, .tst] ([R.QUE_MODE0, R.QUE_MODE1, R.QUE_Q_CNT, R.QUE_Q_ERR, R.QUE_Q_STAT, R.QUE_STAT, R.SCH_CNT, R.SCH_STAT] ++ busRegs) []) ∧
  (∀ (s : State), Gives (.schCntClr) s fun t =>
      s.changesOnly t [] ([R.SCH_CNT]) []) ∧
  (∀ (s : State), Gives (.mismatchWindowEnd) s fun t =>
      s.changesOnly t [.lan] ([R.LAN_STAT]) [])

/-- What each command of the key store, the update logic, the cellar book, the power states and the test block leaves as it was -/
def Obligations.FramesOfKeysUpdateCellarBookPowerAndTest : Prop :=
  (∀ (s : State) (c : Cmd), Gives (.getStatus c) s fun t =>
      s.changesOnly t [.outs, .pins, .svb, .tst] (busRegs) []) ∧
  (∀ (s : State) (c : Cmd), Gives (.setPowerState c) s fun t =>
      s.changesOnly t [.outs, .pins, .svb, .snp, .mtr, .que, .arb, .lan, .upd, .cbk, .pwr, .vbat, .tst, .nor] ([R.ARB_DRAM, R.ARB_DRAM_CNT, R.ARB_MAT, R.ARB_MAT_CNT, R.CBK_BUF, R.CBK_CNT, R.CBK_NEWEST, R.CBK_OLDEST, R.CBK_PERM, R.CBK_STAT, R.PWR_STAT, R.PWR_WAKE, R.QUE_MODE0, R.QUE_MODE1, R.QUE_Q_CNT, R.QUE_Q_ERR, R.QUE_Q_STAT, R.QUE_STAT, R.SNP_DROP, R.SNP_STAT, R.TST_BP, R.TST_CTL, R.TST_ERR, R.TST_JIT, R.TST_STRETCH, R.UPD_STAT, R.UPD_TD_HI, R.UPD_TD_LO] ++ (List.range 4).map R.TST_QDLY ++ busRegs) []) ∧
  (∀ (s : State) (n : Fin 2) (x : EthIn), Gives (.wakeFrame n x) s fun t =>
      s.changesOnly t [.outs, .pins, .time, .svb, .eng, .sky, .rtk, .sbx, .alt, .ttb, .stp, .rad, .eth, .mtr, .que, .sch, .arb, .lan, .sec, .cbk, .pwr, .vbat, .tst] ([R.ALT_STAT, R.ARB_DRAM, R.ARB_DRAM_CNT, R.ARB_MAT, R.ARB_MAT_CNT, R.ETH_PTP_STAT, R.ETH_WAKE_STAT, R.MTR_CNT, R.MTR_STAT, R.PWR_STAT, R.PWR_WAKE_SRC, R.QUE_MODE0, R.QUE_MODE1, R.QUE_Q_CNT, R.QUE_Q_ERR, R.QUE_Q_STAT, R.QUE_STAT, R.RAD_STAT, R.RTK_STAT, R.SBX_CNT0, R.SBX_CNT1, R.SBX_MAP_ID, R.SBX_MAP_STG, R.SBX_STAT, R.SEC_CNT, R.SKY_STAT, R.STP_CNT, R.STP_LATCH, R.STP_SRC, R.STP_STAT, R.TST_BP, R.TST_CTL, R.TST_ERR, R.TST_JIT, R.TST_STRETCH, R.TTB_CAM, R.TTB_CAM_INFO, R.TTB_STAT] ++ (List.range 2).map R.ETH_P_CNT1 ++ (List.range 2).map R.ETH_P_STAT ++ (List.range 4).map R.RAD_P_STAT ++ (List.range 64).map R.SEC_SLOT ++ (List.range 4).map R.STP_ROVER ++ (List.range 4).map R.TST_QDLY ++ busRegs) [.ALT, .RTK, .SBX, .SCH, .TTB]) ∧
  (∀ (s : State) (lane : Fin 2), Gives (.coldStartReady lane) s fun t =>
      s.changesOnly t [.outs, .pins, .time, .svb, .eng, .rtk, .sbx, .alt, .ttb, .lan, .upd, .cbk, .tst, .nor] ([R.ALT_STAT, R.ARB_MAT, R.ARB_MAT_CNT, R.LAN_STAT, R.LAN_TIME, R.RTK_STAT, R.SBX_CNT0, R.SBX_MAP_ID, R.SBX_MAP_STG, R.SBX_STAT, R.STP_SRC, R.TTB_CAM, R.TTB_CAM_INFO, R.TTB_STAT] ++ busRegs) [.ALT, .RTK, .SBX, .SCH, .TTB]) ∧
  (∀ (s : State) (k : Fin 6) (temp : BitVec 16), Gives (.tamperDetect k temp) s fun t =>
      s.changesOnly t [.outs, .pins, .time, .svb, .eng, .sky, .rtk, .sbx, .alt, .ttb, .stp, .rad, .eth, .mtr, .que, .sch, .arb, .lan, .sec, .cbk, .pwr, .vbat, .tst] ([R.ALT_STAT, R.ARB_DRAM, R.ARB_DRAM_CNT, R.ARB_MAT, R.ARB_MAT_CNT, R.ETH_PTP_STAT, R.MTR_CNT, R.MTR_STAT, R.PWR_STAT, R.PWR_WAKE_SRC, R.QUE_MODE0, R.QUE_MODE1, R.QUE_Q_CNT, R.QUE_Q_ERR, R.QUE_Q_STAT, R.QUE_STAT, R.RAD_STAT, R.RTK_STAT, R.SBX_CNT0, R.SBX_CNT1, R.SBX_MAP_ID, R.SBX_MAP_STG, R.SBX_STAT, R.SEC_CNT, R.SEC_RSID, R.SEC_STAT, R.SEC_TAMPER, R.SEC_TEMP, R.SKY_STAT, R.STP_CNT, R.STP_LATCH, R.STP_SRC, R.STP_STAT, R.TST_BP, R.TST_CTL, R.TST_ERR, R.TST_JIT, R.TST_STRETCH, R.TTB_CAM, R.TTB_CAM_INFO, R.TTB_STAT] ++ (List.range 2).map R.ETH_P_CNT1 ++ (List.range 2).map R.ETH_P_STAT ++ (List.range 4).map R.RAD_P_STAT ++ (List.range 64).map R.SEC_SLOT ++ (List.range 4).map R.STP_ROVER ++ (List.range 4).map R.TST_QDLY ++ busRegs) [.ALT, .RTK, .SBX, .SCH, .TTB]) ∧
  (∀ (s : State) (k : Fin 6), Gives (.tamperConditionEnd k) s fun t =>
      s.changesOnly t [.sec] ([R.SEC_STAT, R.SEC_TAMPER]) []) ∧
  (∀ (s : State) (c : Cmd), Gives (.secCaskLoad c) s fun t =>
      s.changesOnly t [.free, .outs, .pins, .svb, .sec, .cbk, .vbat, .tst] ([R.SEC_CNT, R.SEC_RSID, R.SEC_STAT, R.STP_SRC] ++ (List.range 4).map R.RAD_P_STAT ++ (List.range 64).map R.SEC_SLOT ++ busRegs) []) ∧
  (∀ (s : State) (c : Cmd), Gives (.secCaskUnload c) s fun t =>
      s.changesOnly t [.outs, .pins, .svb, .que, .arb, .lan, .sec, .tst] ([R.ARB_DRAM, R.ARB_DRAM_CNT, R.ARB_MAT, R.ARB_MAT_CNT, R.QUE_MODE0, R.QUE_MODE1, R.QUE_Q_CNT, R.QUE_Q_ERR, R.QUE_Q_STAT, R.QUE_STAT, R.SEC_RSID, R.SEC_STAT, R.TST_BP, R.TST_CTL, R.TST_ERR, R.TST_JIT, R.TST_STRETCH] ++ (List.range 4).map R.RAD_P_STAT ++ (List.range 64).map R.SEC_SLOT ++ (List.range 4).map R.TST_QDLY ++ busRegs) []) ∧
  (∀ (s : State) (c : Cmd), Gives (.updImageBegin c) s fun t =>
      s.changesOnly t [.outs, .pins, .svb, .upd, .tst] ([R.UPD_PROG, R.UPD_STAT] ++ busRegs) []) ∧
  (∀ (s : State) (c : Cmd), Gives (.updImageData c) s fun t =>
      s.changesOnly t [.outs, .pins, .svb, .upd, .tst] ([R.UPD_PROG] ++ busRegs) []) ∧
  (∀ (s : State) (c : Cmd), Gives (.updImageEnd c) s fun t =>
      s.changesOnly t [.outs, .pins, .svb, .tst] ([R.UPD_STAT] ++ busRegs) []) ∧
  (∀ (s : State) (good : Bool), Gives (.bankWriteDone good) s fun t =>
      s.changesOnly t [.outs, .pins, .svb, .upd, .tst] ([R.UPD_CNT, R.UPD_FMT, R.UPD_STAT, R.UPD_VINT_STG] ++ busRegs) []) ∧
  (∀ (s : State) (n : Fin 2), Gives (.relayBusyRetry n) s fun t =>
      s.changesOnly t [.outs, .pins, .svb, .upd, .tst] ([R.UPD_STAT] ++ (List.range 2).map R.ETH_P_CNT1 ++ busRegs) []) ∧
  (∀ (s : State) (n : Fin 2), Gives (.relayFail n) s fun t =>
      s.changesOnly t [.outs, .pins, .svb, .upd, .tst] ([R.UPD_CNT, R.UPD_STAT] ++ busRegs) []) ∧
  (∀ (s : State) (c : Cmd), Gives (.updDecant c) s fun t =>
      s.changesOnly t [.outs, .pins, .svb, .upd, .tst] (busRegs) []) ∧
  (∀ (s : State) (c : Cmd), Gives (.updDecantSchedule c) s fun t =>
      s.changesOnly t [.outs, .pins, .svb, .upd, .cbk, .tst] ([R.UPD_STAT, R.UPD_TD_HI, R.UPD_TD_LO] ++ (List.range 2).map R.ETH_P_CNT1 ++ busRegs) []) ∧
  (∀ (s : State) (c : Cmd), Gives (.updGetState c) s fun t =>
      s.changesOnly t [.outs, .pins, .svb, .tst] (busRegs) []) ∧
  (∀ (s : State) (fails : Fin 3), Gives (.cbkRecordWrite fails) s fun t =>
      s.changesOnly t [.outs, .pins, .svb, .cbk, .tst] ([R.CBK_BUF, R.CBK_CNT, R.CBK_NEWEST, R.CBK_OLDEST, R.CBK_PERM, R.CBK_STAT] ++ busRegs) []) ∧
  (∀ (s : State) (c : Cmd), Gives (.cbkFreeze c) s fun t =>
      s.changesOnly t [.outs, .pins, .svb, .cbk, .tst] ([R.CBK_STAT] ++ busRegs) []) ∧
  (∀ (s : State) (c : Cmd), Gives (.cbkThaw c) s fun t =>
      s.changesOnly t [.outs, .pins, .svb, .cbk, .tst] ([R.CBK_BUF, R.CBK_CNT, R.CBK_NEWEST, R.CBK_OLDEST, R.CBK_PERM, R.CBK_STAT] ++ busRegs) []) ∧
  (∀ (s : State) (c : Cmd), Gives (.cbkRead c) s fun t =>
      s.changesOnly t [.outs, .pins, .svb, .cbk, .tst] ([R.CBK_CNT, R.CBK_STAT] ++ busRegs) []) ∧
  (∀ (s : State) (c : Cmd), Gives (.cbkClear c) s fun t =>
      s.changesOnly t [.outs, .pins, .svb, .cbk, .tst] ([R.CBK_BUF, R.CBK_CNT, R.CBK_NEWEST, R.CBK_OLDEST, R.CBK_PERM, R.CBK_STAT, R.SEC_CNT] ++ busRegs) []) ∧
  (∀ (s : State) (low : Bool) (away : Nat), Gives (.powerOn low away) s fun t =>
      s.keeps t [.dram, .pins, .time, .svb, .eng, .sky, .rtk, .snp, .sbx, .alt, .ttb, .stp, .rad, .eth, .mtr, .que, .sch, .arb, .lan, .sec, .upd, .cbk, .pwr, .vbat, .tst]) ∧
  (∀ (s : State) (ok0 : Bool) (ok1 : Bool) (torn : Fin 32), Gives (.hubStart ok0 ok1 torn) s fun t =>
      s.keeps t [.free, .outs, .pins, .time, .svb, .eng, .sky, .sbx, .alt, .ttb, .stp, .rad, .eth, .mtr, .lan, .sec, .upd, .cbk, .pwr, .vbat, .tst]) ∧
  (∀ (s : State) (mv : BitVec 16), Gives (.vinBelowWarn mv) s fun t =>
      s.changesOnly t [.free, .outs, .pins, .svb, .eng, .mtr, .upd, .cbk, .pwr, .vbat, .tst, .nor] ([R.ARB_PWR_RES, R.ARB_PWR_STAT, R.CBK_BUF, R.CBK_CNT, R.CBK_NEWEST, R.CBK_OLDEST, R.CBK_PERM, R.CBK_STAT, R.PWR_STAT, R.PWR_SUP, R.RTK_LOAD, R.UPD_STAT] ++ (List.range 8).map R.ARB_PWR_REQ ++ busRegs) []) ∧
  (∀ (s : State) (lowest : BitVec 16), Gives (.vinDipEnd lowest) s fun t =>
      s.changesOnly t [.free, .outs, .pins, .svb, .eng, .cbk, .pwr, .tst] ([R.ARB_PWR_RES, R.ARB_PWR_STAT, R.PWR_DIP, R.PWR_DIP_T, R.PWR_STAT, R.RTK_LOAD, R.STP_SRC] ++ (List.range 8).map R.ARB_PWR_REQ ++ busRegs) []) ∧
  (∀ (s : State) (mv : BitVec 16), Gives (.vsysResetLevel mv) s fun t =>
      s.changesOnly t [.outs, .pins, .time, .svb, .sbx, .alt, .ttb, .stp, .rad, .lan, .cbk, .pwr, .vbat, .tst] ([R.ALT_STAT, R.PWR_SUP, R.SBX_CNT0, R.SBX_CNT1, R.SBX_STAT, R.STP_CNT, R.STP_LATCH, R.STP_SRC, R.STP_STAT] ++ (List.range 2).map R.ETH_P_CNT1 ++ (List.range 4).map R.RAD_P_STAT ++ (List.range 4).map R.STP_ROVER ++ busRegs) []) ∧
  (∀ (s : State) (mv : BitVec 16), Gives (.vbatLow mv) s fun t =>
      s.changesOnly t [.outs, .pins, .svb, .tst] ([R.PWR_STAT, R.PWR_SUP2] ++ busRegs) []) ∧
  (∀ (s : State) (err : Int), Gives (.refclkLost err) s fun t =>
      s.changesOnly t [.outs, .pins, .time, .svb, .eng, .sky, .rtk, .sbx, .alt, .ttb, .stp, .rad, .eth, .mtr, .que, .sch, .arb, .lan, .sec, .upd, .cbk, .pwr, .vbat, .tst] ([R.ALT_STAT, R.ARB_DRAM, R.ARB_DRAM_CNT, R.ARB_MAT, R.ARB_MAT_CNT, R.ETH_PTP_STAT, R.ETH_STAT, R.MTR_CNT, R.MTR_STAT, R.PWR_STAT, R.PWR_WAKE_SRC, R.QUE_MODE0, R.QUE_MODE1, R.QUE_Q_CNT, R.QUE_Q_ERR, R.QUE_Q_STAT, R.QUE_STAT, R.RAD_STAT, R.RTK_STAT, R.SBX_CNT0, R.SBX_CNT1, R.SBX_MAP_ID, R.SBX_MAP_STG, R.SBX_STAT, R.SEC_CNT, R.SKY_STAT, R.STP_CNT, R.STP_LATCH, R.STP_SRC, R.STP_STAT, R.TIM_HOLD_AGE, R.TIM_INC_FRAC, R.TIM_INC_INT, R.TIM_OFFSET, R.TIM_STAT, R.TST_BP, R.TST_CTL, R.TST_ERR, R.TST_JIT, R.TST_STRETCH, R.TTB_CAM, R.TTB_CAM_INFO, R.TTB_STAT, R.UPD_STAT] ++ (List.range 2).map R.ETH_P_CNT1 ++ (List.range 2).map R.ETH_P_STAT ++ (List.range 4).map R.RAD_P_STAT ++ (List.range 64).map R.SEC_SLOT ++ (List.range 4).map R.STP_ROVER ++ (List.range 4).map R.TST_QDLY ++ busRegs) [.ALT, .RTK, .SBX, .SCH, .TTB]) ∧
  (∀ (s : State) (lane : Fin 2) (m : Byte), Gives (.avfsReading lane m) s fun t =>
      s.changesOnly t [.outs, .pins, .time, .svb, .sbx, .alt, .ttb, .stp, .rad, .lan, .cbk, .pwr, .vbat, .tst] ([R.ALT_STAT, R.LAN_CNT, R.LAN_CTL, R.LAN_DIAG_A, R.LAN_DIAG_B, R.LAN_STAT, R.PWR_AVFS_A, R.PWR_AVFS_B, R.PWR_AVFS_CTL, R.SBX_CNT0, R.SBX_CNT1, R.SBX_STAT, R.STP_CNT, R.STP_LATCH, R.STP_SRC, R.STP_STAT] ++ (List.range 2).map R.ETH_P_CNT1 ++ (List.range 4).map R.RAD_P_STAT ++ (List.range 4).map R.STP_ROVER ++ busRegs) []) ∧
  (∀ (s : State) (temp : BitVec 16), Gives (.dieTempHigh temp) s fun t =>
      s.changesOnly t [.outs, .pins, .svb, .tst] ([R.PWR_STAT, R.SEC_TEMP] ++ busRegs) []) ∧
  (∀ (s : State) (c : Cmd), Gives (.tstUnlock c) s fun t =>
      s.changesOnly t [.outs, .pins, .svb, .tst] ([R.SEC_CNT] ++ busRegs) []) ∧
  (∀ (s : State) (c : Cmd), Gives (.tstLock c) s fun t =>
      s.changesOnly t [.outs, .pins, .svb, .que, .arb, .lan, .tst] ([R.ARB_DRAM, R.ARB_DRAM_CNT, R.ARB_MAT, R.ARB_MAT_CNT, R.QUE_MODE0, R.QUE_MODE1, R.QUE_Q_CNT, R.QUE_Q_ERR, R.QUE_Q_STAT, R.QUE_STAT, R.TST_BP, R.TST_CTL, R.TST_ERR, R.TST_JIT, R.TST_STRETCH] ++ (List.range 4).map R.TST_QDLY ++ busRegs) []) ∧
  (∀ (s : State) (value : Word), Gives (.tstJitWrite value) s fun t =>
      s.changesOnly t [.tst] ([R.TST_JIT, R.TST_STAT]) []) ∧
  (∀ (s : State) (mv : BitVec 16), Gives (.vinAtOrAboveWarn mv) s fun t =>
      s.changesOnly t [.outs, .pins, .svb, .cbk, .pwr, .tst] ([R.PWR_SUP, R.STP_SRC] ++ busRegs) []) ∧
  (∀ (s : State) (mv : BitVec 16), Gives (.vbatLowEnd mv) s fun t =>
      s.changesOnly t [] ([R.PWR_STAT, R.PWR_SUP2]) []) ∧
  (∀ (s : State), Gives (.keyMaskRedraw) s fun t =>
      s.changesOnly t [.free, .sec] ([]) []) ∧
  (∀ (s : State), Gives (.secCntClr) s fun t =>
      s.changesOnly t [] ([R.SEC_CNT]) []) ∧
  (∀ (s : State), Gives (.imageTransferTimeout) s fun t =>
      s.changesOnly t [.outs, .pins, .svb, .upd, .tst] ([R.UPD_STAT] ++ busRegs) []) ∧
  (∀ (s : State), Gives (.imageVerifyDone) s fun t =>
      s.changesOnly t [.outs, .pins, .svb, .upd, .tst] ([R.UPD_CNT, R.UPD_FMT, R.UPD_STAT, R.UPD_VINT_STG] ++ (List.range 2).map R.ETH_P_CNT1 ++ busRegs) []) ∧
  (∀ (s : State), Gives (.updAbort) s fun t =>
      s.changesOnly t [.outs, .pins, .svb, .upd, .tst] ([R.UPD_STAT] ++ busRegs) []) ∧
  (∀ (s : State), Gives (.updCntClr) s fun t =>
      s.changesOnly t [] ([R.UPD_CNT]) []) ∧
  (∀ (s : State), Gives (.imageStatusSend) s fun t =>
      s.changesOnly t [.outs, .upd] ([R.UPD_PROG, R.UPD_STAT] ++ (List.range 2).map R.ETH_P_CNT1) []) ∧
  (∀ (s : State), Gives (.relayReceiveTimeout) s fun t =>
      s.changesOnly t [.outs, .pins, .svb, .upd, .tst] ([R.UPD_STAT] ++ busRegs) []) ∧
  (∀ (s : State), Gives (.decantRun) s fun t =>
      s.keeps t [.outs, .dram, .pins, .time, .svb, .eng, .sky, .rtk, .snp, .sbx, .alt, .ttb, .stp, .rad, .eth, .mtr, .que, .sch, .arb, .lan, .sec, .upd, .cbk, .pwr, .vbat, .tst, .nor]) ∧
  (∀ (s : State), Gives (.decantVoteEnd) s fun t =>
      s.changesOnly t [.outs, .pins, .svb, .upd, .cbk, .tst] ([R.UPD_STAT, R.UPD_TD_HI, R.UPD_TD_LO] ++ (List.range 2).map R.ETH_P_CNT1 ++ busRegs) []) ∧
  (∀ (s : State), Gives (.decantHoldCheck) s fun t =>
      s.changesOnly t [.outs, .pins, .svb, .upd, .cbk, .tst] ([R.UPD_STAT, R.UPD_TD_HI, R.UPD_TD_LO] ++ (List.range 2).map R.ETH_P_CNT1 ++ busRegs) []) ∧
  (∀ (s : State), Gives (.decantAtTd) s fun t =>
      s.keeps t [.outs, .dram, .pins, .time, .svb, .eng, .sky, .rtk, .snp, .sbx, .alt, .ttb, .stp, .rad, .eth, .mtr, .que, .sch, .arb, .lan, .sec, .upd, .cbk, .pwr, .vbat, .tst, .nor]) ∧
  (∀ (s : State), Gives (.bootFallback) s fun t =>
      s.keeps t [.dram, .pins, .time, .svb, .eng, .sky, .rtk, .snp, .sbx, .alt, .ttb, .stp, .rad, .eth, .mtr, .que, .sch, .arb, .lan, .sec, .upd, .cbk, .pwr, .tst]) ∧
  (∀ (s : State), Gives (.cbkFreezeTimeout) s fun t =>
      s.changesOnly t [.outs, .pins, .svb, .cbk, .tst] ([R.CBK_BUF, R.CBK_CNT, R.CBK_NEWEST, R.CBK_OLDEST, R.CBK_PERM, R.CBK_STAT] ++ busRegs) []) ∧
  (∀ (s : State), Gives (.cbkCntClr) s fun t =>
      s.changesOnly t [] ([R.CBK_CNT]) []) ∧
  (∀ (s : State), Gives (.supplyDipLong) s fun t =>
      s.changesOnly t [.outs, .pins, .time, .svb, .eng, .sky, .rtk, .sbx, .alt, .ttb, .stp, .rad, .eth, .mtr, .que, .sch, .arb, .lan, .sec, .cbk, .pwr, .vbat, .tst] ([R.ALT_STAT, R.ARB_DRAM, R.ARB_DRAM_CNT, R.ARB_MAT, R.ARB_MAT_CNT, R.ETH_PTP_STAT, R.MTR_CNT, R.MTR_STAT, R.PWR_STAT, R.PWR_WAKE_SRC, R.QUE_MODE0, R.QUE_MODE1, R.QUE_Q_CNT, R.QUE_Q_ERR, R.QUE_Q_STAT, R.QUE_STAT, R.RAD_STAT, R.RTK_STAT, R.SBX_CNT0, R.SBX_CNT1, R.SBX_MAP_ID, R.SBX_MAP_STG, R.SBX_STAT, R.SEC_CNT, R.SKY_STAT, R.STP_CNT, R.STP_LATCH, R.STP_SRC, R.STP_STAT, R.TST_BP, R.TST_CTL, R.TST_ERR, R.TST_JIT, R.TST_STRETCH, R.TTB_CAM, R.TTB_CAM_INFO, R.TTB_STAT] ++ (List.range 2).map R.ETH_P_CNT1 ++ (List.range 2).map R.ETH_P_STAT ++ (List.range 4).map R.RAD_P_STAT ++ (List.range 64).map R.SEC_SLOT ++ (List.range 4).map R.STP_ROVER ++ (List.range 4).map R.TST_QDLY ++ busRegs) [.ALT, .RTK, .SBX, .SCH, .TTB]) ∧
  (∀ (s : State), Gives (.brownOutReset) s fun t =>
      s.keeps t [.dram, .pins, .time, .svb, .eng, .sky, .rtk, .snp, .sbx, .alt, .ttb, .stp, .rad, .eth, .mtr, .que, .sch, .arb, .lan, .sec, .upd, .cbk, .pwr, .vbat, .tst]) ∧
  (∀ (s : State), Gives (.voutTrip) s fun t =>
      s.changesOnly t [.outs, .pins, .svb, .upd, .pwr, .tst] ([R.ETH_STAT, R.PWR_STAT, R.UPD_STAT] ++ (List.range 2).map R.ETH_P_STAT ++ busRegs) []) ∧
  (∀ (s : State), Gives (.voutRestart) s fun t =>
      s.changesOnly t [.pwr] ([]) []) ∧
  (∀ (s : State), Gives (.refclkRestored) s fun t =>
      s.changesOnly t [.outs, .pins, .time, .svb, .sky, .cbk, .pwr, .tst] ([R.PWR_STAT, R.SKY_STAT, R.STP_SRC, R.TIM_INC_FRAC, R.TIM_INC_INT] ++ busRegs) []) ∧
  (∀ (s : State), Gives (.dormantEntryComplete) s fun t =>
      s.changesOnly t [.outs, .pins, .time, .svb, .eng, .sky, .rtk, .sbx, .alt, .ttb, .stp, .rad, .eth, .mtr, .que, .sch, .arb, .lan, .sec, .cbk, .pwr, .vbat, .tst] ([R.ALT_STAT, R.ARB_DRAM, R.ARB_DRAM_CNT, R.ARB_MAT, R.ARB_MAT_CNT, R.ETH_PTP_STAT, R.MTR_CNT, R.MTR_STAT, R.PWR_STAT, R.PWR_WAKE_SRC, R.QUE_MODE0, R.QUE_MODE1, R.QUE_Q_CNT, R.QUE_Q_ERR, R.QUE_Q_STAT, R.QUE_STAT, R.RAD_STAT, R.RTK_STAT, R.SBX_CNT0, R.SBX_CNT1, R.SBX_MAP_ID, R.SBX_MAP_STG, R.SBX_STAT, R.SEC_CNT, R.SKY_STAT, R.STP_CNT, R.TST_BP, R.TST_CTL, R.TST_ERR, R.TST_JIT, R.TST_STRETCH, R.TTB_CAM, R.TTB_CAM_INFO, R.TTB_STAT] ++ (List.range 2).map R.ETH_P_CNT1 ++ (List.range 2).map R.ETH_P_STAT ++ (List.range 4).map R.RAD_P_STAT ++ (List.range 64).map R.SEC_SLOT ++ (List.range 4).map R.TST_QDLY ++ busRegs) [.ALT, .RTK, .SBX, .SCH, .TTB]) ∧
  (∀ (s : State), Gives (.wakeIn) s fun t =>
      s.changesOnly t [.outs, .pins, .time, .svb, .eng, .sky, .rtk, .sbx, .alt, .ttb, .stp, .rad, .eth, .mtr, .que, .sch, .arb, .lan, .sec, .cbk, .pwr, .vbat, .tst] ([R.ALT_STAT, R.ARB_DRAM, R.ARB_DRAM_CNT, R.ARB_MAT, R.ARB_MAT_CNT, R.ETH_PTP_STAT, R.MTR_CNT, R.MTR_STAT, R.PWR_STAT, R.PWR_WAKE_SRC, R.QUE_MODE0, R.QUE_MODE1, R.QUE_Q_CNT, R.QUE_Q_ERR, R.QUE_Q_STAT, R.QUE_STAT, R.RAD_STAT, R.RTK_STAT, R.SBX_CNT0, R.SBX_CNT1, R.SBX_MAP_ID, R.SBX_MAP_STG, R.SBX_STAT, R.SEC_CNT, R.SKY_STAT, R.STP_CNT, R.TST_BP, R.TST_CTL, R.TST_ERR, R.TST_JIT, R.TST_STRETCH, R.TTB_CAM, R.TTB_CAM_INFO, R.TTB_STAT] ++ (List.range 2).map R.ETH_P_CNT1 ++ (List.range 2).map R.ETH_P_STAT ++ (List.range 4).map R.RAD_P_STAT ++ (List.range 64).map R.SEC_SLOT ++ (List.range 4).map R.TST_QDLY ++ busRegs) [.ALT, .RTK, .SBX, .SCH, .TTB]) ∧
  (∀ (s : State), Gives (.wakeTimer) s fun t =>
      s.changesOnly t [.outs, .pins, .time, .svb, .eng, .sky, .rtk, .sbx, .alt, .ttb, .stp, .rad, .eth, .mtr, .que, .sch, .arb, .lan, .sec, .cbk, .pwr, .vbat, .tst] ([R.ALT_STAT, R.ARB_DRAM, R.ARB_DRAM_CNT, R.ARB_MAT, R.ARB_MAT_CNT, R.ETH_PTP_STAT, R.MTR_CNT, R.MTR_STAT, R.PWR_STAT, R.PWR_WAKE_SRC, R.QUE_MODE0, R.QUE_MODE1, R.QUE_Q_CNT, R.QUE_Q_ERR, R.QUE_Q_STAT, R.QUE_STAT, R.RAD_STAT, R.RTK_STAT, R.SBX_CNT0, R.SBX_CNT1, R.SBX_MAP_ID, R.SBX_MAP_STG, R.SBX_STAT, R.SEC_CNT, R.SKY_STAT, R.STP_CNT, R.TST_BP, R.TST_CTL, R.TST_ERR, R.TST_JIT, R.TST_STRETCH, R.TTB_CAM, R.TTB_CAM_INFO, R.TTB_STAT] ++ (List.range 2).map R.ETH_P_CNT1 ++ (List.range 2).map R.ETH_P_STAT ++ (List.range 4).map R.RAD_P_STAT ++ (List.range 64).map R.SEC_SLOT ++ (List.range 4).map R.TST_QDLY ++ busRegs) [.ALT, .RTK, .SBX, .SCH, .TTB]) ∧
  (∀ (s : State), Gives (.pinReset) s fun t =>
      s.keeps t [.dram, .pins, .time, .svb, .eng, .sky, .rtk, .snp, .sbx, .alt, .ttb, .stp, .rad, .eth, .mtr, .que, .sch, .arb, .lan, .sec, .upd, .cbk, .pwr, .tst]) ∧
  (∀ (s : State), Gives (.hubWatchdog) s fun t =>
      s.keeps t [.dram, .pins, .time, .svb, .eng, .sky, .rtk, .snp, .sbx, .alt, .ttb, .stp, .rad, .eth, .mtr, .que, .sch, .arb, .lan, .sec, .upd, .cbk, .pwr, .tst]) ∧
  (∀ (s : State), Gives (.hubRst) s fun t =>
      s.keeps t [.dram, .pins, .time, .svb, .eng, .sky, .rtk, .snp, .sbx, .alt, .ttb, .stp, .rad, .eth, .mtr, .que, .sch, .arb, .lan, .sec, .upd, .cbk, .pwr, .tst]) ∧
  (∀ (s : State), Gives (.pwrCntClr) s fun t =>
      s.changesOnly t [] ([R.PWR_DIP, R.PWR_DIP_T]) []) ∧
  (∀ (s : State), Gives (.tstAutolock) s fun t =>
      s.changesOnly t [.outs, .pins, .svb, .que, .arb, .lan, .tst] ([R.ARB_DRAM, R.ARB_DRAM_CNT, R.ARB_MAT, R.ARB_MAT_CNT, R.QUE_MODE0, R.QUE_MODE1, R.QUE_Q_CNT, R.QUE_Q_ERR, R.QUE_Q_STAT, R.QUE_STAT, R.TST_BP, R.TST_CTL, R.TST_ERR, R.TST_JIT, R.TST_STRETCH] ++ (List.range 4).map R.TST_QDLY ++ busRegs) []) ∧
  (∀ (s : State), Gives (.tstClrAll) s fun t =>
      s.changesOnly t [.outs, .pins, .svb, .que, .arb, .lan, .tst] ([R.ARB_DRAM, R.ARB_DRAM_CNT, R.ARB_MAT, R.ARB_MAT_CNT, R.QUE_MODE0, R.QUE_MODE1, R.QUE_Q_CNT, R.QUE_Q_ERR, R.QUE_Q_STAT, R.QUE_STAT, R.TST_BP, R.TST_ERR, R.TST_JIT, R.TST_STRETCH] ++ (List.range 4).map R.TST_QDLY ++ busRegs) []) ∧
  (∀ (s : State), Gives (.tstErrGo) s fun t =>
      s.changesOnly t [.outs, .pins, .time, .svb, .sbx, .alt, .ttb, .stp, .rad, .lan, .cbk, .pwr, .vbat, .tst] ([R.ALT_STAT, R.LAN_CNT, R.LAN_CTL, R.LAN_DIAG_A, R.LAN_DIAG_B, R.LAN_STAT, R.PWR_AVFS_A, R.PWR_AVFS_B, R.SBX_CNT0, R.SBX_CNT1, R.SBX_STAT, R.STP_CNT, R.STP_LATCH, R.STP_SRC, R.STP_STAT, R.TST_ERR] ++ (List.range 2).map R.ETH_P_CNT1 ++ (List.range 4).map R.RAD_P_STAT ++ (List.range 4).map R.STP_ROVER ++ busRegs) []) ∧
  (∀ (s : State), Gives (.tstCrcGo) s fun t =>
      s.changesOnly t [.tst] ([R.TST_CRC, R.TST_STAT]) [])
end

