-- ==== Sys2Proof/Laws/State.lean ====
section
/-! SUPPORT. What each named update of the state leaves in each field: one lemma per field and update, true by unfolding. -/

namespace Sys2Proof.Machine

/-! `State.setReg`: a register gets a value. -/

@[simp] theorem State.setReg_pending (s : State) (a : Nat) (v : Word) : (s.setReg a v).pending = s.pending := rfl
@[simp] theorem State.setReg_free (s : State) (a : Nat) (v : Word) : (s.setReg a v).free = s.free := rfl
@[simp] theorem State.setReg_outs (s : State) (a : Nat) (v : Word) : (s.setReg a v).outs = s.outs := rfl
@[simp] theorem State.setReg_dram (s : State) (a : Nat) (v : Word) : (s.setReg a v).dram = s.dram := rfl
@[simp] theorem State.setReg_pins (s : State) (a : Nat) (v : Word) : (s.setReg a v).pins = s.pins := rfl
@[simp] theorem State.setReg_time (s : State) (a : Nat) (v : Word) : (s.setReg a v).time = s.time := rfl
@[simp] theorem State.setReg_svb (s : State) (a : Nat) (v : Word) : (s.setReg a v).svb = s.svb := rfl
@[simp] theorem State.setReg_eng (s : State) (a : Nat) (v : Word) : (s.setReg a v).eng = s.eng := rfl
@[simp] theorem State.setReg_sky (s : State) (a : Nat) (v : Word) : (s.setReg a v).sky = s.sky := rfl
@[simp] theorem State.setReg_rtk (s : State) (a : Nat) (v : Word) : (s.setReg a v).rtk = s.rtk := rfl
@[simp] theorem State.setReg_snp (s : State) (a : Nat) (v : Word) : (s.setReg a v).snp = s.snp := rfl
@[simp] theorem State.setReg_sbx (s : State) (a : Nat) (v : Word) : (s.setReg a v).sbx = s.sbx := rfl
@[simp] theorem State.setReg_alt (s : State) (a : Nat) (v : Word) : (s.setReg a v).alt = s.alt := rfl
@[simp] theorem State.setReg_ttb (s : State) (a : Nat) (v : Word) : (s.setReg a v).ttb = s.ttb := rfl
@[simp] theorem State.setReg_stp (s : State) (a : Nat) (v : Word) : (s.setReg a v).stp = s.stp := rfl
@[simp] theorem State.setReg_rad (s : State) (a : Nat) (v : Word) : (s.setReg a v).rad = s.rad := rfl
@[simp] theorem State.setReg_eth (s : State) (a : Nat) (v : Word) : (s.setReg a v).eth = s.eth := rfl
@[simp] theorem State.setReg_mtr (s : State) (a : Nat) (v : Word) : (s.setReg a v).mtr = s.mtr := rfl
@[simp] theorem State.setReg_que (s : State) (a : Nat) (v : Word) : (s.setReg a v).que = s.que := rfl
@[simp] theorem State.setReg_sch (s : State) (a : Nat) (v : Word) : (s.setReg a v).sch = s.sch := rfl
@[simp] theorem State.setReg_arb (s : State) (a : Nat) (v : Word) : (s.setReg a v).arb = s.arb := rfl
@[simp] theorem State.setReg_lan (s : State) (a : Nat) (v : Word) : (s.setReg a v).lan = s.lan := rfl
@[simp] theorem State.setReg_fuses (s : State) (a : Nat) (v : Word) : (s.setReg a v).fuses = s.fuses := rfl
@[simp] theorem State.setReg_sec (s : State) (a : Nat) (v : Word) : (s.setReg a v).sec = s.sec := rfl
@[simp] theorem State.setReg_upd (s : State) (a : Nat) (v : Word) : (s.setReg a v).upd = s.upd := rfl
@[simp] theorem State.setReg_cbk (s : State) (a : Nat) (v : Word) : (s.setReg a v).cbk = s.cbk := rfl
@[simp] theorem State.setReg_pwr (s : State) (a : Nat) (v : Word) : (s.setReg a v).pwr = s.pwr := rfl
@[simp] theorem State.setReg_vbat (s : State) (a : Nat) (v : Word) : (s.setReg a v).vbat = s.vbat := rfl
@[simp] theorem State.setReg_tst (s : State) (a : Nat) (v : Word) : (s.setReg a v).tst = s.tst := rfl
@[simp] theorem State.setReg_nor (s : State) (a : Nat) (v : Word) : (s.setReg a v).nor = s.nor := rfl
@[simp] theorem State.setReg_regs (s : State) (a : Nat) (v : Word) : (s.setReg a v).regs = Tbl.put (regReset a) s.regs a v := rfl

/-! `State.setFld`: a field gets a value. -/

@[simp] theorem State.setFld_pending (s : State) (f : Fld) (v : Nat) : (s.setFld f v).pending = s.pending := rfl
@[simp] theorem State.setFld_free (s : State) (f : Fld) (v : Nat) : (s.setFld f v).free = s.free := rfl
@[simp] theorem State.setFld_outs (s : State) (f : Fld) (v : Nat) : (s.setFld f v).outs = s.outs := rfl
@[simp] theorem State.setFld_dram (s : State) (f : Fld) (v : Nat) : (s.setFld f v).dram = s.dram := rfl
@[simp] theorem State.setFld_pins (s : State) (f : Fld) (v : Nat) : (s.setFld f v).pins = s.pins := rfl
@[simp] theorem State.setFld_time (s : State) (f : Fld) (v : Nat) : (s.setFld f v).time = s.time := rfl
@[simp] theorem State.setFld_svb (s : State) (f : Fld) (v : Nat) : (s.setFld f v).svb = s.svb := rfl
@[simp] theorem State.setFld_eng (s : State) (f : Fld) (v : Nat) : (s.setFld f v).eng = s.eng := rfl
@[simp] theorem State.setFld_sky (s : State) (f : Fld) (v : Nat) : (s.setFld f v).sky = s.sky := rfl
@[simp] theorem State.setFld_rtk (s : State) (f : Fld) (v : Nat) : (s.setFld f v).rtk = s.rtk := rfl
@[simp] theorem State.setFld_snp (s : State) (f : Fld) (v : Nat) : (s.setFld f v).snp = s.snp := rfl
@[simp] theorem State.setFld_sbx (s : State) (f : Fld) (v : Nat) : (s.setFld f v).sbx = s.sbx := rfl
@[simp] theorem State.setFld_alt (s : State) (f : Fld) (v : Nat) : (s.setFld f v).alt = s.alt := rfl
@[simp] theorem State.setFld_ttb (s : State) (f : Fld) (v : Nat) : (s.setFld f v).ttb = s.ttb := rfl
@[simp] theorem State.setFld_stp (s : State) (f : Fld) (v : Nat) : (s.setFld f v).stp = s.stp := rfl
@[simp] theorem State.setFld_rad (s : State) (f : Fld) (v : Nat) : (s.setFld f v).rad = s.rad := rfl
@[simp] theorem State.setFld_eth (s : State) (f : Fld) (v : Nat) : (s.setFld f v).eth = s.eth := rfl
@[simp] theorem State.setFld_mtr (s : State) (f : Fld) (v : Nat) : (s.setFld f v).mtr = s.mtr := rfl
@[simp] theorem State.setFld_que (s : State) (f : Fld) (v : Nat) : (s.setFld f v).que = s.que := rfl
@[simp] theorem State.setFld_sch (s : State) (f : Fld) (v : Nat) : (s.setFld f v).sch = s.sch := rfl
@[simp] theorem State.setFld_arb (s : State) (f : Fld) (v : Nat) : (s.setFld f v).arb = s.arb := rfl
@[simp] theorem State.setFld_lan (s : State) (f : Fld) (v : Nat) : (s.setFld f v).lan = s.lan := rfl
@[simp] theorem State.setFld_fuses (s : State) (f : Fld) (v : Nat) : (s.setFld f v).fuses = s.fuses := rfl
@[simp] theorem State.setFld_sec (s : State) (f : Fld) (v : Nat) : (s.setFld f v).sec = s.sec := rfl
@[simp] theorem State.setFld_upd (s : State) (f : Fld) (v : Nat) : (s.setFld f v).upd = s.upd := rfl
@[simp] theorem State.setFld_cbk (s : State) (f : Fld) (v : Nat) : (s.setFld f v).cbk = s.cbk := rfl
@[simp] theorem State.setFld_pwr (s : State) (f : Fld) (v : Nat) : (s.setFld f v).pwr = s.pwr := rfl
@[simp] theorem State.setFld_vbat (s : State) (f : Fld) (v : Nat) : (s.setFld f v).vbat = s.vbat := rfl
@[simp] theorem State.setFld_tst (s : State) (f : Fld) (v : Nat) : (s.setFld f v).tst = s.tst := rfl
@[simp] theorem State.setFld_nor (s : State) (f : Fld) (v : Nat) : (s.setFld f v).nor = s.nor := rfl

/-! `State.satInc`: a counter field counts and holds at its largest value. -/

@[simp] theorem State.satInc_pending (s : State) (f : Fld) : (s.satInc f).pending = s.pending := rfl
@[simp] theorem State.satInc_free (s : State) (f : Fld) : (s.satInc f).free = s.free := rfl
@[simp] theorem State.satInc_outs (s : State) (f : Fld) : (s.satInc f).outs = s.outs := rfl
@[simp] theorem State.satInc_dram (s : State) (f : Fld) : (s.satInc f).dram = s.dram := rfl
@[simp] theorem State.satInc_pins (s : State) (f : Fld) : (s.satInc f).pins = s.pins := rfl
@[simp] theorem State.satInc_time (s : State) (f : Fld) : (s.satInc f).time = s.time := rfl
@[simp] theorem State.satInc_svb (s : State) (f : Fld) : (s.satInc f).svb = s.svb := rfl
@[simp] theorem State.satInc_eng (s : State) (f : Fld) : (s.satInc f).eng = s.eng := rfl
@[simp] theorem State.satInc_sky (s : State) (f : Fld) : (s.satInc f).sky = s.sky := rfl
@[simp] theorem State.satInc_rtk (s : State) (f : Fld) : (s.satInc f).rtk = s.rtk := rfl
@[simp] theorem State.satInc_snp (s : State) (f : Fld) : (s.satInc f).snp = s.snp := rfl
@[simp] theorem State.satInc_sbx (s : State) (f : Fld) : (s.satInc f).sbx = s.sbx := rfl
@[simp] theorem State.satInc_alt (s : State) (f : Fld) : (s.satInc f).alt = s.alt := rfl
@[simp] theorem State.satInc_ttb (s : State) (f : Fld) : (s.satInc f).ttb = s.ttb := rfl
@[simp] theorem State.satInc_stp (s : State) (f : Fld) : (s.satInc f).stp = s.stp := rfl
@[simp] theorem State.satInc_rad (s : State) (f : Fld) : (s.satInc f).rad = s.rad := rfl
@[simp] theorem State.satInc_eth (s : State) (f : Fld) : (s.satInc f).eth = s.eth := rfl
@[simp] theorem State.satInc_mtr (s : State) (f : Fld) : (s.satInc f).mtr = s.mtr := rfl
@[simp] theorem State.satInc_que (s : State) (f : Fld) : (s.satInc f).que = s.que := rfl
@[simp] theorem State.satInc_sch (s : State) (f : Fld) : (s.satInc f).sch = s.sch := rfl
@[simp] theorem State.satInc_arb (s : State) (f : Fld) : (s.satInc f).arb = s.arb := rfl
@[simp] theorem State.satInc_lan (s : State) (f : Fld) : (s.satInc f).lan = s.lan := rfl
@[simp] theorem State.satInc_fuses (s : State) (f : Fld) : (s.satInc f).fuses = s.fuses := rfl
@[simp] theorem State.satInc_sec (s : State) (f : Fld) : (s.satInc f).sec = s.sec := rfl
@[simp] theorem State.satInc_upd (s : State) (f : Fld) : (s.satInc f).upd = s.upd := rfl
@[simp] theorem State.satInc_cbk (s : State) (f : Fld) : (s.satInc f).cbk = s.cbk := rfl
@[simp] theorem State.satInc_pwr (s : State) (f : Fld) : (s.satInc f).pwr = s.pwr := rfl
@[simp] theorem State.satInc_vbat (s : State) (f : Fld) : (s.satInc f).vbat = s.vbat := rfl
@[simp] theorem State.satInc_tst (s : State) (f : Fld) : (s.satInc f).tst = s.tst := rfl
@[simp] theorem State.satInc_nor (s : State) (f : Fld) : (s.satInc f).nor = s.nor := rfl

/-! `State.satAdd`: a counter field counts by a number and holds at its largest value. -/

@[simp] theorem State.satAdd_pending (s : State) (f : Fld) (n : Nat) : (s.satAdd f n).pending = s.pending := rfl
@[simp] theorem State.satAdd_free (s : State) (f : Fld) (n : Nat) : (s.satAdd f n).free = s.free := rfl
@[simp] theorem State.satAdd_outs (s : State) (f : Fld) (n : Nat) : (s.satAdd f n).outs = s.outs := rfl
@[simp] theorem State.satAdd_dram (s : State) (f : Fld) (n : Nat) : (s.satAdd f n).dram = s.dram := rfl
@[simp] theorem State.satAdd_pins (s : State) (f : Fld) (n : Nat) : (s.satAdd f n).pins = s.pins := rfl
@[simp] theorem State.satAdd_time (s : State) (f : Fld) (n : Nat) : (s.satAdd f n).time = s.time := rfl
@[simp] theorem State.satAdd_svb (s : State) (f : Fld) (n : Nat) : (s.satAdd f n).svb = s.svb := rfl
@[simp] theorem State.satAdd_eng (s : State) (f : Fld) (n : Nat) : (s.satAdd f n).eng = s.eng := rfl
@[simp] theorem State.satAdd_sky (s : State) (f : Fld) (n : Nat) : (s.satAdd f n).sky = s.sky := rfl
@[simp] theorem State.satAdd_rtk (s : State) (f : Fld) (n : Nat) : (s.satAdd f n).rtk = s.rtk := rfl
@[simp] theorem State.satAdd_snp (s : State) (f : Fld) (n : Nat) : (s.satAdd f n).snp = s.snp := rfl
@[simp] theorem State.satAdd_sbx (s : State) (f : Fld) (n : Nat) : (s.satAdd f n).sbx = s.sbx := rfl
@[simp] theorem State.satAdd_alt (s : State) (f : Fld) (n : Nat) : (s.satAdd f n).alt = s.alt := rfl
@[simp] theorem State.satAdd_ttb (s : State) (f : Fld) (n : Nat) : (s.satAdd f n).ttb = s.ttb := rfl
@[simp] theorem State.satAdd_stp (s : State) (f : Fld) (n : Nat) : (s.satAdd f n).stp = s.stp := rfl
@[simp] theorem State.satAdd_rad (s : State) (f : Fld) (n : Nat) : (s.satAdd f n).rad = s.rad := rfl
@[simp] theorem State.satAdd_eth (s : State) (f : Fld) (n : Nat) : (s.satAdd f n).eth = s.eth := rfl
@[simp] theorem State.satAdd_mtr (s : State) (f : Fld) (n : Nat) : (s.satAdd f n).mtr = s.mtr := rfl
@[simp] theorem State.satAdd_que (s : State) (f : Fld) (n : Nat) : (s.satAdd f n).que = s.que := rfl
@[simp] theorem State.satAdd_sch (s : State) (f : Fld) (n : Nat) : (s.satAdd f n).sch = s.sch := rfl
@[simp] theorem State.satAdd_arb (s : State) (f : Fld) (n : Nat) : (s.satAdd f n).arb = s.arb := rfl
@[simp] theorem State.satAdd_lan (s : State) (f : Fld) (n : Nat) : (s.satAdd f n).lan = s.lan := rfl
@[simp] theorem State.satAdd_fuses (s : State) (f : Fld) (n : Nat) : (s.satAdd f n).fuses = s.fuses := rfl
@[simp] theorem State.satAdd_sec (s : State) (f : Fld) (n : Nat) : (s.satAdd f n).sec = s.sec := rfl
@[simp] theorem State.satAdd_upd (s : State) (f : Fld) (n : Nat) : (s.satAdd f n).upd = s.upd := rfl
@[simp] theorem State.satAdd_cbk (s : State) (f : Fld) (n : Nat) : (s.satAdd f n).cbk = s.cbk := rfl
@[simp] theorem State.satAdd_pwr (s : State) (f : Fld) (n : Nat) : (s.satAdd f n).pwr = s.pwr := rfl
@[simp] theorem State.satAdd_vbat (s : State) (f : Fld) (n : Nat) : (s.satAdd f n).vbat = s.vbat := rfl
@[simp] theorem State.satAdd_tst (s : State) (f : Fld) (n : Nat) : (s.satAdd f n).tst = s.tst := rfl
@[simp] theorem State.satAdd_nor (s : State) (f : Fld) (n : Nat) : (s.satAdd f n).nor = s.nor := rfl

/-! `State.incFld`: a counter field counts modulo its width. -/

@[simp] theorem State.incFld_pending (s : State) (f : Fld) : (s.incFld f).pending = s.pending := rfl
@[simp] theorem State.incFld_free (s : State) (f : Fld) : (s.incFld f).free = s.free := rfl
@[simp] theorem State.incFld_outs (s : State) (f : Fld) : (s.incFld f).outs = s.outs := rfl
@[simp] theorem State.incFld_dram (s : State) (f : Fld) : (s.incFld f).dram = s.dram := rfl
@[simp] theorem State.incFld_pins (s : State) (f : Fld) : (s.incFld f).pins = s.pins := rfl
@[simp] theorem State.incFld_time (s : State) (f : Fld) : (s.incFld f).time = s.time := rfl
@[simp] theorem State.incFld_svb (s : State) (f : Fld) : (s.incFld f).svb = s.svb := rfl
@[simp] theorem State.incFld_eng (s : State) (f : Fld) : (s.incFld f).eng = s.eng := rfl
@[simp] theorem State.incFld_sky (s : State) (f : Fld) : (s.incFld f).sky = s.sky := rfl
@[simp] theorem State.incFld_rtk (s : State) (f : Fld) : (s.incFld f).rtk = s.rtk := rfl
@[simp] theorem State.incFld_snp (s : State) (f : Fld) : (s.incFld f).snp = s.snp := rfl
@[simp] theorem State.incFld_sbx (s : State) (f : Fld) : (s.incFld f).sbx = s.sbx := rfl
@[simp] theorem State.incFld_alt (s : State) (f : Fld) : (s.incFld f).alt = s.alt := rfl
@[simp] theorem State.incFld_ttb (s : State) (f : Fld) : (s.incFld f).ttb = s.ttb := rfl
@[simp] theorem State.incFld_stp (s : State) (f : Fld) : (s.incFld f).stp = s.stp := rfl
@[simp] theorem State.incFld_rad (s : State) (f : Fld) : (s.incFld f).rad = s.rad := rfl
@[simp] theorem State.incFld_eth (s : State) (f : Fld) : (s.incFld f).eth = s.eth := rfl
@[simp] theorem State.incFld_mtr (s : State) (f : Fld) : (s.incFld f).mtr = s.mtr := rfl
@[simp] theorem State.incFld_que (s : State) (f : Fld) : (s.incFld f).que = s.que := rfl
@[simp] theorem State.incFld_sch (s : State) (f : Fld) : (s.incFld f).sch = s.sch := rfl
@[simp] theorem State.incFld_arb (s : State) (f : Fld) : (s.incFld f).arb = s.arb := rfl
@[simp] theorem State.incFld_lan (s : State) (f : Fld) : (s.incFld f).lan = s.lan := rfl
@[simp] theorem State.incFld_fuses (s : State) (f : Fld) : (s.incFld f).fuses = s.fuses := rfl
@[simp] theorem State.incFld_sec (s : State) (f : Fld) : (s.incFld f).sec = s.sec := rfl
@[simp] theorem State.incFld_upd (s : State) (f : Fld) : (s.incFld f).upd = s.upd := rfl
@[simp] theorem State.incFld_cbk (s : State) (f : Fld) : (s.incFld f).cbk = s.cbk := rfl
@[simp] theorem State.incFld_pwr (s : State) (f : Fld) : (s.incFld f).pwr = s.pwr := rfl
@[simp] theorem State.incFld_vbat (s : State) (f : Fld) : (s.incFld f).vbat = s.vbat := rfl
@[simp] theorem State.incFld_tst (s : State) (f : Fld) : (s.incFld f).tst = s.tst := rfl
@[simp] theorem State.incFld_nor (s : State) (f : Fld) : (s.incFld f).nor = s.nor := rfl

/-! `State.setPend`: an event source's pending bit is set or cleared. -/

@[simp] theorem State.setPend_pending (s : State) (n : Nat) (b : Bool) : (s.setPend n b).pending = s.pending := rfl
@[simp] theorem State.setPend_free (s : State) (n : Nat) (b : Bool) : (s.setPend n b).free = s.free := rfl
@[simp] theorem State.setPend_outs (s : State) (n : Nat) (b : Bool) : (s.setPend n b).outs = s.outs := rfl
@[simp] theorem State.setPend_dram (s : State) (n : Nat) (b : Bool) : (s.setPend n b).dram = s.dram := rfl
@[simp] theorem State.setPend_pins (s : State) (n : Nat) (b : Bool) : (s.setPend n b).pins = s.pins := rfl
@[simp] theorem State.setPend_time (s : State) (n : Nat) (b : Bool) : (s.setPend n b).time = s.time := rfl
@[simp] theorem State.setPend_svb (s : State) (n : Nat) (b : Bool) : (s.setPend n b).svb = s.svb := rfl
@[simp] theorem State.setPend_eng (s : State) (n : Nat) (b : Bool) : (s.setPend n b).eng = s.eng := rfl
@[simp] theorem State.setPend_sky (s : State) (n : Nat) (b : Bool) : (s.setPend n b).sky = s.sky := rfl
@[simp] theorem State.setPend_rtk (s : State) (n : Nat) (b : Bool) : (s.setPend n b).rtk = s.rtk := rfl
@[simp] theorem State.setPend_snp (s : State) (n : Nat) (b : Bool) : (s.setPend n b).snp = s.snp := rfl
@[simp] theorem State.setPend_sbx (s : State) (n : Nat) (b : Bool) : (s.setPend n b).sbx = s.sbx := rfl
@[simp] theorem State.setPend_alt (s : State) (n : Nat) (b : Bool) : (s.setPend n b).alt = s.alt := rfl
@[simp] theorem State.setPend_ttb (s : State) (n : Nat) (b : Bool) : (s.setPend n b).ttb = s.ttb := rfl
@[simp] theorem State.setPend_stp (s : State) (n : Nat) (b : Bool) : (s.setPend n b).stp = s.stp := rfl
@[simp] theorem State.setPend_rad (s : State) (n : Nat) (b : Bool) : (s.setPend n b).rad = s.rad := rfl
@[simp] theorem State.setPend_eth (s : State) (n : Nat) (b : Bool) : (s.setPend n b).eth = s.eth := rfl
@[simp] theorem State.setPend_mtr (s : State) (n : Nat) (b : Bool) : (s.setPend n b).mtr = s.mtr := rfl
@[simp] theorem State.setPend_que (s : State) (n : Nat) (b : Bool) : (s.setPend n b).que = s.que := rfl
@[simp] theorem State.setPend_sch (s : State) (n : Nat) (b : Bool) : (s.setPend n b).sch = s.sch := rfl
@[simp] theorem State.setPend_arb (s : State) (n : Nat) (b : Bool) : (s.setPend n b).arb = s.arb := rfl
@[simp] theorem State.setPend_lan (s : State) (n : Nat) (b : Bool) : (s.setPend n b).lan = s.lan := rfl
@[simp] theorem State.setPend_fuses (s : State) (n : Nat) (b : Bool) : (s.setPend n b).fuses = s.fuses := rfl
@[simp] theorem State.setPend_sec (s : State) (n : Nat) (b : Bool) : (s.setPend n b).sec = s.sec := rfl
@[simp] theorem State.setPend_upd (s : State) (n : Nat) (b : Bool) : (s.setPend n b).upd = s.upd := rfl
@[simp] theorem State.setPend_cbk (s : State) (n : Nat) (b : Bool) : (s.setPend n b).cbk = s.cbk := rfl
@[simp] theorem State.setPend_pwr (s : State) (n : Nat) (b : Bool) : (s.setPend n b).pwr = s.pwr := rfl
@[simp] theorem State.setPend_vbat (s : State) (n : Nat) (b : Bool) : (s.setPend n b).vbat = s.vbat := rfl
@[simp] theorem State.setPend_tst (s : State) (n : Nat) (b : Bool) : (s.setPend n b).tst = s.tst := rfl
@[simp] theorem State.setPend_nor (s : State) (n : Nat) (b : Bool) : (s.setPend n b).nor = s.nor := rfl

/-! `State.syncIrq`: the interrupt pins follow the pending bits (R413). -/

/-- Bringing the pins up to date writes EVT_STAT and the pins. -/
theorem State.syncIrq_eq (s : State) :
    ∃ u n p, s.syncIrq = ({ (s.setFld F.EVT_STAT_URGENT u).setFld F.EVT_STAT_NORMAL n with pins := p } : State) :=
  ⟨_, _, _, rfl⟩

/-- What holds through a change of the pins and of a field holds through bringing the pins up to date. -/
theorem State.syncIrq_part {α : Type} (g : State → α) (hp : ∀ (t : State) p, g { t with pins := p } = g t)
    (hf : ∀ (t : State) f v, g (t.setFld f v) = g t) (s : State) : g s.syncIrq = g s := by
  obtain ⟨u, n, p, h⟩ := s.syncIrq_eq
  rw [h, hp, hf, hf]

@[simp] theorem State.syncIrq_pending (s : State) : s.syncIrq.pending = s.pending := 
  State.syncIrq_part _ (fun _ _ => rfl) State.setFld_pending s
@[simp] theorem State.syncIrq_free (s : State) : s.syncIrq.free = s.free := 
  State.syncIrq_part _ (fun _ _ => rfl) State.setFld_free s
@[simp] theorem State.syncIrq_outs (s : State) : s.syncIrq.outs = s.outs := 
  State.syncIrq_part _ (fun _ _ => rfl) State.setFld_outs s
@[simp] theorem State.syncIrq_dram (s : State) : s.syncIrq.dram = s.dram := 
  State.syncIrq_part _ (fun _ _ => rfl) State.setFld_dram s
@[simp] theorem State.syncIrq_time (s : State) : s.syncIrq.time = s.time := 
  State.syncIrq_part _ (fun _ _ => rfl) State.setFld_time s
@[simp] theorem State.syncIrq_svb (s : State) : s.syncIrq.svb = s.svb := 
  State.syncIrq_part _ (fun _ _ => rfl) State.setFld_svb s
@[simp] theorem State.syncIrq_eng (s : State) : s.syncIrq.eng = s.eng := 
  State.syncIrq_part _ (fun _ _ => rfl) State.setFld_eng s
@[simp] theorem State.syncIrq_sky (s : State) : s.syncIrq.sky = s.sky := 
  State.syncIrq_part _ (fun _ _ => rfl) State.setFld_sky s
@[simp] theorem State.syncIrq_rtk (s : State) : s.syncIrq.rtk = s.rtk := 
  State.syncIrq_part _ (fun _ _ => rfl) State.setFld_rtk s
@[simp] theorem State.syncIrq_snp (s : State) : s.syncIrq.snp = s.snp := 
  State.syncIrq_part _ (fun _ _ => rfl) State.setFld_snp s
@[simp] theorem State.syncIrq_sbx (s : State) : s.syncIrq.sbx = s.sbx := 
  State.syncIrq_part _ (fun _ _ => rfl) State.setFld_sbx s
@[simp] theorem State.syncIrq_alt (s : State) : s.syncIrq.alt = s.alt := 
  State.syncIrq_part _ (fun _ _ => rfl) State.setFld_alt s
@[simp] theorem State.syncIrq_ttb (s : State) : s.syncIrq.ttb = s.ttb := 
  State.syncIrq_part _ (fun _ _ => rfl) State.setFld_ttb s
@[simp] theorem State.syncIrq_stp (s : State) : s.syncIrq.stp = s.stp := 
  State.syncIrq_part _ (fun _ _ => rfl) State.setFld_stp s
@[simp] theorem State.syncIrq_rad (s : State) : s.syncIrq.rad = s.rad := 
  State.syncIrq_part _ (fun _ _ => rfl) State.setFld_rad s
@[simp] theorem State.syncIrq_eth (s : State) : s.syncIrq.eth = s.eth := 
  State.syncIrq_part _ (fun _ _ => rfl) State.setFld_eth s
@[simp] theorem State.syncIrq_mtr (s : State) : s.syncIrq.mtr = s.mtr := 
  State.syncIrq_part _ (fun _ _ => rfl) State.setFld_mtr s
@[simp] theorem State.syncIrq_que (s : State) : s.syncIrq.que = s.que := 
  State.syncIrq_part _ (fun _ _ => rfl) State.setFld_que s
@[simp] theorem State.syncIrq_sch (s : State) : s.syncIrq.sch = s.sch := 
  State.syncIrq_part _ (fun _ _ => rfl) State.setFld_sch s
@[simp] theorem State.syncIrq_arb (s : State) : s.syncIrq.arb = s.arb := 
  State.syncIrq_part _ (fun _ _ => rfl) State.setFld_arb s
@[simp] theorem State.syncIrq_lan (s : State) : s.syncIrq.lan = s.lan := 
  State.syncIrq_part _ (fun _ _ => rfl) State.setFld_lan s
@[simp] theorem State.syncIrq_fuses (s : State) : s.syncIrq.fuses = s.fuses := 
  State.syncIrq_part _ (fun _ _ => rfl) State.setFld_fuses s
@[simp] theorem State.syncIrq_sec (s : State) : s.syncIrq.sec = s.sec := 
  State.syncIrq_part _ (fun _ _ => rfl) State.setFld_sec s
@[simp] theorem State.syncIrq_upd (s : State) : s.syncIrq.upd = s.upd := 
  State.syncIrq_part _ (fun _ _ => rfl) State.setFld_upd s
@[simp] theorem State.syncIrq_cbk (s : State) : s.syncIrq.cbk = s.cbk := 
  State.syncIrq_part _ (fun _ _ => rfl) State.setFld_cbk s
@[simp] theorem State.syncIrq_pwr (s : State) : s.syncIrq.pwr = s.pwr := 
  State.syncIrq_part _ (fun _ _ => rfl) State.setFld_pwr s
@[simp] theorem State.syncIrq_vbat (s : State) : s.syncIrq.vbat = s.vbat := 
  State.syncIrq_part _ (fun _ _ => rfl) State.setFld_vbat s
@[simp] theorem State.syncIrq_tst (s : State) : s.syncIrq.tst = s.tst := 
  State.syncIrq_part _ (fun _ _ => rfl) State.setFld_tst s
@[simp] theorem State.syncIrq_nor (s : State) : s.syncIrq.nor = s.nor := 
  State.syncIrq_part _ (fun _ _ => rfl) State.setFld_nor s

/-! `State.syncSess`: SYS_SVB_STAT follows a session. -/

@[simp] theorem State.syncSess_pending (s : State) (i : Nat) : (s.syncSess i).pending = s.pending := rfl
@[simp] theorem State.syncSess_free (s : State) (i : Nat) : (s.syncSess i).free = s.free := rfl
@[simp] theorem State.syncSess_outs (s : State) (i : Nat) : (s.syncSess i).outs = s.outs := rfl
@[simp] theorem State.syncSess_dram (s : State) (i : Nat) : (s.syncSess i).dram = s.dram := rfl
@[simp] theorem State.syncSess_pins (s : State) (i : Nat) : (s.syncSess i).pins = s.pins := rfl
@[simp] theorem State.syncSess_time (s : State) (i : Nat) : (s.syncSess i).time = s.time := rfl
@[simp] theorem State.syncSess_svb (s : State) (i : Nat) : (s.syncSess i).svb = s.svb := rfl
@[simp] theorem State.syncSess_eng (s : State) (i : Nat) : (s.syncSess i).eng = s.eng := rfl
@[simp] theorem State.syncSess_sky (s : State) (i : Nat) : (s.syncSess i).sky = s.sky := rfl
@[simp] theorem State.syncSess_rtk (s : State) (i : Nat) : (s.syncSess i).rtk = s.rtk := rfl
@[simp] theorem State.syncSess_snp (s : State) (i : Nat) : (s.syncSess i).snp = s.snp := rfl
@[simp] theorem State.syncSess_sbx (s : State) (i : Nat) : (s.syncSess i).sbx = s.sbx := rfl
@[simp] theorem State.syncSess_alt (s : State) (i : Nat) : (s.syncSess i).alt = s.alt := rfl
@[simp] theorem State.syncSess_ttb (s : State) (i : Nat) : (s.syncSess i).ttb = s.ttb := rfl
@[simp] theorem State.syncSess_stp (s : State) (i : Nat) : (s.syncSess i).stp = s.stp := rfl
@[simp] theorem State.syncSess_rad (s : State) (i : Nat) : (s.syncSess i).rad = s.rad := rfl
@[simp] theorem State.syncSess_eth (s : State) (i : Nat) : (s.syncSess i).eth = s.eth := rfl
@[simp] theorem State.syncSess_mtr (s : State) (i : Nat) : (s.syncSess i).mtr = s.mtr := rfl
@[simp] theorem State.syncSess_que (s : State) (i : Nat) : (s.syncSess i).que = s.que := rfl
@[simp] theorem State.syncSess_sch (s : State) (i : Nat) : (s.syncSess i).sch = s.sch := rfl
@[simp] theorem State.syncSess_arb (s : State) (i : Nat) : (s.syncSess i).arb = s.arb := rfl
@[simp] theorem State.syncSess_lan (s : State) (i : Nat) : (s.syncSess i).lan = s.lan := rfl
@[simp] theorem State.syncSess_fuses (s : State) (i : Nat) : (s.syncSess i).fuses = s.fuses := rfl
@[simp] theorem State.syncSess_sec (s : State) (i : Nat) : (s.syncSess i).sec = s.sec := rfl
@[simp] theorem State.syncSess_upd (s : State) (i : Nat) : (s.syncSess i).upd = s.upd := rfl
@[simp] theorem State.syncSess_cbk (s : State) (i : Nat) : (s.syncSess i).cbk = s.cbk := rfl
@[simp] theorem State.syncSess_pwr (s : State) (i : Nat) : (s.syncSess i).pwr = s.pwr := rfl
@[simp] theorem State.syncSess_vbat (s : State) (i : Nat) : (s.syncSess i).vbat = s.vbat := rfl
@[simp] theorem State.syncSess_tst (s : State) (i : Nat) : (s.syncSess i).tst = s.tst := rfl
@[simp] theorem State.syncSess_nor (s : State) (i : Nat) : (s.syncSess i).nor = s.nor := rfl

/-! `State.setSess`: a session is replaced. -/

@[simp] theorem State.setSess_pending (s : State) (i : Nat) (ss : Session) : (s.setSess i ss).pending = s.pending := rfl
@[simp] theorem State.setSess_free (s : State) (i : Nat) (ss : Session) : (s.setSess i ss).free = s.free := rfl
@[simp] theorem State.setSess_outs (s : State) (i : Nat) (ss : Session) : (s.setSess i ss).outs = s.outs := rfl
@[simp] theorem State.setSess_dram (s : State) (i : Nat) (ss : Session) : (s.setSess i ss).dram = s.dram := rfl
@[simp] theorem State.setSess_pins (s : State) (i : Nat) (ss : Session) : (s.setSess i ss).pins = s.pins := rfl
@[simp] theorem State.setSess_time (s : State) (i : Nat) (ss : Session) : (s.setSess i ss).time = s.time := rfl
@[simp] theorem State.setSess_eng (s : State) (i : Nat) (ss : Session) : (s.setSess i ss).eng = s.eng := rfl
@[simp] theorem State.setSess_sky (s : State) (i : Nat) (ss : Session) : (s.setSess i ss).sky = s.sky := rfl
@[simp] theorem State.setSess_rtk (s : State) (i : Nat) (ss : Session) : (s.setSess i ss).rtk = s.rtk := rfl
@[simp] theorem State.setSess_snp (s : State) (i : Nat) (ss : Session) : (s.setSess i ss).snp = s.snp := rfl
@[simp] theorem State.setSess_sbx (s : State) (i : Nat) (ss : Session) : (s.setSess i ss).sbx = s.sbx := rfl
@[simp] theorem State.setSess_alt (s : State) (i : Nat) (ss : Session) : (s.setSess i ss).alt = s.alt := rfl
@[simp] theorem State.setSess_ttb (s : State) (i : Nat) (ss : Session) : (s.setSess i ss).ttb = s.ttb := rfl
@[simp] theorem State.setSess_stp (s : State) (i : Nat) (ss : Session) : (s.setSess i ss).stp = s.stp := rfl
@[simp] theorem State.setSess_rad (s : State) (i : Nat) (ss : Session) : (s.setSess i ss).rad = s.rad := rfl
@[simp] theorem State.setSess_eth (s : State) (i : Nat) (ss : Session) : (s.setSess i ss).eth = s.eth := rfl
@[simp] theorem State.setSess_mtr (s : State) (i : Nat) (ss : Session) : (s.setSess i ss).mtr = s.mtr := rfl
@[simp] theorem State.setSess_que (s : State) (i : Nat) (ss : Session) : (s.setSess i ss).que = s.que := rfl
@[simp] theorem State.setSess_sch (s : State) (i : Nat) (ss : Session) : (s.setSess i ss).sch = s.sch := rfl
@[simp] theorem State.setSess_arb (s : State) (i : Nat) (ss : Session) : (s.setSess i ss).arb = s.arb := rfl
@[simp] theorem State.setSess_lan (s : State) (i : Nat) (ss : Session) : (s.setSess i ss).lan = s.lan := rfl
@[simp] theorem State.setSess_fuses (s : State) (i : Nat) (ss : Session) : (s.setSess i ss).fuses = s.fuses := rfl
@[simp] theorem State.setSess_sec (s : State) (i : Nat) (ss : Session) : (s.setSess i ss).sec = s.sec := rfl
@[simp] theorem State.setSess_upd (s : State) (i : Nat) (ss : Session) : (s.setSess i ss).upd = s.upd := rfl
@[simp] theorem State.setSess_cbk (s : State) (i : Nat) (ss : Session) : (s.setSess i ss).cbk = s.cbk := rfl
@[simp] theorem State.setSess_pwr (s : State) (i : Nat) (ss : Session) : (s.setSess i ss).pwr = s.pwr := rfl
@[simp] theorem State.setSess_vbat (s : State) (i : Nat) (ss : Session) : (s.setSess i ss).vbat = s.vbat := rfl
@[simp] theorem State.setSess_tst (s : State) (i : Nat) (ss : Session) : (s.setSess i ss).tst = s.tst := rfl
@[simp] theorem State.setSess_nor (s : State) (i : Nat) (ss : Session) : (s.setSess i ss).nor = s.nor := rfl
@[simp] theorem State.setSess_table (s : State) (i : Nat) (ss : Session) : (s.setSess i ss).svb.sess = Tbl.put (Session.initial i) s.svb.sess i ss := rfl

/-! `State.emit`: an output leaves. -/

@[simp] theorem State.emit_pending (s : State) (o : Output) : (s.emit o).pending = s.pending := rfl
@[simp] theorem State.emit_free (s : State) (o : Output) : (s.emit o).free = s.free := rfl
@[simp] theorem State.emit_regs (s : State) (o : Output) : (s.emit o).regs = s.regs := rfl
@[simp] theorem State.emit_dram (s : State) (o : Output) : (s.emit o).dram = s.dram := rfl
@[simp] theorem State.emit_pins (s : State) (o : Output) : (s.emit o).pins = s.pins := rfl
@[simp] theorem State.emit_time (s : State) (o : Output) : (s.emit o).time = s.time := rfl
@[simp] theorem State.emit_svb (s : State) (o : Output) : (s.emit o).svb = s.svb := rfl
@[simp] theorem State.emit_eng (s : State) (o : Output) : (s.emit o).eng = s.eng := rfl
@[simp] theorem State.emit_sky (s : State) (o : Output) : (s.emit o).sky = s.sky := rfl
@[simp] theorem State.emit_rtk (s : State) (o : Output) : (s.emit o).rtk = s.rtk := rfl
@[simp] theorem State.emit_snp (s : State) (o : Output) : (s.emit o).snp = s.snp := rfl
@[simp] theorem State.emit_sbx (s : State) (o : Output) : (s.emit o).sbx = s.sbx := rfl
@[simp] theorem State.emit_alt (s : State) (o : Output) : (s.emit o).alt = s.alt := rfl
@[simp] theorem State.emit_ttb (s : State) (o : Output) : (s.emit o).ttb = s.ttb := rfl
@[simp] theorem State.emit_stp (s : State) (o : Output) : (s.emit o).stp = s.stp := rfl
@[simp] theorem State.emit_rad (s : State) (o : Output) : (s.emit o).rad = s.rad := rfl
@[simp] theorem State.emit_eth (s : State) (o : Output) : (s.emit o).eth = s.eth := rfl
@[simp] theorem State.emit_mtr (s : State) (o : Output) : (s.emit o).mtr = s.mtr := rfl
@[simp] theorem State.emit_que (s : State) (o : Output) : (s.emit o).que = s.que := rfl
@[simp] theorem State.emit_sch (s : State) (o : Output) : (s.emit o).sch = s.sch := rfl
@[simp] theorem State.emit_arb (s : State) (o : Output) : (s.emit o).arb = s.arb := rfl
@[simp] theorem State.emit_lan (s : State) (o : Output) : (s.emit o).lan = s.lan := rfl
@[simp] theorem State.emit_fuses (s : State) (o : Output) : (s.emit o).fuses = s.fuses := rfl
@[simp] theorem State.emit_sec (s : State) (o : Output) : (s.emit o).sec = s.sec := rfl
@[simp] theorem State.emit_upd (s : State) (o : Output) : (s.emit o).upd = s.upd := rfl
@[simp] theorem State.emit_cbk (s : State) (o : Output) : (s.emit o).cbk = s.cbk := rfl
@[simp] theorem State.emit_pwr (s : State) (o : Output) : (s.emit o).pwr = s.pwr := rfl
@[simp] theorem State.emit_vbat (s : State) (o : Output) : (s.emit o).vbat = s.vbat := rfl
@[simp] theorem State.emit_tst (s : State) (o : Output) : (s.emit o).tst = s.tst := rfl
@[simp] theorem State.emit_nor (s : State) (o : Output) : (s.emit o).nor = s.nor := rfl
@[simp] theorem State.emit_outs (s : State) (o : Output) : (s.emit o).outs = s.outs ++ [o] := rfl

/-! `State.drew`: draws are used. -/

@[simp] theorem State.drew_pending (s : State) (n : Nat) : (s.drew n).pending = s.pending := rfl
@[simp] theorem State.drew_outs (s : State) (n : Nat) : (s.drew n).outs = s.outs := rfl
@[simp] theorem State.drew_regs (s : State) (n : Nat) : (s.drew n).regs = s.regs := rfl
@[simp] theorem State.drew_dram (s : State) (n : Nat) : (s.drew n).dram = s.dram := rfl
@[simp] theorem State.drew_pins (s : State) (n : Nat) : (s.drew n).pins = s.pins := rfl
@[simp] theorem State.drew_time (s : State) (n : Nat) : (s.drew n).time = s.time := rfl
@[simp] theorem State.drew_svb (s : State) (n : Nat) : (s.drew n).svb = s.svb := rfl
@[simp] theorem State.drew_eng (s : State) (n : Nat) : (s.drew n).eng = s.eng := rfl
@[simp] theorem State.drew_sky (s : State) (n : Nat) : (s.drew n).sky = s.sky := rfl
@[simp] theorem State.drew_rtk (s : State) (n : Nat) : (s.drew n).rtk = s.rtk := rfl
@[simp] theorem State.drew_snp (s : State) (n : Nat) : (s.drew n).snp = s.snp := rfl
@[simp] theorem State.drew_sbx (s : State) (n : Nat) : (s.drew n).sbx = s.sbx := rfl
@[simp] theorem State.drew_alt (s : State) (n : Nat) : (s.drew n).alt = s.alt := rfl
@[simp] theorem State.drew_ttb (s : State) (n : Nat) : (s.drew n).ttb = s.ttb := rfl
@[simp] theorem State.drew_stp (s : State) (n : Nat) : (s.drew n).stp = s.stp := rfl
@[simp] theorem State.drew_rad (s : State) (n : Nat) : (s.drew n).rad = s.rad := rfl
@[simp] theorem State.drew_eth (s : State) (n : Nat) : (s.drew n).eth = s.eth := rfl
@[simp] theorem State.drew_mtr (s : State) (n : Nat) : (s.drew n).mtr = s.mtr := rfl
@[simp] theorem State.drew_que (s : State) (n : Nat) : (s.drew n).que = s.que := rfl
@[simp] theorem State.drew_sch (s : State) (n : Nat) : (s.drew n).sch = s.sch := rfl
@[simp] theorem State.drew_arb (s : State) (n : Nat) : (s.drew n).arb = s.arb := rfl
@[simp] theorem State.drew_lan (s : State) (n : Nat) : (s.drew n).lan = s.lan := rfl
@[simp] theorem State.drew_fuses (s : State) (n : Nat) : (s.drew n).fuses = s.fuses := rfl
@[simp] theorem State.drew_sec (s : State) (n : Nat) : (s.drew n).sec = s.sec := rfl
@[simp] theorem State.drew_upd (s : State) (n : Nat) : (s.drew n).upd = s.upd := rfl
@[simp] theorem State.drew_cbk (s : State) (n : Nat) : (s.drew n).cbk = s.cbk := rfl
@[simp] theorem State.drew_pwr (s : State) (n : Nat) : (s.drew n).pwr = s.pwr := rfl
@[simp] theorem State.drew_vbat (s : State) (n : Nat) : (s.drew n).vbat = s.vbat := rfl
@[simp] theorem State.drew_tst (s : State) (n : Nat) : (s.drew n).tst = s.tst := rfl
@[simp] theorem State.drew_nor (s : State) (n : Nat) : (s.drew n).nor = s.nor := rfl
@[simp] theorem State.drew_free (s : State) (n : Nat) : (s.drew n).free = s.free + n := rfl

/-! `State.laneInput`: a lane input takes its number (R26). -/

@[simp] theorem State.laneInput_pending (s : State) : (s.laneInput).pending = s.pending := rfl
@[simp] theorem State.laneInput_free (s : State) : (s.laneInput).free = s.free := rfl
@[simp] theorem State.laneInput_outs (s : State) : (s.laneInput).outs = s.outs := rfl
@[simp] theorem State.laneInput_regs (s : State) : (s.laneInput).regs = s.regs := rfl
@[simp] theorem State.laneInput_dram (s : State) : (s.laneInput).dram = s.dram := rfl
@[simp] theorem State.laneInput_pins (s : State) : (s.laneInput).pins = s.pins := rfl
@[simp] theorem State.laneInput_svb (s : State) : (s.laneInput).svb = s.svb := rfl
@[simp] theorem State.laneInput_eng (s : State) : (s.laneInput).eng = s.eng := rfl
@[simp] theorem State.laneInput_sky (s : State) : (s.laneInput).sky = s.sky := rfl
@[simp] theorem State.laneInput_rtk (s : State) : (s.laneInput).rtk = s.rtk := rfl
@[simp] theorem State.laneInput_snp (s : State) : (s.laneInput).snp = s.snp := rfl
@[simp] theorem State.laneInput_sbx (s : State) : (s.laneInput).sbx = s.sbx := rfl
@[simp] theorem State.laneInput_alt (s : State) : (s.laneInput).alt = s.alt := rfl
@[simp] theorem State.laneInput_ttb (s : State) : (s.laneInput).ttb = s.ttb := rfl
@[simp] theorem State.laneInput_stp (s : State) : (s.laneInput).stp = s.stp := rfl
@[simp] theorem State.laneInput_rad (s : State) : (s.laneInput).rad = s.rad := rfl
@[simp] theorem State.laneInput_eth (s : State) : (s.laneInput).eth = s.eth := rfl
@[simp] theorem State.laneInput_mtr (s : State) : (s.laneInput).mtr = s.mtr := rfl
@[simp] theorem State.laneInput_que (s : State) : (s.laneInput).que = s.que := rfl
@[simp] theorem State.laneInput_sch (s : State) : (s.laneInput).sch = s.sch := rfl
@[simp] theorem State.laneInput_arb (s : State) : (s.laneInput).arb = s.arb := rfl
@[simp] theorem State.laneInput_lan (s : State) : (s.laneInput).lan = s.lan := rfl
@[simp] theorem State.laneInput_fuses (s : State) : (s.laneInput).fuses = s.fuses := rfl
@[simp] theorem State.laneInput_sec (s : State) : (s.laneInput).sec = s.sec := rfl
@[simp] theorem State.laneInput_upd (s : State) : (s.laneInput).upd = s.upd := rfl
@[simp] theorem State.laneInput_cbk (s : State) : (s.laneInput).cbk = s.cbk := rfl
@[simp] theorem State.laneInput_pwr (s : State) : (s.laneInput).pwr = s.pwr := rfl
@[simp] theorem State.laneInput_vbat (s : State) : (s.laneInput).vbat = s.vbat := rfl
@[simp] theorem State.laneInput_tst (s : State) : (s.laneInput).tst = s.tst := rfl
@[simp] theorem State.laneInput_nor (s : State) : (s.laneInput).nor = s.nor := rfl
@[simp] theorem State.laneInput_inputSeq (s : State) : s.laneInput.time.inputSeq = (s.time.inputSeq + 1) % 2 ^ 32 := rfl

/-! `State.recordAt`: a record goes to the cellar book. -/

@[simp] theorem State.recordAt_pending (s : State) (k : Nat) (p : List Byte) (t : Nat) (l : Bool) : (s.recordAt k p t l).pending = s.pending := rfl
@[simp] theorem State.recordAt_free (s : State) (k : Nat) (p : List Byte) (t : Nat) (l : Bool) : (s.recordAt k p t l).free = s.free := rfl
@[simp] theorem State.recordAt_outs (s : State) (k : Nat) (p : List Byte) (t : Nat) (l : Bool) : (s.recordAt k p t l).outs = s.outs := rfl
@[simp] theorem State.recordAt_regs (s : State) (k : Nat) (p : List Byte) (t : Nat) (l : Bool) : (s.recordAt k p t l).regs = s.regs := rfl
@[simp] theorem State.recordAt_dram (s : State) (k : Nat) (p : List Byte) (t : Nat) (l : Bool) : (s.recordAt k p t l).dram = s.dram := rfl
@[simp] theorem State.recordAt_pins (s : State) (k : Nat) (p : List Byte) (t : Nat) (l : Bool) : (s.recordAt k p t l).pins = s.pins := rfl
@[simp] theorem State.recordAt_time (s : State) (k : Nat) (p : List Byte) (t : Nat) (l : Bool) : (s.recordAt k p t l).time = s.time := rfl
@[simp] theorem State.recordAt_svb (s : State) (k : Nat) (p : List Byte) (t : Nat) (l : Bool) : (s.recordAt k p t l).svb = s.svb := rfl
@[simp] theorem State.recordAt_eng (s : State) (k : Nat) (p : List Byte) (t : Nat) (l : Bool) : (s.recordAt k p t l).eng = s.eng := rfl
@[simp] theorem State.recordAt_sky (s : State) (k : Nat) (p : List Byte) (t : Nat) (l : Bool) : (s.recordAt k p t l).sky = s.sky := rfl
@[simp] theorem State.recordAt_rtk (s : State) (k : Nat) (p : List Byte) (t : Nat) (l : Bool) : (s.recordAt k p t l).rtk = s.rtk := rfl
@[simp] theorem State.recordAt_snp (s : State) (k : Nat) (p : List Byte) (t : Nat) (l : Bool) : (s.recordAt k p t l).snp = s.snp := rfl
@[simp] theorem State.recordAt_sbx (s : State) (k : Nat) (p : List Byte) (t : Nat) (l : Bool) : (s.recordAt k p t l).sbx = s.sbx := rfl
@[simp] theorem State.recordAt_alt (s : State) (k : Nat) (p : List Byte) (t : Nat) (l : Bool) : (s.recordAt k p t l).alt = s.alt := rfl
@[simp] theorem State.recordAt_ttb (s : State) (k : Nat) (p : List Byte) (t : Nat) (l : Bool) : (s.recordAt k p t l).ttb = s.ttb := rfl
@[simp] theorem State.recordAt_stp (s : State) (k : Nat) (p : List Byte) (t : Nat) (l : Bool) : (s.recordAt k p t l).stp = s.stp := rfl
@[simp] theorem State.recordAt_rad (s : State) (k : Nat) (p : List Byte) (t : Nat) (l : Bool) : (s.recordAt k p t l).rad = s.rad := rfl
@[simp] theorem State.recordAt_eth (s : State) (k : Nat) (p : List Byte) (t : Nat) (l : Bool) : (s.recordAt k p t l).eth = s.eth := rfl
@[simp] theorem State.recordAt_mtr (s : State) (k : Nat) (p : List Byte) (t : Nat) (l : Bool) : (s.recordAt k p t l).mtr = s.mtr := rfl
@[simp] theorem State.recordAt_que (s : State) (k : Nat) (p : List Byte) (t : Nat) (l : Bool) : (s.recordAt k p t l).que = s.que := rfl
@[simp] theorem State.recordAt_sch (s : State) (k : Nat) (p : List Byte) (t : Nat) (l : Bool) : (s.recordAt k p t l).sch = s.sch := rfl
@[simp] theorem State.recordAt_arb (s : State) (k : Nat) (p : List Byte) (t : Nat) (l : Bool) : (s.recordAt k p t l).arb = s.arb := rfl
@[simp] theorem State.recordAt_lan (s : State) (k : Nat) (p : List Byte) (t : Nat) (l : Bool) : (s.recordAt k p t l).lan = s.lan := rfl
@[simp] theorem State.recordAt_fuses (s : State) (k : Nat) (p : List Byte) (t : Nat) (l : Bool) : (s.recordAt k p t l).fuses = s.fuses := rfl
@[simp] theorem State.recordAt_sec (s : State) (k : Nat) (p : List Byte) (t : Nat) (l : Bool) : (s.recordAt k p t l).sec = s.sec := rfl
@[simp] theorem State.recordAt_upd (s : State) (k : Nat) (p : List Byte) (t : Nat) (l : Bool) : (s.recordAt k p t l).upd = s.upd := rfl
@[simp] theorem State.recordAt_pwr (s : State) (k : Nat) (p : List Byte) (t : Nat) (l : Bool) : (s.recordAt k p t l).pwr = s.pwr := rfl
@[simp] theorem State.recordAt_vbat (s : State) (k : Nat) (p : List Byte) (t : Nat) (l : Bool) : (s.recordAt k p t l).vbat = s.vbat := rfl
@[simp] theorem State.recordAt_tst (s : State) (k : Nat) (p : List Byte) (t : Nat) (l : Bool) : (s.recordAt k p t l).tst = s.tst := rfl
@[simp] theorem State.recordAt_nor (s : State) (k : Nat) (p : List Byte) (t : Nat) (l : Bool) : (s.recordAt k p t l).nor = s.nor := rfl
@[simp] theorem State.recordAt_q (s : State) (k : Nat) (p : List Byte) (t : Nat) (l : Bool) : (s.recordAt k p t l).cbk.q = s.cbk.q ++ [⟨k, p, t / 1000 % 2 ^ 56, l⟩] := rfl

/-! `State.record`: a record whose cause is now goes to the cellar book. -/

@[simp] theorem State.record_pending (s : State) (k : Nat) (p : List Byte) : (s.record k p).pending = s.pending := rfl
@[simp] theorem State.record_free (s : State) (k : Nat) (p : List Byte) : (s.record k p).free = s.free := rfl
@[simp] theorem State.record_outs (s : State) (k : Nat) (p : List Byte) : (s.record k p).outs = s.outs := rfl
@[simp] theorem State.record_regs (s : State) (k : Nat) (p : List Byte) : (s.record k p).regs = s.regs := rfl
@[simp] theorem State.record_dram (s : State) (k : Nat) (p : List Byte) : (s.record k p).dram = s.dram := rfl
@[simp] theorem State.record_pins (s : State) (k : Nat) (p : List Byte) : (s.record k p).pins = s.pins := rfl
@[simp] theorem State.record_time (s : State) (k : Nat) (p : List Byte) : (s.record k p).time = s.time := rfl
@[simp] theorem State.record_svb (s : State) (k : Nat) (p : List Byte) : (s.record k p).svb = s.svb := rfl
@[simp] theorem State.record_eng (s : State) (k : Nat) (p : List Byte) : (s.record k p).eng = s.eng := rfl
@[simp] theorem State.record_sky (s : State) (k : Nat) (p : List Byte) : (s.record k p).sky = s.sky := rfl
@[simp] theorem State.record_rtk (s : State) (k : Nat) (p : List Byte) : (s.record k p).rtk = s.rtk := rfl
@[simp] theorem State.record_snp (s : State) (k : Nat) (p : List Byte) : (s.record k p).snp = s.snp := rfl
@[simp] theorem State.record_sbx (s : State) (k : Nat) (p : List Byte) : (s.record k p).sbx = s.sbx := rfl
@[simp] theorem State.record_alt (s : State) (k : Nat) (p : List Byte) : (s.record k p).alt = s.alt := rfl
@[simp] theorem State.record_ttb (s : State) (k : Nat) (p : List Byte) : (s.record k p).ttb = s.ttb := rfl
@[simp] theorem State.record_stp (s : State) (k : Nat) (p : List Byte) : (s.record k p).stp = s.stp := rfl
@[simp] theorem State.record_rad (s : State) (k : Nat) (p : List Byte) : (s.record k p).rad = s.rad := rfl
@[simp] theorem State.record_eth (s : State) (k : Nat) (p : List Byte) : (s.record k p).eth = s.eth := rfl
@[simp] theorem State.record_mtr (s : State) (k : Nat) (p : List Byte) : (s.record k p).mtr = s.mtr := rfl
@[simp] theorem State.record_que (s : State) (k : Nat) (p : List Byte) : (s.record k p).que = s.que := rfl
@[simp] theorem State.record_sch (s : State) (k : Nat) (p : List Byte) : (s.record k p).sch = s.sch := rfl
@[simp] theorem State.record_arb (s : State) (k : Nat) (p : List Byte) : (s.record k p).arb = s.arb := rfl
@[simp] theorem State.record_lan (s : State) (k : Nat) (p : List Byte) : (s.record k p).lan = s.lan := rfl
@[simp] theorem State.record_fuses (s : State) (k : Nat) (p : List Byte) : (s.record k p).fuses = s.fuses := rfl
@[simp] theorem State.record_sec (s : State) (k : Nat) (p : List Byte) : (s.record k p).sec = s.sec := rfl
@[simp] theorem State.record_upd (s : State) (k : Nat) (p : List Byte) : (s.record k p).upd = s.upd := rfl
@[simp] theorem State.record_pwr (s : State) (k : Nat) (p : List Byte) : (s.record k p).pwr = s.pwr := rfl
@[simp] theorem State.record_vbat (s : State) (k : Nat) (p : List Byte) : (s.record k p).vbat = s.vbat := rfl
@[simp] theorem State.record_tst (s : State) (k : Nat) (p : List Byte) : (s.record k p).tst = s.tst := rfl
@[simp] theorem State.record_nor (s : State) (k : Nat) (p : List Byte) : (s.record k p).nor = s.nor := rfl

/-! `State.dramStore`: bytes are stored in shared DRAM. -/

@[simp] theorem State.dramStore_pending (s : State) (o : Nat) (bs : List Byte) : (s.dramStore o bs).pending = s.pending := rfl
@[simp] theorem State.dramStore_free (s : State) (o : Nat) (bs : List Byte) : (s.dramStore o bs).free = s.free := rfl
@[simp] theorem State.dramStore_outs (s : State) (o : Nat) (bs : List Byte) : (s.dramStore o bs).outs = s.outs := rfl
@[simp] theorem State.dramStore_regs (s : State) (o : Nat) (bs : List Byte) : (s.dramStore o bs).regs = s.regs := rfl
@[simp] theorem State.dramStore_pins (s : State) (o : Nat) (bs : List Byte) : (s.dramStore o bs).pins = s.pins := rfl
@[simp] theorem State.dramStore_time (s : State) (o : Nat) (bs : List Byte) : (s.dramStore o bs).time = s.time := rfl
@[simp] theorem State.dramStore_svb (s : State) (o : Nat) (bs : List Byte) : (s.dramStore o bs).svb = s.svb := rfl
@[simp] theorem State.dramStore_eng (s : State) (o : Nat) (bs : List Byte) : (s.dramStore o bs).eng = s.eng := rfl
@[simp] theorem State.dramStore_sky (s : State) (o : Nat) (bs : List Byte) : (s.dramStore o bs).sky = s.sky := rfl
@[simp] theorem State.dramStore_rtk (s : State) (o : Nat) (bs : List Byte) : (s.dramStore o bs).rtk = s.rtk := rfl
@[simp] theorem State.dramStore_snp (s : State) (o : Nat) (bs : List Byte) : (s.dramStore o bs).snp = s.snp := rfl
@[simp] theorem State.dramStore_sbx (s : State) (o : Nat) (bs : List Byte) : (s.dramStore o bs).sbx = s.sbx := rfl
@[simp] theorem State.dramStore_alt (s : State) (o : Nat) (bs : List Byte) : (s.dramStore o bs).alt = s.alt := rfl
@[simp] theorem State.dramStore_ttb (s : State) (o : Nat) (bs : List Byte) : (s.dramStore o bs).ttb = s.ttb := rfl
@[simp] theorem State.dramStore_stp (s : State) (o : Nat) (bs : List Byte) : (s.dramStore o bs).stp = s.stp := rfl
@[simp] theorem State.dramStore_rad (s : State) (o : Nat) (bs : List Byte) : (s.dramStore o bs).rad = s.rad := rfl
@[simp] theorem State.dramStore_eth (s : State) (o : Nat) (bs : List Byte) : (s.dramStore o bs).eth = s.eth := rfl
@[simp] theorem State.dramStore_mtr (s : State) (o : Nat) (bs : List Byte) : (s.dramStore o bs).mtr = s.mtr := rfl
@[simp] theorem State.dramStore_que (s : State) (o : Nat) (bs : List Byte) : (s.dramStore o bs).que = s.que := rfl
@[simp] theorem State.dramStore_sch (s : State) (o : Nat) (bs : List Byte) : (s.dramStore o bs).sch = s.sch := rfl
@[simp] theorem State.dramStore_arb (s : State) (o : Nat) (bs : List Byte) : (s.dramStore o bs).arb = s.arb := rfl
@[simp] theorem State.dramStore_lan (s : State) (o : Nat) (bs : List Byte) : (s.dramStore o bs).lan = s.lan := rfl
@[simp] theorem State.dramStore_fuses (s : State) (o : Nat) (bs : List Byte) : (s.dramStore o bs).fuses = s.fuses := rfl
@[simp] theorem State.dramStore_sec (s : State) (o : Nat) (bs : List Byte) : (s.dramStore o bs).sec = s.sec := rfl
@[simp] theorem State.dramStore_upd (s : State) (o : Nat) (bs : List Byte) : (s.dramStore o bs).upd = s.upd := rfl
@[simp] theorem State.dramStore_cbk (s : State) (o : Nat) (bs : List Byte) : (s.dramStore o bs).cbk = s.cbk := rfl
@[simp] theorem State.dramStore_pwr (s : State) (o : Nat) (bs : List Byte) : (s.dramStore o bs).pwr = s.pwr := rfl
@[simp] theorem State.dramStore_vbat (s : State) (o : Nat) (bs : List Byte) : (s.dramStore o bs).vbat = s.vbat := rfl
@[simp] theorem State.dramStore_tst (s : State) (o : Nat) (bs : List Byte) : (s.dramStore o bs).tst = s.tst := rfl
@[simp] theorem State.dramStore_nor (s : State) (o : Nat) (bs : List Byte) : (s.dramStore o bs).nor = s.nor := rfl

/-! `State.saveRegs`: registers are stored in the NOR settings. -/

@[simp] theorem State.saveRegs_pending (s : State) (rs : List Nat) : (s.saveRegs rs).pending = s.pending := rfl
@[simp] theorem State.saveRegs_free (s : State) (rs : List Nat) : (s.saveRegs rs).free = s.free := rfl
@[simp] theorem State.saveRegs_outs (s : State) (rs : List Nat) : (s.saveRegs rs).outs = s.outs := rfl
@[simp] theorem State.saveRegs_regs (s : State) (rs : List Nat) : (s.saveRegs rs).regs = s.regs := rfl
@[simp] theorem State.saveRegs_dram (s : State) (rs : List Nat) : (s.saveRegs rs).dram = s.dram := rfl
@[simp] theorem State.saveRegs_pins (s : State) (rs : List Nat) : (s.saveRegs rs).pins = s.pins := rfl
@[simp] theorem State.saveRegs_time (s : State) (rs : List Nat) : (s.saveRegs rs).time = s.time := rfl
@[simp] theorem State.saveRegs_svb (s : State) (rs : List Nat) : (s.saveRegs rs).svb = s.svb := rfl
@[simp] theorem State.saveRegs_eng (s : State) (rs : List Nat) : (s.saveRegs rs).eng = s.eng := rfl
@[simp] theorem State.saveRegs_sky (s : State) (rs : List Nat) : (s.saveRegs rs).sky = s.sky := rfl
@[simp] theorem State.saveRegs_rtk (s : State) (rs : List Nat) : (s.saveRegs rs).rtk = s.rtk := rfl
@[simp] theorem State.saveRegs_snp (s : State) (rs : List Nat) : (s.saveRegs rs).snp = s.snp := rfl
@[simp] theorem State.saveRegs_sbx (s : State) (rs : List Nat) : (s.saveRegs rs).sbx = s.sbx := rfl
@[simp] theorem State.saveRegs_alt (s : State) (rs : List Nat) : (s.saveRegs rs).alt = s.alt := rfl
@[simp] theorem State.saveRegs_ttb (s : State) (rs : List Nat) : (s.saveRegs rs).ttb = s.ttb := rfl
@[simp] theorem State.saveRegs_stp (s : State) (rs : List Nat) : (s.saveRegs rs).stp = s.stp := rfl
@[simp] theorem State.saveRegs_rad (s : State) (rs : List Nat) : (s.saveRegs rs).rad = s.rad := rfl
@[simp] theorem State.saveRegs_eth (s : State) (rs : List Nat) : (s.saveRegs rs).eth = s.eth := rfl
@[simp] theorem State.saveRegs_mtr (s : State) (rs : List Nat) : (s.saveRegs rs).mtr = s.mtr := rfl
@[simp] theorem State.saveRegs_que (s : State) (rs : List Nat) : (s.saveRegs rs).que = s.que := rfl
@[simp] theorem State.saveRegs_sch (s : State) (rs : List Nat) : (s.saveRegs rs).sch = s.sch := rfl
@[simp] theorem State.saveRegs_arb (s : State) (rs : List Nat) : (s.saveRegs rs).arb = s.arb := rfl
@[simp] theorem State.saveRegs_lan (s : State) (rs : List Nat) : (s.saveRegs rs).lan = s.lan := rfl
@[simp] theorem State.saveRegs_fuses (s : State) (rs : List Nat) : (s.saveRegs rs).fuses = s.fuses := rfl
@[simp] theorem State.saveRegs_sec (s : State) (rs : List Nat) : (s.saveRegs rs).sec = s.sec := rfl
@[simp] theorem State.saveRegs_upd (s : State) (rs : List Nat) : (s.saveRegs rs).upd = s.upd := rfl
@[simp] theorem State.saveRegs_cbk (s : State) (rs : List Nat) : (s.saveRegs rs).cbk = s.cbk := rfl
@[simp] theorem State.saveRegs_pwr (s : State) (rs : List Nat) : (s.saveRegs rs).pwr = s.pwr := rfl
@[simp] theorem State.saveRegs_vbat (s : State) (rs : List Nat) : (s.saveRegs rs).vbat = s.vbat := rfl
@[simp] theorem State.saveRegs_tst (s : State) (rs : List Nat) : (s.saveRegs rs).tst = s.tst := rfl

/-! `State.norStore`: bits of a register are stored in the NOR settings. -/

@[simp] theorem State.norStore_pending (s : State) (a m : Nat) (v : Word) : (s.norStore a m v).pending = s.pending := rfl
@[simp] theorem State.norStore_free (s : State) (a m : Nat) (v : Word) : (s.norStore a m v).free = s.free := rfl
@[simp] theorem State.norStore_outs (s : State) (a m : Nat) (v : Word) : (s.norStore a m v).outs = s.outs := rfl
@[simp] theorem State.norStore_regs (s : State) (a m : Nat) (v : Word) : (s.norStore a m v).regs = s.regs := rfl
@[simp] theorem State.norStore_dram (s : State) (a m : Nat) (v : Word) : (s.norStore a m v).dram = s.dram := rfl
@[simp] theorem State.norStore_pins (s : State) (a m : Nat) (v : Word) : (s.norStore a m v).pins = s.pins := rfl
@[simp] theorem State.norStore_time (s : State) (a m : Nat) (v : Word) : (s.norStore a m v).time = s.time := rfl
@[simp] theorem State.norStore_svb (s : State) (a m : Nat) (v : Word) : (s.norStore a m v).svb = s.svb := rfl
@[simp] theorem State.norStore_eng (s : State) (a m : Nat) (v : Word) : (s.norStore a m v).eng = s.eng := rfl
@[simp] theorem State.norStore_sky (s : State) (a m : Nat) (v : Word) : (s.norStore a m v).sky = s.sky := rfl
@[simp] theorem State.norStore_rtk (s : State) (a m : Nat) (v : Word) : (s.norStore a m v).rtk = s.rtk := rfl
@[simp] theorem State.norStore_snp (s : State) (a m : Nat) (v : Word) : (s.norStore a m v).snp = s.snp := rfl
@[simp] theorem State.norStore_sbx (s : State) (a m : Nat) (v : Word) : (s.norStore a m v).sbx = s.sbx := rfl
@[simp] theorem State.norStore_alt (s : State) (a m : Nat) (v : Word) : (s.norStore a m v).alt = s.alt := rfl
@[simp] theorem State.norStore_ttb (s : State) (a m : Nat) (v : Word) : (s.norStore a m v).ttb = s.ttb := rfl
@[simp] theorem State.norStore_stp (s : State) (a m : Nat) (v : Word) : (s.norStore a m v).stp = s.stp := rfl
@[simp] theorem State.norStore_rad (s : State) (a m : Nat) (v : Word) : (s.norStore a m v).rad = s.rad := rfl
@[simp] theorem State.norStore_eth (s : State) (a m : Nat) (v : Word) : (s.norStore a m v).eth = s.eth := rfl
@[simp] theorem State.norStore_mtr (s : State) (a m : Nat) (v : Word) : (s.norStore a m v).mtr = s.mtr := rfl
@[simp] theorem State.norStore_que (s : State) (a m : Nat) (v : Word) : (s.norStore a m v).que = s.que := rfl
@[simp] theorem State.norStore_sch (s : State) (a m : Nat) (v : Word) : (s.norStore a m v).sch = s.sch := rfl
@[simp] theorem State.norStore_arb (s : State) (a m : Nat) (v : Word) : (s.norStore a m v).arb = s.arb := rfl
@[simp] theorem State.norStore_lan (s : State) (a m : Nat) (v : Word) : (s.norStore a m v).lan = s.lan := rfl
@[simp] theorem State.norStore_fuses (s : State) (a m : Nat) (v : Word) : (s.norStore a m v).fuses = s.fuses := rfl
@[simp] theorem State.norStore_sec (s : State) (a m : Nat) (v : Word) : (s.norStore a m v).sec = s.sec := rfl
@[simp] theorem State.norStore_upd (s : State) (a m : Nat) (v : Word) : (s.norStore a m v).upd = s.upd := rfl
@[simp] theorem State.norStore_cbk (s : State) (a m : Nat) (v : Word) : (s.norStore a m v).cbk = s.cbk := rfl
@[simp] theorem State.norStore_pwr (s : State) (a m : Nat) (v : Word) : (s.norStore a m v).pwr = s.pwr := rfl
@[simp] theorem State.norStore_vbat (s : State) (a m : Nat) (v : Word) : (s.norStore a m v).vbat = s.vbat := rfl
@[simp] theorem State.norStore_tst (s : State) (a m : Nat) (v : Word) : (s.norStore a m v).tst = s.tst := rfl

/-! `State.setBound`: a rover slot's binding is replaced. -/

@[simp] theorem State.setBound_pending (s : State) (a : Nat) (b : Binding) : (s.setBound a b).pending = s.pending := rfl
@[simp] theorem State.setBound_free (s : State) (a : Nat) (b : Binding) : (s.setBound a b).free = s.free := rfl
@[simp] theorem State.setBound_outs (s : State) (a : Nat) (b : Binding) : (s.setBound a b).outs = s.outs := rfl
@[simp] theorem State.setBound_regs (s : State) (a : Nat) (b : Binding) : (s.setBound a b).regs = s.regs := rfl
@[simp] theorem State.setBound_dram (s : State) (a : Nat) (b : Binding) : (s.setBound a b).dram = s.dram := rfl
@[simp] theorem State.setBound_pins (s : State) (a : Nat) (b : Binding) : (s.setBound a b).pins = s.pins := rfl
@[simp] theorem State.setBound_time (s : State) (a : Nat) (b : Binding) : (s.setBound a b).time = s.time := rfl
@[simp] theorem State.setBound_svb (s : State) (a : Nat) (b : Binding) : (s.setBound a b).svb = s.svb := rfl
@[simp] theorem State.setBound_eng (s : State) (a : Nat) (b : Binding) : (s.setBound a b).eng = s.eng := rfl
@[simp] theorem State.setBound_sky (s : State) (a : Nat) (b : Binding) : (s.setBound a b).sky = s.sky := rfl
@[simp] theorem State.setBound_rtk (s : State) (a : Nat) (b : Binding) : (s.setBound a b).rtk = s.rtk := rfl
@[simp] theorem State.setBound_snp (s : State) (a : Nat) (b : Binding) : (s.setBound a b).snp = s.snp := rfl
@[simp] theorem State.setBound_sbx (s : State) (a : Nat) (b : Binding) : (s.setBound a b).sbx = s.sbx := rfl
@[simp] theorem State.setBound_alt (s : State) (a : Nat) (b : Binding) : (s.setBound a b).alt = s.alt := rfl
@[simp] theorem State.setBound_ttb (s : State) (a : Nat) (b : Binding) : (s.setBound a b).ttb = s.ttb := rfl
@[simp] theorem State.setBound_stp (s : State) (a : Nat) (b : Binding) : (s.setBound a b).stp = s.stp := rfl
@[simp] theorem State.setBound_eth (s : State) (a : Nat) (b : Binding) : (s.setBound a b).eth = s.eth := rfl
@[simp] theorem State.setBound_mtr (s : State) (a : Nat) (b : Binding) : (s.setBound a b).mtr = s.mtr := rfl
@[simp] theorem State.setBound_que (s : State) (a : Nat) (b : Binding) : (s.setBound a b).que = s.que := rfl
@[simp] theorem State.setBound_sch (s : State) (a : Nat) (b : Binding) : (s.setBound a b).sch = s.sch := rfl
@[simp] theorem State.setBound_arb (s : State) (a : Nat) (b : Binding) : (s.setBound a b).arb = s.arb := rfl
@[simp] theorem State.setBound_lan (s : State) (a : Nat) (b : Binding) : (s.setBound a b).lan = s.lan := rfl
@[simp] theorem State.setBound_fuses (s : State) (a : Nat) (b : Binding) : (s.setBound a b).fuses = s.fuses := rfl
@[simp] theorem State.setBound_sec (s : State) (a : Nat) (b : Binding) : (s.setBound a b).sec = s.sec := rfl
@[simp] theorem State.setBound_upd (s : State) (a : Nat) (b : Binding) : (s.setBound a b).upd = s.upd := rfl
@[simp] theorem State.setBound_cbk (s : State) (a : Nat) (b : Binding) : (s.setBound a b).cbk = s.cbk := rfl
@[simp] theorem State.setBound_pwr (s : State) (a : Nat) (b : Binding) : (s.setBound a b).pwr = s.pwr := rfl
@[simp] theorem State.setBound_vbat (s : State) (a : Nat) (b : Binding) : (s.setBound a b).vbat = s.vbat := rfl
@[simp] theorem State.setBound_tst (s : State) (a : Nat) (b : Binding) : (s.setBound a b).tst = s.tst := rfl
@[simp] theorem State.setBound_nor (s : State) (a : Nat) (b : Binding) : (s.setBound a b).nor = s.nor := rfl
@[simp] theorem State.setBound_rovers (s : State) (a : Nat) (b : Binding) : (s.setBound a b).rad.rovers = Tbl.put {} s.rad.rovers a b := rfl

/-! `State.setSx`: what the signal box holds of a rover is replaced. -/

@[simp] theorem State.setSx_pending (s : State) (a : Nat) (r : SbxRover) : (s.setSx a r).pending = s.pending := rfl
@[simp] theorem State.setSx_free (s : State) (a : Nat) (r : SbxRover) : (s.setSx a r).free = s.free := rfl
@[simp] theorem State.setSx_outs (s : State) (a : Nat) (r : SbxRover) : (s.setSx a r).outs = s.outs := rfl
@[simp] theorem State.setSx_regs (s : State) (a : Nat) (r : SbxRover) : (s.setSx a r).regs = s.regs := rfl
@[simp] theorem State.setSx_dram (s : State) (a : Nat) (r : SbxRover) : (s.setSx a r).dram = s.dram := rfl
@[simp] theorem State.setSx_pins (s : State) (a : Nat) (r : SbxRover) : (s.setSx a r).pins = s.pins := rfl
@[simp] theorem State.setSx_time (s : State) (a : Nat) (r : SbxRover) : (s.setSx a r).time = s.time := rfl
@[simp] theorem State.setSx_svb (s : State) (a : Nat) (r : SbxRover) : (s.setSx a r).svb = s.svb := rfl
@[simp] theorem State.setSx_eng (s : State) (a : Nat) (r : SbxRover) : (s.setSx a r).eng = s.eng := rfl
@[simp] theorem State.setSx_sky (s : State) (a : Nat) (r : SbxRover) : (s.setSx a r).sky = s.sky := rfl
@[simp] theorem State.setSx_rtk (s : State) (a : Nat) (r : SbxRover) : (s.setSx a r).rtk = s.rtk := rfl
@[simp] theorem State.setSx_snp (s : State) (a : Nat) (r : SbxRover) : (s.setSx a r).snp = s.snp := rfl
@[simp] theorem State.setSx_alt (s : State) (a : Nat) (r : SbxRover) : (s.setSx a r).alt = s.alt := rfl
@[simp] theorem State.setSx_ttb (s : State) (a : Nat) (r : SbxRover) : (s.setSx a r).ttb = s.ttb := rfl
@[simp] theorem State.setSx_stp (s : State) (a : Nat) (r : SbxRover) : (s.setSx a r).stp = s.stp := rfl
@[simp] theorem State.setSx_rad (s : State) (a : Nat) (r : SbxRover) : (s.setSx a r).rad = s.rad := rfl
@[simp] theorem State.setSx_eth (s : State) (a : Nat) (r : SbxRover) : (s.setSx a r).eth = s.eth := rfl
@[simp] theorem State.setSx_mtr (s : State) (a : Nat) (r : SbxRover) : (s.setSx a r).mtr = s.mtr := rfl
@[simp] theorem State.setSx_que (s : State) (a : Nat) (r : SbxRover) : (s.setSx a r).que = s.que := rfl
@[simp] theorem State.setSx_sch (s : State) (a : Nat) (r : SbxRover) : (s.setSx a r).sch = s.sch := rfl
@[simp] theorem State.setSx_arb (s : State) (a : Nat) (r : SbxRover) : (s.setSx a r).arb = s.arb := rfl
@[simp] theorem State.setSx_lan (s : State) (a : Nat) (r : SbxRover) : (s.setSx a r).lan = s.lan := rfl
@[simp] theorem State.setSx_fuses (s : State) (a : Nat) (r : SbxRover) : (s.setSx a r).fuses = s.fuses := rfl
@[simp] theorem State.setSx_sec (s : State) (a : Nat) (r : SbxRover) : (s.setSx a r).sec = s.sec := rfl
@[simp] theorem State.setSx_upd (s : State) (a : Nat) (r : SbxRover) : (s.setSx a r).upd = s.upd := rfl
@[simp] theorem State.setSx_cbk (s : State) (a : Nat) (r : SbxRover) : (s.setSx a r).cbk = s.cbk := rfl
@[simp] theorem State.setSx_pwr (s : State) (a : Nat) (r : SbxRover) : (s.setSx a r).pwr = s.pwr := rfl
@[simp] theorem State.setSx_vbat (s : State) (a : Nat) (r : SbxRover) : (s.setSx a r).vbat = s.vbat := rfl
@[simp] theorem State.setSx_tst (s : State) (a : Nat) (r : SbxRover) : (s.setSx a r).tst = s.tst := rfl
@[simp] theorem State.setSx_nor (s : State) (a : Nat) (r : SbxRover) : (s.setSx a r).nor = s.nor := rfl
@[simp] theorem State.setSx_rovers (s : State) (a : Nat) (r : SbxRover) : (s.setSx a r).sbx.rovers = Tbl.put {} s.sbx.rovers a r := rfl

/-! `State.setRk`: what the position engine holds of a rover is replaced. -/

@[simp] theorem State.setRk_pending (s : State) (a : Nat) (r : RtkRover) : (s.setRk a r).pending = s.pending := rfl
@[simp] theorem State.setRk_free (s : State) (a : Nat) (r : RtkRover) : (s.setRk a r).free = s.free := rfl
@[simp] theorem State.setRk_outs (s : State) (a : Nat) (r : RtkRover) : (s.setRk a r).outs = s.outs := rfl
@[simp] theorem State.setRk_regs (s : State) (a : Nat) (r : RtkRover) : (s.setRk a r).regs = s.regs := rfl
@[simp] theorem State.setRk_dram (s : State) (a : Nat) (r : RtkRover) : (s.setRk a r).dram = s.dram := rfl
@[simp] theorem State.setRk_pins (s : State) (a : Nat) (r : RtkRover) : (s.setRk a r).pins = s.pins := rfl
@[simp] theorem State.setRk_time (s : State) (a : Nat) (r : RtkRover) : (s.setRk a r).time = s.time := rfl
@[simp] theorem State.setRk_svb (s : State) (a : Nat) (r : RtkRover) : (s.setRk a r).svb = s.svb := rfl
@[simp] theorem State.setRk_eng (s : State) (a : Nat) (r : RtkRover) : (s.setRk a r).eng = s.eng := rfl
@[simp] theorem State.setRk_sky (s : State) (a : Nat) (r : RtkRover) : (s.setRk a r).sky = s.sky := rfl
@[simp] theorem State.setRk_snp (s : State) (a : Nat) (r : RtkRover) : (s.setRk a r).snp = s.snp := rfl
@[simp] theorem State.setRk_sbx (s : State) (a : Nat) (r : RtkRover) : (s.setRk a r).sbx = s.sbx := rfl
@[simp] theorem State.setRk_alt (s : State) (a : Nat) (r : RtkRover) : (s.setRk a r).alt = s.alt := rfl
@[simp] theorem State.setRk_ttb (s : State) (a : Nat) (r : RtkRover) : (s.setRk a r).ttb = s.ttb := rfl
@[simp] theorem State.setRk_stp (s : State) (a : Nat) (r : RtkRover) : (s.setRk a r).stp = s.stp := rfl
@[simp] theorem State.setRk_rad (s : State) (a : Nat) (r : RtkRover) : (s.setRk a r).rad = s.rad := rfl
@[simp] theorem State.setRk_eth (s : State) (a : Nat) (r : RtkRover) : (s.setRk a r).eth = s.eth := rfl
@[simp] theorem State.setRk_mtr (s : State) (a : Nat) (r : RtkRover) : (s.setRk a r).mtr = s.mtr := rfl
@[simp] theorem State.setRk_que (s : State) (a : Nat) (r : RtkRover) : (s.setRk a r).que = s.que := rfl
@[simp] theorem State.setRk_sch (s : State) (a : Nat) (r : RtkRover) : (s.setRk a r).sch = s.sch := rfl
@[simp] theorem State.setRk_arb (s : State) (a : Nat) (r : RtkRover) : (s.setRk a r).arb = s.arb := rfl
@[simp] theorem State.setRk_lan (s : State) (a : Nat) (r : RtkRover) : (s.setRk a r).lan = s.lan := rfl
@[simp] theorem State.setRk_fuses (s : State) (a : Nat) (r : RtkRover) : (s.setRk a r).fuses = s.fuses := rfl
@[simp] theorem State.setRk_sec (s : State) (a : Nat) (r : RtkRover) : (s.setRk a r).sec = s.sec := rfl
@[simp] theorem State.setRk_upd (s : State) (a : Nat) (r : RtkRover) : (s.setRk a r).upd = s.upd := rfl
@[simp] theorem State.setRk_cbk (s : State) (a : Nat) (r : RtkRover) : (s.setRk a r).cbk = s.cbk := rfl
@[simp] theorem State.setRk_pwr (s : State) (a : Nat) (r : RtkRover) : (s.setRk a r).pwr = s.pwr := rfl
@[simp] theorem State.setRk_vbat (s : State) (a : Nat) (r : RtkRover) : (s.setRk a r).vbat = s.vbat := rfl
@[simp] theorem State.setRk_tst (s : State) (a : Nat) (r : RtkRover) : (s.setRk a r).tst = s.tst := rfl
@[simp] theorem State.setRk_nor (s : State) (a : Nat) (r : RtkRover) : (s.setRk a r).nor = s.nor := rfl
@[simp] theorem State.setRk_rovers (s : State) (a : Nat) (r : RtkRover) : (s.setRk a r).rtk.rovers = Tbl.put {} s.rtk.rovers a r := rfl

/-! `State.setProf`: a rover's profile is replaced. -/

@[simp] theorem State.setProf_pending (s : State) (a : Nat) (p : Profile) : (s.setProf a p).pending = s.pending := rfl
@[simp] theorem State.setProf_free (s : State) (a : Nat) (p : Profile) : (s.setProf a p).free = s.free := rfl
@[simp] theorem State.setProf_outs (s : State) (a : Nat) (p : Profile) : (s.setProf a p).outs = s.outs := rfl
@[simp] theorem State.setProf_regs (s : State) (a : Nat) (p : Profile) : (s.setProf a p).regs = s.regs := rfl
@[simp] theorem State.setProf_dram (s : State) (a : Nat) (p : Profile) : (s.setProf a p).dram = s.dram := rfl
@[simp] theorem State.setProf_pins (s : State) (a : Nat) (p : Profile) : (s.setProf a p).pins = s.pins := rfl
@[simp] theorem State.setProf_time (s : State) (a : Nat) (p : Profile) : (s.setProf a p).time = s.time := rfl
@[simp] theorem State.setProf_svb (s : State) (a : Nat) (p : Profile) : (s.setProf a p).svb = s.svb := rfl
@[simp] theorem State.setProf_eng (s : State) (a : Nat) (p : Profile) : (s.setProf a p).eng = s.eng := rfl
@[simp] theorem State.setProf_sky (s : State) (a : Nat) (p : Profile) : (s.setProf a p).sky = s.sky := rfl
@[simp] theorem State.setProf_rtk (s : State) (a : Nat) (p : Profile) : (s.setProf a p).rtk = s.rtk := rfl
@[simp] theorem State.setProf_snp (s : State) (a : Nat) (p : Profile) : (s.setProf a p).snp = s.snp := rfl
@[simp] theorem State.setProf_sbx (s : State) (a : Nat) (p : Profile) : (s.setProf a p).sbx = s.sbx := rfl
@[simp] theorem State.setProf_alt (s : State) (a : Nat) (p : Profile) : (s.setProf a p).alt = s.alt := rfl
@[simp] theorem State.setProf_stp (s : State) (a : Nat) (p : Profile) : (s.setProf a p).stp = s.stp := rfl
@[simp] theorem State.setProf_rad (s : State) (a : Nat) (p : Profile) : (s.setProf a p).rad = s.rad := rfl
@[simp] theorem State.setProf_eth (s : State) (a : Nat) (p : Profile) : (s.setProf a p).eth = s.eth := rfl
@[simp] theorem State.setProf_mtr (s : State) (a : Nat) (p : Profile) : (s.setProf a p).mtr = s.mtr := rfl
@[simp] theorem State.setProf_que (s : State) (a : Nat) (p : Profile) : (s.setProf a p).que = s.que := rfl
@[simp] theorem State.setProf_sch (s : State) (a : Nat) (p : Profile) : (s.setProf a p).sch = s.sch := rfl
@[simp] theorem State.setProf_arb (s : State) (a : Nat) (p : Profile) : (s.setProf a p).arb = s.arb := rfl
@[simp] theorem State.setProf_lan (s : State) (a : Nat) (p : Profile) : (s.setProf a p).lan = s.lan := rfl
@[simp] theorem State.setProf_fuses (s : State) (a : Nat) (p : Profile) : (s.setProf a p).fuses = s.fuses := rfl
@[simp] theorem State.setProf_sec (s : State) (a : Nat) (p : Profile) : (s.setProf a p).sec = s.sec := rfl
@[simp] theorem State.setProf_upd (s : State) (a : Nat) (p : Profile) : (s.setProf a p).upd = s.upd := rfl
@[simp] theorem State.setProf_cbk (s : State) (a : Nat) (p : Profile) : (s.setProf a p).cbk = s.cbk := rfl
@[simp] theorem State.setProf_pwr (s : State) (a : Nat) (p : Profile) : (s.setProf a p).pwr = s.pwr := rfl
@[simp] theorem State.setProf_vbat (s : State) (a : Nat) (p : Profile) : (s.setProf a p).vbat = s.vbat := rfl
@[simp] theorem State.setProf_tst (s : State) (a : Nat) (p : Profile) : (s.setProf a p).tst = s.tst := rfl
@[simp] theorem State.setProf_nor (s : State) (a : Nat) (p : Profile) : (s.setProf a p).nor = s.nor := rfl
@[simp] theorem State.setProf_profiles (s : State) (a : Nat) (p : Profile) : (s.setProf a p).ttb.profiles = Tbl.put {} s.ttb.profiles a p := rfl

/-! `State.syncHeld`: SYS_SVB_STAT.HELD follows the held replies. -/

@[simp] theorem State.syncHeld_pending (s : State) : s.syncHeld.pending = s.pending := State.setFld_pending s _ _
@[simp] theorem State.syncHeld_free (s : State) : s.syncHeld.free = s.free := State.setFld_free s _ _
@[simp] theorem State.syncHeld_outs (s : State) : s.syncHeld.outs = s.outs := State.setFld_outs s _ _
@[simp] theorem State.syncHeld_dram (s : State) : s.syncHeld.dram = s.dram := State.setFld_dram s _ _
@[simp] theorem State.syncHeld_pins (s : State) : s.syncHeld.pins = s.pins := State.setFld_pins s _ _
@[simp] theorem State.syncHeld_time (s : State) : s.syncHeld.time = s.time := State.setFld_time s _ _
@[simp] theorem State.syncHeld_svb (s : State) : s.syncHeld.svb = s.svb := State.setFld_svb s _ _
@[simp] theorem State.syncHeld_eng (s : State) : s.syncHeld.eng = s.eng := State.setFld_eng s _ _
@[simp] theorem State.syncHeld_sky (s : State) : s.syncHeld.sky = s.sky := State.setFld_sky s _ _
@[simp] theorem State.syncHeld_rtk (s : State) : s.syncHeld.rtk = s.rtk := State.setFld_rtk s _ _
@[simp] theorem State.syncHeld_snp (s : State) : s.syncHeld.snp = s.snp := State.setFld_snp s _ _
@[simp] theorem State.syncHeld_sbx (s : State) : s.syncHeld.sbx = s.sbx := State.setFld_sbx s _ _
@[simp] theorem State.syncHeld_alt (s : State) : s.syncHeld.alt = s.alt := State.setFld_alt s _ _
@[simp] theorem State.syncHeld_ttb (s : State) : s.syncHeld.ttb = s.ttb := State.setFld_ttb s _ _
@[simp] theorem State.syncHeld_stp (s : State) : s.syncHeld.stp = s.stp := State.setFld_stp s _ _
@[simp] theorem State.syncHeld_rad (s : State) : s.syncHeld.rad = s.rad := State.setFld_rad s _ _
@[simp] theorem State.syncHeld_eth (s : State) : s.syncHeld.eth = s.eth := State.setFld_eth s _ _
@[simp] theorem State.syncHeld_mtr (s : State) : s.syncHeld.mtr = s.mtr := State.setFld_mtr s _ _
@[simp] theorem State.syncHeld_que (s : State) : s.syncHeld.que = s.que := State.setFld_que s _ _
@[simp] theorem State.syncHeld_sch (s : State) : s.syncHeld.sch = s.sch := State.setFld_sch s _ _
@[simp] theorem State.syncHeld_arb (s : State) : s.syncHeld.arb = s.arb := State.setFld_arb s _ _
@[simp] theorem State.syncHeld_lan (s : State) : s.syncHeld.lan = s.lan := State.setFld_lan s _ _
@[simp] theorem State.syncHeld_fuses (s : State) : s.syncHeld.fuses = s.fuses := State.setFld_fuses s _ _
@[simp] theorem State.syncHeld_sec (s : State) : s.syncHeld.sec = s.sec := State.setFld_sec s _ _
@[simp] theorem State.syncHeld_upd (s : State) : s.syncHeld.upd = s.upd := State.setFld_upd s _ _
@[simp] theorem State.syncHeld_cbk (s : State) : s.syncHeld.cbk = s.cbk := State.setFld_cbk s _ _
@[simp] theorem State.syncHeld_pwr (s : State) : s.syncHeld.pwr = s.pwr := State.setFld_pwr s _ _
@[simp] theorem State.syncHeld_vbat (s : State) : s.syncHeld.vbat = s.vbat := State.setFld_vbat s _ _
@[simp] theorem State.syncHeld_tst (s : State) : s.syncHeld.tst = s.tst := State.setFld_tst s _ _
@[simp] theorem State.syncHeld_nor (s : State) : s.syncHeld.nor = s.nor := State.setFld_nor s _ _

end Sys2Proof.Machine
end

