-- ==== Sys2Proof/Laws/Store.lean ====
section
/-! SUPPORT. Reading after writing: tables by index, registers, fields of registers and bytes of the shared DRAM
partition, and the canonical form that every write keeps. -/

namespace Sys2Proof

/-! ### Tables -/

variable {α : Type}

@[simp] theorem Tbl.get_nil (d : α) (k : Nat) : Tbl.get d [] k = d := rfl

theorem Tbl.get_absent (d : α) (t : Tbl α) (k : Nat) (h : ∀ p ∈ t, p.1 ≠ k) : Tbl.get d t k = d := by
  induction t with
  | nil => rfl
  | cons p t ih =>
    simp only [List.mem_cons, forall_eq_or_imp] at h
    simp [Tbl.get, h.1, ih h.2]

theorem Tbl.get_insert_same (d : α) (t : Tbl α) (k : Nat) (v : α) : Tbl.get d (t.insert k v) k = v := by
  induction t with
  | nil => simp [Tbl.insert, Tbl.get]
  | cons p t ih =>
    simp only [Tbl.insert]
    split
    · simp [Tbl.get]
    · split
      · simp [Tbl.get]
      · simp [Tbl.get, *]

theorem Tbl.get_insert_other (d : α) (t : Tbl α) (k j : Nat) (v : α) (h : k ≠ j) :
    Tbl.get d (t.insert k v) j = Tbl.get d t j := by
  induction t with
  | nil => simp [Tbl.insert, Tbl.get, h]
  | cons p t ih =>
    simp only [Tbl.insert]
    split
    · simp [Tbl.get, h]
    · split
      · next e => simp [Tbl.get, e, h]
      · simp only [Tbl.get]
        split
        · rfl
        · exact ih

theorem Tbl.get_filter_other (d : α) (t : Tbl α) (k j : Nat) (h : k ≠ j) :
    Tbl.get d (t.filter fun p => p.1 != k) j = Tbl.get d t j := by
  induction t with
  | nil => rfl
  | cons p t ih =>
    by_cases e : p.1 = k
    · have : p.1 ≠ j := by omega
      simp [e, Tbl.get, h, ih]
    · simp only [List.filter_cons, Tbl.get]
      simp only [bne_iff_ne, ne_eq, e, not_false_eq_true, ↓reduceIte, Tbl.get]
      split
      · rfl
      · exact ih

/-- A table reads the value last put at an index. -/
@[simp] theorem Tbl.get_put_same [DecidableEq α] (d : α) (t : Tbl α) (k : Nat) (v : α) : Tbl.get d (Tbl.put d t k v) k = v := by
  unfold Tbl.put
  split
  · next e => exact (Tbl.get_absent _ _ _ (by simp)).trans e.symm
  · exact Tbl.get_insert_same _ _ _ _

/-- A put changes no other index, whatever that index reads as while unlisted. -/
theorem Tbl.get_put_other [DecidableEq α] (d e : α) (t : Tbl α) (k j : Nat) (v : α) (h : k ≠ j) :
    Tbl.get e (Tbl.put d t k v) j = Tbl.get e t j := by
  unfold Tbl.put
  split
  · exact Tbl.get_filter_other _ _ _ _ h
  · exact Tbl.get_insert_other _ _ _ _ _ h

theorem Tbl.wf_cons [DecidableEq α] (d : α) (p : Nat × α) (t : Tbl α) :
    Tbl.wf d (p :: t) = true ↔ p.2 ≠ d ∧ (∀ q ∈ t, p.1 < q.1) ∧ Tbl.wf d t = true := by
  simp [Tbl.wf, and_assoc]

theorem Tbl.mem_insert (t : Tbl α) (k : Nat) (v : α) (q : Nat × α) (h : q ∈ t.insert k v) : q = (k, v) ∨ q ∈ t := by
  induction t with
  | nil => simpa [Tbl.insert] using h
  | cons p t ih =>
    simp only [Tbl.insert] at h
    split at h
    · simpa using h
    · split at h
      · simp only [List.mem_cons] at h ⊢
        tauto
      · simp only [List.mem_cons] at h ⊢
        rcases h with h | h
        · exact .inr (.inl h)
        · exact (ih h).imp id .inr

/-- Putting a value keeps a table's canonical form. -/
theorem Tbl.wf_put [DecidableEq α] (d : α) (t : Tbl α) (k : Nat) (v : α) (h : Tbl.wf d t = true) :
    Tbl.wf d (Tbl.put d t k v) = true := by
  unfold Tbl.put
  split
  · next hv =>
    clear hv v
    induction t with
    | nil => rfl
    | cons p t ih =>
      rw [Tbl.wf_cons] at h
      rw [List.filter_cons]
      split
      · rw [Tbl.wf_cons]
        exact ⟨h.1, fun q hq => h.2.1 q (List.mem_filter.mp hq).1, ih h.2.2⟩
      · exact ih h.2.2
  · next hv =>
    induction t with
    | nil => simp [Tbl.insert, Tbl.wf, hv]
    | cons p t ih =>
      rw [Tbl.wf_cons] at h
      simp only [Tbl.insert]
      split
      · next hk =>
        rw [Tbl.wf_cons, Tbl.wf_cons]
        refine ⟨hv, ?_, h⟩
        intro q hq
        rcases List.mem_cons.mp hq with rfl | hq
        · exact hk
        · exact lt_trans hk (h.2.1 q hq)
      · split
        · next e =>
          rw [Tbl.wf_cons]
          exact ⟨hv, fun q hq => e ▸ h.2.1 q hq, h.2.2⟩
        · next hk e =>
          rw [Tbl.wf_cons]
          refine ⟨h.1, ?_, ih h.2.2⟩
          intro q hq
          rcases Tbl.mem_insert t k v q hq with rfl | hq
          · show p.1 < k
            omega
          · exact h.2.1 q hq

/-- A put lists no index beside its own and those listed before. -/
theorem Tbl.mem_put [DecidableEq α] (d : α) (t : Tbl α) (k : Nat) (v : α) (q : Nat × α) (h : q ∈ Tbl.put d t k v) :
    q = (k, v) ∨ q ∈ t := by
  unfold Tbl.put at h
  split at h
  · exact .inr (List.mem_filter.mp h).1
  · exact Tbl.mem_insert t k v q h

namespace Machine

/-! ### Registers and fields -/

@[simp] theorem State.reg_setReg_same (s : State) (a : Nat) (v : Word) : (s.setReg a v).reg a = v :=
  Tbl.get_put_same _ _ _ _

theorem State.reg_setReg_other (s : State) (a b : Nat) (v : Word) (h : a ≠ b) : (s.setReg a v).reg b = s.reg b := by
  simp only [State.reg, State.setReg_regs]
  exact Tbl.get_put_other _ _ s.regs _ _ _ h

theorem State.reg_setFld_other (s : State) (f : Fld) (v b : Nat) (h : f.addr ≠ b) : (s.setFld f v).reg b = s.reg b :=
  State.reg_setReg_other s _ _ _ h

/-- A field of another register keeps its value. -/
theorem State.fld_setFld_otherReg (s : State) (f g : Fld) (v : Nat) (h : f.addr ≠ g.addr) : (s.setFld f v).fld g = s.fld g := by
  unfold State.fld
  rw [State.reg_setFld_other s f v g.addr h]

theorem fldIn_lt (f : Fld) (old v : Nat) (hf : f.lo + f.width ≤ 32) (ho : old < 2 ^ 32) : fldIn f old v < 2 ^ 32 := by
  unfold fldIn
  have hl : old % 2 ^ f.lo < 2 ^ f.lo := Nat.mod_lt _ (by positivity)
  have hv : v % 2 ^ f.width < 2 ^ f.width := Nat.mod_lt _ (by positivity)
  have h1 : v % 2 ^ f.width * 2 ^ f.lo + old % 2 ^ f.lo < 2 ^ (f.lo + f.width) := by
    rw [pow_add]
    nlinarith [Nat.succ_le_of_lt hv, Nat.pow_pos (n := f.lo) (show 0 < 2 by decide)]
  obtain ⟨k, hk⟩ := Nat.exists_eq_add_of_le hf
  have h2 : old / 2 ^ (f.lo + f.width) < 2 ^ k := by
    rw [Nat.div_lt_iff_lt_mul (by positivity), ← pow_add]
    rwa [hk, Nat.add_comm] at ho
  have h3 : (2 : Nat) ^ 32 = 2 ^ k * 2 ^ (f.lo + f.width) := by rw [← pow_add, hk]; ring
  rw [h3]
  have h4 := Nat.mul_le_mul_right (2 ^ (f.lo + f.width)) (Nat.succ_le_of_lt h2)
  rw [Nat.succ_mul] at h4
  omega

theorem fldOf_fldIn_same (f : Fld) (old v : Nat) : fldOf f (fldIn f old v) = v % 2 ^ f.width := by
  unfold fldOf fldIn
  have hl : old % 2 ^ f.lo < 2 ^ f.lo := Nat.mod_lt _ (by positivity)
  have e : old / 2 ^ (f.lo + f.width) * 2 ^ (f.lo + f.width) + v % 2 ^ f.width * 2 ^ f.lo + old % 2 ^ f.lo
      = 2 ^ f.lo * (old / 2 ^ (f.lo + f.width) * 2 ^ f.width + v % 2 ^ f.width) + old % 2 ^ f.lo := by
    rw [pow_add]; ring
  rw [e, Nat.mul_add_div (by positivity), Nat.div_eq_of_lt hl, Nat.add_zero, Nat.mul_comm _ (2 ^ f.width),
    Nat.mul_add_mod, Nat.mod_mod]

/-- A field that lies within its register reads the value last written to it, modulo its width. -/
theorem State.fld_setFld_same (s : State) (f : Fld) (v : Nat) (hf : f.lo + f.width ≤ 32) :
    (s.setFld f v).fld f = v % 2 ^ f.width := by
  unfold State.fld State.setFld
  rw [State.reg_setReg_same, BitVec.toNat_ofNat, Nat.mod_eq_of_lt (fldIn_lt f _ _ hf (s.reg f.addr).isLt)]
  exact fldOf_fldIn_same f _ _

/-! ### The shared DRAM partition -/

theorem storeAt_wf (m : Tbl Byte) (o : Nat) (bs : List Byte) (h : Tbl.wf 0 m = true) : Tbl.wf 0 (storeAt m o bs) = true := by
  induction bs generalizing m o with
  | nil => exact h
  | cons b t ih => exact ih _ _ (Tbl.wf_put _ _ _ _ h)

theorem storeAt_bound (n : Nat) (m : Tbl Byte) (o : Nat) (bs : List Byte) (h : ∀ p ∈ m, p.1 < n) (hn : o + bs.length ≤ n) :
    ∀ p ∈ storeAt m o bs, p.1 < n := by
  induction bs generalizing m o with
  | nil => exact h
  | cons b t ih =>
    simp only [List.length_cons] at hn
    refine ih _ _ ?_ (by omega)
    intro p hp
    rcases Tbl.mem_put _ _ _ _ _ hp with rfl | hp
    · show o < n
      omega
    · exact h p hp

/-- A byte of a byte table after a store: a byte stored, or the byte before. -/
theorem get_storeAt (m : Tbl Byte) (o : Nat) (bs : List Byte) (a : Nat) :
    Tbl.get 0 (storeAt m o bs) a = if o ≤ a ∧ a < o + bs.length then bs.getD (a - o) 0 else Tbl.get 0 m a := by
  induction bs generalizing m o with
  | nil =>
    have : ¬(o ≤ a ∧ a < o + ([] : List Byte).length) := by simp only [List.length_nil]; omega
    rw [if_neg this, storeAt]
  | cons b t ih =>
    rw [storeAt, ih]
    simp only [List.length_cons]
    by_cases h : a = o
    · subst h
      simp
    · have hne : o ≠ a := fun e => h e.symm
      by_cases h2 : o + 1 ≤ a ∧ a < o + 1 + t.length
      · rw [if_pos h2, if_pos (by omega)]
        obtain ⟨k, hk⟩ := Nat.exists_eq_add_of_le h2.1
        have e1 : a - (o + 1) = k := by omega
        have e2 : a - o = k + 1 := by omega
        rw [e1, e2]
        simp
      · rw [if_neg h2, if_neg (by omega), Tbl.get_put_other _ _ _ _ _ _ hne]

/-- What a byte of the shared DRAM partition reads after a store of bytes that lie within it. -/
theorem State.dramByte_dramStore (s : State) (o : Nat) (bs : List Byte) (h : o + bs.length ≤ 0x08000000) (a : Nat) :
    (s.dramStore o bs).dramByte a = if o ≤ a ∧ a < o + bs.length then bs.getD (a - o) 0 else s.dramByte a := by
  unfold State.dramStore State.dramByte
  rw [List.take_of_length_le (by omega)]
  exact get_storeAt _ _ _ _

/-- A store in the shared DRAM partition keeps its canonical form. -/
theorem State.dramStore_wf (s : State) (o : Nat) (bs : List Byte) (h : Memory.wf s.dram = true) :
    Memory.wf (s.dramStore o bs).dram = true := by
  simp only [Memory.wf, Bool.and_eq_true, List.all_eq_true, decide_eq_true_eq] at h ⊢
  by_cases ho : o ≤ 0x08000000
  · refine ⟨storeAt_wf _ _ _ h.1, storeAt_bound _ _ _ _ h.2 ?_⟩
    rw [List.length_take]
    omega
  · have e : bs.take (0x08000000 - o) = [] := by rw [Nat.sub_eq_zero_of_le (by omega)]; simp
    simp only [State.dramStore, e, storeAt]
    exact h

/-- The shared DRAM partition has its canonical form at reset. -/
theorem reset_dram_wf : Memory.wf State.reset.dram = true := rfl

end Machine

end Sys2Proof
end

