-- ==== Sys2Proof/Laws/Frames.lean ====
section
/-! SUPPORT. What the operations that every command shares can change: the packets, the events, the reply, and with them
every command that changes nothing else. -/

namespace Sys2Proof.Machine

/-! ### Composing frames -/

theorem State.changesOnly_refl (s : State) (ps : List Part) (rs : List Nat) (bs : List Block) : s.changesOnly s ps rs bs :=
  ⟨rfl, fun p _ => by cases p <;> simp [Part.same], fun _ _ _ => rfl⟩

theorem Part.same_trans {s t u : State} (p : Part) (h : p.same s t) (k : p.same t u) : p.same s u := by
  cases p <;> simp only [Part.same] at h k ⊢ <;> first | exact k.trans h | exact fun o => (k o).trans (h o)

theorem State.changesOnly_trans {s t u : State} {ps : List Part} {rs : List Nat} {bs : List Block}
    (h : s.changesOnly t ps rs bs) (k : t.changesOnly u ps rs bs) : s.changesOnly u ps rs bs :=
  ⟨k.1.trans h.1, fun p hp => Part.same_trans p (h.2.1 p hp) (k.2.1 p hp),
    fun a ha hb => (k.2.2 a ha hb).trans (h.2.2 a ha hb)⟩

theorem State.changesOnly_mono {s t : State} {ps ps' : List Part} {rs rs' : List Nat} {bs bs' : List Block}
    (h : s.changesOnly t ps rs bs) (hp : ps ⊆ ps') (hr : rs ⊆ rs') (hb : bs ⊆ bs') : s.changesOnly t ps' rs' bs' :=
  ⟨h.1, fun p k => h.2.1 p fun m => k (hp m), fun a k l => h.2.2 a (fun m => k (hr m)) fun b m => l b (hb m)⟩

/-- A frame leaves every part alone that it does not name. -/
theorem State.keeps_of_changesOnly {s t : State} {ps : List Part} {rs : List Nat} {bs : List Block}
    (h : s.changesOnly t ps rs bs) : s.keeps t ps := ⟨h.1, h.2.1⟩

theorem State.foldl_changesOnly {α : Type} {ps : List Part} {rs : List Nat} {bs : List Block} (f : State → α → State)
    (h : ∀ (s : State) a, s.changesOnly (f s a) ps rs bs) (l : List α) (s : State) : s.changesOnly (l.foldl f s) ps rs bs := by
  induction l generalizing s with
  | nil => exact s.changesOnly_refl _ _ _
  | cons a t ih => exact State.changesOnly_trans (h s a) (ih _)

/-! ### Registers -/

theorem State.setReg_changesOnly (s : State) (a : Nat) (v : Word) {ps : List Part} {rs : List Nat} {bs : List Block}
    (h : a ∈ rs ∨ ∃ b ∈ bs, b.holds a = true) : s.changesOnly (s.setReg a v) ps rs bs := by
  refine ⟨rfl, fun p _ => by cases p <;> simp [Part.same, State.dramByte], fun b hb hc => s.reg_setReg_other a b v ?_⟩
  rintro rfl
  rcases h with h | ⟨c, hc', h⟩
  · exact hb h
  · simp [hc c hc'] at h

theorem State.setFld_changesOnly (s : State) (f : Fld) (v : Nat) {ps : List Part} {rs : List Nat} {bs : List Block}
    (h : f.addr ∈ rs ∨ ∃ b ∈ bs, b.holds f.addr = true) : s.changesOnly (s.setFld f v) ps rs bs :=
  s.setReg_changesOnly _ _ h

/-! ### Packets and events -/

/-- The parts that packets and events change. -/
abbrev busParts : List Part := [.svb, .outs, .pins, .tst]

theorem State.syncIrq_changesOnly (s : State) : s.changesOnly s.syncIrq busParts busRegs [] := by
  obtain ⟨u, n, p, h⟩ := s.syncIrq_eq
  have h1 : s.changesOnly ((s.setFld F.EVT_STAT_URGENT u).setFld F.EVT_STAT_NORMAL n) busParts busRegs [] :=
    State.changesOnly_trans (s.setFld_changesOnly _ _ (.inl (by decide))) (State.setFld_changesOnly _ _ _ (.inl (by decide)))
  rw [h]
  generalize (s.setFld F.EVT_STAT_URGENT u).setFld F.EVT_STAT_NORMAL n = t at h1 ⊢
  refine State.changesOnly_trans h1 ⟨rfl, ?_, fun _ _ _ => rfl⟩
  intro q hq
  cases q <;> simp_all [Part.same, State.dramByte]

theorem State.setPend_changesOnly (s : State) (src : Nat) (b : Bool) (h : src < 96) :
    s.changesOnly (s.setPend src b) busParts busRegs [] := by
  refine s.setReg_changesOnly _ _ (.inl ?_)
  have : src / 32 = 0 ∨ src / 32 = 1 ∨ src / 32 = 2 := by omega
  rcases this with e | e | e <;> rw [e] <;> decide

theorem State.incFld_changesOnly (s : State) (f : Fld) (h : f.addr ∈ busRegs) : s.changesOnly (s.incFld f) busParts busRegs [] :=
  s.setFld_changesOnly _ _ (.inl h)

theorem State.setSess_changesOnly (s : State) (sid : Nat) (ss : Session) :
    s.changesOnly (s.setSess sid ss) busParts busRegs [] := by
  unfold State.setSess State.syncSess
  refine State.changesOnly_trans (t := { s with svb := { s.svb with sess := Tbl.put (Session.initial sid) s.svb.sess sid ss } })
    ⟨rfl, ?_, fun _ _ _ => rfl⟩ (State.setFld_changesOnly _ _ _ (.inl (show R.SYS_SVB_STAT ∈ busRegs by decide)))
  intro q hq
  cases q <;> simp_all [Part.same, State.dramByte]

theorem State.syncOut_changesOnly (s : State) : s.changesOnly s.syncOut busParts busRegs [] := by
  unfold State.syncOut
  dsimp only
  split
  · exact s.changesOnly_refl _ _ _
  · refine State.changesOnly_trans (s.setPend_changesOnly Ev.sysSvbOut (!(s.sess 0).out.isEmpty) (by decide)) ?_
    split
    · exact State.changesOnly_trans (State.incFld_changesOnly _ F.EVT_CNT_RAISED (by decide)) (State.syncIrq_changesOnly _)
    · exact State.syncIrq_changesOnly _

theorem State.emit_changesOnly (s : State) (o : Output) : s.changesOnly (s.emit o) busParts busRegs [] := by
  refine ⟨rfl, ?_, fun _ _ _ => rfl⟩
  intro q hq
  cases q <;> simp_all [Part.same, State.dramByte]

theorem State.corrupt_changesOnly (s : State) (target : Nat) : s.changesOnly (s.corrupt target).2 busParts busRegs [] := by
  unfold State.corrupt
  split
  · exact s.changesOnly_refl _ _ _
  · dsimp only
    refine State.changesOnly_trans (t := { s with tst := { s.tst with crcLeft := s.tst.crcLeft - 1 } })
      ⟨rfl, ?_, fun _ _ _ => rfl⟩ ?_
    · intro q hq
      cases q <;> simp_all [Part.same, State.dramByte]
    · split
      · exact State.changesOnly_trans (State.setFld_changesOnly _ _ _ (.inl (by decide)))
          (State.setFld_changesOnly _ _ _ (.inl (by decide)))
      · exact State.changesOnly_refl _ _ _ _

/-- Queuing a packet changes the sessions, the outputs, the pins, the test block's count and the registers that show them. -/
theorem State.sendPkt_changesOnly (s : State) (sid dst : Nat) (b : OutBody) (lane : Option LaneTag := none) :
    s.changesOnly (s.sendPkt sid dst b lane) busParts busRegs [] := by
  unfold State.sendPkt
  refine State.changesOnly_trans (s.corrupt_changesOnly 0) ?_
  generalize s.corrupt 0 = c
  obtain ⟨bad, t⟩ := c
  dsimp only
  split
  · exact State.changesOnly_trans (State.setSess_changesOnly _ _ _) (State.syncOut_changesOnly _)
  · exact State.emit_changesOnly _ _

theorem State.eventTo_changesOnly (s : State) (src time : Nat) (detail : List Byte) (sid : Nat) :
    s.changesOnly (s.eventTo src time detail sid) busParts busRegs [] := by
  unfold State.eventTo
  dsimp only
  split
  · exact s.changesOnly_refl _ _ _
  · split
    · exact State.changesOnly_trans (s.setSess_changesOnly _ _) (State.sendPkt_changesOnly _ _ _ _)
    · split
      · exact State.changesOnly_trans (s.setSess_changesOnly _ _) (State.sendPkt_changesOnly _ _ _ _)
      · exact s.setSess_changesOnly _ _

/-- An event that leaves its engine changes what packets change (R413, R414). -/
theorem State.raiseAt_changesOnly (s : State) (src time : Nat) (detail : List Byte) (h : src < 96) :
    s.changesOnly (s.raiseAt src time detail) busParts busRegs [] := by
  unfold State.raiseAt
  refine State.changesOnly_trans (State.changesOnly_trans (State.changesOnly_trans (s.setPend_changesOnly src true h)
    (State.incFld_changesOnly _ F.EVT_CNT_RAISED (by decide))) (State.syncIrq_changesOnly _)) ?_
  exact State.foldl_changesOnly _ (fun t sid => t.eventTo_changesOnly src time (detail8 detail) sid) _ _

/-- A change of the lanes' record and nothing else. -/
theorem State.lan_changesOnly (s : State) (l : Lan) {ps : List Part} {rs : List Nat} {bs : List Block} (h : Part.lan ∈ ps) :
    s.changesOnly { s with lan := l } ps rs bs := by
  refine ⟨rfl, ?_, fun _ _ _ => rfl⟩
  intro q hq
  cases q <;> simp_all [Part.same, State.dramByte]

/-- An output of the lanes changes only their record (R367). -/
theorem State.laneOut_changesOnly (s : State) (engine cls : Nat) (content : List Byte) {ps : List Part} {rs : List Nat}
    {bs : List Block} (h : Part.lan ∈ ps) : s.changesOnly (s.laneOut engine cls content) ps rs bs :=
  s.lan_changesOnly _ h

/-- Raising an event changes what packets change, and the lanes' record (R27, R367, R413). -/
theorem State.raise_changesOnly (s : State) (src : Nat) (detail : List Byte) (h : src < 96) :
    s.changesOnly (s.raise src detail) (.lan :: busParts) busRegs [] := by
  have k : ∀ (t : State) time d, t.changesOnly (t.raiseAt src time d) (.lan :: busParts) busRegs [] := fun t time d =>
    State.changesOnly_mono (t.raiseAt_changesOnly src time d h) (by simp) (by simp) (by simp)
  unfold State.raise
  split
  · dsimp only
    have ho : s.changesOnly (s.laneOut (evEngine src) 2 (le 1 src ++ le 8 s.laneNow ++ detail8 detail)) (.lan :: busParts) busRegs [] :=
      s.laneOut_changesOnly _ _ _ (by simp)
    split
    · exact State.changesOnly_trans ho (State.lan_changesOnly _ _ (by simp))
    · split
      · exact State.changesOnly_trans ho (k _ _ _)
      · exact s.changesOnly_refl _ _ _
  · exact k _ _ _

/-- An event that no lane raises leaves the lanes alone. -/
theorem State.raise_hub_changesOnly (s : State) (src : Nat) (detail : List Byte) (h : src < 96) (hl : Ev.ofLane src = false) :
    s.changesOnly (s.raise src detail) busParts busRegs [] := by
  unfold State.raise
  rw [hl]
  exact s.raiseAt_changesOnly src s.now detail h

/-! ### Replies -/

theorem State.svb_changesOnly (s : State) (v : Svb) : s.changesOnly { s with svb := v } busParts busRegs [] := by
  refine ⟨rfl, ?_, fun _ _ _ => rfl⟩
  intro q hq
  cases q <;> simp_all [Part.same, State.dramByte]

theorem State.sendReply_changesOnly (s : State) (sid dst seq opcode : Nat) (dup : Bool) (r : Reply) (lane : Option LaneTag := none) :
    s.changesOnly (s.sendReply sid dst seq opcode dup r lane) busParts busRegs [] := s.sendPkt_changesOnly _ _ _ _

theorem State.syncHeld_changesOnly (s : State) : s.changesOnly s.syncHeld busParts busRegs [] :=
  s.setFld_changesOnly _ _ (.inl (by decide))

theorem State.replyOut_changesOnly (s : State) (sid : Nat) (e : Outst) : s.changesOnly (s.replyOut sid e) busParts busRegs [] := by
  unfold State.replyOut
  split
  · exact s.changesOnly_refl _ _ _
  · dsimp only
    have h : ∀ ss : Session, ∀ r, s.changesOnly ((s.setSess sid ss).sendReply sid e.src e.seq e.opcode false r e.tag) busParts busRegs [] :=
      fun ss r => State.changesOnly_trans (s.setSess_changesOnly _ _) (State.sendReply_changesOnly _ _ _ _ _ _ _ _)
    split
    · exact h _ _
    · exact State.changesOnly_trans (h _ _) (State.svb_changesOnly _ _)

theorem State.flushReplies_changesOnly (s : State) (sid : Nat) : s.changesOnly (s.flushReplies sid) busParts busRegs [] := by
  unfold State.flushReplies
  dsimp only
  generalize readyReplies false (s.sess sid).outst = x
  obtain ⟨go, stay⟩ := x
  exact State.changesOnly_trans (State.changesOnly_trans (s.setSess_changesOnly _ _)
    (State.foldl_changesOnly _ (fun t e => t.replyOut_changesOnly sid e) _ _)) (State.syncHeld_changesOnly _)

theorem State.answer_changesOnly (s : State) (sid seq : Nat) (tag : Option LaneTag) (r : Reply) :
    s.changesOnly (s.answer sid seq tag r) busParts busRegs [] :=
  State.changesOnly_trans (s.setSess_changesOnly _ _) (State.flushReplies_changesOnly _ _)

/-- Completing a command, whether its reply leaves or waits, changes what packets change, and for a reply of the lanes their record
(R43, R48, R367). -/
theorem State.finish_changesOnly (s : State) (sid seq opcode : Nat) (engine : Option Nat) (r : Reply) :
    s.changesOnly (s.finish sid seq opcode engine r) (.lan :: busParts) busRegs [] := by
  have ha : ∀ (t : State) tag, t.changesOnly (t.answer sid seq tag r) (.lan :: busParts) busRegs [] := fun t tag =>
    State.changesOnly_mono (t.answer_changesOnly _ _ _ _) (by simp) (by simp) (by simp)
  unfold State.finish
  split
  · exact ha _ _
  · dsimp only
    have ho : ∀ g cls content, s.changesOnly (s.laneOut g cls content) (.lan :: busParts) busRegs [] := fun g cls content =>
      s.laneOut_changesOnly _ _ _ (by simp)
    split
    · exact State.changesOnly_trans (State.changesOnly_trans (ho _ _ _)
        (State.changesOnly_mono (State.svb_changesOnly _ _) (by simp) (by simp) (by simp))) (ha _ _)
    · exact State.changesOnly_trans (ho _ _ _) (ha _ _)

/-- A command of the hub leaves the lanes alone. -/
theorem State.finish_hub_changesOnly (s : State) (sid seq opcode : Nat) (r : Reply) :
    s.changesOnly (s.finish sid seq opcode none r) busParts busRegs [] := s.answer_changesOnly _ _ _ _

theorem State.laneInput_changesOnly (s : State) {ps : List Part} {rs : List Nat} {bs : List Block} (h : Part.time ∈ ps) :
    s.changesOnly s.laneInput ps rs bs := by
  refine ⟨rfl, ?_, fun _ _ _ => rfl⟩
  intro q hq
  cases q <;> simp_all [Part.same, State.dramByte]

theorem State.satInc_changesOnly (s : State) (f : Fld) {ps : List Part} {rs : List Nat} {bs : List Block}
    (h : f.addr ∈ rs ∨ ∃ b ∈ bs, b.holds f.addr = true) : s.changesOnly (s.satInc f) ps rs bs :=
  s.setFld_changesOnly _ _ h

/-! ### Commands -/

/-- What one command whose opcode changes only `ps`, `rs` and `bs` can change: those, the sessions and packets, the lane
input number, the lanes' held events, and the scheduler's count of rejected commands. -/
theorem State.execute_changesOnly (s : State) (sid seq : Nat) (op : Op) (p : List Byte) {ps : List Part} {rs : List Nat}
    {bs : List Block} (hb : .lan :: .time :: busParts ⊆ ps) (hr : F.SCH_CNT_REJECTED.addr :: busRegs ⊆ rs)
    (hrun : ∀ t : State, t.changesOnly (op.run t sid seq p).1 ps rs bs) (hpost : ∀ t : State, t.changesOnly (op.post sid t) ps rs bs) :
    s.changesOnly (s.execute sid seq op p) ps rs bs := by
  have hbus : busParts ⊆ ps := fun x hx => hb (by simp [hx])
  have hreg : busRegs ⊆ rs := fun x hx => hr (by simp [hx])
  have hf : ∀ (t : State) code engine r, t.changesOnly (t.finish sid seq code engine r) ps rs bs := fun t code engine r =>
    State.changesOnly_mono (t.finish_changesOnly sid seq code engine r) (fun x hx => hb (by simp at hx ⊢; tauto)) hreg (by simp)
  have hw : ∀ t : State, t.changesOnly (t.follow sid seq op) ps rs bs := by
    intro t
    unfold State.follow
    split
    · exact State.changesOnly_mono (State.svb_changesOnly _ _) hbus hreg (by simp)
    · exact hpost t
  have ht : Part.time ∈ ps := hb (by simp)
  unfold State.execute
  dsimp only
  split
  · exact hf _ _ _ _
  · split
    · exact hf _ _ _ _
    · split
      · exact hf _ _ _ _
      · split
        · refine State.changesOnly_trans (State.changesOnly_trans (State.changesOnly_trans (s.laneInput_changesOnly ht)
            (State.satInc_changesOnly _ F.SCH_CNT_REJECTED (.inl (hr (by simp))))) ?_) (hf _ _ _ _)
          exact State.changesOnly_mono (State.raise_changesOnly _ Ev.schFlow _ (by decide)) (fun x hx => hb (by simp at hx ⊢; tauto)) hreg
            (by simp)
        · have h0 : s.changesOnly (if op.lane p then s.laneInput else s) ps rs bs := by
            split
            · exact s.laneInput_changesOnly ht
            · exact s.changesOnly_refl _ _ _
          generalize (if op.lane p then s.laneInput else s) = u at h0 ⊢
          have h1 := hrun u
          generalize op.run u sid seq p = x at h1 ⊢
          obtain ⟨t, r⟩ := x
          cases r with
          | none => exact State.changesOnly_trans h0 h1
          | some r => exact State.changesOnly_trans (State.changesOnly_trans (State.changesOnly_trans h0 h1) (hf _ _ _ _)) (hw _)

/-- The same for the handling of a command by its sequence number (R43). -/
theorem State.accept_changesOnly (s : State) (sid src seq : Nat) (op : Op) (p : List Byte) {ps : List Part} {rs : List Nat}
    {bs : List Block} (hb : .lan :: .time :: busParts ⊆ ps)
    (hr : F.SCH_CNT_REJECTED.addr :: F.SYS_SVB_ERR_DUP.addr :: busRegs ⊆ rs)
    (hrun : ∀ t : State, t.changesOnly (op.run t sid seq p).1 ps rs bs) (hpost : ∀ t : State, t.changesOnly (op.post sid t) ps rs bs) :
    s.changesOnly (s.accept sid src seq op p) ps rs bs := by
  have hbus : busParts ⊆ ps := fun x hx => hb (by simp [hx])
  have hreg : busRegs ⊆ rs := fun x hx => hr (by simp [hx])
  have hs : ∀ (t : State) code dup r, t.changesOnly (t.sendReply sid src seq code dup r) ps rs bs := fun t code dup r =>
    State.changesOnly_mono (t.sendReply_changesOnly sid src seq code dup r) hbus hreg (by simp)
  have hd : s.changesOnly (s.satInc F.SYS_SVB_ERR_DUP) ps rs bs := s.satInc_changesOnly _ (.inl (hr (by simp)))
  unfold State.accept
  dsimp only
  split
  · split
    · exact hs _ _ _ _
    · split
      · exact hd
      · exact State.changesOnly_trans hd (hs _ _ _ _)
  · split
    · exact hs _ _ _ _
    · split
      · exact hs _ _ _ _
      · exact State.changesOnly_trans (State.changesOnly_mono (s.setSess_changesOnly _ _) hbus hreg (by simp))
          (State.execute_changesOnly _ _ _ _ _ hb (fun x hx => hr (by simp at hx ⊢; tauto)) hrun hpost)

/-- A command row of an opcode other than SESSION_OPEN and SESSION_CONFIRM changes what its opcode changes, the sessions and
packets, the lane input number, the lanes' held events, and the counts of rejected, duplicate and badly framed commands. -/
theorem State.host_changesOnly (s : State) (c : Cmd) (op : Op) {ps : List Part} {rs : List Nat} {bs : List Block}
    (ho : op.code ≠ 0x0101) (hc : op.code ≠ 0x0102) (hb : .lan :: .time :: busParts ⊆ ps)
    (hr : F.SCH_CNT_REJECTED.addr :: F.SYS_SVB_ERR_DUP.addr :: busRegs ⊆ rs)
    (hrun : ∀ (t : State) sid seq p, t.changesOnly (op.run t sid seq p).1 ps rs bs)
    (hpost : ∀ sid (t : State), t.changesOnly (op.post sid t) ps rs bs) : s.changesOnly (s.host c op) ps rs bs := by
  have hbus : busParts ⊆ ps := fun x hx => hb (by simp [hx])
  have hreg : busRegs ⊆ rs := fun x hx => hr (by simp [hx])
  have hcmd : ∀ t : State, t.changesOnly (t.command c.sid.val ((s.sess c.sid.val).peer) c.seq.toNat op.code op c.payload) ps rs bs := by
    intro t
    unfold State.command
    have e : (op.code == 0x0102) = false := by simpa using hc
    rw [if_neg ho, e]
    dsimp only
    split
    · exact State.changesOnly_mono (t.sendPkt_changesOnly _ _ _) hbus hreg (by simp)
    · exact t.accept_changesOnly _ _ _ _ _ hb hr (fun t => hrun t _ _ _) (fun t => hpost _ t)
  unfold State.host
  dsimp only
  split
  · split
    · exact s.satInc_changesOnly _ (.inl (hr (by simp [busRegs, F.SYS_SVB_ERR_FRAMING, F.SYS_SVB_ERR_DUP])))
    · refine State.changesOnly_trans ?_ (hcmd _)
      split
      · exact State.changesOnly_mono (s.setSess_changesOnly _ _) hbus hreg (by simp)
      · exact s.changesOnly_refl _ _ _
  · exact s.changesOnly_refl _ _ _

end Sys2Proof.Machine
end

