-- ==== Sys2Proof/Laws/Commands.lean ====
section
/-! SUPPORT. How the hub takes a command: what a command row does once its session takes it, and that a completed command
has its reply. -/

namespace Sys2Proof.Machine

/-! ### Sessions through the updates -/

theorem State.sess_of_svb {s t : State} (h : t.svb = s.svb) (sid : Nat) : t.sess sid = s.sess sid := by
  unfold State.sess
  rw [h]

@[simp] theorem State.sess_setReg (s : State) (a : Nat) (v : Word) (sid : Nat) : (s.setReg a v).sess sid = s.sess sid := rfl
@[simp] theorem State.sess_setFld (s : State) (f : Fld) (v sid : Nat) : (s.setFld f v).sess sid = s.sess sid := rfl
@[simp] theorem State.sess_emit (s : State) (o : Output) (sid : Nat) : (s.emit o).sess sid = s.sess sid := rfl
@[simp] theorem State.sess_laneInput (s : State) (sid : Nat) : s.laneInput.sess sid = s.sess sid := rfl
@[simp] theorem State.sess_syncIrq (s : State) (sid : Nat) : s.syncIrq.sess sid = s.sess sid :=
  State.sess_of_svb (State.syncIrq_svb s) sid

@[simp] theorem State.syncOut_svb (s : State) : s.syncOut.svb = s.svb := by
  unfold State.syncOut
  dsimp only
  split
  · rfl
  · split <;> rw [State.syncIrq_svb]
    · rw [State.incFld_svb, State.setPend_svb]
    · rw [State.setPend_svb]

@[simp] theorem State.corrupt_svb (s : State) (target : Nat) : (s.corrupt target).2.svb = s.svb := by
  unfold State.corrupt
  split
  · rfl
  · dsimp only
    split
    · rw [State.setFld_svb, State.setFld_svb]
    · rfl

@[simp] theorem State.sess_setSess_same (s : State) (sid : Nat) (ss : Session) : (s.setSess sid ss).sess sid = ss := by
  unfold State.sess
  rw [State.setSess_table]
  exact Tbl.get_put_same _ _ _ _

theorem State.sess_setSess_other (s : State) (i j : Nat) (ss : Session) (h : i ≠ j) : (s.setSess i ss).sess j = s.sess j := by
  unfold State.sess
  rw [State.setSess_table]
  exact Tbl.get_put_other _ _ _ _ _ _ h

/-- Sending a packet changes of every session at most its output queue. -/
theorem State.sess_sendPkt (s : State) (sid dst : Nat) (b : OutBody) (lane : Option LaneTag) (j : Nat) :
    ∃ out, (s.sendPkt sid dst b lane).sess j = { s.sess j with out := out } := by
  have hc := State.corrupt_svb s 0
  unfold State.sendPkt
  generalize s.corrupt 0 = c at hc
  obtain ⟨bad, t⟩ := c
  dsimp only at hc ⊢
  have ht := State.sess_of_svb hc
  split
  · next h0 =>
    subst h0
    rw [State.sess_of_svb (State.syncOut_svb _)]
    by_cases hj : j = 0
    · subst hj
      rw [State.sess_setSess_same, ht]
      exact ⟨_, rfl⟩
    · rw [State.sess_setSess_other _ _ _ _ (Ne.symm hj), ht]
      exact ⟨(s.sess j).out, rfl⟩
  · rw [State.sess_emit, ht]
    exact ⟨(s.sess j).out, rfl⟩

/-- A field outside SYS_SVB_STAT keeps its value when a session changes. -/
theorem State.fld_setSess (s : State) (sid : Nat) (ss : Session) (f : Fld) (h : R.SYS_SVB_STAT ≠ f.addr) :
    (s.setSess sid ss).fld f = s.fld f := by
  unfold State.setSess State.syncSess
  rw [State.fld_setFld_otherReg _ _ _ _ h]
  rfl

@[simp] theorem State.anyLane_setSess (s : State) (sid : Nat) (ss : Session) : (s.setSess sid ss).anyLane = s.anyLane := by
  unfold State.anyLane State.inService State.laneSt
  rw [State.fld_setSess _ _ _ F.LAN_STAT_STATE_A (by decide), State.fld_setSess _ _ _ F.LAN_STAT_STATE_B (by decide)]

@[simp] theorem State.switching_setSess (s : State) (sid : Nat) (ss : Session) : (s.setSess sid ss).switching = s.switching := by
  unfold State.switching State.flag
  rw [State.fld_setSess _ _ _ F.LAN_STAT_SWITCHING (by decide)]

@[simp] theorem State.flowRejects_setSess (s : State) (i j : Nat) (ss : Session) :
    (s.setSess i ss).flowRejects j = s.flowRejects j := by
  unfold State.flowRejects State.flag
  rw [State.fld_setSess _ _ _ F.SCH_SESS_ATOMIC (by decide), State.fld_setSess _ _ _ F.SCH_STAT_ATOMIC_ON (by decide)]

/-- An output of the lanes changes only their record (R367). -/
theorem State.laneOut_eq (s : State) (engine cls : Nat) (content : List Byte) : ∃ l, s.laneOut engine cls content = { s with lan := l } :=
  ⟨_, rfl⟩

theorem State.svb_lan (s : State) (l : Lan) : ({ s with lan := l } : State).svb = s.svb := rfl

@[simp] theorem State.laneOut_svb (s : State) (engine cls : Nat) (content : List Byte) : (s.laneOut engine cls content).svb = s.svb := by
  obtain ⟨l, h⟩ := s.laneOut_eq engine cls content
  rw [h, State.svb_lan]

@[simp] theorem State.sess_laneOut (s : State) (engine cls : Nat) (content : List Byte) (sid : Nat) :
    (s.laneOut engine cls content).sess sid = s.sess sid := State.sess_of_svb (State.laneOut_svb _ _ _ _) sid

/-- The record of the shadow lane's replies touches no session. -/
@[simp] theorem State.sess_kept (s : State) (l : List LaneOut) (sid : Nat) :
    State.sess { s with svb := { s.svb with kept := l } } sid = s.sess sid := by
  unfold State.sess
  dsimp only

/-! ### Replies -/

/-- A reply cache with the reply of one waiting command stored, where it has one. -/
def withReply (e : Outst) (cache : List CacheEntry) : List CacheEntry :=
  match e.reply with
  | none => cache
  | some r => cache.map fun c => if c.seq = e.seq then { c with reply := some r } else c

/-- A reply that leaves is stored in its cache entry; of its session only the output queue changes beside. -/
theorem State.replyOut_sess (s : State) (sid : Nat) (e : Outst) :
    ∃ out, (s.replyOut sid e).sess sid = { s.sess sid with cache := withReply e (s.sess sid).cache, out := out } := by
  unfold State.replyOut withReply
  cases hr : e.reply with
  | none => exact ⟨(s.sess sid).out, rfl⟩
  | some r =>
    obtain ⟨out, h⟩ := State.sess_sendPkt (s.setSess sid
      { s.sess sid with cache := (s.sess sid).cache.map fun c => if c.seq = e.seq then { c with reply := some r } else c })
      sid e.src (.reply e.seq e.opcode false ((s.setSess sid { s.sess sid with
        cache := (s.sess sid).cache.map fun c => if c.seq = e.seq then { c with reply := some r } else c }).sess sid).auth r) e.tag sid
    refine ⟨out, Eq.trans ?_ (h.trans (by rw [State.sess_setSess_same]))⟩
    dsimp only
    split <;> rfl

theorem State.replies_sess (sid : Nat) (go : List Outst) (s : State) :
    ∃ out, (go.foldl (fun t e => t.replyOut sid e) s).sess sid
      = { s.sess sid with cache := go.foldl (fun c e => withReply e c) (s.sess sid).cache, out := out } := by
  induction go generalizing s with
  | nil => exact ⟨(s.sess sid).out, rfl⟩
  | cons e t ih =>
    obtain ⟨o, h⟩ := s.replyOut_sess sid e
    obtain ⟨o', h'⟩ := ih (s.replyOut sid e)
    refine ⟨o', ?_⟩
    rw [List.foldl_cons, List.foldl_cons, h', h]

/-- Replies that leave and replies that stay are those there were. -/
theorem mem_readyReplies (b : Bool) (l : List Outst) (e : Outst) :
    (e ∈ l ↔ e ∈ (readyReplies b l).1 ∨ e ∈ (readyReplies b l).2) := by
  induction l generalizing b with
  | nil => simp [readyReplies]
  | cons a t ih =>
    unfold readyReplies
    split
    · dsimp only
      rw [List.mem_cons, ih b, List.mem_cons]
      tauto
    · dsimp only
      rw [List.mem_cons, ih (b || !a.fast), List.mem_cons]
      tauto

theorem withReply_seq (e : Outst) (cache : List CacheEntry) (seq : Nat) (h : ∃ c ∈ cache, c.seq = seq) :
    ∃ c ∈ withReply e cache, c.seq = seq := by
  unfold withReply
  split
  · exact h
  · obtain ⟨c, hc, hs⟩ := h
    refine ⟨_, List.mem_map_of_mem hc, ?_⟩
    split <;> exact hs

theorem withReply_keeps (e : Outst) (cache : List CacheEntry) (seq : Nat) (r : Reply) (he : e.seq = seq → e.reply = some r)
    (h : ∃ c ∈ cache, c.seq = seq ∧ c.reply = some r) : ∃ c ∈ withReply e cache, c.seq = seq ∧ c.reply = some r := by
  unfold withReply
  split
  · exact h
  · next r' hr =>
    obtain ⟨c, hc, hs, hv⟩ := h
    refine ⟨_, List.mem_map_of_mem hc, ?_⟩
    split
    · next hse =>
      have : some r' = some r := hr.symm.trans (he (hse.symm.trans hs))
      exact ⟨hs, this⟩
    · exact ⟨hs, hv⟩

/-- The cache holds the reply of a command once one of the replies that leave is its own. -/
theorem replies_cache (seq : Nat) (r : Reply) (go : List Outst) (cache : List CacheEntry)
    (he : ∀ e ∈ go, e.seq = seq → e.reply = some r) (hg : ∃ e ∈ go, e.seq = seq) (hc : ∃ c ∈ cache, c.seq = seq) :
    ∃ c ∈ go.foldl (fun c e => withReply e c) cache, c.seq = seq ∧ c.reply = some r := by
  have keep : ∀ (l : List Outst) (cache : List CacheEntry), (∀ e ∈ l, e.seq = seq → e.reply = some r) →
      (∃ c ∈ cache, c.seq = seq ∧ c.reply = some r) → ∃ c ∈ l.foldl (fun c e => withReply e c) cache, c.seq = seq ∧ c.reply = some r := by
    intro l
    induction l with
    | nil => exact fun _ _ h => h
    | cons a t ih =>
      exact fun cache hl h => ih _ (fun e m => hl e (by simp [m])) (withReply_keeps a cache seq r (hl a (by simp)) h)
  induction go generalizing cache with
  | nil => simp at hg
  | cons a t ih =>
    rw [List.foldl_cons]
    by_cases ha : a.seq = seq
    · refine keep t _ (fun e m => he e (by simp [m])) ?_
      obtain ⟨c, hm, hs⟩ := hc
      unfold withReply
      rw [he a (by simp) ha]
      exact ⟨_, List.mem_map_of_mem hm, by rw [if_pos (hs.trans ha.symm)]; exact ⟨hs, rfl⟩⟩
    · obtain ⟨e, hm, hs⟩ := hg
      rcases List.mem_cons.mp hm with rfl | hm
      · exact absurd hs ha
      · exact ih _ (fun e m => he e (by simp [m])) ⟨e, hm, hs⟩ (withReply_seq a cache seq hc)

/-- A command that awaits its reply is answered once the reply is ready: it is in the reply cache, or it waits its turn (R43, R44, R46,
R48). -/
theorem State.answer_answered (s : State) (c : Cmd) (tag : Option LaneTag) (r : Reply)
    (hc : ∃ e ∈ (s.sess c.sid.val).cache, e.seq = c.seq.toNat) (ho : ∃ e ∈ (s.sess c.sid.val).outst, e.seq = c.seq.toNat)
    (hu : ∀ e ∈ (s.sess c.sid.val).outst, e.seq = c.seq.toNat → e.reply = none) :
    (s.answer c.sid.val c.seq.toNat tag r).answered c r := by
  unfold State.answer
  dsimp only
  generalize hl : (s.sess c.sid.val).outst.map _ = l
  have h1 : ∀ e ∈ l, e.seq = c.seq.toNat → e.reply = some r := by
    rw [← hl]
    intro e he hs
    obtain ⟨a, ha, rfl⟩ := List.mem_map.mp he
    split at hs
    · next hcond => rw [if_pos hcond]
    · next hcond => exact absurd ⟨hs, by rw [hu a ha hs]; rfl⟩ hcond
  have h2 : ∃ e ∈ l, e.seq = c.seq.toNat := by
    obtain ⟨a, ha, hs⟩ := ho
    rw [← hl]
    refine ⟨_, List.mem_map_of_mem ha, ?_⟩
    split <;> exact hs
  unfold State.flushReplies
  dsimp only
  rw [State.sess_setSess_same]
  dsimp only
  generalize hx : readyReplies false l = x
  obtain ⟨go, stay⟩ := x
  have hm : ∀ e, e ∈ l ↔ e ∈ go ∨ e ∈ stay := fun e => by
    have := mem_readyReplies false l e
    rw [hx] at this
    exact this
  dsimp only
  obtain ⟨out, hs⟩ := State.replies_sess c.sid.val go ((s.setSess c.sid.val { s.sess c.sid.val with outst := l }).setSess c.sid.val
    { s.sess c.sid.val with outst := stay })
  rw [State.sess_setSess_same] at hs
  have hs' := (State.sess_of_svb (State.syncHeld_svb _) c.sid.val).trans hs
  unfold State.answered
  rw [hs']
  obtain ⟨e, he, hes⟩ := h2
  rcases (hm e).mp he with hg | hg
  · exact .inl (replies_cache _ r go _ (fun e m => h1 e ((hm e).mpr (.inl m))) ⟨e, hg, hes⟩ hc)
  · exact .inr ⟨e, hg, hes, h1 e he hes⟩

/-- A command that awaits its reply is answered once it is completed. -/
theorem State.finish_answered (s : State) (c : Cmd) (opcode : Nat) (engine : Option Nat) (r : Reply)
    (hc : ∃ e ∈ (s.sess c.sid.val).cache, e.seq = c.seq.toNat) (ho : ∃ e ∈ (s.sess c.sid.val).outst, e.seq = c.seq.toNat)
    (hu : ∀ e ∈ (s.sess c.sid.val).outst, e.seq = c.seq.toNat → e.reply = none) :
    (s.finish c.sid.val c.seq.toNat opcode engine r).answered c r := by
  unfold State.finish
  split
  · exact s.answer_answered c none r hc ho hu
  · have hk : ∀ (t : State) tag, t.sess c.sid.val = s.sess c.sid.val → (t.answer c.sid.val c.seq.toNat tag r).answered c r :=
      fun t tag h => t.answer_answered c tag r (h ▸ hc) (h ▸ ho) (h ▸ hu)
    dsimp only
    refine hk _ _ ?_
    split
    · rw [State.sess_kept, State.sess_laneOut]
    · rw [State.sess_laneOut]

/-! ### Commands taken -/

/-- A new command is recorded in its session's reply cache (R43). -/
theorem State.entered_cached (s : State) (c : Cmd) (op : Op) :
    ∃ e ∈ ((s.entered c op).sess c.sid.val).cache, e.seq = c.seq.toNat := by
  have key : ∀ (l : List CacheEntry) (e : CacheEntry), e ∈ (l ++ [e]).drop ((l ++ [e]).length - 16) := by
    intro l e
    rw [List.drop_append_of_le_length (by simp)]
    simp
  unfold State.entered
  dsimp only
  split <;> simp only [State.sess_laneInput, State.sess_setSess_same] <;> exact ⟨_, key _ _, rfl⟩

/-- A new command awaits its reply (R43, R46). -/
theorem State.entered_awaits (s : State) (c : Cmd) (op : Op) :
    ∃ e ∈ ((s.entered c op).sess c.sid.val).outst, e.seq = c.seq.toNat := by
  unfold State.entered
  dsimp only
  split <;> simp only [State.sess_laneInput, State.sess_setSess_same] <;>
    exact ⟨_, List.mem_append_right _ (List.mem_singleton.mpr rfl), rfl⟩

/-- A session with a new command recorded in its reply cache, awaiting its reply (R43, R46). -/
def recorded (ss : Session) (seq src : Nat) (op : Op) (p : List Byte) : Session :=
  let e : CacheEntry := { seq := seq, crc := crc32c (le 2 op.code ++ p), opcode := op.code }
  let out : Outst := { seq := seq, opcode := op.code, src := src, fast := op.fast }
  { ss with h := seq, cache := (ss.cache ++ [e]).drop ((ss.cache ++ [e]).length - 16), outst := ss.outst ++ [out] }

/-- A command that the hub takes is executed on the state with the command recorded; its reply leaves or waits, and what
the opcode does after its reply follows (R41, R43, R44, R46, R50). -/
theorem State.host_of_takes (s : State) (c : Cmd) (op : Op) (h : s.takes c op = true) :
    s.host c op =
      match op.run (s.entered c op) c.sid.val c.seq.toNat c.payload with
      | (t, some r) => (t.finish c.sid.val c.seq.toNat op.code (s.engineFor op c.payload) r).follow c.sid.val c.seq.toNat op
      | (t, none) => t := by
  have hexec : ∀ (u : State) (ss : Session), u.upd = s.upd → u.anyLane = s.anyLane → u.switching = s.switching →
      (∀ j, u.flowRejects j = s.flowRejects j) → ss.level = (s.sess c.sid.val).level →
      (u.setSess c.sid.val ss).execute c.sid.val c.seq.toNat op c.payload =
        match op.run (if op.lane c.payload then (u.setSess c.sid.val ss).laneInput else u.setSess c.sid.val ss) c.sid.val
          c.seq.toNat c.payload with
        | (t, some r) => (t.finish c.sid.val c.seq.toNat op.code (s.engineFor op c.payload) r).follow c.sid.val c.seq.toNat op
        | (t, none) => t := by
    intro u ss h1 h2 h3 h4 h5
    have hg : (u.setSess c.sid.val ss).engineFor op c.payload = s.engineFor op c.payload := by
      unfold State.engineFor
      rw [State.anyLane_setSess, h2]
    unfold State.execute
    dsimp only
    simp only [State.takes, Bool.and_eq_true, decide_eq_true_eq] at h
    obtain ⟨⟨⟨-, hr⟩, hrec⟩, hl⟩ := h
    rw [State.sess_setSess_same, h5, if_neg (by omega), State.setSess_upd, h1, if_neg (by
        revert hrec; cases s.upd.recovery <;> cases op.known <;> cases recoveryOp op.code <;> simp),
      State.anyLane_setSess, State.switching_setSess, State.flowRejects_setSess, h2, h3, h4, if_neg (by
        revert hl; cases op.lane c.payload <;> cases s.anyLane <;> cases s.switching <;> simp), if_neg (by
        revert hl; cases op.lane c.payload <;> cases s.flowRejects c.sid.val <;> simp), hg]
    all_goals rfl
  have hfresh : (s.sess c.sid.val).fresh c.seq.toNat = true ∧ op.code ≠ 0x0101 ∧ op.code ≠ 0x0102 ∧ s.reaches c op.code = true := by
    simp only [State.takes, Bool.and_eq_true, bne_iff_ne, ne_eq, decide_eq_true_eq] at h
    exact ⟨h.1.1.1.2, h.1.1.1.1.1.2, h.1.1.1.1.2, h.1.1.1.1.1.1⟩
  obtain ⟨hf, h1, h2, hre⟩ := hfresh
  simp only [Session.fresh, Bool.and_eq_true, decide_eq_true_eq] at hf
  obtain ⟨⟨⟨⟨⟨ho, hc⟩, -⟩, hd⟩, hd'⟩, ha⟩ := hf
  have hfind : (s.sess c.sid.val).cache.find? (fun e => e.seq == c.seq.toNat) = none := by
    rw [List.find?_eq_none]
    intro e he
    simpa using List.all_eq_true.mp hc e he
  simp only [State.reaches, Bool.and_eq_true, Bool.or_eq_true, decide_eq_true_eq] at hre
  obtain ⟨⟨⟨hsv, htr⟩, hud⟩, hw⟩ := hre
  have hcmd : ∀ (u : State) (p : Nat), (u.sess c.sid.val).isOpen = (s.sess c.sid.val).isOpen →
      (u.sess c.sid.val).cache = (s.sess c.sid.val).cache → (u.sess c.sid.val).h = (s.sess c.sid.val).h →
      (u.sess c.sid.val).outst = (s.sess c.sid.val).outst →
      u.command c.sid.val p c.seq.toNat op.code op c.payload =
        (u.setSess c.sid.val (recorded (u.sess c.sid.val) c.seq.toNat p op c.payload)).execute c.sid.val c.seq.toNat op
          c.payload := by
    intro u p i1 i2 i3 i4
    have e2 : (op.code == 0x0102) = false := by simpa using h2
    unfold State.command
    dsimp only
    rw [if_neg h1, e2]
    dsimp only
    have e3 : (u.sess c.sid.val).isOpen = true := i1.trans ho
    have e4 : (u.sess c.sid.val).cache.find? (fun e => e.seq == c.seq.toNat) = none := i2 ▸ hfind
    have e6 : awaiting (u.sess c.sid.val) = awaiting (s.sess c.sid.val) := by rw [awaiting, i4]; rfl
    rw [e3, if_neg (by decide), Bool.false_and, if_neg (by decide)]
    unfold State.accept
    dsimp only
    rw [e4]
    dsimp only
    rw [i3, e6, if_neg (by omega), if_neg (by omega)]
    rfl
  unfold State.host
  dsimp only
  have hfr : ¬((decide (1408 < wireLength (s.sess c.sid.val).auth op.code c.payload) || (c.sid.val != 0 && !s.udpEnabled c.sid.val))
      = true) := by
    rw [Bool.or_eq_true, decide_eq_true_eq]
    rintro (h | h)
    · omega
    · revert h
      rcases hud with hud | hud <;> simp only [bne, hud] <;> simp
  have hcond : ((s.sess c.sid.val).isOpen && (s.sess c.sid.val).auth && op.code != 0x0101) = (s.sess c.sid.val).auth := by
    have h3 : (op.code != 0x0101) = true := by simpa using h1
    rw [ho, h3, Bool.true_and, Bool.and_true]
  rw [if_pos (by rw [hsv, htr]; rfl), if_neg hfr, hcond]
  unfold State.entered
  dsimp only
  by_cases hau : (s.sess c.sid.val).auth = true
  · simp only [if_pos hau]
    rw [hcmd _ _ (by rw [State.sess_setSess_same]) (by rw [State.sess_setSess_same]) (by rw [State.sess_setSess_same])
        (by rw [State.sess_setSess_same]),
      hexec _ _ (State.setSess_upd _ _ _) (State.anyLane_setSess _ _ _) (State.switching_setSess _ _ _)
        (fun _ => State.flowRejects_setSess _ _ _ _) (by rw [State.sess_setSess_same]; rfl), State.sess_setSess_same]
    all_goals rfl
  · simp only [if_neg hau]
    rw [hcmd _ _ rfl rfl rfl rfl, hexec _ _ rfl rfl rfl (fun _ => rfl) (by rfl)]
    all_goals rfl

end Sys2Proof.Machine
end

