-- ==== Sys2Proof/Tests/Slice0.lean ====
section
/-! SUPPORT. Tests: an ill-formed command for each check of well-formedness, and for every statement a state and operands that
meet its hypotheses. -/

namespace Sys2Proof.Tests
open Sys2Proof Sys2Proof.Machine
set_option Elab.async false

/-! ### States and operands for the witnesses -/

/-- A module that has started: the hub serves, Lane A is ACTIVE and Lane B SHADOW, HS_RDY_N is low, site time is 2026-07. -/
def up : State :=
  (({ State.reset with
      pwr := { state := .run, hubReady := true }
      svb := { rdyHigh := false }
      time := { ext := 1784000000123456789 * 2 ^ 32, elapsed := 1000000000000 * 2 ^ 32, stamp := 1784000000123456789, stampEl := 1000000000000 } } : State).setFld F.LAN_STAT_STATE_A 5).setFld
    F.LAN_STAT_STATE_B 4

/-- The same with an address on Ethernet and an authenticated level A session under SID 1. -/
def net : State :=
  (up.setFld F.ETH_IP_ADDR_ADDR 0xC0A80102).setSess 1
    { isOpen := true, level := 2, auth := true, key := 77, slot := 3, h := 4, peer := 0xC0A801050BB8, lastAuth := 999000000000 }

/-- The module is in Backup. -/
def backupS : State := { State.reset with pwr := { State.reset.pwr with state := .backup } }

/-- A command of session 0, and one of session 1. -/
def c0 (p : List Byte) : Cmd := ⟨0, 1, p⟩
def c1 (p : List Byte) : Cmd := ⟨1, 5, p⟩

/-- A reply of session 0 is awaited; the position of a hub engine is selected, its clock running. -/
def waiting1 : State := up.setSess 0 { up.sess 0 with h := 0, outst := [{ seq := 0, opcode := 0x0105, src := 0 }] }
def serveTt : State := (up.setFld F.SYS_TT_SEL_DIE 0).setFld F.SYS_TT_SEL_ENGINE 2

/-- `n` payload bytes of one value. -/
def bytes (n : Nat) (b : Byte) : List Byte := List.replicate n b

/-- A reply that waits in session 0's output queue. -/
def pkt : OutPkt := { body := .reply 1 0x0100 false false ⟨0, []⟩ }
def withOut : State := up.setSess 0 { up.sess 0 with out := [pkt] }
/-- Key slot 3 holds a SESSION key of level 2. -/
def keyed : State :=
  (({ up with sec := { up.sec with keys := [(3, 5)] } } : State).setFld (F.SEC_SLOT_USAGE 3) 1).setFld (F.SEC_SLOT_LEVEL 3) 2

/-- A handshake is pending under SID 0, older than 5 s or younger. -/
def shaken : State := up.setSess 0 { up.sess 0 with hs := some ⟨3, 2, 1, 2, 99, 0⟩ }
def shakenNow : State := up.setSess 0 { up.sess 0 with hs := some ⟨3, 2, 1, 2, 99, 999999999999⟩ }

/-- Session 1 has been idle for long. -/
def idle1 : State := net.setSess 1 { net.sess 1 with lastAuth := 0 }

/-- The SIGN slot holds a key, and a command of session 1 signed under it. -/
def signs : State := (({ net with sec := { net.sec with keys := [(0, 6)] } } : State).setFld (F.SEC_SLOT_USAGE 0) 4).setFld F.SEC_CTL_SIGN_SLOT 0
def signed1 (opcode : Nat) (body : List Byte) : Cmd := c1 (body ++ cmac64 6 (net.signedBytes 1 5 opcode body))

theorem length_le (n v : Nat) : (le n v).length = n := by
  induction n generalizing v with
  | zero => rfl
  | succ n ih => simp [le, ih]

theorem sigOk_signed1 (s : State) (opcode : Nat) (body : List Byte) (hu : s.fuses = net.fuses)
    (hk : s.keyIn (s.fld F.SEC_CTL_SIGN_SLOT) usageSIGN = some 6) :
    s.sigOk (signed1 opcode body).sid.val (signed1 opcode body).seq.toNat opcode (signed1 opcode body).payload = true := by
  have h : s.signedBytes 1 5 opcode body = net.signedBytes 1 5 opcode body := by simp [State.signedBytes, State.unitBytes, hu]
  simp only [State.sigOk, hk, signed1, c1]
  have hl : (cmac64 6 (net.signedBytes 1 5 opcode body)).length = 8 := length_le _ _
  have e : (body ++ cmac64 6 (net.signedBytes 1 5 opcode body)).length - 8 = body.length := by simp [hl]
  have q : ((1 : Fin 4) : Nat) = 1 := rfl
  have r : (5 : BitVec 16).toNat = 5 := rfl
  rw [e, q, r, List.take_left', List.drop_left', h]
  · simp [hl]
  · rfl
  · rfl

def tt : State := up.setFld F.SYS_TT_SEL_DIE 0 |>.setFld F.SYS_TT_SEL_ENGINE 8 |> fun s => { s with pwr := { s.pwr with hubReady := false } }
/-- Queue 5 with a full fill bank, queue 33 likewise; queue 26 with a packet to read. -/
def fullQ : State := (up.setQueue 5 { fill := [{ len := 4088 }] }).setQueue 33 { fill := [{ len := 4088 }] }
def waitQ : State := up.setQueue 5 { fill := [{ len := 4088 }], wait := [{ len := 4088 }], full := some 3 }
def drainQ2 (q : Nat) : State :=
  (({ up with eng := up.eng }.setFld F.LAN_STAT_STATE_B 6 : State).setSess 0 { up.sess 0 with outst := [{ seq := 0, opcode := 0x105, src := 0 }], cache := [{ seq := 0, crc := 0, opcode := 0x105 }], mask := 1 }).setQueue q { drain := [{ len := 8 }] }
/-- A token whose owner has dropped it stays with it for some ns more. -/
def stretched (n : Nat) : State := (up.tokenRequest 1 2).setTokenArb 1 { (up.tokenRequest 1 2).tokenArb 1 with stretch := some (up.el + n) }
def drainQ (ecc : Bool) : State := up.setQueue 26 { drain := [{ len := 8 }], drainEcc := ecc }

/-- The sky baseband in use; with a Galileo satellite tracked on channel 5, or a GPS satellite on channel 6. -/
def skyUp : State := ((up.setFld F.SKY_CTL_EN 1).setFld F.SKY_CTL_SYS_EN 31).setFld F.SKY_CTL_L5_EN 1
def sat : State :=
  (skyUp.setChan 5 { busy := true, system := 1, svid := 12 }).setTracker 5 0 { signal := 3, state := 4, tMs := 4, doppler := 1540, cn0 := 4300 }
def skyGps : State :=
  (skyUp.setChan 6 { busy := true, system := 0, svid := 3 }).setTracker 6 0 { signal := 1, state := 3, tMs := 1 }

def notched (low : Option Nat) : State := ((skyUp.setFld (fNotch 1) 15).setFld F.SKY_ITF_NOTCH_THR 10).setNotchLow 6 low
def sidePeak : State := sat.setTracker 5 0 { sat.tracker 5 0 with integ := [⟨sat.el, 7, 0, 5, 9, 7⟩] }

/-- A GNSS source valid since the start, qualified or not, in a time state; and one in use after the first step. -/
def timed (q : Bool) (state : Nat) : State :=
  ({ up with time := { up.time with gnss := { validSince := some 0, lastValid := if q then 0 else up.el, qualified := q } } } : State).setFld F.TIM_STAT_STATE state
def stepped : State :=
  let t : State := { timed true 1 with time := { (timed true 1).time with yf := 5, gnss := { (timed true 1).time.gnss with theta := -25000 } } }
  ((((t.setFld F.TIM_STAT_STEPPED 1).setFld F.TIM_CTL_DISC_EN 1).setFld F.TIM_STAT_SOURCE 1).setFld F.TIM_LOOP_TAU 250).setFld F.TIM_LOOP_SLEW 50
def steppedNet : State :=
  (stepped.setFld F.ETH_IP_ADDR_ADDR 0xC0A80102).setSess 1 (net.sess 1)


/-- RTK in use: rover slot 3 is bound, and the lanes hold the base record of one epoch; an observation body of that epoch. -/
def rtkUp : State :=
  let t := ((up.setFld F.RTK_CTL_EN 1).setFld F.RTK_CTL_LOST_N 2).setFld F.TIM_STAT_STATE 2
  (({ t with rtk := { t.rtk with bases := [⟨60480001000, 1, true, none, 0, 0, []⟩], origin := some (1, 2, 3) } } : State).setBound 3
    { bound := true }).setRk 3 { live := true, had := true, gen := 4, misses := 2, ifCount := 10 }
def obsBody : List Byte := [0xE8, 3, 0, 0, 100, 0, 0x81, 1] ++ bytes 4 0 ++ [0x31, 5] ++ bytes 10 0
def pend1 : PendingObs := ⟨60480001000, 0, []⟩
def waits : State := { rtkUp with rtk := { rtkUp.rtk with waiting := [({ slot := 3 }, pend1, ⟨60480001000, 1, true, none, 0, 0, []⟩)] } }

/-- Slot 3 collects a snapshot of two chunks. -/
def snaps : State :=
  let t := ((((rtkUp.setFld F.RAD_CTL_NET 0).setFld F.SNP_CTL_EN 1).setFld F.SNP_CTL_GAP 2).setFld (F.RAD_P_CFG_EN 0) 1).setFld F.RAD_CTL_EN 1
  ((({ t with sec := { t.sec with keys := [(4, 9)] } } : State).setFld (F.SEC_SLOT_USAGE 4) usageRADIO).setFld F.RAD_KEY_SLOT0 4)
def snapOf (n : Nat) (r : Option Nat) : SnapEntry := { id := 7, count := n, len := some 64, chunks := [(0, bytes 64 1)], lastSf := 0, lastAt := 0, ready := r }
def snapTwo : State := snaps.setSnap 3 (some (snapOf 2 none))
def snapThree : State := snaps.setSnap 3 (some (snapOf 3 none))
def solving (s : State) (at_ : Nat) : State :=
  let t := s.setSnap 3 (some (snapOf 1 (some 0)))
  { t with snp := { t.snp with solving := some (3, at_) } }

def snapReadyUp : State :=
  let t := solving ((snaps.setFld (F.ARB_PWR_REQ_GRANT 2) 5).setFld F.ARB_DRAM_OWNER 1) 0
  { t with snp := { t.snp with solving := none } }
def fiveSats (s : State) : State :=
  (List.range 5).foldl (fun t i =>
    let t := t.setChan i { busy := true, system := 0, svid := i + 1, elev := 45 }
    { t with sky := { t.sky with eph := Tbl.put {} t.sky.eph (8 * satKey 0 (i + 1) + 1) { inUse := [1] } } }) s

theorem leNat_append_take (h x : List Byte) (o n : Nat) (hn : o + n ≤ h.length) : rdN (h ++ x) o n = rdN h o n := by
  unfold rdN
  rw [List.drop_append_of_le_length (by omega), List.take_append_of_le_length (by simp; omega)]

/-- A radio frame of twelve header bytes, a body and its tag under key `k` passes. -/
theorem rx_air (s : State) (k : Nat) (h body : List Byte) (h12 : h.length = 12) (hf : bit (rdN h 1 1) 0 = false)
    (hv : rdN h 0 1 / 16 = 1) (hs : rdN h 2 2 = s.site) (hn : rdN h 4 1 = s.net) (hl : rdN h 8 2 = body.length)
    (hi : rdN h 10 1 = 0) (hk : s.radioKey 0 = some k) :
    s.rxFrame (h ++ (body ++ cmac64 k (h ++ body))) =
      some ⟨rdN h 0 1 % 16, false, bit (rdN h 1 1) 1, rdN h 5 1, rdN h 6 2, 255, 0, body, true⟩ := by
  have hc : (cmac64 k (h ++ body)).length = 8 := length_le _ _
  have e (o n : Nat) (x : o + n ≤ 12) : rdN (h ++ (body ++ cmac64 k (h ++ body))) o n = rdN h o n :=
    leNat_append_take _ _ _ _ (by omega)
  unfold State.rxFrame
  simp only [e 1 1 (by omega), e 0 1 (by omega), e 2 2 (by omega), e 4 1 (by omega), e 8 2 (by omega), e 10 1 (by omega),
    e 5 1 (by omega), e 6 2 (by omega), hf, hv, hs, hn, hl, hi]
  have d : List.drop 12 (h ++ (body ++ cmac64 k (h ++ body))) = body ++ cmac64 k (h ++ body) := List.drop_left' h12
  have tk : List.take 12 (h ++ (body ++ cmac64 k (h ++ body))) = h := List.take_left' h12
  have dd : List.drop (12 + body.length) (h ++ (body ++ cmac64 k (h ++ body))) = cmac64 k (h ++ body) := by
    rw [← List.drop_drop, d, List.drop_left']; rfl
  simp [h12, hc, hk, d, tk, dd, Nat.add_assoc]
def airHead (ftype flags slot n : Nat) : List Byte := le 1 (ftype + 16) ++ le 1 flags ++ le 2 0 ++ le 1 0 ++ le 1 slot ++ le 2 0 ++ le 2 n ++ [0, 0]
def air (ftype flags slot : Nat) (body : List Byte) : List Byte :=
  airHead ftype flags slot body.length ++ (body ++ cmac64 9 (airHead ftype flags slot body.length ++ body))
def airF (ftype slot : Nat) (up : Bool) (body : List Byte) : RxFrame := ⟨ftype, false, up, slot, 0, 255, 0, body, true⟩
def headOk (ft fl slot n : Nat) : Bool :=
  let h := airHead ft fl slot n
  !bit (rdN h 1 1) 0 && rdN h 0 1 / 16 == 1 && rdN h 2 2 == 0 && rdN h 4 1 == 0 && rdN h 8 2 == n && rdN h 10 1 == 0 &&
    rdN h 0 1 % 16 == ft && rdN h 5 1 == slot && rdN h 6 2 == 0 && h.length == 12
theorem air_rx (s : State) (ft fl slot : Nat) (b : List Byte) (hc : headOk ft fl slot b.length = true) (hs : s.site = 0) (hn : s.net = 0)
    (hk : s.radioKey 0 = some 9) : s.rxFrame (air ft fl slot b) = some (airF ft slot (bit (rdN (airHead ft fl slot b.length) 1 1) 1) b) := by
  simp only [headOk, Bool.and_eq_true, beq_iff_eq, Bool.not_eq_true'] at hc
  obtain ⟨⟨⟨⟨⟨⟨⟨⟨⟨h1, h2⟩, h3⟩, h4⟩, h5⟩, h6⟩, h7⟩, h8⟩, h9⟩, h10⟩ := hc
  have := rx_air s 9 (airHead ft fl slot b.length) b h10 h1 h2 (h3.trans hs.symm) (h4.trans hn.symm) h5 h6 hk
  rw [h7, h8, h9] at this
  exact this
def chunkOk : List Byte := [1, 0] ++ [7, 0, 1, 0, 3, 0, 64, 0] ++ bytes 64 5
def chunkBad : List Byte := [1, 0] ++ [7, 0, 1, 0, 1, 0, 1, 0]

/-- A map of three blocks in a row, and its image; rover 3 stands on the first with a fix. -/
def blk (i o : Nat) : BlockRec := { blockZero with len := 500, vmax := 40, half := 10, zoneA := 0, linkIn := i, linkOut := o, e0 := 0, n0 := 0, e1 := 50000, n1 := 0 }
def yard : SiteMap := ⟨9, originCrc (1, 2, 3), [blk 0x8000 1, { blk 0 2 with e0 := 50000, e1 := 100000 }, { blk 1 0x8000 with e0 := 100000, e1 := 150000 }], [], [(4, 0)]⟩
def sbxUp : State :=
  let t := ((rtkUp.setFld F.SBX_CTL_EN 1).setFld F.STP_STAT_STOPPED 0).setRk 3 { record := some { cls := 3, epoch := 1783999981000, hpl := 50, vpl := 50 } }
  ({ t with sbx := { t.sbx with map := some yard }, rtk := { t.rtk with frame := some (1, 2, 3) } } : State).setSx 3 { occ := [0], authId := 5 }
def auth1 (e : Option Nat) : Auth := { id := 4, blocks := [0, 1], endOfs := 500, expiry := e }
def routed (e : Option Nat) : State := sbxUp.setSx 3 { occ := [0], authId := 5, auth := some (auth1 e), route := [0, 1], avoid := [([2], 7)], releasing := [⟨2, 4, 4, some 5, true⟩], tent := some { auth1 (some 7) with blocks := [2] }, withdraws := [⟨2, 1, 7, some 0, true⟩] }
def mapImage : List Byte :=
  let b (i o : Nat) : List Byte := le 2 500 ++ [0, 40, 10, 0] ++ le 2 0 ++ le 2 65535 ++ le 2 i ++ le 2 o ++ zeros 2 ++ zeros 16
  let p := [0x54, 0x4C, 0x58, 0x4D, 1, 0, 0, 0] ++ le 4 9 ++ le 2 1 ++ le 2 0 ++ le 2 1 ++ zeros 2 ++ le 4 (originCrc (1, 2, 3)) ++ le 4 76 ++ zeros 4 ++ b 0x8000 0x8000 ++ [4, 0] ++ zeros 6
  p ++ le 4 (crc32c p)
def stagingMap (bad : Nat) : State :=
  let t := sbxUp.dramStore 64 mapImage
  { t with sbx := { t.sbx with staging := some (64 + bad, 76) } }
def stagedMap : State := { sbxUp with sbx := { sbxUp.sbx with staged := some { yard with id := 10 } } }
def sbxReq (map : Nat) : Cmd := c0 ([3, 2, 0, 0] ++ le 4 map ++ le 2 2 ++ le 2 500 ++ le 2 0 ++ le 2 1)
def passing (s : State) : State := { s with time := { s.time with ext := (s.t0 + 9000000) * 2 ^ 32 } }

/-- Allotment in use; rover 3 has a task under way to block 2. -/
def altUp : State :=
  let t := ((sbxUp.setFld F.ALT_CTL_EN 1).setFld F.ALT_STAT_NO_LMK 0).setFld (F.ARB_PWR_REQ_GRANT 1) 5
  { t with alt := { t.alt with lmk := some ⟨9, 1, 3, [0, 0, 0]⟩, sinceRound := 200 } }
def tasked (x : Task) : State := { altUp with alt := { altUp.alt with tasks := [(7, x)] } }
def driving (n : Nat) : State := tasked { state := 5, type := 1, prio := 2, slot := 3, origin := 0, dest := 2, search := some 0, tries := n }
def working (x : Nat) : State := tasked { state := x, type := 1, prio := 2, slot := 3, origin := 0, dest := 2 }
def rerouting : State := { driving 0 with alt := { (driving 0).alt with reroute := [(3, 0)] } }
def emptyRound (e : Nat) : Round := ⟨e, [3], [7], [[some 100]]⟩
def inRound : State := { working 1 with alt := { (working 1).alt with round := some (emptyRound 0) } }
def roundNow : State := { inRound with alt := { inRound.alt with round := some (emptyRound inRound.laneEl) } }
def lmkImage : List Byte :=
  let p := [0x4C, 0x4D, 0x4B, 0x31] ++ le 4 9 ++ le 2 1 ++ le 2 3 ++ zeros 4 ++ zeros 12
  p ++ le 4 (crc32c p)
def loading (n o : Nat) : State :=
  let t := altUp.dramStore 64 lmkImage
  { t with alt := { t.alt with lmkLoad := some (64 + o, 32) }, sbx := { t.sbx with map := some { yard with id := n }, staged := some yard } }

/-- The timetabler in use, with one authority waiting to be profiled. -/
def ttbUp : State := (routed none).setFld F.TTB_CTL_EN 1 |>.setFld F.SBX_EXP_AUTH_MS 1500 |>.setProf 3 { camSeen := true, camVer := 1 }
def job (p : Option Nat) : Job := { slot := 3, preview := false, auth := auth1 none, cls := 2, planned := p }
def jobs (l : List Job) : State := { ttbUp with ttb := { ttbUp.ttb with jobs := l } }
def atCommit : State := { jobs [] with time := { up.time with ext := (ttbUp.t0 + 15000000) * 2 ^ 32 } }
def committing : State := { atCommit with ttb := { atCommit.ttb with jobs := [job (some (atCommit.t0 + 14 * oneMs))] } }
/-- A plan over the yard's first two blocks, at rest 4 s from its start. -/
def planOf : PlanLimits :=
  { sharp := false, amax := 500000, dmax := 800000, jmax := 1000, endS := unitMm * 100000, stopMs := 4000, top := 3000, map := yard, blocks := [0, 1] }
def camImage : List Byte :=
  let p := [0x54, 0x43, 0x41, 0x4D, 1, 0] ++ le 2 1 ++ le 2 2 ++ zeros 6 ++ zeros 510 ++ le 2 3000
  p ++ le 4 (crc32c p)
def stagingCam (o : Nat) : State :=
  let t := if o = 0 then ttbUp.dramStore 64 camImage else ttbUp
  { t with ttb := { t.ttb with staging := some (64 + o, 532 / (1 + 2 * o)) } }
def stagedCam : State := { ttbUp with ttb := { ttbUp.ttb with staged := some ⟨2, [0]⟩ } } |>.setFld F.STP_STAT_STOPPED 1

/-- The radio in use: port 0 is on air in a superframe that began 20 ms ago, and rover 3 is joined on it. -/
def radBind : Binding := { bound := true, unit := 77, port := 0, joined := true, dn := (10, 3), up := (96, 1), camVer := 1, sections := [⟨2, false, 4, [1, 2, 3]⟩], misses := 1 }
def radUp : State :=
  let t := (snaps.setFld F.RAD_CTL_JOIN_EN 1).setFld F.STP_STAT_STOPPED 0
  let t0 := t.t0
  let t : State := { t with time := { t.time with ext := (t0 + 20000000) * 2 ^ 32 }, rad := { t.rad with t0 := some t0 } }
  (t.setBound 3 radBind).setPort 0 { armed := [1] }
def radF : Nat := radUp.sfAt radUp.t0
def radRoom : Nat := runCapacity (radUp.fld (F.RAD_P_CFG_RATE 0)) 3 - 28
def radGrant (k : Nat) (a : List Answer) : State := radUp.setPort 0 { armed := [1], grants := [⟨5, 2, 3, k⟩], answers := a }
def radMove : State := radUp.setBound 3 { radBind with move := some ⟨1, (20, 3), (100, 1), 0, false⟩ }
def pendTab (at_ : Nat) : PendTables := { n := 200, ver := 9, at_ := at_, tables := [(0, defaultTable)], runs := [(3, ((48, 1), (97, 1)))] }
def radPend (at_ : Nat) : State := { radUp with rad := { radUp.rad with pend := some (pendTab at_) } }
def upBody : List Byte := [4, 0, 1, 0, 1, 0, 255, 255, 0x30, 80, 0, 10]
def joinBody : List Byte := le 8 77 ++ le 2 1 ++ [0, 0] ++ le 4 12345
def radIdle : State := { radUp with rad := { radUp.rad with t0 := none, rovers := [] } }
def assign (a n unit : Nat) : Cmd := c0 (le 1 a ++ le 1 n ++ le 8 unit ++ [255, 0, 1, 0, 0, 0])
def tableCmd : Cmd := c0 (le 2 160 ++ le 1 15 ++ le 1 9 ++ (defaultTable.map fun e => le 2 e.start ++ le 1 e.count ++ le 1 e.span ++ le 1 e.type ++ [0]).flatten)
def camSmall : State := { radGrant 0 [] with ttb := { (radGrant 0 []).ttb with cam := some ⟨2, [0, 5]⟩ } }

/-- Both Ethernet ports have link; stops in several states. -/
def ethUp2 (s : State) : State := (((s.setFld (F.ETH_P_CFG_EN 0) 1).setFld (F.ETH_P_CFG_EN 1) 1).setFld (F.ETH_P_STAT_LINK 0) 1).setFld (F.ETH_P_STAT_LINK 1) 1
def stopUp : State := ((ethUp2 radUp).setFld F.STP_SRC_SRC 0).setFld F.STP_STAT_IN_A 0 |>.setFld F.STP_STAT_IN_B 0 |>.setFld F.STP_CTL_CHAIN_SEND 1 |>.setFld F.STP_CTL_CHAIN_OBEY 1
def srcOn (n : Nat) : State := (stopUp.setFld F.STP_SRC_SRC (2 ^ n)).setFld F.STP_STAT_STOPPED 1
def stopSent : List Byte := le 2 0 ++ le 1 9 ++ le 1 1 ++ le 4 5 ++ le 1 3 ++ zeros 3 ++ bytes 8 1
def stopChainFrame : List Byte := chainDA ++ bytes 6 2 ++ [0x88, 0xB5, 1, 1, 20, 0] ++ stopSent
def releasing : State := { srcOn 3 with stp := { (srcOn 3).stp with release := some 5, firedAt := some 1 } }
def quietStop : State := ({ (srcOn 3) with stp := { (srcOn 3).stp with firedAt := some 1, inactiveA := some 0, inactiveB := some 0 } } : State).setFld (F.RAD_P_STAT_ARM_OK 0) 1
def targets : State := { stopUp with stp := { stopUp.stp with rovers := [3], zones := [⟨0, [3]⟩], targets := [⟨1, 3, 5⟩, ⟨2, 0, 5⟩] } }
def zoneUp : State := { stopUp with sbx := { sbxUp.sbx with reqs := [] }, rtk := sbxUp.rtk }
/-- The same state with session 1 of level 2 open beside session 0. -/
def lev2 (s : State) : State := (s.setFld F.ETH_IP_ADDR_ADDR 0xC0A80102).setSess 1 (net.sess 1)

/-- Ethernet: a module with an address, on a chain, in Dormant; frames. -/
def macUp : State := ((stopUp.setFld F.ETH_IP_ADDR_ADDR 0xC0A80102).setFld F.ETH_MAC_HI_MAC_HI 0x0200).setFld F.ETH_MAC_LO_MAC_LO 7
def pingFrame : List Byte := be 6 0x020000000007 ++ be 6 0x020000000002 ++ be 2 0x0800 ++ ipHeader 0xC0A80101 0xC0A80102 1 64 8 ++ [8, 0, 1, 2, 3, 4, 5, 6] ++ zeros 18
def chainUp : State := macUp.setFld F.ETH_CTL_CHAIN_EN 1
def chainFrameOf (t : Nat) (p : List Byte) : List Byte := chainDA ++ be 6 0x020000000002 ++ [0x88, 0xB5, 1] ++ le 1 t ++ le 2 p.length ++ p ++ zeros 20
def discing : State := { chainUp with eth := { chainUp.eth with disc := [⟨0, 1, 9, 0, []⟩] } }
def asksChain : State := discing.setSess 0 { discing.sess 0 with outst := [{ seq := 1, opcode := 0x0A05, src := 0 }] }
def dozing : State := { (((macUp.setFld F.ETH_WAKE_CTL_PORT 0).setFld F.ETH_WAKE_CTL_MAGIC 1).setFld F.PWR_WAKE_ETH_EN 1) with pwr := { state := .dormant, hubReady := true } }
def p2pUp : State := ((chainUp.setFld F.ETH_PTP_CTL_TC_MODE 1).setFld F.ETH_PTP_CTL_TRANSPORT 0).setEp 0 { pdSeq := 0, pdT1 := some 1000, delays := [500, 600] }
def ptpFrame (ty flags : Nat) (body : List Byte) : EthIn :=
  { bytes := be 6 0x011B19000000 ++ be 6 0x020000000002 ++ be 2 0x88F7 ++ be 1 ty ++ [0x12, 0, 64, 0, 0] ++ be 2 flags ++ zeros 12 ++ be 10 99 ++ be 2 0 ++ [5, 0] ++ body, rx := 7000, tx := 9000 }
def slaveOnly : State := ((chainUp.setFld F.ETH_PTP_CTL_ROLE 1).setFld F.ETH_PTP_CTL_DOMAIN 0).setFld F.ETH_PTP_CTL_TC_MODE 0 |>.setFld F.ETH_PTP_CTL_TRANSPORT 0
def slaveUp : State :=
  let t := (slaveOnly.setFld F.ETH_PTP_STAT_PORT_STATE psSLAVE).setFld F.ETH_PTP_STAT_SLAVE_PORT 0
  { t with eth := { t.eth with ptp := { t.eth.ptp with best := some ⟨1, 0, 99, 0, 0⟩ } } }
def slaveAsks : State := { slaveUp with eth := { slaveUp.eth with ptp := { slaveUp.eth.ptp with sync := some (7, 8), dreq := some (0, 9) } } }
def ptpMaster : State := chainUp.setFld F.ETH_PTP_STAT_PORT_STATE psMASTER

/-- Metering runs on both points; a window is held. -/
def metering : State :=
  let t := ((((up.setFld F.MTR_CTL_EN0 1).setFld F.MTR_CTL_EN1 1).setFld F.MTR_CTL_WIRE0 0).setFld F.MTR_CTL_WIRE1 0)
  { t with mtr := { t.mtr with running := true } }
def mtrX : MtrIn := ⟨List.replicate 7 0x5555⟩
def windowed : State := metering.setMp 0 { windows := [{ at_ := 5, freq := 5000, groups := [[700 * 2 ^ 17, 7]] }] }

/-- Lanes in several states. -/
def testing : State := up.setFld F.LAN_STAT_STATE_B 1
def switchTo (a b : Nat) : State := ((up.setFld F.LAN_STAT_STATE_A a).setFld F.LAN_STAT_STATE_B b).setFld F.LAN_STAT_SWITCHING 1
def switchCold : State := { ((up.setFld F.LAN_STAT_STATE_A 8).setFld F.LAN_STAT_STATE_B 8) with upd := { up.upd with unconfirmed := true } }
def rescrubbing : State := { up with lan := { up.lan with rescrub := some 5 } }
/-- The rack engine has its power grant. -/
def powered (s : State) : State := s.setFld (F.ARB_PWR_REQ_GRANT 3) 3
def racking (p : Bool) : State := { (up.setFld F.LAN_STAT_STATE_B 2) with lan := { up.lan with precopied := p } }

/-- A module with a root secret; an enrolment cask, and one under the module's root secret. -/
def rooted : State := { up with vbat := { up.vbat with rs := some 5 } }
def enrolBytes : List Byte := [0x43, 0x41, 0x53, 0x4B, 1, 5, 0, 32] ++ le 8 up.fuses.unitId ++ zeros 108
def idByte (i : Nat) : Byte := (rooted.rsId 5).getD i 0
def caskBytes : List Byte := [0x43, 0x41, 0x53, 0x4B, 1, 2, 0, 16] ++ le 8 up.fuses.unitId ++ [idByte 0, idByte 1, idByte 2, idByte 3] ++ zeros 24
def plainCask : List Byte := [0x43, 0x41, 0x53, 0x4B, 1, 2, 0, 16] ++ le 8 up.fuses.unitId ++ zeros 28
theorem four_bytes (l : List Byte) (h : l.length = 4) : [l.getD 0 0, l.getD 1 0, l.getD 2 0, l.getD 3 0] = l := by
  match l, h with
  | [a, b, c, d], _ => rfl
theorem rsId_length (s : State) (k : Nat) : (s.rsId k).length = 4 := by
  simp [State.rsId, kdf, length_le, List.range_succ]
theorem caskBytes_id : caskId caskBytes = rooted.rsId 5 := four_bytes _ (rsId_length _ _)

/-- Image transfers and relays. -/
def hostX : Transfer := { id := 0, source := 0, length := 8, relay := false, lastAt := 0 }
def xferring : State := ({ up with upd := { up.upd with xfer := some hostX } } : State).setFld F.UPD_STAT_STAGE 1
def chainX (n : Nat) : Transfer := { id := 7, source := 1, length := 2048, relay := true, held := if n = 0 then [] else [(0, true)], lastAt := 0 }
def chainXfer (n : Nat) : State := ({ chainUp with upd := { chainUp.upd with xfer := some (chainX n) } } : State).setFld F.UPD_STAT_STAGE 1
def imgData : List Byte := [0, 0, 0, 0, 7, 0, 0, 0] ++ le 4 1 ++ le 4 2 ++ bytes 1024 9
def relayingUp : State := { chainUp with upd := { chainUp.upd with relays := [(0, { active := true, missing := 3 })], relayOf := (0, 7, 3) } }
def busyRelay : State := { chainUp with upd := { chainUp.upd with relays := [(0, { active := true, busySince := some 5 })], relayOf := (0, 7, 3) } }

/-- Decants. -/
def stagedUp : State :=
  let t := ((chainUp.setFld F.UPD_STAT_STAGE 4).setFld F.UPD_VINT_STG_VINTAGE 9)
  { t with upd := { t.upd with banks := [(0, some { vintage := 1, setFmt := 0 }), (1, some { vintage := 9, setFmt := 0, staged := true })] } }
def moving : State := { stagedUp with sbx := (routed none).sbx }
def sch0 : Schedule := { id := 5, origin := 7, chain := true, expected := 0, td := 5, vintage := 9, acceptedAt := 0, held := true }
def schFar : Schedule := { sch0 with td := stagedUp.now + 20 * oneSec }
def schSoon : Schedule := { sch0 with td := stagedUp.now + 400 * oneMs }
def schMine : Schedule := { id := 5, origin := 0, chain := true, expected := 2, td := stagedUp.now + 20 * oneSec, vintage := 9, acceptedAt := 0 }
def scheduled (y : Schedule) : State := { stagedUp with upd := { stagedUp.upd with sched := some y } }

/-- The cellar book: a record waits; the same frozen; one written. -/
def booked : State := { up with cbk := { up.cbk with q := [⟨7, [1, 2], 9, false⟩] } }
def frozenBook : State := ({ booked with cbk := { booked.cbk with buf := [(0, ⟨3, [], 1, false⟩)], next := 1, droppedN := 2 } } : State).setFld F.CBK_STAT_FROZEN 1
def written : State := ({ booked with cbk := { booked.cbk with q := [] } } : State).arrive ⟨7, [1, 2], 9, false⟩ 0
def signsFrozen : State := signs.setFld F.CBK_STAT_FROZEN 1
def signsWritten : State := signs.arrive ⟨7, [1, 2], 9, false⟩ 0
def decP (a o r : Nat) : List Byte := [0, 0] ++ le 1 o ++ le 1 a ++ [5, 0, 0] ++ le 1 r ++ le 8 (stagedUp.now + 10 * oneSec) ++ [9, 0, 0, 0, 3, 0, 0, 0]

/-- Power and the test block. -/
def dipping (a : Option Nat) : State := { up with pwr := { up.pwr with dipSince := some 5, dipMin := 4000, aboveAt := a } }
def entering (w : Nat) : State := { radUp with pwr := { state := .entering, hubReady := true, enterAt := 0, wake := w } }
def sleeping : State := (({ radUp with pwr := { state := .dormant, hubReady := true, enterAt := 0 } } : State).setFld F.PWR_WAKE_PIN_EN 1).setFld F.PWR_WAKE_TIMER 3
def unlocked (n : Nat) : State := { up with tst := { unlocked := true, until_ := up.el + n, errLeft := 0 } }
def signsMoving : State := ({ signs with sbx := (routed none).sbx } : State).setFld F.STP_STAT_STOPPED 0
def signsHeld : State := ({ signs with tst := { unlocked := true } } : State).setFld F.TST_STAT_SID 2

/-- Session 0 with a command in its reply cache under SEQ 1, with or without its reply; with SEQ 5 as its newest; and with 16
commands that await their reply. -/
def cacheE : CacheEntry := { seq := 1, crc := crc32c [0, 1], opcode := 0x0100, reply := some ⟨0, []⟩ }
def cached : State := up.setSess 0 { up.sess 0 with h := 1, cache := [cacheE] }
def cachedNoReply : State := up.setSess 0 { up.sess 0 with h := 1, cache := [{ cacheE with reply := none }] }
def ahead : State := up.setSess 0 { up.sess 0 with h := 5 }
def busy16 : State := up.setSess 0 { up.sess 0 with h := 60000, outst := (List.range 16).map fun k => { seq := 59000 + k, opcode := 0x0A05, src := 0 } }

/-- Session 1 is closed; the module is in recovery; no lane is in service. -/
def closed1 : State := net.setSess 1 {}
def inRecovery : State := { up with upd := { up.upd with recovery := true } }
def laneless : State := (up.setFld F.LAN_STAT_STATE_A 6).setFld F.LAN_STAT_STATE_B 6

/-- VSYS has been below the reset level for long. -/
def lowS : State := { up with pwr := { up.pwr with lowAt := some 0 } }

set_option maxRecDepth 100000 in
/-- Operands that meet the hypotheses of StepRunsTheFrontCommand. -/
theorem test_hyp_StepRunsTheFrontCommand :
    (({ up with pending := [.laneTick] } : State).pending = (Instr.laneTick : Instr) :: ([] : List Instr)) ∧
    ((up : State).pending = []) :=
  by and_intros <;> decide +kernel

set_option maxRecDepth 100000 in
/-- Operands that meet the hypotheses of CommandsLeaveTheQueueOfWaitingCommands. -/
theorem test_hyp_CommandsLeaveTheQueueOfWaitingCommands :
    (exec (Instr.timNowLoRead : Instr) (up : State) = .next (up.readNowLo.2 : State)) :=
  rfl

set_option maxRecDepth 100000 in
/-- Operands that meet the hypotheses of SpiAndUdpTransactionsComplete, part 1. -/
theorem test_hyp_SpiAndUdpTransactionsComplete_1 :
    ((up : State).powered = true ∧ (up : State).pwr.resetHeld = false ∧ (up : State).serving = true ∧ (up : State).svb.rdyHigh = false ∧ (up : State).transportUp 0 = true) ∧
    ((up : State).powered = true ∧ (up : State).pwr.resetHeld = false ∧ (up : State).serving = true ∧ (up : State).svb.rdyHigh = false ∧ (up : State).transportUp 0 = true ∧ 8192 < (bytes 8193 0 : List Byte).length) ∧
    ((up : State).powered = true ∧ (up : State).pwr.resetHeld = false ∧ (up : State).serving = true ∧ (up : State).svb.rdyHigh = false ∧ (up : State).transportUp 0 = true ∧ ([0xA5] : List Byte).length ≤ 8192 ∧ onePacket ([0xA5] : List Byte) = false) ∧
    ((up : State).powered = true ∧ (up : State).pwr.resetHeld = false ∧ (up : State).serving = true ∧ (up : State).svb.rdyHigh = false ∧ (up : State).transportUp 0 = true ∧ ([0xA5, 0x5E, 1, 0, 1, 0, 0, 1, 0, 0, 0, 0, 0, 0] : List Byte).length ≤ 8192 ∧ onePacket ([0xA5, 0x5E, 1, 0, 1, 0, 0, 1, 0, 0, 0, 0, 0, 0] : List Byte) = true ∧ rdN ([0xA5, 0x5E, 1, 0, 1, 0, 0, 1, 0, 0, 0, 0, 0, 0] : List Byte) (([0xA5, 0x5E, 1, 0, 1, 0, 0, 1, 0, 0, 0, 0, 0, 0] : List Byte).length - 4) 4 ≠ crc32c ((([0xA5, 0x5E, 1, 0, 1, 0, 0, 1, 0, 0, 0, 0, 0, 0] : List Byte).drop 2).take (([0xA5, 0x5E, 1, 0, 1, 0, 0, 1, 0, 0, 0, 0, 0, 0] : List Byte).length - 6))) ∧
    ((up : State).powered = true ∧ (up : State).pwr.resetHeld = false ∧ (up : State).serving = true ∧ (up : State).svb.rdyHigh = false ∧ (up : State).transportUp 0 = true ∧ (packet 0 1 0x0100 [] none : List Byte).length ≤ 8192 ∧ ((up : State).ingest false 0 (packet 0 1 0x0100 [] none : List Byte)).1 = true) :=
  by and_intros <;> decide +kernel

set_option maxRecDepth 100000 in
/-- Operands that meet the hypotheses of SpiAndUdpTransactionsComplete, part 2. -/
theorem test_hyp_SpiAndUdpTransactionsComplete_2 :
    ((withOut : State).powered = true ∧ (withOut : State).pwr.resetHeld = false ∧ (withOut : State).serving = true ∧ (withOut : State).svb.rdyHigh = false ∧ (withOut : State).transportUp 0 = true ∧ (withOut : State).nextOut = some (pkt : OutPkt) ∧ (packOut 0 (pkt : OutPkt)).length ≤ (40 : Nat)) ∧
    ((withOut : State).powered = true ∧ (withOut : State).pwr.resetHeld = false ∧ (withOut : State).serving = true ∧ (withOut : State).svb.rdyHigh = false ∧ (withOut : State).transportUp 0 = true ∧ (withOut : State).nextOut = some (pkt : OutPkt) ∧ (7 : Nat) < (packOut 0 (pkt : OutPkt)).length) ∧
    ((up : State).powered = true ∧ (up : State).pwr.resetHeld = false ∧ (up : State).serving = true ∧ (up : State).svb.rdyHigh = false ∧ (up : State).transportUp 0 = true ∧ (up : State).nextOut = none) ∧
    ((up : State).powered = true ∧ (up : State).pwr.resetHeld = false ∧ (up : State).serving = true ∧ (up : State).svb.rdyHigh = false ∧ (up : State).transportUp 0 = true ∧ ((0x04 : Byte).toNat = 0 ∨ 3 < (0x04 : Byte).toNat)) ∧
    ((up.spiBusy : State).powered = true ∧ (up.spiBusy : State).pwr.resetHeld = false ∧ (up.spiBusy : State).svb.rdyHigh = true ∧ ((0x04 : Byte).toNat = 0 ∨ 3 < (0x04 : Byte).toNat)) :=
  by and_intros <;> decide +kernel

set_option maxRecDepth 100000 in
/-- Operands that meet the hypotheses of SpiAndUdpTransactionsComplete, part 3. -/
theorem test_hyp_SpiAndUdpTransactionsComplete_3 :
    (1 ≤ (0x02 : Byte).toNat ∧ (0x02 : Byte).toNat ≤ 3) ∧
    ((up.spiBusy : State).powered = true ∧ (up.spiBusy : State).pwr.resetHeld = false ∧ (up.spiBusy : State).svb.rdyHigh = true) ∧
    ((up.spiBusy : State).serving = true) ∧
    ((net : State).serving = true ∧ (net : State).transportUp 1 = true ∧ onePacket ([1] : List Byte) = false) ∧
    ((net : State).serving = true ∧ (net : State).transportUp 1 = true ∧ onePacket ([0xA5, 0x5E, 1, 1, 1, 0, 0, 1, 0, 0, 0, 0, 0, 0] : List Byte) = true ∧ rdN ([0xA5, 0x5E, 1, 1, 1, 0, 0, 1, 0, 0, 0, 0, 0, 0] : List Byte) (([0xA5, 0x5E, 1, 1, 1, 0, 0, 1, 0, 0, 0, 0, 0, 0] : List Byte).length - 4) 4 ≠ crc32c ((([0xA5, 0x5E, 1, 1, 1, 0, 0, 1, 0, 0, 0, 0, 0, 0] : List Byte).drop 2).take (([0xA5, 0x5E, 1, 1, 1, 0, 0, 1, 0, 0, 0, 0, 0, 0] : List Byte).length - 6))) :=
  by and_intros <;> decide +kernel

set_option maxRecDepth 100000 in
/-- Operands that meet the hypotheses of SpiAndUdpTransactionsComplete, part 4. -/
theorem test_hyp_SpiAndUdpTransactionsComplete_4 :
    ((net : State).serving = true ∧ (net : State).transportUp 1 = true) ∧
    (opOf (0x0777 : BitVec 16).toNat = none ∧ (up : State).takes (c0 [] : Cmd) (undefinedOp (0x0777 : BitVec 16).toNat) = true) ∧
    (opOf (0x0777 : BitVec 16).toNat = none) ∧
    (opOf (0x0100 : BitVec 16).toNat = some (opPing : Op) ∧ (up : State).takes (c0 [] : Cmd) (opPing : Op) = true) :=
  ⟨by decide +kernel, by decide +kernel, (by decide +kernel), ⟨rfl, by decide +kernel⟩⟩

set_option maxRecDepth 100000 in
/-- Operands that meet the hypotheses of SessionCommandsComplete, part 1. -/
theorem test_hyp_SessionCommandsComplete_1 :
    ((net : State).takes (c1 [1, 2, 3] : Cmd) opPing = true ∧ wireLength ((net : State).sess (c1 [1, 2, 3] : Cmd).sid.val).auth 0x0100 (c1 [1, 2, 3] : Cmd).payload ≤ 1406) ∧
    ((keyed : State).reaches (c0 ([3, 2] ++ bytes 8 7) : Cmd) 0x0101 = true ∧ (keyed : State).upd.recovery = false ∧ (c0 ([3, 2] ++ bytes 8 7) : Cmd).payload.length = 10 ∧ rdN (c0 ([3, 2] ++ bytes 8 7) : Cmd).payload 0 1 ≤ 63 ∧ rdN (c0 ([3, 2] ++ bytes 8 7) : Cmd).payload 1 1 ≤ 2 ∧ (keyed : State).slotUsage (rdN (c0 ([3, 2] ++ bytes 8 7) : Cmd).payload 0 1) = usageSESSION ∧ rdN (c0 ([3, 2] ++ bytes 8 7) : Cmd).payload 1 1 ≤ (keyed : State).fld (F.SEC_SLOT_LEVEL (rdN (c0 ([3, 2] ++ bytes 8 7) : Cmd).payload 0 1)) ∧ (keyOf (kdf (Tbl.get 0 keyed.sec.keys 3) sessionLabel (le 1 0 ++ le 8 (rdN ([3, 2] ++ bytes 8 7) 2 8) ++ le 8 (keyed.random 64)) 1) : Nat) = keyOf (kdf (Tbl.get 0 (keyed : State).sec.keys (rdN (c0 ([3, 2] ++ bytes 8 7) : Cmd).payload 0 1)) sessionLabel (le 1 (c0 ([3, 2] ++ bytes 8 7) : Cmd).sid.val ++ le 8 (rdN (c0 ([3, 2] ++ bytes 8 7) : Cmd).payload 2 8) ++ le 8 ((keyed : State).random 64)) 1)) ∧
    ((shaken : State).reaches (c0 [] : Cmd) 0x0102 = true ∧ ((shaken : State).sess (c0 [] : Cmd).sid.val).hs = some (⟨3, 2, 1, 2, 99, 0⟩ : Handshake)) ∧
    ((up : State).takes (c0 [] : Cmd) opSessionClose = true ∧ (c0 [] : Cmd).payload = [] ∧ (((up : State).sess (c0 [] : Cmd).sid.val).outst.all (fun e => e.fast || (e.reply.isSome && !e.held)) = true)) ∧
    ((waiting1 : State).takes (c0 [] : Cmd) opSessionClose = true ∧ (c0 [] : Cmd).payload = [] ∧ (((waiting1 : State).sess (c0 [] : Cmd).sid.val).outst.any (fun e => !e.fast && (e.reply.isNone || e.held)) = true)) :=
  ⟨by decide +kernel, ⟨by decide +kernel, (by decide +kernel), by decide +kernel, by decide +kernel, (by decide +kernel), by decide +kernel, by decide +kernel, rfl⟩, (by decide +kernel), by decide +kernel, by decide +kernel⟩

set_option maxRecDepth 100000 in
/-- Operands that meet the hypotheses of SessionCommandsComplete, part 2. -/
theorem test_hyp_SessionCommandsComplete_2 :
    ((net : State).takes (c1 (bytes 12 255) : Cmd) opEventSubscribe = true ∧ (c1 (bytes 12 255) : Cmd).payload.length = 12) ∧
    (((shaken : State).sess (0 : Fin 4).val).hs = some (⟨3, 2, 1, 2, 99, 0⟩ : Handshake) ∧ (⟨3, 2, 1, 2, 99, 0⟩ : Handshake).at_ + 5 * oneSec ≤ (shaken : State).el) ∧
    (((shakenNow : State).sess (0 : Fin 4).val).hs = some (⟨3, 2, 1, 2, 99, 999999999999⟩ : Handshake) ∧ (shakenNow : State).el < (⟨3, 2, 1, 2, 99, 999999999999⟩ : Handshake).at_ + 5 * oneSec) ∧
    ((1 : Fin 4).val ≠ 0 ∧ ((idle1 : State).sess (1 : Fin 4).val).isOpen = true ∧ (idle1 : State).fld F.SYS_SVB_CTL_IDLE_S ≠ 0 ∧ ((idle1 : State).sess (1 : Fin 4).val).lastAuth + (idle1 : State).fld F.SYS_SVB_CTL_IDLE_S * oneSec ≤ (idle1 : State).el) :=
  by and_intros <;> decide +kernel

set_option maxRecDepth 100000 in
/-- Operands that meet the hypotheses of IdentityBulkAndRegisterCommandsComplete, part 1. -/
theorem test_hyp_IdentityBulkAndRegisterCommandsComplete_1 :
    ((up : State).takes (c0 [] : Cmd) opGetIdentity = true ∧ (c0 [] : Cmd).payload = [] ∧ (up : State).upd.recovery = false) ∧
    ((up : State).takes (c0 [16, 0, 0, 0, 1, 2, 0, 4] : Cmd) opBulkWrite = true ∧ 5 ≤ (c0 [16, 0, 0, 0, 1, 2, 0, 4] : Cmd).payload.length ∧ rdN (c0 [16, 0, 0, 0, 1, 2, 0, 4] : Cmd).payload 0 4 % 4 = 0 ∧ (c0 [16, 0, 0, 0, 1, 2, 0, 4] : Cmd).payload.length % 4 = 0 ∧ rdN (c0 [16, 0, 0, 0, 1, 2, 0, 4] : Cmd).payload 0 4 + ((c0 [16, 0, 0, 0, 1, 2, 0, 4] : Cmd).payload.length - 4) ≤ 0x08000000) ∧
    ((up.dramStore 16 [1, 2, 3] : State).takes (c0 [16, 0, 0, 0, 8, 0, 0, 0] : Cmd) opBulkRead = true ∧ (c0 [16, 0, 0, 0, 8, 0, 0, 0] : Cmd).payload.length = 8 ∧ rdN (c0 [16, 0, 0, 0, 8, 0, 0, 0] : Cmd).payload 0 4 % 4 = 0 ∧ rdN (c0 [16, 0, 0, 0, 8, 0, 0, 0] : Cmd).payload 4 2 % 4 = 0 ∧ 4 ≤ rdN (c0 [16, 0, 0, 0, 8, 0, 0, 0] : Cmd).payload 4 2 ∧ rdN (c0 [16, 0, 0, 0, 8, 0, 0, 0] : Cmd).payload 4 2 ≤ 1396 ∧ rdN (c0 [16, 0, 0, 0, 8, 0, 0, 0] : Cmd).payload 0 4 + rdN (c0 [16, 0, 0, 0, 8, 0, 0, 0] : Cmd).payload 4 2 ≤ 0x08000000) ∧
    ((up : State).takes (c0 [0x84, 0, 0, 0] : Cmd) opRegRead = true ∧ (c0 [0x84, 0, 0, 0] : Cmd).payload.length = 4 ∧ (up : State).mapped (rdN (c0 [0x84, 0, 0, 0] : Cmd).payload 0 4) = true) ∧
    ((up : State).takes (c0 [0x00, 0, 0, 0] : Cmd) opRegRead = true ∧ (c0 [0x00, 0, 0, 0] : Cmd).payload.length = 4 ∧ (up : State).mapped (rdN (c0 [0x00, 0, 0, 0] : Cmd).payload 0 4) = true ∧ rdN (c0 [0x00, 0, 0, 0] : Cmd).payload 0 4 ∉ [R.SYS_SVB_STAT, R.SYS_TT_POS, R.TIM_NOW_LO, R.TIM_IN_LO, R.PWR_SUP, R.PWR_SUP2, R.SBX_LOAD, R.ARB_MAT, R.ARB_MAT_CNT, R.ARB_DRAM, R.ARB_DRAM_CNT, R.ETH_P_PAUSE 0, R.ETH_P_PAUSE 1, R.TST_STAT]) :=
  by and_intros <;> decide +kernel

set_option maxRecDepth 100000 in
/-- Operands that meet the hypotheses of IdentityBulkAndRegisterCommandsComplete, part 2. -/
theorem test_hyp_IdentityBulkAndRegisterCommandsComplete_2 :
    ((up : State).takes (c0 [0x08, 0, 0, 0] : Cmd) opRegRead = true ∧ (c0 [0x08, 0, 0, 0] : Cmd).payload.length = 4 ∧ (up : State).mapped (rdN (c0 [0x08, 0, 0, 0] : Cmd).payload 0 4) = false) ∧
    ((up : State).takes (c0 [0x80, 0, 0, 0, 3, 0] : Cmd) opRegReadBlock = true ∧ (c0 [0x80, 0, 0, 0, 3, 0] : Cmd).payload.length = 6 ∧ 0 < rdN (c0 [0x80, 0, 0, 0, 3, 0] : Cmd).payload 4 2 ∧ rdN (c0 [0x80, 0, 0, 0, 3, 0] : Cmd).payload 4 2 ≤ 256 ∧ (([0x80, 0x84, 0x88] : List Nat) = (List.range (rdN (c0 [0x80, 0, 0, 0, 3, 0] : Cmd).payload 4 2)).map fun i => rdN (c0 [0x80, 0, 0, 0, 3, 0] : Cmd).payload 0 4 + 4 * i) ∧ ([0x80, 0x84, 0x88] : List Nat).all (up : State).mapped = true) ∧
    ((up : State).takes (c0 [0x80, 0, 0, 0, 4, 0] : Cmd) opRegReadBlock = true ∧ (c0 [0x80, 0, 0, 0, 4, 0] : Cmd).payload.length = 6 ∧ 0 < rdN (c0 [0x80, 0, 0, 0, 4, 0] : Cmd).payload 4 2 ∧ rdN (c0 [0x80, 0, 0, 0, 4, 0] : Cmd).payload 4 2 ≤ 256 ∧ (([0x80, 0x84, 0x88, 0x8C] : List Nat) = (List.range (rdN (c0 [0x80, 0, 0, 0, 4, 0] : Cmd).payload 4 2)).map fun i => rdN (c0 [0x80, 0, 0, 0, 4, 0] : Cmd).payload 0 4 + 4 * i) ∧ ([0x80, 0x84, 0x88, 0x8C] : List Nat).all (up : State).mapped = false) ∧
    ((up : State).takes (c0 [0x80, 0, 0, 0, 15, 0, 9, 0] : Cmd) opRegWrite = true ∧ (c0 [0x80, 0, 0, 0, 15, 0, 9, 0] : Cmd).payload.length = 8 ∧ ((up : State).entered (c0 [0x80, 0, 0, 0, 15, 0, 9, 0] : Cmd) opRegWrite).writeRefusal (c0 [0x80, 0, 0, 0, 15, 0, 9, 0] : Cmd).sid.val (rdN (c0 [0x80, 0, 0, 0, 15, 0, 9, 0] : Cmd).payload 0 4) 0xFFFFFFFF#32 = none) ∧
    ((up : State).takes (c0 [0x08, 0, 0x10, 0, 1, 0, 0, 0] : Cmd) opRegWrite = true ∧ (c0 [0x08, 0, 0x10, 0, 1, 0, 0, 0] : Cmd).payload.length = 8 ∧ (up : State).mapped (rdN (c0 [0x08, 0, 0x10, 0, 1, 0, 0, 0] : Cmd).payload 0 4) = true ∧ rdN (c0 [0x08, 0, 0x10, 0, 1, 0, 0, 0] : Cmd).payload 0 4 = R.SKY_ANT ∧ (up : State).pwr.rstReq = false) :=
  by and_intros <;> decide +kernel

set_option maxRecDepth 100000 in
/-- Operands that meet the hypotheses of IdentityBulkAndRegisterCommandsComplete, part 3. -/
theorem test_hyp_IdentityBulkAndRegisterCommandsComplete_3 :
    ((up : State).takes (c0 [0x80, 0, 0, 0, 0, 0, 255, 0, 15, 0, 9, 0] : Cmd) opRegModify = true ∧ (c0 [0x80, 0, 0, 0, 0, 0, 255, 0, 15, 0, 9, 0] : Cmd).payload.length = 12 ∧ ((up : State).entered (c0 [0x80, 0, 0, 0, 0, 0, 255, 0, 15, 0, 9, 0] : Cmd) opRegModify).writeRefusal (c0 [0x80, 0, 0, 0, 0, 0, 255, 0, 15, 0, 9, 0] : Cmd).sid.val (rdN (c0 [0x80, 0, 0, 0, 0, 0, 255, 0, 15, 0, 9, 0] : Cmd).payload 0 4) (BitVec.ofNat 32 (rdN (c0 [0x80, 0, 0, 0, 0, 0, 255, 0, 15, 0, 9, 0] : Cmd).payload 4 4)) = none) ∧
    ((signs.setFld F.UPD_VINT_ACT_VINTAGE 0x05000000 : State).takes (signed1 0x0204 (le 4 R.UPD_FLOOR ++ le 4 1) : Cmd) opRegWriteLc = true ∧ (signed1 0x0204 (le 4 R.UPD_FLOOR ++ le 4 1) : Cmd).payload.length = 16 ∧ (signs.setFld F.UPD_VINT_ACT_VINTAGE 0x05000000 : State).sigOk (signed1 0x0204 (le 4 R.UPD_FLOOR ++ le 4 1) : Cmd).sid.val (signed1 0x0204 (le 4 R.UPD_FLOOR ++ le 4 1) : Cmd).seq.toNat 0x0204 (signed1 0x0204 (le 4 R.UPD_FLOOR ++ le 4 1) : Cmd).payload = true ∧ rdN (signed1 0x0204 (le 4 R.UPD_FLOOR ++ le 4 1) : Cmd).payload 0 4 = R.UPD_FLOOR ∧ rdN (signed1 0x0204 (le 4 R.UPD_FLOOR ++ le 4 1) : Cmd).payload 4 4 = (signs.setFld F.UPD_VINT_ACT_VINTAGE 0x05000000 : State).fuses.floor + 1 ∧ rdN (signed1 0x0204 (le 4 R.UPD_FLOOR ++ le 4 1) : Cmd).payload 4 4 ≤ (signs.setFld F.UPD_VINT_ACT_VINTAGE 0x05000000 : State).fld F.UPD_VINT_ACT_VINTAGE / 2 ^ 24 ∧ 0 < (signs.setFld F.UPD_VINT_ACT_VINTAGE 0x05000000 : State).fuses.floorLeft) ∧
    ((up : State).serving = true ∧ (up : State).mapped (R.SKY_ANT : Nat) = true ∧ (calReg (R.SKY_ANT : Nat) = false ∨ (up : State).fuses.sealCrc = 0) ∧ laneReg (R.SKY_ANT : Nat) = false) ∧
    ((up : State).serving = true ∧ (up : State).mapped (R.RTK_CTL : Nat) = true ∧ (calReg (R.RTK_CTL : Nat) = false ∨ (up : State).fuses.sealCrc = 0) ∧ laneReg (R.RTK_CTL : Nat) = true ∧ ((up : State).anyLane = true ∨ (up : State).switching = true)) ∧
    ((serveTt : State).fld F.SYS_TT_SEL_DIE = (0 : Nat) ∧ (serveTt : State).fld F.SYS_TT_SEL_ENGINE = (2 : Nat) ∧ ((serveTt : State).ttState (0 : Nat) (2 : Nat)).2 = some (seqKey 0 2 : Nat) ∧ ((serveTt : State).ttState (0 : Nat) (2 : Nat)).1 < 2) :=
  ⟨by decide +kernel, ⟨by decide +kernel, (by decide +kernel), sigOk_signed1 (signs.setFld F.UPD_VINT_ACT_VINTAGE 0x05000000) _ _ rfl (by decide +kernel), by decide +kernel, by decide +kernel, (by decide +kernel), by decide +kernel⟩, by decide +kernel, (by decide +kernel), by decide +kernel⟩

set_option maxRecDepth 100000 in
/-- Operands that meet the hypotheses of IdentityBulkAndRegisterCommandsComplete, part 4. -/
theorem test_hyp_IdentityBulkAndRegisterCommandsComplete_4 :
    ((tt : State).fld F.SYS_TT_SEL_DIE = (0 : Nat) ∧ (tt : State).fld F.SYS_TT_SEL_ENGINE = (8 : Nat) ∧ ((tt : State).ttState (0 : Nat) (8 : Nat)).2 = some (seqKey 0 8 : Nat) ∧ 2 ≤ ((tt : State).ttState (0 : Nat) (8 : Nat)).1 ∧ ((tt : State).ttState (0 : Nat) (8 : Nat)).1 ≠ 15) ∧
    ((up.setFld F.SYS_TT_SEL_ENGINE 0x20 : State).fld F.SYS_TT_SEL_DIE = (3 : Nat) ∧ (up.setFld F.SYS_TT_SEL_ENGINE 0x20 : State).fld F.SYS_TT_SEL_ENGINE = (0x20 : Nat) ∧ ((up.setFld F.SYS_TT_SEL_ENGINE 0x20 : State).ttState (3 : Nat) (0x20 : Nat)).1 = 15) ∧
    ((1 : Fin 4).val ≠ 0) :=
  by and_intros <;> decide +kernel

set_option maxRecDepth 100000 in
/-- Operands that meet the hypotheses of ArbitersComplete, part 1. -/
theorem test_hyp_ArbitersComplete_1 :
    (((up : State).tokenArb (0 : Fin 2).val).stretch = none ∧ ((tokenReq (0 : Fin 2).val (7 : Fin 16).val).isNone ∨ ((up : State).tokenArb (0 : Fin 2).val).pending.contains (7 : Fin 16).val = true ∨ ((up : State).tokenArb (0 : Fin 2).val).owner = some (7 : Fin 16).val)) ∧
    ((if (0 : Fin 2).val = 0 then (laneless : State).lanesRun else (laneless : State).pwr.hubReady && (laneless : State).pwr.state != .dormant) = false) ∧
    ((if (0 : Fin 2).val = 0 then (laneless : State).lanesRun else (laneless : State).pwr.hubReady && (laneless : State).pwr.state != .dormant) = false) ∧
    ((if (1 : Fin 2).val = 0 then (up : State).lanesRun else (up : State).pwr.hubReady && (up : State).pwr.state != .dormant) = true ∧ ((up : State).tokenArb (1 : Fin 2).val).stretch = none ∧ (tokenReq (1 : Fin 2).val (4 : Fin 16).val).isSome = true ∧ ((up : State).tokenArb (1 : Fin 2).val).owner = none ∧ ((up : State).tokenArb (1 : Fin 2).val).pending = []) ∧
    ((if (1 : Fin 2).val = 0 then (up.tokenRequest 1 2 : State).lanesRun else (up.tokenRequest 1 2 : State).pwr.hubReady && (up.tokenRequest 1 2 : State).pwr.state != .dormant) = true ∧ (((up.tokenRequest 1 2 : State).tokenArb (1 : Fin 2).val).stretch.all (fun e => decide ((up.tokenRequest 1 2 : State).el < e)) = true) ∧ (tokenReq (1 : Fin 2).val (3 : Fin 16).val).isSome = true ∧ ((up.tokenRequest 1 2 : State).tokenArb (1 : Fin 2).val).owner = some (2 : Nat) ∧ (3 : Fin 16).val ≠ (2 : Nat) ∧ ((up.tokenRequest 1 2 : State).tokenArb (1 : Fin 2).val).pending.contains (3 : Fin 16).val = false ∧ tokenClass (1 : Fin 2).val (3 : Fin 16).val ≤ tokenClass (1 : Fin 2).val (2 : Nat)) :=
  by and_intros <;> decide +kernel

set_option maxRecDepth 100000 in
/-- Operands that meet the hypotheses of ArbitersComplete, part 2. -/
theorem test_hyp_ArbitersComplete_2 :
    ((if (1 : Fin 2).val = 0 then (up.tokenRequest 1 2 : State).lanesRun else (up.tokenRequest 1 2 : State).pwr.hubReady && (up.tokenRequest 1 2 : State).pwr.state != .dormant) = true ∧ ((up.tokenRequest 1 2 : State).tokenArb (1 : Fin 2).val).stretch = none ∧ (tokenReq (1 : Fin 2).val (0 : Fin 16).val).isSome = true ∧ ((up.tokenRequest 1 2 : State).tokenArb (1 : Fin 2).val).owner = some (2 : Nat) ∧ ((up.tokenRequest 1 2 : State).tokenArb (1 : Fin 2).val).pending = [] ∧ tokenClass (1 : Fin 2).val (2 : Nat) < tokenClass (1 : Fin 2).val (0 : Fin 16).val) ∧
    ((if (1 : Fin 2).val = 0 then (stretched 100 : State).lanesRun else (stretched 100 : State).pwr.hubReady && (stretched 100 : State).pwr.state != .dormant) = true ∧ ((stretched 100 : State).tokenArb (1 : Fin 2).val).stretch = some (up.el + 100 : Nat) ∧ (tokenReq (1 : Fin 2).val (0 : Fin 16).val).isSome = true ∧ ((stretched 100 : State).tokenArb (1 : Fin 2).val).owner = some (2 : Nat) ∧ ((stretched 100 : State).tokenArb (1 : Fin 2).val).pending = [] ∧ ((stretched 100 : State).el < (up.el + 100 : Nat) → tokenClass (1 : Fin 2).val (2 : Nat) < tokenClass (1 : Fin 2).val (0 : Fin 16).val)) ∧
    ((if (1 : Fin 2).val = 0 then (up.tokenRequest 1 2 : State).lanesRun else (up.tokenRequest 1 2 : State).pwr.hubReady && (up.tokenRequest 1 2 : State).pwr.state != .dormant) = true ∧ ((up.tokenRequest 1 2 : State).tokenArb (1 : Fin 2).val).stretch = none ∧ (up.tokenRequest 1 2 : State).stretchNs (1 : Fin 2).val = 0 ∧ ((up.tokenRequest 1 2 : State).tokenArb (1 : Fin 2).val).owner = some (2 : Fin 16).val ∧ ((up.tokenRequest 1 2 : State).tokenArb (1 : Fin 2).val).pending = []) ∧
    ((if (1 : Fin 2).val = 0 then ((up.tokenRequest 1 2).tokenRequest 1 3 : State).lanesRun else ((up.tokenRequest 1 2).tokenRequest 1 3 : State).pwr.hubReady && ((up.tokenRequest 1 2).tokenRequest 1 3 : State).pwr.state != .dormant) = true ∧ (((up.tokenRequest 1 2).tokenRequest 1 3 : State).tokenArb (1 : Fin 2).val).stretch = none ∧ ((up.tokenRequest 1 2).tokenRequest 1 3 : State).stretchNs (1 : Fin 2).val = 0 ∧ (((up.tokenRequest 1 2).tokenRequest 1 3 : State).tokenArb (1 : Fin 2).val).owner = some (2 : Fin 16).val ∧ (((up.tokenRequest 1 2).tokenRequest 1 3 : State).tokenArb (1 : Fin 2).val).pending = [(3 : Nat)]) ∧
    ((if (1 : Fin 2).val = 0 then ((up.tokenRequest 1 2).setFld F.TST_STRETCH_ARB 2 |>.setFld F.TST_STRETCH_US 5 : State).lanesRun else ((up.tokenRequest 1 2).setFld F.TST_STRETCH_ARB 2 |>.setFld F.TST_STRETCH_US 5 : State).pwr.hubReady && ((up.tokenRequest 1 2).setFld F.TST_STRETCH_ARB 2 |>.setFld F.TST_STRETCH_US 5 : State).pwr.state != .dormant) = true ∧ (((up.tokenRequest 1 2).setFld F.TST_STRETCH_ARB 2 |>.setFld F.TST_STRETCH_US 5 : State).tokenArb (1 : Fin 2).val).stretch = none ∧ 0 < ((up.tokenRequest 1 2).setFld F.TST_STRETCH_ARB 2 |>.setFld F.TST_STRETCH_US 5 : State).stretchNs (1 : Fin 2).val ∧ (((up.tokenRequest 1 2).setFld F.TST_STRETCH_ARB 2 |>.setFld F.TST_STRETCH_US 5 : State).tokenArb (1 : Fin 2).val).owner = some (2 : Fin 16).val) :=
  by and_intros <;> decide +kernel

set_option maxRecDepth 100000 in
/-- Operands that meet the hypotheses of ArbitersComplete, part 3. -/
theorem test_hyp_ArbitersComplete_3 :
    ((if (1 : Fin 2).val = 0 then ((up.tokenRequest 1 2).tokenRequest 1 3 : State).lanesRun else ((up.tokenRequest 1 2).tokenRequest 1 3 : State).pwr.hubReady && ((up.tokenRequest 1 2).tokenRequest 1 3 : State).pwr.state != .dormant) = true ∧ ((((up.tokenRequest 1 2).tokenRequest 1 3 : State).tokenArb (1 : Fin 2).val).stretch.all (fun e => decide (((up.tokenRequest 1 2).tokenRequest 1 3 : State).el < e)) = true) ∧ ((((up.tokenRequest 1 2).tokenRequest 1 3 : State).tokenArb (1 : Fin 2).val).owner ≠ some (3 : Fin 16).val ∨ (((up.tokenRequest 1 2).tokenRequest 1 3 : State).tokenArb (1 : Fin 2).val).stretch.isSome = true)) ∧
    ((up : State).pwr.hubReady = true ∧ (260 : Nat) = (up : State).pwrBase + (100 : BitVec 11).toNat + (up : State).rtkFloor) ∧
    ((State.reset : State).pwr.hubReady = false) ∧
    ((up : State).takes (c0 [1, 0, 0xE8, 3] : Cmd) opSetPowerCap = true ∧ (c0 [1, 0, 0xE8, 3] : Cmd).payload.length = 4 ∧ rdN (c0 [1, 0, 0xE8, 3] : Cmd).payload 0 1 = 1 ∧ 600 ≤ rdN (c0 [1, 0, 0xE8, 3] : Cmd).payload 2 2 ∧ rdN (c0 [1, 0, 0xE8, 3] : Cmd).payload 2 2 ≤ 1800) ∧
    ((up : State).takes (c0 [0, 0, 0, 0] : Cmd) opSetPowerCap = true ∧ (c0 [0, 0, 0, 0] : Cmd).payload.length = 4 ∧ rdN (c0 [0, 0, 0, 0] : Cmd).payload 0 1 = 0) :=
  by and_intros <;> decide +kernel

set_option maxRecDepth 100000 in
/-- Operands that meet the hypotheses of QueueEventsComplete, part 1. -/
theorem test_hyp_QueueEventsComplete_1 :
    ((5 : Fin 64).val < 40 ∧ ((up : State).queue (5 : Fin 64).val).wait = [] ∧ bankWords ((up : State).queue (5 : Fin 64).val).fill + (1 + ceilDiv (100 : Fin 4089).val 8) ≤ 512 ∧ (up : State).forcedFull (5 : Fin 64).val = false ∧ (up : State).tst.errLeft = 0) ∧
    ((5 : Fin 64).val < 40 ∧ ((fullQ : State).queue (5 : Fin 64).val).wait = [] ∧ (512 < bankWords ((fullQ : State).queue (5 : Fin 64).val).fill + (1 + ceilDiv (4088 : Fin 4089).val 8) ∨ (fullQ : State).forcedFull (5 : Fin 64).val = true) ∧ ((5 : Fin 64).val < 20 ∨ 23 < (5 : Fin 64).val) ∧ (5 : Fin 64).val ≠ 33 ∧ (5 : Fin 64).val ≠ 34) ∧
    ((5 : Fin 64).val < 40 ∧ ((waitQ : State).queue (5 : Fin 64).val).wait = ({ len := 4088 } : QPacket) :: ([] : List QPacket) ∧ (waitQ : State).noRoom (5 : Fin 64).val ({ len := 4088 } : QPacket) = true ∧ ((5 : Fin 64).val < 20 ∨ 23 < (5 : Fin 64).val) ∧ (5 : Fin 64).val ≠ 33 ∧ (5 : Fin 64).val ≠ 34) ∧
    ((20 ≤ (33 : Fin 64).val ∧ (33 : Fin 64).val ≤ 23 ∨ (33 : Fin 64).val = 33 ∨ (33 : Fin 64).val = 34) ∧ (512 < bankWords ((fullQ : State).queue (33 : Fin 64).val).fill + (1 + ceilDiv (4088 : Fin 4089).val 8) ∨ (fullQ : State).forcedFull (33 : Fin 64).val = true)) ∧
    (40 ≤ (40 : Fin 64).val) :=
  by and_intros <;> decide +kernel

set_option maxRecDepth 100000 in
/-- Operands that meet the hypotheses of QueueEventsComplete, part 2. -/
theorem test_hyp_QueueEventsComplete_2 :
    ((39 : Fin 64).val < 40) ∧
    (((fullQ : State).queue (5 : Fin 64).val).drain = [] ∧ ((fullQ : State).queue (5 : Fin 64).val).fill ≠ [] ∧ ((fullQ : State).queue (5 : Fin 64).val).wait = []) ∧
    (((waitQ : State).queue (5 : Fin 64).val).drain = [] ∧ ((waitQ : State).queue (5 : Fin 64).val).fill ≠ [] ∧ ((waitQ : State).queue (5 : Fin 64).val).wait = [({ len := 4088 } : QPacket)] ∧ ({ len := 4088 } : QPacket).words ≤ 512 ∧ (waitQ : State).forcedFull (5 : Fin 64).val = false ∧ (waitQ : State).tst.errLeft = 0) ∧
    ((((up : State).queue (5 : Fin 64).val).drain ≠ [] ∨ ((up : State).queue (5 : Fin 64).val).fill = [])) ∧
    (((drainQ true : State).queue (26 : Fin 64).val).drain = ({ len := 8 } : QPacket) :: ([] : List QPacket) ∧ ((drainQ true : State).queue (26 : Fin 64).val).drainEcc = true ∧ (if ({ len := 8 } : QPacket).hurt = 0 then (false : Bool) else ({ len := 8 } : QPacket).hurt2) = false) :=
  by and_intros <;> decide +kernel

set_option maxRecDepth 100000 in
/-- Operands that meet the hypotheses of QueueEventsComplete, part 3. -/
theorem test_hyp_QueueEventsComplete_3 :
    (16 ≤ (26 : Fin 64).val ∧ ((drainQ false : State).queue (26 : Fin 64).val).drain = ({ len := 8 } : QPacket) :: ([] : List QPacket) ∧ (((drainQ false : State).queue (26 : Fin 64).val).drainEcc = false ∨ (if ({ len := 8 } : QPacket).hurt = 0 then (false : Bool) else ({ len := 8 } : QPacket).hurt2) = true)) ∧
    ((5 : Fin 64).val < 8 ∧ ((drainQ2 5 : State).queue (5 : Fin 64).val).drain = ({ len := 8 } : QPacket) :: ([] : List QPacket) ∧ (((drainQ2 5 : State).queue (5 : Fin 64).val).drainEcc = false ∨ (if ({ len := 8 } : QPacket).hurt = 0 then (false : Bool) else ({ len := 8 } : QPacket).hurt2) = true)) ∧
    ((8 ≤ (13 : Fin 64).val ∧ (13 : Fin 64).val < 16) ∧ (drainQ2 13 : State).activeLane ≠ some (((13 : Fin 64).val - 8) / 4) ∧ ((drainQ2 13 : State).queue (13 : Fin 64).val).drain = ({ len := 8 } : QPacket) :: ([] : List QPacket) ∧ (((drainQ2 13 : State).queue (13 : Fin 64).val).drainEcc = false ∨ (if ({ len := 8 } : QPacket).hurt = 0 then (false : Bool) else ({ len := 8 } : QPacket).hurt2) = true)) ∧
    ((8 ≤ (9 : Fin 64).val ∧ (9 : Fin 64).val < 16) ∧ (drainQ2 9 : State).activeLane = some (((9 : Fin 64).val - 8) / 4) ∧ (drainQ2 9 : State).laneSt (otherLane (((9 : Fin 64).val - 8) / 4)) ≠ laneStSHADOW ∧ (9 : Fin 64).val % 4 = 1 ∧ (some (0, 0, 0x105) : Option (Nat × Nat × Nat)) = some ((0 : Nat), (0 : Nat), (0x105 : Nat)) ∧ (0 : Nat) < 4 ∧ (((drainQ2 9 : State).sess (0 : Nat)).outst.any (fun e => e.seq == (0 : Nat)) = true) ∧ (((drainQ2 9 : State).sess (0 : Nat)).cache.any (fun e => e.seq == (0 : Nat)) = true) ∧ ((drainQ2 9 : State).queue (9 : Fin 64).val).drain = ({ len := 8 } : QPacket) :: ([] : List QPacket) ∧ (((drainQ2 9 : State).queue (9 : Fin 64).val).drainEcc = false ∨ (if ({ len := 8 } : QPacket).hurt = 0 then (false : Bool) else ({ len := 8 } : QPacket).hurt2) = true)) ∧
    ((8 ≤ (10 : Fin 64).val ∧ (10 : Fin 64).val < 16) ∧ (drainQ2 10 : State).activeLane = some (((10 : Fin 64).val - 8) / 4) ∧ (drainQ2 10 : State).laneSt (otherLane (((10 : Fin 64).val - 8) / 4)) ≠ laneStSHADOW ∧ (10 : Fin 64).val % 4 = 2 ∧ (0 : Nat) < 4 ∧ ((drainQ2 10 : State).sess (0 : Nat)).isOpen = true ∧ bit ((drainQ2 10 : State).sess (0 : Nat)).mask (0 : Fin 88).val = true ∧ ((drainQ2 10 : State).queue (10 : Fin 64).val).drain = ({ len := 8 } : QPacket) :: ([] : List QPacket) ∧ (((drainQ2 10 : State).queue (10 : Fin 64).val).drainEcc = false ∨ (if ({ len := 8 } : QPacket).hurt = 0 then (false : Bool) else ({ len := 8 } : QPacket).hurt2) = true)) :=
  by and_intros <;> decide +kernel

set_option maxRecDepth 100000 in
/-- Operands that meet the hypotheses of QueueEventsComplete, part 4. -/
theorem test_hyp_QueueEventsComplete_4 :
    (((up.setQueue 5 { full := some 0 } : State).queue (5 : Fin 8).val).full = some (0 : Nat) ∧ (0 : Nat) + 2 * oneMs ≤ (up.setQueue 5 { full := some 0 } : State).el) ∧
    ((up.setFld F.QUE_FLUSH_QUEUE 32 : State).fld F.QUE_FLUSH_QUEUE = 32 ∧ ((up.setFld F.QUE_FLUSH_QUEUE 32 : State).queue 32).wait = []) ∧
    ((up.setFld F.QUE_FLUSH_QUEUE 31 : State).fld F.QUE_FLUSH_QUEUE ≠ 32) :=
  by and_intros <;> decide +kernel

set_option maxRecDepth 100000 in
/-- Operands that meet the hypotheses of SchedulerEventsComplete, part 1. -/
theorem test_hyp_SchedulerEventsComplete_1 :
    ((up : State).lanesRun = true ∧ (up : State).sch.items.length < 1024 ∧ (false : Bool) = false ∧ (6 : Word) ≠ 0 ∧ (up : State).windowUsed < (up : State).fld F.SCH_STAT_WINDOW) ∧
    ((up.setFld F.SCH_STAT_WINDOW 0 : State).lanesRun = true ∧ (up.setFld F.SCH_STAT_WINDOW 0 : State).sch.items.length < 1024 ∧ (false : Bool) = false ∧ (up.setFld F.SCH_STAT_WINDOW 0 : State).fld F.SCH_STAT_WINDOW ≤ (up.setFld F.SCH_STAT_WINDOW 0 : State).windowUsed) ∧
    ((up : State).lanesRun = true ∧ (up : State).sch.items.length < 1024 ∧ (true : Bool) = true ∧ ((up : State).flag F.SCH_STAT_ATOMIC_ON = false ∨ 256 ≤ (300 : Fin 4096).val)) ∧
    (({ up with sch := { items := [{ id := 0, flow := 3, mask := 6, all := true, waiting := true, timeout := some 5 }], nextId := 1 } } : State).lanesRun = true) ∧
    (({ up with sch := { items := [{ id := 0, flow := 3, mask := 6, all := true, waiting := true, timeout := some 5 }], nextId := 1 } } : State).lanesRun = true) :=
  by and_intros <;> decide +kernel

set_option maxRecDepth 100000 in
/-- Operands that meet the hypotheses of SchedulerEventsComplete, part 2. -/
theorem test_hyp_SchedulerEventsComplete_2 :
    (({ up with sch := { items := [{ id := 0, flow := 3, mask := 6, all := true, waiting := true, timeout := some 5 }], nextId := 1 } } : State).lanesRun = true) ∧
    (((laneless : State).lanesRun = false ∨ 1024 ≤ (laneless : State).sch.items.length)) ∧
    (((up.setFld F.SCH_CTL_ATOMIC_EN 1).setFld F.SCH_STAT_ATOMIC_PEND 1 : State).lanesRun = true ∧ ((up.setFld F.SCH_CTL_ATOMIC_EN 1).setFld F.SCH_STAT_ATOMIC_PEND 1 : State).flag F.SCH_STAT_ATOMIC_PEND = true ∧ ((up.setFld F.SCH_CTL_ATOMIC_EN 1).setFld F.SCH_STAT_ATOMIC_PEND 1 : State).windowUsed = 0) ∧
    (((up.setQueue 1 { fill := [{ len := 8 }], drain := [{ len := 9 }] }).setFld F.SCH_STAT_ATOMIC_PEND 1 : State).lanesRun = true ∧ ((up.setQueue 1 { fill := [{ len := 8 }], drain := [{ len := 9 }] }).setFld F.SCH_STAT_ATOMIC_PEND 1 : State).flag F.SCH_STAT_ATOMIC_PEND = true ∧ ((up.setQueue 1 { fill := [{ len := 8 }], drain := [{ len := 9 }] }).setFld F.SCH_STAT_ATOMIC_PEND 1 : State).windowUsed = 0 ∧ ((up.setQueue 1 { fill := [{ len := 8 }], drain := [{ len := 9 }] }).setFld F.SCH_STAT_ATOMIC_PEND 1 : State).fld F.SCH_CTL_ATOMIC_EN = 0 ∧ (1 : Nat) = (if ((up.setQueue 1 { fill := [{ len := 8 }], drain := [{ len := 9 }] }).setFld F.SCH_STAT_ATOMIC_PEND 1 : State).laneSt 1 = laneStACTIVE then 5 else 1)) ∧
    (((up : State).flag F.SCH_STAT_ATOMIC_PEND = false ∨ (up : State).windowUsed ≠ 0 ∨ (up : State).lanesRun = false)) :=
  by and_intros <;> decide +kernel

set_option maxRecDepth 100000 in
/-- Operands that meet the hypotheses of AntennaAndInterferenceEventsComplete, part 1. -/
theorem test_hyp_AntennaAndInterferenceEventsComplete_1 :
    ((up.setFld F.SKY_ANT_BIAS 1 : State).biasOn = true ∧ (up.setFld F.SKY_ANT_BIAS 1 : State).fld F.SKY_ANT_SENSE ≠ 2 ∧ (7 : Nat) < 30) ∧
    ((up.setFld F.SKY_ANT_BIAS 1 : State).biasOn = true ∧ (up.setFld F.SKY_ANT_BIAS 1 : State).fld F.SKY_ANT_SENSE ≠ 2 ∧ 1000 ≤ (1700 : Nat)) ∧
    (((up.setFld F.SKY_ANT_BIAS 1).setFld F.SKY_ANT_SENSE 2 : State).biasOn = true ∧ ((up.setFld F.SKY_ANT_BIAS 1).setFld F.SKY_ANT_SENSE 2 : State).fld F.SKY_ANT_SENSE = 2 ∧ ((up.setFld F.SKY_ANT_BIAS 1).setFld F.SKY_ANT_SENSE 2 : State).sky.biasRetry + oneSec ≤ ((up.setFld F.SKY_ANT_BIAS 1).setFld F.SKY_ANT_SENSE 2 : State).el) ∧
    (((up.setFld F.SKY_ANT_BIAS 1).setFld F.SKY_ANT_SENSE 1 : State).biasOn = true ∧ ((up.setFld F.SKY_ANT_BIAS 1).setFld F.SKY_ANT_SENSE 1 : State).fld F.SKY_ANT_SENSE ≠ 2 ∧ 30 ≤ (170 : Nat) ∧ (170 : Nat) < 1000) ∧
    (bit ((skyUp.setFld F.SKY_ITF_NOTCH_EN 15 : State).fld F.SKY_ITF_NOTCH_EN) (2 : Fin 4).val = true ∧ (skyUp.setFld F.SKY_ITF_NOTCH_EN 15 : State).skyRuns = true ∧ (skyUp.setFld F.SKY_ITF_NOTCH_EN 15 : State).fld F.SKY_ITF_NOTCH_THR < (200 : Nat) ∧ (-5000 : Int).natAbs ≤ 40920000 ∧ bit ((skyUp.setFld F.SKY_ITF_NOTCH_EN 15 : State).fld (fNotch (1 : Fin 2).val)) (2 : Fin 4).val = false) :=
  by and_intros <;> decide +kernel

set_option maxRecDepth 100000 in
/-- Operands that meet the hypotheses of AntennaAndInterferenceEventsComplete, part 2. -/
theorem test_hyp_AntennaAndInterferenceEventsComplete_2 :
    (bit (((skyUp.setFld F.SKY_ITF_NOTCH_EN 15).setFld (fNotch 1) 15 : State).fld F.SKY_ITF_NOTCH_EN) (2 : Fin 4).val = true ∧ ((skyUp.setFld F.SKY_ITF_NOTCH_EN 15).setFld (fNotch 1) 15 : State).skyRuns = true ∧ ((skyUp.setFld F.SKY_ITF_NOTCH_EN 15).setFld (fNotch 1) 15 : State).fld F.SKY_ITF_NOTCH_THR < (200 : Nat) ∧ (-5000 : Int).natAbs ≤ 40920000 ∧ bit (((skyUp.setFld F.SKY_ITF_NOTCH_EN 15).setFld (fNotch 1) 15 : State).fld (fNotch (1 : Fin 2).val)) (2 : Fin 4).val = true) ∧
    ((bit ((up.setFld F.SKY_CTL_EN 0 : State).fld F.SKY_ITF_NOTCH_EN) (2 : Fin 4).val = false ∨ (up.setFld F.SKY_CTL_EN 0 : State).skyRuns = false ∨ (200 : Nat) ≤ (up.setFld F.SKY_CTL_EN 0 : State).fld F.SKY_ITF_NOTCH_THR ∨ 40920000 < (-5000 : Int).natAbs)) ∧
    (bit ((notched none : State).fld (fNotch (1 : Fin 2).val)) (2 : Fin 4).val = true ∧ (notched none : State).fld F.SKY_ITF_NOTCH_THR ≤ (200 : Nat) + 3) ∧
    (bit ((notched none : State).fld (fNotch (1 : Fin 2).val)) (2 : Fin 4).val = true ∧ (2 : Nat) + 3 < (notched none : State).fld F.SKY_ITF_NOTCH_THR ∧ Tbl.get none (notched none : State).sky.notchLow (4 * (1 : Fin 2).val + (2 : Fin 4).val) = none) ∧
    (bit ((notched (some 5) : State).fld (fNotch (1 : Fin 2).val)) (2 : Fin 4).val = true ∧ (2 : Nat) + 3 < (notched (some 5) : State).fld F.SKY_ITF_NOTCH_THR ∧ Tbl.get none (notched (some 5) : State).sky.notchLow (4 * (1 : Fin 2).val + (2 : Fin 4).val) = some (5 : Nat) ∧ (5 : Nat) + oneSec ≤ (notched (some 5) : State).el) :=
  by and_intros <;> decide +kernel

set_option maxRecDepth 100000 in
/-- Operands that meet the hypotheses of AntennaAndInterferenceEventsComplete, part 3. -/
theorem test_hyp_AntennaAndInterferenceEventsComplete_3 :
    (bit ((notched (some 999999999999) : State).fld (fNotch (1 : Fin 2).val)) (2 : Fin 4).val = true ∧ (2 : Nat) + 3 < (notched (some 999999999999) : State).fld F.SKY_ITF_NOTCH_THR ∧ Tbl.get none (notched (some 999999999999) : State).sky.notchLow (4 * (1 : Fin 2).val + (2 : Fin 4).val) = some (999999999999 : Nat) ∧ (notched (some 999999999999) : State).el < (999999999999 : Nat) + oneSec) ∧
    (bit ((up : State).fld (fNotch (1 : Fin 2).val)) (2 : Fin 4).val = false) ∧
    (((skyUp.setFld F.SKY_ITF_BLANK_THR 50).setFld (fGain 1) 100 : State).skyRuns = true ∧ ([(90, 1), (2, 3), (4, 5), (1, 1)] : List (Int × Int)) ≠ [] ∧ (4 : Nat) = (blanked (((skyUp.setFld F.SKY_ITF_BLANK_THR 50).setFld (fGain 1) 100 : State).fld F.SKY_ITF_BLANK_THR) (orOne (((skyUp.setFld F.SKY_ITF_BLANK_THR 50).setFld (fGain 1) 100 : State).fld F.SKY_ITF_BLANK_EXT)) 0 ([(90, 1), (2, 3), (4, 5), (1, 1)] : List (Int × Int))).2 ∧ (72 : Nat) = (clampI 0 255 ((((skyUp.setFld F.SKY_ITF_BLANK_THR 50).setFld (fGain 1) 100 : State).fld (fGain (1 : Fin 2).val) : Int) + agcSteps (((skyUp.setFld F.SKY_ITF_BLANK_THR 50).setFld (fGain 1) 100 : State).fld F.SKY_ITF_AGC_TGT) ([(90, 1), (2, 3), (4, 5), (1, 1)] : List (Int × Int)))).toNat) :=
  by and_intros <;> decide +kernel

set_option maxRecDepth 100000 in
/-- Operands that meet the hypotheses of ChannelAndTrackerEventsComplete, part 1. -/
theorem test_hyp_ChannelAndTrackerEventsComplete_1 :
    ((skyUp : State).skyRuns = true ∧ bit ((skyUp : State).fld F.SKY_CTL_SYS_EN) ({ system := 1, svid := 12, doppler := 1024000, code := 7, power := Config.detectThreshold + 1, confirm := Config.detectThreshold + 1 } : AcqIn).system.val = true ∧ ((skyUp : State).chan (5 : Fin 128).val).busy = false ∧ ((skyUp : State).sky.chans.any (fun p => p.2.busy && p.2.sat == satKey ({ system := 1, svid := 12, doppler := 1024000, code := 7, power := Config.detectThreshold + 1, confirm := Config.detectThreshold + 1 } : AcqIn).system.val ({ system := 1, svid := 12, doppler := 1024000, code := 7, power := Config.detectThreshold + 1, confirm := Config.detectThreshold + 1 } : AcqIn).svid.toNat) = false) ∧ (skyUp : State).getsChannel (satKey ({ system := 1, svid := 12, doppler := 1024000, code := 7, power := Config.detectThreshold + 1, confirm := Config.detectThreshold + 1 } : AcqIn).system.val ({ system := 1, svid := 12, doppler := 1024000, code := 7, power := Config.detectThreshold + 1, confirm := Config.detectThreshold + 1 } : AcqIn).svid.toNat) = true ∧ confirmed ({ system := 1, svid := 12, doppler := 1024000, code := 7, power := Config.detectThreshold + 1, confirm := Config.detectThreshold + 1 } : AcqIn) = true ∧ (skyUp : State).inSearch ({ system := 1, svid := 12, doppler := 1024000, code := 7, power := Config.detectThreshold + 1, confirm := Config.detectThreshold + 1 } : AcqIn) (satKey ({ system := 1, svid := 12, doppler := 1024000, code := 7, power := Config.detectThreshold + 1, confirm := Config.detectThreshold + 1 } : AcqIn).system.val ({ system := 1, svid := 12, doppler := 1024000, code := 7, power := Config.detectThreshold + 1, confirm := Config.detectThreshold + 1 } : AcqIn).svid.toNat) = true) ∧
    ((sat.codeLost 5 0 : State).skyRuns = true ∧ bit ((sat.codeLost 5 0 : State).fld F.SKY_CTL_SYS_EN) ({ system := 1, svid := 12, doppler := 1024000, code := 7, power := Config.detectThreshold + 1, confirm := Config.detectThreshold + 1 } : AcqIn).system.val = true ∧ ((sat.codeLost 5 0 : State).chan (5 : Fin 128).val).busy = true ∧ ((sat.codeLost 5 0 : State).chan (5 : Fin 128).val).sat = satKey ({ system := 1, svid := 12, doppler := 1024000, code := 7, power := Config.detectThreshold + 1, confirm := Config.detectThreshold + 1 } : AcqIn).system.val ({ system := 1, svid := 12, doppler := 1024000, code := 7, power := Config.detectThreshold + 1, confirm := Config.detectThreshold + 1 } : AcqIn).svid.toNat ∧ ((sat.codeLost 5 0 : State).tracker (5 : Fin 128).val 0).state ≤ 1 ∧ confirmed ({ system := 1, svid := 12, doppler := 1024000, code := 7, power := Config.detectThreshold + 1, confirm := Config.detectThreshold + 1 } : AcqIn) = true ∧ (sat.codeLost 5 0 : State).inSearch ({ system := 1, svid := 12, doppler := 1024000, code := 7, power := Config.detectThreshold + 1, confirm := Config.detectThreshold + 1 } : AcqIn) (satKey ({ system := 1, svid := 12, doppler := 1024000, code := 7, power := Config.detectThreshold + 1, confirm := Config.detectThreshold + 1 } : AcqIn).system.val ({ system := 1, svid := 12, doppler := 1024000, code := 7, power := Config.detectThreshold + 1, confirm := Config.detectThreshold + 1 } : AcqIn).svid.toNat) = true) ∧
    ((sat : State).skyRuns = true ∧ (sat : State).flag F.SKY_CTL_L5_EN = true ∧ ((sat : State).chan (5 : Fin 128).val).busy = true ∧ 3 ≤ ((sat : State).tracker (5 : Fin 128).val 0).state ∧ ((sat : State).tracker (5 : Fin 128).val 1).state ≤ 1 ∧ (-100 : Int).natAbs ≤ 3 * 1024 ∧ Config.detectThreshold < (Config.detectThreshold + 1 : Nat)) ∧
    (((sat.setFld F.SKY_CTL_SYS_EN 0 : State).chan (5 : Fin 128).val).busy = true ∧ (((sat.setFld F.SKY_CTL_SYS_EN 0 : State).chan (5 : Fin 128).val).setAt.any (fun t0 => (sat.setFld F.SKY_CTL_SYS_EN 0 : State).passed t0 (30 * oneSec)) = true ∨ bit ((sat.setFld F.SKY_CTL_SYS_EN 0 : State).fld F.SKY_CTL_SYS_EN) ((sat.setFld F.SKY_CTL_SYS_EN 0 : State).chan (5 : Fin 128).val).system = false)) ∧
    (2 ≤ ((sat : State).tracker (5 : Fin 128).val (0 : Fin 2).val).state ∧ (sat : State).skyRuns = true ∧ ((0 : Rat) = (if ((sat : State).tracker (5 : Fin 128).val (0 : Fin 2).val).fll then (((sat : State).tracker (5 : Fin 128).val (0 : Fin 2).val).integ.head?.map fun x => fllError (x.i, x.q) (tapOf ({ corr := [(0, 9, 1), (-10, 5, 1)], prompts := [(9, 1), (8, 2)], synced := true } : LoopIn) 0) ((((sat : State).tracker (5 : Fin 128).val (0 : Fin 2).val).tMs : Rat) / 1000)).getD 0 else 0))) :=
  ⟨⟨by decide +kernel, by decide +kernel, (by decide +kernel), by decide +kernel, by decide +kernel, by simp [confirmed], (by decide +kernel)⟩, ⟨by decide +kernel, by decide +kernel, (by decide +kernel), by decide +kernel, by decide +kernel, by simp [confirmed], (by decide +kernel)⟩, ⟨by decide +kernel, by decide +kernel, (by decide +kernel), by decide +kernel, by decide +kernel, (by decide +kernel), Nat.lt_succ_self _⟩, by decide +kernel, by decide +kernel⟩

set_option maxRecDepth 100000 in
/-- Operands that meet the hypotheses of ChannelAndTrackerEventsComplete, part 2. -/
theorem test_hyp_ChannelAndTrackerEventsComplete_2 :
    ((((up : State).tracker (5 : Fin 128).val (0 : Fin 2).val).state < 2 ∨ (up : State).skyRuns = false)) ∧
    (2 ≤ ((sat : State).tracker (5 : Fin 128).val (0 : Fin 2).val).state ∧ (sat : State).skyRuns = true ∧ (18000 : Nat) = 100 * (sat : State).fld F.SKY_LOOP_PLL_BMAX ∧ (2000 : Nat) = min (100 * (sat : State).fld F.SKY_LOOP_PLL_BMIN) (18000 : Nat) ∧ (0 : Nat) = ((((sat : State).tracker (5 : Fin 128).val (0 : Fin 2).val).jerk : Int) + ((((sat : State).tracker (5 : Fin 128).val (0 : Fin 2).val).jerkRaw : Int) - ((sat : State).tracker (5 : Fin 128).val (0 : Fin 2).val).jerk) * 48771 / 1000000).toNat ∧ (clampN 2000 18000 (pllBest 4300 4 (max 0 (1000 * sat.fld F.SKY_DLL_JFLOOR))) : Nat) = clampN (2000 : Nat) (18000 : Nat) (pllBest ((sat : State).tracker (5 : Fin 128).val (0 : Fin 2).val).cn0 ((sat : State).tracker (5 : Fin 128).val (0 : Fin 2).val).tMs (max (0 : Nat) (1000 * (sat : State).fld F.SKY_DLL_JFLOOR)))) ∧
    (2 ≤ ((sidePeak : State).tracker (5 : Fin 128).val (0 : Fin 2).val).state ∧ (sidePeak : State).skyRuns = true ∧ isBoc ((sidePeak : State).tracker (5 : Fin 128).val (0 : Fin 2).val).signal = true ∧ ((sidePeak : State).tracker (5 : Fin 128).val (0 : Fin 2).val).sums (sidePeak : State).el (200 * oneMs) = ((5 : Nat), (9 : Nat), (7 : Nat)) ∧ (7 : Nat) < max (5 : Nat) (9 : Nat) ∧ ((sidePeak : State).tracker (5 : Fin 128).val (0 : Fin 2).val).peakAt + 200 * oneMs ≤ (sidePeak : State).el) ∧
    (2 ≤ ((sat : State).tracker (5 : Fin 128).val (0 : Fin 2).val).state ∧ (sat : State).skyRuns = true ∧ isBoc ((sat : State).tracker (5 : Fin 128).val (0 : Fin 2).val).signal = true ∧ ((sat : State).tracker (5 : Fin 128).val (0 : Fin 2).val).sums (sat : State).el (200 * oneMs) = ((0 : Nat), (0 : Nat), (0 : Nat)) ∧ (max (0 : Nat) (0 : Nat) ≤ (0 : Nat) ∨ (sat : State).el < ((sat : State).tracker (5 : Fin 128).val (0 : Fin 2).val).peakAt + 200 * oneMs)) ∧
    (2 ≤ ((skyGps : State).tracker (6 : Fin 128).val (0 : Fin 2).val).state ∧ (skyGps : State).skyRuns = true ∧ isBoc ((skyGps : State).tracker (6 : Fin 128).val (0 : Fin 2).val).signal = false ∧ ((skyGps : State).tracker (6 : Fin 128).val (0 : Fin 2).val).sums (skyGps : State).el (oneSec) = ((0 : Nat), (0 : Nat), (0 : Nat))) :=
  by and_intros <;> decide +kernel

set_option maxRecDepth 100000 in
/-- Operands that meet the hypotheses of ChannelAndTrackerEventsComplete, part 3. -/
theorem test_hyp_ChannelAndTrackerEventsComplete_3 :
    (((sat : State).tracker (5 : Fin 128).val (0 : Fin 2).val).state = 4) ∧
    (3 ≤ ((sat : State).tracker (5 : Fin 128).val (0 : Fin 2).val).state) :=
  by and_intros <;> decide +kernel

set_option maxRecDepth 100000 in
/-- Operands that meet the hypotheses of EpochsNavigationAndSkyCommandsComplete, part 1. -/
theorem test_hyp_EpochsNavigationAndSkyCommandsComplete_1 :
    ((skyUp : State).skyRuns = true ∧ (skyUp : State).serving = true ∧ (skyUp : State).sky.lastEpoch < (skyUp : State).epochInstant) ∧
    (navType ((sat : State).tracker (5 : Fin 128).val (0 : Fin 2).val).signal = some (3 : Nat) ∧ 3 ≤ ((sat : State).tracker (5 : Fin 128).val (0 : Fin 2).val).state ∧ (sat : State).skyRuns = true ∧ 0 < ({ bits := List.replicate 228 false } : NavIn).bits.length ∧ ({ bits := List.replicate 228 false } : NavIn).bits.length ≤ 880) ∧
    (navType ((sat : State).tracker (5 : Fin 128).val (0 : Fin 2).val).signal = some (3 : Nat) ∧ 3 ≤ ((sat : State).tracker (5 : Fin 128).val (0 : Fin 2).val).state ∧ (sat : State).skyRuns = true ∧ 0 < ({ bits := List.replicate 228 false } : NavIn).bits.length ∧ ({ bits := List.replicate 228 false } : NavIn).bits.length ≤ 880 ∧ (navCheck (3 : Nat) ({ bits := List.replicate 228 false } : NavIn)).2.1 = 0 ∧ ({} : Ephemeris) = Tbl.get ({} : Ephemeris) (sat : State).sky.eph (8 * ((sat : State).chan (5 : Fin 128).val).sat + (3 : Nat)) ∧ ([packBits (List.replicate 228 false)] : List (List Byte)) = (packBits (navCheck (3 : Nat) ({ bits := List.replicate 228 false } : NavIn)).1 :: Tbl.get [] (sat : State).sky.nav (8 * ((sat : State).chan (5 : Fin 128).val).sat + (3 : Nat))).take 125) ∧
    (({ sat with sky := { sat.sky with cfgPend := some (1, 3, 5) } } : State).sky.cfgPend = some ((1 : Nat), (3 : Nat), (5 : Nat)) ∧ (5 : Nat) * oneSec ≤ ({ sat with sky := { sat.sky with cfgPend := some (1, 3, 5) } } : State).now) ∧
    ((up : State).takes (c0 [0x3F, 0, 0, 0] : Cmd) opSkyConfig = true ∧ (c0 [0x3F, 0, 0, 0] : Cmd).payload.length = 4 ∧ rdN (c0 [0x3F, 0, 0, 0] : Cmd).payload 1 1 ≤ 7 ∧ periodsAgree (epochPeriod (rdN (c0 [0x3F, 0, 0, 0] : Cmd).payload 1 1)) (superframeNs ((up : State).slotsAt (((up : State).now / oneSec + 1) * oneSec))) = true ∧ (((up : State).rad.pend.map (·.n)).all (fun n => periodsAgree (epochPeriod (rdN (c0 [0x3F, 0, 0, 0] : Cmd).payload 1 1)) (superframeNs n)) = true)) :=
  by and_intros <;> decide +kernel

set_option maxRecDepth 100000 in
/-- Operands that meet the hypotheses of EpochsNavigationAndSkyCommandsComplete, part 2. -/
theorem test_hyp_EpochsNavigationAndSkyCommandsComplete_2 :
    ((up : State).takes (c0 (leI 8 63700000000 ++ bytes 20 0) : Cmd) opSkySetBasePosition = true ∧ (c0 (leI 8 63700000000 ++ bytes 20 0) : Cmd).payload.length = 28 ∧ ecefInRange (rdI (c0 (leI 8 63700000000 ++ bytes 20 0) : Cmd).payload 0 8) (rdI (c0 (leI 8 63700000000 ++ bytes 20 0) : Cmd).payload 8 8) (rdI (c0 (leI 8 63700000000 ++ bytes 20 0) : Cmd).payload 16 8) = true) ∧
    ((up : State).takes (c0 [1, 12, 1, 0] : Cmd) opSkyExclude = true ∧ (c0 [1, 12, 1, 0] : Cmd).payload.length = 4 ∧ rdN (c0 [1, 12, 1, 0] : Cmd).payload 0 1 ≤ 4 ∧ rdN (c0 [1, 12, 1, 0] : Cmd).payload 2 1 = 1) ∧
    ((up : State).takes (c0 [1, 12, 0, 0] : Cmd) opSkyExclude = true ∧ (c0 [1, 12, 0, 0] : Cmd).payload.length = 4 ∧ rdN (c0 [1, 12, 0, 0] : Cmd).payload 0 1 ≤ 4 ∧ rdN (c0 [1, 12, 0, 0] : Cmd).payload 2 1 = 0) ∧
    ((sat : State).takes (c0 [4, 3] : Cmd) opSkyGetChannels = true ∧ (c0 [4, 3] : Cmd).payload.length = 2 ∧ 0 < rdN (c0 [4, 3] : Cmd).payload 1 1 ∧ rdN (c0 [4, 3] : Cmd).payload 1 1 ≤ 32 ∧ rdN (c0 [4, 3] : Cmd).payload 0 1 + rdN (c0 [4, 3] : Cmd).payload 1 1 ≤ 128) ∧
    ((up : State).takes (c0 [1, 1, 168, 192, 10, 0, 2, 3, 7, 0, 10, 30] : Cmd) opSkyRtcmConfig = true ∧ (c0 [1, 1, 168, 192, 10, 0, 2, 3, 7, 0, 10, 30] : Cmd).payload.length = 12 ∧ 1 ≤ rdN (c0 [1, 1, 168, 192, 10, 0, 2, 3, 7, 0, 10, 30] : Cmd).payload 6 1 ∧ rdN (c0 [1, 1, 168, 192, 10, 0, 2, 3, 7, 0, 10, 30] : Cmd).payload 6 1 ≤ 50 ∧ rdN (c0 [1, 1, 168, 192, 10, 0, 2, 3, 7, 0, 10, 30] : Cmd).payload 8 2 ≤ 4095 ∧ 1 ≤ rdN (c0 [1, 1, 168, 192, 10, 0, 2, 3, 7, 0, 10, 30] : Cmd).payload 10 1 ∧ 1 ≤ rdN (c0 [1, 1, 168, 192, 10, 0, 2, 3, 7, 0, 10, 30] : Cmd).payload 11 1) :=
  by and_intros <;> decide +kernel

set_option maxRecDepth 100000 in
/-- Operands that meet the hypotheses of TimeSourcesAndDisciplineComplete, part 1. -/
theorem test_hyp_TimeSourcesAndDisciplineComplete_1 :
    ((up : State).timeRuns = true ∧ (up : State).laneClock = true ∧ (up : State).lan.gap = [] ∧ (up : State).svb.posts = []) ∧
    (({ up with pwr := { up.pwr with state := .dormant } } : State).timeRuns = true ∧ ({ up with pwr := { up.pwr with state := .dormant } } : State).laneClock = false ∧ ({ up with pwr := { up.pwr with state := .dormant } } : State).svb.posts = []) ∧
    ((backupS : State).timeRuns = false ∧ (backupS : State).svb.posts = []) ∧
    ((up : State).time.lastSecond < (up : State).now / oneSec) ∧
    (({ up with time := { up.time with lastSecond := 2000000000 } } : State).now / oneSec ≤ ({ up with time := { up.time with lastSecond := 2000000000 } } : State).time.lastSecond) :=
  by and_intros <;> decide +kernel

set_option maxRecDepth 100000 in
/-- Operands that meet the hypotheses of TimeSourcesAndDisciplineComplete, part 2. -/
theorem test_hyp_TimeSourcesAndDisciplineComplete_2 :
    (((timed false 3 : State).source ((0 : Fin 2).val + 1)).validSince = some (0 : Nat) ∧ ((timed false 3 : State).source ((0 : Fin 2).val + 1)).qualified = false ∧ (0 : Nat) + orOne ((timed false 3 : State).fld F.TIM_LOCK_QUAL) * oneSec ≤ (timed false 3 : State).el ∧ (timed false 3 : State).el ≤ ((timed false 3 : State).source ((0 : Fin 2).val + 1)).lastValid + oneSec) ∧
    (((timed true 2 : State).source ((0 : Fin 2).val + 1)).qualified = true ∧ ((timed true 2 : State).source ((0 : Fin 2).val + 1)).lastValid + oneSec ≤ (timed true 2 : State).el) ∧
    (((up.setFld F.TIM_STAT_STEPPED 1).setFld F.TIM_CTL_DISC_EN 1 : State).flag F.TIM_STAT_STEPPED = true ∧ ((up.setFld F.TIM_STAT_STEPPED 1).setFld F.TIM_CTL_DISC_EN 1 : State).flag F.TIM_CTL_DISC_EN = true ∧ ((up.setFld F.TIM_STAT_STEPPED 1).setFld F.TIM_CTL_DISC_EN 1 : State).pwr.refLostAt = none ∧ ((up.setFld F.TIM_STAT_STEPPED 1).setFld F.TIM_CTL_DISC_EN 1 : State).time.lastDisc + oneSec ≤ ((up.setFld F.TIM_STAT_STEPPED 1).setFld F.TIM_CTL_DISC_EN 1 : State).el ∧ ((up.setFld F.TIM_STAT_STEPPED 1).setFld F.TIM_CTL_DISC_EN 1 : State).fld F.TIM_STAT_SOURCE = 0) ∧
    ((stepped : State).flag F.TIM_STAT_STEPPED = true ∧ (stepped : State).flag F.TIM_CTL_DISC_EN = true ∧ (stepped : State).pwr.refLostAt = none ∧ (stepped : State).time.lastDisc + oneSec ≤ (stepped : State).el ∧ (stepped : State).fld F.TIM_STAT_SOURCE ≠ 0 ∧ (((orOne (stepped.fld F.TIM_LOOP_SLEW) * 1000 : Nat) : Int) : Int) = ((orOne ((stepped : State).fld F.TIM_LOOP_SLEW) * 1000 : Nat) : Int) ∧ (105 : Int) = (stepped : State).time.yf + clampI (-(((orOne (stepped.fld F.TIM_LOOP_SLEW) * 1000 : Nat) : Int) : Int)) (((orOne (stepped.fld F.TIM_LOOP_SLEW) * 1000 : Nat) : Int) : Int) (-(stepped : State).theta / ((orOne ((stepped : State).fld F.TIM_LOOP_TAU) : Nat) : Int)) ∧ (105 : Int).natAbs ≤ 10 ^ 8) ∧
    (({ stepped with time := { stepped.time with yf := 200000000 } } : State).flag F.TIM_STAT_STEPPED = true ∧ ({ stepped with time := { stepped.time with yf := 200000000 } } : State).flag F.TIM_CTL_DISC_EN = true ∧ ({ stepped with time := { stepped.time with yf := 200000000 } } : State).pwr.refLostAt = none ∧ ({ stepped with time := { stepped.time with yf := 200000000 } } : State).time.lastDisc + oneSec ≤ ({ stepped with time := { stepped.time with yf := 200000000 } } : State).el ∧ ({ stepped with time := { stepped.time with yf := 200000000 } } : State).fld F.TIM_STAT_SOURCE ≠ 0 ∧ 10 ^ 8 < (({ stepped with time := { stepped.time with yf := 200000000 } } : State).time.yf + clampI (-((orOne (({ stepped with time := { stepped.time with yf := 200000000 } } : State).fld F.TIM_LOOP_SLEW) * 1000 : Nat) : Int)) ((orOne (({ stepped with time := { stepped.time with yf := 200000000 } } : State).fld F.TIM_LOOP_SLEW) * 1000 : Nat) : Int) (-({ stepped with time := { stepped.time with yf := 200000000 } } : State).theta / ((orOne (({ stepped with time := { stepped.time with yf := 200000000 } } : State).fld F.TIM_LOOP_TAU) : Nat) : Int))).natAbs) :=
  ⟨by decide +kernel, by decide +kernel, (by decide +kernel), ⟨by decide +kernel, by decide +kernel, (by decide +kernel), by decide +kernel, by decide +kernel, rfl, (by decide +kernel), by decide +kernel⟩, by decide +kernel⟩

set_option maxRecDepth 100000 in
/-- Operands that meet the hypotheses of TimeSourcesAndDisciplineComplete, part 3. -/
theorem test_hyp_TimeSourcesAndDisciplineComplete_3 :
    ((stepped : State).fld F.TIM_STAT_SOURCE ≠ 0 ∧ (stepped : State).time.yfSince + 60 * oneSec ≤ (stepped : State).el) ∧
    (({ (timed true 1) with time := { (timed true 1).time with lockSince := some 0 } } : State).time.lockSince = some (0 : Nat) ∧ ({ (timed true 1) with time := { (timed true 1).time with lockSince := some 0 } } : State).timState = tsLOCKING ∧ (0 : Nat) + ({ (timed true 1) with time := { (timed true 1).time with lockSince := some 0 } } : State).fld F.TIM_LOCK_LOCK_HOLD * oneSec ≤ ({ (timed true 1) with time := { (timed true 1).time with lockSince := some 0 } } : State).el) ∧
    (((({ timed false 3 with time := { (timed false 3).time with holdSince := some 0 } } : State).setFld F.TIM_HOLD_LIMIT 60) : State).time.holdSince = some (0 : Nat) ∧ ((({ timed false 3 with time := { (timed false 3).time with holdSince := some 0 } } : State).setFld F.TIM_HOLD_LIMIT 60) : State).timState = tsHOLDOVER ∧ (0 : Nat) + clampN 60 604800 (((({ timed false 3 with time := { (timed false 3).time with holdSince := some 0 } } : State).setFld F.TIM_HOLD_LIMIT 60) : State).fld F.TIM_HOLD_LIMIT) * oneSec ≤ ((({ timed false 3 with time := { (timed false 3).time with holdSince := some 0 } } : State).setFld F.TIM_HOLD_LIMIT 60) : State).el) :=
  by and_intros <;> decide +kernel

set_option maxRecDepth 100000 in
/-- Operands that meet the hypotheses of TimeStepsPulsesAndStampsComplete, part 1. -/
theorem test_hyp_TimeStepsPulsesAndStampsComplete_1 :
    ((((({ timed true 0 with time := { (timed true 0).time with stepAfter := some 0, gnss := { (timed true 0).time.gnss with theta := 123456 } } } : State).setFld F.TIM_CTL_DISC_EN 1).setFld F.TIM_STAT_STEPPED 0) : State).time.stepAfter = some (0 : Nat) ∧ (0 : Nat) < (((({ timed true 0 with time := { (timed true 0).time with stepAfter := some 0, gnss := { (timed true 0).time.gnss with theta := 123456 } } } : State).setFld F.TIM_CTL_DISC_EN 1).setFld F.TIM_STAT_STEPPED 0) : State).now / oneMs ∧ (((({ timed true 0 with time := { (timed true 0).time with stepAfter := some 0, gnss := { (timed true 0).time.gnss with theta := 123456 } } } : State).setFld F.TIM_CTL_DISC_EN 1).setFld F.TIM_STAT_STEPPED 0) : State).flag F.TIM_CTL_DISC_EN = true ∧ (((({ timed true 0 with time := { (timed true 0).time with stepAfter := some 0, gnss := { (timed true 0).time.gnss with theta := 123456 } } } : State).setFld F.TIM_CTL_DISC_EN 1).setFld F.TIM_STAT_STEPPED 0) : State).bestSource ≠ 0 ∧ (((({ timed true 0 with time := { (timed true 0).time with stepAfter := some 0, gnss := { (timed true 0).time.gnss with theta := 123456 } } } : State).setFld F.TIM_CTL_DISC_EN 1).setFld F.TIM_STAT_STEPPED 0) : State).flag F.TIM_STAT_STEPPED = false ∧ (123456 : Int) = ((((({ timed true 0 with time := { (timed true 0).time with stepAfter := some 0, gnss := { (timed true 0).time.gnss with theta := 123456 } } } : State).setFld F.TIM_CTL_DISC_EN 1).setFld F.TIM_STAT_STEPPED 0) : State).source (((({ timed true 0 with time := { (timed true 0).time with stepAfter := some 0, gnss := { (timed true 0).time.gnss with theta := 123456 } } } : State).setFld F.TIM_CTL_DISC_EN 1).setFld F.TIM_STAT_STEPPED 0) : State).bestSource).theta) ∧
    ((({ stepped with time := { stepped.time with restep := [(0, 1, 5)] } } : State).setSess 0 { stepped.sess 0 with cache := [{ seq := 1, crc := 0, opcode := 0x0A03 }], outst := [{ seq := 1, opcode := 0x0A03, src := 0 }] } : State).time.restep = [((0 : Nat), (1 : Nat), (5 : Nat))] ∧ (5 : Nat) < (({ stepped with time := { stepped.time with restep := [(0, 1, 5)] } } : State).setSess 0 { stepped.sess 0 with cache := [{ seq := 1, crc := 0, opcode := 0x0A03 }], outst := [{ seq := 1, opcode := 0x0A03, src := 0 }] } : State).now / oneMs ∧ (({ stepped with time := { stepped.time with restep := [(0, 1, 5)] } } : State).setSess 0 { stepped.sess 0 with cache := [{ seq := 1, crc := 0, opcode := 0x0A03 }], outst := [{ seq := 1, opcode := 0x0A03, src := 0 }] } : State).bestSource ≠ 0 ∧ (-25000 : Int) = (({ stepped with time := { stepped.time with restep := [(0, 1, 5)] } } : State).setSess 0 { stepped.sess 0 with cache := [{ seq := 1, crc := 0, opcode := 0x0A03 }], outst := [{ seq := 1, opcode := 0x0A03, src := 0 }] } : State).theta ∧ ({ seq := 1, opcode := 0x0A03, src := 0 } : Outst) ∈ ((({ stepped with time := { stepped.time with restep := [(0, 1, 5)] } } : State).setSess 0 { stepped.sess 0 with cache := [{ seq := 1, crc := 0, opcode := 0x0A03 }], outst := [{ seq := 1, opcode := 0x0A03, src := 0 }] } : State).sess (0 : Nat)).outst ∧ ({ seq := 1, opcode := 0x0A03, src := 0 } : Outst).seq = (1 : Nat) ∧ ({ seq := 1, opcode := 0x0A03, src := 0 } : Outst).reply = none ∧ (((({ stepped with time := { stepped.time with restep := [(0, 1, 5)] } } : State).setSess 0 { stepped.sess 0 with cache := [{ seq := 1, crc := 0, opcode := 0x0A03 }], outst := [{ seq := 1, opcode := 0x0A03, src := 0 }] } : State).sess (0 : Nat)).cache.any (fun x => x.seq == (1 : Nat)) = true) ∧ (({ stepped with time := { stepped.time with restep := [(0, 1, 5)] } } : State).setSess 0 { stepped.sess 0 with cache := [{ seq := 1, crc := 0, opcode := 0x0A03 }], outst := [{ seq := 1, opcode := 0x0A03, src := 0 }] } : State).svb.posts = []) ∧
    ((steppedNet : State).takes (c1 (bytes 4 0) : Cmd) opTimeRestep = true ∧ (c1 (bytes 4 0) : Cmd).payload.length = 4 ∧ (steppedNet : State).fleetHeld = true ∧ (steppedNet : State).bestSource ≠ 0 ∧ (steppedNet : State).flag F.TIM_STAT_STEPPED = true ∧ (steppedNet : State).flag F.TIM_CTL_DISC_EN = true) ∧
    (({ up with time := { up.time with leapAt := some (5, 38) } } : State).time.leapAt = some ((5 : Nat), (38 : Nat)) ∧ (5 : Nat) ≤ ({ up with time := { up.time with leapAt := some (5, 38) } } : State).now / oneSec) ∧
    (((({ up with time := { up.time with ext := 1784000000000500000 * 2 ^ 32 } } : State).setFld (F.TIM_PPS_CTL_EN 1) 1).setFld F.TIM_STAT_STATE 2 : State).flag (F.TIM_PPS_CTL_EN (1 : Fin 2).val) = true ∧ ((({ up with time := { up.time with ext := 1784000000000500000 * 2 ^ 32 } } : State).setFld (F.TIM_PPS_CTL_EN 1) 1).setFld F.TIM_STAT_STATE 2 : State).ppsIndex (1 : Fin 2).val ≠ (Tbl.get ({} : Pulse) ((({ up with time := { up.time with ext := 1784000000000500000 * 2 ^ 32 } } : State).setFld (F.TIM_PPS_CTL_EN 1) 1).setFld F.TIM_STAT_STATE 2 : State).time.pps (1 : Fin 2).val).lastInstant ∧ (1784000000000000000000 : Nat) = (((({ up with time := { up.time with ext := 1784000000000500000 * 2 ^ 32 } } : State).setFld (F.TIM_PPS_CTL_EN 1) 1).setFld F.TIM_STAT_STATE 2 : State).ppsIndex (1 : Fin 2).val * (((({ up with time := { up.time with ext := 1784000000000500000 * 2 ^ 32 } } : State).setFld (F.TIM_PPS_CTL_EN 1) 1).setFld F.TIM_STAT_STATE 2 : State).ppsPeriod (1 : Fin 2).val * 1000 : Nat) + ((({ up with time := { up.time with ext := 1784000000000500000 * 2 ^ 32 } } : State).setFld (F.TIM_PPS_CTL_EN 1) 1).setFld F.TIM_STAT_STATE 2 : State).ppsShift (1 : Fin 2).val).toNat ∧ (999999500000 : Nat) = ((({ up with time := { up.time with ext := 1784000000000500000 * 2 ^ 32 } } : State).setFld (F.TIM_PPS_CTL_EN 1) 1).setFld F.TIM_STAT_STATE 2 : State).el - (((({ up with time := { up.time with ext := 1784000000000500000 * 2 ^ 32 } } : State).setFld (F.TIM_PPS_CTL_EN 1) 1).setFld F.TIM_STAT_STATE 2 : State).now - (1784000000000000000000 : Nat) / 1000) ∧ ((Tbl.get ({} : Pulse) ((({ up with time := { up.time with ext := 1784000000000500000 * 2 ^ 32 } } : State).setFld (F.TIM_PPS_CTL_EN 1) 1).setFld F.TIM_STAT_STATE 2 : State).time.pps (1 : Fin 2).val).lastEdge.all (fun e => decide (e + ((({ up with time := { up.time with ext := 1784000000000500000 * 2 ^ 32 } } : State).setFld (F.TIM_PPS_CTL_EN 1) 1).setFld F.TIM_STAT_STATE 2 : State).ppsPeriod (1 : Fin 2).val / 2 ≤ (999999500000 : Nat))) = true) ∧ ((Tbl.get ({} : Pulse) ((({ up with time := { up.time with ext := 1784000000000500000 * 2 ^ 32 } } : State).setFld (F.TIM_PPS_CTL_EN 1) 1).setFld F.TIM_STAT_STATE 2 : State).time.pps (1 : Fin 2).val).writtenAt.all (fun w => decide (w + oneMs ≤ (999999500000 : Nat))) = true) ∧ ((({ up with time := { up.time with ext := 1784000000000500000 * 2 ^ 32 } } : State).setFld (F.TIM_PPS_CTL_EN 1) 1).setFld F.TIM_STAT_STATE 2 : State).now - (1784000000000000000000 : Nat) / 1000 < oneMs ∧ ((({ up with time := { up.time with ext := 1784000000000500000 * 2 ^ 32 } } : State).setFld (F.TIM_PPS_CTL_EN 1) 1).setFld F.TIM_STAT_STATE 2 : State).ppsSuppressed = false) :=
  by and_intros <;> decide +kernel

set_option maxRecDepth 100000 in
/-- Operands that meet the hypotheses of TimeStepsPulsesAndStampsComplete, part 2. -/
theorem test_hyp_TimeStepsPulsesAndStampsComplete_2 :
    (((up.setFld (F.TIM_PPS_CTL_EN 1) 1).setFld F.TIM_STAT_STATE 2 : State).flag (F.TIM_PPS_CTL_EN (1 : Fin 2).val) = true ∧ ((up.setFld (F.TIM_PPS_CTL_EN 1) 1).setFld F.TIM_STAT_STATE 2 : State).ppsIndex (1 : Fin 2).val ≠ (Tbl.get ({} : Pulse) ((up.setFld (F.TIM_PPS_CTL_EN 1) 1).setFld F.TIM_STAT_STATE 2 : State).time.pps (1 : Fin 2).val).lastInstant ∧ (1784000000000000000000 : Nat) = (((up.setFld (F.TIM_PPS_CTL_EN 1) 1).setFld F.TIM_STAT_STATE 2 : State).ppsIndex (1 : Fin 2).val * (((up.setFld (F.TIM_PPS_CTL_EN 1) 1).setFld F.TIM_STAT_STATE 2 : State).ppsPeriod (1 : Fin 2).val * 1000 : Nat) + ((up.setFld (F.TIM_PPS_CTL_EN 1) 1).setFld F.TIM_STAT_STATE 2 : State).ppsShift (1 : Fin 2).val).toNat ∧ (999876543211 : Nat) = ((up.setFld (F.TIM_PPS_CTL_EN 1) 1).setFld F.TIM_STAT_STATE 2 : State).el - (((up.setFld (F.TIM_PPS_CTL_EN 1) 1).setFld F.TIM_STAT_STATE 2 : State).now - (1784000000000000000000 : Nat) / 1000) ∧ ((Tbl.get ({} : Pulse) ((up.setFld (F.TIM_PPS_CTL_EN 1) 1).setFld F.TIM_STAT_STATE 2 : State).time.pps (1 : Fin 2).val).lastEdge.any (fun e => decide ((999876543211 : Nat) < e + ((up.setFld (F.TIM_PPS_CTL_EN 1) 1).setFld F.TIM_STAT_STATE 2 : State).ppsPeriod (1 : Fin 2).val / 2)) = true ∨ (Tbl.get ({} : Pulse) ((up.setFld (F.TIM_PPS_CTL_EN 1) 1).setFld F.TIM_STAT_STATE 2 : State).time.pps (1 : Fin 2).val).writtenAt.any (fun w => decide ((999876543211 : Nat) < w + oneMs)) = true ∨ oneMs ≤ ((up.setFld (F.TIM_PPS_CTL_EN 1) 1).setFld F.TIM_STAT_STATE 2 : State).now - (1784000000000000000000 : Nat) / 1000 ∨ ((up.setFld (F.TIM_PPS_CTL_EN 1) 1).setFld F.TIM_STAT_STATE 2 : State).ppsSuppressed = true)) ∧
    (((up : State).flag (F.TIM_PPS_CTL_EN (1 : Fin 2).val) = false ∨ (up : State).ppsIndex (1 : Fin 2).val = (Tbl.get ({} : Pulse) (up : State).time.pps (1 : Fin 2).val).lastInstant)) ∧
    ((up.setFld F.TIM_IN_CTL_EN 1 : State).flag F.TIM_IN_CTL_EN = true ∧ ((up.setFld F.TIM_IN_CTL_EN 1 : State).fld F.TIM_IN_CTL_EDGE == 2 || ((up.setFld F.TIM_IN_CTL_EN 1 : State).fld F.TIM_IN_CTL_EDGE == 1 && (false : Bool)) || (((up.setFld F.TIM_IN_CTL_EN 1 : State).fld F.TIM_IN_CTL_EDGE == 0 || (up.setFld F.TIM_IN_CTL_EN 1 : State).fld F.TIM_IN_CTL_EDGE == 3) && !(false : Bool))) = true ∧ 20 ≤ (20 : Nat) ∧ ((up.setFld F.TIM_IN_CTL_EN 1 : State).time.lastStamp.all (fun l => decide (l + 100 ≤ (up.setFld F.TIM_IN_CTL_EN 1 : State).interpolated (up.setFld F.TIM_IN_CTL_EN 1 : State).time.elapsed (2 : Fin 4).val)) = true) ∧ (up.setFld F.TIM_IN_CTL_EN 1 : State).time.fifo.length < 16) ∧
    ((({ up with time := { up.time with lastStamp := some up.el } } : State).setFld F.TIM_IN_CTL_EN 1 : State).flag F.TIM_IN_CTL_EN = true ∧ ((({ up with time := { up.time with lastStamp := some up.el } } : State).setFld F.TIM_IN_CTL_EN 1 : State).fld F.TIM_IN_CTL_EDGE == 2 || ((({ up with time := { up.time with lastStamp := some up.el } } : State).setFld F.TIM_IN_CTL_EN 1 : State).fld F.TIM_IN_CTL_EDGE == 1 && (false : Bool)) || (((({ up with time := { up.time with lastStamp := some up.el } } : State).setFld F.TIM_IN_CTL_EN 1 : State).fld F.TIM_IN_CTL_EDGE == 0 || (({ up with time := { up.time with lastStamp := some up.el } } : State).setFld F.TIM_IN_CTL_EN 1 : State).fld F.TIM_IN_CTL_EDGE == 3) && !(false : Bool))) = true ∧ 20 ≤ (20 : Nat) ∧ ((({ up with time := { up.time with lastStamp := some up.el } } : State).setFld F.TIM_IN_CTL_EN 1 : State).time.lastStamp.all (fun l => decide (l + 100 ≤ (({ up with time := { up.time with lastStamp := some up.el } } : State).setFld F.TIM_IN_CTL_EN 1 : State).interpolated (({ up with time := { up.time with lastStamp := some up.el } } : State).setFld F.TIM_IN_CTL_EN 1 : State).time.elapsed (2 : Fin 4).val)) = false ∨ 16 ≤ (({ up with time := { up.time with lastStamp := some up.el } } : State).setFld F.TIM_IN_CTL_EN 1 : State).time.fifo.length)) ∧
    (((up.setFld F.TIM_IN_CTL_EN 1 : State).flag F.TIM_IN_CTL_EN = false ∨ ((up.setFld F.TIM_IN_CTL_EN 1 : State).fld F.TIM_IN_CTL_EDGE == 2 || ((up.setFld F.TIM_IN_CTL_EN 1 : State).fld F.TIM_IN_CTL_EDGE == 1 && (false : Bool)) || (((up.setFld F.TIM_IN_CTL_EN 1 : State).fld F.TIM_IN_CTL_EDGE == 0 || (up.setFld F.TIM_IN_CTL_EN 1 : State).fld F.TIM_IN_CTL_EDGE == 3) && !(false : Bool))) = false ∨ (19 : Nat) < 20)) :=
  by and_intros <;> decide +kernel

set_option maxRecDepth 100000 in
/-- Operands that meet the hypotheses of TimeStepsPulsesAndStampsComplete, part 3. -/
theorem test_hyp_TimeStepsPulsesAndStampsComplete_3 :
    (({ up with time := { up.time with fifo := [⟨7, 1, 2, true⟩] } } : State).time.fifo = (⟨7, 1, 2, true⟩ : Stamp) :: ([] : List Stamp)) ∧
    ((up : State).time.fifo = []) ∧
    ((stepped : State).takes (c0 [] : Cmd) opTimeGet = true ∧ (c0 [] : Cmd).payload = []) ∧
    ((up : State).takes (c0 ([1, 0, 0, 0] ++ bytes 16 3) : Cmd) opPpsConfig = true ∧ (c0 ([1, 0, 0, 0] ++ bytes 16 3) : Cmd).payload.length = 20 ∧ rdN (c0 ([1, 0, 0, 0] ++ bytes 16 3) : Cmd).payload 0 1 ≤ 1) :=
  by and_intros <;> decide +kernel

set_option maxRecDepth 100000 in
/-- Operands that meet the hypotheses of RtkIntakeAndCyclesComplete, part 1. -/
theorem test_hyp_RtkIntakeAndCyclesComplete_1 :
    ((rtkUp : State).flag F.RTK_CTL_EN = true ∧ (rtkUp : State).lanesRun = true ∧ (rtkUp : State).bodyOk ([1, 2] : List Byte) = false) ∧
    ((rtkUp : State).flag F.RTK_CTL_EN = true ∧ (rtkUp : State).lanesRun = true ∧ (rtkUp : State).bodyOk (obsBody : List Byte) = true ∧ (if bit (rdN (obsBody : List Byte) 6 1) 7 then (rtkUp : State).takeRef (3 : Fin 128).val (obsBody : List Byte) else (rtkUp : State)).bodyObs (3 : Fin 128).val (obsBody : List Byte) = some ([(parseFull (obsBody.drop 12)).obs] : List RoverObs) ∧ (rtkUp : State).baseRec (bodyEpoch (obsBody : List Byte)) ≠ none ∧ ((rtkUp : State).rtk.bases.all (fun b => decide (b.epoch ≤ bodyEpoch (obsBody : List Byte) + orOne ((rtkUp : State).fld F.RTK_CTL_MAX_AGE) * ((rtkUp : State).baseNs / oneMs))) = true) ∧ (((rtkUp : State).rk (3 : Fin 128).val).lastUsed.all (fun u => decide (u < bodyEpoch (obsBody : List Byte))) = true) ∧ (((rtkUp : State).rk (3 : Fin 128).val).pending.all (fun q => decide (q.epoch < bodyEpoch (obsBody : List Byte))) = true)) ∧
    ((rtkUp : State).flag F.RTK_CTL_EN = true ∧ (rtkUp : State).lanesRun = true ∧ (rtkUp : State).rtk.lastCycle < (rtkUp : State).laneEpoch) ∧
    (({ rtkUp with rtk := { rtkUp.rtk with lastCycle := 2 ^ 80 } } : State).flag F.RTK_CTL_EN = true ∧ ({ rtkUp with rtk := { rtkUp.rtk with lastCycle := 2 ^ 80 } } : State).lanesRun = true ∧ ({ rtkUp with rtk := { rtkUp.rtk with lastCycle := 2 ^ 80 } } : State).laneEpoch ≤ ({ rtkUp with rtk := { rtkUp.rtk with lastCycle := 2 ^ 80 } } : State).rtk.lastCycle) ∧
    ((waits : State).lanesRun = true ∧ (waits : State).rtk.lastCycle + 6600000 < (waits : State).laneNow ∧ (waits : State).rtk.waiting = (({ slot := 3 }, pend1, ⟨60480001000, 1, true, none, 0, 0, []⟩) : RtkSol × PendingObs × BaseRec) :: ([] : List (RtkSol × PendingObs × BaseRec))) :=
  by and_intros <;> decide +kernel

set_option maxRecDepth 100000 in
/-- Operands that meet the hypotheses of RtkIntakeAndCyclesComplete, part 2. -/
theorem test_hyp_RtkIntakeAndCyclesComplete_2 :
    ((rtkUp : State).flag F.RTK_CTL_EN = true ∧ (rtkUp : State).lanesRun = true ∧ orOne ((rtkUp : State).fld F.RTK_CTL_LOST_N) ≤ ((rtkUp : State).rk (3 : Fin 128).val).misses ∧ ((rtkUp : State).rk (3 : Fin 128).val).noneSent = false ∧ (rtkUp : State).publishes = true) ∧
    ((rtkUp.setFld F.RTK_CTL_IF_EN 1 : State).lanesRun = true ∧ 10 ≤ ((rtkUp.setFld F.RTK_CTL_IF_EN 1 : State).rk (3 : Fin 128).val).ifCount ∧ ((rtkUp.setFld F.RTK_CTL_IF_EN 1 : State).flag F.RTK_CTL_IF_EN = true ∨ ((rtkUp.setFld F.RTK_CTL_IF_EN 1 : State).rk (3 : Fin 128).val).ifree = true)) ∧
    ((rtkUp.setRk 3 { rate := 7 } : State).rtk.rateSec < (rtkUp.setRk 3 { rate := 7 } : State).now / oneSec) ∧
    ((rtkUp : State).fld F.RTK_LOAD_GRANTED < (rtkUp : State).rtkLoad (rtkUp : State).rtk.shed ∧ (rtkUp : State).rtk.shed < 10) ∧
    ((({ rtkUp with rtk := { rtkUp.rtk with shed := 2 } } : State).setFld F.RTK_LOAD_GRANTED 2000 : State).rtk.shed ≠ 0 ∧ (({ rtkUp with rtk := { rtkUp.rtk with shed := 2 } } : State).setFld F.RTK_LOAD_GRANTED 2000 : State).rtkLoad (({ rtkUp with rtk := { rtkUp.rtk with shed := 2 } } : State).setFld F.RTK_LOAD_GRANTED 2000 : State).rtk.shed ≤ (({ rtkUp with rtk := { rtkUp.rtk with shed := 2 } } : State).setFld F.RTK_LOAD_GRANTED 2000 : State).fld F.RTK_LOAD_GRANTED ∧ (({ rtkUp with rtk := { rtkUp.rtk with shed := 2 } } : State).setFld F.RTK_LOAD_GRANTED 2000 : State).rtkLoad ((({ rtkUp with rtk := { rtkUp.rtk with shed := 2 } } : State).setFld F.RTK_LOAD_GRANTED 2000 : State).rtk.shed - 1) ≤ (({ rtkUp with rtk := { rtkUp.rtk with shed := 2 } } : State).setFld F.RTK_LOAD_GRANTED 2000 : State).fld F.RTK_LOAD_GRANTED ∧ ((({ rtkUp with rtk := { rtkUp.rtk with shed := 2 } } : State).setFld F.RTK_LOAD_GRANTED 2000 : State).rtk.undoneAt.all (fun u => (({ rtkUp with rtk := { rtkUp.rtk with shed := 2 } } : State).setFld F.RTK_LOAD_GRANTED 2000 : State).passed u oneSec) = true)) :=
  by and_intros <;> decide +kernel

set_option maxRecDepth 100000 in
/-- Operands that meet the hypotheses of RtkCommandsComplete, part 1. -/
theorem test_hyp_RtkCommandsComplete_1 :
    ((net : State).takes (c1 (leI 8 38000000000 ++ leI 8 5000000000 ++ leI 8 50000000000) : Cmd) opRtkSetSiteOrigin = true ∧ (c1 (leI 8 38000000000 ++ leI 8 5000000000 ++ leI 8 50000000000) : Cmd).payload.length = 24 ∧ ecefInRange (rdI (c1 (leI 8 38000000000 ++ leI 8 5000000000 ++ leI 8 50000000000) : Cmd).payload 0 8) (rdI (c1 (leI 8 38000000000 ++ leI 8 5000000000 ++ leI 8 50000000000) : Cmd).payload 8 8) (rdI (c1 (leI 8 38000000000 ++ leI 8 5000000000 ++ leI 8 50000000000) : Cmd).payload 16 8) = true ∧ (net : State).fleetHeld = true) ∧
    ((net : State).takes (c1 [2, 5, 0, 0, 3, 0, 0, 0] : Cmd) opRtkSetRateClass = true ∧ (c1 [2, 5, 0, 0, 3, 0, 0, 0] : Cmd).payload.length = 8 ∧ (rdN (c1 [2, 5, 0, 0, 3, 0, 0, 0] : Cmd).payload 0 1 = 0 ∨ (rdN (c1 [2, 5, 0, 0, 3, 0, 0, 0] : Cmd).payload 0 1 = 2 ∧ rdN (c1 [2, 5, 0, 0, 3, 0, 0, 0] : Cmd).payload 4 1 ≤ 127)) ∧ rdN (c1 [2, 5, 0, 0, 3, 0, 0, 0] : Cmd).payload 1 1 ≤ 7) ∧
    ((net : State).takes (c1 [1, 5, 4, 2, 3, 0, 0, 0] : Cmd) opRtkSetRateClass = true ∧ (c1 [1, 5, 4, 2, 3, 0, 0, 0] : Cmd).payload.length = 8 ∧ rdN (c1 [1, 5, 4, 2, 3, 0, 0, 0] : Cmd).payload 0 1 = 1 ∧ rdN (c1 [1, 5, 4, 2, 3, 0, 0, 0] : Cmd).payload 1 1 ≤ 7 ∧ rdN (c1 [1, 5, 4, 2, 3, 0, 0, 0] : Cmd).payload 2 1 ≤ 7 ∧ rdN (c1 [1, 5, 4, 2, 3, 0, 0, 0] : Cmd).payload 3 1 ≤ 7) ∧
    ((net : State).takes (c1 ([0, 5] ++ bytes 12 0) : Cmd) opRtkSetNoise = true ∧ (c1 ([0, 5] ++ bytes 12 0) : Cmd).payload.length = 14 ∧ rdN (c1 ([0, 5] ++ bytes 12 0) : Cmd).payload 0 1 = 0 ∧ rdN (c1 ([0, 5] ++ bytes 12 0) : Cmd).payload 1 1 ≤ 7) ∧
    ((net : State).takes (c1 [1, 5, 100, 0, 20, 0, 1, 2, 3, 4, 50, 0, 0, 0] : Cmd) opRtkSetNoise = true ∧ (c1 [1, 5, 100, 0, 20, 0, 1, 2, 3, 4, 50, 0, 0, 0] : Cmd).payload.length = 14 ∧ rdN (c1 [1, 5, 100, 0, 20, 0, 1, 2, 3, 4, 50, 0, 0, 0] : Cmd).payload 0 1 = 1 ∧ rdN (c1 [1, 5, 100, 0, 20, 0, 1, 2, 3, 4, 50, 0, 0, 0] : Cmd).payload 1 1 ≤ 7 ∧ rdN (c1 [1, 5, 100, 0, 20, 0, 1, 2, 3, 4, 50, 0, 0, 0] : Cmd).payload 2 2 ≠ 0 ∧ rdN (c1 [1, 5, 100, 0, 20, 0, 1, 2, 3, 4, 50, 0, 0, 0] : Cmd).payload 4 2 ≠ 0 ∧ rdN (c1 [1, 5, 100, 0, 20, 0, 1, 2, 3, 4, 50, 0, 0, 0] : Cmd).payload 6 1 ≠ 0 ∧ rdN (c1 [1, 5, 100, 0, 20, 0, 1, 2, 3, 4, 50, 0, 0, 0] : Cmd).payload 7 1 ≠ 0 ∧ rdN (c1 [1, 5, 100, 0, 20, 0, 1, 2, 3, 4, 50, 0, 0, 0] : Cmd).payload 8 1 ≠ 0 ∧ rdN (c1 [1, 5, 100, 0, 20, 0, 1, 2, 3, 4, 50, 0, 0, 0] : Cmd).payload 9 1 ≠ 0 ∧ 10 ≤ rdN (c1 [1, 5, 100, 0, 20, 0, 1, 2, 3, 4, 50, 0, 0, 0] : Cmd).payload 10 1 ∧ rdN (c1 [1, 5, 100, 0, 20, 0, 1, 2, 3, 4, 50, 0, 0, 0] : Cmd).payload 10 1 ≤ 100) :=
  by and_intros <;> decide +kernel

set_option maxRecDepth 100000 in
/-- Operands that meet the hypotheses of RtkCommandsComplete, part 2. -/
theorem test_hyp_RtkCommandsComplete_2 :
    ((rtkUp : State).takes (c0 [3, 0, 0, 0] : Cmd) opRtkResetRover = true ∧ (c0 [3, 0, 0, 0] : Cmd).payload.length = 4 ∧ rdN (c0 [3, 0, 0, 0] : Cmd).payload 0 1 ≤ 127) ∧
    ((rtkUp : State).takes (c0 [3, 2, 0, 0] : Cmd) opRtkGetFix = true ∧ (c0 [3, 2, 0, 0] : Cmd).payload.length = 4 ∧ rdN (c0 [3, 2, 0, 0] : Cmd).payload 1 1 ≠ 0 ∧ rdN (c0 [3, 2, 0, 0] : Cmd).payload 1 1 ≤ 32 ∧ rdN (c0 [3, 2, 0, 0] : Cmd).payload 0 1 + rdN (c0 [3, 2, 0, 0] : Cmd).payload 1 1 ≤ 128) :=
  by and_intros <;> decide +kernel

set_option maxRecDepth 100000 in
/-- Operands that meet the hypotheses of SnapshotsComplete, part 1. -/
theorem test_hyp_SnapshotsComplete_1 :
    ((snaps : State).flag (F.RAD_P_CFG_EN (0 : Fin 4).val) = true ∧ (snaps : State).flag F.RAD_CTL_EN = true ∧ (snaps : State).flag (F.RAD_P_STAT_SLEEP (0 : Fin 4).val) = false ∧ (snaps : State).pwr.hubReady = true ∧ (snaps : State).rxFrame (air ftBULK_UP 2 3 chunkOk : List Byte) = some (airF ftBULK_UP 3 true chunkOk : RxFrame) ∧ (airF ftBULK_UP 3 true chunkOk : RxFrame).tagOk = true ∧ (airF ftBULK_UP 3 true chunkOk : RxFrame).ftype = ftBULK_UP ∧ ((snaps : State).bound (airF ftBULK_UP 3 true chunkOk : RxFrame).slot).bound = true ∧ rdN (airF ftBULK_UP 3 true chunkOk : RxFrame).body 0 1 = 1 ∧ (chunkOk.drop 2 : List Byte) = (airF ftBULK_UP 3 true chunkOk : RxFrame).body.drop 2 ∧ (chunkOk.drop 2 : List Byte).length = 8 + rdN (chunkOk.drop 2 : List Byte) 6 2 ∧ rdN (chunkOk.drop 2 : List Byte) 2 2 + 1 < rdN (chunkOk.drop 2 : List Byte) 4 2 ∧ chunkLenOk (rdN (chunkOk.drop 2 : List Byte) 6 2) = true ∧ (snaps : State).flag F.SNP_CTL_EN = true ∧ (snaps : State).snap (airF ftBULK_UP 3 true chunkOk : RxFrame).slot = none ∧ Tbl.get none (snaps : State).snp.freed (airF ftBULK_UP 3 true chunkOk : RxFrame).slot ≠ some (rdN (chunkOk.drop 2 : List Byte) 0 1) ∧ (snaps : State).snp.entries.length < 32) ∧
    ((snapThree : State).flag (F.RAD_P_CFG_EN (0 : Fin 4).val) = true ∧ (snapThree : State).flag F.RAD_CTL_EN = true ∧ (snapThree : State).flag (F.RAD_P_STAT_SLEEP (0 : Fin 4).val) = false ∧ (snapThree : State).pwr.hubReady = true ∧ (snapThree : State).rxFrame (air ftBULK_UP 2 3 chunkOk : List Byte) = some (airF ftBULK_UP 3 true chunkOk : RxFrame) ∧ (airF ftBULK_UP 3 true chunkOk : RxFrame).tagOk = true ∧ (airF ftBULK_UP 3 true chunkOk : RxFrame).ftype = ftBULK_UP ∧ ((snapThree : State).bound (airF ftBULK_UP 3 true chunkOk : RxFrame).slot).bound = true ∧ rdN (airF ftBULK_UP 3 true chunkOk : RxFrame).body 0 1 = 1 ∧ (chunkOk.drop 2 : List Byte) = (airF ftBULK_UP 3 true chunkOk : RxFrame).body.drop 2 ∧ (chunkOk.drop 2 : List Byte).length = 8 + rdN (chunkOk.drop 2 : List Byte) 6 2 ∧ rdN (chunkOk.drop 2 : List Byte) 2 2 + 1 < rdN (chunkOk.drop 2 : List Byte) 4 2 ∧ chunkLenOk (rdN (chunkOk.drop 2 : List Byte) 6 2) = true ∧ (snapThree : State).snap (airF ftBULK_UP 3 true chunkOk : RxFrame).slot = some (snapOf 3 none : SnapEntry) ∧ (snapOf 3 none : SnapEntry).id = rdN (chunkOk.drop 2 : List Byte) 0 1 ∧ (snapOf 3 none : SnapEntry).count = rdN (chunkOk.drop 2 : List Byte) 4 2 ∧ ((snapOf 3 none : SnapEntry).len.all (fun l => l == rdN (chunkOk.drop 2 : List Byte) 6 2) = true) ∧ ((snapOf 3 none : SnapEntry).chunks.insert (rdN (chunkOk.drop 2 : List Byte) 2 2) ((chunkOk.drop 2 : List Byte).drop 8)).length ≠ (snapOf 3 none : SnapEntry).count) ∧
    ((snaps : State).flag (F.RAD_P_CFG_EN (0 : Fin 4).val) = true ∧ (snaps : State).flag F.RAD_CTL_EN = true ∧ (snaps : State).flag (F.RAD_P_STAT_SLEEP (0 : Fin 4).val) = false ∧ (snaps : State).pwr.hubReady = true ∧ (snaps : State).rxFrame (air ftBULK_UP 2 3 chunkBad : List Byte) = some (airF ftBULK_UP 3 true chunkBad : RxFrame) ∧ (airF ftBULK_UP 3 true chunkBad : RxFrame).tagOk = true ∧ (airF ftBULK_UP 3 true chunkBad : RxFrame).ftype = ftBULK_UP ∧ ((snaps : State).bound (airF ftBULK_UP 3 true chunkBad : RxFrame).slot).bound = true ∧ rdN (airF ftBULK_UP 3 true chunkBad : RxFrame).body 0 1 = 1 ∧ (chunkBad.drop 2 : List Byte) = (airF ftBULK_UP 3 true chunkBad : RxFrame).body.drop 2 ∧ ((chunkBad.drop 2 : List Byte).length ≠ 8 + rdN (chunkBad.drop 2 : List Byte) 6 2 ∨ rdN (chunkBad.drop 2 : List Byte) 4 2 ≤ rdN (chunkBad.drop 2 : List Byte) 2 2)) ∧
    ((snapTwo : State).snap (3 : Fin 128).val = some (snapOf 2 none : SnapEntry) ∧ (snapOf 2 none : SnapEntry).ready = none ∧ (snapOf 2 none : SnapEntry).missed = false ∧ (snapOf 2 none : SnapEntry).lastSf + orOne ((snapTwo : State).fld F.SNP_CTL_GAP) ≤ (snapTwo : State).sf) ∧
    ((snapTwo : State).snap (3 : Fin 128).val = some (snapOf 2 none : SnapEntry) ∧ (snapOf 2 none : SnapEntry).ready = none ∧ (snapTwo : State).passed (snapOf 2 none : SnapEntry).lastAt (orOne ((snapTwo : State).fld F.SNP_CTL_ASM_TO) * oneSec) = true) :=
  ⟨⟨by decide +kernel, by decide +kernel, (by decide +kernel), by decide +kernel, air_rx snaps ftBULK_UP 2 3 chunkOk (by decide +kernel) (by decide +kernel) (by decide +kernel) (by decide +kernel), by decide +kernel, (by decide +kernel), by decide +kernel, by decide +kernel, (by decide +kernel), by decide +kernel, by decide +kernel, (by decide +kernel), by decide +kernel, by decide +kernel, (by decide +kernel), by decide +kernel⟩, ⟨by decide +kernel, (by decide +kernel), by decide +kernel, by decide +kernel, air_rx snapThree ftBULK_UP 2 3 chunkOk (by decide +kernel) (by decide +kernel) (by decide +kernel) (by decide +kernel), (by decide +kernel), by decide +kernel, by decide +kernel, (by decide +kernel), by decide +kernel, by decide +kernel, (by decide +kernel), by decide +kernel, by decide +kernel, (by decide +kernel), by decide +kernel, by decide +kernel, (by decide +kernel)⟩, ⟨by decide +kernel, by decide +kernel, (by decide +kernel), by decide +kernel, air_rx snaps ftBULK_UP 2 3 chunkBad (by decide +kernel) (by decide +kernel) (by decide +kernel) (by decide +kernel), by decide +kernel, (by decide +kernel), by decide +kernel, by decide +kernel, (by decide +kernel), by decide +kernel⟩, by decide +kernel, (by decide +kernel)⟩

set_option maxRecDepth 100000 in
/-- Operands that meet the hypotheses of SnapshotsComplete, part 2. -/
theorem test_hyp_SnapshotsComplete_2 :
    ((fiveSats snapReadyUp : State).snp.solving = none ∧ (fiveSats snapReadyUp : State).fld (F.ARB_PWR_REQ_GRANT 2) ≠ 0 ∧ (fiveSats snapReadyUp : State).fld F.ARB_DRAM_OWNER = 1 ∧ (fiveSats snapReadyUp : State).flag F.SNP_CTL_EN = true ∧ (fiveSats snapReadyUp : State).snapReady = [(3 : Nat)] ∧ (fiveSats snapReadyUp : State).snap (3 : Nat) = some (snapOf 1 (some 0) : SnapEntry) ∧ (fiveSats snapReadyUp : State).fld F.TIM_STAT_STATE ≠ 0 ∧ 5 ≤ (fiveSats snapReadyUp : State).snapBase) ∧
    ((snapReadyUp : State).snp.solving = none ∧ (snapReadyUp : State).fld (F.ARB_PWR_REQ_GRANT 2) ≠ 0 ∧ (snapReadyUp : State).fld F.ARB_DRAM_OWNER = 1 ∧ (snapReadyUp : State).flag F.SNP_CTL_EN = true ∧ (snapReadyUp : State).snapReady = [(3 : Nat)] ∧ (snapReadyUp : State).snap (3 : Nat) = some (snapOf 1 (some 0) : SnapEntry) ∧ ((snapReadyUp : State).fld F.TIM_STAT_STATE = 0 ∨ (snapReadyUp : State).snapBase < 5)) ∧
    (((solving snaps 0).setFld (F.ARB_PWR_REQ_GRANT 2) 5 : State).snp.solving = some ((3 : Nat), (0 : Nat)) ∧ ((solving snaps 0).setFld (F.ARB_PWR_REQ_GRANT 2) 5 : State).snap (3 : Nat) = some (snapOf 1 (some 0) : SnapEntry) ∧ ((solving snaps 0).setFld (F.ARB_PWR_REQ_GRANT 2) 5 : State).granted 2 = true) ∧
    (((up : State).granted 2 = false ∨ (up : State).snp.solving = none)) ∧
    ((solving snaps 0 : State).snp.solving = some ((3 : Nat), (0 : Nat)) ∧ (solving snaps 0 : State).snap (3 : Nat) = some (snapOf 1 (some 0) : SnapEntry) ∧ (solving snaps 0 : State).passed (0 : Nat) (max 100 ((solving snaps 0 : State).fld F.SNP_LIM_SOLVE_MAX) * oneMs) = true) :=
  by and_intros <;> decide +kernel

set_option maxRecDepth 100000 in
/-- Operands that meet the hypotheses of SignalBoxPassAndExpiriesComplete, part 1. -/
theorem test_hyp_SignalBoxPassAndExpiriesComplete_1 :
    (((passing { stagedMap with sbx := { stagedMap.sbx with activate := some { yard with id := 10 } } }) : State).lanesRun = true ∧ ((passing { stagedMap with sbx := { stagedMap.sbx with activate := some { yard with id := 10 } } }) : State).t0At ((passing { stagedMap with sbx := { stagedMap.sbx with activate := some { yard with id := 10 } } }) : State).laneSf + 8 * oneMs ≤ ((passing { stagedMap with sbx := { stagedMap.sbx with activate := some { yard with id := 10 } } }) : State).laneNow ∧ ((passing { stagedMap with sbx := { stagedMap.sbx with activate := some { yard with id := 10 } } }) : State).sbx.passF ≠ some ((passing { stagedMap with sbx := { stagedMap.sbx with activate := some { yard with id := 10 } } }) : State).laneSf ∧ (((passing { stagedMap with sbx := { stagedMap.sbx with activate := some { yard with id := 10 } } }) : State).sbx.map.all (fun m => ((passing { stagedMap with sbx := { stagedMap.sbx with activate := some { yard with id := 10 } } }) : State).rtk.origin.map originCrc == some m.originCrc) = true) ∧ ((passing { stagedMap with sbx := { stagedMap.sbx with activate := some { yard with id := 10 } } }) : State).sbx.activate = some ({ yard with id := 10 } : SiteMap) ∧ ((passing { stagedMap with sbx := { stagedMap.sbx with activate := some { yard with id := 10 } } }) : State).rtk.origin.map originCrc = some ({ yard with id := 10 } : SiteMap).originCrc ∧ ((passing { stagedMap with sbx := { stagedMap.sbx with activate := some { yard with id := 10 } } }) : State).mapBlocker ({ yard with id := 10 } : SiteMap) = none) ∧
    (((passing (routed none)) : State).lanesRun = true ∧ ((passing (routed none)) : State).t0At ((passing (routed none)) : State).laneSf + 8 * oneMs ≤ ((passing (routed none)) : State).laneNow ∧ ((passing (routed none)) : State).sbx.passF ≠ some ((passing (routed none)) : State).laneSf ∧ (((passing (routed none)) : State).sbx.map.all (fun m => ((passing (routed none)) : State).rtk.origin.map originCrc == some m.originCrc) = true) ∧ ((passing (routed none)) : State).sbx.activate = none ∧ (((passing (routed none)) : State).sbx.staged.all (fun m => ((passing (routed none)) : State).rtk.origin.map originCrc == some m.originCrc) = true)) ∧
    (((passing { routed none with rtk := { (routed none).rtk with origin := some (9, 9, 9) } }) : State).lanesRun = true ∧ ((passing { routed none with rtk := { (routed none).rtk with origin := some (9, 9, 9) } }) : State).t0At ((passing { routed none with rtk := { (routed none).rtk with origin := some (9, 9, 9) } }) : State).laneSf + 8 * oneMs ≤ ((passing { routed none with rtk := { (routed none).rtk with origin := some (9, 9, 9) } }) : State).laneNow ∧ ((passing { routed none with rtk := { (routed none).rtk with origin := some (9, 9, 9) } }) : State).sbx.passF ≠ some ((passing { routed none with rtk := { (routed none).rtk with origin := some (9, 9, 9) } }) : State).laneSf ∧ ((passing { routed none with rtk := { (routed none).rtk with origin := some (9, 9, 9) } }) : State).sbx.map = some (yard : SiteMap) ∧ ((passing { routed none with rtk := { (routed none).rtk with origin := some (9, 9, 9) } }) : State).rtk.origin.map originCrc ≠ some (yard : SiteMap).originCrc ∧ ((passing { routed none with rtk := { (routed none).rtk with origin := some (9, 9, 9) } }) : State).sbx.activate = none) ∧
    ((({ sbxUp with sbx := { sbxUp.sbx with passF := some sbxUp.laneSf } } : State).sbx.passF = some ({ sbxUp with sbx := { sbxUp.sbx with passF := some sbxUp.laneSf } } : State).laneSf ∨ ({ sbxUp with sbx := { sbxUp.sbx with passF := some sbxUp.laneSf } } : State).laneNow < ({ sbxUp with sbx := { sbxUp.sbx with passF := some sbxUp.laneSf } } : State).t0At ({ sbxUp with sbx := { sbxUp.sbx with passF := some sbxUp.laneSf } } : State).laneSf + 8 * oneMs ∨ ({ sbxUp with sbx := { sbxUp.sbx with passF := some sbxUp.laneSf } } : State).lanesRun = false)) ∧
    ((routed (some 7) : State).lanesRun = true ∧ ((routed (some 7) : State).sx (3 : Fin 128).val).auth = some (auth1 (some 7) : Auth) ∧ (auth1 (some 7) : Auth).expiry = some (7 : Nat) ∧ (7 : Nat) < (routed (some 7) : State).laneNow ∧ ((routed (some 7) : State).sbxSlots.all (fun j => ((routed (some 7) : State).sx j).stopAt.isNone) = true)) :=
  by and_intros <;> decide +kernel

set_option maxRecDepth 100000 in
/-- Operands that meet the hypotheses of SignalBoxPassAndExpiriesComplete, part 2. -/
theorem test_hyp_SignalBoxPassAndExpiriesComplete_2 :
    ((routed none : State).lanesRun = true ∧ (⟨2, 4, 4, some 5, true⟩ : Releasing) ∈ ((routed none : State).sx (3 : Fin 128).val).releasing ∧ (⟨2, 4, 4, some 5, true⟩ : Releasing).expiry = some (5 : Nat) ∧ (5 : Nat) < (routed none : State).laneNow ∧ ((routed none : State).sbxSlots.all (fun j => ((routed none : State).sx j).stopAt.isNone) = true)) ∧
    ((routed none : State).lanesRun = true ∧ (([2], 7) : List Nat × Nat) ∈ ((routed none : State).sx (3 : Fin 128).val).avoid ∧ (([2], 7) : List Nat × Nat).2 < (routed none : State).laneSf) ∧
    ((routed none : State).lanesRun = true ∧ (⟨2, 1, 7, some 0, true⟩ : Withdraw) ∈ ((routed none : State).sx (3 : Fin 128).val).withdraws ∧ (⟨2, 1, 7, some 0, true⟩ : Withdraw).sf = some (0 : Nat) ∧ (0 : Nat) + 3 ≤ (routed none : State).laneSf ∧ ((routed none : State).sbxSlots.all (fun j => ((routed none : State).sx j).stopAt.isNone) = true)) ∧
    ((routed none : State).lanesRun = true ∧ ((routed none : State).sx (3 : Fin 128).val).tent = some ({ auth1 (some 7) with blocks := [2] } : Auth) ∧ ({ auth1 (some 7) with blocks := [2] } : Auth).expiry = some (7 : Nat) ∧ (7 : Nat) < (routed none : State).laneNow ∧ ((routed none : State).sbxSlots.all (fun j => ((routed none : State).sx j).stopAt.isNone) = true)) ∧
    ((stagingMap 0 : State).lanesRun = true ∧ (stagingMap 0 : State).sbx.staging = some ((64 : Nat), (76 : Nat)) ∧ (mapImage : List Byte) = bytesAt (stagingMap 0 : State).dram (64 : Nat) (76 : Nat) ∧ checkMap (mapImage : List Byte) (stagingMap 0 : State).rtk.origin = none) :=
  by and_intros <;> decide +kernel

set_option maxRecDepth 100000 in
/-- Operands that meet the hypotheses of SignalBoxPassAndExpiriesComplete, part 3. -/
theorem test_hyp_SignalBoxPassAndExpiriesComplete_3 :
    ((stagingMap 4 : State).lanesRun = true ∧ (stagingMap 4 : State).sbx.staging = some ((68 : Nat), (76 : Nat)) ∧ (bytesAt (stagingMap 4).dram 68 76 : List Byte) = bytesAt (stagingMap 4 : State).dram (68 : Nat) (76 : Nat) ∧ checkMap (bytesAt (stagingMap 4).dram 68 76 : List Byte) (stagingMap 4 : State).rtk.origin = some ((1 : Nat), (0 : Nat), (0 : Nat))) :=
  by decide +kernel

set_option maxRecDepth 100000 in
/-- Operands that meet the hypotheses of SignalBoxCommandsComplete, part 1. -/
theorem test_hyp_SignalBoxCommandsComplete_1 :
    ((sbxUp : State).takes (c0 (le 4 64 ++ le 4 76) : Cmd) opSbxMapStage = true ∧ (c0 (le 4 64 ++ le 4 76) : Cmd).payload.length = 8 ∧ rdN (c0 (le 4 64 ++ le 4 76) : Cmd).payload 0 4 % 4 = 0 ∧ rdN (c0 (le 4 64 ++ le 4 76) : Cmd).payload 0 4 + rdN (c0 (le 4 64 ++ le 4 76) : Cmd).payload 4 4 ≤ 0x08000000) ∧
    ((stagedMap : State).takes (c0 (le 4 10) : Cmd) opSbxMapActivate = true ∧ (c0 (le 4 10) : Cmd).payload.length = 4 ∧ (stagedMap : State).sbx.staged = some ({ yard with id := 10 } : SiteMap) ∧ ({ yard with id := 10 } : SiteMap).id = rdN (c0 (le 4 10) : Cmd).payload 0 4 ∧ (stagedMap : State).laneInput.mapBlocker ({ yard with id := 10 } : SiteMap) = none) ∧
    ((({ routed none with sbx := { (routed none).sbx with staged := some { yard with id := 10, blocks := [] } } } : State) : State).takes (c0 (le 4 10) : Cmd) opSbxMapActivate = true ∧ (c0 (le 4 10) : Cmd).payload.length = 4 ∧ (({ routed none with sbx := { (routed none).sbx with staged := some { yard with id := 10, blocks := [] } } } : State) : State).sbx.staged = some ({ yard with id := 10, blocks := [] } : SiteMap) ∧ ({ yard with id := 10, blocks := [] } : SiteMap).id = rdN (c0 (le 4 10) : Cmd).payload 0 4 ∧ (({ routed none with sbx := { (routed none).sbx with staged := some { yard with id := 10, blocks := [] } } } : State) : State).laneInput.mapBlocker ({ yard with id := 10, blocks := [] } : SiteMap) = some (3 : Nat)) ∧
    ((sbxUp : State).takes (sbxReq 8 : Cmd) opSbxRequest = true ∧ (sbxReq 8 : Cmd).payload.length = 12 + 2 * rdN (sbxReq 8 : Cmd).payload 8 2 ∧ rdN (sbxReq 8 : Cmd).payload 0 1 ≤ 127 ∧ rdN (sbxReq 8 : Cmd).payload 1 1 ≤ 7 ∧ rdN (sbxReq 8 : Cmd).payload 8 2 ≠ 0 ∧ rdN (sbxReq 8 : Cmd).payload 8 2 ≤ 512 ∧ (([0, 1] : List Nat) = (List.range (rdN (sbxReq 8 : Cmd).payload 8 2)).map fun i => rdN (sbxReq 8 : Cmd).payload (12 + 2 * i) 2) ∧ (([0, 1] : List Nat).all (fun w => decide (w < 32768)) = true) ∧ rdN (sbxReq 8 : Cmd).payload 2 1 = 0 ∧ (sbxUp : State).beyondEnd (rdN (sbxReq 8 : Cmd).payload 4 4) (rdN (sbxReq 8 : Cmd).payload 10 2) ([0, 1] : List Nat) = false ∧ (sbxUp : State).laneInput.routeRefusal (rdN (sbxReq 8 : Cmd).payload 0 1) (rdN (sbxReq 8 : Cmd).payload 4 4) ([0, 1] : List Nat) false = (4 : Nat) ∧ (4 : Nat) ≠ 0) ∧
    ((sbxUp : State).takes (sbxReq 9 : Cmd) opSbxRequest = true ∧ (sbxReq 9 : Cmd).payload.length = 12 + 2 * rdN (sbxReq 9 : Cmd).payload 8 2 ∧ rdN (sbxReq 9 : Cmd).payload 0 1 ≤ 127 ∧ rdN (sbxReq 9 : Cmd).payload 1 1 ≤ 7 ∧ rdN (sbxReq 9 : Cmd).payload 8 2 ≠ 0 ∧ rdN (sbxReq 9 : Cmd).payload 8 2 ≤ 512 ∧ (([0, 1] : List Nat) = (List.range (rdN (sbxReq 9 : Cmd).payload 8 2)).map fun i => rdN (sbxReq 9 : Cmd).payload (12 + 2 * i) 2) ∧ (([0, 1] : List Nat).all (fun w => decide (w < 32768)) = true) ∧ rdN (sbxReq 9 : Cmd).payload 2 1 = 0 ∧ (sbxUp : State).beyondEnd (rdN (sbxReq 9 : Cmd).payload 4 4) (rdN (sbxReq 9 : Cmd).payload 10 2) ([0, 1] : List Nat) = false ∧ (sbxUp : State).laneInput.routeRefusal (rdN (sbxReq 9 : Cmd).payload 0 1) (rdN (sbxReq 9 : Cmd).payload 4 4) ([0, 1] : List Nat) false = 0 ∧ (sbxUp : State).sbx.map = some (yard : SiteMap) ∧ ((sbxUp : State).laneInput.setSx (rdN (sbxReq 9 : Cmd).payload 0 1) { (sbxUp : State).sx (rdN (sbxReq 9 : Cmd).payload 0 1) with stopped := false }).whyNot (rdN (sbxReq 9 : Cmd).payload 0 1) = 0 ∧ (sbxUp : State).roverStopped (rdN (sbxReq 9 : Cmd).payload 0 1) = false ∧ (sbxUp : State).laneInput.laneAuth (rdN (sbxReq 9 : Cmd).payload 0 1) = none ∧ ((sbxUp : State).sx (rdN (sbxReq 9 : Cmd).payload 0 1)).tent = none ∧ ([0, 1] : List Nat).length ≤ (sbxUp : State).maxBlk ∧ (([0, 1] : List Nat).all (fun w => ((sbxUp : State).laneInput.refusal (yard : SiteMap) (rdN (sbxReq 9 : Cmd).payload 0 1) w).isNone) = true) ∧ ((sbxUp : State).sbxSlots.all (fun j => ((sbxUp : State).sx j).stopAt.isNone) = true)) :=
  by and_intros <;> decide +kernel

set_option maxRecDepth 100000 in
/-- Operands that meet the hypotheses of SignalBoxCommandsComplete, part 2. -/
theorem test_hyp_SignalBoxCommandsComplete_2 :
    (({ sbxUp with sbx := { sbxUp.sbx with reqs := [⟨3, 2, false, 9, [0, 1], 500⟩] } } : State).lanesRun = true ∧ ({ sbxUp with sbx := { sbxUp.sbx with reqs := [⟨3, 2, false, 9, [0, 1], 500⟩] } } : State).sbx.reqs = (⟨3, 2, false, 9, [0, 1], 500⟩ : RouteReq) :: ([] : List RouteReq) ∧ (⟨3, 2, false, 9, [0, 1], 500⟩ : RouteReq).tentative = false ∧ ({ sbxUp with sbx := { sbxUp.sbx with reqs := [⟨3, 2, false, 9, [0, 1], 500⟩] } } : State).routeRefusal (⟨3, 2, false, 9, [0, 1], 500⟩ : RouteReq).slot (⟨3, 2, false, 9, [0, 1], 500⟩ : RouteReq).mapId (⟨3, 2, false, 9, [0, 1], 500⟩ : RouteReq).route false = 0 ∧ ({ sbxUp with sbx := { sbxUp.sbx with reqs := [⟨3, 2, false, 9, [0, 1], 500⟩] } } : State).sbx.map = some (yard : SiteMap) ∧ (({ sbxUp with sbx := { sbxUp.sbx with reqs := [⟨3, 2, false, 9, [0, 1], 500⟩] } } : State).setSx (⟨3, 2, false, 9, [0, 1], 500⟩ : RouteReq).slot { ({ sbxUp with sbx := { sbxUp.sbx with reqs := [⟨3, 2, false, 9, [0, 1], 500⟩] } } : State).sx (⟨3, 2, false, 9, [0, 1], 500⟩ : RouteReq).slot with stopped := false }).whyNot (⟨3, 2, false, 9, [0, 1], 500⟩ : RouteReq).slot = 0 ∧ ({ sbxUp with sbx := { sbxUp.sbx with reqs := [⟨3, 2, false, 9, [0, 1], 500⟩] } } : State).roverStopped (⟨3, 2, false, 9, [0, 1], 500⟩ : RouteReq).slot = false ∧ ({ sbxUp with sbx := { sbxUp.sbx with reqs := [⟨3, 2, false, 9, [0, 1], 500⟩] } } : State).laneAuth (⟨3, 2, false, 9, [0, 1], 500⟩ : RouteReq).slot = none ∧ (({ sbxUp with sbx := { sbxUp.sbx with reqs := [⟨3, 2, false, 9, [0, 1], 500⟩] } } : State).sx (⟨3, 2, false, 9, [0, 1], 500⟩ : RouteReq).slot).tent = none ∧ (⟨3, 2, false, 9, [0, 1], 500⟩ : RouteReq).route.length ≤ ({ sbxUp with sbx := { sbxUp.sbx with reqs := [⟨3, 2, false, 9, [0, 1], 500⟩] } } : State).maxBlk ∧ ((⟨3, 2, false, 9, [0, 1], 500⟩ : RouteReq).route.all (fun w => (({ sbxUp with sbx := { sbxUp.sbx with reqs := [⟨3, 2, false, 9, [0, 1], 500⟩] } } : State).refusal (yard : SiteMap) (⟨3, 2, false, 9, [0, 1], 500⟩ : RouteReq).slot w).isNone) = true) ∧ (({ sbxUp with sbx := { sbxUp.sbx with reqs := [⟨3, 2, false, 9, [0, 1], 500⟩] } } : State).sbxSlots.all (fun j => (({ sbxUp with sbx := { sbxUp.sbx with reqs := [⟨3, 2, false, 9, [0, 1], 500⟩] } } : State).sx j).stopAt.isNone) = true)) ∧
    ((routed none : State).takes (c0 [3, 0, 0, 0] : Cmd) opSbxRelease = true ∧ (c0 [3, 0, 0, 0] : Cmd).payload.length = 4 ∧ (rdN (c0 [3, 0, 0, 0] : Cmd).payload 0 1) ≤ 127 ∧ rdN (c0 [3, 0, 0, 0] : Cmd).payload 1 1 = 0) ∧
    ((sbxUp.setSx 3 { occ := [0], noneHold := true } : State).takes (c0 [3, 1, 0, 0] : Cmd) opSbxRelease = true ∧ (c0 [3, 1, 0, 0] : Cmd).payload.length = 4 ∧ (rdN (c0 [3, 1, 0, 0] : Cmd).payload 0 1) ≤ 127 ∧ rdN (c0 [3, 1, 0, 0] : Cmd).payload 1 1 = 1 ∧ ((sbxUp.setSx 3 { occ := [0], noneHold := true } : State).sx (rdN (c0 [3, 1, 0, 0] : Cmd).payload 0 1)).noneHold = true ∧ ((sbxUp.setSx 3 { occ := [0], noneHold := true } : State).sbxSlots.all (fun j => ((sbxUp.setSx 3 { occ := [0], noneHold := true } : State).sx j).stopAt.isNone) = true)) ∧
    ((routed none : State).takes (c0 [3, 1, 0, 0] : Cmd) opSbxRevoke = true ∧ (c0 [3, 1, 0, 0] : Cmd).payload.length = 4 ∧ (rdN (c0 [3, 1, 0, 0] : Cmd).payload 0 1) ≤ 127 ∧ rdN (c0 [3, 1, 0, 0] : Cmd).payload 1 1 ≤ 1 ∧ (routed none : State).laneInput.cutBlock (rdN (c0 [3, 1, 0, 0] : Cmd).payload 0 1) = some (0 : Nat) ∧ ((routed none : State).sbxSlots.all (fun j => ((routed none : State).sx j).stopAt.isNone) = true)) ∧
    ((routed none : State).takes (c0 [4, 1, 0, 0] : Cmd) opSbxRevoke = true ∧ (c0 [4, 1, 0, 0] : Cmd).payload.length = 4 ∧ (rdN (c0 [4, 1, 0, 0] : Cmd).payload 0 1) ≤ 127 ∧ rdN (c0 [4, 1, 0, 0] : Cmd).payload 1 1 ≤ 1 ∧ (routed none : State).laneInput.cutBlock (rdN (c0 [4, 1, 0, 0] : Cmd).payload 0 1) = none ∧ ((routed none : State).sbxSlots.all (fun j => ((routed none : State).sx j).stopAt.isNone) = true)) :=
  by and_intros <;> decide +kernel

set_option maxRecDepth 100000 in
/-- Operands that meet the hypotheses of SignalBoxCommandsComplete, part 3. -/
theorem test_hyp_SignalBoxCommandsComplete_3 :
    ((sbxUp : State).takes (c0 [0, 0, 9, 0] : Cmd) opSbxZoneSet = true ∧ (c0 [0, 0, 9, 0] : Cmd).payload.length = 4 ∧ (sbxUp : State).sbx.map = some (yard : SiteMap) ∧ (rdN (c0 [0, 0, 9, 0] : Cmd).payload 0 2) < (yard : SiteMap).zones.length ∧ rdN (c0 [0, 0, 9, 0] : Cmd).payload 2 1 ≤ 128 ∧ ((sbxUp : State).sbxSlots.all (fun j => ((sbxUp : State).sx j).stopAt.isNone) = true)) ∧
    ((routed none : State).takes (c0 [0, 3, 0, 2] : Cmd) opSbxGetState = true ∧ (c0 [0, 3, 0, 2] : Cmd).payload.length = 4 ∧ rdN (c0 [0, 3, 0, 2] : Cmd).payload 3 1 ≠ 0 ∧ rdN (c0 [0, 3, 0, 2] : Cmd).payload 0 1 = 0 ∧ rdN (c0 [0, 3, 0, 2] : Cmd).payload 3 1 ≤ 64 ∧ rdN (c0 [0, 3, 0, 2] : Cmd).payload 1 2 + rdN (c0 [0, 3, 0, 2] : Cmd).payload 3 1 ≤ 128) ∧
    ((routed none : State).takes (c0 [1, 0, 0, 1] : Cmd) opSbxGetState = true ∧ (c0 [1, 0, 0, 1] : Cmd).payload.length = 4 ∧ rdN (c0 [1, 0, 0, 1] : Cmd).payload 3 1 ≠ 0 ∧ rdN (c0 [1, 0, 0, 1] : Cmd).payload 0 1 = 1 ∧ (routed none : State).sbx.map = some (yard : SiteMap) ∧ rdN (c0 [1, 0, 0, 1] : Cmd).payload 1 2 + rdN (c0 [1, 0, 0, 1] : Cmd).payload 3 1 ≤ (yard : SiteMap).blocks.length) ∧
    ((routed none : State).takes (c0 [2, 0, 0, 1] : Cmd) opSbxGetState = true ∧ (c0 [2, 0, 0, 1] : Cmd).payload.length = 4 ∧ rdN (c0 [2, 0, 0, 1] : Cmd).payload 3 1 ≠ 0 ∧ rdN (c0 [2, 0, 0, 1] : Cmd).payload 0 1 = 2 ∧ (routed none : State).sbx.map = some (yard : SiteMap) ∧ rdN (c0 [2, 0, 0, 1] : Cmd).payload 3 1 ≤ 64 ∧ rdN (c0 [2, 0, 0, 1] : Cmd).payload 1 2 + rdN (c0 [2, 0, 0, 1] : Cmd).payload 3 1 ≤ (yard : SiteMap).zones.length) ∧
    ((({ sbxUp with sbx := { sbxUp.sbx with map := some { yard with points := [⟨[0, 1, 2], 0, 65535⟩] } } } : State) : State).takes (c0 [3, 0, 0, 1] : Cmd) opSbxGetState = true ∧ (c0 [3, 0, 0, 1] : Cmd).payload.length = 4 ∧ rdN (c0 [3, 0, 0, 1] : Cmd).payload 3 1 ≠ 0 ∧ rdN (c0 [3, 0, 0, 1] : Cmd).payload 0 1 = 3 ∧ (({ sbxUp with sbx := { sbxUp.sbx with map := some { yard with points := [⟨[0, 1, 2], 0, 65535⟩] } } } : State) : State).sbx.map = some ({ yard with points := [⟨[0, 1, 2], 0, 65535⟩] } : SiteMap) ∧ rdN (c0 [3, 0, 0, 1] : Cmd).payload 1 2 + rdN (c0 [3, 0, 0, 1] : Cmd).payload 3 1 ≤ ({ yard with points := [⟨[0, 1, 2], 0, 65535⟩] } : SiteMap).points.length) :=
  by and_intros <;> decide +kernel

set_option maxRecDepth 100000 in
/-- Operands that meet the hypotheses of AllotmentRoundsAndRoutesComplete, part 1. -/
theorem test_hyp_AllotmentRoundsAndRoutesComplete_1 :
    ((working 1 : State).lanesRun = true ∧ ((working 1 : State).alt.now.any (fun f => (working 1 : State).laneSf == f + 1) = true ∨ (0 < (working 1 : State).alt.sinceRound ∧ (working 1 : State).alt.sinceRound % orOne ((working 1 : State).fld F.ALT_CTL_ROUND_SF) = 0)) ∧ (working 1 : State).laneEpoch + 8 * oneMs ≤ (working 1 : State).laneNow ∧ (working 1 : State).flag F.ALT_CTL_EN = true ∧ (working 1 : State).alt.round = none ∧ (working 1 : State).fleetStopped = false ∧ (working 1 : State).flag F.ALT_STAT_NO_LMK = false) ∧
    ((inRound : State).lanesRun = true ∧ ((inRound : State).alt.now.any (fun f => (inRound : State).laneSf == f + 1) = true ∨ (0 < (inRound : State).alt.sinceRound ∧ (inRound : State).alt.sinceRound % orOne ((inRound : State).fld F.ALT_CTL_ROUND_SF) = 0)) ∧ (inRound : State).laneEpoch + 8 * oneMs ≤ (inRound : State).laneNow ∧ (inRound : State).flag F.ALT_CTL_EN = true ∧ (inRound : State).alt.round = some (emptyRound 0 : Round)) ∧
    ((altUp.setFld F.STP_STAT_STOPPED 1 : State).lanesRun = true ∧ ((altUp.setFld F.STP_STAT_STOPPED 1 : State).alt.now.any (fun f => (altUp.setFld F.STP_STAT_STOPPED 1 : State).laneSf == f + 1) = true ∨ (0 < (altUp.setFld F.STP_STAT_STOPPED 1 : State).alt.sinceRound ∧ (altUp.setFld F.STP_STAT_STOPPED 1 : State).alt.sinceRound % orOne ((altUp.setFld F.STP_STAT_STOPPED 1 : State).fld F.ALT_CTL_ROUND_SF) = 0)) ∧ (altUp.setFld F.STP_STAT_STOPPED 1 : State).laneEpoch + 8 * oneMs ≤ (altUp.setFld F.STP_STAT_STOPPED 1 : State).laneNow ∧ (altUp.setFld F.STP_STAT_STOPPED 1 : State).flag F.ALT_CTL_EN = true ∧ (altUp.setFld F.STP_STAT_STOPPED 1 : State).alt.round = none ∧ ((altUp.setFld F.STP_STAT_STOPPED 1 : State).fleetStopped = true ∨ (altUp.setFld F.STP_STAT_STOPPED 1 : State).flag F.ALT_STAT_NO_LMK = true)) ∧
    ((roundNow : State).lanesRun = true ∧ (roundNow : State).alt.round = some (emptyRound inRound.laneEl : Round) ∧ (roundNow : State).fld (F.ARB_PWR_REQ_GRANT 1) ≠ 0 ∧ (roundNow : State).laneEl ≤ (emptyRound inRound.laneEl : Round).at_ + max 50 ((roundNow : State).fld F.ALT_ROUND_ROUND_MAX) * oneMs) ∧
    ((inRound : State).lanesRun = true ∧ (inRound : State).alt.round = some (emptyRound 0 : Round) ∧ (emptyRound 0 : Round).at_ + max 50 ((inRound : State).fld F.ALT_ROUND_ROUND_MAX) * oneMs ≤ (inRound : State).laneEl) :=
  by and_intros <;> decide +kernel

set_option maxRecDepth 100000 in
/-- Operands that meet the hypotheses of AllotmentRoundsAndRoutesComplete, part 2. -/
theorem test_hyp_AllotmentRoundsAndRoutesComplete_2 :
    ((driving 0 : State).lanesRun = true ∧ (driving 0 : State).gated 0x12 = false ∧ (driving 0 : State).searchOf (3 : Fin 128).val false = some ((7 : Nat), (0 : Nat), (2 : Nat), (false : Bool)) ∧ (driving 0 : State).sbx.map = some (yard : SiteMap) ∧ (driving 0 : State).shortest (yard : SiteMap) (3 : Fin 128).val (0 : Nat) (2 : Nat) ≠ none ∧ (driving 0 : State).isShortest (yard : SiteMap) (3 : Fin 128).val (0 : Nat) (2 : Nat) ([0, 1, 2] : List Nat) = true ∧ ([0, 1, 2] : List Nat).length ≤ 512) ∧
    ((((driving 0 |> fun t => { t with sbx := { t.sbx with map := some { yard with zones := [(0, 0)] } } }) : State).lanesRun = true) ∧ (((driving 0 |> fun t => { t with sbx := { t.sbx with map := some { yard with zones := [(0, 0)] } } }) : State).gated 0x12 = false) ∧ (((driving 0 |> fun t => { t with sbx := { t.sbx with map := some { yard with zones := [(0, 0)] } } }) : State).searchOf (3 : Fin 128).val false = some ((7 : Nat), (0 : Nat), (2 : Nat), (false : Bool))) ∧ (((driving 0 |> fun t => { t with sbx := { t.sbx with map := some { yard with zones := [(0, 0)] } } }) : State).sbx.map = some ({ yard with zones := [(0, 0)] } : SiteMap)) ∧ (((driving 0 |> fun t => { t with sbx := { t.sbx with map := some { yard with zones := [(0, 0)] } } }) : State).shortest ({ yard with zones := [(0, 0)] } : SiteMap) (3 : Fin 128).val (0 : Nat) (2 : Nat) = none) ∧ (false : Bool) = false) ∧
    ((driving 1 : State).lanesRun = true ∧ (driving 1 : State).gated 0x12 = false ∧ (driving 1 : State).searchOf (3 : Fin 128).val true = some ((7 : Nat), (0 : Nat), (2 : Nat), (false : Bool)) ∧ (driving 1 : State).sbx.map = some (yard : SiteMap) ∧ (driving 1 : State).shortest (yard : SiteMap) (3 : Fin 128).val (0 : Nat) (2 : Nat) ≠ none ∧ (driving 1 : State).isShortest (yard : SiteMap) (3 : Fin 128).val (0 : Nat) (2 : Nat) ([0, 1, 2] : List Nat) = true ∧ ([0, 1, 2] : List Nat).length ≤ 512) ∧
    ((((driving 1 |> fun t => { t with sbx := { t.sbx with map := some { yard with zones := [(0, 0)] } } }) : State).lanesRun = true) ∧ (((driving 1 |> fun t => { t with sbx := { t.sbx with map := some { yard with zones := [(0, 0)] } } }) : State).gated 0x12 = false) ∧ (((driving 1 |> fun t => { t with sbx := { t.sbx with map := some { yard with zones := [(0, 0)] } } }) : State).searchOf (3 : Fin 128).val true = some ((7 : Nat), (0 : Nat), (2 : Nat), (false : Bool))) ∧ (((driving 1 |> fun t => { t with sbx := { t.sbx with map := some { yard with zones := [(0, 0)] } } }) : State).sbx.map = some ({ yard with zones := [(0, 0)] } : SiteMap)) ∧ (((driving 1 |> fun t => { t with sbx := { t.sbx with map := some { yard with zones := [(0, 0)] } } }) : State).shortest ({ yard with zones := [(0, 0)] } : SiteMap) (3 : Fin 128).val (0 : Nat) (2 : Nat) = none) ∧ (false : Bool) = false) ∧
    ((rerouting : State).lanesRun = true ∧ (rerouting : State).gated 0x12 = false ∧ ((3 : Fin 128).val, (0 : Nat)) ∈ (rerouting : State).alt.reroute ∧ (0 : Nat) < (rerouting : State).laneSf ∧ (rerouting : State).current (3 : Fin 128).val = some (7 : Nat) ∧ (rerouting : State).currentBlock (3 : Fin 128).val = some (0 : Nat) ∧ (rerouting : State).sbx.map = some (yard : SiteMap) ∧ (((rerouting : State).task (7 : Nat)).state = 3 ∨ ((rerouting : State).task (7 : Nat)).state = 5) ∧ (2 : Nat) = (if ((rerouting : State).task (7 : Nat)).state = 3 then ((rerouting : State).task (7 : Nat)).origin else ((rerouting : State).task (7 : Nat)).dest) ∧ (rerouting : State).shortest (yard : SiteMap) (3 : Fin 128).val (0 : Nat) (2 : Nat) ≠ none ∧ (rerouting : State).isShortest (yard : SiteMap) (3 : Fin 128).val (0 : Nat) (2 : Nat) ([0, 1, 2] : List Nat) = true ∧ ([0, 1, 2] : List Nat).length ≤ 512) :=
  by and_intros <;> decide +kernel

set_option maxRecDepth 100000 in
/-- Operands that meet the hypotheses of AllotmentRoundsAndRoutesComplete, part 3. -/
theorem test_hyp_AllotmentRoundsAndRoutesComplete_3 :
    ((3 : Nat) ∈ (working 2 : State).boundSlots ∧ (working 2 : State).proposed (3 : Nat) = some (7 : Nat)) ∧
    ((loading 9 0 : State).lanesRun = true ∧ (loading 9 0 : State).alt.lmkLoad = some ((64 : Nat), (32 : Nat)) ∧ (lmkImage : List Byte) = bytesAt (loading 9 0 : State).dram (64 : Nat) (32 : Nat) ∧ (loading 9 0 : State).parseLandmarks (lmkImage : List Byte) = some (⟨9, 1, 3, [0, 0, 0]⟩ : Landmarks) ∧ (loading 9 0 : State).sbx.map.map (·.id) = some (⟨9, 1, 3, [0, 0, 0]⟩ : Landmarks).mapId) ∧
    ((loading 8 0 : State).lanesRun = true ∧ (loading 8 0 : State).alt.lmkLoad = some ((64 : Nat), (32 : Nat)) ∧ (lmkImage : List Byte) = bytesAt (loading 8 0 : State).dram (64 : Nat) (32 : Nat) ∧ (loading 8 0 : State).parseLandmarks (lmkImage : List Byte) = some (⟨9, 1, 3, [0, 0, 0]⟩ : Landmarks) ∧ (loading 8 0 : State).sbx.map.map (·.id) ≠ some (⟨9, 1, 3, [0, 0, 0]⟩ : Landmarks).mapId) ∧
    ((loading 9 4 : State).lanesRun = true ∧ (loading 9 4 : State).alt.lmkLoad = some ((68 : Nat), (32 : Nat)) ∧ (bytesAt (loading 9 4).dram 68 32 : List Byte) = bytesAt (loading 9 4 : State).dram (68 : Nat) (32 : Nat) ∧ (loading 9 4 : State).parseLandmarks (bytesAt (loading 9 4).dram 68 32 : List Byte) = none) :=
  by and_intros <;> decide +kernel

set_option maxRecDepth 100000 in
/-- Operands that meet the hypotheses of AuctionAssignsPermittedColumnsOnce. -/
theorem test_hyp_AuctionAssignsPermittedColumnsOnce :
    ((0 : Nat) ≠ (1 : Nat) ∧ (auction (1 : Nat) ([[some 5], [some 3]] : List (List (Option Int))) (1 : Nat))[(0 : Nat)]? = some (some (0 : Nat))) ∧
    ((auction (1 : Nat) ([[some 5], [some 3]] : List (List (Option Int))) (1 : Nat))[(0 : Nat)]? = some (some (0 : Nat))) :=
  by and_intros <;> decide +kernel

set_option maxRecDepth 100000 in
/-- Operands that meet the hypotheses of AllotmentCommandsComplete, part 1. -/
theorem test_hyp_AllotmentCommandsComplete_1 :
    ((altUp : State).takes (c0 ([0, 0, 1, 5, 0, 0, 0, 0, 2, 0] ++ bytes 22 0) : Cmd) opAltTaskAdd = true ∧ (c0 ([0, 0, 1, 5, 0, 0, 0, 0, 2, 0] ++ bytes 22 0) : Cmd).payload.length = 32 ∧ rdN (c0 ([0, 0, 1, 5, 0, 0, 0, 0, 2, 0] ++ bytes 22 0) : Cmd).payload 2 1 ≤ 5 ∧ rdN (c0 ([0, 0, 1, 5, 0, 0, 0, 0, 2, 0] ++ bytes 22 0) : Cmd).payload 3 1 ≤ 7 ∧ taskBlockOk (rdN (c0 ([0, 0, 1, 5, 0, 0, 0, 0, 2, 0] ++ bytes 22 0) : Cmd).payload 6 2) = true ∧ taskBlockOk (rdN (c0 ([0, 0, 1, 5, 0, 0, 0, 0, 2, 0] ++ bytes 22 0) : Cmd).payload 8 2) = true ∧ (rdN (c0 ([0, 0, 1, 5, 0, 0, 0, 0, 2, 0] ++ bytes 22 0) : Cmd).payload 8 2 ≠ noBlock ∨ rdN (c0 ([0, 0, 1, 5, 0, 0, 0, 0, 2, 0] ++ bytes 22 0) : Cmd).payload 2 1 = tyCharge) ∧ (altUp : State).freeTask = some (0 : Nat)) ∧
    ((working 5 : State).takes (c0 [7, 0, 0, 0] : Cmd) opAltTaskCancel = true ∧ (c0 [7, 0, 0, 0] : Cmd).payload.length = 4 ∧ (rdN (c0 [7, 0, 0, 0] : Cmd).payload 0 2) ≤ 4095 ∧ rdN (c0 [7, 0, 0, 0] : Cmd).payload 2 1 = 0 ∧ ((working 5 : State).task (rdN (c0 [7, 0, 0, 0] : Cmd).payload 0 2)).state ≠ 0) ∧
    ((working 4 : State).takes (c0 [7, 0, 1, 0] : Cmd) opAltTaskCancel = true ∧ (c0 [7, 0, 1, 0] : Cmd).payload.length = 4 ∧ (rdN (c0 [7, 0, 1, 0] : Cmd).payload 0 2) ≤ 4095 ∧ rdN (c0 [7, 0, 1, 0] : Cmd).payload 2 1 = 1 ∧ ((working 4 : State).task (rdN (c0 [7, 0, 1, 0] : Cmd).payload 0 2)).state = 4) ∧
    ((working 6 : State).takes (c0 [7, 0, 1, 0] : Cmd) opAltTaskCancel = true ∧ (c0 [7, 0, 1, 0] : Cmd).payload.length = 4 ∧ (rdN (c0 [7, 0, 1, 0] : Cmd).payload 0 2) ≤ 4095 ∧ rdN (c0 [7, 0, 1, 0] : Cmd).payload 2 1 = 1 ∧ ((working 6 : State).task (rdN (c0 [7, 0, 1, 0] : Cmd).payload 0 2)).state = 6 ∧ ((working 6 : State).task (rdN (c0 [7, 0, 1, 0] : Cmd).payload 0 2)).type ≠ tyPark) ∧
    ((working 5 : State).takes (c0 [7, 0, 1, 0] : Cmd) opAltTaskCancel = true ∧ (c0 [7, 0, 1, 0] : Cmd).payload.length = 4 ∧ (rdN (c0 [7, 0, 1, 0] : Cmd).payload 0 2) ≤ 4095 ∧ rdN (c0 [7, 0, 1, 0] : Cmd).payload 2 1 ≤ 1 ∧ (((working 5 : State).task (rdN (c0 [7, 0, 1, 0] : Cmd).payload 0 2)).state = 0 ∨ (rdN (c0 [7, 0, 1, 0] : Cmd).payload 2 1 = 1 ∧ ((working 5 : State).task (rdN (c0 [7, 0, 1, 0] : Cmd).payload 0 2)).state ≠ 4 ∧ (((working 5 : State).task (rdN (c0 [7, 0, 1, 0] : Cmd).payload 0 2)).state ≠ 6 ∨ ((working 5 : State).task (rdN (c0 [7, 0, 1, 0] : Cmd).payload 0 2)).type = tyPark)))) :=
  by and_intros <;> decide +kernel

set_option maxRecDepth 100000 in
/-- Operands that meet the hypotheses of AllotmentCommandsComplete, part 2. -/
theorem test_hyp_AllotmentCommandsComplete_2 :
    ((working 5 : State).takes (c0 [7, 0, 1, 0] : Cmd) opAltTaskGet = true ∧ (c0 [7, 0, 1, 0] : Cmd).payload.length = 4 ∧ rdN (c0 [7, 0, 1, 0] : Cmd).payload 2 1 ≠ 0 ∧ rdN (c0 [7, 0, 1, 0] : Cmd).payload 2 1 ≤ 40 ∧ (rdN (c0 [7, 0, 1, 0] : Cmd).payload 0 2) + rdN (c0 [7, 0, 1, 0] : Cmd).payload 2 1 ≤ 4096) ∧
    ((altUp : State).takes (c0 (le 4 64 ++ le 4 32) : Cmd) opAltLandmarksLoad = true ∧ (c0 (le 4 64 ++ le 4 32) : Cmd).payload.length = 8 ∧ rdN (c0 (le 4 64 ++ le 4 32) : Cmd).payload 0 4 % 4 = 0 ∧ rdN (c0 (le 4 64 ++ le 4 32) : Cmd).payload 0 4 + rdN (c0 (le 4 64 ++ le 4 32) : Cmd).payload 4 4 ≤ 0x08000000) ∧
    ((altUp : State).takes (c0 [0, 0, 0, 0] : Cmd) opAltRoundNow = true ∧ (c0 [0, 0, 0, 0] : Cmd).payload.length = 4) :=
  by and_intros <;> decide +kernel

set_option maxRecDepth 100000 in
/-- Operands that meet the hypotheses of TimetablerCommitsAndProfilesComplete, part 1. -/
theorem test_hyp_TimetablerCommitsAndProfilesComplete_1 :
    ((jobs [job none] : State).lanesRun = true ∧ (jobs [job none] : State).ttb.jobs = (job none : Job) :: ([] : List Job) ∧ (job none : Job).profiled = true ∧ (job none : Job).planned ≠ some (jobs [job none] : State).nextCommit ∧ (jobs [job none] : State).noWords (job none : Job).slot = 0 ∧ (jobs [job none] : State).sbx.map = some (yard : SiteMap)) ∧
    (((jobs [job none]).setFld F.TTB_CTL_EN 0 : State).lanesRun = true ∧ ((jobs [job none]).setFld F.TTB_CTL_EN 0 : State).ttb.jobs = (job none : Job) :: ([] : List Job) ∧ (job none : Job).profiled = true ∧ (job none : Job).planned ≠ some ((jobs [job none]).setFld F.TTB_CTL_EN 0 : State).nextCommit ∧ (((jobs [job none]).setFld F.TTB_CTL_EN 0 : State).noWords (job none : Job).slot ≠ 0 ∨ ((jobs [job none]).setFld F.TTB_CTL_EN 0 : State).sbx.map = none)) ∧
    ((jobs [] : State).lanesRun = true ∧ ((jobs [] : State).ttb.jobs.all (fun j => !(j.profiled && j.planned != some (jobs [] : State).nextCommit)) = true)) ∧
    ((committing : State).lanesRun = true ∧ (committing.t0 + 14 * oneMs : Nat) = (committing : State).t0At (committing : State).laneSf + 14 * oneMs ∧ (committing.t0 + 14 * oneMs : Nat) ≤ (committing : State).laneNow ∧ (committing : State).ttb.commitAt < (committing.t0 + 14 * oneMs : Nat)) ∧
    ((committing : State).lanesRun = true ∧ (committing.t0 + 14 * oneMs : Nat) = (committing : State).t0At (committing : State).laneSf + 14 * oneMs ∧ (committing.t0 + 14 * oneMs : Nat) ≤ (committing : State).laneNow ∧ (committing : State).ttb.commitAt < (committing.t0 + 14 * oneMs : Nat) ∧ (committing : State).ttb.jobs = [(job (some (atCommit.t0 + 14 * oneMs)) : Job)] ∧ (job (some (atCommit.t0 + 14 * oneMs)) : Job).preview = false ∧ ((job (some (atCommit.t0 + 14 * oneMs)) : Job).auth.revoked = true ∨ (job (some (atCommit.t0 + 14 * oneMs)) : Job).planned = some (committing.t0 + 14 * oneMs : Nat)) ∧ (committing : State).flag F.UPD_STAT_HOLD = false ∧ ((committing : State).sx (job (some (atCommit.t0 + 14 * oneMs)) : Job).slot).auth = some (auth1 none : Auth) ∧ (auth1 none : Auth).id = (job (some (atCommit.t0 + 14 * oneMs)) : Job).auth.id ∧ (auth1 none : Auth).expiry = none ∧ (job (some (atCommit.t0 + 14 * oneMs)) : Job).auth.expiry = none) :=
  by and_intros <;> decide +kernel

set_option maxRecDepth 100000 in
/-- Operands that meet the hypotheses of TimetablerCommitsAndProfilesComplete, part 2. -/
theorem test_hyp_TimetablerCommitsAndProfilesComplete_2 :
    ((ttbUp.setProf 3 { state := 1, words := [3], pw := 50 } : State).lanesRun = true ∧ ((ttbUp.setProf 3 { state := 1, words := [3], pw := 50 } : State).prof (3 : Fin 128).val).state = 1 ∧ ((ttbUp.setProf 3 { state := 1, words := [3], pw := 50 } : State).prof (3 : Fin 128).val).tRef + (orOne ((ttbUp.setProf 3 { state := 1, words := [3], pw := 50 } : State).prof (3 : Fin 128).val).pw * oneMs) ≤ (ttbUp.setProf 3 { state := 1, words := [3], pw := 50 } : State).laneNow ∧ ((ttbUp.setProf 3 { state := 1, words := [3], pw := 50 } : State).prof (3 : Fin 128).val).words.length ≤ ((ttbUp.setProf 3 { state := 1, words := [3], pw := 50 } : State).laneNow - ((ttbUp.setProf 3 { state := 1, words := [3], pw := 50 } : State).prof (3 : Fin 128).val).t1) / (orOne ((ttbUp.setProf 3 { state := 1, words := [3], pw := 50 } : State).prof (3 : Fin 128).val).pw * oneMs)) ∧
    ((ttbUp.setProf 3 { state := 1, words := [3, 4], pw := 50, t1 := ttbUp.now - 60000000 } : State).lanesRun = true ∧ ((ttbUp.setProf 3 { state := 1, words := [3, 4], pw := 50, t1 := ttbUp.now - 60000000 } : State).prof (3 : Fin 128).val).state = 1 ∧ ((ttbUp.setProf 3 { state := 1, words := [3, 4], pw := 50, t1 := ttbUp.now - 60000000 } : State).prof (3 : Fin 128).val).tRef + (orOne ((ttbUp.setProf 3 { state := 1, words := [3, 4], pw := 50, t1 := ttbUp.now - 60000000 } : State).prof (3 : Fin 128).val).pw * oneMs) ≤ (ttbUp.setProf 3 { state := 1, words := [3, 4], pw := 50, t1 := ttbUp.now - 60000000 } : State).laneNow ∧ (1 : Nat) = ((ttbUp.setProf 3 { state := 1, words := [3, 4], pw := 50, t1 := ttbUp.now - 60000000 } : State).laneNow - ((ttbUp.setProf 3 { state := 1, words := [3, 4], pw := 50, t1 := ttbUp.now - 60000000 } : State).prof (3 : Fin 128).val).t1) / (orOne ((ttbUp.setProf 3 { state := 1, words := [3, 4], pw := 50, t1 := ttbUp.now - 60000000 } : State).prof (3 : Fin 128).val).pw * oneMs) ∧ (1 : Nat) < ((ttbUp.setProf 3 { state := 1, words := [3, 4], pw := 50, t1 := ttbUp.now - 60000000 } : State).prof (3 : Fin 128).val).words.length) ∧
    ((ttbUp : State).takes (c0 (le 4 64 ++ le 4 532) : Cmd) opTtbCamStage = true ∧ (c0 (le 4 64 ++ le 4 532) : Cmd).payload.length = 8 ∧ rdN (c0 (le 4 64 ++ le 4 532) : Cmd).payload 0 4 % 4 = 0 ∧ rdN (c0 (le 4 64 ++ le 4 532) : Cmd).payload 0 4 + rdN (c0 (le 4 64 ++ le 4 532) : Cmd).payload 4 4 ≤ 0x08000000) ∧
    ((stagingCam 0 : State).lanesRun = true ∧ (stagingCam 0 : State).ttb.staging = some ((64 : Nat), (532 : Nat)) ∧ (camImage : List Byte) = bytesAt (stagingCam 0 : State).dram (64 : Nat) (532 : Nat) ∧ checkCam (camImage : List Byte) (stagingCam 0 : State).camVersion = none) ∧
    ((stagingCam 16 : State).lanesRun = true ∧ (stagingCam 16 : State).ttb.staging = some ((80 : Nat), (16 : Nat)) ∧ (bytesAt (stagingCam 16).dram 80 16 : List Byte) = bytesAt (stagingCam 16 : State).dram (80 : Nat) (16 : Nat) ∧ checkCam (bytesAt (stagingCam 16).dram 80 16 : List Byte) (stagingCam 16 : State).camVersion = some ((1 : Nat), (0 : Nat))) :=
  by and_intros <;> decide +kernel

set_option maxRecDepth 100000 in
/-- Operands that meet the hypotheses of TimetablerCommitsAndProfilesComplete, part 3. -/
theorem test_hyp_TimetablerCommitsAndProfilesComplete_3 :
    ((stagedCam : State).takes (c0 [2, 0, 0, 0] : Cmd) opTtbCamActivate = true ∧ (c0 [2, 0, 0, 0] : Cmd).payload.length = 4 ∧ (stagedCam : State).ttb.staged = some (⟨2, [0]⟩ : Cam) ∧ (⟨2, [0]⟩ : Cam).version = rdN (c0 [2, 0, 0, 0] : Cmd).payload 0 2 ∧ (stagedCam : State).fleetHeld = true) ∧
    ((ttbUp : State).takes (c0 (bytes 16 0) : Cmd) opTtbSetLimits = true ∧ (c0 (bytes 16 0) : Cmd).payload.length = 16 ∧ rdN (c0 (bytes 16 0) : Cmd).payload 1 1 ≤ 7 ∧ rdN (c0 (bytes 16 0) : Cmd).payload 0 1 = 0 ∧ (ttbUp : State).ttbClass (rdN (c0 (bytes 16 0) : Cmd).payload 1 1) = ({} : TtbClass)) ∧
    ((ttbUp : State).takes (c0 ([1, 2, 0, 0] ++ le 2 2000 ++ le 2 400 ++ le 2 700 ++ le 2 1500 ++ le 2 900 ++ [0, 0]) : Cmd) opTtbSetLimits = true ∧ (c0 ([1, 2, 0, 0] ++ le 2 2000 ++ le 2 400 ++ le 2 700 ++ le 2 1500 ++ le 2 900 ++ [0, 0]) : Cmd).payload.length = 16 ∧ rdN (c0 ([1, 2, 0, 0] ++ le 2 2000 ++ le 2 400 ++ le 2 700 ++ le 2 1500 ++ le 2 900 ++ [0, 0]) : Cmd).payload 1 1 ≤ 7 ∧ rdN (c0 ([1, 2, 0, 0] ++ le 2 2000 ++ le 2 400 ++ le 2 700 ++ le 2 1500 ++ le 2 900 ++ [0, 0]) : Cmd).payload 0 1 = 1 ∧ (⟨2000, 400, 700, 1500, 900⟩ : TtbClass) = ⟨rdN (c0 ([1, 2, 0, 0] ++ le 2 2000 ++ le 2 400 ++ le 2 700 ++ le 2 1500 ++ le 2 900 ++ [0, 0]) : Cmd).payload 4 2, rdN (c0 ([1, 2, 0, 0] ++ le 2 2000 ++ le 2 400 ++ le 2 700 ++ le 2 1500 ++ le 2 900 ++ [0, 0]) : Cmd).payload 6 2, rdN (c0 ([1, 2, 0, 0] ++ le 2 2000 ++ le 2 400 ++ le 2 700 ++ le 2 1500 ++ le 2 900 ++ [0, 0]) : Cmd).payload 8 2, rdN (c0 ([1, 2, 0, 0] ++ le 2 2000 ++ le 2 400 ++ le 2 700 ++ le 2 1500 ++ le 2 900 ++ [0, 0]) : Cmd).payload 10 2, rdN (c0 ([1, 2, 0, 0] ++ le 2 2000 ++ le 2 400 ++ le 2 700 ++ le 2 1500 ++ le 2 900 ++ [0, 0]) : Cmd).payload 12 2⟩ ∧ (⟨2000, 400, 700, 1500, 900⟩ : TtbClass).ok = true) ∧
    ((ttbUp : State).takes (c0 ([2, 4, 3] ++ bytes 13 0) : Cmd) opTtbSetLimits = true ∧ (c0 ([2, 4, 3] ++ bytes 13 0) : Cmd).payload.length = 16 ∧ rdN (c0 ([2, 4, 3] ++ bytes 13 0) : Cmd).payload 1 1 ≤ 7 ∧ rdN (c0 ([2, 4, 3] ++ bytes 13 0) : Cmd).payload 0 1 = 2 ∧ rdN (c0 ([2, 4, 3] ++ bytes 13 0) : Cmd).payload 2 1 ≤ 127 ∧ (ttbUp : State).ttbClass (rdN (c0 ([2, 4, 3] ++ bytes 13 0) : Cmd).payload 1 1) = ({} : TtbClass)) ∧
    ((ttbUp.setFld F.STP_STAT_STOPPED 1 : State).takes (c0 ([3, 4, 3, 40] ++ bytes 12 0) : Cmd) opTtbSetLimits = true ∧ (c0 ([3, 4, 3, 40] ++ bytes 12 0) : Cmd).payload.length = 16 ∧ rdN (c0 ([3, 4, 3, 40] ++ bytes 12 0) : Cmd).payload 1 1 ≤ 7 ∧ rdN (c0 ([3, 4, 3, 40] ++ bytes 12 0) : Cmd).payload 0 1 = 3 ∧ 10 ≤ rdN (c0 ([3, 4, 3, 40] ++ bytes 12 0) : Cmd).payload 3 1 ∧ rdN (c0 ([3, 4, 3, 40] ++ bytes 12 0) : Cmd).payload 3 1 ≤ 250 ∧ (ttbUp.setFld F.STP_STAT_STOPPED 1 : State).fleetHeld = true ∧ (ttbUp.setFld F.STP_STAT_STOPPED 1 : State).ttbClass (rdN (c0 ([3, 4, 3, 40] ++ bytes 12 0) : Cmd).payload 1 1) = ({} : TtbClass)) :=
  by and_intros <;> decide +kernel

set_option maxRecDepth 100000 in
/-- Operands that meet the hypotheses of TimetablerCommitsAndProfilesComplete, part 4. -/
theorem test_hyp_TimetablerCommitsAndProfilesComplete_4 :
    ((ttbUp.setProf 3 { state := 1, words := [3, 4], npw := 2 } : State).takes (c0 [3, 0, 0, 0] : Cmd) opTtbGetProfile = true ∧ (c0 [3, 0, 0, 0] : Cmd).payload.length = 4 ∧ rdN (c0 [3, 0, 0, 0] : Cmd).payload 0 1 ≤ 127) :=
  by decide +kernel

set_option maxRecDepth 100000 in
/-- Operands that meet the hypotheses of TimetablerPlansKeepTheirLimits. -/
theorem test_hyp_TimetablerPlansKeepTheirLimits :
    ((planOf : PlanLimits).sharp = false ∧ 0 ≤ (planOf : PlanLimits).amax ∧ 0 ≤ (planOf : PlanLimits).dmax ∧ 0 ≤ (planOf : PlanLimits).jmax ∧ -(planOf : PlanLimits).dmax ≤ (⟨0, 4000000, 100000⟩ : Motion).a ∧ (⟨0, 4000000, 100000⟩ : Motion).a ≤ (planOf : PlanLimits).amax) ∧
    ((planOf : PlanLimits).stops (5000 : Nat) (3 : Nat) (⟨0, 4000000, 100000⟩ : Motion) = true ∧ ((planOf : PlanLimits).trace (4 : Nat) (3 : Nat) (⟨0, 4000000, 100000⟩ : Motion))[(2 : Nat)]? = some ((planOf.trace 4 3 ⟨0, 4000000, 100000⟩).getD 2 ⟨0, 0, 0⟩ : Motion)) :=
  by and_intros <;> decide +kernel

set_option maxRecDepth 100000 in
/-- Operands that meet the hypotheses of SuperframesAndDownlinksComplete, part 1. -/
theorem test_hyp_SuperframesAndDownlinksComplete_1 :
    (({ radUp with rad := { radUp.rad with t0 := none } } : State).serving = true ∧ ({ radUp with rad := { radUp.rad with t0 := none } } : State).rad.t0 ≠ some ({ radUp with rad := { radUp.rad with t0 := none } } : State).t0) ∧
    (({ radUp with time := { radUp.time with ext := (radUp.t0 + 100) * 2 ^ 32 } } : State).serving = true ∧ ({ radUp with time := { radUp.time with ext := (radUp.t0 + 100) * 2 ^ 32 } } : State).mayTx (0 : Fin 4).val = true ∧ ({ radUp with time := { radUp.time with ext := (radUp.t0 + 100) * 2 ^ 32 } } : State).flag (F.RAD_P_STAT_FAULT (0 : Fin 4).val) = false ∧ ({ radUp with time := { radUp.time with ext := (radUp.t0 + 100) * 2 ^ 32 } } : State).flag (F.RAD_P_STAT_UP (0 : Fin 4).val) = false ∧ ({ radUp with time := { radUp.time with ext := (radUp.t0 + 100) * 2 ^ 32 } } : State).now < ({ radUp with time := { radUp.time with ext := (radUp.t0 + 100) * 2 ^ 32 } } : State).t0 + 312500) ∧
    ((radUp : State).frame = some ((radF : Nat), (radUp.t0 : Nat)) ∧ ((radUp : State).bound (3 : Fin 128).val).bound = true ∧ ((radUp : State).bound (3 : Fin 128).val).lost = false ∧ ((radUp : State).bound (3 : Fin 128).val).downF ≠ some (radF : Nat) ∧ (radUp : State).awake (3 : Fin 128).val (radF : Nat) = true ∧ slotAt (radUp.t0 : Nat) ((radUp : State).bound (3 : Fin 128).val).dn.1 ≤ (radUp : State).now ∧ (radUp : State).mayTx ((radUp : State).bound (3 : Fin 128).val).port = true ∧ (radUp : State).laneActive = true ∧ (radUp : State).serving = true ∧ (radUp : State).fld F.TIM_STAT_STATE ≠ 0 ∧ ((radUp : State).bound (3 : Fin 128).val).move = none ∧ (radUp : State).rad.pend = none ∧ (radUp : State).switching = false ∧ ((([⟨2, false, 4, [1, 2, 3]⟩], []) : List Section × List Section) = fitSections (runCapacity ((radUp : State).fld (F.RAD_P_CFG_RATE ((radUp : State).bound (3 : Fin 128).val).port)) ((radUp : State).bound (3 : Fin 128).val).dn.2 - (28 + if ((radUp : State).bound (3 : Fin 128).val).hops = 0 then 0 else 4)) (sortBy (fun u v : Section => decide (u.cls < v.cls)) (((radUp : State).bound (3 : Fin 128).val).sections.filter fun y => y.preview || !(radUp : State).flag (F.RAD_P_STAT_FAULT ((radUp : State).bound (3 : Fin 128).val).port))))) ∧
    ((radMove : State).frame = some ((radF : Nat), (radUp.t0 : Nat)) ∧ ((radMove : State).bound (3 : Fin 128).val).bound = true ∧ ((radMove : State).bound (3 : Fin 128).val).lost = false ∧ ((radMove : State).bound (3 : Fin 128).val).downF ≠ some (radF : Nat) ∧ (radMove : State).awake (3 : Fin 128).val (radF : Nat) = true ∧ slotAt (radUp.t0 : Nat) ((radMove : State).bound (3 : Fin 128).val).dn.1 ≤ (radMove : State).now ∧ (radMove : State).mayTx ((radMove : State).bound (3 : Fin 128).val).port = true ∧ (radMove : State).laneActive = true ∧ (radMove : State).serving = true ∧ (radMove : State).fld F.TIM_STAT_STATE ≠ 0 ∧ ((radMove : State).bound (3 : Fin 128).val).move = some (⟨1, (20, 3), (100, 1), 0, false⟩ : Move) ∧ (radMove : State).switching = false) ∧
    ((radPend 0 : State).frame = some ((radF : Nat), (radUp.t0 : Nat)) ∧ ((radPend 0 : State).bound (3 : Fin 128).val).bound = true ∧ ((radPend 0 : State).bound (3 : Fin 128).val).lost = false ∧ ((radPend 0 : State).bound (3 : Fin 128).val).downF ≠ some (radF : Nat) ∧ (radPend 0 : State).awake (3 : Fin 128).val (radF : Nat) = true ∧ slotAt (radUp.t0 : Nat) ((radPend 0 : State).bound (3 : Fin 128).val).dn.1 ≤ (radPend 0 : State).now ∧ (radPend 0 : State).mayTx ((radPend 0 : State).bound (3 : Fin 128).val).port = true ∧ (radPend 0 : State).laneActive = true ∧ (radPend 0 : State).serving = true ∧ (radPend 0 : State).fld F.TIM_STAT_STATE ≠ 0 ∧ ((radPend 0 : State).bound (3 : Fin 128).val).move = none ∧ (radPend 0 : State).switching = false ∧ (radPend 0 : State).rad.pend = some (pendTab 0 : PendTables) ∧ (((48, 1), (97, 1)) : (Nat × Nat) × (Nat × Nat)) = Tbl.get (((radPend 0 : State).bound (3 : Fin 128).val).dn, ((radPend 0 : State).bound (3 : Fin 128).val).up) (pendTab 0 : PendTables).runs (3 : Fin 128).val) :=
  by and_intros <;> decide +kernel

set_option maxRecDepth 100000 in
/-- Operands that meet the hypotheses of SuperframesAndDownlinksComplete, part 2. -/
theorem test_hyp_SuperframesAndDownlinksComplete_2 :
    ((({ radGrant 0 [] with snp := { (radGrant 0 []).snp with replies := [(3, [9, 9])] } } : State) : State).frame = some ((radF : Nat), (radUp.t0 : Nat)) ∧ (((({ radGrant 0 [] with snp := { (radGrant 0 []).snp with replies := [(3, [9, 9])] } } : State) : State).port (0 : Fin 4).val).grants.find? (fun z => z.kind == 0) = some (⟨5, 2, 3, 0⟩ : Grant)) ∧ slotAt (radUp.t0 : Nat) (⟨5, 2, 3, 0⟩ : Grant).start ≤ (({ radGrant 0 [] with snp := { (radGrant 0 []).snp with replies := [(3, [9, 9])] } } : State) : State).now ∧ (({ radGrant 0 [] with snp := { (radGrant 0 []).snp with replies := [(3, [9, 9])] } } : State) : State).serving = true ∧ (({ radGrant 0 [] with snp := { (radGrant 0 []).snp with replies := [(3, [9, 9])] } } : State) : State).mayTx (0 : Fin 4).val = true ∧ (({ radGrant 0 [] with snp := { (radGrant 0 []).snp with replies := [(3, [9, 9])] } } : State) : State).snp.replies = ((⟨5, 2, 3, 0⟩ : Grant).slot, ([9, 9] : List Byte)) :: ([] : List (Nat × List Byte))) ∧
    ((camSmall : State).frame = some ((radF : Nat), (radUp.t0 : Nat)) ∧ (((camSmall : State).port (0 : Fin 4).val).grants.find? (fun z => z.kind == 0) = some (⟨5, 2, 3, 0⟩ : Grant)) ∧ slotAt (radUp.t0 : Nat) (⟨5, 2, 3, 0⟩ : Grant).start ≤ (camSmall : State).now ∧ (camSmall : State).serving = true ∧ (camSmall : State).mayTx (0 : Fin 4).val = true ∧ ((camSmall : State).snp.replies.all (fun y => y.1 != (⟨5, 2, 3, 0⟩ : Grant).slot) = true) ∧ ((camSmall : State).bound (⟨5, 2, 3, 0⟩ : Grant).slot).camVer ≠ (camSmall : State).camVersion ∧ ((runCapacity (camSmall.fld (F.RAD_P_CFG_RATE 0)) 2 - 30) : Nat) = runCapacity ((camSmall : State).fld (F.RAD_P_CFG_RATE (0 : Fin 4).val)) (⟨5, 2, 3, 0⟩ : Grant).span - 30 ∧ (camSmall.camBytes 0 (runCapacity (camSmall.fld (F.RAD_P_CFG_RATE 0)) 2 - 30) : List Byte) = (camSmall : State).camBytes ((camSmall : State).bound (⟨5, 2, 3, 0⟩ : Grant).slot).camOff ((runCapacity (camSmall.fld (F.RAD_P_CFG_RATE 0)) 2 - 30) : Nat)) ∧
    ((radGrant 3 [⟨0, 88, 5, 1, 255, false⟩] : State).frame = some ((radF : Nat), (radUp.t0 : Nat)) ∧ (((radGrant 3 [⟨0, 88, 5, 1, 255, false⟩] : State).port (0 : Fin 4).val).grants.find? (fun z => z.kind == 3) = some (⟨5, 2, 3, 3⟩ : Grant)) ∧ slotAt (radUp.t0 : Nat) (⟨5, 2, 3, 3⟩ : Grant).start ≤ (radGrant 3 [⟨0, 88, 5, 1, 255, false⟩] : State).now ∧ (radGrant 3 [⟨0, 88, 5, 1, 255, false⟩] : State).serving = true ∧ (radGrant 3 [⟨0, 88, 5, 1, 255, false⟩] : State).mayTx (0 : Fin 4).val = true ∧ ((radGrant 3 [⟨0, 88, 5, 1, 255, false⟩] : State).port (0 : Fin 4).val).answers = (⟨0, 88, 5, 1, 255, false⟩ : Answer) :: ([] : List Answer) ∧ ((⟨0, 88, 5, 1, 255, false⟩ : Answer).result = 1 ∨ ((radGrant 3 [⟨0, 88, 5, 1, 255, false⟩] : State).bound (⟨0, 88, 5, 1, 255, false⟩ : Answer).slot).bound = false)) ∧
    ((radGrant 3 [⟨0, 77, 5, 0, 3, false⟩] : State).frame = some ((radF : Nat), (radUp.t0 : Nat)) ∧ (((radGrant 3 [⟨0, 77, 5, 0, 3, false⟩] : State).port (0 : Fin 4).val).grants.find? (fun z => z.kind == 3) = some (⟨5, 2, 3, 3⟩ : Grant)) ∧ slotAt (radUp.t0 : Nat) (⟨5, 2, 3, 3⟩ : Grant).start ≤ (radGrant 3 [⟨0, 77, 5, 0, 3, false⟩] : State).now ∧ (radGrant 3 [⟨0, 77, 5, 0, 3, false⟩] : State).serving = true ∧ (radGrant 3 [⟨0, 77, 5, 0, 3, false⟩] : State).mayTx (0 : Fin 4).val = true ∧ ((radGrant 3 [⟨0, 77, 5, 0, 3, false⟩] : State).port (0 : Fin 4).val).answers = (⟨0, 77, 5, 0, 3, false⟩ : Answer) :: ([] : List Answer) ∧ (⟨0, 77, 5, 0, 3, false⟩ : Answer).result ≠ 1 ∧ (radGrant 3 [⟨0, 77, 5, 0, 3, false⟩] : State).bound (⟨0, 77, 5, 0, 3, false⟩ : Answer).slot = (radBind : Binding) ∧ (radBind : Binding).bound = true) :=
  by and_intros <;> decide +kernel

set_option maxRecDepth 100000 in
/-- Operands that meet the hypotheses of UplinksTablesAndStopFramesComplete, part 1. -/
theorem test_hyp_UplinksTablesAndStopFramesComplete_1 :
    ((radUp : State).flag (F.RAD_P_CFG_EN (0 : Fin 4).val) = true ∧ (radUp : State).flag F.RAD_CTL_EN = true ∧ (radUp : State).flag (F.RAD_P_STAT_SLEEP (0 : Fin 4).val) = false ∧ (radUp : State).pwr.hubReady = true ∧ (radUp : State).rxFrame (air ftUP 2 3 upBody : List Byte) = some (airF ftUP 3 true upBody : RxFrame) ∧ (airF ftUP 3 true upBody : RxFrame).tagOk = true ∧ (airF ftUP 3 true upBody : RxFrame).ftype = ftUP ∧ (airF ftUP 3 true upBody : RxFrame).up = true ∧ ((radUp : State).bound (airF ftUP 3 true upBody : RxFrame).slot).bound = true ∧ 12 ≤ (airF ftUP 3 true upBody : RxFrame).body.length ∧ (airF ftUP 3 true upBody : RxFrame).flood = false ∧ (radUp : State).anyLane = true) ∧
    ((radUp : State).flag (F.RAD_P_CFG_EN (0 : Fin 4).val) = true ∧ (radUp : State).flag F.RAD_CTL_EN = true ∧ (radUp : State).flag (F.RAD_P_STAT_SLEEP (0 : Fin 4).val) = false ∧ (radUp : State).pwr.hubReady = true ∧ (radUp : State).rxFrame (air ftJOIN 2 3 joinBody : List Byte) = some (airF ftJOIN 3 true joinBody : RxFrame) ∧ (airF ftJOIN 3 true joinBody : RxFrame).tagOk = true ∧ (airF ftJOIN 3 true joinBody : RxFrame).ftype = ftJOIN ∧ (airF ftJOIN 3 true joinBody : RxFrame).body.length = 16 ∧ (radUp : State).flag F.RAD_CTL_JOIN_EN = true ∧ (radUp : State).fld F.TIM_STAT_STATE ≠ 0 ∧ (radUp : State).slotOf (rdN (airF ftJOIN 3 true joinBody : RxFrame).body 0 8) = some (3 : Nat)) ∧
    ((radIdle : State).flag (F.RAD_P_CFG_EN (0 : Fin 4).val) = true ∧ (radIdle : State).flag F.RAD_CTL_EN = true ∧ (radIdle : State).flag (F.RAD_P_STAT_SLEEP (0 : Fin 4).val) = false ∧ (radIdle : State).pwr.hubReady = true ∧ (radIdle : State).rxFrame (air ftJOIN 2 3 joinBody : List Byte) = some (airF ftJOIN 3 true joinBody : RxFrame) ∧ (airF ftJOIN 3 true joinBody : RxFrame).tagOk = true ∧ (airF ftJOIN 3 true joinBody : RxFrame).ftype = ftJOIN ∧ (airF ftJOIN 3 true joinBody : RxFrame).body.length = 16 ∧ (radIdle : State).flag F.RAD_CTL_JOIN_EN = true ∧ (radIdle : State).fld F.TIM_STAT_STATE ≠ 0 ∧ (radIdle : State).slotOf (rdN (airF ftJOIN 3 true joinBody : RxFrame).body 0 8) = none) ∧
    (({ radUp with time := { radUp.time with ext := (radUp.t0 + 60000000) * 2 ^ 32 } } : State).frame = some ((radF : Nat), (radUp.t0 : Nat)) ∧ (({ radUp with time := { radUp.time with ext := (radUp.t0 + 60000000) * 2 ^ 32 } } : State).bound (3 : Fin 128).val).bound = true ∧ (({ radUp with time := { radUp.time with ext := (radUp.t0 + 60000000) * 2 ^ 32 } } : State).bound (3 : Fin 128).val).joined = true ∧ (({ radUp with time := { radUp.time with ext := (radUp.t0 + 60000000) * 2 ^ 32 } } : State).bound (3 : Fin 128).val).lost = false ∧ (({ radUp with time := { radUp.time with ext := (radUp.t0 + 60000000) * 2 ^ 32 } } : State).bound (3 : Fin 128).val).heard = false ∧ (({ radUp with time := { radUp.time with ext := (radUp.t0 + 60000000) * 2 ^ 32 } } : State).bound (3 : Fin 128).val).missF ≠ some (radF : Nat) ∧ ({ radUp with time := { radUp.time with ext := (radUp.t0 + 60000000) * 2 ^ 32 } } : State).awake (3 : Fin 128).val (radF : Nat) = true ∧ (radUp.t0 : Nat) + ({ radUp with time := { radUp.time with ext := (radUp.t0 + 60000000) * 2 ^ 32 } } : State).sfNs ≤ ({ radUp with time := { radUp.time with ext := (radUp.t0 + 60000000) * 2 ^ 32 } } : State).now ∧ ({ radUp with time := { radUp.time with ext := (radUp.t0 + 60000000) * 2 ^ 32 } } : State).serving = true ∧ (({ radUp with time := { radUp.time with ext := (radUp.t0 + 60000000) * 2 ^ 32 } } : State).bound (3 : Fin 128).val).misses + 1 < ({ radUp with time := { radUp.time with ext := (radUp.t0 + 60000000) * 2 ^ 32 } } : State).fld F.RAD_GUARD_MISS_LOST) ∧
    ((({ radUp with time := { radUp.time with ext := (radUp.t0 + 60000000) * 2 ^ 32 } } : State).setBound 3 { radBind with misses := 3 } : State).frame = some ((radF : Nat), (radUp.t0 : Nat)) ∧ ((({ radUp with time := { radUp.time with ext := (radUp.t0 + 60000000) * 2 ^ 32 } } : State).setBound 3 { radBind with misses := 3 } : State).bound (3 : Fin 128).val).bound = true ∧ ((({ radUp with time := { radUp.time with ext := (radUp.t0 + 60000000) * 2 ^ 32 } } : State).setBound 3 { radBind with misses := 3 } : State).bound (3 : Fin 128).val).joined = true ∧ ((({ radUp with time := { radUp.time with ext := (radUp.t0 + 60000000) * 2 ^ 32 } } : State).setBound 3 { radBind with misses := 3 } : State).bound (3 : Fin 128).val).lost = false ∧ ((({ radUp with time := { radUp.time with ext := (radUp.t0 + 60000000) * 2 ^ 32 } } : State).setBound 3 { radBind with misses := 3 } : State).bound (3 : Fin 128).val).heard = false ∧ ((({ radUp with time := { radUp.time with ext := (radUp.t0 + 60000000) * 2 ^ 32 } } : State).setBound 3 { radBind with misses := 3 } : State).bound (3 : Fin 128).val).missF ≠ some (radF : Nat) ∧ (({ radUp with time := { radUp.time with ext := (radUp.t0 + 60000000) * 2 ^ 32 } } : State).setBound 3 { radBind with misses := 3 } : State).awake (3 : Fin 128).val (radF : Nat) = true ∧ (radUp.t0 : Nat) + (({ radUp with time := { radUp.time with ext := (radUp.t0 + 60000000) * 2 ^ 32 } } : State).setBound 3 { radBind with misses := 3 } : State).sfNs ≤ (({ radUp with time := { radUp.time with ext := (radUp.t0 + 60000000) * 2 ^ 32 } } : State).setBound 3 { radBind with misses := 3 } : State).now ∧ (({ radUp with time := { radUp.time with ext := (radUp.t0 + 60000000) * 2 ^ 32 } } : State).setBound 3 { radBind with misses := 3 } : State).serving = true ∧ (({ radUp with time := { radUp.time with ext := (radUp.t0 + 60000000) * 2 ^ 32 } } : State).setBound 3 { radBind with misses := 3 } : State).fld F.RAD_GUARD_MISS_LOST ≤ ((({ radUp with time := { radUp.time with ext := (radUp.t0 + 60000000) * 2 ^ 32 } } : State).setBound 3 { radBind with misses := 3 } : State).bound (3 : Fin 128).val).misses + 1 ∧ ((({ radUp with time := { radUp.time with ext := (radUp.t0 + 60000000) * 2 ^ 32 } } : State).setBound 3 { radBind with misses := 3 } : State).bound (3 : Fin 128).val).evict = none) :=
  ⟨⟨by decide +kernel, by decide +kernel, (by decide +kernel), by decide +kernel, air_rx _ ftUP 2 3 upBody (by decide +kernel) (by decide +kernel) (by decide +kernel) (by decide +kernel), by decide +kernel, (by decide +kernel), by decide +kernel, by decide +kernel, (by decide +kernel), by decide +kernel, by decide +kernel⟩, ⟨(by decide +kernel), by decide +kernel, by decide +kernel, (by decide +kernel), air_rx _ ftJOIN 2 3 joinBody (by decide +kernel) (by decide +kernel) (by decide +kernel) (by decide +kernel), by decide +kernel, by decide +kernel, (by decide +kernel), by decide +kernel, by decide +kernel, (by decide +kernel)⟩, ⟨by decide +kernel, by decide +kernel, (by decide +kernel), by decide +kernel, air_rx _ ftJOIN 2 3 joinBody (by decide +kernel) (by decide +kernel) (by decide +kernel) (by decide +kernel), by decide +kernel, (by decide +kernel), by decide +kernel, by decide +kernel, (by decide +kernel), by decide +kernel⟩, by and_intros <;> decide +kernel, by and_intros <;> decide +kernel⟩

set_option maxRecDepth 100000 in
/-- Operands that meet the hypotheses of UplinksTablesAndStopFramesComplete, part 2. -/
theorem test_hyp_UplinksTablesAndStopFramesComplete_2 :
    (((radUp.setBound 3 { radBind with evict := some 0 } : State).bound (3 : Fin 128).val).bound = true ∧ (((radUp.setBound 3 { radBind with evict := some 0 } : State).bound (3 : Fin 128).val).evict = some 0 ∨ (((radUp.setBound 3 { radBind with evict := some 0 } : State).bound (3 : Fin 128).val).evict.isSome = true ∧ ((radUp.setBound 3 { radBind with evict := some 0 } : State).bound (3 : Fin 128).val).lost = true))) ∧
    ((radPend radUp.now : State).rad.pend = some (pendTab radUp.now : PendTables) ∧ (pendTab radUp.now : PendTables).at_ ≤ (radPend radUp.now : State).now ∧ ((radPend radUp.now : State).now < (pendTab radUp.now : PendTables).at_ + superframeNs (pendTab radUp.now : PendTables).n ∨ ((radPend radUp.now : State).now - gpsEpoch) % orOne (superframeNs (pendTab radUp.now : PendTables).n) < 312500) ∧ (radPend radUp.now : State).serving = true) ∧
    ((radUp : State).portReady (0 : Fin 4).val = true ∧ (radUp.nextStopFrame : List Byte) = (radUp : State).nextStopFrame ∧ bit (8 : Nat) 3 = true ∧ bit (8 : Nat) 5 = false) ∧
    ((radUp : State).portReady (0 : Fin 4).val = true ∧ ((none : ReadBack) = none ∨ ((none : ReadBack).any (fun y => y.1 != (radUp : State).nextStopFrame || !bit y.2 3 || bit y.2 5)) = true)) ∧
    ((radUp : State).portReady (0 : Fin 4).val = true ∧ ((radUp : State).port (0 : Fin 4).val).armed ≠ [] ∧ ([1] : List Byte) = ((radUp : State).port (0 : Fin 4).val).armed ∧ bit (8 : Nat) 3 = true ∧ bit (8 : Nat) 5 = false) :=
  ⟨by decide +kernel, by decide +kernel, ⟨(by decide +kernel), rfl, by decide +kernel, by decide +kernel⟩, (by decide +kernel), by decide +kernel⟩

set_option maxRecDepth 100000 in
/-- Operands that meet the hypotheses of UplinksTablesAndStopFramesComplete, part 3. -/
theorem test_hyp_UplinksTablesAndStopFramesComplete_3 :
    ((radUp : State).portReady (0 : Fin 4).val = true ∧ ((radUp : State).port (0 : Fin 4).val).armed ≠ [] ∧ ((some ([2], 8) : ReadBack) = none ∨ ((some ([2], 8) : ReadBack).any (fun y => y.1 != ((radUp : State).port (0 : Fin 4).val).armed || !bit y.2 3 || bit y.2 5)) = true)) ∧
    (((radUp.setPort 0 { edges := 1 } : State).port (0 : Fin 4).val).edges ≠ 0 ∧ ((radUp.setPort 0 { edges := 1 } : State).port (0 : Fin 4).val).edges < 3 ∧ ((radUp.setPort 0 { edges := 1 } : State).port (0 : Fin 4).val).edgeAt ≤ (radUp.setPort 0 { edges := 1 } : State).el) ∧
    (3 ≤ ((radUp.setPort 0 { edges := 3 } : State).port (0 : Fin 4).val).edges ∧ ((radUp.setPort 0 { edges := 3 } : State).port (0 : Fin 4).val).edgeAt ≤ (radUp.setPort 0 { edges := 3 } : State).el) ∧
    ((radUp : State).flag (F.RAD_P_CFG_EN (0 : Fin 4).val) = true ∧ (radUp : State).pwr.hubReady = true) :=
  by and_intros <;> decide +kernel

set_option maxRecDepth 100000 in
/-- Operands that meet the hypotheses of RadioCommandsComplete, part 1. -/
theorem test_hyp_RadioCommandsComplete_1 :
    ((up : State).takes (c0 [1, 0, 7, 4, 20, 1, 0, 0] : Cmd) opRadPortConfig = true ∧ (c0 [1, 0, 7, 4, 20, 1, 0, 0] : Cmd).payload.length = 8 ∧ (rdN (c0 [1, 0, 7, 4, 20, 1, 0, 0] : Cmd).payload 0 1) ≤ 3 ∧ rdN (c0 [1, 0, 7, 4, 20, 1, 0, 0] : Cmd).payload 1 1 = 0 ∧ rdN (c0 [1, 0, 7, 4, 20, 1, 0, 0] : Cmd).payload 2 1 ≤ 7 ∧ rdN (c0 [1, 0, 7, 4, 20, 1, 0, 0] : Cmd).payload 5 1 ≤ 1 ∧ (up : State).tableFault ((up : State).fld F.RAD_SF_NSLOT) (rdN (c0 [1, 0, 7, 4, 20, 1, 0, 0] : Cmd).payload 2 1) (rdN (c0 [1, 0, 7, 4, 20, 1, 0, 0] : Cmd).payload 0 1) ((up : State).tableOf (rdN (c0 [1, 0, 7, 4, 20, 1, 0, 0] : Cmd).payload 0 1)) = none ∧ ((up : State).rad.pend.all (fun q => ((up : State).tableFault q.n (rdN (c0 [1, 0, 7, 4, 20, 1, 0, 0] : Cmd).payload 2 1) (rdN (c0 [1, 0, 7, 4, 20, 1, 0, 0] : Cmd).payload 0 1) (Tbl.get ((up : State).tableOf (rdN (c0 [1, 0, 7, 4, 20, 1, 0, 0] : Cmd).payload 0 1)) q.tables (rdN (c0 [1, 0, 7, 4, 20, 1, 0, 0] : Cmd).payload 0 1))).isNone) = true) ∧ ((up : State).onPort (rdN (c0 [1, 0, 7, 4, 20, 1, 0, 0] : Cmd).payload 0 1) = [] ∨ (up : State).fleetHeld = true)) ∧
    ((up : State).takes (tableCmd : Cmd) opRadSuperframeSet = true ∧ (tableCmd : Cmd).payload.length = 4 + 6 * rdN (tableCmd : Cmd).payload 3 1 ∧ (up : State).fleetHeld = true ∧ (defaultTable : List SlotEntry) = parseTable ((tableCmd : Cmd).payload.drop 4) (rdN (tableCmd : Cmd).payload 3 1) ∧ (up : State).tableSetFault (rdN (tableCmd : Cmd).payload 0 2) (rdN (tableCmd : Cmd).payload 2 1) (rdN (tableCmd : Cmd).payload 3 1) (defaultTable : List SlotEntry) = none) ∧
    ((up : State).takes (assign 5 0 99 : Cmd) opRadRoverAssign = true ∧ (assign 5 0 99 : Cmd).payload.length = 16 ∧ (rdN (assign 5 0 99 : Cmd).payload 0 1) ≤ 127 ∧ (rdN (assign 5 0 99 : Cmd).payload 1 1) ≤ 3 ∧ (rdN (assign 5 0 99 : Cmd).payload 10 1 ≤ 7 ∨ rdN (assign 5 0 99 : Cmd).payload 10 1 = 255) ∧ rdN (assign 5 0 99 : Cmd).payload 11 1 ≤ 7 ∧ rdN (assign 5 0 99 : Cmd).payload 12 1 ≠ 0 ∧ (8 ≤ rdN (assign 5 0 99 : Cmd).payload 10 1 ∨ ((up : State).onPort (rdN (assign 5 0 99 : Cmd).payload 1 1)).all (fun y => y == (rdN (assign 5 0 99 : Cmd).payload 0 1) || ((up : State).bound y).relay != rdN (assign 5 0 99 : Cmd).payload 10 1) = true) ∧ (up : State).bound (rdN (assign 5 0 99 : Cmd).payload 0 1) = ({} : Binding) ∧ (({} : Binding).bound = false ∨ ({} : Binding).unit ≠ rdN (assign 5 0 99 : Cmd).payload 2 8) ∧ (up : State).freeRuns (rdN (assign 5 0 99 : Cmd).payload 1 1) (rdN (assign 5 0 99 : Cmd).payload 0 1) = some ((((48, 1), (96, 1)), none) : ((Nat × Nat) × (Nat × Nat)) × Option ((Nat × Nat) × (Nat × Nat)))) ∧
    ((radUp : State).takes (assign 3 0 77 : Cmd) opRadRoverAssign = true ∧ (assign 3 0 77 : Cmd).payload.length = 16 ∧ (rdN (assign 3 0 77 : Cmd).payload 0 1) ≤ 127 ∧ (rdN (assign 3 0 77 : Cmd).payload 1 1) ≤ 3 ∧ (rdN (assign 3 0 77 : Cmd).payload 10 1 ≤ 7 ∨ rdN (assign 3 0 77 : Cmd).payload 10 1 = 255) ∧ rdN (assign 3 0 77 : Cmd).payload 11 1 ≤ 7 ∧ rdN (assign 3 0 77 : Cmd).payload 12 1 ≠ 0 ∧ (8 ≤ rdN (assign 3 0 77 : Cmd).payload 10 1 ∨ ((radUp : State).onPort (rdN (assign 3 0 77 : Cmd).payload 1 1)).all (fun y => y == (rdN (assign 3 0 77 : Cmd).payload 0 1) || ((radUp : State).bound y).relay != rdN (assign 3 0 77 : Cmd).payload 10 1) = true) ∧ (radUp : State).bound (rdN (assign 3 0 77 : Cmd).payload 0 1) = (radBind : Binding) ∧ (radBind : Binding).bound = true ∧ (radBind : Binding).unit = rdN (assign 3 0 77 : Cmd).payload 2 8 ∧ (radBind : Binding).move = none ∧ (radBind : Binding).port = (rdN (assign 3 0 77 : Cmd).payload 1 1)) ∧
    ((radUp : State).takes (assign 3 1 77 : Cmd) opRadRoverAssign = true ∧ (assign 3 1 77 : Cmd).payload.length = 16 ∧ (rdN (assign 3 1 77 : Cmd).payload 0 1) ≤ 127 ∧ (rdN (assign 3 1 77 : Cmd).payload 1 1) ≤ 3 ∧ (rdN (assign 3 1 77 : Cmd).payload 10 1 ≤ 7 ∨ rdN (assign 3 1 77 : Cmd).payload 10 1 = 255) ∧ rdN (assign 3 1 77 : Cmd).payload 11 1 ≤ 7 ∧ rdN (assign 3 1 77 : Cmd).payload 12 1 ≠ 0 ∧ (8 ≤ rdN (assign 3 1 77 : Cmd).payload 10 1 ∨ ((radUp : State).onPort (rdN (assign 3 1 77 : Cmd).payload 1 1)).all (fun y => y == (rdN (assign 3 1 77 : Cmd).payload 0 1) || ((radUp : State).bound y).relay != rdN (assign 3 1 77 : Cmd).payload 10 1) = true) ∧ (radUp : State).bound (rdN (assign 3 1 77 : Cmd).payload 0 1) = (radBind : Binding) ∧ (radBind : Binding).bound = true ∧ (radBind : Binding).unit = rdN (assign 3 1 77 : Cmd).payload 2 8 ∧ (radBind : Binding).move = none ∧ (radBind : Binding).port ≠ (rdN (assign 3 1 77 : Cmd).payload 1 1) ∧ (radBind : Binding).joined = true ∧ (radBind : Binding).lost = false ∧ (radUp : State).freeRuns (rdN (assign 3 1 77 : Cmd).payload 1 1) (rdN (assign 3 1 77 : Cmd).payload 0 1) = some ((((48, 1), (96, 1)), none) : ((Nat × Nat) × (Nat × Nat)) × Option ((Nat × Nat) × (Nat × Nat)))) :=
  by and_intros <;> decide +kernel

set_option maxRecDepth 100000 in
/-- Operands that meet the hypotheses of RadioCommandsComplete, part 2. -/
theorem test_hyp_RadioCommandsComplete_2 :
    ((radUp : State).takes (c0 [3, 0, 0, 0] : Cmd) opRadRoverEvict = true ∧ (c0 [3, 0, 0, 0] : Cmd).payload.length = 4 ∧ (rdN (c0 [3, 0, 0, 0] : Cmd).payload 0 1) ≤ 127 ∧ ((radUp : State).bound (rdN (c0 [3, 0, 0, 0] : Cmd).payload 0 1)).bound = true ∧ ((radUp : State).bound (rdN (c0 [3, 0, 0, 0] : Cmd).payload 0 1)).lost = false) ∧
    ((radUp.setBound 3 { radBind with lost := true } : State).takes (c0 [3, 0, 0, 0] : Cmd) opRadRoverEvict = true ∧ (c0 [3, 0, 0, 0] : Cmd).payload.length = 4 ∧ (rdN (c0 [3, 0, 0, 0] : Cmd).payload 0 1) ≤ 127 ∧ ((radUp.setBound 3 { radBind with lost := true } : State).bound (rdN (c0 [3, 0, 0, 0] : Cmd).payload 0 1)).bound = true ∧ ((radUp.setBound 3 { radBind with lost := true } : State).bound (rdN (c0 [3, 0, 0, 0] : Cmd).payload 0 1)).lost = true) ∧
    ((radUp : State).takes (c0 [3, 2, 0, 0] : Cmd) opRadGetLink = true ∧ (c0 [3, 2, 0, 0] : Cmd).payload.length = 4 ∧ rdN (c0 [3, 2, 0, 0] : Cmd).payload 1 1 ≠ 0 ∧ rdN (c0 [3, 2, 0, 0] : Cmd).payload 1 1 ≤ 32 ∧ (rdN (c0 [3, 2, 0, 0] : Cmd).payload 0 1) + rdN (c0 [3, 2, 0, 0] : Cmd).payload 1 1 ≤ 128) :=
  by and_intros <;> decide +kernel

set_option maxRecDepth 100000 in
/-- Operands that meet the hypotheses of StopSourcesComplete, part 1. -/
theorem test_hyp_StopSourcesComplete_1 :
    ((stopUp : State).pathRuns = true ∧ (stopUp : State).inForce (1 : Fin 2).val = false ∧ (stopUp : State).fleetStopped = false) ∧
    ((srcOn 3 : State).pathRuns = true ∧ ((srcOn 3 : State).inForce (1 : Fin 2).val = true ∨ (srcOn 3 : State).fleetStopped = true)) ∧
    (((srcOn 1).setFld F.STP_STAT_IN_B 1 : State).pathRuns = true ∧ ((srcOn 1).setFld F.STP_STAT_IN_B 1 : State).flag (if (1 : Fin 2).val = 0 then F.STP_STAT_IN_A else F.STP_STAT_IN_B) = true) ∧
    (({ stopUp with stp := { stopUp.stp with diffSince := some 0 } } : State).stp.diffSince = some (0 : Nat) ∧ (0 : Nat) + 10 * oneMs < ({ stopUp with stp := { stopUp.stp with diffSince := some 0 } } : State).el ∧ ({ stopUp with stp := { stopUp.stp with diffSince := some 0 } } : State).inForce srcDISC = false) ∧
    ((srcOn 2 : State).flag F.STP_STAT_IN_A = false ∧ (srcOn 2 : State).flag F.STP_STAT_IN_B = false) :=
  by and_intros <;> decide +kernel

set_option maxRecDepth 100000 in
/-- Operands that meet the hypotheses of StopSourcesComplete, part 2. -/
theorem test_hyp_StopSourcesComplete_2 :
    ((stopUp : State).pathRuns = true ∧ (stopUp : State).inForce srcHUB_CHECK = false) ∧
    ((stopUp : State).ethUp (0 : Fin 2).val = true ∧ chainPayload ctSTOP (stopChainFrame : List Byte) = some (stopSent : List Byte) ∧ (stopSent : List Byte).length = 20 ∧ rdN (stopSent : List Byte) 0 2 = (stopUp : State).site ∧ rdN (stopSent : List Byte) 2 1 ≠ (stopUp : State).net ∧ (rdN (stopSent : List Byte) 2 1, rdN (stopSent : List Byte) 4 4, rdN (stopSent : List Byte) 3 1) ∉ (stopUp : State).stp.chainKeys ∧ (stopUp : State).flag F.STP_CTL_CHAIN_OBEY = true ∧ (stopUp.chainFrame ctSTOP (stopSent.take 8 ++ le 1 4 ++ stopSent.drop 9) : List Byte) = (stopUp : State).chainFrame ctSTOP ((stopSent : List Byte).take 8 ++ le 1 (rdN (stopSent : List Byte) 8 1 + 1) ++ (stopSent : List Byte).drop 9)) ∧
    (((srcOn 3 : State).stp.sentAt.all (fun a => (srcOn 3 : State).passed a (100 * oneMs)) = true) ∧ (srcOn 3 : State).fleetStopped = true ∧ (srcOn 3 : State).ownSource = true ∧ (srcOn 3 : State).flag F.STP_CTL_CHAIN_SEND = true ∧ (srcOn 3 : State).pwr.state ≠ .dormant ∧ (srcOn 3 : State).pwr.hubReady = true ∧ ((srcOn 3).chainFrame ctSTOP ((srcOn 3).stopPayload 0) : List Byte) = (srcOn 3 : State).chainFrame ctSTOP ((srcOn 3 : State).stopPayload (srcOn 3 : State).stp.rep)) ∧
    ((srcOn 8 : State).passed (srcOn 8 : State).stp.chainAt (300 * oneMs) = true) ∧
    ((releasing : State).stp.release = some (5 : Nat) ∧ (5 : Nat) ≤ (releasing : State).now) :=
  ⟨by decide +kernel, by decide +kernel, ⟨(by decide +kernel), by decide +kernel, by decide +kernel, (by decide +kernel), by decide +kernel, by decide +kernel, rfl⟩, (by decide +kernel), by decide +kernel⟩

set_option maxRecDepth 100000 in
/-- Operands that meet the hypotheses of StopSourcesComplete, part 3. -/
theorem test_hyp_StopSourcesComplete_3 :
    ((⟨2, 0, 5⟩ : TargetRelease) ∈ (targets : State).stp.targets ∧ (⟨2, 0, 5⟩ : TargetRelease).tr ≤ (targets : State).now) :=
  by decide +kernel

set_option maxRecDepth 100000 in
/-- Operands that meet the hypotheses of StopCommandsComplete, part 1. -/
theorem test_hyp_StopCommandsComplete_1 :
    ((stopUp : State).takes (c0 [0, 0, 0, 0] : Cmd) opStopAll = true ∧ (c0 [0, 0, 0, 0] : Cmd).payload.length = 4 ∧ (stopUp : State).inForce srcCMD = false ∧ (stopUp : State).fleetStopped = false) ∧
    ((srcOn 3 : State).takes (c0 [0, 0, 0, 0] : Cmd) opStopAll = true ∧ (c0 [0, 0, 0, 0] : Cmd).payload.length = 4 ∧ ((srcOn 3 : State).inForce srcCMD = true ∨ (srcOn 3 : State).fleetStopped = true)) ∧
    ((stopUp : State).takes (c0 [3, 0, 0, 0] : Cmd) opStopRover = true ∧ (c0 [3, 0, 0, 0] : Cmd).payload.length = 4 ∧ (rdN (c0 [3, 0, 0, 0] : Cmd).payload 0 1) ≤ 127 ∧ ((stopUp : State).bound (rdN (c0 [3, 0, 0, 0] : Cmd).payload 0 1)).bound = true) ∧
    ((zoneUp : State).takes (c0 [0, 0, 0, 0] : Cmd) opStopZone = true ∧ (c0 [0, 0, 0, 0] : Cmd).payload.length = 4 ∧ (zoneUp : State).zoneRefusal (rdN (c0 [0, 0, 0, 0] : Cmd).payload 0 2) = 0) ∧
    ((lev2 (stopUp : State) : State).takes (c1 [0, 0, 0, 0] : Cmd) opStopRelease = true ∧ (c1 [0, 0, 0, 0] : Cmd).payload.length = 4 ∧ (rdN (c1 [0, 0, 0, 0] : Cmd).payload 0 1) = 0 ∧ (lev2 (stopUp : State) : State).fleetStopped = false) :=
  by and_intros <;> decide +kernel

set_option maxRecDepth 100000 in
/-- Operands that meet the hypotheses of StopCommandsComplete, part 2. -/
theorem test_hyp_StopCommandsComplete_2 :
    ((lev2 (releasing : State) : State).takes (c1 [0, 0, 0, 0] : Cmd) opStopRelease = true ∧ (c1 [0, 0, 0, 0] : Cmd).payload.length = 4 ∧ (rdN (c1 [0, 0, 0, 0] : Cmd).payload 0 1) = 0 ∧ (lev2 (releasing : State) : State).fleetStopped = true ∧ (lev2 (releasing : State) : State).stp.release = some (5 : Nat)) ∧
    ((lev2 (quietStop : State) : State).takes (c1 [0, 0, 0, 0] : Cmd) opStopRelease = true ∧ (c1 [0, 0, 0, 0] : Cmd).payload.length = 4 ∧ (rdN (c1 [0, 0, 0, 0] : Cmd).payload 0 1) = 0 ∧ (lev2 (quietStop : State) : State).fleetStopped = true ∧ (lev2 (quietStop : State) : State).stp.release = none ∧ (lev2 (quietStop : State) : State).mayRelease = true ∧ ((lev2 quietStop).now + oneMs : Nat) = (match (lev2 (quietStop : State) : State).stp.firedAt with | some f => max ((lev2 (quietStop : State) : State).now + oneMs) (f + (lev2 (quietStop : State) : State).stp.authMax) | none => (lev2 (quietStop : State) : State).now + oneMs)) ∧
    ((lev2 (srcOn 0 : State) : State).takes (c1 [0, 0, 0, 0] : Cmd) opStopRelease = true ∧ (c1 [0, 0, 0, 0] : Cmd).payload.length = 4 ∧ (rdN (c1 [0, 0, 0, 0] : Cmd).payload 0 1) = 0 ∧ (lev2 (srcOn 0 : State) : State).fleetStopped = true ∧ (lev2 (srcOn 0 : State) : State).stp.release = none ∧ (lev2 (srcOn 0 : State) : State).mayRelease = false) ∧
    ((lev2 ({ targets with stp := { targets.stp with targets := [] } } : State) : State).takes (c1 [1, 0, 3, 0] : Cmd) opStopRelease = true ∧ (c1 [1, 0, 3, 0] : Cmd).payload.length = 4 ∧ ((rdN (c1 [1, 0, 3, 0] : Cmd).payload 0 1) = 1 ∨ (rdN (c1 [1, 0, 3, 0] : Cmd).payload 0 1) = 2) ∧ (if (rdN (c1 [1, 0, 3, 0] : Cmd).payload 0 1) = 1 then (rdN (c1 [1, 0, 3, 0] : Cmd).payload 2 2) ≤ 127 ∧ (rdN (c1 [1, 0, 3, 0] : Cmd).payload 2 2) ∈ (lev2 ({ targets with stp := { targets.stp with targets := [] } } : State) : State).stp.rovers else (rdN (c1 [1, 0, 3, 0] : Cmd).payload 2 2) < ((lev2 ({ targets with stp := { targets.stp with targets := [] } } : State) : State).sbx.map.map (·.zones.length)).getD 0 ∧ (lev2 ({ targets with stp := { targets.stp with targets := [] } } : State) : State).stp.zones.any (fun y => y.zone == (rdN (c1 [1, 0, 3, 0] : Cmd).payload 2 2)) = true) ∧ ((lev2 ({ targets with stp := { targets.stp with targets := [] } } : State) : State).stp.targets.any (fun y => y.scope == (rdN (c1 [1, 0, 3, 0] : Cmd).payload 0 1) && y.target == (rdN (c1 [1, 0, 3, 0] : Cmd).payload 2 2)) = false)) ∧
    ((targets : State).takes (c0 [] : Cmd) opStopGetState = true ∧ (c0 [] : Cmd).payload = []) :=
  by and_intros <;> decide +kernel

set_option maxRecDepth 100000 in
/-- Operands that meet the hypotheses of EthernetLinksSwitchAndPauseComplete, part 1. -/
theorem test_hyp_EthernetLinksSwitchAndPauseComplete_1 :
    (((stopUp.setFld (F.ETH_P_STAT_LINK 1) 0).setFld (F.ETH_P_CFG_PREEMPT 1) 1 : State).flag (F.ETH_P_CFG_EN (1 : Fin 2).val) = true ∧ ((stopUp.setFld (F.ETH_P_STAT_LINK 1) 0).setFld (F.ETH_P_CFG_PREEMPT 1) 1 : State).flag (F.ETH_P_STAT_LINK (1 : Fin 2).val) = false ∧ ((stopUp.setFld (F.ETH_P_STAT_LINK 1) 0).setFld (F.ETH_P_CFG_PREEMPT 1) 1 : State).pwr.hubReady = true ∧ ((stopUp.setFld (F.ETH_P_STAT_LINK 1) 0).setFld (F.ETH_P_CFG_PREEMPT 1) 1 : State).pwr.state ≠ .dormant) ∧
    ((stopUp : State).flag (F.ETH_P_STAT_LINK (1 : Fin 2).val) = true) ∧
    (((stopUp.setFld (F.ETH_P_STAT_VERIFY 1) 1) : State).fld (F.ETH_P_STAT_VERIFY (1 : Fin 2).val) = 1) ∧
    (((stopUp.setFld (F.ETH_P_STAT_VERIFY 1) 1) : State).fld (F.ETH_P_STAT_VERIFY (1 : Fin 2).val) = 1 ∧ ((stopUp.setFld (F.ETH_P_STAT_VERIFY 1) 1) : State).passed (((stopUp.setFld (F.ETH_P_STAT_VERIFY 1) 1) : State).ep (1 : Fin 2).val).verifyAt (10 * oneMs) = true) ∧
    ((stopUp : State).ethUp (0 : Fin 2).val = true ∧ (({ bytes := [], fcsOk := false } : EthIn).fcsOk = false ∨ 1518 < ({ bytes := [], fcsOk := false } : EthIn).bytes.length)) :=
  by and_intros <;> decide +kernel

set_option maxRecDepth 100000 in
/-- Operands that meet the hypotheses of EthernetLinksSwitchAndPauseComplete, part 2. -/
theorem test_hyp_EthernetLinksSwitchAndPauseComplete_2 :
    ((stopUp.setFld F.ETH_PTP_CTL_TC_EN 0 : State).ethUp (0 : Fin 2).val = true ∧ ({ bytes := be 6 0x020000000001 ++ be 6 0x020000000002 ++ bytes 50 1 } : EthIn).fcsOk = true ∧ ({ bytes := be 6 0x020000000001 ++ be 6 0x020000000002 ++ bytes 50 1 } : EthIn).bytes.length ≤ 1518 ∧ ({ bytes := be 6 0x020000000001 ++ be 6 0x020000000002 ++ bytes 50 1 } : EthIn).fill = 0 ∧ pauseQuanta ({ bytes := be 6 0x020000000001 ++ be 6 0x020000000002 ++ bytes 50 1 } : EthIn).bytes = none ∧ isPdelay ({ bytes := be 6 0x020000000001 ++ be 6 0x020000000002 ++ bytes 50 1 } : EthIn).bytes = false ∧ isReserved (frameDA ({ bytes := be 6 0x020000000001 ++ be 6 0x020000000002 ++ bytes 50 1 } : EthIn).bytes) = false ∧ frameDA ({ bytes := be 6 0x020000000001 ++ be 6 0x020000000002 ++ bytes 50 1 } : EthIn).bytes ≠ chainMac ∧ frameDA ({ bytes := be 6 0x020000000001 ++ be 6 0x020000000002 ++ bytes 50 1 } : EthIn).bytes ≠ (stopUp.setFld F.ETH_PTP_CTL_TC_EN 0 : State).mac ∧ frameDA ({ bytes := be 6 0x020000000001 ++ be 6 0x020000000002 ++ bytes 50 1 } : EthIn).bytes ≠ broadcast ∧ isPtpGroup (frameDA ({ bytes := be 6 0x020000000001 ++ be 6 0x020000000002 ++ bytes 50 1 } : EthIn).bytes) = false ∧ (∀ l ∈ (stopUp.setFld F.ETH_PTP_CTL_TC_EN 0 : State).eth.table, l.mac = frameDA ({ bytes := be 6 0x020000000001 ++ be 6 0x020000000002 ++ bytes 50 1 } : EthIn).bytes → l.port ≠ (0 : Fin 2).val) ∧ frameDA ({ bytes := be 6 0x020000000001 ++ be 6 0x020000000002 ++ bytes 50 1 } : EthIn).bytes ≠ frameSA ({ bytes := be 6 0x020000000001 ++ be 6 0x020000000002 ++ bytes 50 1 } : EthIn).bytes ∧ (stopUp.setFld F.ETH_PTP_CTL_TC_EN 0 : State).ethUp (1 - (0 : Fin 2).val) = true ∧ ({ bytes := be 6 0x020000000001 ++ be 6 0x020000000002 ++ bytes 50 1 } : EthIn).room = true ∧ (stopUp.setFld F.ETH_PTP_CTL_TC_EN 0 : State).flag F.ETH_PTP_CTL_TC_EN = false) ∧
    (({ stopUp with eth := { stopUp.eth with table := [⟨0x020000000001, 0, 0⟩] } } : State).ethUp (0 : Fin 2).val = true ∧ ({ bytes := be 6 0x020000000001 ++ be 6 0x020000000002 ++ bytes 50 1 } : EthIn).fcsOk = true ∧ ({ bytes := be 6 0x020000000001 ++ be 6 0x020000000002 ++ bytes 50 1 } : EthIn).bytes.length ≤ 1518 ∧ ({ bytes := be 6 0x020000000001 ++ be 6 0x020000000002 ++ bytes 50 1 } : EthIn).fill = 0 ∧ pauseQuanta ({ bytes := be 6 0x020000000001 ++ be 6 0x020000000002 ++ bytes 50 1 } : EthIn).bytes = none ∧ isPdelay ({ bytes := be 6 0x020000000001 ++ be 6 0x020000000002 ++ bytes 50 1 } : EthIn).bytes = false ∧ isReserved (frameDA ({ bytes := be 6 0x020000000001 ++ be 6 0x020000000002 ++ bytes 50 1 } : EthIn).bytes) = false ∧ frameDA ({ bytes := be 6 0x020000000001 ++ be 6 0x020000000002 ++ bytes 50 1 } : EthIn).bytes ≠ chainMac ∧ frameDA ({ bytes := be 6 0x020000000001 ++ be 6 0x020000000002 ++ bytes 50 1 } : EthIn).bytes ≠ ({ stopUp with eth := { stopUp.eth with table := [⟨0x020000000001, 0, 0⟩] } } : State).mac ∧ frameDA ({ bytes := be 6 0x020000000001 ++ be 6 0x020000000002 ++ bytes 50 1 } : EthIn).bytes ≠ broadcast ∧ isPtpGroup (frameDA ({ bytes := be 6 0x020000000001 ++ be 6 0x020000000002 ++ bytes 50 1 } : EthIn).bytes) = false ∧ (({ stopUp with eth := { stopUp.eth with table := [⟨0x020000000001, 0, 0⟩] } } : State).eth.table.find? (fun l => l.mac == frameDA ({ bytes := be 6 0x020000000001 ++ be 6 0x020000000002 ++ bytes 50 1 } : EthIn).bytes) = some (⟨0x020000000001, 0, 0⟩ : Learned)) ∧ (⟨0x020000000001, 0, 0⟩ : Learned).port = (0 : Fin 2).val) ∧
    ((stopUp : State).ethUp (0 : Fin 2).val = true ∧ ({ bytes := be 6 0x020000000001 ++ be 6 0x020000000002 ++ bytes 50 1, room := false } : EthIn).fcsOk = true ∧ ({ bytes := be 6 0x020000000001 ++ be 6 0x020000000002 ++ bytes 50 1, room := false } : EthIn).bytes.length ≤ 1518 ∧ ({ bytes := be 6 0x020000000001 ++ be 6 0x020000000002 ++ bytes 50 1, room := false } : EthIn).fill = 0 ∧ pauseQuanta ({ bytes := be 6 0x020000000001 ++ be 6 0x020000000002 ++ bytes 50 1, room := false } : EthIn).bytes = none ∧ isPdelay ({ bytes := be 6 0x020000000001 ++ be 6 0x020000000002 ++ bytes 50 1, room := false } : EthIn).bytes = false ∧ isReserved (frameDA ({ bytes := be 6 0x020000000001 ++ be 6 0x020000000002 ++ bytes 50 1, room := false } : EthIn).bytes) = false ∧ frameDA ({ bytes := be 6 0x020000000001 ++ be 6 0x020000000002 ++ bytes 50 1, room := false } : EthIn).bytes ≠ chainMac ∧ frameDA ({ bytes := be 6 0x020000000001 ++ be 6 0x020000000002 ++ bytes 50 1, room := false } : EthIn).bytes ≠ (stopUp : State).mac ∧ frameDA ({ bytes := be 6 0x020000000001 ++ be 6 0x020000000002 ++ bytes 50 1, room := false } : EthIn).bytes ≠ broadcast ∧ isPtpGroup (frameDA ({ bytes := be 6 0x020000000001 ++ be 6 0x020000000002 ++ bytes 50 1, room := false } : EthIn).bytes) = false ∧ (∀ l ∈ (stopUp : State).eth.table, l.mac = frameDA ({ bytes := be 6 0x020000000001 ++ be 6 0x020000000002 ++ bytes 50 1, room := false } : EthIn).bytes → l.port ≠ (0 : Fin 2).val) ∧ frameDA ({ bytes := be 6 0x020000000001 ++ be 6 0x020000000002 ++ bytes 50 1, room := false } : EthIn).bytes ≠ frameSA ({ bytes := be 6 0x020000000001 ++ be 6 0x020000000002 ++ bytes 50 1, room := false } : EthIn).bytes ∧ (stopUp : State).ethUp (1 - (0 : Fin 2).val) = true ∧ ({ bytes := be 6 0x020000000001 ++ be 6 0x020000000002 ++ bytes 50 1, room := false } : EthIn).room = false) ∧
    ((stopUp : State).ethUp (0 : Fin 2).val = true ∧ ({ bytes := be 6 0x0180C2000005 ++ bytes 54 1 } : EthIn).fcsOk = true ∧ ({ bytes := be 6 0x0180C2000005 ++ bytes 54 1 } : EthIn).bytes.length ≤ 1518 ∧ ({ bytes := be 6 0x0180C2000005 ++ bytes 54 1 } : EthIn).fill = 0 ∧ pauseQuanta ({ bytes := be 6 0x0180C2000005 ++ bytes 54 1 } : EthIn).bytes = none ∧ ({ bytes := be 6 0x0180C2000005 ++ bytes 54 1 } : EthIn).bytes.length ≤ 1518 ∧ isReserved (frameDA ({ bytes := be 6 0x0180C2000005 ++ bytes 54 1 } : EthIn).bytes) = true ∧ isPdelay ({ bytes := be 6 0x0180C2000005 ++ bytes 54 1 } : EthIn).bytes = false) ∧
    ((({ stopUp with eth := { stopUp.eth with table := [⟨5, 0, 0⟩] } } : State).eth.table.any (fun l => l.mac == (5 : Nat) && ({ stopUp with eth := { stopUp.eth with table := [⟨5, 0, 0⟩] } } : State).passed l.at_ (300 * oneSec)) = true)) :=
  by and_intros <;> decide +kernel

set_option maxRecDepth 100000 in
/-- Operands that meet the hypotheses of EthernetLinksSwitchAndPauseComplete, part 3. -/
theorem test_hyp_EthernetLinksSwitchAndPauseComplete_3 :
    (((stopUp.setFld (F.ETH_P_CFG_PAUSE_RX 0) 1).setFld (F.ETH_P_STAT_PAUSE_IGN 0) 0 : State).ethUp (0 : Fin 2).val = true ∧ ({ bytes := be 6 0x0180C2000001 ++ be 6 0x020000000002 ++ be 2 0x8808 ++ be 2 1 ++ be 2 77 ++ zeros 42 } : EthIn).fcsOk = true ∧ ({ bytes := be 6 0x0180C2000001 ++ be 6 0x020000000002 ++ be 2 0x8808 ++ be 2 1 ++ be 2 77 ++ zeros 42 } : EthIn).bytes.length ≤ 1518 ∧ ({ bytes := be 6 0x0180C2000001 ++ be 6 0x020000000002 ++ be 2 0x8808 ++ be 2 1 ++ be 2 77 ++ zeros 42 } : EthIn).fill = 0 ∧ pauseQuanta ({ bytes := be 6 0x0180C2000001 ++ be 6 0x020000000002 ++ be 2 0x8808 ++ be 2 1 ++ be 2 77 ++ zeros 42 } : EthIn).bytes = some (77 : Nat) ∧ ((stopUp.setFld (F.ETH_P_CFG_PAUSE_RX 0) 1).setFld (F.ETH_P_STAT_PAUSE_IGN 0) 0 : State).flag (F.ETH_P_CFG_PAUSE_RX (0 : Fin 2).val) = true ∧ ((stopUp.setFld (F.ETH_P_CFG_PAUSE_RX 0) 1).setFld (F.ETH_P_STAT_PAUSE_IGN 0) 0 : State).flag (F.ETH_P_STAT_PAUSE_IGN (0 : Fin 2).val) = false) ∧
    ((stopUp.setFld (F.ETH_P_CFG_PAUSE_RX 0) 0 : State).ethUp (0 : Fin 2).val = true ∧ ({ bytes := be 6 0x0180C2000001 ++ be 6 0x020000000002 ++ be 2 0x8808 ++ be 2 1 ++ be 2 77 ++ zeros 42 } : EthIn).fcsOk = true ∧ ({ bytes := be 6 0x0180C2000001 ++ be 6 0x020000000002 ++ be 2 0x8808 ++ be 2 1 ++ be 2 77 ++ zeros 42 } : EthIn).bytes.length ≤ 1518 ∧ ({ bytes := be 6 0x0180C2000001 ++ be 6 0x020000000002 ++ be 2 0x8808 ++ be 2 1 ++ be 2 77 ++ zeros 42 } : EthIn).fill = 0 ∧ pauseQuanta ({ bytes := be 6 0x0180C2000001 ++ be 6 0x020000000002 ++ be 2 0x8808 ++ be 2 1 ++ be 2 77 ++ zeros 42 } : EthIn).bytes = some (77 : Nat) ∧ ((stopUp.setFld (F.ETH_P_CFG_PAUSE_RX 0) 0 : State).flag (F.ETH_P_CFG_PAUSE_RX (0 : Fin 2).val) = false ∨ (stopUp.setFld (F.ETH_P_CFG_PAUSE_RX 0) 0 : State).flag (F.ETH_P_STAT_PAUSE_IGN (0 : Fin 2).val) = true)) ∧
    ((stopUp.setEp 1 { pauses := [(stopUp.el - oneSec, stopUp.el)] } : State).flag (F.ETH_P_STAT_PAUSE_IGN (1 : Fin 2).val) = false ∧ clampN 10 1000 ((stopUp.setEp 1 { pauses := [(stopUp.el - oneSec, stopUp.el)] } : State).fld F.ETH_CTL_PAUSE_MAX) * oneMs ≤ (stopUp.setEp 1 { pauses := [(stopUp.el - oneSec, stopUp.el)] } : State).pauseSum (1 : Fin 2).val) ∧
    ((stopUp.setFld (F.ETH_P_STAT_PAUSE_IGN 1) 1 : State).flag (F.ETH_P_STAT_PAUSE_IGN (1 : Fin 2).val) = true ∧ (stopUp.setFld (F.ETH_P_STAT_PAUSE_IGN 1) 1 : State).passed ((stopUp.setFld (F.ETH_P_STAT_PAUSE_IGN 1) 1 : State).ep (1 : Fin 2).val).ignAt (100 * oneMs) = true) ∧
    ((macUp : State).ethUp (0 : Fin 2).val = true ∧ ({ bytes := be 6 broadcast ++ be 6 0x020000000002 ++ be 2 0x0806 ++ be 2 1 ++ be 2 0x0800 ++ be 1 6 ++ be 1 4 ++ be 2 1 ++ be 6 0x020000000002 ++ be 4 0xC0A80101 ++ be 6 0 ++ be 4 0xC0A80102 ++ zeros 18 } : EthIn).fcsOk = true ∧ ({ bytes := be 6 broadcast ++ be 6 0x020000000002 ++ be 2 0x0806 ++ be 2 1 ++ be 2 0x0800 ++ be 1 6 ++ be 1 4 ++ be 2 1 ++ be 6 0x020000000002 ++ be 4 0xC0A80101 ++ be 6 0 ++ be 4 0xC0A80102 ++ zeros 18 } : EthIn).bytes.length ≤ 1518 ∧ ({ bytes := be 6 broadcast ++ be 6 0x020000000002 ++ be 2 0x0806 ++ be 2 1 ++ be 2 0x0800 ++ be 1 6 ++ be 1 4 ++ be 2 1 ++ be 6 0x020000000002 ++ be 4 0xC0A80101 ++ be 6 0 ++ be 4 0xC0A80102 ++ zeros 18 } : EthIn).fill = 0 ∧ frameDA ({ bytes := be 6 broadcast ++ be 6 0x020000000002 ++ be 2 0x0806 ++ be 2 1 ++ be 2 0x0800 ++ be 1 6 ++ be 1 4 ++ be 2 1 ++ be 6 0x020000000002 ++ be 4 0xC0A80101 ++ be 6 0 ++ be 4 0xC0A80102 ++ zeros 18 } : EthIn).bytes = broadcast ∧ etherType ({ bytes := be 6 broadcast ++ be 6 0x020000000002 ++ be 2 0x0806 ++ be 2 1 ++ be 2 0x0800 ++ be 1 6 ++ be 1 4 ++ be 2 1 ++ be 6 0x020000000002 ++ be 4 0xC0A80101 ++ be 6 0 ++ be 4 0xC0A80102 ++ zeros 18 } : EthIn).bytes = 0x0806 ∧ (macUp : State).ip ≠ 0 ∧ (({ bytes := be 6 broadcast ++ be 6 0x020000000002 ++ be 2 0x0806 ++ be 2 1 ++ be 2 0x0800 ++ be 1 6 ++ be 1 4 ++ be 2 1 ++ be 6 0x020000000002 ++ be 4 0xC0A80101 ++ be 6 0 ++ be 4 0xC0A80102 ++ zeros 18 } : EthIn).bytes.drop 14).take 8 = be 2 1 ++ be 2 0x0800 ++ be 1 6 ++ be 1 4 ++ be 2 1 ∧ beNat ((({ bytes := be 6 broadcast ++ be 6 0x020000000002 ++ be 2 0x0806 ++ be 2 1 ++ be 2 0x0800 ++ be 1 6 ++ be 1 4 ++ be 2 1 ++ be 6 0x020000000002 ++ be 4 0xC0A80101 ++ be 6 0 ++ be 4 0xC0A80102 ++ zeros 18 } : EthIn).bytes.drop 38).take 4) = (macUp : State).ip ∧ (be 6 0x020000000002 ++ macUp.macBytes ++ be 2 0x0806 ++ be 2 1 ++ be 2 0x0800 ++ be 1 6 ++ be 1 4 ++ be 2 2 ++ macUp.macBytes ++ be 4 0xC0A80102 ++ be 6 0x020000000002 ++ be 4 0xC0A80101 : List Byte) = (({ bytes := be 6 broadcast ++ be 6 0x020000000002 ++ be 2 0x0806 ++ be 2 1 ++ be 2 0x0800 ++ be 1 6 ++ be 1 4 ++ be 2 1 ++ be 6 0x020000000002 ++ be 4 0xC0A80101 ++ be 6 0 ++ be 4 0xC0A80102 ++ zeros 18 } : EthIn).bytes.drop 22).take 6 ++ (macUp : State).macBytes ++ be 2 0x0806 ++ be 2 1 ++ be 2 0x0800 ++ be 1 6 ++ be 1 4 ++ be 2 2 ++ (macUp : State).macBytes ++ be 4 (macUp : State).ip ++ (({ bytes := be 6 broadcast ++ be 6 0x020000000002 ++ be 2 0x0806 ++ be 2 1 ++ be 2 0x0800 ++ be 1 6 ++ be 1 4 ++ be 2 1 ++ be 6 0x020000000002 ++ be 4 0xC0A80101 ++ be 6 0 ++ be 4 0xC0A80102 ++ zeros 18 } : EthIn).bytes.drop 22).take 6 ++ (({ bytes := be 6 broadcast ++ be 6 0x020000000002 ++ be 2 0x0806 ++ be 2 1 ++ be 2 0x0800 ++ be 1 6 ++ be 1 4 ++ be 2 1 ++ be 6 0x020000000002 ++ be 4 0xC0A80101 ++ be 6 0 ++ be 4 0xC0A80102 ++ zeros 18 } : EthIn).bytes.drop 28).take 4) :=
  by and_intros <;> decide +kernel

set_option maxRecDepth 100000 in
/-- Operands that meet the hypotheses of EthernetLinksSwitchAndPauseComplete, part 4. -/
theorem test_hyp_EthernetLinksSwitchAndPauseComplete_4 :
    ((macUp : State).ethUp (0 : Fin 2).val = true ∧ ({ bytes := be 6 broadcast ++ be 6 0x020000000002 ++ be 2 0x0806 ++ be 2 1 ++ be 2 0x0800 ++ be 1 6 ++ be 1 4 ++ be 2 2 ++ be 6 0x020000000002 ++ be 4 0 ++ be 6 0 ++ be 4 0xC0A80102 ++ zeros 18 } : EthIn).fcsOk = true ∧ ({ bytes := be 6 broadcast ++ be 6 0x020000000002 ++ be 2 0x0806 ++ be 2 1 ++ be 2 0x0800 ++ be 1 6 ++ be 1 4 ++ be 2 2 ++ be 6 0x020000000002 ++ be 4 0 ++ be 6 0 ++ be 4 0xC0A80102 ++ zeros 18 } : EthIn).bytes.length ≤ 1518 ∧ ({ bytes := be 6 broadcast ++ be 6 0x020000000002 ++ be 2 0x0806 ++ be 2 1 ++ be 2 0x0800 ++ be 1 6 ++ be 1 4 ++ be 2 2 ++ be 6 0x020000000002 ++ be 4 0 ++ be 6 0 ++ be 4 0xC0A80102 ++ zeros 18 } : EthIn).fill = 0 ∧ (frameDA ({ bytes := be 6 broadcast ++ be 6 0x020000000002 ++ be 2 0x0806 ++ be 2 1 ++ be 2 0x0800 ++ be 1 6 ++ be 1 4 ++ be 2 2 ++ be 6 0x020000000002 ++ be 4 0 ++ be 6 0 ++ be 4 0xC0A80102 ++ zeros 18 } : EthIn).bytes = broadcast ∨ frameDA ({ bytes := be 6 broadcast ++ be 6 0x020000000002 ++ be 2 0x0806 ++ be 2 1 ++ be 2 0x0800 ++ be 1 6 ++ be 1 4 ++ be 2 2 ++ be 6 0x020000000002 ++ be 4 0 ++ be 6 0 ++ be 4 0xC0A80102 ++ zeros 18 } : EthIn).bytes = (macUp : State).mac) ∧ isReserved (frameDA ({ bytes := be 6 broadcast ++ be 6 0x020000000002 ++ be 2 0x0806 ++ be 2 1 ++ be 2 0x0800 ++ be 1 6 ++ be 1 4 ++ be 2 2 ++ be 6 0x020000000002 ++ be 4 0 ++ be 6 0 ++ be 4 0xC0A80102 ++ zeros 18 } : EthIn).bytes) = false ∧ frameDA ({ bytes := be 6 broadcast ++ be 6 0x020000000002 ++ be 2 0x0806 ++ be 2 1 ++ be 2 0x0800 ++ be 1 6 ++ be 1 4 ++ be 2 2 ++ be 6 0x020000000002 ++ be 4 0 ++ be 6 0 ++ be 4 0xC0A80102 ++ zeros 18 } : EthIn).bytes ≠ chainMac ∧ etherType ({ bytes := be 6 broadcast ++ be 6 0x020000000002 ++ be 2 0x0806 ++ be 2 1 ++ be 2 0x0800 ++ be 1 6 ++ be 1 4 ++ be 2 2 ++ be 6 0x020000000002 ++ be 4 0 ++ be 6 0 ++ be 4 0xC0A80102 ++ zeros 18 } : EthIn).bytes = 0x0806 ∧ (macUp : State).ip ≠ 0 ∧ (({ bytes := be 6 broadcast ++ be 6 0x020000000002 ++ be 2 0x0806 ++ be 2 1 ++ be 2 0x0800 ++ be 1 6 ++ be 1 4 ++ be 2 2 ++ be 6 0x020000000002 ++ be 4 0 ++ be 6 0 ++ be 4 0xC0A80102 ++ zeros 18 } : EthIn).bytes.drop 14).take 8 = be 2 1 ++ be 2 0x0800 ++ be 1 6 ++ be 1 4 ++ be 2 2 ∧ beNat ((({ bytes := be 6 broadcast ++ be 6 0x020000000002 ++ be 2 0x0806 ++ be 2 1 ++ be 2 0x0800 ++ be 1 6 ++ be 1 4 ++ be 2 2 ++ be 6 0x020000000002 ++ be 4 0 ++ be 6 0 ++ be 4 0xC0A80102 ++ zeros 18 } : EthIn).bytes.drop 38).take 4) = (macUp : State).ip ∧ beNat ((({ bytes := be 6 broadcast ++ be 6 0x020000000002 ++ be 2 0x0806 ++ be 2 1 ++ be 2 0x0800 ++ be 1 6 ++ be 1 4 ++ be 2 2 ++ be 6 0x020000000002 ++ be 4 0 ++ be 6 0 ++ be 4 0xC0A80102 ++ zeros 18 } : EthIn).bytes.drop 28).take 4) = (macUp : State).fld F.ETH_IP_GW_GW) ∧
    ((macUp : State).ethUp (0 : Fin 2).val = true ∧ ({ bytes := pingFrame } : EthIn).fcsOk = true ∧ ({ bytes := pingFrame } : EthIn).bytes.length ≤ 1518 ∧ ({ bytes := pingFrame } : EthIn).fill = 0 ∧ frameDA ({ bytes := pingFrame } : EthIn).bytes = (macUp : State).mac ∧ isReserved (macUp : State).mac = false ∧ (macUp : State).mac ≠ chainMac ∧ (macUp : State).ipFor ({ bytes := pingFrame } : EthIn).bytes = some (1, ([8, 0, 1, 2, 3, 4, 5, 6] : List Byte)) ∧ beNat ((({ bytes := pingFrame } : EthIn).bytes.drop 20).take 2) % 0x4000 = 0 ∧ rdN ([8, 0, 1, 2, 3, 4, 5, 6] : List Byte) 0 1 = 8 ∧ rdN ([8, 0, 1, 2, 3, 4, 5, 6] : List Byte) 1 1 = 0 ∧ (be 1 0 ++ be 1 0 ++ be 2 (65535 - fold16 (sum16 (be 1 0 ++ be 1 0 ++ be 2 0 ++ [3, 4, 5, 6]))) ++ [3, 4, 5, 6] : List Byte) = be 1 0 ++ be 1 0 ++ be 2 (65535 - fold16 (sum16 (be 1 0 ++ be 1 0 ++ be 2 0 ++ ([8, 0, 1, 2, 3, 4, 5, 6] : List Byte).drop 4))) ++ ([8, 0, 1, 2, 3, 4, 5, 6] : List Byte).drop 4) ∧
    ((up : State).flag F.ETH_MDIO_GO = false) ∧
    ((up.setFld F.ETH_MDIO_GO 1 : State).flag F.ETH_MDIO_GO = true) ∧
    (((up.setFld F.ETH_MDIO_GO 1).setFld F.ETH_MDIO_READ 1 : State).flag F.ETH_MDIO_GO = true) :=
  by and_intros <;> decide +kernel

set_option maxRecDepth 100000 in
/-- Operands that meet the hypotheses of ChainAndEthernetCommandsComplete, part 1. -/
theorem test_hyp_ChainAndEthernetCommandsComplete_1 :
    ((chainUp : State).ethUp (1 : Fin 2).val = true ∧ (((chainUp : State).ep (1 : Fin 2).val).helloSent.all (fun a => (chainUp : State).passed a (100 * oneMs)) = true) ∧ (chainUp : State).flag F.ETH_CTL_CHAIN_EN = true ∧ (chainUp.chainFrame ctHELLO (le 2 chainUp.site ++ le 1 chainUp.net ++ le 1 1 ++ le 2 (chainUp.fld F.SYS_ID_TYPE_ID) ++ zeros 2) : List Byte) = (chainUp : State).chainFrame ctHELLO (le 2 (chainUp : State).site ++ le 1 (chainUp : State).net ++ le 1 (1 : Fin 2).val ++ le 2 ((chainUp : State).fld F.SYS_ID_TYPE_ID) ++ zeros 2)) ∧
    ((chainUp : State).ethUp (1 : Fin 2).val = true ∧ ({ bytes := chainFrameOf ctHELLO [0, 0, 0, 0, 7, 0, 0, 0] } : EthIn).fcsOk = true ∧ ({ bytes := chainFrameOf ctHELLO [0, 0, 0, 0, 7, 0, 0, 0] } : EthIn).bytes.length ≤ 1518 ∧ ({ bytes := chainFrameOf ctHELLO [0, 0, 0, 0, 7, 0, 0, 0] } : EthIn).fill = 0 ∧ chainPayload ctHELLO ({ bytes := chainFrameOf ctHELLO [0, 0, 0, 0, 7, 0, 0, 0] } : EthIn).bytes = some ([0, 0, 0, 0, 7, 0, 0, 0] : List Byte) ∧ rdN ([0, 0, 0, 0, 7, 0, 0, 0] : List Byte) 0 2 = (chainUp : State).site ∧ (chainUp : State).flag F.ETH_CTL_CHAIN_EN = true ∧ ([0, 0, 0, 0, 7, 0, 0, 0] : List Byte).length = 8) ∧
    ((chainUp.setFld (F.ETH_P_STAT_NBR_OK 1) 1 : State).flag (F.ETH_P_STAT_NBR_OK (1 : Fin 2).val) = true ∧ (chainUp.setFld (F.ETH_P_STAT_NBR_OK 1) 1 : State).passed ((chainUp.setFld (F.ETH_P_STAT_NBR_OK 1) 1 : State).ep (1 : Fin 2).val).helloAt (350 * oneMs) = true) ∧
    ((chainUp : State).ethUp (0 : Fin 2).val = true ∧ ({ bytes := chainFrameOf ctDISCOVER [0, 0, 5, 3, 9, 0, 0, 0] } : EthIn).fcsOk = true ∧ ({ bytes := chainFrameOf ctDISCOVER [0, 0, 5, 3, 9, 0, 0, 0] } : EthIn).bytes.length ≤ 1518 ∧ ({ bytes := chainFrameOf ctDISCOVER [0, 0, 5, 3, 9, 0, 0, 0] } : EthIn).fill = 0 ∧ chainPayload ctDISCOVER ({ bytes := chainFrameOf ctDISCOVER [0, 0, 5, 3, 9, 0, 0, 0] } : EthIn).bytes = some ([0, 0, 5, 3, 9, 0, 0, 0] : List Byte) ∧ rdN ([0, 0, 5, 3, 9, 0, 0, 0] : List Byte) 0 2 = (chainUp : State).site ∧ (chainUp : State).flag F.ETH_CTL_CHAIN_EN = true ∧ ([0, 0, 5, 3, 9, 0, 0, 0] : List Byte).length = 8 ∧ (chainUp.chainFrame ctREPLY ([0, 0, 5, 4, 9, 0] ++ chainUp.ownEntry 0) : List Byte) = (chainUp : State).chainFrame ctREPLY ((([0, 0, 5, 3, 9, 0, 0, 0] : List Byte).take 3 ++ le 1 (rdN ([0, 0, 5, 3, 9, 0, 0, 0] : List Byte) 3 1 + 1)) ++ (([0, 0, 5, 3, 9, 0, 0, 0] : List Byte).drop 4).take 2 ++ (chainUp : State).ownEntry 0) ∧ (chainUp.chainFrame ctDISCOVER [0, 0, 5, 4, 9, 0, 0, 0] : List Byte) = (chainUp : State).chainFrame ctDISCOVER ((([0, 0, 5, 3, 9, 0, 0, 0] : List Byte).take 3 ++ le 1 (rdN ([0, 0, 5, 3, 9, 0, 0, 0] : List Byte) 3 1 + 1)) ++ ([0, 0, 5, 3, 9, 0, 0, 0] : List Byte).drop 4)) ∧
    ((chainUp : State).ethUp (0 : Fin 2).val = true ∧ ({ bytes := chainFrameOf ctREPLY ([0, 0, 5, 3, 9, 0, 4, 0] ++ bytes 14 1) } : EthIn).fcsOk = true ∧ ({ bytes := chainFrameOf ctREPLY ([0, 0, 5, 3, 9, 0, 4, 0] ++ bytes 14 1) } : EthIn).bytes.length ≤ 1518 ∧ ({ bytes := chainFrameOf ctREPLY ([0, 0, 5, 3, 9, 0, 4, 0] ++ bytes 14 1) } : EthIn).fill = 0 ∧ chainPayload ctREPLY ({ bytes := chainFrameOf ctREPLY ([0, 0, 5, 3, 9, 0, 4, 0] ++ bytes 14 1) } : EthIn).bytes = some (([0, 0, 5, 3, 9, 0, 4, 0] ++ bytes 14 1) : List Byte) ∧ rdN (([0, 0, 5, 3, 9, 0, 4, 0] ++ bytes 14 1) : List Byte) 0 2 = (chainUp : State).site ∧ (chainUp : State).flag F.ETH_CTL_CHAIN_EN = true ∧ (([0, 0, 5, 3, 9, 0, 4, 0] ++ bytes 14 1) : List Byte).length = 22 ∧ rdN (([0, 0, 5, 3, 9, 0, 4, 0] ++ bytes 14 1) : List Byte) 2 1 ≠ (chainUp : State).net ∧ (chainUp : State).ethUp (1 - (0 : Fin 2).val) = true ∧ (chainUp.chainFrame ctREPLY ([0, 0, 5, 3, 9, 0, 4, 0] ++ bytes 14 1) : List Byte) = (chainUp : State).chainFrame ctREPLY (([0, 0, 5, 3, 9, 0, 4, 0] ++ bytes 14 1) : List Byte)) :=
  by and_intros <;> decide +kernel

set_option maxRecDepth 100000 in
/-- Operands that meet the hypotheses of ChainAndEthernetCommandsComplete, part 2. -/
theorem test_hyp_ChainAndEthernetCommandsComplete_2 :
    ((discing : State).ethUp (0 : Fin 2).val = true ∧ ({ bytes := chainFrameOf ctREPLY ([0, 0, 0, 3, 9, 0, 4, 0] ++ bytes 14 1) } : EthIn).fcsOk = true ∧ ({ bytes := chainFrameOf ctREPLY ([0, 0, 0, 3, 9, 0, 4, 0] ++ bytes 14 1) } : EthIn).bytes.length ≤ 1518 ∧ ({ bytes := chainFrameOf ctREPLY ([0, 0, 0, 3, 9, 0, 4, 0] ++ bytes 14 1) } : EthIn).fill = 0 ∧ chainPayload ctREPLY ({ bytes := chainFrameOf ctREPLY ([0, 0, 0, 3, 9, 0, 4, 0] ++ bytes 14 1) } : EthIn).bytes = some (([0, 0, 0, 3, 9, 0, 4, 0] ++ bytes 14 1) : List Byte) ∧ rdN (([0, 0, 0, 3, 9, 0, 4, 0] ++ bytes 14 1) : List Byte) 0 2 = (discing : State).site ∧ (discing : State).flag F.ETH_CTL_CHAIN_EN = true ∧ (([0, 0, 0, 3, 9, 0, 4, 0] ++ bytes 14 1) : List Byte).length = 22 ∧ rdN (([0, 0, 0, 3, 9, 0, 4, 0] ++ bytes 14 1) : List Byte) 2 1 = (discing : State).net ∧ (discing : State).eth.disc = [(⟨0, 1, 9, 0, []⟩ : Discovery)] ∧ (⟨0, 1, 9, 0, []⟩ : Discovery).reqId = rdN (([0, 0, 0, 3, 9, 0, 4, 0] ++ bytes 14 1) : List Byte) 4 2 ∧ (⟨0, 1, 9, 0, []⟩ : Discovery).entries.length < 15) ∧
    ((chainUp : State).takes (c0 [9, 0, 0, 0] : Cmd) opChainDiscover = true ∧ (c0 [9, 0, 0, 0] : Cmd).payload.length = 4 ∧ (chainUp : State).flag F.ETH_CTL_CHAIN_EN = true ∧ (chainUp.chainFrame ctDISCOVER (le 2 0 ++ le 1 0 ++ le 1 0 ++ [9, 0, 0, 0]) : List Byte) = (chainUp : State).chainFrame ctDISCOVER (le 2 (chainUp : State).site ++ le 1 (chainUp : State).net ++ le 1 0 ++ (c0 [9, 0, 0, 0] : Cmd).payload.take 2 ++ zeros 2)) ∧
    ((asksChain : State).eth.disc = (⟨0, 1, 9, 0, []⟩ : Discovery) :: ([] : List Discovery) ∧ (asksChain : State).passed (⟨0, 1, 9, 0, []⟩ : Discovery).at_ (10 * oneMs) = true ∧ ((asksChain : State).sess (⟨0, 1, 9, 0, []⟩ : Discovery).sid).outst = [({ seq := 1, opcode := 0x0A05, src := 0 } : Outst)] ∧ ({ seq := 1, opcode := 0x0A05, src := 0 } : Outst).seq = (⟨0, 1, 9, 0, []⟩ : Discovery).seq ∧ ({ seq := 1, opcode := 0x0A05, src := 0 } : Outst).opcode = 0x0A05 ∧ ({ seq := 1, opcode := 0x0A05, src := 0 } : Outst).reply = none ∧ (asksChain : State).svb.posts = []) ∧
    ((dozing : State).pwr.state = .dormant ∧ (0 : Fin 2).val = (dozing : State).fld F.ETH_WAKE_CTL_PORT ∧ ({ bytes := bytes 6 255 ++ (List.replicate 16 dozing.macBytes).flatten } : EthIn).fcsOk = true ∧ ({ bytes := bytes 6 255 ++ (List.replicate 16 dozing.macBytes).flatten } : EthIn).bytes.length ≤ 1518 ∧ (dozing : State).flag F.PWR_WAKE_ETH_EN = true ∧ (((dozing : State).wakeCause ({ bytes := bytes 6 255 ++ (List.replicate 16 dozing.macBytes).flatten } : EthIn).bytes).1 = 1 ∨ ((dozing : State).wakeCause ({ bytes := bytes 6 255 ++ (List.replicate 16 dozing.macBytes).flatten } : EthIn).bytes).1 = 2)) ∧
    ((dozing.setFld F.ETH_WAKE_CTL_CHAIN_STOP 1 : State).pwr.state = .dormant ∧ (0 : Fin 2).val = (dozing.setFld F.ETH_WAKE_CTL_CHAIN_STOP 1 : State).fld F.ETH_WAKE_CTL_PORT ∧ ({ bytes := stopChainFrame } : EthIn).fcsOk = true ∧ ({ bytes := stopChainFrame } : EthIn).bytes.length ≤ 1518 ∧ ((dozing.setFld F.ETH_WAKE_CTL_CHAIN_STOP 1 : State).wakeCause ({ bytes := stopChainFrame } : EthIn).bytes).1 = 3) :=
  by and_intros <;> decide +kernel

set_option maxRecDepth 100000 in
/-- Operands that meet the hypotheses of ChainAndEthernetCommandsComplete, part 3. -/
theorem test_hyp_ChainAndEthernetCommandsComplete_3 :
    ((lev2 stopUp : State).takes (c1 [1, 14, 2, 0, 5, 0, 0, 0, 6, 0, 0, 0] : Cmd) opEthPortConfig = true ∧ (c1 [1, 14, 2, 0, 5, 0, 0, 0, 6, 0, 0, 0] : Cmd).payload.length = 12 ∧ (1 : Nat) = rdN (c1 [1, 14, 2, 0, 5, 0, 0, 0, 6, 0, 0, 0] : Cmd).payload 0 1 ∧ (1 : Nat) < 2 ∧ rdN (c1 [1, 14, 2, 0, 5, 0, 0, 0, 6, 0, 0, 0] : Cmd).payload 2 1 ≤ 2) ∧
    ((lev2 stopUp : State).takes (c1 [1, 14, 3, 0, 5, 0, 0, 0, 6, 0, 0, 0] : Cmd) opEthPortConfig = true ∧ (((c1 [1, 14, 3, 0, 5, 0, 0, 0, 6, 0, 0, 0] : Cmd).payload.length = 12 ∧ (2 < rdN (c1 [1, 14, 3, 0, 5, 0, 0, 0, 6, 0, 0, 0] : Cmd).payload 0 1 ∨ (rdN (c1 [1, 14, 3, 0, 5, 0, 0, 0, 6, 0, 0, 0] : Cmd).payload 0 1 ≠ 2 ∧ 2 < rdN (c1 [1, 14, 3, 0, 5, 0, 0, 0, 6, 0, 0, 0] : Cmd).payload 2 1))) ∨ ((c1 [1, 14, 3, 0, 5, 0, 0, 0, 6, 0, 0, 0] : Cmd).payload.length = 16 ∧ (2 < rdN (c1 [1, 14, 3, 0, 5, 0, 0, 0, 6, 0, 0, 0] : Cmd).payload 0 1 ∨ (rdN (c1 [1, 14, 3, 0, 5, 0, 0, 0, 6, 0, 0, 0] : Cmd).payload 0 1 = 2 ∧ (30 < rdN (c1 [1, 14, 3, 0, 5, 0, 0, 0, 6, 0, 0, 0] : Cmd).payload 8 1 ∨ (0 < rdN (c1 [1, 14, 3, 0, 5, 0, 0, 0, 6, 0, 0, 0] : Cmd).payload 8 1 ∧ rdN (c1 [1, 14, 3, 0, 5, 0, 0, 0, 6, 0, 0, 0] : Cmd).payload 8 1 < 8))))))) ∧
    ((lev2 stopUp : State).takes (c1 [2, 0, 0, 0, 1, 2, 168, 192, 24, 0, 0, 0, 1, 1, 168, 192] : Cmd) opEthPortConfig = true ∧ (c1 [2, 0, 0, 0, 1, 2, 168, 192, 24, 0, 0, 0, 1, 1, 168, 192] : Cmd).payload.length = 16 ∧ rdN (c1 [2, 0, 0, 0, 1, 2, 168, 192, 24, 0, 0, 0, 1, 1, 168, 192] : Cmd).payload 0 1 = 2 ∧ (rdN (c1 [2, 0, 0, 0, 1, 2, 168, 192, 24, 0, 0, 0, 1, 1, 168, 192] : Cmd).payload 8 1 = 0 ∨ 8 ≤ rdN (c1 [2, 0, 0, 0, 1, 2, 168, 192, 24, 0, 0, 0, 1, 1, 168, 192] : Cmd).payload 8 1 ∧ rdN (c1 [2, 0, 0, 0, 1, 2, 168, 192, 24, 0, 0, 0, 1, 1, 168, 192] : Cmd).payload 8 1 ≤ 30)) ∧
    ((lev2 stopUp : State).takes (c1 [1, 3, 5, 128, 127, 255, 0, 0, 3, 0, 0, 0] : Cmd) opPtpConfig = true ∧ (c1 [1, 3, 5, 128, 127, 255, 0, 0, 3, 0, 0, 0] : Cmd).payload.length = 12 ∧ rdN (c1 [1, 3, 5, 128, 127, 255, 0, 0, 3, 0, 0, 0] : Cmd).payload 0 1 ≤ 3 ∧ rdN (c1 [1, 3, 5, 128, 127, 255, 0, 0, 3, 0, 0, 0] : Cmd).payload 2 1 ≤ 127 ∧ (-7 ≤ rdI (c1 [1, 3, 5, 128, 127, 255, 0, 0, 3, 0, 0, 0] : Cmd).payload 5 1 ∧ rdI (c1 [1, 3, 5, 128, 127, 255, 0, 0, 3, 0, 0, 0] : Cmd).payload 5 1 ≤ 1) ∧ (-3 ≤ rdI (c1 [1, 3, 5, 128, 127, 255, 0, 0, 3, 0, 0, 0] : Cmd).payload 6 1 ∧ rdI (c1 [1, 3, 5, 128, 127, 255, 0, 0, 3, 0, 0, 0] : Cmd).payload 6 1 ≤ 4) ∧ (-7 ≤ rdI (c1 [1, 3, 5, 128, 127, 255, 0, 0, 3, 0, 0, 0] : Cmd).payload 7 1 ∧ rdI (c1 [1, 3, 5, 128, 127, 255, 0, 0, 3, 0, 0, 0] : Cmd).payload 7 1 ≤ 5) ∧ (2 ≤ rdN (c1 [1, 3, 5, 128, 127, 255, 0, 0, 3, 0, 0, 0] : Cmd).payload 8 1 ∧ rdN (c1 [1, 3, 5, 128, 127, 255, 0, 0, 3, 0, 0, 0] : Cmd).payload 8 1 ≤ 10)) ∧
    ((lev2 stopUp : State).takes (c1 [4, 3, 5, 128, 127, 255, 0, 0, 3, 0, 0, 0] : Cmd) opPtpConfig = true ∧ (c1 [4, 3, 5, 128, 127, 255, 0, 0, 3, 0, 0, 0] : Cmd).payload.length = 12 ∧ (¬ (rdN (c1 [4, 3, 5, 128, 127, 255, 0, 0, 3, 0, 0, 0] : Cmd).payload 0 1 ≤ 3 ∧ rdN (c1 [4, 3, 5, 128, 127, 255, 0, 0, 3, 0, 0, 0] : Cmd).payload 2 1 ≤ 127 ∧ -7 ≤ rdI (c1 [4, 3, 5, 128, 127, 255, 0, 0, 3, 0, 0, 0] : Cmd).payload 5 1 ∧ rdI (c1 [4, 3, 5, 128, 127, 255, 0, 0, 3, 0, 0, 0] : Cmd).payload 5 1 ≤ 1 ∧ -3 ≤ rdI (c1 [4, 3, 5, 128, 127, 255, 0, 0, 3, 0, 0, 0] : Cmd).payload 6 1 ∧ rdI (c1 [4, 3, 5, 128, 127, 255, 0, 0, 3, 0, 0, 0] : Cmd).payload 6 1 ≤ 4 ∧ -7 ≤ rdI (c1 [4, 3, 5, 128, 127, 255, 0, 0, 3, 0, 0, 0] : Cmd).payload 7 1 ∧ rdI (c1 [4, 3, 5, 128, 127, 255, 0, 0, 3, 0, 0, 0] : Cmd).payload 7 1 ≤ 5 ∧ 2 ≤ rdN (c1 [4, 3, 5, 128, 127, 255, 0, 0, 3, 0, 0, 0] : Cmd).payload 8 1 ∧ rdN (c1 [4, 3, 5, 128, 127, 255, 0, 0, 3, 0, 0, 0] : Cmd).payload 8 1 ≤ 10))) :=
  by and_intros <;> decide +kernel

set_option maxRecDepth 100000 in
/-- Operands that meet the hypotheses of LinkDelayAndPtpClockComplete, part 1. -/
theorem test_hyp_LinkDelayAndPtpClockComplete_1 :
    ((p2pUp : State).ethUp (0 : Fin 2).val = true ∧ (p2pUp : State).p2p = true ∧ (((p2pUp : State).ep (0 : Fin 2).val).pdAt.all (fun a => (p2pUp : State).passed a (logNs ((p2pUp : State).fld F.ETH_PTP_INT_LOG_DREQ))) = true)) ∧
    ((p2pUp : State).ethUp (0 : Fin 2).val = true ∧ (ptpFrame ptPDELAY_RESP 0 (be 10 0 ++ be 10 (p2pUp.portId 1)) : EthIn).fcsOk = true ∧ (ptpFrame ptPDELAY_RESP 0 (be 10 0 ++ be 10 (p2pUp.portId 1)) : EthIn).bytes.length ≤ 1518 ∧ (ptpFrame ptPDELAY_RESP 0 (be 10 0 ++ be 10 (p2pUp.portId 1)) : EthIn).fill = 0 ∧ ptpAt (ptpFrame ptPDELAY_RESP 0 (be 10 0 ++ be 10 (p2pUp.portId 1)) : EthIn).bytes = some ((0 : Nat), (14 : Nat)) ∧ (p2pUp : State).p2p = true ∧ ptpReq (ptpFrame ptPDELAY_RESP 0 (be 10 0 ++ be 10 (p2pUp.portId 1)) : EthIn).bytes (14 : Nat) = (p2pUp : State).portId ((0 : Fin 2).val + 1) ∧ ptpSeq (ptpFrame ptPDELAY_RESP 0 (be 10 0 ++ be 10 (p2pUp.portId 1)) : EthIn).bytes (14 : Nat) = ((p2pUp : State).ep (0 : Fin 2).val).pdSeq ∧ ((p2pUp : State).ep (0 : Fin 2).val).pdT1 = some (1000 : Int) ∧ ptpType (ptpFrame ptPDELAY_RESP 0 (be 10 0 ++ be 10 (p2pUp.portId 1)) : EthIn).bytes (14 : Nat) = ptPDELAY_RESP ∧ ptpTwoStep (ptpFrame ptPDELAY_RESP 0 (be 10 0 ++ be 10 (p2pUp.portId 1)) : EthIn).bytes (14 : Nat) = false) ∧
    ((p2pUp : State).ethUp (0 : Fin 2).val = true ∧ (ptpFrame ptPDELAY_RESP 512 (be 10 0 ++ be 10 (p2pUp.portId 1)) : EthIn).fcsOk = true ∧ (ptpFrame ptPDELAY_RESP 512 (be 10 0 ++ be 10 (p2pUp.portId 1)) : EthIn).bytes.length ≤ 1518 ∧ (ptpFrame ptPDELAY_RESP 512 (be 10 0 ++ be 10 (p2pUp.portId 1)) : EthIn).fill = 0 ∧ ptpAt (ptpFrame ptPDELAY_RESP 512 (be 10 0 ++ be 10 (p2pUp.portId 1)) : EthIn).bytes = some ((0 : Nat), (14 : Nat)) ∧ (p2pUp : State).p2p = true ∧ ptpReq (ptpFrame ptPDELAY_RESP 512 (be 10 0 ++ be 10 (p2pUp.portId 1)) : EthIn).bytes (14 : Nat) = (p2pUp : State).portId ((0 : Fin 2).val + 1) ∧ ptpSeq (ptpFrame ptPDELAY_RESP 512 (be 10 0 ++ be 10 (p2pUp.portId 1)) : EthIn).bytes (14 : Nat) = ((p2pUp : State).ep (0 : Fin 2).val).pdSeq ∧ ((p2pUp : State).ep (0 : Fin 2).val).pdT1 = some (1000 : Int) ∧ ptpType (ptpFrame ptPDELAY_RESP 512 (be 10 0 ++ be 10 (p2pUp.portId 1)) : EthIn).bytes (14 : Nat) = ptPDELAY_RESP ∧ ptpTwoStep (ptpFrame ptPDELAY_RESP 512 (be 10 0 ++ be 10 (p2pUp.portId 1)) : EthIn).bytes (14 : Nat) = true) ∧
    ((p2pUp.setEp 0 { p2pUp.ep 0 with pdTwo := some (9000, 500, 0) } : State).ethUp (0 : Fin 2).val = true ∧ (ptpFrame ptPDELAY_FOLLOW 0 (be 10 0 ++ be 10 (p2pUp.portId 1)) : EthIn).fcsOk = true ∧ (ptpFrame ptPDELAY_FOLLOW 0 (be 10 0 ++ be 10 (p2pUp.portId 1)) : EthIn).bytes.length ≤ 1518 ∧ (ptpFrame ptPDELAY_FOLLOW 0 (be 10 0 ++ be 10 (p2pUp.portId 1)) : EthIn).fill = 0 ∧ ptpAt (ptpFrame ptPDELAY_FOLLOW 0 (be 10 0 ++ be 10 (p2pUp.portId 1)) : EthIn).bytes = some ((0 : Nat), (14 : Nat)) ∧ (p2pUp.setEp 0 { p2pUp.ep 0 with pdTwo := some (9000, 500, 0) } : State).p2p = true ∧ ptpReq (ptpFrame ptPDELAY_FOLLOW 0 (be 10 0 ++ be 10 (p2pUp.portId 1)) : EthIn).bytes (14 : Nat) = (p2pUp.setEp 0 { p2pUp.ep 0 with pdTwo := some (9000, 500, 0) } : State).portId ((0 : Fin 2).val + 1) ∧ ptpSeq (ptpFrame ptPDELAY_FOLLOW 0 (be 10 0 ++ be 10 (p2pUp.portId 1)) : EthIn).bytes (14 : Nat) = ((p2pUp.setEp 0 { p2pUp.ep 0 with pdTwo := some (9000, 500, 0) } : State).ep (0 : Fin 2).val).pdSeq ∧ ((p2pUp.setEp 0 { p2pUp.ep 0 with pdTwo := some (9000, 500, 0) } : State).ep (0 : Fin 2).val).pdT1 = some (1000 : Int) ∧ ptpType (ptpFrame ptPDELAY_FOLLOW 0 (be 10 0 ++ be 10 (p2pUp.portId 1)) : EthIn).bytes (14 : Nat) = ptPDELAY_FOLLOW ∧ ((p2pUp.setEp 0 { p2pUp.ep 0 with pdTwo := some (9000, 500, 0) } : State).ep (0 : Fin 2).val).pdTwo = some ((9000 : Int), (500 : Int), (0 : Int))) ∧
    ((p2pUp : State).ethUp (0 : Fin 2).val = true ∧ (ptpFrame ptPDELAY_REQ 0 (zeros 20) : EthIn).fcsOk = true ∧ (ptpFrame ptPDELAY_REQ 0 (zeros 20) : EthIn).bytes.length ≤ 1518 ∧ (ptpFrame ptPDELAY_REQ 0 (zeros 20) : EthIn).fill = 0 ∧ ptpAt (ptpFrame ptPDELAY_REQ 0 (zeros 20) : EthIn).bytes = some ((0 : Nat), (14 : Nat)) ∧ (p2pUp : State).p2p = true ∧ ptpType (ptpFrame ptPDELAY_REQ 0 (zeros 20) : EthIn).bytes (14 : Nat) = ptPDELAY_REQ) :=
  by and_intros <;> decide +kernel

set_option maxRecDepth 100000 in
/-- Operands that meet the hypotheses of LinkDelayAndPtpClockComplete, part 2. -/
theorem test_hyp_LinkDelayAndPtpClockComplete_2 :
    ((p2pUp.setFld F.ETH_PTP_CTL_TC_MODE 0 : State).ethUp (0 : Fin 2).val = true ∧ (ptpFrame ptPDELAY_REQ 0 (zeros 20) : EthIn).fcsOk = true ∧ (ptpFrame ptPDELAY_REQ 0 (zeros 20) : EthIn).bytes.length ≤ 1518 ∧ (ptpFrame ptPDELAY_REQ 0 (zeros 20) : EthIn).fill = 0 ∧ ptpAt (ptpFrame ptPDELAY_REQ 0 (zeros 20) : EthIn).bytes = some ((0 : Nat), (14 : Nat)) ∧ (p2pUp.setFld F.ETH_PTP_CTL_TC_MODE 0 : State).p2p = false ∧ ptpType (ptpFrame ptPDELAY_REQ 0 (zeros 20) : EthIn).bytes (14 : Nat) = ptPDELAY_REQ) ∧
    ((slaveOnly : State).ethUp (0 : Fin 2).val = true ∧ (ptpFrame ptANNOUNCE 0 (zeros 30) : EthIn).fcsOk = true ∧ (ptpFrame ptANNOUNCE 0 (zeros 30) : EthIn).bytes.length ≤ 1518 ∧ (ptpFrame ptANNOUNCE 0 (zeros 30) : EthIn).fill = 0 ∧ ptpAt (ptpFrame ptANNOUNCE 0 (zeros 30) : EthIn).bytes = some ((0 : Nat), (14 : Nat)) ∧ (isPtpGroup (frameDA (ptpFrame ptANNOUNCE 0 (zeros 30) : EthIn).bytes) = true ∨ (frameDA (ptpFrame ptANNOUNCE 0 (zeros 30) : EthIn).bytes = (slaveOnly : State).mac ∧ isReserved (slaveOnly : State).mac = false ∧ (slaveOnly : State).mac ≠ chainMac)) ∧ (slaveOnly : State).fld F.ETH_PTP_CTL_ROLE ≠ 0 ∧ (0 : Nat) = (slaveOnly : State).fld F.ETH_PTP_CTL_TRANSPORT ∧ rdN (ptpFrame ptANNOUNCE 0 (zeros 30) : EthIn).bytes ((14 : Nat) + 4) 1 = (slaveOnly : State).fld F.ETH_PTP_CTL_DOMAIN ∧ ptpType (ptpFrame ptANNOUNCE 0 (zeros 30) : EthIn).bytes (14 : Nat) = ptANNOUNCE ∧ (slaveOnly : State).fld F.ETH_PTP_CTL_ROLE = 1 ∧ ptpSrc (ptpFrame ptANNOUNCE 0 (zeros 30) : EthIn).bytes (14 : Nat) / 65536 ≠ (slaveOnly : State).clockId ∧ (slaveOnly : State).eth.ptp.best = none) ∧
    ((slaveUp : State).ethUp (0 : Fin 2).val = true ∧ (ptpFrame ptSYNC 0 (zeros 20) : EthIn).fcsOk = true ∧ (ptpFrame ptSYNC 0 (zeros 20) : EthIn).bytes.length ≤ 1518 ∧ (ptpFrame ptSYNC 0 (zeros 20) : EthIn).fill = 0 ∧ ptpAt (ptpFrame ptSYNC 0 (zeros 20) : EthIn).bytes = some ((0 : Nat), (14 : Nat)) ∧ (isPtpGroup (frameDA (ptpFrame ptSYNC 0 (zeros 20) : EthIn).bytes) = true ∨ (frameDA (ptpFrame ptSYNC 0 (zeros 20) : EthIn).bytes = (slaveUp : State).mac ∧ isReserved (slaveUp : State).mac = false ∧ (slaveUp : State).mac ≠ chainMac)) ∧ (slaveUp : State).fld F.ETH_PTP_CTL_ROLE ≠ 0 ∧ (0 : Nat) = (slaveUp : State).fld F.ETH_PTP_CTL_TRANSPORT ∧ rdN (ptpFrame ptSYNC 0 (zeros 20) : EthIn).bytes ((14 : Nat) + 4) 1 = (slaveUp : State).fld F.ETH_PTP_CTL_DOMAIN ∧ (slaveUp : State).fromMaster (0 : Fin 2).val (ptpFrame ptSYNC 0 (zeros 20) : EthIn).bytes (14 : Nat) = true ∧ ptpType (ptpFrame ptSYNC 0 (zeros 20) : EthIn).bytes (14 : Nat) = ptSYNC ∧ ptpTwoStep (ptpFrame ptSYNC 0 (zeros 20) : EthIn).bytes (14 : Nat) = false) ∧
    ((slaveUp : State).ethUp (0 : Fin 2).val = true ∧ (ptpFrame ptSYNC 512 (zeros 20) : EthIn).fcsOk = true ∧ (ptpFrame ptSYNC 512 (zeros 20) : EthIn).bytes.length ≤ 1518 ∧ (ptpFrame ptSYNC 512 (zeros 20) : EthIn).fill = 0 ∧ ptpAt (ptpFrame ptSYNC 512 (zeros 20) : EthIn).bytes = some ((0 : Nat), (14 : Nat)) ∧ (isPtpGroup (frameDA (ptpFrame ptSYNC 512 (zeros 20) : EthIn).bytes) = true ∨ (frameDA (ptpFrame ptSYNC 512 (zeros 20) : EthIn).bytes = (slaveUp : State).mac ∧ isReserved (slaveUp : State).mac = false ∧ (slaveUp : State).mac ≠ chainMac)) ∧ (slaveUp : State).fld F.ETH_PTP_CTL_ROLE ≠ 0 ∧ (0 : Nat) = (slaveUp : State).fld F.ETH_PTP_CTL_TRANSPORT ∧ rdN (ptpFrame ptSYNC 512 (zeros 20) : EthIn).bytes ((14 : Nat) + 4) 1 = (slaveUp : State).fld F.ETH_PTP_CTL_DOMAIN ∧ (slaveUp : State).fromMaster (0 : Fin 2).val (ptpFrame ptSYNC 512 (zeros 20) : EthIn).bytes (14 : Nat) = true ∧ ptpType (ptpFrame ptSYNC 512 (zeros 20) : EthIn).bytes (14 : Nat) = ptSYNC ∧ ptpTwoStep (ptpFrame ptSYNC 512 (zeros 20) : EthIn).bytes (14 : Nat) = true) ∧
    (({ slaveUp with eth := { slaveUp.eth with ptp := { slaveUp.eth.ptp with two := some (0, 7, 8) } } } : State).ethUp (0 : Fin 2).val = true ∧ (ptpFrame ptFOLLOW_UP 0 (zeros 20) : EthIn).fcsOk = true ∧ (ptpFrame ptFOLLOW_UP 0 (zeros 20) : EthIn).bytes.length ≤ 1518 ∧ (ptpFrame ptFOLLOW_UP 0 (zeros 20) : EthIn).fill = 0 ∧ ptpAt (ptpFrame ptFOLLOW_UP 0 (zeros 20) : EthIn).bytes = some ((0 : Nat), (14 : Nat)) ∧ (isPtpGroup (frameDA (ptpFrame ptFOLLOW_UP 0 (zeros 20) : EthIn).bytes) = true ∨ (frameDA (ptpFrame ptFOLLOW_UP 0 (zeros 20) : EthIn).bytes = ({ slaveUp with eth := { slaveUp.eth with ptp := { slaveUp.eth.ptp with two := some (0, 7, 8) } } } : State).mac ∧ isReserved ({ slaveUp with eth := { slaveUp.eth with ptp := { slaveUp.eth.ptp with two := some (0, 7, 8) } } } : State).mac = false ∧ ({ slaveUp with eth := { slaveUp.eth with ptp := { slaveUp.eth.ptp with two := some (0, 7, 8) } } } : State).mac ≠ chainMac)) ∧ ({ slaveUp with eth := { slaveUp.eth with ptp := { slaveUp.eth.ptp with two := some (0, 7, 8) } } } : State).fld F.ETH_PTP_CTL_ROLE ≠ 0 ∧ (0 : Nat) = ({ slaveUp with eth := { slaveUp.eth with ptp := { slaveUp.eth.ptp with two := some (0, 7, 8) } } } : State).fld F.ETH_PTP_CTL_TRANSPORT ∧ rdN (ptpFrame ptFOLLOW_UP 0 (zeros 20) : EthIn).bytes ((14 : Nat) + 4) 1 = ({ slaveUp with eth := { slaveUp.eth with ptp := { slaveUp.eth.ptp with two := some (0, 7, 8) } } } : State).fld F.ETH_PTP_CTL_DOMAIN ∧ ({ slaveUp with eth := { slaveUp.eth with ptp := { slaveUp.eth.ptp with two := some (0, 7, 8) } } } : State).fromMaster (0 : Fin 2).val (ptpFrame ptFOLLOW_UP 0 (zeros 20) : EthIn).bytes (14 : Nat) = true ∧ ptpType (ptpFrame ptFOLLOW_UP 0 (zeros 20) : EthIn).bytes (14 : Nat) = ptFOLLOW_UP ∧ ({ slaveUp with eth := { slaveUp.eth with ptp := { slaveUp.eth.ptp with two := some (0, 7, 8) } } } : State).eth.ptp.two = some (ptpSeq (ptpFrame ptFOLLOW_UP 0 (zeros 20) : EthIn).bytes (14 : Nat), (7 : Int), (8 : Int))) :=
  by and_intros <;> decide +kernel

set_option maxRecDepth 100000 in
/-- Operands that meet the hypotheses of LinkDelayAndPtpClockComplete, part 3. -/
theorem test_hyp_LinkDelayAndPtpClockComplete_3 :
    ((slaveAsks : State).ethUp (0 : Fin 2).val = true ∧ (ptpFrame ptDELAY_RESP 0 (be 10 0 ++ be 10 (slaveUp.portId 1)) : EthIn).fcsOk = true ∧ (ptpFrame ptDELAY_RESP 0 (be 10 0 ++ be 10 (slaveUp.portId 1)) : EthIn).bytes.length ≤ 1518 ∧ (ptpFrame ptDELAY_RESP 0 (be 10 0 ++ be 10 (slaveUp.portId 1)) : EthIn).fill = 0 ∧ ptpAt (ptpFrame ptDELAY_RESP 0 (be 10 0 ++ be 10 (slaveUp.portId 1)) : EthIn).bytes = some ((0 : Nat), (14 : Nat)) ∧ (isPtpGroup (frameDA (ptpFrame ptDELAY_RESP 0 (be 10 0 ++ be 10 (slaveUp.portId 1)) : EthIn).bytes) = true ∨ (frameDA (ptpFrame ptDELAY_RESP 0 (be 10 0 ++ be 10 (slaveUp.portId 1)) : EthIn).bytes = (slaveAsks : State).mac ∧ isReserved (slaveAsks : State).mac = false ∧ (slaveAsks : State).mac ≠ chainMac)) ∧ (slaveAsks : State).fld F.ETH_PTP_CTL_ROLE ≠ 0 ∧ (0 : Nat) = (slaveAsks : State).fld F.ETH_PTP_CTL_TRANSPORT ∧ rdN (ptpFrame ptDELAY_RESP 0 (be 10 0 ++ be 10 (slaveUp.portId 1)) : EthIn).bytes ((14 : Nat) + 4) 1 = (slaveAsks : State).fld F.ETH_PTP_CTL_DOMAIN ∧ (slaveAsks : State).fromMaster (0 : Fin 2).val (ptpFrame ptDELAY_RESP 0 (be 10 0 ++ be 10 (slaveUp.portId 1)) : EthIn).bytes (14 : Nat) = true ∧ ptpType (ptpFrame ptDELAY_RESP 0 (be 10 0 ++ be 10 (slaveUp.portId 1)) : EthIn).bytes (14 : Nat) = ptDELAY_RESP ∧ ptpReq (ptpFrame ptDELAY_RESP 0 (be 10 0 ++ be 10 (slaveUp.portId 1)) : EthIn).bytes (14 : Nat) = (slaveAsks : State).portId 1 ∧ (slaveAsks : State).eth.ptp.sync = some ((7 : Int), (8 : Int)) ∧ (slaveAsks : State).eth.ptp.dreq = some (ptpSeq (ptpFrame ptDELAY_RESP 0 (be 10 0 ++ be 10 (slaveUp.portId 1)) : EthIn).bytes (14 : Nat), (9 : Int))) ∧
    ((slaveUp : State).fld F.ETH_PTP_CTL_ROLE % 2 = 1 ∧ (slaveUp : State).passed (((slaveUp : State).eth.ptp.best.map (·.at_)).getD (slaveUp : State).eth.ptp.since) (slaveUp : State).announceWait = true ∧ (slaveUp : State).pwr.hubReady = true ∧ (slaveUp : State).pwr.state ≠ .dormant) ∧
    ((ptpMaster : State).ptpState = psMASTER ∧ ((ptpMaster : State).eth.ptp.syncAt.all (fun a => (ptpMaster : State).passed a (logNs ((ptpMaster : State).fld F.ETH_PTP_INT_LOG_SYNC))) = true)) ∧
    ((ptpMaster : State).ptpState = psMASTER ∧ ((ptpMaster : State).eth.ptp.annAt.all (fun a => (ptpMaster : State).passed a (logNs ((ptpMaster : State).fld F.ETH_PTP_INT_LOG_ANN))) = true)) ∧
    ((slaveUp : State).ptpState = psSLAVE ∧ (slaveUp : State).p2p = false ∧ ((slaveUp : State).eth.ptp.dreqAt.all (fun a => (slaveUp : State).passed a (logNs ((slaveUp : State).fld F.ETH_PTP_INT_LOG_DREQ))) = true) ∧ (0 : Nat) = (slaveUp : State).fld F.ETH_PTP_STAT_SLAVE_PORT ∧ (0 : Nat) < 2 ∧ (slaveUp : State).ethUp (0 : Nat) = true) :=
  by and_intros <;> decide +kernel

set_option maxRecDepth 100000 in
/-- Operands that meet the hypotheses of MeteringSamplesFaultsAndCopiesComplete, part 1. -/
theorem test_hyp_MeteringSamplesFaultsAndCopiesComplete_1 :
    ((metering : State).mtr.running = true ∧ (metering : State).mtrOn 0 = true ∧ (metering : State).meterClock = true ∧ ((metering.sampleChannels 0 mtrX).sampleChannels 1 {} : State) = ((metering : State).sampleChannels 0 (mtrX : MtrIn)).sampleChannels 1 ({} : MtrIn)) ∧
    ((metering : State).mtr.running = true ∧ (metering : State).mtrOn 1 = true ∧ (metering : State).meterClock = true ∧ ((metering.sampleChannels 0 mtrX).sampleChannels 1 mtrX : State) = ((metering : State).sampleChannels 0 (mtrX : MtrIn)).sampleChannels 1 (mtrX : MtrIn)) ∧
    ((metering : State).mtr.running = true ∧ (metering : State).pwr.hubReady = true ∧ (metering : State).pwr.state ≠ .dormant ∧ (metering : State).mtr.second < (metering : State).now / oneSec) ∧
    ((up : State).mtr.running = false ∧ (up : State).pwr.hubReady = true ∧ (up : State).pwr.state ≠ .dormant ∧ (up : State).mtr.second < (up : State).now / oneSec) ∧
    ((metering : State).mtr.running = true ∧ (metering : State).mtrOn (1 : Fin 2).val = true) :=
  ⟨⟨by decide +kernel, by decide +kernel, (by decide +kernel), rfl⟩, ⟨by decide +kernel, by decide +kernel, (by decide +kernel), rfl⟩, by decide +kernel, by decide +kernel, (by decide +kernel)⟩

set_option maxRecDepth 100000 in
/-- Operands that meet the hypotheses of MeteringSamplesFaultsAndCopiesComplete, part 2. -/
theorem test_hyp_MeteringSamplesFaultsAndCopiesComplete_2 :
    ((metering.setMp 0 { channels := [(3, { idle := 1024 })] } : State).mtr.running = true ∧ (metering.setMp 0 { channels := [(3, { idle := 1024 })] } : State).mtrOn (0 : Fin 2).val = true ∧ (1 : Fin 3).val < 2 ∧ Tbl.get 0 ((metering.setMp 0 { channels := [(3, { idle := 1024 })] } : State).mp (0 : Fin 2).val).chan (3 : Fin 7).val ≠ (1 : Fin 3).val + 1 ∧ (if (1 : Fin 3).val = 0 then (((metering.setMp 0 { channels := [(3, { idle := 1024 })] } : State).mp (0 : Fin 2).val).channel (3 : Fin 7).val).saturated else (((metering.setMp 0 { channels := [(3, { idle := 1024 })] } : State).mp (0 : Fin 2).val).channel (3 : Fin 7).val).noData) = true) ∧
    ((metering.setMp 0 { chan := [(3, 1)] } : State).mtr.running = true ∧ (metering.setMp 0 { chan := [(3, 1)] } : State).mtrOn (0 : Fin 2).val = true ∧ (2 : Fin 3).val = 2 ∧ Tbl.get 0 ((metering.setMp 0 { chan := [(3, 1)] } : State).mp (0 : Fin 2).val).chan (3 : Fin 7).val ≠ 0 ∧ (((metering.setMp 0 { chan := [(3, 1)] } : State).mp (0 : Fin 2).val).channel (3 : Fin 7).val).saturated = false ∧ (((metering.setMp 0 { chan := [(3, 1)] } : State).mp (0 : Fin 2).val).channel (3 : Fin 7).val).noData = false ∧ (metering.setMp 0 { chan := [(3, 1)] } : State).passed (((metering.setMp 0 { chan := [(3, 1)] } : State).mp (0 : Fin 2).val).channel (3 : Fin 7).val).badAt oneSec = true) ∧
    ((metering.setMp 0 { faultIn := [(3, 1)] } : State).mtr.running = true ∧ (metering.setMp 0 { faultIn := [(3, 1)] } : State).mtrOn (0 : Fin 2).val = true ∧ bit ((metering.setMp 0 { faultIn := [(3, 1)] } : State).mtrFlags (0 : Fin 2).val) (6 : Fin 7).val = false ∧ ((metering.setMp 0 { faultIn := [(3, 1)] } : State).faultDue (0 : Fin 2).val (6 : Fin 7).val).1 = true) ∧
    (((metering.setMp 0 { faultOut := [(3, 5)] }).setFld F.MTR_STAT_P0 64 : State).mtr.running = true ∧ ((metering.setMp 0 { faultOut := [(3, 5)] }).setFld F.MTR_STAT_P0 64 : State).mtrOn (0 : Fin 2).val = true ∧ bit (((metering.setMp 0 { faultOut := [(3, 5)] }).setFld F.MTR_STAT_P0 64 : State).mtrFlags (0 : Fin 2).val) (6 : Fin 7).val = true ∧ (((metering.setMp 0 { faultOut := [(3, 5)] }).setFld F.MTR_STAT_P0 64 : State).faultDue (0 : Fin 2).val (6 : Fin 7).val).2 = true) ∧
    ((({ metering with mtr := { metering.mtr with pulses := [(2, { queue := 3 })] } } : State).setFld (F.MTR_PLS_EN 2) 1 : State).mtr.running = true ∧ (({ metering with mtr := { metering.mtr with pulses := [(2, { queue := 3 })] } } : State).setFld (F.MTR_PLS_EN 2) 1 : State).flag (F.MTR_PLS_EN (2 : Fin 4).val) = true ∧ (({ metering with mtr := { metering.mtr with pulses := [(2, { queue := 3 })] } } : State).setFld (F.MTR_PLS_EN 2) 1 : State).flag F.MTR_STAT_CAL_BAD = false ∧ 0 < (Tbl.get ({} : PulseOut) (({ metering with mtr := { metering.mtr with pulses := [(2, { queue := 3 })] } } : State).setFld (F.MTR_PLS_EN 2) 1 : State).mtr.pulses (2 : Fin 4).val).queue ∧ ((Tbl.get ({} : PulseOut) (({ metering with mtr := { metering.mtr with pulses := [(2, { queue := 3 })] } } : State).setFld (F.MTR_PLS_EN 2) 1 : State).mtr.pulses (2 : Fin 4).val).lastEdge.all (fun a => (({ metering with mtr := { metering.mtr with pulses := [(2, { queue := 3 })] } } : State).setFld (F.MTR_PLS_EN 2) 1 : State).passed a (2 * orOne ((({ metering with mtr := { metering.mtr with pulses := [(2, { queue := 3 })] } } : State).setFld (F.MTR_PLS_EN 2) 1 : State).fld (F.MTR_PLS_WIDTH (2 : Fin 4).val)) * oneMs)) = true)) :=
  by and_intros <;> decide +kernel

set_option maxRecDepth 100000 in
/-- Operands that meet the hypotheses of MeteringSamplesFaultsAndCopiesComplete, part 3. -/
theorem test_hyp_MeteringSamplesFaultsAndCopiesComplete_3 :
    ((metering : State).mtr.running = true ∧ (metering : State).demandEnd ≤ (metering : State).now) ∧
    ((metering : State).mtr.running = true ∧ (metering : State).mtr.copyIdx < (metering : State).now / (900 * oneSec)) ∧
    ((metering : State).mtr.running = true ∧ (metering : State).mtr.copyIdx < (metering : State).now / (900 * oneSec)) ∧
    (({ metering with mtr := { metering.mtr with retry := some 0 } } : State).mtr.running = true ∧ ({ metering with mtr := { metering.mtr with retry := some 0 } } : State).mtr.retry = some (0 : Nat) ∧ (0 : Nat) + oneSec ≤ ({ metering with mtr := { metering.mtr with retry := some 0 } } : State).el) ∧
    ((({ metering with mtr := { metering.mtr with restart := some 5, running := false } } : State).setFld F.TIM_STAT_STEPPED 1 : State).mtr.restart = some (5 : Nat)) :=
  by and_intros <;> decide +kernel

set_option maxRecDepth 100000 in
/-- Operands that meet the hypotheses of MeteringCommandsComplete, part 1. -/
theorem test_hyp_MeteringCommandsComplete_1 :
    ((lev2 metering : State).takes (c1 (bytes 52 9) : Cmd) opMtrConfig = true ∧ (c1 (bytes 52 9) : Cmd).payload.length = 52) ∧
    ((metering : State).takes (c0 [1, 0, 0, 0] : Cmd) opMtrGetReadings = true ∧ (c0 [1, 0, 0, 0] : Cmd).payload.length = 4 ∧ rdN (c0 [1, 0, 0, 0] : Cmd).payload 0 1 ≤ 1) ∧
    ((metering : State).takes (c0 [2, 0, 0, 0] : Cmd) opMtrGetReadings = true ∧ (c0 [2, 0, 0, 0] : Cmd).payload.length = 4 ∧ 1 < rdN (c0 [2, 0, 0, 0] : Cmd).payload 0 1) ∧
    ((windowed : State).takes (c0 [0, 0, 0, 0] : Cmd) opMtrGetHarmonics = true ∧ (c0 [0, 0, 0, 0] : Cmd).payload.length = 4 ∧ rdN (c0 [0, 0, 0, 0] : Cmd).payload 0 1 ≤ 1 ∧ rdN (c0 [0, 0, 0, 0] : Cmd).payload 1 1 ≤ 6 ∧ rdN (c0 [0, 0, 0, 0] : Cmd).payload 2 1 ≤ 1 ∧ (windowed.mp 0 : MtrPoint) = (windowed : State).mp (rdN (c0 [0, 0, 0, 0] : Cmd).payload 0 1) ∧ (le 8 5 ++ le 4 (groupValue (700 * 2 ^ 17)) ++ le 2 5000 : List Byte) = le 8 (((windowed.mp 0 : MtrPoint).windows.head?.map (·.at_)).getD 0) ++ le 4 (groupValue ((windowed.mp 0 : MtrPoint).groupSq (rdN (c0 [0, 0, 0, 0] : Cmd).payload 1 1) 1 (rdN (c0 [0, 0, 0, 0] : Cmd).payload 2 1 == 1))) ++ le 2 (((windowed.mp 0 : MtrPoint).windows.head?.map (·.freq)).getD 0) ∧ 0 < (windowed.mp 0 : MtrPoint).groupSq (rdN (c0 [0, 0, 0, 0] : Cmd).payload 1 1) 1 (rdN (c0 [0, 0, 0, 0] : Cmd).payload 2 1 == 1)) ∧
    ((metering : State).takes (c0 [0, 0, 0, 0] : Cmd) opMtrGetHarmonics = true ∧ (c0 [0, 0, 0, 0] : Cmd).payload.length = 4 ∧ rdN (c0 [0, 0, 0, 0] : Cmd).payload 0 1 ≤ 1 ∧ rdN (c0 [0, 0, 0, 0] : Cmd).payload 1 1 ≤ 6 ∧ rdN (c0 [0, 0, 0, 0] : Cmd).payload 2 1 ≤ 1 ∧ (metering.mp 0 : MtrPoint) = (metering : State).mp (rdN (c0 [0, 0, 0, 0] : Cmd).payload 0 1) ∧ (le 8 0 ++ le 4 (groupValue 0) ++ le 2 0 : List Byte) = le 8 (((metering.mp 0 : MtrPoint).windows.head?.map (·.at_)).getD 0) ++ le 4 (groupValue ((metering.mp 0 : MtrPoint).groupSq (rdN (c0 [0, 0, 0, 0] : Cmd).payload 1 1) 1 (rdN (c0 [0, 0, 0, 0] : Cmd).payload 2 1 == 1))) ++ le 2 (((metering.mp 0 : MtrPoint).windows.head?.map (·.freq)).getD 0) ∧ (metering.mp 0 : MtrPoint).groupSq (rdN (c0 [0, 0, 0, 0] : Cmd).payload 1 1) 1 (rdN (c0 [0, 0, 0, 0] : Cmd).payload 2 1 == 1) = 0) :=
  by and_intros <;> decide +kernel

set_option maxRecDepth 100000 in
/-- Operands that meet the hypotheses of MeteringCommandsComplete, part 2. -/
theorem test_hyp_MeteringCommandsComplete_2 :
    ((metering : State).takes (c0 [0, 7, 0, 0] : Cmd) opMtrGetHarmonics = true ∧ (c0 [0, 7, 0, 0] : Cmd).payload.length = 4 ∧ (1 < rdN (c0 [0, 7, 0, 0] : Cmd).payload 0 1 ∨ 6 < rdN (c0 [0, 7, 0, 0] : Cmd).payload 1 1 ∨ 1 < rdN (c0 [0, 7, 0, 0] : Cmd).payload 2 1)) ∧
    ((lev2 metering : State).takes (c1 [0, 0, 7, 0] : Cmd) opMtrSetCap = true ∧ (c1 [0, 0, 7, 0] : Cmd).payload.length = 4 ∧ rdN (c1 [0, 0, 7, 0] : Cmd).payload 0 1 = 0) ∧
    ((lev2 metering : State).takes (c1 [1, 0, 7, 0] : Cmd) opMtrSetCap = true ∧ (c1 [1, 0, 7, 0] : Cmd).payload.length = 4 ∧ rdN (c1 [1, 0, 7, 0] : Cmd).payload 0 1 = 1) ∧
    ((lev2 metering : State).takes (c1 [0, 0, 0, 0] : Cmd) opMtrCalSeal = true ∧ (c1 [0, 0, 0, 0] : Cmd).payload.length = 4 ∧ rdN (c1 [0, 0, 0, 0] : Cmd).payload 0 1 = 0) ∧
    ((lev2 { metering with fuses := { metering.fuses with sealLeft := 3 } } : State).takes (c1 [2, 0, 0, 0] : Cmd) opMtrCalSeal = true ∧ (c1 [2, 0, 0, 0] : Cmd).payload.length = 4 ∧ ((rdN (c1 [2, 0, 0, 0] : Cmd).payload 0 1 = 1 ∧ (lev2 { metering with fuses := { metering.fuses with sealLeft := 3 } } : State).calCrc ≠ 0 ∧ (0 : Nat) = (lev2 { metering with fuses := { metering.fuses with sealLeft := 3 } } : State).calCrc) ∨ (rdN (c1 [2, 0, 0, 0] : Cmd).payload 0 1 = 2 ∧ (0 : Nat) = 0)) ∧ 0 < (lev2 { metering with fuses := { metering.fuses with sealLeft := 3 } } : State).fuses.sealLeft) :=
  by and_intros <;> decide +kernel

set_option maxRecDepth 100000 in
/-- Operands that meet the hypotheses of MeteringCommandsComplete, part 3. -/
theorem test_hyp_MeteringCommandsComplete_3 :
    ((lev2 { metering with fuses := { metering.fuses with sealLeft := 0 } } : State).takes (c1 [2, 0, 0, 0] : Cmd) opMtrCalSeal = true ∧ (c1 [2, 0, 0, 0] : Cmd).payload.length = 4 ∧ ((rdN (c1 [2, 0, 0, 0] : Cmd).payload 0 1 = 1 ∧ (lev2 { metering with fuses := { metering.fuses with sealLeft := 0 } } : State).calCrc ≠ 0) ∨ rdN (c1 [2, 0, 0, 0] : Cmd).payload 0 1 = 2) ∧ (lev2 { metering with fuses := { metering.fuses with sealLeft := 0 } } : State).fuses.sealLeft = 0) ∧
    ((lev2 metering : State).takes (c1 [3, 0, 0, 0] : Cmd) opMtrCalSeal = true ∧ (c1 [3, 0, 0, 0] : Cmd).payload.length = 4 ∧ (2 < rdN (c1 [3, 0, 0, 0] : Cmd).payload 0 1 ∨ (rdN (c1 [3, 0, 0, 0] : Cmd).payload 0 1 = 1 ∧ (lev2 metering : State).calCrc = 0))) :=
  by and_intros <;> decide +kernel

set_option maxRecDepth 100000 in
/-- Operands that meet the hypotheses of LanesChecksSwitchOverAndDigestsComplete, part 1. -/
theorem test_hyp_LanesChecksSwitchOverAndDigestsComplete_1 :
    ((testing : State).laneSt (1 : Fin 2).val = laneStSELFTEST) ∧
    ((testing : State).laneSt (1 : Fin 2).val = laneStSELFTEST) ∧
    ((up : State).laneLive (0 : Fin 2).val = true ∧ ((5 : Fin 9).val ≠ dgDRAM_FENCE ∨ laneMayWrite (0 : Fin 2).val (0x14000000 : Word).toNat = false)) ∧
    ((5 : Fin 9).val = dgDRAM_FENCE ∧ laneMayWrite (0 : Fin 2).val (0x13FFFFFF : Word).toNat = true) ∧
    ((up : State).laneLive (1 : Fin 2).val = true) :=
  by and_intros <;> decide +kernel

set_option maxRecDepth 100000 in
/-- Operands that meet the hypotheses of LanesChecksSwitchOverAndDigestsComplete, part 2. -/
theorem test_hyp_LanesChecksSwitchOverAndDigestsComplete_2 :
    ((up.setFld F.LAN_STAT_STATE_B 6 : State).laneLive (0 : Fin 2).val = true) ∧
    ((up : State).laneLive (0 : Fin 2).val = true) ∧
    ((up : State).laneLive (0 : Fin 2).val = true ∧ (3 : Nat) = (3 : BitVec 16).toNat + Tbl.get 0 (up : State).lan.injected (0 : Fin 2).val) ∧
    ((switchTo 4 6 : State).switching = true ∧ (switchTo 4 6 : State).laneSt 0 = laneStSHADOW ∧ (switchTo 4 6 : State).svb.posts = []) ∧
    ((switchTo 6 4 : State).switching = true ∧ (switchTo 6 4 : State).laneSt 0 ≠ laneStSHADOW ∧ (switchTo 6 4 : State).svb.posts = []) :=
  by and_intros <;> decide +kernel

set_option maxRecDepth 100000 in
/-- Operands that meet the hypotheses of LanesChecksSwitchOverAndDigestsComplete, part 3. -/
theorem test_hyp_LanesChecksSwitchOverAndDigestsComplete_3 :
    (Tbl.get none (({ up with lan := { up.lan with digests := [(0, some (66000, 7)), (1, some (66000, 7))] } } : State) : State).lan.digests 0 = some ((66000 : Nat), (7 : Nat)) ∧ Tbl.get none (({ up with lan := { up.lan with digests := [(0, some (66000, 7)), (1, some (66000, 7))] } } : State) : State).lan.digests 1 = some ((66000 : Nat), (7 : Nat)) ∧ (({ up with lan := { up.lan with digests := [(0, some (66000, 7)), (1, some (66000, 7))] } } : State) : State).switching = false ∧ (({ up with lan := { up.lan with digests := [(0, some (66000, 7)), (1, some (66000, 7))] } } : State) : State).pwr.state ≠ .dormant ∧ (7 : Nat) ^^^ (0x1234567890 : BitVec 64).toNat = (7 : Nat) ^^^ (0x1234567890 : BitVec 64).toNat ∧ (({ up with lan := { up.lan with digests := [(0, some (66000, 7)), (1, some (66000, 7))] } } : State) : State).laneSt 0 = laneStACTIVE ∧ (({ up with lan := { up.lan with digests := [(0, some (66000, 7)), (1, some (66000, 7))] } } : State) : State).laneSt 1 = laneStSHADOW ∧ (({ up with lan := { up.lan with digests := [(0, some (66000, 7)), (1, some (66000, 7))] } } : State) : State).lan.agreed = none ∧ (({ up with lan := { up.lan with digests := [(0, some (66000, 7)), (1, some (66000, 7))] } } : State) : State).lan.commanded = false) ∧
    (Tbl.get none (({ up with lan := { up.lan with digests := [(0, some (66000, 7)), (1, some (66000, 7))], commanded := true } } : State) : State).lan.digests 0 = some ((66000 : Nat), (7 : Nat)) ∧ Tbl.get none (({ up with lan := { up.lan with digests := [(0, some (66000, 7)), (1, some (66000, 7))], commanded := true } } : State) : State).lan.digests 1 = some ((66000 : Nat), (7 : Nat)) ∧ (({ up with lan := { up.lan with digests := [(0, some (66000, 7)), (1, some (66000, 7))], commanded := true } } : State) : State).switching = false ∧ (({ up with lan := { up.lan with digests := [(0, some (66000, 7)), (1, some (66000, 7))], commanded := true } } : State) : State).pwr.state ≠ .dormant ∧ (7 : Nat) ^^^ (0 : BitVec 64).toNat = (7 : Nat) ^^^ (0 : BitVec 64).toNat ∧ (({ up with lan := { up.lan with digests := [(0, some (66000, 7)), (1, some (66000, 7))], commanded := true } } : State) : State).laneSt 0 = laneStACTIVE ∧ (({ up with lan := { up.lan with digests := [(0, some (66000, 7)), (1, some (66000, 7))], commanded := true } } : State) : State).laneSt 1 = laneStSHADOW ∧ (({ up with lan := { up.lan with digests := [(0, some (66000, 7)), (1, some (66000, 7))], commanded := true } } : State) : State).lan.agreed = none ∧ (({ up with lan := { up.lan with digests := [(0, some (66000, 7)), (1, some (66000, 7))], commanded := true } } : State) : State).lan.commanded = true) ∧
    (Tbl.get none ((({ up with lan := { up.lan with digests := [(0, some (66000, 7)), (1, some (66000, 7))] } } : State).setFld F.LAN_STAT_STATE_B 3) : State).lan.digests 0 = some ((66000 : Nat), (7 : Nat)) ∧ Tbl.get none ((({ up with lan := { up.lan with digests := [(0, some (66000, 7)), (1, some (66000, 7))] } } : State).setFld F.LAN_STAT_STATE_B 3) : State).lan.digests 1 = some ((66000 : Nat), (7 : Nat)) ∧ ((({ up with lan := { up.lan with digests := [(0, some (66000, 7)), (1, some (66000, 7))] } } : State).setFld F.LAN_STAT_STATE_B 3) : State).switching = false ∧ ((({ up with lan := { up.lan with digests := [(0, some (66000, 7)), (1, some (66000, 7))] } } : State).setFld F.LAN_STAT_STATE_B 3) : State).pwr.state ≠ .dormant ∧ (7 : Nat) ^^^ (0 : BitVec 64).toNat = (7 : Nat) ^^^ (0 : BitVec 64).toNat ∧ ((({ up with lan := { up.lan with digests := [(0, some (66000, 7)), (1, some (66000, 7))] } } : State).setFld F.LAN_STAT_STATE_B 3) : State).laneSt 0 = laneStACTIVE ∧ (((({ up with lan := { up.lan with digests := [(0, some (66000, 7)), (1, some (66000, 7))] } } : State).setFld F.LAN_STAT_STATE_B 3) : State).laneSt 1 = laneStCHECKING ∨ ((({ up with lan := { up.lan with digests := [(0, some (66000, 7)), (1, some (66000, 7))] } } : State).setFld F.LAN_STAT_STATE_B 3) : State).laneSt 1 = laneStCOLD)) ∧
    (Tbl.get none ((({ up with lan := { up.lan with digests := [(0, some (66000, 7)), (1, some (66000, 7))] } } : State).setFld F.LAN_STAT_STATE_B 3) : State).lan.digests 0 = some ((66000 : Nat), (7 : Nat)) ∧ Tbl.get none ((({ up with lan := { up.lan with digests := [(0, some (66000, 7)), (1, some (66000, 7))] } } : State).setFld F.LAN_STAT_STATE_B 3) : State).lan.digests 1 = some ((66000 : Nat), (7 : Nat)) ∧ ((({ up with lan := { up.lan with digests := [(0, some (66000, 7)), (1, some (66000, 7))] } } : State).setFld F.LAN_STAT_STATE_B 3) : State).switching = false ∧ ((({ up with lan := { up.lan with digests := [(0, some (66000, 7)), (1, some (66000, 7))] } } : State).setFld F.LAN_STAT_STATE_B 3) : State).pwr.state ≠ .dormant ∧ (7 : Nat) ^^^ (0 : BitVec 64).toNat ≠ (7 : Nat) ^^^ (1 : BitVec 64).toNat ∧ ((({ up with lan := { up.lan with digests := [(0, some (66000, 7)), (1, some (66000, 7))] } } : State).setFld F.LAN_STAT_STATE_B 3) : State).laneSt 0 = laneStACTIVE ∧ (((({ up with lan := { up.lan with digests := [(0, some (66000, 7)), (1, some (66000, 7))] } } : State).setFld F.LAN_STAT_STATE_B 3) : State).laneSt 1 = laneStCHECKING ∨ ((({ up with lan := { up.lan with digests := [(0, some (66000, 7)), (1, some (66000, 7))] } } : State).setFld F.LAN_STAT_STATE_B 3) : State).laneSt 1 = laneStCOLD)) ∧
    (Tbl.get none (({ stopUp with lan := { stopUp.lan with digests := [(0, some (66000, 7)), (1, some (66000, 7))] } } : State) : State).lan.digests 0 = some ((66000 : Nat), (7 : Nat)) ∧ Tbl.get none (({ stopUp with lan := { stopUp.lan with digests := [(0, some (66000, 7)), (1, some (66000, 7))] } } : State) : State).lan.digests 1 = some ((66000 : Nat), (7 : Nat)) ∧ (({ stopUp with lan := { stopUp.lan with digests := [(0, some (66000, 7)), (1, some (66000, 7))] } } : State) : State).switching = false ∧ (({ stopUp with lan := { stopUp.lan with digests := [(0, some (66000, 7)), (1, some (66000, 7))] } } : State) : State).pwr.state ≠ .dormant ∧ (7 : Nat) ^^^ (5 : BitVec 64).toNat ≠ (7 : Nat) ^^^ (6 : BitVec 64).toNat ∧ (({ stopUp with lan := { stopUp.lan with digests := [(0, some (66000, 7)), (1, some (66000, 7))] } } : State) : State).laneSt 0 = laneStACTIVE ∧ (({ stopUp with lan := { stopUp.lan with digests := [(0, some (66000, 7)), (1, some (66000, 7))] } } : State) : State).laneSt 1 = laneStSHADOW) :=
  by and_intros <;> decide +kernel

set_option maxRecDepth 100000 in
/-- Operands that meet the hypotheses of LanesChecksSwitchOverAndDigestsComplete, part 4. -/
theorem test_hyp_LanesChecksSwitchOverAndDigestsComplete_4 :
    (Tbl.get none ((({ up with lan := { up.lan with digests := [(0, some (66000, 7)), (1, some (66000, 7))] } } : State).setFld F.LAN_STAT_STATE_B 6) : State).lan.digests 0 = some ((66000 : Nat), (7 : Nat)) ∧ ((({ up with lan := { up.lan with digests := [(0, some (66000, 7)), (1, some (66000, 7))] } } : State).setFld F.LAN_STAT_STATE_B 6) : State).switching = false ∧ ((({ up with lan := { up.lan with digests := [(0, some (66000, 7)), (1, some (66000, 7))] } } : State).setFld F.LAN_STAT_STATE_B 6) : State).pwr.state ≠ .dormant ∧ ((({ up with lan := { up.lan with digests := [(0, some (66000, 7)), (1, some (66000, 7))] } } : State).setFld F.LAN_STAT_STATE_B 6) : State).t0At ((66000 : Nat) + 1) + oneMs ≤ ((({ up with lan := { up.lan with digests := [(0, some (66000, 7)), (1, some (66000, 7))] } } : State).setFld F.LAN_STAT_STATE_B 6) : State).now ∧ ((({ up with lan := { up.lan with digests := [(0, some (66000, 7)), (1, some (66000, 7))] } } : State).setFld F.LAN_STAT_STATE_B 6) : State).inService 1 = false ∧ ((({ up with lan := { up.lan with digests := [(0, some (66000, 7)), (1, some (66000, 7))] } } : State).setFld F.LAN_STAT_STATE_B 6) : State).laneSt 0 = laneStACTIVE) ∧
    (Tbl.get none (({ up with lan := { up.lan with digests := [(0, some ((up.sf), 7)), (1, some ((up.sf), 7))] } } : State) : State).lan.digests 0 = some ((up.sf : Nat), (7 : Nat)) ∧ (({ up with lan := { up.lan with digests := [(0, some ((up.sf), 7)), (1, some ((up.sf), 7))] } } : State) : State).switching = false ∧ (({ up with lan := { up.lan with digests := [(0, some ((up.sf), 7)), (1, some ((up.sf), 7))] } } : State) : State).pwr.state ≠ .dormant ∧ (({ up with lan := { up.lan with digests := [(0, some ((up.sf), 7)), (1, some ((up.sf), 7))] } } : State) : State).now < (({ up with lan := { up.lan with digests := [(0, some ((up.sf), 7)), (1, some ((up.sf), 7))] } } : State) : State).t0At ((up.sf : Nat) + 1) + oneMs) ∧
    ((({ up with lan := { up.lan with whole := [(0, true), (1, true)] } } : State) : State).timeRuns = true ∧ (({ up with lan := { up.lan with whole := [(0, true), (1, true)] } } : State) : State).laneClock = true ∧ (({ up with lan := { up.lan with whole := [(0, true), (1, true)] } } : State) : State).lan.gap = [] ∧ (({ up with lan := { up.lan with whole := [(0, true), (1, true)] } } : State) : State).svb.posts = [] ∧ (({ up with lan := { up.lan with whole := [(0, true), (1, true)] } } : State) : State).laneTakes (1 : Fin 2).val = true ∧ Tbl.get false (({ up with lan := { up.lan with whole := [(0, true), (1, true)] } } : State) : State).lan.whole (1 : Fin 2).val = true) ∧
    ((({ up with lan := { up.lan with gap := [(1, some 5)] } } : State) : State).timeRuns = true ∧ (({ up with lan := { up.lan with gap := [(1, some 5)] } } : State) : State).laneClock = true ∧ (({ up with lan := { up.lan with gap := [(1, some 5)] } } : State) : State).lan.gap = [((1 : Fin 2).val, some (5 : Nat))] ∧ (({ up with lan := { up.lan with gap := [(1, some 5)] } } : State) : State).svb.posts = [] ∧ (({ up with lan := { up.lan with gap := [(1, some 5)] } } : State) : State).laneLive (1 : Fin 2).val = true) ∧
    ((rescrubbing : State).lan.rescrub = some (5 : Nat) ∧ (rescrubbing : State).laneLive (1 : Fin 2).val = true) :=
  by and_intros <;> decide +kernel

set_option maxRecDepth 100000 in
/-- Operands that meet the hypotheses of LanesChecksSwitchOverAndDigestsComplete, part 5. -/
theorem test_hyp_LanesChecksSwitchOverAndDigestsComplete_5 :
    ((rescrubbing : State).lan.rescrub = some (5 : Nat) ∧ (rescrubbing : State).laneSt 0 = laneStACTIVE ∧ (rescrubbing : State).laneSt 1 = laneStSHADOW) ∧
    ((({ up with lan := { up.lan with window := some 0 }, time := { up.time with elapsed := 10 ^ 16 * 2 ^ 32 } } : State) : State).lan.window = some (0 : Nat) ∧ (({ up with lan := { up.lan with window := some 0 }, time := { up.time with elapsed := 10 ^ 16 * 2 ^ 32 } } : State) : State).passed (0 : Nat) (orOne ((({ up with lan := { up.lan with window := some 0 }, time := { up.time with elapsed := 10 ^ 16 * 2 ^ 32 } } : State) : State).fld F.LAN_CTL_MIS_WIN) * 60 * oneSec) = true) ∧
    ((powered (racking false) : State).granted 3 = true ∧ (powered (racking false) : State).rackingLane = some (1 : Nat)) ∧
    ((powered (racking true) : State).granted 3 = true ∧ (powered (racking true) : State).rackingLane = some (1 : Nat) ∧ (powered (racking true) : State).lan.precopied = true) ∧
    ((powered (racking true) : State).granted 3 = true ∧ (powered (racking true) : State).rackingLane = some (1 : Nat) ∧ (powered (racking true) : State).lan.precopied = true) :=
  by and_intros <;> decide +kernel

set_option maxRecDepth 100000 in
/-- Operands that meet the hypotheses of LanesChecksSwitchOverAndDigestsComplete, part 6. -/
theorem test_hyp_LanesChecksSwitchOverAndDigestsComplete_6 :
    ((racking false : State).granted 3 = false) ∧
    ((racking true : State).granted 3 = false) ∧
    ((switchCold : State).laneSt (1 : Fin 2).val = laneStCOLD ∧ (switchCold : State).anyLane = false ∧ (switchCold : State).switching = false) ∧
    (((up.setFld F.LAN_STAT_STATE_B 7 : State).laneSt (1 : Fin 2).val = laneStFAILED ∨ (up.setFld F.LAN_STAT_STATE_B 7 : State).laneSt (1 : Fin 2).val = laneStRETIRED)) ∧
    ((lev2 (up.setFld F.LAN_DIG_AGREE_RUN 3) : State).takes (c1 [0, 0, 0, 0] : Cmd) opLanSwitch = true ∧ (c1 [0, 0, 0, 0] : Cmd).payload.length = 4 ∧ (lev2 (up.setFld F.LAN_DIG_AGREE_RUN 3) : State).activeLane = some (0 : Nat) ∧ (lev2 (up.setFld F.LAN_DIG_AGREE_RUN 3) : State).laneSt (otherLane (0 : Nat)) = laneStSHADOW ∧ (lev2 (up.setFld F.LAN_DIG_AGREE_RUN 3) : State).fld F.LAN_DIG_AGREE_RUN ≠ 0) :=
  by and_intros <;> decide +kernel

set_option maxRecDepth 100000 in
/-- Operands that meet the hypotheses of LanesChecksSwitchOverAndDigestsComplete, part 7. -/
theorem test_hyp_LanesChecksSwitchOverAndDigestsComplete_7 :
    ((lev2 up : State).takes (c1 [0, 0, 0, 0] : Cmd) opLanSwitch = true ∧ (c1 [0, 0, 0, 0] : Cmd).payload.length = 4 ∧ ((lev2 up : State).activeLane = none ∨ ((lev2 up : State).laneSt (otherLane ((lev2 up : State).activeLane.getD 0)) ≠ laneStSHADOW ∨ (lev2 up : State).fld F.LAN_DIG_AGREE_RUN = 0))) ∧
    ((up : State).takes (c0 [] : Cmd) opLanGetState = true ∧ (c0 [] : Cmd).payload = []) :=
  by and_intros <;> decide +kernel

set_option maxRecDepth 100000 in
/-- Operands that meet the hypotheses of KeyStoreAndTamperComplete, part 1. -/
theorem test_hyp_KeyStoreAndTamperComplete_1 :
    ((lev2 up : State).takes (c1 [0, 0, 9, 0] : Cmd) opSecCaskLoad = true ∧ ((c1 [0, 0, 9, 0] : Cmd).payload.length < 4 ∨ ((c1 [0, 0, 9, 0] : Cmd).payload.drop 4).length ≠ rdN (c1 [0, 0, 9, 0] : Cmd).payload 2 2)) ∧
    ((lev2 up : State).takes (c1 [0, 0, 1, 0, 7] : Cmd) opSecCaskLoad = true ∧ 4 ≤ (c1 [0, 0, 1, 0, 7] : Cmd).payload.length ∧ ((c1 [0, 0, 1, 0, 7] : Cmd).payload.drop 4).length = rdN (c1 [0, 0, 1, 0, 7] : Cmd).payload 2 2 ∧ ([7] : List Byte) = (c1 [0, 0, 1, 0, 7] : Cmd).payload.drop 4 ∧ (caskOk ([7] : List Byte) = false ∨ (rdN ([7] : List Byte) 5 1 ≠ 5 ∧ 63 < (rdN (c1 [0, 0, 1, 0, 7] : Cmd).payload 0 1) ∧ (rdN (c1 [0, 0, 1, 0, 7] : Cmd).payload 0 1) ≠ 255))) ∧
    ((lev2 up : State).takes (c1 (le 1 0 ++ [0] ++ le 2 124 ++ enrolBytes) : Cmd) opSecCaskLoad = true ∧ 4 ≤ (c1 (le 1 0 ++ [0] ++ le 2 124 ++ enrolBytes) : Cmd).payload.length ∧ ((c1 (le 1 0 ++ [0] ++ le 2 124 ++ enrolBytes) : Cmd).payload.drop 4).length = rdN (c1 (le 1 0 ++ [0] ++ le 2 124 ++ enrolBytes) : Cmd).payload 2 2 ∧ (enrolBytes : List Byte) = (c1 (le 1 0 ++ [0] ++ le 2 124 ++ enrolBytes) : Cmd).payload.drop 4 ∧ caskOk (enrolBytes : List Byte) = true ∧ rdN (enrolBytes : List Byte) 5 1 = 5 ∧ ((c1 (le 1 0 ++ [0] ++ le 2 124 ++ enrolBytes) : Cmd).sid ≠ 0 ∨ (lev2 up : State).vbat.rs ≠ none ∨ (lev2 up : State).sec.live ≠ 0)) ∧
    (({ up with fuses := { up.fuses with unitId := 9 } } : State).takes (c0 (le 1 0 ++ [0] ++ le 2 124 ++ enrolBytes) : Cmd) opSecCaskLoad = true ∧ 4 ≤ (c0 (le 1 0 ++ [0] ++ le 2 124 ++ enrolBytes) : Cmd).payload.length ∧ ((c0 (le 1 0 ++ [0] ++ le 2 124 ++ enrolBytes) : Cmd).payload.drop 4).length = rdN (c0 (le 1 0 ++ [0] ++ le 2 124 ++ enrolBytes) : Cmd).payload 2 2 ∧ (enrolBytes : List Byte) = (c0 (le 1 0 ++ [0] ++ le 2 124 ++ enrolBytes) : Cmd).payload.drop 4 ∧ caskOk (enrolBytes : List Byte) = true ∧ rdN (enrolBytes : List Byte) 5 1 = 5 ∧ (c0 (le 1 0 ++ [0] ++ le 2 124 ++ enrolBytes) : Cmd).sid = 0 ∧ ({ up with fuses := { up.fuses with unitId := 9 } } : State).vbat.rs = none ∧ ({ up with fuses := { up.fuses with unitId := 9 } } : State).sec.live = 0 ∧ (caskUnit (enrolBytes : List Byte) ≠ ({ up with fuses := { up.fuses with unitId := 9 } } : State).unitBytes ∨ (({ up with fuses := { up.fuses with unitId := 9 } } : State).fuses.ownerId ≠ 0 ∧ caskId (enrolBytes : List Byte) ≠ le 4 ({ up with fuses := { up.fuses with unitId := 9 } } : State).fuses.ownerId))) ∧
    ((up : State).takes (c0 (le 1 0 ++ [0] ++ le 2 124 ++ enrolBytes) : Cmd) opSecCaskLoad = true ∧ 4 ≤ (c0 (le 1 0 ++ [0] ++ le 2 124 ++ enrolBytes) : Cmd).payload.length ∧ ((c0 (le 1 0 ++ [0] ++ le 2 124 ++ enrolBytes) : Cmd).payload.drop 4).length = rdN (c0 (le 1 0 ++ [0] ++ le 2 124 ++ enrolBytes) : Cmd).payload 2 2 ∧ (enrolBytes : List Byte) = (c0 (le 1 0 ++ [0] ++ le 2 124 ++ enrolBytes) : Cmd).payload.drop 4 ∧ caskOk (enrolBytes : List Byte) = true ∧ rdN (enrolBytes : List Byte) 5 1 = 5 ∧ (c0 (le 1 0 ++ [0] ++ le 2 124 ++ enrolBytes) : Cmd).sid = 0 ∧ (up : State).vbat.rs = none ∧ (up : State).sec.live = 0 ∧ caskUnit (enrolBytes : List Byte) = (up : State).unitBytes ∧ ((up : State).fuses.ownerId = 0 ∨ caskId (enrolBytes : List Byte) = le 4 (up : State).fuses.ownerId)) :=
  by and_intros <;> decide +kernel

set_option maxRecDepth 100000 in
/-- Operands that meet the hypotheses of KeyStoreAndTamperComplete, part 2. -/
theorem test_hyp_KeyStoreAndTamperComplete_2 :
    ((lev2 up : State).takes (c1 (le 1 9 ++ [0] ++ le 2 44 ++ plainCask) : Cmd) opSecCaskLoad = true ∧ 4 ≤ (c1 (le 1 9 ++ [0] ++ le 2 44 ++ plainCask) : Cmd).payload.length ∧ ((c1 (le 1 9 ++ [0] ++ le 2 44 ++ plainCask) : Cmd).payload.drop 4).length = rdN (c1 (le 1 9 ++ [0] ++ le 2 44 ++ plainCask) : Cmd).payload 2 2 ∧ (plainCask : List Byte) = (c1 (le 1 9 ++ [0] ++ le 2 44 ++ plainCask) : Cmd).payload.drop 4 ∧ caskOk (plainCask : List Byte) = true ∧ rdN (plainCask : List Byte) 5 1 ≠ 5 ∧ ((rdN (c1 (le 1 9 ++ [0] ++ le 2 44 ++ plainCask) : Cmd).payload 0 1) ≤ 63 ∨ (rdN (c1 (le 1 9 ++ [0] ++ le 2 44 ++ plainCask) : Cmd).payload 0 1) = 255) ∧ (lev2 up : State).vbat.rs = none) ∧
    ((lev2 { rooted with fuses := { up.fuses with unitId := 9 } } : State).takes (c1 (le 1 9 ++ [0] ++ le 2 44 ++ plainCask) : Cmd) opSecCaskLoad = true ∧ 4 ≤ (c1 (le 1 9 ++ [0] ++ le 2 44 ++ plainCask) : Cmd).payload.length ∧ ((c1 (le 1 9 ++ [0] ++ le 2 44 ++ plainCask) : Cmd).payload.drop 4).length = rdN (c1 (le 1 9 ++ [0] ++ le 2 44 ++ plainCask) : Cmd).payload 2 2 ∧ (plainCask : List Byte) = (c1 (le 1 9 ++ [0] ++ le 2 44 ++ plainCask) : Cmd).payload.drop 4 ∧ caskOk (plainCask : List Byte) = true ∧ rdN (plainCask : List Byte) 5 1 ≠ 5 ∧ ((rdN (c1 (le 1 9 ++ [0] ++ le 2 44 ++ plainCask) : Cmd).payload 0 1) ≤ 63 ∨ (rdN (c1 (le 1 9 ++ [0] ++ le 2 44 ++ plainCask) : Cmd).payload 0 1) = 255) ∧ (lev2 { rooted with fuses := { up.fuses with unitId := 9 } } : State).vbat.rs = some (5 : Nat) ∧ (caskUnit (plainCask : List Byte) ≠ (lev2 { rooted with fuses := { up.fuses with unitId := 9 } } : State).unitBytes ∨ caskId (plainCask : List Byte) ≠ (lev2 { rooted with fuses := { up.fuses with unitId := 9 } } : State).rsId (5 : Nat))) ∧
    ((lev2 rooted : State).takes (c1 (le 1 9 ++ [0] ++ le 2 44 ++ caskBytes) : Cmd) opSecCaskLoad = true ∧ 4 ≤ (c1 (le 1 9 ++ [0] ++ le 2 44 ++ caskBytes) : Cmd).payload.length ∧ ((c1 (le 1 9 ++ [0] ++ le 2 44 ++ caskBytes) : Cmd).payload.drop 4).length = rdN (c1 (le 1 9 ++ [0] ++ le 2 44 ++ caskBytes) : Cmd).payload 2 2 ∧ (caskBytes : List Byte) = (c1 (le 1 9 ++ [0] ++ le 2 44 ++ caskBytes) : Cmd).payload.drop 4 ∧ caskOk (caskBytes : List Byte) = true ∧ rdN (caskBytes : List Byte) 5 1 ≠ 5 ∧ ((rdN (c1 (le 1 9 ++ [0] ++ le 2 44 ++ caskBytes) : Cmd).payload 0 1) ≤ 63 ∨ (rdN (c1 (le 1 9 ++ [0] ++ le 2 44 ++ caskBytes) : Cmd).payload 0 1) = 255) ∧ (lev2 rooted : State).vbat.rs = some (5 : Nat) ∧ caskUnit (caskBytes : List Byte) = (lev2 rooted : State).unitBytes ∧ caskId (caskBytes : List Byte) = (lev2 rooted : State).rsId (5 : Nat) ∧ (lev2 rooted : State).caskSlot (rdN (c1 (le 1 9 ++ [0] ++ le 2 44 ++ caskBytes) : Cmd).payload 0 1) = some (9 : Nat)) ∧
    ((lev2 (rooted.setFld (F.SEC_SLOT_IN_SESSION 9) 1) : State).takes (c1 (le 1 9 ++ [0] ++ le 2 44 ++ caskBytes) : Cmd) opSecCaskLoad = true ∧ 4 ≤ (c1 (le 1 9 ++ [0] ++ le 2 44 ++ caskBytes) : Cmd).payload.length ∧ ((c1 (le 1 9 ++ [0] ++ le 2 44 ++ caskBytes) : Cmd).payload.drop 4).length = rdN (c1 (le 1 9 ++ [0] ++ le 2 44 ++ caskBytes) : Cmd).payload 2 2 ∧ (caskBytes : List Byte) = (c1 (le 1 9 ++ [0] ++ le 2 44 ++ caskBytes) : Cmd).payload.drop 4 ∧ caskOk (caskBytes : List Byte) = true ∧ rdN (caskBytes : List Byte) 5 1 ≠ 5 ∧ ((rdN (c1 (le 1 9 ++ [0] ++ le 2 44 ++ caskBytes) : Cmd).payload 0 1) ≤ 63 ∨ (rdN (c1 (le 1 9 ++ [0] ++ le 2 44 ++ caskBytes) : Cmd).payload 0 1) = 255) ∧ (lev2 (rooted.setFld (F.SEC_SLOT_IN_SESSION 9) 1) : State).vbat.rs = some (5 : Nat) ∧ caskUnit (caskBytes : List Byte) = (lev2 (rooted.setFld (F.SEC_SLOT_IN_SESSION 9) 1) : State).unitBytes ∧ caskId (caskBytes : List Byte) = (lev2 (rooted.setFld (F.SEC_SLOT_IN_SESSION 9) 1) : State).rsId (5 : Nat) ∧ (lev2 (rooted.setFld (F.SEC_SLOT_IN_SESSION 9) 1) : State).caskSlot (rdN (c1 (le 1 9 ++ [0] ++ le 2 44 ++ caskBytes) : Cmd).payload 0 1) = none) ∧
    ((lev2 keyed : State).takes (c1 [3, 0, 0, 0] : Cmd) opSecCaskUnload = true ∧ (c1 [3, 0, 0, 0] : Cmd).payload.length = 4 ∧ (rdN (c1 [3, 0, 0, 0] : Cmd).payload 0 1) ≤ 63 ∧ (rdN (c1 [3, 0, 0, 0] : Cmd).payload 0 1) ≠ (lev2 keyed : State).fld F.RAD_KEY_STOP_SLOT ∧ (rdN (c1 [3, 0, 0, 0] : Cmd).payload 0 1) ≠ (if (lev2 keyed : State).fld F.RAD_KEY_TX_KEY = 0 then (lev2 keyed : State).fld F.RAD_KEY_SLOT0 else (lev2 keyed : State).fld F.RAD_KEY_SLOT1)) :=
  ⟨by decide +kernel, by and_intros <;> decide +kernel, ⟨by decide +kernel, (by decide +kernel), by decide +kernel, rfl, by decide +kernel, (by decide +kernel), by decide +kernel, by decide +kernel, (by decide +kernel), caskBytes_id, by decide +kernel⟩, ⟨by decide +kernel, (by decide +kernel), by decide +kernel, rfl, by decide +kernel, (by decide +kernel), by decide +kernel, by decide +kernel, (by decide +kernel), caskBytes_id, by decide +kernel⟩, by decide +kernel⟩

set_option maxRecDepth 100000 in
/-- Operands that meet the hypotheses of KeyStoreAndTamperComplete, part 3. -/
theorem test_hyp_KeyStoreAndTamperComplete_3 :
    ((lev2 (keyed.setFld F.RAD_KEY_STOP_SLOT 3) : State).takes (c1 [3, 0, 0, 0] : Cmd) opSecCaskUnload = true ∧ (c1 [3, 0, 0, 0] : Cmd).payload.length = 4 ∧ (rdN (c1 [3, 0, 0, 0] : Cmd).payload 0 1) ≤ 63 ∧ ((rdN (c1 [3, 0, 0, 0] : Cmd).payload 0 1) = (lev2 (keyed.setFld F.RAD_KEY_STOP_SLOT 3) : State).fld F.RAD_KEY_STOP_SLOT ∨ (rdN (c1 [3, 0, 0, 0] : Cmd).payload 0 1) = (if (lev2 (keyed.setFld F.RAD_KEY_STOP_SLOT 3) : State).fld F.RAD_KEY_TX_KEY = 0 then (lev2 (keyed.setFld F.RAD_KEY_STOP_SLOT 3) : State).fld F.RAD_KEY_SLOT0 else (lev2 (keyed.setFld F.RAD_KEY_STOP_SLOT 3) : State).fld F.RAD_KEY_SLOT1))) ∧
    ((lev2 keyed : State).takes (c1 [64, 0, 0, 0] : Cmd) opSecCaskUnload = true ∧ (c1 [64, 0, 0, 0] : Cmd).payload.length = 4 ∧ 63 < (rdN (c1 [64, 0, 0, 0] : Cmd).payload 0 1)) ∧
    ((up : State).pwr.hubReady = true ∧ (up : State).pwr.state ≠ .dormant ∧ (up : State).passed (up : State).sec.maskAt (600 * oneSec) = true) ∧
    (bit ({ up with sec := { up.sec with live := 5 } } : State).sec.live (2 : Fin 6).val = true) ∧
    ((lev2 rooted : State).pwr.state ≠ .off ∧ bit (lev2 rooted : State).sec.live (2 : Fin 6).val = false ∧ ((lev2 rooted : State).pwr.state = .run ∨ (lev2 rooted : State).pwr.state = .doze) ∧ (lev2 rooted : State).pwr.hubReady = true) :=
  by and_intros <;> decide +kernel

set_option maxRecDepth 100000 in
/-- Operands that meet the hypotheses of KeyStoreAndTamperComplete, part 4. -/
theorem test_hyp_KeyStoreAndTamperComplete_4 :
    (({ dozing with vbat := { dozing.vbat with rs := some 5 } } : State).pwr.state ≠ .off ∧ bit ({ dozing with vbat := { dozing.vbat with rs := some 5 } } : State).sec.live (2 : Fin 6).val = false ∧ ({ dozing with vbat := { dozing.vbat with rs := some 5 } } : State).pwr.state = .dormant) ∧
    (({ rooted with pwr := { state := .backup } } : State).pwr.state ≠ .off ∧ bit ({ rooted with pwr := { state := .backup } } : State).sec.live (4 : Fin 6).val = false ∧ (({ rooted with pwr := { state := .backup } } : State).pwr.state = .backup ∨ ({ rooted with pwr := { state := .backup } } : State).pwr.state = .starting)) :=
  by and_intros <;> decide +kernel

set_option maxRecDepth 100000 in
/-- Operands that meet the hypotheses of ImageTransfersAndRelaysComplete, part 1. -/
theorem test_hyp_ImageTransfersAndRelaysComplete_1 :
    ((lev2 up : State).takes (c1 [8, 0, 0, 0, 1, 0, 0, 0] : Cmd) opUpdImageBegin = true ∧ (c1 [8, 0, 0, 0, 1, 0, 0, 0] : Cmd).payload.length = 8 ∧ (rdN (c1 [8, 0, 0, 0, 1, 0, 0, 0] : Cmd).payload 0 4) % 4 = 0 ∧ (rdN (c1 [8, 0, 0, 0, 1, 0, 0, 0] : Cmd).payload 0 4) ≤ 25165824 ∧ (lev2 up : State).updBusy = false ∧ ({ id := (lev2 up).net * 256, source := 0, length := 8, relay := true, origin := (lev2 up).net, lastAt := (lev2 up).el } : Transfer) = { id := (lev2 up : State).net * 256 + (lev2 up : State).upd.xferSeq % 256, source := 0, length := (rdN (c1 [8, 0, 0, 0, 1, 0, 0, 0] : Cmd).payload 0 4), relay := bit (rdN (c1 [8, 0, 0, 0, 1, 0, 0, 0] : Cmd).payload 4 1) 0, origin := (lev2 up : State).net, lastAt := (lev2 up : State).el }) ∧
    ((lev2 xferring : State).takes (c1 [8, 0, 0, 0, 1, 0, 0, 0] : Cmd) opUpdImageBegin = true ∧ (c1 [8, 0, 0, 0, 1, 0, 0, 0] : Cmd).payload.length = 8 ∧ ((rdN (c1 [8, 0, 0, 0, 1, 0, 0, 0] : Cmd).payload 0 4) % 4 ≠ 0 ∨ 25165824 < (rdN (c1 [8, 0, 0, 0, 1, 0, 0, 0] : Cmd).payload 0 4) ∨ (lev2 xferring : State).updBusy = true)) ∧
    ((lev2 xferring : State).takes (c1 ([0, 0, 0, 0, 4, 0, 0, 0, 4, 0, 0, 0, 1, 2, 3, 4]) : Cmd) opUpdImageData = true ∧ (c1 ([0, 0, 0, 0, 4, 0, 0, 0, 4, 0, 0, 0, 1, 2, 3, 4]) : Cmd).payload.length = 12 + rdN (c1 ([0, 0, 0, 0, 4, 0, 0, 0, 4, 0, 0, 0, 1, 2, 3, 4]) : Cmd).payload 8 2 ∧ (4 : Nat) = rdN (c1 ([0, 0, 0, 0, 4, 0, 0, 0, 4, 0, 0, 0, 1, 2, 3, 4]) : Cmd).payload 4 4 ∧ (4 : Nat) = rdN (c1 ([0, 0, 0, 0, 4, 0, 0, 0, 4, 0, 0, 0, 1, 2, 3, 4]) : Cmd).payload 8 2 ∧ (4 : Nat) % 4 = 0 ∧ (4 : Nat) % 4 = 0 ∧ 4 ≤ (4 : Nat) ∧ (4 : Nat) ≤ 1280 ∧ (lev2 xferring : State).hostXfer (rdN (c1 ([0, 0, 0, 0, 4, 0, 0, 0, 4, 0, 0, 0, 1, 2, 3, 4]) : Cmd).payload 0 2) = some (hostX : Transfer) ∧ (4 : Nat) + (4 : Nat) ≤ (hostX : Transfer).length) ∧
    ((lev2 xferring : State).takes (c1 ([0, 0, 0, 0, 8, 0, 0, 0, 4, 0, 0, 0, 1, 2, 3, 4]) : Cmd) opUpdImageData = true ∧ (c1 ([0, 0, 0, 0, 8, 0, 0, 0, 4, 0, 0, 0, 1, 2, 3, 4]) : Cmd).payload.length = 12 + rdN (c1 ([0, 0, 0, 0, 8, 0, 0, 0, 4, 0, 0, 0, 1, 2, 3, 4]) : Cmd).payload 8 2 ∧ (8 : Nat) = rdN (c1 ([0, 0, 0, 0, 8, 0, 0, 0, 4, 0, 0, 0, 1, 2, 3, 4]) : Cmd).payload 4 4 ∧ (4 : Nat) = rdN (c1 ([0, 0, 0, 0, 8, 0, 0, 0, 4, 0, 0, 0, 1, 2, 3, 4]) : Cmd).payload 8 2 ∧ (8 : Nat) % 4 = 0 ∧ (4 : Nat) % 4 = 0 ∧ 4 ≤ (4 : Nat) ∧ (4 : Nat) ≤ 1280 ∧ (lev2 xferring : State).hostXfer (rdN (c1 ([0, 0, 0, 0, 8, 0, 0, 0, 4, 0, 0, 0, 1, 2, 3, 4]) : Cmd).payload 0 2) = some (hostX : Transfer) ∧ (hostX : Transfer).length < (8 : Nat) + (4 : Nat)) ∧
    ((lev2 up : State).takes (c1 ([0, 0, 0, 0, 8, 0, 0, 0, 4, 0, 0, 0, 1, 2, 3, 4]) : Cmd) opUpdImageData = true ∧ (c1 ([0, 0, 0, 0, 8, 0, 0, 0, 4, 0, 0, 0, 1, 2, 3, 4]) : Cmd).payload.length = 12 + rdN (c1 ([0, 0, 0, 0, 8, 0, 0, 0, 4, 0, 0, 0, 1, 2, 3, 4]) : Cmd).payload 8 2 ∧ (8 : Nat) = rdN (c1 ([0, 0, 0, 0, 8, 0, 0, 0, 4, 0, 0, 0, 1, 2, 3, 4]) : Cmd).payload 4 4 ∧ (4 : Nat) = rdN (c1 ([0, 0, 0, 0, 8, 0, 0, 0, 4, 0, 0, 0, 1, 2, 3, 4]) : Cmd).payload 8 2 ∧ (8 : Nat) % 4 = 0 ∧ (4 : Nat) % 4 = 0 ∧ 4 ≤ (4 : Nat) ∧ (4 : Nat) ≤ 1280 ∧ (lev2 up : State).hostXfer (rdN (c1 ([0, 0, 0, 0, 8, 0, 0, 0, 4, 0, 0, 0, 1, 2, 3, 4]) : Cmd).payload 0 2) = none) :=
  by and_intros <;> decide +kernel

set_option maxRecDepth 100000 in
/-- Operands that meet the hypotheses of ImageTransfersAndRelaysComplete, part 2. -/
theorem test_hyp_ImageTransfersAndRelaysComplete_2 :
    ((lev2 xferring : State).takes (c1 [0, 0, 0, 0] : Cmd) opUpdImageEnd = true ∧ (c1 [0, 0, 0, 0] : Cmd).payload.length = 4 ∧ (lev2 xferring : State).hostXfer (rdN (c1 [0, 0, 0, 0] : Cmd).payload 0 2) = some (hostX : Transfer)) ∧
    ((lev2 up : State).takes (c1 [0, 0, 0, 0] : Cmd) opUpdImageEnd = true ∧ (c1 [0, 0, 0, 0] : Cmd).payload.length = 4 ∧ (lev2 up : State).hostXfer (rdN (c1 [0, 0, 0, 0] : Cmd).payload 0 2) = none) ∧
    ((xferring : State).upd.xfer = some (hostX : Transfer) ∧ (xferring : State).stage = sgRECEIVING ∧ (xferring : State).passed (hostX : Transfer).lastAt (60 * oneSec) = true ∧ (hostX : Transfer).source = 0) ∧
    ((chainXfer 0 : State).upd.xfer = some (chainX 0 : Transfer) ∧ (chainXfer 0 : State).stage = sgRECEIVING ∧ (chainXfer 0 : State).passed (chainX 0 : Transfer).lastAt (60 * oneSec) = true ∧ (chainX 0 : Transfer).source ≠ 0) ∧
    ((xferring : State).upd.xfer = some (hostX : Transfer)) :=
  by and_intros <;> decide +kernel

set_option maxRecDepth 100000 in
/-- Operands that meet the hypotheses of ImageTransfersAndRelaysComplete, part 3. -/
theorem test_hyp_ImageTransfersAndRelaysComplete_3 :
    ((((chainXfer 0).setFld F.UPD_STAT_STAGE 2).setFld (F.ARB_PWR_REQ_GRANT 4) 3 : State).upd.xfer = some (chainX 0 : Transfer) ∧ (((chainXfer 0).setFld F.UPD_STAT_STAGE 2).setFld (F.ARB_PWR_REQ_GRANT 4) 3 : State).stage = sgVERIFYING ∧ (((chainXfer 0).setFld F.UPD_STAT_STAGE 2).setFld (F.ARB_PWR_REQ_GRANT 4) 3 : State).granted 4 = true) ∧
    (((chainXfer 0).setFld F.UPD_STAT_STAGE 2 : State).granted 4 = false) ∧
    ((xferring.setFld F.UPD_STAT_STAGE 3 : State).upd.xfer = some (hostX : Transfer) ∧ (xferring.setFld F.UPD_STAT_STAGE 3 : State).stage = sgWRITING) ∧
    ((xferring.setFld F.UPD_STAT_STAGE 3 : State).upd.xfer = some (hostX : Transfer) ∧ (xferring.setFld F.UPD_STAT_STAGE 3 : State).stage = sgWRITING) ∧
    ((chainUp : State).ethUp (0 : Fin 2).val = true ∧ ({ bytes := chainFrameOf ctIMAGE imgData } : EthIn).fcsOk = true ∧ ({ bytes := chainFrameOf ctIMAGE imgData } : EthIn).bytes.length ≤ 1518 ∧ ({ bytes := chainFrameOf ctIMAGE imgData } : EthIn).fill = 0 ∧ chainPayload ctIMAGE ({ bytes := chainFrameOf ctIMAGE imgData } : EthIn).bytes = some (imgData : List Byte) ∧ rdN (imgData : List Byte) 0 2 = (chainUp : State).site ∧ (chainUp : State).flag F.ETH_CTL_CHAIN_EN = true ∧ rdN (imgData : List Byte) 3 1 = 0 ∧ (imgData : List Byte).length = 1040 ∧ (1 : Nat) = rdN (imgData : List Byte) 8 4 ∧ (2 : Nat) = rdN (imgData : List Byte) 12 4 ∧ (1 : Nat) < (2 : Nat) ∧ (2 : Nat) ≤ 24576 ∧ (chainUp : State).upd.xfer = none ∧ (chainUp : State).upd.stagedXfer ≠ some (rdN (imgData : List Byte) 4 2) ∧ (chainUp : State).updBusy = false) :=
  by and_intros <;> decide +kernel

set_option maxRecDepth 100000 in
/-- Operands that meet the hypotheses of ImageTransfersAndRelaysComplete, part 4. -/
theorem test_hyp_ImageTransfersAndRelaysComplete_4 :
    ((chainXfer 1 : State).ethUp (0 : Fin 2).val = true ∧ ({ bytes := chainFrameOf ctIMAGE imgData } : EthIn).fcsOk = true ∧ ({ bytes := chainFrameOf ctIMAGE imgData } : EthIn).bytes.length ≤ 1518 ∧ ({ bytes := chainFrameOf ctIMAGE imgData } : EthIn).fill = 0 ∧ chainPayload ctIMAGE ({ bytes := chainFrameOf ctIMAGE imgData } : EthIn).bytes = some (imgData : List Byte) ∧ rdN (imgData : List Byte) 0 2 = (chainXfer 1 : State).site ∧ (chainXfer 1 : State).flag F.ETH_CTL_CHAIN_EN = true ∧ rdN (imgData : List Byte) 3 1 = 0 ∧ (imgData : List Byte).length = 1040 ∧ (1 : Nat) = rdN (imgData : List Byte) 8 4 ∧ (2 : Nat) = rdN (imgData : List Byte) 12 4 ∧ (1 : Nat) < (2 : Nat) ∧ (2 : Nat) ≤ 24576 ∧ (chainXfer 1 : State).upd.xfer = some (chainX 1 : Transfer) ∧ (chainX 1 : Transfer).id = rdN (imgData : List Byte) 4 2 ∧ (chainX 1 : Transfer).source = (0 : Fin 2).val + 1 ∧ (chainXfer 1 : State).stage = sgRECEIVING ∧ (chainX 1 : Transfer).length = 1024 * (2 : Nat)) ∧
    (({ chainUp with upd := { chainUp.upd with xfer := some hostX } } : State).ethUp (0 : Fin 2).val = true ∧ ({ bytes := chainFrameOf ctIMAGE imgData } : EthIn).fcsOk = true ∧ ({ bytes := chainFrameOf ctIMAGE imgData } : EthIn).bytes.length ≤ 1518 ∧ ({ bytes := chainFrameOf ctIMAGE imgData } : EthIn).fill = 0 ∧ chainPayload ctIMAGE ({ bytes := chainFrameOf ctIMAGE imgData } : EthIn).bytes = some (imgData : List Byte) ∧ rdN (imgData : List Byte) 0 2 = ({ chainUp with upd := { chainUp.upd with xfer := some hostX } } : State).site ∧ ({ chainUp with upd := { chainUp.upd with xfer := some hostX } } : State).flag F.ETH_CTL_CHAIN_EN = true ∧ rdN (imgData : List Byte) 3 1 = 0 ∧ (imgData : List Byte).length = 1040 ∧ (1 : Nat) = rdN (imgData : List Byte) 8 4 ∧ (2 : Nat) = rdN (imgData : List Byte) 12 4 ∧ (1 : Nat) < (2 : Nat) ∧ (2 : Nat) ≤ 24576 ∧ ({ chainUp with upd := { chainUp.upd with xfer := some hostX } } : State).upd.xfer = some (hostX : Transfer) ∧ ((hostX : Transfer).id ≠ rdN (imgData : List Byte) 4 2 ∨ (hostX : Transfer).source ≠ (0 : Fin 2).val + 1) ∧ (chainUp.imageFrame 0 1 7 0 2 (le 1 1) : List Byte) = ({ chainUp with upd := { chainUp.upd with xfer := some hostX } } : State).imageFrame (rdN (imgData : List Byte) 2 1) 1 (rdN (imgData : List Byte) 4 2) 0 (2 : Nat) (le 1 1)) ∧
    (({ chainUp with upd := { chainUp.upd with stagedXfer := some 7 } } : State).ethUp (0 : Fin 2).val = true ∧ ({ bytes := chainFrameOf ctIMAGE imgData } : EthIn).fcsOk = true ∧ ({ bytes := chainFrameOf ctIMAGE imgData } : EthIn).bytes.length ≤ 1518 ∧ ({ bytes := chainFrameOf ctIMAGE imgData } : EthIn).fill = 0 ∧ chainPayload ctIMAGE ({ bytes := chainFrameOf ctIMAGE imgData } : EthIn).bytes = some (imgData : List Byte) ∧ rdN (imgData : List Byte) 0 2 = ({ chainUp with upd := { chainUp.upd with stagedXfer := some 7 } } : State).site ∧ ({ chainUp with upd := { chainUp.upd with stagedXfer := some 7 } } : State).flag F.ETH_CTL_CHAIN_EN = true ∧ rdN (imgData : List Byte) 3 1 = 0 ∧ (imgData : List Byte).length = 1040 ∧ (1 : Nat) = rdN (imgData : List Byte) 8 4 ∧ (2 : Nat) = rdN (imgData : List Byte) 12 4 ∧ (1 : Nat) < (2 : Nat) ∧ (2 : Nat) ≤ 24576 ∧ ({ chainUp with upd := { chainUp.upd with stagedXfer := some 7 } } : State).upd.xfer = none ∧ ({ chainUp with upd := { chainUp.upd with stagedXfer := some 7 } } : State).upd.stagedXfer = some (rdN (imgData : List Byte) 4 2) ∧ (chainUp.imageFrame 0 2 7 0 2 [] : List Byte) = ({ chainUp with upd := { chainUp.upd with stagedXfer := some 7 } } : State).imageFrame (rdN (imgData : List Byte) 2 1) 2 (rdN (imgData : List Byte) 4 2) 0 (2 : Nat) []) ∧
    ((chainXfer 0 : State).upd.xfer = some (chainX 0 : Transfer) ∧ (chainXfer 0 : State).stage = sgRECEIVING ∧ (chainX 0 : Transfer).source ≠ 0 ∧ ((chainX 0 : Transfer).missing = [] ∨ (chainXfer 0 : State).passed (chainX 0 : Transfer).statusAt (50 * oneMs) = true) ∧ (chainXfer 0 : State).ethUp ((chainX 0 : Transfer).source - 1) = true ∧ (((chainXfer 0).imageFrame 0 1 7 0 2 (le 1 0 ++ ((rangesOf [0, 1]).map fun r => le 4 r.1 ++ le 2 r.2).flatten) : List Byte) = (chainXfer 0 : State).imageFrame (chainX 0 : Transfer).origin 1 (chainX 0 : Transfer).id 0 ((chainX 0 : Transfer).length / 1024) (le 1 0 ++ (((rangesOf (chainX 0 : Transfer).missing).take 64).map fun r => le 4 r.1 ++ le 2 r.2).flatten))) ∧
    ((relayingUp : State).ethUp (0 : Fin 2).val = true ∧ ({ bytes := chainFrameOf ctIMAGE ([0, 0, 0, 2, 7, 0, 0, 0, 0, 0, 0, 0, 3, 0, 0, 0, 0, 0, 0, 0, 0, 1, 0] : List Byte) } : EthIn).fcsOk = true ∧ ({ bytes := chainFrameOf ctIMAGE ([0, 0, 0, 2, 7, 0, 0, 0, 0, 0, 0, 0, 3, 0, 0, 0, 0, 0, 0, 0, 0, 1, 0] : List Byte) } : EthIn).bytes.length ≤ 1518 ∧ ({ bytes := chainFrameOf ctIMAGE ([0, 0, 0, 2, 7, 0, 0, 0, 0, 0, 0, 0, 3, 0, 0, 0, 0, 0, 0, 0, 0, 1, 0] : List Byte) } : EthIn).fill = 0 ∧ chainPayload ctIMAGE ({ bytes := chainFrameOf ctIMAGE ([0, 0, 0, 2, 7, 0, 0, 0, 0, 0, 0, 0, 3, 0, 0, 0, 0, 0, 0, 0, 0, 1, 0] : List Byte) } : EthIn).bytes = some (([0, 0, 0, 2, 7, 0, 0, 0, 0, 0, 0, 0, 3, 0, 0, 0, 0, 0, 0, 0, 0, 1, 0] : List Byte) : List Byte) ∧ rdN (([0, 0, 0, 2, 7, 0, 0, 0, 0, 0, 0, 0, 3, 0, 0, 0, 0, 0, 0, 0, 0, 1, 0] : List Byte) : List Byte) 0 2 = (relayingUp : State).site ∧ (relayingUp : State).flag F.ETH_CTL_CHAIN_EN = true ∧ (relayingUp : State).relay (0 : Fin 2).val = ({ active := true, missing := 3 } : Relay) ∧ ({ active := true, missing := 3 } : Relay).active = true ∧ 16 ≤ (([0, 0, 0, 2, 7, 0, 0, 0, 0, 0, 0, 0, 3, 0, 0, 0, 0, 0, 0, 0, 0, 1, 0] : List Byte) : List Byte).length ∧ rdN (([0, 0, 0, 2, 7, 0, 0, 0, 0, 0, 0, 0, 3, 0, 0, 0, 0, 0, 0, 0, 0, 1, 0] : List Byte) : List Byte) 2 1 = (relayingUp : State).upd.relayOf.1 ∧ rdN (([0, 0, 0, 2, 7, 0, 0, 0, 0, 0, 0, 0, 3, 0, 0, 0, 0, 0, 0, 0, 0, 1, 0] : List Byte) : List Byte) 4 2 = (relayingUp : State).upd.relayOf.2.1 ∧ (rdN (([0, 0, 0, 2, 7, 0, 0, 0, 0, 0, 0, 0, 3, 0, 0, 0, 0, 0, 0, 0, 0, 1, 0] : List Byte) : List Byte) 3 1 = 2 ∨ (rdN (([0, 0, 0, 2, 7, 0, 0, 0, 0, 0, 0, 0, 3, 0, 0, 0, 0, 0, 0, 0, 0, 1, 0] : List Byte) : List Byte) 3 1 ≠ 0 ∧ rdN (([0, 0, 0, 2, 7, 0, 0, 0, 0, 0, 0, 0, 3, 0, 0, 0, 0, 0, 0, 0, 0, 1, 0] : List Byte) : List Byte) 16 1 = 2))) :=
  by and_intros <;> decide +kernel

set_option maxRecDepth 100000 in
/-- Operands that meet the hypotheses of ImageTransfersAndRelaysComplete, part 5. -/
theorem test_hyp_ImageTransfersAndRelaysComplete_5 :
    ((relayingUp : State).ethUp (0 : Fin 2).val = true ∧ ({ bytes := chainFrameOf ctIMAGE ([0, 0, 0, 1, 7, 0, 0, 0, 0, 0, 0, 0, 3, 0, 0, 0, 1, 0, 0, 0, 0, 1, 0] : List Byte) } : EthIn).fcsOk = true ∧ ({ bytes := chainFrameOf ctIMAGE ([0, 0, 0, 1, 7, 0, 0, 0, 0, 0, 0, 0, 3, 0, 0, 0, 1, 0, 0, 0, 0, 1, 0] : List Byte) } : EthIn).bytes.length ≤ 1518 ∧ ({ bytes := chainFrameOf ctIMAGE ([0, 0, 0, 1, 7, 0, 0, 0, 0, 0, 0, 0, 3, 0, 0, 0, 1, 0, 0, 0, 0, 1, 0] : List Byte) } : EthIn).fill = 0 ∧ chainPayload ctIMAGE ({ bytes := chainFrameOf ctIMAGE ([0, 0, 0, 1, 7, 0, 0, 0, 0, 0, 0, 0, 3, 0, 0, 0, 1, 0, 0, 0, 0, 1, 0] : List Byte) } : EthIn).bytes = some (([0, 0, 0, 1, 7, 0, 0, 0, 0, 0, 0, 0, 3, 0, 0, 0, 1, 0, 0, 0, 0, 1, 0] : List Byte) : List Byte) ∧ rdN (([0, 0, 0, 1, 7, 0, 0, 0, 0, 0, 0, 0, 3, 0, 0, 0, 1, 0, 0, 0, 0, 1, 0] : List Byte) : List Byte) 0 2 = (relayingUp : State).site ∧ (relayingUp : State).flag F.ETH_CTL_CHAIN_EN = true ∧ (relayingUp : State).relay (0 : Fin 2).val = ({ active := true, missing := 3 } : Relay) ∧ ({ active := true, missing := 3 } : Relay).active = true ∧ 16 ≤ (([0, 0, 0, 1, 7, 0, 0, 0, 0, 0, 0, 0, 3, 0, 0, 0, 1, 0, 0, 0, 0, 1, 0] : List Byte) : List Byte).length ∧ rdN (([0, 0, 0, 1, 7, 0, 0, 0, 0, 0, 0, 0, 3, 0, 0, 0, 1, 0, 0, 0, 0, 1, 0] : List Byte) : List Byte) 2 1 = (relayingUp : State).upd.relayOf.1 ∧ rdN (([0, 0, 0, 1, 7, 0, 0, 0, 0, 0, 0, 0, 3, 0, 0, 0, 1, 0, 0, 0, 0, 1, 0] : List Byte) : List Byte) 4 2 = (relayingUp : State).upd.relayOf.2.1 ∧ rdN (([0, 0, 0, 1, 7, 0, 0, 0, 0, 0, 0, 0, 3, 0, 0, 0, 1, 0, 0, 0, 0, 1, 0] : List Byte) : List Byte) 3 1 = 1 ∧ rdN (([0, 0, 0, 1, 7, 0, 0, 0, 0, 0, 0, 0, 3, 0, 0, 0, 1, 0, 0, 0, 0, 1, 0] : List Byte) : List Byte) 16 1 = 1) ∧
    ((relayingUp : State).ethUp (0 : Fin 2).val = true ∧ ({ bytes := chainFrameOf ctIMAGE ([0, 0, 0, 1, 7, 0, 0, 0, 0, 0, 0, 0, 3, 0, 0, 0, 0, 0, 0, 0, 0, 1, 0] : List Byte) } : EthIn).fcsOk = true ∧ ({ bytes := chainFrameOf ctIMAGE ([0, 0, 0, 1, 7, 0, 0, 0, 0, 0, 0, 0, 3, 0, 0, 0, 0, 0, 0, 0, 0, 1, 0] : List Byte) } : EthIn).bytes.length ≤ 1518 ∧ ({ bytes := chainFrameOf ctIMAGE ([0, 0, 0, 1, 7, 0, 0, 0, 0, 0, 0, 0, 3, 0, 0, 0, 0, 0, 0, 0, 0, 1, 0] : List Byte) } : EthIn).fill = 0 ∧ chainPayload ctIMAGE ({ bytes := chainFrameOf ctIMAGE ([0, 0, 0, 1, 7, 0, 0, 0, 0, 0, 0, 0, 3, 0, 0, 0, 0, 0, 0, 0, 0, 1, 0] : List Byte) } : EthIn).bytes = some (([0, 0, 0, 1, 7, 0, 0, 0, 0, 0, 0, 0, 3, 0, 0, 0, 0, 0, 0, 0, 0, 1, 0] : List Byte) : List Byte) ∧ rdN (([0, 0, 0, 1, 7, 0, 0, 0, 0, 0, 0, 0, 3, 0, 0, 0, 0, 0, 0, 0, 0, 1, 0] : List Byte) : List Byte) 0 2 = (relayingUp : State).site ∧ (relayingUp : State).flag F.ETH_CTL_CHAIN_EN = true ∧ (relayingUp : State).relay (0 : Fin 2).val = ({ active := true, missing := 3 } : Relay) ∧ ({ active := true, missing := 3 } : Relay).active = true ∧ 16 ≤ (([0, 0, 0, 1, 7, 0, 0, 0, 0, 0, 0, 0, 3, 0, 0, 0, 0, 0, 0, 0, 0, 1, 0] : List Byte) : List Byte).length ∧ rdN (([0, 0, 0, 1, 7, 0, 0, 0, 0, 0, 0, 0, 3, 0, 0, 0, 0, 0, 0, 0, 0, 1, 0] : List Byte) : List Byte) 2 1 = (relayingUp : State).upd.relayOf.1 ∧ rdN (([0, 0, 0, 1, 7, 0, 0, 0, 0, 0, 0, 0, 3, 0, 0, 0, 0, 0, 0, 0, 0, 1, 0] : List Byte) : List Byte) 4 2 = (relayingUp : State).upd.relayOf.2.1 ∧ rdN (([0, 0, 0, 1, 7, 0, 0, 0, 0, 0, 0, 0, 3, 0, 0, 0, 0, 0, 0, 0, 0, 1, 0] : List Byte) : List Byte) 3 1 = 1 ∧ rdN (([0, 0, 0, 1, 7, 0, 0, 0, 0, 0, 0, 0, 3, 0, 0, 0, 0, 0, 0, 0, 0, 1, 0] : List Byte) : List Byte) 16 1 = 0 ∧ ((1 : Nat) = (statusRanges 64 ((([0, 0, 0, 1, 7, 0, 0, 0, 0, 0, 0, 0, 3, 0, 0, 0, 0, 0, 0, 0, 0, 1, 0] : List Byte) : List Byte).drop 17)).foldl (fun k q => k + q.2) (0 : Nat))) ∧
    ((busyRelay : State).relay (0 : Fin 2).val = ({ active := true, busySince := some 5 } : Relay) ∧ ({ active := true, busySince := some 5 } : Relay).active = true ∧ ({ active := true, busySince := some 5 } : Relay).busySince = some (5 : Nat) ∧ (busyRelay : State).passed ({ active := true, busySince := some 5 } : Relay).lastTry (5 * oneSec) = true) ∧
    ((busyRelay : State).relay (0 : Fin 2).val = ({ active := true, busySince := some 5 } : Relay) ∧ ({ active := true, busySince := some 5 } : Relay).active = true ∧ (10 ≤ ({ active := true, busySince := some 5 } : Relay).rounds ∨ ({ active := true, busySince := some 5 } : Relay).busySince.any (fun a => (busyRelay : State).passed a (60 * oneSec)) = true)) :=
  by and_intros <;> decide +kernel

set_option maxRecDepth 100000 in
/-- Operands that meet the hypotheses of DecantsAndSchedulesComplete, part 1. -/
theorem test_hyp_DecantsAndSchedulesComplete_1 :
    ((lev2 stagedUp : State).takes (c1 [9, 0, 0, 0] : Cmd) opUpdDecant = true ∧ (c1 [9, 0, 0, 0] : Cmd).payload.length = 4 ∧ (lev2 stagedUp : State).stagedIs (rdN (c1 [9, 0, 0, 0] : Cmd).payload 0 4) = true ∧ (lev2 stagedUp : State).relaying = false ∧ (lev2 stagedUp : State).upd.sched = none ∧ (lev2 stagedUp : State).upd.decantAt = none ∧ (lev2 stagedUp : State).anyLane = true ∧ (lev2 stagedUp : State).fleetHeld = true) ∧
    ((lev2 (moving : State) : State).takes (c1 [9, 0, 0, 0] : Cmd) opUpdDecant = true ∧ (c1 [9, 0, 0, 0] : Cmd).payload.length = 4 ∧ (lev2 (moving : State) : State).stagedIs (rdN (c1 [9, 0, 0, 0] : Cmd).payload 0 4) = true ∧ (lev2 (moving : State) : State).relaying = false ∧ (lev2 (moving : State) : State).upd.sched = none ∧ (lev2 (moving : State) : State).upd.decantAt = none ∧ (lev2 (moving : State) : State).anyLane = true ∧ (lev2 (moving : State) : State).fleetHeld = false) ∧
    ((lev2 stagedUp : State).takes (c1 [8, 0, 0, 0] : Cmd) opUpdDecant = true ∧ (c1 [8, 0, 0, 0] : Cmd).payload.length = 4 ∧ ((lev2 stagedUp : State).stagedIs (rdN (c1 [8, 0, 0, 0] : Cmd).payload 0 4) = false ∨ (lev2 stagedUp : State).relaying = true ∨ (lev2 stagedUp : State).upd.sched ≠ none ∨ (lev2 stagedUp : State).upd.decantAt ≠ none ∨ (lev2 stagedUp : State).anyLane = false)) ∧
    (({ stagedUp with upd := { stagedUp.upd with decantAt := some 5 } } : State).pwr.hubReady = true ∧ ({ stagedUp with upd := { stagedUp.upd with decantAt := some 5 } } : State).upd.decantAt = some (5 : Nat) ∧ (5 : Nat) ≤ ({ stagedUp with upd := { stagedUp.upd with decantAt := some 5 } } : State).now) ∧
    (((scheduled sch0).setFld F.UPD_STAT_HOLD 1 : State).pwr.hubReady = true ∧ ((scheduled sch0).setFld F.UPD_STAT_HOLD 1 : State).upd.sched = some (sch0 : Schedule) ∧ (sch0 : Schedule).held = true ∧ ((scheduled sch0).setFld F.UPD_STAT_HOLD 1 : State).flag F.UPD_STAT_HOLD = true ∧ (sch0 : Schedule).td ≤ ((scheduled sch0).setFld F.UPD_STAT_HOLD 1 : State).now) :=
  by and_intros <;> decide +kernel

set_option maxRecDepth 100000 in
/-- Operands that meet the hypotheses of DecantsAndSchedulesComplete, part 2. -/
theorem test_hyp_DecantsAndSchedulesComplete_2 :
    ((lev2 stagedUp : State).takes (c1 ([0, 0, 1, 0] ++ le 8 (stagedUp.now + 10 * oneSec) ++ [9, 0, 0, 0]) : Cmd) opUpdDecantSchedule = true ∧ (c1 ([0, 0, 1, 0] ++ le 8 (stagedUp.now + 10 * oneSec) ++ [9, 0, 0, 0]) : Cmd).payload.length = 16 ∧ rdN (c1 ([0, 0, 1, 0] ++ le 8 (stagedUp.now + 10 * oneSec) ++ [9, 0, 0, 0]) : Cmd).payload 1 1 ≤ 1 ∧ rdN (c1 ([0, 0, 1, 0] ++ le 8 (stagedUp.now + 10 * oneSec) ++ [9, 0, 0, 0]) : Cmd).payload 0 1 = 0 ∧ (1 ≤ rdN (c1 ([0, 0, 1, 0] ++ le 8 (stagedUp.now + 10 * oneSec) ++ [9, 0, 0, 0]) : Cmd).payload 2 1 ∧ rdN (c1 ([0, 0, 1, 0] ++ le 8 (stagedUp.now + 10 * oneSec) ++ [9, 0, 0, 0]) : Cmd).payload 2 1 ≤ 16) ∧ (lev2 stagedUp : State).now + 5 * oneSec ≤ (rdN (c1 ([0, 0, 1, 0] ++ le 8 (stagedUp.now + 10 * oneSec) ++ [9, 0, 0, 0]) : Cmd).payload 4 8) ∧ (rdN (c1 ([0, 0, 1, 0] ++ le 8 (stagedUp.now + 10 * oneSec) ++ [9, 0, 0, 0]) : Cmd).payload 4 8) ≤ (lev2 stagedUp : State).now + 86400 * oneSec ∧ (lev2 stagedUp : State).upd.sched = none ∧ (lev2 stagedUp : State).upd.decantAt = none ∧ (lev2 stagedUp : State).stagedIs (rdN (c1 ([0, 0, 1, 0] ++ le 8 (stagedUp.now + 10 * oneSec) ++ [9, 0, 0, 0]) : Cmd).payload 12 4) = true ∧ ({ id := 0, origin := (lev2 stagedUp).net, chain := false, expected := 1, td := stagedUp.now + 10 * oneSec, vintage := 9, acceptedAt := stagedUp.el, held := true, nbr := 0 } : Schedule) = { id := (lev2 stagedUp : State).upd.schedSeq % 65536, origin := (lev2 stagedUp : State).net, chain := rdN (c1 ([0, 0, 1, 0] ++ le 8 (stagedUp.now + 10 * oneSec) ++ [9, 0, 0, 0]) : Cmd).payload 1 1 = 1, expected := rdN (c1 ([0, 0, 1, 0] ++ le 8 (stagedUp.now + 10 * oneSec) ++ [9, 0, 0, 0]) : Cmd).payload 2 1, td := (rdN (c1 ([0, 0, 1, 0] ++ le 8 (stagedUp.now + 10 * oneSec) ++ [9, 0, 0, 0]) : Cmd).payload 4 8), vintage := rdN (c1 ([0, 0, 1, 0] ++ le 8 (stagedUp.now + 10 * oneSec) ++ [9, 0, 0, 0]) : Cmd).payload 12 4, acceptedAt := (lev2 stagedUp : State).el, held := rdN (c1 ([0, 0, 1, 0] ++ le 8 (stagedUp.now + 10 * oneSec) ++ [9, 0, 0, 0]) : Cmd).payload 1 1 ≠ 1, nbr := (lev2 stagedUp : State).nbrMask }) ∧
    ((lev2 up : State).takes (c1 ([0, 0, 1, 0] ++ le 8 (stagedUp.now + 10 * oneSec) ++ [9, 0, 0, 0]) : Cmd) opUpdDecantSchedule = true ∧ (c1 ([0, 0, 1, 0] ++ le 8 (stagedUp.now + 10 * oneSec) ++ [9, 0, 0, 0]) : Cmd).payload.length = 16 ∧ rdN (c1 ([0, 0, 1, 0] ++ le 8 (stagedUp.now + 10 * oneSec) ++ [9, 0, 0, 0]) : Cmd).payload 1 1 ≤ 1 ∧ rdN (c1 ([0, 0, 1, 0] ++ le 8 (stagedUp.now + 10 * oneSec) ++ [9, 0, 0, 0]) : Cmd).payload 0 1 = 0 ∧ (1 ≤ rdN (c1 ([0, 0, 1, 0] ++ le 8 (stagedUp.now + 10 * oneSec) ++ [9, 0, 0, 0]) : Cmd).payload 2 1 ∧ rdN (c1 ([0, 0, 1, 0] ++ le 8 (stagedUp.now + 10 * oneSec) ++ [9, 0, 0, 0]) : Cmd).payload 2 1 ≤ 16) ∧ (lev2 up : State).now + 5 * oneSec ≤ (rdN (c1 ([0, 0, 1, 0] ++ le 8 (stagedUp.now + 10 * oneSec) ++ [9, 0, 0, 0]) : Cmd).payload 4 8) ∧ (rdN (c1 ([0, 0, 1, 0] ++ le 8 (stagedUp.now + 10 * oneSec) ++ [9, 0, 0, 0]) : Cmd).payload 4 8) ≤ (lev2 up : State).now + 86400 * oneSec ∧ ((lev2 up : State).upd.sched ≠ none ∨ (lev2 up : State).upd.decantAt ≠ none ∨ (lev2 up : State).stagedIs (rdN (c1 ([0, 0, 1, 0] ++ le 8 (stagedUp.now + 10 * oneSec) ++ [9, 0, 0, 0]) : Cmd).payload 12 4) = false)) ∧
    ((lev2 up : State).takes (c1 [0, 0, 1, 0, 0, 0, 0, 0, 0, 0, 0, 0, 9, 0, 0, 0] : Cmd) opUpdDecantSchedule = true ∧ (c1 [0, 0, 1, 0, 0, 0, 0, 0, 0, 0, 0, 0, 9, 0, 0, 0] : Cmd).payload.length = 16 ∧ (1 < rdN (c1 [0, 0, 1, 0, 0, 0, 0, 0, 0, 0, 0, 0, 9, 0, 0, 0] : Cmd).payload 0 1 ∨ 1 < rdN (c1 [0, 0, 1, 0, 0, 0, 0, 0, 0, 0, 0, 0, 9, 0, 0, 0] : Cmd).payload 1 1 ∨ (rdN (c1 [0, 0, 1, 0, 0, 0, 0, 0, 0, 0, 0, 0, 9, 0, 0, 0] : Cmd).payload 0 1 = 0 ∧ (rdN (c1 [0, 0, 1, 0, 0, 0, 0, 0, 0, 0, 0, 0, 9, 0, 0, 0] : Cmd).payload 2 1 = 0 ∨ 16 < rdN (c1 [0, 0, 1, 0, 0, 0, 0, 0, 0, 0, 0, 0, 9, 0, 0, 0] : Cmd).payload 2 1 ∨ (rdN (c1 [0, 0, 1, 0, 0, 0, 0, 0, 0, 0, 0, 0, 9, 0, 0, 0] : Cmd).payload 4 8) < (lev2 up : State).now + 5 * oneSec ∨ (lev2 up : State).now + 86400 * oneSec < (rdN (c1 [0, 0, 1, 0, 0, 0, 0, 0, 0, 0, 0, 0, 9, 0, 0, 0] : Cmd).payload 4 8))))) ∧
    ((lev2 (scheduled schFar) : State).takes (c1 ([1, 0, 1, 0] ++ zeros 12) : Cmd) opUpdDecantSchedule = true ∧ (c1 ([1, 0, 1, 0] ++ zeros 12) : Cmd).payload.length = 16 ∧ rdN (c1 ([1, 0, 1, 0] ++ zeros 12) : Cmd).payload 1 1 ≤ 1 ∧ rdN (c1 ([1, 0, 1, 0] ++ zeros 12) : Cmd).payload 0 1 = 1 ∧ (lev2 (scheduled schFar) : State).upd.sched = some (schFar : Schedule) ∧ (lev2 (scheduled schFar) : State).now + 200 * oneMs < (schFar : Schedule).td) ∧
    ((lev2 (scheduled sch0) : State).takes (c1 ([1, 0, 1, 0] ++ zeros 12) : Cmd) opUpdDecantSchedule = true ∧ (c1 ([1, 0, 1, 0] ++ zeros 12) : Cmd).payload.length = 16 ∧ rdN (c1 ([1, 0, 1, 0] ++ zeros 12) : Cmd).payload 1 1 ≤ 1 ∧ rdN (c1 ([1, 0, 1, 0] ++ zeros 12) : Cmd).payload 0 1 = 1 ∧ ((lev2 (scheduled sch0) : State).upd.sched.all (fun y => decide (y.td ≤ (lev2 (scheduled sch0) : State).now + 200 * oneMs)) = true)) :=
  by and_intros <;> decide +kernel

set_option maxRecDepth 100000 in
/-- Operands that meet the hypotheses of DecantsAndSchedulesComplete, part 3. -/
theorem test_hyp_DecantsAndSchedulesComplete_3 :
    ((stagedUp : State).ethUp (0 : Fin 2).val = true ∧ ({ bytes := chainFrameOf ctDECANT (decP 0 7 0) } : EthIn).fcsOk = true ∧ ({ bytes := chainFrameOf ctDECANT (decP 0 7 0) } : EthIn).bytes.length ≤ 1518 ∧ ({ bytes := chainFrameOf ctDECANT (decP 0 7 0) } : EthIn).fill = 0 ∧ chainPayload ctDECANT ({ bytes := chainFrameOf ctDECANT (decP 0 7 0) } : EthIn).bytes = some ((decP 0 7 0) : List Byte) ∧ rdN ((decP 0 7 0) : List Byte) 0 2 = (stagedUp : State).site ∧ (stagedUp : State).flag F.ETH_CTL_CHAIN_EN = true ∧ ((decP 0 7 0) : List Byte).length = 24 ∧ (rdN ((decP 0 7 0) : List Byte) 2 1, rdN ((decP 0 7 0) : List Byte) 4 2, rdN ((decP 0 7 0) : List Byte) 3 1, rdN ((decP 0 7 0) : List Byte) 20 1) ∉ (stagedUp : State).upd.seen ∧ rdN ((decP 0 7 0) : List Byte) 3 1 = 0 ∧ rdN ((decP 0 7 0) : List Byte) 2 1 ≠ (stagedUp : State).net ∧ ({ id := 5, origin := 7, chain := true, expected := 0, td := stagedUp.now + 10 * oneSec, vintage := 9, acceptedAt := stagedUp.el, nbr := 0 } : Schedule) = { id := rdN ((decP 0 7 0) : List Byte) 4 2, origin := rdN ((decP 0 7 0) : List Byte) 2 1, chain := true, expected := 0, td := rdN ((decP 0 7 0) : List Byte) 8 8, vintage := rdN ((decP 0 7 0) : List Byte) 16 4, acceptedAt := (stagedUp : State).el, nbr := (stagedUp : State).nbrMask } ∧ (stagedUp : State).stagedIs ({ id := 5, origin := 7, chain := true, expected := 0, td := stagedUp.now + 10 * oneSec, vintage := 9, acceptedAt := stagedUp.el, nbr := 0 } : Schedule).vintage = true ∧ (stagedUp : State).upd.sched = none ∧ (stagedUp : State).upd.decantAt = none) ∧
    ((stagedUp.setFld F.UPD_VINT_STG_VINTAGE 8 : State).ethUp (0 : Fin 2).val = true ∧ ({ bytes := chainFrameOf ctDECANT (decP 0 7 0) } : EthIn).fcsOk = true ∧ ({ bytes := chainFrameOf ctDECANT (decP 0 7 0) } : EthIn).bytes.length ≤ 1518 ∧ ({ bytes := chainFrameOf ctDECANT (decP 0 7 0) } : EthIn).fill = 0 ∧ chainPayload ctDECANT ({ bytes := chainFrameOf ctDECANT (decP 0 7 0) } : EthIn).bytes = some ((decP 0 7 0) : List Byte) ∧ rdN ((decP 0 7 0) : List Byte) 0 2 = (stagedUp.setFld F.UPD_VINT_STG_VINTAGE 8 : State).site ∧ (stagedUp.setFld F.UPD_VINT_STG_VINTAGE 8 : State).flag F.ETH_CTL_CHAIN_EN = true ∧ ((decP 0 7 0) : List Byte).length = 24 ∧ (rdN ((decP 0 7 0) : List Byte) 2 1, rdN ((decP 0 7 0) : List Byte) 4 2, rdN ((decP 0 7 0) : List Byte) 3 1, rdN ((decP 0 7 0) : List Byte) 20 1) ∉ (stagedUp.setFld F.UPD_VINT_STG_VINTAGE 8 : State).upd.seen ∧ rdN ((decP 0 7 0) : List Byte) 3 1 = 0 ∧ rdN ((decP 0 7 0) : List Byte) 2 1 ≠ (stagedUp.setFld F.UPD_VINT_STG_VINTAGE 8 : State).net ∧ ({ id := 5, origin := 7, chain := true, expected := 0, td := stagedUp.now + 10 * oneSec, vintage := 9, acceptedAt := stagedUp.el, nbr := 0 } : Schedule) = { id := rdN ((decP 0 7 0) : List Byte) 4 2, origin := rdN ((decP 0 7 0) : List Byte) 2 1, chain := true, expected := 0, td := rdN ((decP 0 7 0) : List Byte) 8 8, vintage := rdN ((decP 0 7 0) : List Byte) 16 4, acceptedAt := (stagedUp.setFld F.UPD_VINT_STG_VINTAGE 8 : State).el, nbr := (stagedUp.setFld F.UPD_VINT_STG_VINTAGE 8 : State).nbrMask } ∧ (stagedUp.setFld F.UPD_VINT_STG_VINTAGE 8 : State).stagedIs ({ id := 5, origin := 7, chain := true, expected := 0, td := stagedUp.now + 10 * oneSec, vintage := 9, acceptedAt := stagedUp.el, nbr := 0 } : Schedule).vintage = false) ∧
    ((scheduled schFar : State).ethUp (0 : Fin 2).val = true ∧ ({ bytes := chainFrameOf ctDECANT (decP 0 7 0) } : EthIn).fcsOk = true ∧ ({ bytes := chainFrameOf ctDECANT (decP 0 7 0) } : EthIn).bytes.length ≤ 1518 ∧ ({ bytes := chainFrameOf ctDECANT (decP 0 7 0) } : EthIn).fill = 0 ∧ chainPayload ctDECANT ({ bytes := chainFrameOf ctDECANT (decP 0 7 0) } : EthIn).bytes = some ((decP 0 7 0) : List Byte) ∧ rdN ((decP 0 7 0) : List Byte) 0 2 = (scheduled schFar : State).site ∧ (scheduled schFar : State).flag F.ETH_CTL_CHAIN_EN = true ∧ ((decP 0 7 0) : List Byte).length = 24 ∧ (rdN ((decP 0 7 0) : List Byte) 2 1, rdN ((decP 0 7 0) : List Byte) 4 2, rdN ((decP 0 7 0) : List Byte) 3 1, rdN ((decP 0 7 0) : List Byte) 20 1) ∉ (scheduled schFar : State).upd.seen ∧ rdN ((decP 0 7 0) : List Byte) 3 1 = 0 ∧ rdN ((decP 0 7 0) : List Byte) 2 1 ≠ (scheduled schFar : State).net ∧ ({ id := 5, origin := 7, chain := true, expected := 0, td := stagedUp.now + 10 * oneSec, vintage := 9, acceptedAt := stagedUp.el, nbr := 0 } : Schedule) = { id := rdN ((decP 0 7 0) : List Byte) 4 2, origin := rdN ((decP 0 7 0) : List Byte) 2 1, chain := true, expected := 0, td := rdN ((decP 0 7 0) : List Byte) 8 8, vintage := rdN ((decP 0 7 0) : List Byte) 16 4, acceptedAt := (scheduled schFar : State).el, nbr := (scheduled schFar : State).nbrMask } ∧ (scheduled schFar : State).stagedIs ({ id := 5, origin := 7, chain := true, expected := 0, td := stagedUp.now + 10 * oneSec, vintage := 9, acceptedAt := stagedUp.el, nbr := 0 } : Schedule).vintage = true ∧ ((scheduled schFar : State).upd.sched ≠ none ∨ (scheduled schFar : State).upd.decantAt ≠ none)) ∧
    ((scheduled schMine : State).ethUp (0 : Fin 2).val = true ∧ ({ bytes := chainFrameOf ctDECANT (decP 1 0 0) } : EthIn).fcsOk = true ∧ ({ bytes := chainFrameOf ctDECANT (decP 1 0 0) } : EthIn).bytes.length ≤ 1518 ∧ ({ bytes := chainFrameOf ctDECANT (decP 1 0 0) } : EthIn).fill = 0 ∧ chainPayload ctDECANT ({ bytes := chainFrameOf ctDECANT (decP 1 0 0) } : EthIn).bytes = some ((decP 1 0 0) : List Byte) ∧ rdN ((decP 1 0 0) : List Byte) 0 2 = (scheduled schMine : State).site ∧ (scheduled schMine : State).flag F.ETH_CTL_CHAIN_EN = true ∧ ((decP 1 0 0) : List Byte).length = 24 ∧ (rdN ((decP 1 0 0) : List Byte) 2 1, rdN ((decP 1 0 0) : List Byte) 4 2, rdN ((decP 1 0 0) : List Byte) 3 1, rdN ((decP 1 0 0) : List Byte) 20 1) ∉ (scheduled schMine : State).upd.seen ∧ rdN ((decP 1 0 0) : List Byte) 3 1 = 1 ∧ rdN ((decP 1 0 0) : List Byte) 2 1 = (scheduled schMine : State).net ∧ (scheduled schMine : State).upd.sched = some (schMine : Schedule) ∧ (schMine : Schedule).id = rdN ((decP 1 0 0) : List Byte) 4 2 ∧ (schMine : Schedule).origin = (scheduled schMine : State).net ∧ (schMine : Schedule).held = false) ∧
    ((scheduled schMine : State).ethUp (0 : Fin 2).val = true ∧ ({ bytes := chainFrameOf ctDECANT (decP 2 0 2) } : EthIn).fcsOk = true ∧ ({ bytes := chainFrameOf ctDECANT (decP 2 0 2) } : EthIn).bytes.length ≤ 1518 ∧ ({ bytes := chainFrameOf ctDECANT (decP 2 0 2) } : EthIn).fill = 0 ∧ chainPayload ctDECANT ({ bytes := chainFrameOf ctDECANT (decP 2 0 2) } : EthIn).bytes = some ((decP 2 0 2) : List Byte) ∧ rdN ((decP 2 0 2) : List Byte) 0 2 = (scheduled schMine : State).site ∧ (scheduled schMine : State).flag F.ETH_CTL_CHAIN_EN = true ∧ ((decP 2 0 2) : List Byte).length = 24 ∧ (rdN ((decP 2 0 2) : List Byte) 2 1, rdN ((decP 2 0 2) : List Byte) 4 2, rdN ((decP 2 0 2) : List Byte) 3 1, rdN ((decP 2 0 2) : List Byte) 20 1) ∉ (scheduled schMine : State).upd.seen ∧ rdN ((decP 2 0 2) : List Byte) 3 1 = 2 ∧ rdN ((decP 2 0 2) : List Byte) 2 1 = (scheduled schMine : State).net ∧ (scheduled schMine : State).upd.sched = some (schMine : Schedule) ∧ (schMine : Schedule).id = rdN ((decP 2 0 2) : List Byte) 4 2 ∧ (schMine : Schedule).origin = (scheduled schMine : State).net ∧ (schMine : Schedule).held = false) :=
  by and_intros <;> decide +kernel

set_option maxRecDepth 100000 in
/-- Operands that meet the hypotheses of DecantsAndSchedulesComplete, part 4. -/
theorem test_hyp_DecantsAndSchedulesComplete_4 :
    ((scheduled schFar : State).ethUp (0 : Fin 2).val = true ∧ ({ bytes := chainFrameOf ctDECANT (decP 4 7 0) } : EthIn).fcsOk = true ∧ ({ bytes := chainFrameOf ctDECANT (decP 4 7 0) } : EthIn).bytes.length ≤ 1518 ∧ ({ bytes := chainFrameOf ctDECANT (decP 4 7 0) } : EthIn).fill = 0 ∧ chainPayload ctDECANT ({ bytes := chainFrameOf ctDECANT (decP 4 7 0) } : EthIn).bytes = some ((decP 4 7 0) : List Byte) ∧ rdN ((decP 4 7 0) : List Byte) 0 2 = (scheduled schFar : State).site ∧ (scheduled schFar : State).flag F.ETH_CTL_CHAIN_EN = true ∧ ((decP 4 7 0) : List Byte).length = 24 ∧ (rdN ((decP 4 7 0) : List Byte) 2 1, rdN ((decP 4 7 0) : List Byte) 4 2, rdN ((decP 4 7 0) : List Byte) 3 1, rdN ((decP 4 7 0) : List Byte) 20 1) ∉ (scheduled schFar : State).upd.seen ∧ (rdN ((decP 4 7 0) : List Byte) 3 1 = 3 ∨ (rdN ((decP 4 7 0) : List Byte) 3 1 = 4 ∧ (scheduled schFar : State).now + 200 * oneMs < rdN ((decP 4 7 0) : List Byte) 8 8)) ∧ (scheduled schFar : State).upd.sched = some (schFar : Schedule) ∧ (schFar : Schedule).id = rdN ((decP 4 7 0) : List Byte) 4 2 ∧ (schFar : Schedule).origin = rdN ((decP 4 7 0) : List Byte) 2 1 ∧ (scheduled schFar : State).cancellable (schFar : Schedule) = true) ∧
    ((scheduled schMine : State).upd.sched = some (schMine : Schedule) ∧ (schMine : Schedule).held = false ∧ (scheduled schMine : State).passed (schMine : Schedule).acceptedAt (2 * oneSec) = true ∧ (schMine : Schedule).origin = (scheduled schMine : State).net ∧ ((schMine : Schedule).nak ≠ none ∨ (schMine : Schedule).acks < (schMine : Schedule).expected)) ∧
    ((scheduled { schMine with expected := 0 } : State).upd.sched = some ({ schMine with expected := 0 } : Schedule) ∧ ({ schMine with expected := 0 } : Schedule).held = false ∧ (scheduled { schMine with expected := 0 } : State).passed ({ schMine with expected := 0 } : Schedule).acceptedAt (2 * oneSec) = true ∧ (({ schMine with expected := 0 } : Schedule).origin ≠ (scheduled { schMine with expected := 0 } : State).net ∨ (({ schMine with expected := 0 } : Schedule).nak = none ∧ ({ schMine with expected := 0 } : Schedule).expected ≤ ({ schMine with expected := 0 } : Schedule).acks))) ∧
    (((scheduled schSoon).setFld F.TIM_STAT_STATE 2 : State).upd.sched = some (schSoon : Schedule) ∧ (schSoon : Schedule).held = true ∧ ((scheduled schSoon).setFld F.TIM_STAT_STATE 2 : State).flag F.UPD_STAT_HOLD = false ∧ (schSoon : Schedule).td ≤ ((scheduled schSoon).setFld F.TIM_STAT_STATE 2 : State).now + 500 * oneMs ∧ ((scheduled schSoon).setFld F.TIM_STAT_STATE 2 : State).holdRefusal (schSoon : Schedule) = none) ∧
    (((scheduled schSoon).setFld F.TIM_STAT_STATE 0 : State).upd.sched = some (schSoon : Schedule) ∧ (schSoon : Schedule).held = true ∧ ((scheduled schSoon).setFld F.TIM_STAT_STATE 0 : State).flag F.UPD_STAT_HOLD = false ∧ (schSoon : Schedule).td ≤ ((scheduled schSoon).setFld F.TIM_STAT_STATE 0 : State).now + 500 * oneMs ∧ ((scheduled schSoon).setFld F.TIM_STAT_STATE 0 : State).holdRefusal (schSoon : Schedule) = some (3 : Nat) ∧ ((scheduled schSoon).setFld F.TIM_STAT_STATE 0 : State).cancellable (schSoon : Schedule) = true) :=
  by and_intros <;> decide +kernel

set_option maxRecDepth 100000 in
/-- Operands that meet the hypotheses of DecantsAndSchedulesComplete, part 5. -/
theorem test_hyp_DecantsAndSchedulesComplete_5 :
    (({ up with upd := { up.upd with unconfirmed := true } } : State).upd.unconfirmed = true ∧ ({ up with upd := { up.upd with unconfirmed := true } } : State).pwr.hubReady = true ∧ ({ up with upd := { up.upd with unconfirmed := true } } : State).passed ({ up with upd := { up.upd with unconfirmed := true } } : State).pwr.resetAt (4 * oneSec) = true) ∧
    ((up : State).takes (c0 [] : Cmd) opUpdGetState = true ∧ (c0 [] : Cmd).payload = []) :=
  by and_intros <;> decide +kernel

set_option maxRecDepth 100000 in
/-- Operands that meet the hypotheses of CellarBookComplete, part 1. -/
theorem test_hyp_CellarBookComplete_1 :
    ((booked : State).cbk.q = (⟨7, [1, 2], 9, false⟩ : Rec) :: ([] : List Rec) ∧ (booked : State).cbkRuns = true ∧ (booked : State).flag F.CBK_STAT_FROZEN = false) ∧
    ((frozenBook : State).cbk.q = (⟨7, [1, 2], 9, false⟩ : Rec) :: ([] : List Rec) ∧ (frozenBook : State).cbkRuns = true ∧ (frozenBook : State).flag F.CBK_STAT_FROZEN = true) ∧
    ((booked : State).takes (c0 [0, 0, 0, 0] : Cmd) opCbkFreeze = true ∧ (c0 [0, 0, 0, 0] : Cmd).payload.length = 4) ∧
    ((frozenBook : State).takes (c0 [0, 0, 0, 0] : Cmd) opCbkThaw = true ∧ (c0 [0, 0, 0, 0] : Cmd).payload.length = 4 ∧ (frozenBook : State).flag F.CBK_STAT_FROZEN = true) ∧
    ((booked : State).takes (c0 [0, 0, 0, 0] : Cmd) opCbkThaw = true ∧ (c0 [0, 0, 0, 0] : Cmd).payload.length = 4 ∧ (booked : State).flag F.CBK_STAT_FROZEN = false) :=
  by and_intros <;> decide +kernel

set_option maxRecDepth 100000 in
/-- Operands that meet the hypotheses of CellarBookComplete, part 2. -/
theorem test_hyp_CellarBookComplete_2 :
    ((frozenBook.setFld F.CBK_CTL_FREEZE_MAX 1 : State).flag F.CBK_STAT_FROZEN = true ∧ (frozenBook.setFld F.CBK_CTL_FREEZE_MAX 1 : State).passed (frozenBook.setFld F.CBK_CTL_FREEZE_MAX 1 : State).cbk.frozenAt (orOne ((frozenBook.setFld F.CBK_CTL_FREEZE_MAX 1 : State).fld F.CBK_CTL_FREEZE_MAX) * oneSec) = true) ∧
    ((written : State).takes (c0 [1, 0, 5, 0, 0, 0, 0, 0] : Cmd) opCbkRead = true ∧ (c0 [1, 0, 5, 0, 0, 0, 0, 0] : Cmd).payload.length = 8 ∧ (rdN (c0 [1, 0, 5, 0, 0, 0, 0, 0] : Cmd).payload 0 1) ≤ 1 ∧ (1 ≤ rdN (c0 [1, 0, 5, 0, 0, 0, 0, 0] : Cmd).payload 2 2 ∧ rdN (c0 [1, 0, 5, 0, 0, 0, 0, 0] : Cmd).payload 2 2 ≤ 64) ∧ (written.cbk.circ : List Sector) = (if (rdN (c0 [1, 0, 5, 0, 0, 0, 0, 0] : Cmd).payload 0 1) = 0 then (written : State).cbk.perm else (written : State).cbk.circ) ∧ (written.cbkOldest : Nat) = (if (rdN (c0 [1, 0, 5, 0, 0, 0, 0, 0] : Cmd).payload 0 1) = 0 then (goodNumbers (written.cbk.circ : List Sector)).head?.getD 0 else (written : State).cbkOldest) ∧ (fitting 1390 5 (areaEntries written.cbk.circ (max (written.fullSeq 0) written.cbkOldest)) : List CbkEntry) = fitting 1390 (rdN (c0 [1, 0, 5, 0, 0, 0, 0, 0] : Cmd).payload 2 2) (areaEntries (written.cbk.circ : List Sector) (max ((written : State).fullSeq (rdN (c0 [1, 0, 5, 0, 0, 0, 0, 0] : Cmd).payload 4 3)) (written.cbkOldest : Nat)))) ∧
    ((written : State).takes (c0 [1, 0, 0, 0, 0, 0, 0, 0] : Cmd) opCbkRead = true ∧ (c0 [1, 0, 0, 0, 0, 0, 0, 0] : Cmd).payload.length = 8 ∧ (1 < (rdN (c0 [1, 0, 0, 0, 0, 0, 0, 0] : Cmd).payload 0 1) ∨ rdN (c0 [1, 0, 0, 0, 0, 0, 0, 0] : Cmd).payload 2 2 = 0 ∨ 64 < rdN (c0 [1, 0, 0, 0, 0, 0, 0, 0] : Cmd).payload 2 2)) ∧
    ((lev2 up : State).takes (c1 (zeros 12) : Cmd) opCbkClear = true ∧ (c1 (zeros 12) : Cmd).payload.length = 12 ∧ (lev2 up : State).sigOk (c1 (zeros 12) : Cmd).sid.val (c1 (zeros 12) : Cmd).seq.toNat 0x0E03 (c1 (zeros 12) : Cmd).payload = false) ∧
    ((signsFrozen : State).takes (signed1 0x0E03 (zeros 4) : Cmd) opCbkClear = true ∧ (signed1 0x0E03 (zeros 4) : Cmd).payload.length = 12 ∧ (signsFrozen : State).sigOk (signed1 0x0E03 (zeros 4) : Cmd).sid.val (signed1 0x0E03 (zeros 4) : Cmd).seq.toNat 0x0E03 (signed1 0x0E03 (zeros 4) : Cmd).payload = true ∧ (signsFrozen : State).flag F.CBK_STAT_FROZEN = true) :=
  ⟨by decide +kernel, by decide +kernel, (by decide +kernel), by decide +kernel, ⟨by decide +kernel, (by decide +kernel), sigOk_signed1 signsFrozen _ _ rfl (by decide +kernel), by decide +kernel⟩⟩

set_option maxRecDepth 100000 in
/-- Operands that meet the hypotheses of CellarBookComplete, part 3. -/
theorem test_hyp_CellarBookComplete_3 :
    ((signsWritten : State).takes (signed1 0x0E03 (zeros 4) : Cmd) opCbkClear = true ∧ (signed1 0x0E03 (zeros 4) : Cmd).payload.length = 12 ∧ (signsWritten : State).sigOk (signed1 0x0E03 (zeros 4) : Cmd).sid.val (signed1 0x0E03 (zeros 4) : Cmd).seq.toNat 0x0E03 (signed1 0x0E03 (zeros 4) : Cmd).payload = true ∧ (signsWritten : State).flag F.CBK_STAT_FROZEN = false ∧ (signsWritten : State).cbk.next ≠ 0 ∧ (signsWritten : State).cbkOldest ≠ (signsWritten : State).cbk.next ∧ ((rdN (signed1 0x0E03 (zeros 4) : Cmd).payload 0 3 + 2 ^ 24 - (signsWritten : State).fld F.CBK_OLDEST_SEQ) % 2 ^ 24) ≤ (((signsWritten : State).fld F.CBK_NEWEST_SEQ + 2 ^ 24 - (signsWritten : State).fld F.CBK_OLDEST_SEQ) % 2 ^ 24)) :=
  ⟨by decide +kernel, by decide +kernel, sigOk_signed1 signsWritten _ _ (by decide +kernel) (by decide +kernel), (by decide +kernel), by decide +kernel, by decide +kernel, (by decide +kernel)⟩

set_option maxRecDepth 100000 in
/-- Operands that meet the hypotheses of SupplyClockAndTemperatureEventsComplete, part 1. -/
theorem test_hyp_SupplyClockAndTemperatureEventsComplete_1 :
    ((metering : State).powered = true ∧ (metering : State).pwr.dipSince = none) ∧
    ((dipping none : State).powered = true ∧ (dipping none : State).pwr.dipSince = some (5 : Nat)) ∧
    ((dipping none : State).pwr.dipSince = some (5 : Nat) ∧ (dipping none : State).pwr.aboveAt = none ∧ (5 : Nat) + (dipping none : State).authNs < (dipping none : State).el ∧ (dipping none : State).pwr.hubReady = true ∧ (dipping none : State).pwr.state ≠ .dormant) ∧
    ((dipping none : State).powered = true) ∧
    ((dipping (some 9000) : State).pwr.dipSince = some (5 : Nat) ∧ (dipping (some 9000) : State).pwr.aboveAt = some (9000 : Nat) ∧ (dipping (some 9000) : State).passed (9000 : Nat) oneMs = true) :=
  by and_intros <;> decide +kernel

set_option maxRecDepth 100000 in
/-- Operands that meet the hypotheses of SupplyClockAndTemperatureEventsComplete, part 2. -/
theorem test_hyp_SupplyClockAndTemperatureEventsComplete_2 :
    ((dipping none : State).powered = true ∧ (dipping none : State).pwr.lowAt = none) ∧
    (({ up with pwr := { up.pwr with lowAt := some 5 } } : State).powered = true ∧ ({ up with pwr := { up.pwr with lowAt := some 5 } } : State).pwr.lowAt = some (5 : Nat) ∧ ({ up with pwr := { up.pwr with lowAt := some 5 } } : State).passed (5 : Nat) 150000 = true) ∧
    ((up : State).powered = true ∧ (up : State).flag F.PWR_STAT_VBAT_LOW = false) ∧
    ((up : State).powered = true) ∧
    ((stopUp : State).powered = true ∧ (stopUp : State).pwr.voutOffAt = none) :=
  by and_intros <;> decide +kernel

set_option maxRecDepth 100000 in
/-- Operands that meet the hypotheses of SupplyClockAndTemperatureEventsComplete, part 3. -/
theorem test_hyp_SupplyClockAndTemperatureEventsComplete_3 :
    (({ up with pwr := { up.pwr with voutOffAt := some 5 } } : State).pwr.voutOffAt = some (5 : Nat) ∧ ({ up with pwr := { up.pwr with voutOffAt := some 5 } } : State).passed (5 : Nat) (100 * oneMs) = true) ∧
    ((stopUp : State).powered = true ∧ (stopUp : State).pwr.refLostAt = none) ∧
    (({ up with pwr := { up.pwr with refLostAt := some 5 } } : State).powered = true ∧ ({ up with pwr := { up.pwr with refLostAt := some 5 } } : State).pwr.refLostAt = some (5 : Nat) ∧ ({ up with pwr := { up.pwr with refLostAt := some 5 } } : State).passed (5 : Nat) (10 * oneMs) = true) ∧
    ((up : State).pwr.hubReady = true ∧ (up : State).pwr.state ≠ .dormant ∧ (up : State).laneLive (0 : Fin 2).val = true ∧ (up.avfsNext (up.fld (fAvfsCode 0)) 7 0 : Nat × Nat) = (up : State).avfsNext ((up : State).fld (fAvfsCode (0 : Fin 2).val)) (7 : Byte).toNat (Tbl.get 0 (up : State).pwr.high (0 : Fin 2).val) ∧ ((if up.fld (fAvfsCode 0) = 40 ∧ 7 < (if up.fld F.PWR_AVFS_CTL_TARGET ≤ up.fld F.PWR_AVFS_CTL_ALARM then up.fld F.PWR_AVFS_CTL_TARGET - 1 else up.fld F.PWR_AVFS_CTL_ALARM) then 1 else 0 : Nat) = (if (up : State).fld (fAvfsCode (0 : Fin 2).val) = 40 ∧ (7 : Byte).toNat < (if (up : State).fld F.PWR_AVFS_CTL_TARGET ≤ (up : State).fld F.PWR_AVFS_CTL_ALARM then (up : State).fld F.PWR_AVFS_CTL_TARGET - 1 else (up : State).fld F.PWR_AVFS_CTL_ALARM) then Tbl.get 0 (up : State).pwr.low (0 : Fin 2).val + 1 else 0)) ∧ ((if up.fld (fAvfsCode 0) = 40 ∧ 7 < (if up.fld F.PWR_AVFS_CTL_TARGET ≤ up.fld F.PWR_AVFS_CTL_ALARM then up.fld F.PWR_AVFS_CTL_TARGET - 1 else up.fld F.PWR_AVFS_CTL_ALARM) then 1 else 0 : Nat) < 10)) ∧
    ((({ up with pwr := { up.pwr with low := [(0, 9)] } } : State) : State).pwr.hubReady = true ∧ (({ up with pwr := { up.pwr with low := [(0, 9)] } } : State) : State).pwr.state ≠ .dormant ∧ (({ up with pwr := { up.pwr with low := [(0, 9)] } } : State) : State).laneLive (0 : Fin 2).val = true ∧ (up.avfsNext (up.fld (fAvfsCode 0)) 0 0 : Nat × Nat) = (({ up with pwr := { up.pwr with low := [(0, 9)] } } : State) : State).avfsNext ((({ up with pwr := { up.pwr with low := [(0, 9)] } } : State) : State).fld (fAvfsCode (0 : Fin 2).val)) (0 : Byte).toNat (Tbl.get 0 (({ up with pwr := { up.pwr with low := [(0, 9)] } } : State) : State).pwr.high (0 : Fin 2).val) ∧ ((10 : Nat) = (if (({ up with pwr := { up.pwr with low := [(0, 9)] } } : State) : State).fld (fAvfsCode (0 : Fin 2).val) = 40 ∧ (0 : Byte).toNat < (if (({ up with pwr := { up.pwr with low := [(0, 9)] } } : State) : State).fld F.PWR_AVFS_CTL_TARGET ≤ (({ up with pwr := { up.pwr with low := [(0, 9)] } } : State) : State).fld F.PWR_AVFS_CTL_ALARM then (({ up with pwr := { up.pwr with low := [(0, 9)] } } : State) : State).fld F.PWR_AVFS_CTL_TARGET - 1 else (({ up with pwr := { up.pwr with low := [(0, 9)] } } : State) : State).fld F.PWR_AVFS_CTL_ALARM) then Tbl.get 0 (({ up with pwr := { up.pwr with low := [(0, 9)] } } : State) : State).pwr.low (0 : Fin 2).val + 1 else 0)) ∧ 10 ≤ (10 : Nat)) :=
  by and_intros <;> decide +kernel

set_option maxRecDepth 100000 in
/-- Operands that meet the hypotheses of SupplyClockAndTemperatureEventsComplete, part 4. -/
theorem test_hyp_SupplyClockAndTemperatureEventsComplete_4 :
    ((up : State).pwr.hubReady = true) :=
  by decide +kernel

set_option maxRecDepth 100000 in
/-- Operands that meet the hypotheses of PowerStatesResetsAndStartsComplete, part 1. -/
theorem test_hyp_PowerStatesResetsAndStartsComplete_1 :
    ((lev2 up : State).takes (c1 [1, 0, 0, 0] : Cmd) opSetPowerState = true ∧ (c1 [1, 0, 0, 0] : Cmd).payload.length = 4 ∧ (rdN (c1 [1, 0, 0, 0] : Cmd).payload 0 1) < 2 ∧ (lev2 up : State).pwr.state ≠ .entering ∧ (lev2 up : State).pwr.entryDue = false ∧ (.doze : PowerState) = (if (rdN (c1 [1, 0, 0, 0] : Cmd).payload 0 1) = 0 then .run else .doze)) ∧
    ((lev2 up : State).takes (c1 [2, 0, 9, 0] : Cmd) opSetPowerState = true ∧ (c1 [2, 0, 9, 0] : Cmd).payload.length = 4 ∧ (rdN (c1 [2, 0, 9, 0] : Cmd).payload 0 1) = 2 ∧ (lev2 up : State).pwr.state ≠ .entering ∧ (lev2 up : State).pwr.entryDue = false ∧ (lev2 up : State).dormantRefusal = none ∧ (((lev2 up : State).sess (c1 [2, 0, 9, 0] : Cmd).sid.val).outst.all (fun e => e.fast || (e.reply.isSome && !e.held)) = true)) ∧
    ((waiting1 : State).takes (c0 [2, 0, 9, 0] : Cmd) opSetPowerState = true ∧ (c0 [2, 0, 9, 0] : Cmd).payload.length = 4 ∧ (rdN (c0 [2, 0, 9, 0] : Cmd).payload 0 1) = 2 ∧ (waiting1 : State).pwr.state ≠ .entering ∧ (waiting1 : State).pwr.entryDue = false ∧ (waiting1 : State).dormantRefusal = none ∧ (((waiting1 : State).sess (c0 [2, 0, 9, 0] : Cmd).sid.val).outst.any (fun e => !e.fast && (e.reply.isNone || e.held)) = true)) ∧
    ((lev2 moving : State).takes (c1 [2, 0, 9, 0] : Cmd) opSetPowerState = true ∧ (c1 [2, 0, 9, 0] : Cmd).payload.length = 4 ∧ (rdN (c1 [2, 0, 9, 0] : Cmd).payload 0 1) = 2 ∧ (lev2 moving : State).pwr.state ≠ .entering ∧ (lev2 moving : State).pwr.entryDue = false ∧ (lev2 moving : State).dormantRefusal = some (0x43 : Nat)) ∧
    ((lev2 up : State).takes (c1 [3, 0, 9, 0] : Cmd) opSetPowerState = true ∧ (c1 [3, 0, 9, 0] : Cmd).payload.length = 4 ∧ (lev2 up : State).pwr.entryDue = false ∧ (2 < (rdN (c1 [3, 0, 9, 0] : Cmd).payload 0 1) ∨ (lev2 up : State).pwr.state = .entering)) :=
  by and_intros <;> decide +kernel

set_option maxRecDepth 100000 in
/-- Operands that meet the hypotheses of PowerStatesResetsAndStartsComplete, part 2. -/
theorem test_hyp_PowerStatesResetsAndStartsComplete_2 :
    (({ waiting1 with pwr := { waiting1.pwr with entryDue := true } } : State).takes (c0 [0, 0, 9, 0] : Cmd) opSetPowerState = true ∧ (c0 [0, 0, 9, 0] : Cmd).payload.length = 4 ∧ ({ waiting1 with pwr := { waiting1.pwr with entryDue := true } } : State).pwr.entryDue = true ∧ (rdN (c0 [0, 0, 9, 0] : Cmd).payload 0 1) ≤ 2 ∧ ((({ waiting1 with pwr := { waiting1.pwr with entryDue := true } } : State).sess (c0 [0, 0, 9, 0] : Cmd).sid.val).outst.any (fun e => !e.fast && (e.reply.isNone || e.held)) = true)) ∧
    ((entering 0 : State).pwr.state = .entering ∧ (entering 0 : State).passed (entering 0 : State).pwr.enterAt (32 * oneMs) = true ∧ (entering 0 : State).pwr.wake = 0) ∧
    ((entering 1 : State).pwr.state = .entering ∧ (entering 1 : State).passed (entering 1 : State).pwr.enterAt (32 * oneMs) = true ∧ (entering 1 : State).pwr.wake ≠ 0) ∧
    ((sleeping : State).pwr.state = .dormant ∧ (sleeping : State).flag F.PWR_WAKE_PIN_EN = true) ∧
    (((entering 0).setFld F.PWR_WAKE_PIN_EN 1 : State).pwr.state = .entering ∧ ((entering 0).setFld F.PWR_WAKE_PIN_EN 1 : State).flag F.PWR_WAKE_PIN_EN = true) :=
  by and_intros <;> decide +kernel

set_option maxRecDepth 100000 in
/-- Operands that meet the hypotheses of PowerStatesResetsAndStartsComplete, part 3. -/
theorem test_hyp_PowerStatesResetsAndStartsComplete_3 :
    ((sleeping : State).pwr.state = .dormant ∧ (sleeping : State).fld F.PWR_WAKE_TIMER ≠ 0 ∧ (sleeping : State).passed (sleeping : State).pwr.enterAt ((sleeping : State).fld F.PWR_WAKE_TIMER * oneSec) = true) ∧
    (({ up with pwr := { state := .backup, brown := true } } : State).powered = false) ∧
    ((up : State).powered = true) ∧
    ((lev2 up : State).pwr.hubReady = true ∧ (lev2 up : State).pwr.state ≠ .dormant) ∧
    ((up : State).serving = true ∧ (up : State).fleetHeld = true) :=
  by and_intros <;> decide +kernel

set_option maxRecDepth 100000 in
/-- Operands that meet the hypotheses of PowerStatesResetsAndStartsComplete, part 4. -/
theorem test_hyp_PowerStatesResetsAndStartsComplete_4 :
    ((moving : State).serving = true ∧ (moving : State).fleetHeld = false ∧ (moving : State).pwr.rstReq = false) ∧
    ((State.reset : State).pwr.state = .starting ∧ ((State.reset : State).bootChoice (fun bank => if bank = 0 then (true : Bool) else (true : Bool)) = some ((0 : Nat), (false : Bool)))) ∧
    ((State.reset : State).pwr.state = .starting ∧ ((State.reset : State).bootChoice (fun bank => if bank = 0 then (false : Bool) else (false : Bool)) = none)) ∧
    ((up : State).takes (c0 [] : Cmd) opGetStatus = true ∧ (c0 [] : Cmd).payload = []) ∧
    ((lev2 up : State).takes (c1 [0x11, 0, 0, 0] : Cmd) opResetEngine = true ∧ (c1 [0x11, 0, 0, 0] : Cmd).payload.length = 4 ∧ (0x11 : Nat) = rdN (c1 [0x11, 0, 0, 0] : Cmd).payload 0 1 ∧ resettable (0x11 : Nat) = true ∧ (0x11 : Nat) ≠ 3 ∧ (lev2 up : State).svb.switchReset = false ∧ (((0x11 : Nat) = 4 ∨ 16 ≤ (0x11 : Nat)) → (lev2 up : State).fleetHeld = true)) :=
  by and_intros <;> decide +kernel

set_option maxRecDepth 100000 in
/-- Operands that meet the hypotheses of PowerStatesResetsAndStartsComplete, part 5. -/
theorem test_hyp_PowerStatesResetsAndStartsComplete_5 :
    ((lev2 up : State).takes (c1 [3, 0, 0, 0] : Cmd) opResetEngine = true ∧ (c1 [3, 0, 0, 0] : Cmd).payload.length = 4 ∧ (3 : Nat) = rdN (c1 [3, 0, 0, 0] : Cmd).payload 0 1 ∧ (3 : Nat) = 3 ∧ (((lev2 up : State).sess (c1 [3, 0, 0, 0] : Cmd).sid.val).outst.all (fun e => e.fast || (e.reply.isSome && !e.held)) = true) ∧ (∀ d ∈ (lev2 up : State).eth.disc, d.sid = (c1 [3, 0, 0, 0] : Cmd).sid.val → d.seq ≠ (c1 [3, 0, 0, 0] : Cmd).seq.toNat)) ∧
    ((waiting1 : State).takes (c0 [3, 0, 0, 0] : Cmd) opResetEngine = true ∧ (c0 [3, 0, 0, 0] : Cmd).payload.length = 4 ∧ (3 : Nat) = rdN (c0 [3, 0, 0, 0] : Cmd).payload 0 1 ∧ (3 : Nat) = 3 ∧ (((waiting1 : State).sess (c0 [3, 0, 0, 0] : Cmd).sid.val).outst.any (fun e => !e.fast && (e.reply.isNone || e.held)) = true)) ∧
    ((lev2 moving : State).takes (c1 [0x11, 0, 0, 0] : Cmd) opResetEngine = true ∧ (c1 [0x11, 0, 0, 0] : Cmd).payload.length = 4 ∧ (0x11 : Nat) = rdN (c1 [0x11, 0, 0, 0] : Cmd).payload 0 1 ∧ (lev2 moving : State).svb.switchReset = false ∧ (resettable (0x11 : Nat) = false ∨ (((0x11 : Nat) = 4 ∨ 16 ≤ (0x11 : Nat)) ∧ (lev2 moving : State).fleetHeld = false))) :=
  by and_intros <;> decide +kernel

set_option maxRecDepth 100000 in
/-- Operands that meet the hypotheses of TestPerturbationBlockComplete, part 1. -/
theorem test_hyp_TestPerturbationBlockComplete_1 :
    ((lev2 up : State).takes (c1 (zeros 12) : Cmd) opTstUnlock = true ∧ (c1 (zeros 12) : Cmd).payload.length = 12 ∧ (lev2 up : State).sigOk (c1 (zeros 12) : Cmd).sid.val (c1 (zeros 12) : Cmd).seq.toNat 0x0F00 (c1 (zeros 12) : Cmd).payload = false) ∧
    ((signs : State).takes (signed1 0x0F00 (le 2 59 ++ zeros 2) : Cmd) opTstUnlock = true ∧ (signed1 0x0F00 (le 2 59 ++ zeros 2) : Cmd).payload.length = 12 ∧ (signs : State).sigOk (signed1 0x0F00 (le 2 59 ++ zeros 2) : Cmd).sid.val (signed1 0x0F00 (le 2 59 ++ zeros 2) : Cmd).seq.toNat 0x0F00 (signed1 0x0F00 (le 2 59 ++ zeros 2) : Cmd).payload = true ∧ ((rdN (signed1 0x0F00 (le 2 59 ++ zeros 2) : Cmd).payload 0 2) < 60 ∨ 14400 < (rdN (signed1 0x0F00 (le 2 59 ++ zeros 2) : Cmd).payload 0 2))) ∧
    ((signsMoving : State).takes (signed1 0x0F00 (le 2 60 ++ zeros 2) : Cmd) opTstUnlock = true ∧ (signed1 0x0F00 (le 2 60 ++ zeros 2) : Cmd).payload.length = 12 ∧ (signsMoving : State).sigOk (signed1 0x0F00 (le 2 60 ++ zeros 2) : Cmd).sid.val (signed1 0x0F00 (le 2 60 ++ zeros 2) : Cmd).seq.toNat 0x0F00 (signed1 0x0F00 (le 2 60 ++ zeros 2) : Cmd).payload = true ∧ (60 ≤ (rdN (signed1 0x0F00 (le 2 60 ++ zeros 2) : Cmd).payload 0 2) ∧ (rdN (signed1 0x0F00 (le 2 60 ++ zeros 2) : Cmd).payload 0 2) ≤ 14400) ∧ (signsMoving : State).fleetHeld = false) ∧
    ((signsHeld : State).takes (signed1 0x0F00 (le 2 60 ++ zeros 2) : Cmd) opTstUnlock = true ∧ (signed1 0x0F00 (le 2 60 ++ zeros 2) : Cmd).payload.length = 12 ∧ (signsHeld : State).sigOk (signed1 0x0F00 (le 2 60 ++ zeros 2) : Cmd).sid.val (signed1 0x0F00 (le 2 60 ++ zeros 2) : Cmd).seq.toNat 0x0F00 (signed1 0x0F00 (le 2 60 ++ zeros 2) : Cmd).payload = true ∧ (60 ≤ (rdN (signed1 0x0F00 (le 2 60 ++ zeros 2) : Cmd).payload 0 2) ∧ (rdN (signed1 0x0F00 (le 2 60 ++ zeros 2) : Cmd).payload 0 2) ≤ 14400) ∧ (signsHeld : State).fleetHeld = true ∧ (signsHeld : State).tst.unlocked = true ∧ (signsHeld : State).fld F.TST_STAT_SID ≠ (signed1 0x0F00 (le 2 60 ++ zeros 2) : Cmd).sid.val) ∧
    ((signs : State).takes (signed1 0x0F00 (le 2 60 ++ zeros 2) : Cmd) opTstUnlock = true ∧ (signed1 0x0F00 (le 2 60 ++ zeros 2) : Cmd).payload.length = 12 ∧ (signs : State).sigOk (signed1 0x0F00 (le 2 60 ++ zeros 2) : Cmd).sid.val (signed1 0x0F00 (le 2 60 ++ zeros 2) : Cmd).seq.toNat 0x0F00 (signed1 0x0F00 (le 2 60 ++ zeros 2) : Cmd).payload = true ∧ (60 ≤ (rdN (signed1 0x0F00 (le 2 60 ++ zeros 2) : Cmd).payload 0 2) ∧ (rdN (signed1 0x0F00 (le 2 60 ++ zeros 2) : Cmd).payload 0 2) ≤ 14400) ∧ (signs : State).fleetHeld = true ∧ ((signs : State).tst.unlocked = false ∨ (signs : State).fld F.TST_STAT_SID = (signed1 0x0F00 (le 2 60 ++ zeros 2) : Cmd).sid.val)) :=
  ⟨by decide +kernel, ⟨by decide +kernel, (by decide +kernel), sigOk_signed1 signs _ _ (by decide +kernel) (by decide +kernel), by decide +kernel⟩, ⟨by decide +kernel, (by decide +kernel), sigOk_signed1 signsMoving _ _ (by decide +kernel) (by decide +kernel), by decide +kernel, by decide +kernel⟩, ⟨(by decide +kernel), by decide +kernel, sigOk_signed1 signsHeld _ _ (by decide +kernel) (by decide +kernel), by decide +kernel, (by decide +kernel), by decide +kernel, by decide +kernel⟩, ⟨(by decide +kernel), by decide +kernel, sigOk_signed1 signs _ _ (by decide +kernel) (by decide +kernel), by decide +kernel, (by decide +kernel), by decide +kernel⟩⟩

set_option maxRecDepth 100000 in
/-- Operands that meet the hypotheses of TestPerturbationBlockComplete, part 2. -/
theorem test_hyp_TestPerturbationBlockComplete_2 :
    ((lev2 (unlocked 0) : State).takes (c1 [0, 0, 0, 0] : Cmd) opTstLock = true ∧ (c1 [0, 0, 0, 0] : Cmd).payload.length = 4 ∧ (lev2 (unlocked 0) : State).tst.unlocked = true ∧ (lev2 (unlocked 0) : State).tst.crcLeft = 0) ∧
    ((lev2 up : State).takes (c1 [0, 0, 0, 0] : Cmd) opTstLock = true ∧ (c1 [0, 0, 0, 0] : Cmd).payload.length = 4 ∧ (lev2 up : State).tst.unlocked = false ∧ (lev2 up : State).tst.crcLeft = 0) ∧
    ((unlocked 0 : State).tst.unlocked = true ∧ (unlocked 0 : State).tst.until_ ≤ (unlocked 0 : State).el) ∧
    ((unlocked 5 : State).tst.unlocked = true) ∧
    ((unlocked 5 : State).tst.unlocked = true) :=
  by and_intros <;> decide +kernel

set_option maxRecDepth 100000 in
/-- Operands that meet the hypotheses of TestPerturbationBlockComplete, part 3. -/
theorem test_hyp_TestPerturbationBlockComplete_3 :
    (((unlocked 5).setFld F.TST_ERR_COUNT 4 : State).tst.unlocked = true ∧ ((unlocked 5).setFld F.TST_ERR_COUNT 4 : State).fld F.TST_ERR_TARGET ≤ 2) ∧
    ((((unlocked 5).setFld F.TST_ERR_TARGET 3).setFld F.LAN_STAT_STATE_A 6 : State).tst.unlocked = true ∧ 3 ≤ (((unlocked 5).setFld F.TST_ERR_TARGET 3).setFld F.LAN_STAT_STATE_A 6 : State).fld F.TST_ERR_TARGET ∧ (((unlocked 5).setFld F.TST_ERR_TARGET 3).setFld F.LAN_STAT_STATE_A 6 : State).inService (if (((unlocked 5).setFld F.TST_ERR_TARGET 3).setFld F.LAN_STAT_STATE_A 6 : State).fld F.TST_ERR_LANE = 1 then 1 else 0) = false) ∧
    (((unlocked 5).setFld F.TST_ERR_TARGET 3 : State).tst.unlocked = true ∧ (((unlocked 5).setFld F.TST_ERR_TARGET 3 : State).fld F.TST_ERR_TARGET = 3 ∨ ((unlocked 5).setFld F.TST_ERR_TARGET 3 : State).fld F.TST_ERR_TARGET = 5) ∧ (0 : Nat) = (if ((unlocked 5).setFld F.TST_ERR_TARGET 3 : State).fld F.TST_ERR_LANE = 1 then 1 else 0) ∧ ((unlocked 5).setFld F.TST_ERR_TARGET 3 : State).inService (0 : Nat) = true) ∧
    (((unlocked 5).setFld F.TST_ERR_TARGET 7 : State).tst.unlocked = true ∧ (((unlocked 5).setFld F.TST_ERR_TARGET 7 : State).fld F.TST_ERR_TARGET = 4 ∨ 6 ≤ ((unlocked 5).setFld F.TST_ERR_TARGET 7 : State).fld F.TST_ERR_TARGET) ∧ (0 : Nat) = (if ((unlocked 5).setFld F.TST_ERR_TARGET 7 : State).fld F.TST_ERR_LANE = 1 then 1 else 0) ∧ ((unlocked 5).setFld F.TST_ERR_TARGET 7 : State).inService (0 : Nat) = true) ∧
    ((unlocked 5 : State).tst.unlocked = true) :=
  by and_intros <;> decide +kernel

set_option maxRecDepth 100000 in
/-- Operands that meet the hypotheses of TestPerturbationBlockComplete, part 4. -/
theorem test_hyp_TestPerturbationBlockComplete_4 :
    ((up : State).tst.unlocked = false) ∧
    ((up : State).tst.unlocked = false) ∧
    ((up : State).tst.unlocked = false) ∧
    ((up : State).tst.unlocked = false) :=
  by and_intros <;> decide +kernel

set_option maxRecDepth 100000 in
/-- Operands that meet the hypotheses of ResetLeavesTheResetValues. -/
theorem test_hyp_ResetLeavesTheResetValues :
    (regRow (0x08 : Nat) = none) :=
  by decide +kernel

set_option maxRecDepth 100000 in
/-- Operands that meet the hypotheses of CommandsExecuteOnceBySequenceNumber, part 1. -/
theorem test_hyp_CommandsExecuteOnceBySequenceNumber_1 :
    ((shaken : State).reaches (c0 [] : Cmd) 0x0102 = true ∧ ((shaken : State).sess (c0 [] : Cmd).sid.val).hs = some (⟨3, 2, 1, 2, 99, 0⟩ : Handshake) ∧ exec (.sessionConfirm (c0 [] : Cmd)) (shaken : State) = .next ((shaken.host (c0 []) opSessionConfirm) : State)) ∧
    (commandOf (.ping (c0 [7]) : Instr) = some ((c0 [7] : Cmd), (opPing : Op)) ∧ (cached : State).reaches (c0 [7] : Cmd) (opPing : Op).code = true ∧ (opPing : Op).code ≠ 0x0101 ∧ (opPing : Op).code ≠ 0x0102 ∧ ((cached : State).sess (c0 [7] : Cmd).sid.val).isOpen = true ∧ exec (.ping (c0 [7]) : Instr) (cached : State) = .next (((cached).host (c0 [7]) opPing) : State) ∧ (((cached : State).sess (c0 [7] : Cmd).sid.val).cache.find? (fun e => e.seq == (c0 [7] : Cmd).seq.toNat) = some (cacheE : CacheEntry)) ∧ (cacheE : CacheEntry).crc ≠ crc32c (le 2 (opPing : Op).code ++ (c0 [7] : Cmd).payload)) ∧
    (commandOf (.ping (c0 []) : Instr) = some ((c0 [] : Cmd), (opPing : Op)) ∧ (cachedNoReply : State).reaches (c0 [] : Cmd) (opPing : Op).code = true ∧ (opPing : Op).code ≠ 0x0101 ∧ (opPing : Op).code ≠ 0x0102 ∧ ((cachedNoReply : State).sess (c0 [] : Cmd).sid.val).isOpen = true ∧ exec (.ping (c0 []) : Instr) (cachedNoReply : State) = .next (((cachedNoReply).host (c0 []) opPing) : State) ∧ (((cachedNoReply : State).sess (c0 [] : Cmd).sid.val).cache.find? (fun e => e.seq == (c0 [] : Cmd).seq.toNat) = some ({ cacheE with reply := none } : CacheEntry)) ∧ ({ cacheE with reply := none } : CacheEntry).crc = crc32c (le 2 (opPing : Op).code ++ (c0 [] : Cmd).payload) ∧ ({ cacheE with reply := none } : CacheEntry).reply = none) ∧
    (commandOf (.ping (c0 []) : Instr) = some ((c0 [] : Cmd), (opPing : Op)) ∧ (cached : State).reaches (c0 [] : Cmd) (opPing : Op).code = true ∧ (opPing : Op).code ≠ 0x0101 ∧ (opPing : Op).code ≠ 0x0102 ∧ ((cached : State).sess (c0 [] : Cmd).sid.val).isOpen = true ∧ exec (.ping (c0 []) : Instr) (cached : State) = .next (((cached).host (c0 []) opPing) : State) ∧ (((cached : State).sess (c0 [] : Cmd).sid.val).cache.find? (fun e => e.seq == (c0 [] : Cmd).seq.toNat) = some (cacheE : CacheEntry)) ∧ (cacheE : CacheEntry).crc = crc32c (le 2 (opPing : Op).code ++ (c0 [] : Cmd).payload) ∧ (cacheE : CacheEntry).reply = some (⟨0, []⟩ : Reply)) ∧
    (commandOf (.ping (c0 []) : Instr) = some ((c0 [] : Cmd), (opPing : Op)) ∧ (ahead : State).reaches (c0 [] : Cmd) (opPing : Op).code = true ∧ (opPing : Op).code ≠ 0x0101 ∧ (opPing : Op).code ≠ 0x0102 ∧ ((ahead : State).sess (c0 [] : Cmd).sid.val).isOpen = true ∧ exec (.ping (c0 []) : Instr) (ahead : State) = .next (((ahead).host (c0 []) opPing) : State) ∧ (((ahead : State).sess (c0 [] : Cmd).sid.val).cache.find? (fun e => e.seq == (c0 [] : Cmd).seq.toNat) = none) ∧ (((c0 [] : Cmd).seq.toNat + 65536 - ((ahead : State).sess (c0 [] : Cmd).sid.val).h) % 65536 = 0 ∨ 32768 ≤ ((c0 [] : Cmd).seq.toNat + 65536 - ((ahead : State).sess (c0 [] : Cmd).sid.val).h) % 65536)) :=
  ⟨⟨by decide +kernel, by decide +kernel, rfl⟩, ⟨rfl, (by decide +kernel), by decide +kernel, by decide +kernel, (by decide +kernel), rfl, by decide +kernel, by decide +kernel⟩, ⟨rfl, (by decide +kernel), by decide +kernel, by decide +kernel, (by decide +kernel), rfl, by decide +kernel, by decide +kernel, (by decide +kernel)⟩, ⟨rfl, by decide +kernel, by decide +kernel, (by decide +kernel), by decide +kernel, rfl, by decide +kernel, (by decide +kernel), by decide +kernel⟩, ⟨rfl, by decide +kernel, (by decide +kernel), by decide +kernel, by decide +kernel, rfl, (by decide +kernel), by decide +kernel⟩⟩

set_option maxRecDepth 100000 in
/-- Operands that meet the hypotheses of CommandsExecuteOnceBySequenceNumber, part 2. -/
theorem test_hyp_CommandsExecuteOnceBySequenceNumber_2 :
    (commandOf (.ping (c0 []) : Instr) = some ((c0 [] : Cmd), (opPing : Op)) ∧ (busy16 : State).reaches (c0 [] : Cmd) (opPing : Op).code = true ∧ (opPing : Op).code ≠ 0x0101 ∧ (opPing : Op).code ≠ 0x0102 ∧ ((busy16 : State).sess (c0 [] : Cmd).sid.val).isOpen = true ∧ exec (.ping (c0 []) : Instr) (busy16 : State) = .next (((busy16).host (c0 []) opPing) : State) ∧ (((busy16 : State).sess (c0 [] : Cmd).sid.val).cache.find? (fun e => e.seq == (c0 [] : Cmd).seq.toNat) = none) ∧ 0 < ((c0 [] : Cmd).seq.toNat + 65536 - ((busy16 : State).sess (c0 [] : Cmd).sid.val).h) % 65536 ∧ ((c0 [] : Cmd).seq.toNat + 65536 - ((busy16 : State).sess (c0 [] : Cmd).sid.val).h) % 65536 < 32768 ∧ 16 ≤ awaiting ((busy16 : State).sess (c0 [] : Cmd).sid.val)) ∧
    (commandOf (.ping (c0 []) : Instr) = some ((c0 [] : Cmd), (opPing : Op)) ∧ (up : State).reaches (c0 [] : Cmd) (opPing : Op).code = true ∧ (opPing : Op).code ≠ 0x0101 ∧ (opPing : Op).code ≠ 0x0102 ∧ ((up : State).sess (c0 [] : Cmd).sid.val).isOpen = true ∧ (up : State).takes (c0 [] : Cmd) (opPing : Op) = true ∧ (opPing : Op).run ((up : State).entered (c0 [] : Cmd) (opPing : Op)) (c0 [] : Cmd).sid.val (c0 [] : Cmd).seq.toNat (c0 [] : Cmd).payload = ((up.entered (c0 []) opPing : State), some (⟨0, []⟩ : Reply))) ∧
    (commandOf (.chainDiscover (c0 [0, 0, 0, 0]) : Instr) = some ((c0 [0, 0, 0, 0] : Cmd), (opChainDiscover : Op)) ∧ (up : State).reaches (c0 [0, 0, 0, 0] : Cmd) (opChainDiscover : Op).code = true ∧ (opChainDiscover : Op).code ≠ 0x0101 ∧ (opChainDiscover : Op).code ≠ 0x0102 ∧ ((up : State).sess (c0 [0, 0, 0, 0] : Cmd).sid.val).isOpen = true ∧ (up : State).takes (c0 [0, 0, 0, 0] : Cmd) (opChainDiscover : Op) = true ∧ (opChainDiscover : Op).run ((up : State).entered (c0 [0, 0, 0, 0] : Cmd) (opChainDiscover : Op)) (c0 [0, 0, 0, 0] : Cmd).sid.val (c0 [0, 0, 0, 0] : Cmd).seq.toNat (c0 [0, 0, 0, 0] : Cmd).payload = (((opChainDiscover.run (up.entered (c0 [0, 0, 0, 0]) opChainDiscover) 0 1 [0, 0, 0, 0]).1 : State), none)) ∧
    ((up : State).takes (c0 [] : Cmd) (opPing : Op) = true) :=
  ⟨⟨rfl, by decide +kernel, by decide +kernel, (by decide +kernel), by decide +kernel, rfl, by decide +kernel, (by decide +kernel), by decide +kernel, by decide +kernel⟩, ⟨rfl, (by decide +kernel), by decide +kernel, by decide +kernel, (by decide +kernel), by decide +kernel, rfl⟩, ⟨rfl, by decide +kernel, (by decide +kernel), by decide +kernel, by decide +kernel, (by decide +kernel), rfl⟩, by decide +kernel⟩

set_option maxRecDepth 100000 in
/-- Operands that meet the hypotheses of RefusedCommandsExecuteNothing, part 1. -/
theorem test_hyp_RefusedCommandsExecuteNothing_1 :
    (commandOf (.ping (c0 []) : Instr) = some ((c0 [] : Cmd), (opPing : Op)) ∧ exec (.ping (c0 []) : Instr) (State.reset : State) = .next ((State.reset.host (c0 []) opPing) : State) ∧ ((State.reset : State).serving = false ∨ (State.reset : State).transportUp (c0 [] : Cmd).sid.val = false)) ∧
    (commandOf (.ping (c0 (bytes 1409 0)) : Instr) = some ((c0 (bytes 1409 0) : Cmd), (opPing : Op)) ∧ exec (.ping (c0 (bytes 1409 0)) : Instr) (up : State) = .next ((up.host (c0 (bytes 1409 0)) opPing) : State) ∧ (up : State).serving = true ∧ (up : State).transportUp (c0 (bytes 1409 0) : Cmd).sid.val = true ∧ (1408 < wireLength ((up : State).sess (c0 (bytes 1409 0) : Cmd).sid.val).auth (opPing : Op).code (c0 (bytes 1409 0) : Cmd).payload ∨ ((c0 (bytes 1409 0) : Cmd).sid.val ≠ 0 ∧ (up : State).udpEnabled (c0 (bytes 1409 0) : Cmd).sid.val = false))) ∧
    (commandOf (.ping (c1 []) : Instr) = some ((c1 [] : Cmd), (opPing : Op)) ∧ (closed1 : State).reaches (c1 [] : Cmd) (opPing : Op).code = true ∧ (opPing : Op).code ≠ 0x0101 ∧ (opPing : Op).code ≠ 0x0102 ∧ exec (.ping (c1 []) : Instr) (closed1 : State) = .next ((closed1.host (c1 []) opPing) : State) ∧ ((closed1 : State).sess (c1 [] : Cmd).sid.val).isOpen = false) ∧
    (commandOf (.regWriteLc (c0 []) : Instr) = some ((c0 [] : Cmd), (opRegWriteLc : Op)) ∧ (up : State).reaches (c0 [] : Cmd) (opRegWriteLc : Op).code = true ∧ (opRegWriteLc : Op).code ≠ 0x0101 ∧ (opRegWriteLc : Op).code ≠ 0x0102 ∧ exec (.regWriteLc (c0 []) : Instr) (up : State) = .next ((up.host (c0 []) opRegWriteLc) : State) ∧ ((up : State).sess (c0 [] : Cmd).sid.val).fresh (c0 [] : Cmd).seq.toNat = true ∧ ((up : State).sess (c0 [] : Cmd).sid.val).level < (opRegWriteLc : Op).rights) ∧
    (commandOf (.regRead (c0 []) : Instr) = some ((c0 [] : Cmd), (opRegRead : Op)) ∧ (inRecovery : State).reaches (c0 [] : Cmd) (opRegRead : Op).code = true ∧ (opRegRead : Op).code ≠ 0x0101 ∧ (opRegRead : Op).code ≠ 0x0102 ∧ exec (.regRead (c0 []) : Instr) (inRecovery : State) = .next ((inRecovery.host (c0 []) opRegRead) : State) ∧ ((inRecovery : State).sess (c0 [] : Cmd).sid.val).fresh (c0 [] : Cmd).seq.toNat = true ∧ (opRegRead : Op).rights ≤ ((inRecovery : State).sess (c0 [] : Cmd).sid.val).level ∧ (inRecovery : State).upd.recovery = true ∧ recoveryOp (opRegRead : Op).code = false) :=
  ⟨⟨rfl, rfl, by decide +kernel⟩, ⟨rfl, rfl, by decide +kernel, (by decide +kernel), by decide +kernel⟩, ⟨rfl, by decide +kernel, (by decide +kernel), by decide +kernel, rfl, by decide +kernel⟩, ⟨rfl, (by decide +kernel), by decide +kernel, by decide +kernel, rfl, (by decide +kernel), by decide +kernel⟩, ⟨rfl, by decide +kernel, (by decide +kernel), by decide +kernel, rfl, by decide +kernel, (by decide +kernel), by decide +kernel, by decide +kernel⟩⟩

set_option maxRecDepth 100000 in
/-- Operands that meet the hypotheses of RefusedCommandsExecuteNothing, part 2. -/
theorem test_hyp_RefusedCommandsExecuteNothing_2 :
    (commandOf (.sbxGetState (c0 []) : Instr) = some ((c0 [] : Cmd), (opSbxGetState : Op)) ∧ (laneless : State).reaches (c0 [] : Cmd) (opSbxGetState : Op).code = true ∧ (opSbxGetState : Op).code ≠ 0x0101 ∧ (opSbxGetState : Op).code ≠ 0x0102 ∧ exec (.sbxGetState (c0 []) : Instr) (laneless : State) = .next ((laneless.host (c0 []) opSbxGetState) : State) ∧ ((laneless : State).sess (c0 [] : Cmd).sid.val).fresh (c0 [] : Cmd).seq.toNat = true ∧ (opSbxGetState : Op).rights ≤ ((laneless : State).sess (c0 [] : Cmd).sid.val).level ∧ (laneless : State).upd.recovery = false ∧ (opSbxGetState : Op).lane (c0 [] : Cmd).payload = true ∧ (laneless : State).anyLane = false ∧ (laneless : State).switching = false) :=
  ⟨rfl, by decide +kernel, by decide +kernel, (by decide +kernel), rfl, by decide +kernel, by decide +kernel, (by decide +kernel), by decide +kernel, by decide +kernel, (by decide +kernel)⟩

set_option maxRecDepth 100000 in
/-- Operands that meet the hypotheses of RewoundPacketsNeverAppear. -/
theorem test_hyp_RewoundPacketsNeverAppear :
    ((39 : Fin 64).val < 40) ∧
    (exec (.packetRewind (5 : Fin 64)) (up : State) = .next ((up.setQueue 5 { up.queue 5 with rewinds := 1 }) : State) ∧ exec (.queueRack (5 : Fin 64)) ((up.setQueue 5 { up.queue 5 with rewinds := 1 }) : State) = .next ((up.setQueue 5 { up.queue 5 with rewinds := 1 }) : State)) :=
  ⟨by decide +kernel, ⟨rfl, rfl⟩⟩

set_option maxRecDepth 100000 in
/-- Operands that meet the hypotheses of BackupAndOffOnlyByResetLevelAndPowerOn. -/
theorem test_hyp_BackupAndOffOnlyByResetLevelAndPowerOn :
    ((lowS : State).powered = true ∧ exec (.brownOutReset : Instr) (lowS : State) = .next ((match exec .brownOutReset lowS with | .next v => v | _ => lowS) : State) ∧ ((match exec .brownOutReset lowS with | .next v => v | _ => lowS) : State).powered = false) ∧
    ((backupS : State).powered = false ∧ (backupS : State).pwr.hubReady = false ∧ exec (.powerOn false 5 : Instr) (backupS : State) = .next ((match exec (.powerOn false 5) backupS with | .next v => v | _ => backupS) : State) ∧ ((match exec (.powerOn false 5) backupS with | .next v => v | _ => backupS) : State).powered = true) ∧
    (((up : State).powered = false → (up : State).pwr.hubReady = false) ∧ exec (.timNowLoRead : Instr) (up : State) = .next (up.readNowLo.2 : State)) :=
  ⟨⟨by decide +kernel, rfl, by decide +kernel⟩, ⟨(by decide +kernel), by decide +kernel, rfl, by decide +kernel⟩, ⟨(by decide +kernel), rfl⟩⟩

set_option maxRecDepth 100000 in
/-- Operands that meet the hypotheses of FusesOnlyBurn. -/
theorem test_hyp_FusesOnlyBurn :
    (exec (.timNowLoRead : Instr) (up : State) = .next (up.readNowLo.2 : State)) :=
  rfl

set_option maxRecDepth 100000 in
/-- Operands that meet the hypotheses of PacketsSpellTheirCommands. -/
theorem test_hyp_PacketsSpellTheirCommands :
    (commandOf (.ping (c0 [1]) : Instr) = some ((c0 [1] : Cmd), (opPing : Op)) ∧ (up : State).reaches (c0 [1] : Cmd) (opPing : Op).code = true ∧ exec (.ping (c0 [1]) : Instr) (up : State) = .next ((up.host (c0 [1]) opPing) : State) ∧ (c0 [1] : Cmd).sid.val = 0 ∧ ((up : State).sess 0).peer = 0 ∧ (up : State).svb.rdyHigh = false) ∧
    (commandOf (.ping (c1 [1]) : Instr) = some ((c1 [1] : Cmd), (opPing : Op)) ∧ (net : State).reaches (c1 [1] : Cmd) (opPing : Op).code = true ∧ exec (.ping (c1 [1]) : Instr) (net : State) = .next ((net.host (c1 [1]) opPing) : State) ∧ (c1 [1] : Cmd).sid.val ≠ 0) :=
  ⟨⟨rfl, by decide +kernel, rfl, by decide +kernel, (by decide +kernel), by decide +kernel⟩, ⟨rfl, by decide +kernel, rfl, (by decide +kernel)⟩⟩

set_option maxRecDepth 100000 in
/-- Operands that meet the hypotheses of SharedDramKeepsItsCanonicalForm. -/
theorem test_hyp_SharedDramKeepsItsCanonicalForm :
    (Memory.wf ({ up with pending := [.bulkWrite (c0 [16, 0, 0, 0, 1, 2, 0, 4])] } : State).dram = true ∧ step ({ up with pending := [.bulkWrite (c0 [16, 0, 0, 0, 1, 2, 0, 4])] } : State) = .next ((match step { up with pending := [.bulkWrite (c0 [16, 0, 0, 0, 1, 2, 0, 4])] } with | .next v => v | _ => up) : State)) :=
  ⟨by decide +kernel, rfl⟩

set_option maxRecDepth 100000 in
/-- Operands that meet the hypotheses of FramesOfLanesQueuesSchedulerAndArbiters. -/
theorem test_hyp_FramesOfLanesQueuesSchedulerAndArbiters :
    ((State.reset : State).svb.posts = []) ∧
    ((State.reset : State).svb.posts = []) ∧
    ((State.reset : State).svb.posts = []) ∧
    ((State.reset : State).svb.posts = []) :=
  by and_intros <;> decide +kernel

/-! ### Ill-formed commands: one for each check -/

theorem test_wf_accepts : (Instr.ping (c0 [1])).wf = true ∧ (Instr.registerWrite 0x80 0).wf = true ∧ (Instr.addressAgeOut 0xFFFFFFFFFFFF).wf = true := by decide
theorem test_wf_payload_too_long : (Instr.ping (c0 (List.replicate 1409 0))).wf = false := by decide +kernel
theorem test_wf_udp_source : (Instr.udpDatagram (2 ^ 48) []).wf = false := by decide
theorem test_wf_udp_length : (Instr.udpDatagram 0 (List.replicate 65508 0)).wf = false := by decide +kernel
theorem test_wf_address_range : (Instr.registerWrite (2 ^ 32) 0).wf = false := by decide
theorem test_wf_address_alignment : (Instr.registerWrite 2 0).wf = false := by decide
theorem test_wf_samples : (Instr.interferenceCondition 0 []).wf = false := by decide
theorem test_wf_mac : (Instr.addressAgeOut (2 ^ 48)).wf = false := by decide
theorem test_wf_frame : (Instr.chainStopReceive 0 []).wf = false := by decide
theorem test_wf_eth_frame : (Instr.arpRequest 0 { bytes := [1, 2, 3] }).wf = false := by decide

/-! ### The worked examples and tables of the spec -/

/-- The iSCSI CRC-32C of the nine ASCII digits 1 to 9 (R31). -/
theorem test_crc32c : crc32c [0x31, 0x32, 0x33, 0x34, 0x35, 0x36, 0x37, 0x38, 0x39] = 0xE3069283 := by decide +kernel

/-- The worked example of chapter 02: REG_WRITE 42 of session 1, in 30 bytes. -/
theorem test_worked_reg_write (key : Nat) :
    (packet 0x81 42 0x0201 (le 4 0x40 ++ le 4 0x111) (some key)).take 18 =
      [0xA5, 0x5E, 0x01, 0x81, 0x2A, 0x00, 0x01, 0x02, 0x10, 0x00, 0x40, 0x00, 0x00, 0x00, 0x11, 0x01, 0x00, 0x00] ∧
    (packet 0x81 42 0x0201 (le 4 0x40 ++ le 4 0x111) (some key)).length = 30 := by
  refine ⟨?_, by simp [packet, cmac64, length_le]⟩
  simp [packet, le]

/-- The worked example of chapter 12: the correction leaves as 0x0000_0000_0DFF_999A. -/
theorem test_worked_correction : ps16 3351100 + 212 * 65536 + 0x148000 = 0x0DFF999A := by decide

/-- The worked example of chapter 09: entries of the default cam table. -/
theorem test_worked_cam : [20, 21, 38, 39, 56, 57, 76, 77, 97, 98, 120, 121].map defaultCam = [1, 2, 5, 6, 11, 12, 20, 21, 31, 32, 45, 46] := by decide

/-- The worked example of chapter 08: slot 9 is admitted, slot 31 is not. -/
def feed : State :=
  (((up.setFld F.ALT_CHG2_MARGIN 20).setFld F.ALT_CHG2_AVG_S 1).setFld F.ALT_CHG_INST 125 |> fun s =>
    { s with alt := { s.alt with meter := { valid := true, capKw := 1200, eWh := 180000, leftS := 360, lenS := 900, pW := [1080000] } } })
theorem test_worked_charge_admitted : feed.test1 66 = true ∧ feed.test2 66 = true := by decide +kernel
theorem test_worked_charge_refused : feed.test1 88 = false ∧ feed.test2 88 = true := by decide +kernel

/-- The worked example of chapter 20's master table: TYPE_ID 0x9640 at stepping B0 (Table 20-1, SYS_ID). -/
theorem test_sys_id : State.reset.fld F.SYS_ID_TYPE_ID = 0x9640 ∧ State.reset.fld F.SYS_ID_STEP_MAJOR = 0xB := by decide +kernel

/-! ### Single commands -/

/-- The fields of a state after a command. -/
def after (i : Instr) (s : State) : State :=
  match exec i s with
  | .next t => t
  | _ => s

/-- UDP_EN is RW, reserved bits stay 0 and CNT_CLR reads 0 after a write of all ones (R9, R10, Table 2-12). -/
theorem test_reg_write_masks : (after (.regWrite (c0 [0x80, 0, 0, 0, 0xFF, 0xFF, 0xFF, 0xFF])) up).reg R.SYS_SVB_CTL = 0x00FF000F := by decide +kernel
/-- A write to an RO register is ignored (R9). -/
theorem test_reg_write_ro : (after (.regWrite (c0 [0x00, 0, 0, 0, 0xFF, 0xFF, 0xFF, 0xFF])) up).reg R.SYS_ID = 0x9640B020 := by decide +kernel
/-- REG_MODIFY changes the bits of its mask only (R54). -/
theorem test_reg_modify : (after (.regModify (c0 [0x80, 0, 0, 0, 1, 0, 0xF0, 0, 0, 0, 0x50, 0])) up).reg R.SYS_SVB_CTL = 0x005C000E := by decide +kernel
/-- A repeated SEQ is answered from the cache with DUPLICATE, and counted (R43). -/
theorem test_repeat : ((after (.ping (c0 [])) (after (.ping (c0 [])) up)).sess 0).out.map OutPkt.body = [.reply 1 0x0100 false false ⟨0, []⟩, .reply 1 0x0100 true false ⟨0, []⟩] := by decide +kernel
/-- A wrong CRC discards a packet and counts in CRC (R33). -/
theorem test_bad_crc : (after (.spiWrite [0xA5, 0x5E, 1, 0, 1, 0, 0, 1, 0, 0, 0, 0, 0, 0]) up).fld F.SYS_SVB_ERR_CRC = 1 := by decide +kernel
/-- BULK_WRITE stores its bytes at its offset (R521). -/
theorem test_bulk_write : (after (.bulkWrite (c0 [16, 0, 0, 0, 1, 2, 0, 4])) up).dram = [(16, 1), (17, 2), (19, 4)] := by decide +kernel
/-- A stop input fires the hard stop path once: STOP_CNT advances by one, and a second source does not move it (R287). -/
theorem test_stop : (after (.stopInputActive 0) stopUp).fld F.STP_CNT_STOP_CNT = stopUp.fld F.STP_CNT_STOP_CNT + 1 ∧
    (after (.stopInputActive 1) (after (.stopInputActive 0) stopUp)).fld F.STP_CNT_STOP_CNT = stopUp.fld F.STP_CNT_STOP_CNT + 1 := by decide +kernel
/-- A command while the hub does not serve changes nothing (R36). -/
theorem test_not_serving : after (.ping (c0 [])) State.reset = State.reset := by decide +kernel

end Sys2Proof.Tests
end

section
/-! SUPPORT. The fixed parts of the state, and for each function of the model, in the order and under the name of the file that defines it,
that it keeps them. -/

namespace Sys2Proof.Machine

/-! ### The fixed parts of the state

`State.fixed` collects what hardly any function of the model writes: the waiting commands and the fuses and, when `wide`, the shared DRAM,
the engines, the schedule and the keys too. That a function keeps them is one equation, which `simp` chains through the functions it calls. -/

/-- The parts of the state that hardly any function of the model writes. -/
def State.fixed (wide : Bool) (s : State) : List Instr × Fuses × Option (List Host.Cell × Engines × Sch × Sec) :=
  (s.pending, s.fuses, if wide then some (s.dram, s.eng, s.sch, s.sec) else none)

/-- An update of other fields keeps the fixed parts. (The proof is kept out of `simp`'s definitional equalities, `(rfl)`: there the two
states, with everything in them, would be unfolded again at each use.) -/
@[simp] theorem State.fixed_with (wide : Bool) (t : State)
    (a2 a3 a4 a6 a7 a8 a10 a11 a12 a13 a14 a15 a16 a17 a18 a19 a20 a22 a23 a26 a27 a28 a29 a30 a31) :
    State.fixed wide ⟨t.pending, a2, a3, a4, t.dram, a6, a7, a8, t.eng, a10, a11, a12, a13, a14, a15, a16, a17, a18, a19, a20, t.sch, a22,
      a23, t.fuses, t.sec, a26, a27, a28, a29, a30, a31⟩ = t.fixed wide := (rfl)

/-- The narrow fixed parts allow DRAM, engines, schedule and keys to change too. -/
@[simp] theorem State.fixed_false_with (t : State)
    (a2 a3 a4 a5 a6 a7 a8 a9 a10 a11 a12 a13 a14 a15 a16 a17 a18 a19 a20 a21 a22 a23 a25 a26 a27 a28 a29 a30 a31) :
    State.fixed false ⟨t.pending, a2, a3, a4, a5, a6, a7, a8, a9, a10, a11, a12, a13, a14, a15, a16, a17, a18, a19, a20, a21, a22,
      a23, t.fuses, a25, a26, a27, a28, a29, a30, a31⟩ = t.fixed false := (rfl)

@[simp] theorem State.fixed_ite (wide : Bool) (c : Prop) [Decidable c] (a b : State) :
    (if c then a else b).fixed wide = if c then a.fixed wide else b.fixed wide := apply_ite _ _ _ _

@[simp] theorem State.foldl_fixed {α : Type} (wide : Bool) (f : State → α → State)
    (h : ∀ (s : State) a, (f s a).fixed wide = s.fixed wide) (l : List α) (s : State) : (l.foldl f s).fixed wide = s.fixed wide := by
  induction l generalizing s with
  | nil => rfl
  | cons a t ih => rw [List.foldl_cons, ih, h]

@[simp] theorem fst_ite {α β : Type} (c : Prop) [Decidable c] (a b : α × β) : (if c then a else b).1 = if c then a.1 else b.1 :=
  apply_ite _ _ _ _

@[simp] theorem snd_ite {α β : Type} (c : Prop) [Decidable c] (a b : α × β) : (if c then a else b).2 = if c then a.2 else b.2 :=
  apply_ite _ _ _ _

theorem State.foldl_acc_fixed {α β : Type} (wide : Bool) (g : β → State) (f : β → α → β)
    (h : ∀ b a, (g (f b a)).fixed wide = (g b).fixed wide) (l : List α) (b : β) :
    (g (l.foldl f b)).fixed wide = (g b).fixed wide := by
  induction l generalizing b with
  | nil => rfl
  | cons a t ih => rw [List.foldl_cons, ih, h]

/-! #### Machine/Store -/

@[simp] theorem State.setReg_fixed (wide : Bool) (s : State) (a : Nat) (v : Word) : (s.setReg a v).fixed wide = s.fixed wide := by
  simp [State.setReg]

@[simp] theorem State.setFld_fixed (wide : Bool) (s : State) (f : Fld) (v : Nat) : (s.setFld f v).fixed wide = s.fixed wide := by
  simp [State.setFld]

@[simp] theorem State.satInc_fixed (wide : Bool) (s : State) (f : Fld) : (s.satInc f).fixed wide = s.fixed wide := by simp [State.satInc]

@[simp] theorem State.satAdd_fixed (wide : Bool) (s : State) (f : Fld) (n : Nat) : (s.satAdd f n).fixed wide = s.fixed wide := by
  simp [State.satAdd]

@[simp] theorem State.incFld_fixed (wide : Bool) (s : State) (f : Fld) : (s.incFld f).fixed wide = s.fixed wide := by simp [State.incFld]

@[simp] theorem State.resetRegs_fixed (wide : Bool) (s : State) (as : List Nat) : (s.resetRegs as).fixed wide = s.fixed wide := by
  simp [State.resetRegs]

@[simp] theorem State.dramStore_fixed (s : State) (o : Nat) (bs : List Byte) : (s.dramStore o bs).fixed false = s.fixed false := by
  simp [State.dramStore]

/-! #### Machine/Flags -/

@[simp] theorem State.syncIrq_fixed (wide : Bool) (s : State) : (s.syncIrq).fixed wide = s.fixed wide := by simp [State.syncIrq]

@[simp] theorem State.setPend_fixed (wide : Bool) (s : State) (src : Nat) (b : Bool) : (s.setPend src b).fixed wide = s.fixed wide := by
  simp [State.setPend]

@[simp] theorem State.syncOut_fixed (wide : Bool) (s : State) : (s.syncOut).fixed wide = s.fixed wide := by simp [State.syncOut]

@[simp] theorem State.syncSess_fixed (wide : Bool) (s : State) (sid : Nat) : (s.syncSess sid).fixed wide = s.fixed wide := by
  simp [State.syncSess]

@[simp] theorem State.setSess_fixed (wide : Bool) (s : State) (sid : Nat) (ss : Session) :
    (s.setSess sid ss).fixed wide = s.fixed wide := by
  simp [State.setSess]

@[simp] theorem State.emit_fixed (wide : Bool) (s : State) (o : Output) : (s.emit o).fixed wide = s.fixed wide := by simp [State.emit]

@[simp] theorem State.corrupt_fixed (wide : Bool) (s : State) (target : Nat) : (s.corrupt target).2.fixed wide = s.fixed wide := by
  simp [State.corrupt]

@[simp] theorem State.sendPkt_fixed (wide : Bool) (s : State) (sid dst : Nat) (b : OutBody) (lane : Option LaneTag) :
    (s.sendPkt sid dst b lane).fixed wide = s.fixed wide := by
  simp [State.sendPkt]

@[simp] theorem State.eventTo_fixed (wide : Bool) (s : State) (src time : Nat) (detail : List Byte) (sid : Nat) :
    (s.eventTo src time detail sid).fixed wide = s.fixed wide := by
  simp [State.eventTo]

@[simp] theorem State.raiseAt_fixed (wide : Bool) (s : State) (src time : Nat) (detail : List Byte) :
    (s.raiseAt src time detail).fixed wide = s.fixed wide := by
  simp [State.raiseAt]

@[simp] theorem State.laneOut_fixed (wide : Bool) (s : State) (engine cls : Nat) (content : List Byte) :
    (s.laneOut engine cls content).fixed wide = s.fixed wide := by
  simp [State.laneOut]

@[simp] theorem State.raise_fixed (wide : Bool) (s : State) (src : Nat) (detail : List Byte) :
    (s.raise src detail).fixed wide = s.fixed wide := by
  simp [State.raise]

/-! #### Machine/Ops -/

@[simp] theorem State.drew_fixed (wide : Bool) (s : State) (n : Nat) : (s.drew n).fixed wide = s.fixed wide := by simp [State.drew]

@[simp] theorem State.recordAt_fixed (wide : Bool) (s : State) (type : Nat) (payload : List Byte) (timeNs : Nat) (late : Bool) :
    (s.recordAt type payload timeNs late).fixed wide = s.fixed wide := by
  simp [State.recordAt]

@[simp] theorem State.record_fixed (wide : Bool) (s : State) (type : Nat) (payload : List Byte) :
    (s.record type payload).fixed wide = s.fixed wide := by
  simp [State.record]

@[simp] theorem State.setLaneSt_fixed (wide : Bool) (s : State) (l v : Nat) : (s.setLaneSt l v).fixed wide = s.fixed wide := by
  simp [State.setLaneSt]

@[simp] theorem State.onLanes_fixed (wide : Bool) (s : State) (k : State) (h : k.fixed wide = s.fixed wide) :
    (s.onLanes k).fixed wide = s.fixed wide := by
  simp [State.onLanes, h]

@[simp] theorem State.laneInput_fixed (wide : Bool) (s : State) : (s.laneInput).fixed wide = s.fixed wide := by simp [State.laneInput]

@[simp] theorem State.toLanes_fixed (wide : Bool) (s : State) (k : State → State) (h : ∀ t : State, (k t).fixed wide = t.fixed wide) :
    (s.toLanes k).fixed wide = s.fixed wide := by
  simp [State.toLanes, h]

@[simp] theorem State.setBound_fixed (wide : Bool) (s : State) (a : Nat) (b : Binding) : (s.setBound a b).fixed wide = s.fixed wide := by
  simp [State.setBound]

@[simp] theorem State.setSx_fixed (wide : Bool) (s : State) (a : Nat) (r : SbxRover) : (s.setSx a r).fixed wide = s.fixed wide := by
  simp [State.setSx]

@[simp] theorem State.setRk_fixed (wide : Bool) (s : State) (a : Nat) (r : RtkRover) : (s.setRk a r).fixed wide = s.fixed wide := by
  simp [State.setRk]

@[simp] theorem State.setProf_fixed (wide : Bool) (s : State) (a : Nat) (p : Profile) : (s.setProf a p).fixed wide = s.fixed wide := by
  simp [State.setProf]

@[simp] theorem State.lcDone_fixed (wide : Bool) (s : State) (off old new left result sid : Nat) :
    (s.lcDone off old new left result sid).fixed wide = s.fixed wide := by
  simp [State.lcDone]

@[simp] theorem State.saveRegs_fixed (wide : Bool) (s : State) (as : List Nat) : (s.saveRegs as).fixed wide = s.fixed wide := by
  simp [State.saveRegs]

@[simp] theorem State.norStore_fixed (wide : Bool) (s : State) (a mask : Nat) (v : Word) :
    (s.norStore a mask v).fixed wide = s.fixed wide := by
  simp [State.norStore]

@[simp] theorem accepted_fixed (wide : Bool) (s : State) (data : List Byte) : (accepted s data).1.fixed wide = s.fixed wide := by
  simp [accepted]

@[simp] theorem refuse_fixed (wide : Bool) (s : State) (status : Nat) : (refuse s status).1.fixed wide = s.fixed wide := by simp [refuse]

@[simp] theorem okWith_fixed (wide : Bool) (s : State) (data : List Byte) : (okWith s data).1.fixed wide = s.fixed wide := by simp [okWith]

@[simp] theorem okay_fixed (wide : Bool) (s : State) : (okay s).1.fixed wide = s.fixed wide := by simp [okay]

@[simp] theorem withLen_fixed (wide : Bool) (s : State) (n : Nat) (p : List Byte) (k : Res) (h : k.1.fixed wide = s.fixed wide) :
    (withLen s n p k).1.fixed wide = s.fixed wide := by
  unfold withLen
  split
  · exact h
  · simp

/-! #### Machine/Sequencers -/

@[simp] theorem State.setSeq_fixed (s : State) (key : Nat) (q : Sequencer) : (s.setSeq key q).fixed false = s.fixed false := by
  simp [State.setSeq]

@[simp] theorem State.seqRestart_fixed (s : State) (key : Nat) : (s.seqRestart key).fixed false = s.fixed false := by
  simp [State.seqRestart]

@[simp] theorem State.loadSteps_fixed (s : State) (die id : Nat) : (s.loadSteps die id).fixed false = s.fixed false := by
  simp [State.loadSteps]

@[simp] theorem State.loadHubSteps_fixed (s : State) : (s.loadHubSteps).fixed false = s.fixed false := by simp [State.loadHubSteps]

@[simp] theorem State.loadLaneSteps_fixed (s : State) (l : Nat) : (s.loadLaneSteps l).fixed false = s.fixed false := by
  simp [State.loadLaneSteps]

@[simp] theorem State.seqSync_fixed (s : State) (key : Nat) : (s.seqSync key).fixed false = s.fixed false := by simp [State.seqSync]

@[simp] theorem State.seqHold_fixed (s : State) (key : Nat) : (s.seqHold key).fixed false = s.fixed false := by simp [State.seqHold]

@[simp] theorem State.genUp_fixed (s : State) (key : Nat) : (s.genUp key).fixed false = s.fixed false := by simp [State.genUp]

/-! #### Machine/Queues -/

@[simp] theorem State.syncQue_fixed (wide : Bool) (s : State) : (s.syncQue).fixed wide = s.fixed wide := by simp [State.syncQue]

@[simp] theorem State.setQueue_fixed (wide : Bool) (s : State) (q : Nat) (k : Queue) : (s.setQueue q k).fixed wide = s.fixed wide := by
  simp [State.setQueue]

@[simp] theorem State.drainQueue_fixed (wide : Bool) (s : State) (q : Nat) : (s.drainQueue q).fixed wide = s.fixed wide := by
  simp [State.drainQueue]

@[simp] theorem State.drainQueues_fixed (wide : Bool) (s : State) : (s.drainQueues).fixed wide = s.fixed wide := by simp [State.drainQueues]

@[simp] theorem State.inject_fixed (wide : Bool) (s : State) (q words : Nat) : (s.inject q words).2.2.fixed wide = s.fixed wide := by
  simp [State.inject]

@[simp] theorem State.commitPacket_fixed (wide : Bool) (s : State) (q : Nat) (p : QPacket) :
    (s.commitPacket q p).fixed wide = s.fixed wide := by
  simp [State.commitPacket]

@[simp] theorem State.writePackets_fixed (wide : Bool) (s : State) (q : Nat) (ps : List QPacket) :
    (s.writePackets q ps).fixed wide = s.fixed wide := by
  induction ps generalizing s with
  | nil => rfl
  | cons p rest ih =>
    unfold State.writePackets
    split
    · simp
    · simp [ih]

@[simp] theorem State.writerGoes_fixed (wide : Bool) (s : State) (q : Nat) : (s.writerGoes q).fixed wide = s.fixed wide := by
  simp [State.writerGoes]

@[simp] theorem State.flushQueue_fixed (wide : Bool) (s : State) (q : Nat) (drop : QPacket → Bool) :
    (s.flushQueue q drop).fixed wide = s.fixed wide := by
  simp [State.flushQueue]

@[simp] theorem State.endForced_fixed (wide : Bool) (s : State) (q : Nat) : (s.endForced q).fixed wide = s.fixed wide := by
  simp [State.endForced]

@[simp] theorem State.queFlush_fixed (wide : Bool) (s : State) : (s.queFlush).fixed wide = s.fixed wide := by simp [State.queFlush]

@[simp] theorem State.queCntClr_fixed (wide : Bool) (s : State) : (s.queCntClr).fixed wide = s.fixed wide := by simp [State.queCntClr]

/-! #### Machine/Tokens -/

@[simp] theorem State.setTokenArb_fixed (wide : Bool) (s : State) (arb : Nat) (a : TokenArb) :
    (s.setTokenArb arb a).fixed wide = s.fixed wide := by
  simp [State.setTokenArb]

@[simp] theorem State.tokenGranted_fixed (wide : Bool) (s : State) (arb : Nat) (taken : Option Nat) (owner : Nat) :
    (s.tokenGranted arb taken owner).fixed wide = s.fixed wide := by
  unfold State.tokenGranted
  dsimp only
  split <;> simp

@[simp] theorem State.tokenRound_fixed (wide : Bool) (s : State) (arb : Nat) : (s.tokenRound arb).fixed wide = s.fixed wide := by
  unfold State.tokenRound
  dsimp only
  split <;> simp

@[simp] theorem State.tokenFree_fixed (wide : Bool) (s : State) (arb : Nat) : (s.tokenFree arb).fixed wide = s.fixed wide := by
  simp [State.tokenFree]

@[simp] theorem State.tokenSync_fixed (wide : Bool) (s : State) (arb : Nat) : (s.tokenSync arb).fixed wide = s.fixed wide := by
  unfold State.tokenSync
  split <;> simp

@[simp] theorem State.endStretch_fixed (wide : Bool) (s : State) : (s.endStretch).fixed wide = s.fixed wide := by simp [State.endStretch]

@[simp] theorem State.tokenRequest_fixed (wide : Bool) (s : State) (arb i : Nat) : (s.tokenRequest arb i).fixed wide = s.fixed wide := by
  simp [State.tokenRequest]

@[simp] theorem State.tokenDrop_fixed (wide : Bool) (s : State) (arb i : Nat) : (s.tokenDrop arb i).fixed wide = s.fixed wide := by
  simp [State.tokenDrop]

@[simp] theorem State.onArb_fixed (wide : Bool) (s : State) (arb : Nat) (k : State) (h : k.fixed wide = s.fixed wide) :
    (s.onArb arb k).fixed wide = s.fixed wide := by
  simp [State.onArb, h]

/-! #### Machine/Sveteb -/

@[simp] theorem State.perturbEnd_fixed (wide : Bool) (s : State) (as : List Nat) : (s.perturbEnd as).fixed wide = s.fixed wide := by
  simp [State.perturbEnd]

@[simp] theorem State.tstLock_fixed (wide : Bool) (s : State) (cause : Nat) : (s.tstLock cause).fixed wide = s.fixed wide := by
  simp [State.tstLock]

@[simp] theorem State.syncInSession_fixed (wide : Bool) (s : State) (slot : Nat) : (s.syncInSession slot).fixed wide = s.fixed wide := by
  simp [State.syncInSession]

@[simp] theorem State.sessionGone_fixed (wide : Bool) (s : State) (sid : Nat) : (s.sessionGone sid).fixed wide = s.fixed wide := by
  simp [State.sessionGone]

@[simp] theorem State.syncHeld_fixed (wide : Bool) (s : State) : (s.syncHeld).fixed wide = s.fixed wide := by simp [State.syncHeld]

@[simp] theorem State.sendReply_fixed (wide : Bool) (s : State) (sid dst seq opcode : Nat) (dup : Bool) (r : Reply) (lane : Option
    LaneTag) :
    (s.sendReply sid dst seq opcode dup r lane).fixed wide = s.fixed wide := by
  simp [State.sendReply]

@[simp] theorem State.replyOut_fixed (wide : Bool) (s : State) (sid : Nat) (e : Outst) : (s.replyOut sid e).fixed wide = s.fixed wide := by
  unfold State.replyOut
  split <;> simp

@[simp] theorem State.flushReplies_fixed (wide : Bool) (s : State) (sid : Nat) : (s.flushReplies sid).fixed wide = s.fixed wide := by
  simp [State.flushReplies]

@[simp] theorem State.answer_fixed (wide : Bool) (s : State) (sid seq : Nat) (tag : Option LaneTag) (r : Reply) :
    (s.answer sid seq tag r).fixed wide = s.fixed wide := by
  simp [State.answer]

@[simp] theorem State.replyLost_fixed (wide : Bool) (s : State) (sid seq : Nat) : (s.replyLost sid seq).fixed wide = s.fixed wide := by
  simp [State.replyLost]

@[simp] theorem State.finish_fixed (wide : Bool) (s : State) (sid seq opcode : Nat) (engine : Option Nat) (r : Reply) :
    (s.finish sid seq opcode engine r).fixed wide = s.fixed wide := by
  unfold State.finish
  split <;> simp

@[simp] theorem State.recallReplies_fixed (wide : Bool) (s : State) : (s.recallReplies).fixed wide = s.fixed wide := by
  simp [State.recallReplies]

@[simp] theorem State.releaseOut_fixed (wide : Bool) (s : State) (x : LaneTag × Sum (Nat × Nat) HeldEvent) :
    (s.releaseOut x).fixed wide = s.fixed wide := by
  obtain ⟨g, r | e⟩ := x <;> simp [State.releaseOut]

@[simp] theorem State.releaseHeld_fixed (wide : Bool) (s : State) : (s.releaseHeld).fixed wide = s.fixed wide := by simp [State.releaseHeld]

@[simp] theorem State.authFail_fixed (wide : Bool) (s : State) (sid kind : Nat) : (s.authFail sid kind).fixed wide = s.fixed wide := by
  simp [State.authFail]

@[simp] theorem State.sessionOpen_fixed (wide : Bool) (s : State) (sid src seq : Nat) (p : List Byte) :
    (s.sessionOpen sid src seq p).fixed wide = s.fixed wide := by
  simp [State.sessionOpen]

@[simp] theorem State.sessionConfirm_fixed (wide : Bool) (s : State) (sid src seq : Nat) (p : List Byte) (h : Handshake) :
    (s.sessionConfirm sid src seq p h).fixed wide = s.fixed wide := by
  simp [State.sessionConfirm]

/-! #### Machine/Interlock -/

@[simp] theorem State.syncZones_fixed (wide : Bool) (s : State) : (s.syncZones).fixed wide = s.fixed wide := by simp [State.syncZones]

@[simp] theorem State.syncSbx_fixed (wide : Bool) (s : State) : (s.syncSbx).fixed wide = s.fixed wide := by simp [State.syncSbx]

@[simp] theorem State.hand_fixed (wide : Bool) (s : State) (a : Nat) (preview : Bool) (cls : Nat) (x : Auth) :
    (s.hand a preview cls x).fixed wide = s.fixed wide := by
  simp [State.hand]

@[simp] theorem State.issueAuth_fixed (wide : Bool) (s : State) (a : Nat) (blocks : List Nat) (endOfs : Nat) (cutBack revoked last : Bool)
    :
    (s.issueAuth a blocks endOfs cutBack revoked last).fixed wide = s.fixed wide := by
  simp [State.issueAuth]

@[simp] theorem State.issuePreview_fixed (wide : Bool) (s : State) (a : Nat) (blocks : List Nat) (endOfs : Nat) (withdraws : Bool) :
    (s.issuePreview a blocks endOfs withdraws).fixed wide = s.fixed wide := by
  simp [State.issuePreview]

@[simp] theorem State.toReleasing_fixed (wide : Bool) (s : State) (a : Nat) (x : Auth) (blocks : List Nat) :
    (s.toReleasing a x blocks).fixed wide = s.fixed wide := by
  simp [State.toReleasing]

@[simp] theorem State.neverCommitted_fixed (wide : Bool) (s : State) (j : Job) : (s.neverCommitted j).fixed wide = s.fixed wide := by
  simp [State.neverCommitted]

@[simp] theorem State.endWait_fixed (wide : Bool) (s : State) (a : Nat) : (s.endWait a).fixed wide = s.fixed wide := by simp [State.endWait]

@[simp] theorem State.withdraw_fixed (wide : Bool) (s : State) (h : Nat) (blocks : List Nat) (a : Nat) :
    (s.withdraw h blocks a).fixed wide = s.fixed wide := by
  unfold State.withdraw
  dsimp only
  split <;> simp

@[simp] theorem State.withdrawAll_fixed (wide : Bool) (s : State) (h : Nat) : (s.withdrawAll h).fixed wide = s.fixed wide := by
  unfold State.withdrawAll
  split <;> simp

@[simp] theorem State.takeOwn_fixed (wide : Bool) (s : State) (a : Nat) (blocks : List Nat) :
    (s.takeOwn a blocks).fixed wide = s.fixed wide := by
  unfold State.takeOwn
  dsimp only
  split <;> simp

@[simp] theorem State.extendOnce_fixed (wide : Bool) (s : State) (a : Nat) :
    (s.extendOnce a).1.fixed wide = s.fixed wide := by
  unfold State.extendOnce
  dsimp only
  split
  · rfl
  · split
    · simp
    · split
      · rfl
      · simp
        split <;> simp

@[simp] theorem State.curtail_fixed (wide : Bool) (s : State) (a : Nat) (revoke : Bool) :
    (s.curtail a revoke).1.fixed wide = s.fixed wide := by
  unfold State.curtail
  dsimp only
  repeat' split <;> simp

@[simp] theorem State.breakCycle_fixed (wide : Bool) (s : State) (path : List Nat) : (s.breakCycle path).1.fixed wide = s.fixed wide := by
  simp [State.breakCycle]

theorem State.fixed_of_breakCycle {wide : Bool} {s t : State} {path : List Nat} {w : Option Nat} (h : s.breakCycle path = (t, w)) :
    t.fixed wide = s.fixed wide := by
  simpa [h] using State.breakCycle_fixed wide s path

@[simp] theorem State.extendN_fixed (wide : Bool) (n : Nat) (s : State) (a : Nat) :
    (s.extendN n a).fixed wide = s.fixed wide := by
  induction n generalizing s a with
  | zero => rfl
  | succ n ih =>
    unfold State.extendN
    have h := State.extendOnce_fixed wide s a
    generalize s.extendOnce a = x at h
    obtain ⟨t, new⟩ := x
    dsimp only at h ⊢
    split
    · exact h
    · split
      · exact h
      · split
        · exact h
        · next path _ =>
          have k := State.breakCycle_fixed wide t path
          generalize t.breakCycle path = y at k
          obtain ⟨u, w⟩ := y
          dsimp only at k
          cases w with
          | none => exact k.trans h
          | some w =>
            dsimp only
            split
            · exact k.trans h
            · exact (ih u w).trans (k.trans h)

@[simp] theorem State.extend_fixed (wide : Bool) (s : State) (a : Nat) : (s.extend a).fixed wide = s.fixed wide := by simp [State.extend]

@[simp] theorem State.retry_fixed (wide : Bool) (s : State) : s.retry.fixed wide = s.fixed wide := by
  unfold State.retry
  rw [State.syncSbx_fixed]
  refine State.foldl_fixed _ _ (fun t a => ?_) _ _
  split
  · split
    · exact State.extend_fixed ..
    · rfl
  · rfl

@[simp] theorem State.routeDone_fixed (wide : Bool) (s : State) (a : Nat) : (s.routeDone a).fixed wide = s.fixed wide := by
  unfold State.routeDone
  dsimp only
  split <;> simp

@[simp] theorem State.takeFix_fixed (wide : Bool) (s : State) (a : Nat) (f : FixRec) (lastTow : Nat) :
    (s.takeFix a f lastTow).fixed wide = s.fixed wide := by
  simp [State.takeFix]

@[simp] theorem State.stopRover_fixed (wide : Bool) (s : State) (send : Bool) (a : Nat) :
    (s.stopRover send a).fixed wide = s.fixed wide := by
  unfold State.stopRover
  dsimp only
  repeat' split <;> simp

@[simp] theorem State.dropRover_fixed (wide : Bool) (s : State) (a : Nat) : (s.dropRover a).fixed wide = s.fixed wide := by
  simp [State.dropRover]

@[simp] theorem State.renewIds_fixed (wide : Bool) (s : State) (a : Nat) : (s.renewIds a).fixed wide = s.fixed wide := by
  simp [State.renewIds]

@[simp] theorem State.acceptRoute_fixed (wide : Bool) (s : State) (a prio endOfs : Nat) (route : List Nat) :
    (s.acceptRoute a prio endOfs route).fixed wide = s.fixed wide := by
  unfold State.acceptRoute
  split <;> simp

@[simp] theorem State.tentative_fixed (wide : Bool) (s : State) (q : RouteReq) : (s.tentative q).1.fixed wide = s.fixed wide := by
  unfold State.tentative
  dsimp only
  split <;> simp

@[simp] theorem State.syncReq_fixed (wide : Bool) (s : State) : (s.syncReq).fixed wide = s.fixed wide := by
  simp only [State.syncReq, ↓State.fixed_with, ↓State.fixed_ite, ↓State.setFld_fixed, ite_self]

@[simp] theorem State.routeRequest_fixed (wide : Bool) (s : State) (q : RouteReq) : (s.routeRequest q).1.fixed wide = s.fixed wide := by
  unfold State.routeRequest
  dsimp only
  repeat' split <;> simp

@[simp] theorem State.acknowledge_fixed (wide : Bool) (s : State) (a : Nat) (authId prevId : Option Nat) :
    (s.acknowledge a authId prevId).fixed wide = s.fixed wide := by
  simp [State.acknowledge]

/-! #### Machine/Energy -/

@[simp] theorem State.setMp_fixed (wide : Bool) (s : State) (p : Nat) (m : MtrPoint) : (s.setMp p m).fixed wide = s.fixed wide := by
  simp [State.setMp]

@[simp] theorem State.setMtrFlag_fixed (wide : Bool) (s : State) (p b : Nat) (on : Bool) :
    (s.setMtrFlag p b on).fixed wide = s.fixed wide := by
  simp [State.setMtrFlag]

@[simp] theorem State.foldWork_fixed (wide : Bool) (s : State) (p : Nat) (apparent : Nat → Nat → Nat) :
    (s.foldWork p apparent).fixed wide = s.fixed wide := by
  simp [State.foldWork]

@[simp] theorem State.saveVbat_fixed (wide : Bool) (s : State) (tCut : Option Nat) : (s.saveVbat tCut).fixed wide = s.fixed wide := by
  simp [State.saveVbat]

@[simp] theorem State.norCopy_fixed (wide : Bool) (s : State) (kind : Nat) : (s.norCopy kind).fixed wide = s.fixed wide := by
  simp [State.norCopy]

@[simp] theorem State.takePartial_fixed (wide : Bool) (s : State) : (s.takePartial).fixed wide = s.fixed wide := by simp [State.takePartial]

@[simp] theorem State.energySave_fixed (wide : Bool) (s : State) : (s.energySave).fixed wide = s.fixed wide := by simp [State.energySave]

@[simp] theorem State.openInterval_fixed (wide : Bool) (s : State) (first : Nat) : (s.openInterval first).fixed wide = s.fixed wide := by
  simp [State.openInterval]

@[simp] theorem State.pointDemand_fixed (wide : Bool) (s : State) (p flags : Nat) : (s.pointDemand p flags).fixed wide = s.fixed wide := by
  simp [State.pointDemand]

@[simp] theorem State.endInterval_fixed (wide : Bool) (s : State) (short : Bool) : (s.endInterval short).fixed wide = s.fixed wide := by
  simp [State.endInterval]

@[simp] theorem State.gapRecord_fixed (wide : Bool) (s : State) (kind start stop : Nat) :
    (s.gapRecord kind start stop).fixed wide = s.fixed wide := by
  simp [State.gapRecord]

@[simp] theorem State.meterStart_fixed (wide : Bool) (s : State) (kind : Nat) (start : Option Nat) :
    (s.meterStart kind start).fixed wide = s.fixed wide := by
  simp only [State.meterStart, ↓State.fixed_ite, ↓State.fixed_with, ↓State.foldl_fixed, ↓State.setMp_fixed, ↓State.gapRecord_fixed,
    ↓State.openInterval_fixed, implies_true, ite_self]

@[simp] theorem State.meterStop_fixed (wide : Bool) (s : State) : (s.meterStop).fixed wide = s.fixed wide := by simp [State.meterStop]

@[simp] theorem State.meterResume_fixed (wide : Bool) (s : State) : (s.meterResume).fixed wide = s.fixed wide := by simp [State.meterResume]

@[simp] theorem State.meterRecover_fixed (wide : Bool) (s : State) : (s.meterRecover).fixed wide = s.fixed wide := by
  unfold State.meterRecover
  repeat' split
  all_goals simp

@[simp] theorem State.meterStep_fixed (wide : Bool) (s : State) : (s.meterStep).fixed wide = s.fixed wide := by
  unfold State.meterStep
  dsimp only
  split <;> simp

/-! #### Machine/TimeEngine -/

@[simp] theorem State.setTimState_fixed (wide : Bool) (s : State) (v : Nat) : (s.setTimState v).fixed wide = s.fixed wide := by
  simp only [State.setTimState, ↓State.fixed_with, ↓State.fixed_ite, ↓State.setFld_fixed, ↓State.raise_fixed,
    ite_self]

@[simp] theorem State.aonCycles_fixed (wide : Bool) (s : State) (n : Nat) : (s.aonCycles n).fixed wide = s.fixed wide := by
  simp [State.aonCycles]

@[simp] theorem State.timeCycles_fixed (wide : Bool) (s : State) (n : Nat) : (s.timeCycles n).fixed wide = s.fixed wide := by
  unfold State.timeCycles
  dsimp only
  split <;> simp

@[simp] theorem State.readNowLo_fixed (wide : Bool) (s : State) : (s.readNowLo).2.fixed wide = s.fixed wide := by simp [State.readNowLo]

@[simp] theorem State.setSource_fixed (wide : Bool) (s : State) (k : Nat) (v : TimeSource) :
    (s.setSource k v).fixed wide = s.fixed wide := by
  simp [State.setSource]

@[simp] theorem State.offsetWarn_fixed (wide : Bool) (s : State) : (s.offsetWarn).fixed wide = s.fixed wide := by simp [State.offsetWarn]

@[simp] theorem State.offsetSeen_fixed (wide : Bool) (s : State) : (s.offsetSeen).fixed wide = s.fixed wide := by simp [State.offsetSeen]

@[simp] theorem State.setRate_fixed (wide : Bool) (s : State) (y : Int) : (s.setRate y).fixed wide = s.fixed wide := by
  simp only [State.setRate, ↓State.fixed_with, ↓State.setFld_fixed]

@[simp] theorem State.freeRate_fixed (wide : Bool) (s : State) : (s.freeRate).fixed wide = s.fixed wide := by simp [State.freeRate]

@[simp] theorem State.offerOffset_fixed (wide : Bool) (s : State) (k : Nat) (theta : Int) :
    (s.offerOffset k theta).fixed wide = s.fixed wide := by
  simp [State.offerOffset]

@[simp] theorem State.sourceInvalid_fixed (wide : Bool) (s : State) (k : Nat) : (s.sourceInvalid k).fixed wide = s.fixed wide := by
  simp [State.sourceInvalid]

@[simp] theorem State.selectSource_fixed (wide : Bool) (s : State) : (s.selectSource).fixed wide = s.fixed wide := by
  simp only [State.selectSource, ↓State.fixed_with, ↓State.fixed_ite, ↓State.setFld_fixed,
    ↓State.setTimState_fixed, ↓State.freeRate_fixed, ↓State.offsetSeen_fixed, ite_self]

@[simp] theorem State.armFirstStep_fixed (wide : Bool) (s : State) : (s.armFirstStep).fixed wide = s.fixed wide := by
  simp [State.armFirstStep]

@[simp] theorem State.timCtlWritten_fixed (wide : Bool) (s : State) : (s.timCtlWritten).fixed wide = s.fixed wide := by
  simp [State.timCtlWritten]

@[simp] theorem State.timeStep_fixed (wide : Bool) (s : State) (theta : Int) : (s.step_ theta).fixed wide = s.fixed wide := by
  simp [State.step_]

@[simp] theorem doTimeRestep_fixed (wide : Bool) (s : State) (sid seq : Nat) (p : List Byte) :
    (doTimeRestep s sid seq p).1.fixed wide = s.fixed wide := by
  simp [doTimeRestep]

@[simp] theorem State.restepApply_fixed (wide : Bool) (s : State) : (s.restepApply).fixed wide = s.fixed wide := by
  unfold State.restepApply
  split <;> simp

@[simp] theorem State.ppsWritten_fixed (wide : Bool) (s : State) (k : Nat) : (s.ppsWritten k).fixed wide = s.fixed wide := by
  simp [State.ppsWritten]

@[simp] theorem State.ppsCtlWritten_fixed (wide : Bool) (s old : State) (k : Nat) : (s.ppsCtlWritten old k).fixed wide = s.fixed wide := by
  simp [State.ppsCtlWritten]

@[simp] theorem doPpsConfig_fixed (wide : Bool) (s : State) (x0 x1 : Nat) (p : List Byte) :
    (doPpsConfig s x0 x1 p).1.fixed wide = s.fixed wide := by
  simp [doPpsConfig]

@[simp] theorem State.readInLo_fixed (wide : Bool) (s : State) : (s.readInLo).2.fixed wide = s.fixed wide := by
  unfold State.readInLo
  split <;> simp

@[simp] theorem doTimeGet_fixed (wide : Bool) (s : State) (x0 x1 : Nat) (p : List Byte) :
    (doTimeGet s x0 x1 p).1.fixed wide = s.fixed wide := by
  simp [doTimeGet]

/-! #### Machine/Tracking -/

@[simp] theorem State.setChan_fixed (wide : Bool) (s : State) (c : Nat) (v : Channel) : (s.setChan c v).fixed wide = s.fixed wide := by
  simp [State.setChan]

@[simp] theorem State.syncTrack_fixed (wide : Bool) (s : State) : (s.syncTrack).fixed wide = s.fixed wide := by simp [State.syncTrack]

@[simp] theorem State.setTracker_fixed (wide : Bool) (s : State) (c b : Nat) (v : Tracker) :
    (s.setTracker c b v).fixed wide = s.fixed wide := by
  simp [State.setTracker]

@[simp] theorem State.antEvent_fixed (wide : Bool) (s : State) : (s.antEvent).fixed wide = s.fixed wide := by simp [State.antEvent]

@[simp] theorem State.antSense_fixed (wide : Bool) (s : State) (current : Nat) : (s.antSense current).fixed wide = s.fixed wide := by
  simp only [State.antSense, ↓State.fixed_with, ↓State.fixed_ite, ↓State.setFld_fixed, ↓State.antEvent_fixed,
    ite_self]

@[simp] theorem State.antWritten_fixed (wide : Bool) (s : State) (was : Bool) : (s.antWritten was).fixed wide = s.fixed wide := by
  simp [State.antWritten]

@[simp] theorem State.itfEvent_fixed (wide : Bool) (s : State) (band cause : Nat) : (s.itfEvent band cause).fixed wide = s.fixed wide := by
  simp [State.itfEvent]

@[simp] theorem State.setNotchLow_fixed (wide : Bool) (s : State) (k : Nat) (since : Option Nat) :
    (s.setNotchLow k since).fixed wide = s.fixed wide := by
  simp [State.setNotchLow]

@[simp] theorem State.setNotch_fixed (wide : Bool) (s : State) (b n : Nat) (on : Bool) : (s.setNotch b n on).fixed wide = s.fixed wide := by
  simp [State.setNotch]

@[simp] theorem State.itfWritten_fixed (wide : Bool) (s : State) : (s.itfWritten).fixed wide = s.fixed wide := by simp [State.itfWritten]

@[simp] theorem State.gradeEvent_fixed (wide : Bool) (s : State) (c grade checks : Nat) :
    (s.gradeEvent c grade checks).fixed wide = s.fixed wide := by
  simp [State.gradeEvent]

@[simp] theorem State.releaseChan_fixed (wide : Bool) (s : State) (c : Nat) : (s.releaseChan c).fixed wide = s.fixed wide := by
  simp [State.releaseChan]

@[simp] theorem State.pullIn_fixed (wide : Bool) (s : State) (ch band signal : Nat) (doppler code : Int) :
    (s.pullIn ch band signal doppler code).fixed wide = s.fixed wide := by
  simp [State.pullIn]

@[simp] theorem State.codeLost_fixed (wide : Bool) (s : State) (c b : Nat) : (s.codeLost c b).fixed wide = s.fixed wide := by
  simp [State.codeLost]

/-! #### Machine/Rtcm -/

@[simp] theorem State.rtcmOutput_fixed (wide : Bool) (s : State) (at_ : Nat) (cells : List (Nat × MsmCell)) :
    (s.rtcmOutput at_ cells).fixed wide = s.fixed wide := by
  unfold State.rtcmOutput
  dsimp only
  split
  · rfl
  · refine (State.foldl_fixed _ _ (by simp) _ _).trans ?_
    exact (State.foldl_acc_fixed wide Prod.snd _ (by simp) _ _).trans (State.fixed_with ..)

/-! #### Machine/Sky -/

@[simp] theorem State.noteL15_fixed (wide : Bool) (s : State) (ms : List Measure) : (s.noteL15 ms).fixed wide = s.fixed wide := by
  unfold State.noteL15
  refine State.foldl_fixed _ _ (fun t a => ?_) _ _
  dsimp only
  split <;> simp

@[simp] theorem State.lockOut_fixed (wide : Bool) (s : State) (c : Nat) : (s.lockOut c).fixed wide = s.fixed wide := by simp [State.lockOut]

@[simp] theorem State.gradeOne_fixed (wide : Bool) (s : State) (fs : List Found) (m : Measure) :
    (s.gradeOne fs m).fixed wide = s.fixed wide := by
  simp [State.gradeOne]

@[simp] theorem State.gradeEpoch_fixed (wide : Bool) (s : State) (at_ : Nat) (ms : List Measure) :
    (s.gradeEpoch at_ ms).fixed wide = s.fixed wide := by
  simp [State.gradeEpoch]

@[simp] theorem State.noteSats_fixed (wide : Bool) (s : State) (at_ : Nat) (ms : List Measure) :
    (s.noteSats at_ ms).fixed wide = s.fixed wide := by
  unfold State.noteSats
  refine (State.foldl_fixed _ _ (fun t m => ?_) _ _).trans (State.foldl_fixed _ _ (fun t c => ?_) _ _)
  · simp
  · dsimp only
    split <;> simp

@[simp] theorem State.rtcmCells_fixed (wide : Bool) (s : State) (used : List Measure) :
    (s.rtcmCells used).2.fixed wide = s.fixed wide :=
  State.foldl_acc_fixed wide Prod.snd _ (by simp) _ _

@[simp] theorem State.applyBase_fixed (wide : Bool) (s : State) : (s.applyBase).fixed wide = s.fixed wide := by
  unfold State.applyBase
  split <;> simp

@[simp] theorem State.gnssOffset_fixed (wide : Bool) (s : State) (channels : Nat) (bias : Option Int) :
    (s.gnssOffset channels bias).fixed wide = s.fixed wide := by
  unfold State.gnssOffset
  split <;> simp

@[simp] theorem State.syncBase_fixed (wide : Bool) (s : State) : (s.syncBase).fixed wide = s.fixed wide := by simp [State.syncBase]

@[simp] theorem State.epoch_fixed (s : State) (bias : Option Int) (drift : Int) : (s.epoch bias drift).fixed false = s.fixed false := by
  simp only [State.epoch, ↓State.fixed_with, ↓State.applyBase_fixed,
    ↓State.noteSats_fixed, ↓State.gradeEpoch_fixed, ↓State.noteL15_fixed, ↓State.corrupt_fixed, ↓State.drew_fixed, ↓State.dramStore_fixed,
    ↓State.setFld_fixed, ↓State.rtcmCells_fixed, ↓State.laneInput_fixed, ↓State.rtcmOutput_fixed, ↓State.raise_fixed,
    ↓State.gnssOffset_fixed, ↓State.syncBase_fixed]

@[simp] theorem State.takeEphemeris_fixed (wide : Bool) (s : State) (key : Nat) (content : List Byte) :
    (s.takeEphemeris key content).fixed wide = s.fixed wide := by
  simp [State.takeEphemeris]

@[simp] theorem State.takeUtc_fixed (wide : Bool) (s : State) (taiUtc : Nat) (leap : Option (Nat × Nat)) :
    (s.takeUtc taiUtc leap).fixed wide = s.fixed wide := by
  unfold State.takeUtc
  split <;> simp only [↓State.fixed_with, ↓State.fixed_ite, ↓State.setFld_fixed, ite_self]

@[simp] theorem State.takeNav_fixed (wide : Bool) (s : State) (sat signal ty : Nat) (payload : List Byte) :
    (s.takeNav sat signal ty payload).fixed wide = s.fixed wide := by
  unfold State.takeNav
  dsimp only
  repeat' split <;> simp

@[simp] theorem State.reacquire_fixed (wide : Bool) (s : State) : (s.reacquire).fixed wide = s.fixed wide := by simp [State.reacquire]

@[simp] theorem State.skyStart_fixed (wide : Bool) (s : State) : (s.skyStart).fixed wide = s.fixed wide := by simp [State.skyStart]

@[simp] theorem State.skyRestart_fixed (wide : Bool) (s : State) : (s.skyRestart).fixed wide = s.fixed wide := by simp [State.skyRestart]

@[simp] theorem State.skyCold_fixed (wide : Bool) (s : State) : (s.skyCold).fixed wide = s.fixed wide := by simp [State.skyCold]

@[simp] theorem doSkyConfig_fixed (wide : Bool) (s : State) (x0 x1 : Nat) (p : List Byte) :
    (doSkyConfig s x0 x1 p).1.fixed wide = s.fixed wide := by
  simp [doSkyConfig]

@[simp] theorem doSkySetBasePosition_fixed (wide : Bool) (s : State) (x0 x1 : Nat) (p : List Byte) :
    (doSkySetBasePosition s x0 x1 p).1.fixed wide = s.fixed wide := by
  simp [doSkySetBasePosition]

@[simp] theorem State.readmit_fixed (wide : Bool) (s : State) (c b : Nat) : (s.readmit c b).fixed wide = s.fixed wide := by
  simp [State.readmit]

@[simp] theorem doSkyExclude_fixed (wide : Bool) (s : State) (x0 x1 : Nat) (p : List Byte) :
    (doSkyExclude s x0 x1 p).1.fixed wide = s.fixed wide := by
  simp [doSkyExclude]

@[simp] theorem doSkyGetChannels_fixed (wide : Bool) (s : State) (x0 x1 : Nat) (p : List Byte) :
    (doSkyGetChannels s x0 x1 p).1.fixed wide = s.fixed wide := by
  simp [doSkyGetChannels]

@[simp] theorem doSkyRtcmConfig_fixed (wide : Bool) (s : State) (x0 x1 : Nat) (p : List Byte) :
    (doSkyRtcmConfig s x0 x1 p).1.fixed wide = s.fixed wide := by
  simp [doSkyRtcmConfig]

/-! #### Machine/RtkFilter -/

@[simp] theorem State.update_fixed (wide : Bool) (s : State) (a : Nat) (q : PendingObs) (b : BaseRec) :
    (s.update a q b).1.fixed wide = s.fixed wide := by
  unfold State.update
  dsimp only
  split <;> simp only [↓State.setRk_fixed]

/-! #### Machine/Rtk -/

@[simp] theorem State.syncRtk_fixed (wide : Bool) (s : State) : (s.syncRtk).fixed wide = s.fixed wide := by simp [State.syncRtk]

@[simp] theorem State.newFilter_fixed (wide : Bool) (s : State) (a : Nat) : (s.newFilter a).fixed wide = s.fixed wide := by
  simp [State.newFilter]

@[simp] theorem State.showShed_fixed (wide : Bool) (s : State) : (s.showShed).fixed wide = s.fixed wide := by simp [State.showShed]

@[simp] theorem State.intakeDrop_fixed (wide : Bool) (s : State) (a counter tow : Nat) :
    (s.intakeDrop a counter tow).fixed wide = s.fixed wide := by
  simp [State.intakeDrop]

@[simp] theorem State.takeRef_fixed (wide : Bool) (s : State) (a : Nat) (p : List Byte) : (s.takeRef a p).fixed wide = s.fixed wide := by
  unfold State.takeRef
  dsimp only
  split <;> simp

@[simp] theorem State.intake_fixed (wide : Bool) (s : State) (a : Nat) (p : List Byte) : (s.intake a p).fixed wide = s.fixed wide := by
  unfold State.intake
  dsimp only
  repeat' split
  all_goals simp only [↓State.intakeDrop_fixed, ↓State.takeRef_fixed,
    ↓State.syncRtk_fixed, ↓State.setRk_fixed]

@[simp] theorem State.publish_fixed (wide : Bool) (s : State) (a : Nat) (r : FixRec) (at_ : Nat) :
    (s.publish a r at_).fixed wide = s.fixed wide := by
  simp [State.publish]

@[simp] theorem State.publishSol_fixed (wide : Bool) (s : State) (a : Nat) (q : PendingObs) (b : BaseRec) (rec_ : FixRec) (ratio : Nat)
    (at_ : Nat) :
    (s.publishSol a q b rec_ ratio at_).fixed wide = s.fixed wide := by
  simp [State.publishSol]

@[simp] theorem State.floatResult_fixed (wide : Bool) (s : State) (a : Nat) (q : PendingObs) (b : BaseRec) (note : Bool) (ratio : Nat)
    (at_ : Nat) :
    (s.floatResult a q b note ratio at_).fixed wide = s.fixed wide := by
  simp [State.floatResult]

@[simp] theorem State.countDistance_fixed (wide : Bool) (s : State) (a : Nat) (b : BaseRec) :
    (s.countDistance a b).fixed wide = s.fixed wide := by
  unfold State.countDistance
  dsimp only
  split <;> simp

@[simp] theorem State.resolve_fixed (wide : Bool) (s : State) (a : Nat) (q : PendingObs) (b : BaseRec) (reset : List Nat) (at_ : Nat) :
    (s.resolve a q b reset at_).fixed wide = s.fixed wide := by
  unfold State.resolve
  dsimp only
  repeat' split <;> simp

@[simp] theorem State.missed_fixed (wide : Bool) (s : State) (a : Nat) : (s.missed a).fixed wide = s.fixed wide := by simp [State.missed]

@[simp] theorem State.turn_fixed (wide : Bool) (s : State) (ek : Nat) (x : RtkSol) (cut : Bool) :
    (s.turn ek x cut).fixed wide = s.fixed wide := by
  unfold State.turn
  dsimp only
  repeat' split <;> simp

@[simp] theorem State.cycleTook_fixed (wide : Bool) (s : State) (us : Nat) : (s.cycleTook us).fixed wide = s.fixed wide := by
  simp [State.cycleTook]

@[simp] theorem State.cutWaiting_fixed (wide : Bool) (s : State) : (s.cutWaiting).fixed wide = s.fixed wide := by simp [State.cutWaiting]

@[simp] theorem State.shiftFilters_fixed (wide : Bool) (s : State) (axes : Geodetic) (d : Vec) :
    (s.shiftFilters axes d).fixed wide = s.fixed wide := by
  simp [State.shiftFilters]

@[simp] theorem State.baseShift_fixed (wide : Bool) (s : State) (b : BaseRec) : (s.baseShift b).fixed wide = s.fixed wide := by
  unfold State.baseShift
  split <;> simp

@[simp] theorem State.reframe_fixed (wide : Bool) (s : State) (b : BaseRec) : (s.reframe b).fixed wide = s.fixed wide := by
  unfold State.reframe
  dsimp only
  split <;> simp

@[simp] theorem State.rtkCycle_fixed (wide : Bool) (s : State) (ek : Nat) (sols : List RtkSol) :
    (s.rtkCycle ek sols).fixed wide = s.fixed wide := by
  unfold State.rtkCycle
  dsimp only
  split <;> simp only [↓State.fixed_with, ↓State.fixed_ite, ↓State.foldl_fixed, ↓State.cutWaiting_fixed,
    ↓State.setFld_fixed, ↓State.baseShift_fixed, ↓State.reframe_fixed, ↓State.turn_fixed, ↓State.cycleTook_fixed, ↓State.syncRtk_fixed,
    ite_self, implies_true]

@[simp] theorem State.arDisable_fixed (wide : Bool) (s : State) : (s.arDisable).fixed wide = s.fixed wide := by simp [State.arDisable]

@[simp] theorem State.rtkCntClr_fixed (wide : Bool) (s : State) : (s.rtkCntClr).fixed wide = s.fixed wide := by simp [State.rtkCntClr]

@[simp] theorem doRtkSetSiteOrigin_fixed (wide : Bool) (s : State) (x0 x1 : Nat) (p : List Byte) :
    (doRtkSetSiteOrigin s x0 x1 p).1.fixed wide = s.fixed wide := by
  simp [doRtkSetSiteOrigin]

@[simp] theorem doRtkSetRateClass_fixed (wide : Bool) (s : State) (x0 x1 : Nat) (p : List Byte) :
    (doRtkSetRateClass s x0 x1 p).1.fixed wide = s.fixed wide := by
  simp [doRtkSetRateClass]

@[simp] theorem doRtkSetNoise_fixed (wide : Bool) (s : State) (x0 x1 : Nat) (p : List Byte) :
    (doRtkSetNoise s x0 x1 p).1.fixed wide = s.fixed wide := by
  simp [doRtkSetNoise]

@[simp] theorem doRtkResetRover_fixed (wide : Bool) (s : State) (x0 x1 : Nat) (p : List Byte) :
    (doRtkResetRover s x0 x1 p).1.fixed wide = s.fixed wide := by
  simp [doRtkResetRover]

@[simp] theorem doRtkGetFix_fixed (wide : Bool) (s : State) (x0 x1 : Nat) (p : List Byte) :
    (doRtkGetFix s x0 x1 p).1.fixed wide = s.fixed wide := by
  simp [doRtkGetFix]

/-! #### Machine/SignalBox -/

@[simp] theorem State.previewDisable_fixed (wide : Bool) (s : State) : (s.previewDisable).fixed wide = s.fixed wide := by
  simp [State.previewDisable]

@[simp] theorem State.sbxCntClr_fixed (wide : Bool) (s : State) : (s.sbxCntClr).fixed wide = s.fixed wide := by simp [State.sbxCntClr]

@[simp] theorem State.mapEvent_fixed (wide : Bool) (s : State) (result code id index : Nat) :
    (s.mapEvent result code id index).fixed wide = s.fixed wide := by
  simp [State.mapEvent]

@[simp] theorem doSbxMapStage_fixed (wide : Bool) (s : State) (x0 x1 : Nat) (p : List Byte) :
    (doSbxMapStage s x0 x1 p).1.fixed wide = s.fixed wide := by
  simp [doSbxMapStage]

@[simp] theorem doSbxMapActivate_fixed (wide : Bool) (s : State) (x0 x1 : Nat) (p : List Byte) :
    (doSbxMapActivate s x0 x1 p).1.fixed wide = s.fixed wide := by
  unfold doSbxMapActivate
  repeat' split
  all_goals simp

@[simp] theorem doSbxRequest_fixed (wide : Bool) (s : State) (x0 x1 : Nat) (p : List Byte) :
    (doSbxRequest s x0 x1 p).1.fixed wide = s.fixed wide := by
  simp [doSbxRequest]

@[simp] theorem doSbxRelease_fixed (wide : Bool) (s : State) (x0 x1 : Nat) (p : List Byte) :
    (doSbxRelease s x0 x1 p).1.fixed wide = s.fixed wide := by
  simp [doSbxRelease]

@[simp] theorem doSbxRevoke_fixed (wide : Bool) (s : State) (x0 x1 : Nat) (p : List Byte) :
    (doSbxRevoke s x0 x1 p).1.fixed wide = s.fixed wide := by
  simp [doSbxRevoke]

@[simp] theorem doSbxZoneSet_fixed (wide : Bool) (s : State) (x0 x1 : Nat) (p : List Byte) :
    (doSbxZoneSet s x0 x1 p).1.fixed wide = s.fixed wide := by
  unfold doSbxZoneSet
  split <;> simp

@[simp] theorem doSbxGetState_fixed (wide : Bool) (s : State) (x0 x1 : Nat) (p : List Byte) :
    (doSbxGetState s x0 x1 p).1.fixed wide = s.fixed wide := by
  unfold doSbxGetState
  dsimp only
  split <;> simp

/-! #### Machine/Allotment -/

@[simp] theorem State.putTask_fixed (wide : Bool) (s : State) (i : Nat) (t : Task) : (s.putTask i t).fixed wide = s.fixed wide := by
  simp [State.putTask]

@[simp] theorem State.syncAlt_fixed (wide : Bool) (s : State) : (s.syncAlt).fixed wide = s.fixed wide := by simp [State.syncAlt]

@[simp] theorem State.setTask_fixed (wide : Bool) (s : State) (i new reason : Nat) :
    (s.setTask i new reason).fixed wide = s.fixed wide := by
  simp [State.setTask]

@[simp] theorem State.endProposal_fixed (wide : Bool) (s : State) (a : Nat) : (s.endProposal a).fixed wide = s.fixed wide := by
  unfold State.endProposal
  split <;> simp

@[simp] theorem State.takeUp_fixed (wide : Bool) (s : State) (a i : Nat) : (s.takeUp a i).fixed wide = s.fixed wide := by
  simp [State.takeUp]

@[simp] theorem State.giveBack_fixed (wide : Bool) (s : State) (i reason : Nat) : (s.giveBack i reason).fixed wide = s.fixed wide := by
  simp [State.giveBack]

@[simp] theorem State.failTask_fixed (wide : Bool) (s : State) (i reason : Nat) : (s.failTask i reason).fixed wide = s.fixed wide := by
  simp [State.failTask]

@[simp] theorem State.dispatch_fixed (wide : Bool) (s : State) (a i : Nat) : (s.dispatch a i).fixed wide = s.fixed wide := by
  unfold State.dispatch
  split <;> simp

@[simp] theorem State.taskDone_fixed (wide : Bool) (s : State) (a i : Nat) : (s.taskDone a i).fixed wide = s.fixed wide := by
  unfold State.taskDone
  dsimp only
  split <;> simp

@[simp] theorem State.toDest_fixed (wide : Bool) (s : State) (i : Nat) : (s.toDest i).fixed wide = s.fixed wide := by simp [State.toDest]

@[simp] theorem State.workDone_fixed (wide : Bool) (s : State) (a i : Nat) : (s.workDone a i).fixed wide = s.fixed wide := by
  simp [State.workDone]

@[simp] theorem State.taskReport_fixed (wide : Bool) (s : State) (a taskId report soc : Nat) :
    (s.taskReport a taskId report soc).fixed wide = s.fixed wide := by
  unfold State.taskReport
  dsimp only
  split <;> simp

@[simp] theorem State.altLost_fixed (wide : Bool) (s : State) (a : Nat) : (s.altLost a).fixed wide = s.fixed wide := by simp [State.altLost]

@[simp] theorem State.rerouteAll_fixed (wide : Bool) (s : State) (rovers : List Nat) : (s.rerouteAll rovers).fixed wide = s.fixed wide := by
  simp [State.rerouteAll]

@[simp] theorem State.altStop_fixed (wide : Bool) (s : State) : (s.altStop).fixed wide = s.fixed wide := by simp [State.altStop]

@[simp] theorem State.chargeEvent_fixed (wide : Bool) (s : State) (kind a kw : Nat) :
    (s.chargeEvent kind a kw).fixed wide = s.fixed wide := by
  simp [State.chargeEvent]

@[simp] theorem State.genCharge_fixed (wide : Bool) (s : State) : s.genCharge.fixed wide = s.fixed wide := by
  unfold State.genCharge
  split
  · rfl
  · refine State.foldl_fixed _ _ (fun t a => ?_) _ _
    split <;> simp

@[simp] theorem State.shedCharge_fixed (wide : Bool) (s : State) : (s.shedCharge).fixed wide = s.fixed wide := by
  unfold State.shedCharge
  dsimp only
  repeat' split
  all_goals simp only [↓State.chargeEvent_fixed, ↓State.satInc_fixed,
    ↓State.setTask_fixed]

@[simp] theorem State.chargeRows_fixed (wide : Bool) (s : State) (rows cols : List Nat) :
    (s.chargeRows rows cols).1.fixed wide = s.fixed wide := by
  unfold State.chargeRows
  exact (State.foldl_acc_fixed wide Prod.fst _ (by simp) _ _).trans (by simp)

@[simp] theorem State.renameZone_fixed (wide : Bool) (s : State) (a : Nat) : (s.renameZone a).fixed wide = s.fixed wide := by
  unfold State.renameZone
  dsimp only
  split
  · split
    · split
      · split
        · next h => simp [State.fixed_of_breakCycle h]
        · next h => simp [State.fixed_of_breakCycle h]
      · simp
    · rfl
  · rfl

@[simp] theorem State.renameZones_fixed (wide : Bool) (s : State) : (s.renameZones).fixed wide = s.fixed wide := by simp [State.renameZones]

@[simp] theorem State.roundStart_fixed (wide : Bool) (s : State) : (s.roundStart).fixed wide = s.fixed wide := by simp [State.roundStart]

@[simp] theorem State.applyRow_fixed (wide : Bool) (s : State) (a : Nat) (col : Option Nat) :
    (s.applyRow a col).fixed wide = s.fixed wide := by
  unfold State.applyRow
  dsimp only
  repeat' split <;> simp

@[simp] theorem State.endStale_fixed (wide : Bool) (s : State) (made : List (Nat × Option Nat)) :
    (s.endStale made).fixed wide = s.fixed wide := by
  simp [State.endStale]

@[simp] theorem State.roundApply_fixed (wide : Bool) (s : State) (r : Round) (k result : Nat) :
    (s.roundApply r k result).fixed wide = s.fixed wide := by
  simp only [State.roundApply, ↓State.raise_fixed, ↓State.syncAlt_fixed, ↓State.laneOut_fixed, ↓State.fixed_with, ↓State.setFld_fixed,
    ↓State.foldl_fixed, ↓State.applyRow_fixed, ↓State.endStale_fixed, implies_true]

@[simp] theorem State.submit_fixed (wide : Bool) (s : State) (m : SiteMap) (a i u v : Nat) (prop : Bool) (route : List Nat) :
    (s.submit m a i u v prop route).fixed wide = s.fixed wide := by
  unfold State.submit
  dsimp only
  split <;> simp

@[simp] theorem State.search_fixed (wide : Bool) (s : State) (a : Nat) (again : Bool) (route : List Nat) :
    (s.search a again route).fixed wide = s.fixed wide := by
  unfold State.search
  split <;> simp

@[simp] theorem State.routeAnswer_fixed (wide : Bool) (s : State) (q : RouteReq) (r : Answered) :
    (s.routeAnswer q r).fixed wide = s.fixed wide := by
  unfold State.routeAnswer
  split <;> simp

@[simp] theorem State.raEnClear_fixed (wide : Bool) (s : State) : (s.raEnClear).fixed wide = s.fixed wide := by simp [State.raEnClear]

@[simp] theorem State.altCntClr_fixed (wide : Bool) (s : State) : (s.altCntClr).fixed wide = s.fixed wide := by simp [State.altCntClr]

@[simp] theorem doAltTaskAdd_fixed (wide : Bool) (s : State) (x0 x1 : Nat) (p : List Byte) :
    (doAltTaskAdd s x0 x1 p).1.fixed wide = s.fixed wide := by
  unfold doAltTaskAdd
  split <;> simp

@[simp] theorem State.cancelTask_fixed (wide : Bool) (s : State) (i : Nat) : (s.cancelTask i).fixed wide = s.fixed wide := by
  simp [State.cancelTask]

@[simp] theorem doAltTaskCancel_fixed (wide : Bool) (s : State) (x0 x1 : Nat) (p : List Byte) :
    (doAltTaskCancel s x0 x1 p).1.fixed wide = s.fixed wide := by
  simp [doAltTaskCancel]

@[simp] theorem doAltTaskGet_fixed (wide : Bool) (s : State) (x0 x1 : Nat) (p : List Byte) :
    (doAltTaskGet s x0 x1 p).1.fixed wide = s.fixed wide := by
  simp [doAltTaskGet]

@[simp] theorem doAltLandmarksLoad_fixed (wide : Bool) (s : State) (x0 x1 : Nat) (p : List Byte) :
    (doAltLandmarksLoad s x0 x1 p).1.fixed wide = s.fixed wide := by
  simp [doAltLandmarksLoad]

@[simp] theorem doAltRoundNow_fixed (wide : Bool) (s : State) (x0 x1 : Nat) (p : List Byte) :
    (doAltRoundNow s x0 x1 p).1.fixed wide = s.fixed wide := by
  simp [doAltRoundNow]

/-! #### Machine/Timetabler -/

@[simp] theorem State.showCam_fixed (wide : Bool) (s : State) : (s.showCam).fixed wide = s.fixed wide := by simp [State.showCam]

@[simp] theorem State.syncTtb_fixed (wide : Bool) (s : State) : (s.syncTtb).fixed wide = s.fixed wide := by simp [State.syncTtb]

@[simp] theorem State.camEvent_fixed (wide : Bool) (s : State) (result code version nstep : Nat) :
    (s.camEvent result code version nstep).fixed wide = s.fixed wide := by
  simp [State.camEvent]

@[simp] theorem doTtbCamStage_fixed (wide : Bool) (s : State) (x0 x1 : Nat) (p : List Byte) :
    (doTtbCamStage s x0 x1 p).1.fixed wide = s.fixed wide := by
  simp [doTtbCamStage]

@[simp] theorem doTtbCamActivate_fixed (wide : Bool) (s : State) (x0 x1 : Nat) (p : List Byte) :
    (doTtbCamActivate s x0 x1 p).1.fixed wide = s.fixed wide := by
  unfold doTtbCamActivate
  split <;> simp

@[simp] theorem State.ttbSuperframe_fixed (wide : Bool) (s : State) : (s.ttbSuperframe).fixed wide = s.fixed wide := by
  unfold State.ttbSuperframe
  dsimp only
  repeat' split
  all_goals simp only [↓State.fixed_with, ↓State.syncTtb_fixed, ↓State.setFld_fixed,
    ↓State.camEvent_fixed, ↓State.showCam_fixed]

@[simp] theorem State.plan_fixed (wide : Bool) (s : State) (j : Job) (c : Nat) : (s.plan j c).1.fixed wide = s.fixed wide := by
  unfold State.plan
  dsimp only
  split <;> simp

@[simp] theorem State.addSection_fixed (wide : Bool) (s : State) (a : Nat) (x : Section) :
    (s.addSection a x).fixed wide = s.fixed wide := by
  simp [State.addSection]

@[simp] theorem State.commitJob_fixed (wide : Bool) (s : State) (c : Nat) (j : Job) : (s.commitJob c j).fixed wide = s.fixed wide := by
  unfold State.commitJob
  dsimp only
  split <;> simp

@[simp] theorem State.camReport_fixed (wide : Bool) (s : State) (a ver : Nat) (needAuth : Bool) :
    (s.camReport a ver needAuth).fixed wide = s.fixed wide := by
  simp [State.camReport]

@[simp] theorem State.ttbCntClr_fixed (wide : Bool) (s : State) : (s.ttbCntClr).fixed wide = s.fixed wide := by simp [State.ttbCntClr]

@[simp] theorem doTtbSetLimits_fixed (wide : Bool) (s : State) (x0 x1 : Nat) (p : List Byte) :
    (doTtbSetLimits s x0 x1 p).1.fixed wide = s.fixed wide := by
  simp [doTtbSetLimits]

@[simp] theorem doTtbGetProfile_fixed (wide : Bool) (s : State) (x0 x1 : Nat) (p : List Byte) :
    (doTtbGetProfile s x0 x1 p).1.fixed wide = s.fixed wide := by
  simp [doTtbGetProfile]

/-! #### Machine/Pass -/

@[simp] theorem State.showMap_fixed (wide : Bool) (s : State) : (s.showMap).fixed wide = s.fixed wide := by simp [State.showMap]

@[simp] theorem State.revokeAll_fixed (wide : Bool) (s : State) : (s.revokeAll).fixed wide = s.fixed wide := by simp [State.revokeAll]

@[simp] theorem State.dropStaged_fixed (wide : Bool) (s : State) (crc : Option Nat) : (s.dropStaged crc).fixed wide = s.fixed wide := by
  unfold State.dropStaged
  dsimp only
  split <;> simp

@[simp] theorem State.originCheck_fixed (wide : Bool) (s : State) : (s.originCheck).fixed wide = s.fixed wide := by
  unfold State.originCheck
  dsimp only
  split <;> simp

@[simp] theorem State.checkTasks_fixed (wide : Bool) (s : State) (m : SiteMap) : (s.checkTasks m).fixed wide = s.fixed wide := by
  simp [State.checkTasks]

@[simp] theorem State.reoccupy_fixed (wide : Bool) (s : State) : (s.reoccupy).fixed wide = s.fixed wide := by
  unfold State.reoccupy
  refine State.foldl_fixed _ _ (fun t a => ?_) _ _
  dsimp only
  split <;> simp

@[simp] theorem State.activateMap_fixed (wide : Bool) (s : State) : (s.activateMap).fixed wide = s.fixed wide := by
  unfold State.activateMap
  dsimp only
  repeat' split <;> simp

@[simp] theorem State.resendPreviews_fixed (wide : Bool) (s : State) : s.resendPreviews.fixed wide = s.fixed wide := by
  unfold State.resendPreviews
  split
  · rfl
  · refine State.foldl_fixed _ _ (fun t a => ?_) _ _
    split <;> simp

/-! #### Machine/Frames -/

@[simp] theorem State.ethSend_fixed (wide : Bool) (s : State) (n : Nat) (bytes : List Byte) :
    (s.ethSend n bytes).fixed wide = s.fixed wide := by
  simp [State.ethSend]

@[simp] theorem State.setPort_fixed (wide : Bool) (s : State) (n : Nat) (p : RadPort) : (s.setPort n p).fixed wide = s.fixed wide := by
  simp [State.setPort]

@[simp] theorem State.tagFail_fixed (wide : Bool) (s : State) (n ftype : Nat) : (s.tagFail n ftype).fixed wide = s.fixed wide := by
  simp [State.tagFail]

@[simp] theorem State.rxCheck_fixed (wide : Bool) (s : State) (n : Nat) (bytes : List Byte) :
    (s.rxCheck n bytes).1.fixed wide = s.fixed wide := by
  unfold State.rxCheck
  repeat' split
  all_goals simp

/-! #### Machine/StopPath -/

@[simp] theorem State.syncStop_fixed (wide : Bool) (s : State) : (s.syncStop).fixed wide = s.fixed wide := by simp [State.syncStop]

@[simp] theorem State.stopOut_fixed (wide : Bool) (s : State) (active : Bool) : (s.stopOut active).fixed wide = s.fixed wide := by
  simp [State.stopOut]

@[simp] theorem State.chainStop_fixed (wide : Bool) (s : State) : (s.chainStop).fixed wide = s.fixed wide := by simp [State.chainStop]

@[simp] theorem State.stopEdge_fixed (wide : Bool) (s : State) (n : Nat) : (s.stopEdge n).fixed wide = s.fixed wide := by
  simp [State.stopEdge]

@[simp] theorem State.lanesStop_fixed (wide : Bool) (s : State) : (s.lanesStop).fixed wide = s.fixed wide := by simp [State.lanesStop]

@[simp] theorem State.fire_fixed (wide : Bool) (s : State) : (s.fire).fixed wide = s.fixed wide := by simp [State.fire]

@[simp] theorem State.sourceEvent_fixed (wide : Bool) (s : State) (src : Nat) (on : Bool) :
    (s.sourceEvent src on).fixed wide = s.fixed wide := by
  simp [State.sourceEvent]

@[simp] theorem State.releaseEvent_fixed (wide : Bool) (s : State) (scope result target : Nat) :
    (s.releaseEvent scope result target).fixed wide = s.fixed wide := by
  simp [State.releaseEvent]

@[simp] theorem State.sourceOn_fixed (wide : Bool) (s : State) (src : Nat) : (s.sourceOn src).fixed wide = s.fixed wide := by
  simp [State.sourceOn]

@[simp] theorem State.sourceOff_fixed (wide : Bool) (s : State) (src : Nat) : (s.sourceOff src).fixed wide = s.fixed wide := by
  simp [State.sourceOff]

@[simp] theorem State.noteAuthMs_fixed (wide : Bool) (s : State) : (s.noteAuthMs).fixed wide = s.fixed wide := by simp [State.noteAuthMs]

@[simp] theorem State.chainStopIn_fixed (wide : Bool) (s : State) (n : Nat) (p : List Byte) :
    (s.chainStopIn n p).fixed wide = s.fixed wide := by
  simp [State.chainStopIn]

/-! #### Machine/Survive -/

@[simp] theorem State.resetRange_fixed (wide : Bool) (s : State) (lo hi : Nat) (st : Bool) :
    (s.resetRange lo hi st).fixed wide = s.fixed wide := by
  simp [State.resetRange]

@[simp] theorem State.loadNor_fixed (wide : Bool) (s : State) (lo hi : Nat) : (s.loadNor lo hi).fixed wide = s.fixed wide := by
  simp [State.loadNor]

@[simp] theorem State.laneRegsLost_fixed (wide : Bool) (s : State) : (s.laneRegsLost).fixed wide = s.fixed wide := by
  simp [State.laneRegsLost]

@[simp] theorem State.spanAnew_fixed (wide : Bool) (s : State) : (s.spanAnew).fixed wide = s.fixed wide := by simp [State.spanAnew]

@[simp] theorem State.lanesCold_fixed (s : State) : (s.lanesCold).fixed false = s.fixed false := by simp [State.lanesCold]

/-! #### Machine/Lanes -/

@[simp] theorem State.laneReset_fixed (wide : Bool) (s : State) (l : Nat) : (s.laneReset l).fixed wide = s.fixed wide := by
  simp [State.laneReset]

@[simp] theorem State.autoRejoin_fixed (wide : Bool) (s : State) (l : Nat) : (s.autoRejoin l).fixed wide = s.fixed wide := by
  simp [State.autoRejoin]

@[simp] theorem State.switchEvent_fixed (wide : Bool) (s : State) (kind us : Nat) : (s.switchEvent kind us).fixed wide = s.fixed wide := by
  simp [State.switchEvent]

@[simp] theorem State.abandonSwitch_fixed (wide : Bool) (s : State) : (s.abandonSwitch).fixed wide = s.fixed wide := by
  simp [State.abandonSwitch]

@[simp] theorem State.noLaneLeft_fixed (wide : Bool) (s : State) : (s.noLaneLeft).fixed wide = s.fixed wide := by simp [State.noLaneLeft]

@[simp] theorem State.switchFailed_fixed (wide : Bool) (s : State) : (s.switchFailed).fixed wide = s.fixed wide := by
  simp only [State.switchFailed, ↓State.fixed_with, ↓State.foldl_fixed, ↓State.setSess_fixed,
    ↓State.releaseHeld_fixed, ↓State.noLaneLeft_fixed, ↓State.setFld_fixed, implies_true]

@[simp] theorem State.laneFail_fixed (wide : Bool) (s : State) (l cause engine : Nat) :
    (s.laneFail l cause engine).fixed wide = s.fixed wide := by
  simp [State.laneFail]

@[simp] theorem State.makeActive_fixed (wide : Bool) (s : State) (l : Nat) : (s.makeActive l).fixed wide = s.fixed wide := by
  simp [State.makeActive]

@[simp] theorem State.switchOverEnd_fixed (wide : Bool) (s : State) : (s.switchOverEnd).fixed wide = s.fixed wide := by
  simp [State.switchOverEnd]

@[simp] theorem doLanSwitch_fixed (wide : Bool) (s : State) (x0 x1 : Nat) (p : List Byte) :
    (doLanSwitch s x0 x1 p).1.fixed wide = s.fixed wide := by
  unfold doLanSwitch
  split <;> simp

@[simp] theorem State.commandedSwitch_fixed (wide : Bool) (s : State) : (s.commandedSwitch).fixed wide = s.fixed wide := by
  unfold State.commandedSwitch
  split <;> simp

@[simp] theorem State.rejoined_fixed (wide : Bool) (s : State) (l kind : Nat) : (s.rejoined l kind).fixed wide = s.fixed wide := by
  simp [State.rejoined]

@[simp] theorem State.agreement_fixed (wide : Bool) (s : State) : (s.agreement).fixed wide = s.fixed wide := by
  unfold State.agreement
  split <;> simp

@[simp] theorem State.mismatch_fixed (wide : Bool) (s : State) (sfn a b : Nat) : (s.mismatch sfn a b).fixed wide = s.fixed wide := by
  simp [State.mismatch]

@[simp] theorem State.showDigest_fixed (wide : Bool) (s : State) (sfn d : Nat) : (s.showDigest sfn d).fixed wide = s.fixed wide := by
  simp [State.showDigest]

@[simp] theorem State.compare_fixed (wide : Bool) (s : State) (l sfn da db : Nat) : (s.compare l sfn da db).fixed wide = s.fixed wide := by
  simp [State.compare]

@[simp] theorem State.digestBoundary_fixed (wide : Bool) (s : State) (before : Nat) :
    (s.digestBoundary before).fixed wide = s.fixed wide := by
  simp [State.digestBoundary]

@[simp] theorem State.inputGaps_fixed (wide : Bool) (s : State) : s.inputGaps.fixed wide = s.fixed wide := by
  unfold State.inputGaps
  refine (State.foldl_fixed _ _ (fun t l => ?_) _ _).trans (State.fixed_with ..)
  split <;> simp

@[simp] theorem State.laneTick_fixed (wide : Bool) (s : State) : (s.laneTick).fixed wide = s.fixed wide := by simp [State.laneTick]

@[simp] theorem State.laneRestore_fixed (wide : Bool) (s : State) (l : Nat) : (s.laneRestore l).fixed wide = s.fixed wide := by
  simp [State.laneRestore]

@[simp] theorem State.lanCntClr_fixed (wide : Bool) (s : State) : (s.lanCntClr).fixed wide = s.fixed wide := by simp [State.lanCntClr]

@[simp] theorem doLanGetState_fixed (wide : Bool) (s : State) (x0 x1 : Nat) (p : List Byte) :
    (doLanGetState s x0 x1 p).1.fixed wide = s.fixed wide := by
  simp [doLanGetState]

/-! #### Machine/Snapshot -/

@[simp] theorem State.setSnap_fixed (wide : Bool) (s : State) (a : Nat) (e : Option SnapEntry) :
    (s.setSnap a e).fixed wide = s.fixed wide := by
  simp [State.setSnap]

@[simp] theorem State.syncSnp_fixed (wide : Bool) (s : State) : (s.syncSnp).fixed wide = s.fixed wide := by simp [State.syncSnp]

@[simp] theorem State.freeSnap_fixed (wide : Bool) (s : State) (a : Nat) : (s.freeSnap a).fixed wide = s.fixed wide := by
  unfold State.freeSnap
  split <;> simp

@[simp] theorem State.snapReply_fixed (wide : Bool) (s : State) (a id result : Nat) (data : List Byte) :
    (s.snapReply a id result data).fixed wide = s.fixed wide := by
  simp [State.snapReply]

@[simp] theorem State.snapDone_fixed (wide : Bool) (s : State) (a id result nseed : Nat) (data : List Byte) :
    (s.snapDone a id result nseed data).fixed wide = s.fixed wide := by
  simp [State.snapDone]

@[simp] theorem State.snapEnd_fixed (wide : Bool) (s : State) (a : Nat) (e : SnapEntry) (result nseed : Nat) (data : List Byte) :
    (s.snapEnd a e result nseed data).fixed wide = s.fixed wide := by
  simp [State.snapEnd]

@[simp] theorem State.abandonSnaps_fixed (wide : Bool) (s : State) : (s.abandonSnaps).fixed wide = s.fixed wide := by
  simp [State.abandonSnaps]

@[simp] theorem State.snapComplete_fixed (wide : Bool) (s : State) (a : Nat) (e : SnapEntry) :
    (s.snapComplete a e).fixed wide = s.fixed wide := by
  unfold State.snapComplete
  split <;> simp

@[simp] theorem State.snapStore_fixed (wide : Bool) (s : State) (a : Nat) (e : SnapEntry) (idx : Nat) (data : List Byte) :
    (s.snapStore a e idx data).fixed wide = s.fixed wide := by
  simp [State.snapStore]

@[simp] theorem State.snapOpen_fixed (wide : Bool) (s : State) (a id count idx : Nat) (data : List Byte) :
    (s.snapOpen a id count idx data).fixed wide = s.fixed wide := by
  unfold State.snapOpen
  split <;> simp only [↓State.fixed_with, ↓State.fixed_ite, ↓State.satInc_fixed, ↓State.freeSnap_fixed,
    ↓State.raise_fixed, ↓State.snapDone_fixed, ↓State.snapStore_fixed, ite_self]

@[simp] theorem State.chunk_fixed (wide : Bool) (s : State) (a : Nat) (p : List Byte) : (s.chunk a p).fixed wide = s.fixed wide := by
  unfold State.chunk
  split <;> simp

@[simp] theorem State.snpCntClr_fixed (wide : Bool) (s : State) : (s.snpCntClr).fixed wide = s.fixed wide := by simp [State.snpCntClr]

/-! #### Machine/Arbiters -/

@[simp] theorem State.pwrEvent_fixed (wide : Bool) (s : State) (req kind demand : Nat) :
    (s.pwrEvent req kind demand).fixed wide = s.fixed wide := by
  simp [State.pwrEvent]

@[simp] theorem State.showGrant_fixed (s : State) (i g : Nat) : (s.showGrant i g).fixed false = s.fixed false := by simp [State.showGrant]

@[simp] theorem State.pwrEvaluate_fixed (s : State) : (s.pwrEvaluate).fixed false = s.fixed false := by simp [State.pwrEvaluate]

@[simp] theorem doSetPowerCap_fixed (wide : Bool) (s : State) (x0 x1 : Nat) (p : List Byte) :
    (doSetPowerCap s x0 x1 p).1.fixed wide = s.fixed wide := by
  unfold doSetPowerCap
  split <;> simp

@[simp] theorem State.pendClear_fixed (wide : Bool) (s : State) (i : Nat) (mask : Word) :
    (s.pendClear i mask).fixed wide = s.fixed wide := by
  simp [State.pendClear]

@[simp] theorem State.enWrite_fixed (wide : Bool) (s : State) (i : Nat) (v : Word) : (s.enWrite i v).fixed wide = s.fixed wide := by
  simp [State.enWrite]

/-! #### Machine/Keys -/

@[simp] theorem State.syncKeys_fixed (wide : Bool) (s : State) : (s.syncKeys).fixed wide = s.fixed wide := by simp [State.syncKeys]

@[simp] theorem State.clearSlots_fixed (s : State) : (s.clearSlots).fixed false = s.fixed false := by simp [State.clearSlots]

@[simp] theorem State.rearm_fixed (wide : Bool) (s : State) : (s.rearm).fixed wide = s.fixed wide := by simp [State.rearm]

@[simp] theorem State.keysEvent_fixed (wide : Bool) (s : State) (kind slot opcode : Nat) :
    (s.keysEvent kind slot opcode).fixed wide = s.fixed wide := by
  simp [State.keysEvent]

@[simp] theorem State.keysChanged_fixed (wide : Bool) (s old : State) (opcode : Nat) :
    (s.keysChanged old opcode).fixed wide = s.fixed wide := by
  simp [State.keysChanged]

@[simp] theorem State.sigFail_fixed (wide : Bool) (s : State) (opcode : Nat) : (s.sigFail opcode).1.fixed wide = s.fixed wide := by
  simp [State.sigFail]

@[simp] theorem State.caskEvent_fixed (wide : Bool) (s : State) (slot usage result : Nat) :
    (s.caskEvent slot usage result).fixed wide = s.fixed wide := by
  simp [State.caskEvent]

@[simp] theorem State.caskRefuse_fixed (wide : Bool) (s : State) (slot usage result : Nat) :
    (s.caskRefuse slot usage result).1.fixed wide = s.fixed wide := by
  simp [State.caskRefuse]

@[simp] theorem State.enrol_fixed (s : State) (sid slot : Nat) (c : List Byte) : (s.enrol sid slot c).1.fixed false = s.fixed false := by
  unfold State.enrol
  dsimp only
  repeat' split <;> simp

@[simp] theorem State.caskInto_fixed (s : State) (slot : Nat) (c key : List Byte) :
    (s.caskInto slot c key).fixed false = s.fixed false := by
  simp [State.caskInto]

@[simp] theorem State.caskLoad_fixed (s : State) (given : Nat) (c : List Byte) : (s.caskLoad given c).1.fixed false = s.fixed false := by
  unfold State.caskLoad
  repeat' split
  all_goals simp

@[simp] theorem doSecCaskLoad_fixed (s : State) (sid x0 : Nat) (p : List Byte) :
    (doSecCaskLoad s sid x0 p).1.fixed false = s.fixed false := by
  simp [doSecCaskLoad]

@[simp] theorem doSecCaskUnload_fixed (s : State) (x0 x1 : Nat) (p : List Byte) :
    (doSecCaskUnload s x0 x1 p).1.fixed false = s.fixed false := by
  simp [doSecCaskUnload]

@[simp] theorem State.closeKeyless_fixed (wide : Bool) (s : State) (x0 : Nat) : (s.closeKeyless x0).fixed wide = s.fixed wide := by
  simp [State.closeKeyless]

@[simp] theorem State.secCntClr_fixed (wide : Bool) (s : State) : (s.secCntClr).fixed wide = s.fixed wide := by simp [State.secCntClr]

@[simp] theorem State.syncTamper_fixed (wide : Bool) (s : State) : (s.syncTamper).fixed wide = s.fixed wide := by simp [State.syncTamper]

@[simp] theorem State.session0Back_fixed (wide : Bool) (s : State) : (s.session0Back).fixed wide = s.fixed wide := by
  simp [State.session0Back]

@[simp] theorem State.recoverCnt_fixed (wide : Bool) (s : State) : (s.recoverCnt).fixed wide = s.fixed wide := by simp [State.recoverCnt]

@[simp] theorem State.tamperRest_fixed (wide : Bool) (s : State) (causes before temp time running : Nat) :
    (s.tamperRest causes before temp time running).fixed wide = s.fixed wide := by
  simp [State.tamperRest]

@[simp] theorem State.tamper_fixed (s : State) (k : Nat) : (s.tamper k).fixed false = s.fixed false := by
  unfold State.tamper
  split <;> simp

/-! #### Machine/Cellar -/

@[simp] theorem State.syncCbk_fixed (wide : Bool) (s : State) : (s.syncCbk).fixed wide = s.fixed wide := by simp [State.syncCbk]

@[simp] theorem State.cbkErr_fixed (wide : Bool) (s : State) (kind skipped n : Nat) :
    (s.cbkErr kind skipped n).fixed wide = s.fixed wide := by
  simp [State.cbkErr]

@[simp] theorem State.newSector_fixed (wide : Bool) (s : State) (n : Nat) : (s.newSector n).fixed wide = s.fixed wide := by
  simp [State.newSector]

@[simp] theorem State.circItem_fixed (wide : Bool) (s : State) (n : Nat) (i : NorItem) (len : Nat) :
    (s.circItem n i len).fixed wide = s.fixed wide := by
  simp [State.circItem]

@[simp] theorem State.permItem_fixed (wide : Bool) (s : State) (n : Nat) (bytes : List Byte) :
    (s.permItem n bytes).fixed wide = s.fixed wide := by
  simp [State.permItem]

@[simp] theorem State.permEvent_fixed (wide : Bool) (s : State) (before : Nat) : (s.permEvent before).fixed wide = s.fixed wide := by
  simp [State.permEvent]

@[simp] theorem State.writeRecord_fixed (wide : Bool) (s : State) (n : Nat) (r : Rec) (fails : Nat) :
    (s.writeRecord n r fails).fixed wide = s.fixed wide := by
  unfold State.writeRecord
  split <;> simp

@[simp] theorem State.arrive_fixed (wide : Bool) (s : State) (r : Rec) (fails : Nat) : (s.arrive r fails).fixed wide = s.fixed wide := by
  simp [State.arrive]

@[simp] theorem State.thaw_fixed (wide : Bool) (s : State) : (s.thaw).fixed wide = s.fixed wide := by simp [State.thaw]

@[simp] theorem State.cbkFlush_fixed (wide : Bool) (s : State) : (s.cbkFlush).fixed wide = s.fixed wide := by simp [State.cbkFlush]

@[simp] theorem State.cbkCntClr_fixed (wide : Bool) (s : State) : (s.cbkCntClr).fixed wide = s.fixed wide := by simp [State.cbkCntClr]

@[simp] theorem doCbkFreeze_fixed (wide : Bool) (s : State) (x0 x1 : Nat) (p : List Byte) :
    (doCbkFreeze s x0 x1 p).1.fixed wide = s.fixed wide := by
  simp [doCbkFreeze]

@[simp] theorem doCbkThaw_fixed (wide : Bool) (s : State) (x0 x1 : Nat) (p : List Byte) :
    (doCbkThaw s x0 x1 p).1.fixed wide = s.fixed wide := by
  simp [doCbkThaw]

@[simp] theorem State.damage_fixed (wide : Bool) (s : State) (e : CbkEntry) : (s.damage e).fixed wide = s.fixed wide := by
  unfold State.damage
  split <;> simp

@[simp] theorem State.found_fixed (wide : Bool) (s : State) (permanent : Bool) (es : List CbkEntry) :
    (s.found permanent es).fixed wide = s.fixed wide := by
  simp [State.found]

@[simp] theorem doCbkRead_fixed (wide : Bool) (s : State) (x0 x1 : Nat) (p : List Byte) :
    (doCbkRead s x0 x1 p).1.fixed wide = s.fixed wide := by
  simp [doCbkRead]

@[simp] theorem doCbkClear_fixed (wide : Bool) (s : State) (sid seq : Nat) (p : List Byte) :
    (doCbkClear s sid seq p).1.fixed wide = s.fixed wide := by
  simp [doCbkClear]

@[simp] theorem State.cbkStart_fixed (wide : Bool) (s : State) (torn : Nat) : (s.cbkStart torn).fixed wide = s.fixed wide := by
  simp [State.cbkStart]

/-! #### Machine/Images -/

@[simp] theorem State.setStage_fixed (wide : Bool) (s : State) (stage result : Nat) :
    (s.setStage stage result).fixed wide = s.fixed wide := by
  simp [State.setStage]

@[simp] theorem State.setBank_fixed (wide : Bool) (s : State) (b : Nat) (i : Option BankImage) :
    (s.setBank b i).fixed wide = s.fixed wide := by
  simp [State.setBank]

@[simp] theorem State.syncBank_fixed (wide : Bool) (s : State) : (s.syncBank).fixed wide = s.fixed wide := by simp [State.syncBank]

@[simp] theorem State.imageEvent_fixed (wide : Bool) (s : State) (x : Transfer) (result : Nat) :
    (s.imageEvent x result).fixed wide = s.fixed wide := by
  simp [State.imageEvent]

@[simp] theorem State.transferFail_fixed (wide : Bool) (s : State) (result : Nat) : (s.transferFail result).fixed wide = s.fixed wide := by
  unfold State.transferFail
  split <;> simp

@[simp] theorem State.setXfer_fixed (wide : Bool) (s : State) (x : Transfer) : (s.setXfer x).fixed wide = s.fixed wide := by
  simp [State.setXfer]

@[simp] theorem State.openXfer_fixed (wide : Bool) (s : State) (x : Transfer) : (s.openXfer x).fixed wide = s.fixed wide := by
  simp [State.openXfer]

@[simp] theorem State.setRelay_fixed (wide : Bool) (s : State) (n : Nat) (r : Relay) : (s.setRelay n r).fixed wide = s.fixed wide := by
  simp [State.setRelay]

@[simp] theorem State.sendChunks_fixed (wide : Bool) (s : State) (n first count : Nat) :
    (s.sendChunks n first count).fixed wide = s.fixed wide := by
  simp [State.sendChunks]

@[simp] theorem State.relayEvent_fixed (wide : Bool) (s : State) (n result : Nat) : (s.relayEvent n result).fixed wide = s.fixed wide := by
  simp [State.relayEvent]

@[simp] theorem State.relayEnd_fixed (wide : Bool) (s : State) (n result : Nat) : (s.relayEnd n result).fixed wide = s.fixed wide := by
  simp [State.relayEnd]

@[simp] theorem State.startRelays_fixed (wide : Bool) (s : State) (x : Transfer) : (s.startRelays x).fixed wide = s.fixed wide := by
  simp [State.startRelays]

@[simp] theorem State.relayLost_fixed (wide : Bool) (s : State) (n : Nat) : (s.relayLost n).fixed wide = s.fixed wide := by
  simp [State.relayLost]

@[simp] theorem doUpdImageBegin_fixed (wide : Bool) (s : State) (x0 x1 : Nat) (p : List Byte) :
    (doUpdImageBegin s x0 x1 p).1.fixed wide = s.fixed wide := by
  simp [doUpdImageBegin]

@[simp] theorem doUpdImageData_fixed (wide : Bool) (s : State) (x0 x1 : Nat) (p : List Byte) :
    (doUpdImageData s x0 x1 p).1.fixed wide = s.fixed wide := by
  unfold doUpdImageData
  split <;> simp

@[simp] theorem doUpdImageEnd_fixed (wide : Bool) (s : State) (x0 x1 : Nat) (p : List Byte) :
    (doUpdImageEnd s x0 x1 p).1.fixed wide = s.fixed wide := by
  unfold doUpdImageEnd
  split <;> simp

@[simp] theorem State.xferTimeout_fixed (wide : Bool) (s : State) (chain : Bool) : (s.xferTimeout chain).fixed wide = s.fixed wide := by
  unfold State.xferTimeout
  split <;> simp

@[simp] theorem State.answerRelay_fixed (wide : Bool) (s : State) (x : Transfer) (result : Nat) :
    (s.answerRelay x result).fixed wide = s.fixed wide := by
  simp [State.answerRelay]

@[simp] theorem State.updAbort_fixed (wide : Bool) (s : State) : (s.updAbort).fixed wide = s.fixed wide := by simp [State.updAbort]

@[simp] theorem State.updCntClr_fixed (wide : Bool) (s : State) : (s.updCntClr).fixed wide = s.fixed wide := by simp [State.updCntClr]

@[simp] theorem State.imageData_fixed (wide : Bool) (s : State) (n : Nat) (p : List Byte) :
    (s.imageData n p).fixed wide = s.fixed wide := by
  unfold State.imageData
  split <;> simp

@[simp] theorem State.imageStatus_fixed (wide : Bool) (s : State) (n : Nat) (p : List Byte) :
    (s.imageStatus n p).fixed wide = s.fixed wide := by
  unfold State.imageStatus
  dsimp only
  repeat' split <;> simp

@[simp] theorem State.imageIn_fixed (wide : Bool) (s : State) (n : Nat) (p : List Byte) : (s.imageIn n p).fixed wide = s.fixed wide := by
  simp [State.imageIn]

@[simp] theorem State.decantEvent_fixed (wide : Bool) (s : State) (kind reason schedId before after : Nat) :
    (s.decantEvent kind reason schedId before after).fixed wide = s.fixed wide := by
  simp [State.decantEvent]

@[simp] theorem State.setSched_fixed (wide : Bool) (s : State) (x : Option Schedule) : (s.setSched x).fixed wide = s.fixed wide := by
  simp [State.setSched]

@[simp] theorem State.schedEvent_fixed (wide : Bool) (s : State) (x : Schedule) (kind reason : Nat) :
    (s.schedEvent x kind reason).fixed wide = s.fixed wide := by
  simp [State.schedEvent]

@[simp] theorem State.schedEnd_fixed (wide : Bool) (s : State) (kind reason : Nat) :
    (s.schedEnd kind reason).fixed wide = s.fixed wide := by
  unfold State.schedEnd
  split <;> simp

@[simp] theorem State.ethBoth_fixed (wide : Bool) (s : State) (f : List Byte) : (s.ethBoth f).fixed wide = s.fixed wide := by
  simp [State.ethBoth]

@[simp] theorem State.schedAbort_fixed (wide : Bool) (s : State) (reason : Nat) : (s.schedAbort reason).fixed wide = s.fixed wide := by
  unfold State.schedAbort
  split <;> simp

@[simp] theorem State.neighbourLost_fixed (wide : Bool) (s : State) (n : Nat) : (s.neighbourLost n).fixed wide = s.fixed wide := by
  unfold State.neighbourLost
  split <;> simp

@[simp] theorem doUpdDecantSchedule_fixed (wide : Bool) (s : State) (x0 x1 : Nat) (p : List Byte) :
    (doUpdDecantSchedule s x0 x1 p).1.fixed wide = s.fixed wide := by
  unfold doUpdDecantSchedule
  split <;> simp

@[simp] theorem State.decantIn_fixed (wide : Bool) (s : State) (n : Nat) (p : List Byte) :
    (s.decantIn n p).fixed wide = s.fixed wide := by
  unfold State.decantIn
  dsimp only
  split
  · rfl
  · split
    · split <;> simp
    · split
      · simp
      · split <;> simp
    · split
      · simp
      · split <;> simp
    · split <;> simp
    · split
      · split <;> simp
      · simp
    · simp

@[simp] theorem doUpdDecant_fixed (wide : Bool) (s : State) (x0 x1 : Nat) (p : List Byte) :
    (doUpdDecant s x0 x1 p).1.fixed wide = s.fixed wide := by
  simp [doUpdDecant]

@[simp] theorem doUpdGetState_fixed (wide : Bool) (s : State) (x0 x1 : Nat) (p : List Byte) :
    (doUpdGetState s x0 x1 p).1.fixed wide = s.fixed wide := by
  simp [doUpdGetState]

/-! #### Machine/Ethernet -/

@[simp] theorem State.setEp_fixed (wide : Bool) (s : State) (n : Nat) (p : EthPort) : (s.setEp n p).fixed wide = s.fixed wide := by
  simp [State.setEp]

@[simp] theorem State.linkEvent_fixed (wide : Bool) (s : State) (n : Nat) : (s.linkEvent n).fixed wide = s.fixed wide := by
  simp [State.linkEvent]

@[simp] theorem State.syncLink_fixed (wide : Bool) (s : State) : (s.syncLink).fixed wide = s.fixed wide := by simp [State.syncLink]

@[simp] theorem State.startVerify_fixed (wide : Bool) (s : State) (n : Nat) : (s.startVerify n).fixed wide = s.fixed wide := by
  simp [State.startVerify]

@[simp] theorem State.restartPdelay_fixed (wide : Bool) (s : State) (n : Nat) : (s.restartPdelay n).fixed wide = s.fixed wide := by
  simp [State.restartPdelay]

@[simp] theorem State.askGateway_fixed (wide : Bool) (s : State) (n : Nat) : (s.askGateway n).fixed wide = s.fixed wide := by
  simp [State.askGateway]

@[simp] theorem State.linkDown_fixed (wide : Bool) (s : State) (n : Nat) : (s.linkDown n).fixed wide = s.fixed wide := by
  simp [State.linkDown]

@[simp] theorem State.setTable_fixed (wide : Bool) (s : State) (t : List Learned) : (s.setTable t).fixed wide = s.fixed wide := by
  simp [State.setTable]

@[simp] theorem State.learn_fixed (wide : Bool) (s : State) (n mac : Nat) : (s.learn n mac).fixed wide = s.fixed wide := by
  simp [State.learn]

@[simp] theorem State.syncPause_fixed (wide : Bool) (s : State) (n : Nat) : (s.syncPause n).fixed wide = s.fixed wide := by
  simp [State.syncPause]

@[simp] theorem State.pauseIn_fixed (wide : Bool) (s : State) (n quanta : Nat) : (s.pauseIn n quanta).fixed wide = s.fixed wide := by
  simp [State.pauseIn]

@[simp] theorem State.pauseOut_fixed (wide : Bool) (s : State) (n quanta : Nat) : (s.pauseOut n quanta).fixed wide = s.fixed wide := by
  simp [State.pauseOut]

@[simp] theorem State.tcFrame_fixed (wide : Bool) (s : State) (n : Nat) (x : EthIn) : (s.tcFrame n x).1.fixed wide = s.fixed wide := by
  unfold State.tcFrame
  dsimp only
  repeat' split <;> simp

@[simp] theorem State.transit_fixed (wide : Bool) (s : State) (n : Nat) (x : EthIn) : (s.transit n x).fixed wide = s.fixed wide := by
  simp [State.transit]

@[simp] theorem State.arpIn_fixed (wide : Bool) (s : State) (n : Nat) (f : List Byte) : (s.arpIn n f).fixed wide = s.fixed wide := by
  unfold State.arpIn
  repeat' split
  all_goals simp

@[simp] theorem State.icmpIn_fixed (wide : Bool) (s : State) (n : Nat) (f p : List Byte) : (s.icmpIn n f p).fixed wide = s.fixed wide := by
  simp [State.icmpIn]

@[simp] theorem State.chainEvent_fixed (wide : Bool) (s : State) (n cause : Nat) : (s.chainEvent n cause).fixed wide = s.fixed wide := by
  simp [State.chainEvent]

@[simp] theorem State.dupNet_fixed (wide : Bool) (s : State) (n : Nat) : (s.dupNet n).fixed wide = s.fixed wide := by simp [State.dupNet]

@[simp] theorem State.helloIn_fixed (wide : Bool) (s : State) (n : Nat) (p : List Byte) : (s.helloIn n p).fixed wide = s.fixed wide := by
  simp [State.helloIn]

@[simp] theorem State.discoverIn_fixed (wide : Bool) (s : State) (n : Nat) (p : List Byte) :
    (s.discoverIn n p).fixed wide = s.fixed wide := by
  simp [State.discoverIn]

@[simp] theorem State.discoverReplyIn_fixed (wide : Bool) (s : State) (n : Nat) (p : List Byte) :
    (s.discoverReplyIn n p).fixed wide = s.fixed wide := by
  simp [State.discoverReplyIn]

@[simp] theorem doChainDiscover_fixed (wide : Bool) (s : State) (sid seq : Nat) (p : List Byte) :
    (doChainDiscover s sid seq p).1.fixed wide = s.fixed wide := by
  simp [doChainDiscover]

@[simp] theorem State.discoverCollectEnd_fixed (wide : Bool) (s : State) : (s.discoverCollectEnd).fixed wide = s.fixed wide := by
  unfold State.discoverCollectEnd
  split <;> simp

@[simp] theorem State.mdioWrite_fixed (wide : Bool) (s : State) (v : Word) : (s.mdioWrite v).fixed wide = s.fixed wide := by
  simp [State.mdioWrite]

@[simp] theorem State.ethCntClr_fixed (wide : Bool) (s : State) : (s.ethCntClr).fixed wide = s.fixed wide := by simp [State.ethCntClr]

@[simp] theorem State.portConfig_fixed (wide : Bool) (s : State) (n : Nat) (p : List Byte) :
    (s.portConfig n p).fixed wide = s.fixed wide := by
  simp [State.portConfig]

@[simp] theorem doEthPortConfig_fixed (wide : Bool) (s : State) (x0 x1 : Nat) (p : List Byte) :
    (doEthPortConfig s x0 x1 p).1.fixed wide = s.fixed wide := by
  unfold doEthPortConfig
  dsimp only
  repeat' split
  all_goals simp only [↓State.fixed_with, ↓refuse_fixed, ↓State.portConfig_fixed, ↓okWith_fixed,
    ↓State.setFld_fixed, ↓State.saveRegs_fixed, ↓okay_fixed, ↓State.askGateway_fixed]

/-! #### Machine/EngineReset -/

@[simp] theorem State.engineCleared_fixed (wide : Bool) (s : State) (id : Nat) : (s.engineCleared id).fixed wide = s.fixed wide := by
  unfold State.engineCleared
  split <;> simp

@[simp] theorem State.engineReset_fixed (s : State) (id : Nat) : (s.engineReset id).fixed false = s.fixed false := by
  simp [State.engineReset]

@[simp] theorem doResetEngine_fixed (s : State) (x0 x1 : Nat) (p : List Byte) :
    (doResetEngine s x0 x1 p).1.fixed false = s.fixed false := by
  simp [doResetEngine]

@[simp] theorem State.switchResetDue_fixed (s : State) : (s.switchResetDue).fixed false = s.fixed false := by simp [State.switchResetDue]

/-! #### Machine/FrontEnd -/

@[simp] theorem State.sampleChannels_fixed (wide : Bool) (s : State) (p : Nat) (x : MtrIn) :
    (s.sampleChannels p x).fixed wide = s.fixed wide := by
  simp [State.sampleChannels]

/-! #### Machine/Metering -/

@[simp] theorem State.meterSample_fixed (wide : Bool) (s : State) (p : Nat) : (s.meterSample p).fixed wide = s.fixed wide := by
  simp [State.meterSample]

@[simp] theorem State.pulseAdd_fixed (wide : Bool) (s : State) (k e : Nat) : (s.pulseAdd k e).fixed wide = s.fixed wide := by
  simp [State.pulseAdd]

@[simp] theorem State.pointSecond_fixed (wide : Bool) (s : State) (p freq : Nat) : (s.pointSecond p freq).fixed wide = s.fixed wide := by
  simp [State.pointSecond]

@[simp] theorem State.apparentPulse_fixed (wide : Bool) (s : State) (pts : List MtrPoint) (k : Nat) :
    (s.apparentPulse pts k).fixed wide = s.fixed wide := by
  simp [State.apparentPulse]

@[simp] theorem State.meterInput_fixed (wide : Bool) (s : State) (watts : Nat) : (s.meterInput watts).fixed wide = s.fixed wide := by
  simp [State.meterInput]

@[simp] theorem State.mtrFault_fixed (wide : Bool) (s : State) (p cause : Nat) (on : Bool) (mask : Nat) :
    (s.mtrFault p cause on mask).fixed wide = s.fixed wide := by
  simp [State.mtrFault]

@[simp] theorem State.demClr_fixed (wide : Bool) (s : State) : (s.demClr).fixed wide = s.fixed wide := by simp [State.demClr]

@[simp] theorem State.mtrCntClr_fixed (wide : Bool) (s : State) : (s.mtrCntClr).fixed wide = s.fixed wide := by simp [State.mtrCntClr]

@[simp] theorem State.periodicCopy_fixed (wide : Bool) (s : State) (good : Bool) : (s.periodicCopy good).fixed wide = s.fixed wide := by
  simp [State.periodicCopy]

@[simp] theorem State.syncSeal_fixed (wide : Bool) (s : State) : (s.syncSeal).fixed wide = s.fixed wide := by simp [State.syncSeal]

@[simp] theorem State.calCheck_fixed (wide : Bool) (s : State) : (s.calCheck).fixed wide = s.fixed wide := by simp [State.calCheck]

@[simp] theorem State.mtrChanged_fixed (wide : Bool) (s old : State) : (s.mtrChanged old).fixed wide = s.fixed wide := by
  simp [State.mtrChanged]

@[simp] theorem doMtrConfig_fixed (wide : Bool) (s : State) (x0 x1 : Nat) (p : List Byte) :
    (doMtrConfig s x0 x1 p).1.fixed wide = s.fixed wide := by
  simp [doMtrConfig]

@[simp] theorem doMtrGetReadings_fixed (wide : Bool) (s : State) (x0 x1 : Nat) (p : List Byte) :
    (doMtrGetReadings s x0 x1 p).1.fixed wide = s.fixed wide := by
  simp [doMtrGetReadings]

@[simp] theorem doMtrGetHarmonics_fixed (wide : Bool) (s : State) (x0 x1 : Nat) (p : List Byte) :
    (doMtrGetHarmonics s x0 x1 p).1.fixed wide = s.fixed wide := by
  simp [doMtrGetHarmonics]

@[simp] theorem doMtrSetCap_fixed (wide : Bool) (s : State) (x0 x1 : Nat) (p : List Byte) :
    (doMtrSetCap s x0 x1 p).1.fixed wide = s.fixed wide := by
  simp [doMtrSetCap]

/-! #### Machine/Ptp -/

@[simp] theorem State.ptpSend_fixed (wide : Bool) (s : State) (n : Nat) (peer : Bool) (m : List Byte) :
    (s.ptpSend n peer m).fixed wide = s.fixed wide := by
  simp [State.ptpSend]

@[simp] theorem State.linkDelay_fixed (wide : Bool) (s : State) (n : Nat) (ps : Int) : (s.linkDelay n ps).fixed wide = s.fixed wide := by
  simp [State.linkDelay]

@[simp] theorem State.pdelayReqIn_fixed (wide : Bool) (s : State) (n : Nat) (x : EthIn) (o : Nat) :
    (s.pdelayReqIn n x o).fixed wide = s.fixed wide := by
  simp [State.pdelayReqIn]

@[simp] theorem State.pdelayRespIn_fixed (wide : Bool) (s : State) (n : Nat) (x : EthIn) (o : Nat) :
    (s.pdelayRespIn n x o).fixed wide = s.fixed wide := by
  unfold State.pdelayRespIn
  dsimp only
  repeat' split
  all_goals simp only [↓State.setEp_fixed, ↓State.linkDelay_fixed]

@[simp] theorem State.setPtpState_fixed (wide : Bool) (s : State) (st slavePort : Nat) :
    (s.setPtpState st slavePort).fixed wide = s.fixed wide := by
  simp [State.setPtpState]

@[simp] theorem State.ptpStart_fixed (wide : Bool) (s : State) : (s.ptpStart).fixed wide = s.fixed wide := by simp [State.ptpStart]

@[simp] theorem State.decidePtp_fixed (wide : Bool) (s : State) (a : Announce) : (s.decidePtp a).fixed wide = s.fixed wide := by
  simp [State.decidePtp]

@[simp] theorem State.announceIn_fixed (wide : Bool) (s : State) (n : Nat) (f : List Byte) (o : Nat) :
    (s.announceIn n f o).fixed wide = s.fixed wide := by
  simp [State.announceIn]

@[simp] theorem doPtpConfig_fixed (wide : Bool) (s : State) (x0 x1 : Nat) (p : List Byte) :
    (doPtpConfig s x0 x1 p).1.fixed wide = s.fixed wide := by
  simp [doPtpConfig]

@[simp] theorem State.syncOffset_fixed (wide : Bool) (s : State) (t1 t2 : Int) : (s.syncOffset t1 t2).fixed wide = s.fixed wide := by
  simp [State.syncOffset]

@[simp] theorem State.syncIn_fixed (wide : Bool) (s : State) (n : Nat) (x : EthIn) (o : Nat) :
    (s.syncIn n x o).fixed wide = s.fixed wide := by
  simp [State.syncIn]

@[simp] theorem State.followUpIn_fixed (wide : Bool) (s : State) (n : Nat) (x : EthIn) (o : Nat) :
    (s.followUpIn n x o).fixed wide = s.fixed wide := by
  unfold State.followUpIn
  repeat' split
  all_goals simp

@[simp] theorem State.delayRespIn_fixed (wide : Bool) (s : State) (n : Nat) (x : EthIn) (o : Nat) :
    (s.delayRespIn n x o).fixed wide = s.fixed wide := by
  unfold State.delayRespIn
  dsimp only
  repeat' split
  all_goals simp only [↓State.fixed_with, ↓State.setFld_fixed]

@[simp] theorem State.delayReqIn_fixed (wide : Bool) (s : State) (n : Nat) (x : EthIn) (o : Nat) :
    (s.delayReqIn n x o).fixed wide = s.fixed wide := by
  simp [State.delayReqIn]

@[simp] theorem State.ptpIn_fixed (wide : Bool) (s : State) (n : Nat) (x : EthIn) (tr o : Nat) :
    (s.ptpIn n x tr o).fixed wide = s.fixed wide := by
  unfold State.ptpIn
  repeat' split
  all_goals simp

/-! #### Machine/Radio -/

@[simp] theorem State.syncRad_fixed (wide : Bool) (s : State) : (s.syncRad).fixed wide = s.fixed wide := by simp [State.syncRad]

@[simp] theorem State.snapGone_fixed (wide : Bool) (s : State) (a : Nat) : (s.snapGone a).fixed wide = s.fixed wide := by
  simp [State.snapGone]

@[simp] theorem State.unbind_fixed (wide : Bool) (s : State) (a : Nat) : (s.unbind a).fixed wide = s.fixed wide := by simp [State.unbind]

@[simp] theorem State.loseRover_fixed (wide : Bool) (s : State) (a : Nat) : (s.loseRover a).fixed wide = s.fixed wide := by
  simp [State.loseRover]

@[simp] theorem State.jitter_fixed (wide : Bool) (s : State) (n : Nat) : (s.jitter n).2.fixed wide = s.fixed wide := by simp [State.jitter]

@[simp] theorem State.radioSend_fixed (wide : Bool) (s : State) (port slotNo ftype slot sfn ttl : Nat) (body : List Byte) :
    (s.radioSend port slotNo ftype slot sfn ttl body).fixed wide = s.fixed wide := by
  simp [State.radioSend]

@[simp] theorem State.beacon_fixed (wide : Bool) (s : State) (f t0 n : Nat) : (s.beacon f t0 n).fixed wide = s.fixed wide := by
  simp [State.beacon]

@[simp] theorem State.superframeStart_fixed (wide : Bool) (s : State) : s.superframeStart.fixed wide = s.fixed wide := by
  unfold State.superframeStart
  dsimp only
  rw [State.syncRad_fixed, State.foldl_fixed _ _ (by simp), State.foldl_fixed]
  · simp only [↓State.foldl_fixed, ↓State.setBound_fixed, ↓State.fixed_with, ↓State.ttbSuperframe_fixed, ↓State.fixed_ite, implies_true,
    ite_self]
  · intro t a
    split <;> simp

@[simp] theorem State.assigned_fixed (wide : Bool) (s : State) (a : Nat) : (s.assigned a).fixed wide = s.fixed wide := by
  simp [State.assigned]

@[simp] theorem State.downlink_fixed (wide : Bool) (s : State) (a f : Nat) : (s.downlink a f).fixed wide = s.fixed wide := by
  unfold State.downlink
  dsimp only
  split <;> simp

@[simp] theorem State.upToLanes_fixed (wide : Bool) (s : State) (a : Nat) (p : List Byte) :
    (s.upToLanes a p).fixed wide = s.fixed wide := by
  simp [State.upToLanes]

@[simp] theorem State.upToMac_fixed (wide : Bool) (s : State) (n : Nat) (fr : RxFrame) (rxts : Nat) (rssi : Int) (current : Bool) :
    (s.upToMac n fr rxts rssi current).fixed wide = s.fixed wide := by
  simp [State.upToMac]

@[simp] theorem State.tableEvent_fixed (wide : Bool) (s : State) (ver eff n kind : Nat) :
    (s.tableEvent ver eff n kind).fixed wide = s.fixed wide := by
  simp [State.tableEvent]

@[simp] theorem State.assess_fixed (wide : Bool) (s : State) (n : Nat) (back : ReadBack) : (s.assess n back).fixed wide = s.fixed wide := by
  unfold State.assess
  split <;> simp

@[simp] theorem State.radCntClr_fixed (wide : Bool) (s : State) : (s.radCntClr).fixed wide = s.fixed wide := by simp [State.radCntClr]

@[simp] theorem doRadPortConfig_fixed (wide : Bool) (s : State) (x0 x1 : Nat) (p : List Byte) :
    (doRadPortConfig s x0 x1 p).1.fixed wide = s.fixed wide := by
  simp [doRadPortConfig]

@[simp] theorem doRadSuperframeSet_fixed (wide : Bool) (s : State) (x0 x1 : Nat) (p : List Byte) :
    (doRadSuperframeSet s x0 x1 p).1.fixed wide = s.fixed wide := by
  unfold doRadSuperframeSet
  dsimp only
  repeat' split <;> simp

@[simp] theorem State.pendRuns_fixed (wide : Bool) (s : State) (a : Nat) (r : Option ((Nat × Nat) × (Nat × Nat))) :
    (s.pendRuns a r).fixed wide = s.fixed wide := by
  unfold State.pendRuns
  split <;> simp

@[simp] theorem State.newRover_fixed (wide : Bool) (s : State) (a : Nat) : (s.newRover a).fixed wide = s.fixed wide := by
  simp [State.newRover]

@[simp] theorem doRadRoverAssign_fixed (wide : Bool) (s : State) (x0 x1 : Nat) (p : List Byte) :
    (doRadRoverAssign s x0 x1 p).1.fixed wide = s.fixed wide := by
  unfold doRadRoverAssign
  dsimp only
  repeat' split
  all_goals simp only [↓withLen_fixed, ↓okWith_fixed,
    ↓State.syncRad_fixed, ↓refuse_fixed, ↓State.setBound_fixed, ↓State.pendRuns_fixed, ↓State.newRover_fixed]

@[simp] theorem doRadRoverEvict_fixed (wide : Bool) (s : State) (x0 x1 : Nat) (p : List Byte) :
    (doRadRoverEvict s x0 x1 p).1.fixed wide = s.fixed wide := by
  simp [doRadRoverEvict]

@[simp] theorem doRadGetLink_fixed (wide : Bool) (s : State) (x0 x1 : Nat) (p : List Byte) :
    (doRadGetLink s x0 x1 p).1.fixed wide = s.fixed wide := by
  simp [doRadGetLink]

/-! #### Machine/Restart -/

@[simp] theorem State.syncPwr_fixed (wide : Bool) (s : State) : (s.syncPwr).fixed wide = s.fixed wide := by simp [State.syncPwr]

@[simp] theorem State.hubReset_fixed (s : State) (soft : Bool) (kind : Nat) : (s.hubReset soft kind).fixed false = s.fixed false := by
  simp [State.hubReset]

@[simp] theorem State.writeBoot_fixed (wide : Bool) (s : State) (b : BootRec) : (s.writeBoot b).fixed wide = s.fixed wide := by
  simp [State.writeBoot]

@[simp] theorem State.fellBack_fixed (wide : Bool) (s : State) : (s.fellBack).fixed wide = s.fixed wide := by simp [State.fellBack]

@[simp] theorem State.formatHub_fixed (wide : Bool) (s : State) : (s.formatHub).fixed wide = s.fixed wide := by simp [State.formatHub]

@[simp] theorem State.formatNor_fixed (wide : Bool) (s : State) : (s.formatNor).fixed wide = s.fixed wide := by simp [State.formatNor]

@[simp] theorem State.confirmImage_fixed (wide : Bool) (s : State) : (s.confirmImage).fixed wide = s.fixed wide := by
  simp [State.confirmImage]

@[simp] theorem State.loadHub_fixed (wide : Bool) (s : State) (soft : Bool) : (s.loadHub soft).fixed wide = s.fixed wide := by
  simp [State.loadHub]

@[simp] theorem State.loadVbat_fixed (wide : Bool) (s : State) : (s.loadVbat).fixed wide = s.fixed wide := by
  unfold State.loadVbat
  split <;> simp only [↓State.setFld_fixed, ↓State.recoverCnt_fixed]

@[simp] theorem State.showImage_fixed (wide : Bool) (s : State) (b : Nat) : (s.showImage b).fixed wide = s.fixed wide := by
  simp [State.showImage]

@[simp] theorem State.startRecords_fixed (s : State) : (s.startRecords).fixed false = s.fixed false := by
  unfold State.startRecords
  split <;> simp

@[simp] theorem State.hubRuns_fixed (s : State) : s.hubRuns.fixed false = s.fixed false := by
  simp only [State.hubRuns, ↓State.fixed_ite, ↓State.sourceOn_fixed, ↓State.laneReset_fixed, ↓State.loadHubSteps_fixed,
   ↓State.syncSnp_fixed, ↓State.syncRad_fixed, ↓State.ptpStart_fixed, ↓State.skyStart_fixed, ↓State.syncIrq_fixed, ↓State.foldl_fixed,
     ↓State.syncSess_fixed,↓State.syncCbk_fixed,↓State.syncStop_fixed,↓State.syncTamper_fixed,
   ↓State.syncKeys_fixed, ↓State.syncPwr_fixed, ↓State.setFld_fixed, ↓State.stopOut_fixed,
     ↓State.fixed_false_with,implies_true, ite_self]

@[simp] theorem State.hubStart_fixed (s : State) (ok0 ok1 : Bool) (torn : Nat) : (s.hubStart ok0 ok1 torn).fixed false = s.fixed false := by
  unfold State.hubStart
  split <;> simp

@[simp] theorem State.decant_fixed (s : State) (schedId : Nat) : (s.decant schedId).fixed false = s.fixed false := by simp [State.decant]

/-! #### Machine/Wake -/

@[simp] theorem State.lanesResume_fixed (s : State) : (s.lanesResume).fixed false = s.fixed false := by simp [State.lanesResume]

@[simp] theorem State.radioWake_fixed (wide : Bool) (s : State) : (s.radioWake).fixed wide = s.fixed wide := by simp [State.radioWake]

@[simp] theorem State.tamperOwed_fixed (s : State) : (s.tamperOwed).fixed false = s.fixed false := by simp [State.tamperOwed]

@[simp] theorem State.wakeExit_fixed (s : State) : (s.wakeExit).fixed false = s.fixed false := by simp [State.wakeExit]

@[simp] theorem State.wakeBy_fixed (s : State) (k : Nat) : (s.wakeBy k).fixed false = s.fixed false := by simp [State.wakeBy]

/-! #### Machine/Power -/

@[simp] theorem State.warnEvent_fixed (wide : Bool) (s : State) (kind mv us : Nat) :
    (s.warnEvent kind mv us).fixed wide = s.fixed wide := by
  simp [State.warnEvent]

@[simp] theorem State.atWarn_fixed (s : State) : (s.atWarn).fixed false = s.fixed false := by simp [State.atWarn]

@[simp] theorem State.pwrCntClr_fixed (wide : Bool) (s : State) : (s.pwrCntClr).fixed wide = s.fixed wide := by simp [State.pwrCntClr]

@[simp] theorem State.hubRst_fixed (wide : Bool) (s : State) : (s.hubRst).fixed wide = s.fixed wide := by simp [State.hubRst]

@[simp] theorem State.rstDue_fixed (s : State) : (s.rstDue).fixed false = s.fixed false := by simp [State.rstDue]

@[simp] theorem doSetPowerState_fixed (wide : Bool) (s : State) (x0 x1 : Nat) (p : List Byte) :
    (doSetPowerState s x0 x1 p).1.fixed wide = s.fixed wide := by
  unfold doSetPowerState
  dsimp only
  repeat' split
  all_goals simp only [↓State.fixed_with, ↓withLen_fixed, ↓refuse_fixed,
    ↓State.setFld_fixed, ↓State.norStore_fixed, ↓okWith_fixed, ↓State.syncPwr_fixed, ↓State.raise_fixed]

@[simp] theorem State.entryBegin_fixed (wide : Bool) (s : State) : (s.entryBegin).fixed wide = s.fixed wide := by simp [State.entryBegin]

@[simp] theorem State.portSleep_fixed (wide : Bool) (s : State) (n : Nat) : (s.portSleep n).fixed wide = s.fixed wide := by
  simp [State.portSleep]

@[simp] theorem doGetStatus_fixed (wide : Bool) (s : State) (x0 x1 : Nat) (p : List Byte) :
    (doGetStatus s x0 x1 p).1.fixed wide = s.fixed wide := by
  simp [doGetStatus]

/-! #### Machine/Scheduler -/

@[simp] theorem State.syncSch_fixed (wide : Bool) (s : State) : (s.syncSch).fixed wide = s.fixed wide := by simp [State.syncSch]

@[simp] theorem State.rejectItem_fixed (wide : Bool) (s : State) (flow q : Nat) : (s.rejectItem flow q).fixed wide = s.fixed wide := by
  simp [State.rejectItem]

@[simp] theorem State.rejectQueued_fixed (wide : Bool) (s : State) : (s.rejectQueued).fixed wide = s.fixed wide := by
  simp [State.rejectQueued]

@[simp] theorem State.atomicEffect_fixed (wide : Bool) (s : State) : (s.atomicEffect).fixed wide = s.fixed wide := by
  simp [State.atomicEffect]

@[simp] theorem State.runSch_fixed (s : State) : (s.runSch).fixed false = s.fixed false := by simp [State.runSch]

@[simp] theorem State.atomicWritten_fixed (wide : Bool) (s : State) : (s.atomicWritten).fixed wide = s.fixed wide := by
  simp [State.atomicWritten]

@[simp] theorem State.schCntClr_fixed (wide : Bool) (s : State) : (s.schCntClr).fixed wide = s.fixed wide := by simp [State.schCntClr]

/-! #### Machine/Stop -/

@[simp] theorem State.syncDiff_fixed (wide : Bool) (s : State) : (s.syncDiff).fixed wide = s.fixed wide := by simp [State.syncDiff]

@[simp] theorem State.setInput_fixed (wide : Bool) (s : State) (k : Fin 2) (active : Bool) :
    (s.setInput k active).fixed wide = s.fixed wide := by
  simp [State.setInput]

@[simp] theorem State.stopFault_fixed (wide : Bool) (s : State) (cause : Nat) : (s.stopFault cause).fixed wide = s.fixed wide := by
  simp [State.stopFault]

@[simp] theorem State.discClr_fixed (wide : Bool) (s : State) : (s.discClr).fixed wide = s.fixed wide := by simp [State.discClr]

@[simp] theorem State.endTarget_fixed (wide : Bool) (s : State) (scope target : Nat) :
    (s.endTarget scope target).fixed wide = s.fixed wide := by
  simp [State.endTarget]

@[simp] theorem State.abandonTarget_fixed (wide : Bool) (s : State) (scope target : Nat) :
    (s.abandonTarget scope target).fixed wide = s.fixed wide := by
  simp [State.abandonTarget]

@[simp] theorem doStopAll_fixed (wide : Bool) (s : State) (x0 x1 : Nat) (p : List Byte) :
    (doStopAll s x0 x1 p).1.fixed wide = s.fixed wide := by
  simp [doStopAll]

@[simp] theorem doStopRover_fixed (wide : Bool) (s : State) (x0 x1 : Nat) (p : List Byte) :
    (doStopRover s x0 x1 p).1.fixed wide = s.fixed wide := by
  simp [doStopRover]

@[simp] theorem doStopZone_fixed (wide : Bool) (s : State) (x0 x1 : Nat) (p : List Byte) :
    (doStopZone s x0 x1 p).1.fixed wide = s.fixed wide := by
  simp [doStopZone]

@[simp] theorem doStopRelease_fixed (wide : Bool) (s : State) (x0 x1 : Nat) (p : List Byte) :
    (doStopRelease s x0 x1 p).1.fixed wide = s.fixed wide := by
  unfold doStopRelease
  dsimp only
  repeat' split
  all_goals simp only [↓State.fixed_with, ↓withLen_fixed, ↓okWith_fixed,
    ↓State.syncStop_fixed, ↓State.releaseEvent_fixed, ↓refuse_fixed]

@[simp] theorem doStopGetState_fixed (wide : Bool) (s : State) (x0 x1 : Nat) (p : List Byte) :
    (doStopGetState s x0 x1 p).1.fixed wide = s.fixed wide := by
  simp [doStopGetState]

/-! #### Machine/Test -/

@[simp] theorem State.syncTst_fixed (wide : Bool) (s : State) : (s.syncTst).fixed wide = s.fixed wide := by simp [State.syncTst]

@[simp] theorem State.tstRefused_fixed (wide : Bool) (s : State) : (s.tstRefused).fixed wide = s.fixed wide := by simp [State.tstRefused]

@[simp] theorem doTstUnlock_fixed (wide : Bool) (s : State) (sid seq : Nat) (p : List Byte) :
    (doTstUnlock s sid seq p).1.fixed wide = s.fixed wide := by
  simp [doTstUnlock]

@[simp] theorem doTstLock_fixed (wide : Bool) (s : State) (x0 x1 : Nat) (p : List Byte) :
    (doTstLock s x0 x1 p).1.fixed wide = s.fixed wide := by
  simp [doTstLock]

@[simp] theorem State.tstClrAll_fixed (wide : Bool) (s : State) : (s.tstClrAll).fixed wide = s.fixed wide := by simp [State.tstClrAll]

@[simp] theorem State.errGo_fixed (wide : Bool) (s : State) : (s.errGo).fixed wide = s.fixed wide := by
  unfold State.errGo
  dsimp only
  repeat' split
  all_goals simp only [↓State.fixed_with, ↓State.syncTst_fixed,
    ↓State.setFld_fixed, ↓State.tstRefused_fixed, ↓State.laneFail_fixed]

@[simp] theorem State.crcGo_fixed (wide : Bool) (s : State) : (s.crcGo).fixed wide = s.fixed wide := by simp [State.crcGo]

@[simp] theorem State.jitWrite_fixed (wide : Bool) (s : State) (v : Word) : (s.jitWrite v).fixed wide = s.fixed wide := by
  simp [State.jitWrite]

@[simp] theorem State.tstQueues_fixed (wide : Bool) (s : State) (a : Nat) : (s.tstQueues a).fixed wide = s.fixed wide := by
  simp [State.tstQueues]

/-! #### Machine/Traffic -/

@[simp] theorem State.poisoned_fixed (wide : Bool) (s : State) (q : Nat) (p : QPacket) (source : Nat) (reply : Option (Nat × Nat × Nat)) :
    (s.poisoned q p source reply).fixed wide = s.fixed wide := by
  unfold State.poisoned
  repeat' split
  all_goals simp

@[simp] theorem State.queForced_fixed (wide : Bool) (s : State) (lo old new : Nat) :
    (s.queForced lo old new).fixed wide = s.fixed wide := by
  simp [State.queForced]

/-! #### Machine/Registers -/

@[simp] theorem State.readTtPos_fixed (s : State) : (s.readTtPos).2.fixed false = s.fixed false := by
  unfold State.readTtPos
  dsimp only
  repeat' split <;> simp

@[simp] theorem State.readReg_fixed (s : State) (a : Nat) : (s.readReg a).2.fixed false = s.fixed false := by simp [State.readReg]

@[simp] theorem State.readBlock_fixed (s : State) (as : List Nat) :
    (s.readBlock as).2.fixed false = s.fixed false := by
  induction as generalizing s with
  | nil => rfl
  | cons a t ih =>
    unfold State.readBlock
    exact (ih _).trans (State.readReg_fixed s a)

@[simp] theorem State.udpClose_fixed (wide : Bool) (s : State) (sid : Nat) : (s.udpClose sid).fixed wide = s.fixed wide := by
  simp [State.udpClose]

@[simp] theorem State.udpDue_fixed (wide : Bool) (s : State) : (s.udpDue).fixed wide = s.fixed wide := by simp [State.udpDue]

@[simp] theorem State.svbCntClr_fixed (wide : Bool) (s : State) : (s.svbCntClr).fixed wide = s.fixed wide := by simp [State.svbCntClr]

@[simp] theorem State.skyWritten_fixed (wide : Bool) (s old : State) (w : Word) : (s.skyWritten old w).fixed wide = s.fixed wide := by
  simp [State.skyWritten]

@[simp] theorem State.wroteSky_fixed (wide : Bool) (s old : State) (a : Nat) (w : Word) :
    (s.wroteSky old a w).fixed wide = s.fixed wide := by
  simp [State.wroteSky]

@[simp] theorem State.wroteSys_fixed (wide : Bool) (s : State) (a : Nat) (w : Word) : (s.wroteSys a w).fixed wide = s.fixed wide := by
  simp [State.wroteSys]

@[simp] theorem State.wroteQue_fixed (wide : Bool) (s old : State) (a : Nat) (w : Word) :
    (s.wroteQue old a w).fixed wide = s.fixed wide := by
  simp [State.wroteQue]

@[simp] theorem State.wroteSch_fixed (wide : Bool) (s : State) (a : Nat) (w : Word) : (s.wroteSch a w).fixed wide = s.fixed wide := by
  simp [State.wroteSch]

@[simp] theorem State.wroteTim_fixed (wide : Bool) (s old : State) (a : Nat) : (s.wroteTim old a).fixed wide = s.fixed wide := by
  simp [State.wroteTim]

@[simp] theorem State.wroteRtk_fixed (wide : Bool) (s old : State) (a : Nat) (w : Word) :
    (s.wroteRtk old a w).fixed wide = s.fixed wide := by
  simp [State.wroteRtk]

@[simp] theorem State.wroteSnp_fixed (wide : Bool) (s old : State) (a : Nat) (w : Word) :
    (s.wroteSnp old a w).fixed wide = s.fixed wide := by
  simp [State.wroteSnp]

@[simp] theorem State.wroteSbx_fixed (wide : Bool) (s old : State) (a : Nat) (w : Word) :
    (s.wroteSbx old a w).fixed wide = s.fixed wide := by
  simp [State.wroteSbx]

@[simp] theorem State.wroteAlt_fixed (wide : Bool) (s old : State) (a : Nat) (w : Word) :
    (s.wroteAlt old a w).fixed wide = s.fixed wide := by
  simp [State.wroteAlt]

@[simp] theorem State.wroteTtb_fixed (wide : Bool) (s : State) (a : Nat) (w : Word) : (s.wroteTtb a w).fixed wide = s.fixed wide := by
  simp [State.wroteTtb]

@[simp] theorem State.wroteRad_fixed (wide : Bool) (s old : State) (a : Nat) (w : Word) :
    (s.wroteRad old a w).fixed wide = s.fixed wide := by
  simp [State.wroteRad]

@[simp] theorem State.wroteEth_fixed (wide : Bool) (s : State) (a : Nat) (w : Word) : (s.wroteEth a w).fixed wide = s.fixed wide := by
  simp [State.wroteEth]

@[simp] theorem State.wroteMtr_fixed (wide : Bool) (s old : State) (a : Nat) (w : Word) :
    (s.wroteMtr old a w).fixed wide = s.fixed wide := by
  simp [State.wroteMtr]

@[simp] theorem State.wroteLan_fixed (wide : Bool) (s : State) (a : Nat) (w : Word) : (s.wroteLan a w).fixed wide = s.fixed wide := by
  simp [State.wroteLan]

@[simp] theorem State.wroteSec_fixed (wide : Bool) (s old : State) (a : Nat) (w : Word) :
    (s.wroteSec old a w).fixed wide = s.fixed wide := by
  simp [State.wroteSec]

@[simp] theorem State.wroteUpd_fixed (wide : Bool) (s : State) (a : Nat) (w : Word) : (s.wroteUpd a w).fixed wide = s.fixed wide := by
  simp [State.wroteUpd]

@[simp] theorem State.wroteTst_fixed (wide : Bool) (s old : State) (a : Nat) (w : Word) :
    (s.wroteTst old a w).fixed wide = s.fixed wide := by
  simp [State.wroteTst]

@[simp] theorem State.wrote_fixed (wide : Bool) (s old : State) (a : Nat) (w : Word) : (s.wrote old a w).fixed wide = s.fixed wide := by
  simp [State.wrote]

@[simp] theorem State.writeReg_fixed (wide : Bool) (s : State) (a : Nat) (v mask : Word) :
    (s.writeReg a v mask).fixed wide = s.fixed wide := by
  unfold State.writeReg
  split <;> simp

@[simp] theorem State.writeDue_fixed (s : State) : (s.writeDue).fixed false = s.fixed false := by simp [State.writeDue]

@[simp] theorem doRegRead_fixed (s : State) (x0 x1 : Nat) (p : List Byte) : (doRegRead s x0 x1 p).1.fixed false = s.fixed false := by
  simp [doRegRead]

@[simp] theorem doRegWrite_fixed (wide : Bool) (s : State) (sid x0 : Nat) (p : List Byte) :
    (doRegWrite s sid x0 p).1.fixed wide = s.fixed wide := by
  unfold doRegWrite
  dsimp only
  split <;> simp

@[simp] theorem doRegReadBlock_fixed (s : State) (x0 x1 : Nat) (p : List Byte) :
    (doRegReadBlock s x0 x1 p).1.fixed false = s.fixed false := by
  simp [doRegReadBlock]

@[simp] theorem doRegModify_fixed (s : State) (sid x0 : Nat) (p : List Byte) : (doRegModify s sid x0 p).1.fixed false = s.fixed false := by
  unfold doRegModify
  dsimp only
  split <;> simp

/-! #### Machine/Session -/

@[simp] theorem doPing_fixed (wide : Bool) (s : State) (sid x0 : Nat) (p : List Byte) :
    (doPing s sid x0 p).1.fixed wide = s.fixed wide := by
  simp [doPing]

@[simp] theorem doSessionClose_fixed (wide : Bool) (s : State) (sid x0 : Nat) (p : List Byte) :
    (doSessionClose s sid x0 p).1.fixed wide = s.fixed wide := by
  simp [doSessionClose]

@[simp] theorem State.closeDue_fixed (wide : Bool) (sid : Nat) (s : State) : (s.closeDue sid).fixed wide = s.fixed wide := by
  simp [State.closeDue]

@[simp] theorem doGetIdentity_fixed (wide : Bool) (s : State) (x0 x1 : Nat) (p : List Byte) :
    (doGetIdentity s x0 x1 p).1.fixed wide = s.fixed wide := by
  simp [doGetIdentity]

@[simp] theorem doEventSubscribe_fixed (wide : Bool) (s : State) (sid x0 : Nat) (p : List Byte) :
    (doEventSubscribe s sid x0 p).1.fixed wide = s.fixed wide := by
  simp [doEventSubscribe]

@[simp] theorem doBulkWrite_fixed (s : State) (x0 x1 : Nat) (p : List Byte) : (doBulkWrite s x0 x1 p).1.fixed false = s.fixed false := by
  simp [doBulkWrite]

@[simp] theorem doBulkRead_fixed (wide : Bool) (s : State) (x0 x1 : Nat) (p : List Byte) :
    (doBulkRead s x0 x1 p).1.fixed wide = s.fixed wide := by
  simp [doBulkRead]

/-! #### Machine/Transport -/

@[simp] theorem State.spiBusy_fixed (wide : Bool) (s : State) : (s.spiBusy).fixed wide = s.fixed wide := by simp [State.spiBusy]

@[simp] theorem State.spiFraming_fixed (wide : Bool) (s : State) : (s.spiFraming).fixed wide = s.fixed wide := by simp [State.spiFraming]

@[simp] theorem State.spi_fixed (wide : Bool) (s : State) (k : State → State) (h : ∀ t : State, (k t).fixed wide = t.fixed wide) :
    (s.spi k).fixed wide = s.fixed wide := by
  simp [State.spi, h]

/-! #### Machine/Switch -/

@[simp] theorem State.chainIn_fixed (wide : Bool) (s : State) (n : Nat) (f : List Byte) : (s.chainIn n f).fixed wide = s.fixed wide := by
  unfold State.chainIn
  split <;> simp

@[simp] theorem State.pdelayIn_fixed (wide : Bool) (s : State) (n : Nat) (x : EthIn) : (s.pdelayIn n x).fixed wide = s.fixed wide := by
  unfold State.pdelayIn
  split <;> simp

end Sys2Proof.Machine
end

section
/-! SUPPORT. Limited changes (R13, R428, R429): REG_WRITE_LC and MTR_CAL_SEAL pay for what they change. -/

namespace Sys2Proof.Machine

/-! ### Limited changes -/

/-- Between two contents of the fuses at most limited changes have been made, one of each setting: identities stay (R13, R428, R429). -/
def Fuses.burns (f g : Fuses) : Prop :=
  g.unitId = f.unitId ∧ g.mac = f.mac ∧ g.epub = f.epub ∧ f.floor ≤ g.floor ∧
    (g.siteLeft = f.siteLeft ∧ g.siteId = f.siteId ∨ g.siteLeft + 1 = f.siteLeft) ∧
    (g.ownerLeft = f.ownerLeft ∧ g.ownerId = f.ownerId ∨ g.ownerLeft + 1 = f.ownerLeft) ∧
    (g.sealLeft = f.sealLeft ∧ g.sealCrc = f.sealCrc ∨ g.sealLeft + 1 = f.sealLeft) ∧
    (g.floorLeft = f.floorLeft ∧ g.floor = f.floor ∨ g.floorLeft + 1 = f.floorLeft)

theorem Fuses.burns_refl (f : Fuses) : f.burns f := by simp [Fuses.burns]

theorem State.fuses_of_fixed {wide : Bool} {s t : State} (h : t.fixed wide = s.fixed wide) : t.fuses = s.fuses :=
  congrArg (fun x => x.2.1) h

theorem State.lcWrite_fuses (s : State) (a v : Nat) :
    (s.lcWrite a v).fuses =
      if a = R.SEC_SITE then { s.fuses with siteId := v, siteLeft := s.fuses.siteLeft - 1 }
      else if a = R.SEC_BIND then { s.fuses with ownerId := v, ownerLeft := s.fuses.ownerLeft - 1 }
      else { s.fuses with floor := v, floorLeft := s.fuses.floorLeft - 1 } := by
  unfold State.lcWrite
  split
  · exact State.fuses_of_fixed (State.rearm_fixed false _)
  · split
    · exact State.fuses_of_fixed (State.syncKeys_fixed false _)
    · rfl

theorem State.burns_of_fixed {wide : Bool} {s t : State} (h : t.fixed wide = s.fixed wide) : s.fuses.burns t.fuses := by
  rw [State.fuses_of_fixed h]
  exact Fuses.burns_refl _

theorem withLen_burns (s : State) (n : Nat) (p : List Byte) (k : Res) (h : s.fuses.burns k.1.fuses) :
    s.fuses.burns (withLen s n p k).1.fuses := by
  unfold withLen
  split
  · exact h
  · exact Fuses.burns_refl _

/-- A limited change of SITE_ID, OWNER_ID or the vintage floor that has a change left, and raises the floor by 1, burns. -/
theorem State.lcWrite_burns (s : State) (a v : Nat) (hs : a = R.SEC_SITE → s.fuses.siteLeft ≠ 0)
    (ho : a ≠ R.SEC_SITE → a = R.SEC_BIND → s.fuses.ownerLeft ≠ 0)
    (hf : a ≠ R.SEC_SITE → a ≠ R.SEC_BIND → s.fuses.floorLeft ≠ 0 ∧ v = s.fuses.floor + 1) :
    s.fuses.burns (s.lcWrite a v).fuses := by
  rw [State.lcWrite_fuses]
  split
  · next h =>
    have := hs h
    simp [Fuses.burns]
    omega
  · next h =>
    split
    · next h' =>
      have := ho h h'
      simp [Fuses.burns]
      omega
    · next h' =>
      have := hf h h'
      simp [Fuses.burns]
      omega

theorem doRegWriteLc_burns (s : State) (sid seq : Nat) (p : List Byte) : s.fuses.burns (doRegWriteLc s sid seq p).1.fuses := by
  have hr : ∀ st, s.fuses.burns (refuse s st).1.fuses := fun st => Fuses.burns_refl _
  have hx : ∀ a o v r, s.fuses.burns (s.lcDone a o v 0 r sid).fuses := fun a o v r => State.burns_of_fixed (State.lcDone_fixed false ..)
  have hw : ∀ a v o n d, s.fuses.burns (s.lcWrite a v).fuses →
      s.fuses.burns (okWith ((s.lcWrite a v).lcDone a o v n 0 sid) d).1.fuses := fun a v o n d h => by
    show s.fuses.burns (State.lcDone _ _ _ _ _ _ _).fuses
    rwa [State.fuses_of_fixed (State.lcDone_fixed false ..)]
  refine withLen_burns s 16 p _ ?_
  dsimp only
  generalize rdN p 0 4 = a
  generalize (if decide (a = R.SEC_SITE) = true then rdN p 4 4 % 65536 else rdN p 4 4) = v
  generalize hy : (if decide (a = R.SEC_SITE) = true then (s.fuses.siteId, s.fuses.siteLeft)
    else if decide (a = R.SEC_BIND) = true then (s.fuses.ownerId, s.fuses.ownerLeft)
    else (s.fuses.floor, s.fuses.floorLeft)) = y
  obtain ⟨old, left⟩ := y
  dsimp only
  split
  · exact hr _
  · split
    · exact State.burns_of_fixed (State.sigFail_fixed false ..)
    · split
      · exact hr _
      · split
        · exact hr _
        · split
          · exact hr _
          · split
            · exact hr _
            · next hv =>
              split
              · exact hx ..
              · next hl =>
                refine hw _ _ _ _ _ (State.lcWrite_burns _ _ _ ?_ ?_ ?_)
                · intro h
                  rw [if_pos (by simpa using h), Prod.mk.injEq] at hy
                  rwa [hy.2]
                · intro h h'
                  rw [if_neg (by simpa using h), if_pos (by simpa using h'), Prod.mk.injEq] at hy
                  rwa [hy.2]
                · intro h h'
                  rw [if_neg (by simpa using h), if_neg (by simpa using h'), Prod.mk.injEq] at hy
                  rw [hy.2]
                  simp only [h, h', decide_false, Bool.not_false, Bool.true_and, Bool.or_eq_true, bne_iff_ne, not_or, not_not] at hv
                  exact ⟨hl, hv.1⟩

theorem State.syncSeal_lcDone_fuses (s : State) (off old new left result sid : Nat) :
    (s.syncSeal.lcDone off old new left result sid).fuses = s.fuses :=
  State.fuses_of_fixed ((State.lcDone_fixed false ..).trans (State.syncSeal_fixed false s))

theorem doMtrCalSeal_burns (s : State) (sid seq : Nat) (p : List Byte) : s.fuses.burns (doMtrCalSeal s sid seq p).1.fuses := by
  have hx : ∀ v, s.fuses.burns (s.lcDone R.MTR_SEAL s.fuses.sealCrc v 0 1 sid).fuses := fun v =>
    State.burns_of_fixed (State.lcDone_fixed false ..)
  have hb : ∀ v n, s.fuses.sealLeft ≠ 0 → s.fuses.burns (State.lcDone (State.syncSeal
      { s with fuses := { s.fuses with sealCrc := v, sealLeft := s.fuses.sealLeft - 1 } }) R.MTR_SEAL s.fuses.sealCrc v n 0 sid).fuses := by
    intro v n h
    rw [State.syncSeal_lcDone_fuses]
    simp [Fuses.burns]
    omega
  refine withLen_burns s 4 p _ ?_
  dsimp only
  split
  · exact State.burns_of_fixed (State.saveRegs_fixed false ..)
  · split
    · exact Fuses.burns_refl _
    · split
      · exact hx _
      · next h => exact hb _ _ h
  · split
    · exact hx _
    · next h => exact hb _ _ h
  · exact Fuses.burns_refl _

end Sys2Proof.Machine
end

section
/-! SUPPORT. What the commands of the host and received packets make of the fixed parts. -/

namespace Sys2Proof.Machine

/-! ### What a command row keeps -/

section
variable {wide : Bool} {P : List Instr × Fuses × Option (List Host.Cell × Engines × Sch × Sec) → Prop}

theorem State.follow_fixed (s : State) (sid seq : Nat) (op : Op) (hpost : ∀ t : State, (op.post sid t).fixed wide = t.fixed wide) :
    (s.follow sid seq op).fixed wide = s.fixed wide := by
  unfold State.follow
  split
  · exact State.fixed_with ..
  · exact hpost s

/-- The fixed parts after a command is executed are those of before, or those its opcode leaves. -/
theorem State.execute_fixed (s : State) (sid seq : Nat) (op : Op) (p : List Byte) (h : P (s.fixed wide))
    (hrun : ∀ t : State, t.fixed wide = s.fixed wide → P ((op.run t sid seq p).1.fixed wide))
    (hpost : ∀ t : State, (op.post sid t).fixed wide = t.fixed wide) : P ((s.execute sid seq op p).fixed wide) := by
  unfold State.execute
  dsimp only
  split
  · simpa using h
  · split
    · simpa using h
    · split
      · simpa using h
      · split
        · simpa using h
        · have k := hrun (if op.lane p then s.laneInput else s) (by split <;> simp)
          generalize op.run (if op.lane p then s.laneInput else s) sid seq p = x at k ⊢
          obtain ⟨t, _ | r⟩ := x
          · exact k
          · dsimp only
            rwa [State.follow_fixed _ _ _ _ hpost, State.finish_fixed]

theorem State.accept_fixed (s : State) (sid src seq : Nat) (op : Op) (p : List Byte) (h : P (s.fixed wide))
    (hrun : ∀ t : State, t.fixed wide = s.fixed wide → P ((op.run t sid seq p).1.fixed wide))
    (hpost : ∀ t : State, (op.post sid t).fixed wide = t.fixed wide) : P ((s.accept sid src seq op p).fixed wide) := by
  unfold State.accept
  dsimp only
  split
  · split
    · simpa using h
    · split <;> simpa using h
  · split
    · simpa using h
    · split
      · simpa using h
      · exact State.execute_fixed _ sid seq op p (by simpa using h) (fun t e => hrun t (by simpa using e)) hpost

theorem State.command_fixed (s : State) (sid src seq code : Nat) (op : Op) (p : List Byte) (h : P (s.fixed wide))
    (hrun : ∀ t : State, t.fixed wide = s.fixed wide → P ((op.run t sid seq p).1.fixed wide))
    (hpost : ∀ t : State, (op.post sid t).fixed wide = t.fixed wide) : P ((s.command sid src seq code op p).fixed wide) := by
  unfold State.command
  dsimp only
  split
  · split <;> simpa using h
  · split
    · simpa using h
    · split
      · simpa using h
      · split
        · simpa using h
        · exact s.accept_fixed sid src seq op p h hrun hpost

theorem State.host_fixed (s : State) (c : Cmd) (op : Op) (h : P (s.fixed wide))
    (hrun : ∀ (t : State) sid seq p, t.fixed wide = s.fixed wide → P ((op.run t sid seq p).1.fixed wide))
    (hpost : ∀ sid (t : State), (op.post sid t).fixed wide = t.fixed wide) : P ((s.host c op).fixed wide) := by
  unfold State.host
  dsimp only
  split
  · split
    · simpa using h
    · have e : (if (s.sess c.sid.val).isOpen && (s.sess c.sid.val).auth && op.code != 0x0101 then
          s.setSess c.sid.val { s.sess c.sid.val with lastAuth := s.el } else s : State).fixed wide = s.fixed wide := by
        split <;> simp
      exact State.command_fixed _ _ _ _ _ op _ (e ▸ h) (fun t k => hrun t _ _ _ (k.trans e)) (hpost _)
  · exact h
end



/-! ### The opcodes -/

/-- Executing the opcode makes at most limited changes, and what follows its reply makes none. -/
def Op.burns (op : Op) : Prop :=
  (∀ (t : State) sid seq p, t.fuses.burns (op.run t sid seq p).1.fuses) ∧
    ∀ sid (t : State), (op.post sid t).fixed false = t.fixed false

/-- The opcode changes neither the fuses nor the queue of waiting commands. -/
def Op.keepsFixed (op : Op) : Prop :=
  (∀ (t : State) sid seq p, (op.run t sid seq p).1.fixed false = t.fixed false) ∧
    ∀ sid (t : State), (op.post sid t).fixed false = t.fixed false

theorem Op.burns_of_keepsFixed {op : Op} (h : op.keepsFixed) : op.burns :=
  ⟨fun t sid seq p => State.burns_of_fixed (h.1 t sid seq p), h.2⟩

theorem opRegWriteLc_burns : opRegWriteLc.burns := ⟨doRegWriteLc_burns, fun _ _ => rfl⟩
theorem opMtrCalSeal_burns : opMtrCalSeal.burns := ⟨doMtrCalSeal_burns, fun _ _ => rfl⟩

theorem opsSys_keepsFixed : ∀ op ∈ opsSys, op.keepsFixed := by
  simp [opsSys, opPing, opSessionOpen, opSessionConfirm, opSessionClose, opGetIdentity, opGetStatus, opSetPowerState,
    opSetPowerCap, opEventSubscribe, opBulkWrite, opBulkRead, opResetEngine, opH, Op.keepsFixed]

theorem opsReg_burns : ∀ op ∈ opsReg, op.burns := by
  simp only [opsReg, List.forall_mem_cons]
  refine ⟨Op.burns_of_keepsFixed ?_, Op.burns_of_keepsFixed ?_, Op.burns_of_keepsFixed ?_, Op.burns_of_keepsFixed ?_, opRegWriteLc_burns, by simp⟩
  all_goals simp [opRegRead, opRegWrite, opRegReadBlock, opRegModify, Op.keepsFixed]

theorem opsSky_keepsFixed : ∀ op ∈ opsSky, op.keepsFixed := by
  simp [opsSky, opSkyConfig, opSkySetBasePosition, opSkyExclude, opSkyGetChannels, opSkyRtcmConfig, Op.keepsFixed]

theorem opsRtk_keepsFixed : ∀ op ∈ opsRtk, op.keepsFixed := by
  simp [opsRtk, opRtkSetSiteOrigin, opRtkSetRateClass, opRtkSetNoise, opRtkResetRover, opRtkGetFix, opL, Op.keepsFixed]

theorem opsSbx_keepsFixed : ∀ op ∈ opsSbx, op.keepsFixed := by
  simp [opsSbx, opSbxMapStage, opSbxMapActivate, opSbxRequest, opSbxRelease, opSbxRevoke, opSbxZoneSet, opSbxGetState, opL,
    Op.keepsFixed]

theorem opsAlt_keepsFixed : ∀ op ∈ opsAlt, op.keepsFixed := by
  simp [opsAlt, opAltTaskAdd, opAltTaskCancel, opAltTaskGet, opAltLandmarksLoad, opAltRoundNow, opL, Op.keepsFixed]

theorem opsTtb_keepsFixed : ∀ op ∈ opsTtb, op.keepsFixed := by
  simp [opsTtb, opTtbCamStage, opTtbCamActivate, opTtbSetLimits, opTtbGetProfile, opL, Op.keepsFixed]

theorem opsStp_keepsFixed : ∀ op ∈ opsStp, op.keepsFixed := by
  simp [opsStp, opStopAll, opStopRover, opStopZone, opStopRelease, opStopGetState, opH, opS, Op.keepsFixed]

theorem opsRad_keepsFixed : ∀ op ∈ opsRad, op.keepsFixed := by
  simp [opsRad, opRadPortConfig, opRadSuperframeSet, opRadRoverAssign, opRadRoverEvict, opRadGetLink, opH, opL, Op.keepsFixed]

theorem opsEth_keepsFixed : ∀ op ∈ opsEth, op.keepsFixed := by
  simp [opsEth, opEthPortConfig, opPtpConfig, opTimeGet, opTimeRestep, opPpsConfig, opChainDiscover, opH, Op.keepsFixed]

theorem opsMtr_burns : ∀ op ∈ opsMtr, op.burns := by
  simp only [opsMtr, List.forall_mem_cons]
  refine ⟨Op.burns_of_keepsFixed ?_, Op.burns_of_keepsFixed ?_, Op.burns_of_keepsFixed ?_, Op.burns_of_keepsFixed ?_, opMtrCalSeal_burns, by simp⟩
  all_goals simp [opMtrConfig, opMtrGetReadings, opMtrGetHarmonics, opMtrSetCap, opH, opL, Op.keepsFixed]

theorem opsLan_keepsFixed : ∀ op ∈ opsLan, op.keepsFixed := by
  simp [opsLan, opLanGetState, opLanSwitch, opH, Op.keepsFixed]

theorem opsSec_keepsFixed : ∀ op ∈ opsSec, op.keepsFixed := by
  simp [opsSec, opSecCaskLoad, opSecCaskUnload, opUpdImageBegin, opUpdImageData, opUpdImageEnd, opUpdDecant,
    opUpdDecantSchedule, opUpdGetState, opH, Op.keepsFixed]

theorem opsCbk_keepsFixed : ∀ op ∈ opsCbk, op.keepsFixed := by
  simp [opsCbk, opCbkFreeze, opCbkThaw, opCbkRead, opCbkClear, opH, Op.keepsFixed]

theorem opsTst_keepsFixed : ∀ op ∈ opsTst, op.keepsFixed := by
  simp [opsTst, opTstUnlock, opTstLock, opH, Op.keepsFixed]

/-- Every opcode makes at most limited changes. -/
theorem allOps_burns : ∀ op ∈ allOps, op.burns := by
  have k : ∀ {l : List Op}, (∀ op ∈ l, op.keepsFixed) → ∀ op ∈ l, op.burns := fun h op m => Op.burns_of_keepsFixed (h op m)
  simp only [allOps, List.forall_mem_append, and_assoc]
  exact ⟨k opsSys_keepsFixed, opsReg_burns, k opsSky_keepsFixed, k opsRtk_keepsFixed, k opsSbx_keepsFixed, k opsAlt_keepsFixed,
    k opsTtb_keepsFixed, k opsStp_keepsFixed, k opsRad_keepsFixed, k opsEth_keepsFixed, opsMtr_burns, k opsLan_keepsFixed,
    k opsSec_keepsFixed, k opsCbk_keepsFixed, k opsTst_keepsFixed⟩

theorem burns_of_opOf {code : Nat} {op : Op} (h : opOf code = some op) : op.burns :=
  allOps_burns op (List.mem_of_find?_eq_some h)

/-- So does a packet's opcode, defined or not. -/
theorem opOf_getD_burns (code : Nat) : ((opOf code).getD (undefinedOp code)).burns := by
  cases h : opOf code with
  | none => exact Op.burns_of_keepsFixed ⟨fun _ _ _ _ => rfl, fun _ _ => rfl⟩
  | some op => exact burns_of_opOf h

theorem State.host_burns (s : State) (c : Cmd) (op : Op) (h : op.burns) : s.fuses.burns (s.host c op).fuses :=
  State.host_fixed (wide := false) (P := fun v => s.fuses.burns v.2.1) s c op (Fuses.burns_refl _)
    (fun t sid seq p e => State.fuses_of_fixed e ▸ h.1 t sid seq p) h.2

/-- A command that keeps the fixed parts keeps them as a row. -/
theorem State.host_keepsFixed (s : State) (c : Cmd) (op : Op) (h : op.keepsFixed) : (s.host c op).fixed false = s.fixed false :=
  State.host_fixed (P := fun v => v = s.fixed false) s c op rfl (fun t sid seq p e => (h.1 t sid seq p).trans e) h.2

/-! ### Received packets -/

@[simp] theorem State.runPosts_fixed (s : State) : s.runPosts.fixed false = s.fixed false := by
  unfold State.runPosts
  dsimp only
  refine (State.foldl_fixed _ _ (fun t p => ?_) _ _).trans (State.fixed_with ..)
  split
  · next h => exact (burns_of_opOf h).2 _ _
  · rfl

theorem State.versioned_burns (s : State) (sid src : Nat) (b : List Byte) : s.fuses.burns (s.versioned sid src b).fuses := by
  unfold State.versioned
  dsimp only
  split
  · exact State.burns_of_fixed (State.sendPkt_fixed false ..)
  · have h := opOf_getD_burns (rdN b 6 2)
    exact State.command_fixed (wide := false) (P := fun v => s.fuses.burns v.2.1) s _ _ _ _ _ _ (Fuses.burns_refl _)
      (fun t e => State.fuses_of_fixed e ▸ h.1 t _ _ _) (h.2 _)

theorem State.ingest_burns (s : State) (udp : Bool) (src : Nat) (b : List Byte) : s.fuses.burns (s.ingest udp src b).2.fuses := by
  have hc : ∀ f, s.fuses.burns (s.satInc f).fuses := fun f => State.burns_of_fixed (State.satInc_fixed false ..)
  have ha : ∀ i k, s.fuses.burns (s.authFail i k).fuses := fun i k => State.burns_of_fixed (State.authFail_fixed false ..)
  have hv : ∀ i ss, s.fuses.burns ((s.setSess i ss).versioned i src b).fuses := fun i ss => State.versioned_burns (s.setSess i ss) i src b
  unfold State.ingest
  dsimp only
  generalize (if udp = true then _ else _ : Bool) = wrongSid
  split
  · exact hc _
  · split
    · exact hc _
    · split
      · exact hc _
      · split
        · split
          · exact ha _ _
          · exact s.versioned_burns _ _ _
        · split
          · split
            · exact s.versioned_burns _ _ _
            · exact ha _ _
          · split
            · split
              · exact hv _ _
              · exact ha _ _
            · exact s.versioned_burns _ _ _

theorem State.spi_burns (s : State) (k : State → State) (h : s.fuses.burns (k s).fuses) : s.fuses.burns (s.spi k).fuses := by
  unfold State.spi
  split
  · exact Fuses.burns_refl _
  · split
    · exact Fuses.burns_refl _
    · split
      · exact Fuses.burns_refl _
      · exact h

theorem State.udpIn_burns (s : State) (f p : List Byte) : s.fuses.burns (s.udpIn f p).fuses := by
  unfold State.udpIn
  dsimp only
  split
  · exact Fuses.burns_refl _
  · exact s.ingest_burns _ _ _

theorem State.portTwo_burns (s : State) (n : Nat) (x : EthIn) : s.fuses.burns (s.portTwo n x).fuses := by
  unfold State.portTwo
  dsimp only
  split
  · exact Fuses.burns_refl _
  · split
    · exact State.burns_of_fixed (State.ptpIn_fixed false ..)
    · split
      · exact State.burns_of_fixed (State.arpIn_fixed false ..)
      · split
        · split
          · exact Fuses.burns_refl _
          · split
            · exact State.burns_of_fixed (State.icmpIn_fixed false ..)
            · split
              · exact s.udpIn_burns _ _
              · exact Fuses.burns_refl _
        · exact Fuses.burns_refl _

theorem State.forward_burns (s : State) (n : Nat) (x : EthIn) : s.fuses.burns (s.forward n x).fuses := by
  have ht : s.fuses.burns (s.transit n x).fuses := State.burns_of_fixed (State.transit_fixed false ..)
  unfold State.forward
  dsimp only
  split
  · exact State.burns_of_fixed (State.pdelayIn_fixed false ..)
  · split
    · exact Fuses.burns_refl _
    · split
      · exact State.burns_of_fixed (State.chainIn_fixed false ..)
      · split
        · exact s.portTwo_burns _ _
        · split
          · rw [← State.fuses_of_fixed (State.transit_fixed false s n x)]
            exact State.portTwo_burns _ _ _
          · split
            · split
              · exact Fuses.burns_refl _
              · exact ht
            · exact ht

theorem State.frameIn_burns (s : State) (n : Nat) (x : EthIn) : s.fuses.burns (s.frameIn n x).fuses := by
  unfold State.frameIn
  dsimp only
  split
  · exact Fuses.burns_refl _
  · split
    · exact State.burns_of_fixed (State.satInc_fixed false ..)
    · generalize ht : (if x.fill = 1 then State.pauseOut _ n 0xFFFF else if x.fill = 2 then State.pauseOut _ n 0 else _ : State) = t
      have e : t.fixed false = s.fixed false := by
        rw [← ht]
        simp
      split
      · exact State.burns_of_fixed ((State.pauseIn_fixed false ..).trans e)
      · exact State.fuses_of_fixed e ▸ t.forward_burns n x

end Sys2Proof.Machine
end

section
/-! SUPPORT. The rows that carry no command of the host: each keeps the fixed parts. -/

namespace Sys2Proof.Machine

/-- The outcome is a next state with the fixed parts of `s`. -/
def State.staysFixed (s : State) (wide : Bool) (o : Host.Outcome State Fault Refusal) : Prop := ∃ t, o = .next t ∧ t.fixed wide = s.fixed wide

@[simp] theorem State.staysFixed_next (s t : State) (wide : Bool) : s.staysFixed wide (.next t) ↔ t.fixed wide = s.fixed wide := by
  simp [State.staysFixed]

theorem State.fixed_of_rxCheck {wide : Bool} {s t : State} {n : Nat} {b : List Byte} {f : Option RxFrame} (h : s.rxCheck n b = (t, f)) :
    t.fixed wide = s.fixed wide := by
  simpa [h] using State.rxCheck_fixed wide s n b

/-! #### Machine/Tokens -/

theorem execTokenRequest_fixed (wide : Bool) (arb : Fin 2) (i : Fin 16) (s : State) : s.staysFixed wide (execTokenRequest arb i s) := by
  simp [execTokenRequest]

theorem execTokenDrop_fixed (wide : Bool) (arb : Fin 2) (i : Fin 16) (s : State) : s.staysFixed wide (execTokenDrop arb i s) := by
  simp [execTokenDrop]

/-! #### Machine/TimeEngine -/

theorem execWholeSecond_fixed (wide : Bool) (s : State) : s.staysFixed wide (execWholeSecond s) := by simp [execWholeSecond]

theorem execTimNowLoRead_fixed (wide : Bool) (s : State) : s.staysFixed wide (execTimNowLoRead s) := by simp [execTimNowLoRead]

theorem execSourceQualify_fixed (wide : Bool) (k : Fin 2) (yf : Int) (s : State) : s.staysFixed wide (execSourceQualify k yf s) := by
  unfold execSourceQualify
  dsimp only
  split <;> simp

theorem execSourceLost_fixed (wide : Bool) (k : Fin 2) (s : State) : s.staysFixed wide (execSourceLost k s) := by simp [execSourceLost]

theorem execDisciplineUpdate_fixed (wide : Bool) (s : State) : s.staysFixed wide (execDisciplineUpdate s) := by simp [execDisciplineUpdate]

theorem execYfReplace_fixed (wide : Bool) (yf : Int) (s : State) : s.staysFixed wide (execYfReplace yf s) := by simp [execYfReplace]

theorem execFirstTimeStep_fixed (wide : Bool) (s : State) : s.staysFixed wide (execFirstTimeStep s) := by
  unfold execFirstTimeStep
  split <;> simp

theorem execTimeLockHold_fixed (wide : Bool) (s : State) : s.staysFixed wide (execTimeLockHold s) := by
  unfold execTimeLockHold
  split <;> simp

theorem execHoldoverExpire_fixed (wide : Bool) (s : State) : s.staysFixed wide (execHoldoverExpire s) := by
  unfold execHoldoverExpire
  split <;> simp

theorem execLeapSecondPass_fixed (wide : Bool) (s : State) : s.staysFixed wide (execLeapSecondPass s) := by
  unfold execLeapSecondPass
  split <;> simp

theorem execPpsEdge_fixed (wide : Bool) (k : Fin 2) (s : State) : s.staysFixed wide (execPpsEdge k s) := by simp [execPpsEdge]

theorem execTimeInEdge_fixed (wide : Bool) (falling : Bool) (phase : Fin 4) (width : Nat) (s : State) :
    s.staysFixed wide (execTimeInEdge falling phase width s) := by
  simp [execTimeInEdge]

theorem execTimInLoRead_fixed (wide : Bool) (s : State) : s.staysFixed wide (execTimInLoRead s) := by simp [execTimInLoRead]

/-! #### Machine/Tracking -/

theorem execAntennaOpen_fixed (wide : Bool) (current : Nat) (s : State) : s.staysFixed wide (execAntennaOpen current s) := by
  simp [execAntennaOpen]

theorem execAntennaShort_fixed (wide : Bool) (current : Nat) (s : State) : s.staysFixed wide (execAntennaShort current s) := by
  simp [execAntennaShort]

theorem execAntennaBiasRetry_fixed (wide : Bool) (current : Nat) (s : State) : s.staysFixed wide (execAntennaBiasRetry current s) := by
  simp [execAntennaBiasRetry]

theorem execAntennaNormal_fixed (wide : Bool) (current : Nat) (s : State) : s.staysFixed wide (execAntennaNormal current s) := by
  simp [execAntennaNormal]

theorem execNotchEngage_fixed (wide : Bool) (band : Fin 2) (notch : Fin 4) (level : Nat) (freq : Int) (s : State) :
    s.staysFixed wide (execNotchEngage band notch level freq s) := by
  simp [execNotchEngage]

theorem execNotchRelease_fixed (wide : Bool) (band : Fin 2) (notch : Fin 4) (level : Nat) (s : State) :
    s.staysFixed wide (execNotchRelease band notch level s) := by
  unfold execNotchRelease
  simp only [State.staysFixed_next]
  repeat' split
  all_goals simp

theorem execInterferenceCondition_fixed (wide : Bool) (band : Fin 2) (samples : List (Int × Int)) (s : State) :
    s.staysFixed wide (execInterferenceCondition band samples s) := by
  simp [execInterferenceCondition]

theorem execSatelliteAcquired_fixed (wide : Bool) (ch : Fin 128) (a : AcqIn) (s : State) :
    s.staysFixed wide (execSatelliteAcquired ch a s) := by
  simp [execSatelliteAcquired]

theorem execL5Handover_fixed (wide : Bool) (ch : Fin 128) (offset : Int) (power : Nat) (s : State) :
    s.staysFixed wide (execL5Handover ch offset power s) := by
  simp [execL5Handover]

theorem execChannelRelease_fixed (wide : Bool) (ch : Fin 128) (s : State) : s.staysFixed wide (execChannelRelease ch s) := by
  simp [execChannelRelease]

theorem execLoopUpdate_fixed (wide : Bool) (ch : Fin 128) (band : Fin 2) (i : LoopIn) (s : State) :
    s.staysFixed wide (execLoopUpdate ch band i s) := by
  unfold execLoopUpdate
  rw [State.staysFixed_next]
  simp only [↓State.fixed_ite, ↓State.setTracker_fixed, ite_self]

theorem execPllBandwidthUpdate_fixed (wide : Bool) (ch : Fin 128) (band : Fin 2) (s : State) :
    s.staysFixed wide (execPllBandwidthUpdate ch band s) := by
  simp [execPllBandwidthUpdate]

theorem execSidePeakCorrection_fixed (wide : Bool) (ch : Fin 128) (band : Fin 2) (s : State) :
    s.staysFixed wide (execSidePeakCorrection ch band s) := by
  simp [execSidePeakCorrection]

theorem execCarrierLockLoss_fixed (wide : Bool) (ch : Fin 128) (band : Fin 2) (s : State) :
    s.staysFixed wide (execCarrierLockLoss ch band s) := by
  simp [execCarrierLockLoss]

theorem execCodeLockLoss_fixed (wide : Bool) (ch : Fin 128) (band : Fin 2) (s : State) :
    s.staysFixed wide (execCodeLockLoss ch band s) := by
  simp [execCodeLockLoss]

/-! #### Machine/Sky -/

theorem execMeasurementEpoch_fixed (clkBias : Option Int) (clkDrift : Int) (s : State) :
    s.staysFixed false (execMeasurementEpoch clkBias clkDrift s) := by
  simp [execMeasurementEpoch]

theorem execNavRecord_fixed (ch : Fin 128) (band : Fin 2) (i : NavIn) (s : State) : s.staysFixed false (execNavRecord ch band i s) := by
  unfold execNavRecord
  extract_lets c t
  rw [State.staysFixed_next]
  split
  · split
    · rfl
    · split
      next bits result words =>
      extract_lets payload head bytes
      have hc := State.corrupt_fixed false s 2
      generalize s.corrupt 2 = x at hc
      obtain ⟨bad, u⟩ := x
      dsimp only at hc ⊢
      split
      · split <;> simp [hc]
      · simp [hc]
  · rfl

theorem execSkyHotRestart_fixed (wide : Bool) (s : State) : s.staysFixed wide (execSkyHotRestart s) := by simp [execSkyHotRestart]

theorem execSkyColdRestart_fixed (wide : Bool) (s : State) : s.staysFixed wide (execSkyColdRestart s) := by simp [execSkyColdRestart]

theorem execEpochRateChange_fixed (wide : Bool) (s : State) : s.staysFixed wide (execEpochRateChange s) := by
  unfold execEpochRateChange
  rw [State.staysFixed_next]
  split
  · simp only [↓State.fixed_ite, ↓State.foldl_fixed, ↓State.setTracker_fixed, ↓State.releaseChan_fixed, ↓State.fixed_with,
      ↓State.setFld_fixed, implies_true, ite_self]
  · rfl

/-! #### Machine/Rtk -/

theorem execRtkShedStep_fixed (wide : Bool) (s : State) : s.staysFixed wide (execRtkShedStep s) := by simp [execRtkShedStep]

theorem execRtkRateChange_fixed (wide : Bool) (s : State) : s.staysFixed wide (execRtkRateChange s) := by simp [execRtkRateChange]

theorem execObservationIntake_fixed (wide : Bool) (slot : Fin 128) (body : List Byte) (s : State) :
    s.staysFixed wide (execObservationIntake slot body s) := by
  simp [execObservationIntake]

theorem execRtkCycle_fixed (wide : Bool) (sols : List RtkSol) (s : State) : s.staysFixed wide (execRtkCycle sols s) := by
  simp [execRtkCycle]

theorem execArDeadlineCut_fixed (wide : Bool) (s : State) : s.staysFixed wide (execArDeadlineCut s) := by simp [execArDeadlineCut]

theorem execFixLostNone_fixed (wide : Bool) (slot : Fin 128) (s : State) : s.staysFixed wide (execFixLostNone slot s) := by
  simp [execFixLostNone]

theorem execIonoFreeSwitch_fixed (wide : Bool) (slot : Fin 128) (s : State) : s.staysFixed wide (execIonoFreeSwitch slot s) := by
  simp [execIonoFreeSwitch]

theorem execRtkArDisable_fixed (wide : Bool) (s : State) : s.staysFixed wide (execRtkArDisable s) := by simp [execRtkArDisable]

theorem execRtkCntClr_fixed (wide : Bool) (s : State) : s.staysFixed wide (execRtkCntClr s) := by simp [execRtkCntClr]

/-! #### Machine/SignalBox -/

theorem execAuthorityExpiry_fixed (wide : Bool) (slot : Fin 128) (s : State) : s.staysFixed wide (execAuthorityExpiry slot s) := by
  simp [execAuthorityExpiry]

theorem execReleasingExpiry_fixed (wide : Bool) (slot : Fin 128) (s : State) : s.staysFixed wide (execReleasingExpiry slot s) := by
  simp [execReleasingExpiry]

theorem execAvoidExpiry_fixed (wide : Bool) (slot : Fin 128) (s : State) : s.staysFixed wide (execAvoidExpiry slot s) := by
  simp [execAvoidExpiry]

theorem execWithdrawTimeout_fixed (wide : Bool) (slot : Fin 128) (s : State) : s.staysFixed wide (execWithdrawTimeout slot s) := by
  simp [execWithdrawTimeout]

theorem execPreviewExpiry_fixed (wide : Bool) (slot : Fin 128) (s : State) : s.staysFixed wide (execPreviewExpiry slot s) := by
  unfold execPreviewExpiry
  simp only [State.staysFixed_next]
  repeat' split
  all_goals simp

theorem execPreviewDisable_fixed (wide : Bool) (s : State) : s.staysFixed wide (execPreviewDisable s) := by simp [execPreviewDisable]

theorem execSbxCntClr_fixed (wide : Bool) (s : State) : s.staysFixed wide (execSbxCntClr s) := by simp [execSbxCntClr]

theorem execSbxMapStageDone_fixed (wide : Bool) (s : State) : s.staysFixed wide (execSbxMapStageDone s) := by
  unfold execSbxMapStageDone
  simp only [State.staysFixed_next]
  repeat' split
  all_goals simp

/-! #### Machine/Allotment -/

theorem execAllotRoundStart_fixed (wide : Bool) (s : State) : s.staysFixed wide (execAllotRoundStart s) := by simp [execAllotRoundStart]

theorem execAllotRoundEnd_fixed (wide : Bool) (s : State) : s.staysFixed wide (execAllotRoundEnd s) := by
  unfold execAllotRoundEnd
  split <;> simp

theorem execAllotRoundTimeout_fixed (wide : Bool) (phases : Nat) (s : State) : s.staysFixed wide (execAllotRoundTimeout phases s) := by
  unfold execAllotRoundTimeout
  split <;> simp

theorem execRouteSearch_fixed (wide : Bool) (slot : Fin 128) (route : List Nat) (s : State) :
    s.staysFixed wide (execRouteSearch slot route s) := by
  simp [execRouteSearch]

theorem execRouteRefusalRetry_fixed (wide : Bool) (slot : Fin 128) (route : List Nat) (s : State) :
    s.staysFixed wide (execRouteRefusalRetry slot route s) := by
  simp [execRouteRefusalRetry]

theorem execRerouteAnswer_fixed (wide : Bool) (slot : Fin 128) (route : List Nat) (s : State) :
    s.staysFixed wide (execRerouteAnswer slot route s) := by
  unfold execRerouteAnswer
  simp only [State.staysFixed_next]
  repeat' split
  all_goals simp

theorem execRaEnClear_fixed (wide : Bool) (s : State) : s.staysFixed wide (execRaEnClear s) := by simp [execRaEnClear]

theorem execAltCntClr_fixed (wide : Bool) (s : State) : s.staysFixed wide (execAltCntClr s) := by simp [execAltCntClr]

theorem execAltLandmarksDone_fixed (wide : Bool) (s : State) : s.staysFixed wide (execAltLandmarksDone s) := by
  unfold execAltLandmarksDone
  simp only [State.staysFixed_next]
  repeat' split
  all_goals simp

/-! #### Machine/Timetabler -/

theorem execTtbCamStageDone_fixed (wide : Bool) (s : State) : s.staysFixed wide (execTtbCamStageDone s) := by
  unfold execTtbCamStageDone
  simp only [State.staysFixed_next]
  repeat' split
  all_goals simp

theorem execProfilePlan_fixed (wide : Bool) (s : State) : s.staysFixed wide (execProfilePlan s) := by
  unfold execProfilePlan
  simp only [State.staysFixed_next]
  repeat' split
  all_goals simp

theorem execAuthorityCommit_fixed (wide : Bool) (us : Nat) (s : State) : s.staysFixed wide (execAuthorityCommit us s) := by
  simp [execAuthorityCommit]

theorem execProfileWordBoundary_fixed (wide : Bool) (slot : Fin 128) (s : State) : s.staysFixed wide (execProfileWordBoundary slot s) := by
  simp [execProfileWordBoundary]

theorem execTtbCntClr_fixed (wide : Bool) (s : State) : s.staysFixed wide (execTtbCntClr s) := by simp [execTtbCntClr]

/-! #### Machine/Pass -/

theorem execSbxPass_fixed (wide : Bool) (us : Nat) (s : State) : s.staysFixed wide (execSbxPass us s) := by simp [execSbxPass]

theorem execRouteRequest_fixed (wide : Bool) (s : State) : s.staysFixed wide (execRouteRequest s) := by
  unfold execRouteRequest
  split <;> simp

/-! #### Machine/Lanes -/

theorem execLaneSelfTestDone_fixed (lane : Fin 2) (pass : Bool) (s : State) : s.staysFixed false (execLaneSelfTestDone lane pass s) := by
  simp [execLaneSelfTestDone]

theorem execLaneDiagFail_fixed (wide : Bool) (lane : Fin 2) (cause : Fin 9) (engine : Byte) (offset : Word) (s : State) :
    s.staysFixed wide (execLaneDiagFail lane cause engine offset s) := by
  simp [execLaneDiagFail]

theorem execHeartbeatLoss_fixed (wide : Bool) (lane : Fin 2) (s : State) : s.staysFixed wide (execHeartbeatLoss lane s) := by
  simp [execHeartbeatLoss]

theorem execEngineWatchdog_fixed (wide : Bool) (lane : Fin 2) (engine : Byte) (s : State) :
    s.staysFixed wide (execEngineWatchdog lane engine s) := by
  simp [execEngineWatchdog]

theorem execLaneScrub_fixed (wide : Bool) (lane : Fin 2) (corrected : BitVec 16) (bad : Option Byte) (s : State) :
    s.staysFixed wide (execLaneScrub lane corrected bad s) := by
  unfold execLaneScrub
  split <;> simp

theorem execDigestCompare_fixed (wide : Bool) (a b : Option (BitVec 64)) (s : State) :
    s.staysFixed wide (execDigestCompare a b s) := by
  unfold execDigestCompare
  extract_lets due post missing
  rw [State.staysFixed_next]
  split
  · rfl
  · split
    · rfl
    · next t₀ late t _ off len _ _ =>
      have hu : t.fixed wide = s.fixed wide := by
        simp only [t, late, t₀, ↓State.fixed_ite, ↓State.laneFail_fixed, ↓State.fixed_with, ite_self]
      split
      · exact hu
      · split <;> simp [hu]

theorem execRescrubDone_fixed (wide : Bool) (bad : Option (Fin 2 × Byte)) (s : State) : s.staysFixed wide (execRescrubDone bad s) := by
  unfold execRescrubDone
  simp only [State.staysFixed_next]
  repeat' split
  all_goals simp

theorem execMismatchWindowEnd_fixed (wide : Bool) (s : State) : s.staysFixed wide (execMismatchWindowEnd s) := by
  unfold execMismatchWindowEnd
  split <;> simp

theorem execRackPrecopyDone_fixed (wide : Bool) (s : State) : s.staysFixed wide (execRackPrecopyDone s) := by simp [execRackPrecopyDone]

theorem execRackPoint_fixed (wide : Bool) (good : Bool) (s : State) : s.staysFixed wide (execRackPoint good s) := by
  unfold execRackPoint
  split <;> simp

theorem execLaneRestore_fixed (wide : Bool) (lane : Fin 2) (s : State) : s.staysFixed wide (execLaneRestore lane s) := by
  simp [execLaneRestore]

theorem execLanCntClr_fixed (wide : Bool) (s : State) : s.staysFixed wide (execLanCntClr s) := by simp [execLanCntClr]

/-! #### Machine/Snapshot -/

theorem execBulkUpReceive_fixed (wide : Bool) (port : Fin 4) (bytes : List Byte) (s : State) :
    s.staysFixed wide (execBulkUpReceive port bytes s) := by
  unfold execBulkUpReceive
  rw [State.staysFixed_next]
  split
  · next h => split <;> simp [State.fixed_of_rxCheck h]
  · next h => exact State.fixed_of_rxCheck h

theorem execSnapshotMissing_fixed (wide : Bool) (slot : Fin 128) (s : State) : s.staysFixed wide (execSnapshotMissing slot s) := by
  unfold execSnapshotMissing
  dsimp only
  split <;> simp

theorem execSnapshotAsmTimeout_fixed (wide : Bool) (slot : Fin 128) (s : State) : s.staysFixed wide (execSnapshotAsmTimeout slot s) := by
  unfold execSnapshotAsmTimeout
  dsimp only
  split <;> simp

theorem execSnapshotSolveStart_fixed (wide : Bool) (s : State) : s.staysFixed wide (execSnapshotSolveStart s) := by
  unfold execSnapshotSolveStart
  simp only [State.staysFixed_next]
  repeat' split
  all_goals simp

theorem execSnapshotSolveDone_fixed (wide : Bool) (s : State) : s.staysFixed wide (execSnapshotSolveDone s) := by
  unfold execSnapshotSolveDone
  simp only [State.staysFixed_next]
  repeat' split
  all_goals simp

theorem execSnapshotSolveTimeout_fixed (wide : Bool) (s : State) : s.staysFixed wide (execSnapshotSolveTimeout s) := by
  unfold execSnapshotSolveTimeout
  simp only [State.staysFixed_next]
  repeat' split
  all_goals simp

theorem execSnpFlush_fixed (wide : Bool) (s : State) : s.staysFixed wide (execSnpFlush s) := by simp [execSnpFlush]

theorem execSnpDisable_fixed (wide : Bool) (s : State) : s.staysFixed wide (execSnpDisable s) := by simp [execSnpDisable]

theorem execSnpCntClr_fixed (wide : Bool) (s : State) : s.staysFixed wide (execSnpCntClr s) := by simp [execSnpCntClr]

/-! #### Machine/Arbiters -/

theorem execPowerReevaluate_fixed (vout : BitVec 11) (s : State) : s.staysFixed false (execPowerReevaluate vout s) := by
  simp [execPowerReevaluate]

theorem execEvtPendClear_fixed (wide : Bool) (i : Fin 3) (mask : Word) (s : State) : s.staysFixed wide (execEvtPendClear i mask s) := by
  simp [execEvtPendClear]

theorem execEvtEnWrite_fixed (wide : Bool) (i : Fin 3) (value : Word) (s : State) : s.staysFixed wide (execEvtEnWrite i value s) := by
  simp [execEvtEnWrite]

/-! #### Machine/Keys -/

theorem execSecCntClr_fixed (wide : Bool) (s : State) : s.staysFixed wide (execSecCntClr s) := by simp [execSecCntClr]

theorem execKeyMaskRedraw_fixed (s : State) : s.staysFixed false (execKeyMaskRedraw s) := by simp [execKeyMaskRedraw]

theorem execTamperConditionEnd_fixed (k : Fin 6) (s : State) : s.staysFixed false (execTamperConditionEnd k s) := by
  simp [execTamperConditionEnd]

/-! #### Machine/Cellar -/

theorem execCbkRecordWrite_fixed (wide : Bool) (fails : Fin 3) (s : State) : s.staysFixed wide (execCbkRecordWrite fails s) := by
  unfold execCbkRecordWrite
  split <;> simp

theorem execCbkFreezeTimeout_fixed (wide : Bool) (s : State) : s.staysFixed wide (execCbkFreezeTimeout s) := by simp [execCbkFreezeTimeout]

theorem execCbkCntClr_fixed (wide : Bool) (s : State) : s.staysFixed wide (execCbkCntClr s) := by simp [execCbkCntClr]

/-! #### Machine/Images -/

theorem execImageTransferTimeout_fixed (wide : Bool) (s : State) : s.staysFixed wide (execImageTransferTimeout s) := by
  simp [execImageTransferTimeout]

theorem execRelayReceiveTimeout_fixed (wide : Bool) (s : State) : s.staysFixed wide (execRelayReceiveTimeout s) := by
  simp [execRelayReceiveTimeout]

theorem execImageVerifyDone_fixed (wide : Bool) (s : State) : s.staysFixed wide (execImageVerifyDone s) := by
  unfold execImageVerifyDone
  split <;> simp

theorem execBankWriteDone_fixed (wide : Bool) (good : Bool) (s : State) : s.staysFixed wide (execBankWriteDone good s) := by
  unfold execBankWriteDone
  split <;> simp

theorem execUpdAbort_fixed (wide : Bool) (s : State) : s.staysFixed wide (execUpdAbort s) := by simp [execUpdAbort]

theorem execUpdCntClr_fixed (wide : Bool) (s : State) : s.staysFixed wide (execUpdCntClr s) := by simp [execUpdCntClr]

theorem execImageStatusSend_fixed (wide : Bool) (s : State) : s.staysFixed wide (execImageStatusSend s) := by
  unfold execImageStatusSend
  split <;> simp

theorem execRelayBusyRetry_fixed (wide : Bool) (n : Fin 2) (s : State) : s.staysFixed wide (execRelayBusyRetry n s) := by
  simp [execRelayBusyRetry]

theorem execRelayFail_fixed (wide : Bool) (n : Fin 2) (s : State) : s.staysFixed wide (execRelayFail n s) := by simp [execRelayFail]

theorem execDecantVoteEnd_fixed (wide : Bool) (s : State) : s.staysFixed wide (execDecantVoteEnd s) := by
  unfold execDecantVoteEnd
  split <;> simp

theorem execDecantHoldCheck_fixed (wide : Bool) (s : State) : s.staysFixed wide (execDecantHoldCheck s) := by
  unfold execDecantHoldCheck
  simp only [State.staysFixed_next]
  repeat' split
  all_goals simp

/-! #### Machine/Ethernet -/

theorem execEthLinkUp_fixed (wide : Bool) (n : Fin 2) (fast : Bool) (s : State) : s.staysFixed wide (execEthLinkUp n fast s) := by
  simp [execEthLinkUp]

theorem execEthLinkDown_fixed (wide : Bool) (n : Fin 2) (s : State) : s.staysFixed wide (execEthLinkDown n s) := by simp [execEthLinkDown]

theorem execPreemptVerify_fixed (wide : Bool) (n : Fin 2) (answered : Bool) (s : State) :
    s.staysFixed wide (execPreemptVerify n answered s) := by
  simp [execPreemptVerify]

theorem execAddressAgeOut_fixed (wide : Bool) (mac : Nat) (s : State) : s.staysFixed wide (execAddressAgeOut mac s) := by
  simp [execAddressAgeOut]

theorem execPauseWatchdog_fixed (wide : Bool) (n : Fin 2) (s : State) : s.staysFixed wide (execPauseWatchdog n s) := by
  simp [execPauseWatchdog]

theorem execPauseIgnoreEnd_fixed (wide : Bool) (n : Fin 2) (s : State) : s.staysFixed wide (execPauseIgnoreEnd n s) := by
  simp [execPauseIgnoreEnd]

theorem execHelloSend_fixed (wide : Bool) (n : Fin 2) (s : State) : s.staysFixed wide (execHelloSend n s) := by simp [execHelloSend]

theorem execNeighbourTimeout_fixed (wide : Bool) (n : Fin 2) (s : State) : s.staysFixed wide (execNeighbourTimeout n s) := by
  simp [execNeighbourTimeout]

theorem execMdioGo_fixed (wide : Bool) (value : Word) (s : State) : s.staysFixed wide (execMdioGo value s) := by simp [execMdioGo]

theorem execMdioDone_fixed (wide : Bool) (data : BitVec 16) (s : State) : s.staysFixed wide (execMdioDone data s) := by simp [execMdioDone]

theorem execEthCntClr_fixed (wide : Bool) (s : State) : s.staysFixed wide (execEthCntClr s) := by simp [execEthCntClr]

/-! #### Machine/Metering -/

theorem execMeteringSample_fixed (wide : Bool) (x0 x1 : MtrIn) (s : State) : s.staysFixed wide (execMeteringSample x0 x1 s) := by
  simp [execMeteringSample]

theorem execEpulseEmit_fixed (wide : Bool) (k : Fin 4) (s : State) : s.staysFixed wide (execEpulseEmit k s) := by simp [execEpulseEmit]

theorem execMeterSecond_fixed (wide : Bool) (freq0 freq1 : Nat) (s : State) : s.staysFixed wide (execMeterSecond freq0 freq1 s) := by
  simp [execMeterSecond]

theorem execHarmonicWindowEnd_fixed (wide : Bool) (p : Fin 2) (x : WindowIn) (s : State) :
    s.staysFixed wide (execHarmonicWindowEnd p x s) := by
  simp [execHarmonicWindowEnd]

theorem execMeterFaultChange_fixed (wide : Bool) (p : Fin 2) (flag : Fin 7) (s : State) :
    s.staysFixed wide (execMeterFaultChange p flag s) := by
  simp [execMeterFaultChange]

theorem execChannelFault_fixed (wide : Bool) (p : Fin 2) (channel : Fin 7) (cause : Fin 3) (s : State) :
    s.staysFixed wide (execChannelFault p channel cause s) := by
  simp [execChannelFault]

theorem execDemandIntervalEnd_fixed (wide : Bool) (s : State) : s.staysFixed wide (execDemandIntervalEnd s) := by
  simp [execDemandIntervalEnd]

theorem execDemClr_fixed (wide : Bool) (s : State) : s.staysFixed wide (execDemClr s) := by simp [execDemClr]

theorem execMtrCntClr_fixed (wide : Bool) (s : State) : s.staysFixed wide (execMtrCntClr s) := by simp [execMtrCntClr]

theorem execEnergyNorCopy_fixed (wide : Bool) (good : Bool) (s : State) : s.staysFixed wide (execEnergyNorCopy good s) := by
  simp [execEnergyNorCopy]

theorem execEnergyCopyRetry_fixed (wide : Bool) (good : Bool) (s : State) : s.staysFixed wide (execEnergyCopyRetry good s) := by
  simp [execEnergyCopyRetry]

theorem execMeterFrontEndRestart_fixed (wide : Bool) (s : State) : s.staysFixed wide (execMeterFrontEndRestart s) := by
  unfold execMeterFrontEndRestart
  split <;> simp

/-! #### Machine/Ptp -/

theorem execPdelayReqSend_fixed (wide : Bool) (n : Fin 2) (s : State) : s.staysFixed wide (execPdelayReqSend n s) := by
  simp [execPdelayReqSend]

theorem execPtpAnnounceTimeout_fixed (wide : Bool) (s : State) : s.staysFixed wide (execPtpAnnounceTimeout s) := by
  simp [execPtpAnnounceTimeout]

theorem execPtpDelayReqSend_fixed (wide : Bool) (s : State) : s.staysFixed wide (execPtpDelayReqSend s) := by simp [execPtpDelayReqSend]

theorem execPtpSyncSend_fixed (wide : Bool) (s : State) : s.staysFixed wide (execPtpSyncSend s) := by simp [execPtpSyncSend]

theorem execPtpAnnounceSend_fixed (wide : Bool) (s : State) : s.staysFixed wide (execPtpAnnounceSend s) := by simp [execPtpAnnounceSend]

/-! #### Machine/Radio -/

theorem execSuperframeStart_fixed (wide : Bool) (s : State) : s.staysFixed wide (execSuperframeStart s) := by simp [execSuperframeStart]

theorem execFirstBeacon_fixed (wide : Bool) (port : Fin 4) (s : State) : s.staysFixed wide (execFirstBeacon port s) := by
  simp [execFirstBeacon]

theorem execDownlinkRun_fixed (wide : Bool) (slot : Fin 128) (s : State) : s.staysFixed wide (execDownlinkRun slot s) := by
  unfold execDownlinkRun
  split <;> simp

theorem execBulkDownRun_fixed (wide : Bool) (port : Fin 4) (s : State) : s.staysFixed wide (execBulkDownRun port s) := by
  unfold execBulkDownRun
  simp only [State.staysFixed_next]
  repeat' split
  all_goals simp

theorem execUpFrameReceive_fixed (wide : Bool) (port : Fin 4) (bytes : List Byte) (rxts : Nat) (rssi : Int) (s : State) :
    s.staysFixed wide (execUpFrameReceive port bytes rxts rssi s) := by
  unfold execUpFrameReceive
  rw [State.staysFixed_next]
  dsimp only
  split
  · next h =>
    split
    · exact State.fixed_of_rxCheck h
    · split
      · exact (State.satInc_fixed ..).trans (State.fixed_of_rxCheck h)
      · split <;> simp [State.fixed_of_rxCheck h]
  · next h => exact State.fixed_of_rxCheck h

theorem execRadioRxError_fixed (wide : Bool) (port : Fin 4) (s : State) : s.staysFixed wide (execRadioRxError port s) := by
  simp [execRadioRxError]

theorem execUplinkMiss_fixed (wide : Bool) (slot : Fin 128) (s : State) : s.staysFixed wide (execUplinkMiss slot s) := by
  unfold execUplinkMiss
  split <;> simp

theorem execJoinReceive_fixed (wide : Bool) (port : Fin 4) (bytes : List Byte) (s : State) :
    s.staysFixed wide (execJoinReceive port bytes s) := by
  unfold execJoinReceive
  rw [State.staysFixed_next]
  dsimp only
  split
  · next h =>
    split
    · exact State.fixed_of_rxCheck h
    · split <;> simp [State.fixed_of_rxCheck h]
  · next h => exact State.fixed_of_rxCheck h

theorem execJoinAnswer_fixed (wide : Bool) (port : Fin 4) (s : State) : s.staysFixed wide (execJoinAnswer port s) := by
  unfold execJoinAnswer
  dsimp only
  split <;> simp

theorem execEvictionComplete_fixed (wide : Bool) (slot : Fin 128) (s : State) : s.staysFixed wide (execEvictionComplete slot s) := by
  simp [execEvictionComplete]

theorem execSlotTableSwitch_fixed (wide : Bool) (s : State) : s.staysFixed wide (execSlotTableSwitch s) := by
  unfold execSlotTableSwitch
  rw [State.staysFixed_next]
  split
  · dsimp only
    split
    · rfl
    · rw [State.tableEvent_fixed, State.foldl_fixed]
      · simp only [↓State.foldl_fixed, ↓State.setPort_fixed, ↓State.fixed_with, ↓State.setFld_fixed, implies_true]
      · intro t a
        split <;> simp
  · rfl

theorem execStopFrameArm_fixed (wide : Bool) (port : Fin 4) (back : ReadBack) (s : State) :
    s.staysFixed wide (execStopFrameArm port back s) := by
  simp [execStopFrameArm]

theorem execArmReadback_fixed (wide : Bool) (port : Fin 4) (back : ReadBack) (s : State) :
    s.staysFixed wide (execArmReadback port back s) := by
  simp [execArmReadback]

theorem execStpTxRepeat_fixed (wide : Bool) (s : State) : s.staysFixed wide (execStpTxRepeat s) := by simp [execStpTxRepeat]

theorem execRadCntClr_fixed (wide : Bool) (s : State) : s.staysFixed wide (execRadCntClr s) := by simp [execRadCntClr]

/-! #### Machine/Restart -/

theorem execHubStart_fixed (ok0 ok1 : Bool) (torn : Fin 32) (s : State) : s.staysFixed false (execHubStart ok0 ok1 torn s) := by
  simp [execHubStart]

theorem execBootFallback_fixed (s : State) : s.staysFixed false (execBootFallback s) := by simp [execBootFallback]

theorem execColdStartReady_fixed (lane : Fin 2) (s : State) : s.staysFixed false (execColdStartReady lane s) := by simp [execColdStartReady]

theorem execDecantRun_fixed (s : State) : s.staysFixed false (execDecantRun s) := by
  unfold execDecantRun
  split <;> simp

theorem execDecantAtTd_fixed (s : State) : s.staysFixed false (execDecantAtTd s) := by
  unfold execDecantAtTd
  split <;> simp

/-! #### Machine/Wake -/

theorem execWakeIn_fixed (s : State) : s.staysFixed false (execWakeIn s) := by simp [execWakeIn]

theorem execWakeTimer_fixed (s : State) : s.staysFixed false (execWakeTimer s) := by simp [execWakeTimer]

theorem execWakeFrame_fixed (n : Fin 2) (x : EthIn) (s : State) : s.staysFixed false (execWakeFrame n x s) := by simp [execWakeFrame]

/-! #### Machine/Power -/

theorem execVinBelowWarn_fixed (mv : BitVec 16) (s : State) : s.staysFixed false (execVinBelowWarn mv s) := by
  unfold execVinBelowWarn
  rw [State.staysFixed_next]
  dsimp only
  split
  · rfl
  · split <;> simp only [↓State.fixed_with, ↓State.setFld_fixed, ↓State.atWarn_fixed, ↓State.warnEvent_fixed]

theorem execSupplyDipLong_fixed (s : State) : s.staysFixed false (execSupplyDipLong s) := by
  unfold execSupplyDipLong
  split <;> simp

theorem execVinAtOrAboveWarn_fixed (wide : Bool) (mv : BitVec 16) (s : State) : s.staysFixed wide (execVinAtOrAboveWarn mv s) := by
  simp only [execVinAtOrAboveWarn, State.staysFixed_next, ↓State.fixed_with, ↓State.fixed_ite,
    ↓State.setFld_fixed, ↓State.sourceOff_fixed, ite_self]

theorem execVinDipEnd_fixed (lowest : BitVec 16) (s : State) : s.staysFixed false (execVinDipEnd lowest s) := by
  unfold execVinDipEnd
  simp only [State.staysFixed_next]
  repeat' split
  all_goals simp

theorem execVsysResetLevel_fixed (wide : Bool) (mv : BitVec 16) (s : State) : s.staysFixed wide (execVsysResetLevel mv s) := by
  simp only [execVsysResetLevel, State.staysFixed_next, ↓State.fixed_with, ↓State.fixed_ite,
    ↓State.setFld_fixed, ↓State.sourceOn_fixed, ite_self]

theorem execBrownOutReset_fixed (s : State) : s.staysFixed false (execBrownOutReset s) := by
  unfold execBrownOutReset
  split <;> simp

theorem execPowerOn_fixed (low : Bool) (away : Nat) (s : State) : s.staysFixed false (execPowerOn low away s) := by simp [execPowerOn]

theorem execPwrCntClr_fixed (wide : Bool) (s : State) : s.staysFixed wide (execPwrCntClr s) := by simp [execPwrCntClr]

theorem execVbatLow_fixed (wide : Bool) (mv : BitVec 16) (s : State) : s.staysFixed wide (execVbatLow mv s) := by simp [execVbatLow]

theorem execVbatLowEnd_fixed (wide : Bool) (mv : BitVec 16) (s : State) : s.staysFixed wide (execVbatLowEnd mv s) := by
  simp [execVbatLowEnd]

theorem execVoutTrip_fixed (wide : Bool) (s : State) : s.staysFixed wide (execVoutTrip s) := by simp [execVoutTrip]

theorem execVoutRestart_fixed (wide : Bool) (s : State) : s.staysFixed wide (execVoutRestart s) := by
  unfold execVoutRestart
  split <;> simp

theorem execRefclkLost_fixed (err : Int) (s : State) : s.staysFixed false (execRefclkLost err s) := by
  unfold execRefclkLost
  rw [State.staysFixed_next]
  split
  · rfl
  · extract_lets p t gone q u v
    have hv : v.fixed false = s.fixed false :=
      (State.selectSource_fixed ..).trans ((State.setRate_fixed ..).trans ((State.fixed_with false t ..).trans (State.syncPwr_fixed ..)))
    split
    · exact hv
    · rw [State.wakeExit_fixed, State.sourceOn_fixed, State.linkDown_fixed, State.linkDown_fixed, State.reacquire_fixed,
        State.warnEvent_fixed, hv]

theorem execRefclkRestored_fixed (wide : Bool) (s : State) : s.staysFixed wide (execRefclkRestored s) := by
  unfold execRefclkRestored
  split <;> simp

theorem execAvfsReading_fixed (wide : Bool) (lane : Fin 2) (m : Byte) (s : State) : s.staysFixed wide (execAvfsReading lane m s) := by
  simp [execAvfsReading]

theorem execDieTempHigh_fixed (wide : Bool) (temp : BitVec 16) (s : State) : s.staysFixed wide (execDieTempHigh temp s) := by
  simp [execDieTempHigh]

theorem execPinReset_fixed (s : State) : s.staysFixed false (execPinReset s) := by simp [execPinReset]

theorem execHubWatchdog_fixed (s : State) : s.staysFixed false (execHubWatchdog s) := by simp [execHubWatchdog]

theorem execHubRst_fixed (s : State) : s.staysFixed false (execHubRst s) := by simp [execHubRst]

theorem execDormantEntryComplete_fixed (s : State) : s.staysFixed false (execDormantEntryComplete s) := by simp [execDormantEntryComplete]

theorem execTamperDetect_fixed (k : Fin 6) (temp : BitVec 16) (s : State) : s.staysFixed false (execTamperDetect k temp s) := by
  simp only [execTamperDetect, State.staysFixed_next, ↓State.fixed_with, ↓State.fixed_false_with, ↓State.fixed_ite,
    ↓State.setFld_fixed, ↓State.wakeExit_fixed, ↓State.tamper_fixed, ite_self]

/-! #### Machine/Scheduler -/

theorem execWorkItemAdmit_fixed (flow : Fin 4096) (atomic_ : Bool) (mask : Word) (all : Bool) (timeout : BitVec 16) (siding : Option (Fin
    8 × BitVec 16)) (s : State) :
    s.staysFixed false (execWorkItemAdmit flow atomic_ mask all timeout siding s) := by
  simp only [execWorkItemAdmit, State.staysFixed_next, ↓State.fixed_false_with, ↓State.fixed_ite,
    ↓State.rejectItem_fixed, ↓State.runSch_fixed, ↓State.satInc_fixed, ↓State.syncSch_fixed, ↓State.raise_fixed, ite_self]

theorem execEventFlagPost_fixed (item : Nat) (flags : Word) (s : State) : s.staysFixed false (execEventFlagPost item flags s) := by
  simp [execEventFlagPost]

theorem execSidingDue_fixed (s : State) : s.staysFixed false (execSidingDue s) := by simp [execSidingDue]

theorem execWaitTimeout_fixed (s : State) : s.staysFixed false (execWaitTimeout s) := by simp [execWaitTimeout]

theorem execAtomicEnEffect_fixed (wide : Bool) (s : State) : s.staysFixed wide (execAtomicEnEffect s) := by simp [execAtomicEnEffect]

theorem execSchCntClr_fixed (wide : Bool) (s : State) : s.staysFixed wide (execSchCntClr s) := by simp [execSchCntClr]

/-! #### Machine/Stop -/

theorem execStopInputActive_fixed (k : Fin 2) (s : State) : s.staysFixed false (execStopInputActive k s) := by simp [execStopInputActive]

theorem execStopInputInactive_fixed (wide : Bool) (k : Fin 2) (s : State) : s.staysFixed wide (execStopInputInactive k s) := by
  simp [execStopInputInactive]

theorem execStopDiscrepancy_fixed (s : State) : s.staysFixed false (execStopDiscrepancy s) := by simp [execStopDiscrepancy]

theorem execDiscClr_fixed (wide : Bool) (s : State) : s.staysFixed wide (execDiscClr s) := by simp [execDiscClr]

theorem execHubCheckFail_fixed (cause : Fin 3) (s : State) : s.staysFixed false (execHubCheckFail cause s) := by simp [execHubCheckFail]

theorem execChainStopReceive_fixed (wide : Bool) (n : Fin 2) (frame : List Byte) (s : State) :
    s.staysFixed wide (execChainStopReceive n frame s) := by
  unfold execChainStopReceive
  split <;> simp

theorem execChainStopRepeat_fixed (wide : Bool) (s : State) : s.staysFixed wide (execChainStopRepeat s) := by simp [execChainStopRepeat]

theorem execChainSourceTimeout_fixed (wide : Bool) (s : State) : s.staysFixed wide (execChainSourceTimeout s) := by
  simp [execChainSourceTimeout]

theorem execStopReleaseDue_fixed (wide : Bool) (s : State) : s.staysFixed wide (execStopReleaseDue s) := by
  unfold execStopReleaseDue
  split <;> simp

theorem execTargetReleaseDue_fixed (wide : Bool) (s : State) : s.staysFixed wide (execTargetReleaseDue s) := by simp [execTargetReleaseDue]

/-! #### Machine/Test -/

theorem execTstAutolock_fixed (wide : Bool) (s : State) : s.staysFixed wide (execTstAutolock s) := by simp [execTstAutolock]

theorem execTstClrAll_fixed (wide : Bool) (s : State) : s.staysFixed wide (execTstClrAll s) := by simp [execTstClrAll]

theorem execTstErrGo_fixed (wide : Bool) (s : State) : s.staysFixed wide (execTstErrGo s) := by simp [execTstErrGo]

theorem execTstCrcGo_fixed (wide : Bool) (s : State) : s.staysFixed wide (execTstCrcGo s) := by simp [execTstCrcGo]

theorem execTstJitWrite_fixed (wide : Bool) (value : Word) (s : State) : s.staysFixed wide (execTstJitWrite value s) := by
  simp [execTstJitWrite]

/-! #### Machine/Traffic -/

theorem execQueueCommit_fixed (wide : Bool) (q : Fin 64) (len : Fin 4089) (more : Bool) (gen engine : Byte) (seq : Word) (s : State) :
    s.staysFixed wide (execQueueCommit q len more gen engine seq s) := by
  simp [execQueueCommit]

theorem execPacketRewind_fixed (wide : Bool) (q : Fin 64) (s : State) : s.staysFixed wide (execPacketRewind q s) := by
  simp [execPacketRewind]

theorem execQueueRack_fixed (wide : Bool) (q : Fin 64) (s : State) : s.staysFixed wide (execQueueRack q s) := by simp [execQueueRack]

theorem execQueueReadError_fixed (wide : Bool) (q : Fin 64) (double : Bool) (source : Fin 88) (reply : Option (Nat × Nat × Nat)) (s :
    State) :
    s.staysFixed wide (execQueueReadError q double source reply s) := by
  unfold execQueueReadError
  dsimp only
  split <;> simp

theorem execQueueFullTimeout_fixed (wide : Bool) (q : Fin 8) (s : State) : s.staysFixed wide (execQueueFullTimeout q s) := by
  simp [execQueueFullTimeout]

theorem execQueFlush_fixed (wide : Bool) (s : State) : s.staysFixed wide (execQueFlush s) := by simp [execQueFlush]

theorem execQueCntClr_fixed (wide : Bool) (s : State) : s.staysFixed wide (execQueCntClr s) := by simp [execQueCntClr]

/-! #### Machine/Registers -/

theorem execSysTtPosRead_fixed (s : State) : s.staysFixed false (execSysTtPosRead s) := by simp [execSysTtPosRead]

theorem execSvbCntClr_fixed (wide : Bool) (s : State) : s.staysFixed wide (execSvbCntClr s) := by simp [execSvbCntClr]

theorem execUdpSessionDisable_fixed (wide : Bool) (sid : Fin 4) (s : State) : s.staysFixed wide (execUdpSessionDisable sid s) := by
  simp [execUdpSessionDisable]

theorem execRegisterWrite_fixed (wide : Bool) (addr : Nat) (value : Word) (s : State) :
    s.staysFixed wide (execRegisterWrite addr value s) := by
  simp [execRegisterWrite]

/-! #### Machine/Session -/

theorem execHandshakeLapse_fixed (wide : Bool) (sid : Fin 4) (s : State) : s.staysFixed wide (execHandshakeLapse sid s) := by
  unfold execHandshakeLapse
  dsimp only
  split <;> simp

theorem execUdpSessionIdle_fixed (wide : Bool) (sid : Fin 4) (s : State) : s.staysFixed wide (execUdpSessionIdle sid s) := by
  simp [execUdpSessionIdle]

/-! #### Machine/Transport -/

theorem execSpiStatus_fixed (wide : Bool) (s : State) : s.staysFixed wide (execSpiStatus s) := by simp [execSpiStatus]

theorem execSpiRead_fixed (wide : Bool) (n : Nat) (s : State) : s.staysFixed wide (execSpiRead n s) := by
  unfold execSpiRead
  rw [State.staysFixed_next]
  refine State.spi_fixed _ _ _ (fun t => ?_)
  dsimp only
  split <;> simp

theorem execSpiInvalidCode_fixed (wide : Bool) (code : Byte) (s : State) : s.staysFixed wide (execSpiInvalidCode code s) := by
  simp [execSpiInvalidCode]

theorem execSpiCsWhileBusy_fixed (wide : Bool) (s : State) : s.staysFixed wide (execSpiCsWhileBusy s) := by simp [execSpiCsWhileBusy]

theorem execHsRdyReady_fixed (wide : Bool) (s : State) : s.staysFixed wide (execHsRdyReady s) := by simp [execHsRdyReady]

/-! #### Machine/Due -/

theorem execLaneTick_fixed (s : State) : s.staysFixed false (execLaneTick s) := by simp [execLaneTick]

theorem execSwitchOverEnd_fixed (s : State) : s.staysFixed false (execSwitchOverEnd s) := by simp [execSwitchOverEnd]

theorem execDiscoverCollectEnd_fixed (s : State) : s.staysFixed false (execDiscoverCollectEnd s) := by simp [execDiscoverCollectEnd]

theorem execRestepApply_fixed (s : State) : s.staysFixed false (execRestepApply s) := by simp [execRestepApply]

end Sys2Proof.Machine
end

section
/-! PROOF. The fuses only burn. -/

namespace Sys2Proof.Machine

/-! ### Every command -/

/-- The outcome is a next state that at most limited changes lead to. -/
def State.burnsTo (s : State) (o : Host.Outcome State Fault Refusal) : Prop := ∃ t, o = .next t ∧ s.fuses.burns t.fuses

theorem State.staysFixed.burnsTo {s : State} {wide : Bool} {o : Host.Outcome State Fault Refusal} (h : s.staysFixed wide o) : s.burnsTo o := by
  obtain ⟨t, ho, ht⟩ := h
  exact ⟨t, ho, State.burns_of_fixed ht⟩

theorem State.host_burnsTo (s : State) (c : Cmd) (op : Op) (h : opOf op.code = some op) : s.burnsTo (.next (s.host c op)) :=
  ⟨_, rfl, s.host_burns c op (burns_of_opOf h)⟩

theorem State.frameOf_burnsTo (s : State) (n : Fin 2) (x : EthIn) (kind : Bool) : s.burnsTo (s.frameOf n x kind) := by
  refine ⟨_, rfl, ?_⟩
  split
  · exact s.frameIn_burns _ _
  · exact Fuses.burns_refl _

theorem State.execSpiWrite_burnsTo (s : State) (bytes : List Byte) : s.burnsTo (execSpiWrite bytes s) := by
  refine ⟨_, rfl, s.spi_burns _ ?_⟩
  dsimp only
  split
  · exact Fuses.burns_refl _
  · have h := s.ingest_burns false 0 bytes
    split <;> exact h

theorem State.execUdpDatagram_burnsTo (s : State) (src : Nat) (bytes : List Byte) : s.burnsTo (execUdpDatagram src bytes s) := by
  refine ⟨_, rfl, ?_⟩
  split
  · exact s.ingest_burns _ _ _
  · exact Fuses.burns_refl _

/-- Every command makes at most limited changes. -/
theorem exec_burnsTo (s : State) : ∀ i, s.burnsTo (exec i s)
  | .spiWrite bytes => s.execSpiWrite_burnsTo bytes
  | .spiRead n => (execSpiRead_fixed false n s).burnsTo
  | .spiInvalidCode code => (execSpiInvalidCode_fixed false code s).burnsTo
  | .udpDatagram src bytes => s.execUdpDatagram_burnsTo src bytes
  | .undefinedOpcode c _ => ⟨_, rfl, s.host_burns c _ (opOf_getD_burns _)⟩
  | .handshakeLapse sid => (execHandshakeLapse_fixed false sid s).burnsTo
  | .udpSessionIdle sid => (execUdpSessionIdle_fixed false sid s).burnsTo
  | .ping c => s.host_burnsTo c opPing rfl
  | .sessionOpen c => s.host_burnsTo c opSessionOpen rfl
  | .sessionConfirm c => s.host_burnsTo c opSessionConfirm rfl
  | .sessionClose c => s.host_burnsTo c opSessionClose rfl
  | .getIdentity c => s.host_burnsTo c opGetIdentity rfl
  | .getStatus c => s.host_burnsTo c opGetStatus rfl
  | .setPowerState c => s.host_burnsTo c opSetPowerState rfl
  | .setPowerCap c => s.host_burnsTo c opSetPowerCap rfl
  | .eventSubscribe c => s.host_burnsTo c opEventSubscribe rfl
  | .bulkWrite c => s.host_burnsTo c opBulkWrite rfl
  | .bulkRead c => s.host_burnsTo c opBulkRead rfl
  | .resetEngine c => s.host_burnsTo c opResetEngine rfl
  | .regRead c => s.host_burnsTo c opRegRead rfl
  | .regWrite c => s.host_burnsTo c opRegWrite rfl
  | .regReadBlock c => s.host_burnsTo c opRegReadBlock rfl
  | .regModify c => s.host_burnsTo c opRegModify rfl
  | .regWriteLc c => s.host_burnsTo c opRegWriteLc rfl
  | .registerWrite addr value => (execRegisterWrite_fixed false addr value s).burnsTo
  | .udpSessionDisable sid => (execUdpSessionDisable_fixed false sid s).burnsTo
  | .skyConfig c => s.host_burnsTo c opSkyConfig rfl
  | .skySetBasePosition c => s.host_burnsTo c opSkySetBasePosition rfl
  | .skyExclude c => s.host_burnsTo c opSkyExclude rfl
  | .skyGetChannels c => s.host_burnsTo c opSkyGetChannels rfl
  | .skyRtcmConfig c => s.host_burnsTo c opSkyRtcmConfig rfl
  | .measurementEpoch clkBias clkDrift => (execMeasurementEpoch_fixed clkBias clkDrift s).burnsTo
  | .antennaOpen current => (execAntennaOpen_fixed false current s).burnsTo
  | .antennaShort current => (execAntennaShort_fixed false current s).burnsTo
  | .antennaBiasRetry current => (execAntennaBiasRetry_fixed false current s).burnsTo
  | .notchEngage band notch level freq => (execNotchEngage_fixed false band notch level freq s).burnsTo
  | .notchRelease band notch level => (execNotchRelease_fixed false band notch level s).burnsTo
  | .interferenceCondition band samples => (execInterferenceCondition_fixed false band samples s).burnsTo
  | .satelliteAcquired ch a => (execSatelliteAcquired_fixed false ch a s).burnsTo
  | .l5Handover ch offset power => (execL5Handover_fixed false ch offset power s).burnsTo
  | .channelRelease ch => (execChannelRelease_fixed false ch s).burnsTo
  | .loopUpdate ch band v => (execLoopUpdate_fixed false ch band v s).burnsTo
  | .pllBandwidthUpdate ch band => (execPllBandwidthUpdate_fixed false ch band s).burnsTo
  | .sidePeakCorrection ch band => (execSidePeakCorrection_fixed false ch band s).burnsTo
  | .carrierLockLoss ch band => (execCarrierLockLoss_fixed false ch band s).burnsTo
  | .codeLockLoss ch band => (execCodeLockLoss_fixed false ch band s).burnsTo
  | .navRecord ch band v => (execNavRecord_fixed ch band v s).burnsTo
  | .timeInEdge falling phase width => (execTimeInEdge_fixed false falling phase width s).burnsTo
  | .sourceQualify k yf => (execSourceQualify_fixed false k yf s).burnsTo
  | .sourceLost k => (execSourceLost_fixed false k s).burnsTo
  | .yfReplace yf => (execYfReplace_fixed false yf s).burnsTo
  | .ppsEdge k => (execPpsEdge_fixed false k s).burnsTo
  | .observationIntake slot body => (execObservationIntake_fixed false slot body s).burnsTo
  | .rtkCycle sols => (execRtkCycle_fixed false sols s).burnsTo
  | .fixLostNone slot => (execFixLostNone_fixed false slot s).burnsTo
  | .ionoFreeSwitch slot => (execIonoFreeSwitch_fixed false slot s).burnsTo
  | .rtkSetSiteOrigin c => s.host_burnsTo c opRtkSetSiteOrigin rfl
  | .rtkSetRateClass c => s.host_burnsTo c opRtkSetRateClass rfl
  | .rtkSetNoise c => s.host_burnsTo c opRtkSetNoise rfl
  | .rtkResetRover c => s.host_burnsTo c opRtkResetRover rfl
  | .rtkGetFix c => s.host_burnsTo c opRtkGetFix rfl
  | .bulkUpReceive port bytes => (execBulkUpReceive_fixed false port bytes s).burnsTo
  | .snapshotSolveDone => (execSnapshotSolveDone_fixed false s).burnsTo
  | .snapshotMissing slot => (execSnapshotMissing_fixed false slot s).burnsTo
  | .snapshotAsmTimeout slot => (execSnapshotAsmTimeout_fixed false slot s).burnsTo
  | .sbxPass us => (execSbxPass_fixed false us s).burnsTo
  | .authorityExpiry slot => (execAuthorityExpiry_fixed false slot s).burnsTo
  | .releasingExpiry slot => (execReleasingExpiry_fixed false slot s).burnsTo
  | .avoidExpiry slot => (execAvoidExpiry_fixed false slot s).burnsTo
  | .withdrawTimeout slot => (execWithdrawTimeout_fixed false slot s).burnsTo
  | .previewExpiry slot => (execPreviewExpiry_fixed false slot s).burnsTo
  | .sbxMapStage c => s.host_burnsTo c opSbxMapStage rfl
  | .sbxMapActivate c => s.host_burnsTo c opSbxMapActivate rfl
  | .sbxRequest c => s.host_burnsTo c opSbxRequest rfl
  | .sbxRelease c => s.host_burnsTo c opSbxRelease rfl
  | .sbxRevoke c => s.host_burnsTo c opSbxRevoke rfl
  | .sbxZoneSet c => s.host_burnsTo c opSbxZoneSet rfl
  | .sbxGetState c => s.host_burnsTo c opSbxGetState rfl
  | .allotRoundTimeout phases => (execAllotRoundTimeout_fixed false phases s).burnsTo
  | .routeSearch slot route => (execRouteSearch_fixed false slot route s).burnsTo
  | .rerouteAnswer slot route => (execRerouteAnswer_fixed false slot route s).burnsTo
  | .routeRefusalRetry slot route => (execRouteRefusalRetry_fixed false slot route s).burnsTo
  | .altTaskAdd c => s.host_burnsTo c opAltTaskAdd rfl
  | .altTaskCancel c => s.host_burnsTo c opAltTaskCancel rfl
  | .altTaskGet c => s.host_burnsTo c opAltTaskGet rfl
  | .altLandmarksLoad c => s.host_burnsTo c opAltLandmarksLoad rfl
  | .altRoundNow c => s.host_burnsTo c opAltRoundNow rfl
  | .profilePlan => (execProfilePlan_fixed false s).burnsTo
  | .authorityCommit us => (execAuthorityCommit_fixed false us s).burnsTo
  | .profileWordBoundary slot => (execProfileWordBoundary_fixed false slot s).burnsTo
  | .ttbCamStage c => s.host_burnsTo c opTtbCamStage rfl
  | .ttbCamActivate c => s.host_burnsTo c opTtbCamActivate rfl
  | .ttbSetLimits c => s.host_burnsTo c opTtbSetLimits rfl
  | .ttbGetProfile c => s.host_burnsTo c opTtbGetProfile rfl
  | .downlinkRun slot => (execDownlinkRun_fixed false slot s).burnsTo
  | .bulkDownRun port => (execBulkDownRun_fixed false port s).burnsTo
  | .upFrameReceive port bytes rxts rssi => (execUpFrameReceive_fixed false port bytes rxts rssi s).burnsTo
  | .joinReceive port bytes => (execJoinReceive_fixed false port bytes s).burnsTo
  | .joinAnswer port => (execJoinAnswer_fixed false port s).burnsTo
  | .uplinkMiss slot => (execUplinkMiss_fixed false slot s).burnsTo
  | .evictionComplete slot => (execEvictionComplete_fixed false slot s).burnsTo
  | .stopFrameArm port back => (execStopFrameArm_fixed false port back s).burnsTo
  | .armReadback port back => (execArmReadback_fixed false port back s).burnsTo
  | .radPortConfig c => s.host_burnsTo c opRadPortConfig rfl
  | .radSuperframeSet c => s.host_burnsTo c opRadSuperframeSet rfl
  | .radRoverAssign c => s.host_burnsTo c opRadRoverAssign rfl
  | .radRoverEvict c => s.host_burnsTo c opRadRoverEvict rfl
  | .radGetLink c => s.host_burnsTo c opRadGetLink rfl
  | .stopInputActive k => (execStopInputActive_fixed k s).burnsTo
  | .stopInputInactive k => (execStopInputInactive_fixed false k s).burnsTo
  | .hubCheckFail cause => (execHubCheckFail_fixed cause s).burnsTo
  | .chainStopReceive n frame => (execChainStopReceive_fixed false n frame s).burnsTo
  | .stopAll c => s.host_burnsTo c opStopAll rfl
  | .stopRover c => s.host_burnsTo c opStopRover rfl
  | .stopZone c => s.host_burnsTo c opStopZone rfl
  | .stopRelease c => s.host_burnsTo c opStopRelease rfl
  | .stopGetState c => s.host_burnsTo c opStopGetState rfl
  | .ethLinkUp n fast => (execEthLinkUp_fixed false n fast s).burnsTo
  | .ethLinkDown n => (execEthLinkDown_fixed false n s).burnsTo
  | .ethFrameReceive n x => ⟨_, rfl, s.frameIn_burns n.val x⟩
  | .addressAgeOut mac => (execAddressAgeOut_fixed false mac s).burnsTo
  | .preemptVerify n answered => (execPreemptVerify_fixed false n answered s).burnsTo
  | .pauseFrameReceive n x => s.frameOf_burnsTo n x _
  | .pauseWatchdog n => (execPauseWatchdog_fixed false n s).burnsTo
  | .pauseIgnoreEnd n => (execPauseIgnoreEnd_fixed false n s).burnsTo
  | .pdelayReqSend n => (execPdelayReqSend_fixed false n s).burnsTo
  | .pdelayRespReceive n x => s.frameOf_burnsTo n x _
  | .pdelayReqReceive n x => s.frameOf_burnsTo n x _
  | .ptpAnnounceReceive n x => s.frameOf_burnsTo n x _
  | .ptpSyncReceive n x => s.frameOf_burnsTo n x _
  | .ptpDelayRespReceive n x => s.frameOf_burnsTo n x _
  | .arpRequest n x => s.frameOf_burnsTo n x _
  | .icmpEcho n x => s.frameOf_burnsTo n x _
  | .helloSend n => (execHelloSend_fixed false n s).burnsTo
  | .helloReceive n x => s.frameOf_burnsTo n x _
  | .neighbourTimeout n => (execNeighbourTimeout_fixed false n s).burnsTo
  | .discoverReceive n x => s.frameOf_burnsTo n x _
  | .discoverReplyReceive n x => s.frameOf_burnsTo n x _
  | .wakeFrame n x => (execWakeFrame_fixed n x s).burnsTo
  | .mdioGo value => (execMdioGo_fixed false value s).burnsTo
  | .mdioDone data => (execMdioDone_fixed false data s).burnsTo
  | .ethPortConfig c => s.host_burnsTo c opEthPortConfig rfl
  | .ptpConfig c => s.host_burnsTo c opPtpConfig rfl
  | .timeGet c => s.host_burnsTo c opTimeGet rfl
  | .timeRestep c => s.host_burnsTo c opTimeRestep rfl
  | .ppsConfig c => s.host_burnsTo c opPpsConfig rfl
  | .chainDiscover c => s.host_burnsTo c opChainDiscover rfl
  | .meterSecond freq0 freq1 => (execMeterSecond_fixed false freq0 freq1 s).burnsTo
  | .harmonicWindowEnd p x => (execHarmonicWindowEnd_fixed false p x s).burnsTo
  | .energyNorCopy good => (execEnergyNorCopy_fixed false good s).burnsTo
  | .energyCopyRetry good => (execEnergyCopyRetry_fixed false good s).burnsTo
  | .epulseEmit k => (execEpulseEmit_fixed false k s).burnsTo
  | .channelFault p channel cause => (execChannelFault_fixed false p channel cause s).burnsTo
  | .meterFaultChange p flag => (execMeterFaultChange_fixed false p flag s).burnsTo
  | .mtrConfig c => s.host_burnsTo c opMtrConfig rfl
  | .mtrGetReadings c => s.host_burnsTo c opMtrGetReadings rfl
  | .mtrGetHarmonics c => s.host_burnsTo c opMtrGetHarmonics rfl
  | .mtrSetCap c => s.host_burnsTo c opMtrSetCap rfl
  | .mtrCalSeal c => s.host_burnsTo c opMtrCalSeal rfl
  | .laneSelfTestDone lane pass => (execLaneSelfTestDone_fixed lane pass s).burnsTo
  | .laneDiagFail lane cause engine offset => (execLaneDiagFail_fixed false lane cause engine offset s).burnsTo
  | .heartbeatLoss lane => (execHeartbeatLoss_fixed false lane s).burnsTo
  | .engineWatchdog lane engine => (execEngineWatchdog_fixed false lane engine s).burnsTo
  | .laneScrub lane corrected bad => (execLaneScrub_fixed false lane corrected bad s).burnsTo
  | .digestCompare a b => (execDigestCompare_fixed false a b s).burnsTo
  | .rescrubDone bad => (execRescrubDone_fixed false bad s).burnsTo
  | .rackPoint good => (execRackPoint_fixed false good s).burnsTo
  | .coldStartReady lane => (execColdStartReady_fixed lane s).burnsTo
  | .laneRestore lane => (execLaneRestore_fixed false lane s).burnsTo
  | .lanGetState c => s.host_burnsTo c opLanGetState rfl
  | .lanSwitch c => s.host_burnsTo c opLanSwitch rfl
  | .queueCommit q len more gen engine seq => (execQueueCommit_fixed false q len more gen engine seq s).burnsTo
  | .packetRewind q => (execPacketRewind_fixed false q s).burnsTo
  | .queueRack q => (execQueueRack_fixed false q s).burnsTo
  | .queueReadError q double source reply => (execQueueReadError_fixed false q double source reply s).burnsTo
  | .queueFullTimeout q => (execQueueFullTimeout_fixed false q s).burnsTo
  | .workItemAdmit flow atomic_ mask all timeout siding => (execWorkItemAdmit_fixed flow atomic_ mask all timeout siding s).burnsTo
  | .eventFlagPost item flags => (execEventFlagPost_fixed item flags s).burnsTo
  | .tokenRequest arb k => (execTokenRequest_fixed false arb k s).burnsTo
  | .tokenDrop arb k => (execTokenDrop_fixed false arb k s).burnsTo
  | .powerReevaluate vout => (execPowerReevaluate_fixed vout s).burnsTo
  | .evtPendClear k mask => (execEvtPendClear_fixed false k mask s).burnsTo
  | .tamperDetect k temp => (execTamperDetect_fixed k temp s).burnsTo
  | .tamperConditionEnd k => (execTamperConditionEnd_fixed k s).burnsTo
  | .secCaskLoad c => s.host_burnsTo c opSecCaskLoad rfl
  | .secCaskUnload c => s.host_burnsTo c opSecCaskUnload rfl
  | .updImageBegin c => s.host_burnsTo c opUpdImageBegin rfl
  | .updImageData c => s.host_burnsTo c opUpdImageData rfl
  | .updImageEnd c => s.host_burnsTo c opUpdImageEnd rfl
  | .bankWriteDone good => (execBankWriteDone_fixed false good s).burnsTo
  | .imageDataReceive n x => s.frameOf_burnsTo n x _
  | .imageStatusReceive n x => s.frameOf_burnsTo n x _
  | .relayBusyRetry n => (execRelayBusyRetry_fixed false n s).burnsTo
  | .relayFail n => (execRelayFail_fixed false n s).burnsTo
  | .updDecant c => s.host_burnsTo c opUpdDecant rfl
  | .updDecantSchedule c => s.host_burnsTo c opUpdDecantSchedule rfl
  | .decantFrameReceive n x => s.frameOf_burnsTo n x _
  | .updGetState c => s.host_burnsTo c opUpdGetState rfl
  | .cbkRecordWrite fails => (execCbkRecordWrite_fixed false fails s).burnsTo
  | .cbkFreeze c => s.host_burnsTo c opCbkFreeze rfl
  | .cbkThaw c => s.host_burnsTo c opCbkThaw rfl
  | .cbkRead c => s.host_burnsTo c opCbkRead rfl
  | .cbkClear c => s.host_burnsTo c opCbkClear rfl
  | .powerOn low away => (execPowerOn_fixed low away s).burnsTo
  | .hubStart ok0 ok1 torn => (execHubStart_fixed ok0 ok1 torn s).burnsTo
  | .firstBeacon port => (execFirstBeacon_fixed false port s).burnsTo
  | .vinBelowWarn mv => (execVinBelowWarn_fixed mv s).burnsTo
  | .vinDipEnd lowest => (execVinDipEnd_fixed lowest s).burnsTo
  | .vsysResetLevel mv => (execVsysResetLevel_fixed false mv s).burnsTo
  | .vbatLow mv => (execVbatLow_fixed false mv s).burnsTo
  | .refclkLost err => (execRefclkLost_fixed err s).burnsTo
  | .avfsReading lane m => (execAvfsReading_fixed false lane m s).burnsTo
  | .dieTempHigh temp => (execDieTempHigh_fixed false temp s).burnsTo
  | .tstUnlock c => s.host_burnsTo c opTstUnlock rfl
  | .tstLock c => s.host_burnsTo c opTstLock rfl
  | .tstJitWrite value => (execTstJitWrite_fixed false value s).burnsTo
  | .meteringSample x0 x1 => (execMeteringSample_fixed false x0 x1 s).burnsTo
  | .vinAtOrAboveWarn mv => (execVinAtOrAboveWarn_fixed false mv s).burnsTo
  | .vbatLowEnd mv => (execVbatLowEnd_fixed false mv s).burnsTo
  | .antennaNormal current => (execAntennaNormal_fixed false current s).burnsTo
  | .radioRxError port => (execRadioRxError_fixed false port s).burnsTo
  | .evtEnWrite k value => (execEvtEnWrite_fixed false k value s).burnsTo
  | .spiStatus => (execSpiStatus_fixed false s).burnsTo
  | .spiCsWhileBusy => (execSpiCsWhileBusy_fixed false s).burnsTo
  | .hsRdyReady => (execHsRdyReady_fixed false s).burnsTo
  | .sysTtPosRead => (execSysTtPosRead_fixed s).burnsTo
  | .svbCntClr => (execSvbCntClr_fixed false s).burnsTo
  | .skyColdRestart => (execSkyColdRestart_fixed false s).burnsTo
  | .skyHotRestart => (execSkyHotRestart_fixed false s).burnsTo
  | .epochRateChange => (execEpochRateChange_fixed false s).burnsTo
  | .timInLoRead => (execTimInLoRead_fixed false s).burnsTo
  | .timNowLoRead => (execTimNowLoRead_fixed false s).burnsTo
  | .firstTimeStep => (execFirstTimeStep_fixed false s).burnsTo
  | .restepApply => (execRestepApply_fixed s).burnsTo
  | .disciplineUpdate => (execDisciplineUpdate_fixed false s).burnsTo
  | .timeLockHold => (execTimeLockHold_fixed false s).burnsTo
  | .holdoverExpire => (execHoldoverExpire_fixed false s).burnsTo
  | .leapSecondPass => (execLeapSecondPass_fixed false s).burnsTo
  | .laneTick => (execLaneTick_fixed s).burnsTo
  | .wholeSecond => (execWholeSecond_fixed false s).burnsTo
  | .arDeadlineCut => (execArDeadlineCut_fixed false s).burnsTo
  | .rtkRateChange => (execRtkRateChange_fixed false s).burnsTo
  | .rtkShedStep => (execRtkShedStep_fixed false s).burnsTo
  | .rtkArDisable => (execRtkArDisable_fixed false s).burnsTo
  | .rtkCntClr => (execRtkCntClr_fixed false s).burnsTo
  | .snapshotSolveStart => (execSnapshotSolveStart_fixed false s).burnsTo
  | .snapshotSolveTimeout => (execSnapshotSolveTimeout_fixed false s).burnsTo
  | .snpFlush => (execSnpFlush_fixed false s).burnsTo
  | .snpDisable => (execSnpDisable_fixed false s).burnsTo
  | .snpCntClr => (execSnpCntClr_fixed false s).burnsTo
  | .routeRequest => (execRouteRequest_fixed false s).burnsTo
  | .previewDisable => (execPreviewDisable_fixed false s).burnsTo
  | .sbxCntClr => (execSbxCntClr_fixed false s).burnsTo
  | .sbxMapStageDone => (execSbxMapStageDone_fixed false s).burnsTo
  | .allotRoundStart => (execAllotRoundStart_fixed false s).burnsTo
  | .allotRoundEnd => (execAllotRoundEnd_fixed false s).burnsTo
  | .altCntClr => (execAltCntClr_fixed false s).burnsTo
  | .altLandmarksDone => (execAltLandmarksDone_fixed false s).burnsTo
  | .ttbCntClr => (execTtbCntClr_fixed false s).burnsTo
  | .ttbCamStageDone => (execTtbCamStageDone_fixed false s).burnsTo
  | .superframeStart => (execSuperframeStart_fixed false s).burnsTo
  | .slotTableSwitch => (execSlotTableSwitch_fixed false s).burnsTo
  | .stpTxRepeat => (execStpTxRepeat_fixed false s).burnsTo
  | .radCntClr => (execRadCntClr_fixed false s).burnsTo
  | .stopDiscrepancy => (execStopDiscrepancy_fixed s).burnsTo
  | .discClr => (execDiscClr_fixed false s).burnsTo
  | .chainStopRepeat => (execChainStopRepeat_fixed false s).burnsTo
  | .chainSourceTimeout => (execChainSourceTimeout_fixed false s).burnsTo
  | .stopReleaseDue => (execStopReleaseDue_fixed false s).burnsTo
  | .targetReleaseDue => (execTargetReleaseDue_fixed false s).burnsTo
  | .ptpAnnounceTimeout => (execPtpAnnounceTimeout_fixed false s).burnsTo
  | .ptpSyncSend => (execPtpSyncSend_fixed false s).burnsTo
  | .ptpAnnounceSend => (execPtpAnnounceSend_fixed false s).burnsTo
  | .ptpDelayReqSend => (execPtpDelayReqSend_fixed false s).burnsTo
  | .discoverCollectEnd => (execDiscoverCollectEnd_fixed s).burnsTo
  | .ethCntClr => (execEthCntClr_fixed false s).burnsTo
  | .demandIntervalEnd => (execDemandIntervalEnd_fixed false s).burnsTo
  | .meterFrontEndRestart => (execMeterFrontEndRestart_fixed false s).burnsTo
  | .demClr => (execDemClr_fixed false s).burnsTo
  | .mtrCntClr => (execMtrCntClr_fixed false s).burnsTo
  | .switchOverEnd => (execSwitchOverEnd_fixed s).burnsTo
  | .rackPrecopyDone => (execRackPrecopyDone_fixed false s).burnsTo
  | .lanCntClr => (execLanCntClr_fixed false s).burnsTo
  | .queFlush => (execQueFlush_fixed false s).burnsTo
  | .queCntClr => (execQueCntClr_fixed false s).burnsTo
  | .sidingDue => (execSidingDue_fixed s).burnsTo
  | .waitTimeout => (execWaitTimeout_fixed s).burnsTo
  | .atomicEnEffect => (execAtomicEnEffect_fixed false s).burnsTo
  | .schCntClr => (execSchCntClr_fixed false s).burnsTo
  | .keyMaskRedraw => (execKeyMaskRedraw_fixed s).burnsTo
  | .secCntClr => (execSecCntClr_fixed false s).burnsTo
  | .imageTransferTimeout => (execImageTransferTimeout_fixed false s).burnsTo
  | .imageVerifyDone => (execImageVerifyDone_fixed false s).burnsTo
  | .updAbort => (execUpdAbort_fixed false s).burnsTo
  | .updCntClr => (execUpdCntClr_fixed false s).burnsTo
  | .imageStatusSend => (execImageStatusSend_fixed false s).burnsTo
  | .relayReceiveTimeout => (execRelayReceiveTimeout_fixed false s).burnsTo
  | .decantRun => (execDecantRun_fixed s).burnsTo
  | .decantVoteEnd => (execDecantVoteEnd_fixed false s).burnsTo
  | .decantHoldCheck => (execDecantHoldCheck_fixed false s).burnsTo
  | .decantAtTd => (execDecantAtTd_fixed s).burnsTo
  | .bootFallback => (execBootFallback_fixed s).burnsTo
  | .cbkFreezeTimeout => (execCbkFreezeTimeout_fixed false s).burnsTo
  | .cbkCntClr => (execCbkCntClr_fixed false s).burnsTo
  | .supplyDipLong => (execSupplyDipLong_fixed s).burnsTo
  | .brownOutReset => (execBrownOutReset_fixed s).burnsTo
  | .voutTrip => (execVoutTrip_fixed false s).burnsTo
  | .voutRestart => (execVoutRestart_fixed false s).burnsTo
  | .refclkRestored => (execRefclkRestored_fixed false s).burnsTo
  | .dormantEntryComplete => (execDormantEntryComplete_fixed s).burnsTo
  | .wakeIn => (execWakeIn_fixed s).burnsTo
  | .wakeTimer => (execWakeTimer_fixed s).burnsTo
  | .pinReset => (execPinReset_fixed s).burnsTo
  | .hubWatchdog => (execHubWatchdog_fixed s).burnsTo
  | .hubRst => (execHubRst_fixed s).burnsTo
  | .pwrCntClr => (execPwrCntClr_fixed false s).burnsTo
  | .tstAutolock => (execTstAutolock_fixed false s).burnsTo
  | .tstClrAll => (execTstClrAll_fixed false s).burnsTo
  | .tstErrGo => (execTstErrGo_fixed false s).burnsTo
  | .tstCrcGo => (execTstCrcGo_fixed false s).burnsTo
  | .mismatchWindowEnd => (execMismatchWindowEnd_fixed false s).burnsTo
  | .raEnClear => (execRaEnClear_fixed false s).burnsTo

/-- Settles O49: every row leaves the fuses as they were, but REG_WRITE_LC and MTR_CAL_SEAL, which pay for what they change. -/
theorem fusesOnlyBurn : Obligations.FusesOnlyBurn := by
  intro s t i h
  obtain ⟨u, hu, hb⟩ := exec_burnsTo s i
  rw [h] at hu
  cases hu
  exact hb

end Sys2Proof.Machine
end

section
/-! SUPPORT. Counter clears and event bits: what a field's write leaves of its own register, and what resetting registers leaves. -/

namespace Sys2Proof.Machine

/-! ### Fields of one register -/

/-- A write of a field leaves a field below it. -/
theorem fldOf_fldIn_below (f g : Fld) (old v : Nat) (h : g.lo + g.width ≤ f.lo) : fldOf g (fldIn f old v) = fldOf g old := by
  obtain ⟨k, hk⟩ := Nat.exists_eq_add_of_le h
  unfold fldOf fldIn
  have e : old / 2 ^ (f.lo + f.width) * 2 ^ (f.lo + f.width) + v % 2 ^ f.width * 2 ^ f.lo + old % 2 ^ f.lo
      = 2 ^ (g.lo + g.width) * (2 ^ k * (old / 2 ^ (f.lo + f.width) * 2 ^ f.width + v % 2 ^ f.width)) + old % 2 ^ f.lo := by
    rw [pow_add, hk, pow_add _ (g.lo + g.width)]
    ring
  rw [e, ← Nat.mod_mul_right_div_self, ← Nat.mod_mul_right_div_self, ← pow_add, Nat.mul_add_mod, Nat.mod_mod_of_dvd]
  exact pow_dvd_pow 2 h

/-- A write of a field leaves a field above it. -/
theorem fldOf_fldIn_above (f g : Fld) (old v : Nat) (h : f.lo + f.width ≤ g.lo) : fldOf g (fldIn f old v) = fldOf g old := by
  obtain ⟨k, hk⟩ := Nat.exists_eq_add_of_le h
  unfold fldOf fldIn
  have hl : old % 2 ^ f.lo < 2 ^ f.lo := Nat.mod_lt _ (by positivity)
  have hv : v % 2 ^ f.width < 2 ^ f.width := Nat.mod_lt _ (by positivity)
  have hlow : v % 2 ^ f.width * 2 ^ f.lo + old % 2 ^ f.lo < 2 ^ (f.lo + f.width) := by
    have := Nat.mul_le_mul_right (2 ^ f.lo) (Nat.succ_le_of_lt hv)
    rw [Nat.succ_mul] at this
    rw [pow_add, Nat.mul_comm (2 ^ f.lo)]
    omega
  rw [hk, pow_add _ (f.lo + f.width) k, ← Nat.div_div_eq_div_mul, ← Nat.div_div_eq_div_mul, Nat.add_assoc, Nat.mul_comm (old / _),
    Nat.mul_add_div (by positivity), Nat.div_eq_of_lt hlow, Nat.add_zero]

/-- A field keeps its value when another field of its register is written. -/
theorem State.fld_setFld_other (s : State) (f g : Fld) (v : Nat) (ha : f.addr = g.addr) (hf : f.lo + f.width ≤ 32)
    (h : g.lo + g.width ≤ f.lo ∨ f.lo + f.width ≤ g.lo) : (s.setFld f v).fld g = s.fld g := by
  unfold State.fld State.setFld
  rw [← ha, State.reg_setReg_same, BitVec.toNat_ofNat, Nat.mod_eq_of_lt (fldIn_lt f _ _ hf (s.reg f.addr).isLt)]
  exact h.elim (fldOf_fldIn_below f g _ v) (fldOf_fldIn_above f g _ v)

/-! ### Registers brought to their reset values -/

theorem State.reg_resetRegs_other (s : State) (as : List Nat) (a : Nat) (h : a ∉ as) : (s.resetRegs as).reg a = s.reg a := by
  induction as generalizing s with
  | nil => rfl
  | cons b t ih =>
    obtain ⟨hb, ht⟩ : a ≠ b ∧ a ∉ t := by simpa using h
    exact (ih _ ht).trans (s.reg_setReg_other b a _ hb.symm)

theorem State.reg_resetRegs_mem (s : State) (as : List Nat) (a : Nat) (h : a ∈ as) : (s.resetRegs as).reg a = regReset a := by
  induction as generalizing s with
  | nil => cases h
  | cons b t ih =>
    by_cases ht : a ∈ t
    · exact ih _ ht
    · obtain rfl : a = b := by simpa [ht] using h
      exact ((s.setReg a _).reg_resetRegs_other t a ht).trans (s.reg_setReg_same a _)

theorem State.fld_resetRegs_other (s : State) (as : List Nat) (f : Fld) (h : f.addr ∉ as) : (s.resetRegs as).fld f = s.fld f := by
  unfold State.fld
  rw [s.reg_resetRegs_other as _ h]

/-! ### Counter clears -/

/-- The registers that hold only counters, and that a CNT_CLR bit resets as a whole. -/
def counterRegs : List Nat :=
  [R.PWR_DIP_T, R.RTK_INTAKE, R.RTK_CUTS, R.SNP_CNT, R.SNP_DROP, R.SBX_CNT0, R.SBX_CNT1, R.ALT_CNT, R.TTB_CNT, R.RAD_JOIN_CNT,
    R.RAD_P_CNT0 0, R.RAD_P_CNT1 0, R.RAD_P_CNT0 1, R.RAD_P_CNT1 1, R.RAD_P_CNT0 2, R.RAD_P_CNT1 2, R.RAD_P_CNT0 3, R.RAD_P_CNT1 3,
    R.ETH_P_CNT0 0, R.ETH_P_CNT1 0, R.ETH_P_CNT0 1, R.ETH_P_CNT1 1, R.MTR_CNT, R.LAN_CNT, R.LAN_TIME, R.SCH_CNT, R.SEC_CNT, R.UPD_CNT,
    R.CBK_CNT]

theorem regReset_counterRegs : ∀ a ∈ counterRegs, regReset a = 0 := by decide +kernel

theorem State.reg_resetRegs_counter (s : State) (as : List Nat) (a : Nat) (h : a ∈ as) (hc : a ∈ counterRegs) :
    (s.resetRegs as).reg a = 0 :=
  (s.reg_resetRegs_mem as a h).trans (regReset_counterRegs a hc)

/-- A block whose CNT_CLR resets one register of counters. -/
theorem State.resetRegs_one_clears (s : State) (b : Nat) (hb : b ∈ counterRegs) :
    (s.resetRegs [b]).reg b = 0 ∧ ∀ a, a ≠ b → (s.resetRegs [b]).reg a = s.reg a :=
  ⟨s.reg_resetRegs_counter _ b (by simp) hb, fun a h => s.reg_resetRegs_other _ a (by simpa using h)⟩

/-- A clear of registers and then of a field of another register: the registers read 0, the field too. -/
theorem State.reg_resetRegs_setFld_counter (s : State) (as : List Nat) (f : Fld) (a : Nat) (h : a ∈ as) (hc : a ∈ counterRegs)
    (hf : f.addr ≠ a) : ((s.resetRegs as).setFld f 0).reg a = 0 :=
  ((s.resetRegs as).reg_setFld_other f 0 a hf).trans (s.reg_resetRegs_counter as a h hc)

theorem State.reg_resetRegs_setFld_other (s : State) (as : List Nat) (f : Fld) (v a : Nat) (h : a ∉ as) (hf : a ≠ f.addr) :
    ((s.resetRegs as).setFld f v).reg a = s.reg a :=
  ((s.resetRegs as).reg_setFld_other f v a hf.symm).trans (s.reg_resetRegs_other as a h)

theorem State.fld_setFld_zero (s : State) (f : Fld) (hf : f.lo + f.width ≤ 32) : (s.setFld f 0).fld f = 0 := by
  rw [State.fld_setFld_same s f 0 hf, Nat.zero_mod]

/-- A field of the register that a clear writes one field of keeps its value. -/
theorem State.fld_resetRegs_setFld_other (s : State) (as : List Nat) (f g : Fld) (v : Nat) (h : g.addr ∉ as) (ha : f.addr = g.addr)
    (hf : f.lo + f.width ≤ 32) (hg : g.lo + g.width ≤ f.lo ∨ f.lo + f.width ≤ g.lo) : ((s.resetRegs as).setFld f v).fld g = s.fld g :=
  ((s.resetRegs as).fld_setFld_other f g v ha hf hg).trans (s.fld_resetRegs_other as g h)

theorem State.pwrCntClr_clears (s : State) :
    s.pwrCntClr.reg R.PWR_DIP_T = 0 ∧ s.pwrCntClr.fld F.PWR_DIP_DIPS = 0 ∧ s.pwrCntClr.fld F.PWR_DIP_MIN_MV = s.fld F.PWR_DIP_MIN_MV ∧
      s.pwrCntClr.fld F.PWR_DIP_BROWNOUTS = s.fld F.PWR_DIP_BROWNOUTS ∧
      ∀ a, a ≠ R.PWR_DIP → a ≠ R.PWR_DIP_T → s.pwrCntClr.reg a = s.reg a := by
  have k : ∀ f : Fld, f.addr = R.PWR_DIP → s.pwrCntClr.fld f = (s.setFld F.PWR_DIP_DIPS 0).fld f := fun f h =>
    State.fld_resetRegs_other _ _ f (by simp [h]; decide)
  refine ⟨State.reg_resetRegs_counter _ _ _ (by simp) (by decide), ?_, ?_, ?_, fun a h h' => ?_⟩
  · exact (k _ rfl).trans (s.fld_setFld_zero _ (by decide))
  · exact (k _ rfl).trans (s.fld_setFld_other _ _ _ rfl (by decide) (by decide))
  · exact (k _ rfl).trans (s.fld_setFld_other _ _ _ rfl (by decide) (by decide))
  · exact (State.reg_resetRegs_other _ _ _ (by simpa using h')).trans (s.reg_setFld_other _ _ _ h.symm)

theorem State.radCntClr_clears (s : State) :
    s.radCntClr.reg R.RAD_JOIN_CNT = 0 ∧ (∀ n, n < 4 → s.radCntClr.reg (R.RAD_P_CNT0 n) = 0 ∧ s.radCntClr.reg (R.RAD_P_CNT1 n) = 0) ∧
      ∀ a, a ≠ R.RAD_JOIN_CNT → (∀ n, n < 4 → a ≠ R.RAD_P_CNT0 n ∧ a ≠ R.RAD_P_CNT1 n) → s.radCntClr.reg a = s.reg a := by
  refine ⟨State.reg_resetRegs_counter _ _ _ (by simp) (by decide), fun n hn => ?_, fun a h hp => State.reg_resetRegs_other _ _ _ ?_⟩
  · interval_cases n <;>
      exact ⟨State.reg_resetRegs_counter _ _ _ (by decide) (by decide), State.reg_resetRegs_counter _ _ _ (by decide) (by decide)⟩
  · simp [h, hp 0, hp 1, hp 2, hp 3]

/-- The counters that QUE's CNT_CLR clears read 0 (R392). -/
def Queue.cleared (k : Queue) : Prop :=
  k.parErr = 0 ∧ k.corr = 0 ∧ k.poison = 0 ∧ k.staleGen = 0 ∧ k.commits = 0 ∧ k.rewinds = 0

/-- A queue with its counters cleared. -/
def Queue.clear (k : Queue) : Queue := { k with parErr := 0, corr := 0, poison := 0, staleGen := 0, commits := 0, rewinds := 0 }

theorem Queue.clear_cleared (k : Queue) : k.clear.cleared := ⟨rfl, rfl, rfl, rfl, rfl, rfl⟩

/-- Putting cleared queues into a table of cleared queues leaves every queue of it cleared. -/
theorem foldl_put_cleared (l t : Tbl Queue) (h : ∀ q, (Tbl.get {} t q).cleared) (q : Nat) :
    (Tbl.get {} (l.foldl (fun t p => Tbl.put {} t p.1 p.2.clear) t) q).cleared := by
  induction l generalizing t with
  | nil => exact h q
  | cons p l ih =>
    refine ih _ fun j => ?_
    by_cases e : p.1 = j
    · subst e
      rw [Tbl.get_put_same]
      exact p.2.clear_cleared
    · rw [Tbl.get_put_other _ _ _ _ _ _ e]
      exact h j

theorem State.queue_syncQue (s : State) (q : Nat) : s.syncQue.queue q = s.queue q := by
  have h : ∀ (t : State) f v, (t.setFld f v).queue q = t.queue q := fun _ _ _ => rfl
  simp only [State.syncQue, h]

theorem State.queCntClr_cleared (s : State) (q : Nat) : (s.queCntClr.queue q).cleared := by
  unfold State.queCntClr
  rw [State.queue_syncQue]
  exact foldl_put_cleared s.que [] (fun _ => ⟨rfl, rfl, rfl, rfl, rfl, rfl⟩) q

theorem State.demClr_clears (s : State) : (s.demClr.mp 0).maxDem = 0 ∧ (s.demClr.mp 1).maxDem = 0 ∧ s.demClr.regs = s.regs := by
  refine ⟨?_, ?_, rfl⟩ <;> simp [State.demClr, State.mp, State.setMp, Tbl.get_put_other]

/-! ### Event bits -/

theorem State.reg_syncIrq_other (s : State) (a : Nat) (h : a ≠ R.EVT_STAT) : s.syncIrq.reg a = s.reg a := by
  obtain ⟨u, n, p, e⟩ := s.syncIrq_eq
  have k := (State.reg_setFld_other (s.setFld F.EVT_STAT_URGENT u) F.EVT_STAT_NORMAL n a h.symm).trans
    (s.reg_setFld_other F.EVT_STAT_URGENT u a h.symm)
  simpa only [e, State.reg] using k

@[simp] theorem State.pend_syncIrq (s : State) : s.syncIrq.pend = s.pend := by
  have h0 := s.reg_syncIrq_other R.EVT_PEND0 (by decide)
  have h1 := s.reg_syncIrq_other R.EVT_PEND1 (by decide)
  have h2 := s.reg_syncIrq_other R.EVT_PEND2 (by decide)
  simp only [State.pend, h0, h1, h2]

@[simp] theorem State.evtEn_syncIrq (s : State) : s.syncIrq.evtEn = s.evtEn := by
  have h0 := s.reg_syncIrq_other R.EVT_EN0 (by decide)
  have h1 := s.reg_syncIrq_other R.EVT_EN1 (by decide)
  have h2 := s.reg_syncIrq_other R.EVT_EN2 (by decide)
  simp only [State.evtEn, h0, h1, h2]

/-- After the interrupt pins are brought up to date, each is low exactly when a source of its own is pending and enabled (R413, R414). -/
theorem State.pins_syncIrq (s : State) :
    s.syncIrq.pins.irq0 = (s.syncIrq.pend &&& Ev.urgentMask &&& s.syncIrq.evtEn != 0) ∧
      s.syncIrq.pins.irq1 = ((s.syncIrq.pend ^^^ (s.syncIrq.pend &&& Ev.urgentMask)) &&& s.syncIrq.evtEn != 0) := by
  rw [State.pend_syncIrq, State.evtEn_syncIrq]
  exact ⟨rfl, rfl⟩

theorem State.reg_pendClear (s : State) (i : Fin 3) (m : Word) :
    (s.pendClear i.val m).reg (R.EVT_PEND0 + 4 * i.val) =
      s.reg (R.EVT_PEND0 + 4 * i.val) &&& ~~~(if i.val = 0 then m &&& ~~~4#32 else m) :=
  (State.reg_syncIrq_other _ _ (by revert i; decide)).trans (State.reg_setReg_same _ _ _)

theorem State.reg_enWrite (s : State) (i : Fin 3) (v : Word) :
    (s.enWrite i.val v).reg (R.EVT_EN0 + 4 * i.val) = if i.val = 2 then v &&& 0xFFFFFF#32 else v :=
  (State.reg_syncIrq_other _ _ (by revert i; decide)).trans (State.reg_setReg_same _ _ _)

end Sys2Proof.Machine
end
section
/-! PROOF. The CNT_CLR bits, DEM_CLR and the event bits. -/

namespace Sys2Proof.Machine

/-- Settles O7, block by block: a CNT_CLR resets its registers of counters and clears its counter fields, and an event write is followed by
bringing the interrupt pins up to date. -/
theorem counterClearsAndEventBitsComplete : Obligations.CounterClearsAndEventBitsComplete := by
  have zero : ∀ (s : State) as f a, a ∈ as → a ∈ counterRegs → f.addr ≠ a → ((s.resetRegs as).setFld f 0).reg a = 0 := fun s =>
    s.reg_resetRegs_setFld_counter
  refine ⟨fun s => ⟨_, rfl, s.pwrCntClr_clears⟩, fun s => ⟨_, rfl, ?rtk⟩, fun s => ⟨_, rfl, ?snp⟩, fun s => ⟨_, rfl, ?sbx⟩,
    fun s => ⟨_, rfl, ?alt⟩, fun s => ⟨_, rfl, ?ttb⟩, fun s => ⟨_, rfl, s.radCntClr_clears⟩, fun s => ⟨_, rfl, ?eth⟩,
    fun s => ⟨_, rfl, s.resetRegs_one_clears _ (by decide)⟩, fun s => ⟨_, rfl, ?lan⟩,
    fun s => ⟨_, rfl, s.resetRegs_one_clears _ (by decide)⟩, fun s => ⟨_, rfl, s.resetRegs_one_clears _ (by decide)⟩,
    fun s => ⟨_, rfl, s.resetRegs_one_clears _ (by decide)⟩, fun s => ⟨_, rfl, s.resetRegs_one_clears _ (by decide)⟩,
    fun s => ⟨_, rfl, s.queCntClr_cleared⟩, fun s => ⟨_, rfl, s.demClr_clears⟩, fun s i m => ⟨_, rfl, s.reg_pendClear i m, State.pins_syncIrq _⟩,
    fun s i v => ⟨_, rfl, s.reg_enWrite i v, State.pins_syncIrq _⟩⟩
  case rtk =>
    exact ⟨zero s _ _ _ (by decide) (by decide) (by decide), zero s _ _ _ (by decide) (by decide) (by decide),
      State.fld_setFld_zero _ _ (by decide), s.fld_resetRegs_setFld_other _ _ _ _ (by decide) rfl (by decide) (by decide),
      fun a h h' hf => s.reg_resetRegs_setFld_other _ _ _ _ (by simp [h, h']) hf⟩
  case snp =>
    exact ⟨zero s _ _ _ (by decide) (by decide) (by decide), zero s _ _ _ (by decide) (by decide) (by decide),
      State.fld_setFld_zero _ _ (by decide), fun a h h' hf => s.reg_resetRegs_setFld_other _ _ _ _ (by simp [h, h']) hf⟩
  case sbx =>
    exact ⟨zero s _ _ _ (by decide) (by decide) (by decide), zero s _ _ _ (by decide) (by decide) (by decide),
      State.fld_setFld_zero _ _ (by decide), s.fld_resetRegs_setFld_other _ _ _ _ (by decide) rfl (by decide) (by decide),
      fun a h h' hf => s.reg_resetRegs_setFld_other _ _ _ _ (by simp [h, h']) hf⟩
  case alt =>
    exact ⟨zero s _ _ _ (by decide) (by decide) (by decide), State.fld_setFld_zero _ _ (by decide),
      fun a h hf => s.reg_resetRegs_setFld_other _ _ _ _ (by simp [h]) hf⟩
  case ttb =>
    exact ⟨zero s _ _ _ (by decide) (by decide) (by decide), State.fld_setFld_zero _ _ (by decide),
      s.fld_resetRegs_setFld_other _ _ _ _ (by decide) rfl (by decide) (by decide),
      fun a h hf => s.reg_resetRegs_setFld_other _ _ _ _ (by simp [h]) hf⟩
  case eth =>
    refine ⟨?_, ?_, ?_, ?_, fun a h h' k k' => s.reg_resetRegs_other _ _ (by simp [h, h', k, k'])⟩ <;>
      exact s.reg_resetRegs_counter _ _ (by decide) (by decide)
  case lan =>
    refine ⟨?_, ?_, fun a h h' => s.reg_resetRegs_other _ _ (by simp [h, h'])⟩ <;>
      exact s.reg_resetRegs_counter _ _ (by decide) (by decide)

end Sys2Proof.Machine
end

section
/-! SUPPORT. What the commands of the transports, the sessions and the register accesses can change. -/

namespace Sys2Proof.Machine

/-! ### One part of the state -/

/-- An update that leaves the registers, the waiting commands and every part but `p` as they were. -/
theorem State.changesOnly_part {s t : State} {ps : List Part} {rs : List Nat} {bs : List Block} (p : Part) (hp : p ∈ ps)
    (h : ∀ q, q ≠ p → q.same s t) (hpending : t.pending = s.pending) (hregs : t.regs = s.regs) : s.changesOnly t ps rs bs :=
  ⟨hpending, fun q hq => h q fun e => hq (e ▸ hp), fun a _ _ => by rw [State.reg, State.reg, hregs]⟩

section
variable (s : State) {ps : List Part} {rs : List Nat} {bs : List Block}

theorem State.free_changesOnly (x : Nat) (h : Part.free ∈ ps) : s.changesOnly { s with free := x } ps rs bs :=
  State.changesOnly_part .free h (fun q hq => by cases q <;> simp_all [Part.same, State.dramByte]) rfl rfl

theorem State.outs_changesOnly (x : List Output) (h : Part.outs ∈ ps) : s.changesOnly { s with outs := x } ps rs bs :=
  State.changesOnly_part .outs h (fun q hq => by cases q <;> simp_all [Part.same, State.dramByte]) rfl rfl

theorem State.dram_changesOnly (x : List Host.Cell) (h : Part.dram ∈ ps) : s.changesOnly { s with dram := x } ps rs bs :=
  State.changesOnly_part .dram h (fun q hq => by cases q <;> simp_all [Part.same]) rfl rfl

theorem State.time_changesOnly (x : TimeSt) (h : Part.time ∈ ps) : s.changesOnly { s with time := x } ps rs bs :=
  State.changesOnly_part .time h (fun q hq => by cases q <;> simp_all [Part.same, State.dramByte]) rfl rfl

theorem State.sessions_changesOnly (x : Svb) (h : Part.svb ∈ ps) : s.changesOnly { s with svb := x } ps rs bs :=
  State.changesOnly_part .svb h (fun q hq => by cases q <;> simp_all [Part.same, State.dramByte]) rfl rfl

theorem State.eng_changesOnly (x : Engines) (h : Part.eng ∈ ps) : s.changesOnly { s with eng := x } ps rs bs :=
  State.changesOnly_part .eng h (fun q hq => by cases q <;> simp_all [Part.same, State.dramByte]) rfl rfl

theorem State.sbx_changesOnly (x : Sbx) (h : Part.sbx ∈ ps) : s.changesOnly { s with sbx := x } ps rs bs :=
  State.changesOnly_part .sbx h (fun q hq => by cases q <;> simp_all [Part.same, State.dramByte]) rfl rfl

theorem State.que_changesOnly (x : Tbl Queue) (h : Part.que ∈ ps) : s.changesOnly { s with que := x } ps rs bs :=
  State.changesOnly_part .que h (fun q hq => by cases q <;> simp_all [Part.same, State.dramByte]) rfl rfl

theorem State.arb_changesOnly (x : Arb) (h : Part.arb ∈ ps) : s.changesOnly { s with arb := x } ps rs bs :=
  State.changesOnly_part .arb h (fun q hq => by cases q <;> simp_all [Part.same, State.dramByte]) rfl rfl

theorem State.fuses_changesOnly (x : Fuses) (h : Part.fuses ∈ ps) : s.changesOnly { s with fuses := x } ps rs bs :=
  State.changesOnly_part .fuses h (fun q hq => by cases q <;> simp_all [Part.same, State.dramByte]) rfl rfl

theorem State.cbk_changesOnly (x : Cbk) (h : Part.cbk ∈ ps) : s.changesOnly { s with cbk := x } ps rs bs :=
  State.changesOnly_part .cbk h (fun q hq => by cases q <;> simp_all [Part.same, State.dramByte]) rfl rfl

theorem State.tst_changesOnly (x : Tst) (h : Part.tst ∈ ps) : s.changesOnly { s with tst := x } ps rs bs :=
  State.changesOnly_part .tst h (fun q hq => by cases q <;> simp_all [Part.same, State.dramByte]) rfl rfl

theorem State.pins_changesOnly (x : Pins) (h : Part.pins ∈ ps) : s.changesOnly { s with pins := x } ps rs bs :=
  State.changesOnly_part .pins h (fun q hq => by cases q <;> simp_all [Part.same, State.dramByte]) rfl rfl
end

section
variable {s t u : State} {ps : List Part} {rs : List Nat} {bs : List Block}

/-- What packets and events change lies within a frame that lists it. -/
theorem State.changesOnly_of_bus (h : s.changesOnly t busParts busRegs []) (hb : busParts ⊆ ps) (hr : busRegs ⊆ rs) :
    s.changesOnly t ps rs bs := State.changesOnly_mono h hb hr (by simp)

theorem State.ite_changesOnly {c : Prop} [Decidable c] (ht : s.changesOnly t ps rs bs) (hu : s.changesOnly u ps rs bs) :
    s.changesOnly (if c then t else u) ps rs bs := by
  split
  · exact ht
  · exact hu

theorem State.setFld_then (f : Fld) (v : Nat) (h : s.changesOnly t ps rs bs) (hf : f.addr ∈ rs) :
    s.changesOnly (t.setFld f v) ps rs bs := State.changesOnly_trans h (t.setFld_changesOnly f v (.inl hf))

theorem State.resetRegs_changesOnly (s : State) (as : List Nat) (h : as ⊆ rs) : s.changesOnly (s.resetRegs as) ps rs bs := by
  induction as generalizing s with
  | nil => exact s.changesOnly_refl _ _ _
  | cons a l ih =>
    obtain ⟨ha, hl⟩ := List.cons_subset.mp h
    exact State.changesOnly_trans (s.setReg_changesOnly a _ (.inl ha)) (ih _ hl)

/-- A repetition over a list keeps a frame that each step over a member of the list keeps. -/
theorem State.foldl_mem_changesOnly {α : Type} (f : State → α → State) (l : List α)
    (h : ∀ a ∈ l, ∀ s : State, s.changesOnly (f s a) ps rs bs) (s : State) : s.changesOnly (l.foldl f s) ps rs bs := by
  induction l generalizing s with
  | nil => exact s.changesOnly_refl _ _ _
  | cons a l ih => exact State.changesOnly_trans (h a (by simp) s) (ih (fun b hb => h b (by simp [hb])) _)
end

/-! ### SPI (R35 to R39) -/

section
variable (s : State) {ps : List Part} {rs : List Nat} {bs : List Block}

theorem State.setSess_changesSessions (sid : Nat) (ss : Session) (hp : Part.svb ∈ ps) (hr : R.SYS_SVB_STAT ∈ rs) :
    s.changesOnly (s.setSess sid ss) ps rs bs :=
  State.setFld_then _ _ (s.sessions_changesOnly _ hp) hr

theorem State.spiFraming_changesOnly (hp : Part.svb ∈ ps) (hr : R.SYS_SVB_ERR ∈ rs) : s.changesOnly s.spiFraming ps rs bs :=
  State.changesOnly_trans (s.sessions_changesOnly _ hp) (State.satInc_changesOnly _ _ (.inl hr))

theorem State.spi_changesOnly (k : State → State) (hp : Part.svb ∈ ps) (hr : R.SYS_SVB_ERR ∈ rs)
    (hk : s.changesOnly (k s) ps rs bs) : s.changesOnly (s.spi k) ps rs bs :=
  State.ite_changesOnly (s.changesOnly_refl _ _ _) <|
    State.ite_changesOnly (s.spiFraming_changesOnly hp hr) <|
      State.ite_changesOnly (s.changesOnly_refl _ _ _) (State.changesOnly_trans hk (State.sessions_changesOnly _ _ hp))

/-- The registers that show the event sources. -/
def evtRegs : List Nat := [R.EVT_CNT, R.EVT_PEND0, R.EVT_PEND1, R.EVT_PEND2, R.EVT_STAT]

theorem State.syncIrq_changesEvents (hp : Part.pins ∈ ps) (hr : evtRegs ⊆ rs) : s.changesOnly s.syncIrq ps rs bs := by
  have he : R.EVT_STAT ∈ rs := hr (by decide)
  exact State.changesOnly_trans (State.setFld_then F.EVT_STAT_NORMAL _ (s.setFld_changesOnly F.EVT_STAT_URGENT _ (.inl he)) he)
    (State.pins_changesOnly _ _ hp)

theorem State.syncOut_changesEvents (hp : Part.pins ∈ ps) (hr : evtRegs ⊆ rs) : s.changesOnly s.syncOut ps rs bs := by
  unfold State.syncOut
  dsimp only
  split
  · exact s.changesOnly_refl _ _ _
  · have hpend : ∀ b, s.changesOnly (s.setPend Ev.sysSvbOut b) ps rs bs := fun b =>
      s.setReg_changesOnly _ _ (.inl (hr (show R.EVT_PEND0 + 4 * (Ev.sysSvbOut / 32) ∈ evtRegs by decide)))
    exact State.changesOnly_trans (State.ite_changesOnly (State.setFld_then _ _ (hpend _) (hr (by decide))) (hpend _))
      (State.syncIrq_changesEvents _ hp hr)
end

/-! ### Tokens (R409) -/

section
variable (s : State) {ps : List Part} {rs : List Nat} {bs : List Block}

/-- The registers of the token arbiters. -/
def tokenRegs : List Nat := [R.ARB_DRAM, R.ARB_DRAM_CNT, R.ARB_MAT, R.ARB_MAT_CNT]

theorem State.setTokenArb_changesOnly (arb : Nat) (a : TokenArb) (hp : Part.arb ∈ ps) (hr : tokenRegs ⊆ rs) :
    s.changesOnly (s.setTokenArb arb a) ps rs bs := by
  have hb : (if arb = 0 then R.ARB_MAT else R.ARB_DRAM) ∈ rs := hr (by split <;> decide)
  exact State.changesOnly_trans (State.ite_changesOnly (s.arb_changesOnly _ hp) (s.arb_changesOnly _ hp))
    (State.setReg_changesOnly _ _ _ (.inl hb))

section
variable (hp : .arb :: .lan :: busParts ⊆ ps) (hr : tokenRegs ++ busRegs ⊆ rs)
include hp hr

theorem State.raise_lane_changesOnly (src : Nat) (detail : List Byte) (h : src < 96) : s.changesOnly (s.raise src detail) ps rs bs :=
  State.changesOnly_mono (s.raise_changesOnly src detail h) (fun _ hx => hp (List.mem_cons_of_mem _ hx))
    (fun _ hx => hr (List.mem_append_right _ hx)) (by simp)

theorem State.tokenGranted_changesOnly (arb : Nat) (taken : Option Nat) (owner : Nat) :
    s.changesOnly (s.tokenGranted arb taken owner) ps rs bs := by
  have hc : (if arb = 0 then R.ARB_MAT_CNT else R.ARB_DRAM_CNT) ∈ rs := hr (List.mem_append_left _ (by split <;> decide))
  have hi := s.setFld_changesOnly ⟨if arb = 0 then R.ARB_MAT_CNT else R.ARB_DRAM_CNT, 0, 16⟩
    (s.fld ⟨if arb = 0 then R.ARB_MAT_CNT else R.ARB_DRAM_CNT, 0, 16⟩ + 1) (ps := ps) (bs := bs) (.inl hc)
  unfold State.tokenGranted
  extract_lets cnt t
  split
  · exact hi
  · extract_lets n u
    have hu : s.changesOnly u ps rs bs :=
      State.changesOnly_trans (State.changesOnly_trans hi (State.satInc_changesOnly _ _ (.inl hc)))
        (State.setTokenArb_changesOnly _ _ _ (hp (by simp)) fun _ hx => hr (List.mem_append_left _ hx))
    exact State.ite_changesOnly (State.changesOnly_trans hu (State.raise_lane_changesOnly _ hp hr _ _ (by decide))) hu

theorem State.tokenRound_changesOnly (arb : Nat) : s.changesOnly (s.tokenRound arb) ps rs bs := by
  have ht : ∀ a, s.changesOnly (s.setTokenArb arb a) ps rs bs := fun a =>
    s.setTokenArb_changesOnly _ _ (hp (by simp)) fun _ hx => hr (List.mem_append_left _ hx)
  unfold State.tokenRound
  dsimp only
  split
  · exact State.ite_changesOnly (ht _) (State.changesOnly_trans (ht _) (State.tokenGranted_changesOnly _ hp hr _ _ _))
  · exact ht _

theorem State.tokenFree_changesOnly (arb : Nat) : s.changesOnly (s.tokenFree arb) ps rs bs := by
  have ht : ∀ a, s.changesOnly (s.setTokenArb arb a) ps rs bs := fun a =>
    s.setTokenArb_changesOnly _ _ (hp (by simp)) fun _ hx => hr (List.mem_append_left _ hx)
  exact State.ite_changesOnly (ht _) (State.changesOnly_trans (ht _) (State.tokenRound_changesOnly _ hp hr _))

theorem State.tokenSync_changesOnly (arb : Nat) : s.changesOnly (s.tokenSync arb) ps rs bs := by
  unfold State.tokenSync
  split
  · exact State.ite_changesOnly (s.tokenFree_changesOnly hp hr _) (s.changesOnly_refl _ _ _)
  · exact s.changesOnly_refl _ _ _

theorem State.endStretch_changesOnly : s.changesOnly s.endStretch ps rs bs :=
  State.foldl_changesOnly _ (fun t arb => State.ite_changesOnly (t.tokenFree_changesOnly hp hr arb) (t.changesOnly_refl _ _ _)) _ _
end

/-! ### Queues (R384 to R390) -/

/-- The registers of the queues. -/
def queRegs : List Nat := [R.QUE_MODE0, R.QUE_MODE1, R.QUE_Q_CNT, R.QUE_Q_ERR, R.QUE_Q_STAT, R.QUE_STAT]

theorem State.syncQue_changesOnly (hr : queRegs ⊆ rs) : s.changesOnly s.syncQue ps rs bs := by
  have h : ∀ {t : State} (f : Fld) (v : Nat), f.addr ∈ queRegs → s.changesOnly t ps rs bs → s.changesOnly (t.setFld f v) ps rs bs :=
    fun f v hf ht => State.setFld_then f v ht (hr hf)
  unfold State.syncQue
  iterate 15 refine h _ _ (by decide) ?_
  exact s.changesOnly_refl _ _ _

theorem State.setQueue_changesOnly (q : Nat) (k : Queue) (hp : Part.que ∈ ps) (hr : queRegs ⊆ rs) :
    s.changesOnly (s.setQueue q k) ps rs bs :=
  State.changesOnly_trans (s.que_changesOnly _ hp) (State.syncQue_changesOnly _ hr)

theorem State.inject_changesOnly (q words : Nat) (hp : Part.tst ∈ ps) (he : R.TST_ERR ∈ rs) (hs : R.TST_STAT ∈ rs) :
    s.changesOnly (s.inject q words).2.2 ps rs bs := by
  unfold State.inject
  dsimp only
  split
  · exact s.changesOnly_refl _ _ _
  · exact State.ite_changesOnly (State.setFld_then _ _ (State.setFld_then _ _ (s.tst_changesOnly _ hp) he) hs) (s.tst_changesOnly _ hp)

section
variable (hp : [Part.que, .tst] ⊆ ps) (hr : R.TST_ERR :: R.TST_STAT :: queRegs ⊆ rs)
include hp hr

theorem State.commitPacket_changesOnly (q : Nat) (p : QPacket) : s.changesOnly (s.commitPacket q p) ps rs bs := by
  unfold State.commitPacket
  have h := s.inject_changesOnly q p.words (bs := bs) (hp (by simp)) (hr (by simp)) (hr (by simp))
  generalize s.inject q p.words = x at h
  obtain ⟨n, double, t⟩ := x
  exact State.changesOnly_trans h (State.setQueue_changesOnly _ _ _ (hp (by simp)) fun _ hx => hr (by simp [hx]))

theorem State.writePackets_changesOnly (q : Nat) (l : List QPacket) : s.changesOnly (s.writePackets q l) ps rs bs := by
  induction l generalizing s with
  | nil => exact s.changesOnly_refl _ _ _
  | cons p l ih =>
    unfold State.writePackets
    exact State.ite_changesOnly (s.setQueue_changesOnly _ _ (hp (by simp)) fun _ hx => hr (by simp [hx]))
      (State.changesOnly_trans (s.commitPacket_changesOnly hp hr q p) (ih _))

theorem State.writerGoes_changesOnly (q : Nat) : s.changesOnly (s.writerGoes q) ps rs bs :=
  State.changesOnly_trans (s.setQueue_changesOnly _ _ (hp (by simp)) fun _ hx => hr (by simp [hx]))
    (State.writePackets_changesOnly _ hp hr _ _)

theorem State.endForced_changesOnly (q : Nat) : s.changesOnly (s.endForced q) ps rs bs :=
  State.ite_changesOnly (s.writerGoes_changesOnly hp hr q) (s.changesOnly_refl _ _ _)
end
end

/-! ### The end of a session (R34, R42, R517) -/

/-- The parts that the end of a session may change: the sessions, and with a lock of the test block all that its perturbations held up. -/
def goneParts : List Part := [.outs, .pins, .svb, .que, .arb, .lan, .tst]

/-- The registers that the end of a session may change. -/
def goneRegs : List Nat :=
  [R.ARB_DRAM, R.ARB_DRAM_CNT, R.ARB_MAT, R.ARB_MAT_CNT, R.QUE_MODE0, R.QUE_MODE1, R.QUE_Q_CNT, R.QUE_Q_ERR, R.QUE_Q_STAT, R.QUE_STAT,
    R.TST_BP, R.TST_CTL, R.TST_ERR, R.TST_JIT, R.TST_STRETCH] ++ (List.range 64).map R.SEC_SLOT ++ (List.range 4).map R.TST_QDLY ++ busRegs

theorem busParts_subset_gone : busParts ⊆ goneParts := by decide
theorem busRegs_subset_gone : busRegs ⊆ goneRegs := List.subset_append_right _ _

section
variable (s : State)

theorem State.changesOnly_gone_of_bus {s t : State} (h : s.changesOnly t busParts busRegs []) : s.changesOnly t goneParts goneRegs [] :=
  State.changesOnly_of_bus h busParts_subset_gone busRegs_subset_gone

theorem State.syncInSession_changesOnly (slot : Nat) : s.changesOnly (s.syncInSession slot) goneParts goneRegs [] :=
  s.setFld_changesOnly _ _ <| .inl <| List.mem_append_left _ <| List.mem_append_left _ <| List.mem_append_right _ <|
    List.mem_map_of_mem (List.mem_range.mpr (Nat.mod_lt _ (by decide)))

theorem State.perturbEnd_changesOnly (as : List Nat) (h : as ⊆ goneRegs) : s.changesOnly (s.perturbEnd as) goneParts goneRegs [] :=
  State.changesOnly_trans (State.changesOnly_trans (s.resetRegs_changesOnly as h)
    (State.endForced_changesOnly _ (by decide) (by decide) _)) (State.endStretch_changesOnly _ (by decide) (by decide))

theorem State.tstLock_changesOnly (cause : Nat) : s.changesOnly (s.tstLock cause) goneParts goneRegs [] := by
  unfold State.tstLock
  split
  · exact s.changesOnly_refl _ _ _
  · exact State.changesOnly_trans (State.changesOnly_trans (s.tst_changesOnly _ (by decide)) (State.perturbEnd_changesOnly _ _ (by decide)))
      (State.changesOnly_gone_of_bus (State.raise_hub_changesOnly _ _ _ (by decide) (by decide)))

theorem State.sessionGone_changesOnly (sid : Nat) : s.changesOnly (s.sessionGone sid) goneParts goneRegs [] := by
  have h : ∀ ss, s.changesOnly (s.setSess sid ss).syncOut goneParts goneRegs [] := fun ss =>
    State.changesOnly_gone_of_bus (State.changesOnly_trans (s.setSess_changesOnly _ _) (State.syncOut_changesOnly _))
  unfold State.sessionGone
  extract_lets ss gone t u
  have hu : s.changesOnly u goneParts goneRegs [] :=
    State.ite_changesOnly (State.changesOnly_trans (h _) (State.syncInSession_changesOnly _ _)) (h _)
  exact State.ite_changesOnly (State.changesOnly_trans hu (State.tstLock_changesOnly _ _)) hu

theorem State.udpClose_changesOnly (sid : Nat) : s.changesOnly (s.udpClose sid) goneParts goneRegs [] :=
  State.changesOnly_trans (s.sessionGone_changesOnly sid) (State.changesOnly_gone_of_bus (State.setSess_changesOnly _ _ _))

theorem State.udpDue_changesOnly : s.changesOnly s.udpDue goneParts goneRegs [] :=
  State.foldl_changesOnly _ (fun t sid => State.ite_changesOnly (t.changesOnly_refl _ _ _) (t.udpClose_changesOnly sid)) _ _

theorem State.closeDue_changesOnly (sid : Nat) : s.changesOnly (State.closeDue sid s) goneParts goneRegs [] :=
  State.ite_changesOnly (s.sessionGone_changesOnly sid) (s.changesOnly_refl _ _ _)

theorem State.sessionConfirm_changesOnly (sid src seq : Nat) (p : List Byte) (h : Handshake) :
    s.changesOnly (s.sessionConfirm sid src seq p h) goneParts goneRegs [] := by
  refine State.changesOnly_trans (State.changesOnly_trans (State.changesOnly_trans (s.sessionGone_changesOnly sid) ?_)
    (State.syncInSession_changesOnly _ h.slot)) (State.changesOnly_gone_of_bus (State.answer_changesOnly _ _ _ _ _))
  exact State.changesOnly_gone_of_bus (State.changesOnly_trans (State.setSess_changesOnly _ _ _) (State.syncOut_changesOnly _))
end

/-! ### Commands of the hub (R43 to R45) -/

section
variable (s : State) (sid src seq : Nat) (op : Op) (p : List Byte) {ps : List Part} {rs : List Nat} {bs : List Block}
variable (hb : busParts ⊆ ps) (hr : busRegs ⊆ rs) (hl : op.lane p = false) (hf : op.fromLane = false)
variable (hrun : ∀ t : State, t.changesOnly (op.run t sid seq p).1 ps rs bs) (hpost : ∀ t : State, t.changesOnly (op.post sid t) ps rs bs)
include hb hr

theorem State.follow_changesOnly (hpost : ∀ t : State, t.changesOnly (op.post sid t) ps rs bs) :
    s.changesOnly (s.follow sid seq op) ps rs bs :=
  State.ite_changesOnly (State.changesOnly_of_bus (s.svb_changesOnly _) hb hr) (hpost s)

include hl hf hrun hpost

/-- What one command that no lane executes can change: what its opcode changes, the sessions and packets. -/
theorem State.execute_hub_changesOnly : s.changesOnly (s.execute sid seq op p) ps rs bs := by
  have hfin : ∀ (t : State) r, t.changesOnly (t.finish sid seq op.code none r) ps rs bs := fun t r =>
    State.changesOnly_of_bus (t.finish_hub_changesOnly sid seq op.code r) hb hr
  have he : s.engineFor op p = none := by simp [State.engineFor, hl, hf]
  unfold State.execute
  dsimp only
  rw [he, hl]
  split
  · exact hfin _ _
  · split
    · exact hfin _ _
    · rw [Bool.false_and, Bool.false_and, if_neg (by decide), Bool.false_and, if_neg (by decide), if_neg (by decide)]
      have h := hrun s
      generalize op.run s sid seq p = x at h ⊢
      obtain ⟨t, _ | r⟩ := x
      · exact h
      · exact State.changesOnly_trans (State.changesOnly_trans h (hfin _ _)) (State.follow_changesOnly _ _ _ _ hb hr hpost)

theorem State.accept_hub_changesOnly : s.changesOnly (s.accept sid src seq op p) ps rs bs := by
  have hs : ∀ (t : State) code dup r, t.changesOnly (t.sendReply sid src seq code dup r) ps rs bs := fun t code dup r =>
    State.changesOnly_of_bus (t.sendReply_changesOnly sid src seq code dup r) hb hr
  have hd : s.changesOnly (s.satInc F.SYS_SVB_ERR_DUP) ps rs bs :=
    s.satInc_changesOnly _ (.inl (hr (show R.SYS_SVB_ERR ∈ busRegs by decide)))
  unfold State.accept
  dsimp only
  split
  · split
    · exact hs _ _ _ _
    · split
      · exact hd
      · exact State.changesOnly_trans hd (hs _ _ _ _)
  · split
    · exact hs _ _ _ _
    · split
      · exact hs _ _ _ _
      · exact State.changesOnly_trans (State.changesOnly_of_bus (s.setSess_changesOnly _ _) hb hr)
          (State.execute_hub_changesOnly _ _ _ _ _ hb hr hl hf hrun hpost)
end

section
variable (s : State) (c : Cmd) (op : Op) {ps : List Part} {rs : List Nat} {bs : List Block}
variable (hb : busParts ⊆ ps) (hr : busRegs ⊆ rs)
include hb hr

/-- A command row changes what the handling of its command changes, a session and the count of badly framed packets. -/
theorem State.host_changesOnly_of_command
    (h : ∀ (t : State) src, t.changesOnly (t.command c.sid.val src c.seq.toNat op.code op c.payload) ps rs bs) :
    s.changesOnly (s.host c op) ps rs bs := by
  unfold State.host
  dsimp only
  refine State.ite_changesOnly (State.ite_changesOnly ?_ (State.changesOnly_trans (State.ite_changesOnly ?_ ?_) (h _ _))) ?_
  · exact s.satInc_changesOnly _ (.inl (hr (show R.SYS_SVB_ERR ∈ busRegs by decide)))
  · exact State.changesOnly_of_bus (s.setSess_changesOnly _ _) hb hr
  · exact s.changesOnly_refl _ _ _
  · exact s.changesOnly_refl _ _ _

/-- A command row of an opcode of the hub other than SESSION_OPEN and SESSION_CONFIRM changes what its opcode changes, the sessions and
packets. -/
theorem State.host_hub_changesOnly (ho : op.code ≠ 0x0101) (hc : op.code ≠ 0x0102) (hl : ∀ p, op.lane p = false)
    (hf : op.fromLane = false) (hrun : ∀ (t : State) sid seq p, t.changesOnly (op.run t sid seq p).1 ps rs bs)
    (hpost : ∀ sid (t : State), t.changesOnly (op.post sid t) ps rs bs) : s.changesOnly (s.host c op) ps rs bs := by
  refine s.host_changesOnly_of_command c op hb hr fun t src => ?_
  have e : (op.code == 0x0102) = false := by simpa using hc
  unfold State.command
  rw [if_neg ho, e]
  exact State.ite_changesOnly (State.changesOnly_of_bus (t.sendPkt_changesOnly _ _ _) hb hr)
    (t.accept_hub_changesOnly _ _ _ _ _ hb hr (hl _) hf (fun t => hrun t _ _ _) (hpost _))
end

section
variable {s t : State} {n : Nat} {p : List Byte} {ps : List Part} {rs : List Nat} {bs : List Block}

theorem withLen_changesOnly {k : Res} (h : s.changesOnly k.1 ps rs bs) : s.changesOnly (withLen s n p k).1 ps rs bs := by
  unfold withLen
  split
  · exact h
  · exact s.changesOnly_refl _ _ _
end

section
variable (s : State) (sid seq : Nat) (p : List Byte)

theorem doPing_changesOnly : s.changesOnly (doPing s sid seq p).1 busParts busRegs [] := by
  unfold doPing
  split <;> exact s.changesOnly_refl _ _ _

theorem doSessionClose_changesOnly : s.changesOnly (doSessionClose s sid seq p).1 goneParts goneRegs [] :=
  withLen_changesOnly (State.changesOnly_gone_of_bus (s.setSess_changesOnly _ _))

theorem doGetIdentity_changesOnly : s.changesOnly (doGetIdentity s sid seq p).1 busParts busRegs [] :=
  withLen_changesOnly (s.changesOnly_refl _ _ _)

theorem doEventSubscribe_changesOnly : s.changesOnly (doEventSubscribe s sid seq p).1 busParts busRegs [] :=
  withLen_changesOnly (s.setSess_changesOnly _ _)

theorem doBulkWrite_changesOnly : s.changesOnly (doBulkWrite s sid seq p).1 (.dram :: busParts) busRegs [] := by
  unfold doBulkWrite
  dsimp only
  split
  · exact s.changesOnly_refl _ _ _
  · split
    · exact s.changesOnly_refl _ _ _
    · exact s.dram_changesOnly _ (by simp)

theorem doBulkRead_changesOnly : s.changesOnly (doBulkRead s sid seq p).1 busParts busRegs [] := by
  refine withLen_changesOnly ?_
  dsimp only
  split <;> exact s.changesOnly_refl _ _ _
end

/-! ### Sessions opened and confirmed (R42) -/

theorem State.authFail_changesOnly (s : State) (sid kind : Nat) : s.changesOnly (s.authFail sid kind) busParts busRegs [] :=
  State.changesOnly_trans (s.satInc_changesOnly _ (.inl (by decide))) (State.raise_hub_changesOnly _ _ _ (by decide) (by decide))

theorem State.sessionOpen_changesOnly (s : State) (sid src seq : Nat) (p : List Byte) :
    s.changesOnly (s.sessionOpen sid src seq p) (.free :: busParts) busRegs [] := by
  have bus : ∀ {t u : State}, t.changesOnly u busParts busRegs [] → t.changesOnly u (.free :: busParts) busRegs [] := fun h =>
    State.changesOnly_of_bus h (by decide) (by decide)
  unfold State.sessionOpen
  extract_lets say slot level
  have hsay : ∀ (t : State) r, t.changesOnly (say t r) (.free :: busParts) busRegs [] := fun t r => bus (t.sendPkt_changesOnly _ _ _)
  split
  · exact hsay _ _
  · split
    · exact hsay _ _
    · split
      · exact State.changesOnly_trans (bus (s.authFail_changesOnly _ _)) (hsay _ _)
      · exact State.changesOnly_trans (State.changesOnly_trans (s.free_changesOnly _ (by simp)) (bus (State.setSess_changesOnly _ _ _)))
          (hsay _ _)

theorem State.host_sessionOpen_changesOnly (s : State) (c : Cmd) : s.changesOnly (s.host c opSessionOpen) (.free :: busParts) busRegs [] :=
  s.host_changesOnly_of_command c _ (by decide) (by decide) fun t src =>
    State.ite_changesOnly (State.changesOnly_of_bus (t.sendPkt_changesOnly _ _ _) (by decide) (by decide))
      (t.sessionOpen_changesOnly _ _ _ _)

theorem State.host_sessionConfirm_changesOnly (s : State) (c : Cmd) : s.changesOnly (s.host c opSessionConfirm) goneParts goneRegs [] := by
  refine s.host_changesOnly_of_command c _ busParts_subset_gone busRegs_subset_gone fun t src => ?_
  unfold State.command
  dsimp only
  rw [if_neg (by decide)]
  split
  · exact t.sessionConfirm_changesOnly _ _ _ _ _
  · refine State.ite_changesOnly (State.changesOnly_gone_of_bus (t.sendPkt_changesOnly _ _ _))
      (State.ite_changesOnly (State.changesOnly_gone_of_bus (t.sendReply_changesOnly _ _ _ _ _ _)) ?_)
    exact t.accept_hub_changesOnly _ _ _ _ _ busParts_subset_gone busRegs_subset_gone rfl rfl (fun t => t.changesOnly_refl _ _ _)
      (fun t => t.changesOnly_refl _ _ _)

/-! ### Register reads -/

/-- The parts that a register read may change. -/
def readParts : List Part := [.free, .outs, .pins, .time, .svb, .eng, .sbx, .arb, .lan, .tst]

/-- The registers that a register read may change. -/
def readRegs : List Nat :=
  [R.ARB_DRAM, R.ARB_DRAM_CNT, R.ARB_MAT, R.ARB_MAT_CNT, R.PWR_SUP, R.PWR_SUP2, R.SBX_LOAD, R.SCH_CNT, R.SYS_TT_COUNT, R.SYS_TT_POS,
    R.TIM_IN_HI, R.TIM_IN_LO, R.TIM_IN_META, R.TIM_IN_STAT, R.TIM_NOW_HI] ++ (List.range 2).map R.ETH_P_PAUSE ++ busRegs

section
variable (s : State) {ps : List Part} {rs : List Nat} {bs : List Block}

theorem State.drew_changesOnly (n : Nat) (h : Part.free ∈ ps) : s.changesOnly (s.drew n) ps rs bs := s.free_changesOnly _ h

theorem State.seqSync_changesOnly (key : Nat) (hf : Part.free ∈ ps) (he : Part.eng ∈ ps) : s.changesOnly (s.seqSync key) ps rs bs :=
  State.changesOnly_trans (s.drew_changesOnly 2 hf) (State.eng_changesOnly _ _ he)

theorem State.readTtPos_changesOnly (hf : Part.free ∈ ps) (he : Part.eng ∈ ps) (hr : [R.SYS_TT_COUNT, R.SYS_TT_POS] ⊆ rs) :
    s.changesOnly s.readTtPos.2 ps rs bs := by
  have hpos : R.SYS_TT_POS ∈ rs := hr (by simp)
  have hcount : R.SYS_TT_COUNT ∈ rs := hr (by simp)
  have hseq : ∀ (key : Option Nat) (st : Nat), s.changesOnly (match key with | some k => if st < 2 then s.seqSync k else s | none => s) ps rs bs := by
    intro key st
    cases key with
    | none => exact s.changesOnly_refl _ _ _
    | some k => exact State.ite_changesOnly (s.seqSync_changesOnly k hf he) (s.changesOnly_refl _ _ _)
  unfold State.readTtPos
  extract_lets die id
  split
  next st key _ =>
  refine State.setFld_then _ _ (State.setFld_then _ _ (State.setFld_then _ _ (State.setFld_then _ _ ?_ hpos) hpos) hpos) hcount
  exact State.ite_changesOnly (State.changesOnly_trans (hseq key st) (State.drew_changesOnly _ _ hf)) (hseq key st)
end

section
variable (s : State)

theorem State.readInLo_changesOnly : s.changesOnly s.readInLo.2 readParts readRegs [] := by
  have hr : ∀ {t : State} (a : Nat) (v : Word), a ∈ readRegs → s.changesOnly t readParts readRegs [] →
      s.changesOnly (t.setReg a v) readParts readRegs [] := fun a v ha h => State.changesOnly_trans h (State.setReg_changesOnly _ a v (.inl ha))
  unfold State.readInLo
  split
  · exact hr _ _ (by decide) (hr _ _ (by decide) (hr _ _ (by decide) (s.changesOnly_refl _ _ _)))
  · iterate 5 refine State.setFld_then _ _ ?_ (by decide)
    iterate 3 refine hr _ _ (by decide) ?_
    exact s.time_changesOnly _ (by decide)

theorem State.syncReq_changesOnly : s.changesOnly s.syncReq readParts readRegs [] :=
  State.ite_changesOnly (s.changesOnly_refl _ _ _)
    (State.changesOnly_trans (s.setFld_changesOnly _ _ (.inl (by decide))) (State.sbx_changesOnly _ _ (by decide)))

theorem State.readReg_changesOnly (a : Nat) : s.changesOnly (s.readReg a).2 readParts readRegs [] := by
  have hs := s.changesOnly_refl readParts readRegs []
  have hfld : ∀ f v, f.addr ∈ readRegs → s.changesOnly (s.setFld f v) readParts readRegs [] := fun f v h => State.setFld_then f v hs h
  have hdrew : ∀ f v n, f.addr ∈ readRegs → s.changesOnly ((s.setFld f v).drew n) readParts readRegs [] := fun f v n h =>
    State.changesOnly_trans (hfld f v h) (State.drew_changesOnly _ _ (by decide))
  have htok : ∀ arb, s.changesOnly (s.tokenSync arb) readParts readRegs [] := fun arb => s.tokenSync_changesOnly (by decide) (by decide) arb
  unfold State.readReg
  split
  · exact s.readTtPos_changesOnly (by decide) (by decide) (by decide)
  · split
    · exact s.setReg_changesOnly _ _ (.inl (by decide))
    · split
      · exact s.readInLo_changesOnly
      · split
        · exact hdrew _ _ _ (by decide)
        · split
          · exact hdrew _ _ _ (by decide)
          · split
            · exact hfld _ _ (by decide)
            · split
              · exact hfld _ _ (by decide)
              · split
                · exact State.ite_changesOnly s.syncReq_changesOnly hs
                · split
                  · exact hfld _ _ (by decide)
                  · split
                    · exact htok 0
                    · split
                      · exact htok 1
                      · exact hs

theorem State.readBlock_changesOnly (l : List Nat) : s.changesOnly (s.readBlock l).2 readParts readRegs [] := by
  induction l generalizing s with
  | nil => exact s.changesOnly_refl _ _ _
  | cons a l ih =>
    unfold State.readBlock
    exact State.changesOnly_trans (s.readReg_changesOnly a) (ih _)

theorem doRegRead_changesOnly (sid seq : Nat) (p : List Byte) : s.changesOnly (doRegRead s sid seq p).1 readParts readRegs [] := by
  refine withLen_changesOnly ?_
  dsimp only
  split
  · exact s.changesOnly_refl _ _ _
  · exact s.readReg_changesOnly _

theorem doRegReadBlock_changesOnly (sid seq : Nat) (p : List Byte) :
    s.changesOnly (doRegReadBlock s sid seq p).1 readParts readRegs [] := by
  refine withLen_changesOnly ?_
  dsimp only
  split
  · exact s.changesOnly_refl _ _ _
  · split
    · exact s.changesOnly_refl _ _ _
    · exact s.readBlock_changesOnly _
end

/-! ### Limited changes (R428, R429) -/

/-- The parts that REG_WRITE_LC may change. -/
def lcParts : List Part := [.outs, .pins, .svb, .fuses, .cbk, .tst]

/-- The registers that REG_WRITE_LC may change. -/
def lcRegs : List Nat :=
  [R.SEC_BIND, R.SEC_CNT, R.SEC_RSID, R.SEC_SITE, R.SEC_STAT, R.UPD_FLOOR] ++ (List.range 4).map R.RAD_P_STAT ++
    (List.range 64).map R.SEC_SLOT ++ busRegs

section
variable (s : State)

theorem State.raise_changesOnly_lc (src : Nat) (detail : List Byte) (h : src < 96) (hl : Ev.ofLane src = false) :
    s.changesOnly (s.raise src detail) lcParts lcRegs [] :=
  State.changesOnly_of_bus (s.raise_hub_changesOnly src detail h hl) (by decide) (List.subset_append_right _ _)

theorem State.lcDone_changesOnly (off old new left result sid : Nat) :
    s.changesOnly (s.lcDone off old new left result sid) lcParts lcRegs [] := by
  have h : ∀ ty payload, s.changesOnly (s.record ty payload) lcParts lcRegs [] := fun _ _ => s.cbk_changesOnly _ (by decide)
  exact State.ite_changesOnly (State.changesOnly_trans (h _ _) (State.raise_changesOnly_lc _ _ _ (by decide) (by decide))) (h _ _)

theorem State.rearm_changesOnly : s.changesOnly s.rearm lcParts lcRegs [] := by
  refine State.foldl_mem_changesOnly _ _ (fun n hn t => ?_) s
  refine State.ite_changesOnly (t.changesOnly_refl _ _ _) (t.setFld_changesOnly _ _ (.inl ?_))
  have h4 : n ∈ List.range 4 := (List.mem_filter.mp hn).1
  exact List.mem_append_left _ (List.mem_append_left _ (List.mem_append_right _ (List.mem_map_of_mem h4)))

theorem State.syncKeys_changesOnly : s.changesOnly s.syncKeys lcParts lcRegs [] := by
  unfold State.syncKeys
  iterate 4 refine State.setFld_then _ _ ?_ (by decide)
  refine State.foldl_mem_changesOnly _ _ (fun i hi t => t.setFld_changesOnly _ _ (.inl ?_)) s
  exact List.mem_append_left _ (List.mem_append_right _ (List.mem_map_of_mem hi))

theorem State.lcWrite_changesOnly (a v : Nat) : s.changesOnly (s.lcWrite a v) lcParts lcRegs [] := by
  have hf : ∀ x, s.changesOnly { s with fuses := x } lcParts lcRegs [] := fun x => s.fuses_changesOnly x (by decide)
  unfold State.lcWrite
  split
  · exact State.changesOnly_trans (State.setFld_then _ _ (State.setFld_then _ _ (hf _) (by decide)) (by decide))
      (State.rearm_changesOnly _)
  · split
    · exact State.changesOnly_trans (State.setFld_then _ _ (hf _) (by decide)) (State.syncKeys_changesOnly _)
    · exact State.setFld_then _ _ (State.setFld_then _ _ (hf _) (by decide)) (by decide)

theorem State.sigFail_changesOnly (opcode : Nat) : s.changesOnly (s.sigFail opcode).1 lcParts lcRegs [] :=
  State.changesOnly_trans (s.satInc_changesOnly _ (.inl (by decide))) (State.raise_changesOnly_lc _ _ _ (by decide) (by decide))

theorem doRegWriteLc_changesOnly (sid seq : Nat) (p : List Byte) : s.changesOnly (doRegWriteLc s sid seq p).1 lcParts lcRegs [] := by
  have hs := s.changesOnly_refl lcParts lcRegs []
  have hdone : ∀ off old new left result, s.changesOnly (s.lcDone off old new left result sid) lcParts lcRegs [] :=
    fun off old new left result => s.lcDone_changesOnly off old new left result sid
  refine withLen_changesOnly ?_
  dsimp only
  generalize rdN p 0 4 = a
  generalize (if decide (a = R.SEC_SITE) = true then rdN p 4 4 % 65536 else rdN p 4 4) = v
  generalize (if decide (a = R.SEC_SITE) = true then (s.fuses.siteId, s.fuses.siteLeft)
    else if decide (a = R.SEC_BIND) = true then (s.fuses.ownerId, s.fuses.ownerLeft)
    else (s.fuses.floor, s.fuses.floorLeft)) = y
  obtain ⟨old, left⟩ := y
  dsimp only
  split
  · exact hs
  · split
    · exact s.sigFail_changesOnly _
    · split
      · exact hs
      · split
        · exact hs
        · split
          · exact hs
          · split
            · exact hs
            · split
              · exact hdone _ _ _ _ _
              · exact State.changesOnly_trans (s.lcWrite_changesOnly _ _) (State.lcDone_changesOnly _ _ _ _ _ _ _)
end

end Sys2Proof.Machine
end

section
/-! SUPPORT. The frames of the rows whose outcome no command of the host decides, and of a command row of the hub. -/

namespace Sys2Proof.Machine

section
variable {s t : State}

/-- A state that differs in parts of no consequence to the fuses and the waiting commands keeps both. -/
theorem State.keeps_of_fixed (h : t.fixed false = s.fixed false) (ps : List Part) (hp : ∀ p, p ∉ ps → p = .fuses) : s.keeps t ps :=
  ⟨congrArg (·.1) h, fun p k => by rw [hp p k]; exact State.fuses_of_fixed h⟩

/-- The wide fixed parts hold DRAM, the engines, the schedule and the keys too. -/
theorem State.keeps_of_fixed_wide (h : t.fixed true = s.fixed true) (ps : List Part)
    (hp : ∀ p, p ∉ ps → p ∈ [Part.dram, .eng, .sch, .fuses, .sec]) : s.keeps t ps := by
  obtain ⟨hpending, hfuses, hrest⟩ := Prod.mk.inj h |>.imp id Prod.mk.inj
  obtain ⟨hdram, heng, hsch, hsec⟩ : t.dram = s.dram ∧ t.eng = s.eng ∧ t.sch = s.sch ∧ t.sec = s.sec := by simpa using hrest
  refine ⟨hpending, fun p k => ?_⟩
  have := hp p k
  simp only [List.mem_cons, List.not_mem_nil, or_false] at this
  rcases this with rfl | rfl | rfl | rfl | rfl
  · exact fun o => by rw [State.dramByte, State.dramByte, hdram]
  · exact heng
  · exact hsch
  · exact hfuses
  · exact hsec
end

theorem opRegWrite_keepsFixed : opRegWrite.keepsFixed := by simp [opRegWrite, Op.keepsFixed]
theorem opRegModify_keepsFixed : opRegModify.keepsFixed := by simp [opRegModify, Op.keepsFixed]

theorem State.registerWrite_fixed (s : State) (a : Nat) (v : Word) : s.staysFixed true (execRegisterWrite a v s) := by
  unfold execRegisterWrite
  rw [State.staysFixed_next]
  split
  · rfl
  · split
    · split
      · rw [State.writeReg_fixed, State.laneInput_fixed]
      · rfl
    · exact State.writeReg_fixed _ _ _ _ _

section
variable (s : State)

theorem execSpiRead_changesOnly (n : Nat) : Gives (.spiRead n) s fun t =>
    s.changesOnly t [.outs, .pins, .svb] [R.EVT_CNT, R.EVT_PEND0, R.EVT_PEND1, R.EVT_PEND2, R.EVT_STAT, R.SYS_SVB_ERR, R.SYS_SVB_STAT] [] := by
  have hout : ∀ o, s.changesOnly (s.emit o) [.outs, .pins, .svb]
      [R.EVT_CNT, R.EVT_PEND0, R.EVT_PEND1, R.EVT_PEND2, R.EVT_STAT, R.SYS_SVB_ERR, R.SYS_SVB_STAT] [] := fun o =>
    s.outs_changesOnly _ (by simp)
  refine ⟨_, rfl, s.spi_changesOnly _ (by simp) (by decide) ?_⟩
  dsimp only
  split
  · exact hout _
  · exact State.ite_changesOnly
      (State.changesOnly_trans
        (State.changesOnly_trans (State.changesOnly_trans (hout _) (State.setSess_changesSessions _ _ _ (by simp) (by decide)))
          (State.syncOut_changesEvents _ (by simp) (by decide)))
        (State.sessions_changesOnly _ _ (by simp)))
      (State.changesOnly_trans (hout _) (State.setSess_changesSessions _ _ _ (by simp) (by decide)))

theorem execHandshakeLapse_changesOnly (sid : Fin 4) : Gives (.handshakeLapse sid) s fun t =>
    s.changesOnly t [.svb] [R.SYS_SVB_STAT] [] := by
  refine ⟨_, rfl, ?_⟩
  split
  · exact State.ite_changesOnly (s.setSess_changesSessions _ _ (by simp) (by simp)) (s.changesOnly_refl _ _ _)
  · exact s.changesOnly_refl _ _ _

/-- The frame of the end of a session with the register that enables the sessions. -/
theorem State.udpDue_disable_changesOnly (f : Fld) (v : Nat) (rs : List Nat) (hr : goneRegs ⊆ rs) (hf : f.addr ∈ rs) :
    s.changesOnly (s.setFld f v).udpDue goneParts rs [] :=
  State.changesOnly_trans (s.setFld_changesOnly f v (.inl hf))
    (State.changesOnly_mono (State.udpDue_changesOnly _) (List.Subset.refl _) hr (by simp))

/-- A command row of the hub whose frame holds only packets and sessions beside what its opcode changes. -/
theorem State.host_bus_changesOnly (c : Cmd) (op : Op) (ho : op.code ≠ 0x0101) (hc : op.code ≠ 0x0102) (hl : ∀ p, op.lane p = false)
    (hf : op.fromLane = false) (hrun : ∀ (t : State) sid seq p, t.changesOnly (op.run t sid seq p).1 busParts busRegs [])
    (hpost : ∀ sid (t : State), op.post sid t = t) : s.changesOnly (s.host c op) [.outs, .pins, .svb, .tst] busRegs [] :=
  State.changesOnly_mono (s.host_hub_changesOnly c op (List.Subset.refl _) (List.Subset.refl _) ho hc hl hf hrun fun sid t => by
    rw [hpost]; exact t.changesOnly_refl _ _ _) (by decide) (List.Subset.refl _) (by simp)

theorem State.host_regWriteLc_changesOnly (c : Cmd) : s.changesOnly (s.host c opRegWriteLc) lcParts lcRegs [] :=
  s.host_hub_changesOnly c _ (by decide) (List.subset_append_right _ _) (by decide) (by decide) (fun _ => rfl) rfl
    (fun t => doRegWriteLc_changesOnly t) (fun _ t => t.changesOnly_refl _ _ _)
end

end Sys2Proof.Machine
end

section
/-! PROOF. The frames of the transports, the sessions and the register accesses. -/

namespace Sys2Proof.Machine

/-- Settles O52, row by row: a row changes what the handling of its command and its opcode change. -/
theorem framesOfTransportsSessionsAndRegisters : Obligations.FramesOfTransportsSessionsAndRegisters := by
  have hrefl : ∀ s : State, s.changesOnly s goneParts goneRegs [] := fun s => s.changesOnly_refl _ _ _
  refine ⟨fun s n => execSpiRead_changesOnly s n, fun s code => ⟨_, rfl, ?spiInvalidCode⟩, fun s sid => execHandshakeLapse_changesOnly s sid,
    fun s sid => ⟨_, rfl, ?udpSessionIdle⟩, fun s c => ⟨_, rfl, ?ping⟩, fun s c => ⟨_, rfl, ?sessionOpen⟩,
    fun s c => ⟨_, rfl, s.host_sessionConfirm_changesOnly c⟩, fun s c => ⟨_, rfl, ?sessionClose⟩, fun s c => ⟨_, rfl, ?getIdentity⟩,
    fun s c => ⟨_, rfl, ?eventSubscribe⟩, fun s c => ⟨_, rfl, ?bulkWrite⟩, fun s c => ⟨_, rfl, ?bulkRead⟩, fun s c => ⟨_, rfl, ?regRead⟩,
    fun s c => ⟨_, rfl, State.keeps_of_fixed (s.host_keepsFixed c _ opRegWrite_keepsFixed) _ ?regWrite⟩,
    fun s c => ⟨_, rfl, ?regReadBlock⟩,
    fun s c => ⟨_, rfl, State.keeps_of_fixed (s.host_keepsFixed c _ opRegModify_keepsFixed) _ ?regModify⟩,
    fun s c => ⟨_, rfl, s.host_regWriteLc_changesOnly c⟩, fun s a v => ?registerWrite, fun s sid => ⟨_, rfl, ?udpSessionDisable⟩,
    fun s => ⟨_, rfl, ?spiStatus⟩, fun s => ⟨_, rfl, ?spiCsWhileBusy⟩, fun s => ⟨_, rfl, ?hsRdyReady⟩,
    fun s => ⟨_, rfl, s.readTtPos_changesOnly (by simp) (by simp) (by simp)⟩, fun s => ⟨_, rfl, s.resetRegs_changesOnly _ (by simp)⟩⟩
  case spiInvalidCode =>
    exact State.ite_changesOnly (s.changesOnly_refl _ _ _)
      (s.spi_changesOnly _ (by simp) (by simp) (s.spiFraming_changesOnly (by simp) (by simp)))
  case udpSessionIdle =>
    exact State.ite_changesOnly (State.changesOnly_trans (s.sessionGone_changesOnly _)
      (State.changesOnly_gone_of_bus (State.raise_hub_changesOnly _ _ _ (by decide) (by decide)))) (hrefl s)
  case ping => exact s.host_bus_changesOnly c _ (by decide) (by decide) (fun _ => rfl) rfl doPing_changesOnly (fun _ _ => rfl)
  case sessionOpen => exact State.changesOnly_mono (s.host_sessionOpen_changesOnly c) (by decide) (List.Subset.refl _) (by simp)
  case sessionClose =>
    exact s.host_hub_changesOnly c _ busParts_subset_gone busRegs_subset_gone (by decide) (by decide) (fun _ => rfl) rfl
      doSessionClose_changesOnly fun sid t => t.closeDue_changesOnly sid
  case getIdentity => exact s.host_bus_changesOnly c _ (by decide) (by decide) (fun _ => rfl) rfl doGetIdentity_changesOnly (fun _ _ => rfl)
  case eventSubscribe =>
    exact s.host_bus_changesOnly c _ (by decide) (by decide) (fun _ => rfl) rfl doEventSubscribe_changesOnly (fun _ _ => rfl)
  case bulkWrite =>
    refine State.changesOnly_mono (s.host_hub_changesOnly c _ (ps := .dram :: busParts) (rs := busRegs) (bs := []) (by decide) (by decide)
      (by decide) (by decide) (fun _ => rfl) rfl doBulkWrite_changesOnly fun _ t => t.changesOnly_refl _ _ _) (by decide) (by decide) (by simp)
  case bulkRead => exact s.host_bus_changesOnly c _ (by decide) (by decide) (fun _ => rfl) rfl doBulkRead_changesOnly (fun _ _ => rfl)
  case regRead =>
    exact s.host_changesOnly c opRegRead (ps := readParts) (rs := readRegs) (by decide) (by decide) (by decide) (by decide)
      doRegRead_changesOnly fun _ t => t.changesOnly_refl _ _ _
  case regReadBlock =>
    exact s.host_changesOnly c opRegReadBlock (ps := readParts) (rs := readRegs) (by decide) (by decide) (by decide) (by decide)
      doRegReadBlock_changesOnly fun _ t => t.changesOnly_refl _ _ _
  case regWrite => exact fun p => by cases p <;> simp
  case regModify => exact fun p => by cases p <;> simp
  case registerWrite =>
    obtain ⟨t, ht, h⟩ := s.registerWrite_fixed a v
    exact ⟨t, ht, State.keeps_of_fixed_wide h _ fun p => by cases p <;> simp⟩
  case udpSessionDisable =>
    exact State.ite_changesOnly (s.changesOnly_refl _ _ _) (s.udpDue_disable_changesOnly _ _ _ (by decide) (by decide))
  case spiStatus =>
    exact s.spi_changesOnly _ (by simp) (by simp)
      (State.changesOnly_trans (s.sessions_changesOnly _ (by simp)) (State.outs_changesOnly _ _ (by simp)))
  case spiCsWhileBusy => exact State.ite_changesOnly (s.spiFraming_changesOnly (by simp) (by simp)) (s.changesOnly_refl _ _ _)
  case hsRdyReady => exact State.ite_changesOnly (s.sessions_changesOnly _ (by simp)) (s.changesOnly_refl _ _ _)

end Sys2Proof.Machine
end

section
/-! SUPPORT. The shared DRAM partition: each function of the model that may change some of the wide fixed parts keeps its canonical form. -/

namespace Sys2Proof.Machine

/-! ### The canonical form among the fixed parts -/

/-- The shared DRAM of the wide fixed parts has its canonical form. -/
def dramWf (v : List Instr × Fuses × Option (List Host.Cell × Engines × Sch × Sec)) : Prop :=
  ∀ x, v.2.2 = some x → Memory.wf x.1 = true

theorem State.dramWf_iff (s : State) : dramWf (s.fixed true) ↔ Memory.wf s.dram = true := by
  simp [dramWf, State.fixed]

@[simp] theorem dramWf_ite (c : Prop) [Decidable c] (v w : List Instr × Fuses × Option (List Host.Cell × Engines × Sch × Sec)) :
    dramWf (if c then v else w) ↔ if c then dramWf v else dramWf w := by
  split <;> rfl

/-- An update of other parts than the shared DRAM keeps its form. (`(rfl)` as in `State.fixed_with`.) -/
@[simp] theorem dramWf_with (t : State)
    (a1 a2 a3 a4 a6 a7 a8 a9 a10 a11 a12 a13 a14 a15 a16 a17 a18 a19 a20 a21 a22 a23 a24 a25 a26 a27 a28 a29 a30 a31) :
    dramWf (State.fixed true ⟨a1, a2, a3, a4, t.dram, a6, a7, a8, a9, a10, a11, a12, a13, a14, a15, a16, a17, a18, a19, a20, a21, a22,
      a23, a24, a25, a26, a27, a28, a29, a30, a31⟩) ↔ dramWf (t.fixed true) := by
  rw [State.dramWf_iff, State.dramWf_iff]

/-- An emptied partition has the canonical form. -/
@[simp] theorem dramWf_empty
    (a1 a2 a3 a4 a6 a7 a8 a9 a10 a11 a12 a13 a14 a15 a16 a17 a18 a19 a20 a21 a22 a23 a24 a25 a26 a27 a28 a29 a30 a31) :
    dramWf (State.fixed true ⟨a1, a2, a3, a4, [], a6, a7, a8, a9, a10, a11, a12, a13, a14, a15, a16, a17, a18, a19, a20, a21, a22,
      a23, a24, a25, a26, a27, a28, a29, a30, a31⟩) := (State.dramWf_iff _).mpr rfl

theorem State.foldl_dramWf {α : Type} (f : State → α → State) (hf : ∀ (t : State) a, dramWf (t.fixed true) → dramWf ((f t a).fixed true))
    (l : List α) {s : State} (h : dramWf (s.fixed true)) : dramWf ((l.foldl f s).fixed true) := by
  induction l generalizing s with
  | nil => exact h
  | cons a t ih => exact ih (hf s a h)

section
variable {s : State} (h : dramWf (s.fixed true))
include h

/-! #### Stores -/

@[simp] theorem State.dramStore_dramWf (o : Nat) (bs : List Byte) : dramWf ((s.dramStore o bs).fixed true) :=
  (State.dramWf_iff _).mpr (s.dramStore_wf o bs ((State.dramWf_iff s).mp h))

theorem State.epoch_dramWf (bias : Option Int) (drift : Int) : dramWf ((s.epoch bias drift).fixed true) := by
  simp only [State.epoch, ↓State.fixed_with, ↓State.applyBase_fixed,
    ↓State.noteSats_fixed, ↓State.gradeEpoch_fixed, ↓State.noteL15_fixed, ↓State.corrupt_fixed, ↓State.drew_fixed,
    ↓State.dramStore_dramWf,
    ↓State.setFld_fixed, ↓State.rtcmCells_fixed, ↓State.laneInput_fixed, ↓State.rtcmOutput_fixed, ↓State.raise_fixed,
    ↓State.gnssOffset_fixed, ↓State.syncBase_fixed, h]

@[simp] theorem withLen_dramWf (n : Nat) (p : List Byte) {k : Res} (hk : dramWf (k.1.fixed true)) :
    dramWf ((withLen s n p k).1.fixed true) := by
  unfold withLen
  split
  · exact hk
  · exact h

theorem doBulkWrite_dramWf (sid seq : Nat) (p : List Byte) : dramWf ((doBulkWrite s sid seq p).1.fixed true) := by
  simp [doBulkWrite, okay, okWith, refuse, h]

/-! #### Machine/Sequencers -/

@[simp] theorem State.setSeq_dramWf (key : Nat) (q : Sequencer) : dramWf ((s.setSeq key q).fixed true) := by
  simp [State.setSeq, h]

@[simp] theorem State.seqRestart_dramWf (key : Nat) : dramWf ((s.seqRestart key).fixed true) := by simp [State.seqRestart, h]

@[simp] theorem State.loadSteps_dramWf (die id : Nat) : dramWf ((s.loadSteps die id).fixed true) := by simp [State.loadSteps, h]

@[simp] theorem State.loadHubSteps_dramWf : dramWf (s.loadHubSteps.fixed true) :=
  State.foldl_dramWf _ (fun _ _ h => State.loadSteps_dramWf h _ _) _ h

@[simp] theorem State.loadLaneSteps_dramWf (l : Nat) : dramWf ((s.loadLaneSteps l).fixed true) :=
  State.foldl_dramWf _ (fun _ _ h => State.loadSteps_dramWf h _ _) _ h

@[simp] theorem State.seqSync_dramWf (key : Nat) : dramWf ((s.seqSync key).fixed true) := by simp [State.seqSync, h]

@[simp] theorem State.seqHold_dramWf (key : Nat) : dramWf ((s.seqHold key).fixed true) := by simp [State.seqHold, h]

@[simp] theorem State.genUp_dramWf (key : Nat) : dramWf ((s.genUp key).fixed true) := by simp [State.genUp, h]

/-! #### Machine/Lanes, Machine/Wake -/

theorem State.seqRestartAll_dramWf (l : List Nat) : dramWf ((l.foldl State.seqRestart s).fixed true) :=
  State.foldl_dramWf _ (fun _ _ h => State.seqRestart_dramWf h _) _ h

/-- The sequencers of a list of engines restart. -/
theorem State.seqRestarts_dramWf (l : List Nat) :
    dramWf ((l.foldl (fun t id => (seqKeys id).foldl State.seqRestart t) s).fixed true) :=
  State.foldl_dramWf _ (fun _ _ h => State.seqRestartAll_dramWf h _) _ h

theorem State.genUps_dramWf (l : List Nat) : dramWf ((l.foldl (fun t k => t.genUp k) s).fixed true) :=
  State.foldl_dramWf _ (fun _ _ h => State.genUp_dramWf h _) _ h

@[simp] theorem State.lanesCold_dramWf : dramWf (s.lanesCold.fixed true) := by
  simp [State.lanesCold, State.seqRestarts_dramWf, State.genUps_dramWf, h]

@[simp] theorem State.lanesResume_dramWf : dramWf (s.lanesResume.fixed true) := by
  simp [State.lanesResume, State.seqRestarts_dramWf, State.genUps_dramWf, h]

/-! #### Machine/Arbiters -/

@[simp] theorem State.showGrant_dramWf (i g : Nat) : dramWf ((s.showGrant i g).fixed true) := by
  have hs : ∀ {t : State}, dramWf (t.fixed true) → ∀ l : List Nat, dramWf ((l.foldl State.seqSync t).fixed true) := fun h l =>
    State.foldl_dramWf _ (fun _ _ h => State.seqSync_dramWf h _) l h
  have hh : ∀ {t : State}, dramWf (t.fixed true) → ∀ l : List Nat, dramWf ((l.foldl State.seqHold t).fixed true) := fun h l =>
    State.foldl_dramWf _ (fun _ _ h => State.seqHold_dramWf h _) l h
  simp [State.showGrant, hs, hh, h]

@[simp] theorem State.pwrEvaluate_dramWf : dramWf (s.pwrEvaluate.fixed true) := by
  have hs : ∀ {t : State}, dramWf (t.fixed true) → ∀ grants, dramWf
      ((pwrOrder.foldl (fun t i => t.showGrant i (Tbl.get 0 grants i)) t).fixed true) := fun h _ =>
    State.foldl_dramWf _ (fun _ _ h => State.showGrant_dramWf h _ _) _ h
  simp [State.pwrEvaluate, hs, h]

/-! #### Machine/Keys -/

@[simp] theorem State.clearSlots_dramWf : dramWf (s.clearSlots.fixed true) := by simp [State.clearSlots, h]

@[simp] theorem State.enrol_dramWf (sid slot : Nat) (c : List Byte) : dramWf ((s.enrol sid slot c).1.fixed true) := by
  unfold State.enrol
  dsimp only
  split
  · simp [h]
  · split
    · simp [h]
    · split <;> simp [h]

@[simp] theorem State.caskInto_dramWf (slot : Nat) (c key : List Byte) : dramWf ((s.caskInto slot c key).fixed true) := by
  simp [State.caskInto, h]

@[simp] theorem State.caskLoad_dramWf (given : Nat) (c : List Byte) : dramWf ((s.caskLoad given c).1.fixed true) := by
  unfold State.caskLoad
  dsimp only
  split
  · simp [h]
  · split
    · simp [h]
    · split
      · simp [h]
      · split <;> simp [h]

theorem doSecCaskLoad_dramWf (sid seq : Nat) (p : List Byte) : dramWf ((doSecCaskLoad s sid seq p).1.fixed true) := by
  simp [doSecCaskLoad, h]

theorem doSecCaskUnload_dramWf (sid seq : Nat) (p : List Byte) : dramWf ((doSecCaskUnload s sid seq p).1.fixed true) := by
  simp [doSecCaskUnload, h]

@[simp] theorem State.tamper_dramWf (k : Nat) : dramWf ((s.tamper k).fixed true) := by
  unfold State.tamper
  split <;> simp [h]

@[simp] theorem State.tamperOwed_dramWf : dramWf (s.tamperOwed.fixed true) := by simp [State.tamperOwed, h]

/-! #### Machine/EngineReset -/

@[simp] theorem State.engineReset_dramWf (id : Nat) : dramWf ((s.engineReset id).fixed true) := by
  simp [State.engineReset, State.seqRestartAll_dramWf, h]

theorem doResetEngine_dramWf (sid seq : Nat) (p : List Byte) : dramWf ((doResetEngine s sid seq p).1.fixed true) := by
  unfold doResetEngine
  refine withLen_dramWf h _ _ ?_
  simp [h]

@[simp] theorem State.switchResetDue_dramWf : dramWf (s.switchResetDue.fixed true) := by simp [State.switchResetDue, h]

/-! #### Machine/Restart, Machine/Wake, Machine/Power -/

omit h in
@[simp] theorem State.hubReset_dramWf (soft : Bool) (kind : Nat) : dramWf ((s.hubReset soft kind).fixed true) := by
  simp [State.hubReset]

@[simp] theorem State.startRecords_dramWf : dramWf (s.startRecords.fixed true) := by
  unfold State.startRecords
  split <;> simp [h]

@[simp] theorem State.hubRuns_dramWf : dramWf (s.hubRuns.fixed true) := by
  simp only [State.hubRuns, ↓State.fixed_ite, ↓State.sourceOn_fixed, ↓State.laneReset_fixed, ↓State.loadHubSteps_dramWf,
    ↓State.syncSnp_fixed, ↓State.syncRad_fixed, ↓State.ptpStart_fixed, ↓State.skyStart_fixed, ↓State.syncIrq_fixed, ↓State.foldl_fixed,
    ↓State.syncSess_fixed, ↓State.syncCbk_fixed, ↓State.syncStop_fixed, ↓State.syncTamper_fixed, ↓State.syncKeys_fixed,
    ↓State.syncPwr_fixed, ↓State.setFld_fixed, ↓State.stopOut_fixed, ↓dramWf_with, implies_true, ite_self, h]

@[simp] theorem State.hubStart_dramWf (ok0 ok1 : Bool) (torn : Nat) : dramWf ((s.hubStart ok0 ok1 torn).fixed true) := by
  unfold State.hubStart
  split <;> simp [h]

omit h in
@[simp] theorem State.decant_dramWf (schedId : Nat) : dramWf ((s.decant schedId).fixed true) := by simp [State.decant]

@[simp] theorem State.wakeExit_dramWf : dramWf (s.wakeExit.fixed true) := by simp [State.wakeExit, h]

@[simp] theorem State.wakeBy_dramWf (k : Nat) : dramWf ((s.wakeBy k).fixed true) := by simp [State.wakeBy, h]

@[simp] theorem State.atWarn_dramWf : dramWf (s.atWarn.fixed true) := by simp [State.atWarn, h]

@[simp] theorem State.rstDue_dramWf : dramWf (s.rstDue.fixed true) := by simp [State.rstDue, h]

/-! #### Machine/Scheduler -/

@[simp] theorem State.runSch_dramWf : dramWf (s.runSch.fixed true) := by simp [State.runSch, h]

/-! #### Machine/Registers -/

@[simp] theorem State.readTtPos_dramWf : dramWf (s.readTtPos.2.fixed true) := by
  unfold State.readTtPos
  dsimp only
  repeat' split <;> simp [h]

@[simp] theorem State.readReg_dramWf (a : Nat) : dramWf ((s.readReg a).2.fixed true) := by simp [State.readReg, h]

theorem State.readBlock_dramWf (as : List Nat) : dramWf ((s.readBlock as).2.fixed true) := by
  induction as generalizing s with
  | nil => exact h
  | cons a t ih => exact ih (State.readReg_dramWf h a)

theorem State.writeDue_dramWf : dramWf (s.writeDue.fixed true) := by simp [State.writeDue, h]

theorem doRegRead_dramWf (sid seq : Nat) (p : List Byte) : dramWf ((doRegRead s sid seq p).1.fixed true) := by simp [doRegRead, h]

theorem doRegReadBlock_dramWf (sid seq : Nat) (p : List Byte) : dramWf ((doRegReadBlock s sid seq p).1.fixed true) := by
  simp [doRegReadBlock, State.readBlock_dramWf, h]

theorem doRegModify_dramWf (sid seq : Nat) (p : List Byte) : dramWf ((doRegModify s sid seq p).1.fixed true) := by
  unfold doRegModify
  dsimp only
  split <;> simp [h]

/-! #### Limited changes -/

theorem State.lcWrite_dramWf (a v : Nat) : dramWf ((s.lcWrite a v).fixed true) := by
  unfold State.lcWrite
  split
  · simp [h]
  · split <;> simp [h]

theorem doRegWriteLc_dramWf (sid seq : Nat) (p : List Byte) : dramWf ((doRegWriteLc s sid seq p).1.fixed true) := by
  unfold doRegWriteLc
  refine withLen_dramWf h _ _ ?_
  dsimp only
  generalize (if decide (rdN p 0 4 = R.SEC_SITE) = true then (s.fuses.siteId, s.fuses.siteLeft) else _) = y
  simp [State.lcWrite_dramWf, h]

theorem doMtrCalSeal_dramWf (sid seq : Nat) (p : List Byte) : dramWf ((doMtrCalSeal s sid seq p).1.fixed true) := by
  unfold doMtrCalSeal
  refine withLen_dramWf h _ _ ?_
  dsimp only
  split <;> simp [h]
end

end Sys2Proof.Machine
end

section
/-! SUPPORT. What the commands of the host and the received packets make of the shared DRAM partition. -/

namespace Sys2Proof.Machine

/-! ### What a command row keeps -/

/-- Executing the opcode, and what follows its reply, keep the canonical form of the shared DRAM. -/
def Op.keepsDram (op : Op) : Prop :=
  (∀ (t : State) sid seq p, dramWf (t.fixed true) → dramWf ((op.run t sid seq p).1.fixed true)) ∧
    ∀ sid (t : State), dramWf (t.fixed true) → dramWf ((op.post sid t).fixed true)

/-- So they do where they leave the wide fixed parts alone. -/
theorem Op.keepsDram_of_fixed {op : Op} (hrun : ∀ (t : State) sid seq p, (op.run t sid seq p).1.fixed true = t.fixed true)
    (hpost : ∀ sid (t : State), (op.post sid t).fixed true = t.fixed true) : op.keepsDram :=
  ⟨fun t sid seq p h => by rwa [hrun], fun sid t h => by rwa [hpost]⟩

section
variable {s : State} (h : dramWf (s.fixed true)) {op : Op} (hop : op.keepsDram)
include h hop

theorem State.follow_dramWf (sid seq : Nat) : dramWf ((s.follow sid seq op).fixed true) := by
  unfold State.follow
  split
  · exact (dramWf_with s ..).mpr h
  · exact hop.2 sid s h

theorem State.execute_dramWf (sid seq : Nat) (p : List Byte) : dramWf ((s.execute sid seq op p).fixed true) := by
  unfold State.execute
  dsimp only
  split
  · simpa using h
  · split
    · simpa using h
    · split
      · simpa using h
      · split
        · simpa using h
        · have k := hop.1 (if op.lane p then s.laneInput else s) sid seq p (by simpa using h)
          generalize op.run (if op.lane p then s.laneInput else s) sid seq p = x at k ⊢
          obtain ⟨t, _ | r⟩ := x
          · exact k
          · exact State.follow_dramWf (by rwa [State.finish_fixed]) hop _ _

theorem State.accept_dramWf (sid src seq : Nat) (p : List Byte) : dramWf ((s.accept sid src seq op p).fixed true) := by
  unfold State.accept
  dsimp only
  split
  · split
    · simpa using h
    · split <;> simpa using h
  · split
    · simpa using h
    · split
      · simpa using h
      · exact State.execute_dramWf (by rwa [State.setSess_fixed]) hop _ _ _

theorem State.command_dramWf (sid src seq code : Nat) (p : List Byte) : dramWf ((s.command sid src seq code op p).fixed true) := by
  unfold State.command
  dsimp only
  split
  · split <;> simpa using h
  · split
    · simpa using h
    · split
      · simpa using h
      · split
        · simpa using h
        · exact State.accept_dramWf h hop sid src seq p
end

theorem State.host_dramWf {s : State} (h : dramWf (s.fixed true)) (c : Cmd) (op : Op) (hop : op.keepsDram) :
    dramWf ((s.host c op).fixed true) := by
  unfold State.host
  dsimp only
  split
  · split
    · simpa using h
    · exact State.command_dramWf (by simpa using h) hop _ _ _ _ _
  · exact h

/-! ### The opcodes -/

theorem opsSys_keepsDram : ∀ op ∈ opsSys, op.keepsDram := by
  simp +contextual [opsSys, opPing, opSessionOpen, opSessionConfirm, opSessionClose, opGetIdentity, opGetStatus, opSetPowerState,
    opSetPowerCap, opEventSubscribe, opBulkWrite, opBulkRead, opResetEngine, opH, Op.keepsDram, doBulkWrite_dramWf, doResetEngine_dramWf]

theorem opsReg_keepsDram : ∀ op ∈ opsReg, op.keepsDram := by
  simp +contextual [opsReg, opRegRead, opRegWrite, opRegReadBlock, opRegModify, opRegWriteLc, opH, Op.keepsDram,
    doRegWriteLc_dramWf, doRegRead_dramWf,
    doRegReadBlock_dramWf, doRegModify_dramWf, State.writeDue_dramWf]

theorem opsSky_keepsDram : ∀ op ∈ opsSky, op.keepsDram := by
  simp [opsSky, opSkyConfig, opSkySetBasePosition, opSkyExclude, opSkyGetChannels, opSkyRtcmConfig, Op.keepsDram]

theorem opsRtk_keepsDram : ∀ op ∈ opsRtk, op.keepsDram := by
  simp [opsRtk, opRtkSetSiteOrigin, opRtkSetRateClass, opRtkSetNoise, opRtkResetRover, opRtkGetFix, opL, Op.keepsDram]

theorem opsSbx_keepsDram : ∀ op ∈ opsSbx, op.keepsDram := by
  simp [opsSbx, opSbxMapStage, opSbxMapActivate, opSbxRequest, opSbxRelease, opSbxRevoke, opSbxZoneSet, opSbxGetState, opL,
    Op.keepsDram]

theorem opsAlt_keepsDram : ∀ op ∈ opsAlt, op.keepsDram := by
  simp [opsAlt, opAltTaskAdd, opAltTaskCancel, opAltTaskGet, opAltLandmarksLoad, opAltRoundNow, opL, Op.keepsDram]

theorem opsTtb_keepsDram : ∀ op ∈ opsTtb, op.keepsDram := by
  simp [opsTtb, opTtbCamStage, opTtbCamActivate, opTtbSetLimits, opTtbGetProfile, opL, Op.keepsDram]

theorem opsStp_keepsDram : ∀ op ∈ opsStp, op.keepsDram := by
  simp [opsStp, opStopAll, opStopRover, opStopZone, opStopRelease, opStopGetState, opH, opS, Op.keepsDram]

theorem opsRad_keepsDram : ∀ op ∈ opsRad, op.keepsDram := by
  simp [opsRad, opRadPortConfig, opRadSuperframeSet, opRadRoverAssign, opRadRoverEvict, opRadGetLink, opH, opL, Op.keepsDram]

theorem opsEth_keepsDram : ∀ op ∈ opsEth, op.keepsDram := by
  simp [opsEth, opEthPortConfig, opPtpConfig, opTimeGet, opTimeRestep, opPpsConfig, opChainDiscover, opH, Op.keepsDram]

theorem opsMtr_keepsDram : ∀ op ∈ opsMtr, op.keepsDram := by
  simp +contextual [opsMtr, opMtrConfig, opMtrGetReadings, opMtrGetHarmonics, opMtrSetCap, opMtrCalSeal, opH, opL, Op.keepsDram,
    doMtrCalSeal_dramWf]

theorem opsLan_keepsDram : ∀ op ∈ opsLan, op.keepsDram := by
  simp [opsLan, opLanGetState, opLanSwitch, opH, Op.keepsDram]

theorem opsSec_keepsDram : ∀ op ∈ opsSec, op.keepsDram := by
  simp +contextual [opsSec, opSecCaskLoad, opSecCaskUnload, opUpdImageBegin, opUpdImageData, opUpdImageEnd, opUpdDecant,
    opUpdDecantSchedule, opUpdGetState, opH, Op.keepsDram, doSecCaskLoad_dramWf, doSecCaskUnload_dramWf]

theorem opsCbk_keepsDram : ∀ op ∈ opsCbk, op.keepsDram := by
  simp [opsCbk, opCbkFreeze, opCbkThaw, opCbkRead, opCbkClear, opH, Op.keepsDram]

theorem opsTst_keepsDram : ∀ op ∈ opsTst, op.keepsDram := by
  simp [opsTst, opTstUnlock, opTstLock, opH, Op.keepsDram]

/-- Every opcode keeps the canonical form. -/
theorem allOps_keepsDram : ∀ op ∈ allOps, op.keepsDram := by
  simp only [allOps, List.forall_mem_append, and_assoc]
  exact ⟨opsSys_keepsDram, opsReg_keepsDram, opsSky_keepsDram, opsRtk_keepsDram, opsSbx_keepsDram, opsAlt_keepsDram, opsTtb_keepsDram,
    opsStp_keepsDram, opsRad_keepsDram, opsEth_keepsDram, opsMtr_keepsDram, opsLan_keepsDram, opsSec_keepsDram, opsCbk_keepsDram,
    opsTst_keepsDram⟩

theorem opOf_keepsDram {code : Nat} {op : Op} (h : opOf code = some op) : op.keepsDram :=
  allOps_keepsDram op (List.mem_of_find?_eq_some h)

/-- So does a packet's opcode, defined or not. -/
theorem opOf_getD_keepsDram (code : Nat) : ((opOf code).getD (undefinedOp code)).keepsDram := by
  cases h : opOf code with
  | none => exact Op.keepsDram_of_fixed (fun _ _ _ _ => rfl) (fun _ _ => rfl)
  | some op => exact opOf_keepsDram h

/-! ### Received packets -/

section
variable {s : State} (h : dramWf (s.fixed true))
include h

@[simp] theorem State.runPosts_dramWf : dramWf (s.runPosts.fixed true) := by
  unfold State.runPosts
  refine State.foldl_dramWf _ (fun t p k => ?_) _ ((dramWf_with s ..).mpr h)
  split
  · next hop => exact (opOf_keepsDram hop).2 _ _ k
  · exact k

theorem State.versioned_dramWf (sid src : Nat) (b : List Byte) : dramWf ((s.versioned sid src b).fixed true) := by
  unfold State.versioned
  dsimp only
  split
  · simpa using h
  · exact State.command_dramWf h (opOf_getD_keepsDram _) _ _ _ _ _

theorem State.ingest_dramWf (udp : Bool) (src : Nat) (b : List Byte) : dramWf ((s.ingest udp src b).2.fixed true) := by
  have hv : ∀ sid, dramWf ((s.versioned sid src b).fixed true) := fun sid => State.versioned_dramWf h sid src b
  have hs : ∀ sid ss, dramWf (((s.setSess sid ss).versioned sid src b).fixed true) := fun sid ss =>
    State.versioned_dramWf (by rwa [State.setSess_fixed]) sid src b
  unfold State.ingest
  dsimp only
  generalize (if udp = true then _ else _ : Bool) = wrongSid
  split
  · simpa using h
  · split
    · simpa using h
    · split
      · simpa using h
      · split
        · split
          · simpa using h
          · exact hv _
        · split
          · split
            · exact hv _
            · simpa using h
          · split
            · split
              · exact hs _ _
              · simpa using h
            · exact hv _

theorem State.spi_dramWf (k : State → State) (hk : dramWf ((k s).fixed true)) : dramWf ((s.spi k).fixed true) := by
  unfold State.spi
  split
  · exact h
  · split
    · simpa [State.spiFraming] using h
    · split
      · exact h
      · simpa [State.spiBusy] using hk

theorem State.udpIn_dramWf (f p : List Byte) : dramWf ((s.udpIn f p).fixed true) := by
  unfold State.udpIn
  dsimp only
  split
  · exact h
  · exact State.ingest_dramWf h _ _ _

theorem State.portTwo_dramWf (n : Nat) (x : EthIn) : dramWf ((s.portTwo n x).fixed true) := by
  unfold State.portTwo
  dsimp only
  split
  · exact h
  · split
    · simpa using h
    · split
      · simpa using h
      · split
        · split
          · exact h
          · split
            · simpa using h
            · split
              · exact State.udpIn_dramWf h _ _
              · exact h
        · exact h

theorem State.forward_dramWf (n : Nat) (x : EthIn) : dramWf ((s.forward n x).fixed true) := by
  have ht : dramWf ((s.transit n x).fixed true) := by simpa using h
  unfold State.forward
  dsimp only
  split
  · simpa using h
  · split
    · exact h
    · split
      · simpa using h
      · split
        · exact State.portTwo_dramWf h _ _
        · split
          · exact State.portTwo_dramWf ht _ _
          · split
            · split
              · exact h
              · exact ht
            · exact ht

theorem State.frameIn_dramWf (n : Nat) (x : EthIn) : dramWf ((s.frameIn n x).fixed true) := by
  unfold State.frameIn
  dsimp only
  split
  · exact h
  · split
    · simpa using h
    · generalize ht : (if x.fill = 1 then State.pauseOut _ n 0xFFFF else if x.fill = 2 then State.pauseOut _ n 0 else _ : State) = t
      have e : dramWf (t.fixed true) := by
        rw [← ht]
        simpa using h
      split
      · simpa using e
      · exact State.forward_dramWf e n x

end

end Sys2Proof.Machine
end

section
/-! SUPPORT. The rows whose own effect may touch the wide fixed parts: each keeps the canonical form of the shared DRAM. -/

namespace Sys2Proof.Machine

/-! ### Rows of their own -/

/-- The outcome is a next state whose shared DRAM has its canonical form. -/
def staysWf (o : Host.Outcome State Fault Refusal) : Prop := ∃ t, o = .next t ∧ dramWf (t.fixed true)

@[simp] theorem staysWf_next (t : State) : staysWf (.next t) ↔ dramWf (t.fixed true) := by simp [staysWf]

theorem State.staysFixed.staysWf {s : State} {o : Host.Outcome State Fault Refusal} (k : s.staysFixed true o) (h : dramWf (s.fixed true)) :
    staysWf o := by
  obtain ⟨t, ho, ht⟩ := k
  exact ⟨t, ho, by rwa [ht]⟩

section
variable {s : State} (h : dramWf (s.fixed true))
include h

theorem State.host_staysWf (c : Cmd) (op : Op) (hop : opOf op.code = some op) : staysWf (.next (s.host c op)) :=
  ⟨_, rfl, State.host_dramWf h c op (opOf_keepsDram hop)⟩

theorem State.frameOf_staysWf (n : Fin 2) (x : EthIn) (kind : Bool) : staysWf (s.frameOf n x kind) := by
  refine ⟨_, rfl, ?_⟩
  split
  · exact State.frameIn_dramWf h _ _
  · exact h

theorem execSpiWrite_dramWf (bytes : List Byte) : staysWf (execSpiWrite bytes s) := by
  refine ⟨_, rfl, State.spi_dramWf h _ ?_⟩
  dsimp only
  split
  · exact (dramWf_with s ..).mpr h
  · have k := State.ingest_dramWf h false 0 bytes
    split
    · exact k
    · exact (dramWf_with _ ..).mpr k

theorem execUdpDatagram_dramWf (src : Nat) (bytes : List Byte) : staysWf (execUdpDatagram src bytes s) := by
  refine ⟨_, rfl, ?_⟩
  split
  · exact State.ingest_dramWf h _ _ _
  · exact h

theorem execMeasurementEpoch_dramWf (clkBias : Option Int) (clkDrift : Int) : staysWf (execMeasurementEpoch clkBias clkDrift s) := by
  simp [execMeasurementEpoch, State.epoch_dramWf, h]

theorem execNavRecord_dramWf (ch : Fin 128) (band : Fin 2) (i : NavIn) : staysWf (execNavRecord ch band i s) := by
  unfold execNavRecord
  extract_lets c t
  rw [staysWf_next]
  split
  · split
    · exact h
    · split
      next bits result words =>
      extract_lets payload head bytes
      have hc : dramWf ((s.corrupt 2).2.fixed true) := by rwa [State.corrupt_fixed]
      generalize s.corrupt 2 = x at hc
      obtain ⟨bad, u⟩ := x
      dsimp only at hc ⊢
      split
      · split <;> simp [hc]
      · simp [hc]
  · exact h

theorem execLaneSelfTestDone_dramWf (lane : Fin 2) (pass : Bool) : staysWf (execLaneSelfTestDone lane pass s) := by
  simp [execLaneSelfTestDone, h]

theorem execPowerReevaluate_dramWf (vout : BitVec 11) : staysWf (execPowerReevaluate vout s) := by simp [execPowerReevaluate, h]

theorem execKeyMaskRedraw_dramWf : staysWf (execKeyMaskRedraw s) := by simp [execKeyMaskRedraw, h]

theorem execTamperConditionEnd_dramWf (k : Fin 6) : staysWf (execTamperConditionEnd k s) := by simp [execTamperConditionEnd, h]

theorem execTamperDetect_dramWf (k : Fin 6) (temp : BitVec 16) : staysWf (execTamperDetect k temp s) := by
  unfold execTamperDetect
  rw [staysWf_next]
  split
  · exact h
  · extract_lets t sec u v pwr
    have hu : dramWf (u.fixed true) := (dramWf_with t ..).mpr (by rwa [State.setFld_fixed])
    have hv : dramWf (v.fixed true) := State.wakeExit_dramWf (State.tamper_dramWf hu _)
    split
    · exact (dramWf_with v ..).mpr hv
    · exact hv

theorem execHubStart_dramWf (ok0 ok1 : Bool) (torn : Fin 32) : staysWf (execHubStart ok0 ok1 torn s) := by simp [execHubStart, h]

theorem execBootFallback_dramWf : staysWf (execBootFallback s) := by simp [execBootFallback, h]

theorem execColdStartReady_dramWf (lane : Fin 2) : staysWf (execColdStartReady lane s) := by simp [execColdStartReady, h]

theorem execDecantRun_dramWf : staysWf (execDecantRun s) := by
  unfold execDecantRun
  split <;> simp [h]

theorem execDecantAtTd_dramWf : staysWf (execDecantAtTd s) := by
  unfold execDecantAtTd
  split <;> simp [h]

theorem execWakeIn_dramWf : staysWf (execWakeIn s) := by simp [execWakeIn, h]

theorem execWakeTimer_dramWf : staysWf (execWakeTimer s) := by simp [execWakeTimer, h]

theorem execWakeFrame_dramWf (n : Fin 2) (x : EthIn) : staysWf (execWakeFrame n x s) := by
  unfold execWakeFrame
  rw [staysWf_next]
  split
  · exact h
  · split
    next cause pat _ =>
    extract_lets t pwr u p v w hops
    split
    · exact h
    · have hu : dramWf (u.fixed true) := (dramWf_with t ..).mpr (by simpa [t] using h)
      have hv : dramWf (v.fixed true) := by
        unfold v
        split
        · simpa using hu
        · exact hu
      have hw : dramWf (w.fixed true) := State.wakeExit_dramWf hv
      split
      · simpa using hw
      · exact hw

theorem execVinBelowWarn_dramWf (mv : BitVec 16) : staysWf (execVinBelowWarn mv s) := by
  unfold execVinBelowWarn
  rw [staysWf_next]
  extract_lets u pwr t
  have hu : dramWf (u.fixed true) := by rwa [State.setFld_fixed]
  split
  · exact h
  · split
    · exact (dramWf_with u ..).mpr hu
    · have ht : dramWf (t.fixed true) := (dramWf_with u ..).mpr hu
      exact State.atWarn_dramWf (by simpa using ht)

theorem execSupplyDipLong_dramWf : staysWf (execSupplyDipLong s) := by
  unfold execSupplyDipLong
  split <;> simp [h]

theorem execVinDipEnd_dramWf (lowest : BitVec 16) : staysWf (execVinDipEnd lowest s) := by
  unfold execVinDipEnd
  rw [staysWf_next]
  split
  · exact h
  · extract_lets above mv us pwr t u v w
    split
    · exact h
    · have ht : dramWf (t.fixed true) := (dramWf_with s ..).mpr h
      have hv : dramWf (v.fixed true) := by simpa [v, u] using ht
      have hw : dramWf (w.fixed true) := by
        unfold w
        split
        · exact State.pwrEvaluate_dramWf hv
        · exact hv
      simpa using hw

theorem execBrownOutReset_dramWf : staysWf (execBrownOutReset s) := by
  unfold execBrownOutReset
  split <;> simp [h]

theorem execPowerOn_dramWf (low : Bool) (away : Nat) : staysWf (execPowerOn low away s) := by simp [execPowerOn, h]

theorem execRefclkLost_dramWf (err : Int) : staysWf (execRefclkLost err s) := by
  unfold execRefclkLost
  rw [staysWf_next]
  split
  · exact h
  · extract_lets p t gone q u v w
    have ht : dramWf (t.fixed true) := by rwa [State.syncPwr_fixed, dramWf_with]
    have hv : dramWf (v.fixed true) := by rwa [State.selectSource_fixed, State.setRate_fixed, dramWf_with]
    have hw : dramWf (w.fixed true) := by simpa [w] using hv
    split
    · exact hv
    · exact State.wakeExit_dramWf (by simpa using hw)

theorem execPinReset_dramWf : staysWf (execPinReset s) := by simp [execPinReset, h]

theorem execHubWatchdog_dramWf : staysWf (execHubWatchdog s) := by simp [execHubWatchdog, h]

theorem execHubRst_dramWf : staysWf (execHubRst s) := by simp [execHubRst, h]

theorem execDormantEntryComplete_dramWf : staysWf (execDormantEntryComplete s) := by simp [execDormantEntryComplete, h]

theorem execWorkItemAdmit_dramWf (flow : Fin 4096) (atomic_ : Bool) (mask : Word) (all : Bool) (timeout : BitVec 16)
    (siding : Option (Fin 8 × BitVec 16)) : staysWf (execWorkItemAdmit flow atomic_ mask all timeout siding s) := by
  unfold execWorkItemAdmit
  rw [staysWf_next]
  extract_lets room due place it sch t u may
  have ht : dramWf (t.fixed true) := (dramWf_with s ..).mpr h
  have hu : dramWf (u.fixed true) := by simpa [u] using ht
  split
  · exact h
  · split
    · simpa using h
    · split
      · exact State.runSch_dramWf ht
      · split
        · rw [State.raise_fixed]
          exact (dramWf_with u ..).mpr hu
        · exact hu

theorem execEventFlagPost_dramWf (item : Nat) (flags : Word) : staysWf (execEventFlagPost item flags s) := by
  simp [execEventFlagPost, h]

theorem execSidingDue_dramWf : staysWf (execSidingDue s) := by simp [execSidingDue, State.onLanes, h]

theorem execWaitTimeout_dramWf : staysWf (execWaitTimeout s) := by simp [execWaitTimeout, State.onLanes, h]

theorem execStopInputActive_dramWf (k : Fin 2) : staysWf (execStopInputActive k s) := by simp [execStopInputActive, h]

theorem execStopDiscrepancy_dramWf : staysWf (execStopDiscrepancy s) := by simp [execStopDiscrepancy, h]

theorem execHubCheckFail_dramWf (cause : Fin 3) : staysWf (execHubCheckFail cause s) := by simp [execHubCheckFail, h]

theorem execSysTtPosRead_dramWf : staysWf (execSysTtPosRead s) := by simp [execSysTtPosRead, h]

theorem execLaneTick_dramWf : staysWf (execLaneTick s) := by simp [execLaneTick, h]

theorem execSwitchOverEnd_dramWf : staysWf (execSwitchOverEnd s) := by simp [execSwitchOverEnd, h]

theorem execDiscoverCollectEnd_dramWf : staysWf (execDiscoverCollectEnd s) := by simp [execDiscoverCollectEnd, h]

theorem execRestepApply_dramWf : staysWf (execRestepApply s) := by simp [execRestepApply, h]
end

end Sys2Proof.Machine
end

section
/-! PROOF. The shared DRAM partition keeps its canonical form. -/

namespace Sys2Proof.Machine

/-- Every command keeps the canonical form of the shared DRAM. -/
theorem exec_staysWf {s : State} (h : dramWf (s.fixed true)) : ∀ i, staysWf (exec i s)
  | .ping c | .sessionOpen c | .sessionConfirm c | .sessionClose c | .getIdentity c | .getStatus c | .setPowerState c | .setPowerCap c
  | .eventSubscribe c | .bulkWrite c | .bulkRead c | .resetEngine c | .regRead c | .regWrite c | .regReadBlock c | .regModify c
  | .regWriteLc c | .skyConfig c | .skySetBasePosition c | .skyExclude c | .skyGetChannels c | .skyRtcmConfig c | .rtkSetSiteOrigin c
  | .rtkSetRateClass c | .rtkSetNoise c | .rtkResetRover c | .rtkGetFix c | .sbxMapStage c | .sbxMapActivate c | .sbxRequest c
  | .sbxRelease c | .sbxRevoke c | .sbxZoneSet c | .sbxGetState c | .altTaskAdd c | .altTaskCancel c | .altTaskGet c
  | .altLandmarksLoad c | .altRoundNow c | .ttbCamStage c | .ttbCamActivate c | .ttbSetLimits c | .ttbGetProfile c | .radPortConfig c
  | .radSuperframeSet c | .radRoverAssign c | .radRoverEvict c | .radGetLink c | .stopAll c | .stopRover c | .stopZone c | .stopRelease c
  | .stopGetState c | .ethPortConfig c | .ptpConfig c | .timeGet c | .timeRestep c | .ppsConfig c | .chainDiscover c | .mtrConfig c
  | .mtrGetReadings c | .mtrGetHarmonics c | .mtrSetCap c | .mtrCalSeal c | .lanGetState c | .lanSwitch c | .secCaskLoad c
  | .secCaskUnload c | .updImageBegin c | .updImageData c | .updImageEnd c | .updDecant c | .updDecantSchedule c | .updGetState c
  | .cbkFreeze c | .cbkThaw c | .cbkRead c | .cbkClear c | .tstUnlock c | .tstLock c => State.host_staysWf h c _ rfl
  | .pauseFrameReceive n x | .pdelayRespReceive n x | .pdelayReqReceive n x | .ptpAnnounceReceive n x | .ptpSyncReceive n x
  | .ptpDelayRespReceive n x | .arpRequest n x | .icmpEcho n x | .helloReceive n x | .discoverReceive n x | .discoverReplyReceive n x
  | .imageDataReceive n x | .imageStatusReceive n x | .decantFrameReceive n x => State.frameOf_staysWf h n x _
  | .spiWrite bytes => execSpiWrite_dramWf h bytes
  | .udpDatagram src bytes => execUdpDatagram_dramWf h src bytes
  | .undefinedOpcode c _ => ⟨_, rfl, State.host_dramWf h c _ (opOf_getD_keepsDram _)⟩
  | .measurementEpoch clkBias clkDrift => execMeasurementEpoch_dramWf h clkBias clkDrift
  | .navRecord ch band v => execNavRecord_dramWf h ch band v
  | .stopInputActive k => execStopInputActive_dramWf h k
  | .hubCheckFail cause => execHubCheckFail_dramWf h cause
  | .ethFrameReceive n x => ⟨_, rfl, State.frameIn_dramWf h n.val x⟩
  | .wakeFrame n x => execWakeFrame_dramWf h n x
  | .laneSelfTestDone lane pass => execLaneSelfTestDone_dramWf h lane pass
  | .coldStartReady lane => execColdStartReady_dramWf h lane
  | .workItemAdmit flow atomic_ mask all timeout siding => execWorkItemAdmit_dramWf h flow atomic_ mask all timeout siding
  | .eventFlagPost item flags => execEventFlagPost_dramWf h item flags
  | .powerReevaluate vout => execPowerReevaluate_dramWf h vout
  | .tamperDetect k temp => execTamperDetect_dramWf h k temp
  | .tamperConditionEnd k => execTamperConditionEnd_dramWf h k
  | .powerOn low away => execPowerOn_dramWf h low away
  | .hubStart ok0 ok1 torn => execHubStart_dramWf h ok0 ok1 torn
  | .vinBelowWarn mv => execVinBelowWarn_dramWf h mv
  | .vinDipEnd lowest => execVinDipEnd_dramWf h lowest
  | .refclkLost err => execRefclkLost_dramWf h err
  | .sysTtPosRead => execSysTtPosRead_dramWf h
  | .restepApply => execRestepApply_dramWf h
  | .laneTick => execLaneTick_dramWf h
  | .stopDiscrepancy => execStopDiscrepancy_dramWf h
  | .discoverCollectEnd => execDiscoverCollectEnd_dramWf h
  | .switchOverEnd => execSwitchOverEnd_dramWf h
  | .sidingDue => execSidingDue_dramWf h
  | .waitTimeout => execWaitTimeout_dramWf h
  | .keyMaskRedraw => execKeyMaskRedraw_dramWf h
  | .decantRun => execDecantRun_dramWf h
  | .decantAtTd => execDecantAtTd_dramWf h
  | .bootFallback => execBootFallback_dramWf h
  | .supplyDipLong => execSupplyDipLong_dramWf h
  | .brownOutReset => execBrownOutReset_dramWf h
  | .dormantEntryComplete => execDormantEntryComplete_dramWf h
  | .wakeIn => execWakeIn_dramWf h
  | .wakeTimer => execWakeTimer_dramWf h
  | .pinReset => execPinReset_dramWf h
  | .hubWatchdog => execHubWatchdog_dramWf h
  | .hubRst => execHubRst_dramWf h
  | .spiRead n => (execSpiRead_fixed true n s).staysWf h
  | .spiInvalidCode code => (execSpiInvalidCode_fixed true code s).staysWf h
  | .handshakeLapse sid => (execHandshakeLapse_fixed true sid s).staysWf h
  | .udpSessionIdle sid => (execUdpSessionIdle_fixed true sid s).staysWf h
  | .registerWrite addr value => (execRegisterWrite_fixed true addr value s).staysWf h
  | .udpSessionDisable sid => (execUdpSessionDisable_fixed true sid s).staysWf h
  | .antennaOpen current => (execAntennaOpen_fixed true current s).staysWf h
  | .antennaShort current => (execAntennaShort_fixed true current s).staysWf h
  | .antennaBiasRetry current => (execAntennaBiasRetry_fixed true current s).staysWf h
  | .notchEngage band notch level freq => (execNotchEngage_fixed true band notch level freq s).staysWf h
  | .notchRelease band notch level => (execNotchRelease_fixed true band notch level s).staysWf h
  | .interferenceCondition band samples => (execInterferenceCondition_fixed true band samples s).staysWf h
  | .satelliteAcquired ch a => (execSatelliteAcquired_fixed true ch a s).staysWf h
  | .l5Handover ch offset power => (execL5Handover_fixed true ch offset power s).staysWf h
  | .channelRelease ch => (execChannelRelease_fixed true ch s).staysWf h
  | .loopUpdate ch band v => (execLoopUpdate_fixed true ch band v s).staysWf h
  | .pllBandwidthUpdate ch band => (execPllBandwidthUpdate_fixed true ch band s).staysWf h
  | .sidePeakCorrection ch band => (execSidePeakCorrection_fixed true ch band s).staysWf h
  | .carrierLockLoss ch band => (execCarrierLockLoss_fixed true ch band s).staysWf h
  | .codeLockLoss ch band => (execCodeLockLoss_fixed true ch band s).staysWf h
  | .timeInEdge falling phase width => (execTimeInEdge_fixed true falling phase width s).staysWf h
  | .sourceQualify k yf => (execSourceQualify_fixed true k yf s).staysWf h
  | .sourceLost k => (execSourceLost_fixed true k s).staysWf h
  | .yfReplace yf => (execYfReplace_fixed true yf s).staysWf h
  | .ppsEdge k => (execPpsEdge_fixed true k s).staysWf h
  | .observationIntake slot body => (execObservationIntake_fixed true slot body s).staysWf h
  | .rtkCycle sols => (execRtkCycle_fixed true sols s).staysWf h
  | .fixLostNone slot => (execFixLostNone_fixed true slot s).staysWf h
  | .ionoFreeSwitch slot => (execIonoFreeSwitch_fixed true slot s).staysWf h
  | .bulkUpReceive port bytes => (execBulkUpReceive_fixed true port bytes s).staysWf h
  | .snapshotSolveDone => (execSnapshotSolveDone_fixed true s).staysWf h
  | .snapshotMissing slot => (execSnapshotMissing_fixed true slot s).staysWf h
  | .snapshotAsmTimeout slot => (execSnapshotAsmTimeout_fixed true slot s).staysWf h
  | .sbxPass us => (execSbxPass_fixed true us s).staysWf h
  | .authorityExpiry slot => (execAuthorityExpiry_fixed true slot s).staysWf h
  | .releasingExpiry slot => (execReleasingExpiry_fixed true slot s).staysWf h
  | .avoidExpiry slot => (execAvoidExpiry_fixed true slot s).staysWf h
  | .withdrawTimeout slot => (execWithdrawTimeout_fixed true slot s).staysWf h
  | .previewExpiry slot => (execPreviewExpiry_fixed true slot s).staysWf h
  | .allotRoundTimeout phases => (execAllotRoundTimeout_fixed true phases s).staysWf h
  | .routeSearch slot route => (execRouteSearch_fixed true slot route s).staysWf h
  | .rerouteAnswer slot route => (execRerouteAnswer_fixed true slot route s).staysWf h
  | .routeRefusalRetry slot route => (execRouteRefusalRetry_fixed true slot route s).staysWf h
  | .profilePlan => (execProfilePlan_fixed true s).staysWf h
  | .authorityCommit us => (execAuthorityCommit_fixed true us s).staysWf h
  | .profileWordBoundary slot => (execProfileWordBoundary_fixed true slot s).staysWf h
  | .downlinkRun slot => (execDownlinkRun_fixed true slot s).staysWf h
  | .bulkDownRun port => (execBulkDownRun_fixed true port s).staysWf h
  | .upFrameReceive port bytes rxts rssi => (execUpFrameReceive_fixed true port bytes rxts rssi s).staysWf h
  | .joinReceive port bytes => (execJoinReceive_fixed true port bytes s).staysWf h
  | .joinAnswer port => (execJoinAnswer_fixed true port s).staysWf h
  | .uplinkMiss slot => (execUplinkMiss_fixed true slot s).staysWf h
  | .evictionComplete slot => (execEvictionComplete_fixed true slot s).staysWf h
  | .stopFrameArm port back => (execStopFrameArm_fixed true port back s).staysWf h
  | .armReadback port back => (execArmReadback_fixed true port back s).staysWf h
  | .stopInputInactive k => (execStopInputInactive_fixed true k s).staysWf h
  | .chainStopReceive n frame => (execChainStopReceive_fixed true n frame s).staysWf h
  | .ethLinkUp n fast => (execEthLinkUp_fixed true n fast s).staysWf h
  | .ethLinkDown n => (execEthLinkDown_fixed true n s).staysWf h
  | .addressAgeOut mac => (execAddressAgeOut_fixed true mac s).staysWf h
  | .preemptVerify n answered => (execPreemptVerify_fixed true n answered s).staysWf h
  | .pauseWatchdog n => (execPauseWatchdog_fixed true n s).staysWf h
  | .pauseIgnoreEnd n => (execPauseIgnoreEnd_fixed true n s).staysWf h
  | .pdelayReqSend n => (execPdelayReqSend_fixed true n s).staysWf h
  | .helloSend n => (execHelloSend_fixed true n s).staysWf h
  | .neighbourTimeout n => (execNeighbourTimeout_fixed true n s).staysWf h
  | .mdioGo value => (execMdioGo_fixed true value s).staysWf h
  | .mdioDone data => (execMdioDone_fixed true data s).staysWf h
  | .meterSecond freq0 freq1 => (execMeterSecond_fixed true freq0 freq1 s).staysWf h
  | .harmonicWindowEnd p x => (execHarmonicWindowEnd_fixed true p x s).staysWf h
  | .energyNorCopy good => (execEnergyNorCopy_fixed true good s).staysWf h
  | .energyCopyRetry good => (execEnergyCopyRetry_fixed true good s).staysWf h
  | .epulseEmit k => (execEpulseEmit_fixed true k s).staysWf h
  | .channelFault p channel cause => (execChannelFault_fixed true p channel cause s).staysWf h
  | .meterFaultChange p flag => (execMeterFaultChange_fixed true p flag s).staysWf h
  | .laneDiagFail lane cause engine offset => (execLaneDiagFail_fixed true lane cause engine offset s).staysWf h
  | .heartbeatLoss lane => (execHeartbeatLoss_fixed true lane s).staysWf h
  | .engineWatchdog lane engine => (execEngineWatchdog_fixed true lane engine s).staysWf h
  | .laneScrub lane corrected bad => (execLaneScrub_fixed true lane corrected bad s).staysWf h
  | .digestCompare a b => (execDigestCompare_fixed true a b s).staysWf h
  | .rescrubDone bad => (execRescrubDone_fixed true bad s).staysWf h
  | .rackPoint good => (execRackPoint_fixed true good s).staysWf h
  | .laneRestore lane => (execLaneRestore_fixed true lane s).staysWf h
  | .queueCommit q len more gen engine seq => (execQueueCommit_fixed true q len more gen engine seq s).staysWf h
  | .packetRewind q => (execPacketRewind_fixed true q s).staysWf h
  | .queueRack q => (execQueueRack_fixed true q s).staysWf h
  | .queueReadError q double source reply => (execQueueReadError_fixed true q double source reply s).staysWf h
  | .queueFullTimeout q => (execQueueFullTimeout_fixed true q s).staysWf h
  | .tokenRequest arb k => (execTokenRequest_fixed true arb k s).staysWf h
  | .tokenDrop arb k => (execTokenDrop_fixed true arb k s).staysWf h
  | .evtPendClear k mask => (execEvtPendClear_fixed true k mask s).staysWf h
  | .bankWriteDone good => (execBankWriteDone_fixed true good s).staysWf h
  | .relayBusyRetry n => (execRelayBusyRetry_fixed true n s).staysWf h
  | .relayFail n => (execRelayFail_fixed true n s).staysWf h
  | .cbkRecordWrite fails => (execCbkRecordWrite_fixed true fails s).staysWf h
  | .firstBeacon port => (execFirstBeacon_fixed true port s).staysWf h
  | .vsysResetLevel mv => (execVsysResetLevel_fixed true mv s).staysWf h
  | .vbatLow mv => (execVbatLow_fixed true mv s).staysWf h
  | .avfsReading lane m => (execAvfsReading_fixed true lane m s).staysWf h
  | .dieTempHigh temp => (execDieTempHigh_fixed true temp s).staysWf h
  | .tstJitWrite value => (execTstJitWrite_fixed true value s).staysWf h
  | .meteringSample x0 x1 => (execMeteringSample_fixed true x0 x1 s).staysWf h
  | .vinAtOrAboveWarn mv => (execVinAtOrAboveWarn_fixed true mv s).staysWf h
  | .vbatLowEnd mv => (execVbatLowEnd_fixed true mv s).staysWf h
  | .antennaNormal current => (execAntennaNormal_fixed true current s).staysWf h
  | .radioRxError port => (execRadioRxError_fixed true port s).staysWf h
  | .evtEnWrite k value => (execEvtEnWrite_fixed true k value s).staysWf h
  | .spiStatus => (execSpiStatus_fixed true s).staysWf h
  | .spiCsWhileBusy => (execSpiCsWhileBusy_fixed true s).staysWf h
  | .hsRdyReady => (execHsRdyReady_fixed true s).staysWf h
  | .svbCntClr => (execSvbCntClr_fixed true s).staysWf h
  | .skyColdRestart => (execSkyColdRestart_fixed true s).staysWf h
  | .skyHotRestart => (execSkyHotRestart_fixed true s).staysWf h
  | .epochRateChange => (execEpochRateChange_fixed true s).staysWf h
  | .timInLoRead => (execTimInLoRead_fixed true s).staysWf h
  | .timNowLoRead => (execTimNowLoRead_fixed true s).staysWf h
  | .firstTimeStep => (execFirstTimeStep_fixed true s).staysWf h
  | .disciplineUpdate => (execDisciplineUpdate_fixed true s).staysWf h
  | .timeLockHold => (execTimeLockHold_fixed true s).staysWf h
  | .holdoverExpire => (execHoldoverExpire_fixed true s).staysWf h
  | .leapSecondPass => (execLeapSecondPass_fixed true s).staysWf h
  | .wholeSecond => (execWholeSecond_fixed true s).staysWf h
  | .arDeadlineCut => (execArDeadlineCut_fixed true s).staysWf h
  | .rtkRateChange => (execRtkRateChange_fixed true s).staysWf h
  | .rtkShedStep => (execRtkShedStep_fixed true s).staysWf h
  | .rtkArDisable => (execRtkArDisable_fixed true s).staysWf h
  | .rtkCntClr => (execRtkCntClr_fixed true s).staysWf h
  | .snapshotSolveStart => (execSnapshotSolveStart_fixed true s).staysWf h
  | .snapshotSolveTimeout => (execSnapshotSolveTimeout_fixed true s).staysWf h
  | .snpFlush => (execSnpFlush_fixed true s).staysWf h
  | .snpDisable => (execSnpDisable_fixed true s).staysWf h
  | .snpCntClr => (execSnpCntClr_fixed true s).staysWf h
  | .routeRequest => (execRouteRequest_fixed true s).staysWf h
  | .previewDisable => (execPreviewDisable_fixed true s).staysWf h
  | .sbxCntClr => (execSbxCntClr_fixed true s).staysWf h
  | .sbxMapStageDone => (execSbxMapStageDone_fixed true s).staysWf h
  | .allotRoundStart => (execAllotRoundStart_fixed true s).staysWf h
  | .allotRoundEnd => (execAllotRoundEnd_fixed true s).staysWf h
  | .altCntClr => (execAltCntClr_fixed true s).staysWf h
  | .altLandmarksDone => (execAltLandmarksDone_fixed true s).staysWf h
  | .ttbCntClr => (execTtbCntClr_fixed true s).staysWf h
  | .ttbCamStageDone => (execTtbCamStageDone_fixed true s).staysWf h
  | .superframeStart => (execSuperframeStart_fixed true s).staysWf h
  | .slotTableSwitch => (execSlotTableSwitch_fixed true s).staysWf h
  | .stpTxRepeat => (execStpTxRepeat_fixed true s).staysWf h
  | .radCntClr => (execRadCntClr_fixed true s).staysWf h
  | .discClr => (execDiscClr_fixed true s).staysWf h
  | .chainStopRepeat => (execChainStopRepeat_fixed true s).staysWf h
  | .chainSourceTimeout => (execChainSourceTimeout_fixed true s).staysWf h
  | .stopReleaseDue => (execStopReleaseDue_fixed true s).staysWf h
  | .targetReleaseDue => (execTargetReleaseDue_fixed true s).staysWf h
  | .ptpAnnounceTimeout => (execPtpAnnounceTimeout_fixed true s).staysWf h
  | .ptpSyncSend => (execPtpSyncSend_fixed true s).staysWf h
  | .ptpAnnounceSend => (execPtpAnnounceSend_fixed true s).staysWf h
  | .ptpDelayReqSend => (execPtpDelayReqSend_fixed true s).staysWf h
  | .ethCntClr => (execEthCntClr_fixed true s).staysWf h
  | .demandIntervalEnd => (execDemandIntervalEnd_fixed true s).staysWf h
  | .meterFrontEndRestart => (execMeterFrontEndRestart_fixed true s).staysWf h
  | .demClr => (execDemClr_fixed true s).staysWf h
  | .mtrCntClr => (execMtrCntClr_fixed true s).staysWf h
  | .rackPrecopyDone => (execRackPrecopyDone_fixed true s).staysWf h
  | .lanCntClr => (execLanCntClr_fixed true s).staysWf h
  | .queFlush => (execQueFlush_fixed true s).staysWf h
  | .queCntClr => (execQueCntClr_fixed true s).staysWf h
  | .atomicEnEffect => (execAtomicEnEffect_fixed true s).staysWf h
  | .schCntClr => (execSchCntClr_fixed true s).staysWf h
  | .secCntClr => (execSecCntClr_fixed true s).staysWf h
  | .imageTransferTimeout => (execImageTransferTimeout_fixed true s).staysWf h
  | .imageVerifyDone => (execImageVerifyDone_fixed true s).staysWf h
  | .updAbort => (execUpdAbort_fixed true s).staysWf h
  | .updCntClr => (execUpdCntClr_fixed true s).staysWf h
  | .imageStatusSend => (execImageStatusSend_fixed true s).staysWf h
  | .relayReceiveTimeout => (execRelayReceiveTimeout_fixed true s).staysWf h
  | .decantVoteEnd => (execDecantVoteEnd_fixed true s).staysWf h
  | .decantHoldCheck => (execDecantHoldCheck_fixed true s).staysWf h
  | .cbkFreezeTimeout => (execCbkFreezeTimeout_fixed true s).staysWf h
  | .cbkCntClr => (execCbkCntClr_fixed true s).staysWf h
  | .voutTrip => (execVoutTrip_fixed true s).staysWf h
  | .voutRestart => (execVoutRestart_fixed true s).staysWf h
  | .refclkRestored => (execRefclkRestored_fixed true s).staysWf h
  | .pwrCntClr => (execPwrCntClr_fixed true s).staysWf h
  | .tstAutolock => (execTstAutolock_fixed true s).staysWf h
  | .tstClrAll => (execTstClrAll_fixed true s).staysWf h
  | .tstErrGo => (execTstErrGo_fixed true s).staysWf h
  | .tstCrcGo => (execTstCrcGo_fixed true s).staysWf h
  | .mismatchWindowEnd => (execMismatchWindowEnd_fixed true s).staysWf h
  | .raEnClear => (execRaEnClear_fixed true s).staysWf h

/-- Settles O51: a command stores in the shared DRAM through `State.dramStore`, which keeps the form, empties it, or leaves it; an empty
queue runs the clock only. -/
theorem sharedDramKeepsItsCanonicalForm : Obligations.SharedDramKeepsItsCanonicalForm := by
  intro s t hwf hstep
  have h : dramWf (s.fixed true) := (State.dramWf_iff s).mpr hwf
  unfold step at hstep
  split at hstep
  · cases hstep
    rw [← State.dramWf_iff]
    simpa [State.idle] using h
  · next c rest _ =>
    obtain ⟨u, hu, hwf'⟩ := exec_staysWf ((dramWf_with s ..).mpr h : dramWf (State.fixed true { s with pending := rest })) c
    rw [hstep] at hu
    cases hu
    exact (State.dramWf_iff t).mp hwf'

end Sys2Proof.Machine
end

section
/-! PROOF. The values after reset. -/

namespace Sys2Proof.Machine

/-- Settles O44: `State.reset` lists no register and no byte, so each reads its reset value. -/
theorem resetLeavesTheResetValues : Obligations.ResetLeavesTheResetValues := by
  have hreg : ∀ a, State.reset.reg a = regReset a := fun _ => rfl
  refine ⟨hreg, fun a ha => ?unmapped, ?named, ?sessions, fun _ => rfl, reset_dram_wf⟩
  case unmapped => rw [hreg, regReset, ha]
  case named => exact ⟨by decide, by decide, by decide, by decide, by decide, by decide, by decide, by decide⟩
  case sessions => exact ⟨rfl, rfl, rfl, rfl, rfl, rfl, rfl, rfl, rfl, rfl⟩

end Sys2Proof.Machine
end

section
/-! PROOF. Two statements about all states that a state of their hypotheses contradicts. -/

namespace Sys2Proof.Machine

/-! ### Packets on SPI -/

/-- While RESET_N is held low an SPI transaction is nothing (R478). -/
theorem State.spi_of_resetHeld {s : State} (h : s.pwr.resetHeld = true) (k : State → State) : s.spi k = s := by
  unfold State.spi
  rw [h, Bool.or_true, if_pos rfl]

/-- A state that serves commands with RESET_N low. The hypotheses of PacketsSpellTheirCommands allow it. -/
def heldServing : State :=
  { State.reset with pwr := { state := .run, hubReady := true, resetHeld := true }, svb := { rdyHigh := false } }

/-- An empty PING in session 0, the first command after a reset. -/
def firstPing : Cmd := ⟨0, 1, []⟩

/-- Refutes O50: the statement does not ask that RESET_N is high. In `heldServing` the row PING executes, and the SPI transaction with its
packet is ignored, which leaves HS_RDY_N low. -/
theorem not_packetsSpellTheirCommands : ¬ Obligations.PacketsSpellTheirCommands := by
  rintro ⟨hspi, -⟩
  have h := hspi heldServing _ (.ping firstPing) firstPing opPing rfl (by decide +kernel) rfl rfl rfl rfl
  have hs : exec (.spiWrite (heldServing.wire firstPing opPing.code)) heldServing = .next heldServing :=
    congrArg _ (State.spi_of_resetHeld rfl _)
  rw [hs, Host.Outcome.next.injEq] at h
  have hlow : heldServing.svb.rdyHigh = false := rfl
  rw [h] at hlow
  exact absurd hlow (by simp [State.spiBusy])

/-! ### Commands in recovery -/

/-- A module in recovery, its SPI serving session 0 at level C. -/
def recovering : State :=
  { State.reset with pwr := { state := .run, hubReady := true }, svb := { rdyHigh := false }, upd := { recovery := true } }

/-- Refutes O46: in recovery a command with an opcode that Table 2-9 does not list is answered BAD_OPCODE (R52), not WRONG_STATE. -/
theorem not_refusedCommandsExecuteNothing : ¬ Obligations.RefusedCommandsExecuteNothing := by
  rintro ⟨-, -, -, -, hrec, -⟩
  have h := (hrec recovering _ (.undefinedOpcode firstPing 0x0777) firstPing _ rfl (by decide +kernel) (by decide +kernel)
    (by decide +kernel) rfl (by decide +kernel) (by decide +kernel) rfl (by decide +kernel)).1
  unfold State.answered at h
  exact absurd h (by decide +kernel)

end Sys2Proof.Machine
end

section
/-! SUPPORT. What a packet sent does to the sessions, the outputs and the registers, and how a command row comes to its handling. -/

namespace Sys2Proof.Machine

/-! ### Reading through a frame -/

theorem State.fld_of_changesOnly {s t : State} {ps : List Part} {rs : List Nat} (h : s.changesOnly t ps rs []) (f : Fld) (hf : f.addr ∉ rs) :
    t.fld f = s.fld f := by
  rw [State.fld, State.fld, h.2.2 f.addr hf (by simp)]

/-- A counter of at least one bit counts up to its largest value (R12). -/
theorem State.fld_satInc_same (s : State) (f : Fld) (hf : f.lo + f.width ≤ 32) :
    (s.satInc f).fld f = min (s.fld f + 1) (2 ^ f.width - 1) := by
  have hpos : 0 < 2 ^ f.width := by positivity
  rw [State.satInc, State.fld_setFld_same s f _ hf, Nat.mod_eq_of_lt (by omega)]

/-! ### Packets (R38, R40) -/

@[simp] theorem State.syncOut_outs (s : State) : s.syncOut.outs = s.outs := by
  unfold State.syncOut
  dsimp only
  split
  · rfl
  · split <;> rw [State.syncIrq_outs]
    · rw [State.incFld_outs, State.setPend_outs]
    · rw [State.setPend_outs]

@[simp] theorem State.corrupt_outs (s : State) (target : Nat) : (s.corrupt target).2.outs = s.outs := by
  unfold State.corrupt
  split
  · rfl
  · dsimp only
    split
    · rw [State.setFld_outs, State.setFld_outs]
    · rfl

@[simp] theorem State.sess_syncOut (s : State) (sid : Nat) : s.syncOut.sess sid = s.sess sid := State.sess_of_svb (State.syncOut_svb s) sid

@[simp] theorem State.sess_corrupt (s : State) (target sid : Nat) : (s.corrupt target).2.sess sid = s.sess sid :=
  State.sess_of_svb (State.corrupt_svb s target) sid

@[simp] theorem State.sess_satInc (s : State) (f : Fld) (sid : Nat) : (s.satInc f).sess sid = s.sess sid := rfl

/-- The packet that a session sends, as the test block leaves it. -/
def State.packetOf (s : State) (sid : Nat) (b : OutBody) (lane : Option LaneTag) : OutPkt :=
  { body := b, key := tagKey (s.sess sid) b, bad := (s.corrupt 0).1, lane := lane }

/-- A packet of session 0 waits behind those before it. -/
theorem State.sendPkt_spi (s : State) (dst : Nat) (b : OutBody) (lane : Option LaneTag) :
    s.sendPkt 0 dst b lane
      = ((s.corrupt 0).2.setSess 0 { s.sess 0 with out := (s.sess 0).out ++ [s.packetOf 0 b lane] }).syncOut := by
  unfold State.sendPkt State.packetOf
  have h := s.sess_corrupt 0 0
  generalize s.corrupt 0 = c at h ⊢
  obtain ⟨bad, t⟩ := c
  rw [← h]
  rfl

/-- A packet of any other session leaves at once. -/
theorem State.sendPkt_udp (s : State) {sid : Nat} (h0 : sid ≠ 0) (dst : Nat) (b : OutBody) (lane : Option LaneTag) :
    s.sendPkt sid dst b lane = (s.corrupt 0).2.emit (.udp dst (packOut sid (s.packetOf sid b lane))) := by
  unfold State.sendPkt State.packetOf
  have h := s.sess_corrupt 0 sid
  generalize s.corrupt 0 = c at h ⊢
  obtain ⟨bad, t⟩ := c
  dsimp only
  rw [if_neg h0, ← h]

theorem State.sendPkt_left (s : State) (sid dst : Nat) (b : OutBody) (lane : Option LaneTag := none) :
    (s.sendPkt sid dst b lane).left sid dst b := by
  refine ⟨s.packetOf sid b lane, rfl, ?_⟩
  by_cases h0 : sid = 0
  · subst h0
    rw [if_pos rfl, State.sendPkt_spi, State.sess_syncOut, State.sess_setSess_same]
    simp
  · rw [if_neg h0, State.sendPkt_udp s h0, State.emit_outs]
    simp

theorem State.sendReply_left (s : State) (sid dst seq code : Nat) (dup : Bool) (r : Reply) (lane : Option LaneTag := none) :
    (s.sendReply sid dst seq code dup r lane).left sid dst (.reply seq code dup (s.sess sid).auth r) := s.sendPkt_left _ _ _ _

/-- The registers that a packet sent may change. -/
def packetRegs : List Nat := R.SYS_SVB_STAT :: R.TST_CRC :: R.TST_STAT :: evtRegs

theorem State.sendPkt_changesPacket (s : State) (sid dst : Nat) (b : OutBody) (lane : Option LaneTag := none) :
    s.changesOnly (s.sendPkt sid dst b lane) busParts packetRegs [] := by
  have hc : s.changesOnly (s.corrupt 0).2 busParts packetRegs [] := by
    unfold State.corrupt
    have ht := s.tst_changesOnly { s.tst with crcLeft := s.tst.crcLeft - 1 } (ps := busParts) (rs := packetRegs) (bs := []) (by simp)
    split
    · exact s.changesOnly_refl _ _ _
    · exact State.ite_changesOnly (State.setFld_then _ _ (State.setFld_then _ _ ht (by decide)) (by decide)) ht
  by_cases h0 : sid = 0
  · subst h0
    rw [State.sendPkt_spi]
    exact State.changesOnly_trans (State.changesOnly_trans hc (State.setSess_changesSessions _ _ _ (by simp) (by decide)))
      (State.syncOut_changesEvents _ (by simp) (by decide))
  · rw [State.sendPkt_udp s h0]
    exact State.changesOnly_trans hc (State.outs_changesOnly _ _ (by simp))

/-! ### From a command row to the handling of its command (R33, R41, R43) -/

/-- A command row is the command of its opcode. -/
theorem exec_of_commandOf {i : Instr} {c : Cmd} {op : Op} (h : commandOf i = some (c, op)) (s : State) : exec i s = .next (s.host c op) := by
  unfold commandOf at h
  split at h <;> simp only [Option.some.injEq, Prod.mk.injEq, reduceCtorEq] at h <;> obtain ⟨rfl, rfl⟩ := h <;> rfl

/-- `s` after a packet of an open, authenticated session has come: the last authenticated one is now (R42). -/
def State.heard (s : State) (sid : Nat) : State :=
  if (s.sess sid).isOpen && (s.sess sid).auth then s.setSess sid { s.sess sid with lastAuth := s.el } else s

theorem State.sess_heard (s : State) (sid : Nat) : ∃ la, (s.heard sid).sess sid = { s.sess sid with lastAuth := la } := by
  unfold State.heard
  split
  · exact ⟨_, State.sess_setSess_same _ _ _⟩
  · exact ⟨(s.sess sid).lastAuth, rfl⟩

@[simp] theorem State.heard_outs (s : State) (sid : Nat) : (s.heard sid).outs = s.outs := by
  unfold State.heard
  split <;> rfl

theorem State.heard_changesOnly (s : State) (sid : Nat) {ps : List Part} {rs : List Nat} {bs : List Block} (hp : Part.svb ∈ ps)
    (hr : R.SYS_SVB_STAT ∈ rs) : s.changesOnly (s.heard sid) ps rs bs :=
  State.ite_changesOnly (s.setSess_changesSessions _ _ hp hr) (s.changesOnly_refl _ _ _)

theorem State.reaches_iff (s : State) (c : Cmd) (code : Nat) : s.reaches c code = true ↔
    s.serving = true ∧ s.transportUp c.sid.val = true ∧ (c.sid.val = 0 ∨ s.udpEnabled c.sid.val = true) ∧
      wireLength (s.sess c.sid.val).auth code c.payload ≤ 1408 := by
  simp [State.reaches, and_assoc]

/-- A command that reaches the module is handled, from its session's own source. -/
theorem State.host_eq_command {s : State} {c : Cmd} {op : Op} (h : s.reaches c op.code = true) : s.host c op
    = (if ((s.sess c.sid.val).isOpen && (s.sess c.sid.val).auth && op.code != 0x0101) = true then
        s.setSess c.sid.val { s.sess c.sid.val with lastAuth := s.el } else s).command
          c.sid.val (s.sess c.sid.val).peer c.seq.toNat op.code op c.payload := by
  obtain ⟨hserving, hup, hudp, hlen⟩ := (s.reaches_iff c op.code).mp h
  have hframing : ¬ (decide (1408 < wireLength (s.sess c.sid.val).auth op.code c.payload)
      || (c.sid.val != 0 && !s.udpEnabled c.sid.val)) = true := by
    rw [Bool.or_eq_true, decide_eq_true_eq, Bool.and_eq_true, bne_iff_ne, Bool.not_eq_true']
    rintro (hlong | ⟨h0, hoff⟩)
    · omega
    · rcases hudp with h | h
      · exact h0 h
      · rw [h] at hoff
        exact absurd hoff (by decide)
  unfold State.host
  dsimp only
  rw [if_pos (by rw [hserving, hup]; rfl), if_neg hframing]

/-- A command other than SESSION_OPEN is the last that its session has heard. -/
theorem State.host_of_reaches {s : State} {c : Cmd} {op : Op} (h : s.reaches c op.code = true) (ho : op.code ≠ 0x0101) :
    s.host c op = (s.heard c.sid.val).command c.sid.val (s.sess c.sid.val).peer c.seq.toNat op.code op c.payload := by
  have hne : (op.code != 0x0101) = true := bne_iff_ne.mpr ho
  rw [State.host_eq_command h, hne, Bool.and_true]
  rfl

/-- A command of an open session that is neither SESSION_OPEN nor SESSION_CONFIRM is handled by its sequence number. -/
theorem State.command_of_open (s : State) (sid src seq : Nat) (op : Op) (p : List Byte) (ho : op.code ≠ 0x0101) (hc : op.code ≠ 0x0102)
    (h : (s.sess sid).isOpen = true) : s.command sid src seq op.code op p = s.accept sid src seq op p := by
  have e : (op.code == 0x0102) = false := by simpa using hc
  unfold State.command
  dsimp only
  rw [if_neg ho, e]
  dsimp only
  rw [h, Bool.not_true, if_neg (by decide), Bool.false_and, if_neg (by decide)]

theorem State.host_of_open {s : State} {c : Cmd} {op : Op} (h : s.reaches c op.code = true) (ho : op.code ≠ 0x0101) (hc : op.code ≠ 0x0102)
    (hopen : (s.sess c.sid.val).isOpen = true) :
    s.host c op = (s.heard c.sid.val).accept c.sid.val (s.sess c.sid.val).peer c.seq.toNat op c.payload := by
  obtain ⟨la, hs⟩ := s.sess_heard c.sid.val
  rw [State.host_of_reaches h ho]
  exact State.command_of_open _ _ _ _ _ _ ho hc (by rw [hs]; exact hopen)

/-! ### The handling of a command by its sequence number (R43) -/

section
variable (s : State) (sid src seq : Nat) (op : Op) (p : List Byte)

theorem State.accept_conflict {f : CacheEntry} (hf : (s.sess sid).cache.find? (fun e => e.seq == seq) = some f)
    (hcrc : f.crc ≠ crc32c (le 2 op.code ++ p)) : s.accept sid src seq op p = s.sendReply sid src seq op.code false ⟨0x32, []⟩ := by
  unfold State.accept
  dsimp only
  rw [hf]
  exact if_pos hcrc

theorem State.accept_running {f : CacheEntry} (hf : (s.sess sid).cache.find? (fun e => e.seq == seq) = some f)
    (hcrc : f.crc = crc32c (le 2 op.code ++ p)) (hr : f.reply = none) : s.accept sid src seq op p = s.satInc F.SYS_SVB_ERR_DUP := by
  unfold State.accept
  dsimp only
  rw [hf]
  dsimp only
  rw [if_neg (not_not_intro hcrc), hr]

theorem State.accept_repeated {f : CacheEntry} {r : Reply} (hf : (s.sess sid).cache.find? (fun e => e.seq == seq) = some f)
    (hcrc : f.crc = crc32c (le 2 op.code ++ p)) (hr : f.reply = some r) :
    s.accept sid src seq op p = (s.satInc F.SYS_SVB_ERR_DUP).sendReply sid src seq op.code true r := by
  unfold State.accept
  dsimp only
  rw [hf]
  dsimp only
  rw [if_neg (not_not_intro hcrc), hr]

theorem State.accept_stale (hf : (s.sess sid).cache.find? (fun e => e.seq == seq) = none)
    (hd : (seq + 65536 - (s.sess sid).h) % 65536 = 0 ∨ 32768 ≤ (seq + 65536 - (s.sess sid).h) % 65536) :
    s.accept sid src seq op p = s.sendReply sid src seq op.code false ⟨0x31, []⟩ := by
  unfold State.accept
  dsimp only
  rw [hf]
  exact if_pos hd

theorem State.accept_busy (hf : (s.sess sid).cache.find? (fun e => e.seq == seq) = none)
    (hd : 0 < (seq + 65536 - (s.sess sid).h) % 65536) (hd' : (seq + 65536 - (s.sess sid).h) % 65536 < 32768)
    (hb : 16 ≤ awaiting (s.sess sid)) : s.accept sid src seq op p = s.sendReply sid src seq op.code false ⟨0x30, []⟩ := by
  unfold State.accept
  dsimp only
  rw [hf]
  dsimp only
  rw [if_neg (by omega), if_pos hb]
  rfl
end

end Sys2Proof.Machine
end

section
/-! SUPPORT. What recording a command and delivering replies leave of a session. -/

namespace Sys2Proof.Machine

/-! ### A command recorded (R43) -/

/-- A command that is taken is recorded in its session. -/
theorem State.sess_entered (s : State) (c : Cmd) (op : Op) : ∃ la, (s.entered c op).sess c.sid.val
    = recorded { s.sess c.sid.val with lastAuth := la } c.seq.toNat (s.sess c.sid.val).peer op c.payload := by
  have hl : ∀ t : State, (if op.lane c.payload = true then t.laneInput else t).sess c.sid.val = t.sess c.sid.val := fun t => by
    split <;> rfl
  unfold State.entered
  dsimp only
  rw [hl, State.sess_setSess_same]
  split
  · refine ⟨s.el, ?_⟩
    rw [State.sess_setSess_same]
    rfl
  · exact ⟨(s.sess c.sid.val).lastAuth, rfl⟩

theorem State.entered_changesOnly (s : State) (c : Cmd) (op : Op) {ps : List Part} {rs : List Nat} {bs : List Block} (hp : Part.svb ∈ ps)
    (ht : Part.time ∈ ps) (hr : R.SYS_SVB_STAT ∈ rs) : s.changesOnly (s.entered c op) ps rs bs := by
  have hs : ∀ (t : State) ss, t.changesOnly (t.setSess c.sid.val ss) ps rs bs := fun t ss => t.setSess_changesSessions _ _ hp hr
  have hrec : ∀ ss, s.changesOnly ((if (s.sess c.sid.val).auth = true then
      s.setSess c.sid.val { s.sess c.sid.val with lastAuth := s.el } else s).setSess c.sid.val ss) ps rs bs := fun ss =>
    State.changesOnly_trans (State.ite_changesOnly (hs _ _) (s.changesOnly_refl _ _ _)) (hs _ _)
  exact State.ite_changesOnly (State.changesOnly_trans (hrec _) (State.laneInput_changesOnly _ ht)) (hrec _)

theorem recorded_cache_length (ss : Session) (seq src : Nat) (op : Op) (p : List Byte) : (recorded ss seq src op p).cache.length ≤ 16 := by
  simp only [recorded, List.length_drop]
  omega

/-- The entry of the command has no reply yet. -/
theorem recorded_cache_new (ss : Session) (seq src : Nat) (op : Op) (p : List Byte) :
    ∃ f ∈ (recorded ss seq src op p).cache, f.seq = seq ∧ f.reply = none := by
  refine ⟨{ seq := seq, crc := crc32c (le 2 op.code ++ p), opcode := op.code }, ?_, rfl, rfl⟩
  simp only [recorded]
  rw [List.drop_append_of_le_length (by simp)]
  simp

/-- The oldest entries give way to the new one. -/
theorem recorded_cache_seqs (ss : Session) (seq src : Nat) (op : Op) (p : List Byte) :
    ∃ k, (recorded ss seq src op p).cache.map (·.seq) = (ss.cache.map (·.seq)).drop k ++ [seq] := by
  refine ⟨(ss.cache.map (·.seq)).length + 1 - 16, ?_⟩
  simp only [recorded, List.map_drop, List.map_append, List.map_cons, List.map_nil, List.length_append, List.length_cons, List.length_nil,
    List.length_map, Nat.zero_add]
  exact List.drop_append_of_le_length (by simp)

/-! ### Replies that leave (R43, R46) -/

/-- What becomes of a command that awaits its reply when a reply is ready. -/
def State.replied (s : State) (seq : Nat) (tag : Option LaneTag) (r : Reply) (e : Outst) : Outst :=
  if e.seq = seq ∧ e.reply.isNone then { e with reply := some r, tag := tag, held := tag.isSome && s.switching } else e

theorem State.answer_eq (s : State) (sid seq : Nat) (tag : Option LaneTag) (r : Reply) : s.answer sid seq tag r
    = (s.setSess sid { s.sess sid with outst := (s.sess sid).outst.map (s.replied seq tag r) }).flushReplies sid := rfl

/-- A session whose ready replies have left, its output queue aside. -/
def Session.flushed (ss : Session) (out : List OutPkt) : Session :=
  { ss with cache := (readyReplies false ss.outst).1.foldl (fun c e => withReply e c) ss.cache, outst := (readyReplies false ss.outst).2,
            out := out }

theorem State.sess_flushReplies (s : State) (sid : Nat) : ∃ out, (s.flushReplies sid).sess sid = (s.sess sid).flushed out := by
  unfold State.flushReplies
  dsimp only
  obtain ⟨out, h⟩ := State.replies_sess sid (readyReplies false (s.sess sid).outst).1
    (s.setSess sid { s.sess sid with outst := (readyReplies false (s.sess sid).outst).2 })
  refine ⟨out, (State.sess_of_svb (State.syncHeld_svb _) sid).trans (h.trans ?_)⟩
  rw [State.sess_setSess_same]
  rfl

theorem State.sess_answer (s : State) (sid seq : Nat) (tag : Option LaneTag) (r : Reply) : ∃ out, (s.answer sid seq tag r).sess sid
    = ({ s.sess sid with outst := (s.sess sid).outst.map (s.replied seq tag r) } : Session).flushed out := by
  obtain ⟨out, h⟩ := State.sess_flushReplies (s.setSess sid { s.sess sid with outst := (s.sess sid).outst.map (s.replied seq tag r) }) sid
  rw [State.sess_setSess_same] at h
  exact ⟨out, (congrArg (State.sess · sid) (s.answer_eq sid seq tag r)).trans h⟩

/-! ### SESSION_CONFIRM (R42) -/

/-- The session that the handshake opens, its command answered. -/
def Handshake.session (h : Handshake) (seq src now : Nat) (p : List Byte) (out : List OutPkt) : Session :=
  { isOpen := true, level := h.level, auth := true, key := h.key, slot := h.slot, h := seq, lastAuth := now, peer := src, out := out,
    cache := [{ seq := seq, crc := crc32c (le 2 0x0102 ++ p), opcode := 0x0102, reply := some ⟨St.ok, []⟩ }] }

theorem State.sess_sessionConfirm (s : State) (sid src seq : Nat) (p : List Byte) (h : Handshake) :
    ∃ out, (s.sessionConfirm sid src seq p h).sess sid = h.session seq src s.el p out := by
  unfold State.sessionConfirm
  extract_lets t e ss t₁ t₂
  have hss : t₂.sess sid = ss :=
    (State.sess_setFld _ _ _ _).trans ((State.sess_syncOut _ _).trans (State.sess_setSess_same _ _ _))
  obtain ⟨out, ha⟩ := t₂.sess_answer sid seq none ⟨St.ok, []⟩
  refine ⟨out, ha.trans ?_⟩
  rw [hss]
  simp [ss, e, State.replied, Session.flushed, readyReplies, withReply, Handshake.session]

/-- A SESSION_CONFIRM that reaches the module while a handshake is pending completes it. -/
theorem State.host_sessionConfirm {s : State} {c : Cmd} {h : Handshake} (hr : s.reaches c 0x0102 = true)
    (hh : (s.sess c.sid.val).hs = some h) : s.host c opSessionConfirm
      = (s.heard c.sid.val).sessionConfirm c.sid.val (s.sess c.sid.val).peer c.seq.toNat c.payload h := by
  obtain ⟨la, hs⟩ := s.sess_heard c.sid.val
  rw [State.host_of_reaches (op := opSessionConfirm) hr (by decide)]
  unfold State.command
  dsimp only
  rw [if_neg (by decide), hs]
  dsimp only
  rw [hh]
  rfl

end Sys2Proof.Machine
end

section
/-! PROOF. A command executes once, under a fresh sequence number. -/

namespace Sys2Proof.Machine

/-! ### Commands that are not executed (R43) -/

section
variable {s u : State} {sid la : Nat} (hs : u.sess sid = { s.sess sid with lastAuth := la })
  (hu : s.changesOnly u [.outs, .pins, .svb, .tst] busRegs [])
include hs hu

/-- A reply that is not cached leaves the sequence number, the reply cache and all but the bus as they were. -/
theorem State.sendReply_uncached (dst seq code : Nat) (dup : Bool) (r : Reply) :
    (u.sendReply sid dst seq code dup r).left sid dst (.reply seq code dup (s.sess sid).auth r) ∧
      ((u.sendReply sid dst seq code dup r).sess sid).h = (s.sess sid).h ∧
      ((u.sendReply sid dst seq code dup r).sess sid).cache = (s.sess sid).cache ∧
      s.changesOnly (u.sendReply sid dst seq code dup r) [.outs, .pins, .svb, .tst] busRegs [] := by
  have hleft := u.sendReply_left sid dst seq code dup r
  obtain ⟨out, hsess⟩ := u.sess_sendPkt sid dst (.reply seq code dup (u.sess sid).auth r) none sid
  rw [hs] at hleft
  refine ⟨hleft, ?_, ?_, State.changesOnly_trans hu
    (State.changesOnly_mono (u.sendReply_changesOnly sid dst seq code dup r) (by decide) (List.Subset.refl _) (by simp))⟩ <;>
  · rw [State.sendReply, hsess, hs]
end

section
variable (s : State) (sid : Nat)

theorem State.heard_changesBus : s.changesOnly (s.heard sid) [.outs, .pins, .svb, .tst] busRegs [] :=
  s.heard_changesOnly sid (by simp) (by decide)

theorem State.heard_duplicate_changesBus :
    s.changesOnly ((s.heard sid).satInc F.SYS_SVB_ERR_DUP) [.outs, .pins, .svb, .tst] busRegs [] :=
  State.changesOnly_trans (s.heard_changesBus sid) (State.satInc_changesOnly _ _ (.inl (by decide)))

/-- A repeat is counted once. -/
theorem State.heard_duplicate_count :
    ((s.heard sid).satInc F.SYS_SVB_ERR_DUP).fld F.SYS_SVB_ERR_DUP = min (s.fld F.SYS_SVB_ERR_DUP + 1) 255 := by
  have h : s.changesOnly (s.heard sid) [.svb] [R.SYS_SVB_STAT] [] := s.heard_changesOnly sid (by simp) (by simp)
  rw [State.fld_satInc_same _ _ (by decide), State.fld_of_changesOnly h _ (by decide)]
  rfl
end

/-- Settles O45: each clause is one case of the handling of a command by its sequence number. -/
theorem commandsExecuteOnceBySequenceNumber : Obligations.CommandsExecuteOnceBySequenceNumber := by
  refine ⟨?confirm, ?conflict, ?running, ?repeated, ?stale, ?busy, ?answered, ?later, ?entered⟩
  case confirm =>
    intro s t c h hr hh he
    obtain rfl := Host.Outcome.next.inj he
    obtain ⟨out, hs⟩ := (s.heard c.sid.val).sess_sessionConfirm c.sid.val (s.sess c.sid.val).peer c.seq.toNat c.payload h
    rw [State.host_sessionConfirm hr hh, hs]
    exact ⟨rfl, rfl, rfl⟩
  case conflict =>
    intro s t i c op f hi hr ho hc hopen he hf hcrc
    obtain rfl := Host.Outcome.next.inj ((exec_of_commandOf hi s).symm.trans he)
    obtain ⟨la, hs⟩ := s.sess_heard c.sid.val
    rw [State.host_of_open hr ho hc hopen, State.accept_conflict _ _ _ _ _ _ (by rw [hs]; exact hf) hcrc]
    exact State.sendReply_uncached hs (s.heard_changesBus _) _ _ _ _ _
  case running =>
    intro s t i c op f hi hr ho hc hopen he hf hcrc hnone
    obtain rfl := Host.Outcome.next.inj ((exec_of_commandOf hi s).symm.trans he)
    obtain ⟨la, hs⟩ := s.sess_heard c.sid.val
    rw [State.host_of_open hr ho hc hopen, State.accept_running _ _ _ _ _ _ (by rw [hs]; exact hf) hcrc hnone]
    refine ⟨s.heard_duplicate_count _, (State.setFld_outs _ _ _).trans (s.heard_outs _), ?_, ?_, ?_, s.heard_duplicate_changesBus _⟩ <;>
    · rw [State.sess_satInc, hs]
  case repeated =>
    intro s t i c op f r hi hr ho hc hopen he hf hcrc hsome
    obtain rfl := Host.Outcome.next.inj ((exec_of_commandOf hi s).symm.trans he)
    obtain ⟨la, hs⟩ := s.sess_heard c.sid.val
    rw [State.host_of_open hr ho hc hopen, State.accept_repeated _ _ _ _ _ _ (by rw [hs]; exact hf) hcrc hsome]
    refine ⟨?_, State.sendReply_uncached (u := (s.heard c.sid.val).satInc F.SYS_SVB_ERR_DUP) ((State.sess_satInc _ _ _).trans hs)
      (s.heard_duplicate_changesBus _) _ _ _ _ _⟩
    rw [← s.heard_duplicate_count c.sid.val]
    exact State.fld_of_changesOnly (State.sendPkt_changesPacket _ _ _ _) _ (by decide)
  case stale =>
    intro s t i c op hi hr ho hc hopen he hf hd
    obtain rfl := Host.Outcome.next.inj ((exec_of_commandOf hi s).symm.trans he)
    obtain ⟨la, hs⟩ := s.sess_heard c.sid.val
    rw [State.host_of_open hr ho hc hopen, State.accept_stale _ _ _ _ _ _ (by rw [hs]; exact hf) (by rw [hs]; exact hd)]
    exact State.sendReply_uncached hs (s.heard_changesBus _) _ _ _ _ _
  case busy =>
    intro s t i c op hi hr ho hc hopen he hf hd hd' hb
    obtain rfl := Host.Outcome.next.inj ((exec_of_commandOf hi s).symm.trans he)
    obtain ⟨la, hs⟩ := s.sess_heard c.sid.val
    rw [State.host_of_open hr ho hc hopen, State.accept_busy _ _ _ _ _ _ (by rw [hs]; exact hf) (by rw [hs]; exact hd)
      (by rw [hs]; exact hd') (by rw [hs]; exact hb)]
    exact State.sendReply_uncached hs (s.heard_changesBus _) _ _ _ _ _
  case answered =>
    intro s i c op u r hi _ _ _ _ ht hrun
    rw [exec_of_commandOf hi s, State.host_of_takes s c op ht, hrun]
  case later =>
    intro s i c op u hi _ _ _ _ ht hrun
    rw [exec_of_commandOf hi s, State.host_of_takes s c op ht, hrun]
  case entered =>
    intro s c op _
    obtain ⟨la, hs⟩ := s.sess_entered c op
    rw [hs]
    exact ⟨rfl, recorded_cache_length _ _ _ _ _, recorded_cache_new _ _ _ _ _, recorded_cache_seqs _ _ _ _ _⟩

end Sys2Proof.Machine
end

section
/-! SUPPORT. A command that is taken has its reply. -/

namespace Sys2Proof.Machine

/-! ### What it takes to be executed (R41, R43) -/

theorem State.takes_fresh {s : State} {c : Cmd} {op : Op} (h : s.takes c op = true) : (s.sess c.sid.val).fresh c.seq.toNat = true := by
  simp only [State.takes, Bool.and_eq_true] at h
  exact h.1.1.1.2

theorem State.takes_reaches {s : State} {c : Cmd} {op : Op} (h : s.takes c op = true) : s.reaches c op.code = true := by
  simp only [State.takes, Bool.and_eq_true] at h
  exact h.1.1.1.1.1.1

theorem Session.fresh_iff (ss : Session) (seq : Nat) : ss.fresh seq = true ↔
    ss.isOpen = true ∧ (∀ e ∈ ss.cache, e.seq ≠ seq) ∧ (∀ e ∈ ss.outst, e.seq ≠ seq) ∧ 0 < (seq + 65536 - ss.h) % 65536 ∧
      (seq + 65536 - ss.h) % 65536 < 32768 ∧ awaiting ss < 16 := by
  simp [Session.fresh, and_assoc]

/-- No command of the session but the one taken awaits its reply under this number, and that one has none. -/
theorem State.entered_unanswered {s : State} {c : Cmd} {op : Op} (h : s.takes c op = true) :
    ∀ e ∈ ((s.entered c op).sess c.sid.val).outst, e.seq = c.seq.toNat → e.reply = none := by
  obtain ⟨-, -, hout, -⟩ := (Session.fresh_iff _ _).mp (State.takes_fresh h)
  obtain ⟨la, hs⟩ := s.sess_entered c op
  rw [hs]
  intro e he hseq
  rcases List.mem_append.mp he with he | he
  · exact absurd hseq (hout e he)
  · rw [List.mem_singleton.mp he]

/-! ### Answers -/

theorem State.answered_of_sess {t u : State} {c : Cmd} {r : Reply} (h : u.sess c.sid.val = t.sess c.sid.val) (ht : t.answered c r) :
    u.answered c r := by
  unfold State.answered
  rw [h]
  exact ht

/-- The list of what is to follow replies touches no session. -/
theorem State.sess_posts (s : State) (l : List (Nat × Nat × Nat)) (sid : Nat) :
    State.sess { s with svb := { s.svb with posts := l } } sid = s.sess sid := by
  unfold State.sess
  dsimp only

theorem State.follow_answered {t : State} {c : Cmd} {op : Op} {r : Reply} (ht : t.answered c r) (hpost : (op.post c.sid.val t).answered c r) :
    (t.follow c.sid.val c.seq.toNat op).answered c r := by
  unfold State.follow
  split
  · exact State.answered_of_sess (t.sess_posts _ _) ht
  · exact hpost

/-- A command that is taken and whose opcode gives its reply at once is answered, unless what follows the reply takes that away. -/
theorem State.host_answered_of_post {s u : State} {c : Cmd} {op : Op} {r : Reply} (ht : s.takes c op = true)
    (hrun : op.run (s.entered c op) c.sid.val c.seq.toNat c.payload = (u, some r))
    (hcache : (u.sess c.sid.val).cache = ((s.entered c op).sess c.sid.val).cache)
    (hout : (u.sess c.sid.val).outst = ((s.entered c op).sess c.sid.val).outst)
    (hpost : ∀ v : State, v = u.finish c.sid.val c.seq.toNat op.code (s.engineFor op c.payload) r → v.answered c r →
      (op.post c.sid.val v).answered c r) : (s.host c op).answered c r := by
  have hfin : (u.finish c.sid.val c.seq.toNat op.code (s.engineFor op c.payload) r).answered c r :=
    u.finish_answered c _ _ _ (hcache ▸ s.entered_cached c op) (hout ▸ s.entered_awaits c op) (hout ▸ State.entered_unanswered ht)
  rw [State.host_of_takes s c op ht, hrun]
  exact State.follow_answered hfin (hpost _ rfl hfin)

/-- The same for an opcode after whose reply nothing follows. -/
theorem State.host_answered {s u : State} {c : Cmd} {op : Op} {r : Reply} (ht : s.takes c op = true) (hop : op.post = fun _ t => t)
    (hrun : op.run (s.entered c op) c.sid.val c.seq.toNat c.payload = (u, some r))
    (hcache : (u.sess c.sid.val).cache = ((s.entered c op).sess c.sid.val).cache)
    (hout : (u.sess c.sid.val).outst = ((s.entered c op).sess c.sid.val).outst) : (s.host c op).answered c r :=
  State.host_answered_of_post ht hrun hcache hout fun v _ hv => by rw [hop]; exact hv

/-- An opcode that leaves its session as it was answers what it gives. -/
theorem State.host_answered_of_sess {s u : State} {c : Cmd} {op : Op} {r : Reply} (ht : s.takes c op = true) (hop : op.post = fun _ t => t)
    (hrun : op.run (s.entered c op) c.sid.val c.seq.toNat c.payload = (u, some r))
    (hsess : u.sess c.sid.val = (s.entered c op).sess c.sid.val) : (s.host c op).answered c r :=
  State.host_answered ht hop hrun (by rw [hsess]) (by rw [hsess])

end Sys2Proof.Machine
end

section
/-! PROOF. SPI transactions, UDP datagrams and undefined opcodes. -/

namespace Sys2Proof.Machine

/-! ### Transactions (R35, R36) -/

section
variable {s : State} (hp : s.powered = true) (hn : s.pwr.resetHeld = false)
include hp hn

/-- A transaction while HS_RDY_N is high is a framing error. -/
theorem State.spi_of_busy (hr : s.svb.rdyHigh = true) (k : State → State) : s.spi k = s.spiFraming := by
  unfold State.spi
  rw [hp, hn, if_neg (by decide), if_pos hr]

/-- A transaction while the module is ready for it is taken, and HS_RDY_N goes high. -/
theorem State.spi_of_ready (hs : s.serving = true) (hr : s.svb.rdyHigh = false) (hu : s.transportUp 0 = true) (k : State → State) :
    s.spi k = (k s).spiBusy := by
  unfold State.spi
  rw [hp, hn, if_neg (by decide), hr, if_neg (by decide), hs, hu, if_neg (by decide)]
end

/-- The state of the transports shows in no register. -/
theorem State.fld_svb (s : State) (v : Svb) (f : Fld) : ({ s with svb := v } : State).fld f = s.fld f := rfl

theorem State.fld_spiBusy (s : State) (f : Fld) : s.spiBusy.fld f = s.fld f := rfl

theorem State.sess_spiBusy (s : State) (sid : Nat) : s.spiBusy.sess sid = s.sess sid := by
  unfold State.spiBusy State.sess
  dsimp only

theorem State.spiFraming_framing (s : State) : s.spiFraming.svb.framing = true := by rw [State.spiFraming, State.satInc, State.setFld_svb]

theorem State.spiFraming_count (s : State) : s.spiFraming.fld F.SYS_SVB_ERR_FRAMING = min (s.fld F.SYS_SVB_ERR_FRAMING + 1) 255 :=
  State.fld_satInc_same _ _ (by decide)

/-! ### Packets received (R33) -/

theorem State.ingest_of_not_one {b : List Byte} (h : onePacket b = false) (s : State) (udp : Bool) (src : Nat) :
    s.ingest udp src b = (false, s.satInc F.SYS_SVB_ERR_FRAMING) := by
  unfold State.ingest
  dsimp only
  rw [h]
  rfl

theorem State.ingest_of_wrong_crc {b : List Byte} (h : onePacket b = true)
    (hc : rdN b (b.length - 4) 4 ≠ crc32c ((b.drop 2).take (b.length - 6))) (s : State) (udp : Bool) (src : Nat) :
    s.ingest udp src b = (false, s.satInc F.SYS_SVB_ERR_CRC) := by
  unfold State.ingest
  dsimp only
  rw [h, Bool.not_true, if_neg (by decide), Nat.sub_sub, if_pos hc]

/-! ### The next packet (R38) -/

/-- The next packet is in the queue, and no packet before it is one cut short. -/
theorem State.nextOut_split {s : State} {p : OutPkt} (h : s.nextOut = some p) :
    ∃ before after, (s.sess 0).out = before ++ p :: after ∧ p ∉ before ∧ ∀ x ∈ before, x.cut = false := by
  unfold State.nextOut at h
  dsimp only at h
  cases hcut : (s.sess 0).out.find? (·.cut) with
  | some q =>
    rw [hcut, Option.orElse_some, Option.some.injEq] at h
    subst h
    obtain ⟨hq, before, after, hout, hb⟩ := List.find?_eq_some_iff_append.mp hcut
    have hb' : ∀ x ∈ before, x.cut = false := fun x hx => by simpa using hb x hx
    exact ⟨before, after, hout, fun hm => by simp [hb' q hm] at hq, hb'⟩
  | none =>
    rw [hcut, Option.orElse_none] at h
    have hmem : p ∈ (s.sess 0).out := by
      cases hclass : (s.sess 0).out.find? (OutPkt.isClass 0) with
      | some q =>
        rw [hclass, Option.orElse_some, Option.some.injEq] at h
        exact h ▸ List.mem_of_find?_eq_some hclass
      | none =>
        rw [hclass, Option.orElse_none] at h
        exact List.mem_of_mem_head? h
    obtain ⟨before, after, hout, hb⟩ := List.eq_append_cons_of_mem hmem
    refine ⟨before, after, hout, hb, fun x hx => ?_⟩
    simpa using List.find?_eq_none.mp hcut x (by rw [hout]; exact List.mem_append_left _ hx)

theorem State.nextOut_of_cut {t : State} {q : OutPkt} {before after : List OutPkt} (h : (t.sess 0).out = before ++ q :: after)
    (hq : q.cut = true) (hb : ∀ x ∈ before, x.cut = false) : t.nextOut = some q := by
  unfold State.nextOut
  dsimp only
  rw [List.find?_eq_some_iff_append.mpr ⟨hq, before, after, h, fun x hx => by simp [hb x hx]⟩, Option.orElse_some]

/-- A packet whose READ is cut short is the next one. -/
theorem State.nextOut_of_replace {s t : State} {p : OutPkt} (h : s.nextOut = some p)
    (ht : (t.sess 0).out = (s.sess 0).out.replace p { p with cut := true }) : t.nextOut = some { p with cut := true } := by
  obtain ⟨before, after, hout, hmem, hb⟩ := State.nextOut_split h
  rw [hout, List.replace_append, if_neg hmem, List.replace_cons_self] at ht
  exact State.nextOut_of_cut ht rfl hb

theorem take_padded {b : List Byte} {n : Nat} (h : b.length ≤ n) :
    (b ++ zeros (n - b.length)).take n = b ++ zeros (n - b.length) := by
  refine List.take_of_length_le ?_
  rw [List.length_append, zeros, List.length_replicate]
  omega

theorem take_cut {b : List Byte} {n : Nat} (h : n < b.length) : (b ++ zeros (n - b.length)).take n = b.take n :=
  List.take_append_of_le_length h.le

/-! ### Opcodes (R52) -/

theorem code_ne_of_undefined {code : Nat} (h : opOf code = none) : code ≠ 0x0101 ∧ code ≠ 0x0102 := by
  have h1 : (opOf 0x0101).isSome = true := by decide +kernel
  have h2 : (opOf 0x0102).isSome = true := by decide +kernel
  constructor <;>
  · rintro rfl
    simp [h] at *

/-- Settles O4: each clause is one branch of the handling of a transaction, of a datagram or of an opcode. -/
theorem spiAndUdpTransactionsComplete : Obligations.SpiAndUdpTransactionsComplete := by
  refine ⟨?status, ?overflow, ?framing, ?crc, ?taken, ?read, ?cut, ?empty, ?invalid, ?invalidBusy, ?valid, ?csBusy, ?ready, ?udpFraming,
    ?udpCrc, ?udp, ?badOpcode, ?badOpcodeOnly, ?listed⟩
  case status =>
    intro s hp hn hs hr hu
    refine ⟨_, rfl, ?_⟩
    rw [State.spi_of_ready hp hn hs hr hu]
    exact ⟨rfl, rfl, rfl, rfl⟩
  case overflow =>
    intro s b hp hn hs hr hu hlen
    refine ⟨_, rfl, ?_⟩
    rw [State.spi_of_ready hp hn hs hr hu, if_pos hlen]
    exact ⟨rfl, rfl, rfl⟩
  case framing =>
    intro s b hp hn hs hr hu hlen hone
    refine ⟨_, rfl, ?_⟩
    rw [State.spi_of_ready hp hn hs hr hu, if_neg (by omega), State.ingest_of_not_one hone]
    dsimp only
    rw [if_neg (by decide), State.fld_spiBusy, State.fld_svb]
    exact ⟨rfl, rfl, State.fld_satInc_same s _ (by decide)⟩
  case crc =>
    intro s b hp hn hs hr hu hlen hone hc
    refine ⟨_, rfl, ?_⟩
    rw [State.spi_of_ready hp hn hs hr hu, if_neg (by omega), State.ingest_of_wrong_crc hone hc]
    dsimp only
    rw [if_neg (by decide), State.fld_spiBusy, State.fld_svb]
    exact ⟨rfl, rfl, State.fld_satInc_same s _ (by decide)⟩
  case taken =>
    intro s b hp hn hs hr hu hlen htaken
    refine ⟨_, rfl, ?_⟩
    rw [State.spi_of_ready hp hn hs hr hu, if_neg (by omega)]
    exact congrArg State.spiBusy (if_pos htaken)
  case read =>
    intro s n p hp hn hs hr hu hnext hlen
    refine ⟨_, rfl, ?_⟩
    rw [State.spi_of_ready hp hn hs hr hu]
    dsimp only
    rw [hnext]
    dsimp only
    rw [if_pos hlen, take_padded hlen]
    refine ⟨?_, ?_, ?_, rfl⟩
    · exact State.syncOut_outs _
    · rw [State.sess_spiBusy, State.sess_kept, State.sess_syncOut, State.sess_setSess_same]
    · exact congrArg (fun v : Svb => v.kept.filter fun o => some o.tag != p.lane) (State.syncOut_svb _)
  case cut =>
    intro s n p hp hn hs hr hu hnext hlen
    refine ⟨_, rfl, ?_⟩
    rw [State.spi_of_ready hp hn hs hr hu]
    dsimp only
    rw [hnext]
    dsimp only
    rw [if_neg (by omega), take_cut hlen]
    have hout : ((((s.emit (.spi ((packOut 0 p).take n))).setSess 0
        { s.sess 0 with out := (s.sess 0).out.replace p { p with cut := true } }).spiBusy).sess 0).out
          = (s.sess 0).out.replace p { p with cut := true } := by
      rw [State.sess_spiBusy, State.sess_setSess_same]
    exact ⟨rfl, State.nextOut_of_replace hnext hout, hout, rfl, rfl⟩
  case empty =>
    intro s n hp hn hs hr hu hnext
    refine ⟨_, rfl, ?_⟩
    rw [State.spi_of_ready hp hn hs hr hu]
    dsimp only
    rw [hnext]
    exact ⟨rfl, rfl, rfl⟩
  case invalid =>
    intro s b hp hn hs hr hu hb
    refine ⟨_, rfl, ?_⟩
    rw [if_neg (by omega), State.spi_of_ready hp hn hs hr hu]
    exact ⟨s.spiFraming_framing, rfl, s.spiFraming_count⟩
  case invalidBusy =>
    intro s b hp hn hr hb
    refine ⟨_, rfl, ?_⟩
    rw [if_neg (by omega), State.spi_of_busy hp hn hr]
    exact ⟨s.spiFraming_framing, s.spiFraming_count⟩
  case valid =>
    intro s b h1 h3
    exact ⟨_, rfl, if_pos ⟨h1, h3⟩⟩
  case csBusy =>
    intro s hp hn hr
    refine ⟨_, rfl, ?_⟩
    rw [hp, hn, hr, if_pos (by decide)]
    exact ⟨s.spiFraming_framing, s.spiFraming_count⟩
  case ready =>
    intro s hs
    exact ⟨_, rfl, if_pos hs⟩
  case udpFraming =>
    intro s src b hs hu hone
    refine ⟨_, rfl, ?_⟩
    rw [hs, hu, if_pos (by decide), State.ingest_of_not_one hone]
    exact ⟨State.fld_satInc_same s _ (by decide), rfl⟩
  case udpCrc =>
    intro s src b hs hu hone hc
    refine ⟨_, rfl, ?_⟩
    rw [hs, hu, if_pos (by decide), State.ingest_of_wrong_crc hone hc]
    exact ⟨State.fld_satInc_same s _ (by decide), rfl⟩
  case udp =>
    intro s src b hs hu
    refine ⟨_, rfl, ?_⟩
    rw [hs, hu, if_pos (by decide)]
  case badOpcode =>
    intro s c code hnone ht
    refine ⟨_, rfl, ?_⟩
    rw [hnone]
    exact State.host_answered_of_sess ht rfl rfl rfl
  case badOpcodeOnly =>
    intro s c code hnone
    refine ⟨_, rfl, ?_⟩
    obtain ⟨ho, hc⟩ := code_ne_of_undefined hnone
    rw [hnone]
    exact s.host_bus_changesOnly c _ ho hc (fun _ => rfl) rfl (fun t _ _ _ => t.changesOnly_refl _ _ _) fun _ _ => rfl
  case listed =>
    intro s c code op hsome _
    refine ⟨_, rfl, ?_⟩
    rw [hsome, Option.getD_some]

end Sys2Proof.Machine
end

section
/-! SUPPORT. Events touch no session but its event count and its output queue: no reply is lost, and a closed session stays as it is. -/

namespace Sys2Proof.Machine

/-- From `s` to `t` events may have been raised: of a session only the count of its events and its output queue change, of a closed one
nothing, and no output and no reply is lost. -/
structure State.eventsOnly (s t : State) : Prop where
  sess : ∀ j, ∃ n d out, t.sess j = { s.sess j with evSeq := n, dropped := d, out := out }
  closed : ∀ j, (s.sess j).isOpen = false → t.sess j = s.sess j
  outs : s.outs ⊆ t.outs
  replies : ∀ p ∈ (s.sess 0).out, p.isEvent = false → p ∈ (t.sess 0).out

section
variable {s t u : State}

theorem State.eventsOnly_of_sess (hs : ∀ j, t.sess j = s.sess j) (ho : t.outs = s.outs) : s.eventsOnly t where
  sess j := ⟨(s.sess j).evSeq, (s.sess j).dropped, (s.sess j).out, hs j⟩
  closed j _ := hs j
  outs := ho ▸ List.Subset.refl _
  replies p hp _ := by rw [hs 0]; exact hp

theorem State.eventsOnly_refl (s : State) : s.eventsOnly s := State.eventsOnly_of_sess (fun _ => rfl) rfl

theorem State.eventsOnly.trans (h : s.eventsOnly t) (k : t.eventsOnly u) : s.eventsOnly u where
  sess j := by
    obtain ⟨n, d, out, hj⟩ := h.sess j
    obtain ⟨n', d', out', kj⟩ := k.sess j
    exact ⟨n', d', out', by rw [kj, hj]⟩
  closed j hj := by rw [k.closed j (by rw [h.closed j hj]; exact hj), h.closed j hj]
  outs := List.Subset.trans h.outs k.outs
  replies p hp he := k.replies p (h.replies p hp he) he

/-- A change of neither the sessions nor the outputs. -/
theorem State.eventsOnly_of_changesOnly {ps : List Part} {rs : List Nat} {bs : List Block} (h : s.changesOnly t ps rs bs)
    (hs : Part.svb ∉ ps) (ho : Part.outs ∉ ps) : s.eventsOnly t :=
  State.eventsOnly_of_sess (fun j => State.sess_of_svb (h.2.1 .svb hs) j) (h.2.1 .outs ho)

theorem State.eventsOnly_ite {c : Prop} [Decidable c] (ht : s.eventsOnly t) (hu : s.eventsOnly u) : s.eventsOnly (if c then t else u) := by
  split
  · exact ht
  · exact hu

theorem State.eventsOnly_foldl {α : Type} (f : State → α → State) (h : ∀ (s : State) a, s.eventsOnly (f s a)) (l : List α) (s : State) :
    s.eventsOnly (l.foldl f s) := by
  induction l generalizing s with
  | nil => exact s.eventsOnly_refl
  | cons a l ih => exact (h s a).trans (ih _)

/-- A reply that has left stays so. -/
theorem State.eventsOnly.left (h : s.eventsOnly t) {sid dst seq code : Nat} {dup tagged : Bool} {r : Reply}
    (hl : s.left sid dst (.reply seq code dup tagged r)) : t.left sid dst (.reply seq code dup tagged r) := by
  obtain ⟨p, hb, hp⟩ := hl
  refine ⟨p, hb, ?_⟩
  split
  · next h0 =>
    rw [if_pos h0] at hp
    exact h.replies p hp (by rw [OutPkt.isEvent, hb])
  · next h0 =>
    rw [if_neg h0] at hp
    exact h.outs hp

theorem State.eventsOnly.answered (h : s.eventsOnly t) {c : Cmd} {r : Reply} (ha : s.answered c r) : t.answered c r := by
  obtain ⟨n, d, out, hj⟩ := h.sess c.sid.val
  unfold State.answered
  rw [hj]
  exact ha
end

/-! ### Events (R56, R413) -/

section
variable (s : State) {sid : Nat} (hopen : (s.sess sid).isOpen = true)
include hopen

theorem State.setSess_eventsOnly (n d : Nat) {out : List OutPkt} (ho : ∀ p ∈ (s.sess sid).out, p.isEvent = false → p ∈ out) :
    s.eventsOnly (s.setSess sid { s.sess sid with evSeq := n, dropped := d, out := out }) where
  sess j := by
    by_cases hj : sid = j
    · subst hj
      exact ⟨n, d, out, State.sess_setSess_same _ _ _⟩
    · exact ⟨_, _, _, State.sess_setSess_other _ _ _ _ hj⟩
  closed j hj := State.sess_setSess_other _ _ _ _ fun e => by rw [e, hj] at hopen; exact absurd hopen (by decide)
  outs := List.Subset.refl _
  replies p hp he := by
    by_cases h0 : sid = 0
    · subst h0
      rw [State.sess_setSess_same]
      exact ho p hp he
    · rw [State.sess_setSess_other _ _ _ _ h0]
      exact hp

theorem State.sendPkt_eventsOnly (dst : Nat) (b : OutBody) (lane : Option LaneTag := none) : s.eventsOnly (s.sendPkt sid dst b lane) := by
  have hc : s.eventsOnly (s.corrupt 0).2 := State.eventsOnly_of_sess (s.sess_corrupt 0) (s.corrupt_outs 0)
  by_cases h0 : sid = 0
  · subst h0
    rw [State.sendPkt_spi, ← s.sess_corrupt 0 0]
    refine (hc.trans (State.setSess_eventsOnly _ ?_ _ _ ?_)).trans (State.eventsOnly_of_sess (State.sess_syncOut _) (State.syncOut_outs _))
    · rw [State.sess_corrupt]
      exact hopen
    · exact fun p hp _ => List.mem_append_left _ hp
  · rw [State.sendPkt_udp s h0]
    refine hc.trans ⟨fun j => ⟨_, _, _, State.sess_emit _ _ j⟩, fun j _ => State.sess_emit _ _ j, ?_, fun p hp _ => hp⟩
    rw [State.emit_outs]
    exact List.subset_append_left _ _
end

/-- An urgent event displaces an event packet. -/
theorem mem_eraseP_of_reply {l : List OutPkt} {c : Nat} {p : OutPkt} (hp : p ∈ l) (he : p.isEvent = false) :
    p ∈ l.eraseP (OutPkt.isClass c) := by
  refine (List.mem_eraseP_of_neg ?_).mpr hp
  unfold OutPkt.isClass
  unfold OutPkt.isEvent at he
  split at he <;> simp_all

section
variable (s : State)

theorem State.eventTo_eventsOnly (src time : Nat) (detail : List Byte) (sid : Nat) : s.eventsOnly (s.eventTo src time detail sid) := by
  have hsend : ∀ (ss : Session) dst b, ss.isOpen = true → s.eventsOnly (s.setSess sid ss) →
      s.eventsOnly ((s.setSess sid ss).sendPkt sid dst b) :=
    fun ss dst b ho h => h.trans (State.sendPkt_eventsOnly _ (by rw [State.sess_setSess_same]; exact ho) _ _)
  unfold State.eventTo
  dsimp only
  split
  · exact s.eventsOnly_refl
  · next hsub =>
    have hopen : (s.sess sid).isOpen = true := by
      by_contra hc
      exact hsub (by simp [hc])
    split
    · exact hsend _ _ _ hopen (s.setSess_eventsOnly hopen _ _ fun p hp _ => hp)
    · split
      · exact hsend _ _ _ hopen (s.setSess_eventsOnly hopen _ _ fun p hp he => mem_eraseP_of_reply hp he)
      · exact s.setSess_eventsOnly hopen _ _ fun p hp _ => hp

theorem State.raiseAt_eventsOnly (src time : Nat) (detail : List Byte) : s.eventsOnly (s.raiseAt src time detail) := by
  have hsvb : ((s.setPend src true).incFld F.EVT_CNT_RAISED).syncIrq.svb = s.svb := by
    rw [State.syncIrq_svb, State.incFld_svb, State.setPend_svb]
  have houts : ((s.setPend src true).incFld F.EVT_CNT_RAISED).syncIrq.outs = s.outs := by
    rw [State.syncIrq_outs, State.incFld_outs, State.setPend_outs]
  exact (State.eventsOnly_of_sess (State.sess_of_svb hsvb) houts).trans
    (State.eventsOnly_foldl _ (fun t sid => t.eventTo_eventsOnly src time (detail8 detail) sid) _ _)

theorem State.raise_eventsOnly (src : Nat) (detail : List Byte) : s.eventsOnly (s.raise src detail) := by
  have ho : ∀ cls content, s.eventsOnly (s.laneOut (evEngine src) cls content) := fun cls content =>
    State.eventsOnly_of_changesOnly (s.laneOut_changesOnly _ cls content (ps := [.lan]) (rs := []) (bs := []) (by simp)) (by decide) (by decide)
  unfold State.raise
  refine State.eventsOnly_ite (State.eventsOnly_ite ?_ (State.eventsOnly_ite ((ho _ _).trans (State.raiseAt_eventsOnly _ _ _ _))
    s.eventsOnly_refl)) (s.raiseAt_eventsOnly _ _ _)
  exact (ho _ _).trans (State.eventsOnly_of_changesOnly (State.lan_changesOnly _ _ (ps := [.lan]) (rs := []) (bs := []) (by simp))
    (by decide) (by decide))

/-! ### Tokens and the test block (R409, R510, R518) -/

theorem State.setTokenArb_eventsOnly (arb : Nat) (a : TokenArb) : s.eventsOnly (s.setTokenArb arb a) :=
  State.eventsOnly_of_changesOnly (s.setTokenArb_changesOnly arb a (ps := [.arb]) (bs := []) (by simp) (List.Subset.refl tokenRegs))
    (by decide) (by decide)

theorem State.setFld_eventsOnly (f : Fld) (v : Nat) : s.eventsOnly (s.setFld f v) :=
  State.eventsOnly_of_sess (fun _ => rfl) rfl

theorem State.tokenGranted_eventsOnly (arb : Nat) (taken : Option Nat) (owner : Nat) : s.eventsOnly (s.tokenGranted arb taken owner) := by
  unfold State.tokenGranted
  extract_lets cnt t
  have ht : s.eventsOnly t := s.setFld_eventsOnly _ _
  split
  · exact ht
  · extract_lets n u
    have hu : s.eventsOnly u := (ht.trans (State.setFld_eventsOnly _ _ _)).trans (State.setTokenArb_eventsOnly _ _ _)
    exact State.eventsOnly_ite (hu.trans (State.raise_eventsOnly _ _ _)) hu

theorem State.tokenRound_eventsOnly (arb : Nat) : s.eventsOnly (s.tokenRound arb) := by
  unfold State.tokenRound
  dsimp only
  split
  · exact State.eventsOnly_ite (s.setTokenArb_eventsOnly _ _) ((s.setTokenArb_eventsOnly _ _).trans (State.tokenGranted_eventsOnly _ _ _ _))
  · exact s.setTokenArb_eventsOnly _ _

theorem State.tokenFree_eventsOnly (arb : Nat) : s.eventsOnly (s.tokenFree arb) :=
  State.eventsOnly_ite (s.setTokenArb_eventsOnly _ _) ((s.setTokenArb_eventsOnly _ _).trans (State.tokenRound_eventsOnly _ _))

theorem State.tokenSync_eventsOnly (arb : Nat) : s.eventsOnly (s.tokenSync arb) := by
  unfold State.tokenSync
  split
  · exact State.eventsOnly_ite (s.tokenFree_eventsOnly _) s.eventsOnly_refl
  · exact s.eventsOnly_refl

theorem State.endStretch_eventsOnly : s.eventsOnly s.endStretch :=
  State.eventsOnly_foldl _ (fun t arb => State.eventsOnly_ite (t.tokenFree_eventsOnly arb) t.eventsOnly_refl) _ _

theorem State.tstLock_eventsOnly (cause : Nat) : s.eventsOnly (s.tstLock cause) := by
  unfold State.tstLock
  refine State.eventsOnly_ite s.eventsOnly_refl ?_
  have hreset : ∀ as, ({ s with tst := {} } : State).eventsOnly (State.resetRegs { s with tst := {} } as) := fun as =>
    State.eventsOnly_of_changesOnly (State.resetRegs_changesOnly (ps := []) (rs := as) (bs := []) _ as (List.Subset.refl _)) (by simp) (by simp)
  have hforced : ∀ (t : State) q, t.eventsOnly (t.endForced q) := fun t q =>
    State.eventsOnly_of_changesOnly (t.endForced_changesOnly (ps := [.que, .tst]) (rs := R.TST_ERR :: R.TST_STAT :: queRegs) (bs := [])
      (List.Subset.refl _) (List.Subset.refl _) q) (by decide) (by decide)
  have htst : s.eventsOnly { s with tst := {} } :=
    State.eventsOnly_of_changesOnly (s.tst_changesOnly {} (ps := [.tst]) (rs := []) (bs := []) (by simp)) (by decide) (by decide)
  exact (htst.trans (((hreset _).trans (hforced _ _)).trans (State.endStretch_eventsOnly _))).trans (State.raise_eventsOnly _ _ _)

/-! ### The end of a session (R42) -/

/-- What is left of a session that has ended: a pending handshake, its replies that have not left, and the address of its host. -/
def Session.ended (ss : Session) : Session := { hs := ss.hs, out := ss.out.filter fun p => !p.isEvent, peer := ss.peer }

theorem State.sessionGone_eventsOnly (sid : Nat) : (s.setSess sid (s.sess sid).ended).eventsOnly (s.sessionGone sid) := by
  unfold State.sessionGone
  extract_lets ss gone t u
  have ht : (s.setSess sid gone).eventsOnly t := State.eventsOnly_of_sess (State.sess_syncOut _) (State.syncOut_outs _)
  have hu : (s.setSess sid gone).eventsOnly u := State.eventsOnly_ite (ht.trans (State.setFld_eventsOnly _ _ _)) ht
  exact State.eventsOnly_ite (hu.trans (State.tstLock_eventsOnly _ _)) hu

/-- A session that ends is closed, with no cache and no mask. -/
theorem State.sess_sessionGone (sid : Nat) : (s.sessionGone sid).sess sid = (s.sess sid).ended := by
  rw [(s.sessionGone_eventsOnly sid).closed sid (by rw [State.sess_setSess_same]; rfl), State.sess_setSess_same]

theorem State.setSess_ended_left {sid dst seq code : Nat} {dup tagged : Bool} {r : Reply} {j : Nat}
    (hl : s.left sid dst (.reply seq code dup tagged r)) : (s.setSess j (s.sess j).ended).left sid dst (.reply seq code dup tagged r) := by
  obtain ⟨p, hb, hp⟩ := hl
  refine ⟨p, hb, ?_⟩
  by_cases h0 : sid = 0
  · rw [if_pos h0] at hp ⊢
    by_cases hj : j = 0
    · subst hj
      rw [State.sess_setSess_same]
      exact List.mem_filter.mpr ⟨hp, by rw [OutPkt.isEvent, hb]; rfl⟩
    · rw [State.sess_setSess_other _ _ _ _ hj]
      exact hp
  · rw [if_neg h0] at hp ⊢
    exact hp

/-- A reply that has left a session stays so when a session ends. -/
theorem State.sessionGone_left {sid dst seq code : Nat} {dup tagged : Bool} {r : Reply} {j : Nat}
    (hl : s.left sid dst (.reply seq code dup tagged r)) : (s.sessionGone j).left sid dst (.reply seq code dup tagged r) :=
  (s.sessionGone_eventsOnly j).left (s.setSess_ended_left hl)

end

end Sys2Proof.Machine
end

section
/-! SUPPORT. Which replies leave when one becomes ready, and the pending bits of the event sources. -/

namespace Sys2Proof.Machine

/-! ### Replies in their order (R46) -/

/-- A reply of the list holds up those behind it. -/
def Outst.blocks (e : Outst) : Bool := !e.fast && (e.reply.isNone || e.held)

theorem Outst.blocks_eq (e : Outst) : e.blocks = !(e.fast || (e.reply.isSome && !e.held)) := by
  unfold Outst.blocks
  cases e.fast <;> cases e.reply <;> simp

/-- The last reply leaves when it is ready and no reply before it blocks it. -/
theorem readyReplies_concat_go {l : List Outst} {e : Outst} (hl : ∀ a ∈ l, a.blocks = false) (he : e.reply.isSome = true) (hh : e.held = false) :
    readyReplies false (l ++ [e]) = ((readyReplies false l).1 ++ [e], (readyReplies false l).2) := by
  induction l with
  | nil => simp [readyReplies, he, hh]
  | cons a l ih =>
    have ha : a.blocks = false := hl a (by simp)
    have ih' := ih fun x hx => hl x (by simp [hx])
    rw [List.cons_append]
    simp only [readyReplies]
    by_cases hf : a.fast = true
    · simp only [hf, Bool.or_false, Bool.not_true, ih']
      split <;> rfl
    · have hready : (a.reply.isSome && !a.held) = true := by
        rw [Outst.blocks_eq, Bool.not_eq_false', Bool.or_eq_true] at ha
        exact ha.resolve_left hf
      simp only [hready, Bool.not_false, Bool.or_true, Bool.and_true, if_true, ih']
      rfl

/-- A reply of path H or L stays behind one that blocks it. -/
theorem readyReplies_concat_stay {l : List Outst} {e : Outst} {b : Bool} (hb : b = true ∨ ∃ a ∈ l, a.blocks = true) (he : e.fast = false) :
    e ∈ (readyReplies b (l ++ [e])).2 := by
  induction l generalizing b with
  | nil =>
    rcases hb with rfl | ⟨a, ha, -⟩
    · simp [readyReplies, he]
    · simp at ha
  | cons a l ih =>
    rw [List.cons_append]
    unfold readyReplies
    split
    · next hgo =>
      refine ih ?_
      rcases hb with rfl | ⟨x, hx, hxb⟩
      · exact .inl rfl
      · rcases List.mem_cons.mp hx with rfl | hx
        · rw [Outst.blocks] at hxb
          cases hr : x.reply <;> cases hd : x.held <;> simp_all
        · exact .inr ⟨x, hx, hxb⟩
    · refine List.mem_cons_of_mem _ (ih ?_)
      rcases hb with rfl | ⟨x, hx, hxb⟩
      · exact .inl (by simp)
      · rcases List.mem_cons.mp hx with rfl | hx
        · rw [Outst.blocks, Bool.and_eq_true] at hxb
          exact .inl (by simp_all)
        · exact .inr ⟨x, hx, hxb⟩

/-- A reply that leaves is a packet to the source of its command. -/
theorem State.replyOut_left (s : State) (sid : Nat) {e : Outst} {r : Reply} (h : e.reply = some r) :
    (s.replyOut sid e).left sid e.src (.reply e.seq e.opcode false (s.sess sid).auth r) := by
  unfold State.replyOut
  rw [h]
  dsimp only
  generalize hcache : (s.sess sid).cache.map _ = cache
  have hl := (s.setSess sid { s.sess sid with cache := cache }).sendReply_left sid e.src e.seq e.opcode false r e.tag
  rw [State.sess_setSess_same] at hl
  split
  · exact hl
  · next h0 =>
    obtain ⟨p, hb, hp⟩ := hl
    rw [if_neg h0] at hp
    exact ⟨p, hb, by rw [if_neg h0]; exact hp⟩

/-- The last of the replies that leave has left. -/
theorem State.flushReplies_left {s : State} {sid : Nat} {go stay : List Outst} {e : Outst} {r : Reply}
    (h : readyReplies false (s.sess sid).outst = (go ++ [e], stay)) (he : e.reply = some r) :
    (s.flushReplies sid).left sid e.src (.reply e.seq e.opcode false (s.sess sid).auth r) := by
  unfold State.flushReplies
  dsimp only
  rw [h]
  dsimp only
  rw [List.foldl_append]
  obtain ⟨out, hs⟩ := State.replies_sess sid go (s.setSess sid { s.sess sid with outst := stay })
  rw [State.sess_setSess_same] at hs
  have hl := (go.foldl (fun t e => t.replyOut sid e) (s.setSess sid { s.sess sid with outst := stay })).replyOut_left sid he
  rw [hs] at hl
  exact (State.eventsOnly_of_sess (State.sess_of_svb (State.syncHeld_svb _)) (State.syncHeld_outs _)).left hl

/-! ### What is to follow replies -/

theorem State.setSess_posts (s : State) (sid : Nat) (ss : Session) : (s.setSess sid ss).svb.posts = s.svb.posts := rfl

theorem State.sendPkt_posts (s : State) (sid dst : Nat) (b : OutBody) (lane : Option LaneTag) :
    (s.sendPkt sid dst b lane).svb.posts = s.svb.posts := by
  by_cases h0 : sid = 0
  · subst h0
    rw [State.sendPkt_spi, State.syncOut_svb, State.setSess_posts, State.corrupt_svb]
  · rw [State.sendPkt_udp s h0, State.emit_svb, State.corrupt_svb]

theorem State.replyOut_posts (s : State) (sid : Nat) (e : Outst) : (s.replyOut sid e).svb.posts = s.svb.posts := by
  unfold State.replyOut
  split
  · rfl
  · dsimp only
    split <;> exact State.sendPkt_posts _ _ _ _ _

theorem State.flushReplies_posts (s : State) (sid : Nat) : (s.flushReplies sid).svb.posts = s.svb.posts := by
  have hfold : ∀ (l : List Outst) (t : State), (l.foldl (fun t e => t.replyOut sid e) t).svb.posts = t.svb.posts := by
    intro l
    induction l with
    | nil => exact fun _ => rfl
    | cons e l ih => exact fun t => (ih _).trans (t.replyOut_posts sid e)
  unfold State.flushReplies
  dsimp only
  rw [State.syncHeld_svb, hfold]
  rfl

theorem State.answer_posts (s : State) (sid seq : Nat) (tag : Option LaneTag) (r : Reply) : (s.answer sid seq tag r).svb.posts = s.svb.posts := by
  rw [State.answer_eq, State.flushReplies_posts]
  rfl

theorem State.entered_posts (s : State) (c : Cmd) (op : Op) : (s.entered c op).svb.posts = s.svb.posts := by
  unfold State.entered
  dsimp only
  split <;> split <;> rfl

/-! ### Pending bits (R413, R414) -/

theorem testBit_withBit_other (v i j : Nat) (b : Bool) (h : i ≠ j) : (withBit v i b).testBit j = v.testBit j := by
  unfold withBit
  split
  · rfl
  · rw [Nat.testBit_xor, Nat.testBit_two_pow, decide_eq_false h, Bool.xor_false]

theorem testBit_withBit_same (v i : Nat) (b : Bool) : (withBit v i b).testBit i = b := by
  unfold withBit
  split
  · assumption
  · next h =>
    rw [Nat.testBit_xor, Nat.testBit_two_pow_self, Bool.xor_true]
    cases hv : v.testBit i <;> cases b <;> simp_all

/-- The first 32 pending bits stand in EVT_PEND0. -/
theorem State.bit_pend (s : State) {i : Nat} (h : i < 32) : bit s.pend i = (s.reg R.EVT_PEND0).toNat.testBit i := by
  have e : s.pend = 2 ^ 32 * ((s.reg R.EVT_PEND1).toNat + 2 ^ 32 * (s.reg R.EVT_PEND2).toNat) + (s.reg R.EVT_PEND0).toNat := by
    unfold State.pend
    ring
  rw [bit, e, Nat.testBit_two_pow_mul_add _ (s.reg R.EVT_PEND0).isLt, if_pos h]

theorem State.bit_pend_of_reg {s t : State} (h : t.reg R.EVT_PEND0 = s.reg R.EVT_PEND0) {i : Nat} (hi : i < 32) : bit t.pend i = bit s.pend i := by
  rw [State.bit_pend _ hi, State.bit_pend _ hi, h]

theorem State.bit_pend_setPend (s : State) {src i : Nat} (b : Bool) (hs : src < 32) (hi : i < 32) :
    bit (s.setPend src b).pend i = if src = i then b else bit s.pend i := by
  have hreg : (s.setPend src b).reg R.EVT_PEND0 = BitVec.ofNat 32 (withBit (s.reg R.EVT_PEND0).toNat (src % 32) b) := by
    unfold State.setPend
    rw [show src / 32 = 0 by omega]
    exact State.reg_setReg_same _ _ _
  rw [State.bit_pend _ hi, State.bit_pend _ hi, hreg, BitVec.toNat_ofNat, Nat.testBit_mod_two_pow, decide_eq_true hi, Bool.true_and,
    Nat.mod_eq_of_lt hs]
  split
  · next h => rw [h, testBit_withBit_same]
  · next h => exact testBit_withBit_other _ _ _ _ h

theorem State.incRaised_pend0 (s : State) : (s.incFld F.EVT_CNT_RAISED).reg R.EVT_PEND0 = s.reg R.EVT_PEND0 :=
  State.reg_setFld_other _ _ _ _ (by decide)

section
variable {i : Nat} (hi : i < 32)
include hi

theorem State.setSess_pend (s : State) (sid : Nat) (ss : Session) : bit (s.setSess sid ss).pend i = bit s.pend i :=
  State.bit_pend_of_reg ((s.setSess_changesSessions sid ss (ps := [.svb]) (rs := [R.SYS_SVB_STAT]) (bs := []) (by simp) (by simp)).2.2 _
    (by decide) (by simp)) hi

theorem State.corrupt_pend (s : State) (target : Nat) : bit (s.corrupt target).2.pend i = bit s.pend i := by
  refine State.bit_pend_of_reg ?_ hi
  unfold State.corrupt
  split
  · rfl
  · dsimp only
    split
    · exact (State.reg_setFld_other _ _ _ _ (by decide)).trans (State.reg_setFld_other _ _ _ _ (by decide))
    · rfl

end

section
variable {i : Nat} (hi : i < 32) (hout : Ev.sysSvbOut ≠ i)
include hi hout

/-- A packet sent changes no pending bit but that of EV_SYS_SVB_OUT. -/
theorem State.syncOut_pend (s : State) : bit s.syncOut.pend i = bit s.pend i := by
  have hp : ∀ b, bit (s.setPend Ev.sysSvbOut b).pend i = bit s.pend i := fun b => by
    rw [State.bit_pend_setPend _ _ (by decide) hi, if_neg hout]
  unfold State.syncOut
  dsimp only
  split
  · rfl
  · rw [State.pend_syncIrq]
    split
    · rw [State.bit_pend_of_reg (State.incRaised_pend0 _) hi, hp]
    · exact hp _

theorem State.sendPkt_pend (s : State) (sid dst : Nat) (b : OutBody) (lane : Option LaneTag := none) :
    bit (s.sendPkt sid dst b lane).pend i = bit s.pend i := by
  by_cases h0 : sid = 0
  · subst h0
    rw [State.sendPkt_spi, State.syncOut_pend hi hout, State.setSess_pend hi, State.corrupt_pend hi]
  · rw [State.sendPkt_udp s h0]
    exact State.corrupt_pend hi s 0

theorem State.eventTo_pend (s : State) (src time : Nat) (detail : List Byte) (sid : Nat) :
    bit (s.eventTo src time detail sid).pend i = bit s.pend i := by
  unfold State.eventTo
  dsimp only
  split
  · rfl
  · split
    · rw [State.sendPkt_pend hi hout, State.setSess_pend hi]
    · split
      · rw [State.sendPkt_pend hi hout, State.setSess_pend hi]
      · exact State.setSess_pend hi _ _ _

/-- An event of the hub leaves its pending bit set. -/
theorem State.raise_pend (s : State) (detail : List Byte) (hl : Ev.ofLane i = false) : bit (s.raise i detail).pend i = true := by
  have hfold : ∀ (l : List Nat) (t : State), bit (l.foldl (fun t sid => t.eventTo i s.now (detail8 detail) sid) t).pend i = bit t.pend i := by
    intro l
    induction l with
    | nil => exact fun _ => rfl
    | cons sid l ih => exact fun t => (ih _).trans (State.eventTo_pend hi hout _ _ _ _ _)
  unfold State.raise
  rw [hl, if_neg (by decide)]
  refine (hfold _ _).trans ?_
  rw [State.pend_syncIrq, State.bit_pend_of_reg (State.incRaised_pend0 _) hi,
    State.bit_pend_setPend _ _ hi hi, if_pos rfl]
end

end Sys2Proof.Machine
end

section
/-! PROOF. The session commands and the session timeouts. -/

namespace Sys2Proof.Machine

/-! ### Following a reply -/

/-- What follows a command whose reply still waits is noted, and follows later. -/
theorem State.follow_of_waiting {s : State} {sid seq : Nat} {op : Op} (h : ∃ e ∈ (s.sess sid).outst, e.seq = seq) :
    s.follow sid seq op = { s with svb := { s.svb with posts := s.svb.posts ++ [(sid, seq, op.code)] } } := by
  obtain ⟨e, he, hs⟩ := h
  exact if_pos (List.any_eq_true.mpr ⟨e, he, by simpa using hs⟩)

/-- What follows a command whose reply has left follows at once. -/
theorem State.follow_of_sent {s : State} {sid seq : Nat} {op : Op} (h : ∀ e ∈ (s.sess sid).outst, e.seq ≠ seq) :
    s.follow sid seq op = op.post sid s := by
  refine if_neg fun ha => ?_
  obtain ⟨e, he, hs⟩ := List.any_eq_true.mp ha
  exact h e he (by simpa using hs)

/-- An opcode after whose reply nothing follows leaves its sessions as its reply does. -/
theorem State.sess_follow_of_no_post (s : State) (sid seq j : Nat) {op : Op} (hop : op.post = fun _ t => t) :
    (s.follow sid seq op).sess j = s.sess j := by
  unfold State.follow
  split
  · exact s.sess_posts _ _
  · rw [hop]

/-! ### SESSION_CLOSE (R42) -/

section
variable (s : State) (c : Cmd)

/-- The session of a SESSION_CLOSE, the command recorded and marked as closing. -/
def State.closing (s : State) (c : Cmd) : State :=
  (s.entered c opSessionClose).setSess c.sid.val { (s.entered c opSessionClose).sess c.sid.val with closing := true }

/-- The SESSION_CLOSE that has its reply. -/
def State.closeReply (s : State) (c : Cmd) : Outst :=
  { seq := c.seq.toNat, opcode := 0x0103, src := (s.sess c.sid.val).peer, reply := some ⟨St.ok, []⟩ }

variable {s c} (ht : s.takes c opSessionClose = true)
include ht

theorem State.host_sessionClose (hp : c.payload = []) : s.host c opSessionClose
    = ((s.closing c).answer c.sid.val c.seq.toNat none ⟨St.ok, []⟩).follow c.sid.val c.seq.toNat opSessionClose := by
  rw [State.host_of_takes s c _ ht]
  have hrun : opSessionClose.run (s.entered c opSessionClose) c.sid.val c.seq.toNat c.payload = (s.closing c, some ⟨St.ok, []⟩) :=
    if_pos (by rw [hp]; rfl)
  rw [hrun]
  rfl

/-- The reply of the SESSION_CLOSE stands last among those that wait. -/
theorem State.closing_outst : ((s.closing c).sess c.sid.val).outst.map ((s.closing c).replied c.seq.toNat none ⟨St.ok, []⟩)
    = (s.sess c.sid.val).outst ++ [s.closeReply c] := by
  obtain ⟨-, -, hout, -⟩ := (Session.fresh_iff _ _).mp (State.takes_fresh ht)
  obtain ⟨la, hs⟩ := s.sess_entered c opSessionClose
  have hold : ∀ e ∈ (s.sess c.sid.val).outst, (s.closing c).replied c.seq.toNat none ⟨St.ok, []⟩ e = e := fun e he =>
    if_neg fun h => hout e he h.1
  have hsess : ((s.closing c).sess c.sid.val).outst = (s.sess c.sid.val).outst
      ++ [{ seq := c.seq.toNat, opcode := 0x0103, src := (s.sess c.sid.val).peer }] := by
    rw [State.closing, State.sess_setSess_same, hs]
    rfl
  rw [hsess, List.map_append, List.map_congr_left hold, List.map_id']
  simp [State.replied, State.closeReply]

/-- The session after the reply is ready. -/
theorem State.closing_answered_sess : ∃ la out, ((s.closing c).answer c.sid.val c.seq.toNat none ⟨St.ok, []⟩).sess c.sid.val
    = ({ recorded { s.sess c.sid.val with lastAuth := la } c.seq.toNat (s.sess c.sid.val).peer opSessionClose c.payload with
        closing := true, outst := (s.sess c.sid.val).outst ++ [s.closeReply c] } : Session).flushed out := by
  obtain ⟨la, hs⟩ := s.sess_entered c opSessionClose
  obtain ⟨out, ha⟩ := (s.closing c).sess_answer c.sid.val c.seq.toNat none ⟨St.ok, []⟩
  refine ⟨la, out, ?_⟩
  rw [ha, State.closing_outst ht, State.closing, State.sess_setSess_same, hs]

/-- While no earlier reply is awaited the reply leaves and the session closes. -/
theorem State.sessionClose_closes (hp : c.payload = []) (h : ∀ e ∈ (s.sess c.sid.val).outst, e.blocks = false) :
    ((s.host c opSessionClose).sess c.sid.val).isOpen = false ∧ ((s.host c opSessionClose).sess c.sid.val).cache = [] ∧
      ((s.host c opSessionClose).sess c.sid.val).mask = 0 ∧
      (s.host c opSessionClose).left c.sid.val (s.sess c.sid.val).peer
        (.reply c.seq.toNat 0x0103 false (s.sess c.sid.val).auth ⟨0, []⟩) := by
  obtain ⟨-, -, hout, -⟩ := (Session.fresh_iff _ _).mp (State.takes_fresh ht)
  have hgo := readyReplies_concat_go (e := s.closeReply c) h rfl rfl
  obtain ⟨la, out, hs⟩ := State.closing_answered_sess ht
  have hleft : ((s.closing c).answer c.sid.val c.seq.toNat none ⟨St.ok, []⟩).left c.sid.val (s.sess c.sid.val).peer
      (.reply c.seq.toNat 0x0103 false (s.sess c.sid.val).auth ⟨0, []⟩) := by
    obtain ⟨la', hs'⟩ := s.sess_entered c opSessionClose
    have hauth : ((s.closing c).sess c.sid.val).auth = (s.sess c.sid.val).auth := by
      rw [State.closing, State.sess_setSess_same, hs']
      rfl
    rw [State.answer_eq, State.closing_outst ht]
    have hl := State.flushReplies_left (s := (s.closing c).setSess c.sid.val
      { (s.closing c).sess c.sid.val with outst := (s.sess c.sid.val).outst ++ [s.closeReply c] }) (sid := c.sid.val)
      (by rw [State.sess_setSess_same]; exact hgo) rfl
    rw [State.sess_setSess_same] at hl
    rw [← hauth]
    exact hl
  rw [State.host_sessionClose ht hp]
  generalize (s.closing c).answer c.sid.val c.seq.toNat none ⟨St.ok, []⟩ = t at hs hleft ⊢
  have hsent : ∀ e ∈ (t.sess c.sid.val).outst, e.seq ≠ c.seq.toNat := by
    rw [hs, Session.flushed, hgo]
    exact fun e he => hout e ((mem_readyReplies false _ e).mpr (.inr he))
  have hclose : State.closeDue c.sid.val t = t.sessionGone c.sid.val := if_pos (by rw [hs]; rfl)
  rw [State.follow_of_sent hsent]
  have hpost : opSessionClose.post c.sid.val t = t.sessionGone c.sid.val := hclose
  rw [hpost, State.sess_sessionGone]
  exact ⟨rfl, rfl, rfl, t.sessionGone_left hleft⟩

/-- While an earlier reply is awaited the reply waits, and the session stays open until it has left. -/
theorem State.sessionClose_waits (hp : c.payload = []) (h : ∃ e ∈ (s.sess c.sid.val).outst, e.blocks = true) :
    (s.host c opSessionClose).ok c [] ∧ ((s.host c opSessionClose).sess c.sid.val).isOpen = true ∧
      ((s.host c opSessionClose).sess c.sid.val).closing = true ∧
      (s.host c opSessionClose).svb.posts = s.svb.posts ++ [(c.sid.val, c.seq.toNat, 0x0103)] := by
  obtain ⟨hopen, -⟩ := (Session.fresh_iff _ _).mp (State.takes_fresh ht)
  have hstay : s.closeReply c ∈ (readyReplies false ((s.sess c.sid.val).outst ++ [s.closeReply c])).2 :=
    readyReplies_concat_stay (.inr h) rfl
  obtain ⟨la, out, hs⟩ := State.closing_answered_sess ht
  have hposts : ((s.closing c).answer c.sid.val c.seq.toNat none ⟨St.ok, []⟩).svb.posts = s.svb.posts := by
    rw [State.answer_posts, State.closing, State.setSess_posts, State.entered_posts]
  rw [State.host_sessionClose ht hp]
  generalize (s.closing c).answer c.sid.val c.seq.toNat none ⟨St.ok, []⟩ = t at hs hposts ⊢
  have hwait : s.closeReply c ∈ (t.sess c.sid.val).outst := by
    rw [hs]
    exact hstay
  rw [State.follow_of_waiting (seq := c.seq.toNat) ⟨_, hwait, rfl⟩, hposts]
  refine ⟨State.answered_of_sess (t.sess_posts _ _) (.inr ⟨_, hwait, rfl, rfl⟩), ?_, ?_, rfl⟩
  · rw [State.sess_posts, hs]
    exact hopen
  · rw [State.sess_posts, hs]
    rfl
end

/-! ### SESSION_OPEN (R42) -/

/-- A SESSION_OPEN that reaches a module not in recovery. -/
theorem State.host_sessionOpen {s : State} {c : Cmd} (hr : s.reaches c 0x0101 = true) (hrec : s.upd.recovery = false) :
    s.host c opSessionOpen = s.sessionOpen c.sid.val (s.sess c.sid.val).peer c.seq.toNat c.payload := by
  have hcode : (opSessionOpen.code != 0x0101) = false := rfl
  rw [State.host_eq_command (op := opSessionOpen) hr, hcode, Bool.and_false, if_neg (by decide)]
  unfold State.command
  dsimp only
  refine (if_pos rfl).trans ?_
  rw [hrec, if_neg (by decide)]

/-- A SESSION_OPEN with a SESSION slot of sufficient level. -/
theorem State.sessionOpen_of_slot {s : State} {sid src seq key : Nat} {p : List Byte} (hlen : p.length = 10) (hslot : rdN p 0 1 ≤ 63)
    (hlevel : rdN p 1 1 ≤ 2) (huse : s.slotUsage (rdN p 0 1) = usageSESSION) (hle : rdN p 1 1 ≤ s.fld (F.SEC_SLOT_LEVEL (rdN p 0 1)))
    (hkey : key = keyOf (kdf (Tbl.get 0 s.sec.keys (rdN p 0 1)) sessionLabel (le 1 sid ++ le 8 (rdN p 2 8) ++ le 8 (s.random 64)) 1)) :
    s.sessionOpen sid src seq p = ((s.drew 1).setSess sid { s.sess sid with
        hs := some ⟨rdN p 0 1, rdN p 1 1, rdN p 2 8, s.random 64, key, s.el⟩ }).sendPkt sid src (.reply seq 0x0101 false false
          ⟨St.ok, le 8 (s.random 64) ++ cmac64 key (openLabel ++ le 8 (rdN p 2 8) ++ le 8 (s.random 64))⟩) := by
  have hlen' : ¬ p.length ≠ 10 := not_not_intro hlen
  have hrange : ¬ (63 < rdN p 0 1 ∨ 2 < rdN p 1 1) := not_or.mpr ⟨hslot.not_gt, hlevel.not_gt⟩
  have huse' : ¬ (s.slotUsage (rdN p 0 1) ≠ usageSESSION ∨ s.fld (F.SEC_SLOT_LEVEL (rdN p 0 1)) < rdN p 1 1) :=
    not_or.mpr ⟨not_not_intro huse, hle.not_gt⟩
  unfold State.sessionOpen
  extract_lets say slot level mn hn key' ss t proof
  rw [if_neg hlen', if_neg hrange, if_neg huse', hkey]

/-- The handshake that a SESSION_OPEN leaves pending takes one draw, and the reply leaves. -/
theorem State.pendingHandshake_sends (s : State) (sid src : Nat) (h : Handshake) (b : OutBody) :
    ((((s.drew 1).setSess sid { s.sess sid with hs := some h }).sendPkt sid src b).sess sid).hs = some h ∧
      (((s.drew 1).setSess sid { s.sess sid with hs := some h }).sendPkt sid src b).free = s.free + 1 ∧
      ((((s.drew 1).setSess sid { s.sess sid with hs := some h }).sendPkt sid src b).sess sid).cache = (s.sess sid).cache ∧
      (((s.drew 1).setSess sid { s.sess sid with hs := some h }).sendPkt sid src b).left sid src b := by
  generalize hv : (s.drew 1).setSess sid { s.sess sid with hs := some h } = v
  have hsess : v.sess sid = { s.sess sid with hs := some h } := by rw [← hv, State.sess_setSess_same]
  have hfree : v.free = s.free + 1 := by rw [← hv, State.setSess_free, State.drew_free]
  obtain ⟨out, hs⟩ := v.sess_sendPkt sid src b none sid
  rw [hs, hsess, ← hfree]
  exact ⟨rfl, (v.sendPkt_changesPacket sid src b).2.1 .free (by decide), rfl, v.sendPkt_left _ _ _⟩

/-! ### Timeouts (R42) -/

theorem State.passed_iff (s : State) (t0 d : Nat) : s.passed t0 d = true ↔ t0 + d ≤ s.el := decide_eq_true_iff

/-- Settles O5: each clause by what the row leaves of its session. -/
theorem sessionCommandsComplete : Obligations.SessionCommandsComplete := by
  refine ⟨?ping, ?opens, ?confirm, ?closes, ?waits, ?subscribe, ?lapse, ?pending, ?idle⟩
  case ping =>
    intro s c ht hlen
    refine ⟨_, rfl, State.host_answered_of_sess (u := s.entered c opPing) ht rfl ?_ rfl⟩
    obtain ⟨la, hs⟩ := s.sess_entered c opPing
    refine if_neg ?_
    rw [hs]
    exact hlen.not_gt
  case opens =>
    intro s c key hr hrec hlen hslot hlevel huse hle hkey
    refine ⟨_, rfl, ?_⟩
    rw [State.host_sessionOpen hr hrec, State.sessionOpen_of_slot hlen hslot hlevel huse hle hkey]
    exact s.pendingHandshake_sends _ _ _ _
  case confirm =>
    intro s c h hr hh
    refine ⟨_, rfl, ?_⟩
    obtain ⟨out, hs⟩ := (s.heard c.sid.val).sess_sessionConfirm c.sid.val (s.sess c.sid.val).peer c.seq.toNat c.payload h
    rw [State.host_sessionConfirm hr hh, hs]
    refine ⟨rfl, rfl, rfl, rfl, rfl, rfl, rfl, rfl, rfl, .inl ?_⟩
    rw [hs]
    exact ⟨_, List.mem_singleton.mpr rfl, rfl, rfl⟩
  case closes =>
    intro s c ht hp hall
    refine ⟨_, rfl, State.sessionClose_closes ht hp fun e he => ?_⟩
    rw [Outst.blocks_eq, List.all_eq_true.mp hall e he]
    rfl
  case waits =>
    intro s c ht hp hany
    exact ⟨_, rfl, State.sessionClose_waits ht hp (List.any_eq_true.mp hany)⟩
  case subscribe =>
    intro s c ht hlen
    have hrun : opEventSubscribe.run (s.entered c opEventSubscribe) c.sid.val c.seq.toNat c.payload
        = ((s.entered c opEventSubscribe).setSess c.sid.val
            { (s.entered c opEventSubscribe).sess c.sid.val with mask := rdN c.payload 0 12 }, some ⟨St.ok, []⟩) := if_pos hlen
    refine ⟨_, rfl, State.host_answered ht rfl hrun ?_ ?_, ?_⟩
    · rw [State.sess_setSess_same]
    · rw [State.sess_setSess_same]
    · rw [State.host_of_takes s c _ ht, hrun, State.sess_follow_of_no_post _ _ _ _ rfl]
      generalize hss : { (s.entered c opEventSubscribe).sess c.sid.val with mask := rdN c.payload 0 12 } = ss
      obtain ⟨out, hs⟩ := ((s.entered c opEventSubscribe).setSess c.sid.val ss).sess_answer c.sid.val c.seq.toNat none ⟨St.ok, []⟩
      rw [State.sess_setSess_same] at hs
      have hmask : (({ ss with outst := ss.outst.map (((s.entered c opEventSubscribe).setSess c.sid.val ss).replied c.seq.toNat none
          ⟨St.ok, []⟩) } : Session).flushed out).mask = rdN c.payload 0 12 := by rw [← hss]; rfl
      exact (congrArg Session.mask hs).trans hmask
  case lapse =>
    intro s i h hh hle
    refine ⟨_, rfl, ?_⟩
    rw [hh]
    dsimp only
    rw [if_pos ((s.passed_iff _ _).mpr hle), State.sess_setSess_same]
  case pending =>
    intro s i h hh hlt
    refine ⟨_, rfl, ?_⟩
    rw [hh]
    exact if_neg fun hp => hlt.not_ge ((s.passed_iff _ _).mp hp)
  case idle =>
    intro s i hi hopen hn hle
    refine ⟨_, rfl, ?_⟩
    dsimp only
    rw [if_pos ⟨hi, hopen, hn, (s.passed_iff _ _).mpr hle⟩]
    have hgone := s.sess_sessionGone i.val
    have hs : ((s.sessionGone i.val).raise Ev.sysSvbIdle (le 1 i.val)).sess i.val = (s.sess i.val).ended := by
      rw [(State.raise_eventsOnly _ _ _).closed i.val (by rw [hgone]; rfl), hgone]
    rw [hs]
    exact ⟨rfl, rfl, State.raise_pend (by decide) (by decide) _ _ (by decide)⟩

end Sys2Proof.Machine
end

section
/-! SUPPORT. What a command finds recorded state to be, what its completion leaves of its effect, and what register reads leave of sessions. -/

namespace Sys2Proof.Machine

/-! ### The state with a command recorded -/

section
variable (s : State) (c : Cmd) (op : Op)

theorem State.entered_frame : s.changesOnly (s.entered c op) [.svb, .time] [R.SYS_SVB_STAT] [] :=
  s.entered_changesOnly c op (by decide) (by decide) (by decide)

theorem State.entered_same (p : Part) (h : p ∉ [Part.svb, .time]) : p.same s (s.entered c op) := (s.entered_frame c op).2.1 p h

theorem State.reg_entered {a : Nat} (h : a ≠ R.SYS_SVB_STAT) : (s.entered c op).reg a = s.reg a :=
  (s.entered_frame c op).2.2 a (List.mem_singleton.not.mpr h) nofun

theorem State.fld_entered {f : Fld} (h : f.addr ≠ R.SYS_SVB_STAT) : (s.entered c op).fld f = s.fld f := by
  rw [State.fld, State.fld, s.reg_entered c op h]

theorem State.mapped_entered (a : Nat) : (s.entered c op).mapped a = s.mapped a := by
  have h : (s.entered c op).tst = s.tst := s.entered_same c op .tst (by decide)
  rw [State.mapped, State.mapped, h]

theorem State.sigOk_entered (sid seq opcode : Nat) (p : List Byte) : (s.entered c op).sigOk sid seq opcode p = s.sigOk sid seq opcode p := by
  have hsec : (s.entered c op).sec = s.sec := s.entered_same c op .sec (by decide)
  have hfuses : (s.entered c op).fuses = s.fuses := s.entered_same c op .fuses (by decide)
  have hslot : ∀ i, i < 64 → (F.SEC_SLOT_USAGE i).addr ≠ R.SYS_SVB_STAT := by decide
  have hkey : ∀ i u, (s.entered c op).keyIn i u = s.keyIn i u := fun i u => by
    unfold State.keyIn State.slotUsage
    rw [hsec]
    by_cases hi : i < 64
    · rw [s.fld_entered c op (hslot i hi)]
    · rw [if_neg fun h => hi h.1, if_neg fun h => hi h.1]
  unfold State.sigOk State.signedBytes State.unitBytes
  rw [s.fld_entered c op (f := F.SEC_CTL_SIGN_SLOT) (by decide), hkey, hfuses]
end

/-! ### The state that a command leaves -/

section
variable {s u : State} {c : Cmd} {op : Op} {r : Reply} (ht : s.takes c op = true) (hop : op.post = fun _ t => t)
  (hrun : op.run (s.entered c op) c.sid.val c.seq.toNat c.payload = (u, some r))
include ht hop hrun

/-- Of what an opcode leaves, delivering its reply changes only the bus and the record of the lanes. -/
theorem State.host_changesOnly_of_run : u.changesOnly (s.host c op) (.lan :: busParts) busRegs [] := by
  rw [State.host_of_takes s c op ht, hrun]
  exact State.changesOnly_trans (u.finish_changesOnly _ _ _ _ _)
    (State.follow_changesOnly _ _ _ _ (List.subset_cons_self _ _) (List.Subset.refl _) fun t => by rw [hop]; exact t.changesOnly_refl _ _ _)

/-- An opcode that raises no more than events answers what it gives. -/
theorem State.host_answered_of_events (hu : (s.entered c op).eventsOnly u) : (s.host c op).answered c r := by
  obtain ⟨n, d, out, h⟩ := hu.sess c.sid.val
  exact State.host_answered ht hop hrun (by rw [h]) (by rw [h])
end

/-! ### Register reads (R20, R53) -/

section
variable (s : State)

theorem State.setReg_eventsOnly (a : Nat) (v : Word) : s.eventsOnly (s.setReg a v) := State.eventsOnly_of_sess (fun _ => rfl) rfl

theorem State.readTtPos_eventsOnly : s.eventsOnly s.readTtPos.2 :=
  State.eventsOnly_of_changesOnly
    (s.readTtPos_changesOnly (ps := [.free, .eng]) (bs := []) (by decide) (by decide) (List.Subset.refl [R.SYS_TT_COUNT, R.SYS_TT_POS]))
    (by decide) (by decide)

theorem State.readInLo_eventsOnly : s.eventsOnly s.readInLo.2 := by
  unfold State.readInLo
  split
  · exact ((s.setReg_eventsOnly _ _).trans (State.setReg_eventsOnly _ _ _)).trans (State.setReg_eventsOnly _ _ _)
  · next e rest _ =>
    have ht : s.eventsOnly { s with time := { s.time with fifo := rest } } :=
      State.eventsOnly_of_changesOnly (s.time_changesOnly _ (ps := [.time]) (rs := []) (bs := []) (by decide)) (by decide) (by decide)
    refine ht.trans ?_
    generalize ({ s with time := { s.time with fifo := rest } } : State) = t
    have hregs := ((t.setReg_eventsOnly R.TIM_IN_LO (BitVec.ofNat 32 e.time)).trans (State.setReg_eventsOnly _ R.TIM_IN_HI
      (BitVec.ofNat 32 (e.time / 2 ^ 32)))).trans (State.setReg_eventsOnly _ R.TIM_IN_META 0)
    iterate 4 refine State.eventsOnly.trans ?_ (State.setFld_eventsOnly _ _ _)
    exact hregs.trans (State.setFld_eventsOnly _ _ _)

theorem State.syncReq_eventsOnly : s.eventsOnly s.syncReq := by
  unfold State.syncReq
  dsimp only
  split
  · exact s.eventsOnly_refl
  · generalize hv : (if s.sbx.reqSec + 1 = s.laneNow / oneSec then min 65535 s.sbx.reqCount else 0) = v
    exact State.eventsOnly_of_sess (State.sess_of_svb (State.setFld_svb s F.SBX_LOAD_REQ_S v)) (State.setFld_outs s F.SBX_LOAD_REQ_S v)

theorem State.drew_eventsOnly (n : Nat) : s.eventsOnly (s.drew n) :=
  State.eventsOnly_of_changesOnly (s.drew_changesOnly n (ps := [.free]) (rs := []) (bs := []) (by decide)) (by decide) (by decide)

theorem State.eventsOnly_ite_snd {p : Prop} [Decidable p] {x y : Word × State} (hx : s.eventsOnly x.2) (hy : s.eventsOnly y.2) :
    s.eventsOnly (if p then x else y).2 := by
  split
  · exact hx
  · exact hy

/-- A register read may raise events, and touches nothing else of a session. -/
theorem State.readReg_eventsOnly (a : Nat) : s.eventsOnly (s.readReg a).2 := by
  have hdrew : ∀ f v n, s.eventsOnly ((s.setFld f v).drew n) := fun f v n => (s.setFld_eventsOnly f v).trans (State.drew_eventsOnly _ n)
  unfold State.readReg
  refine s.eventsOnly_ite_snd s.readTtPos_eventsOnly ?_
  refine s.eventsOnly_ite_snd (s.setReg_eventsOnly _ _) ?_
  refine s.eventsOnly_ite_snd s.readInLo_eventsOnly ?_
  refine s.eventsOnly_ite_snd (hdrew _ _ _) (s.eventsOnly_ite_snd (hdrew _ _ _) ?_)
  refine s.eventsOnly_ite_snd (s.setFld_eventsOnly _ _) (s.eventsOnly_ite_snd (s.setFld_eventsOnly _ _) ?_)
  refine s.eventsOnly_ite_snd (State.eventsOnly_ite s.syncReq_eventsOnly s.eventsOnly_refl) ?_
  refine s.eventsOnly_ite_snd (s.setFld_eventsOnly _ _) ?_
  exact s.eventsOnly_ite_snd (s.tokenSync_eventsOnly 0) (s.eventsOnly_ite_snd (s.tokenSync_eventsOnly 1) s.eventsOnly_refl)

theorem State.readBlock_eventsOnly (l : List Nat) : s.eventsOnly (s.readBlock l).2 := by
  induction l generalizing s with
  | nil => exact s.eventsOnly_refl
  | cons a l ih =>
    unfold State.readBlock
    exact (s.readReg_eventsOnly a).trans (ih _)

/-- The registers whose read latches something, or shows what stands elsewhere. -/
def latchRegs : List Nat :=
  [R.SYS_SVB_STAT, R.SYS_TT_POS, R.TIM_NOW_LO, R.TIM_IN_LO, R.PWR_SUP, R.PWR_SUP2, R.SBX_LOAD, R.ARB_MAT, R.ARB_MAT_CNT, R.ARB_DRAM,
    R.ARB_DRAM_CNT, R.ETH_P_PAUSE 0, R.ETH_P_PAUSE 1, R.TST_STAT]

/-- Any other register reads as it stands. -/
theorem State.readReg_plain {a : Nat} (h : a ∉ latchRegs) : s.readReg a = (s.reg a, s) := by
  simp only [latchRegs, List.mem_cons, List.not_mem_nil, or_false, not_or] at h
  obtain ⟨-, h1, h2, h3, h4, h5, h6, h7, h8, h9, h10, h11, h12, h13⟩ := h
  unfold State.readReg
  rw [if_neg h1, if_neg h2, if_neg h3, if_neg h4, if_neg h5, if_neg h11, if_neg h12, if_neg h6, if_neg h13,
    if_neg (not_or.mpr ⟨h7, h8⟩), if_neg (not_or.mpr ⟨h9, h10⟩)]
end

/-! ### The shared DRAM partition (R521) -/

theorem bytesAt_eq_map (m : Tbl Byte) (o n : Nat) : bytesAt m o n = (List.range n).map fun i => Tbl.get 0 m (o + i) := by
  induction n generalizing o with
  | zero => rfl
  | succ n ih =>
    rw [bytesAt, ih, List.range_succ_eq_map, List.map_cons, List.map_map, Nat.add_zero]
    refine congrArg _ (List.map_congr_left fun i _ => ?_)
    rw [Function.comp_apply, Nat.succ_eq_add_one, Nat.add_right_comm, Nat.add_assoc]

end Sys2Proof.Machine
end

section
/-! SUPPORT. The timetable position, a write of SKY_ANT, the vintage floor, and UDP sessions that are disabled. -/

namespace Sys2Proof.Machine

/-! ### The position of an engine (R20) -/

/-- The sequencer that a DIE and an ENGINE code select. -/
def State.ttKey (s : State) (die id : Nat) : Option Nat :=
  if die = 0 then if hubEngine id then some (seqKey 0 id) else none
  else if laneEngine id then (s.dieLane die).map fun l => seqKey (l + 1) id else none

theorem State.ttState_key (s : State) (die id : Nat) : (s.ttState die id).2 = s.ttKey die id := by
  unfold State.ttState State.ttKey
  by_cases hdie : die = 0
  · rw [if_pos hdie, if_pos hdie]
    cases hubEngine id
    · rfl
    · cases s.pwr.hubReady <;> cases s.gated id <;> rfl
  · rw [if_neg hdie, if_neg hdie]
    cases laneEngine id
    · rfl
    · cases s.dieLane die with
      | none => rfl
      | some l =>
        cases hl : s.laneLive l
        · simp [hl]
        · cases (s.gated id || !s.laneClock) <;> simp [hl]

theorem State.stepState_le (s : State) (key : Nat) : s.stepState key ≤ 3 := by
  unfold State.stepState
  split
  · split
    · decide
    · split <;> decide
  · decide

theorem State.freeVal_one_lt (s : State) : s.freeVal 1 < 2 := (Config.free 1 s.free).isLt

/-- A selected sequencer is in one of the states 0 to 4. -/
theorem State.ttState_le (s : State) (die id : Nat) {key : Nat} (h : (s.ttState die id).2 = some key) : (s.ttState die id).1 ≤ 4 := by
  have hstep : ∀ k, s.stepState k ≤ 4 := fun k => (s.stepState_le k).trans (by decide)
  have hfree := s.freeVal_one_lt
  revert h
  unfold State.ttState
  by_cases hdie : die = 0
  · rw [if_pos hdie]
    cases hubEngine id
    · exact nofun
    · cases s.pwr.hubReady <;> cases s.gated id <;> simp [hstep]
  · rw [if_neg hdie]
    cases laneEngine id
    · exact nofun
    · cases s.dieLane die with
      | none => exact nofun
      | some l =>
        cases hl : s.laneLive l
        · have hdown : (if s.laneSt l = laneStRESET then 4 else 3 + s.freeVal 1) ≤ 4 := by split <;> omega
          simp [hl, hdown]
        · cases (s.gated id || !s.laneClock) <;> simp [hl, hstep]

/-- Taking a sequencer down moves no other selection. -/
theorem State.ttKey_seqSync (s : State) (k die id : Nat) : (s.seqSync k).ttKey die id = s.ttKey die id := rfl

/-- `s` with SYS_TT_POS and SYS_TT_COUNT as a read latches them. -/
def State.ttShow (s : State) (gen st step count : Nat) : State :=
  (((s.setFld F.SYS_TT_POS_GEN gen).setFld F.SYS_TT_POS_STATE st).setFld F.SYS_TT_POS_STEP step).setFld F.SYS_TT_COUNT_COUNT count

theorem State.ttShow_eng (s : State) (gen st step count : Nat) : (s.ttShow gen st step count).eng = s.eng := by
  unfold State.ttShow
  rw [State.setFld_eng, State.setFld_eng, State.setFld_eng, State.setFld_eng]

theorem State.fld_ttShow (s : State) (gen st step count : Nat) : (s.ttShow gen st step count).fld F.SYS_TT_POS_STATE = st % 16 ∧
    (s.ttShow gen st step count).fld F.SYS_TT_POS_GEN = gen % 256 ∧ (s.ttShow gen st step count).fld F.SYS_TT_POS_STEP = step % 4096 ∧
      (s.ttShow gen st step count).fld F.SYS_TT_COUNT_COUNT = count % 2 ^ 32 := by
  unfold State.ttShow
  have hpos : ∀ (t : State) f, f.addr = R.SYS_TT_POS → (t.setFld F.SYS_TT_COUNT_COUNT count).fld f = t.fld f := fun t f hf =>
    State.fld_setFld_otherReg _ _ _ _ (by rw [hf]; decide)
  have hstep : ∀ (t : State) f, f.addr = R.SYS_TT_POS → F.SYS_TT_POS_STEP.lo + F.SYS_TT_POS_STEP.width ≤ f.lo →
      (t.setFld F.SYS_TT_POS_STEP step).fld f = t.fld f := fun t f hf h =>
    State.fld_setFld_other _ _ _ _ hf.symm (by decide) (.inr h)
  refine ⟨?_, ?_, ?_, State.fld_setFld_same _ _ _ (by decide)⟩
  · rw [hpos _ _ rfl, hstep _ _ rfl (by decide)]
    exact State.fld_setFld_same _ _ _ (by decide)
  · rw [hpos _ _ rfl, hstep _ _ rfl (by decide),
      State.fld_setFld_other _ F.SYS_TT_POS_STATE F.SYS_TT_POS_GEN _ rfl (by decide) (by decide)]
    exact State.fld_setFld_same _ _ _ (by decide)
  · rw [hpos _ _ rfl]
    exact State.fld_setFld_same _ _ _ (by decide)

/-- The position latched of an engine whose sequencer runs: it is taken down first. -/
theorem State.readTtPos_running (s : State) {key : Nat} (h : (s.ttState (s.fld F.SYS_TT_SEL_DIE) (s.fld F.SYS_TT_SEL_ENGINE)).2 = some key)
    (hst : (s.ttState (s.fld F.SYS_TT_SEL_DIE) (s.fld F.SYS_TT_SEL_ENGINE)).1 < 2) : s.readTtPos.2
      = (s.seqSync key).ttShow (s.genOf (genKey (s.fld F.SYS_TT_SEL_ENGINE)))
          ((s.seqSync key).ttState (s.fld F.SYS_TT_SEL_DIE) (s.fld F.SYS_TT_SEL_ENGINE)).1 ((s.seqSync key).seqOf key).step
          ((s.seqSync key).seqOf key).count := by
  have hle := (s.seqSync key).ttState_le (s.fld F.SYS_TT_SEL_DIE) (s.fld F.SYS_TT_SEL_ENGINE) (key := key)
    (by rw [State.ttState_key, State.ttKey_seqSync, ← State.ttState_key, h])
  unfold State.readTtPos
  dsimp only
  generalize hx : s.ttState (s.fld F.SYS_TT_SEL_DIE) (s.fld F.SYS_TT_SEL_ENGINE) = x at h hst ⊢
  obtain ⟨st, k⟩ := x
  dsimp only at h hst ⊢
  subst h
  dsimp only
  have h3 : ¬ st = 3 := by omega
  have h15 : ¬ ((s.seqSync key).ttState (s.fld F.SYS_TT_SEL_DIE) (s.fld F.SYS_TT_SEL_ENGINE)).1 = 15 := by omega
  simp only [if_pos hst, if_neg h3, if_neg h15]
  rfl

/-- The position latched of an engine whose sequencer stands. -/
theorem State.readTtPos_standing (s : State) {key : Nat} (h : (s.ttState (s.fld F.SYS_TT_SEL_DIE) (s.fld F.SYS_TT_SEL_ENGINE)).2 = some key)
    (hst : 2 ≤ (s.ttState (s.fld F.SYS_TT_SEL_DIE) (s.fld F.SYS_TT_SEL_ENGINE)).1) : ∃ u : State, u.eng = s.eng ∧ s.readTtPos.2
      = u.ttShow (s.genOf (genKey (s.fld F.SYS_TT_SEL_ENGINE))) (s.ttState (s.fld F.SYS_TT_SEL_DIE) (s.fld F.SYS_TT_SEL_ENGINE)).1
          (s.seqOf key).step (s.seqOf key).count := by
  have hle := s.ttState_le (s.fld F.SYS_TT_SEL_DIE) (s.fld F.SYS_TT_SEL_ENGINE) h
  refine ⟨if (s.ttState (s.fld F.SYS_TT_SEL_DIE) (s.fld F.SYS_TT_SEL_ENGINE)).1 = 3 then s.drew 1 else s, by split <;> rfl, ?_⟩
  unfold State.readTtPos
  dsimp only
  generalize hx : s.ttState (s.fld F.SYS_TT_SEL_DIE) (s.fld F.SYS_TT_SEL_ENGINE) = x at h hst hle ⊢
  obtain ⟨st, k⟩ := x
  dsimp only at h hst hle ⊢
  subst h
  dsimp only
  have h2 : ¬ st < 2 := by omega
  have h15 : ¬ st = 15 := by omega
  simp only [if_neg h2, if_neg h15]
  rfl

/-- The position latched where no engine is selected. -/
theorem State.readTtPos_absent (s : State) (hst : (s.ttState (s.fld F.SYS_TT_SEL_DIE) (s.fld F.SYS_TT_SEL_ENGINE)).1 = 15) :
    s.readTtPos.2 = s.ttShow 0 15 0 0 := by
  have hkey : (s.ttState (s.fld F.SYS_TT_SEL_DIE) (s.fld F.SYS_TT_SEL_ENGINE)).2 = none := by
    cases hk : (s.ttState (s.fld F.SYS_TT_SEL_DIE) (s.fld F.SYS_TT_SEL_ENGINE)).2 with
    | none => rfl
    | some key => exact absurd (s.ttState_le _ _ hk) (by omega)
  unfold State.readTtPos
  dsimp only
  generalize hx : s.ttState (s.fld F.SYS_TT_SEL_DIE) (s.fld F.SYS_TT_SEL_ENGINE) = x at hkey hst ⊢
  obtain ⟨st, k⟩ := x
  dsimp only at hkey hst ⊢
  subst hkey hst
  rfl

/-- The step count of a sequencer grows by no more than its rate allows in the time since it was last taken down, modulo 2^32 (R19). -/
theorem State.seqSync_count (s : State) (key : Nat) :
    (((s.seqSync key).seqOf key).count + 2 ^ 32 - (s.seqOf key).count % 2 ^ 32) % 2 ^ 32
      ≤ stepRate (key % 256) * (s.el - (s.seqOf key).at_) / oneSec := by
  generalize hb : stepRate (key % 256) * (s.el - (s.seqOf key).at_) / oneSec = bound
  have hn := Nat.mod_lt (s.freeVal 64) (Nat.succ_pos bound)
  have hcount : ((s.seqSync key).seqOf key).count = ((s.seqOf key).count + s.freeVal 64 % (bound + 1)) % 2 ^ 32 := by
    rw [← hb]
    exact congrArg Sequencer.count (Tbl.get_put_same _ _ _ _)
  rw [hcount]
  generalize s.freeVal 64 % (bound + 1) = n at hn ⊢
  generalize (s.seqOf key).count = q
  omega

/-! ### SKY_ANT (R58, R59) -/

/-- BIAS of SKY_ANT after a write of the whole register. -/
theorem writeWord_skyAnt_bias (old v : Word) :
    fldOf F.SKY_ANT_BIAS (writeWord ⟨0x100008, 4, 1, 0xc, 3, 0, 0, 0, 0, 0⟩ old v 0xFFFFFFFF#32).toNat = v.toNat % 4 := by
  have hlow : writeWord ⟨0x100008, 4, 1, 0xc, 3, 0, 0, 0, 0, 0⟩ old v 0xFFFFFFFF#32 &&& 3#32 = v &&& 3#32 := by
    unfold writeWord
    ext i hi
    simp only [BitVec.getElem_and, BitVec.getElem_or, BitVec.getElem_not]
    rcases i with _ | _ | i
    · simp
    · simp
    · have hzero : (3#32)[i + 1 + 1] = false := by
        rw [← BitVec.getLsbD_eq_getElem, BitVec.getLsbD_ofNat]
        simp [Nat.testBit_succ]
      simp [hzero]
  have hmod : ∀ w : Word, w.toNat % 4 = (w &&& 3#32).toNat := fun w => by
    rw [BitVec.toNat_and]
    exact (Nat.and_two_pow_sub_one_eq_mod w.toNat 2).symm
  rw [hmod v, ← hlow, ← hmod]
  simp [fldOf, F.SKY_ANT_BIAS]

theorem State.wrote_skyAnt (s old : State) (w : Word) : s.wrote old R.SKY_ANT w = s.antWritten old.biasOn := rfl

theorem State.antWritten_changesOnly (s : State) (was : Bool) {ps : List Part} {bs : List Block} :
    s.changesOnly (s.antWritten was) ps [R.SKY_ANT] bs := by
  have hsense : s.changesOnly (s.setFld F.SKY_ANT_SENSE 3) ps [R.SKY_ANT] bs := s.setFld_changesOnly _ _ (.inl (by decide))
  exact State.ite_changesOnly (State.setFld_then _ _ hsense (by decide)) (State.ite_changesOnly (s.changesOnly_refl _ _ _) hsense)

theorem State.antWritten_bias (s : State) (was : Bool) : (s.antWritten was).fld F.SKY_ANT_BIAS = s.fld F.SKY_ANT_BIAS := by
  have hother : ∀ (t : State) f v, f.addr = R.SKY_ANT → f.lo + f.width ≤ 32 → 2 ≤ f.lo →
      (t.setFld f v).fld F.SKY_ANT_BIAS = t.fld F.SKY_ANT_BIAS := fun t f v ha hf hlo =>
    State.fld_setFld_other t f F.SKY_ANT_BIAS v ha hf (.inl hlo)
  unfold State.antWritten
  split
  · rw [hother _ _ _ rfl (by decide) (by decide), hother _ _ _ rfl (by decide) (by decide)]
  · split
    · rfl
    · exact hother _ _ _ rfl (by decide) (by decide)

/-- A write of SKY_ANT sets BIAS, and changes no other register. -/
theorem State.writeReg_skyAnt (s : State) (v : Word) :
    (s.writeReg R.SKY_ANT v 0xFFFFFFFF#32).fld F.SKY_ANT_BIAS = v.toNat % 4 ∧
      s.changesOnly (s.writeReg R.SKY_ANT v 0xFFFFFFFF#32) [.nor] [R.SKY_ANT] [] := by
  have hrow : regRow R.SKY_ANT = some ⟨0x100008, 4, 1, 0xc, 3, 0, 0, 0, 0, 0⟩ := by decide +kernel
  generalize hw : writeWord ⟨0x100008, 4, 1, 0xc, 3, 0, 0, 0, 0, 0⟩ (s.reg R.SKY_ANT) v 0xFFFFFFFF#32 = w
  have hset : s.changesOnly (s.setReg R.SKY_ANT w) [.nor] [R.SKY_ANT] [] := s.setReg_changesOnly _ _ (.inl (by decide))
  have hbias : (s.setReg R.SKY_ANT w).fld F.SKY_ANT_BIAS = v.toNat % 4 := by
    rw [State.fld, show F.SKY_ANT_BIAS.addr = R.SKY_ANT from rfl, State.reg_setReg_same, ← hw, writeWord_skyAnt_bias]
  have hstore : ∀ n, (s.setReg R.SKY_ANT w).changesOnly { s.setReg R.SKY_ANT w with nor := n } [.nor] [R.SKY_ANT] [] := fun n =>
    State.changesOnly_part .nor (by decide) (fun q hq => by cases q <;> simp_all [Part.same, State.dramByte]) rfl rfl
  unfold State.writeReg
  rw [hrow]
  dsimp only
  rw [if_neg (by decide), if_neg (by decide), if_neg (by decide), if_neg (by decide), if_neg fun h => absurd h.1 (by decide),
    if_neg (by decide), State.wrote_skyAnt, hw, State.antWritten_bias]
  refine ⟨?_, State.changesOnly_trans (State.ite_changesOnly hset (State.changesOnly_trans hset (hstore _)))
    (State.antWritten_changesOnly _ _)⟩
  split
  · exact hbias
  · exact hbias

/-! ### UDP sessions that are disabled (R40) -/

theorem State.udpEnabled_of_changesOnly {s t : State} {ps : List Part} {rs : List Nat} (h : s.changesOnly t ps rs [])
    (hr : R.SYS_SVB_CTL ∉ rs) (sid : Nat) : t.udpEnabled sid = s.udpEnabled sid := by
  rw [State.udpEnabled, State.udpEnabled, State.fld_of_changesOnly h F.SYS_SVB_CTL_UDP_EN hr]

/-- One session is closed where it is disabled and not closed already. -/
def State.udpStep (s : State) (sid : Nat) : State :=
  if s.udpEnabled sid || (!(s.sess sid).isOpen && (s.sess sid).hs.isNone) then s else s.udpClose sid

theorem State.udpDue_eq (s : State) : s.udpDue = [1, 2, 3].foldl State.udpStep s := rfl

theorem State.udpStep_enabled (s : State) (i sid : Nat) : (s.udpStep i).udpEnabled sid = s.udpEnabled sid :=
  State.udpEnabled_of_changesOnly (State.ite_changesOnly (s.changesOnly_refl _ _ _) (s.udpClose_changesOnly i)) (by decide) sid

/-- The end of another session raises no more than events in a session. -/
theorem State.sess_udpStep_other (s : State) {i j : Nat} (h : i ≠ j) :
    ∃ n d out, (s.udpStep i).sess j = { s.sess j with evSeq := n, dropped := d, out := out } := by
  unfold State.udpStep
  split
  · exact ⟨(s.sess j).evSeq, (s.sess j).dropped, (s.sess j).out, rfl⟩
  · obtain ⟨n, d, out, hs⟩ := (s.sessionGone_eventsOnly i).sess j
    rw [State.sess_setSess_other _ _ _ _ h] at hs
    exact ⟨n, d, out, (State.sess_setSess_other _ _ _ _ h).trans hs⟩

theorem State.udpStep_of_enabled {s : State} {sid : Nat} (h : s.udpEnabled sid = true) : s.udpStep sid = s :=
  if_pos (by rw [h, Bool.true_or])

/-- A session that is disabled is closed, with no handshake pending. -/
theorem State.udpStep_closes {s : State} {sid : Nat} (h : s.udpEnabled sid = false) :
    ((s.udpStep sid).sess sid).isOpen = false ∧ ((s.udpStep sid).sess sid).hs = none := by
  unfold State.udpStep
  rw [h, Bool.false_or]
  split
  · next hc => simpa using hc
  · unfold State.udpClose
    dsimp only
    rw [State.sess_setSess_same, State.sess_sessionGone]
    exact ⟨rfl, rfl⟩

theorem State.udpSteps_answered {c : Cmd} {r : Reply} (l : List Nat) (h0 : 0 ∉ l) {s : State} (ha : s.answered c r)
    (hen : c.sid.val = 0 ∨ s.udpEnabled c.sid.val = true) : (l.foldl State.udpStep s).answered c r := by
  induction l generalizing s with
  | nil => exact ha
  | cons i l ih =>
    obtain ⟨hi, hl⟩ := not_or.mp (mt List.mem_cons.mpr h0)
    refine ih hl ?_ (by rw [State.udpStep_enabled]; exact hen)
    by_cases hc : i = c.sid.val
    · subst hc
      rw [State.udpStep_of_enabled (hen.resolve_left fun h => hi h.symm)]
      exact ha
    · obtain ⟨n, d, out, hs⟩ := s.sess_udpStep_other hc
      unfold State.answered
      rw [hs]
      exact ha

theorem State.udpSteps_close {i : Nat} (l : List Nat) {s : State} (h : s.udpEnabled i = false)
    (hi : i ∈ l ∨ (s.sess i).isOpen = false ∧ (s.sess i).hs = none) :
    ((l.foldl State.udpStep s).sess i).isOpen = false ∧ ((l.foldl State.udpStep s).sess i).hs = none := by
  induction l generalizing s with
  | nil => exact hi.resolve_left List.not_mem_nil
  | cons j l ih =>
    refine ih (by rw [State.udpStep_enabled]; exact h) ?_
    by_cases hj : j = i
    · subst hj
      exact .inr (State.udpStep_closes h)
    · refine hi.imp (fun hm => (List.mem_cons.mp hm).resolve_left fun e => hj e.symm) fun hc => ?_
      obtain ⟨n, d, out, hs⟩ := s.sess_udpStep_other hj
      rw [hs]
      exact hc

/-! ### What follows a register write -/

theorem State.crcGo_changesOnly (s : State) : s.changesOnly s.crcGo [.tst] [R.TST_CRC, R.TST_STAT] [] :=
  State.ite_changesOnly (s.changesOnly_refl _ _ _)
    (State.setFld_then _ _ (State.setFld_then _ _ (s.tst_changesOnly _ (by decide)) (by decide)) (by decide))

/-- What follows a register write before the closing of UDP sessions. -/
def State.crcDone (s : State) : State := if s.tst.crcDue then ({ s with tst := { s.tst with crcDue := false } } : State).crcGo else s

theorem State.crcDone_changesOnly (s : State) : s.changesOnly s.crcDone [.tst] [R.TST_CRC, R.TST_STAT] [] :=
  State.ite_changesOnly (State.changesOnly_trans (s.tst_changesOnly _ (by decide)) (State.crcGo_changesOnly _)) (s.changesOnly_refl _ _ _)

theorem State.writeDue_eq (s : State) : s.writeDue = s.crcDone.udpDue.rstDue := rfl

/-- Without a reset asked for, a register write is followed by corruptions armed and sessions closed. -/
theorem State.writeDue_of_no_reset {s : State} (h : s.pwr.rstReq = false) : s.writeDue = s.crcDone.udpDue := by
  have h1 : s.crcDone.pwr = s.pwr := s.crcDone_changesOnly.2.1 .pwr (by decide)
  have h2 : s.crcDone.udpDue.pwr = s.crcDone.pwr := s.crcDone.udpDue_changesOnly.2.1 .pwr (by decide)
  have hreq : s.crcDone.udpDue.pwr.rstReq = false := by rw [h2, h1, h]
  rw [State.writeDue_eq, State.rstDue, hreq]
  exact if_neg (by decide)

theorem State.writeDue_fld {s : State} (h : s.pwr.rstReq = false) (f : Fld) (hf : f.addr ∉ goneRegs) : s.writeDue.fld f = s.fld f := by
  rw [State.writeDue_of_no_reset h, State.fld_of_changesOnly s.crcDone.udpDue_changesOnly f hf]
  exact State.fld_of_changesOnly s.crcDone_changesOnly f fun hm => hf ((show [R.TST_CRC, R.TST_STAT] ⊆ goneRegs by decide) hm)

theorem State.writeDue_answered {s : State} {c : Cmd} {r : Reply} (h : s.pwr.rstReq = false)
    (hen : c.sid.val = 0 ∨ s.udpEnabled c.sid.val = true) (ha : s.answered c r) : s.writeDue.answered c r := by
  rw [State.writeDue_of_no_reset h, State.udpDue_eq]
  refine State.udpSteps_answered _ (by decide) ((State.eventsOnly_of_changesOnly s.crcDone_changesOnly (by decide) (by decide)).answered ha) ?_
  rw [State.udpEnabled_of_changesOnly s.crcDone_changesOnly (by decide)]
  exact hen

end Sys2Proof.Machine
end

section
/-! PROOF. The identity, bulk and register commands, and the register events. -/

namespace Sys2Proof.Machine

/-! ### Bulk commands (R521) -/

theorem bulkOk_iff (off len : Nat) : bulkOk off len = true ↔ off % 4 = 0 ∧ len % 4 = 0 ∧ off + len ≤ 0x08000000 := by
  simp [bulkOk, and_assoc]

/-- BULK_WRITE of an accepted span stores its bytes. -/
theorem doBulkWrite_of_ok {s : State} (sid seq : Nat) {p : List Byte} (h5 : 5 ≤ p.length) (hoff : rdN p 0 4 % 4 = 0)
    (hlen : p.length % 4 = 0) (hend : rdN p 0 4 + (p.length - 4) ≤ 0x08000000) :
    doBulkWrite s sid seq p = (s.dramStore (rdN p 0 4) (p.drop 4), some ⟨St.ok, []⟩) := by
  have hok : bulkOk (rdN p 0 4) (p.drop 4).length = true := by
    rw [List.length_drop, bulkOk_iff]
    exact ⟨hoff, by omega, hend⟩
  unfold doBulkWrite
  dsimp only
  rw [if_neg (by omega), hok, if_neg (by decide)]
  rfl

/-- BULK_READ of an accepted span gives its bytes. -/
theorem doBulkRead_of_ok {s : State} (sid seq : Nat) {p : List Byte} (h8 : p.length = 8) (hoff : rdN p 0 4 % 4 = 0)
    (hlen : rdN p 4 2 % 4 = 0) (hmin : 4 ≤ rdN p 4 2) (hmax : rdN p 4 2 ≤ 1396) (hend : rdN p 0 4 + rdN p 4 2 ≤ 0x08000000) :
    doBulkRead s sid seq p = (s, some ⟨St.ok, bytesAt s.dram (rdN p 0 4) (rdN p 4 2)⟩) := by
  have hok : bulkOk (rdN p 0 4) (rdN p 4 2) = true := (bulkOk_iff _ _).mpr ⟨hoff, hlen, hend⟩
  have hcond : ¬ (rdN p 4 2 < 4 ∨ 1396 < rdN p 4 2 ∨ (!bulkOk (rdN p 0 4) (rdN p 4 2)) = true) := by
    rw [hok]
    rintro (h | h | h)
    · exact hmin.not_gt h
    · exact hmax.not_gt h
    · exact absurd h (by decide)
  unfold doBulkRead withLen
  rw [if_pos h8]
  exact if_neg hcond

/-! ### Register commands (R53, R54) -/

theorem doRegRead_of_mapped {s : State} (sid seq : Nat) {p : List Byte} (h4 : p.length = 4) (hm : s.mapped (rdN p 0 4) = true) :
    doRegRead s sid seq p = ((s.readReg (rdN p 0 4)).2, some ⟨St.ok, le 4 (s.readReg (rdN p 0 4)).1.toNat⟩) := by
  unfold doRegRead withLen
  dsimp only
  rw [if_pos h4, hm]
  rfl

theorem doRegRead_of_unmapped {s : State} (sid seq : Nat) {p : List Byte} (h4 : p.length = 4) (hm : s.mapped (rdN p 0 4) = false) :
    doRegRead s sid seq p = (s, some ⟨0x50, []⟩) := by
  unfold doRegRead withLen
  dsimp only
  rw [if_pos h4, hm]
  rfl

section
variable {s : State} (sid seq : Nat) {p : List Byte} {as : List Nat} (h6 : p.length = 6) (hn : 0 < rdN p 4 2) (hmax : rdN p 4 2 ≤ 256)
  (has : as = (List.range (rdN p 4 2)).map fun i => rdN p 0 4 + 4 * i)
include h6 hn hmax has

theorem doRegReadBlock_of_mapped (hm : as.all s.mapped = true) :
    doRegReadBlock s sid seq p = ((s.readBlock as).2, some ⟨St.ok, (s.readBlock as).1⟩) := by
  have hcond : ¬ (rdN p 4 2 = 0 ∨ 256 < rdN p 4 2) := not_or.mpr ⟨hn.ne', hmax.not_gt⟩
  unfold doRegReadBlock withLen
  dsimp only
  rw [if_pos h6, if_neg hcond, ← has, hm]
  rfl

theorem doRegReadBlock_of_unmapped (hm : as.all s.mapped = false) : doRegReadBlock s sid seq p = (s, some ⟨0x50, []⟩) := by
  have hcond : ¬ (rdN p 4 2 = 0 ∨ 256 < rdN p 4 2) := not_or.mpr ⟨hn.ne', hmax.not_gt⟩
  unfold doRegReadBlock withLen
  dsimp only
  rw [if_pos h6, if_neg hcond, ← has, hm]
  rfl
end

theorem doRegWrite_of_accepted {s : State} (sid seq : Nat) {p : List Byte} (h8 : p.length = 8)
    (h : s.writeRefusal sid (rdN p 0 4) 0xFFFFFFFF#32 = none) : doRegWrite s sid seq p
      = (s.writeReg (rdN p 0 4) (BitVec.ofNat 32 (rdN p 4 4)) 0xFFFFFFFF#32, some ⟨St.ok, []⟩) := by
  unfold doRegWrite withLen
  dsimp only
  rw [if_pos h8, h]
  rfl

theorem doRegModify_of_accepted {s : State} (sid seq : Nat) {p : List Byte} (h12 : p.length = 12)
    (h : s.writeRefusal sid (rdN p 0 4) (BitVec.ofNat 32 (rdN p 4 4)) = none) : doRegModify s sid seq p
      = ((s.readReg (rdN p 0 4)).2.writeReg (rdN p 0 4) (BitVec.ofNat 32 (rdN p 8 4)) (BitVec.ofNat 32 (rdN p 4 4)),
        some ⟨St.ok, le 4 (s.readReg (rdN p 0 4)).1.toNat⟩) := by
  unfold doRegModify withLen
  dsimp only
  rw [if_pos h12, h]
  rfl

theorem State.fld_follow {s : State} {sid seq : Nat} {op : Op} {f : Fld} (h : (op.post sid s).fld f = s.fld f) :
    (s.follow sid seq op).fld f = s.fld f := by
  unfold State.follow
  split
  · rfl
  · exact h

/-- SKY_ANT is a register of the hub that a session of level C may write. -/
theorem State.writeRefusal_skyAnt {s : State} (h : s.mapped R.SKY_ANT = true) (sid : Nat) :
    s.writeRefusal sid R.SKY_ANT 0xFFFFFFFF#32 = none := by
  have hrow : regRow R.SKY_ANT = some ⟨0x100008, 4, 1, 0xc, 3, 0, 0, 0, 0, 0⟩ := by decide +kernel
  have htst : tstReg R.SKY_ANT = false := by decide
  have hcal : calReg R.SKY_ANT = false := by decide
  unfold State.writeRefusal
  rw [h, htst, hcal, hrow, Bool.false_and, Bool.false_and, if_neg (by decide), if_neg (by decide), if_neg (by decide)]
  exact if_pos (by decide)

/-- REG_WRITE of SKY_ANT sets BIAS and is answered OK. -/
theorem State.regWrite_skyAnt {s : State} {c : Cmd} (ht : s.takes c opRegWrite = true) (h8 : c.payload.length = 8)
    (hm : s.mapped (rdN c.payload 0 4) = true) (ha : rdN c.payload 0 4 = R.SKY_ANT) (hrst : s.pwr.rstReq = false) :
    (s.host c opRegWrite).ok c [] ∧ (s.host c opRegWrite).fld F.SKY_ANT_BIAS = rdN c.payload 4 4 % 4 := by
  have hacc : (s.entered c opRegWrite).writeRefusal c.sid.val (rdN c.payload 0 4) 0xFFFFFFFF#32 = none := by
    rw [ha] at hm ⊢
    exact State.writeRefusal_skyAnt (by rw [State.mapped_entered]; exact hm) _
  have hrun := doRegWrite_of_accepted c.sid.val c.seq.toNat h8 hacc
  rw [ha] at hrun
  obtain ⟨hbias, hframe⟩ := (s.entered c opRegWrite).writeReg_skyAnt (BitVec.ofNat 32 (rdN c.payload 4 4))
  generalize (s.entered c opRegWrite).writeReg R.SKY_ANT (BitVec.ofNat 32 (rdN c.payload 4 4)) 0xFFFFFFFF#32 = u at hrun hbias hframe
  have hsess : u.sess c.sid.val = (s.entered c opRegWrite).sess c.sid.val := State.sess_of_svb (hframe.2.1 .svb (by decide)) _
  have hpost : ∀ v : State, v = u.finish c.sid.val c.seq.toNat 0x0201 (s.engineFor opRegWrite c.payload) ⟨St.ok, []⟩ →
      v.pwr.rstReq = false ∧ v.udpEnabled c.sid.val = s.udpEnabled c.sid.val ∧ v.fld F.SKY_ANT_BIAS = rdN c.payload 4 4 % 4 := by
    rintro v rfl
    have hfin := u.finish_changesOnly c.sid.val c.seq.toNat 0x0201 (s.engineFor opRegWrite c.payload) ⟨St.ok, []⟩
    generalize u.finish c.sid.val c.seq.toNat 0x0201 (s.engineFor opRegWrite c.payload) ⟨St.ok, []⟩ = v at hfin
    have h1 : v.pwr = u.pwr := hfin.2.1 .pwr (by decide)
    have h2 : u.pwr = (s.entered c opRegWrite).pwr := hframe.2.1 .pwr (by decide)
    have h3 : (s.entered c opRegWrite).pwr = s.pwr := s.entered_same c opRegWrite .pwr (by decide)
    refine ⟨by rw [h1, h2, h3, hrst], ?_, ?_⟩
    · rw [State.udpEnabled_of_changesOnly hfin (by decide), State.udpEnabled_of_changesOnly hframe (by decide),
        State.udpEnabled_of_changesOnly (s.entered_frame c opRegWrite) (by decide)]
    · rw [State.fld_of_changesOnly hfin _ (by decide), hbias, BitVec.toNat_ofNat, Nat.mod_mod_of_dvd _ (by decide)]
  obtain ⟨-, -, hudp, -⟩ := (s.reaches_iff c _).mp (State.takes_reaches ht)
  constructor
  · refine State.host_answered_of_post ht hrun (by rw [hsess]) (by rw [hsess]) fun v hv hans => ?_
    obtain ⟨hreq, hen, -⟩ := hpost v hv
    exact State.writeDue_answered hreq (by rw [hen]; exact hudp) hans
  · obtain ⟨hreq, -, hb⟩ := hpost _ rfl
    have hrun' : opRegWrite.run (s.entered c opRegWrite) c.sid.val c.seq.toNat c.payload = (u, some ⟨St.ok, []⟩) := hrun
    rw [State.host_of_takes s c _ ht, hrun', ← hb]
    exact State.fld_follow (State.writeDue_fld hreq F.SKY_ANT_BIAS (by decide))

/-! ### The vintage floor (R428) -/

/-- REG_WRITE_LC of the next vintage floor is accepted. -/
theorem doRegWriteLc_of_floor {s : State} (sid seq : Nat) {p : List Byte} (h16 : p.length = 16)
    (hsig : s.sigOk sid seq 0x0204 p = true) (ha : rdN p 0 4 = R.UPD_FLOOR) (hv : rdN p 4 4 = s.fuses.floor + 1)
    (hact : rdN p 4 4 ≤ s.fld F.UPD_VINT_ACT_VINTAGE / 2 ^ 24) (hleft : 0 < s.fuses.floorLeft) :
    doRegWriteLc s sid seq p = ((s.lcWrite R.UPD_FLOOR (s.fuses.floor + 1)).lcDone R.UPD_FLOOR s.fuses.floor (s.fuses.floor + 1)
      (s.fuses.floorLeft - 1) 0 sid, some ⟨St.ok, le 2 (s.fuses.floorLeft - 1)⟩) := by
  have hsite : decide (R.UPD_FLOOR = R.SEC_SITE) = false := by decide
  have hbind : decide (R.UPD_FLOOR = R.SEC_BIND) = false := by decide
  have hfloor : decide (R.UPD_FLOOR = R.UPD_FLOOR) = true := by decide
  have hbad : ((s.fuses.floor + 1 != s.fuses.floor + 1) || decide (s.fld F.UPD_VINT_ACT_VINTAGE / 2 ^ 24 < s.fuses.floor + 1)) = false := by
    rw [bne_self_eq_false, Bool.false_or, decide_eq_false_iff_not]
    rw [hv] at hact
    exact hact.not_gt
  unfold doRegWriteLc withLen
  dsimp only
  rw [if_pos h16, hsig, ha, hsite, hbind, hfloor]
  simp only [Bool.false_eq_true, if_false, Bool.or_true, Bool.not_true, Bool.false_and, Bool.not_false, Bool.true_and, hv, hbad,
    hleft.ne', okWith]

theorem State.lcWrite_floor (s : State) (v : Nat) : (s.lcWrite R.UPD_FLOOR v).fuses
      = { s.fuses with floor := v, floorLeft := s.fuses.floorLeft - 1 } ∧
    (s.lcWrite R.UPD_FLOOR v).fld F.UPD_FLOOR_FLOOR = v % 2 ^ F.UPD_FLOOR_FLOOR.width ∧ s.eventsOnly (s.lcWrite R.UPD_FLOOR v) := by
  have heq : s.lcWrite R.UPD_FLOOR v
      = ((({ s with fuses := { s.fuses with floor := v, floorLeft := s.fuses.floorLeft - 1 } } : State).setFld F.UPD_FLOOR_FLOOR v).setFld
          F.UPD_FLOOR_LEFT (s.fuses.floorLeft - 1)) := rfl
  have hfuses : s.eventsOnly { s with fuses := { s.fuses with floor := v, floorLeft := s.fuses.floorLeft - 1 } } :=
    State.eventsOnly_of_changesOnly (s.fuses_changesOnly _ (ps := [.fuses]) (rs := []) (bs := []) (by decide)) (by decide) (by decide)
  rw [heq]
  refine ⟨?_, ?_, (hfuses.trans (State.setFld_eventsOnly _ _ _)).trans (State.setFld_eventsOnly _ _ _)⟩
  · rw [State.setFld_fuses, State.setFld_fuses]
  · rw [State.fld_setFld_other _ F.UPD_FLOOR_LEFT F.UPD_FLOOR_FLOOR _ rfl (by decide) (by decide)]
    exact State.fld_setFld_same _ _ _ (by decide)

theorem State.lcDone_eventsOnly (s : State) (off old new left result sid : Nat) : s.eventsOnly (s.lcDone off old new left result sid) := by
  have h : ∀ ty payload, s.eventsOnly (s.record ty payload) := fun ty payload =>
    State.eventsOnly_of_sess (State.sess_of_svb (s.record_svb ty payload)) (s.record_outs ty payload)
  exact State.eventsOnly_ite ((h _ _).trans (State.raise_eventsOnly _ _ _)) (h _ _)

/-- The record and the event of a limited change leave the fuses and its register alone. -/
theorem State.lcDone_frame (s : State) (off old new left result sid : Nat) :
    s.changesOnly (s.lcDone off old new left result sid) (.cbk :: busParts) busRegs [] := by
  have h : ∀ ty payload, s.changesOnly (s.record ty payload) (.cbk :: busParts) busRegs [] := fun _ _ => s.cbk_changesOnly _ (by decide)
  exact State.ite_changesOnly (State.changesOnly_trans (h _ _)
    (State.changesOnly_of_bus (State.raise_hub_changesOnly _ _ _ (by decide) (by decide)) (by decide) (List.Subset.refl _))) (h _ _)

theorem State.regWriteLc_floor {s : State} {c : Cmd} (ht : s.takes c opRegWriteLc = true) (h16 : c.payload.length = 16)
    (hsig : s.sigOk c.sid.val c.seq.toNat 0x0204 c.payload = true) (ha : rdN c.payload 0 4 = R.UPD_FLOOR)
    (hv : rdN c.payload 4 4 = s.fuses.floor + 1) (hact : rdN c.payload 4 4 ≤ s.fld F.UPD_VINT_ACT_VINTAGE / 2 ^ 24)
    (hleft : 0 < s.fuses.floorLeft) :
    (s.host c opRegWriteLc).ok c (le 2 (s.fuses.floorLeft - 1)) ∧ (s.host c opRegWriteLc).fuses.floor = s.fuses.floor + 1 ∧
      (s.host c opRegWriteLc).fuses.floorLeft = s.fuses.floorLeft - 1 ∧
      (s.host c opRegWriteLc).fld F.UPD_FLOOR_FLOOR = (s.fuses.floor + 1) % 2 ^ F.UPD_FLOOR_FLOOR.width := by
  have hfuses : (s.entered c opRegWriteLc).fuses = s.fuses := s.entered_same c opRegWriteLc .fuses (by decide)
  have hrun : opRegWriteLc.run (s.entered c opRegWriteLc) c.sid.val c.seq.toNat c.payload = _ :=
    doRegWriteLc_of_floor c.sid.val c.seq.toNat h16 (by rw [State.sigOk_entered]; exact hsig) ha (by rw [hfuses]; exact hv)
      (by rw [s.fld_entered c opRegWriteLc (f := F.UPD_VINT_ACT_VINTAGE) (by decide)]; exact hact) (by rw [hfuses]; exact hleft)
  rw [hfuses] at hrun
  obtain ⟨hlcFuses, hlcFld, hlcEv⟩ := (s.entered c opRegWriteLc).lcWrite_floor (s.fuses.floor + 1)
  have hdone := ((s.entered c opRegWriteLc).lcWrite R.UPD_FLOOR (s.fuses.floor + 1)).lcDone_frame R.UPD_FLOOR s.fuses.floor
    (s.fuses.floor + 1) (s.fuses.floorLeft - 1) 0 c.sid.val
  have hev := hlcEv.trans (((s.entered c opRegWriteLc).lcWrite R.UPD_FLOOR (s.fuses.floor + 1)).lcDone_eventsOnly R.UPD_FLOOR s.fuses.floor
    (s.fuses.floor + 1) (s.fuses.floorLeft - 1) 0 c.sid.val)
  generalize ((s.entered c opRegWriteLc).lcWrite R.UPD_FLOOR (s.fuses.floor + 1)).lcDone R.UPD_FLOOR s.fuses.floor (s.fuses.floor + 1)
    (s.fuses.floorLeft - 1) 0 c.sid.val = u at hrun hdone hev
  have hhost := State.host_changesOnly_of_run ht rfl hrun
  have h1 : (s.host c opRegWriteLc).fuses = u.fuses := hhost.2.1 .fuses (by decide)
  have h2 : u.fuses = _ := hdone.2.1 .fuses (by decide)
  refine ⟨State.host_answered_of_events ht rfl hrun hev, ?_, ?_, ?_⟩
  · rw [h1, h2, hlcFuses]
  · rw [h1, h2, hlcFuses, hfuses]
  · rw [State.fld_of_changesOnly hhost _ (by decide), State.fld_of_changesOnly hdone _ (by decide), hlcFld]

/-! ### REGISTER_WRITE -/

theorem State.registerWrite_guard {s : State} {a : Nat} (hs : s.serving = true) (hm : s.mapped a = true)
    (hc : calReg a = false ∨ s.fuses.sealCrc = 0) : ¬ (!s.mapped a || !s.serving || (calReg a && s.fuses.sealCrc != 0)) = true := by
  rw [hs, hm]
  rcases hc with hc | hc <;> simp [hc]

/-- Settles O6: each clause by what the opcode gives of the state with the command recorded. -/
theorem identityBulkAndRegisterCommandsComplete : Obligations.IdentityBulkAndRegisterCommandsComplete := by
  refine ⟨?identity, ?bulkWrite, ?bulkRead, ?regRead, ?plain, ?unmapped, ?block, ?blockUnmapped, ?regWrite, ?skyAnt, ?regModify, ?lc,
    ?write, ?laneWrite, ?running, ?standing, ?absent, ?cntClr, ?disable⟩
  case identity =>
    intro s c ht hp hrec
    have hupd : (s.entered c opGetIdentity).upd = s.upd := s.entered_same c opGetIdentity .upd (by decide)
    have hfuses : (s.entered c opGetIdentity).fuses = s.fuses := s.entered_same c opGetIdentity .fuses (by decide)
    refine ⟨_, rfl, State.host_answered_of_sess (u := s.entered c opGetIdentity) ht rfl ?_ rfl⟩
    refine (if_pos (by rw [hp]; rfl)).trans ?_
    rw [hupd, hrec, hfuses, s.fld_entered c opGetIdentity (f := F.SYS_ID_TYPE_ID) (by decide),
      s.fld_entered c opGetIdentity (f := F.SYS_ID_STEP_MAJOR) (by decide),
      s.fld_entered c opGetIdentity (f := F.SYS_ID_STEP_MINOR) (by decide),
      s.fld_entered c opGetIdentity (f := F.UPD_VINT_ACT_VINTAGE) (by decide)]
    rfl
  case bulkWrite =>
    intro s c ht h5 hoff hlen hend
    have hrun : opBulkWrite.run (s.entered c opBulkWrite) c.sid.val c.seq.toNat c.payload = _ :=
      doBulkWrite_of_ok c.sid.val c.seq.toNat h5 hoff hlen hend
    have hdram : ∀ o, (s.host c opBulkWrite).dramByte o = _ := (State.host_changesOnly_of_run ht rfl hrun).2.1 .dram (by decide)
    have hentered : ∀ o, (s.entered c opBulkWrite).dramByte o = s.dramByte o := s.entered_same c opBulkWrite .dram (by decide)
    have hspan : rdN c.payload 0 4 + (c.payload.drop 4).length ≤ 0x08000000 := by rw [List.length_drop]; exact hend
    refine ⟨_, rfl, State.host_answered_of_sess ht rfl hrun rfl, fun i hi => ?_, fun o ho => ?_⟩
    · rw [hdram, State.dramByte_dramStore _ _ _ hspan, if_pos ⟨Nat.le_add_right _ _, by rw [List.length_drop]; omega⟩, Nat.add_sub_cancel_left,
        List.getD_eq_getElem?_getD, List.getElem?_drop, List.getD_eq_getElem?_getD]
    · rw [hdram, State.dramByte_dramStore _ _ _ hspan, if_neg (by rw [List.length_drop]; omega), hentered]
  case bulkRead =>
    intro s c ht h8 hoff hlen hmin hmax hend
    have hrun : opBulkRead.run (s.entered c opBulkRead) c.sid.val c.seq.toNat c.payload = _ :=
      doBulkRead_of_ok c.sid.val c.seq.toNat h8 hoff hlen hmin hmax hend
    have hentered : ∀ o, (s.entered c opBulkRead).dramByte o = s.dramByte o := s.entered_same c opBulkRead .dram (by decide)
    have hbytes : bytesAt (s.entered c opBulkRead).dram (rdN c.payload 0 4) (rdN c.payload 4 2)
        = (List.range (rdN c.payload 4 2)).map fun i => s.dramByte (rdN c.payload 0 4 + i) := by
      rw [bytesAt_eq_map]
      exact List.map_congr_left fun i _ => hentered _
    rw [hbytes] at hrun
    exact ⟨_, rfl, State.host_answered_of_sess ht rfl hrun rfl⟩
  case regRead =>
    intro s c ht h4 hm
    have hrun : opRegRead.run (s.entered c opRegRead) c.sid.val c.seq.toNat c.payload = _ :=
      doRegRead_of_mapped c.sid.val c.seq.toNat h4 (by rw [State.mapped_entered]; exact hm)
    exact ⟨_, rfl, State.host_answered_of_events ht rfl hrun (State.readReg_eventsOnly _ _)⟩
  case plain =>
    intro s c ht h4 hm hplain
    have hne : rdN c.payload 0 4 ≠ R.SYS_SVB_STAT := fun h => hplain (by rw [h]; exact List.mem_cons_self)
    have hrun : opRegRead.run (s.entered c opRegRead) c.sid.val c.seq.toNat c.payload = _ :=
      doRegRead_of_mapped c.sid.val c.seq.toNat h4 (by rw [State.mapped_entered]; exact hm)
    rw [State.readReg_plain _ hplain, s.reg_entered c opRegRead hne] at hrun
    exact ⟨_, rfl, State.host_answered_of_sess ht rfl hrun rfl⟩
  case unmapped =>
    intro s c ht h4 hm
    have hrun : opRegRead.run (s.entered c opRegRead) c.sid.val c.seq.toNat c.payload = _ :=
      doRegRead_of_unmapped c.sid.val c.seq.toNat h4 (by rw [State.mapped_entered]; exact hm)
    exact ⟨_, rfl, State.host_answered_of_sess ht rfl hrun rfl⟩
  case block =>
    intro s c as ht h6 hn hmax has hm
    have hrun : opRegReadBlock.run (s.entered c opRegReadBlock) c.sid.val c.seq.toNat c.payload = _ :=
      doRegReadBlock_of_mapped c.sid.val c.seq.toNat h6 hn hmax has (by rw [funext (s.mapped_entered c opRegReadBlock)]; exact hm)
    exact ⟨_, rfl, State.host_answered_of_events ht rfl hrun (State.readBlock_eventsOnly _ _)⟩
  case blockUnmapped =>
    intro s c as ht h6 hn hmax has hm
    have hrun : opRegReadBlock.run (s.entered c opRegReadBlock) c.sid.val c.seq.toNat c.payload = _ :=
      doRegReadBlock_of_unmapped c.sid.val c.seq.toNat h6 hn hmax has (by rw [funext (s.mapped_entered c opRegReadBlock)]; exact hm)
    exact ⟨_, rfl, State.host_answered_of_sess ht rfl hrun rfl⟩
  case regWrite =>
    intro s c ht h8 hacc
    have hrun : opRegWrite.run (s.entered c opRegWrite) c.sid.val c.seq.toNat c.payload = _ :=
      doRegWrite_of_accepted c.sid.val c.seq.toNat h8 hacc
    refine ⟨_, rfl, ?_⟩
    rw [State.host_of_takes s c _ ht, hrun]
    rfl
  case skyAnt =>
    intro s c ht h8 hm ha hrst
    exact ⟨_, rfl, State.regWrite_skyAnt ht h8 hm ha hrst⟩
  case regModify =>
    intro s c ht h12 hacc
    have hrun : opRegModify.run (s.entered c opRegModify) c.sid.val c.seq.toNat c.payload = _ :=
      doRegModify_of_accepted c.sid.val c.seq.toNat h12 hacc
    refine ⟨_, rfl, ?_⟩
    rw [State.host_of_takes s c _ ht, hrun]
    rfl
  case lc =>
    intro s c ht h16 hsig ha hv hact hleft
    exact ⟨_, rfl, State.regWriteLc_floor ht h16 hsig ha hv hact hleft⟩
  case write =>
    intro s a v hs hm hc hlane
    refine ⟨_, rfl, ?_⟩
    rw [if_neg (State.registerWrite_guard hs hm hc), hlane, if_neg (by decide)]
  case laneWrite =>
    intro s a v hs hm hc hlane hany
    refine ⟨_, rfl, ?_⟩
    rw [if_neg (State.registerWrite_guard hs hm hc), hlane, if_pos rfl, if_pos (by rw [Bool.or_eq_true]; exact hany)]
  case running =>
    rintro s die id key rfl rfl hkey hst
    refine ⟨_, rfl, ?_⟩
    rw [s.readTtPos_running hkey hst]
    obtain ⟨hstate, hgen, hstep, hcount⟩ := (s.seqSync key).fld_ttShow (s.genOf (genKey (s.fld F.SYS_TT_SEL_ENGINE)))
      ((s.seqSync key).ttState (s.fld F.SYS_TT_SEL_DIE) (s.fld F.SYS_TT_SEL_ENGINE)).1 ((s.seqSync key).seqOf key).step
      ((s.seqSync key).seqOf key).count
    exact ⟨hstate, hgen, hstep, hcount, s.seqSync_count key⟩
  case standing =>
    rintro s die id key rfl rfl hkey hst _
    obtain ⟨u, heng, hread⟩ := s.readTtPos_standing hkey hst
    refine ⟨_, rfl, ?_⟩
    rw [hread]
    obtain ⟨hstate, hgen, hstep, hcount⟩ := u.fld_ttShow (s.genOf (genKey (s.fld F.SYS_TT_SEL_ENGINE)))
      (s.ttState (s.fld F.SYS_TT_SEL_DIE) (s.fld F.SYS_TT_SEL_ENGINE)).1 (s.seqOf key).step (s.seqOf key).count
    exact ⟨hstate, hgen, hstep, hcount, (u.ttShow_eng _ _ _ _).trans heng⟩
  case absent =>
    rintro s die id rfl rfl hst
    refine ⟨_, rfl, ?_⟩
    rw [s.readTtPos_absent hst]
    exact s.fld_ttShow 0 15 0 0
  case cntClr =>
    exact fun s => ⟨_, rfl, (s.reg_resetRegs_mem _ _ (by decide)).trans (by decide +kernel), rfl⟩
  case disable =>
    intro s i hi
    refine ⟨_, rfl, ?_⟩
    rw [if_neg hi]
    have hmem : i.val ∈ [1, 2, 3] := by
      have := i.isLt
      simp only [List.mem_cons, List.not_mem_nil, or_false]
      omega
    generalize hs : s.setFld F.SYS_SVB_CTL_UDP_EN (withBit (s.fld F.SYS_SVB_CTL_UDP_EN) (i.val - 1) false) = t
    have hoff : t.udpEnabled i.val = false := by
      rw [← hs, State.udpEnabled, State.fld_setFld_same _ _ _ (by decide), bit, Nat.testBit_mod_two_pow, testBit_withBit_same,
        Bool.and_false]
    exact ⟨by rw [State.udpEnabled_of_changesOnly t.udpDue_changesOnly (by decide), hoff], State.udpSteps_close _ hoff (.inl hmem)⟩

end Sys2Proof.Machine
end

section
/-! SUPPORT. The sky baseband: its tables of channels and trackers, its registers, and what its events leave. -/

namespace Sys2Proof

/-- A table reads its default, or a value that it lists. -/
theorem Tbl.get_eq_or_mem {α : Type} (d : α) (t : Tbl α) (k : Nat) : Tbl.get d t k = d ∨ (k, Tbl.get d t k) ∈ t := by
  induction t with
  | nil => exact .inl rfl
  | cons p t ih =>
    unfold Tbl.get
    split
    · next h => exact .inr (List.mem_cons.mpr (.inl (Prod.ext h.symm rfl)))
    · exact ih.imp id (List.mem_cons_of_mem _)

theorem withBit_lt {v n k : Nat} (hv : v < 2 ^ k) (hn : n < k) (b : Bool) : withBit v n b < 2 ^ k := by
  unfold withBit
  split
  · exact hv
  · exact Nat.xor_lt_two_pow hv (Nat.pow_lt_pow_right (by decide) hn)

namespace Machine

theorem State.fld_lt (s : State) (f : Fld) : s.fld f < 2 ^ f.width := Nat.mod_lt _ (by positivity)

/-- A field reads the registers. -/
theorem State.fld_of_regs {s t : State} (h : t.regs = s.regs) (f : Fld) : t.fld f = s.fld f := by
  rw [State.fld, State.fld, State.reg, State.reg, h]

/-! ### Events of the sky baseband -/

section
variable (s : State)

theorem State.antEvent_frame : s.changesOnly s.antEvent busParts busRegs [] := s.raise_hub_changesOnly _ _ (by decide) (by decide)

theorem State.antEvent_pend : bit s.antEvent.pend Ev.skyAnt = true := State.raise_pend (by decide) (by decide) _ _ (by decide)

theorem State.itfEvent_frame (band cause : Nat) : s.changesOnly (s.itfEvent band cause) busParts busRegs [] :=
  s.raise_hub_changesOnly _ _ (by decide) (by decide)

theorem State.itfEvent_pend (band cause : Nat) : bit (s.itfEvent band cause).pend Ev.skyItf = true :=
  State.raise_pend (by decide) (by decide) _ _ (by decide)

theorem State.gradeEvent_frame (c grade checks : Nat) : s.changesOnly (s.gradeEvent c grade checks) busParts busRegs [] :=
  s.raise_hub_changesOnly _ _ (by decide) (by decide)

theorem State.gradeEvent_pend (c grade checks : Nat) : bit (s.gradeEvent c grade checks).pend Ev.skyGrade = true :=
  State.raise_pend (by decide) (by decide) _ _ (by decide)

@[simp] theorem State.antEvent_sky : s.antEvent.sky = s.sky := s.antEvent_frame.2.1 .sky (by decide)

@[simp] theorem State.itfEvent_sky (band cause : Nat) : (s.itfEvent band cause).sky = s.sky :=
  (s.itfEvent_frame band cause).2.1 .sky (by decide)

@[simp] theorem State.gradeEvent_sky (c grade checks : Nat) : (s.gradeEvent c grade checks).sky = s.sky :=
  (s.gradeEvent_frame c grade checks).2.1 .sky (by decide)
end

/-! ### The antenna (R59) -/

section
variable (s : State)

/-- SKY_ANT with a current sensed, classed `v`. -/
def State.antShow (current v : Nat) : State := (s.setFld F.SKY_ANT_CURRENT (min current 65535)).setFld F.SKY_ANT_SENSE v

theorem State.antShow_sense (current : Nat) {v : Nat} (hv : v < 4) : (s.antShow current v).fld F.SKY_ANT_SENSE = v :=
  (State.fld_setFld_same _ _ _ (by decide)).trans (Nat.mod_eq_of_lt hv)

theorem State.antShow_current (current v : Nat) : (s.antShow current v).fld F.SKY_ANT_CURRENT = min current 65535 := by
  rw [State.antShow, State.fld_setFld_other _ F.SKY_ANT_SENSE F.SKY_ANT_CURRENT _ rfl (by decide) (by decide),
    State.fld_setFld_same _ _ _ (by decide)]
  exact Nat.mod_eq_of_lt (show min current 65535 < 2 ^ 16 by omega)

variable {i : Nat}

theorem State.antSense_open (hi : i < 30) :
    s.antSense i = if s.fld F.SKY_ANT_SENSE = 1 then s.antShow i 1 else (s.antShow i 1).antEvent := if_pos hi

/-- SKY_ANT shows a short, and the bias is off from now on. -/
def State.antOff (current : Nat) : State :=
  { s.antShow current 2 with sky := { (s.antShow current 2).sky with biasRetry := (s.antShow current 2).el } }

theorem State.antSense_short (hi : 1000 ≤ i) :
    s.antSense i = if s.fld F.SKY_ANT_SENSE = 2 then s.antOff i else (s.antOff i).antEvent := by
  unfold State.antSense
  dsimp only
  rw [if_neg (by omega), if_pos hi]
  rfl

theorem State.fld_antOff (current : Nat) (f : Fld) : (s.antOff current).fld f = (s.antShow current 2).fld f :=
  State.fld_of_regs (by rw [State.antOff]) f

theorem State.antOff_biasRetry (current : Nat) : (s.antOff current).sky.biasRetry = s.el := by
  rw [State.antOff, State.antShow, State.el, State.setFld_time, State.setFld_time, State.el]

theorem State.antSense_normal (h30 : 30 ≤ i) (hi : i < 1000) : s.antSense i = s.antShow i 0 := by
  unfold State.antSense
  dsimp only
  rw [if_neg (by omega), if_neg (by omega)]
  rfl

/-- A current that shows an open antenna. -/
theorem State.antSense_open_shows (hi : i < 30) :
    (s.antSense i).fld F.SKY_ANT_SENSE = 1 ∧ (s.antSense i).fld F.SKY_ANT_CURRENT = min i 65535 ∧
      (s.fld F.SKY_ANT_SENSE ≠ 1 → bit (s.antSense i).pend Ev.skyAnt = true) := by
  have hframe := (s.antShow i 1).antEvent_frame
  rw [s.antSense_open hi]
  split
  · next h => exact ⟨s.antShow_sense i (by decide), s.antShow_current i 1, fun hne => absurd h hne⟩
  · exact ⟨(State.fld_of_changesOnly hframe _ (by decide)).trans (s.antShow_sense i (by decide)),
      (State.fld_of_changesOnly hframe _ (by decide)).trans (s.antShow_current i 1), fun _ => State.antEvent_pend _⟩

/-- A current that shows a short. -/
theorem State.antSense_short_shows (hi : 1000 ≤ i) :
    (s.antSense i).fld F.SKY_ANT_SENSE = 2 ∧ (s.antSense i).fld F.SKY_ANT_CURRENT = min i 65535 ∧ (s.antSense i).sky.biasRetry = s.el ∧
      (s.fld F.SKY_ANT_SENSE ≠ 2 → bit (s.antSense i).pend Ev.skyAnt = true) := by
  have hsense : (s.antOff i).fld F.SKY_ANT_SENSE = 2 := by rw [State.fld_antOff, s.antShow_sense i (by decide)]
  have hcurrent : (s.antOff i).fld F.SKY_ANT_CURRENT = min i 65535 := by rw [State.fld_antOff, State.antShow_current]
  have hframe := (s.antOff i).antEvent_frame
  rw [s.antSense_short hi]
  split
  · next h => exact ⟨hsense, hcurrent, s.antOff_biasRetry i, fun hne => absurd h hne⟩
  · exact ⟨(State.fld_of_changesOnly hframe _ (by decide)).trans hsense,
      (State.fld_of_changesOnly hframe _ (by decide)).trans hcurrent, by rw [State.antEvent_sky, State.antOff_biasRetry],
      fun _ => State.antEvent_pend _⟩

theorem State.antSense_normal_shows (h30 : 30 ≤ i) (hi : i < 1000) :
    (s.antSense i).fld F.SKY_ANT_SENSE = 0 ∧ (s.antSense i).fld F.SKY_ANT_CURRENT = min i 65535 := by
  rw [s.antSense_normal h30 hi]
  exact ⟨s.antShow_sense i (by decide), s.antShow_current i 0⟩
end

/-! ### Notches and conditions (R61, R62) -/

section
variable (s : State) {b : Nat} (hb : b < 2)
include hb

/-- NOTCH of a band takes a bit. -/
theorem State.fld_setNotch {n : Nat} (hn : n < 4) (on : Bool) : (s.setNotch b n on).fld (fNotch b) = withBit (s.fld (fNotch b)) n on := by
  have hlow : ∀ (t : State) k since f, (t.setNotchLow k since).fld f = t.fld f := fun _ _ _ _ => rfl
  rw [State.setNotch, hlow, State.fld_setFld_same _ _ _ (show 16 * b + 4 + 4 ≤ 32 by omega)]
  exact Nat.mod_eq_of_lt (withBit_lt (s.fld_lt (fNotch b)) hn on)

theorem State.fld_setBlank_setGain (blank gain : Nat) :
    ((s.setFld (fBlank b) blank).setFld (fGain b) gain).fld (fBlank b) = blank % 16 ∧
      ((s.setFld (fBlank b) blank).setFld (fGain b) gain).fld (fGain b) = gain % 256 := by
  have hgain : (fGain b).lo + (fGain b).width ≤ 32 := show 16 * b + 8 + 8 ≤ 32 by omega
  have hblank : (fBlank b).lo + (fBlank b).width ≤ 32 := show 16 * b + 4 ≤ 32 by omega
  constructor
  · rw [State.fld_setFld_other _ (fGain b) (fBlank b) _ rfl hgain (.inl (show 16 * b + 4 ≤ 16 * b + 8 by omega))]
    exact State.fld_setFld_same _ _ _ hblank
  · exact State.fld_setFld_same _ _ _ hgain
end

/-! ### Channels and trackers -/

section
variable (s : State)

@[simp] theorem State.syncTrack_sky : s.syncTrack.sky = s.sky := by
  unfold State.syncTrack
  dsimp only
  split
  · exact State.setFld_sky _ _ _
  · rw [State.setFld_sky, State.setFld_sky]

/-- Counting the channels in code lock writes SKY_STAT. -/
theorem State.syncTrack_changesOnly {ps : List Part} {rs : List Nat} {bs : List Block} (h : R.SKY_STAT ∈ rs) :
    s.changesOnly s.syncTrack ps rs bs := by
  have ht : ∀ n, s.changesOnly (s.setFld F.SKY_STAT_TRACK n) ps rs bs := fun n => s.setFld_changesOnly _ n (.inl h)
  exact State.ite_changesOnly (ht _) (State.setFld_then _ _ (ht _) h)

theorem State.sky_changesOnly (x : Sky) {ps : List Part} {rs : List Nat} {bs : List Block} (h : Part.sky ∈ ps) :
    s.changesOnly { s with sky := x } ps rs bs :=
  State.changesOnly_part .sky h (fun q hq => by cases q <;> simp_all [Part.same, State.dramByte]) rfl rfl

theorem State.setChan_changesOnly (c : Nat) (v : Channel) {ps : List Part} {rs : List Nat} {bs : List Block} (h : Part.sky ∈ ps) :
    s.changesOnly (s.setChan c v) ps rs bs := s.sky_changesOnly _ h

theorem State.setTracker_changesOnly (c b : Nat) (v : Tracker) {ps : List Part} {rs : List Nat} {bs : List Block} (hp : Part.sky ∈ ps)
    (hr : R.SKY_STAT ∈ rs) : s.changesOnly (s.setTracker c b v) ps rs bs :=
  State.changesOnly_trans (s.sky_changesOnly _ hp) (State.syncTrack_changesOnly _ hr)

@[simp] theorem State.setTracker_sky (c b : Nat) (v : Tracker) :
    (s.setTracker c b v).sky = { s.sky with trk := Tbl.put Tracker.zero s.sky.trk (2 * c + b) v } := State.syncTrack_sky _

@[simp] theorem State.tracker_setTracker_same (c b : Nat) (v : Tracker) : (s.setTracker c b v).tracker c b = v := by
  rw [State.tracker, State.setTracker_sky]
  exact Tbl.get_put_same _ _ _ _

theorem State.tracker_setTracker_other (c d : Nat) {a b : Nat} (v : Tracker) (h : 2 * c + a ≠ 2 * d + b) :
    (s.setTracker c a v).tracker d b = s.tracker d b := by
  rw [State.tracker, State.setTracker_sky]
  exact Tbl.get_put_other _ _ _ _ _ _ h

@[simp] theorem State.chan_setTracker (c b : Nat) (v : Tracker) (k : Nat) : (s.setTracker c b v).chan k = s.chan k := by
  rw [State.chan, State.setTracker_sky, State.chan]

@[simp] theorem State.tracker_setChan (c : Nat) (v : Channel) (k b : Nat) : (s.setChan c v).tracker k b = s.tracker k b := rfl

@[simp] theorem State.chan_setChan_same (c : Nat) (v : Channel) : (s.setChan c v).chan c = v := Tbl.get_put_same _ _ _ _

theorem State.chan_setChan_other (c k : Nat) (v : Channel) (h : c ≠ k) : (s.setChan c v).chan k = s.chan k :=
  Tbl.get_put_other _ _ _ _ _ _ h

/-- A channel that holds something is listed. -/
theorem State.chan_eq_or_mem (k : Nat) : s.chan k = {} ∨ (k, s.chan k) ∈ s.sky.chans := Tbl.get_eq_or_mem _ _ _

/-- A release empties its channel and no other (R63). -/
theorem State.chan_releaseChan (c k : Nat) : (s.releaseChan c).chan k = if k = c then {} else s.chan k := by
  unfold State.releaseChan
  rw [State.chan_setTracker, State.chan_setTracker]
  split
  · next h =>
    subst h
    exact State.chan_setChan_same _ _ _
  · next h => exact State.chan_setChan_other _ _ _ _ (Ne.symm h)

theorem State.chan_releaseChans (l : List Nat) (k : Nat) :
    (l.foldl (fun t c => t.releaseChan c) s).chan k = if k ∈ l then {} else s.chan k := by
  induction l generalizing s with
  | nil => rfl
  | cons c l ih =>
    rw [List.foldl_cons, ih, State.chan_releaseChan]
    by_cases hl : k ∈ l <;> by_cases hc : k = c <;> simp [hl, hc]

theorem State.releaseChan_changesOnly (c : Nat) {ps : List Part} {rs : List Nat} {bs : List Block} (hp : Part.sky ∈ ps)
    (hr : R.SKY_STAT ∈ rs) : s.changesOnly (s.releaseChan c) ps rs bs :=
  State.changesOnly_trans (State.changesOnly_trans (s.setChan_changesOnly _ _ hp) (State.setTracker_changesOnly _ _ _ _ hp hr))
    (State.setTracker_changesOnly _ _ _ _ hp hr)
end

end Machine

end Sys2Proof
end

section
/-! PROOF. The antenna, notches, interference conditions and sky restarts. -/

namespace Sys2Proof.Machine

/-! ### Notches (R61) -/

section
variable (s : State)

theorem State.setNotchLow_get (k : Nat) (since : Option Nat) : Tbl.get none (s.setNotchLow k since).sky.notchLow k = since :=
  Tbl.get_put_same _ _ _ _

/-- `s` with the frequency that a notch tracks. -/
def State.setNotchFreq (k : Nat) (f : Int) : State := { s with sky := { s.sky with notchFreq := Tbl.put 0 s.sky.notchFreq k f } }

theorem State.setNotchFreq_get (k : Nat) (f : Int) : Tbl.get 0 (s.setNotchFreq k f).sky.notchFreq k = f := Tbl.get_put_same _ _ _ _

/-- Engaging or releasing a notch changes no frequency. -/
theorem State.setNotch_notchFreq (b n : Nat) (on : Bool) : (s.setNotch b n on).sky.notchFreq = s.sky.notchFreq := by
  have hlow : ∀ (t : State) k since, (t.setNotchLow k since).sky.notchFreq = t.sky.notchFreq := fun _ _ _ => rfl
  rw [State.setNotch, hlow, State.setFld_sky]

/-- A spectral line above the threshold on an enabled notch. -/
theorem State.execNotchEngage_of_line {b : Fin 2} {n : Fin 4} {lv : Nat} {f : Int} (hen : bit (s.fld F.SKY_ITF_NOTCH_EN) n.val = true)
    (hruns : s.skyRuns = true) (hlv : s.fld F.SKY_ITF_NOTCH_THR < lv) (hf : f.natAbs ≤ 40920000) :
    execNotchEngage b n lv f s = .next (if bit (s.fld (fNotch b.val)) n.val = true
      then (s.setNotchFreq (4 * b.val + n.val) f).setNotchLow (4 * b.val + n.val) none
      else ((s.setNotchFreq (4 * b.val + n.val) f).setNotch b.val n.val true).itfEvent b.val 0) := by
  have hcond : (!bit (s.fld F.SKY_ITF_NOTCH_EN) n.val || !s.skyRuns || decide (lv ≤ s.fld F.SKY_ITF_NOTCH_THR) || decide (40920000 < f.natAbs))
      = false := by
    simp [hen, hruns, hlv, hf]
  unfold execNotchEngage
  dsimp only
  rw [hcond]
  rfl
end

/-! ### Interference conditions (R62) -/

/-- Ten milliseconds of samples: the share blanked and the gain are shown and the conditions noted; each condition that comes to hold is an
event. -/
theorem State.execInterferenceCondition_of_samples (s : State) {b : Fin 2} {l : List (Int × Int)} {n g : Nat} (hruns : s.skyRuns = true)
    (hl : l ≠ []) (hn : n = (blanked (s.fld F.SKY_ITF_BLANK_THR) (orOne (s.fld F.SKY_ITF_BLANK_EXT)) 0 l).2)
    (hg : g = (clampI 0 255 ((s.fld (fGain b.val) : Int) + agcSteps (s.fld F.SKY_ITF_AGC_TGT) l)).toNat) (blank step : Bool)
    (hblank : blank = decide (20 * l.length < 100 * n))
    (hstep : step = (Tbl.get [] s.sky.gains b.val).any fun x => decide (s.el < x.1 + oneSec) && decide (12 < g - x.2 ∨ 12 < x.2 - g)) :
    ∃ u : State, (∀ f, u.fld f = ((s.setFld (fBlank b.val) (min 15 (20 * n / l.length))).setFld (fGain b.val) g).fld f) ∧
      u.sky.itf = withBit (withBit s.sky.itf (2 * b.val) blank) (2 * b.val + 1) step ∧
      ∃ v, v = (if (blank && !bit s.sky.itf (2 * b.val)) = true then u.itfEvent b.val 1 else u) ∧
        execInterferenceCondition b l s
          = .next (if (step && !bit s.sky.itf (2 * b.val + 1)) = true then v.itfEvent b.val 2 else v) := by
  have hcond : (!s.skyRuns || l.isEmpty) = false := by simp [hruns, hl]
  unfold execInterferenceCondition
  extract_lets b' n' gain past isBlank isStep t itf sky u v
  obtain rfl : n = n' := hn
  obtain rfl : g = gain := hg
  obtain rfl : blank = isBlank := hblank
  obtain rfl : step = isStep := hstep.trans List.any_filter.symm
  have hregs : u.regs = t.regs := by dsimp only [u]
  have hu : ∀ f, u.fld f = t.fld f := State.fld_of_regs hregs
  refine ⟨u, hu, rfl, v, rfl, ?_⟩
  rw [hcond, if_neg (by decide)]

theorem State.itfEvent_ite (u : State) (c : Bool) (b k : Nat) :
    (∀ f : Fld, f.addr = R.SKY_ITF_STAT → (if c = true then u.itfEvent b k else u).fld f = u.fld f) ∧
      (if c = true then u.itfEvent b k else u).sky = u.sky := by
  cases c
  · exact ⟨fun _ _ => rfl, rfl⟩
  · exact ⟨fun f hf => State.fld_of_changesOnly (u.itfEvent_frame b k) f (by rw [hf]; decide), u.itfEvent_sky b k⟩

/-! ### Restarts (R92) -/

/-- Settles O11: each row by the branch that its hypotheses select. -/
theorem antennaAndInterferenceEventsComplete : Obligations.AntennaAndInterferenceEventsComplete := by
  refine ⟨?opens, ?short, ?retry, ?normal, ?engage, ?follow, ?stays, ?above, ?below, ?release, ?waits, ?off, ?condition, ?cold, ?hot⟩
  case opens =>
    intro s i hon hne hi
    obtain ⟨hsense, hcurrent, hpend⟩ := s.antSense_open_shows hi
    refine ⟨_, congrArg Host.Outcome.next (if_pos (by simp [hon, hne, hi])), ?_⟩
    exact ⟨hsense, hcurrent.trans (by omega), hpend⟩
  case short =>
    intro s i hon hne hi
    obtain ⟨hsense, hcurrent, hretry, hpend⟩ := s.antSense_short_shows hi
    refine ⟨_, congrArg Host.Outcome.next (if_pos (by simp [hon, hne, hi])), ?_⟩
    exact ⟨hsense, hcurrent, hretry, hpend hne⟩
  case retry =>
    intro s i hon hoff hel
    refine ⟨_, congrArg Host.Outcome.next (if_pos (by simp [hon, hoff, (s.passed_iff _ _).mpr hel])), ?_⟩
    by_cases h30 : i < 30
    · obtain ⟨hsense, hcurrent, -⟩ := s.antSense_open_shows h30
      exact ⟨hsense.trans (if_pos h30).symm, hcurrent, fun h => absurd h (by omega)⟩
    · rw [if_neg h30]
      by_cases h1000 : 1000 ≤ i
      · obtain ⟨hsense, hcurrent, hretry, -⟩ := s.antSense_short_shows h1000
        exact ⟨hsense.trans (if_pos h1000).symm, hcurrent, fun _ => hretry⟩
      · obtain ⟨hsense, hcurrent⟩ := s.antSense_normal_shows (Nat.le_of_not_lt h30) (Nat.lt_of_not_le h1000)
        exact ⟨hsense.trans (if_neg h1000).symm, hcurrent, fun h => absurd h h1000⟩
  case normal =>
    intro s i hon hne h30 hi
    obtain ⟨hsense, hcurrent⟩ := s.antSense_normal_shows h30 hi
    refine ⟨_, congrArg Host.Outcome.next (if_pos (by simp [hon, hne, h30, hi])), ?_⟩
    exact ⟨hsense, hcurrent.trans (by omega)⟩
  case engage =>
    intro s b n lv f hen hruns hlv hf hoff
    have hframe := ((s.setNotchFreq (4 * b.val + n.val) f).setNotch b.val n.val true).itfEvent_frame b.val 0
    refine ⟨_, s.execNotchEngage_of_line hen hruns hlv hf, ?_⟩
    rw [if_neg (by simp [hoff])]
    refine ⟨?_, ?_, State.itfEvent_pend _ _ _⟩
    · rw [State.fld_of_changesOnly hframe _ (show R.SKY_ITF_STAT ∉ busRegs by decide), State.fld_setNotch _ b.isLt n.isLt]
      rfl
    · rw [State.itfEvent_sky, State.setNotch_notchFreq, State.setNotchFreq_get]
  case follow =>
    intro s b n lv f hen hruns hlv hf hon
    refine ⟨_, s.execNotchEngage_of_line hen hruns hlv hf, ?_⟩
    rw [if_pos hon]
    exact ⟨rfl, s.setNotchFreq_get _ _, State.setNotchLow_get _ _ _⟩
  case stays =>
    intro s b n lv f h
    exact ⟨_, rfl, if_pos (by simpa [or_assoc] using h)⟩
  case above =>
    intro s b n lv hon hlv
    refine ⟨_, rfl, ?_⟩
    rw [hon, if_neg (by decide), if_pos hlv]
    exact ⟨rfl, s.setNotchLow_get _ _⟩
  case below =>
    intro s b n lv hon hlv hlow
    refine ⟨_, rfl, ?_⟩
    rw [hon, if_neg (by decide), if_neg (by omega), hlow]
    exact ⟨rfl, s.setNotchLow_get _ _⟩
  case release =>
    intro s b n lv since hon hlv hlow hel
    refine ⟨_, rfl, ?_⟩
    rw [hon, if_neg (by decide), if_neg (by omega), hlow]
    dsimp only
    rw [if_pos ((s.passed_iff _ _).mpr hel), State.fld_setNotch _ b.isLt n.isLt]
    exact ⟨testBit_withBit_same _ _ _, fun k _ hk => testBit_withBit_other _ _ _ _ hk.symm⟩
  case waits =>
    intro s b n lv since hon hlv hlow hel
    refine ⟨_, rfl, ?_⟩
    rw [hon, if_neg (by decide), if_neg (by omega), hlow]
    exact if_neg fun h => hel.not_ge ((s.passed_iff _ _).mp h)
  case off =>
    intro s b n lv hoff
    exact ⟨_, rfl, if_pos (by rw [hoff]; rfl)⟩
  case condition =>
    rintro s b l n g hruns hl hn hg
    obtain ⟨u, hfld, hitf, v, hv, hexec⟩ := s.execInterferenceCondition_of_samples hruns hl hn hg _ _ rfl rfl
    refine ⟨_, hexec, ?_⟩
    obtain ⟨hvfld, hvsky⟩ : (∀ f : Fld, f.addr = R.SKY_ITF_STAT → v.fld f = u.fld f) ∧ v.sky = u.sky := by
      rw [hv]
      exact u.itfEvent_ite _ _ _
    generalize (Tbl.get [] s.sky.gains b.val).any _ = step at hitf ⊢
    generalize hblank : decide (20 * l.length < 100 * n) = blank at hv hitf ⊢
    obtain ⟨htfld, htsky⟩ := v.itfEvent_ite (step && !bit s.sky.itf (2 * b.val + 1)) b.val 2
    obtain ⟨hshare, hgain⟩ := s.fld_setBlank_setGain b.isLt (min 15 (20 * n / l.length)) g
    have hg256 : g < 256 := by
      have : clampI 0 255 ((s.fld (fGain b.val) : Int) + agcSteps (s.fld F.SKY_ITF_AGC_TGT) l) ≤ 255 := by
        unfold clampI
        omega
      omega
    rw [htfld _ rfl, hvfld _ rfl, hfld, htfld _ rfl, hvfld _ rfl, hfld, htsky, hvsky, hitf, hshare, hgain]
    refine ⟨Nat.mod_eq_of_lt ((min_le_left _ _).trans_lt (by decide)), Nat.mod_eq_of_lt hg256, ?_, testBit_withBit_same _ _ _, ?_⟩
    · exact (testBit_withBit_other _ _ _ _ (by omega)).trans (testBit_withBit_same _ _ _)
    · rintro ⟨hover, hwas⟩
      rw [hwas, ← hblank, decide_eq_true hover, if_pos (by decide)] at hv
      split
      · exact State.itfEvent_pend _ _ _
      · rw [hv]
        exact State.itfEvent_pend _ _ _
  case cold =>
    intro s
    refine ⟨_, rfl, ?_⟩
    unfold State.skyCold
    extract_lets t sky u
    have hchan : ∀ k, u.chan k = {} := fun k => by
      have hu : u.chan k = t.chan k := rfl
      have ht : t.chan k = _ := s.chan_releaseChans _ k
      rw [hu, ht]
      split
      · rfl
      · next h => exact (s.chan_eq_or_mem k).resolve_right fun hm => h (List.mem_map_of_mem hm)
    have hsky : ((u.setFld F.SKY_STAT_TRACK 0).setFld F.SKY_STAT_STATE 1).sky = u.sky := by rw [State.setFld_sky, State.setFld_sky]
    refine ⟨by rw [hsky], by rw [hsky], by rw [hsky], by rw [hsky], State.fld_setFld_same _ _ _ (by decide), ?_, fun k _ => ?_⟩
    · rw [State.fld_setFld_other _ F.SKY_STAT_STATE F.SKY_STAT_TRACK _ rfl (by decide) (by decide), State.fld_setFld_zero _ _ (by decide)]
    · rw [State.chan, hsky]
      exact hchan k
  case hot =>
    intro s
    refine ⟨_, rfl, ?_⟩
    have hsky : s.skyRestart.sky = { s.sky with trk := s.sky.trk.map fun p => (p.1, p.2.lost) } := by
      rw [State.skyRestart, State.setFld_sky, State.reacquire, State.setFld_sky]
    refine ⟨State.fld_setFld_same _ _ _ (by decide), ?_, fun p hp => ?_, by rw [hsky], by rw [hsky]⟩
    · rw [State.skyRestart, State.fld_setFld_other _ F.SKY_STAT_STATE F.SKY_STAT_TRACK _ rfl (by decide) (by decide), State.reacquire,
        State.fld_setFld_zero _ _ (by decide)]
    · rw [hsky] at hp
      obtain ⟨q, -, rfl⟩ := List.mem_map.mp hp
      exact ⟨by unfold Tracker.lost; dsimp only; split <;> decide, rfl, rfl⟩

end Sys2Proof.Machine
end

section
/-! PROOF. Acquisition, handover, loops, side peaks and losses of lock. -/

namespace Sys2Proof.Machine

/-! ### Channels and trackers -/

section
variable (s : State)

/-- The two trackers of a channel are two entries. -/
theorem State.tracker_setTracker_band (c : Nat) {a b : Nat} (v : Tracker) (h : a ≠ b) : (s.setTracker c a v).tracker c b = s.tracker c b :=
  s.tracker_setTracker_other c c v (by omega)

/-- A pull-in touches no channel, nor the tracker of the other band. -/
theorem State.chan_pullIn (c b signal : Nat) (doppler code : Int) (k : Nat) : (s.pullIn c b signal doppler code).chan k = s.chan k :=
  State.chan_setTracker _ _ _ _ _

theorem State.releaseChan_trackers (c : Nat) : (s.releaseChan c).tracker c 0 = {} ∧ (s.releaseChan c).tracker c 1 = {} := by
  unfold State.releaseChan
  refine ⟨?_, State.tracker_setTracker_same _ _ _ _⟩
  rw [State.tracker_setTracker_band _ _ _ (by decide)]
  exact State.tracker_setTracker_same _ _ _ _
end

/-! ### Acquisition and release (R63, R66) -/

section
variable (s : State) {ch : Fin 128}

/-- The channel that a detection gives its satellite. -/
def State.newChannel (a : AcqIn) : Channel :=
  { busy := true, system := a.system.val, svid := a.svid.toNat
    elev := ((s.predicted (s.orbit (satKey a.system.val a.svid.toNat)) s.now).map (·.elev)).getD 0
    azim := ((s.predicted (s.orbit (satKey a.system.val a.svid.toNat)) s.now).map (·.azim)).getD 0 }

/-- The tracker of a channel's L1 band begins its pull-in from a detection. -/
def State.acquire (a : AcqIn) (c : Nat) : State := s.pullIn c 0 (l1Signal a.system.val) a.doppler ((a.code : Int) * 2 ^ 38)

variable {a : AcqIn} (hruns : s.skyRuns = true) (hsys : bit (s.fld F.SKY_CTL_SYS_EN) a.system.val = true) (hconf : confirmed a = true)
  (hsearch : s.inSearch a (satKey a.system.val a.svid.toNat) = true)
include hruns hsys hconf hsearch

/-- A detection of a satellite that no channel holds, with a channel free for it. -/
theorem State.execSatelliteAcquired_new (hfree : (s.chan ch.val).busy = false)
    (hheld : (s.sky.chans.any fun p => p.2.busy && p.2.sat == satKey a.system.val a.svid.toNat) = false)
    (hgets : s.getsChannel (satKey a.system.val a.svid.toNat) = true) :
    execSatelliteAcquired ch a s = .next (if s.sky.lockedOut.contains (satKey a.system.val a.svid.toNat) = true
      then ((s.setChan ch.val (s.newChannel a)).acquire a ch.val).gradeEvent ch.val 3 0
      else (s.setChan ch.val (s.newChannel a)).acquire a ch.val) := by
  unfold execSatelliteAcquired
  extract_lets k c free again p t u
  have hf : free = true := by rw [show free = (!c.busy && _ && _) from rfl, show c.busy = false from hfree, hheld, hgets]; rfl
  have ha : again = false := by rw [show again = (c.busy && _ && _) from rfl, show c.busy = false from hfree]; rfl
  have ht : t = s.setChan ch.val (s.newChannel a) := if_neg (by rw [ha]; decide)
  rw [hruns, hsys, hf, ha, hconf, hsearch, if_pos (by decide), show u = t.acquire a ch.val from rfl, ht, Bool.not_false, Bool.and_true]

/-- A detection of a satellite that the channel has held since its loss of code lock. -/
theorem State.execSatelliteAcquired_again (hbusy : (s.chan ch.val).busy = true)
    (hsat : (s.chan ch.val).sat = satKey a.system.val a.svid.toNat) (hst : (s.tracker ch.val 0).state ≤ 1) :
    execSatelliteAcquired ch a s = .next (s.acquire a ch.val) := by
  unfold execSatelliteAcquired
  extract_lets k c free again p t u
  have ha : again = true := by
    rw [show again = (c.busy && c.sat == k && _) from rfl, show c.busy = true from hbusy, show c.sat = k from hsat, decide_eq_true hst,
      beq_self_eq_true]
    rfl
  have ht : t = s := if_pos ha
  rw [hruns, hsys, ha, hconf, hsearch, Bool.or_true, if_pos (by decide), show u = t.acquire a ch.val from rfl, ht, Bool.not_true,
    Bool.and_false, if_neg (by decide)]

omit hruns hsys hconf hsearch in
/-- A channel whose satellite has set for 30 s, or whose system is disabled, is released. -/
theorem State.execChannelRelease_of_gone (hbusy : (s.chan ch.val).busy = true)
    (h : (s.chan ch.val).setAt.any (fun t0 => s.passed t0 (30 * oneSec)) = true
      ∨ bit (s.fld F.SKY_CTL_SYS_EN) (s.chan ch.val).system = false) : execChannelRelease ch s = .next (s.releaseChan ch.val) := by
  unfold execChannelRelease
  extract_lets c set
  have hset : set = (s.chan ch.val).setAt.any fun t0 => s.passed t0 (30 * oneSec) := by
    dsimp only [set, c]
    cases (s.chan ch.val).setAt with
    | none => rw [Option.any_none]
    | some t0 => rw [Option.any_some]
  have hgone : (set || !bit (s.fld F.SKY_CTL_SYS_EN) c.system) = true := by
    rw [Bool.or_eq_true, hset]
    exact h.imp id fun hoff => by rw [hoff]; rfl
  rw [hgone, show c.busy = true from hbusy]
  rfl
end

section
variable (s : State)

theorem State.tracker_acquire (a : AcqIn) (c : Nat) : (s.acquire a c).tracker c 0 =
    { signal := l1Signal a.system.val, state := 2, tMs := codePeriod (l1Signal a.system.val), fll := true, doppler := a.doppler
      vel := a.doppler * 2 ^ 20, code := (a.code : Int) * 2 ^ 38, ncoAt := s.el
      codeRate := a.doppler * 256 / (carrierOf (l1Signal a.system.val) / codeRateOf (l1Signal a.system.val) : Nat)
      cslip := (s.tracker c 0).cslip } := by
  rw [State.acquire, State.pullIn, State.tracker_setTracker_same]

theorem State.acquire_sky (a : AcqIn) (c : Nat) : (s.acquire a c).sky = { s.sky with trk := (s.acquire a c).sky.trk } := by
  rw [State.acquire, State.pullIn, State.setTracker_sky]
end

/-! ### The loops and losses of lock (R65, R69 to R79) -/

/-- A tracker whose code phase a side-peak correction has moved. -/
def Tracker.moved (t : Tracker) (el : Nat) (d : Int) : Tracker :=
  { t with code := t.code + d, peakAt := el, integ := [], cslip := (t.cslip + 1) % 256 }

/-- A tracker whose loops have closed shows the lock that they found. -/
def Tracker.relocked (u : Tracker) (locked : Bool) : Tracker :=
  if locked then { u with state := 4 } else if u.state = 4 then u.carrierLost else { u with state := max 3 u.state }

theorem Tracker.relocked_fields (u : Tracker) (locked : Bool) :
    (u.relocked locked).integ = u.integ ∧ (u.relocked locked).cn0 = u.cn0 ∧ (u.relocked locked).dllBw = u.dllBw ∧
      (u.relocked locked).tMs = u.tMs ∧ (u.relocked locked).doppler = u.doppler ∧ (u.relocked locked).codeRate = u.codeRate ∧
      (u.relocked locked).code = u.code ∧ (u.relocked locked).carrier = u.carrier ∧ (u.relocked locked).ncoAt = u.ncoAt ∧
      (u.relocked locked).state = (if locked = true then 4 else if u.state = 4 then 3 else max 3 u.state) ∧
      (u.relocked locked).cslip = (if u.state = 4 ∧ ¬ locked = true then (u.cslip + 1) % 256 else u.cslip) := by
  unfold Tracker.relocked
  cases locked with
  | true => simp
  | false =>
    by_cases h : u.state = 4
    · simp [h, Tracker.carrierLost]
    · simp [h]

theorem State.setTracker_relocked (s : State) (c b : Nat) (u : Tracker) (locked : Bool) :
    (if locked then s.setTracker c b { u with state := 4 } else if u.state = 4 then s.setTracker c b u.carrierLost
      else s.setTracker c b { u with state := max 3 u.state }) = s.setTracker c b (u.relocked locked) := by
  unfold Tracker.relocked
  split
  · rfl
  · split <;> rfl

section
variable (s : State) {ch : Fin 128} {b : Fin 2} (hst : 2 ≤ (s.tracker ch.val b.val).state) (hruns : s.skyRuns = true)
include hst hruns

theorem State.tracks : ¬ (decide ((s.tracker ch.val b.val).state < 2) || !s.skyRuns) = true := by simp [hruns, Nat.not_lt.mpr hst]

theorem State.execSidePeakCorrection_boc {ve vl p : Nat} (hboc : isBoc (s.tracker ch.val b.val).signal = true)
    (hsums : (s.tracker ch.val b.val).sums s.el (200 * oneMs) = (ve, vl, p)) : execSidePeakCorrection ch b s
      = .next (if (decide (p < max ve vl) && s.passed (s.tracker ch.val b.val).peakAt (200 * oneMs)) = true then
          s.setTracker ch.val b.val ((s.tracker ch.val b.val).moved s.el (if vl ≤ ve then -(2 ^ 47) else 2 ^ 47))
        else s) := by
  unfold execSidePeakCorrection
  dsimp only
  rw [if_neg (s.tracks hst hruns), if_pos hboc, hsums]
  rfl

theorem State.execSidePeakCorrection_bpsk {ve vl p : Nat} (hboc : isBoc (s.tracker ch.val b.val).signal = false)
    (hsums : (s.tracker ch.val b.val).sums s.el oneSec = (ve, vl, p)) : execSidePeakCorrection ch b s
      = .next (s.setTracker ch.val b.val { s.tracker ch.val b.val with mp := decide (p < 10 * (ve - vl)) }) := by
  unfold execSidePeakCorrection
  dsimp only
  rw [if_neg (s.tracks hst hruns), hboc, if_neg (by decide), hsums]
end

theorem State.codeLost_trackers (s : State) (c : Nat) {b : Nat} (hb : b < 2) :
    (s.codeLost c b).tracker c b = (s.tracker c b).lost ∧ (s.codeLost c b).tracker c (1 - b) = (s.tracker c (1 - b)).forgotten := by
  unfold State.codeLost
  refine ⟨?_, State.tracker_setTracker_same _ _ _ _⟩
  rw [State.tracker_setChan, State.tracker_setTracker_band _ _ _ (by omega), State.tracker_setTracker_same]

theorem State.codeLost_lockedOut (s : State) (c b : Nat) : (s.codeLost c b).sky.lockedOut = s.sky.lockedOut := by
  have hchan : ∀ (t : State) v, (t.setChan c v).sky.lockedOut = t.sky.lockedOut := fun _ _ => rfl
  rw [State.codeLost, hchan, State.setTracker_sky, State.setTracker_sky]

/-- Settles O12: each row replaces a channel or a tracker by what its hypotheses select. -/
theorem channelAndTrackerEventsComplete : Obligations.ChannelAndTrackerEventsComplete := by
  refine ⟨?acquired, ?again, ?handover, ?release, ?loop, ?loopStays, ?bandwidth, ?sidePeak, ?sidePeakStays, ?multipath, ?carrierLoss, ?codeLoss⟩
  case acquired =>
    intro s ch a hruns hsys hfree hheld hgets hconf hsearch
    have hchan : ((s.setChan ch.val (s.newChannel a)).acquire a ch.val).chan ch.val = s.newChannel a := by
      rw [State.acquire, State.chan_pullIn, State.chan_setChan_same]
    have htracker := (s.setChan ch.val (s.newChannel a)).tracker_acquire a ch.val
    have hlocked : ((s.setChan ch.val (s.newChannel a)).acquire a ch.val).sky.lockedOut = s.sky.lockedOut := by rw [State.acquire_sky]; rfl
    refine ⟨_, s.execSatelliteAcquired_new hruns hsys hconf hsearch hfree hheld hgets, ?_⟩
    generalize (s.setChan ch.val (s.newChannel a)).acquire a ch.val = u at hchan htracker hlocked
    split
    · next hlock =>
      have hsky := u.gradeEvent_sky ch.val 3 0
      have hchan' : (u.gradeEvent ch.val 3 0).chan ch.val = s.newChannel a := by rw [State.chan, hsky, ← hchan, State.chan]
      refine ⟨hchan', ?_, fun _ => ⟨if_pos ?_, u.gradeEvent_pend _ _ _⟩⟩
      · rw [State.tracker, hsky, ← State.tracker, htracker]
        rfl
      · rw [hchan', hsky, hlocked]
        exact hlock
    · next hlock => exact ⟨hchan, htracker, fun h => absurd h hlock⟩
  case again =>
    intro s ch a hruns hsys hbusy hsat hst hconf hsearch
    refine ⟨_, s.execSatelliteAcquired_again hruns hsys hconf hsearch hbusy hsat hst, ?_, s.tracker_acquire a ch.val⟩
    rw [State.acquire, State.chan_pullIn]
  case handover =>
    intro s ch o pw hruns hl5 hbusy h1 h5 ho hpw
    refine ⟨_, congrArg Host.Outcome.next (if_pos (by simp [hruns, hl5, hbusy, h1, h5, ho, hpw])), ?_, ?_⟩
    · rw [State.tracker_setTracker_same, State.pullIn, State.tracker_setTracker_same]
    · rw [State.tracker_setTracker_band _ _ _ (by decide), State.pullIn, State.tracker_setTracker_band _ _ _ (by decide)]
  case release =>
    intro s ch hbusy h
    refine ⟨_, s.execChannelRelease_of_gone hbusy h, ?_, s.releaseChan_trackers ch.val⟩
    rw [State.chan_releaseChan, if_pos rfl]
  case loop =>
    rintro s ch b i df hst hruns hdf
    refine ⟨_, congrArg Host.Outcome.next (if_neg (s.tracks hst hruns)), ?_⟩
    extract_lets p v now integ prompts cn0 locked since fll sec df' bp dll half
    have hdf' : df' = df := by
      rw [hdf]
      dsimp only [df']
      cases (s.tracker ch.val b.val).fll <;> cases (s.tracker ch.val b.val).integ <;> rfl
    clear_value df'
    subst df'
    generalize loopFilter _ _ _ _ _ _ df = x
    obtain ⟨acc, vel, dop, third⟩ := x
    dsimp -zeta only
    extract_lets doppler codeRate u
    rw [s.setTracker_relocked ch.val b.val u locked, State.tracker_setTracker_same]
    obtain ⟨hinteg, hcn0, hdll, htMs, hdop, hrate, hcode, hcarrier, hnco, hstate, hcslip⟩ := u.relocked_fields locked
    have hlocked : locked = true ↔ (s.fld F.SKY_LOOP_LOCK_THR : Rat) / 255 ≤ lockIndicator s.el integ := decide_eq_true_iff
    simp only [hlocked] at hstate hcslip
    rw [hinteg, hcn0, hdll, htMs, hdop, hrate, hcode, hcarrier, hnco]
    exact ⟨rfl, rfl, rfl, rfl, rfl, rfl, rfl, rfl, rfl, hstate, hcslip⟩
  case loopStays =>
    intro s ch b i h
    exact ⟨_, congrArg Host.Outcome.next (if_pos (by simpa using h)), rfl⟩
  case bandwidth =>
    rintro s ch b j best lo hi hst hruns rfl rfl rfl rfl
    refine ⟨_, congrArg Host.Outcome.next (if_neg (s.tracks hst hruns)), ?_⟩
    beta_reduce
    rw [State.tracker_setTracker_same]
    exact ⟨rfl, rfl, rfl, rfl⟩
  case sidePeak =>
    intro s ch b ve vl p hst hruns hboc hsums hp hel
    refine ⟨_, (s.execSidePeakCorrection_boc hst hruns hboc hsums).trans (congrArg Host.Outcome.next (if_pos ?_)), ?_⟩
    · rw [decide_eq_true hp, (s.passed_iff _ _).mpr hel]
      rfl
    beta_reduce
    rw [State.tracker_setTracker_same]
    exact ⟨rfl, rfl, rfl⟩
  case sidePeakStays =>
    intro s ch b ve vl p hst hruns hboc hsums h
    refine ⟨_, s.execSidePeakCorrection_boc hst hruns hboc hsums, if_neg ?_⟩
    rw [Bool.and_eq_true, decide_eq_true_eq, State.passed_iff]
    omega
  case multipath =>
    intro s ch b ve vl p hst hruns hboc hsums
    refine ⟨_, s.execSidePeakCorrection_bpsk hst hruns hboc hsums, ?_⟩
    beta_reduce
    rw [State.tracker_setTracker_same]
    exact ⟨rfl, rfl, rfl⟩
  case carrierLoss =>
    intro s ch b hst
    refine ⟨_, congrArg Host.Outcome.next (if_pos hst), ?_⟩
    beta_reduce
    rw [State.tracker_setTracker_same]
    exact ⟨by rw [Tracker.carrierLost, hst]; rfl, rfl, rfl, rfl⟩
  case codeLoss =>
    intro s ch b hst
    refine ⟨_, congrArg Host.Outcome.next (if_pos hst), ?_⟩
    obtain ⟨hsame, hother⟩ := s.codeLost_trackers ch.val b.isLt
    rw [hsame, hother, s.codeLost_lockedOut]
    refine ⟨if_neg (show (s.tracker ch.val b.val).state ≠ 0 by omega), rfl, rfl, rfl, rfl, rfl, rfl, rfl, rfl, rfl, rfl, rfl, rfl, rfl, ?_⟩
    rw [State.codeLost, State.chan_setChan_same]

end Sys2Proof.Machine
end

section
/-! SUPPORT. What a measurement epoch does beside its records: the checks and grades, the predictions, the RTCM output, the GNSS source. -/

namespace Sys2Proof.Machine

/-! ### What the checks and outputs of an epoch can change (R75 to R90) -/

/-- The parts and registers that the checks, the records and the RTCM output of an epoch change. -/
abbrev epochParts : List Part := .free :: .dram :: .sky :: busParts
abbrev epochRegs : List Nat := R.SKY_STAT :: busRegs

/-- The same base position and epoch number. -/
def Sky.sameBase (x y : Sky) : Prop := x.base = y.base ∧ x.basePend = y.basePend ∧ x.epochNo = y.epochNo

theorem Sky.sameBase_trans {x y z : Sky} (h : y.sameBase x) (k : z.sameBase y) : z.sameBase x := by
  obtain ⟨hbase, hpend, hno⟩ := h
  obtain ⟨kbase, kpend, kno⟩ := k
  exact ⟨kbase.trans hbase, kpend.trans hpend, kno.trans hno⟩

theorem Sky.sameBase_ite {x y z : Sky} {c : Prop} [Decidable c] (hx : x.sameBase z) (hy : y.sameBase z) :
    (if c then x else y).sameBase z := by
  split
  · exact hx
  · exact hy

/-- From `s` to `t` an epoch does part of its work. -/
def State.epochWork (s t : State) : Prop := s.changesOnly t epochParts epochRegs [] ∧ t.sky.sameBase s.sky

section
variable {s t u : State}

theorem State.epochWork_trans (h : s.epochWork t) (k : t.epochWork u) : s.epochWork u :=
  ⟨State.changesOnly_trans h.1 k.1, Sky.sameBase_trans h.2 k.2⟩

/-- A change outside the sky baseband's own part. -/
theorem State.epochWork_of_frame (h : s.changesOnly t epochParts epochRegs []) (hsky : t.sky = s.sky) : s.epochWork t :=
  ⟨h, by rw [hsky]; exact ⟨rfl, rfl, rfl⟩⟩

theorem State.epochWork_refl (s : State) : s.epochWork s := State.epochWork_of_frame (s.changesOnly_refl _ _ _) rfl

theorem State.epochWork_of_bus (h : s.changesOnly t busParts busRegs []) : s.epochWork t :=
  State.epochWork_of_frame (State.changesOnly_of_bus h (by simp) (by simp)) (h.2.1 .sky (by decide))

theorem State.epochWork_sky (s : State) (x : Sky) (h : x.sameBase s.sky) : s.epochWork { s with sky := x } :=
  ⟨s.sky_changesOnly x (by decide), h⟩

theorem State.epochWork_ite {c : Prop} [Decidable c] (ht : s.epochWork t) (hu : s.epochWork u) : s.epochWork (if c then t else u) := by
  split
  · exact ht
  · exact hu

/-- A repetition keeps what each of its steps keeps; `g` reads the state from what it carries. -/
theorem State.epochWork_foldl {α β : Type} (g : β → State) (f : β → α → β) (h : ∀ b a, (g b).epochWork (g (f b a))) (l : List α)
    (b : β) : (g b).epochWork (g (l.foldl f b)) := by
  induction l generalizing b with
  | nil => exact State.epochWork_refl _
  | cons a l ih => exact State.epochWork_trans (h b a) (ih _)
theorem State.epochWork_each {α : Type} (f : State → α → State) (h : ∀ (t : State) a, t.epochWork (f t a)) (l : List α)
    (s : State) : s.epochWork (l.foldl f s) := State.epochWork_foldl id f h l s
end

section
variable (s : State)

theorem State.setChan_epochWork (c : Nat) (v : Channel) : s.epochWork (s.setChan c v) := s.epochWork_sky _ ⟨rfl, rfl, rfl⟩

theorem State.setTracker_epochWork (c b : Nat) (v : Tracker) : s.epochWork (s.setTracker c b v) := by
  have hsky := s.setTracker_sky c b v
  exact ⟨s.setTracker_changesOnly c b v (by decide) (by decide), by rw [hsky]; exact ⟨rfl, rfl, rfl⟩⟩

theorem State.lockOut_epochWork (c : Nat) : s.epochWork (s.lockOut c) :=
  State.epochWork_ite s.epochWork_refl (s.epochWork_sky _ ⟨rfl, rfl, rfl⟩)

theorem State.noteL15_epochWork (ms : List Measure) : s.epochWork (s.noteL15 ms) := by
  refine State.epochWork_each _ (fun t c => ?_) _ s
  split
  · exact t.setChan_epochWork _ _
  · exact t.epochWork_refl

theorem State.gradeOne_epochWork (fs : List Found) (m : Measure) : s.epochWork (s.gradeOne fs m) := by
  unfold State.gradeOne
  extract_lets byte good t t' u
  have hu : s.epochWork u := s.setTracker_epochWork _ _ _
  exact State.epochWork_ite (State.epochWork_trans hu (u.lockOut_epochWork _)) hu

/-- A channel that enters grade 2 or 3 in an epoch. -/
theorem State.gradeRaise_epochWork (old c : Nat) : s.epochWork
    (if 2 ≤ s.chanGrade c ∧ s.chanGrade c ≠ old then s.gradeEvent c (s.chanGrade c) (s.failBits c) else s) :=
  State.epochWork_ite (State.epochWork_of_bus (s.gradeEvent_frame _ _ _)) s.epochWork_refl

theorem State.gradeEpoch_epochWork (at_ : Nat) (ms : List Measure) : s.epochWork (s.gradeEpoch at_ ms) := by
  unfold State.gradeEpoch
  extract_lets chans t hit t' t''
  have ht : s.epochWork t := State.epochWork_each _ (fun t x => t.gradeOne_epochWork _ _) _ s
  have ht' : t.epochWork t' := State.epochWork_each _ (fun t c => t.lockOut_epochWork c) _ t
  have ht'' : t'.epochWork t'' := State.epochWork_each _
    (fun t c => t.gradeRaise_epochWork (s.chanGrade c) c) _ t'
  have hall := State.epochWork_trans ht (State.epochWork_trans ht' ht'')
  exact State.epochWork_ite hall
    (State.epochWork_trans hall (State.epochWork_of_bus (t''.raise_hub_changesOnly _ _ (by decide) (by decide))))

theorem State.noteSats_epochWork (at_ : Nat) (ms : List Measure) : s.epochWork (s.noteSats at_ ms) := by
  unfold State.noteSats
  refine State.epochWork_trans (State.epochWork_each _ (fun t c => ?_) _ s) (State.epochWork_each _ (fun t _ => ?_) _ _)
  · extract_lets ch
    split <;> exact t.setChan_epochWork _ _
  · exact t.epochWork_sky _ ⟨rfl, rfl, rfl⟩

theorem State.rtcmCells_epochWork (used : List Measure) : s.epochWork (s.rtcmCells used).2 :=
  State.epochWork_foldl Prod.snd _ (fun b _ => State.epochWork_ite (b.2.setTracker_epochWork _ _ _) b.2.epochWork_refl) used ([], s)

theorem State.rtcmOutput_epochWork (at_ : Nat) (cells : List (Nat × MsmCell)) : s.epochWork (s.rtcmOutput at_ cells) := by
  unfold State.rtcmOutput
  extract_lets c now old msm arp desc eph t
  have harp : arp.sameBase msm := Sky.sameBase_ite ⟨rfl, rfl, rfl⟩ ⟨rfl, rfl, rfl⟩
  have hdesc : desc.sameBase arp := Sky.sameBase_ite ⟨rfl, rfl, rfl⟩ ⟨rfl, rfl, rfl⟩
  have heph : eph.sameBase desc := Sky.sameBase_ite ⟨rfl, rfl, rfl⟩ ⟨rfl, rfl, rfl⟩
  have hsky : eph.sameBase s.sky := Sky.sameBase_trans (Sky.sameBase_trans (Sky.sameBase_trans ⟨rfl, rfl, rfl⟩ harp) hdesc) heph
  have ht : s.epochWork t := s.epochWork_sky eph hsky
  refine State.epochWork_ite s.epochWork_refl ?_
  refine State.epochWork_trans ht (State.epochWork_trans (State.epochWork_foldl Prod.snd _ (fun a _ => ?_) _ ([], t))
    (State.epochWork_each _ (fun t d => State.epochWork_of_bus (t.emit_changesOnly _)) _ _))
  exact State.epochWork_of_bus (a.2.corrupt_changesOnly 3)

/-- Noting, grading and predicting, before the records of an epoch are written. -/
theorem State.checks_epochWork (at_ : Nat) (ms : List Measure) : s.epochWork (((s.noteL15 ms).gradeEpoch at_ ms).noteSats at_ ms) :=
  State.epochWork_trans (State.epochWork_trans (s.noteL15_epochWork ms) (State.gradeEpoch_epochWork _ at_ ms))
    (State.noteSats_epochWork _ at_ ms)

/-- A record stored in DRAM, its tail inverted where the test block says so. -/
theorem State.store_epochWork (n target o : Nat) (f : Bool → List Byte) :
    s.epochWork (((s.drew n).corrupt target).2.dramStore o (f ((s.drew n).corrupt target).1)) :=
  State.epochWork_trans (State.epochWork_of_frame (s.drew_changesOnly n (by decide)) rfl)
    (State.epochWork_trans (State.epochWork_of_bus (State.corrupt_changesOnly _ target))
      (State.epochWork_of_frame (State.dram_changesOnly _ _ (by decide)) rfl))
end

/-! ### A base position that was pending (R94) -/

theorem State.applyBase_sky (s : State) : s.applyBase.sky.base = (s.sky.basePend <|> s.sky.base) ∧ s.applyBase.sky.basePend = none ∧
    s.applyBase.sky.epochNo = s.sky.epochNo := by
  unfold State.applyBase
  split
  · next b h => rw [h]; exact ⟨rfl, rfl, rfl⟩
  · next h => rw [h]; exact ⟨rfl, rfl, rfl⟩

theorem State.applyBase_changesOnly (s : State) : s.changesOnly s.applyBase [.sky] [] [] := by
  unfold State.applyBase
  split
  · exact s.sky_changesOnly _ (by decide)
  · exact s.changesOnly_refl _ _ _

/-! ### The GNSS source (R101, R104, R107, R108) -/

abbrev offsetRegs : List Nat := R.TIM_OFFSET :: R.TIM_STAT :: R.ETH_PTP_STAT :: busRegs

/-- From `s` to `t` a source and the time state change, and no input goes to the lanes. -/
def State.offsetWork (s t : State) : Prop :=
  s.changesOnly t (.time :: busParts) offsetRegs [] ∧ t.time.inputSeq = s.time.inputSeq ∧ t.time.stamp = s.time.stamp

section
variable {s t u : State}

theorem State.offsetWork_trans (h : s.offsetWork t) (k : t.offsetWork u) : s.offsetWork u := by
  obtain ⟨hframe, hseq, hstamp⟩ := h
  obtain ⟨kframe, kseq, kstamp⟩ := k
  exact ⟨State.changesOnly_trans hframe kframe, kseq.trans hseq, kstamp.trans hstamp⟩

theorem State.offsetWork_refl (s : State) : s.offsetWork s := ⟨s.changesOnly_refl _ _ _, rfl, rfl⟩

theorem State.offsetWork_of_bus (h : s.changesOnly t busParts busRegs []) : s.offsetWork t := by
  have htime : t.time = s.time := h.2.1 .time (by decide)
  have hregs : busRegs ⊆ offsetRegs := (List.sublist_append_right [R.TIM_OFFSET, R.TIM_STAT, R.ETH_PTP_STAT] busRegs).subset
  exact ⟨State.changesOnly_of_bus h (by simp) hregs, by rw [htime], by rw [htime]⟩

theorem State.offsetWork_time (s : State) (x : TimeSt) (hseq : x.inputSeq = s.time.inputSeq) (hstamp : x.stamp = s.time.stamp) :
    s.offsetWork { s with time := x } := ⟨s.time_changesOnly x (by decide), hseq, hstamp⟩

theorem State.offsetWork_ite {c : Prop} [Decidable c] (ht : s.offsetWork t) (hu : s.offsetWork u) : s.offsetWork (if c then t else u) := by
  split
  · exact ht
  · exact hu
end

section
variable (s : State)

theorem State.setFld_offsetWork (f : Fld) (v : Nat) (h : f.addr ∈ offsetRegs) : s.offsetWork (s.setFld f v) :=
  ⟨s.setFld_changesOnly f v (.inl h), by rw [State.setFld_time], by rw [State.setFld_time]⟩

theorem State.setTimState_offsetWork (v : Nat) : s.offsetWork (s.setTimState v) := by
  unfold State.setTimState
  extract_lets old t time t'
  refine State.offsetWork_ite s.offsetWork_refl ?_
  have ht : s.offsetWork t := State.offsetWork_trans (s.setFld_offsetWork _ _ (by decide)) (State.setFld_offsetWork _ _ _ (by decide))
  have ht' : s.offsetWork t' := State.offsetWork_trans ht (t.offsetWork_time _ rfl rfl)
  exact State.offsetWork_trans ht' (State.offsetWork_of_bus (t'.raise_hub_changesOnly _ _ (by decide) (by decide)))

theorem State.offsetWarn_offsetWork : s.offsetWork s.offsetWarn := by
  have hwarn : ∀ x : TimeSt, x.inputSeq = s.time.inputSeq → x.stamp = s.time.stamp →
      s.offsetWork (({ s with time := x } : State).raise Ev.timOffset s.offsetDetail) := fun x hseq hstamp =>
    State.offsetWork_trans (s.offsetWork_time x hseq hstamp)
      (State.offsetWork_of_bus (State.raise_hub_changesOnly _ _ _ (by decide) (by decide)))
  unfold State.offsetWarn
  extract_lets a w
  exact State.offsetWork_ite (State.offsetWork_ite (hwarn _ rfl rfl) s.offsetWork_refl)
    (State.offsetWork_ite (hwarn _ rfl rfl) s.offsetWork_refl)

/-- LOCKED and LOCKING follow LOCK_THR. -/
theorem State.lockFollows_offsetWork : s.offsetWork
    (if s.theta.natAbs ≤ 1000 * s.fld F.TIM_LOCK_LOCK_THR then
      { s with time := { s.time with lockSince := some (s.time.lockSince.getD s.el) } }
    else
      let u : State := { s with time := { s.time with lockSince := none } }
      if u.timState = tsLOCKED then u.setTimState tsLOCKING else u) := by
  extract_lets time u
  have hu : s.offsetWork u := s.offsetWork_time _ rfl rfl
  exact State.offsetWork_ite (s.offsetWork_time _ rfl rfl)
    (State.offsetWork_ite (State.offsetWork_trans hu (u.setTimState_offsetWork _)) hu)

theorem State.offsetSeen_offsetWork : s.offsetWork s.offsetSeen := by
  have hshow : s.offsetWork (s.setReg R.TIM_OFFSET (BitVec.ofNat 32 (twos 32 (satI32 (s.theta / 1000))))) :=
    ⟨s.setReg_changesOnly _ _ (.inl (by decide)), by rw [State.setReg_time], by rw [State.setReg_time]⟩
  unfold State.offsetSeen
  exact State.offsetWork_trans (State.offsetWork_trans hshow (State.offsetWarn_offsetWork _)) (State.lockFollows_offsetWork _)

theorem State.setSource_offsetWork (k : Nat) (v : TimeSource) : s.offsetWork (s.setSource k v) :=
  State.offsetWork_ite (s.offsetWork_time _ rfl rfl) (s.offsetWork_time _ rfl rfl)

theorem State.offerOffset_offsetWork (k : Nat) (theta : Int) : s.offsetWork (s.offerOffset k theta) := by
  unfold State.offerOffset
  extract_lets src since t
  have ht : s.offsetWork t := s.setSource_offsetWork _ _
  exact State.offsetWork_ite (State.offsetWork_trans (s.setSource_offsetWork _ _) (State.offsetSeen_offsetWork _))
    (State.offsetWork_ite (State.offsetWork_trans ht t.offsetSeen_offsetWork) ht)

theorem State.gnssOffset_offsetWork (channels : Nat) (bias : Option Int) : s.offsetWork (s.gnssOffset channels bias) := by
  unfold State.gnssOffset
  split
  · exact State.offsetWork_ite (s.offerOffset_offsetWork _ _) (s.setSource_offsetWork _ _)
  · exact s.setSource_offsetWork _ _
end

end Sys2Proof.Machine
end

section
/-! SUPPORT. A measurement epoch: what it latches, records, and tells the lanes. -/

namespace Sys2Proof.Machine

/-- What an epoch leaves in the sky baseband, the time engine and central RTK once its records are made. -/
def State.latched (s : State) (at_ no : Nat) (lane : List Byte) (r : BaseRec) : State :=
  { s with
    sky := { s.sky with epochNo := (no + 1) % 65536, lastEpoch := at_, rateChanged := false, baseRecord := lane }
    time := { s.time with stepped := false }
    rtk := { s.rtk with bases := (r :: s.rtk.bases).take 64 } }

/-- SKY_MEAS_WR of an epoch. -/
def State.showEpoch (s : State) (no : Nat) : State := (s.setFld F.SKY_MEAS_WR_EPOCH_NO no).setFld F.SKY_MEAS_WR_SLOT (no % 64)

section
variable (s : State)

theorem State.showEpoch_flds (no : Nat) : (s.showEpoch no).fld F.SKY_MEAS_WR_EPOCH_NO = no % 65536 ∧
    (s.showEpoch no).fld F.SKY_MEAS_WR_SLOT = no % 64 := by
  constructor
  · rw [State.showEpoch, State.fld_setFld_other _ F.SKY_MEAS_WR_SLOT F.SKY_MEAS_WR_EPOCH_NO _ rfl (by decide) (by decide)]
    exact State.fld_setFld_same _ _ _ (by decide)
  · exact (State.fld_setFld_same _ _ _ (by decide)).trans (Nat.mod_mod _ _)

theorem State.epoch_eq (bias : Option Int) (drift : Int) :
    ∃ (t u : State) (no : Nat) (lane : List Byte) (r : BaseRec) (n : Nat) (d : List Byte),
      s.applyBase.epochWork t ∧ (t.showEpoch no).epochWork u ∧ no = t.sky.epochNo ∧
        r.epoch = (s.epochInstant - gpsEpoch) / oneMs ∧ r.bias = bias.getD 0 ∧
        s.epoch bias drift = ((u.laneInput.latched s.epochInstant no lane r).syncBase.gnssOffset n bias).raise Ev.skyEpoch d := by
  unfold State.epoch
  extract_lets at_ posChanged s1 ms s2 used b full lane no slot usedN
  have hchecks : s1.epochWork s2 := s1.checks_epochWork at_ ms
  have hstore := s2.store_epochWork 256 1 (0x07E00000 + 9216 * slot) fun bad => if bad then invertTail 4 full else full
  generalize (s2.drew 256).corrupt 1 = c at hstore ⊢
  obtain ⟨bad, t0⟩ := c
  dsimp -zeta only at hstore ⊢
  extract_lets t shown usedShown r
  have hshown : shown.epochWork usedShown :=
    State.epochWork_of_frame (shown.setFld_changesOnly _ _ (.inl (by decide))) (shown.setFld_sky _ _)
  have hcells := usedShown.rtcmCells_epochWork used
  have hout := (usedShown.rtcmCells used).2.rtcmOutput_epochWork at_ (usedShown.rtcmCells used).1
  have ⟨_, _, _, hno⟩ := hstore
  exact ⟨t, _, no, lane, r, usedN, _, State.epochWork_trans hchecks hstore,
    State.epochWork_trans (State.epochWork_trans hshown hcells) hout, hno.symm, rfl, rfl, rfl⟩

/-- The GNSS source and EV_SKY_EPOCH close an epoch. -/
theorem State.epochEnd_frame (n : Nat) (bias : Option Int) (d : List Byte) :
    s.changesOnly ((s.syncBase.gnssOffset n bias).raise Ev.skyEpoch d) (.time :: busParts) (R.RTK_STAT :: offsetRegs) [] ∧
      ((s.syncBase.gnssOffset n bias).raise Ev.skyEpoch d).time.inputSeq = s.time.inputSeq ∧
      ((s.syncBase.gnssOffset n bias).raise Ev.skyEpoch d).time.stamp = s.time.stamp := by
  have hsync : s.changesOnly s.syncBase (.time :: busParts) (R.RTK_STAT :: offsetRegs) [] := s.setFld_changesOnly _ _ (.inl (by decide))
  have htime : s.syncBase.time = s.time := State.setFld_time _ _ _
  obtain ⟨hframe, hseq, hstamp⟩ := State.offsetWork_trans (s.syncBase.gnssOffset_offsetWork n bias)
    (State.offsetWork_of_bus (State.raise_hub_changesOnly _ Ev.skyEpoch d (by decide) (by decide)))
  exact ⟨State.changesOnly_trans hsync (State.changesOnly_mono hframe (fun _ h => h) (List.subset_cons_self _ _) (fun _ h => h)),
    by rw [hseq, htime], by rw [hstamp, htime]⟩

/-- What an epoch shows of its instant, its base position and its record (R80 to R84, R94). -/
theorem State.epoch_shows (bias : Option Int) (drift : Int) {t : State} (ht : t = s.epoch bias drift) :
    t.sky.lastEpoch = s.epochInstant ∧ t.sky.epochNo = (s.sky.epochNo + 1) % 65536 ∧ t.fld F.SKY_MEAS_WR_EPOCH_NO = s.sky.epochNo % 65536 ∧
      t.fld F.SKY_MEAS_WR_SLOT = s.sky.epochNo % 64 ∧ t.sky.basePend = none ∧ t.sky.base = (s.sky.basePend <|> s.sky.base) ∧
      t.time.inputSeq = (s.time.inputSeq + 1) % 2 ^ 32 ∧ t.time.stamp = s.now ∧ bit t.pend Ev.skyEpoch = true ∧
      (t.rtk.bases.map (·.epoch)).head? = some ((s.epochInstant - gpsEpoch) / oneMs) ∧ (t.rtk.bases.map (·.bias)).head? = some (bias.getD 0) := by
  obtain ⟨u, v, no, lane, r, n, d, hcheck, hrecord, hno, hepoch, hbias, heq⟩ := s.epoch_eq bias drift
  obtain ⟨hu, hubase, hupend, huno⟩ := hcheck
  obtain ⟨hv, hvbase, hvpend, -⟩ := hrecord
  obtain ⟨hbase, hpend, hno'⟩ := s.applyBase_sky
  have happly := s.applyBase_changesOnly
  have hsku : (u.showEpoch no).sky = u.sky := by rw [State.showEpoch, State.setFld_sky, State.setFld_sky]
  have htime : v.time = s.time := by
    rw [hv.2.1 .time (by decide), State.showEpoch, State.setFld_time, State.setFld_time, hu.2.1 .time (by decide),
      happly.2.1 .time (by decide)]
  have hnow : v.now = s.now := by rw [State.now, htime, State.now]
  have hno : no = s.sky.epochNo := by rw [hno, huno, hno']
  obtain ⟨hend, hseq, hstamp⟩ := (v.laneInput.latched s.epochInstant no lane r).epochEnd_frame n bias d
  obtain ⟨hfno, hfslot⟩ := u.showEpoch_flds no
  have hpendbit : bit t.pend Ev.skyEpoch = true := by
    rw [ht, heq]
    exact State.raise_pend (by decide) (by decide) _ _ (by decide)
  rw [← heq, ← ht] at hend hseq hstamp
  have hsky : t.sky = (v.laneInput.latched s.epochInstant no lane r).sky := hend.2.1 .sky (by decide)
  have hrtk : t.rtk = (v.laneInput.latched s.epochInstant no lane r).rtk := hend.2.1 .rtk (by decide)
  have hfld : ∀ f, f.addr = R.SKY_MEAS_WR → t.fld f = (u.showEpoch no).fld f := fun f hf =>
    ((State.fld_of_changesOnly hend f (by rw [hf]; decide)).trans rfl).trans (State.fld_of_changesOnly hv f (by rw [hf]; decide))
  rw [hfld _ rfl, hfld _ rfl, hfno, hfslot, hsky, hrtk, hseq, hstamp, ← hno]
  refine ⟨rfl, rfl, rfl, rfl, ?_, ?_, ?_, hnow, hpendbit, congrArg some hepoch, congrArg some hbias⟩
  · exact hvpend.trans ((congrArg Sky.basePend hsku).trans (hupend.trans hpend))
  · exact hvbase.trans ((congrArg Sky.base hsku).trans (hubase.trans hbase))
  · exact (State.laneInput_inputSeq v).trans (by rw [htime])
end
end Sys2Proof.Machine
end

section
/-! SUPPORT. A navigation record: what it stores and counts, and what a PASS record brings to the ephemeris store. -/

namespace Sys2Proof.Machine

/-! ### A PASS record (R87, R91, R100) -/

section
variable (s : State)

theorem State.takeEphemeris_inUse (key : Nat) (e : List Byte)
    (h : (Tbl.get ({} : Ephemeris) s.sky.eph key).inUse = [] ∨ (Tbl.get ({} : Ephemeris) s.sky.eph key).candidate = e ∨
      distance (Config.satPosition e (gps s.now)) (Config.satPosition (Tbl.get ({} : Ephemeris) s.sky.eph key).inUse (gps s.now)) ≤ 100000) :
    (Tbl.get ({} : Ephemeris) (s.takeEphemeris key e).sky.eph key).inUse = e := by
  unfold State.takeEphemeris
  extract_lets old at_ e' sky
  split
  · assumption
  · have hadopt : (old.inUse.isEmpty || decide (distance (at_ e) (at_ old.inUse) ≤ 100000) || old.candidate == e) = true := by
      rcases h with h | h | h
      · rw [List.isEmpty_iff.mpr h]; rfl
      · rw [beq_iff_eq.mpr h, Bool.or_true]
      · rw [decide_eq_true h, Bool.or_true, Bool.true_or]
    rw [if_pos hadopt, State.laneInput_sky]
    exact congrArg Ephemeris.inUse (Tbl.get_put_same _ _ _ _)

theorem State.takeEphemeris_frame (key : Nat) (e : List Byte) :
    s.changesOnly (s.takeEphemeris key e) [.time, .sky] [R.TIM_UTC, R.TIM_STAT] [] ∧ (s.takeEphemeris key e).sky.nav = s.sky.nav := by
  unfold State.takeEphemeris
  extract_lets old at_ e'
  split
  · exact ⟨s.changesOnly_refl _ _ _, rfl⟩
  · split
    · exact ⟨State.changesOnly_trans (s.sky_changesOnly _ (by decide)) (State.laneInput_changesOnly _ (by decide)), rfl⟩
    · exact ⟨s.sky_changesOnly _ (by decide), rfl⟩

theorem State.takeUtc_changesOnly (taiUtc : Nat) (leap : Option (Nat × Nat)) :
    s.changesOnly (s.takeUtc taiUtc leap) [.time] [R.TIM_UTC, R.TIM_STAT] [] := by
  unfold State.takeUtc
  extract_lets t
  have ht : s.changesOnly t [.time] [R.TIM_UTC, R.TIM_STAT] [] :=
    State.setFld_then _ _ (s.setFld_changesOnly _ _ (.inl (by decide))) (by decide)
  split
  · exact State.ite_changesOnly (State.setFld_then _ _ (State.setFld_then _ _
      (State.changesOnly_trans ht (t.time_changesOnly _ (by decide))) (by decide)) (by decide)) ht
  · exact ht

/-- Almanacs join those of their satellites. -/
theorem State.takeAlmanacs_frame (l : List (Nat × List Byte)) {f : State → Nat × List Byte → State}
    (hf : f = fun t a => { t with sky := { t.sky with almanacs := Tbl.put [] t.sky.almanacs a.1 a.2 } }) :
    s.changesOnly (l.foldl f s) [.time, .sky] [R.TIM_UTC, R.TIM_STAT] [] ∧ (l.foldl f s).sky.nav = s.sky.nav ∧
      (l.foldl f s).sky.eph = s.sky.eph := by
  subst hf
  refine ⟨State.foldl_changesOnly _ (fun t a => t.sky_changesOnly _ (by decide)) _ _, ?_⟩
  induction l generalizing s with
  | nil => exact ⟨rfl, rfl⟩
  | cons a l ih => exact ih _

/-- The state once a PASS record's payload is held of its satellite. -/
def State.holdNav (key : Nat) (held : List (List Byte)) : State := { s with sky := { s.sky with nav := Tbl.put [] s.sky.nav key held } }

/-- What a PASS record leaves: its payload joins those held of the satellite, which a complete ephemeris uses up. -/
theorem State.takeNav_shows (sat signal ty : Nat) (payload : List Byte) {held : List (List Byte)}
    (hheld : held = (payload :: Tbl.get [] s.sky.nav (8 * sat + ty)).take 125) :
    s.changesOnly (s.takeNav sat signal ty payload) [.time, .sky] [R.TIM_UTC, R.TIM_STAT] [] ∧
      Tbl.get [] (s.takeNav sat signal ty payload).sky.nav (8 * sat + ty) = (if (Config.navEphemeris ty held).isSome then [] else held) ∧
      ∀ e, Config.navEphemeris ty held = some e →
        (s.takeNav sat signal ty payload).sky.eph = ((s.holdNav (8 * sat + ty) []).takeEphemeris (8 * sat + ty) e).sky.eph := by
  unfold State.takeNav
  subst hheld
  extract_lets key held eph sky t t' t''
  change s.changesOnly _ _ _ _ ∧ _ = (if eph.isSome then [] else held) ∧ ∀ e, eph = some e → _
  clear_value eph
  have ht : s.changesOnly t [.time, .sky] [R.TIM_UTC, R.TIM_STAT] [] := s.sky_changesOnly _ (by decide)
  have htnav : Tbl.get [] t.sky.nav key = (if eph.isSome then [] else held) := Tbl.get_put_same _ _ _ _
  have ht' : t.changesOnly t' [.time, .sky] [R.TIM_UTC, R.TIM_STAT] [] ∧ t'.sky.nav = t.sky.nav := by
    cases eph with
    | some d => exact t.takeEphemeris_frame _ _
    | none => exact ⟨t.changesOnly_refl _ _ _, rfl⟩
  have heph : ∀ e, eph = some e → t' = (s.holdNav key []).takeEphemeris key e := by
    rintro e rfl
    rfl
  obtain ⟨halm, halmnav, halmeph⟩ := t'.takeAlmanacs_frame (Config.navAlmanacs ty held) rfl
  have hbefore := State.changesOnly_trans (State.changesOnly_trans ht ht'.1) halm
  split
  · next v leap h =>
    have hutc := t''.takeUtc_changesOnly v leap
    have hsky : (t''.takeUtc v leap).sky = t''.sky := hutc.2.1 .sky (by decide)
    refine ⟨State.changesOnly_trans hbefore (State.changesOnly_mono hutc (by decide) (by simp) (by simp)), ?_, fun e he => ?_⟩
    · rw [hsky, halmnav, ht'.2]
      exact htnav
    · rw [hsky, halmeph, heph e he]
  · refine ⟨hbefore, ?_, fun e he => by rw [halmeph, heph e he]⟩
    rw [halmnav, ht'.2]
    exact htnav
end

/-! ### The record (R85, R86) -/

section
variable (s : State)

/-- A record joins its ring in DRAM: SKY_NAV_WR counts, and EV_SKY_NAV is raised. -/
theorem State.ringNav (o : Nat) (bs d : List Byte) {u : State}
    (hu : u = ((((s.corrupt 2).2.dramStore o bs).incFld F.SKY_NAV_WR_COUNT).setFld F.SKY_NAV_WR_SLOT
      (s.fld F.SKY_NAV_WR_COUNT % 4096)).raise Ev.skyNav d) :
    s.changesOnly u (.dram :: busParts) (R.SKY_NAV_WR :: busRegs) [] ∧
      u.fld F.SKY_NAV_WR_COUNT = (s.fld F.SKY_NAV_WR_COUNT + 1) % 2 ^ 20 ∧ u.fld F.SKY_NAV_WR_SLOT = s.fld F.SKY_NAV_WR_COUNT % 4096 ∧
      bit u.pend Ev.skyNav = true := by
  have hcorrupt := s.corrupt_changesOnly 2
  have hstored : s.changesOnly ((s.corrupt 2).2.dramStore o bs) (.dram :: busParts) (R.SKY_NAV_WR :: busRegs) [] :=
    State.changesOnly_trans (State.changesOnly_of_bus hcorrupt (by simp) (by simp)) (State.dram_changesOnly _ _ (by decide))
  have hcount : ((s.corrupt 2).2.dramStore o bs).fld F.SKY_NAV_WR_COUNT = s.fld F.SKY_NAV_WR_COUNT :=
    (State.fld_of_regs rfl _).trans (State.fld_of_changesOnly hcorrupt _ (by decide))
  have hraise := fun t : State => t.raise_hub_changesOnly Ev.skyNav d (by decide) (by decide)
  generalize (s.corrupt 2).2.dramStore o bs = w at hu hcount hstored
  rw [State.incFld, hcount] at hu
  subst hu
  refine ⟨State.changesOnly_trans (State.setFld_then _ _ (State.setFld_then _ _ hstored (by decide)) (by decide))
    (State.changesOnly_of_bus (hraise _) (by simp) (by simp)), ?_, ?_, State.raise_pend (by decide) (by decide) _ _ (by decide)⟩
  · rw [State.fld_of_changesOnly (hraise _) _ (by decide),
      State.fld_setFld_other _ F.SKY_NAV_WR_SLOT F.SKY_NAV_WR_COUNT _ rfl (by decide) (by decide)]
    exact State.fld_setFld_same _ _ _ (by decide)
  · rw [State.fld_of_changesOnly (hraise _) _ (by decide), State.fld_setFld_same _ _ _ (by decide)]
    exact Nat.mod_mod _ _

variable {s} {ch : Fin 128} {b : Fin 2} {i : NavIn} {ty : Nat} (hty : navType (s.tracker ch.val b.val).signal = some ty)
  (hst : 3 ≤ (s.tracker ch.val b.val).state) (hruns : s.skyRuns = true) (hpos : 0 < i.bits.length) (hlen : i.bits.length ≤ 880)
include hty hst hruns hpos hlen

/-- A message of 1 to 880 bits is recorded, and a PASS record is taken into use once the tracker has its time. -/
theorem State.execNavRecord_records : ∃ u w : State,
    s.changesOnly u (.dram :: busParts) (R.SKY_NAV_WR :: busRegs) [] ∧
      u.fld F.SKY_NAV_WR_COUNT = (s.fld F.SKY_NAV_WR_COUNT + 1) % 2 ^ 20 ∧ u.fld F.SKY_NAV_WR_SLOT = s.fld F.SKY_NAV_WR_COUNT % 4096 ∧
      bit u.pend Ev.skyNav = true ∧ u.changesOnly w [.sky] [R.SKY_STAT] [] ∧ w.sky = { u.sky with trk := w.sky.trk } ∧
      execNavRecord ch b i s = .next (if (navCheck ty i).2.1 = 0 then
        w.takeNav (s.chan ch.val).sat (s.tracker ch.val b.val).signal ty (packBits (navCheck ty i).1) else u) := by
  have hgo : ¬ (decide ((s.tracker ch.val b.val).state < 3) || !s.skyRuns || i.bits.isEmpty || decide (880 < i.bits.length)) = true := by
    rw [decide_eq_false (by omega), decide_eq_false (by omega), hruns, List.isEmpty_eq_false_iff.mpr (List.ne_nil_of_length_pos hpos)]
    decide
  unfold execNavRecord
  extract_lets c t slot
  rw [show navType t.signal = some ty from hty]
  dsimp -zeta only
  rw [if_neg hgo]
  generalize navCheck ty i = n
  obtain ⟨bits, result, words⟩ := n
  dsimp -zeta only
  extract_lets payload head bytes stored counted u w
  obtain ⟨hframe, hcount, hslot, hpend⟩ : _ ∧ _ ∧ _ ∧ bit u.pend Ev.skyNav = true := s.ringNav (0x07F00000 + 256 * slot) _ _ rfl
  clear_value u
  have hw : u.changesOnly w [.sky] [R.SKY_STAT] [] ∧ w.sky = { u.sky with trk := w.sky.trk } := by
    dsimp only [w]
    split
    · exact ⟨u.setTracker_changesOnly _ _ _ (by decide) (by decide), by rw [State.setTracker_sky]⟩
    · exact ⟨u.changesOnly_refl _ _ _, rfl⟩
  exact ⟨u, w, hframe, hcount, hslot, hpend, hw.1, hw.2, rfl⟩

theorem State.execNavRecord_shows : Gives (.navRecord ch b i) s fun t =>
    t.fld F.SKY_NAV_WR_COUNT = (s.fld F.SKY_NAV_WR_COUNT + 1) % 2 ^ 20 ∧ t.fld F.SKY_NAV_WR_SLOT = s.fld F.SKY_NAV_WR_COUNT % 4096 ∧
      bit t.pend Ev.skyNav = true ∧
      ((navCheck ty i).2.1 ≠ 0 → t.sky.eph = s.sky.eph ∧ t.sky.almanacs = s.sky.almanacs ∧ t.sky.nav = s.sky.nav) := by
  obtain ⟨u, w, hframe, hcount, hslot, hpend, hw, -, hexec⟩ := State.execNavRecord_records hty hst hruns hpos hlen
  refine ⟨_, hexec, ?_⟩
  split
  · next hpass =>
    obtain ⟨ht, -⟩ := w.takeNav_shows (s.chan ch.val).sat (s.tracker ch.val b.val).signal ty (packBits (navCheck ty i).1) rfl
    have hfld : ∀ f, f.addr = R.SKY_NAV_WR → _ = u.fld f := fun f hf =>
      (State.fld_of_changesOnly ht f (by rw [hf]; decide)).trans (State.fld_of_changesOnly hw f (by rw [hf]; decide))
    have hreg := (ht.2.2 R.EVT_PEND0 (by decide) (by simp)).trans (hw.2.2 R.EVT_PEND0 (by decide) (by simp))
    refine ⟨(hfld _ rfl).trans hcount, (hfld _ rfl).trans hslot, ?_, fun h => absurd hpass h⟩
    rw [State.bit_pend_of_reg hreg (by decide), hpend]
  · have hsky : u.sky = s.sky := hframe.2.1 .sky (by decide)
    exact ⟨hcount, hslot, hpend, fun _ => by rw [hsky]; exact ⟨rfl, rfl, rfl⟩⟩

theorem State.execNavRecord_passes {old : Ephemeris} {held : List (List Byte)} (hpass : (navCheck ty i).2.1 = 0)
    (hold : old = Tbl.get ({} : Ephemeris) s.sky.eph (8 * (s.chan ch.val).sat + ty))
    (hheld : held = (packBits (navCheck ty i).1 :: Tbl.get [] s.sky.nav (8 * (s.chan ch.val).sat + ty)).take 125) :
    Gives (.navRecord ch b i) s fun t =>
      Tbl.get [] t.sky.nav (8 * (s.chan ch.val).sat + ty) = (if (Config.navEphemeris ty held).isSome then [] else held) ∧
      ∀ e, Config.navEphemeris ty held = some e → old.inUse = [] ∨ old.candidate = e ∨
          distance (Config.satPosition e (gps s.now)) (Config.satPosition old.inUse (gps s.now)) ≤ 100000 →
        (Tbl.get ({} : Ephemeris) t.sky.eph (8 * (s.chan ch.val).sat + ty)).inUse = e := by
  obtain ⟨u, w, hframe, -, -, -, hw, hwsky, hexec⟩ := State.execNavRecord_records hty hst hruns hpos hlen
  have hsky : u.sky = s.sky := hframe.2.1 .sky (by decide)
  have htime : w.time = s.time := (hw.2.1 .time (by decide)).trans (hframe.2.1 .time (by decide))
  have hnow : w.now = s.now := by rw [State.now, htime, State.now]
  have hnav : w.sky.nav = s.sky.nav := by rw [hwsky, hsky]
  have heph : w.sky.eph = s.sky.eph := by rw [hwsky, hsky]
  rw [← hnav] at hheld
  obtain ⟨-, hnavs, hephs⟩ := w.takeNav_shows (s.chan ch.val).sat (s.tracker ch.val b.val).signal ty _ hheld
  refine ⟨_, hexec.trans (congrArg Host.Outcome.next (if_pos hpass)), hnavs, fun e he h => ?_⟩
  subst hold
  rw [hephs e he]
  refine State.takeEphemeris_inUse _ _ e ?_
  have hw0 : (w.holdNav (8 * (s.chan ch.val).sat + ty) []).sky.eph = s.sky.eph := heph
  have hn0 : (w.holdNav (8 * (s.chan ch.val).sat + ty) []).now = s.now := hnow
  rw [hw0, hn0]
  exact h
end

end Sys2Proof.Machine
end

section
/-! PROOF. Measurement epochs, navigation records, rate changes and the SKY commands. -/

namespace Sys2Proof.Machine

/-! ### A pending SKY_CONFIG (R80, R95) -/

section
variable (s : State)

theorem State.releaseChan_cfgPend (c : Nat) : (s.releaseChan c).sky.cfgPend = s.sky.cfgPend := by
  have hchan : ∀ v, (s.setChan c v).sky.cfgPend = s.sky.cfgPend := fun _ => rfl
  rw [State.releaseChan, State.setTracker_sky, State.setTracker_sky, hchan]

/-- The channels of the systems that `sys` does not enable are released. -/
def State.releaseOff (sys : Nat) : State :=
  ((s.sky.chans.filter fun p => !bit sys p.2.system).map (·.1)).foldl (fun t c => t.releaseChan c) s

/-- The L5-band trackers go idle. -/
def State.idleL5 : State := (s.sky.chans.map (·.1)).foldl (fun t c => t.setTracker c 1 Tracker.zero) s

/-- SKY_CTL as a SKY_CONFIG sets it. -/
def State.showConfig (sys rate : Nat) : State :=
  ((s.setFld F.SKY_CTL_SYS_EN sys).setFld F.SKY_CTL_L5_EN (sys / 32)).setFld F.SKY_CTL_EPOCH_RATE rate

/-- A SKY_CONFIG is in force, and none is pending. -/
def State.configured (sys rate : Nat) : State :=
  { s.showConfig sys rate with
    sky := { (s.showConfig sys rate).sky with
      cfgPend := none, rateChanged := (s.showConfig sys rate).sky.rateChanged || rate != s.fld F.SKY_CTL_EPOCH_RATE } }

theorem State.showConfig_flds (sys rate : Nat) : (s.showConfig sys rate).fld F.SKY_CTL_SYS_EN = sys % 32 ∧
    (s.showConfig sys rate).fld F.SKY_CTL_L5_EN = sys / 32 % 2 ∧ (s.showConfig sys rate).fld F.SKY_CTL_EPOCH_RATE = rate % 16 := by
  unfold State.showConfig
  refine ⟨?_, ?_, State.fld_setFld_same _ _ _ (by decide)⟩
  · rw [State.fld_setFld_other _ F.SKY_CTL_EPOCH_RATE F.SKY_CTL_SYS_EN _ rfl (by decide) (by decide),
      State.fld_setFld_other _ F.SKY_CTL_L5_EN F.SKY_CTL_SYS_EN _ rfl (by decide) (by decide)]
    exact State.fld_setFld_same _ _ _ (by decide)
  · rw [State.fld_setFld_other _ F.SKY_CTL_EPOCH_RATE F.SKY_CTL_L5_EN _ rfl (by decide) (by decide)]
    exact State.fld_setFld_same _ _ _ (by decide)

theorem State.execEpochRateChange_due {sys rate at_ : Nat} (hpend : s.sky.cfgPend = some (sys, rate, at_)) (hdue : at_ * oneSec ≤ s.now) :
    execEpochRateChange s = .next (if bit sys 5 then (s.configured sys rate).releaseOff sys
      else ((s.configured sys rate).releaseOff sys).idleL5) := by
  have hsec : at_ ≤ s.now / oneSec := (Nat.le_div_iff_mul_le (by decide)).mpr hdue
  unfold execEpochRateChange
  rw [hpend]
  exact congrArg Host.Outcome.next (if_pos hsec)

theorem State.releaseOff_frame (sys : Nat) : s.changesOnly (s.releaseOff sys) [.sky] [R.SKY_STAT] [] ∧
    (s.releaseOff sys).sky.cfgPend = s.sky.cfgPend := by
  refine ⟨State.foldl_changesOnly _ (fun t c => t.releaseChan_changesOnly c (by decide) (by decide)) _ _, ?_⟩
  unfold State.releaseOff
  generalize (s.sky.chans.filter fun p => !bit sys p.2.system).map (·.1) = l
  induction l generalizing s with
  | nil => rfl
  | cons c l ih => exact (ih _).trans (s.releaseChan_cfgPend c)

theorem State.idleL5_frame : s.changesOnly s.idleL5 [.sky] [R.SKY_STAT] [] ∧ s.idleL5.sky.cfgPend = s.sky.cfgPend ∧
    ∀ k, s.idleL5.chan k = s.chan k := by
  refine ⟨State.foldl_changesOnly _ (fun t c => t.setTracker_changesOnly _ _ _ (by decide) (by decide)) _ _, ?_⟩
  unfold State.idleL5
  generalize s.sky.chans.map (·.1) = l
  induction l generalizing s with
  | nil => exact ⟨rfl, fun _ => rfl⟩
  | cons c l ih =>
    obtain ⟨hpend, hchan⟩ := ih (s.setTracker c 1 Tracker.zero)
    exact ⟨hpend.trans (by rw [State.setTracker_sky]), fun k => (hchan k).trans (s.chan_setTracker _ _ _ _)⟩

/-- A busy channel that is left is of an enabled system: one of another system is listed, and so released. -/
theorem State.enabled_of_busy (sys k : Nat) (h : ((s.releaseOff sys).chan k).busy = true) :
    bit sys ((s.releaseOff sys).chan k).system = true := by
  rw [State.releaseOff, State.chan_releaseChans] at h ⊢
  split at h
  · exact absurd h (by decide)
  · next hkept =>
    rw [if_neg hkept]
    rcases s.chan_eq_or_mem k with hnone | hmem
    · rw [hnone] at h
      exact absurd h (by decide)
    · by_contra hoff
      rw [Bool.not_eq_true] at hoff
      exact hkept (List.mem_map.mpr ⟨_, List.mem_filter.mpr ⟨hmem, by rw [hoff]; rfl⟩, rfl⟩)

theorem State.configured_shows (sys rate : Nat) {t : State}
    (ht : t = if bit sys 5 then (s.configured sys rate).releaseOff sys else ((s.configured sys rate).releaseOff sys).idleL5) :
    t.fld F.SKY_CTL_SYS_EN = sys % 32 ∧ t.fld F.SKY_CTL_L5_EN = sys / 32 % 2 ∧ t.fld F.SKY_CTL_EPOCH_RATE = rate % 16 ∧
      t.sky.cfgPend = none ∧ ∀ k, (t.chan k).busy = true → bit sys (t.chan k).system = true := by
  obtain ⟨hsys, hl5, hrate⟩ := s.showConfig_flds sys rate
  obtain ⟨hoff, hoffpend⟩ := (s.configured sys rate).releaseOff_frame sys
  have hpend : (s.configured sys rate).sky.cfgPend = none := rfl
  have hbusy := (s.configured sys rate).enabled_of_busy sys
  have hregs : (s.configured sys rate).regs = (s.showConfig sys rate).regs := by rw [State.configured]
  generalize (s.configured sys rate).releaseOff sys = u at ht hoff hoffpend hbusy
  obtain ⟨hidle, hidlepend, hidlechan⟩ := u.idleL5_frame
  have hmain : (s.configured sys rate).changesOnly t [.sky] [R.SKY_STAT] [] ∧ t.sky.cfgPend = none ∧ ∀ k, t.chan k = u.chan k := by
    rw [ht]
    split
    · exact ⟨hoff, hoffpend.trans hpend, fun _ => rfl⟩
    · exact ⟨State.changesOnly_trans hoff hidle, hidlepend.trans (hoffpend.trans hpend), hidlechan⟩
  obtain ⟨hframe, hnone, hchan⟩ := hmain
  have hfld : ∀ f, f.addr = R.SKY_CTL → t.fld f = (s.showConfig sys rate).fld f := fun f hf =>
    (State.fld_of_changesOnly hframe f (by rw [hf]; decide)).trans (State.fld_of_regs hregs f)
  refine ⟨(hfld _ rfl).trans hsys, (hfld _ rfl).trans hl5, (hfld _ rfl).trans hrate, hnone, fun k => ?_⟩
  rw [hchan k]
  exact hbusy k
end

/-! ### The commands (R78, R88, R93 to R95) -/

section
variable (s : State)

theorem State.time_entered (c : Cmd) (op : Op) (hl : op.lane c.payload = false) : (s.entered c op).time = s.time := by
  have hsess : ∀ (t : State) sid ss, (t.setSess sid ss).time = t.time := fun t sid ss =>
    (t.setSess_changesOnly sid ss).2.1 .time (by decide)
  unfold State.entered
  extract_lets sid ss t e
  rw [hl, if_neg (by decide), hsess]
  dsimp only [t]
  split
  · exact hsess _ _ _
  · rfl

variable {s} (sid seq : Nat) {p : List Byte}

theorem doSkyConfig_of_ok (h4 : p.length = 4) (hrate : rdN p 1 1 ≤ 7)
    (hagree : periodsAgree (epochPeriod (rdN p 1 1)) (superframeNs (s.slotsAt ((s.now / oneSec + 1) * oneSec))) = true)
    (hpend : ((s.rad.pend.map (·.n)).all fun n => periodsAgree (epochPeriod (rdN p 1 1)) (superframeNs n)) = true) :
    ∃ u, doSkyConfig s sid seq p = (u, some ⟨St.ok, []⟩) ∧
      u.sky.cfgPend = some (rdN p 0 1 % 64, rdN p 1 1, s.now / oneSec + 1) ∧ s.eventsOnly u := by
  refine ⟨_, (if_pos h4).trans (if_neg ?_), rfl, State.eventsOnly_of_sess (fun _ => rfl) rfl⟩
  beta_reduce
  rw [hagree, hpend]
  rintro (h | h | h)
  · exact hrate.not_gt h
  · exact absurd h (by decide)
  · exact absurd h (by decide)

theorem doSkySetBasePosition_of_ok (h28 : p.length = 28) (hrange : ecefInRange (rdI p 0 8) (rdI p 8 8) (rdI p 16 8) = true) :
    doSkySetBasePosition s sid seq p
      = ({ s with sky := { s.sky with basePend := some ⟨rdI p 0 8, rdI p 8 8, rdI p 16 8, rdN p 24 2⟩ } }, some ⟨St.ok, []⟩) :=
  (if_pos h28).trans (if_neg (by rw [hrange]; decide))

/-- An excluded satellite is listed. -/
theorem doSkyExclude_of_exclude (h4 : p.length = 4) (hsys : rdN p 0 1 ≤ 4) (hact : rdN p 2 1 = 1) :
    ∃ u, doSkyExclude s sid seq p = (u, some ⟨St.ok, []⟩) ∧ u.sky.excluded.contains (satKey (rdN p 0 1) (rdN p 1 1)) = true ∧
      s.eventsOnly u := by
  have hin : ¬ (4 < rdN p 0 1 ∨ 1 < rdN p 2 1) := by omega
  refine ⟨_, (if_pos h4).trans ((if_neg hin).trans (if_pos hact)), ?_, ?_⟩
  · split
    · assumption
    · exact List.contains_iff_mem.mpr List.mem_cons_self
  · exact State.eventsOnly_ite s.eventsOnly_refl (State.eventsOnly_of_sess (fun _ => rfl) rfl)

theorem State.readmit_frame (s : State) (c b : Nat) : s.changesOnly (s.readmit c b) [.sky] [R.SKY_STAT] [] ∧
    (s.readmit c b).sky.excluded = s.sky.excluded ∧ (s.readmit c b).sky.lockedOut = s.sky.lockedOut := by
  unfold State.readmit
  extract_lets t
  split
  · exact ⟨s.changesOnly_refl _ _ _, rfl, rfl⟩
  · exact ⟨s.setTracker_changesOnly _ _ _ (by decide) (by decide), by rw [State.setTracker_sky], by rw [State.setTracker_sky]⟩

/-- Channels of a readmitted satellite go to grade 2, with an event for each. -/
theorem State.readmits_frame (s : State) (l : List Nat) {f : State → Nat → State}
    (hf : f = fun t c => ((t.readmit c 0).readmit c 1).gradeEvent c 2 0) :
    s.eventsOnly (l.foldl f s) ∧ (l.foldl f s).sky.excluded = s.sky.excluded ∧ (l.foldl f s).sky.lockedOut = s.sky.lockedOut := by
  have hone : ∀ (t : State) c,
      t.eventsOnly (f t c) ∧ (f t c).sky.excluded = t.sky.excluded ∧ (f t c).sky.lockedOut = t.sky.lockedOut := by
    intro t c
    subst hf
    obtain ⟨h0, hex0, hlo0⟩ := t.readmit_frame c 0
    obtain ⟨h1, hex1, hlo1⟩ := (t.readmit c 0).readmit_frame c 1
    have hev := State.eventsOnly_of_changesOnly (State.changesOnly_trans h0 h1) (by decide) (by decide)
    refine ⟨hev.trans (State.raise_eventsOnly _ _ _), ?_, ?_⟩
    · rw [State.gradeEvent_sky, hex1, hex0]
    · rw [State.gradeEvent_sky, hlo1, hlo0]
  refine ⟨State.eventsOnly_foldl _ (fun t c => (hone t c).1) _ _, ?_⟩
  clear hf
  induction l generalizing s with
  | nil => exact ⟨rfl, rfl⟩
  | cons c l ih =>
    obtain ⟨hex, hlo⟩ := ih (f s c)
    exact ⟨hex.trans (hone s c).2.1, hlo.trans (hone s c).2.2⟩

/-- A satellite is neither excluded nor locked out. -/
def State.unlisted (s : State) (k : Nat) : State :=
  { s with sky := { s.sky with excluded := s.sky.excluded.filter (· != k), lockedOut := s.sky.lockedOut.filter (· != k) } }

/-- A readmitted satellite is neither excluded nor locked out. -/
theorem doSkyExclude_of_readmit (h4 : p.length = 4) (hsys : rdN p 0 1 ≤ 4) (hact : rdN p 2 1 = 0) :
    ∃ u, doSkyExclude s sid seq p = (u, some ⟨St.ok, []⟩) ∧ u.sky.excluded.contains (satKey (rdN p 0 1) (rdN p 1 1)) = false ∧
      u.sky.lockedOut.contains (satKey (rdN p 0 1) (rdN p 1 1)) = false ∧ s.eventsOnly u := by
  have hin : ¬ (4 < rdN p 0 1 ∨ 1 < rdN p 2 1) := by omega
  have hgone : ∀ (l : List Nat) k, (l.filter (· != k)).contains k = false := fun l k => by simp
  obtain ⟨cs, hrun⟩ : ∃ cs : List Nat, doSkyExclude s sid seq p
      = (cs.foldl (fun t c => ((t.readmit c 0).readmit c 1).gradeEvent c 2 0) (s.unlisted (satKey (rdN p 0 1) (rdN p 1 1))),
        some ⟨St.ok, []⟩) :=
    ⟨_, (if_pos h4).trans ((if_neg hin).trans (if_neg (by omega)))⟩
  obtain ⟨hev, hex, hlo⟩ := (s.unlisted (satKey (rdN p 0 1) (rdN p 1 1))).readmits_frame cs rfl
  have hunlist : s.eventsOnly (s.unlisted (satKey (rdN p 0 1) (rdN p 1 1))) := State.eventsOnly_of_sess (fun _ => rfl) rfl
  refine ⟨_, hrun, ?_, ?_, hunlist.trans hev⟩
  · rw [hex]
    exact hgone _ _
  · rw [hlo]
    exact hgone _ _

theorem doSkyGetChannels_of_ok (h2 : p.length = 2) (hpos : 0 < rdN p 1 1) (h32 : rdN p 1 1 ≤ 32) (hend : rdN p 0 1 + rdN p 1 1 ≤ 128) :
    doSkyGetChannels s sid seq p
      = (s, some ⟨St.ok, ((List.range (rdN p 1 1)).map fun i => s.chanEntry (rdN p 0 1 + i)).flatten⟩) :=
  (if_pos h2).trans (if_neg (by omega))

theorem doSkyRtcmConfig_of_ok (h12 : p.length = 12) (hdiv : 1 ≤ rdN p 6 1) (hdiv' : rdN p 6 1 ≤ 50) (hstation : rdN p 8 2 ≤ 4095)
    (harp : 1 ≤ rdN p 10 1) (hdesc : 1 ≤ rdN p 11 1) :
    ∃ u, doSkyRtcmConfig s sid seq p = (u, some ⟨St.ok, []⟩) ∧
      u.sky.rtcm = ⟨rdN p 0 4, rdN p 4 2, rdN p 6 1, rdN p 7 1 % 16, rdN p 8 2, rdN p 10 1, rdN p 11 1⟩ ∧ s.eventsOnly u := by
  refine ⟨_, (if_pos h12).trans (if_neg ?_), rfl, State.eventsOnly_of_sess (fun _ => rfl) rfl⟩
  dsimp only
  omega

theorem State.chanEntry_entered (s : State) (c : Cmd) (op : Op) (k : Nat) : (s.entered c op).chanEntry k = s.chanEntry k := by
  have hsky : (s.entered c op).sky = s.sky := s.entered_same c op .sky (by decide)
  have hnotch : ∀ b, (fNotch b).addr ≠ R.SYS_SVB_STAT := fun _ => (by decide : R.SKY_ITF_STAT ≠ R.SYS_SVB_STAT)
  unfold State.chanEntry State.chanGrade State.itfOn State.chan State.tracker
  rw [hsky, s.fld_entered c op (hnotch 0), s.fld_entered c op (hnotch 1)]
/-- A command of the sky baseband is answered as its opcode says, and the sky is as the opcode left it. -/
theorem State.host_sky_of_run {s u : State} {c : Cmd} {op : Op} {r : Reply} (ht : s.takes c op = true) (hop : op.post = fun _ t => t)
    (hrun : op.run (s.entered c op) c.sid.val c.seq.toNat c.payload = (u, some r)) (hu : (s.entered c op).eventsOnly u) :
    (s.host c op).answered c r ∧ (s.host c op).sky = u.sky :=
  ⟨State.host_answered_of_events ht hop hrun hu, (State.host_changesOnly_of_run ht hop hrun).2.1 .sky (by decide)⟩
end

/-- Settles O13: an epoch and a navigation record by what their steps leave, a rate change by the channels it releases, a command by
what its opcode answers. -/
theorem epochsNavigationAndSkyCommandsComplete : Obligations.EpochsNavigationAndSkyCommandsComplete := by
  have hsky : ∀ (s : State) c op, (s.entered c op).sky = s.sky := fun s c op => s.entered_same c op .sky (by decide)
  refine ⟨?epoch, ?nav, ?pass, ?rate, ?config, ?base, ?exclude, ?readmit, ?channels, ?rtcm⟩
  case epoch =>
    intro s bias dr hruns hserving hlast
    refine ⟨_, congrArg Host.Outcome.next (if_pos ?_), s.epoch_shows bias dr rfl⟩
    rw [hruns, hserving, decide_eq_true hlast]
    rfl
  case nav => exact fun s ch b i ty hty hst hruns hpos hlen => State.execNavRecord_shows hty hst hruns hpos hlen
  case pass =>
    exact fun s ch b i ty old held hty hst hruns hpos hlen hpass hold hheld =>
      State.execNavRecord_passes hty hst hruns hpos hlen hpass hold hheld
  case rate =>
    intro s sys rate at_ hpend hdue
    obtain ⟨hsys, hl5, hrate, hnone, hbusy⟩ := s.configured_shows sys rate rfl
    exact ⟨_, s.execEpochRateChange_due hpend hdue, hsys, hl5, hrate, hnone, fun k _ => hbusy k⟩
  case config =>
    intro s c ht h4 hrate hagree hpend
    have hrad : (s.entered c opSkyConfig).rad = s.rad := s.entered_same c _ .rad (by decide)
    have hnow : (s.entered c opSkyConfig).now = s.now := by rw [State.now, s.time_entered c _ rfl, State.now]
    have hslots : (s.entered c opSkyConfig).slotsAt = s.slotsAt := by
      funext t
      unfold State.slotsAt
      rw [hrad, s.fld_entered c _ (f := F.RAD_SF_NSLOT) (by decide)]
    rw [← hslots, ← hnow] at hagree
    rw [← hrad] at hpend
    obtain ⟨u, hrun, hu, hev⟩ := doSkyConfig_of_ok c.sid.val c.seq.toNat h4 hrate hagree hpend
    obtain ⟨hok, hs⟩ := State.host_sky_of_run ht rfl hrun hev
    exact ⟨_, rfl, hok, by rw [hs, hu, hnow]⟩
  case base =>
    intro s c ht h28 hrange
    obtain ⟨hok, hs⟩ := State.host_sky_of_run ht rfl (doSkySetBasePosition_of_ok c.sid.val c.seq.toNat h28 hrange)
      (State.eventsOnly_of_sess (fun _ => rfl) rfl)
    refine ⟨_, rfl, hok, by rw [hs], ?_⟩
    rw [hs]
    dsimp only
    rw [hsky]
  case exclude =>
    intro s c ht h4 hsys hact
    obtain ⟨u, hrun, hu, hev⟩ := doSkyExclude_of_exclude (s := s.entered c opSkyExclude) c.sid.val c.seq.toNat
      h4 hsys hact
    obtain ⟨hok, hs⟩ := State.host_sky_of_run ht rfl hrun hev
    exact ⟨_, rfl, hok, by rw [hs, hu]⟩
  case readmit =>
    intro s c ht h4 hsys hact
    obtain ⟨u, hrun, hex, hlo, hev⟩ := doSkyExclude_of_readmit (s := s.entered c opSkyExclude) c.sid.val c.seq.toNat
      h4 hsys hact
    obtain ⟨hok, hs⟩ := State.host_sky_of_run ht rfl hrun hev
    exact ⟨_, rfl, hok, by rw [hs, hex], by rw [hs, hlo]⟩
  case channels =>
    intro s c ht h2 hpos h32 hend
    obtain ⟨hok, hs⟩ := State.host_sky_of_run ht rfl (doSkyGetChannels_of_ok c.sid.val c.seq.toNat h2 hpos h32 hend)
      (State.eventsOnly_refl _)
    simp only [State.chanEntry_entered] at hok
    exact ⟨_, rfl, hok, hs.trans (hsky s c _)⟩
  case rtcm =>
    intro s c ht h12 hdiv hdiv' hstation harp hdesc
    obtain ⟨u, hrun, hu, hev⟩ := doSkyRtcmConfig_of_ok (s := s.entered c opSkyRtcmConfig) c.sid.val c.seq.toNat
      h12 hdiv hdiv' hstation harp hdesc
    obtain ⟨hok, hs⟩ := State.host_sky_of_run ht rfl hrun hev
    exact ⟨_, rfl, hok, by rw [hs, hu]⟩

end Sys2Proof.Machine
end

section
/-! PROOF. Two statements of the time engine that a state of their hypotheses contradicts. -/

namespace Sys2Proof.Machine

/-! ### The idle step -/

/-- RESET_N is low after the first supply: the TIME domain has no clock, the always-on domain has. -/
def resetLow : State := { State.reset with pwr := { State.reset.pwr with resetHeld := true } }

/-- Refutes O1: while RESET_N is held low the TIME domain stands, and an idle step still counts one cycle of the always-on seconds counter
(R99). -/
theorem not_stepRunsTheFrontCommand : ¬ Obligations.StepRunsTheFrontCommand := by
  rintro ⟨-, hidle⟩
  have hruns : resetLow.timeRuns = false := by decide +kernel
  have h := hidle resetLow rfl
  rw [hruns, if_neg (by decide), show step resetLow = .next (resetLow.aonCycles 1) from rfl, Host.Outcome.next.injEq] at h
  have hfrac : (resetLow.aonCycles 1).vbat.frac = 1 := by decide +kernel
  rw [h] at hfrac
  exact absurd hfrac (by decide +kernel)

/-! ### A reply that another overwrites -/

/-- Session 0 has two entries under sequence number 1: an accepted TIME_RESTEP without its reply and, behind it, a reply ACCEPTED that is ready.
Nothing in the hypotheses of TimeStepsPulsesAndStampsComplete keeps them apart. -/
def sharedSeq : Session :=
  { isOpen := true
    cache := [{ seq := 1, crc := 0, opcode := opTimeRestep.code }]
    outst := [{ seq := 1, opcode := opTimeRestep.code, src := 0 },
      { seq := 1, opcode := opTimeRestep.code, src := 0, reply := some ⟨St.accepted, []⟩ }] }

/-- The first step of that TIME_RESTEP is due: one millisecond has passed, and the GNSS source is qualified. -/
def restepDue : State :=
  { State.reset with
    time := { ext := oneMs * 2 ^ 32, gnss := { qualified := true }, restep := [(0, 1, 0)] }
    svb := { sess := [(0, sharedSeq)] } }

/-- Refutes O15: the statement does not ask that the sequence number is of one waiting command. In `restepDue` both replies under it leave, the
reply of the step first, and the reply cache keeps the later one. -/
theorem not_timeStepsPulsesAndStampsComplete : ¬ Obligations.TimeStepsPulsesAndStampsComplete := by
  rintro ⟨-, hrestep, -⟩
  obtain ⟨t, ht, -, -, -, -, hreply⟩ := hrestep restepDue 0 1 0 restepDue.theta
    { seq := 1, opcode := opTimeRestep.code, src := 0 } rfl (by decide +kernel) (by decide +kernel) rfl (by decide +kernel) rfl rfl
    (by decide +kernel) rfl
  obtain rfl : restepDue.restepApply.runPosts = t := Host.Outcome.next.inj ht
  exact absurd hreply (by decide +kernel)

end Sys2Proof.Machine
end

section
/-! SUPPORT. The time engine: the rate, the time state, the source in use, and what waits for the next tick. -/

namespace Sys2Proof.Machine

/-! ### Reading beside the time engine's own record -/

section
variable (s : State) (x : TimeSt)

theorem State.fld_time (f : Fld) : ({ s with time := x } : State).fld f = s.fld f := rfl

theorem State.timState_time : ({ s with time := x } : State).timState = s.timState := rfl

theorem State.timeInc_time : ({ s with time := x } : State).timeInc = s.timeInc := rfl
end

/-! ### The rate (R104) -/

theorem clampI_natAbs_le (v : Int) : (clampI (-(10 ^ 8)) (10 ^ 8) v).natAbs ≤ 10 ^ 8 := by
  unfold clampI
  omega

theorem clampI_natAbs_of_lt {v : Int} (h : 10 ^ 8 < v.natAbs) : (clampI (-(10 ^ 8)) (10 ^ 8) v).natAbs = 10 ^ 8 := by
  unfold clampI
  omega

section
variable (s : State)

/-- TIME_INC shows an increment. -/
def State.incShown (inc : Nat) : State := (s.setFld F.TIM_INC_INT_INT (inc / 2 ^ 32)).setFld F.TIM_INC_FRAC_FRAC (inc % 2 ^ 32)

theorem State.setRate_eq (y : Int) : s.setRate y =
    { s.incShown ((4 * 2 ^ 32 : Int) * (10 ^ 12 + y) / 10 ^ 12).toNat with time := { s.time with y := y } } := by
  unfold State.setRate
  dsimp only
  rw [State.setFld_time, State.setFld_time, State.incShown]

/-- TIME_INC holds the whole of an increment below 2^8 ns. -/
theorem State.timeInc_incShown {inc : Nat} (h : inc < 2 ^ 40) : (s.incShown inc).timeInc = inc := by
  have hint : inc / 2 ^ 32 < 2 ^ 8 := by omega
  unfold State.timeInc State.incShown
  rw [State.fld_setFld_same _ F.TIM_INC_FRAC_FRAC _ (by decide),
    State.fld_setFld_otherReg _ F.TIM_INC_FRAC_FRAC F.TIM_INC_INT_INT _ (by decide),
    State.fld_setFld_same _ F.TIM_INC_INT_INT _ (by decide)]
  rw [show F.TIM_INC_INT_INT.width = 8 from rfl, show F.TIM_INC_FRAC_FRAC.width = 32 from rfl, Nat.mod_eq_of_lt hint, Nat.mod_mod]
  exact Nat.div_add_mod' inc (2 ^ 32)

theorem State.timeInc_setRate {y : Int} (h : y.natAbs ≤ 10 ^ 8) :
    ((s.setRate y).timeInc : Int) = (4 * 2 ^ 32 : Int) * (10 ^ 12 + y) / 10 ^ 12 := by
  have hpos : 0 ≤ (4 * 2 ^ 32 : Int) * (10 ^ 12 + y) / 10 ^ 12 := by omega
  have hlt : (4 * 2 ^ 32 : Int) * (10 ^ 12 + y) / 10 ^ 12 < 2 ^ 40 := by omega
  rw [s.setRate_eq, State.timeInc_time]
  generalize (4 * 2 ^ 32 : Int) * (10 ^ 12 + y) / 10 ^ 12 = inc at hpos hlt
  rw [s.timeInc_incShown (by omega)]
  exact Int.toNat_of_nonneg hpos

/-- A rate leaves the age of a holdover and the time state. -/
theorem State.setRate_keeps (y : Int) : (s.setRate y).time.holdSince = s.time.holdSince ∧ (s.setRate y).timState = s.timState := by
  obtain ⟨inc, h⟩ : ∃ inc, s.setRate y = { s.incShown inc with time := { s.time with y := y } } := ⟨_, s.setRate_eq y⟩
  have hstate : (s.incShown inc).timState = s.timState :=
    (State.fld_setFld_otherReg _ F.TIM_INC_FRAC_FRAC F.TIM_STAT_STATE _ (by decide)).trans
      (s.fld_setFld_otherReg F.TIM_INC_INT_INT F.TIM_STAT_STATE _ (by decide))
  rw [h, State.timState_time]
  exact ⟨rfl, hstate⟩

theorem State.freeRate_of_clocked (h : s.pwr.refLostAt = none) : s.freeRate = s.setRate (clampI (-(10 ^ 8)) (10 ^ 8) s.time.yf) := by
  unfold State.freeRate
  rw [h]
  rfl
end

/-! ### The time state (R108) -/

section
variable (s : State)

/-- A time state and its clockClass are shown. -/
def State.stateShown (v : Nat) : State :=
  let t := (s.setFld F.TIM_STAT_STATE v).setFld F.ETH_PTP_STAT_CLASS (clockClass v)
  { t with time := { t.time with lockSince := if v = tsLOCKING then t.time.lockSince else none } }

theorem State.stateShown_time (v : Nat) : ∃ lock, (s.stateShown v).time = { s.time with lockSince := lock } := by
  unfold State.stateShown
  dsimp only
  rw [State.setFld_time, State.setFld_time]
  exact ⟨_, rfl⟩

theorem State.fld_stateShown (v : Nat) {f : Fld} (hf : f.addr ≠ R.ETH_PTP_STAT) :
    (s.stateShown v).fld f = (s.setFld F.TIM_STAT_STATE v).fld f := by
  rw [State.stateShown, State.fld_time]
  exact State.fld_setFld_otherReg _ F.ETH_PTP_STAT_CLASS f _ (Ne.symm hf)

theorem State.timState_stateShown {v : Nat} (hv : v < 16) : (s.stateShown v).timState = v :=
  (s.fld_stateShown v (f := F.TIM_STAT_STATE) (by decide)).trans
    ((State.fld_setFld_same _ _ _ (by decide)).trans (Nat.mod_eq_of_lt hv))

theorem State.class_stateShown (v : Nat) : (s.stateShown v).fld F.ETH_PTP_STAT_CLASS = clockClass v := by
  have hc : clockClass v < 2 ^ 8 := by
    unfold clockClass
    split
    · decide
    · split <;> decide
  rw [State.stateShown, State.fld_time]
  exact (State.fld_setFld_same _ F.ETH_PTP_STAT_CLASS _ (by decide)).trans (Nat.mod_eq_of_lt hc)

/-- A change of the time state is shown, and EV_TIM_STATE raised. -/
theorem State.setTimState_of_ne {v : Nat} (hne : v ≠ s.timState) : ∃ d, s.setTimState v = (s.stateShown v).raise Ev.timState d :=
  ⟨_, if_neg hne⟩

theorem State.timEvent_frame {src : Nat} (h : src ∈ [Ev.timState, Ev.timStep, Ev.timOffset, Ev.timIn]) (d : List Byte) :
    s.changesOnly (s.raise src d) busParts busRegs [] := by
  have hsrc : src < 96 ∧ Ev.ofLane src = false := by
    revert src
    decide
  exact s.raise_hub_changesOnly src d hsrc.1 hsrc.2

/-- A new time state: its field, its event, its clockClass. -/
theorem State.setTimState_shows {v : Nat} (hv : v < 16) (hne : v ≠ s.timState) : (s.setTimState v).timState = v ∧
    bit (s.setTimState v).pend Ev.timState = true ∧ (s.setTimState v).fld F.ETH_PTP_STAT_CLASS = clockClass v := by
  obtain ⟨d, h⟩ := s.setTimState_of_ne hne
  have hframe := (s.stateShown v).timEvent_frame (src := Ev.timState) (by decide) d
  rw [h]
  exact ⟨(State.fld_of_changesOnly hframe _ (by decide)).trans (s.timState_stateShown hv),
    State.raise_pend (by decide) (by decide) _ _ (by decide), (State.fld_of_changesOnly hframe _ (by decide)).trans (s.class_stateShown v)⟩

theorem State.timState_setTimState {v : Nat} (hv : v < 16) : (s.setTimState v).timState = v := by
  by_cases hne : v = s.timState
  · rw [State.setTimState, if_pos hne, ← hne]
  · exact (s.setTimState_shows hv hne).1

/-- Of the time engine's own record a change of state touches the lock timer. -/
theorem State.setTimState_time (v : Nat) : ∃ lock, (s.setTimState v).time = { s.time with lockSince := lock } := by
  by_cases hne : v = s.timState
  · exact ⟨s.time.lockSince, by rw [State.setTimState, if_pos hne]⟩
  · obtain ⟨d, h⟩ := s.setTimState_of_ne hne
    have htime : (s.setTimState v).time = (s.stateShown v).time := by
      rw [h]
      exact ((s.stateShown v).timEvent_frame (by decide) d).2.1 .time (by decide)
    rw [htime]
    exact s.stateShown_time v

/-- LOCKED and EXPIRED are entered with a note of whether EXPIRED has been reached since LOCKED (R109). -/
theorem State.setTimState_expired_shows (b : Bool) {v : Nat} (hv : v < 16) (hne : v ≠ s.timState) {t : State}
    (ht : t = ({ s with time := { s.time with expired := b } } : State).setTimState v) : t.timState = v ∧ t.time.expired = b ∧
      bit t.pend Ev.timState = true ∧ t.fld F.ETH_PTP_STAT_CLASS = clockClass v := by
  obtain ⟨hnew, hpend, hclass⟩ := State.setTimState_shows { s with time := { s.time with expired := b } } hv hne
  obtain ⟨lock, htime⟩ := State.setTimState_time { s with time := { s.time with expired := b } } v
  rw [ht, htime]
  exact ⟨hnew, rfl, hpend, hclass⟩

/-- TIM_STAT keeps its other fields, which stand above STATE. -/
theorem State.setTimState_stat (v : Nat) {f : Fld} (ha : f.addr = R.TIM_STAT) (hf : 4 ≤ f.lo) : (s.setTimState v).fld f = s.fld f := by
  by_cases hne : v = s.timState
  · rw [State.setTimState, if_pos hne]
  · obtain ⟨d, h⟩ := s.setTimState_of_ne hne
    have hframe := (s.stateShown v).timEvent_frame (src := Ev.timState) (by decide) d
    rw [h, State.fld_of_changesOnly hframe f (by rw [ha]; decide), s.fld_stateShown v (by rw [ha]; decide)]
    exact State.fld_setFld_other _ _ _ _ ha.symm (by decide) (.inr hf)
end

/-! ### The sources and the source in use (R102, R109, R110) -/

/-- From `s` to `t` the sources, their order, y_f and the fields of TIM_STAT above STATE stay. -/
structure State.sourcesKept (s t : State) : Prop where
  ctl : t.reg R.TIM_CTL = s.reg R.TIM_CTL
  gnss : t.time.gnss = s.time.gnss
  ptp : t.time.ptp = s.time.ptp
  yf : t.time.yf = s.time.yf
  yfSince : t.time.yfSince = s.time.yfSince
  stat : ∀ f : Fld, f.addr = R.TIM_STAT → 4 ≤ f.lo → t.fld f = s.fld f

section
variable {s t u : State}

theorem State.sourcesKept_refl (s : State) : s.sourcesKept s := ⟨rfl, rfl, rfl, rfl, rfl, fun _ _ _ => rfl⟩

theorem State.sourcesKept.trans (h : s.sourcesKept t) (k : t.sourcesKept u) : s.sourcesKept u where
  ctl := k.ctl.trans h.ctl
  gnss := k.gnss.trans h.gnss
  ptp := k.ptp.trans h.ptp
  yf := k.yf.trans h.yf
  yfSince := k.yfSince.trans h.yfSince
  stat f ha hf := (k.stat f ha hf).trans (h.stat f ha hf)

theorem State.sourcesKept_ite {c : Prop} [Decidable c] (ht : s.sourcesKept t) (hu : s.sourcesKept u) :
    s.sourcesKept (if c then t else u) := by
  split
  · exact ht
  · exact hu

theorem State.sourcesKept.source (h : s.sourcesKept t) (k : Nat) : t.source k = s.source k := by
  rw [State.source, State.source, h.gnss, h.ptp]

/-- The best source is one of the sources in their order. -/
theorem State.bestSource_congr (hctl : t.reg R.TIM_CTL = s.reg R.TIM_CTL) (hsource : ∀ k, t.source k = s.source k) :
    t.bestSource = s.bestSource := by
  have hsrc : t.fld F.TIM_CTL_SRC = s.fld F.TIM_CTL_SRC := congrArg (fun w : Word => fldOf F.TIM_CTL_SRC w.toNat) hctl
  unfold State.bestSource State.sourceOrder
  rw [hsrc, funext hsource]

/-- A change of the bus and of registers other than TIM_CTL and TIM_STAT. -/
theorem State.sourcesKept_of_frame {ps : List Part} {rs : List Nat} (h : s.changesOnly t ps rs []) (hp : Part.time ∉ ps)
    (hctl : R.TIM_CTL ∉ rs) (hstat : R.TIM_STAT ∉ rs) : s.sourcesKept t := by
  have htime : t.time = s.time := h.2.1 .time hp
  exact ⟨h.2.2 _ hctl (by simp), by rw [htime], by rw [htime], by rw [htime], by rw [htime],
    fun f ha _ => State.fld_of_changesOnly h f (by rwa [ha])⟩

theorem State.sourcesKept_of_bus (h : s.changesOnly t busParts busRegs []) : s.sourcesKept t :=
  State.sourcesKept_of_frame h (by decide) (by decide) (by decide)
end

theorem State.bestSource_lt (s : State) : s.bestSource < 3 := by
  have horder : ∀ k ∈ s.sourceOrder, k < 3 := by
    unfold State.sourceOrder
    split <;> decide
  unfold State.bestSource
  cases h : (s.sourceOrder.filter fun k => (s.source k).qualified).head? with
  | none => decide
  | some k => exact horder k (List.mem_filter.mp (List.mem_of_mem_head? h)).1

section
variable (s : State)

theorem State.time_sourcesKept (x : TimeSt) (hgnss : x.gnss = s.time.gnss) (hptp : x.ptp = s.time.ptp) (hyf : x.yf = s.time.yf)
    (hsince : x.yfSince = s.time.yfSince) : s.sourcesKept { s with time := x } :=
  ⟨rfl, hgnss, hptp, hyf, hsince, fun f _ _ => s.fld_time x f⟩

theorem State.setFld_sourcesKept (f : Fld) (v : Nat) (hctl : f.addr ≠ R.TIM_CTL) (hstat : f.addr ≠ R.TIM_STAT) :
    s.sourcesKept (s.setFld f v) :=
  State.sourcesKept_of_frame (s.setFld_changesOnly f v (ps := []) (rs := [f.addr]) (bs := []) (by simp)) (by simp)
    (by simpa using hctl.symm) (by simpa using hstat.symm)

theorem State.setTimState_sourcesKept (v : Nat) : s.sourcesKept (s.setTimState v) := by
  obtain ⟨lock, htime⟩ := s.setTimState_time v
  obtain ⟨hframe, -⟩ := s.setTimState_offsetWork v
  exact ⟨hframe.2.2 _ (by decide) (by simp), by rw [htime], by rw [htime], by rw [htime], by rw [htime],
    fun f ha hf => s.setTimState_stat v ha hf⟩

theorem State.incShown_sourcesKept (inc : Nat) : s.sourcesKept (s.incShown inc) :=
  (s.setFld_sourcesKept _ _ (by decide) (by decide)).trans (State.setFld_sourcesKept _ _ _ (by decide) (by decide))

theorem State.setRate_sourcesKept (y : Int) : s.sourcesKept (s.setRate y) := by
  obtain ⟨inc, h⟩ : ∃ inc, s.setRate y = { s.incShown inc with time := { s.time with y := y } } := ⟨_, s.setRate_eq y⟩
  have htime : (s.incShown inc).time = s.time := by rw [State.incShown, State.setFld_time, State.setFld_time]
  rw [h, ← htime]
  exact (s.incShown_sourcesKept inc).trans ((s.incShown inc).time_sourcesKept { (s.incShown inc).time with y := y } rfl rfl rfl rfl)

theorem State.freeRate_sourcesKept : s.sourcesKept s.freeRate := State.sourcesKept_ite s.sourcesKept_refl (s.setRate_sourcesKept _)

/-- A warning is noted, with EV_TIM_OFFSET. -/
def State.offsetWarned (a : Nat) : State :=
  ({ s with time := { s.time with offWarn := a } } : State).raise Ev.timOffset s.offsetDetail

theorem State.offsetWarn_eq : s.offsetWarn = s ∨ ∃ a, s.offsetWarn = s.offsetWarned a := by
  unfold State.offsetWarn
  extract_lets a w
  split
  · split
    · exact .inr ⟨_, rfl⟩
    · exact .inl rfl
  · split
    · exact .inr ⟨_, rfl⟩
    · exact .inl rfl

theorem State.offsetWarn_keeps : s.sourcesKept s.offsetWarn ∧ s.offsetWarn.timState = s.timState := by
  rcases s.offsetWarn_eq with h | ⟨a, h⟩ <;> rw [h]
  · exact ⟨s.sourcesKept_refl, rfl⟩
  · have hframe := ({ s with time := { s.time with offWarn := a } } : State).timEvent_frame (src := Ev.timOffset) (by decide) s.offsetDetail
    exact ⟨(s.time_sourcesKept { s.time with offWarn := a } rfl rfl rfl rfl).trans (State.sourcesKept_of_bus hframe),
      (State.fld_of_changesOnly hframe _ (by decide)).trans (s.timState_time _)⟩

/-- TIM_OFFSET shows an offset. -/
theorem State.offsetShown_keeps (w : Word) : s.sourcesKept (s.setReg R.TIM_OFFSET w).offsetWarn ∧
    (s.setReg R.TIM_OFFSET w).offsetWarn.timState = s.timState := by
  have hshown : s.changesOnly (s.setReg R.TIM_OFFSET w) [] [R.TIM_OFFSET] [] := s.setReg_changesOnly R.TIM_OFFSET _ (by simp)
  obtain ⟨hkept, hstate⟩ := (s.setReg R.TIM_OFFSET w).offsetWarn_keeps
  exact ⟨(State.sourcesKept_of_frame hshown (by simp) (by decide) (by decide)).trans hkept,
    hstate.trans (State.fld_of_changesOnly hshown _ (by decide))⟩

theorem State.lockSince_sourcesKept (lock : Option Nat) : s.sourcesKept { s with time := { s.time with lockSince := lock } } :=
  s.time_sourcesKept { s.time with lockSince := lock } rfl rfl rfl rfl

theorem State.offsetSeen_sourcesKept : s.sourcesKept s.offsetSeen := by
  unfold State.offsetSeen
  extract_lets t time u
  have ht : s.sourcesKept t := (s.offsetShown_keeps _).1
  clear_value t
  have hu : s.sourcesKept u := ht.trans (t.lockSince_sourcesKept _)
  split
  · exact ht.trans (t.lockSince_sourcesKept _)
  · split
    · exact hu.trans (State.setTimState_sourcesKept _ _)
    · exact hu

/-- An offset takes LOCKED to LOCKING at most. -/
theorem State.timState_offsetSeen : s.offsetSeen.timState = s.timState ∨ s.offsetSeen.timState = tsLOCKING := by
  unfold State.offsetSeen
  extract_lets t u
  have ht : t.timState = s.timState := (s.offsetShown_keeps _).2
  clear_value t
  split
  · exact .inl ((t.timState_time _).trans ht)
  · split
    · exact .inr (State.timState_setTimState _ (by decide))
    · exact .inl ((t.timState_time _).trans ht)

/-- TIM_STAT shows the source in use. -/
def State.sourceShown : State := (s.setFld F.TIM_STAT_SOURCE s.bestSource).setFld F.TIM_STAT_QUAL (b2n (s.bestSource != 0))

theorem State.sourceShown_flds : s.sourceShown.fld F.TIM_STAT_SOURCE = s.bestSource ∧
    s.sourceShown.fld F.TIM_STAT_QUAL = b2n (s.bestSource != 0) ∧ s.sourceShown.timState = s.timState := by
  have hsource : s.bestSource < 2 ^ 4 := lt_trans s.bestSource_lt (by decide)
  have hqual : b2n (s.bestSource != 0) < 2 ^ 1 := by
    unfold b2n
    split <;> decide
  unfold State.sourceShown
  refine ⟨?_, (State.fld_setFld_same _ _ _ (by decide)).trans (Nat.mod_eq_of_lt hqual), ?_⟩
  · rw [State.fld_setFld_other _ F.TIM_STAT_QUAL F.TIM_STAT_SOURCE _ rfl (by decide) (by decide)]
    exact (State.fld_setFld_same _ _ _ (by decide)).trans (Nat.mod_eq_of_lt hsource)
  · unfold State.timState
    rw [State.fld_setFld_other _ F.TIM_STAT_QUAL F.TIM_STAT_STATE _ rfl (by decide) (by decide),
      State.fld_setFld_other _ F.TIM_STAT_SOURCE F.TIM_STAT_STATE _ rfl (by decide) (by decide)]

/-- HOLDOVER has begun, with its age 0 and the rate it keeps. -/
def State.holdBegun : State :=
  ({ s with time := { s.time with holdSince := some s.el, lockSince := none } } : State).freeRate.setFld F.TIM_HOLD_AGE_AGE 0

theorem State.holdBegun_sourcesKept : s.sourcesKept s.holdBegun := by
  have hhold := s.time_sourcesKept { s.time with holdSince := some s.el, lockSince := none } rfl rfl rfl rfl
  exact (hhold.trans (State.freeRate_sourcesKept _)).trans (State.setFld_sourcesKept _ F.TIM_HOLD_AGE_AGE 0 (by decide) (by decide))

theorem State.freeRate_keeps : s.freeRate.time.holdSince = s.time.holdSince ∧ s.freeRate.timState = s.timState := by
  unfold State.freeRate
  split
  · exact ⟨rfl, rfl⟩
  · exact s.setRate_keeps _

theorem State.holdBegun_shows : s.holdBegun.time.holdSince = some s.el ∧ s.holdBegun.timState = s.timState := by
  obtain ⟨hhold, hstate⟩ := State.freeRate_keeps { s with time := { s.time with holdSince := some s.el, lockSince := none } }
  unfold State.holdBegun
  refine ⟨?_, (State.fld_setFld_otherReg _ F.TIM_HOLD_AGE_AGE F.TIM_STAT_STATE _ (by decide)).trans (hstate.trans (s.timState_time _))⟩
  rw [State.setFld_time, hhold]

/-- With no source LOCKING and LOCKED pass to HOLDOVER. -/
theorem State.selectSource_of_none (h : s.bestSource = 0) : s.selectSource =
    if s.timState = tsLOCKING ∨ s.timState = tsLOCKED then s.sourceShown.holdBegun.setTimState tsHOLDOVER else s.sourceShown := by
  rw [← s.sourceShown_flds.2.2]
  exact if_pos h

/-- A source in use takes HOLDOVER and EXPIRED to LOCKING, and shows its offset. -/
def State.sourceTaken : State :=
  let t : State := { s with time := { s.time with holdSince := none } }
  if t.timState = tsHOLDOVER ∨ t.timState = tsEXPIRED then t.setTimState tsLOCKING else t

theorem State.selectSource_of_some (h : s.bestSource ≠ 0) : s.selectSource = s.sourceShown.sourceTaken.offsetSeen := if_neg h

theorem State.sourceTaken_sourcesKept : s.sourcesKept s.sourceTaken := by
  have hhold : s.sourcesKept { s with time := { s.time with holdSince := none } } :=
    s.time_sourcesKept { s.time with holdSince := none } rfl rfl rfl rfl
  exact State.sourcesKept_ite (hhold.trans (State.setTimState_sourcesKept _ _)) hhold

theorem State.timState_sourceTaken : s.sourceTaken.timState ≠ tsHOLDOVER ∧ s.sourceTaken.timState ≠ tsEXPIRED := by
  unfold State.sourceTaken
  extract_lets time t
  split
  · rw [State.timState_setTimState _ (by decide)]
    decide
  · next h => exact not_or.mp h

theorem State.selectSource_sourcesKept : s.sourceShown.sourcesKept s.selectSource := by
  by_cases h : s.bestSource = 0
  · rw [s.selectSource_of_none h]
    exact State.sourcesKept_ite (s.sourceShown.holdBegun_sourcesKept.trans (State.setTimState_sourcesKept _ _)) (State.sourcesKept_refl _)
  · rw [s.selectSource_of_some h]
    exact s.sourceShown.sourceTaken_sourcesKept.trans (State.offsetSeen_sourcesKept _)

theorem State.source_selectSource (k : Nat) : s.selectSource.source k = s.source k := s.selectSource_sourcesKept.source k

theorem State.bestSource_selectSource : s.selectSource.bestSource = s.bestSource :=
  State.bestSource_congr (s.selectSource_sourcesKept.ctl.trans ((State.reg_setFld_other _ _ _ _ (by decide)).trans
    (s.reg_setFld_other _ _ _ (by decide)))) s.source_selectSource

/-- TIM_STAT shows the source in use, which no state of holdover stands beside (R102, R110). -/
theorem State.selectSource_shows {t : State} (ht : t = s.selectSource) : t.fld F.TIM_STAT_SOURCE = t.bestSource ∧
    t.fld F.TIM_STAT_QUAL = b2n (t.bestSource != 0) ∧ (t.bestSource ≠ 0 → t.timState ≠ tsHOLDOVER ∧ t.timState ≠ tsEXPIRED) := by
  have hkept := s.selectSource_sourcesKept
  obtain ⟨hsource, hqual, -⟩ := s.sourceShown_flds
  rw [ht, s.bestSource_selectSource, hkept.stat _ rfl (by decide), hkept.stat _ rfl (by decide)]
  refine ⟨hsource, hqual, fun h => ?_⟩
  rw [s.selectSource_of_some h]
  rcases s.sourceShown.sourceTaken.timState_offsetSeen with h | h <;> rw [h]
  · exact State.timState_sourceTaken _
  · decide

/-- With no source left LOCKING and LOCKED pass to HOLDOVER, with EV_TIM_STATE (R109). -/
theorem State.selectSource_holds (hbest : s.bestSource = 0) (hstate : s.timState = tsLOCKING ∨ s.timState = tsLOCKED) :
    s.selectSource.timState = tsHOLDOVER ∧ s.selectSource.time.holdSince = some s.el ∧ bit s.selectSource.pend Ev.timState = true := by
  obtain ⟨hhold, hsame⟩ := s.sourceShown.holdBegun_shows
  have hne : tsHOLDOVER ≠ s.sourceShown.holdBegun.timState := by
    rw [hsame, s.sourceShown_flds.2.2]
    rcases hstate with h | h <;> rw [h] <;> decide
  obtain ⟨hnew, hpend, -⟩ := s.sourceShown.holdBegun.setTimState_shows (by decide) hne
  obtain ⟨lock, htime⟩ := s.sourceShown.holdBegun.setTimState_time tsHOLDOVER
  rw [s.selectSource_of_none hbest, if_pos hstate, htime]
  exact ⟨hnew, hhold, hpend⟩

/-- A change of source leaves y_f. -/
theorem State.yf_selectSource : s.selectSource.time.yf = s.time.yf ∧ s.selectSource.time.yfSince = s.time.yfSince := by
  have htime : s.sourceShown.time = s.time := by rw [State.sourceShown, State.setFld_time, State.setFld_time]
  have hkept := s.selectSource_sourcesKept
  exact ⟨hkept.yf.trans (congrArg TimeSt.yf htime), hkept.yfSince.trans (congrArg TimeSt.yfSince htime)⟩

/-- The step that is to come changes nothing beside. -/
theorem State.armFirstStep_eq : ∃ a, s.armFirstStep = { s with time := { s.time with stepAfter := a } } := by
  unfold State.armFirstStep
  split
  · exact ⟨_, rfl⟩
  · exact ⟨s.time.stepAfter, rfl⟩

theorem State.source_setSource_same (k : Nat) (v : TimeSource) : (s.setSource k v).source k = v := by
  unfold State.setSource State.source
  split <;> rfl

/-- A source's own record is of the time engine, and beside its rate. -/
theorem State.setSource_keeps (k : Nat) (v : TimeSource) : (s.setSource k v).regs = s.regs ∧ (s.setSource k v).el = s.el ∧
    (s.setSource k v).time.yf = s.time.yf ∧ (s.setSource k v).time.y = s.time.y := by
  unfold State.setSource
  split <;> exact ⟨rfl, rfl, rfl, rfl⟩

/-- A source qualifies; where it is the best one, y_f takes the error that its window measured (R104). -/
def State.sourceQualified (n : Nat) (yf : Int) : State :=
  let t := s.setSource n { s.source n with qualified := true }
  if t.bestSource = n then { t with time := { t.time with yf := yf, yfSince := t.el } } else t

theorem State.sourceQualified_shows (n : Nat) (yf : Int) {t : State} (ht : t = s.sourceQualified n yf) :
    (t.source n).qualified = true ∧ (t.bestSource = n → t.time.yf = yf ∧ t.time.yfSince = s.el) ∧
      (t.bestSource ≠ n → t.time.yf = s.time.yf) := by
  obtain ⟨-, hel, hyf, -⟩ := s.setSource_keeps n { s.source n with qualified := true }
  have hsource := s.source_setSource_same n { s.source n with qualified := true }
  unfold State.sourceQualified at ht
  generalize s.setSource n { s.source n with qualified := true } = u at ht hel hyf hsource
  dsimp only at ht
  split at ht
  · next hbest =>
    have hsame : t.bestSource = u.bestSource := State.bestSource_congr (by rw [ht]; rfl) (by rw [ht]; exact fun _ => rfl)
    refine ⟨?_, fun _ => ?_, fun hne => absurd (hsame.trans hbest) hne⟩
    · rw [ht]
      exact congrArg TimeSource.qualified hsource
    · rw [ht]
      exact ⟨rfl, hel⟩
  · next hbest =>
    rw [ht]
    exact ⟨congrArg TimeSource.qualified hsource, fun h => absurd h hbest, fun _ => hyf⟩

/-- What a source that qualifies leaves (R102, R104, R110). -/
theorem State.qualified_shows (n : Nat) (yf : Int) {t : State} (ht : t = (s.sourceQualified n yf).selectSource.armFirstStep) :
    (t.source n).qualified = true ∧ (t.bestSource = n → t.time.yf = yf ∧ t.time.yfSince = s.el) ∧
      (t.bestSource ≠ n → t.time.yf = s.time.yf) ∧ t.fld F.TIM_STAT_SOURCE = t.bestSource ∧
      t.fld F.TIM_STAT_QUAL = b2n (t.bestSource != 0) ∧ (t.bestSource ≠ 0 → t.timState ≠ tsHOLDOVER ∧ t.timState ≠ tsEXPIRED) := by
  obtain ⟨hqual, hbest, hother⟩ := s.sourceQualified_shows n yf rfl
  generalize s.sourceQualified n yf = u at ht hqual hbest hother
  obtain ⟨hyf, hsince⟩ := u.yf_selectSource
  have hshown := u.selectSource_shows rfl
  rw [← u.bestSource_selectSource, ← hyf] at hbest hother
  rw [← hsince] at hbest
  rw [← u.source_selectSource] at hqual
  generalize u.selectSource = w at ht hqual hbest hother hshown
  obtain ⟨a, harm⟩ := w.armFirstStep_eq
  have hsame : t.bestSource = w.bestSource := by
    rw [ht, harm]
    exact State.bestSource_congr rfl fun _ => rfl
  rw [hsame, ht, harm]
  exact ⟨hqual, hbest, hother, hshown⟩
end

theorem execSourceQualify_due {s : State} {k : Fin 2} {yf : Int} {v : Nat} (hv : (s.source (k.val + 1)).validSince = some v)
    (hq : (s.source (k.val + 1)).qualified = false) (hlong : v + orOne (s.fld F.TIM_LOCK_QUAL) * oneSec ≤ s.el)
    (hvalid : s.el ≤ (s.source (k.val + 1)).lastValid + oneSec) :
    execSourceQualify k yf s = .next (s.sourceQualified (k.val + 1) yf).selectSource.armFirstStep := by
  unfold execSourceQualify
  extract_lets n src
  split
  · next w hw =>
    obtain rfl : v = w := Option.some.inj (hv.symm.trans hw)
    refine congrArg Host.Outcome.next (if_pos ?_)
    rw [hq, State.passed, decide_eq_true hlong, decide_eq_true hvalid]
    rfl
  · next hw => exact absurd (hv.symm.trans hw) nofun

/-! ### Discipline updates (R104) -/

section
variable (s : State)

/-- An update is noted. -/
def State.discNoted : State := { s with time := { s.time with lastDisc := s.el } }

theorem State.rateFor_discNoted : s.discNoted.rateFor s.discNoted.theta = s.rateFor s.theta := rfl

/-- A source that would need more than 100 ppm is treated as invalid. -/
def State.rateExceeded (y : Int) : State :=
  ((s.setRate (clampI (-(10 ^ 8)) (10 ^ 8) y)).raise Ev.timOffset s.offsetDetail).sourceInvalid (s.fld F.TIM_STAT_SOURCE)

theorem execDisciplineUpdate_due {s : State} (hstepped : s.flag F.TIM_STAT_STEPPED = true) (hen : s.flag F.TIM_CTL_DISC_EN = true)
    (hclock : s.pwr.refLostAt = none) (hlast : s.time.lastDisc + oneSec ≤ s.el) : execDisciplineUpdate s = .next
      (if s.fld F.TIM_STAT_SOURCE = 0 then s.discNoted.freeRate
      else if 10 ^ 8 < (s.rateFor s.theta).natAbs then s.discNoted.rateExceeded (s.rateFor s.theta)
      else s.discNoted.setRate (s.rateFor s.theta)) := by
  rw [← s.rateFor_discNoted]
  refine congrArg Host.Outcome.next (if_pos ?_)
  rw [hstepped, hen, hclock, State.passed, decide_eq_true hlast]
  rfl

theorem State.setRate_y (y : Int) : (s.setRate y).time.y = y ∧ (s.setRate y).time.lastDisc = s.time.lastDisc := by
  rw [s.setRate_eq]
  exact ⟨rfl, rfl⟩

theorem State.rateExceeded_shows {y : Int} (h : 10 ^ 8 < y.natAbs) : (s.rateExceeded y).time.y.natAbs = 10 ^ 8 ∧
    bit (s.rateExceeded y).pend Ev.timOffset = true ∧ ((s.rateExceeded y).source (s.fld F.TIM_STAT_SOURCE)).validSince = none := by
  have hframe := (s.setRate (clampI (-(10 ^ 8)) (10 ^ 8) y)).timEvent_frame (src := Ev.timOffset) (by decide) s.offsetDetail
  have hpend : bit ((s.setRate (clampI (-(10 ^ 8)) (10 ^ 8) y)).raise Ev.timOffset s.offsetDetail).pend Ev.timOffset = true :=
    State.raise_pend (by decide) (by decide) _ _ (by decide)
  have hrate := (s.setRate_y (clampI (-(10 ^ 8)) (10 ^ 8) y)).1
  have htime := hframe.2.1 .time (by decide)
  unfold State.rateExceeded State.sourceInvalid
  generalize (s.setRate (clampI (-(10 ^ 8)) (10 ^ 8) y)).raise Ev.timOffset s.offsetDetail = t at hpend htime
  obtain ⟨hregs, -, -, hy⟩ := t.setSource_keeps (s.fld F.TIM_STAT_SOURCE)
    { t.source (s.fld F.TIM_STAT_SOURCE) with validSince := none }
  refine ⟨?_, ?_, by rw [State.source_setSource_same]⟩
  · rw [hy, htime, hrate]
    exact clampI_natAbs_of_lt h
  · rwa [State.bit_pend_of_reg (congrArg (fun r => Tbl.get (regReset R.EVT_PEND0) r R.EVT_PEND0) hregs) (by decide)]
end

/-! ### What waits for the next tick -/

/-- From `s` to `t` the poisoned inputs and what is to follow replies stay. -/
def State.waitsKept (s t : State) : Prop := t.lan.gap = s.lan.gap ∧ t.svb.posts = s.svb.posts

section
variable {s t u : State}

theorem State.waitsKept.trans (h : s.waitsKept t) (k : t.waitsKept u) : s.waitsKept u := ⟨k.1.trans h.1, k.2.trans h.2⟩

theorem State.waitsKept_ite {c : Prop} [Decidable c] (ht : s.waitsKept t) (hu : s.waitsKept u) : s.waitsKept (if c then t else u) := by
  split
  · exact ht
  · exact hu

theorem State.waitsKept_of_parts (hl : t.lan = s.lan) (hs : t.svb = s.svb) : s.waitsKept t :=
  ⟨congrArg Lan.gap hl, congrArg Svb.posts hs⟩

theorem State.waitsKept_of_frame {ps : List Part} {rs : List Nat} {bs : List Block} (h : s.changesOnly t ps rs bs) (hl : Part.lan ∉ ps)
    (hs : Part.svb ∉ ps) : s.waitsKept t := State.waitsKept_of_parts (h.2.1 .lan hl) (h.2.1 .svb hs)

/-- A change of the bus that leaves what is to follow replies. -/
theorem State.waitsKept_of_bus (h : s.changesOnly t busParts busRegs []) (hp : t.svb.posts = s.svb.posts) : s.waitsKept t :=
  ⟨congrArg Lan.gap (h.2.1 .lan (by decide)), hp⟩

theorem State.waitsKept_foldl {α : Type} (f : State → α → State) (h : ∀ (s : State) a, s.waitsKept (f s a)) (l : List α) (s : State) :
    s.waitsKept (l.foldl f s) := by
  induction l generalizing s with
  | nil => exact ⟨rfl, rfl⟩
  | cons a l ih => exact (h s a).trans (ih _)
end

section
variable (s : State)

theorem State.waitsKept_refl : s.waitsKept s := ⟨rfl, rfl⟩

theorem State.eventTo_waitsKept (src time : Nat) (detail : List Byte) (sid : Nat) : s.waitsKept (s.eventTo src time detail sid) := by
  refine State.waitsKept_of_bus (s.eventTo_changesOnly _ _ _ _) ?_
  unfold State.eventTo
  dsimp only
  split
  · rfl
  · split
    · exact State.sendPkt_posts _ _ _ _ _
    · split
      · exact State.sendPkt_posts _ _ _ _ _
      · rfl

theorem State.raiseAt_waitsKept (src time : Nat) (detail : List Byte) : s.waitsKept (s.raiseAt src time detail) :=
  (State.waitsKept_of_parts (by rw [State.syncIrq_lan, State.incFld_lan, State.setPend_lan])
    (by rw [State.syncIrq_svb, State.incFld_svb, State.setPend_svb])).trans
    (State.waitsKept_foldl _ (fun t sid => t.eventTo_waitsKept src time (detail8 detail) sid) _ _)

theorem State.raise_waitsKept (src : Nat) (detail : List Byte) : s.waitsKept (s.raise src detail) := by
  unfold State.raise
  extract_lets tag t
  have hout : s.waitsKept t := ⟨rfl, rfl⟩
  have hheld : ∀ l, t.waitsKept { t with lan := { t.lan with heldEvents := l } } := fun _ => ⟨rfl, rfl⟩
  exact State.waitsKept_ite (State.waitsKept_ite (hout.trans (hheld _)) (State.waitsKept_ite (hout.trans (State.raiseAt_waitsKept _ _ _ _))
    s.waitsKept_refl)) (s.raiseAt_waitsKept _ _ _)

theorem State.setTokenArb_waitsKept (arb : Nat) (a : TokenArb) : s.waitsKept (s.setTokenArb arb a) :=
  State.waitsKept_of_frame (s.setTokenArb_changesOnly arb a (ps := [.arb]) (bs := []) (by simp) (List.Subset.refl tokenRegs)) (by decide)
    (by decide)

theorem State.tokenGranted_waitsKept (arb : Nat) (taken : Option Nat) (owner : Nat) : s.waitsKept (s.tokenGranted arb taken owner) := by
  unfold State.tokenGranted
  extract_lets cnt t
  have ht : s.waitsKept t := State.waitsKept_of_parts (State.incFld_lan _ _) (State.incFld_svb _ _)
  split
  · exact ht
  · extract_lets n u
    have hu : s.waitsKept u := (ht.trans (State.waitsKept_of_parts (State.satInc_lan _ _) (State.satInc_svb _ _))).trans
      (State.setTokenArb_waitsKept _ _ _)
    exact State.waitsKept_ite (hu.trans (State.raise_waitsKept _ _ _)) hu

theorem State.tokenRound_waitsKept (arb : Nat) : s.waitsKept (s.tokenRound arb) := by
  unfold State.tokenRound
  dsimp only
  split
  · exact State.waitsKept_ite (s.setTokenArb_waitsKept _ _) ((s.setTokenArb_waitsKept _ _).trans (State.tokenGranted_waitsKept _ _ _ _))
  · exact s.setTokenArb_waitsKept _ _

theorem State.tokenSync_waitsKept (arb : Nat) : s.waitsKept (s.tokenSync arb) := by
  have hfree : s.waitsKept (s.tokenFree arb) :=
    State.waitsKept_ite (s.setTokenArb_waitsKept _ _) ((s.setTokenArb_waitsKept _ _).trans (State.tokenRound_waitsKept _ _))
  unfold State.tokenSync
  split
  · exact State.waitsKept_ite hfree s.waitsKept_refl
  · exact s.waitsKept_refl

/-! ### The tick (R26) -/

/-- Readers take from the queues. -/
theorem State.drainQueues_changesOnly : s.changesOnly s.drainQueues [.que] queRegs [] := by
  refine State.foldl_changesOnly _ (fun t q => ?_) _ s
  unfold State.drainQueue
  extract_lets k taken
  exact State.ite_changesOnly (t.changesOnly_refl _ _ _) (t.setQueue_changesOnly _ _ (by decide) (List.Subset.refl _))

/-- Cycles of the TIME clock move time, the always-on counter and the age of a holdover. -/
theorem State.timeCycles_shows (n : Nat) : (s.timeCycles n).time =
      { s.time with ext := (s.time.ext + n * s.timeInc) % 2 ^ 96, elapsed := s.time.elapsed + n * s.timeInc } ∧
    (s.timeCycles n).pwr = s.pwr ∧ s.waitsKept (s.timeCycles n) := by
  have hinc : (s.aonCycles n).timeInc = s.timeInc := rfl
  unfold State.timeCycles
  extract_lets s1 d time t
  have ht : t.time = { s.time with ext := (s.time.ext + n * s.timeInc) % 2 ^ 96, elapsed := s.time.elapsed + n * s.timeInc } := by
    dsimp only [t, time, d, s1]
    rw [hinc, State.aonCycles]
  have hrest : t.pwr = s.pwr ∧ s.waitsKept t := ⟨rfl, rfl, rfl⟩
  split
  · rw [State.setFld_time, State.setFld_pwr]
    exact ⟨ht, hrest.1, hrest.2.trans (State.waitsKept_of_parts (State.setFld_lan _ _ _) (State.setFld_svb _ _ _))⟩
  · exact ⟨ht, hrest⟩

/-- Time has run to the next tick, the readers have drained their banks and stretched grants have ended. -/
def State.ranToTick : State := ((s.timeCycles s.cyclesToTick).drainQueues.tokenSync 0).tokenSync 1

theorem State.ranToTick_shows : s.ranToTick.time =
      { s.time with
        ext := (s.time.ext + s.cyclesToTick * s.timeInc) % 2 ^ 96, elapsed := s.time.elapsed + s.cyclesToTick * s.timeInc } ∧
    s.ranToTick.pwr = s.pwr ∧ s.waitsKept s.ranToTick := by
  obtain ⟨htime, hpwr, hwaits⟩ := s.timeCycles_shows s.cyclesToTick
  have hdrain := (s.timeCycles s.cyclesToTick).drainQueues_changesOnly
  have htoken : ∀ (t : State) arb, t.changesOnly (t.tokenSync arb) (.arb :: .lan :: busParts) (tokenRegs ++ busRegs) [] := fun t arb =>
    t.tokenSync_changesOnly (List.Subset.refl _) (List.Subset.refl _) arb
  have hsync := State.changesOnly_trans (htoken (s.timeCycles s.cyclesToTick).drainQueues 0) (htoken _ 1)
  exact ⟨((hsync.2.1 .time (by decide)).trans (hdrain.2.1 .time (by decide))).trans htime,
    ((hsync.2.1 .pwr (by decide)).trans (hdrain.2.1 .pwr (by decide))).trans hpwr,
    ((hwaits.trans (State.waitsKept_of_frame hdrain (by decide) (by decide))).trans (State.tokenSync_waitsKept _ 0)).trans
      (State.tokenSync_waitsKept _ 1)⟩

/-- The stamped input of a tick. -/
def State.tickInput : State :=
  ({ s.ranToTick with time := { s.ranToTick.time with ticks := s.ranToTick.time.ticks + 1 } } : State).laneInput

theorem State.tickInput_shows : s.tickInput.time.ext = (s.time.ext + s.cyclesToTick * s.timeInc) % 2 ^ 96 ∧
    s.tickInput.time.elapsed = s.time.elapsed + s.cyclesToTick * s.timeInc ∧ s.tickInput.time.ticks = s.time.ticks + 1 ∧
    s.tickInput.time.inputSeq = (s.time.inputSeq + 1) % 2 ^ 32 ∧ s.tickInput.time.stamp = s.tickInput.now ∧
    s.tickInput.time.stampEl = s.tickInput.el := by
  have htime := s.ranToTick_shows.1
  unfold State.tickInput
  generalize s.ranToTick = t at htime
  have hinput : ∀ u : State, u.laneInput.time.stamp = u.laneInput.now ∧ u.laneInput.time.stampEl = u.laneInput.el :=
    fun u => ⟨rfl, rfl⟩
  refine ⟨?_, ?_, ?_, ?_, (hinput _).1, (hinput _).2⟩ <;> dsimp only [State.laneInput] <;> rw [htime]

/-- A tick while the TIME domain runs. -/
theorem State.laneTick_of_runs (hruns : s.timeRuns = true) : s.laneTick =
    if s.laneClock then (s.tickInput.digestBoundary s.time.stamp).inputGaps else s.ranToTick := by
  have hclock : s.ranToTick.laneClock = s.laneClock := by rw [State.laneClock, State.laneClock, s.ranToTick_shows.2.1]
  unfold State.tickInput
  rw [State.ranToTick] at hclock ⊢
  unfold State.laneTick
  rw [hruns]
  dsimp only
  rw [hclock]
  cases s.laneClock with
  | true => rw [if_neg (by decide), if_neg (by decide), if_pos rfl]
  | false => rw [if_neg (by decide), if_pos (by decide), if_neg (by decide)]

theorem State.digestBoundary_keeps (before : Nat) : (s.digestBoundary before).time = s.time ∧ s.waitsKept (s.digestBoundary before) := by
  unfold State.digestBoundary
  extract_lets next start d of_ post whole
  split <;> exact ⟨rfl, rfl, rfl⟩

theorem State.inputGaps_of_none (h : s.lan.gap = []) : s.inputGaps = s := by
  have heta : ({ s with lan := { s.lan with gap := s.lan.gap } } : State) = s := rfl
  rw [h] at heta
  unfold State.inputGaps
  rw [h]
  exact heta

/-- A tick of clocked lanes brings them its input. -/
theorem State.laneTick_shows (hruns : s.timeRuns = true) (hlane : s.laneClock = true) (hgap : s.lan.gap = []) :
    s.laneTick.time = s.tickInput.time ∧ s.laneTick.svb.posts = s.svb.posts := by
  obtain ⟨-, -, hgapK, hposts⟩ := s.ranToTick_shows
  obtain ⟨htime, hgapD, hpostsD⟩ := s.tickInput.digestBoundary_keeps s.time.stamp
  rw [s.laneTick_of_runs hruns, if_pos hlane, State.inputGaps_of_none _ ((hgapD.trans hgapK).trans hgap)]
  exact ⟨htime, hpostsD.trans hposts⟩

theorem State.runPosts_of_none (h : s.svb.posts = []) : s.runPosts = s := by
  have heta : ({ s with svb := { s.svb with posts := s.svb.posts } } : State) = s := rfl
  rw [h] at heta
  unfold State.runPosts
  rw [h]
  exact heta
end

end Sys2Proof.Machine
end

section
/-! PROOF. Ticks, whole seconds, sources, discipline and time states. -/

namespace Sys2Proof.Machine

/-- Settles O14: a tick by what waits for it, a source by what its selection keeps, an update by the rate it sets, a change of state by its
event. -/
theorem timeSourcesAndDisciplineComplete : Obligations.TimeSourcesAndDisciplineComplete := by
  refine ⟨?tick, ?halted, ?stopped, ?second, ?sameSecond, ?qualify, ?lost, ?free, ?rate, ?excess, ?replace, ?lock, ?expire, ?read⟩
  case tick =>
    intro s hruns hlane hgap hposts
    obtain ⟨htime, hkept⟩ := s.laneTick_shows hruns hlane hgap
    obtain ⟨hext, helapsed, hticks, hseq, hstamp, hstampEl⟩ := s.tickInput_shows
    refine ⟨_, congrArg Host.Outcome.next (State.runPosts_of_none _ (hkept.trans hposts)), ?_⟩
    unfold State.now State.el
    beta_reduce
    rw [htime]
    exact ⟨hext, helapsed, hticks, hseq, hstamp, hstampEl⟩
  case halted =>
    intro s hruns hlane hposts
    obtain ⟨htime, -, -, hkept⟩ := s.ranToTick_shows
    have htick : s.laneTick.runPosts = s.ranToTick := by
      rw [s.laneTick_of_runs hruns, hlane]
      exact State.runPosts_of_none _ (hkept.trans hposts)
    refine ⟨_, congrArg Host.Outcome.next htick, ?_⟩
    beta_reduce
    rw [htime]
    exact ⟨rfl, rfl, rfl, rfl, rfl⟩
  case stopped =>
    intro s hruns hposts
    have htick : s.laneTick = s := by
      unfold State.laneTick
      rw [hruns]
      rfl
    refine ⟨_, congrArg Host.Outcome.next ?_, rfl⟩
    rw [htick]
    exact s.runPosts_of_none hposts
  case second =>
    intro s hlast
    refine ⟨_, congrArg Host.Outcome.next (if_neg (Nat.not_le.mpr hlast)), ?_⟩
    dsimp only
    split <;> exact ⟨rfl, rfl, rfl, rfl⟩
  case sameSecond => exact fun s hlast => ⟨_, congrArg Host.Outcome.next (if_pos hlast), rfl⟩
  case qualify =>
    intro s k yf v hv hq hlong hvalid
    exact ⟨_, execSourceQualify_due hv hq hlong hvalid, s.qualified_shows _ yf rfl⟩
  case lost =>
    intro s k hq hlast
    have hsource := s.source_setSource_same (k.val + 1) { s.source (k.val + 1) with qualified := false, validSince := none }
    obtain ⟨hregs, hel, -⟩ := s.setSource_keeps (k.val + 1) { s.source (k.val + 1) with qualified := false, validSince := none }
    refine ⟨(s.setSource (k.val + 1) { s.source (k.val + 1) with qualified := false, validSince := none }).selectSource,
      congrArg Host.Outcome.next (if_pos ?_), ?_⟩
    · rw [hq, State.passed, decide_eq_true hlast]
      rfl
    generalize s.setSource (k.val + 1) { s.source (k.val + 1) with qualified := false, validSince := none } = u at hsource hregs hel
    have hstate : u.timState = s.timState := State.fld_of_regs hregs _
    refine ⟨?_, (u.selectSource_shows rfl).1, fun hbest hwas => ?_⟩
    · rw [u.source_selectSource, hsource]
    · rw [u.bestSource_selectSource] at hbest
      rw [← hstate] at hwas
      rw [← hel]
      exact u.selectSource_holds hbest hwas
  case free =>
    intro s hstepped hen hclock hlast hsource
    obtain ⟨hy, hdisc⟩ := s.discNoted.setRate_y (clampI (-(10 ^ 8)) (10 ^ 8) s.time.yf)
    refine ⟨s.discNoted.setRate (clampI (-(10 ^ 8)) (10 ^ 8) s.time.yf), ?_, hy, hdisc, ?_⟩
    · exact (execDisciplineUpdate_due hstepped hen hclock hlast).trans
        (congrArg Host.Outcome.next ((if_pos hsource).trans (s.discNoted.freeRate_of_clocked hclock)))
    · rw [hy]
      exact State.timeInc_setRate _ (clampI_natAbs_le _)
  case rate =>
    intro s y slew hstepped hen hclock hlast hsource hslew hrate hy
    rw [hslew] at hrate
    have hrateFor : s.rateFor s.theta = y := hrate.symm
    obtain ⟨hset, hdisc⟩ := s.discNoted.setRate_y y
    refine ⟨s.discNoted.setRate y, ?_, hset, hdisc, State.timeInc_setRate _ hy⟩
    have hexec := execDisciplineUpdate_due hstepped hen hclock hlast
    rw [hrateFor, if_neg hsource, if_neg (not_lt.mpr hy)] at hexec
    exact hexec
  case excess =>
    intro s hstepped hen hclock hlast hsource hy
    refine ⟨s.discNoted.rateExceeded (s.rateFor s.theta), ?_, s.discNoted.rateExceeded_shows hy⟩
    exact (execDisciplineUpdate_due hstepped hen hclock hlast).trans (congrArg Host.Outcome.next ((if_neg hsource).trans (if_pos hy)))
  case replace =>
    intro s yf hsrc hsince
    exact ⟨_, congrArg Host.Outcome.next (if_pos ⟨hsrc, decide_eq_true hsince⟩), rfl, rfl, rfl⟩
  case lock =>
    intro s v hsince hstate hlong
    refine ⟨_, ?_, s.setTimState_expired_shows false (v := tsLOCKED) (by decide) (by rw [hstate]; decide) rfl⟩
    unfold exec execTimeLockHold
    rw [hsince]
    exact congrArg Host.Outcome.next (if_pos ⟨hstate, decide_eq_true hlong⟩)
  case expire =>
    intro s h hsince hstate hlong
    refine ⟨_, ?_, s.setTimState_expired_shows true (v := tsEXPIRED) (by decide) (by rw [hstate]; decide) rfl⟩
    unfold exec execHoldoverExpire
    rw [hsince]
    exact congrArg Host.Outcome.next (if_pos ⟨hstate, decide_eq_true hlong⟩)
  case read => exact fun s => ⟨_, rfl, rfl⟩

end Sys2Proof.Machine
end

section
/-! SUPPORT. What the RTK commands do once they are taken: bytes of a payload read and written again, and what an RTK opcode leaves. -/

namespace Sys2Proof

/-! ### Bytes (R7) -/

/-- A span of bytes is the number it spells, written in as many bytes. -/
theorem le_leNat (l : List Byte) : le l.length (leNat l) = l := by
  induction l with
  | nil => rfl
  | cons b t ih =>
    have hhead : BitVec.ofNat 8 (b.toNat + 256 * leNat t) = b := by
      refine BitVec.eq_of_toNat_eq ?_
      rw [BitVec.toNat_ofNat, Nat.add_mul_mod_self_left, Nat.mod_eq_of_lt b.isLt]
    have htail : (b.toNat + 256 * leNat t) / 256 = leNat t := by have := b.isLt; omega
    rw [List.length_cons, leNat, le, hhead, htail, ih]

/-- A number read from a payload is written as the bytes it was read from. -/
theorem le_rdN {p : List Byte} {o n : Nat} (h : o + n ≤ p.length) : le n (rdN p o n) = (p.drop o).take n := by
  have hlen : ((p.drop o).take n).length = n := by
    rw [List.length_take, List.length_drop]
    omega
  have hbytes := le_leNat ((p.drop o).take n)
  rwa [hlen] at hbytes

theorem le_one_mod (v : Nat) : le 1 (v % 256) = le 1 v := by
  have hbyte : BitVec.ofNat 8 (v % 256) = BitVec.ofNat 8 v := BitVec.eq_of_toNat_eq (by simp)
  rw [le, le, hbyte, le, le]

namespace Machine

/-! ### Reading beside a change -/

theorem State.effRate_congr {s t : State} (h : t.baseNs = s.baseNs) (code : Nat) : t.effRate code = s.effRate code := by
  unfold State.effRate
  rw [h]

theorem State.baseNs_of_fld {s t : State} (h : t.fld F.SKY_CTL_EPOCH_RATE = s.fld F.SKY_CTL_EPOCH_RATE) : t.baseNs = s.baseNs := by
  rw [State.baseNs, State.baseNs, h]

theorem State.fleetHeld_congr {s t : State} (hstop : t.fld F.STP_STAT_STOPPED = s.fld F.STP_STAT_STOPPED) (hsbx : t.sbx = s.sbx)
    (hnow : t.now = s.now) : t.fleetHeld = s.fleetHeld := by
  unfold State.fleetHeld State.fleetStopped State.flag State.parked State.liveAuth State.liveAt State.sx
  rw [hstop, hsbx, hnow]

/-! ### Rovers in their table -/

section
variable (s : State) (a b : Nat) (r : RtkRover)

@[simp] theorem State.rk_setRk_same : (s.setRk a r).rk a = r := by
  rw [State.rk, State.setRk_rovers]
  exact Tbl.get_put_same _ _ _ _

theorem State.rk_setRk_other (h : a ≠ b) : (s.setRk a r).rk b = s.rk b := by
  rw [State.rk, State.setRk_rovers, State.rk]
  exact Tbl.get_put_other _ _ _ _ _ _ h

theorem State.rk_of_rtk {s t : State} (h : t.rtk = s.rtk) (a : Nat) : t.rk a = s.rk a := by rw [State.rk, State.rk, h]

theorem State.rtk_changesOnly (x : Rtk) {ps : List Part} {rs : List Nat} {bs : List Block} (h : Part.rtk ∈ ps) :
    s.changesOnly { s with rtk := x } ps rs bs :=
  State.changesOnly_part .rtk h (fun q hq => by cases q <;> simp_all [Part.same, State.dramByte]) rfl rfl

/-- The state with another record of central RTK. -/
def State.withRtk (s : State) (x : Rtk) : State := { s with rtk := x }

section
variable (x : Rtk)

@[simp] theorem State.withRtk_rtk : (s.withRtk x).rtk = x := (rfl)
@[simp] theorem State.withRtk_svb : (s.withRtk x).svb = s.svb := (rfl)
@[simp] theorem State.baseNs_withRtk : (s.withRtk x).baseNs = s.baseNs := (rfl)
end

@[simp] theorem State.syncRtk_rtk : s.syncRtk.rtk = s.rtk := by
  unfold State.syncRtk State.syncBase
  rw [State.setFld_rtk, State.setFld_rtk, State.setFld_rtk, State.setFld_rtk, State.setFld_rtk, State.setFld_rtk]

@[simp] theorem State.syncRtk_svb : s.syncRtk.svb = s.svb := by
  unfold State.syncRtk State.syncBase
  rw [State.setFld_svb, State.setFld_svb, State.setFld_svb, State.setFld_svb, State.setFld_svb, State.setFld_svb]

/-- The counts of RTK_STAT are shown there. -/
theorem State.syncRtk_changesOnly {ps : List Part} {rs : List Nat} {bs : List Block} (h : R.RTK_STAT ∈ rs) :
    s.changesOnly s.syncRtk ps rs bs := by
  unfold State.syncRtk State.syncBase
  extract_lets _ _ t t' _
  have ht : s.changesOnly t ps rs bs := State.setFld_then _ _ (State.setFld_then _ _ (s.changesOnly_refl _ _ _) h) h
  have ht' : s.changesOnly t' ps rs bs := State.setFld_then _ _ (State.setFld_then _ _ ht h) h
  exact State.setFld_then _ _ (State.setFld_then _ _ ht' h) h

theorem State.setRk_changesOnly {ps : List Part} {rs : List Nat} {bs : List Block} (h : Part.rtk ∈ ps) :
    s.changesOnly (s.setRk a r) ps rs bs := s.rtk_changesOnly _ h

theorem State.newFilter_changesOnly : s.changesOnly (s.newFilter a) [.rtk] [R.RTK_STAT] [] :=
  State.changesOnly_trans (s.setRk_changesOnly _ _ (by decide)) (State.syncRtk_changesOnly _ (by decide))

theorem State.rk_newFilter : (s.newFilter a).rk a =
    { gen := if (s.rk a).had then ((s.rk a).gen + 1) % 256 else (s.rk a).gen, had := (s.rk a).had, rate := (s.rk a).rate
      shed := (s.rk a).shed, evAt := (s.rk a).evAt } := by
  unfold State.newFilter
  rw [State.rk_of_rtk (State.syncRtk_rtk _), State.rk_setRk_same]

theorem State.fld_syncRtk_noOrigin : s.syncRtk.fld F.RTK_STAT_NO_ORIGIN = b2n s.rtk.origin.isNone := by
  unfold State.syncRtk State.syncBase
  rw [State.fld_setFld_other _ F.RTK_STAT_NO_BASE F.RTK_STAT_NO_ORIGIN _ rfl (by decide) (by decide),
    State.fld_setFld_same _ _ _ (by decide)]
  cases s.rtk.origin.isNone <;> rfl
end

/-! ### A command of central RTK -/

section
variable (s : State) (c : Cmd) (op : Op)

theorem State.rtk_entered : (s.entered c op).rtk = s.rtk := s.entered_same c op .rtk (by decide)

/-- Recording a command does not move site time. -/
theorem State.now_entered : (s.entered c op).now = s.now := by
  have hsess : ∀ (t : State) sid ss, (t.setSess sid ss).time = t.time := fun t sid ss =>
    (t.setSess_changesOnly sid ss).2.1 .time (by decide)
  have hrecord : ∀ ss, ((if (s.sess c.sid.val).auth = true then s.setSess c.sid.val { s.sess c.sid.val with lastAuth := s.el }
      else s).setSess c.sid.val ss).time = s.time := fun ss => by
    rw [hsess]
    split
    · exact hsess _ _ _
    · rfl
  unfold State.entered State.now
  extract_lets sid ss t ss' e cache out u
  split
  · show u.time.ext / 2 ^ 32 % 2 ^ 64 = _
    rw [hrecord]
  · rw [hrecord]

theorem State.fleetHeld_entered : (s.entered c op).fleetHeld = s.fleetHeld :=
  State.fleetHeld_congr (s.fld_entered c op (by decide)) (s.entered_same c op .sbx (by decide)) (s.now_entered c op)

theorem State.baseNs_entered : (s.entered c op).baseNs = s.baseNs := State.baseNs_of_fld (s.fld_entered c op (by decide))

variable {s c op}

/-- A command of central RTK is answered as its opcode says, and central RTK and its registers are as the opcode left them. -/
theorem State.host_rtk_of_run {u : State} {r : Reply} (ht : s.takes c op = true) (hop : op.post = fun _ t => t)
    (hrun : op.run (s.entered c op) c.sid.val c.seq.toNat c.payload = (u, some r)) (hsvb : u.svb = (s.entered c op).svb) :
    (s.host c op).answered c r ∧ (s.host c op).rtk = u.rtk ∧ ∀ f : Fld, f.addr ∉ busRegs → (s.host c op).fld f = u.fld f :=
  have hframe := State.host_changesOnly_of_run ht hop hrun
  ⟨State.host_answered_of_sess ht hop hrun (State.sess_of_svb hsvb _), hframe.2.1 .rtk (by decide),
    fun f hf => State.fld_of_changesOnly hframe f hf⟩
end

/-! ### Rate classes (R142) -/

/-- An RTK class gets other settings. -/
def State.withClass (s : State) (c : Nat) (k : RtkClass) : State := s.withRtk { s.rtk with classes := Tbl.put {} s.rtk.classes c k }

/-- A rover slot gets another RTK class. -/
def State.withClsOf (s : State) (a c : Nat) : State := s.withRtk { s.rtk with clsOf := Tbl.put 0 s.rtk.clsOf a c }

theorem State.baseNs_withClass (s : State) (c : Nat) (k : RtkClass) : (s.withClass c k).baseNs = s.baseNs := s.baseNs_withRtk _

theorem State.baseNs_withClsOf (s : State) (a c : Nat) : (s.withClsOf a c).baseNs = s.baseNs := s.baseNs_withRtk _

theorem State.withClsOf_classes (s : State) (a c : Nat) : (s.withClsOf a c).rtk.classes = s.rtk.classes := by
  rw [State.withClsOf, State.withRtk_rtk]

theorem State.withClsOf_clsOf (s : State) (a c : Nat) : (s.withClsOf a c).rtk.clsOf = Tbl.put 0 s.rtk.clsOf a c := by
  rw [State.withClsOf, State.withRtk_rtk]

/-- What RTK_SET_RATE_CLASS answers of a class. -/
def State.rateBytes (s : State) (c : Nat) : List Byte :=
  le 1 (s.rtkClass c).moving ++ le 1 (s.rtkClass c).parked ++ le 1 (s.effRate (s.rtkClass c).moving) ++ le 1 (s.effRate (s.rtkClass c).parked)

theorem State.rtkClass_of_classes {s t : State} (h : t.rtk.classes = s.rtk.classes) (c : Nat) : t.rtkClass c = s.rtkClass c := by
  rw [State.rtkClass, State.rtkClass, h]

@[simp] theorem State.rtkClass_withClass (s : State) (c : Nat) (k : RtkClass) : (s.withClass c k).rtkClass c = k := by
  rw [State.rtkClass, State.withClass, State.withRtk_rtk]
  exact Tbl.get_put_same _ _ _ _

/-- What is answered of a class depends on its settings and on the base epoch period. -/
theorem State.rateBytes_eq {s t : State} {c : Nat} {k : RtkClass} (hk : t.rtkClass c = k) (hbase : t.baseNs = s.baseNs) :
    t.rateBytes c = le 1 k.moving ++ le 1 k.parked ++ le 1 (s.effRate k.moving) ++ le 1 (s.effRate k.parked) := by
  rw [State.rateBytes, hk, State.effRate_congr hbase, State.effRate_congr hbase]

/-! ### The opcodes (R131, R140, R141, R148, R151, R152) -/

section
variable {s : State} (sid seq : Nat) {p : List Byte}

theorem doRtkSetSiteOrigin_of_ok (h24 : p.length = 24) (hrange : ecefInRange (rdI p 0 8) (rdI p 8 8) (rdI p 16 8) = true)
    (hheld : s.fleetHeld = true) :
    doRtkSetSiteOrigin s sid seq p
      = ((s.withRtk { s.rtk with origin := some (rdI p 0 8, rdI p 8 8, rdI p 16 8) }).syncRtk, some ⟨St.ok, []⟩) :=
  (if_pos h24).trans ((if_neg (by rw [hrange]; decide)).trans (if_neg (by rw [hheld]; decide)))

theorem doRtkSetRateClass_of_read (h8 : p.length = 8) (hact : rdN p 0 1 = 0) (hcls : rdN p 1 1 ≤ 7) :
    doRtkSetRateClass s sid seq p = (s, some ⟨St.ok, s.rateBytes (rdN p 1 1)⟩) :=
  (if_pos h8).trans ((if_neg (by omega)).trans ((if_neg (by omega)).trans (if_neg (by omega))))

theorem doRtkSetRateClass_of_move (h8 : p.length = 8) (hact : rdN p 0 1 = 2) (hslot : rdN p 4 1 ≤ 127) (hcls : rdN p 1 1 ≤ 7) {u : State}
    (hu : u = s.withClsOf (rdN p 4 1) (rdN p 1 1)) :
    doRtkSetRateClass s sid seq p = (u, some ⟨St.ok, u.rateBytes (rdN p 1 1)⟩) := by
  subst hu
  exact (if_pos h8).trans ((if_neg (by omega)).trans ((if_neg (by omega)).trans (if_pos hact)))

theorem doRtkSetRateClass_of_write (h8 : p.length = 8) (hact : rdN p 0 1 = 1) (hcls : rdN p 1 1 ≤ 7) (hmoving : rdN p 2 1 ≤ 7)
    (hparked : rdN p 3 1 ≤ 7) {u : State}
    (hu : u = s.withClass (rdN p 1 1) { s.rtkClass (rdN p 1 1) with moving := rdN p 2 1, parked := rdN p 3 1 }) :
    doRtkSetRateClass s sid seq p = (u, some ⟨St.ok, u.rateBytes (rdN p 1 1)⟩) := by
  subst hu
  exact (if_pos h8).trans ((if_neg (by omega)).trans (if_pos hact))

/-- What RTK_SET_NOISE answers of a class. -/
def RtkClass.noiseBytes (k : RtkClass) : List Byte :=
  le 2 k.qh ++ le 2 k.qv ++ le 1 k.phA ++ le 1 k.phB ++ le 1 k.cdA ++ le 1 k.cdB ++ le 1 k.l1c ++ zeros 3

/-- A class with the noise settings that a payload of RTK_SET_NOISE brings. -/
def RtkClass.withNoise (k : RtkClass) (p : List Byte) : RtkClass :=
  { k with qh := rdN p 2 2, qv := rdN p 4 2, phA := rdN p 6 1, phB := rdN p 7 1, cdA := rdN p 8 1, cdB := rdN p 9 1, l1c := rdN p 10 1 }

/-- Settings written are answered in the bytes that brought them. -/
theorem RtkClass.noiseBytes_withNoise (k : RtkClass) (h14 : p.length = 14) :
    (k.withNoise p).noiseBytes = (p.drop 2).take 9 ++ zeros 3 := by
  have hspan : (p.drop 2).take 9 = le 2 (rdN p 2 2) ++ le 2 (rdN p 4 2) ++ le 1 (rdN p 6 1) ++ le 1 (rdN p 7 1) ++ le 1 (rdN p 8 1)
      ++ le 1 (rdN p 9 1) ++ le 1 (rdN p 10 1) := by
    have hcut : ∀ {o n m}, o + (n + m) ≤ 14 → (p.drop o).take (n + m) = le n (rdN p o n) ++ (p.drop (o + n)).take m := fun h => by
      rw [le_rdN (by omega), List.take_add, List.drop_drop]
    rw [hcut (n := 2) (m := 7) (by omega), hcut (n := 2) (m := 5) (by omega), hcut (n := 1) (m := 4) (by omega),
      hcut (n := 1) (m := 3) (by omega), hcut (n := 1) (m := 2) (by omega), hcut (n := 1) (m := 1) (by omega), le_rdN (by omega)]
    simp only [List.append_assoc, Nat.reduceAdd, le_rdN (show 10 + 1 ≤ p.length by omega)]
  rw [hspan]
  rfl

theorem doRtkSetNoise_of_read (h14 : p.length = 14) (hact : rdN p 0 1 = 0) (hcls : rdN p 1 1 ≤ 7) :
    doRtkSetNoise s sid seq p = (s, some ⟨St.ok, (s.rtkClass (rdN p 1 1)).noiseBytes⟩) :=
  (if_pos h14).trans ((if_neg (by omega)).trans (if_neg (by omega)))

theorem doRtkSetNoise_of_write (h14 : p.length = 14) (hact : rdN p 0 1 = 1) (hcls : rdN p 1 1 ≤ 7) (hqh : rdN p 2 2 ≠ 0)
    (hqv : rdN p 4 2 ≠ 0) (hphA : rdN p 6 1 ≠ 0) (hphB : rdN p 7 1 ≠ 0) (hcdA : rdN p 8 1 ≠ 0) (hcdB : rdN p 9 1 ≠ 0)
    (hl1c : 10 ≤ rdN p 10 1) (hl1c' : rdN p 10 1 ≤ 100) {u : State}
    (hu : u = s.withClass (rdN p 1 1) ((s.rtkClass (rdN p 1 1)).withNoise p)) :
    doRtkSetNoise s sid seq p = (u, some ⟨St.ok, (u.rtkClass (rdN p 1 1)).noiseBytes⟩) := by
  subst hu
  refine (if_pos h14).trans ((if_neg ?_).trans (if_pos hact))
  dsimp only
  omega

/-- A rover after RTK_RESET_ROVER: of what it had only the count of its generations, its last used epoch, its rate and its events stay. -/
def RtkRover.renewed (r : RtkRover) : RtkRover :=
  { gen := (r.gen + 1) % 256, had := true, lastUsed := r.lastUsed, rate := r.rate, shed := r.shed, evAt := r.evAt }

theorem doRtkResetRover_of_ok (h4 : p.length = 4) (hslot : rdN p 0 1 ≤ 127) :
    ∃ u, doRtkResetRover s sid seq p = (u, some ⟨St.ok, le 1 ((s.rk (rdN p 0 1)).gen + 1) ++ zeros 3⟩) ∧ u.svb = s.svb ∧
      u.rk (rdN p 0 1) = (s.rk (rdN p 0 1)).renewed := by
  generalize hv : s.setRk (rdN p 0 1) { s.rk (rdN p 0 1) with had := true } = v
  have hrun : ∀ t : State, t = (v.newFilter (rdN p 0 1)).setRk (rdN p 0 1)
        { (v.newFilter (rdN p 0 1)).rk (rdN p 0 1) with lastUsed := (s.rk (rdN p 0 1)).lastUsed } →
      doRtkResetRover s sid seq p = (t, some ⟨St.ok, le 1 (t.rk (rdN p 0 1)).gen ++ zeros 3⟩) := by
    rintro t rfl
    subst hv
    exact (if_pos h4).trans (if_neg (by omega))
  have hrk : v.rk (rdN p 0 1) = { s.rk (rdN p 0 1) with had := true } := by rw [← hv, State.rk_setRk_same]
  have hframe : s.changesOnly v [.rtk] [R.RTK_STAT] [] := hv ▸ s.setRk_changesOnly _ _ (by decide)
  have hnew : (v.newFilter (rdN p 0 1)).rk (rdN p 0 1) = { (s.rk (rdN p 0 1)).renewed with lastUsed := none } := by
    rw [State.rk_newFilter, hrk]
    rfl
  rw [hrun _ rfl]
  refine ⟨_, Prod.ext rfl ?_, ?_, ?_⟩
  · rw [State.rk_setRk_same, hnew]
    dsimp only [RtkRover.renewed]
    rw [le_one_mod]
  · have hall : s.changesOnly (v.newFilter (rdN p 0 1)) [.rtk] [R.RTK_STAT] [] := State.changesOnly_trans hframe (v.newFilter_changesOnly _)
    rw [State.setRk_svb]
    exact hall.2.1 .svb (by decide)
  · rw [State.rk_setRk_same, hnew]
    rfl

theorem doRtkGetFix_of_ok (h4 : p.length = 4) (hpos : rdN p 1 1 ≠ 0) (h32 : rdN p 1 1 ≤ 32) (hend : rdN p 0 1 + rdN p 1 1 ≤ 128) :
    doRtkGetFix s sid seq p = (s, some ⟨St.ok, ((List.range (rdN p 1 1)).map fun i => s.fixBytes (rdN p 0 1 + i)).flatten⟩) :=
  (if_pos h4).trans (if_neg (by omega))
end

theorem State.fixBytes_of_rtk {s t : State} (h : t.rtk = s.rtk) (a : Nat) : t.fixBytes a = s.fixBytes a := by
  rw [State.fixBytes, State.fixBytes, State.rk_of_rtk h]

end Machine

end Sys2Proof
end

section
/-! PROOF. The RTK commands. -/

namespace Sys2Proof.Machine

/-- Settles O17: a command by what its opcode answers and leaves of central RTK. -/
theorem rtkCommandsComplete : Obligations.RtkCommandsComplete := by
  refine ⟨?origin, ?read, ?write, ?noise, ?setNoise, ?reset, ?fix⟩
  case origin =>
    intro s c ht h24 hrange hheld
    rw [← s.fleetHeld_entered c opRtkSetSiteOrigin] at hheld
    have hrun := doRtkSetSiteOrigin_of_ok c.sid.val c.seq.toNat h24 hrange hheld
    obtain ⟨hok, hrtk, hfld⟩ := State.host_rtk_of_run ht rfl hrun (by rw [State.syncRtk_svb, State.withRtk_svb])
    refine ⟨_, rfl, hok, ?_, ?_⟩
    · rw [hrtk, State.syncRtk_rtk, State.withRtk_rtk]
    · rw [hfld _ (by decide), State.fld_syncRtk_noOrigin, State.withRtk_rtk]
      rfl
  case read =>
    intro s c ht h8 hact h7
    have hbase := s.baseNs_entered c opRtkSetRateClass
    have hrtk := s.rtk_entered c opRtkSetRateClass
    rcases hact with hread | ⟨hmove, hslot⟩
    · obtain ⟨hok, hrtk', -⟩ := State.host_rtk_of_run ht rfl (doRtkSetRateClass_of_read c.sid.val c.seq.toNat h8 hread h7) rfl
      rw [State.rateBytes_eq (State.rtkClass_of_classes (congrArg Rtk.classes hrtk) _) hbase] at hok
      refine ⟨_, rfl, hok, ?_⟩
      rw [hrtk', hrtk, if_neg (by omega)]
      exact ⟨rfl, rfl⟩
    · obtain ⟨hok, hrtk', -⟩ := State.host_rtk_of_run ht rfl (doRtkSetRateClass_of_move c.sid.val c.seq.toNat h8 hmove hslot h7 rfl)
        (State.withRtk_svb _ _)
      have hclasses := (State.withClsOf_classes (s.entered c opRtkSetRateClass) (rdN c.payload 4 1) (rdN c.payload 1 1)).trans
        (congrArg Rtk.classes hrtk)
      rw [State.rateBytes_eq (State.rtkClass_of_classes hclasses _) ((State.baseNs_withClsOf _ _ _).trans hbase)] at hok
      refine ⟨_, rfl, hok, ?_⟩
      rw [hrtk', hclasses, State.withClsOf_clsOf, if_pos hmove]
      exact ⟨rfl, Tbl.get_put_same _ _ _ _⟩
  case write =>
    intro s c ht h8 hact h7 hmoving hparked
    have hcls := State.rtkClass_of_classes (congrArg Rtk.classes (s.rtk_entered c opRtkSetRateClass)) (rdN c.payload 1 1)
    obtain ⟨hok, hrtk, -⟩ := State.host_rtk_of_run ht rfl (doRtkSetRateClass_of_write c.sid.val c.seq.toNat h8 hact h7 hmoving hparked rfl)
      (State.withRtk_svb _ _)
    rw [State.rateBytes_eq (State.rtkClass_withClass _ _ _)
      ((State.baseNs_withClass _ _ _).trans (s.baseNs_entered c opRtkSetRateClass))] at hok
    refine ⟨_, rfl, hok, (State.rtkClass_of_classes (congrArg Rtk.classes hrtk) _).trans ?_⟩
    rw [State.rtkClass_withClass, hcls]
    rfl
  case noise =>
    intro s c ht h14 hact h7
    have hrtk := s.rtk_entered c opRtkSetNoise
    obtain ⟨hok, hrtk', -⟩ := State.host_rtk_of_run ht rfl (doRtkSetNoise_of_read c.sid.val c.seq.toNat h14 hact h7) rfl
    rw [State.rtkClass_of_classes (congrArg Rtk.classes hrtk)] at hok
    exact ⟨_, rfl, hok, hrtk'.trans hrtk⟩
  case setNoise =>
    intro s c ht h14 hact h7 hqh hqv hphA hphB hcdA hcdB hl1c hl1c'
    have hcls := State.rtkClass_of_classes (congrArg Rtk.classes (s.rtk_entered c opRtkSetNoise)) (rdN c.payload 1 1)
    obtain ⟨hok, hrtk, -⟩ := State.host_rtk_of_run ht rfl
      (doRtkSetNoise_of_write c.sid.val c.seq.toNat h14 hact h7 hqh hqv hphA hphB hcdA hcdB hl1c hl1c' rfl) (State.withRtk_svb _ _)
    rw [State.rtkClass_withClass, RtkClass.noiseBytes_withNoise _ h14] at hok
    refine ⟨_, rfl, hok, (State.rtkClass_of_classes (congrArg Rtk.classes hrtk) _).trans ?_⟩
    rw [State.rtkClass_withClass, hcls]
    rfl
  case reset =>
    intro s c ht h4 hslot
    obtain ⟨u, hrun, hsvb, hrk⟩ := doRtkResetRover_of_ok (s := s.entered c opRtkResetRover) c.sid.val c.seq.toNat h4 hslot
    obtain ⟨hok, hrtk, -⟩ := State.host_rtk_of_run ht rfl hrun hsvb
    rw [State.rk_of_rtk (s.rtk_entered c opRtkResetRover)] at hok hrk
    refine ⟨_, rfl, hok, ?_⟩
    rw [State.rk_of_rtk hrtk, hrk]
    exact ⟨rfl, rfl, rfl, rfl, rfl⟩
  case fix =>
    intro s c ht h4 hpos h32 hend
    have hrtk := s.rtk_entered c opRtkGetFix
    obtain ⟨hok, hrtk', -⟩ := State.host_rtk_of_run ht rfl (doRtkGetFix_of_ok c.sid.val c.seq.toNat h4 hpos h32 hend) rfl
    simp only [State.fixBytes_of_rtk hrtk] at hok
    exact ⟨_, rfl, hok, hrtk'.trans hrtk⟩

end Sys2Proof.Machine
end

section
/-! SUPPORT. What the signal box makes of a fix: its own part, the routes of allotment, the jobs of the timetabler, its counts, and events. -/

namespace Sys2Proof.Machine

/-! ### What the interlocking changes (R183 to R197) -/

/-- The parts and registers that the interlocking changes. -/
abbrev boxParts : List Part := .sbx :: .alt :: .ttb :: .lan :: busParts
abbrev boxRegs : List Nat := R.SBX_STAT :: R.SBX_CNT0 :: R.SBX_CNT1 :: busRegs

/-- From `s` to `t` the interlocking does part of its work. -/
def State.boxWork (s t : State) : Prop := s.changesOnly t boxParts boxRegs []

section
variable {s t u : State}

theorem State.boxWork_refl (s : State) : s.boxWork s := s.changesOnly_refl _ _ _

theorem State.boxWork.trans (h : s.boxWork t) (k : t.boxWork u) : s.boxWork u := State.changesOnly_trans h k

theorem State.boxWork_ite {c : Prop} [Decidable c] (ht : s.boxWork t) (hu : s.boxWork u) : s.boxWork (if c then t else u) :=
  State.ite_changesOnly ht hu

theorem State.boxWork_foldl {α : Type} (f : State → α → State) (h : ∀ (t : State) a, t.boxWork (f t a)) (l : List α) (s : State) :
    s.boxWork (l.foldl f s) := State.foldl_changesOnly f h l s

theorem State.boxWork.setFld (h : s.boxWork t) (f : Fld) (v : Nat) (hf : f.addr ∈ boxRegs) : s.boxWork (t.setFld f v) :=
  State.setFld_then f v h hf
end

section
variable (s : State)

theorem State.sbx_boxWork (x : Sbx) : s.boxWork { s with sbx := x } := s.sbx_changesOnly x (by decide)

theorem State.alt_boxWork (x : Alt) : s.boxWork { s with alt := x } :=
  State.changesOnly_part .alt (by decide) (fun q hq => by cases q <;> simp_all [Part.same, State.dramByte]) rfl rfl

theorem State.ttb_boxWork (x : Ttb) : s.boxWork { s with ttb := x } :=
  State.changesOnly_part .ttb (by decide) (fun q hq => by cases q <;> simp_all [Part.same, State.dramByte]) rfl rfl

theorem State.setSx_boxWork (a : Nat) (r : SbxRover) : s.boxWork (s.setSx a r) := s.sbx_boxWork _

theorem State.satInc_boxWork (f : Fld) (hf : f.addr ∈ boxRegs) : s.boxWork (s.satInc f) := s.satInc_changesOnly f (.inl hf)

theorem State.raise_boxWork (src : Nat) (detail : List Byte) (h : src < 96) : s.boxWork (s.raise src detail) :=
  State.changesOnly_mono (s.raise_changesOnly src detail h) (List.subset_append_right [Part.sbx, .alt, .ttb] _)
    (List.subset_append_right [R.SBX_STAT, R.SBX_CNT0, R.SBX_CNT1] _) (List.Subset.refl _)

theorem State.syncZones_boxWork : s.boxWork s.syncZones := s.sbx_boxWork _

theorem State.syncSbx_boxWork : s.boxWork s.syncSbx := by
  have hstat : R.SBX_STAT ∈ boxRegs := List.mem_cons_self
  unfold State.syncSbx
  extract_lets t slots t1 t2 t3 t4 t5
  have h1 : s.boxWork t1 := s.syncZones_boxWork.setFld _ _ hstat
  have h3 : s.boxWork t3 := (h1.setFld _ _ hstat).setFld _ _ hstat
  exact ((h3.setFld _ _ hstat).setFld _ _ hstat).setFld _ _ hstat

/-! ### Authorities, previews and waits (R177, R188 to R197) -/

theorem State.hand_boxWork (a : Nat) (preview : Bool) (cls : Nat) (x : Auth) : s.boxWork (s.hand a preview cls x) := s.ttb_boxWork _

theorem State.issueAuth_boxWork (a : Nat) (blocks : List Nat) (endOfs : Nat) (cutBack revoked last : Bool) :
    s.boxWork (s.issueAuth a blocks endOfs cutBack revoked last) :=
  ((s.setSx_boxWork _ _).trans (State.satInc_boxWork _ F.SBX_CNT0_GRANTS (by decide))).trans (State.hand_boxWork _ _ _ _ _)

theorem State.issuePreview_boxWork (a : Nat) (blocks : List Nat) (endOfs : Nat) (withdraws : Bool) :
    s.boxWork (s.issuePreview a blocks endOfs withdraws) := (s.setSx_boxWork _ _).trans (State.hand_boxWork _ _ _ _ _)

theorem State.toReleasing_boxWork (a : Nat) (x : Auth) (blocks : List Nat) : s.boxWork (s.toReleasing a x blocks) := s.setSx_boxWork _ _

theorem State.endWait_boxWork (a : Nat) : s.boxWork (s.endWait a) := s.setSx_boxWork _ _

theorem State.withdraw_boxWork (h : Nat) (blocks : List Nat) (a : Nat) : s.boxWork (s.withdraw h blocks a) := by
  unfold State.withdraw
  extract_lets r
  split
  · extract_lets gone kept ws u
    exact State.boxWork_ite s.boxWork_refl (((s.setSx_boxWork _ _).trans (State.issuePreview_boxWork _ _ _ _ _)).trans
      (State.satInc_boxWork _ F.SBX_CNT1_WITHDRAWS (by decide)))
  · exact s.boxWork_refl

theorem State.takeOwn_boxWork (a : Nat) (blocks : List Nat) : s.boxWork (s.takeOwn a blocks) := by
  unfold State.takeOwn
  extract_lets r t
  have ht : s.boxWork t := s.setSx_boxWork _ _
  split
  · extract_lets kept
    exact State.boxWork_ite ht (State.boxWork_ite (ht.trans (State.setSx_boxWork _ _ _)) (ht.trans (State.issuePreview_boxWork _ _ _ _ _)))
  · exact ht

/-! ### Extensions and circular waits (R183 to R192) -/

theorem State.extendOnce_boxWork (a : Nat) : s.boxWork (s.extendOnce a).1 := by
  unfold State.extendOnce
  extract_lets r why route t
  split
  · exact s.boxWork_refl
  · split
    · exact (s.endWait_boxWork a).trans (State.setSx_boxWork _ _ _)
    · split
      · exact s.boxWork_refl
      · next m _ =>
        generalize s.run m a s.maxBlk route = x
        obtain ⟨full, stop⟩ := x
        dsimp -zeta only
        extract_lets run reason last endOfs t1 t2
        have h1 : s.boxWork t1 := State.boxWork_ite s.boxWork_refl ((s.takeOwn_boxWork _ _).trans (State.issueAuth_boxWork _ _ _ _ _ _ _))
        have h2 : s.boxWork t2 := by
          dsimp only [t2]
          split
          · exact State.boxWork_ite (h1.trans (State.withdraw_boxWork _ _ _ _)) h1
          · exact h1
        exact h2.trans ((State.setSx_boxWork _ _ _).trans (State.syncZones_boxWork _))

theorem State.curtail_boxWork (a : Nat) (revoke : Bool) : s.boxWork (s.curtail a revoke).1 := by
  unfold State.curtail
  extract_lets cur rev r t gone t'
  have ht : s.boxWork t := (s.endWait_boxWork a).trans (State.setSx_boxWork _ _ _)
  have ht' : s.boxWork t' := by
    dsimp only [t']
    split
    · exact ht.trans (State.toReleasing_boxWork _ _ _ _)
    · exact ht
  split
  · exact ht'.trans (State.issueAuth_boxWork _ _ _ _ _ _ _)
  · exact ht'.trans (State.setSx_boxWork _ _ _)

theorem State.breakCycle_boxWork (path : List Nat) : s.boxWork (s.breakCycle path).1 := by
  unfold State.breakCycle
  extract_lets worse v waiter stops id
  have hc := s.curtail_boxWork v false
  generalize s.curtail v false = x at hc
  obtain ⟨t, gone⟩ := x
  dsimp -zeta only at hc ⊢
  extract_lets avoid r t1 alt t2 t3
  have h1 : s.boxWork t1 := hc.trans (State.setSx_boxWork _ _ _)
  have h2 : s.boxWork t2 := h1.trans (State.alt_boxWork _ _)
  exact (h2.trans (State.satInc_boxWork _ F.SBX_CNT1_CYCLES (by decide))).trans (State.raise_boxWork _ Ev.sbxDeadlock _ (by decide))

theorem State.extendN_boxWork (n : Nat) (a : Nat) : s.boxWork (State.extendN n s a) := by
  induction n generalizing s a with
  | zero => exact s.boxWork_refl
  | succ n ih =>
    unfold State.extendN
    have h := s.extendOnce_boxWork a
    generalize s.extendOnce a = x at h
    obtain ⟨t, new⟩ := x
    dsimp only at h ⊢
    split
    · exact h
    · split
      · exact h
      · split
        · exact h
        · next path _ =>
          have k := h.trans (t.breakCycle_boxWork path)
          generalize t.breakCycle path = y at k
          obtain ⟨u, w⟩ := y
          cases w with
          | none => exact k
          | some w => exact State.boxWork_ite k (k.trans (ih u w))

theorem State.retry_boxWork : s.boxWork s.retry := by
  unfold State.retry
  refine State.boxWork.trans (State.boxWork_foldl _ (fun t a => ?_) _ s) (State.syncSbx_boxWork _)
  split
  · exact State.boxWork_ite (t.extendN_boxWork 128 a) t.boxWork_refl
  · exact t.boxWork_refl

/-! ### Fixes (R140, R179, R180, R186) -/

theorem State.routeDone_boxWork (a : Nat) : s.boxWork (s.routeDone a) := by
  unfold State.routeDone
  extract_lets r
  split
  · extract_lets pos
    exact State.boxWork_ite ((s.endWait_boxWork a).trans (State.setSx_boxWork _ _ _)) s.boxWork_refl
  · exact s.boxWork_refl

/-- A fix that reaches the signal box changes nothing of central RTK. -/
theorem State.takeFix_boxWork (a : Nat) (f : FixRec) (lastTow : Nat) : s.boxWork (s.takeFix a f lastTow) := by
  unfold State.takeFix
  extract_lets r t t'
  refine State.boxWork_ite (State.boxWork_ite s.boxWork_refl ?_) ?_
  · exact (s.setSx_boxWork _ _).trans (State.raise_boxWork _ Ev.sbxHold _ (by decide))
  · exact ((s.setSx_boxWork _ _).trans (State.routeDone_boxWork _ _)).trans (State.retry_boxWork _)
end

end Sys2Proof.Machine
end

section
/-! SUPPORT. What publishing, updating and resolving one rover changes in a cycle of central RTK. -/

namespace Sys2Proof

theorem Tbl.get_map {α : Type} (d : α) (f : α → α) (hd : f d = d) (t : Tbl α) (k : Nat) :
    Tbl.get d (t.map fun p => (p.1, f p.2)) k = f (Tbl.get d t k) := by
  induction t with
  | nil => exact hd.symm
  | cons p t ih =>
    rw [List.map_cons, Tbl.get, Tbl.get, ih]
    exact (apply_ite f _ _ _).symm

namespace Machine

/-! ### The work on one rover -/

/-- The parts and registers that the work on a rover changes. -/
abbrev rtkParts : List Part := .rtk :: boxParts
abbrev rtkRegs : List Nat := R.RTK_STAT :: boxRegs

/-- Central RTK beside its rovers. -/
def Rtk.rest (x : Rtk) : Rtk := { x with rovers := [] }

/-- From `s` to `t` of central RTK only what it holds of rover `a` changes, and of that not what `view` shows. -/
structure State.worksOn {α : Type} (view : RtkRover → α) (a : Nat) (s t : State) : Prop where
  frame : s.changesOnly t rtkParts rtkRegs []
  rest : t.rtk.rest = s.rtk.rest
  others : ∀ b, b ≠ a → t.rk b = s.rk b
  own : view (t.rk a) = view (s.rk a)

/-- What the cycle asks of a rover: its rate, its pending epoch, and its misses. -/
def RtkRover.dues (r : RtkRover) : Nat × Option PendingObs × Nat := (r.rate, r.pending, r.misses)

theorem RtkRover.dues_eq_iff {r r' : RtkRover} : r'.dues = r.dues ↔ r'.rate = r.rate ∧ r'.pending = r.pending ∧ r'.misses = r.misses := by
  simp [RtkRover.dues]

/-- Its rate and its pending epoch. -/
def RtkRover.plan (r : RtkRover) : Nat × Option PendingObs := (r.rate, r.pending)

section
variable {α : Type} {view : RtkRover → α} {a : Nat} {s t u : State}

theorem State.worksOn_refl (view : RtkRover → α) (a : Nat) (s : State) : s.worksOn view a s :=
  ⟨s.changesOnly_refl _ _ _, rfl, fun _ _ => rfl, rfl⟩

theorem State.worksOn.trans (h : s.worksOn view a t) (k : t.worksOn view a u) : s.worksOn view a u where
  frame := State.changesOnly_trans h.frame k.frame
  rest := k.rest.trans h.rest
  others b hb := (k.others b hb).trans (h.others b hb)
  own := k.own.trans h.own

theorem State.worksOn_ite {c : Prop} [Decidable c] (ht : s.worksOn view a t) (hu : s.worksOn view a u) :
    s.worksOn view a (if c then t else u) := by
  split
  · exact ht
  · exact hu

/-- What shows less is kept with what shows more. -/
theorem State.worksOn.weaken {β : Type} (h : s.worksOn view a t) (f : α → β) : s.worksOn (fun r => f (view r)) a t :=
  ⟨h.frame, h.rest, h.others, congrArg f h.own⟩

/-- A change outside central RTK. -/
theorem State.worksOn_of_frame (h : s.changesOnly t rtkParts rtkRegs []) (hrtk : t.rtk = s.rtk) : s.worksOn view a t :=
  ⟨h, by rw [hrtk], fun b _ => State.rk_of_rtk hrtk b, congrArg view (State.rk_of_rtk hrtk a)⟩

theorem State.worksOn_of_box (h : s.boxWork t) : s.worksOn view a t :=
  State.worksOn_of_frame (State.changesOnly_mono h (List.subset_cons_self _ _) (List.subset_cons_self _ _) (List.Subset.refl _))
    (h.2.1 .rtk (by decide))
end

section
variable {α : Type} {view : RtkRover → α} (s : State) (a : Nat)

theorem State.setRk_worksOn {r : RtkRover} (h : view r = view (s.rk a)) : s.worksOn view a (s.setRk a r) where
  frame := s.setRk_changesOnly a r (by decide)
  rest := rfl
  others b hb := s.rk_setRk_other a b r hb.symm
  own := by rw [State.rk_setRk_same, h]

theorem State.syncRtk_worksOn : s.worksOn view a s.syncRtk :=
  State.worksOn_of_frame (s.syncRtk_changesOnly (by decide)) s.syncRtk_rtk

theorem State.raise_worksOn (src : Nat) (detail : List Byte) (h : src < 96) : s.worksOn view a (s.raise src detail) :=
  State.worksOn_of_box (s.raise_boxWork src detail h)

/-! ### Publication (R137 to R140) -/

/-- A record as it is published: marked with the mode, the alert and the shedding of its rover, and with its age and generation. -/
def FixRec.marked (r : FixRec) (k : RtkRover) (alert : Bool) (at_ : Nat) : FixRec :=
  { r with flags := r.flags + 4 * b2n k.ifree + 16 * b2n alert + 64 * b2n k.shed,
           age := min 65535 (ceilDiv (at_ - r.instant) oneMs), gen := k.gen }

/-- A published record stands with its rover; the events and the signal box follow. -/
theorem State.publish_shows (r : FixRec) (at_ : Nat) : ∃ alert,
    (s.setRk a { s.rk a with record := some (r.marked (s.rk a) alert at_), alert := alert }).worksOn (fun r => r) a (s.publish a r at_) := by
  unfold State.publish
  extract_lets k hal val alert age r' old tow t t1 t2
  refine ⟨alert, ?_⟩
  have h1 : t.worksOn (fun r => r) a t1 := State.worksOn_ite (State.raise_worksOn _ _ Ev.rtkAlert _ (by decide)) (State.worksOn_refl _ _ _)
  have h2 : t1.worksOn (fun r => r) a t2 := State.worksOn_ite (State.raise_worksOn _ _ Ev.rtkClass _ (by decide)) (State.worksOn_refl _ _ _)
  exact (h1.trans h2).trans ((State.worksOn_of_box (State.takeFix_boxWork _ _ _ _)).trans (State.syncRtk_worksOn _ _))

theorem State.rk_publish (r : FixRec) (at_ : Nat) : ∃ alert,
    (s.publish a r at_).rk a = { s.rk a with record := some (r.marked (s.rk a) alert at_), alert := alert } := by
  obtain ⟨alert, h⟩ := s.publish_shows a r at_
  exact ⟨alert, h.own.trans (State.rk_setRk_same _ _ _)⟩

theorem State.publish_worksOn (r : FixRec) (at_ : Nat) : s.worksOn RtkRover.dues a (s.publish a r at_) := by
  obtain ⟨alert, h⟩ := s.publish_shows a r at_
  exact (s.setRk_worksOn a (by rfl)).trans (h.weaken RtkRover.dues)

theorem State.publishSol_worksOn (q : PendingObs) (b : BaseRec) (r : FixRec) (ratio at_ : Nat) :
    s.worksOn RtkRover.dues a (s.publishSol a q b r ratio at_) := by
  unfold State.publishSol
  extract_lets k changed
  refine State.worksOn_ite (State.worksOn_refl _ _ _) ?_
  exact (s.setRk_worksOn a (by rfl)).trans (State.publish_worksOn _ _ _ _)

theorem State.floatResult_worksOn (q : PendingObs) (b : BaseRec) (note : Bool) (ratio at_ : Nat) :
    s.worksOn RtkRover.dues a (s.floatResult a q b note ratio at_) :=
  (s.setRk_worksOn a (by rfl)).trans (State.publishSol_worksOn _ _ _ _ _ _ _)

/-- A resolution changes neither the rate of its rover, nor its pending epoch, nor its misses. -/
theorem State.resolve_worksOn (q : PendingObs) (b : BaseRec) (reset : List Nat) (at_ : Nat) :
    s.worksOn RtkRover.dues a (s.resolve a q b reset at_) := by
  unfold State.resolve
  extract_lets r used f S
  refine State.worksOn_ite (s.floatResult_worksOn _ _ _ _ _ _) ?_
  split
  · exact s.floatResult_worksOn _ _ _ _ _ _
  · extract_lets fix resid t prev ok
    refine State.worksOn_ite ?_ (State.worksOn_ite ?_ ?_)
    · exact ((s.setRk_worksOn a (by rfl)).trans (State.floatResult_worksOn _ _ _ _ _ _ _)).trans
        (State.raise_worksOn _ _ Ev.rtkResid _ (by decide))
    · exact (s.setRk_worksOn a (by rfl)).trans (State.publishSol_worksOn _ _ _ _ _ _ _)
    · exact (s.setRk_worksOn a (by rfl)).trans (State.publishSol_worksOn _ _ _ _ _ _ _)

theorem State.countDistance_worksOn (b : BaseRec) : s.worksOn RtkRover.dues a (s.countDistance a b) := by
  unfold State.countDistance
  extract_lets r
  split
  · exact s.setRk_worksOn a (by rfl)
  · exact State.worksOn_refl _ _ _

/-- The measurement update keeps the rate of its rover and its pending epoch. -/
theorem State.update_worksOn (q : PendingObs) (b : BaseRec) : s.worksOn RtkRover.plan a (s.update a q b).1 := by
  unfold State.update
  dsimp only
  split <;> exact s.setRk_worksOn a (by rfl)

end

/-! ### Float results with a note (R134, R147) -/

/-- A record with AR_NOTE of class FLOAT or below. -/
def FixRec.noted (r : FixRec) : Bool := bit r.flags 7 && decide (r.cls ≤ 2)

section
variable (s : State) (a : Nat)

theorem State.floatRec_cls : (s.floatRec a).cls ≤ 2 := by
  unfold State.floatRec
  dsimp only
  split
  · decide
  · split <;> decide

/-- No mark reaches the bit of AR_NOTE. -/
theorem FixRec.noted_marked {r : FixRec} {changed : Bool} (hcls : r.cls ≤ 2) (hflags : r.flags = 128 + 32 * b2n changed) (k : RtkRover)
    (alert : Bool) (at_ : Nat) : (r.marked k alert at_).noted = true := by
  unfold FixRec.noted FixRec.marked
  dsimp only
  rw [hflags, decide_eq_true hcls]
  cases changed <;> cases k.ifree <;> cases alert <;> cases k.shed <;> rfl

/-- A rover shows a float record with AR_NOTE. -/
def State.notes (s : State) (a : Nat) : Prop := (s.rk a).record.map FixRec.noted = some true

theorem State.floatResult_notes (q : PendingObs) (b : BaseRec) (ratio at_ : Nat) (hpub : s.publishes = true) :
    (s.floatResult a q b true ratio at_).notes a := by
  unfold State.floatResult State.publishSol
  extract_lets v t k changed w r
  have hpub' : t.publishes = true := hpub
  have hcls : r.cls ≤ 2 := s.floatRec_cls a
  have hflags : r.flags = 128 + 32 * b2n changed := rfl
  clear_value t r
  rw [hpub', if_neg (by decide)]
  obtain ⟨alert, h⟩ := State.rk_publish (t.setRk a { k with baseGen := some b.gen, noneSent := false }) a r at_
  rw [State.notes, h, Option.map_some, FixRec.noted_marked hcls hflags]

end

end Machine
end Sys2Proof
end

section
/-! SUPPORT. A cycle of central RTK: what each of its steps keeps, and what the turn of a due rover does. -/

namespace Sys2Proof.Machine

/-! ### The steps of a cycle (R24, R134, R139) -/

abbrev cycleRegs : List Nat := R.RTK_CYCLE :: R.RTK_CUTS :: rtkRegs

/-- From `s` to `t` a cycle, or the cut before it, does part of its work: the site origin and the rates stay, no pending epoch comes up
and no rover without one loses its misses. -/
structure State.roving (s t : State) : Prop where
  frame : s.changesOnly t rtkParts cycleRegs []
  origin : t.rtk.origin = s.rtk.origin
  rate : ∀ a, (t.rk a).rate = (s.rk a).rate
  idle : ∀ a, (s.rk a).pending = none → (t.rk a).pending = none ∧ (s.rk a).misses ≤ (t.rk a).misses

/-- Within one cycle the instant of the cycle stays, no hold is to be dropped that was not, and the longest time covers the last. -/
structure State.cycling (s t : State) : Prop extends s.roving t where
  last : t.rtk.lastCycle = s.rtk.lastCycle
  drop : s.rtk.dropHolds = false → t.rtk.dropHolds = false
  took : s.fld F.RTK_CYCLE_LAST_US ≤ s.fld F.RTK_CYCLE_MAX_US → t.fld F.RTK_CYCLE_LAST_US ≤ t.fld F.RTK_CYCLE_MAX_US

section
variable {s t u : State}

theorem State.roving_refl (s : State) : s.roving s := ⟨s.changesOnly_refl _ _ _, rfl, fun _ => rfl, fun _ h => ⟨h, le_rfl⟩⟩

theorem State.roving.trans (h : s.roving t) (k : t.roving u) : s.roving u where
  frame := State.changesOnly_trans h.frame k.frame
  origin := k.origin.trans h.origin
  rate a := (k.rate a).trans (h.rate a)
  idle a hp := ⟨(k.idle a (h.idle a hp).1).1, (h.idle a hp).2.trans (k.idle a (h.idle a hp).1).2⟩

theorem State.cycling_refl (s : State) : s.cycling s := ⟨s.roving_refl, rfl, id, id⟩

theorem State.cycling.trans (h : s.cycling t) (k : t.cycling u) : s.cycling u where
  toroving := h.toroving.trans k.toroving
  last := k.last.trans h.last
  drop hd := k.drop (h.drop hd)
  took ht := k.took (h.took ht)

theorem State.cycling_ite {c : Prop} [Decidable c] (ht : s.cycling t) (hu : s.cycling u) : s.cycling (if c then t else u) := by
  split
  · exact ht
  · exact hu

/-- A frame without RTK_CYCLE keeps the times of the cycle. -/
theorem State.took_of_reg (h : t.reg R.RTK_CYCLE = s.reg R.RTK_CYCLE) (hs : s.fld F.RTK_CYCLE_LAST_US ≤ s.fld F.RTK_CYCLE_MAX_US) :
    t.fld F.RTK_CYCLE_LAST_US ≤ t.fld F.RTK_CYCLE_MAX_US := by
  have hfld : ∀ f : Fld, f.addr = R.RTK_CYCLE → t.fld f = s.fld f := fun f hf => by rw [State.fld, State.fld, hf, h]
  rwa [hfld _ rfl, hfld _ rfl]

/-- What leaves every rover's rate, pending epoch and misses, and the rest of central RTK, is a step of the cycle. -/
theorem State.cycling_of_dues (h : s.changesOnly t rtkParts rtkRegs []) (hset : t.rtk.rest = s.rtk.rest)
    (hdues : ∀ a, (t.rk a).dues = (s.rk a).dues) : s.cycling t where
  frame := State.changesOnly_mono h (List.Subset.refl _) (List.subset_append_right [R.RTK_CYCLE, R.RTK_CUTS] _) (List.Subset.refl _)
  origin := (congrArg Rtk.origin hset :)
  rate a := (RtkRover.dues_eq_iff.mp (hdues a)).1
  idle a hp := by
    obtain ⟨-, hpend, hmiss⟩ := RtkRover.dues_eq_iff.mp (hdues a)
    exact ⟨hpend.trans hp, hmiss.ge⟩
  last := (congrArg Rtk.lastCycle hset :)
  drop hd := (congrArg Rtk.dropHolds hset :).trans hd
  took := State.took_of_reg (h.2.2 _ (by decide) nofun)

/-- A change of the registers that show the cycle. -/
theorem State.cycling_of_rtk (h : s.changesOnly t rtkParts cycleRegs []) (hrtk : t.rtk = s.rtk)
    (htook : s.fld F.RTK_CYCLE_LAST_US ≤ s.fld F.RTK_CYCLE_MAX_US → t.fld F.RTK_CYCLE_LAST_US ≤ t.fld F.RTK_CYCLE_MAX_US) : s.cycling t where
  frame := h
  origin := by rw [hrtk]
  rate a := by rw [State.rk_of_rtk hrtk]
  idle a hp := by
    rw [State.rk_of_rtk hrtk]
    exact ⟨hp, le_rfl⟩
  last := by rw [hrtk]
  drop hd := by rw [hrtk, hd]
  took := htook

theorem State.cycling_of_work {a : Nat} (h : s.worksOn RtkRover.dues a t) : s.cycling t :=
  State.cycling_of_dues h.frame h.rest fun b => by
    by_cases hb : b = a
    · rw [hb, h.own]
    · rw [h.others b hb]

theorem State.cycling_of_box (h : s.boxWork t) : s.cycling t := State.cycling_of_work (a := 0) (State.worksOn_of_box h)
end

section
variable (s : State)

/-- Beside the rovers, of which each keeps what the cycle asks of it, other settings of central RTK may change. -/
theorem State.withRtk_cycling {x : Rtk} (hrk : ∀ a, (Tbl.get ({} : RtkRover) x.rovers a).dues = (s.rk a).dues)
    (horigin : x.origin = s.rtk.origin) (hlast : x.lastCycle = s.rtk.lastCycle) (hdrop : s.rtk.dropHolds = false → x.dropHolds = false) :
    s.cycling (s.withRtk x) where
  frame := s.rtk_changesOnly x (by decide)
  origin := by rw [State.withRtk_rtk, horigin]
  rate a := (RtkRover.dues_eq_iff.mp (hrk a)).1
  idle a hp := ⟨(RtkRover.dues_eq_iff.mp (hrk a)).2.1.trans hp, (RtkRover.dues_eq_iff.mp (hrk a)).2.2.ge⟩
  last := by rw [State.withRtk_rtk, hlast]
  drop hd := by rw [State.withRtk_rtk, hdrop hd]
  took h := h

/-- Every rover changes in the same way. -/
theorem State.get_mapRovers (f : RtkRover → RtkRover) (h0 : f {} = {}) (a : Nat) :
    Tbl.get ({} : RtkRover) (s.rtk.rovers.map fun p => (p.1, f p.2)) a = f (s.rk a) := Tbl.get_map _ f h0 _ _

/-- Filters that move leave every rover's rate, pending epoch and misses. -/
theorem State.dues_moveFilters (move : RtkFilter → RtkFilter) (a : Nat) :
    (Tbl.get ({} : RtkRover) (s.rtk.rovers.map fun p => (p.1, { p.2 with filt := p.2.filt.map move })) a).dues = (s.rk a).dues := by
  rw [s.get_mapRovers (fun r => { r with filt := r.filt.map move }) rfl a]
  rfl

theorem State.shiftFilters_cycling (axes : Geodetic) (d : Vec) : s.cycling (s.shiftFilters axes d) :=
  s.withRtk_cycling (s.dues_moveFilters _) rfl rfl id

theorem State.baseShift_cycling (b : BaseRec) : s.cycling (s.baseShift b) := by
  unfold State.baseShift
  extract_lets x t
  have ht : s.cycling t := s.withRtk_cycling (fun _ => rfl) rfl rfl id
  split
  · exact State.cycling_ite ht ((ht.trans (State.shiftFilters_cycling _ _ _)).trans
      (State.cycling_of_box (State.raise_boxWork _ Ev.rtkBase _ (by decide))))
  · exact ht

theorem State.reframe_cycling (b : BaseRec) : s.cycling (s.reframe b) := by
  unfold State.reframe
  extract_lets target
  split
  · extract_lets a c turn cols rot move t
    have ht : s.cycling t := s.withRtk_cycling (s.dues_moveFilters _) rfl rfl id
    exact State.cycling_ite s.cycling_refl (ht.trans (State.shiftFilters_cycling _ _ _))
  · exact s.withRtk_cycling (fun _ => rfl) rfl rfl id
  · exact s.cycling_refl

/-- The longest time is at least the last (R145). -/
theorem State.cycleTook_cycling (us : Nat) : s.cycling (s.cycleTook us) := by
  unfold State.cycleTook
  extract_lets v
  have hframe : s.changesOnly ((s.setFld F.RTK_CYCLE_LAST_US v).setFld F.RTK_CYCLE_MAX_US (max v (s.fld F.RTK_CYCLE_MAX_US))) rtkParts
      cycleRegs [] :=
    State.setFld_then _ _ (State.setFld_then _ _ (s.changesOnly_refl _ _ _) (by decide)) (by decide)
  refine State.cycling_of_rtk hframe (by rw [State.setFld_rtk, State.setFld_rtk]) fun _ => ?_
  have hv : v < 2 ^ 16 := max_lt (s.fld_lt F.RTK_CYCLE_LAST_US) (by omega)
  have hmax : max v (s.fld F.RTK_CYCLE_MAX_US) < 2 ^ 16 := max_lt hv (s.fld_lt F.RTK_CYCLE_MAX_US)
  rw [State.fld_setFld_other _ F.RTK_CYCLE_MAX_US F.RTK_CYCLE_LAST_US _ rfl (by decide) (by decide), State.fld_setFld_same _ _ _ (by decide),
    State.fld_setFld_same _ _ _ (by decide)]
  exact (Nat.mod_le _ _).trans ((le_max_left _ _).trans (Nat.mod_eq_of_lt hmax).ge)

/-! ### The turn of a due rover (R124, R134, R139) -/

/-- The same conditions for publishing. -/
theorem State.publishes_congr {t : State} (hstat : t.reg R.TIM_STAT = s.reg R.TIM_STAT) (horigin : t.rtk.origin = s.rtk.origin) :
    t.publishes = s.publishes := by
  have hstate : t.timState = s.timState := congrArg (fun w : Word => fldOf F.TIM_STAT_STATE w.toNat) hstat
  rw [State.publishes, State.publishes, hstate, horigin]

/-- From `s` to `t`, in a cycle, rover `a` has had a turn: it has no pending epoch, and one that came without has a miss more, while
records are published. -/
structure State.turned (a : Nat) (s t : State) : Prop extends s.cycling t where
  taken : (t.rk a).pending = none
  missed : s.publishes = true → (s.rk a).pending = none → (s.rk a).misses < (t.rk a).misses

section
variable {s} {t u : State} {a : Nat}

theorem State.roving.publishes (h : s.roving t) : t.publishes = s.publishes :=
  State.publishes_congr s (h.frame.2.2 _ (by decide) nofun) h.origin

theorem State.turned.then (h : s.turned a t) (k : t.cycling u) : s.turned a u where
  tocycling := h.tocycling.trans k
  taken := (k.idle a h.taken).1
  missed hp hn := (h.missed hp hn).trans_le (k.idle a h.taken).2

theorem State.cycling.turned (h : s.cycling t) (k : t.turned a u) : s.turned a u where
  tocycling := h.trans k.tocycling
  taken := k.taken
  missed hp hn := (h.idle a hn).2.trans_lt (k.missed (h.publishes.trans hp) (h.idle a hn).1)

/-- Work on a rover that takes its pending epoch. -/
theorem State.turned_of_work (h : s.worksOn RtkRover.rate a t) (htaken : (t.rk a).pending = none)
    (hmissed : (s.rk a).pending = none → (t.rk a).misses = (s.rk a).misses + b2n s.publishes) : s.turned a t where
  frame := State.changesOnly_mono h.frame (List.Subset.refl _) (List.subset_append_right [R.RTK_CYCLE, R.RTK_CUTS] _) (List.Subset.refl _)
  origin := (congrArg Rtk.origin h.rest :)
  rate b := by
    by_cases hb : b = a
    · rw [hb, h.own]
    · rw [h.others b hb]
  idle b hp := by
    by_cases hb : b = a
    · subst hb
      exact ⟨htaken, by rw [hmissed hp]; exact Nat.le_add_right _ _⟩
    · rw [h.others b hb]
      exact ⟨hp, le_rfl⟩
  last := (congrArg Rtk.lastCycle h.rest :)
  drop hd := (congrArg Rtk.dropHolds h.rest :).trans hd
  took := State.took_of_reg (h.frame.2.2 _ (by decide) nofun)
  taken := htaken
  missed hpub hn := by
    rw [hmissed hn, hpub]
    exact Nat.lt_succ_self _
end

theorem State.missed_worksOn (a : Nat) : s.worksOn RtkRover.plan a (s.missed a) := s.setRk_worksOn a (by rfl)

theorem State.rk_missed (a : Nat) : (s.missed a).rk a = { s.rk a with cands := [], misses := (s.rk a).misses + b2n s.publishes } :=
  State.rk_setRk_same _ _ _

/-- A rover waits for the cut. -/
def State.queued (w : RtkSol × PendingObs × BaseRec) : State := s.withRtk { s.rtk with waiting := s.rtk.waiting ++ [w] }

theorem State.queued_cycling (w : RtkSol × PendingObs × BaseRec) : s.cycling (s.queued w) := s.withRtk_cycling (fun _ => rfl) rfl rfl id

theorem State.turn_turned (ek : Nat) (x : RtkSol) (cut : Bool) : s.turned x.slot.val (s.turn ek x cut) := by
  unfold State.turn
  extract_lets a r v
  have hv : s.worksOn RtkRover.rate a v := s.setRk_worksOn a (by rfl)
  have hrk : v.rk a = { r with pending := none } := s.rk_setRk_same a _
  have hnone : (v.rk a).pending = none := by rw [hrk]
  have hmiss : (v.rk a).misses = (s.rk a).misses := by rw [hrk]
  have hpub : v.publishes = s.publishes := rfl
  /- Work on the rover after its epoch has been taken. -/
  have hplan : ∀ t, v.worksOn RtkRover.plan a t → (s.rk a).pending ≠ none → s.turned a t := fun t h hp =>
    State.turned_of_work (hv.trans (h.weaken Prod.fst)) ((congrArg Prod.snd h.own :).trans hnone) fun hn => absurd hn hp
  have hmissed : s.turned a (v.missed a) := by
    refine State.turned_of_work (hv.trans ((v.missed_worksOn a).weaken Prod.fst)) ?_ fun _ => ?_
    · rw [State.rk_missed]
      exact hnone
    · rw [State.rk_missed, ← hmiss, ← hpub]
  clear_value v
  split
  · next q hq =>
    have hp : (s.rk a).pending ≠ none := by
      intro h
      exact absurd (hq.symm.trans h) nofun
    split
    · next b _ =>
      split
      · exact hmissed
      · have hup := v.update_worksOn a q b
        generalize v.update a q b = y at hup
        obtain ⟨t, reset⟩ := y
        dsimp -zeta only at hup ⊢
        extract_lets r' t'
        have ht' : v.worksOn RtkRover.plan a t' :=
          (hup.trans (t.setRk_worksOn a (by rfl))).trans ((State.countDistance_worksOn _ a b).weaken fun d => (d.1, d.2.1))
        split
        · exact (hplan t' ht' hp).then (t'.queued_cycling _)
        · exact hplan _ (ht'.trans ((State.resolve_worksOn _ a q b reset _).weaken fun d => (d.1, d.2.1))) hp
    · exact hmissed
  · exact hmissed

end

end Sys2Proof.Machine
end

section
/-! SUPPORT. The deadline cut of central RTK, and a cycle as a whole. -/

namespace Sys2Proof

/-! ### Sorted lists -/

theorem mem_insertBy {α : Type} (before : α → α → Bool) (a b : α) (l : List α) : b ∈ insertBy before a l ↔ b = a ∨ b ∈ l := by
  induction l with
  | nil => simp [insertBy]
  | cons c l ih =>
    unfold insertBy
    split
    · exact List.mem_cons
    · rw [List.mem_cons, ih, List.mem_cons]
      tauto

/-- A list in an order has the same elements. -/
theorem mem_sortBy {α : Type} (before : α → α → Bool) (b : α) (l : List α) : b ∈ sortBy before l ↔ b ∈ l := by
  induction l with
  | nil => exact Iff.rfl
  | cons a l ih => rw [sortBy, mem_insertBy, ih, List.mem_cons]

namespace Machine

/-! ### Events of the lanes (R27, R413) -/

section
variable {s t : State}

/-- An event of the lanes leaves them: a lane is active, and no switch-over is under way. -/
theorem State.lanesSpeak_congr (h : t.reg R.LAN_STAT = s.reg R.LAN_STAT) :
    (t.laneActive && !t.switching) = (s.laneActive && !s.switching) := by
  have hfld : ∀ f : Fld, f.addr = R.LAN_STAT → t.fld f = s.fld f := fun f hf => by rw [State.fld, State.fld, hf, h]
  unfold State.laneActive State.switching State.flag
  rw [hfld _ rfl, hfld _ rfl, hfld _ rfl]

/-- An event of the lanes leaves its pending bit set, where they speak. -/
theorem State.raise_lane_pend {i : Nat} (hi : i < 32) (hout : Ev.sysSvbOut ≠ i) (s : State) (detail : List Byte) (hl : Ev.ofLane i = true)
    (hspeak : (s.laneActive && !s.switching) = true) : bit (s.raise i detail).pend i = true := by
  obtain ⟨hactive, hquiet⟩ : s.laneActive = true ∧ s.switching = false := by simpa using hspeak
  have hfold : ∀ (l : List Nat) (t : State),
      bit (l.foldl (fun t sid => t.eventTo i s.laneNow (detail8 detail) sid) t).pend i = bit t.pend i := by
    intro l
    induction l with
    | nil => exact fun _ => rfl
    | cons sid l ih => exact fun t => (ih _).trans (State.eventTo_pend hi hout _ _ _ _ _)
  unfold State.raise
  rw [hl, if_pos rfl]
  extract_lets tag t
  rw [hquiet, hactive, if_neg (by decide), if_pos rfl]
  refine (hfold _ _).trans ?_
  rw [State.pend_syncIrq, State.bit_pend_of_reg (State.incRaised_pend0 _) hi, State.bit_pend_setPend _ _ hi hi, if_pos rfl]
end

/-! ### The deadline cut (R134, R147) -/

section
variable (s : State)

/-- The rovers that wait publish float results with AR_NOTE. -/
def State.floatAll (ws : List (RtkSol × PendingObs × BaseRec)) : State :=
  ws.foldl (fun t w => t.floatResult w.1.slot.val w.2.1 w.2.2 true 0 t.laneNow) s

theorem State.floatAll_keeps (ws : List (RtkSol × PendingObs × BaseRec)) :
    s.changesOnly (s.floatAll ws) rtkParts rtkRegs [] ∧ (s.floatAll ws).rtk.rest = s.rtk.rest ∧
      ∀ a, ((s.floatAll ws).rk a).dues = (s.rk a).dues := by
  unfold State.floatAll
  induction ws generalizing s with
  | nil => exact ⟨s.changesOnly_refl _ _ _, rfl, fun _ => rfl⟩
  | cons w ws ih =>
    have hw := s.floatResult_worksOn w.1.slot.val w.2.1 w.2.2 true 0 s.laneNow
    obtain ⟨hframe, hrest, hdues⟩ := ih (s.floatResult w.1.slot.val w.2.1 w.2.2 true 0 s.laneNow)
    refine ⟨State.changesOnly_trans hw.frame hframe, hrest.trans hw.rest, fun a => (hdues a).trans ?_⟩
    by_cases ha : a = w.1.slot.val
    · rw [ha, hw.own]
    · rw [hw.others a ha]

theorem State.notes_floatResult {s : State} {a : Nat} (h : s.notes a) (b : Nat) (q : PendingObs) (r : BaseRec) (ratio at_ : Nat)
    (hpub : s.publishes = true) : (s.floatResult b q r true ratio at_).notes a := by
  by_cases hb : a = b
  · subst hb
    exact s.floatResult_notes a q r ratio at_ hpub
  · rw [State.notes, (s.floatResult_worksOn b q r true ratio at_).others a hb]
    exact h

/-- Each of them then shows its float record. -/
theorem State.floatAll_notes (ws : List (RtkSol × PendingObs × BaseRec)) (hpub : s.publishes = true) :
    ∀ a, (s.notes a ∨ a ∈ ws.map (·.1.slot.val)) → (s.floatAll ws).notes a := by
  unfold State.floatAll
  induction ws generalizing s with
  | nil => exact fun a h => h.elim id nofun
  | cons w ws ih =>
    have hpub' := (State.cycling_of_work (s.floatResult_worksOn w.1.slot.val w.2.1 w.2.2 true 0 s.laneNow)).publishes
    refine fun a h => ih _ (hpub'.trans hpub) a ?_
    rcases h with h | h
    · exact .inl (State.notes_floatResult h _ _ _ _ _ hpub)
    · rcases List.mem_cons.mp h with h | h
      · exact .inl (h ▸ s.floatResult_notes _ _ _ _ _ hpub)
      · exact .inr h

/-- Nobody waits: everyone who waited has published. -/
def State.floated : State := (s.withRtk { s.rtk with waiting := [] }).floatAll s.rtk.waiting

/-- The time that this took is shown. -/
def State.cutPublished : State :=
  if s.publishes then s.floated.cycleTook ((s.floated.laneNow - s.floated.rtk.lastCycle) / 1000) else s.floated

/-- The cut has been counted. -/
def State.cutCounted : State := (s.cutPublished.satInc F.RTK_CUTS_CUTS).satAdd F.RTK_CUTS_SKIPPED_AR s.rtk.waiting.length

theorem State.cutWaiting_of_none (h : s.rtk.waiting = []) : s.cutWaiting = s := by
  unfold State.cutWaiting
  rw [h]
  rfl

theorem State.cutWaiting_of_some (h : s.rtk.waiting ≠ []) : s.cutWaiting =
    s.cutCounted.raise Ev.rtkLate (le 1 s.rtk.waiting.length ++ le 1 0 ++ le 2 (s.cutCounted.fld F.RTK_CYCLE_LAST_US)) := by
  have hne : s.rtk.waiting.isEmpty = false := by simpa using h
  unfold State.cutWaiting
  extract_lets ws x t u v w
  have hu : u = s.floated := rfl
  have hv : v = s.cutPublished := by rw [State.cutPublished, ← hu]
  have hw : w = s.cutCounted := by rw [State.cutCounted, ← hv]
  have hws : ws.isEmpty = false := hne
  rw [hws, if_neg (by decide), hw]

theorem State.floated_cycling : s.cycling s.floated := by
  obtain ⟨hframe, hrest, hdues⟩ := (s.withRtk { s.rtk with waiting := [] }).floatAll_keeps s.rtk.waiting
  exact (s.withRtk_cycling (x := { s.rtk with waiting := [] }) (fun _ => rfl) rfl rfl id).trans
    (State.cycling_of_dues hframe hrest hdues)

theorem State.cutPublished_cycling : s.cycling s.cutPublished :=
  State.cycling_ite (s.floated_cycling.trans (State.cycleTook_cycling _ _)) s.floated_cycling

theorem State.cutCounted_cycling : s.cycling s.cutCounted := by
  refine s.cutPublished_cycling.trans (State.cycling_of_rtk (State.changesOnly_trans (State.satInc_changesOnly _ _ (.inl (by decide)))
    (State.setFld_changesOnly _ _ _ (.inl (by decide)))) ?_ (State.took_of_reg ?_))
  · exact (State.satAdd_rtk _ _ _).trans (State.satInc_rtk _ _)
  · exact (State.reg_setFld_other _ _ _ _ (by decide)).trans (State.reg_setFld_other _ _ _ _ (by decide))

theorem State.cutWaiting_cycling : s.cycling s.cutWaiting := by
  by_cases h : s.rtk.waiting = []
  · rw [s.cutWaiting_of_none h]
    exact s.cycling_refl
  · rw [s.cutWaiting_of_some h]
    exact s.cutCounted_cycling.trans (State.cycling_of_box (State.raise_boxWork _ Ev.rtkLate _ (by decide)))

/-- Taking the time of a cycle touches RTK_CYCLE alone. -/
theorem State.cycleTook_shows (us : Nat) : (s.cycleTook us).rtk = s.rtk ∧ (s.cycleTook us).reg R.RTK_CUTS = s.reg R.RTK_CUTS := by
  unfold State.cycleTook
  extract_lets v
  exact ⟨by rw [State.setFld_rtk, State.setFld_rtk],
    (State.reg_setFld_other _ _ _ _ (by decide)).trans (State.reg_setFld_other _ _ _ _ (by decide))⟩

theorem State.cutPublished_shows : s.cutPublished.rtk = s.floated.rtk ∧ s.cutPublished.reg R.RTK_CUTS = s.reg R.RTK_CUTS := by
  have hfloat : s.floated.reg R.RTK_CUTS = s.reg R.RTK_CUTS :=
    ((s.withRtk { s.rtk with waiting := [] }).floatAll_keeps s.rtk.waiting).1.2.2 _ (by decide) nofun
  unfold State.cutPublished
  split
  · obtain ⟨hrtk, hreg⟩ := s.floated.cycleTook_shows ((s.floated.laneNow - s.floated.rtk.lastCycle) / 1000)
    exact ⟨hrtk, hreg.trans hfloat⟩
  · exact ⟨rfl, hfloat⟩

/-- The cut counts once, and every rover that waited. -/
theorem State.cutCounted_counts :
    s.cutCounted.fld F.RTK_CUTS_CUTS = min (s.fld F.RTK_CUTS_CUTS + 1) (2 ^ F.RTK_CUTS_CUTS.width - 1) ∧
      s.cutCounted.fld F.RTK_CUTS_SKIPPED_AR =
        min (s.fld F.RTK_CUTS_SKIPPED_AR + s.rtk.waiting.length) (2 ^ F.RTK_CUTS_SKIPPED_AR.width - 1) := by
  have hfld : ∀ f : Fld, f.addr = R.RTK_CUTS → s.cutPublished.fld f = s.fld f := fun f hf => by
    rw [State.fld, State.fld, hf, s.cutPublished_shows.2]
  unfold State.cutCounted
  constructor
  · rw [State.satAdd, State.fld_setFld_other _ F.RTK_CUTS_SKIPPED_AR F.RTK_CUTS_CUTS _ rfl (by decide) (by decide),
      State.fld_satInc_same _ _ (by decide), hfld _ rfl]
  · rw [State.satAdd, State.fld_setFld_same _ _ _ (by decide), State.satInc,
      State.fld_setFld_other _ F.RTK_CUTS_CUTS F.RTK_CUTS_SKIPPED_AR _ rfl (by decide) (by decide), hfld _ rfl, Nat.mod_eq_of_lt]
    exact Nat.lt_of_le_of_lt (min_le_right _ _) (by decide)

/-- A cut with rovers that wait: none waits after it, it is counted and told, and each of them shows a float record with AR_NOTE. -/
theorem State.cutWaiting_shows (h : s.rtk.waiting ≠ []) :
    s.cutWaiting.rtk.waiting = [] ∧
      s.cutWaiting.fld F.RTK_CUTS_CUTS = min (s.fld F.RTK_CUTS_CUTS + 1) (2 ^ F.RTK_CUTS_CUTS.width - 1) ∧
      s.cutWaiting.fld F.RTK_CUTS_SKIPPED_AR = min (s.fld F.RTK_CUTS_SKIPPED_AR + s.rtk.waiting.length) (2 ^ F.RTK_CUTS_SKIPPED_AR.width - 1) ∧
      ((s.laneActive && !s.switching) = true → bit s.cutWaiting.pend Ev.rtkLate = true) ∧
      (s.publishes = true → ∀ w ∈ s.rtk.waiting, s.cutWaiting.notes w.1.slot.val) := by
  have hframe := s.cutCounted.raise_boxWork Ev.rtkLate
    (le 1 s.rtk.waiting.length ++ le 1 0 ++ le 2 (s.cutCounted.fld F.RTK_CYCLE_LAST_US)) (by decide)
  have hrtk : s.cutCounted.rtk = s.floated.rtk :=
    ((State.satAdd_rtk _ _ _).trans (State.satInc_rtk _ _)).trans s.cutPublished_shows.1
  obtain ⟨-, hrest, -⟩ := (s.withRtk { s.rtk with waiting := [] }).floatAll_keeps s.rtk.waiting
  obtain ⟨hcuts, hskipped⟩ := s.cutCounted_counts
  rw [s.cutWaiting_of_some h]
  have hrtk' := (hframe.2.1 .rtk (by decide) :).trans hrtk
  refine ⟨?_, (State.fld_of_changesOnly hframe _ (by decide)).trans hcuts, (State.fld_of_changesOnly hframe _ (by decide)).trans hskipped,
    fun hspeak => ?_, fun hpub w hw => ?_⟩
  · rw [hrtk']
    exact (congrArg Rtk.waiting hrest :)
  · refine State.raise_lane_pend (by decide) (by decide) _ _ rfl ?_
    rw [State.lanesSpeak_congr (s.cutCounted_cycling.frame.2.2 _ (by decide) nofun), hspeak]
  · rw [State.notes, State.rk_of_rtk hrtk']
    exact State.floatAll_notes (s.withRtk { s.rtk with waiting := [] }) _ hpub _ (.inr (List.mem_map_of_mem hw))

end
end Machine
end Sys2Proof
end

section
/-! SUPPORT. A cycle of central RTK as a whole: who is due, and what every due rover's turn leaves. -/

namespace Sys2Proof.Machine

/-! ### Who is due (R142) -/

section
variable {s t : State}

theorem State.fixN_congr (hbase : t.baseNs = s.baseNs) (hrate : ∀ a, (t.rk a).rate = (s.rk a).rate) (a : Nat) : t.fixN a = s.fixN a := by
  rw [State.fixN, State.fixN, hbase, hrate]

theorem State.dueAt_congr (hrad : t.rad = s.rad) (hbase : t.baseNs = s.baseNs) (hrate : ∀ a, (t.rk a).rate = (s.rk a).rate) (ek : Nat) :
    t.dueAt ek = s.dueAt ek := by
  unfold State.dueAt State.boundSlots
  rw [hrad, hbase]
  simp only [State.fixN_congr hbase hrate]

theorem State.roving.dueAt (h : s.roving t) (ek : Nat) : t.dueAt ek = s.dueAt ek :=
  State.dueAt_congr (h.frame.2.1 .rad (by decide)) (State.baseNs_of_fld (State.fld_of_changesOnly h.frame _ (by decide))) h.rate ek

/-- The AR order leaves no rover out. -/
theorem State.mem_arOrder (s : State) (l : List Nat) (a : Nat) : a ∈ s.arOrder l ↔ a ∈ l := mem_sortBy _ a l

/-! ### The turns -/

/-- A turn for each of a list of rovers. -/
theorem State.foldl_turned {f : State → RtkSol → State} (hf : ∀ (t : State) x, t.turned x.slot.val (f t x)) (l : List RtkSol) (s : State) :
    s.cycling (l.foldl f s) ∧ ∀ x ∈ l, s.turned x.slot.val (l.foldl f s) := by
  induction l generalizing s with
  | nil => exact ⟨s.cycling_refl, nofun⟩
  | cons x l ih =>
    obtain ⟨hcyc, hturned⟩ := ih (f s x)
    refine ⟨(hf s x).tocycling.trans hcyc, fun y hy => ?_⟩
    rcases List.mem_cons.mp hy with rfl | hy
    · exact (hf s y).then hcyc
    · exact (hf s x).tocycling.turned (hturned y hy)

/-- A cycle that has begun: it bears its instant, no hold is to be dropped, and no time has been taken beyond the longest. -/
structure State.begun (ek : Nat) (s t : State) : Prop extends s.roving t where
  instant : t.rtk.lastCycle = ek
  holds : t.rtk.dropHolds = false
  time : t.fld F.RTK_CYCLE_LAST_US ≤ t.fld F.RTK_CYCLE_MAX_US

theorem State.roving_start (s : State) (ek : Nat) :
    s.roving ((s.withRtk { s.rtk with lastCycle := ek }).setFld F.RTK_CYCLE_LAST_US 0) where
  frame := State.setFld_then _ _ (s.rtk_changesOnly _ (by decide)) (by decide)
  origin := by rw [State.setFld_rtk, State.withRtk_rtk]
  rate a := by rw [State.rk, State.setFld_rtk, State.withRtk_rtk, State.rk]
  idle a hp := by
    rw [State.rk, State.setFld_rtk, State.withRtk_rtk]
    exact ⟨hp, le_rfl⟩

/-- Every hold goes with the runs of candidates. -/
theorem State.dropHolds_cycling (s : State) : s.cycling (s.withRtk
    { s.rtk with dropHolds := false, rovers := s.rtk.rovers.map fun p => (p.1, { p.2 with holds := [], cands := [] }) }) :=
  s.withRtk_cycling (fun a => by rw [s.get_mapRovers (fun r => { r with holds := [], cands := [] }) rfl a]; rfl) rfl rfl fun _ => rfl

/-- The solution of a rover is one of its own. -/
theorem solOf_slot (sols : List RtkSol) {a : Nat} (ha : a < 128) (d : RtkSol) (hd : d.slot.val = a % 128) :
    ((sols.find? fun x => x.slot.val == a).getD d).slot.val = a := by
  cases h : sols.find? fun x => x.slot.val == a with
  | none => exact hd.trans (Nat.mod_eq_of_lt ha)
  | some x =>
    have hx := List.find?_some h
    exact beq_iff_eq.mp hx

/-- A cycle begins, and then every due rover has its turn: in time, or waiting for the cut. -/
theorem State.rtkCycle_shows (s : State) (ek : Nat) (sols : List RtkSol) {t : State} (ht : t = s.rtkCycle ek sols) :
    ∃ u, s.begun ek u ∧ u.cycling t ∧ ∀ a ∈ s.dueAt ek, a < 128 → u.turned a t := by
  unfold State.rtkCycle at ht
  extract_lets cut x start based y u due sol xs first shown inTime late at ht
  have hstart : s.roving start := s.cutWaiting_cycling.toroving.trans (State.roving_start _ ek)
  have hbased : start.cycling based := by
    dsimp only [based]
    split
    · exact (State.reframe_cycling _ _).trans (State.baseShift_cycling _ _)
    · exact State.cycling_refl _
  have hu : based.cycling u ∧ u.rtk.dropHolds = false := by
    dsimp only [u]
    split
    · exact ⟨based.dropHolds_cycling, rfl⟩
    · next h => exact ⟨State.cycling_refl _, Bool.eq_false_iff.mpr h⟩
  have hbegun : s.begun ek u := by
    have htime : start.fld F.RTK_CYCLE_LAST_US ≤ start.fld F.RTK_CYCLE_MAX_US :=
      (State.fld_setFld_zero _ F.RTK_CYCLE_LAST_US (by decide)).trans_le (Nat.zero_le _)
    have hall := hbased.trans hu.1
    exact ⟨hstart.trans hall.toroving, hall.last, hu.2, hall.took htime⟩
  have hfirst := State.foldl_turned (f := fun t x => if shown (t.turn ek x false) x = shown t x then t.turn ek x false
    else (t.turn ek x false).cycleTook x.pubUs) (fun t x => by
      split
      · exact t.turn_turned ek x false
      · exact (t.turn_turned ek x false).then (State.cycleTook_cycling _ _)) first u
  have hlate := State.foldl_turned (f := fun t x => t.turn ek x true) (fun t x => t.turn_turned ek x true) (xs.drop first.length) inTime
  have hsync : late.cycling t := ht ▸ State.cycling_of_work (a := 0) (State.syncRtk_worksOn _ _)
  refine ⟨u, hbegun, (hfirst.1.trans hlate.1).trans hsync, fun a ha hlt => ?_⟩
  have hsol : sol a ∈ first ∨ sol a ∈ xs.drop first.length := by
    have hmem : sol a ∈ xs := List.mem_map_of_mem ((u.mem_arOrder _ a).mpr (by rwa [hbegun.dueAt ek]))
    have hxs : first ++ xs.drop first.length = xs := List.prefix_iff_eq_append.mp (List.takeWhile_prefix _)
    rw [← hxs] at hmem
    exact List.mem_append.mp hmem
  have hslot : (sol a).slot.val = a := solOf_slot sols hlt _ rfl
  refine turned.then ?_ hsync
  rcases hsol with h | h
  · exact hslot ▸ (hfirst.2 _ h).then hlate.1
  · exact hslot ▸ hfirst.1.turned (hlate.2 _ h)

end

end Sys2Proof.Machine
end

section
/-! SUPPORT. Intake of observation bodies, rates and shedding of central RTK. -/

namespace Sys2Proof.Machine

/-! ### Bodies that are dropped (R122 to R124, R153) -/

/-- The counters and the load of central RTK. -/
abbrev intakeRegs : List Nat := R.RTK_INTAKE :: boxRegs

section
variable (s : State) (a : Nat)

/-- A drop is counted, and told at most once a second; of the rover it leaves everything but the time of its last event. -/
theorem State.intakeDrop_shows (counter tow : Nat) :
    s.changesOnly (s.intakeDrop a counter tow) rtkParts intakeRegs [] ∧
      ∃ e, (s.intakeDrop a counter tow).rk a = { s.rk a with evAt := e } := by
  unfold State.intakeDrop
  extract_lets f t quiet r
  have hf : f.addr ∈ intakeRegs := by
    dsimp only [f]
    split <;> decide
  have ht : s.changesOnly t rtkParts intakeRegs [] := s.satInc_changesOnly f (.inl hf)
  have hrk : t.rk a = s.rk a := State.rk_of_rtk (s.satInc_rtk f) a
  split
  · exact ⟨ht, (s.rk a).evAt, hrk⟩
  · have hraise := State.raise_boxWork (t.setRk a { t.rk a with evAt := some s.el }) Ev.rtkIntake
      (le 1 a ++ le 1 counter ++ le 4 tow) (by decide)
    refine ⟨State.changesOnly_trans (State.changesOnly_trans ht (t.setRk_changesOnly _ _ (by decide))) (State.changesOnly_mono hraise
      (List.subset_cons_self _ _) (List.subset_cons_self _ _) (List.Subset.refl _)), some s.el, ?_⟩
    rw [State.rk_of_rtk (hraise.2.1 .rtk (by decide)), State.rk_setRk_same, hrk]

/-- A body that fails the FORMAT test is counted, and told unless its rover has just been told of. -/
theorem State.intakeDrop_format (tow : Nat) :
    (s.intakeDrop a 0 tow).fld F.RTK_INTAKE_FORMAT = min (s.fld F.RTK_INTAKE_FORMAT + 1) 255 ∧
      ((s.rk a).evAt = none → (s.laneActive && !s.switching) = true → bit (s.intakeDrop a 0 tow).pend Ev.rtkIntake = true) := by
  unfold State.intakeDrop
  extract_lets f t quiet r
  have ht : t = s.satInc F.RTK_INTAKE_FORMAT := rfl
  clear_value t
  have hcount : t.fld F.RTK_INTAKE_FORMAT = min (s.fld F.RTK_INTAKE_FORMAT + 1) 255 := by
    rw [ht, State.fld_satInc_same _ _ (by decide), show 2 ^ F.RTK_INTAKE_FORMAT.width - 1 = 255 from rfl]
  have hlan : (t.setRk a { t.rk a with evAt := some s.el }).reg R.LAN_STAT = s.reg R.LAN_STAT := by
    rw [State.reg, State.setRk_regs, ← State.reg, ht, State.satInc, State.reg_setFld_other _ _ _ _ (by decide)]
  constructor
  · split
    · exact hcount
    · have hraise := State.raise_boxWork (t.setRk a { t.rk a with evAt := some s.el }) Ev.rtkIntake
        (le 1 a ++ le 1 0 ++ le 4 tow) (by decide)
      rw [State.fld_of_changesOnly hraise _ (by decide), State.fld_of_regs (State.setRk_regs t a _)]
      exact hcount
  · intro hnew hspeak
    have hquiet : quiet = false := by
      dsimp only [quiet]
      rw [hnew]
    rw [hquiet, if_neg (by decide)]
    refine State.raise_lane_pend (by decide) (by decide) _ _ rfl ?_
    rw [← hspeak]
    exact State.lanesSpeak_congr hlan

/-! ### Bodies that become the pending epoch (R122 to R124) -/

/-- A new delta reference, and what it asks for, is all that a full body changes before it is taken. -/
theorem State.takeRef_shows (p : List Byte) :
    ∃ ref reset, s.takeRef a p = s ∨ s.takeRef a p = s.setRk a { s.rk a with ref := ref, resetAll := reset } := by
  unfold State.takeRef
  extract_lets r e id recs new
  split
  · extract_lets jump
    split
    · exact ⟨_, _, .inr rfl⟩
    · exact ⟨none, false, .inl rfl⟩
  · exact ⟨some new, r.resetAll, .inr rfl⟩

/-- A lane input takes its number, whatever a full body refers to. -/
theorem State.takeRef_laneInput (p : List Byte) : s.laneInput.takeRef a p = (s.takeRef a p).laneInput := by
  unfold State.takeRef
  rw [State.rk_of_rtk s.laneInput_rtk]
  dsimp only
  cases (s.rk a).ref with
  | none => rfl
  | some old =>
    dsimp only
    split <;> rfl

/-- A body whose reference is taken when it is full. -/
def State.referred (p : List Byte) : State := if bit (rdN p 6 1) 7 then s.takeRef a p else s

theorem State.referred_laneInput (p : List Byte) : s.laneInput.referred a p = (s.referred a p).laneInput := by
  unfold State.referred
  rw [State.takeRef_laneInput]
  split <;> rfl

theorem State.referred_changesOnly (p : List Byte) : s.changesOnly (s.referred a p) [.rtk] [] [] := by
  unfold State.referred
  split
  · obtain ⟨ref, reset, h | h⟩ := s.takeRef_shows a p
    · rw [h]
      exact s.changesOnly_refl _ _ _
    · rw [h]
      exact s.setRk_changesOnly _ _ (by decide)
  · exact s.changesOnly_refl _ _ _

theorem State.referred_shows (p : List Byte) :
    (s.referred a p).rtk.bases = s.rtk.bases ∧ ∃ ref reset, (s.referred a p).rk a = { s.rk a with ref := ref, resetAll := reset } := by
  unfold State.referred
  split
  · obtain ⟨ref, reset, h | h⟩ := s.takeRef_shows a p
    · rw [h]
      exact ⟨rfl, (s.rk a).ref, (s.rk a).resetAll, rfl⟩
    · rw [h, State.rk_setRk_same]
      exact ⟨rfl, ref, reset, rfl⟩
  · exact ⟨rfl, (s.rk a).ref, (s.rk a).resetAll, rfl⟩

/-- The largest number of a list none of whose numbers is above a bound. -/
theorem foldl_max_le (l : List Nat) {m : Nat} (h : ∀ b ∈ l, b ≤ m) : l.foldl max 0 ≤ m :=
  List.foldlRecOn (motive := (· ≤ m)) l max (Nat.zero_le m) fun _ hb a ha => max_le hb (h a ha)

/-- The epoch of a body has been used. -/
def State.epochUsed (p : List Byte) : Bool :=
  match (s.rk a).lastUsed with
  | some u => decide (bodyEpoch p ≤ u)
  | none => false

/-- The body becomes the pending epoch of its rover, in place of one that is dropped. -/
def State.pended (p : List Byte) (obs : List RoverObs) : State :=
  (s.setRk a { s.rk a with pending := some ⟨bodyEpoch p, rdI p 8 4, obs⟩, live := true, had := true }).syncRtk

/-- A body with observations becomes the pending epoch unless it comes before the one that is pending. -/
def State.replaced (p : List Byte) (obs : List RoverObs) : State :=
  match (s.rk a).pending with
  | some q => if bodyEpoch p ≤ q.epoch then s.intakeDrop a 3 (rdN p 0 4) else (s.intakeDrop a 3 (q.epoch % 604800000)).pended a p obs
  | none => s.pended a p obs

/-- No base record is newer than the longest age allows. -/
def State.tooOld (p : List Byte) : Bool :=
  decide (bodyEpoch p + orOne (s.fld F.RTK_CTL_MAX_AGE) * (s.baseNs / oneMs) < (s.rtk.bases.map (·.epoch)).foldl max 0)

/-- A body of the right format and with a reference that serves, by its tests. -/
theorem State.intake_of_obs {p : List Byte} {obs : List RoverObs} (hok : s.bodyOk p = true) (hobs : (s.referred a p).bodyObs a p = some obs) :
    s.intake a p =
      if ((s.referred a p).baseRec (bodyEpoch p)).isNone ∨ (s.referred a p).tooOld p then (s.referred a p).intakeDrop a 2 (rdN p 0 4)
      else if (s.referred a p).epochUsed a p then (s.referred a p).intakeDrop a 3 (rdN p 0 4)
      else (s.referred a p).replaced a p obs := by
  unfold State.intake
  rw [hok, Bool.not_true, if_neg (by decide)]
  change (match (s.referred a p).bodyObs a p with
    | none => _
    | some obs => _) = _
  rw [hobs]
  rfl

/-- A body whose epoch is later than the last one used has not been used. -/
theorem State.epochUsed_of_later {p : List Byte} (h : (s.rk a).lastUsed.all (fun u => decide (u < bodyEpoch p)) = true) :
    s.epochUsed a p = false := by
  unfold State.epochUsed
  cases hu : (s.rk a).lastUsed with
  | none => rfl
  | some u =>
    rw [hu, Option.all_some] at h
    exact decide_eq_false (Nat.not_le.mpr (of_decide_eq_true h))

theorem State.tooOld_of_young {p : List Byte}
    (h : s.rtk.bases.all (fun b => decide (b.epoch ≤ bodyEpoch p + orOne (s.fld F.RTK_CTL_MAX_AGE) * (s.baseNs / oneMs))) = true) :
    s.tooOld p = false := by
  refine decide_eq_false (Nat.not_lt.mpr (foldl_max_le _ fun e he => ?_))
  obtain ⟨b, hb, rfl⟩ := List.mem_map.mp he
  exact of_decide_eq_true (List.all_eq_true.mp h b hb)

theorem State.replaced_of_later {p : List Byte} (obs : List RoverObs)
    (h : (s.rk a).pending.all (fun q => decide (q.epoch < bodyEpoch p)) = true) :
    s.replaced a p obs = s.pended a p obs ∨ ∃ tow, s.replaced a p obs = (s.intakeDrop a 3 tow).pended a p obs := by
  unfold State.replaced
  cases hq : (s.rk a).pending with
  | none => exact .inl rfl
  | some q =>
    rw [hq, Option.all_some] at h
    dsimp only
    rw [if_neg (Nat.not_le.mpr (of_decide_eq_true h))]
    exact .inr ⟨_, rfl⟩

theorem State.rk_pended (p : List Byte) (obs : List RoverObs) :
    (s.pended a p obs).rk a = { s.rk a with pending := some ⟨bodyEpoch p, rdI p 8 4, obs⟩, live := true, had := true } := by
  rw [State.pended, State.rk_of_rtk (State.syncRtk_rtk _), State.rk_setRk_same]

theorem State.time_pended (p : List Byte) (obs : List RoverObs) : (s.pended a p obs).time = s.time :=
  (State.syncRtk_changesOnly (ps := [.rtk]) (rs := [R.RTK_STAT]) (bs := []) _ (by decide)).2.1 .time (by decide)

/-- The tests that a body passes whose reference serves (R122 to R124). -/
structure State.fresh (p : List Byte) : Prop where
  held : s.baseRec (bodyEpoch p) ≠ none
  young : s.rtk.bases.all (fun b => decide (b.epoch ≤ bodyEpoch p + orOne (s.fld F.RTK_CTL_MAX_AGE) * (s.baseNs / oneMs))) = true
  unused : (s.rk a).lastUsed.all (fun u => decide (u < bodyEpoch p)) = true
  later : (s.rk a).pending.all (fun q => decide (q.epoch < bodyEpoch p)) = true

/-- The delta reference of a full body takes no part in the other tests. -/
theorem State.fresh.referred {s : State} {a : Nat} {p : List Byte} (h : s.fresh a p) : (s.referred a p).fresh a p := by
  obtain ⟨hbases, ref, reset, hrk⟩ := s.referred_shows a p
  have hfld := fun f => State.fld_of_changesOnly (s.referred_changesOnly a p) f nofun
  constructor
  case held =>
    rw [State.baseRec, hbases]
    exact h.held
  case young =>
    rw [hbases, hfld, State.baseNs_of_fld (hfld _)]
    exact h.young
  case unused =>
    rw [hrk]
    exact h.unused
  case later =>
    rw [hrk]
    exact h.later

/-- A body that passes every test becomes the pending epoch of its rover, whose filter is live. -/
theorem State.intake_of_fresh {p : List Byte} {obs : List RoverObs} (hok : s.bodyOk p = true)
    (hobs : (s.referred a p).bodyObs a p = some obs) (h : s.fresh a p) :
    ∃ r : RtkRover, (s.intake a p).rk a = { r with pending := some ⟨bodyEpoch p, rdI p 8 4, obs⟩, live := true, had := true } ∧
      r.record = (s.rk a).record ∧ (s.intake a p).time = s.time := by
  obtain ⟨-, ref, reset, hrk⟩ := s.referred_shows a p
  have hrecord : ((s.referred a p).rk a).record = (s.rk a).record := by rw [hrk]
  have htime : (s.referred a p).time = s.time := (s.referred_changesOnly a p).2.1 .time (by decide)
  have hfresh := h.referred
  rw [State.intake_of_obs s a hok hobs]
  generalize s.referred a p = u at hrecord htime hfresh ⊢
  have htests : ¬((u.baseRec (bodyEpoch p)).isNone = true ∨ u.tooOld p = true) := by
    rw [Option.isNone_iff_eq_none, State.tooOld_of_young _ hfresh.young]
    exact fun hno => hno.elim hfresh.held nofun
  rw [if_neg htests, State.epochUsed_of_later _ _ hfresh.unused, if_neg Bool.false_ne_true]
  rcases State.replaced_of_later u a obs hfresh.later with hr | ⟨tow, hr⟩
  · rw [hr]
    exact ⟨_, State.rk_pended _ _ _ _, hrecord, (State.time_pended _ _ _ _).trans htime⟩
  · obtain ⟨hframe, e, hdrop⟩ := u.intakeDrop_shows a 3 tow
    rw [hr]
    exact ⟨_, State.rk_pended _ _ _ _, by rw [hdrop, ← hrecord],
      (State.time_pended _ _ _ _).trans ((hframe.2.1 .time (by decide)).trans htime)⟩

end

end Sys2Proof.Machine
end

section
/-! SUPPORT. Rates and shedding of central RTK. -/

namespace Sys2Proof.Machine

/-! ### Rates (R142, R267) -/

section
variable (s : State) (a b : Nat)

theorem State.bound_setBound_same (x : Binding) : (s.setBound a x).bound a = x := by
  rw [State.bound, State.setBound_rovers, Tbl.get_put_same]

theorem State.bound_setBound_other (x : Binding) (h : a ≠ b) : (s.setBound a x).bound b = s.bound b := by
  rw [State.bound, State.setBound_rovers, Tbl.get_put_other _ _ _ _ _ _ h]
  rfl

/-- The shedding shown is in registers alone. -/
theorem State.showShed_parts : s.showShed.rtk = s.rtk ∧ s.showShed.rad = s.rad := by
  unfold State.showShed
  exact ⟨by rw [State.setFld_rtk, State.setFld_rtk, State.setFld_rtk], by rw [State.setFld_rad, State.setFld_rad, State.setFld_rad]⟩

/-- Whether shedding slows a rover is kept with its rate. -/
def State.showSlow (slow : Bool) : State := s.setRk a { s.rk a with shed := slow }

theorem State.showSlow_rate (slow : Bool) : ((s.showSlow a slow).rk b).rate = (s.rk b).rate := by
  by_cases hb : a = b
  · subst hb
    rw [State.showSlow, State.rk_setRk_same]
  · rw [State.showSlow, State.rk_setRk_other _ _ _ _ hb]

theorem State.showSlow_bound (slow : Bool) : (s.showSlow a slow).bound b = s.bound b := rfl

/-- A rover takes a rate: a new one asks for a full body. -/
def State.takeRate (code : Nat) (slow : Bool) : State :=
  let t := s.showSlow a slow
  if (t.rk a).rate = code then t
  else (t.setRk a { t.rk a with rate := code }).setBound a { t.bound a with fullWant := true }

theorem State.takeRate_rate (code : Nat) (slow : Bool) :
    ((s.takeRate a code slow).rk b).rate = if b = a then code else (s.rk b).rate := by
  rw [← s.showSlow_rate a b slow]
  unfold State.takeRate
  generalize s.showSlow a slow = t
  dsimp only
  by_cases hb : b = a
  · subst hb
    rw [if_pos rfl]
    split
    · next h => exact h
    · rw [State.rk_of_rtk (State.setBound_rtk _ _ _), State.rk_setRk_same]
  · rw [if_neg hb]
    split
    · rfl
    · rw [State.rk_of_rtk (State.setBound_rtk _ _ _), State.rk_setRk_other _ _ _ _ (Ne.symm hb)]

theorem State.takeRate_full (code : Nat) (slow : Bool) (h : (s.bound b).fullWant = true ∨ b = a ∧ (s.rk a).rate ≠ code) :
    ((s.takeRate a code slow).bound b).fullWant = true := by
  rw [← s.showSlow_rate a a slow, ← s.showSlow_bound a b slow] at h
  unfold State.takeRate
  generalize s.showSlow a slow = t at h
  dsimp only
  split
  · next hsame => exact h.resolve_right fun hnew => hnew.2 hsame
  · by_cases hb : b = a
    · rw [hb, State.bound_setBound_same]
    · rw [State.bound_setBound_other _ _ _ _ (Ne.symm hb)]
      exact h.resolve_right fun hnew => hb hnew.1

theorem State.takeRate_rateSec (code : Nat) (slow : Bool) : (s.takeRate a code slow).rtk.rateSec = s.rtk.rateSec := by
  unfold State.takeRate
  dsimp only
  split
  · rfl
  · rw [State.setBound_rtk]
    rfl

/-- Every rover of a list takes its rate. -/
theorem State.foldl_takeRate (code : Nat → Nat) (slow : Nat → Bool) (l : List Nat) (s : State) {t : State}
    (ht : t = l.foldl (fun t a => t.takeRate a (code a) (slow a)) s) :
    t.rtk.rateSec = s.rtk.rateSec ∧ (∀ b, (t.rk b).rate = if b ∈ l then code b else (s.rk b).rate) ∧
      ∀ b, (s.bound b).fullWant = true ∨ b ∈ l ∧ (s.rk b).rate ≠ code b → (t.bound b).fullWant = true := by
  induction l generalizing s with
  | nil =>
    subst ht
    exact ⟨rfl, fun b => (if_neg List.not_mem_nil).symm, fun b h => h.resolve_right fun hb => absurd hb.1 List.not_mem_nil⟩
  | cons a l ih =>
    obtain ⟨hsec, hrate, hfull⟩ := ih _ ht
    refine ⟨hsec.trans (s.takeRate_rateSec a _ _), fun b => ?_, fun b h => hfull b ?_⟩
    · rw [hrate, State.takeRate_rate]
      by_cases hl : b ∈ l
      · rw [if_pos hl, if_pos (List.mem_cons_of_mem a hl)]
      · rw [if_neg hl]
        by_cases hb : b = a
        · rw [if_pos hb, if_pos (List.mem_cons.mpr (.inl hb)), hb]
        · rw [if_neg hb, if_neg fun h => (List.mem_cons.mp h).elim hb hl]
    · by_cases hb : b = a
      · exact .inl (s.takeRate_full a b _ _ (h.imp_right fun hnew => ⟨hb, hb ▸ hnew.2⟩))
      · rw [State.takeRate_rate, if_neg hb]
        exact h.imp (fun hwant => s.takeRate_full a b _ _ (.inl hwant)) fun hnew => ⟨(List.mem_cons.mp hnew.1).resolve_left hb, hnew.2⟩

/-- A whole second: every rover bound takes the rate of its class, as shed. -/
def State.takeRates : State :=
  s.boundSlots.foldl
    (fun t a => t.takeRate a (s.effRate (s.shedRate s.rtk.shed a))
      (decide (s.effRate (s.shedRate s.rtk.shed a) < s.effRate (s.classRate a))))
    (s.withRtk { s.rtk with rateSec := s.now / oneSec }).showShed

theorem execRtkRateChange_of_second (h : s.rtk.rateSec < s.now / oneSec) : execRtkRateChange s = .next s.takeRates := by
  unfold execRtkRateChange
  dsimp only
  rw [if_neg (Nat.not_le.mpr h)]
  rfl

theorem State.takeRates_shows :
    s.takeRates.rtk.rateSec = s.now / oneSec ∧ (∀ a ∈ s.boundSlots, (s.takeRates.rk a).rate = s.effRate (s.shedRate s.rtk.shed a)) ∧
      ∀ a ∈ s.boundSlots, (s.rk a).rate ≠ s.effRate (s.shedRate s.rtk.shed a) → (s.takeRates.bound a).fullWant = true := by
  obtain ⟨hrtk, -⟩ := (s.withRtk { s.rtk with rateSec := s.now / oneSec }).showShed_parts
  obtain ⟨hsec, hrate, hfull⟩ := State.foldl_takeRate _ _ _ _ (show s.takeRates = _ from rfl)
  refine ⟨by rw [hsec, hrtk, State.withRtk_rtk], fun a ha => (hrate a).trans (if_pos ha), fun a ha hnew => hfull a (.inr ⟨ha, ?_⟩)⟩
  rwa [State.rk_of_rtk hrtk, State.rk, State.withRtk_rtk]

/-! ### Shedding (R143) -/

theorem State.showShed_changesOnly : s.changesOnly s.showShed [] [R.RTK_STAT, R.RTK_LOAD] [] := by
  unfold State.showShed
  exact State.setFld_then _ _ (State.setFld_then _ _ (State.setFld_then _ _ (s.changesOnly_refl _ _ _) (by decide)) (by decide)) (by decide)

/-- The parked rovers' step is shown. -/
theorem State.fld_showShed_park : s.showShed.fld F.RTK_STAT_SHED_PARK = min s.rtk.shed 2 := by
  unfold State.showShed
  rw [State.fld_setFld_otherReg _ _ _ _ (by decide), State.fld_setFld_otherReg _ _ _ _ (by decide), State.fld_setFld_same _ _ _ (by decide)]
  exact Nat.mod_eq_of_lt ((Nat.min_le_right _ _).trans_lt (by decide))

/-- A step of shedding is shown and told. -/
def State.shedTold : State :=
  let t := s.showShed
  t.raise Ev.rtkShed
    (le 1 (t.fld F.RTK_STAT_SHED_PARK) ++ le 1 (t.fld F.RTK_LOAD_SHED_MOVE) ++ le 2 (t.fld F.RTK_LOAD_GRANTED) ++ le 2 (t.fld F.RTK_LOAD_DUE))

theorem State.shedTold_shows :
    s.shedTold.rtk = s.rtk ∧ s.shedTold.fld F.RTK_STAT_SHED_PARK = min s.rtk.shed 2 ∧
      ((s.laneActive && !s.switching) = true → bit s.shedTold.pend Ev.rtkShed = true) := by
  have hlan : s.showShed.reg R.LAN_STAT = s.reg R.LAN_STAT := s.showShed_changesOnly.2.2 _ (by decide) nofun
  have hpark := s.fld_showShed_park
  obtain ⟨hrtk, -⟩ := s.showShed_parts
  unfold State.shedTold
  generalize s.showShed = t at hlan hpark hrtk ⊢
  extract_lets u
  have hframe := u.raise_boxWork Ev.rtkShed (le 1 (u.fld F.RTK_STAT_SHED_PARK) ++ le 1 (u.fld F.RTK_LOAD_SHED_MOVE) ++
    le 2 (u.fld F.RTK_LOAD_GRANTED) ++ le 2 (u.fld F.RTK_LOAD_DUE)) (by decide)
  refine ⟨(hframe.2.1 .rtk (by decide) :).trans hrtk, (State.fld_of_changesOnly hframe _ (by decide)).trans hpark, fun hspeak => ?_⟩
  refine State.raise_lane_pend (by decide) (by decide) _ _ rfl ?_
  rw [← hspeak]
  exact State.lanesSpeak_congr hlan

/-- One step more is taken. -/
def State.shedMore : State := s.withRtk { s.rtk with shed := s.rtk.shed + 1 }

/-- The last step taken is undone. -/
def State.shedLess : State := s.withRtk { s.rtk with shed := s.rtk.shed - 1, undoneAt := some s.el }

/-- One step more while the grant covers fewer fixes than the load. -/
theorem execRtkShedStep_of_short (hload : s.fld F.RTK_LOAD_GRANTED < s.rtkLoad s.rtk.shed) (hmore : s.rtk.shed < 10) :
    execRtkShedStep s = .next s.shedMore.shedTold := by
  unfold execRtkShedStep
  dsimp only
  rw [if_pos ⟨hload, hmore⟩]
  rfl

/-- One step undone, at most one a second, once the grant covers the load without it. -/
theorem execRtkShedStep_of_covered (hsome : s.rtk.shed ≠ 0) (hload : s.rtkLoad s.rtk.shed ≤ s.fld F.RTK_LOAD_GRANTED)
    (hless : s.rtkLoad (s.rtk.shed - 1) ≤ s.fld F.RTK_LOAD_GRANTED) (hsec : s.rtk.undoneAt.all (fun u => s.passed u oneSec) = true) :
    execRtkShedStep s = .next s.shedLess.shedTold := by
  unfold execRtkShedStep
  extract_lets n granted due event may
  have hmay : may = true := by
    dsimp only [may]
    cases hu : s.rtk.undoneAt with
    | none => rfl
    | some u => rwa [hu, Option.all_some] at hsec
  rw [if_neg fun h => absurd h.1 (Nat.not_lt.mpr hload), if_pos ⟨Nat.pos_of_ne_zero hsome, hless, hmay⟩]
  rfl

end

end Sys2Proof.Machine
end

section
/-! SUPPORT. What the events of central RTK give, by the branch that they take. -/

namespace Sys2Proof.Machine

section
variable {s : State}

/-! ### Intake (R122 to R124) -/

/-- The lanes act of their own while they run. -/
theorem State.onLanes_of_run (h : s.lanesRun = true) (t : State) : s.onLanes t = t := if_pos h

theorem execObservationIntake_of_run (k : Fin 128) (p : List Byte) (hen : s.flag F.RTK_CTL_EN = true) (hrun : s.lanesRun = true) :
    execObservationIntake k p s = .next (s.laneInput.intake k.val p) := by
  rw [execObservationIntake, hen, if_pos rfl, State.onLanes_of_run hrun]

/-- A body that fails the FORMAT test. -/
theorem State.intake_of_bad (a : Nat) {p : List Byte} (h : s.bodyOk p = false) : s.intake a p = s.intakeDrop a 0 (rdN p 0 4) := by
  rw [State.intake, h, Bool.not_false, if_pos rfl]

theorem State.bodyObs_laneInput (s : State) (a : Nat) (p : List Byte) : s.laneInput.bodyObs a p = s.bodyObs a p := rfl

/-! ### The cycle and its cut (R24, R134) -/

theorem execRtkCycle_of_new (sols : List RtkSol) (hen : s.flag F.RTK_CTL_EN = true) (hrun : s.lanesRun = true)
    (hnew : s.rtk.lastCycle < s.laneEpoch) : execRtkCycle sols s = .next (s.rtkCycle s.laneEpoch sols) := by
  unfold execRtkCycle
  dsimp only
  rw [State.onLanes_of_run hrun, hen, decide_eq_true hnew, Bool.and_self, if_pos rfl]

theorem execRtkCycle_of_old (sols : List RtkSol) (hrun : s.lanesRun = true) (hold : s.laneEpoch ≤ s.rtk.lastCycle) :
    execRtkCycle sols s = .next s := by
  unfold execRtkCycle
  dsimp only
  rw [State.onLanes_of_run hrun, decide_eq_false (Nat.not_lt.mpr hold), Bool.and_false, if_neg Bool.false_ne_true]

theorem execArDeadlineCut_of_late (hrun : s.lanesRun = true) (hlate : s.rtk.lastCycle + 6600000 < s.laneNow) :
    execArDeadlineCut s = .next s.cutWaiting := by
  rw [execArDeadlineCut, State.onLanes_of_run hrun, if_pos hlate]

/-! ### Records of class NONE and the mode (R136, R139) -/

/-- The record of a rover whose fix is lost, from its last one. -/
def FixRec.lost (old : FixRec) : FixRec := { pos := old.pos, tow := old.tow, epoch := old.epoch }

/-- A rover without data for too long publishes a record of class NONE. -/
def State.publishLost (s : State) (a : Nat) : State :=
  (s.setRk a { s.rk a with noneSent := true }).publish a ((s.rk a).record.getD {}).lost s.laneNow

theorem execFixLostNone_of_lost (k : Fin 128) (hen : s.flag F.RTK_CTL_EN = true) (hrun : s.lanesRun = true)
    (hmisses : orOne (s.fld F.RTK_CTL_LOST_N) ≤ (s.rk k.val).misses) (hsent : (s.rk k.val).noneSent = false) (hpub : s.publishes = true) :
    execFixLostNone k s = .next (s.publishLost k.val) := by
  unfold execFixLostNone
  dsimp only
  rw [decide_eq_true hmisses, hsent, hpub, hen, hrun, if_pos (by decide)]
  rfl

theorem State.publishLost_shows (s : State) (a : Nat) :
    ((s.publishLost a).rk a).noneSent = true ∧
      ∃ r : FixRec, ((s.publishLost a).rk a).record = some r ∧ r.cls = 0 ∧ r.hpl = 65535 ∧ r.vpl = 65535 := by
  obtain ⟨alert, h⟩ := (s.setRk a { s.rk a with noneSent := true }).rk_publish a ((s.rk a).record.getD {}).lost s.laneNow
  rw [State.rk_setRk_same] at h
  rw [State.publishLost, h]
  exact ⟨rfl, _, rfl, rfl, rfl, rfl⟩

/-- The rover in its other mode, with every ambiguity to be found again. -/
def RtkRover.switched (r : RtkRover) : RtkRover :=
  { r with ifree := !r.ifree, ifCount := 0, resetAll := true, holds := [], cands := [], wide := [], mw := [] }

theorem execIonoFreeSwitch_of_ten (k : Fin 128) (hrun : s.lanesRun = true) (hcount : 10 ≤ (s.rk k.val).ifCount)
    (hmode : s.flag F.RTK_CTL_IF_EN = true ∨ (s.rk k.val).ifree = true) :
    execIonoFreeSwitch k s = .next (s.setRk k.val (s.rk k.val).switched).syncRtk := by
  unfold execIonoFreeSwitch
  dsimp only
  rw [if_pos ⟨hrun, hcount, hmode⟩]
  rfl

theorem State.rk_switched (s : State) (a : Nat) : (s.setRk a (s.rk a).switched).syncRtk.rk a = (s.rk a).switched := by
  rw [State.rk_of_rtk (State.syncRtk_rtk _), State.rk_setRk_same]

end

end Sys2Proof.Machine
end

section
/-! PROOF. Observation intake, the RTK cycle, its records, modes, rates and shedding. -/

namespace Sys2Proof.Machine

/-- Settles O16: intake by the tests a body passes, a cycle by its due rovers, the rest by what the branch taken leaves of central RTK. -/
theorem rtkIntakeAndCyclesComplete : Obligations.RtkIntakeAndCyclesComplete := by
  refine ⟨?badBody, ?goodBody, ?cycle, ?noCycle, ?cut, ?lost, ?iono, ?rates, ?shed, ?unshed, ?arDisable⟩
  case badBody =>
    intro s k p hen hrun hbad
    obtain ⟨hframe, e, hrk⟩ := s.laneInput.intakeDrop_shows k.val 0 (rdN p 0 4)
    obtain ⟨hcount, hpend⟩ := s.laneInput.intakeDrop_format k.val (rdN p 0 4)
    refine ⟨_, (execObservationIntake_of_run k p hen hrun).trans (congrArg _ (State.intake_of_bad k.val hbad)), hcount, ?_, ?_, ?_, hpend⟩
    · rw [hrk]
      rfl
    · rw [hrk]
      rfl
    · exact congrArg TimeSt.inputSeq (hframe.2.1 .time (by decide) :)
  case goodBody =>
    intro s k p obs hen hrun hok hobs hheld hyoung hunused hlater
    have hinput : (s.laneInput.referred k.val p).bodyObs k.val p = some obs := by
      rw [State.referred_laneInput, State.bodyObs_laneInput]
      exact hobs
    obtain ⟨r, hrk, hrecord, htime⟩ := s.laneInput.intake_of_fresh k.val hok hinput ⟨hheld, hyoung, hunused, hlater⟩
    refine ⟨_, execObservationIntake_of_run k p hen hrun, ?_⟩
    dsimp only
    rw [hrk, htime]
    exact ⟨rfl, rfl, rfl, hrecord, rfl⟩
  case cycle =>
    intro s sols hen hrun hnew
    obtain ⟨u, hbegun, hcycling, hturned⟩ := s.rtkCycle_shows s.laneEpoch sols rfl
    refine ⟨_, execRtkCycle_of_new sols hen hrun hnew, hcycling.last.trans hbegun.instant, hcycling.drop hbegun.holds,
      hcycling.took hbegun.time, fun a ha hlt => (hturned a ha hlt).taken, fun a ha hlt hpub hnone => ?_⟩
    obtain ⟨hidle, hmisses⟩ := hbegun.idle a hnone
    exact hmisses.trans_lt ((hturned a ha hlt).missed (hbegun.publishes.trans hpub) hidle)
  case noCycle =>
    intro s sols hen hrun hold
    exact ⟨s, execRtkCycle_of_old sols hrun hold, rfl⟩
  case cut =>
    intro s w ws hrun hlate hwait
    obtain ⟨hnone, hcuts, hskipped, hpend, hnotes⟩ := s.cutWaiting_shows (by rw [hwait]; exact List.cons_ne_nil _ _)
    rw [hwait] at hskipped hnotes
    exact ⟨_, execArDeadlineCut_of_late hrun hlate, hnone, hcuts, hpend, hskipped, fun hpub => hnotes hpub w List.mem_cons_self⟩
  case lost =>
    intro s k hen hrun hmisses hsent hpub
    obtain ⟨hnone, r, hrecord, hcls, hhpl, hvpl⟩ := s.publishLost_shows k.val
    refine ⟨_, execFixLostNone_of_lost k hen hrun hmisses hsent hpub, hnone, ?_⟩
    rw [hrecord, Option.map_some, Option.map_some, hcls, hhpl, hvpl]
    exact ⟨rfl, rfl⟩
  case iono =>
    intro s k hrun hcount hmode
    refine ⟨_, execIonoFreeSwitch_of_ten k hrun hcount hmode, ?_⟩
    dsimp only
    rw [State.rk_switched]
    exact ⟨rfl, rfl, rfl, rfl, rfl⟩
  case rates =>
    intro s hsec
    exact ⟨_, execRtkRateChange_of_second s hsec, s.takeRates_shows⟩
  case shed =>
    intro s hload hmore
    obtain ⟨hrtk, hpark, hpend⟩ := s.shedMore.shedTold_shows
    exact ⟨_, execRtkShedStep_of_short s hload hmore, congrArg Rtk.shed hrtk, hpark, hpend⟩
  case unshed =>
    intro s hsome hload hless hsec
    obtain ⟨hrtk, -, hpend⟩ := s.shedLess.shedTold_shows
    exact ⟨_, execRtkShedStep_of_covered s hsome hload hless hsec, congrArg Rtk.shed hrtk, congrArg Rtk.undoneAt hrtk, hpend⟩
  case arDisable =>
    intro s
    exact ⟨s.arDisable, rfl, s.fld_setFld_zero F.RTK_CTL_AR_EN (by decide), rfl, rfl⟩

end Sys2Proof.Machine
end

section
/-! SUPPORT. Events of sources above 31: their pending bits stand in registers that no packet changes. -/

namespace Sys2Proof.Machine

/-! ### Packets leave the pending bits above 31 (R413) -/

/-- The registers that packets and session 0's output queue show: of the pending bits only the first 32. -/
def talkRegs : List Nat := [R.SYS_SVB_STAT, R.TST_CRC, R.TST_STAT, R.EVT_PEND0, R.EVT_CNT, R.EVT_STAT]

section
variable (s : State)

theorem State.syncIrq_changesStat : s.changesOnly s.syncIrq busParts talkRegs [] :=
  State.changesOnly_trans (State.setFld_then F.EVT_STAT_NORMAL _ (s.setFld_changesOnly F.EVT_STAT_URGENT _ (.inl (by decide))) (by decide))
    (State.pins_changesOnly _ _ (by simp))

theorem State.syncOut_changesTalk : s.changesOnly s.syncOut busParts talkRegs [] := by
  have hpend : ∀ b, s.changesOnly (s.setPend Ev.sysSvbOut b) busParts talkRegs [] := fun b => s.setReg_changesOnly _ _ (.inl (by decide))
  unfold State.syncOut
  dsimp only
  split
  · exact s.changesOnly_refl _ _ _
  · exact State.changesOnly_trans (State.ite_changesOnly (State.setFld_then _ _ (hpend _) (by decide)) (hpend _))
      (State.syncIrq_changesStat _)

theorem State.corrupt_changesTalk (target : Nat) : s.changesOnly (s.corrupt target).2 busParts talkRegs [] := by
  have ht := s.tst_changesOnly { s.tst with crcLeft := s.tst.crcLeft - 1 } (ps := busParts) (rs := talkRegs) (bs := []) (by simp)
  unfold State.corrupt
  split
  · exact s.changesOnly_refl _ _ _
  · exact State.ite_changesOnly (State.setFld_then _ _ (State.setFld_then _ _ ht (by decide)) (by decide)) ht

theorem State.setSess_changesTalk (sid : Nat) (ss : Session) : s.changesOnly (s.setSess sid ss) busParts talkRegs [] :=
  s.setSess_changesSessions sid ss (by simp) (by decide)

theorem State.sendPkt_changesTalk (sid dst : Nat) (b : OutBody) (lane : Option LaneTag := none) :
    s.changesOnly (s.sendPkt sid dst b lane) busParts talkRegs [] := by
  by_cases h0 : sid = 0
  · subst h0
    rw [State.sendPkt_spi]
    exact State.changesOnly_trans (State.changesOnly_trans (s.corrupt_changesTalk 0) (State.setSess_changesTalk _ _ _))
      (State.syncOut_changesTalk _)
  · rw [State.sendPkt_udp s h0]
    exact State.changesOnly_trans (s.corrupt_changesTalk 0) (State.outs_changesOnly _ _ (by simp))

theorem State.eventTo_changesTalk (src time : Nat) (detail : List Byte) (sid : Nat) :
    s.changesOnly (s.eventTo src time detail sid) busParts talkRegs [] := by
  have hsend : ∀ ss dst b, s.changesOnly ((s.setSess sid ss).sendPkt sid dst b) busParts talkRegs [] := fun ss dst b =>
    State.changesOnly_trans (s.setSess_changesTalk sid ss) (State.sendPkt_changesTalk _ _ _ _)
  unfold State.eventTo
  exact State.ite_changesOnly (s.changesOnly_refl _ _ _) (State.ite_changesOnly (hsend _ _ _)
    (State.ite_changesOnly (hsend _ _ _) (s.setSess_changesTalk _ _)))
end

/-! ### The pending bit of an event (R413) -/

/-- The register that holds a pending bit. -/
def pendReg (i : Nat) : Nat := R.EVT_PEND0 + 4 * (i / 32)

/-- A pending bit stands in the register of its 32 sources. -/
theorem State.bit_pend_pendReg (s : State) {i : Nat} (h : i < 96) : bit s.pend i = (s.reg (pendReg i)).toNat.testBit (i % 32) := by
  have e : s.pend = 2 ^ 32 * (2 ^ 32 * (s.reg R.EVT_PEND2).toNat + (s.reg R.EVT_PEND1).toNat) + (s.reg R.EVT_PEND0).toNat := by
    unfold State.pend
    ring
  obtain ⟨k, hk⟩ : ∃ k, i / 32 = k := ⟨_, rfl⟩
  rw [bit, e, Nat.testBit_two_pow_mul_add _ (s.reg R.EVT_PEND0).isLt, Nat.testBit_two_pow_mul_add _ (s.reg R.EVT_PEND1).isLt, pendReg, hk]
  obtain rfl | rfl | rfl : k = 0 ∨ k = 1 ∨ k = 2 := by omega
  · rw [if_pos (by omega), show i % 32 = i by omega]
    rfl
  · rw [if_neg (by omega), if_pos (by omega), show i % 32 = i - 32 by omega]
    rfl
  · rw [if_neg (by omega), if_neg (by omega), show i % 32 = i - 32 - 32 by omega]
    rfl

theorem State.bit_pend_setPend_self (s : State) {i : Nat} (h : i < 96) (b : Bool) : bit (s.setPend i b).pend i = b := by
  have hreg : (s.setPend i b).reg (pendReg i) = BitVec.ofNat 32 (withBit (s.reg (pendReg i)).toNat (i % 32) b) :=
    State.reg_setReg_same _ _ _
  rw [State.bit_pend_pendReg _ h, hreg, BitVec.toNat_ofNat, Nat.testBit_mod_two_pow, decide_eq_true (Nat.mod_lt i (by decide)),
    Bool.true_and, testBit_withBit_same]

/-- A pending bit above 31 is none of those that packets change. -/
theorem pendReg_notMem_talkRegs {i : Nat} (hlow : 32 ≤ i) (h : i < 96) : pendReg i ∉ talkRegs := by
  obtain ⟨k, hk⟩ : ∃ k, i / 32 = k := ⟨_, rfl⟩
  rw [pendReg, hk]
  obtain rfl | rfl : k = 1 ∨ k = 2 := by omega
  · decide
  · decide

/-- An event of a source above 31 leaves its pending bit set. -/
theorem State.raiseAt_pend_high (s : State) {i : Nat} (hlow : 32 ≤ i) (h : i < 96) (time : Nat) (detail : List Byte) :
    bit (s.raiseAt i time detail).pend i = true := by
  have hframe : (s.setPend i true).changesOnly (s.raiseAt i time detail) busParts talkRegs [] :=
    State.changesOnly_trans
      (State.changesOnly_trans ((s.setPend i true).setFld_changesOnly F.EVT_CNT_RAISED _ (.inl (by decide))) (State.syncIrq_changesStat _))
      (State.foldl_changesOnly _ (fun t sid => t.eventTo_changesTalk i time (detail8 detail) sid) _ _)
  rw [State.bit_pend_pendReg _ h, hframe.2.2 _ (pendReg_notMem_talkRegs hlow h) nofun, ← State.bit_pend_pendReg _ h,
    State.bit_pend_setPend_self _ h]

/-- An event of the hub of a source above 31 leaves its pending bit set. -/
theorem State.raise_pend_high (s : State) {i : Nat} (hlow : 32 ≤ i) (h : i < 96) (hl : Ev.ofLane i = false) (detail : List Byte) :
    bit (s.raise i detail).pend i = true := by
  rw [State.raise, hl, if_neg Bool.false_ne_true]
  exact s.raiseAt_pend_high hlow h _ _

end Sys2Proof.Machine
end

section
/-! SUPPORT. Snapshot assist: the entries of the rovers, what frees them, their replies, and the branch each row takes. -/

namespace Sys2Proof.Machine

/-! ### Entries -/

section
variable (s : State)

theorem State.snp_changesOnly (x : Snp) {ps : List Part} {rs : List Nat} {bs : List Block} (h : Part.snp ∈ ps) :
    s.changesOnly { s with snp := x } ps rs bs :=
  State.changesOnly_part .snp h (fun q hq => by cases q <;> simp_all [Part.same, State.dramByte]) rfl rfl

theorem State.snap_of_snp {s t : State} (h : t.snp = s.snp) (a : Nat) : t.snap a = s.snap a := by rw [State.snap, State.snap, h]

theorem State.snap_setSnap_same (a : Nat) (e : Option SnapEntry) : (s.setSnap a e).snap a = e := Tbl.get_put_same _ _ _ _

@[simp] theorem State.syncSnp_snp : s.syncSnp.snp = s.snp := by
  unfold State.syncSnp
  rw [State.setFld_snp, State.setFld_snp, State.setFld_snp, State.setFld_snp]

@[simp] theorem State.snap_syncSnp (a : Nat) : s.syncSnp.snap a = s.snap a := State.snap_of_snp s.syncSnp_snp a

theorem State.syncSnp_changesOnly : s.changesOnly s.syncSnp [] [R.SNP_STAT] [] := by
  unfold State.syncSnp
  exact State.setFld_then _ _ (State.setFld_then _ _ (State.setFld_then _ _ (s.setFld_changesOnly _ _ (.inl (by decide)))
    (by decide)) (by decide)) (by decide)

/-- SNP_STAT shows whether a solve runs. -/
theorem State.fld_syncSnp_busy : s.syncSnp.fld F.SNP_STAT_BUSY = b2n s.snp.solving.isSome := by
  unfold State.syncSnp
  extract_lets t
  rw [State.fld_setFld_other _ F.SNP_STAT_SLOT F.SNP_STAT_BUSY _ rfl (by decide) (by decide), State.fld_setFld_same _ _ _ (by decide)]
  cases s.snp.solving <;> rfl

/-! ### Entries freed (R159, R164, R167) -/

theorem State.freeSnap_changesOnly (a : Nat) : s.changesOnly (s.freeSnap a) [.snp] [R.SNP_STAT] [] := by
  unfold State.freeSnap
  split
  · exact State.changesOnly_trans (State.snp_changesOnly s _ (by simp))
      (State.changesOnly_mono (State.syncSnp_changesOnly _) (by simp) (by simp) (by simp))
  · exact s.changesOnly_refl _ _ _

/-- The engine without the rover's entry, whose SNAP_ID it keeps; a solve of it is abandoned. -/
def Snp.freeing (x : Snp) (a id : Nat) : Snp :=
  { x with entries := Tbl.put none x.entries a none, freed := Tbl.put none x.freed a (some id),
           solving := if x.solving.map (·.1) = some a then none else x.solving }

theorem State.freeSnap_of_none {a : Nat} (h : s.snap a = none) : s.freeSnap a = s := by
  unfold State.freeSnap
  rw [h]

theorem State.freeSnap_snp {a : Nat} {e : SnapEntry} (h : s.snap a = some e) : (s.freeSnap a).snp = s.snp.freeing a e.id := by
  unfold State.freeSnap
  rw [h]
  exact State.syncSnp_snp _

/-- The rover has no entry any more, and the others keep theirs. -/
theorem State.snap_freeSnap (a b : Nat) : (s.freeSnap a).snap b = if a = b then none else s.snap b := by
  cases h : s.snap a with
  | none =>
    rw [s.freeSnap_of_none h]
    split
    · next hab => rw [← hab, h]
    · rfl
  | some e =>
    have hentries : (s.freeSnap a).snap b = Tbl.get none (Tbl.put none s.snp.entries a none) b := by
      rw [State.snap, s.freeSnap_snp h, Snp.freeing]
    rw [hentries]
    split
    · next hab => rw [← hab, Tbl.get_put_same]
    · next hab => exact Tbl.get_put_other _ _ s.snp.entries _ _ _ hab

theorem State.freeSnap_replies (a : Nat) : (s.freeSnap a).snp.replies = s.snp.replies := by
  cases h : s.snap a with
  | none => rw [s.freeSnap_of_none h]
  | some e => rw [s.freeSnap_snp h, Snp.freeing]

/-- One entry abandoned. -/
def State.abandonSnap (a : Nat) : State := (s.freeSnap a).satInc F.SNP_DROP_ABANDONED

theorem State.foldl_abandonSnap (l : List (Nat × Option SnapEntry)) :
    (∀ b, (l.foldl (fun t p => t.abandonSnap p.1) s).snap b = if b ∈ l.map (·.1) then none else s.snap b) ∧
      (l.foldl (fun t p => t.abandonSnap p.1) s).snp.replies = s.snp.replies := by
  induction l generalizing s with
  | nil => exact ⟨fun _ => rfl, rfl⟩
  | cons p l ih =>
    obtain ⟨hsnap, hreplies⟩ := ih (s.abandonSnap p.1)
    have hone : ∀ b, (s.abandonSnap p.1).snap b = if p.1 = b then none else s.snap b := s.snap_freeSnap p.1
    refine ⟨fun b => ?_, hreplies.trans (s.freeSnap_replies p.1)⟩
    rw [List.foldl_cons, hsnap b, hone b]
    grind

/-- Every entry is freed, without a reply, and of the registers only the queue's state and the count of drops change. -/
theorem State.abandonSnaps_shows : (∀ a, s.abandonSnaps.snap a = none) ∧ s.abandonSnaps.snp.replies = s.snp.replies ∧
    s.changesOnly s.abandonSnaps [.snp] [R.SNP_STAT, R.SNP_DROP] [] := by
  obtain ⟨hsnap, hreplies⟩ := s.foldl_abandonSnap s.snp.entries
  refine ⟨fun a => ?_, hreplies, State.foldl_changesOnly _ (fun t p => ?_) _ _⟩
  · refine (hsnap a).trans ?_
    split
    · rfl
    · next h => exact Tbl.get_absent _ _ _ fun p hp hpa => h (List.mem_map.mpr ⟨p, hp, hpa⟩)
  · exact State.setFld_then _ _ (State.changesOnly_mono (t.freeSnap_changesOnly p.1) (by simp) (by simp) (by simp)) (by decide)

/-! ### Final replies (R164) -/

theorem State.snap_snapReply (a id result : Nat) (data : List Byte) (b : Nat) : (s.snapReply a id result data).snap b = s.snap b := rfl

/-- One final reply more is counted. -/
def State.countReply (result : Nat) : State := s.satInc (if result = snSOLVED then F.SNP_CNT_SOLVED else F.SNP_CNT_FAILED)

theorem State.fld_countReply (result : Nat) :
    (s.countReply result).fld F.SNP_CNT_SOLVED
        = min (s.fld F.SNP_CNT_SOLVED + if result = snSOLVED then 1 else 0) (2 ^ F.SNP_CNT_SOLVED.width - 1) ∧
      (s.countReply result).fld F.SNP_CNT_FAILED
        = min (s.fld F.SNP_CNT_FAILED + if result = snSOLVED then 0 else 1) (2 ^ F.SNP_CNT_FAILED.width - 1) := by
  have hkept : ∀ f : Fld, min (s.fld f + 0) (2 ^ f.width - 1) = s.fld f := fun f =>
    Nat.min_eq_left (Nat.le_sub_one_of_lt (s.fld_lt f))
  unfold State.countReply
  by_cases h : result = snSOLVED
  · rw [if_pos h, if_pos h, if_pos h, hkept]
    exact ⟨s.fld_satInc_same F.SNP_CNT_SOLVED (by decide),
      s.fld_setFld_other F.SNP_CNT_SOLVED F.SNP_CNT_FAILED _ rfl (by decide) (by decide)⟩
  · rw [if_neg h, if_neg h, if_neg h, hkept]
    exact ⟨s.fld_setFld_other F.SNP_CNT_FAILED F.SNP_CNT_SOLVED _ rfl (by decide) (by decide),
      s.fld_satInc_same F.SNP_CNT_FAILED (by decide)⟩

/-- From `s` to `t` a final reply is sent, counted and told (R164). -/
structure State.repliesFinally (s t : State) (a id result : Nat) (data : List Byte) : Prop where
  replies : t.snp.replies = s.snp.replies ++ [(a, le 1 id ++ le 1 result ++ data)]
  told : bit t.pend Ev.snpDone = true
  solved : t.fld F.SNP_CNT_SOLVED = min (s.fld F.SNP_CNT_SOLVED + if result = snSOLVED then 1 else 0) (2 ^ F.SNP_CNT_SOLVED.width - 1)
  failed : t.fld F.SNP_CNT_FAILED = min (s.fld F.SNP_CNT_FAILED + if result = snSOLVED then 0 else 1) (2 ^ F.SNP_CNT_FAILED.width - 1)

/-- A final reply changes of the engine its replies. -/
theorem State.snapDone_snp (a id result nseed : Nat) (data : List Byte) :
    (s.snapDone a id result nseed data).snp = (s.snapReply a id result data).snp :=
  (State.raise_hub_changesOnly _ _ _ (by decide) rfl).2.1 .snp (by decide)

theorem State.snapDone_repliesFinally (a id result nseed : Nat) (data : List Byte) :
    s.repliesFinally (s.snapDone a id result nseed data) a id result data := by
  obtain ⟨hsolved, hfailed⟩ := (s.snapReply a id result data).fld_countReply result
  obtain ⟨detail, hdone⟩ : ∃ detail, s.snapDone a id result nseed data
      = ((s.snapReply a id result data).countReply result).raise Ev.snpDone detail := ⟨_, rfl⟩
  have hframe := ((s.snapReply a id result data).countReply result).raise_hub_changesOnly Ev.snpDone detail (by decide) rfl
  refine ⟨congrArg Snp.replies (s.snapDone_snp a id result nseed data), ?_, ?_, ?_⟩
  · rw [hdone]
    exact State.raise_pend_high _ (by decide) (by decide) rfl _
  · rw [hdone]
    exact (State.fld_of_changesOnly hframe _ (by decide)).trans hsolved
  · rw [hdone]
    exact (State.fld_of_changesOnly hframe _ (by decide)).trans hfailed

/-- From `s` to `t` the rover's entry has its final reply and is freed, and no solve of it goes on. -/
structure State.endsSnap (s t : State) (a id result : Nat) (data : List Byte) : Prop extends s.repliesFinally t a id result data where
  snap : t.snap a = none
  freed : Tbl.get none t.snp.freed a = some id
  idle : s.snp.solving.map (·.1) = some a → t.snp.solving = none

/-- The time from an entry's completion to its reply is shown (R163). -/
def State.showSnapTime (e : SnapEntry) : State :=
  let ms := min 65535 ((s.el - e.readyAt) / oneMs)
  (s.setFld F.SNP_TIME_LAST_MS ms).setFld F.SNP_TIME_MAX_MS (max ms (s.fld F.SNP_TIME_MAX_MS))

theorem State.showSnapTime_changesOnly (e : SnapEntry) : s.changesOnly (s.showSnapTime e) [] [R.SNP_TIME] [] :=
  State.setFld_then _ _ (s.setFld_changesOnly _ _ (.inl (by decide))) (by decide)

theorem State.snapEnd_endsSnap {a : Nat} {e : SnapEntry} (h : s.snap a = some e) (result nseed : Nat) (data : List Byte) :
    s.endsSnap (s.snapEnd a e result nseed data) a e.id result data := by
  obtain ⟨u, hu, hframe⟩ : ∃ u, s.snapEnd a e result nseed data = (u.snapDone a e.id result nseed data).freeSnap a ∧
      s.changesOnly u [] [R.SNP_TIME] [] :=
    ⟨if e.ready.isSome then s.showSnapTime e else s, rfl, State.ite_changesOnly (s.showSnapTime_changesOnly e) (s.changesOnly_refl _ _ _)⟩
  have hsnp : u.snp = s.snp := hframe.2.1 .snp (by simp)
  have hdone : (u.snapDone a e.id result nseed data).snp = (s.snapReply a e.id result data).snp := by
    rw [State.snapDone_snp, State.snapReply, State.snapReply, hsnp]
  have hheld : (u.snapDone a e.id result nseed data).snap a = some e := (State.snap_of_snp hdone a).trans h
  have hend := State.freeSnap_snp _ hheld
  have hkept := (u.snapDone a e.id result nseed data).freeSnap_changesOnly a
  obtain ⟨-, htold, hsolved, hfailed⟩ := u.snapDone_repliesFinally a e.id result nseed data
  rw [hu]
  refine ⟨⟨?_, ?_, ?_, ?_⟩, ?_, ?_, ?_⟩
  · rw [State.freeSnap_replies, hdone]
    rfl
  · rw [State.bit_pend_pendReg _ (by decide), hkept.2.2 _ (by decide) nofun, ← State.bit_pend_pendReg _ (by decide), htold]
  · rw [State.fld_of_changesOnly hkept _ (by decide), hsolved, State.fld_of_changesOnly hframe _ (by decide)]
  · rw [State.fld_of_changesOnly hkept _ (by decide), hfailed, State.fld_of_changesOnly hframe _ (by decide)]
  · rw [State.snap_freeSnap, if_pos rfl]
  · rw [hend, Snp.freeing, Tbl.get_put_same]
  · intro hsolving
    rw [hend, hdone]
    exact if_pos hsolving

end

/-! ### Chunks (R157, R158) -/

section
variable (s : State)

/-- An entry with one chunk more, that came at a superframe and an elapsed time. -/
def SnapEntry.holding (e : SnapEntry) (idx : Nat) (data : List Byte) (sf el : Nat) : SnapEntry :=
  { e with len := if idx + 1 == e.count then e.len else some data.length, chunks := e.chunks.insert idx data, lastSf := sf, lastAt := el,
           missed := false }

/-- The rover's entry holds a chunk, without being complete. -/
def State.holdChunk (a : Nat) (e : SnapEntry) (idx : Nat) (data : List Byte) : State :=
  (s.setSnap a (some (e.holding idx data s.sf s.el))).syncSnp

theorem State.snap_holdChunk (a : Nat) (e : SnapEntry) (idx : Nat) (data : List Byte) :
    (s.holdChunk a e idx data).snap a = some (e.holding idx data s.sf s.el) := by
  rw [State.holdChunk, State.snap_syncSnp, State.snap_setSnap_same]

theorem State.holdChunk_replies (a : Nat) (e : SnapEntry) (idx : Nat) (data : List Byte) :
    (s.holdChunk a e idx data).snp.replies = s.snp.replies := by
  rw [State.holdChunk, State.syncSnp_snp]
  rfl

theorem State.holdChunk_rad (a : Nat) (e : SnapEntry) (idx : Nat) (data : List Byte) : (s.holdChunk a e idx data).rad = s.rad :=
  ((s.setSnap a (some (e.holding idx data s.sf s.el))).syncSnp_changesOnly.2.1 .rad (by simp) :)

/-- An entry that still lacks a chunk only holds the new one. -/
theorem State.snapStore_of_incomplete (a : Nat) {e : SnapEntry} {idx : Nat} {data : List Byte}
    (h : (e.chunks.insert idx data).length ≠ e.count) : s.snapStore a e idx data = s.holdChunk a e idx data :=
  if_neg fun hc => h hc.1

/-- The bytes are a chunk that is not the last, as R157 has it. -/
structure InnerChunk (p : List Byte) : Prop where
  length : p.length = 8 + rdN p 6 2
  inner : rdN p 2 2 + 1 < rdN p 4 2
  lenOk : chunkLenOk (rdN p 6 2) = true

/-- Such a chunk passes the tests of R158 that need no entry. -/
theorem InnerChunk.fits {p : List Byte} (h : InnerChunk p) :
    ¬(p.length ≠ 8 + rdN p 6 2 ∨ rdN p 4 2 ≤ rdN p 2 2 ∨ rdN p 2 2 + 1 < rdN p 4 2 ∧ chunkLenOk (rdN p 6 2) = false) := by
  obtain ⟨hlength, hinner, hlen⟩ := h
  rw [hlen]
  rintro (hne | hle | ⟨-, hfalse⟩)
  · exact hne hlength
  · omega
  · cases hfalse

theorem State.chunk_of_bad (a : Nat) {p : List Byte} (h : p.length ≠ 8 + rdN p 6 2 ∨ rdN p 4 2 ≤ rdN p 2 2) :
    s.chunk a p = s.satInc F.SNP_DROP_CHUNK_BAD :=
  if_pos (h.imp_right .inl)

theorem State.chunk_of_new {a : Nat} {p : List Byte} (hp : InnerChunk p) (hnone : s.snap a = none)
    (hfreed : Tbl.get none s.snp.freed a ≠ some (rdN p 0 1)) (hen : s.flag F.SNP_CTL_EN = true) (hroom : s.snp.entries.length < 32) :
    s.chunk a p = s.holdChunk a { id := rdN p 0 1, count := rdN p 4 2, lastSf := s.sf, lastAt := s.el } (rdN p 2 2) (p.drop 8) := by
  have hopen : s.snapOpen a (rdN p 0 1) (rdN p 4 2) (rdN p 2 2) (p.drop 8)
      = s.snapStore a { id := rdN p 0 1, count := rdN p 4 2, lastSf := s.sf, lastAt := s.el } (rdN p 2 2) (p.drop 8) := by
    unfold State.snapOpen
    rw [hnone, Option.isSome_none, if_neg Bool.false_ne_true]
    exact if_neg (Nat.not_le.mpr hroom)
  rw [← State.snapStore_of_incomplete s a, ← hopen]
  · unfold State.chunk
    dsimp only
    rw [if_neg hp.fits, hnone]
    dsimp only
    rw [if_neg hfreed, hen, Bool.not_true, if_neg Bool.false_ne_true]
  · have hinner := hp.inner
    exact fun hone : 1 = rdN p 4 2 => by omega

theorem State.chunk_of_held {a : Nat} {p : List Byte} {e : SnapEntry} (hp : InnerChunk p) (he : s.snap a = some e)
    (hid : e.id = rdN p 0 1) (hcount : e.count = rdN p 4 2) (hlenfit : e.len.all (fun l => l == rdN p 6 2) = true)
    (hlack : (e.chunks.insert (rdN p 2 2) (p.drop 8)).length ≠ e.count) : s.chunk a p = s.holdChunk a e (rdN p 2 2) (p.drop 8) := by
  rw [← s.snapStore_of_incomplete a hlack]
  unfold State.chunk
  dsimp only
  rw [if_neg hp.fits, he]
  dsimp only
  rw [if_pos hid, if_pos]
  rw [decide_eq_true hcount, Bool.true_and, Bool.or_eq_true]
  right
  cases hl : e.len with
  | none => rfl
  | some l => rwa [hl] at hlenfit

end

/-! ### Received frames (R263, R281) -/

/-- A port takes the frames that arrive: it and the radio are enabled, it is awake, and the hub is ready. -/
structure State.hears (s : State) (n : Nat) : Prop where
  port : s.flag (F.RAD_P_CFG_EN n) = true
  radio : s.flag F.RAD_CTL_EN = true
  awake : s.flag (F.RAD_P_STAT_SLEEP n) = false
  ready : s.pwr.hubReady = true

/-- A frame of the site whose tag passes is counted and taken. -/
theorem State.rxCheck_of_frame {s : State} {n : Nat} {p : List Byte} {f : RxFrame} (h : s.hears n) (hf : s.rxFrame p = some f)
    (htag : f.tagOk = true) : s.rxCheck n p = (s.satInc (F.RAD_P_CNT1_RX_OK n), some f) := by
  obtain ⟨hport, hradio, hawake, hready⟩ := h
  unfold State.rxCheck
  rw [hport, hradio, hawake, hready, if_neg (by decide), hf]
  exact if_pos htag

/-- A frame of rover `a` counted at a port, and the rover's wish for a bulk-up run served. -/
def State.bulkHeard (s : State) (n a : Nat) : State :=
  let t := s.satInc (F.RAD_P_CNT1_RX_OK n)
  t.setBound a { t.bound a with bulkWant := false }

theorem State.bound_satInc (s : State) (f : Fld) (a : Nat) : (s.satInc f).bound a = s.bound a := by
  rw [State.bound, State.bound, State.satInc_rad]

/-- A BULK_UP frame of a bound rover that carries a chunk. -/
structure RxFrame.carries (f : RxFrame) (s : State) (d : List Byte) : Prop where
  tag : f.tagOk = true
  type : f.ftype = ftBULK_UP
  bound : (s.bound f.slot).bound = true
  kind : rdN f.body 0 1 = 1
  chunk : d = f.body.drop 2

theorem execBulkUpReceive_of_chunk {s : State} {k : Fin 4} {p d : List Byte} {f : RxFrame} (h : s.hears k.val)
    (hf : s.rxFrame p = some f) (hd : f.carries s d) :
    exec (.bulkUpReceive k p) s = .next ((s.bulkHeard k.val f.slot).chunk f.slot d) := by
  obtain ⟨htag, htype, hbound, hkind, rfl⟩ := hd
  show execBulkUpReceive k p s = _
  unfold execBulkUpReceive
  rw [State.rxCheck_of_frame h hf htag]
  exact congrArg _ (if_pos ⟨htype, by rw [State.bound_satInc, hbound], hkind⟩)

section
variable (s : State) (n a : Nat)

theorem State.bulkHeard_snp : (s.bulkHeard n a).snp = s.snp := by rw [State.bulkHeard, State.setBound_snp, State.satInc_snp]

theorem State.bound_bulkHeard : ((s.bulkHeard n a).bound a).bulkWant = false := by rw [State.bulkHeard, State.bound_setBound_same]

/-- No field below the radio's registers changes. -/
theorem State.fld_bulkHeard {f : Fld} (h : f.addr < 0x300000) : (s.bulkHeard n a).fld f = s.fld f := by
  have haddr : (F.RAD_P_CNT1_RX_OK n).addr = 0x30004c + 32 * n := rfl
  rw [State.bulkHeard, State.fld_of_regs (State.setBound_regs _ _ _), State.satInc, State.fld_setFld_otherReg _ _ _ _ (by omega)]

end

/-! ### Waits and solves (R160 to R162) -/

section
variable {s : State}

theorem execSnapshotMissing_of_gap {k : Fin 128} {e : SnapEntry} (he : s.snap k.val = some e) (hready : e.ready = none)
    (hmissed : e.missed = false) (hgap : e.lastSf + orOne (s.fld F.SNP_CTL_GAP) ≤ s.sf) :
    exec (.snapshotMissing k) s = .next ((s.setSnap k.val (some { e with missed := true })).snapReply k.val e.id snMISSING
      (le 2 e.count ++ bitmap e.count e.missing)) := by
  show execSnapshotMissing k s = _
  unfold execSnapshotMissing
  dsimp only
  rw [he]
  exact congrArg _ (if_pos (by rw [hready, hmissed, decide_eq_true hgap]; rfl))

theorem execSnapshotAsmTimeout_of_passed {k : Fin 128} {e : SnapEntry} (he : s.snap k.val = some e) (hready : e.ready = none)
    (hpassed : s.passed e.lastAt (orOne (s.fld F.SNP_CTL_ASM_TO) * oneSec) = true) :
    exec (.snapshotAsmTimeout k) s = .next (s.snapEnd k.val e snINCOMPLETE 0 (le 2 (e.missing.headD 0))) := by
  show execSnapshotAsmTimeout k s = _
  unfold execSnapshotAsmTimeout
  dsimp only
  rw [he]
  exact congrArg _ (if_pos (by rw [hready, hpassed]; rfl))

/-- The solve of the one complete entry starts, or ends at once without a base. -/
theorem execSnapshotSolveStart_of_granted {k : Nat} {e : SnapEntry} (hidle : s.snp.solving = none)
    (hpower : s.fld (F.ARB_PWR_REQ_GRANT 2) ≠ 0) (htoken : s.fld F.ARB_DRAM_OWNER = 1) (hen : s.flag F.SNP_CTL_EN = true)
    (hready : s.snapReady = [k]) (he : s.snap k = some e) :
    exec .snapshotSolveStart s = .next (if s.fld F.TIM_STAT_STATE = 0 ∨ s.snapBase < 5 then s.snapEnd k e snNO_BASE 0 (zeros 2)
      else ({ s with snp := { s.snp with solving := some (k, s.el) } } : State).syncSnp) := by
  show execSnapshotSolveStart s = _
  unfold execSnapshotSolveStart
  extract_lets order first
  have hfirst : first = some k := by
    dsimp only [first]
    rw [hready]
    rfl
  rw [hidle, beq_false_of_ne hpower, htoken, hen, if_neg (by decide), hfirst]
  dsimp only
  rw [he]

/-- The reply to a snapshot by how its solve ends: result, seeds and following data (Table 6-2). -/
def State.solveReply (s : State) (p : List Byte) : Nat × Nat × List Byte :=
  match s.snapSolve p with
  | .tooFew n => (snTOO_FEW, 0, le 1 (min 255 n) ++ zeros 1)
  | .noConverge rms => (snNO_CONVERGE, 0, le 1 rms ++ zeros 1)
  | .solved x => (snSOLVED, min 32 s.snapSats.length, s.solvedData p x)

theorem execSnapshotSolveDone_of_granted {k n : Nat} {e : SnapEntry} (hsolving : s.snp.solving = some (k, n)) (he : s.snap k = some e)
    (hgrant : s.granted 2 = true) :
    exec .snapshotSolveDone s
      = .next (s.snapEnd k e (s.solveReply e.stream).1 (s.solveReply e.stream).2.1 (s.solveReply e.stream).2.2) := by
  show execSnapshotSolveDone s = _
  unfold execSnapshotSolveDone State.solveReply
  rw [hsolving]
  dsimp only
  rw [he]
  dsimp only
  rw [hgrant, Bool.not_true, if_neg Bool.false_ne_true]
  cases s.snapSolve e.stream <;> rfl

/-- Without a clock or without a solve nothing ends. -/
theorem execSnapshotSolveDone_of_still (h : s.granted 2 = false ∨ s.snp.solving = none) : exec .snapshotSolveDone s = .next s := by
  show execSnapshotSolveDone s = _
  unfold execSnapshotSolveDone
  rcases h with h | h
  · rw [h, Bool.not_false]
    cases s.snp.solving with
    | none => rfl
    | some x =>
      dsimp only
      cases s.snap x.1 <;> rfl
  · rw [h]

theorem execSnapshotSolveTimeout_of_passed {k n : Nat} {e : SnapEntry} (hsolving : s.snp.solving = some (k, n)) (he : s.snap k = some e)
    (hpassed : s.passed n (max 100 (s.fld F.SNP_LIM_SOLVE_MAX) * oneMs) = true) :
    exec .snapshotSolveTimeout s = .next (s.snapEnd k e snTIMEOUT 0 (zeros 2)) := by
  show execSnapshotSolveTimeout s = _
  unfold execSnapshotSolveTimeout
  rw [hsolving]
  dsimp only
  rw [he]
  exact congrArg _ (if_pos hpassed)

end

end Sys2Proof.Machine
end

section
/-! PROOF. Snapshot chunks, MISSING replies, timeouts, solves, flush and disable. -/

namespace Sys2Proof.Machine

/-- Settles O18: a chunk by what the rover's entry holds, a final reply by what `State.snapEnd` leaves, the rest by the entries freed. -/
theorem snapshotsComplete : Obligations.SnapshotsComplete := by
  refine ⟨?opened, ?held, ?bad, ?missing, ?asmTimeout, ?solveStart, ?noBase, ?solveDone, ?still, ?timeout, ?flush, ?disable⟩
  case opened =>
    intro s k p f d hport hradio hawake hserves hf htag htype hbound hkind hd hlength hinner hlen hen hnone hfreed hroom
    have hen' : (s.bulkHeard k.val f.slot).flag F.SNP_CTL_EN = true := by
      rw [State.flag, State.fld_bulkHeard _ _ _ (by decide)]
      exact hen
    rw [← s.bulkHeard_snp k.val f.slot] at hfreed hroom
    rw [← State.snap_of_snp (s.bulkHeard_snp k.val f.slot)] at hnone
    have hchunk := (s.bulkHeard k.val f.slot).chunk_of_new ⟨hlength, hinner, hlen⟩ hnone hfreed hen' hroom
    refine ⟨_, (execBulkUpReceive_of_chunk ⟨hport, hradio, hawake, hserves⟩ hf ⟨htag, htype, hbound, hkind, hd⟩).trans
      (congrArg _ hchunk), ?_⟩
    dsimp only
    rw [State.snap_holdChunk, State.holdChunk_replies, State.bulkHeard_snp, State.bound, State.holdChunk_rad, ← State.bound]
    exact ⟨rfl, rfl, rfl, s.bound_bulkHeard k.val f.slot⟩
  case held =>
    intro s k p f d e hport hradio hawake hserves hf htag htype hbound hkind hd hlength hinner hlen he hid hcount hfits hlack
    rw [← State.snap_of_snp (s.bulkHeard_snp k.val f.slot)] at he
    have hchunk := (s.bulkHeard k.val f.slot).chunk_of_held ⟨hlength, hinner, hlen⟩ he hid hcount hfits hlack
    refine ⟨_, (execBulkUpReceive_of_chunk ⟨hport, hradio, hawake, hserves⟩ hf ⟨htag, htype, hbound, hkind, hd⟩).trans
      (congrArg _ hchunk), ?_⟩
    dsimp only
    rw [State.snap_holdChunk, State.holdChunk_replies, State.bulkHeard_snp]
    exact ⟨rfl, rfl, rfl⟩
  case bad =>
    intro s k p f d hport hradio hawake hserves hf htag htype hbound hkind hd hbad
    refine ⟨_, (execBulkUpReceive_of_chunk ⟨hport, hradio, hawake, hserves⟩ hf ⟨htag, htype, hbound, hkind, hd⟩).trans
      (congrArg _ (State.chunk_of_bad _ _ hbad)), ?_, by rw [State.satInc_snp, State.bulkHeard_snp]⟩
    rw [State.fld_satInc_same _ _ (by decide), State.fld_bulkHeard _ _ _ (by decide)]
  case missing =>
    intro s k e he hready hmissed hgap
    exact ⟨_, execSnapshotMissing_of_gap he hready hmissed hgap, rfl,
      (State.snap_snapReply _ _ _ _ _ _).trans (s.snap_setSnap_same k.val _)⟩
  case asmTimeout =>
    intro s k e he hready hpassed
    obtain ⟨⟨hreplies, htold, -, hfailed⟩, hsnap, hfreed, -⟩ := s.snapEnd_endsSnap he snINCOMPLETE 0 (le 2 (e.missing.headD 0))
    exact ⟨_, execSnapshotAsmTimeout_of_passed he hready hpassed, hsnap, hreplies, htold, hfreed, hfailed⟩
  case solveStart =>
    intro s k e hidle hpower htoken hen hready he htime hbase
    refine ⟨_, (execSnapshotSolveStart_of_granted hidle hpower htoken hen hready he).trans (congrArg _ (if_neg ?_)), ?_⟩
    · exact fun h => h.elim htime (Nat.not_lt.mpr hbase)
    · dsimp only
      rw [State.syncSnp_snp, State.fld_syncSnp_busy]
      exact ⟨rfl, rfl, rfl, rfl⟩
  case noBase =>
    intro s k e hidle hpower htoken hen hready he hbase
    obtain ⟨⟨hreplies, htold, -, hfailed⟩, hsnap, hfreed, -⟩ := s.snapEnd_endsSnap he snNO_BASE 0 (zeros 2)
    exact ⟨_, (execSnapshotSolveStart_of_granted hidle hpower htoken hen hready he).trans (congrArg _ (if_pos hbase)), hsnap, hreplies,
      htold, hfreed, hfailed⟩
  case solveDone =>
    intro s k n e hsolving he hgrant
    obtain ⟨⟨hreplies, htold, hsolved, hfailed⟩, hsnap, hfreed, hidle⟩ := s.snapEnd_endsSnap he (s.solveReply e.stream).1
      (s.solveReply e.stream).2.1 (s.solveReply e.stream).2.2
    refine ⟨_, execSnapshotSolveDone_of_granted hsolving he hgrant, hsnap, hreplies.trans ?_, htold, hfreed, hidle (by rw [hsolving]; rfl),
      hsolved.trans ?_, hfailed.trans ?_⟩
    all_goals
      unfold State.solveReply
      cases s.snapSolve e.stream <;> rfl
  case still => exact fun s h => ⟨s, execSnapshotSolveDone_of_still h, rfl⟩
  case timeout =>
    intro s k n e hsolving he hpassed
    obtain ⟨⟨hreplies, htold, -, hfailed⟩, hsnap, hfreed, hidle⟩ := s.snapEnd_endsSnap he snTIMEOUT 0 (zeros 2)
    exact ⟨_, execSnapshotSolveTimeout_of_passed hsolving he hpassed, hsnap, hreplies, htold, hfreed, hfailed,
      hidle (by rw [hsolving]; rfl)⟩
  case flush =>
    intro s
    obtain ⟨hnone, hreplies, hframe⟩ := s.abandonSnaps_shows
    exact ⟨_, rfl, fun i _ => hnone i, hreplies, State.fld_of_changesOnly hframe _ (by decide)⟩
  case disable =>
    intro s
    obtain ⟨hnone, hreplies, hframe⟩ := (s.setFld F.SNP_CTL_EN 0).abandonSnaps_shows
    exact ⟨_, rfl, fun i _ => hnone i, hreplies, (State.fld_of_changesOnly hframe _ (by decide)).trans (s.fld_setFld_zero _ (by decide))⟩

end Sys2Proof.Machine
end
section
/-! SUPPORT. The signal box: its rovers in their table, what shows in its registers, and a retry when no rover has stopped at a block. -/

namespace Sys2Proof.Machine

/-! ### Rovers in their table -/

section
variable (s : State) (a b : Nat) (r : SbxRover)

theorem State.sx_setSx : (s.setSx a r).sx b = if a = b then r else s.sx b := by
  rw [State.sx, State.setSx_rovers, State.sx]
  split
  · next hab => rw [hab, Tbl.get_put_same]
  · next hab => exact Tbl.get_put_other _ _ s.sbx.rovers _ _ _ hab

@[simp] theorem State.sx_setSx_same : (s.setSx a r).sx a = r := by rw [State.sx_setSx, if_pos rfl]

theorem State.sx_setSx_other {s : State} {a b : Nat} (h : a ≠ b) (r : SbxRover) : (s.setSx a r).sx b = s.sx b := by
  rw [State.sx_setSx, if_neg h]

@[simp] theorem State.sx_setFld (f : Fld) (v : Nat) : (s.setFld f v).sx a = s.sx a := (rfl)

@[simp] theorem State.sx_satInc (f : Fld) : (s.satInc f).sx a = s.sx a := s.sx_setFld a f _

@[simp] theorem State.sx_hand (b : Nat) (preview : Bool) (cls : Nat) (x : Auth) : (s.hand b preview cls x).sx a = s.sx a := (rfl)

theorem State.sx_of_rovers {s t : State} (h : t.sbx.rovers = s.sbx.rovers) (a : Nat) : t.sx a = s.sx a := by rw [State.sx, State.sx, h]

/-- A rover that the signal box does not know has nothing. -/
theorem State.sx_of_unknown {s : State} {a : Nat} (h : a ∉ s.sbxSlots) : s.sx a = {} :=
  Tbl.get_absent _ _ _ fun p hp hpa => h (List.mem_map.mpr ⟨p, hp, hpa⟩)

theorem State.setSx_changesOnly {ps : List Part} {rs : List Nat} {bs : List Block} (h : Part.sbx ∈ ps) :
    s.changesOnly (s.setSx a r) ps rs bs := s.sbx_changesOnly _ h

/-! ### What shows in the registers -/

@[simp] theorem State.syncSbx_sbx : s.syncSbx.sbx = s.syncZones.sbx := by
  unfold State.syncSbx
  rw [State.setFld_sbx, State.setFld_sbx, State.setFld_sbx, State.setFld_sbx, State.setFld_sbx, State.setFld_sbx]

@[simp] theorem State.sx_syncZones : s.syncZones.sx a = s.sx a := (rfl)

@[simp] theorem State.sx_syncSbx : s.syncSbx.sx a = s.sx a := (State.sx_of_rovers (congrArg Sbx.rovers s.syncSbx_sbx) a).trans (s.sx_syncZones a)

theorem State.syncSbx_changesOnly : s.changesOnly s.syncSbx [.sbx] [R.SBX_STAT] [] := by
  unfold State.syncSbx
  extract_lets t slots t1 t2 t3 t4 t5
  have ht1 : s.changesOnly t1 [.sbx] [R.SBX_STAT] [] := State.setFld_then _ _ (s.sbx_changesOnly _ (by decide)) (by decide)
  have ht3 : s.changesOnly t3 [.sbx] [R.SBX_STAT] [] := State.setFld_then _ _ (State.setFld_then _ _ ht1 (by decide)) (by decide)
  exact State.setFld_then _ _ (State.setFld_then _ _ (State.setFld_then _ _ ht3 (by decide)) (by decide)) (by decide)
end

/-! ### Retries (R185) -/

/-- No rover has stopped at a block. -/
def State.unstopped (s : State) : Prop := ∀ a, (s.sx a).stopAt = none

section
variable {s t : State}

theorem State.unstopped_of_slots (h : (s.sbxSlots.all fun j => (s.sx j).stopAt.isNone) = true) : s.unstopped := by
  intro a
  by_cases ha : a ∈ s.sbxSlots
  · exact Option.isNone_iff_eq_none.mp (List.all_eq_true.mp h a ha)
  · rw [State.sx_of_unknown ha]

theorem State.unstopped.setSx (h : s.unstopped) (a : Nat) {r : SbxRover} (hr : r.stopAt = none) : (s.setSx a r).unstopped := by
  intro b
  rw [State.sx_setSx]
  split
  · exact hr
  · exact h b

theorem State.unstopped.of_rovers (h : s.unstopped) (ht : t.sbx.rovers = s.sbx.rovers) : t.unstopped := fun a => by
  rw [State.sx_of_rovers ht, h a]

/-- Ground that comes free is given to nobody while no rover waits for any. -/
theorem State.unstopped.retry (h : s.unstopped) : s.retry = s.syncSbx := by
  unfold State.retry
  rw [List.foldl_fixed' fun a => by rw [h a]]

theorem State.unstopped.sx_retry (h : s.unstopped) (a : Nat) : s.retry.sx a = s.sx a := by rw [h.retry, State.sx_syncSbx]

theorem State.unstopped.retry_changesOnly (h : s.unstopped) : s.changesOnly s.retry [.sbx] [R.SBX_STAT] [] :=
  h.retry ▸ s.syncSbx_changesOnly
end

/-! ### The record of the signal box beside its rovers -/

/-- What the signal box holds beside its rovers and the entry order of its zones. -/
def Sbx.rest (x : Sbx) : Sbx := { x with rovers := [], zoneIn := [] }

/-- What is read beside the rovers and the entry order is the same where the rest is. -/
theorem Sbx.get_of_rest {α : Type} {x y : Sbx} (h : x.rest = y.rest) (g : Sbx → α) (hg : ∀ x : Sbx, g x.rest = g x) : g x = g y :=
  (hg x).symm.trans ((congrArg g h).trans (hg y))

section
variable (s : State)

@[simp] theorem State.setSx_rest (a : Nat) (r : SbxRover) : (s.setSx a r).sbx.rest = s.sbx.rest := (rfl)
@[simp] theorem State.syncZones_rest : s.syncZones.sbx.rest = s.sbx.rest := (rfl)
@[simp] theorem State.syncSbx_rest : s.syncSbx.sbx.rest = s.sbx.rest := by rw [State.syncSbx_sbx, State.syncZones_rest]
end

end Sys2Proof.Machine
end
section
/-! SUPPORT. The signal box: its events, and the expiries of authorities, RELEASING blocks, AVOID sets, withdrawals and holds. -/

namespace Sys2Proof.Machine

/-! ### Events of the signal box (R27, R413) -/

section
variable {s t : State}

theorem State.bit_pend_of_changesOnly {ps : List Part} {rs : List Nat} (h : s.changesOnly t ps rs []) {i : Nat} (hi : i < 96)
    (hr : pendReg i ∉ rs) : bit t.pend i = bit s.pend i := by
  rw [State.bit_pend_pendReg _ hi, State.bit_pend_pendReg _ hi, h.2.2 _ hr nofun]

/-- An event of the lanes of a source above 31 leaves its pending bit set, where they speak. -/
theorem State.raise_lane_pend_high {i : Nat} (hlow : 32 ≤ i) (hi : i < 96) (hl : Ev.ofLane i = true)
    (hspeak : (s.laneActive && !s.switching) = true) (detail : List Byte) : bit (s.raise i detail).pend i = true := by
  obtain ⟨hactive, hquiet⟩ : s.laneActive = true ∧ s.switching = false := by simpa using hspeak
  unfold State.raise
  rw [hl, if_pos rfl]
  extract_lets tag t
  rw [hquiet, hactive, if_neg Bool.false_ne_true, if_pos rfl]
  exact State.raiseAt_pend_high _ hlow hi _ _

/-- A change that leaves LAN_STAT alone leaves the lanes speaking as they did. -/
theorem State.lanesSpeak_of_changesOnly {ps : List Part} {rs : List Nat} (h : s.changesOnly t ps rs []) (hr : R.LAN_STAT ∉ rs) :
    (t.laneActive && !t.switching) = (s.laneActive && !s.switching) := State.lanesSpeak_congr (h.2.2 _ hr nofun)

theorem State.raise_sbx (s : State) {src : Nat} (h : src < 96) (detail : List Byte) : (s.raise src detail).sbx = s.sbx :=
  (s.raise_changesOnly src detail h).2.1 .sbx (by decide)

theorem State.mapEvent_changesOnly (s : State) (result code id index : Nat) :
    s.changesOnly (s.mapEvent result code id index) (.lan :: busParts) busRegs [] := s.raise_changesOnly _ _ (by decide)

@[simp] theorem State.mapEvent_sbx (s : State) (result code id index : Nat) : (s.mapEvent result code id index).sbx = s.sbx :=
  s.raise_sbx (by decide) _

theorem State.mapEvent_pend (hspeak : (s.laneActive && !s.switching) = true) (result code id index : Nat) :
    bit (s.mapEvent result code id index).pend Ev.sbxMap = true := State.raise_lane_pend_high (by decide) (by decide) rfl hspeak _
end

/-! ### Expiries (R186, R188, R192, R195) -/

section
variable {s : State}

/-- An authority past its EXPIRY is not live. -/
theorem State.laneAuth_of_expired {a e : Nat} {x : Auth} (hauth : (s.sx a).auth = some x) (hexp : x.expiry = some e) (he : e < s.laneNow) :
    s.laneAuth a = none := by
  unfold State.laneAuth State.liveAt
  rw [hauth]
  dsimp only
  rw [hexp]
  exact if_neg (Nat.not_le.mpr he)

theorem execAuthorityExpiry_of_expired {k : Fin 128} {x : Auth} {e : Nat} (hrun : s.lanesRun = true)
    (hauth : (s.sx k.val).auth = some x) (hexp : x.expiry = some e) (he : e < s.laneNow) :
    exec (.authorityExpiry k) s = .next (s.setSx k.val { s.sx k.val with auth := none }).retry := by
  show execAuthorityExpiry k s = _
  unfold execAuthorityExpiry
  dsimp only
  rw [State.onLanes_of_run hrun, hauth, State.laneAuth_of_expired hauth hexp he]
  rfl

/-- The RELEASING entries that still stand are those not past their EXPIRY. -/
theorem State.relLive_eq (s : State) (r : SbxRover) :
    s.relLive r = r.releasing.filter fun x => x.expiry.all fun y => decide (s.laneNow ≤ y) := by
  unfold State.relLive
  refine List.filter_congr fun x _ => ?_
  cases x.expiry <;> rfl

/-- A list from which a test takes one of its members is shorter. -/
theorem length_filter_lt_of_mem {α : Type} {l : List α} {p : α → Bool} {x : α} (hx : x ∈ l) (hp : p x = false) :
    (l.filter p).length < l.length :=
  List.length_filter_lt_length_iff_exists.mpr ⟨x, hx, by rw [hp]; exact Bool.false_ne_true⟩

theorem execReleasingExpiry_of_expired {k : Fin 128} {x : Releasing} {e : Nat} (hrun : s.lanesRun = true)
    (hx : x ∈ (s.sx k.val).releasing) (hexp : x.expiry = some e) (he : e < s.laneNow) :
    exec (.releasingExpiry k) s = .next (s.setSx k.val { s.sx k.val with releasing := s.relLive (s.sx k.val) }).retry := by
  have hless : (s.relLive (s.sx k.val)).length < (s.sx k.val).releasing.length := by
    rw [State.relLive_eq]
    refine length_filter_lt_of_mem hx ?_
    rw [hexp]
    exact decide_eq_false (Nat.not_le.mpr he)
  show execReleasingExpiry k s = _
  unfold execReleasingExpiry
  dsimp only
  rw [State.onLanes_of_run hrun, if_pos hless]

theorem execAvoidExpiry_of_past {k : Fin 128} {v : List Nat × Nat} (hrun : s.lanesRun = true) (hv : v ∈ (s.sx k.val).avoid)
    (hpast : v.2 < s.laneSf) :
    exec (.avoidExpiry k) s
      = .next (s.setSx k.val { s.sx k.val with avoid := (s.sx k.val).avoid.filter fun y => decide (s.laneSf ≤ y.2) }) := by
  show execAvoidExpiry k s = _
  unfold execAvoidExpiry
  dsimp only
  rw [State.onLanes_of_run hrun, if_pos (length_filter_lt_of_mem hv (decide_eq_false (Nat.not_le.mpr hpast)))]

theorem execPreviewExpiry_of_expired {k : Fin 128} {x : Auth} {e : Nat} (hrun : s.lanesRun = true)
    (htent : (s.sx k.val).tent = some x) (hexp : x.expiry = some e) (he : e < s.laneNow) :
    exec (.previewExpiry k) s = .next (s.setSx k.val { s.sx k.val with tent := none }).retry := by
  show execPreviewExpiry k s = _
  unfold execPreviewExpiry
  dsimp only
  rw [State.onLanes_of_run hrun, htent]
  dsimp only
  rw [hexp]
  exact congrArg _ (if_pos he)
end

/-! ### Withdrawals not acknowledged in time (R196) -/

/-- The end of a preview's withdrawals is counted and told, with one of its blocks. -/
def State.tellLapse (s : State) (a : Nat) (w : Withdraw) : State :=
  (s.satInc F.SBX_CNT1_WD_TIMEOUT).raise Ev.sbxWithdraw (le 1 a ++ le 1 w.forSlot ++ le 2 w.prevId ++ le 2 w.block)

/-- Of each preview whose withdrawals have lapsed the first block. -/
def State.lapsed (s : State) (r : SbxRover) : List Withdraw :=
  ((r.withdraws.filter s.wdLapsed).map (·.prevId)).eraseDups.filterMap fun i => (r.withdraws.filter s.wdLapsed).find? fun w => w.prevId == i

section
variable (s : State)

/-- A withdrawal is named for each preview. -/
theorem State.length_lapsed (r : SbxRover) :
    (s.lapsed r).length = ((r.withdraws.filter s.wdLapsed).map (·.prevId)).eraseDups.length := by
  refine List.filterMap_length_eq_length.mpr fun i hi => ?_
  obtain ⟨w, hw, rfl⟩ := List.mem_map.mp (List.mem_eraseDups.mp hi)
  exact List.find?_isSome.mpr ⟨w, hw, beq_self_eq_true _⟩

theorem State.tellLapse_changesOnly (a : Nat) (w : Withdraw) :
    s.changesOnly (s.tellLapse a w) (.lan :: busParts) (R.SBX_CNT1 :: busRegs) [] :=
  State.changesOnly_trans (s.satInc_changesOnly _ (.inl (by decide)))
    (State.changesOnly_mono (State.raise_changesOnly _ _ _ (by decide)) (List.Subset.refl _) (List.subset_cons_self _ _) (List.Subset.refl _))

theorem State.fld_tellLapse (a : Nat) (w : Withdraw) : (s.tellLapse a w).fld F.SBX_CNT1_WD_TIMEOUT
    = min (s.fld F.SBX_CNT1_WD_TIMEOUT + 1) (2 ^ F.SBX_CNT1_WD_TIMEOUT.width - 1) :=
  (State.fld_of_changesOnly (State.raise_changesOnly _ _ _ (by decide)) _ (by decide)).trans (s.fld_satInc_same _ (by decide))

theorem State.tellLapse_pend (hspeak : (s.laneActive && !s.switching) = true) (a : Nat) (w : Withdraw) :
    bit (s.tellLapse a w).pend Ev.sbxWithdraw = true :=
  State.raise_lane_pend_high (by decide) (by decide) rfl
    ((State.lanesSpeak_congr (s.reg_setFld_other _ _ _ (by decide))).trans hspeak) _

theorem State.foldl_tellLapse_changesOnly (a : Nat) (l : List Withdraw) :
    s.changesOnly (l.foldl (fun t w => t.tellLapse a w) s) (.lan :: busParts) (R.SBX_CNT1 :: busRegs) [] :=
  State.foldl_changesOnly _ (fun t w => t.tellLapse_changesOnly a w) l s

/-- Each preview ended counts once. -/
theorem State.fld_foldl_tellLapse (a : Nat) (l : List Withdraw) : (l.foldl (fun t w => t.tellLapse a w) s).fld F.SBX_CNT1_WD_TIMEOUT
    = min (s.fld F.SBX_CNT1_WD_TIMEOUT + l.length) (2 ^ F.SBX_CNT1_WD_TIMEOUT.width - 1) := by
  induction l generalizing s with
  | nil => exact (Nat.min_eq_left (Nat.le_sub_one_of_lt (s.fld_lt _))).symm
  | cons w l ih =>
    rw [List.foldl_cons, ih, State.fld_tellLapse, List.length_cons]
    omega

/-- The event of the last preview ended leaves its pending bit set. -/
theorem State.foldl_tellLapse_pend (hspeak : (s.laneActive && !s.switching) = true) (a : Nat) {l : List Withdraw} (hl : l ≠ []) :
    bit (l.foldl (fun t w => t.tellLapse a w) s).pend Ev.sbxWithdraw = true := by
  obtain ⟨l, w, rfl⟩ := (List.eq_nil_or_concat' l).resolve_left hl
  rw [List.foldl_append, List.foldl_cons, List.foldl_nil]
  exact State.tellLapse_pend _ ((State.lanesSpeak_of_changesOnly (s.foldl_tellLapse_changesOnly a l) (by decide)).trans hspeak) a w

variable {s}

theorem State.wdLapsed_of_past {w : Withdraw} {f : Nat} (hsf : w.sf = some f) (hpast : f + 3 ≤ s.laneSf) : s.wdLapsed w = true := by
  unfold State.wdLapsed
  rw [hsf]
  exact decide_eq_true hpast

theorem execWithdrawTimeout_of_lapsed {k : Fin 128} {w : Withdraw} (hrun : s.lanesRun = true) (hw : w ∈ (s.sx k.val).withdraws)
    (hlapsed : s.wdLapsed w = true) :
    exec (.withdrawTimeout k) s = .next ((s.lapsed (s.sx k.val)).foldl (fun t w => t.tellLapse k.val w)
      (s.setSx k.val { s.sx k.val with withdraws := (s.sx k.val).withdraws.filter fun x => !s.wdLapsed x })).retry := by
  have hsome : ((s.sx k.val).withdraws.filter s.wdLapsed).isEmpty = false :=
    List.isEmpty_eq_false_iff_exists_mem.mpr ⟨w, List.mem_filter.mpr ⟨hw, hlapsed⟩⟩
  show execWithdrawTimeout k s = _
  unfold execWithdrawTimeout
  dsimp only
  rw [State.onLanes_of_run hrun, hsome, if_neg Bool.false_ne_true]
  rfl
end

end Sys2Proof.Machine
end
section
/-! SUPPORT. The interlocking keeps what the signal box holds beside its rovers; what a curtailed and a withdrawn rover has left. -/

namespace Sys2Proof.Machine

/-! ### What the interlocking keeps (R183 to R197) -/

section
variable (s : State)

theorem State.foldl_rest {α : Type} (f : State → α → State) (h : ∀ (t : State) a, (f t a).sbx.rest = t.sbx.rest) (l : List α) :
    (l.foldl f s).sbx.rest = s.sbx.rest := by
  induction l generalizing s with
  | nil => rfl
  | cons a l ih => exact (ih _).trans (h s a)

theorem State.raise_rest {src : Nat} (h : src < 96) (detail : List Byte) : (s.raise src detail).sbx.rest = s.sbx.rest := by
  rw [s.raise_sbx h]

@[simp] theorem State.hand_rest (a : Nat) (preview : Bool) (cls : Nat) (x : Auth) : (s.hand a preview cls x).sbx.rest = s.sbx.rest := (rfl)

@[simp] theorem State.endWait_rest (a : Nat) : (s.endWait a).sbx.rest = s.sbx.rest := (rfl)

@[simp] theorem State.issueAuth_rest (a : Nat) (blocks : List Nat) (endOfs : Nat) (cutBack revoked last : Bool) :
    (s.issueAuth a blocks endOfs cutBack revoked last).sbx.rest = s.sbx.rest := by
  unfold State.issueAuth
  rw [State.hand_rest, State.satInc_sbx, State.setSx_rest]

@[simp] theorem State.issuePreview_rest (a : Nat) (blocks : List Nat) (endOfs : Nat) (withdraws : Bool) :
    (s.issuePreview a blocks endOfs withdraws).sbx.rest = s.sbx.rest := by
  unfold State.issuePreview
  rw [State.hand_rest, State.setSx_rest]

@[simp] theorem State.toReleasing_rest (a : Nat) (x : Auth) (blocks : List Nat) : (s.toReleasing a x blocks).sbx.rest = s.sbx.rest := (rfl)

@[simp] theorem State.withdraw_rest (h : Nat) (blocks : List Nat) (a : Nat) : (s.withdraw h blocks a).sbx.rest = s.sbx.rest := by
  unfold State.withdraw
  dsimp only
  split
  · split
    · rfl
    · rw [State.satInc_sbx, State.issuePreview_rest, State.setSx_rest]
  · rfl

@[simp] theorem State.withdrawAll_rest (h : Nat) : (s.withdrawAll h).sbx.rest = s.sbx.rest := by
  unfold State.withdrawAll
  split
  · exact s.withdraw_rest _ _ _
  · rfl

@[simp] theorem State.takeOwn_rest (a : Nat) (blocks : List Nat) : (s.takeOwn a blocks).sbx.rest = s.sbx.rest := by
  unfold State.takeOwn
  dsimp only
  split
  · split
    · rfl
    · split
      · rfl
      · rw [State.issuePreview_rest, State.setSx_rest]
  · rfl

@[simp] theorem State.extendOnce_rest (a : Nat) : (s.extendOnce a).1.sbx.rest = s.sbx.rest := by
  unfold State.extendOnce
  extract_lets r why route t
  split
  · rfl
  · split
    · rfl
    · split
      · rfl
      · next m _ =>
        generalize s.run m a s.maxBlk route = x
        obtain ⟨full, stop⟩ := x
        dsimp -zeta only
        extract_lets run reason last endOfs t1 t2
        have h1 : t1.sbx.rest = s.sbx.rest := by
          dsimp only [t1]
          split
          · rfl
          · rw [State.issueAuth_rest, State.takeOwn_rest]
        have h2 : t2.sbx.rest = s.sbx.rest := by
          dsimp only [t2]
          split
          · split
            · rw [State.withdraw_rest, h1]
            · exact h1
          · exact h1
        exact h2

@[simp] theorem State.curtail_rest (a : Nat) (revoke : Bool) : (s.curtail a revoke).1.sbx.rest = s.sbx.rest := by
  unfold State.curtail
  extract_lets cur rev r t gone t'
  have ht : t.sbx.rest = s.sbx.rest := (State.setSx_rest _ _ _).trans (s.endWait_rest a)
  have ht' : t'.sbx.rest = s.sbx.rest := by
    dsimp only [t']
    split
    · exact (State.toReleasing_rest _ _ _ _).trans ht
    · exact ht
  split
  · exact (t'.issueAuth_rest _ _ _ _ _ _).trans ht'
  · exact (t'.setSx_rest _ _).trans ht'

@[simp] theorem State.breakCycle_rest (path : List Nat) : (s.breakCycle path).1.sbx.rest = s.sbx.rest := by
  unfold State.breakCycle
  extract_lets worse v waiter stops id
  have hc := s.curtail_rest v false
  generalize s.curtail v false = x at hc
  obtain ⟨t, gone⟩ := x
  dsimp -zeta only at hc ⊢
  extract_lets avoid r t1 alt t2 t3
  have h2 : t2.sbx.rest = s.sbx.rest := hc
  rw [State.raise_rest _ (by decide), State.satInc_sbx, h2]

@[simp] theorem State.extendN_rest (n : Nat) (a : Nat) : (State.extendN n s a).sbx.rest = s.sbx.rest := by
  induction n generalizing s a with
  | zero => rfl
  | succ n ih =>
    unfold State.extendN
    have h := s.extendOnce_rest a
    generalize s.extendOnce a = x at h
    obtain ⟨t, new⟩ := x
    dsimp only at h ⊢
    split
    · exact h
    · split
      · exact h
      · split
        · exact h
        · next path _ =>
          have k := (t.breakCycle_rest path).trans h
          generalize t.breakCycle path = y at k
          obtain ⟨u, w⟩ := y
          cases w with
          | none => exact k
          | some w =>
            dsimp only at k ⊢
            split
            · exact k
            · exact (ih u w).trans k

@[simp] theorem State.extend_rest (a : Nat) : (s.extend a).sbx.rest = s.sbx.rest := s.extendN_rest 128 a
end

/-! ### One rover at a time -/

section
variable (f : State → Nat → State) (hother : ∀ (t : State) a b, a ≠ b → (f t a).sx b = t.sx b)
include hother

theorem State.sx_foldl_other (l : List Nat) (s : State) {b : Nat} (hb : b ∉ l) : (l.foldl f s).sx b = s.sx b := by
  induction l generalizing s with
  | nil => rfl
  | cons a l ih =>
    obtain ⟨hba, hbl⟩ := not_or.mp (List.mem_cons.not.mp hb)
    exact (ih _ hbl).trans (hother s a b (Ne.symm hba))

/-- A work on each rover known leaves every rover with what it gives one, which is also true of a rover that has nothing. -/
theorem State.foldl_slots {P : SbxRover → Prop} (hown : ∀ (t : State) a, P ((f t a).sx a)) (hnone : P {}) (s : State) (b : Nat) :
    P ((s.sbxSlots.foldl f s).sx b) := by
  have hmem : ∀ (l : List Nat) (t : State), b ∈ l → P ((l.foldl f t).sx b) := by
    intro l
    induction l with
    | nil => exact fun _ h => absurd h List.not_mem_nil
    | cons a l ih =>
      intro t hb
      by_cases hbl : b ∈ l
      · exact ih _ hbl
      · obtain rfl : b = a := (List.mem_cons.mp hb).resolve_right hbl
        rw [List.foldl_cons, State.sx_foldl_other f hother l _ hbl]
        exact hown t b
  by_cases hb : b ∈ s.sbxSlots
  · exact hmem _ _ hb
  · rw [State.sx_foldl_other f hother _ _ hb, State.sx_of_unknown hb]
    exact hnone
end

/-! ### Withdrawals (R196, R197) -/

section
variable (s : State)

/-- A rover whose preview is issued: it holds the blocks of the preview, if any. -/
def SbxRover.previewed (r : SbxRover) (blocks : List Nat) (endOfs : Nat) : SbxRover :=
  { r with tent := if blocks.isEmpty then none else some { id := r.prevId, blocks := blocks, endOfs := endOfs }
           prevId := (r.prevId + 1) % 65536 }

theorem State.sx_issuePreview (a : Nat) (blocks : List Nat) (endOfs : Nat) (withdraws : Bool) (b : Nat) :
    (s.issuePreview a blocks endOfs withdraws).sx b = if a = b then (s.sx a).previewed blocks endOfs else s.sx b := s.sx_setSx a b _

/-- A withdrawal from one rover leaves the others, and of that one its authority. -/
theorem State.sx_withdraw (h : Nat) (blocks : List Nat) (a : Nat) :
    (∀ b, h ≠ b → (s.withdraw h blocks a).sx b = s.sx b) ∧ ((s.withdraw h blocks a).sx h).auth = (s.sx h).auth := by
  unfold State.withdraw
  dsimp only
  split
  · split
    · exact ⟨fun _ _ => rfl, rfl⟩
    · refine ⟨fun b hb => ?_, ?_⟩
      · rw [State.sx_satInc, State.sx_issuePreview, if_neg hb, State.sx_setSx_other hb]
      · rw [State.sx_satInc, State.sx_issuePreview, if_pos rfl, State.sx_setSx_same]
        rfl
  · exact ⟨fun _ _ => rfl, rfl⟩

/-- A hold that is withdrawn whole ends with its last block (R196). -/
theorem State.withdraw_whole (h : Nat) {x : Auth} (htent : (s.sx h).tent = some x) (a : Nat) :
    ((s.withdraw h (x.blocks.map wordBlock) a).sx h).tent.all (fun y => y.blocks.isEmpty) = true := by
  have hgone : (x.blocks.map wordBlock).filter (x.blocks.map wordBlock).contains = x.blocks.map wordBlock :=
    List.filter_eq_self.mpr fun b hb => List.contains_iff_mem.mpr hb
  have hkept : (x.blocks.filter fun w => !(x.blocks.map wordBlock).contains (wordBlock w)) = [] :=
    List.filter_eq_nil_iff.mpr fun w hw => by rw [List.contains_iff_mem.mpr (List.mem_map_of_mem hw)]; decide
  unfold State.withdraw
  dsimp only
  rw [htent]
  dsimp only
  rw [hgone, hkept]
  split
  · next hempty =>
    rw [htent, Option.all_some, ← List.isEmpty_map (f := wordBlock)]
    exact hempty
  · rw [State.sx_satInc, State.sx_issuePreview, if_pos rfl]
    rfl

theorem State.sx_withdrawAll (h : Nat) :
    (∀ b, h ≠ b → (s.withdrawAll h).sx b = s.sx b) ∧ ((s.withdrawAll h).sx h).auth = (s.sx h).auth ∧
      ((s.withdrawAll h).sx h).tent.all (fun y => y.blocks.isEmpty) = true := by
  unfold State.withdrawAll
  split
  · next x htent =>
    obtain ⟨hother, hauth⟩ := s.sx_withdraw h (x.blocks.map wordBlock) 255
    exact ⟨hother, hauth, s.withdraw_whole h htent 255⟩
  · next htent => exact ⟨fun _ _ => rfl, rfl, by rw [htent]; rfl⟩

theorem State.withdrawAll_boxWork (h : Nat) : s.boxWork (s.withdrawAll h) := by
  unfold State.withdrawAll
  split
  · exact s.withdraw_boxWork _ _ _
  · exact s.boxWork_refl

/-- Clearing PREVIEW_EN ends every hold and leaves the authorities (R197). -/
theorem State.previewDisable_shows : s.previewDisable.fld F.SBX_CTL_PREVIEW_EN = 0 ∧
    ∀ j, (s.previewDisable.sx j).tent.all (fun y => y.blocks.isEmpty) = true ∧ (s.previewDisable.sx j).auth = (s.sx j).auth := by
  unfold State.previewDisable
  extract_lets t
  refine ⟨?_, fun j => ?_⟩
  · have hframe : t.boxWork ((t.sbxSlots.foldl State.withdrawAll t).syncSbx) :=
      (State.boxWork_foldl _ State.withdrawAll_boxWork _ _).trans (State.syncSbx_boxWork _)
    rw [State.fld_of_changesOnly hframe _ (by decide)]
    exact s.fld_setFld_zero _ (by decide)
  · rw [State.sx_syncSbx]
    refine ⟨?_, ?_⟩
    · exact State.foldl_slots (P := fun r => r.tent.all (fun y => y.blocks.isEmpty) = true) State.withdrawAll
        (fun u a => (u.sx_withdrawAll a).1) (fun u a => (u.sx_withdrawAll a).2.2) rfl t j
    · have hauth : ∀ (l : List Nat) (u : State), ((l.foldl State.withdrawAll u).sx j).auth = (u.sx j).auth := by
        intro l
        induction l with
        | nil => exact fun _ => rfl
        | cons a l ih =>
          intro u
          obtain ⟨hother, hown, -⟩ := u.sx_withdrawAll a
          refine (ih _).trans ?_
          by_cases haj : a = j
          · rw [← haj, hown]
          · rw [hother j haj]
      exact hauth _ t
end

/-! ### Cut-backs and revocations (R191, R198) -/

/-- A rover loses its route, its wait and the blocks of its live authority but one. -/
def State.releaseBut (s : State) (a : Nat) (cur : Option Nat) : State :=
  let t := (s.endWait a).setSx a { (s.endWait a).sx a with route := [] }
  match s.laneAuth a with
  | some x => t.toReleasing a x ((x.blocks.map wordBlock).filter fun b => some b ≠ cur)
  | none => t

section
variable (s : State) (a : Nat)

/-- A rover without a route and without a wait. -/
def SbxRover.routeless (r : SbxRover) : SbxRover := { r with waitOn := none, waitSince := 0, stopAt := none, route := [] }

/-- A rover without a route and without a wait, with blocks in RELEASING. -/
def SbxRover.halted (r : SbxRover) (l : List Releasing) : SbxRover := { r.routeless with releasing := l }

/-- The route of a rover and its wait have ended. -/
theorem State.setSx_endWait (b : Nat) :
    ((s.endWait a).setSx a { (s.endWait a).sx a with route := [] }).sx b = if a = b then (s.sx a).routeless else s.sx b := by
  rw [State.sx_setSx, State.endWait, State.sx_setSx_same, State.sx_setSx]
  split <;> rfl

/-- The blocks lost enter RELEASING, and the wait and the route end. -/
theorem State.sx_releaseBut (cur : Option Nat) :
    ∃ l, (∀ b, (s.releaseBut a cur).sx b = if a = b then (s.sx a).halted l else s.sx b) ∧
      ∀ x, s.laneAuth a = some x → ∀ w ∈ x.blocks, some (wordBlock w) = cur ∨ ∃ y ∈ l, y.block = wordBlock w := by
  have hroute : ∀ b, ((s.endWait a).setSx a { (s.endWait a).sx a with route := [] }).sx b
      = if a = b then (s.sx a).halted (s.sx a).releasing else s.sx b := s.setSx_endWait a
  unfold State.releaseBut
  extract_lets r t
  cases s.laneAuth a with
  | none => exact ⟨_, hroute, nofun⟩
  | some x =>
    have ht : t.sx a = (s.sx a).halted (s.sx a).releasing := (hroute a).trans (if_pos rfl)
    dsimp only
    refine ⟨(t.sx a).releasing ++ ((x.blocks.map wordBlock).filter fun b => some b ≠ cur).map fun b =>
      { block := b, needId := (t.sx a).authId, oldId := x.id, expiry := x.expiry }, fun b => ?_, ?_⟩
    · rw [State.toReleasing, State.sx_setSx, ht]
      split
      · rfl
      · next hab => exact (hroute b).trans (if_neg hab)
    · rintro _ ⟨⟩ w hw
      by_cases hcur : some (wordBlock w) = cur
      · exact .inl hcur
      · exact .inr ⟨_, List.mem_append_right _ (List.mem_map_of_mem
          (List.mem_filter.mpr ⟨List.mem_map_of_mem hw, decide_eq_true hcur⟩)), rfl⟩

variable {s a}

/-- A block that a rover is cut back to stands in the map in force. -/
theorem State.map_of_cutBlock {b : Nat} (h : s.cutBlock a = some b) : ∃ m, s.sbx.map = some m := by
  cases hm : s.sbx.map with
  | some m => exact ⟨m, rfl⟩
  | none =>
    unfold State.cutBlock State.currentBlock at h
    rw [hm] at h
    cases h

theorem State.curtail_of_block {b : Nat} (h : s.cutBlock a = some b) (revoke : Bool) : ∃ ofs, (s.curtail a revoke).1
    = (s.releaseBut a (some b)).issueAuth a [b + (if s.travelRev a b then 16384 else 0)] ofs (!revoke) revoke false := by
  obtain ⟨m, hm⟩ := State.map_of_cutBlock h
  unfold State.curtail State.releaseBut
  dsimp only
  rw [h, hm]
  cases s.laneAuth a <;> exact ⟨_, rfl⟩

theorem State.curtail_of_nowhere (h : s.cutBlock a = none) (revoke : Bool) : (s.curtail a revoke).1
    = (s.releaseBut a none).setSx a { (s.releaseBut a none).sx a with auth := none } := by
  unfold State.curtail State.releaseBut
  dsimp only
  rw [h]
  cases s.laneAuth a <;> rfl

/-- A rover to which an authority is issued. -/
def SbxRover.issued (r : SbxRover) (blocks : List Nat) (endOfs : Nat) (cutBack revoked last : Bool) : SbxRover :=
  { r with auth := some { id := r.authId, blocks := blocks, endOfs := endOfs, cutBack := cutBack, revoked := revoked, last := last }
           authId := (r.authId + 1) % 65536 }

theorem State.sx_issueAuth (s : State) (a : Nat) (blocks : List Nat) (endOfs : Nat) (cutBack revoked last : Bool) (b : Nat) :
    (s.issueAuth a blocks endOfs cutBack revoked last).sx b
      = if a = b then (s.sx a).issued blocks endOfs cutBack revoked last else s.sx b := by
  unfold State.issueAuth
  rw [State.sx_hand, State.sx_satInc, State.sx_setSx]
  rfl

/-- A rover is curtailed: it has neither a route nor a wait, and no other rover is touched. -/
structure State.curtails (s t : State) (a : Nat) : Prop where
  others : ∀ b, a ≠ b → t.sx b = s.sx b
  route : (t.sx a).route = []
  waitOn : (t.sx a).waitOn = none
  stopAt : (t.sx a).stopAt = none

variable (s a)

theorem State.curtail_curtails (revoke : Bool) : s.curtails (s.curtail a revoke).1 a := by
  cases hb : s.cutBlock a with
  | none =>
    obtain ⟨l, hsx, -⟩ := s.sx_releaseBut a none
    rw [State.curtail_of_nowhere hb]
    refine ⟨fun b hab => ?_, ?_, ?_, ?_⟩
    · rw [State.sx_setSx_other hab, hsx, if_neg hab]
    all_goals
      rw [State.sx_setSx_same, hsx, if_pos rfl]
      rfl
  | some b =>
    obtain ⟨l, hsx, -⟩ := s.sx_releaseBut a (some b)
    obtain ⟨ofs, hcurtail⟩ := State.curtail_of_block hb revoke
    rw [hcurtail]
    refine ⟨fun c hac => ?_, ?_, ?_, ?_⟩
    · rw [State.sx_issueAuth, if_neg hac, hsx, if_neg hac]
    all_goals
      rw [State.sx_issueAuth, if_pos rfl, hsx, if_pos rfl]
      rfl

end

end Sys2Proof.Machine
end
section
/-! SUPPORT. What the rules of the signal box read: two states that show it the same are told apart by none of them. -/

namespace Sys2Proof.Machine

/-! ### What the rules read -/

/-- What the rules of the signal box read of its record. -/
def Sbx.read (x : Sbx) : Sbx := { rovers := x.rovers, map := x.map, norMap := x.norMap, zoneCap := x.zoneCap, zoneStops := x.zoneStops }

theorem Sbx.read_congr {x y : Sbx} (hrest : x.rest = y.rest) (hrovers : x.rovers = y.rovers) : x.read = y.read := by
  unfold Sbx.read
  rw [hrovers, Sbx.get_of_rest hrest Sbx.map fun _ => rfl, Sbx.get_of_rest hrest Sbx.norMap fun _ => rfl,
    Sbx.get_of_rest hrest Sbx.zoneCap fun _ => rfl, Sbx.get_of_rest hrest Sbx.zoneStops fun _ => rfl]

/-- The state with nothing but what the rules of the signal box read of it beside registers: its rovers, maps and zones, the fixes, the
stops, the commit point made last, and site time as the lanes have it. -/
def State.boxView (s : State) : State :=
  { State.reset with
    sbx := s.sbx.read, rtk := s.rtk, stp := s.stp, ttb := { State.reset.ttb with commitAt := s.ttb.commitAt }
    time := { State.reset.time with stamp := s.time.stamp } }

/-- The registers that the rules of the signal box read. -/
def boxReads : List Nat := [R.RAD_SF, R.TIM_STAT, R.SBX_CTL, R.SBX_EXP, R.SBX_MARGIN, R.STP_STAT]

/-- In `t` the rules of the signal box read what they read in `s`. -/
structure State.sameBox (s t : State) : Prop where
  view : t.boxView = s.boxView
  reads : ∀ a ∈ boxReads, t.reg a = s.reg a

section
variable {s t u : State}

theorem State.boxView_congr (hsbx : t.sbx.read = s.sbx.read) (hrtk : t.rtk = s.rtk) (hstp : t.stp = s.stp)
    (hcommit : t.ttb.commitAt = s.ttb.commitAt) (hstamp : t.time.stamp = s.time.stamp) : t.boxView = s.boxView := by
  unfold State.boxView
  rw [hsbx, hrtk, hstp, hcommit, hstamp]

/-- What can be read off what the rules read is the same. -/
theorem State.read_congr {α : Type} (h : t.boxView = s.boxView) (g : State → α) (hg : ∀ v : State, g v.boxView = g v) : g t = g s :=
  (hg t).symm.trans ((congrArg g h).trans (hg s))

/-- A rover replaced alike in both. -/
theorem State.sameBox.setSx (h : s.sameBox t) (a : Nat) (r : SbxRover) : (s.setSx a r).sameBox (t.setSx a r) :=
  ⟨State.read_congr h.view (fun v => (v.setSx a r).boxView) fun _ => rfl, h.reads⟩

section
variable (h : t.boxView = s.boxView)
include h

/-! ### Rules that read no register -/

theorem State.sx_congr (a : Nat) : t.sx a = s.sx a := State.read_congr h (fun v => v.sx a) fun _ => rfl

theorem State.map_congr : t.sbx.map = s.sbx.map := State.read_congr h (fun v => v.sbx.map) fun _ => rfl

theorem State.laneNow_congr : t.laneNow = s.laneNow := State.read_congr h State.laneNow fun _ => rfl

theorem State.laneAuth_congr (a : Nat) : t.laneAuth a = s.laneAuth a := State.read_congr h (fun v => v.laneAuth a) fun _ => rfl

theorem State.holders_congr (b : Nat) : t.holders b = s.holders b := State.read_congr h (fun v => v.holders b) fun _ => rfl

theorem State.isReleasing_congr (b : Nat) : t.isReleasing b = s.isReleasing b := State.read_congr h (fun v => v.isReleasing b) fun _ => rfl

theorem State.tentHolder_congr (b : Nat) : t.tentHolder b = s.tentHolder b := State.read_congr h (fun v => v.tentHolder b) fun _ => rfl

theorem State.zoneStops_congr : t.sbx.zoneStops = s.sbx.zoneStops := State.read_congr h (fun v => v.sbx.zoneStops) fun _ => rfl

theorem State.zoneCount_congr (m : SiteMap) (z : Nat) : t.zoneCount m z = s.zoneCount m z :=
  State.read_congr h (fun v => v.zoneCount m z) fun _ => rfl

theorem State.zoneCapOf_congr (m : SiteMap) (z : Nat) : t.zoneCapOf m z = s.zoneCapOf m z :=
  State.read_congr h (fun v => v.zoneCapOf m z) fun _ => rfl

theorem State.fullZone_congr (m : SiteMap) (a b : Nat) : t.fullZone m a b = s.fullZone m a b :=
  State.read_congr h (fun v => v.fullZone m a b) fun _ => rfl

theorem State.mapBlocker_congr (m : SiteMap) : t.mapBlocker m = s.mapBlocker m := State.read_congr h (fun v => v.mapBlocker m) fun _ => rfl

theorem State.cutBlock_congr (a : Nat) : t.cutBlock a = s.cutBlock a := State.read_congr h (fun v => v.cutBlock a) fun _ => rfl

theorem State.travelRev_congr (a b : Nat) : t.travelRev a b = s.travelRev a b := State.read_congr h (fun v => v.travelRev a b) fun _ => rfl

theorem State.beyondEnd_congr (mapId endOfs : Nat) (route : List Nat) : t.beyondEnd mapId endOfs route = s.beyondEnd mapId endOfs route :=
  State.read_congr h (fun v => v.beyondEnd mapId endOfs route) fun _ => rfl

theorem State.sbxBlockEntry_congr (b : Nat) : t.sbxBlockEntry b = s.sbxBlockEntry b := State.read_congr h (fun v => v.sbxBlockEntry b) fun _ => rfl

theorem State.sbxZoneEntry_congr (m : SiteMap) (z : Nat) : t.sbxZoneEntry m z = s.sbxZoneEntry m z :=
  State.read_congr h (fun v => v.sbxZoneEntry m z) fun _ => rfl

theorem State.sbxPointsEntry_congr (m : SiteMap) (p : Nat) : t.sbxPointsEntry m p = s.sbxPointsEntry m p :=
  State.read_congr h (fun v => v.sbxPointsEntry m p) fun _ => rfl
end

/-! ### Rules that read registers -/

section
variable (h : s.sameBox t)
include h

theorem State.sameBox.fld {f : Fld} (hf : f.addr ∈ boxReads) : t.fld f = s.fld f := by rw [State.fld, State.fld, h.reads _ hf]

theorem State.sameBox.flag {f : Fld} (hf : f.addr ∈ boxReads) : t.flag f = s.flag f := by rw [State.flag, State.flag, h.fld hf]

theorem State.sameBox.sfNs : t.sfNs = s.sfNs := by rw [State.sfNs, State.sfNs, h.fld (by decide)]

theorem State.sameBox.laneSf : t.laneSf = s.laneSf := by
  rw [State.laneSf, State.laneSf, State.laneNow_congr h.view, State.sfAt, State.sfAt, h.sfNs]

theorem State.sameBox.avoiding (r : SbxRover) : t.avoiding r = s.avoiding r := by rw [State.avoiding, State.avoiding, h.laneSf]

theorem State.sameBox.maxBlk : t.maxBlk = s.maxBlk := by rw [State.maxBlk, State.maxBlk, h.fld (by decide)]

theorem State.sameBox.authNs : t.authNs = s.authNs := by rw [State.authNs, State.authNs, h.fld (by decide)]

theorem State.sameBox.roverStopped (a : Nat) : t.roverStopped a = s.roverStopped a := by
  unfold State.roverStopped State.fleetStopped
  rw [h.flag (by decide), show t.stp = s.stp from State.read_congr h.view (fun v => v.stp) fun _ => rfl]

theorem State.sameBox.rk (a : Nat) : t.rk a = s.rk a := State.read_congr h.view (fun v => v.rk a) fun _ => rfl

theorem State.sameBox.routeRefusal (a mapId : Nat) (route : List Nat) (tentative : Bool) :
    t.routeRefusal a mapId route tentative = s.routeRefusal a mapId route tentative := by
  unfold State.routeRefusal
  rw [State.sx_congr h.view, State.map_congr h.view, funext h.avoiding]

theorem State.sameBox.fixGood (a : Nat) : t.fixGood a = s.fixGood a := by
  unfold State.fixGood
  rw [h.rk, h.flag (by decide), State.laneNow_congr h.view, h.authNs]

theorem State.sameBox.whyNot (a : Nat) : t.whyNot a = s.whyNot a := by
  unfold State.whyNot
  rw [State.map_congr h.view, h.flag (by decide), h.fld (by decide), h.roverStopped, State.sx_congr h.view, h.fixGood]

theorem State.sameBox.nextCommit : t.nextCommit = s.nextCommit := by
  unfold State.nextCommit State.t0At
  rw [h.laneSf, h.sfNs, show t.ttb.commitAt = s.ttb.commitAt from State.read_congr h.view (fun v => v.ttb.commitAt) fun _ => rfl]

theorem State.sameBox.expiryOf (x : Auth) : t.expiryOf x = s.expiryOf x := by
  rw [State.expiryOf, State.expiryOf, h.nextCommit, h.authNs]

theorem State.sameBox.relLive (r : SbxRover) : t.relLive r = s.relLive r := State.read_congr h.view (fun v => v.relLive r) fun _ => rfl

theorem State.sameBox.sbxRoverEntry (a : Nat) : t.sbxRoverEntry a = s.sbxRoverEntry a := by
  unfold State.sbxRoverEntry
  rw [State.sx_congr h.view, State.laneAuth_congr h.view, funext h.relLive, funext h.avoiding, State.laneNow_congr h.view,
    funext h.expiryOf]
end
end

/-! ### A command recorded -/

section
variable (s : State) (c : Cmd) {op : Op}

/-- Recording a command of the lanes gives them its input (R26). -/
theorem State.time_entered_lane (hl : op.lane c.payload = true) : (s.entered c op).time = s.laneInput.time := by
  have hsess : ∀ (t : State) sid ss, (t.setSess sid ss).laneInput.time = t.laneInput.time := fun t sid ss => by
    have htime : (t.setSess sid ss).time = t.time := (t.setSess_changesOnly sid ss).2.1 .time (by decide)
    rw [State.laneInput, State.laneInput, State.now, State.now, State.el, State.el, htime]
  unfold State.entered
  extract_lets sid ss t ss' e cache out u
  rw [if_pos hl, hsess]
  dsimp only [t]
  split
  · exact hsess _ _ _
  · rfl

theorem State.entered_sameBox (hl : op.lane c.payload = true) : s.laneInput.sameBox (s.entered c op) where
  view := by
    have hsbx : (s.entered c op).sbx = s.sbx := s.entered_same c op .sbx (by decide)
    refine State.boxView_congr (congrArg Sbx.read hsbx) (s.entered_same c op .rtk (by decide))
      (s.entered_same c op .stp (by decide)) ?_ (congrArg TimeSt.stamp (s.time_entered_lane c hl))
    have httb : (s.entered c op).ttb = s.ttb := s.entered_same c op .ttb (by decide)
    rw [httb]
    rfl
  reads a ha := s.reg_entered c op (by rintro rfl; revert ha; decide)
end

end Sys2Proof.Machine
end
section
/-! SUPPORT. The pass of the signal box: what each of its steps changes, and what it leaves of the maps, the routes and the holds. -/

namespace Sys2Proof.Machine

/-! ### What a step of the pass changes (R174, R175, R185) -/

/-- The registers that the pass changes beside SBX_LOAD. -/
abbrev passRegs : List Nat := R.SBX_MAP_ID :: R.SBX_MAP_STG :: R.ALT_STAT :: boxRegs

/-- The parts of the state that change when images are dropped and the maps are shown. -/
abbrev mapParts : List Part := .sbx :: .lan :: busParts

/-- From `s` to `t` the pass does work that leaves what the signal box holds beside its rovers. -/
structure State.passWork (s t : State) : Prop where
  frame : s.changesOnly t boxParts passRegs []
  rest : t.sbx.rest = s.sbx.rest

section
variable {s t u : State}

theorem State.passWork_refl (s : State) : s.passWork s := ⟨s.changesOnly_refl _ _ _, rfl⟩

theorem State.passWork.trans (h : s.passWork t) (k : t.passWork u) : s.passWork u :=
  ⟨State.changesOnly_trans h.frame k.frame, k.rest.trans h.rest⟩

theorem State.passWork_foldl {α : Type} (f : State → α → State) (h : ∀ (t : State) a, t.passWork (f t a)) (l : List α) (s : State) :
    s.passWork (l.foldl f s) :=
  ⟨State.foldl_changesOnly f (fun t a => (h t a).frame) l s, s.foldl_rest f (fun t a => (h t a).rest) l⟩

/-- Work of the interlocking is work of the pass. -/
theorem State.passWork_of_box (h : s.boxWork t) (hrest : t.sbx.rest = s.sbx.rest) : s.passWork t :=
  ⟨State.changesOnly_mono h (List.Subset.refl _) (List.subset_append_right [R.SBX_MAP_ID, R.SBX_MAP_STG, R.ALT_STAT] _)
    (List.Subset.refl _), hrest⟩

theorem State.passWork.setReg (h : s.passWork t) (a : Nat) (v : Word) (ha : a ∈ passRegs) : s.passWork (t.setReg a v) :=
  ⟨State.changesOnly_trans h.frame (t.setReg_changesOnly a v (.inl ha)), h.rest⟩

theorem State.passWork.setFld (h : s.passWork t) (f : Fld) (v : Nat) (hf : f.addr ∈ passRegs) : s.passWork (t.setFld f v) :=
  h.setReg _ _ hf
end

section
variable (s : State)

theorem State.alt_passWork (x : Alt) : s.passWork { s with alt := x } := State.passWork_of_box (s.alt_boxWork x) rfl

theorem State.setSx_passWork (a : Nat) (r : SbxRover) : s.passWork (s.setSx a r) := State.passWork_of_box (s.setSx_boxWork a r) rfl

theorem State.raise_passWork (src : Nat) (detail : List Byte) (h : src < 96) : s.passWork (s.raise src detail) :=
  State.passWork_of_box (s.raise_boxWork src detail h) (s.raise_rest h detail)

theorem State.withdrawAll_passWork (a : Nat) : s.passWork (s.withdrawAll a) :=
  State.passWork_of_box (s.withdrawAll_boxWork a) (s.withdrawAll_rest a)

theorem State.extend_passWork (a : Nat) : s.passWork (s.extend a) := State.passWork_of_box (s.extendN_boxWork 128 a) (s.extend_rest a)

theorem State.syncAlt_passWork : s.passWork s.syncAlt :=
  ((s.passWork_refl.setFld _ _ (by decide)).setFld _ _ (by decide)).setFld _ _ (by decide)

theorem State.showMap_changesOnly : s.changesOnly s.showMap mapParts passRegs [] := by
  have halt : ∀ t : State, t.changesOnly t.syncAlt mapParts passRegs [] := fun t =>
    State.setFld_then _ _ (State.setFld_then _ _ (State.setFld_then _ _ (t.changesOnly_refl _ _ _) (by decide)) (by decide)) (by decide)
  have hids : s.changesOnly (s.setReg R.SBX_MAP_ID (BitVec.ofNat 32 ((s.sbx.map.map (·.id)).getD 0))) mapParts passRegs [] :=
    s.setReg_changesOnly _ _ (.inl (by decide))
  exact State.changesOnly_trans (State.changesOnly_trans (State.changesOnly_trans hids (State.setReg_changesOnly _ _ _ (.inl (by decide))))
    (State.changesOnly_mono (State.syncSbx_changesOnly _) (by decide) (by decide) (List.Subset.refl _))) (halt _)

theorem State.showMap_passWork : s.passWork s.showMap := by
  have hids : s.passWork (s.setReg R.SBX_MAP_ID (BitVec.ofNat 32 ((s.sbx.map.map (·.id)).getD 0))) := s.passWork_refl.setReg _ _ (by decide)
  exact ((hids.setReg _ _ (by decide)).trans (State.passWork_of_box (State.syncSbx_boxWork _) (State.syncSbx_rest _))).trans
    (State.syncAlt_passWork _)

/-- A pass shows its map, and lets no rover go. -/
theorem State.sx_showMap (a : Nat) : s.showMap.sx a = s.sx a := by
  have halt : ∀ t : State, t.syncAlt.sx a = t.sx a := fun t => by
    unfold State.syncAlt
    rw [State.sx_setFld, State.sx_setFld, State.sx_setFld]
  unfold State.showMap
  rw [halt, State.sx_syncSbx]
  rfl

theorem State.hand_passWork (a : Nat) (preview : Bool) (cls : Nat) (x : Auth) : s.passWork (s.hand a preview cls x) :=
  State.passWork_of_box (s.hand_boxWork a preview cls x) rfl

/-! ### Tasks that fail with their blocks (Table 8-4) -/

theorem State.setTask_passWork (i new reason : Nat) : s.passWork (s.setTask i new reason) := by
  unfold State.setTask
  extract_lets t slot u v
  exact ((s.alt_passWork _).trans (State.raise_passWork _ _ _ (by decide))).trans (State.syncAlt_passWork _)

theorem State.endProposal_passWork (a : Nat) : s.passWork (s.endProposal a) := by
  unfold State.endProposal
  split
  · exact (s.withdrawAll_passWork a).trans (State.setTask_passWork _ _ _ _)
  · exact s.passWork_refl

theorem State.failTask_passWork (i reason : Nat) : s.passWork (s.failTask i reason) := by
  unfold State.failTask
  extract_lets t u
  have hu : s.passWork u := s.setTask_passWork _ _ _
  split
  · exact hu.trans (u.endProposal_passWork _)
  · split
    · exact hu.trans (u.withdrawAll_passWork _)
    · exact hu

theorem State.checkTasks_passWork (m : SiteMap) : s.passWork (s.checkTasks m) :=
  State.passWork_foldl _ (fun t i => t.failTask_passWork i 0) _ _

/-! ### Maps that come into force (R174) -/

theorem State.reoccupy_passWork : s.passWork s.reoccupy := by
  refine State.passWork_foldl _ (fun t a => ?_) _ _
  split
  · split
    · exact t.passWork_refl
    · exact t.setSx_passWork _ _
  · exact t.passWork_refl

/-- A map is in force, and neither is it staged nor does any wait for its activation. -/
def State.putMap (s : State) (n : SiteMap) : State :=
  { s with sbx := { s.sbx with map := some n, norMap := some n, staged := s.sbx.staged.filter fun m => m != n, activate := none
                               zoneCap := [] } }

variable {s}

theorem State.activateMap_of_none (h : s.sbx.activate = none) : s.activateMap = s := by
  unfold State.activateMap
  rw [h]
  rfl

theorem State.activateMap_of_free {n : SiteMap} (h : s.sbx.activate = some n) (hfree : s.mapBlocker n = none) :
    ∃ t, s.passWork t ∧ (t.putMap n).passWork s.activateMap := by
  have hfilter : s.sbx.activate.filter (fun n => (s.mapBlocker n).isNone) = some n := by
    rw [h, Option.filter_some, hfree]
    rfl
  unfold State.activateMap
  rw [hfilter]
  dsimp -zeta only
  extract_lets old keeps t1 t2 x sbx t3 y t4 t5 crowded t6
  have h1 : s.passWork t1 := State.passWork_foldl _ State.withdrawAll_passWork _ _
  have h2 : s.passWork t2 := by
    refine h1.trans (State.passWork_foldl _ (fun t a => ?_) _ _)
    split
    · exact t.passWork_refl
    · exact (t.setSx_passWork _ _).trans (State.setSx_passWork _ _ _)
  have h4 : (t2.putMap n).passWork t4 := by
    dsimp only [t4]
    split
    · split
      · exact State.alt_passWork _ _
      · exact State.passWork_refl _
    · exact State.passWork_refl _
  have h5 : (t2.putMap n).passWork t5 :=
    ((h4.trans (State.reoccupy_passWork _)).trans (State.showMap_passWork _)).trans (State.raise_passWork _ _ _ (by decide))
  exact ⟨t2, h2, (h5.trans (State.passWork_foldl _ (fun t z => t.raise_passWork _ _ (by decide)) _ _)).trans (State.checkTasks_passWork _ _)⟩

/-! ### Maps that no longer fit the site origin (R175) -/

/-- Whether a map fits an origin. -/
def SiteMap.fits (crc : Option Nat) (m : SiteMap) : Bool := some m.originCrc == crc

/-- The record of the signal box without the images that do not fit an origin. -/
def Sbx.dropping (x : Sbx) (crc : Option Nat) : Sbx :=
  { x with activate := x.activate.filter (SiteMap.fits crc), staged := x.staged.filter (SiteMap.fits crc) }

variable (s)

/-- Images that do not fit are neither staged any longer nor activated. -/
theorem State.dropStaged_shows (crc : Option Nat) :
    s.changesOnly (s.dropStaged crc) mapParts passRegs [] ∧ (s.dropStaged crc).sbx = s.sbx.dropping crc := by
  have hbox : ∀ (t : State) (x : Sbx), t.changesOnly { t with sbx := x } mapParts passRegs [] := fun t x =>
    t.sbx_changesOnly x (by decide)
  have hevent : ∀ (t : State) (op code id k : Nat), t.changesOnly (t.mapEvent op code id k) mapParts passRegs [] := fun t op code id k =>
    State.changesOnly_mono (t.mapEvent_changesOnly op code id k) (by decide) (by decide) (List.Subset.refl _)
  unfold State.dropStaged
  extract_lets fits r t r'
  have ht : s.changesOnly t mapParts passRegs [] := hbox s _
  have hsbx : ∀ x, s.sbx.staged.filter fits = x → s.sbx.dropping crc = { t.sbx with staged := x } := by
    rintro _ rfl
    rfl
  cases hs : s.sbx.staged with
  | none => exact ⟨ht, (hsbx s.sbx.staged (by rw [hs]; rfl)).symm⟩
  | some m =>
    dsimp only
    by_cases hfit : fits m = true
    · rw [if_pos hfit]
      exact ⟨ht, (hsbx s.sbx.staged (by rw [hs, Option.filter_some, if_pos hfit])).symm⟩
    · rw [if_neg hfit, State.mapEvent_sbx]
      exact ⟨State.changesOnly_trans ht (State.changesOnly_trans (hbox t _) (hevent _ _ _ _ _)),
        (hsbx none (by rw [hs, Option.filter_some, if_neg hfit])).symm⟩

theorem State.dropStaged_map (crc : Option Nat) : (s.dropStaged crc).sbx.map = s.sbx.map := by
  rw [(s.dropStaged_shows crc).2]
  rfl

/-- While the map in force fits, only the images that do not are dropped. -/
theorem State.originCheck_of_fit (h : s.sbx.map.all (fun m => s.rtk.origin.map originCrc == some m.originCrc) = true) :
    s.originCheck = (s.dropStaged (s.rtk.origin.map originCrc)).showMap := by
  unfold State.originCheck
  dsimp only
  rw [State.dropStaged_map]
  cases hm : s.sbx.map with
  | none => rfl
  | some m =>
    rw [hm, Option.all_some, beq_iff_eq] at h
    exact if_pos h.symm

/-- A map that does not fit is withdrawn, after every route and hold. -/
theorem State.originCheck_of_misfit {m : SiteMap} (hmap : s.sbx.map = some m) (h : s.rtk.origin.map originCrc ≠ some m.originCrc) :
    ∃ t : State, t = (s.dropStaged (s.rtk.origin.map originCrc)).revokeAll ∧
      s.originCheck = ({ t with sbx := { t.sbx with map := none } } : State).showMap.mapEvent 3 4 m.id 0 := by
  refine ⟨_, rfl, ?_⟩
  unfold State.originCheck
  dsimp only
  rw [State.dropStaged_map, hmap]
  exact if_neg (Ne.symm h)

/-! ### Rovers without a route and without a hold (R175) -/

/-- A rover has no route, no hold and no wait. -/
def SbxRover.idle (r : SbxRover) : Prop := r.route = [] ∧ r.tent = none ∧ r.waitOn = none

/-- What `State.revokeAll` does to one rover. -/
def State.revokeOne (s : State) (a : Nat) : State :=
  let u := if (s.laneAuth a).isSome then (s.curtail a true).1 else s.endWait a
  u.setSx a { u.sx a with route := [], tent := none }

theorem State.revokeOne_passWork (a : Nat) : s.passWork (s.revokeOne a) := by
  unfold State.revokeOne
  extract_lets u
  refine State.passWork.trans ?_ (State.setSx_passWork _ _ _)
  dsimp only [u]
  split
  · exact State.passWork_of_box (s.curtail_boxWork a true) (s.curtail_rest a true)
  · exact s.setSx_passWork _ _

theorem State.sx_revokeOne (a : Nat) : (∀ b, a ≠ b → (s.revokeOne a).sx b = s.sx b) ∧ ((s.revokeOne a).sx a).idle := by
  unfold State.revokeOne
  extract_lets u
  have hu : (∀ b, a ≠ b → u.sx b = s.sx b) ∧ (u.sx a).waitOn = none := by
    dsimp only [u]
    split
    · obtain ⟨hothers, -, hwait, -⟩ := s.curtail_curtails a true
      exact ⟨hothers, hwait⟩
    · exact ⟨fun b hab => State.sx_setSx_other hab _, by rw [State.endWait, State.sx_setSx_same]⟩
  refine ⟨fun b hab => ?_, ?_⟩
  · rw [State.sx_setSx_other hab, hu.1 b hab]
  · rw [State.sx_setSx_same]
    exact ⟨rfl, rfl, hu.2⟩

theorem State.revokeAll_passWork : s.passWork s.revokeAll := State.passWork_foldl _ State.revokeOne_passWork _ _

theorem State.revokeAll_idle (a : Nat) : (s.revokeAll.sx a).idle :=
  State.foldl_slots State.revokeOne (fun t a => (t.sx_revokeOne a).1) (fun t a => (t.sx_revokeOne a).2) ⟨rfl, rfl, rfl⟩ s a

/-! ### The work on routes and holds (R185, R195) -/

/-- The pass once the maps are settled: routes in their order, holds sent again, and the time it has taken. -/
def State.passEnd (s : State) (us : Nat) : State :=
  let t := (s.passOrder.foldl State.extend s).resendPreviews
  (t.setFld F.SBX_LOAD_MAX_US (max (min 65535 us) (t.fld F.SBX_LOAD_MAX_US))).syncSbx

theorem State.resendPreviews_passWork : s.passWork s.resendPreviews := by
  unfold State.resendPreviews
  split
  · exact s.passWork_refl
  · refine State.passWork_foldl _ (fun t a => ?_) _ _
    split
    · split
      · exact t.passWork_refl
      · exact t.hand_passWork _ _ _ _
    · exact t.passWork_refl

/-- The work leaves the maps, and the longest time is shown. -/
theorem State.passEnd_shows (us : Nat) : (s.passEnd us).sbx.rest = s.sbx.rest ∧
    (s.passEnd us).fld F.SBX_LOAD_MAX_US = max (min 65535 us) (s.fld F.SBX_LOAD_MAX_US) % 65536 := by
  unfold State.passEnd
  extract_lets t
  have ht : s.passWork t := (State.passWork_foldl _ State.extend_passWork _ _).trans (State.resendPreviews_passWork _)
  refine ⟨?_, ?_⟩
  · rw [State.syncSbx_rest, State.setFld_sbx, ht.rest]
  · rw [State.fld_of_changesOnly (State.syncSbx_changesOnly _) _ (by decide), State.fld_setFld_same _ _ _ (by decide),
      State.fld_of_changesOnly ht.frame _ (by decide)]
    rfl

/-- With no route and no hold there is nothing to do. -/
theorem State.passEnd_of_idle (h : ∀ a, (s.sx a).idle) (us : Nat) :
    s.passEnd us = (s.setFld F.SBX_LOAD_MAX_US (max (min 65535 us) (s.fld F.SBX_LOAD_MAX_US))).syncSbx := by
  have horder : s.passOrder = [] := by
    have hnone : (s.sbxSlots.filter fun a => !(s.sx a).route.isEmpty) = [] :=
      List.filter_eq_nil_iff.mpr fun a _ => by rw [(h a).1]; decide
    unfold State.passOrder
    dsimp only
    rw [hnone]
    rfl
  have hsend : s.resendPreviews = s := by
    unfold State.resendPreviews
    rw [List.foldl_fixed' fun a => by rw [(h a).2.1], ite_self]
  unfold State.passEnd
  rw [horder, List.foldl_nil, hsend]

/-! ### When the pass runs (R185) -/

variable {s}

theorem execSbxPass_of_due (us : Nat) (hrun : s.lanesRun = true) (hdue : s.t0At s.laneSf + 8 * oneMs ≤ s.laneNow)
    (hnew : s.sbx.passF ≠ some s.laneSf) :
    exec (.sbxPass us) s
      = .next (({ s with sbx := { s.sbx with passF := some s.laneSf } } : State).originCheck.activateMap.passEnd us) := by
  show execSbxPass us s = _
  unfold execSbxPass
  dsimp only
  rw [State.onLanes_of_run hrun, if_neg fun h => h.elim (Nat.not_lt.mpr hdue) hnew]
  rfl

theorem execSbxPass_of_not_due (us : Nat) (h : s.sbx.passF = some s.laneSf ∨ s.laneNow < s.t0At s.laneSf + 8 * oneMs ∨ s.lanesRun = false) :
    exec (.sbxPass us) s = .next s := by
  show execSbxPass us s = _
  unfold execSbxPass State.onLanes
  dsimp only
  split
  · next hrun =>
    rw [if_pos]
    rcases h with h | h | h
    · exact .inr h
    · exact .inl h
    · rw [hrun] at h
      cases h
  · rfl
end

end Sys2Proof.Machine
end
section
/-! SUPPORT. The check of a staged map image, and the passes that keep, change and withdraw the map in force. -/

namespace Sys2Proof.Machine

/-! ### The check of an image (R173) -/

/-- The codes of the check are 1 to 8. -/
theorem code_of_checkMap {p : List Byte} {origin : Option (Int × Int × Int)} {code kind index : Nat}
    (h : checkMap p origin = some (code, kind, index)) : code ≤ 8 := by
  unfold checkMap at h
  dsimp only at h
  repeat' split at h
  all_goals cases h
  all_goals decide

section
variable {s : State} {off len : Nat} {p : List Byte}

/-- A staged image that has passed its check. -/
def State.stageMap (s : State) (m : SiteMap) : State :=
  let t : State := { s with sbx := { s.sbx with staging := none, staged := some m } }
  ((t.setReg R.SBX_MAP_STG (BitVec.ofNat 32 m.id)).setReg R.SBX_MAP_ERR 0).syncSbx

/-- An image that has failed its check. -/
def State.failMap (s : State) (code kind index : Nat) : State :=
  let t : State := { s with sbx := { s.sbx with staging := none } }
  ((t.setFld F.SBX_MAP_ERR_CODE code).setFld F.SBX_MAP_ERR_KIND kind).setFld F.SBX_MAP_ERR_INDEX index

theorem execSbxMapStageDone_of_good (hrun : s.lanesRun = true) (hstaging : s.sbx.staging = some (off, len))
    (hp : p = bytesAt s.dram off len) (hgood : checkMap p s.rtk.origin = none) :
    exec .sbxMapStageDone s = .next ((s.stageMap (parseMap p)).mapEvent 0 0 (parseMap p).id 0) := by
  subst hp
  show execSbxMapStageDone s = _
  unfold execSbxMapStageDone
  rw [State.onLanes_of_run hrun, hstaging]
  dsimp only
  rw [hgood]
  rfl

theorem execSbxMapStageDone_of_bad {code kind index : Nat} (hrun : s.lanesRun = true) (hstaging : s.sbx.staging = some (off, len))
    (hp : p = bytesAt s.dram off len) (hbad : checkMap p s.rtk.origin = some (code, kind, index)) :
    exec .sbxMapStageDone s = .next ((s.failMap code kind index).mapEvent 1 code (rdN p 8 4) index) := by
  subst hp
  show execSbxMapStageDone s = _
  unfold execSbxMapStageDone
  rw [State.onLanes_of_run hrun, hstaging]
  dsimp only
  rw [hbad]
  rfl

variable (s)

theorem State.stageMap_shows (m : SiteMap) : ((s.stageMap m).sbx.staged = some m ∧ (s.stageMap m).sbx.staging = none ∧
      (s.stageMap m).sbx.map = s.sbx.map) ∧
    (s.stageMap m).reg R.SBX_MAP_STG = BitVec.ofNat 32 m.id ∧ (s.stageMap m).reg R.SBX_MAP_ERR = 0 ∧
      s.changesOnly (s.stageMap m) [.sbx] [R.SBX_MAP_STG, R.SBX_MAP_ERR, R.SBX_STAT] [] := by
  unfold State.stageMap
  extract_lets r t
  have hsync := ((t.setReg R.SBX_MAP_STG (BitVec.ofNat 32 m.id)).setReg R.SBX_MAP_ERR 0).syncSbx_changesOnly
  refine ⟨?_, ?_, ?_, ?_⟩
  · rw [State.syncSbx_sbx]
    exact ⟨rfl, rfl, rfl⟩
  · rw [hsync.2.2 _ (by decide) nofun, State.reg_setReg_other _ _ _ _ (by decide), State.reg_setReg_same]
  · rw [hsync.2.2 _ (by decide) nofun, State.reg_setReg_same]
  · exact State.changesOnly_trans (State.changesOnly_trans (State.changesOnly_trans (s.sbx_changesOnly _ (by decide))
      (t.setReg_changesOnly _ _ (.inl (by decide)))) (State.setReg_changesOnly _ _ _ (.inl (by decide))))
      (State.changesOnly_mono hsync (List.Subset.refl _) (by decide) (List.Subset.refl _))

theorem State.failMap_shows (code kind index : Nat) (hcode : code ≤ 8) :
    (s.failMap code kind index).sbx = { s.sbx with staging := none } ∧
      (s.failMap code kind index).fld F.SBX_MAP_ERR_CODE = code ∧
        s.changesOnly (s.failMap code kind index) [.sbx] [R.SBX_MAP_ERR] [] := by
  unfold State.failMap
  extract_lets t
  refine ⟨rfl, ?_, ?_⟩
  · rw [State.fld_setFld_other _ F.SBX_MAP_ERR_INDEX F.SBX_MAP_ERR_CODE _ rfl (by decide) (by decide),
      State.fld_setFld_other _ F.SBX_MAP_ERR_KIND F.SBX_MAP_ERR_CODE _ rfl (by decide) (by decide),
      State.fld_setFld_same _ _ _ (by decide)]
    exact Nat.mod_eq_of_lt (Nat.lt_of_le_of_lt hcode (by decide))
  · exact State.setFld_then _ _ (State.setFld_then _ _ (State.setFld_then _ _ (s.sbx_changesOnly _ (by decide)) (by decide)) (by decide))
      (by decide)
end

/-! ### Passes (R174, R175, R185) -/

section
variable (s : State)

/-- The state at a pass of superframe f. -/
def State.atPass (s : State) (f : Nat) : State := { s with sbx := { s.sbx with passF := some f } }

variable {s}

/-- While the map in force fits the origin, only the images that do not are dropped, and the work is that of the pass. -/
theorem State.originCheck_shows (hfit : s.sbx.map.all (fun m => s.rtk.origin.map originCrc == some m.originCrc) = true) :
    s.changesOnly s.originCheck mapParts passRegs [] ∧
      s.originCheck.sbx.rest = (s.sbx.dropping (s.rtk.origin.map originCrc)).rest ∧ s.originCheck.sbx.rovers = s.sbx.rovers := by
  obtain ⟨hframe, hsbx⟩ := s.dropStaged_shows (s.rtk.origin.map originCrc)
  have hshow := (s.dropStaged (s.rtk.origin.map originCrc)).showMap_passWork
  rw [s.originCheck_of_fit hfit]
  refine ⟨State.changesOnly_trans hframe (State.showMap_changesOnly _), hshow.rest.trans (congrArg Sbx.rest hsbx), ?_⟩
  have hrovers : ∀ t : State, t.showMap.sbx.rovers = t.sbx.rovers := fun t => by
    have halt : ∀ u : State, u.syncAlt.sbx = u.sbx := fun u => by
      unfold State.syncAlt
      rw [State.setFld_sbx, State.setFld_sbx, State.setFld_sbx]
    unfold State.showMap
    rw [halt, State.syncSbx_sbx]
    rfl
  rw [hrovers, hsbx]
  rfl

theorem State.originCheck_boxView (hfit : s.sbx.map.all (fun m => s.rtk.origin.map originCrc == some m.originCrc) = true) :
    s.originCheck.boxView = s.boxView := by
  obtain ⟨hframe, hrest, hrovers⟩ := State.originCheck_shows hfit
  exact State.boxView_congr (Sbx.read_congr (y := s.sbx.dropping (s.rtk.origin.map originCrc)) hrest hrovers) (hframe.2.1 .rtk (by decide))
    (hframe.2.1 .stp (by decide)) (congrArg Ttb.commitAt (hframe.2.1 .ttb (by decide))) (congrArg TimeSt.stamp (hframe.2.1 .time (by decide)))

/-- The pass brings the image in force whose activation was accepted. -/
theorem State.pass_of_activate {n : SiteMap} (hfit : s.sbx.map.all (fun m => s.rtk.origin.map originCrc == some m.originCrc) = true)
    (hact : s.sbx.activate = some n) (hcrc : s.rtk.origin.map originCrc = some n.originCrc) (hfree : s.mapBlocker n = none) (us : Nat)
    {t : State} (ht : t = s.originCheck.activateMap.passEnd us) :
    t.sbx.map = some n ∧ t.sbx.staged ≠ some n ∧ t.sbx.activate = none ∧ t.sbx.passF = s.sbx.passF ∧
      t.fld F.SBX_LOAD_MAX_US = max (min 65535 us) (s.fld F.SBX_LOAD_MAX_US) % 65536 := by
  subst ht
  obtain ⟨hframe, hrest, -⟩ := State.originCheck_shows hfit
  have hact' : s.originCheck.sbx.activate = some n := by
    have hfits : SiteMap.fits (s.rtk.origin.map originCrc) n = true := by
      rw [SiteMap.fits, hcrc, beq_self_eq_true]
    rw [Sbx.get_of_rest hrest Sbx.activate fun _ => rfl, Sbx.dropping, hact]
    exact if_pos hfits
  obtain ⟨u, hbefore, hafter⟩ := State.activateMap_of_free hact' ((State.mapBlocker_congr (State.originCheck_boxView hfit) n).trans hfree)
  obtain ⟨hend, hload⟩ := s.originCheck.activateMap.passEnd_shows us
  have hput := hend.trans hafter.rest
  refine ⟨Sbx.get_of_rest hput Sbx.map fun _ => rfl, ?_, Sbx.get_of_rest hput Sbx.activate fun _ => rfl, ?_, ?_⟩
  · rw [Sbx.get_of_rest hput Sbx.staged fun _ => rfl]
    intro hstaged
    obtain ⟨-, hne⟩ := Option.filter_eq_some_iff.mp hstaged
    exact absurd hne (by rw [bne_self_eq_false]; decide)
  · calc _ = (u.putMap n).sbx.passF := Sbx.get_of_rest hput Sbx.passF fun _ => rfl
      _ = s.originCheck.sbx.passF := Sbx.get_of_rest hbefore.rest Sbx.passF fun _ => rfl
      _ = s.sbx.passF := Sbx.get_of_rest hrest Sbx.passF fun _ => rfl
  · have hkept : s.originCheck.activateMap.fld F.SBX_LOAD_MAX_US = s.fld F.SBX_LOAD_MAX_US :=
      calc _ = (u.putMap n).fld F.SBX_LOAD_MAX_US := State.fld_of_changesOnly hafter.frame _ (by decide)
        _ = s.originCheck.fld F.SBX_LOAD_MAX_US := State.fld_of_changesOnly hbefore.frame _ (by decide)
        _ = s.fld F.SBX_LOAD_MAX_US := State.fld_of_changesOnly hframe _ (by decide)
    rw [hload, hkept]

/-- A pass with nothing to activate or to drop leaves the maps. -/
theorem State.pass_of_still (hfit : s.sbx.map.all (fun m => s.rtk.origin.map originCrc == some m.originCrc) = true)
    (hact : s.sbx.activate = none) (hstaged : s.sbx.staged.all (fun m => s.rtk.origin.map originCrc == some m.originCrc) = true) (us : Nat)
    {t : State} (ht : t = s.originCheck.activateMap.passEnd us) :
    t.sbx.map = s.sbx.map ∧ t.sbx.staged = s.sbx.staged ∧ t.sbx.passF = s.sbx.passF ∧
      t.fld F.SBX_LOAD_MAX_US = max (min 65535 us) (s.fld F.SBX_LOAD_MAX_US) % 65536 := by
  subst ht
  obtain ⟨hframe, hrest, -⟩ := State.originCheck_shows hfit
  have hnone : s.originCheck.sbx.activate = none := by
    rw [Sbx.get_of_rest hrest Sbx.activate fun _ => rfl, Sbx.dropping, hact]
    rfl
  have hkept : s.sbx.staged.filter (SiteMap.fits (s.rtk.origin.map originCrc)) = s.sbx.staged := by
    cases hs : s.sbx.staged with
    | none => rfl
    | some m =>
      rw [hs, Option.all_some, beq_iff_eq] at hstaged
      rw [Option.filter_some, if_pos]
      rw [SiteMap.fits, hstaged, beq_self_eq_true]
  rw [State.activateMap_of_none hnone]
  obtain ⟨hend, hload⟩ := s.originCheck.passEnd_shows us
  have hall := hend.trans hrest
  refine ⟨Sbx.get_of_rest hall Sbx.map fun _ => rfl, (Sbx.get_of_rest hall Sbx.staged fun _ => rfl).trans hkept,
    Sbx.get_of_rest hall Sbx.passF fun _ => rfl, ?_⟩
  rw [hload, State.fld_of_changesOnly hframe _ (by decide)]

/-- A pass at which the map does not fit the origin ends with no map, no route, no hold and no wait. -/
theorem State.pass_of_misfit {m : SiteMap} (hmap : s.sbx.map = some m) (hcrc : s.rtk.origin.map originCrc ≠ some m.originCrc)
    (hact : s.sbx.activate = none) (us : Nat) {t : State} (ht : t = s.originCheck.activateMap.passEnd us) :
    t.sbx.map = none ∧ (∀ a, (t.sx a).idle) ∧ ((s.laneActive && !s.switching) = true → bit t.pend Ev.sbxMap = true) := by
  subst ht
  obtain ⟨u, hu, hcheck⟩ := State.originCheck_of_misfit s hmap hcrc
  obtain ⟨hdrop, hdropped⟩ := s.dropStaged_shows (s.rtk.origin.map originCrc)
  have hrevoke := (s.dropStaged (s.rtk.origin.map originCrc)).revokeAll_passWork
  rw [← hu] at hrevoke
  let v : State := { u with sbx := { u.sbx with map := none } }
  have hv : s.originCheck.sbx = v.showMap.sbx := by rw [hcheck, State.mapEvent_sbx]
  have hrest : s.originCheck.sbx.rest = v.sbx.rest := (congrArg Sbx.rest hv).trans v.showMap_passWork.rest
  have hnone : s.originCheck.sbx.activate = none :=
    calc _ = v.sbx.activate := Sbx.get_of_rest hrest Sbx.activate fun _ => rfl
      _ = (s.dropStaged (s.rtk.origin.map originCrc)).sbx.activate := Sbx.get_of_rest hrevoke.rest Sbx.activate fun _ => rfl
      _ = none := by rw [hdropped, Sbx.dropping, hact]; rfl
  have hsx : ∀ a, s.originCheck.sx a = u.sx a := fun a => by
    rw [State.sx_of_rovers (congrArg Sbx.rovers hv), State.sx_showMap]
    exact State.sx_of_rovers rfl a
  have hidle : ∀ a, (s.originCheck.sx a).idle := fun a => by
    rw [hsx, hu]
    exact State.revokeAll_idle _ a
  rw [State.activateMap_of_none hnone, State.passEnd_of_idle _ hidle]
  refine ⟨?_, fun a => ?_, fun hspeak => ?_⟩
  · rw [Sbx.get_of_rest (State.syncSbx_rest _) Sbx.map fun _ => rfl, State.setFld_sbx, Sbx.get_of_rest hrest Sbx.map fun _ => rfl]
  · rw [State.sx_syncSbx, State.sx_setFld]
    exact hidle a
  · have hend := State.setFld_then F.SBX_LOAD_MAX_US (max (min 65535 us) (s.originCheck.fld F.SBX_LOAD_MAX_US))
      (s.originCheck.changesOnly_refl [.sbx] [R.SBX_LOAD] []) (by decide)
    rw [State.bit_pend_of_changesOnly (State.syncSbx_changesOnly _) (by decide) (by decide), State.bit_pend_of_changesOnly hend (by decide) (by decide),
      hcheck]
    refine State.mapEvent_pend ?_ _ _ _ _
    have hreached : s.changesOnly v.showMap boxParts passRegs [] :=
      State.changesOnly_trans (State.changesOnly_trans (State.changesOnly_mono hdrop (by decide) (List.Subset.refl _) (List.Subset.refl _))
        hrevoke.frame) (State.changesOnly_trans (u.sbx_changesOnly _ (by decide)) v.showMap_passWork.frame)
    exact (State.lanesSpeak_of_changesOnly hreached (by decide)).trans hspeak
end

end Sys2Proof.Machine
end
section
/-! PROOF. The pass of the signal box and its expiries complete (O19). -/

namespace Sys2Proof.Machine

section
variable {s : State}

/-- An expiry that puts one rover's entry anew and gives the ground that comes free leaves the other rovers. -/
theorem State.unstopped.sx_setSx_retry (h : s.unstopped) (a : Nat) {r : SbxRover} (hr : r.stopAt = (s.sx a).stopAt) :
    (s.setSx a r).retry.sx a = r ∧ ∀ j, j ≠ a → (s.setSx a r).retry.sx j = s.sx j := by
  have hfree : (s.setSx a r).unstopped := h.setSx a (hr.trans (h a))
  refine ⟨by rw [hfree.sx_retry, State.sx_setSx_same], fun j hj => ?_⟩
  rw [hfree.sx_retry, State.sx_setSx_other hj.symm]

/-- Where the lanes speak, the withdrawals that lapse raise their event and are counted, and ground that comes free changes no rover. -/
theorem State.withdrawTimeout_shows {k : Nat} {w : Withdraw} (hfree : s.unstopped) (hw : w ∈ (s.sx k).withdraws) (hlapsed : s.wdLapsed w = true)
    {t : State} (ht : t = ((s.lapsed (s.sx k)).foldl (fun t w => t.tellLapse k w)
      (s.setSx k { s.sx k with withdraws := (s.sx k).withdraws.filter fun x => !s.wdLapsed x })).retry) :
    w ∉ (t.sx k).withdraws ∧ ((s.laneActive && !s.switching) = true → bit t.pend Ev.sbxWithdraw = true) ∧ (∀ j, j ≠ k → t.sx j = s.sx j) ∧
      t.fld F.SBX_CNT1_WD_TIMEOUT = min (s.fld F.SBX_CNT1_WD_TIMEOUT
        + (((s.sx k).withdraws.filter s.wdLapsed).map (·.prevId)).eraseDups.length) (2 ^ F.SBX_CNT1_WD_TIMEOUT.width - 1) := by
  subst ht
  let u : State := s.setSx k { s.sx k with withdraws := (s.sx k).withdraws.filter fun x => !s.wdLapsed x }
  have hput : s.changesOnly u [.sbx] [] [] := s.setSx_changesOnly k _ (by decide)
  have hold := u.foldl_tellLapse_changesOnly k (s.lapsed (s.sx k))
  have hsbx : ((s.lapsed (s.sx k)).foldl (fun t w => t.tellLapse k w) u).sbx = u.sbx := hold.2.1 .sbx (by decide)
  have hquiet : u.unstopped := hfree.setSx k (hfree k)
  have hstill : ((s.lapsed (s.sx k)).foldl (fun t w => t.tellLapse k w) u).unstopped := hquiet.of_rovers (congrArg Sbx.rovers hsbx)
  have hsx : ∀ j, ((s.lapsed (s.sx k)).foldl (fun t w => t.tellLapse k w) u).retry.sx j = u.sx j := fun j => by
    rw [hstill.sx_retry, State.sx_of_rovers (congrArg Sbx.rovers hsbx)]
  have hsome : s.lapsed (s.sx k) ≠ [] := fun hnil => by
    have hlen := s.length_lapsed (s.sx k)
    rw [hnil, List.length_nil] at hlen
    have hmem : w.prevId ∈ (((s.sx k).withdraws.filter s.wdLapsed).map (·.prevId)).eraseDups :=
      List.mem_eraseDups.mpr (List.mem_map.mpr ⟨w, List.mem_filter.mpr ⟨hw, hlapsed⟩, rfl⟩)
    rw [List.length_eq_zero_iff.mp hlen.symm] at hmem
    exact List.not_mem_nil hmem
  refine ⟨?_, fun hspeak => ?_, fun j hj => ?_, ?_⟩
  · rw [hsx, State.sx_setSx_same]
    intro hleft
    obtain ⟨-, hnot⟩ := List.mem_filter.mp hleft
    rw [hlapsed] at hnot
    exact absurd hnot (by decide)
  · rw [State.bit_pend_of_changesOnly hstill.retry_changesOnly (by decide) (by decide)]
    exact State.foldl_tellLapse_pend u ((State.lanesSpeak_of_changesOnly hput (by decide)).trans hspeak) k hsome
  · rw [hsx, State.sx_setSx_other hj.symm]
  · rw [State.fld_of_changesOnly hstill.retry_changesOnly _ (by decide), State.fld_foldl_tellLapse, State.length_lapsed,
      State.fld_of_changesOnly hput _ (by decide)]

/-- The pass at its time begins with its superframe noted. -/
theorem State.mapBlocker_atPass (f : Nat) (n : SiteMap) : (s.atPass f).mapBlocker n = s.mapBlocker n := State.mapBlocker_congr rfl n
end

/-- Settles O19: each event by the rule of its expiry or of its step of the pass; a retry of waiting rovers changes nothing while none has
stopped at a block. -/
theorem signalBoxPassAndExpiriesComplete : Obligations.SignalBoxPassAndExpiriesComplete := by
  unfold Obligations.SignalBoxPassAndExpiriesComplete
  refine ⟨?activate, ?still, ?misfit, ?notDue, ?authority, ?releasing, ?avoid, ?withdraw, ?preview, ?disable, ?staged, ?failed⟩
  case activate =>
    intro s us n hrun hdue hnew hfit hact hcrc hfree
    exact ⟨_, execSbxPass_of_due us hrun hdue hnew,
      State.pass_of_activate (s := s.atPass s.laneSf) hfit hact hcrc ((State.mapBlocker_atPass _ n).trans hfree) us rfl⟩
  case still =>
    intro s us hrun hdue hnew hfit hact hstaged
    exact ⟨_, execSbxPass_of_due us hrun hdue hnew, State.pass_of_still (s := s.atPass s.laneSf) hfit hact hstaged us rfl⟩
  case misfit =>
    intro s us m hrun hdue hnew hmap hcrc hact
    obtain ⟨hnone, hidle, hspeak⟩ := State.pass_of_misfit (s := s.atPass s.laneSf) hmap hcrc hact us rfl
    exact ⟨_, execSbxPass_of_due us hrun hdue hnew, hnone, fun j _ => hidle j, hspeak⟩
  case notDue =>
    intro s us hnot
    exact ⟨s, execSbxPass_of_not_due us hnot, rfl⟩
  case authority =>
    intro s k a e hrun hauth hexp he hslots
    obtain ⟨hsame, hother⟩ := (State.unstopped_of_slots hslots).sx_setSx_retry k.val (r := { s.sx k.val with auth := none }) rfl
    exact ⟨_, execAuthorityExpiry_of_expired hrun hauth hexp he, by rw [hsame], by rw [hsame], fun j _ hj => hother j hj⟩
  case releasing =>
    intro s k r e hrun hr hexp he hslots
    obtain ⟨hsame, hother⟩ :=
      (State.unstopped_of_slots hslots).sx_setSx_retry k.val (r := { s.sx k.val with releasing := s.relLive (s.sx k.val) }) rfl
    exact ⟨_, execReleasingExpiry_of_expired hrun hr hexp he, by rw [hsame]; exact s.relLive_eq _, by rw [hsame], fun j _ hj => hother j hj⟩
  case avoid =>
    intro s k v hrun hv hpast
    exact ⟨_, execAvoidExpiry_of_past hrun hv hpast, State.sx_setSx_same _ _ _, fun j _ hj => State.sx_setSx_other hj.symm _⟩
  case withdraw =>
    intro s k w f hrun hw hsf hpast hslots
    have hlapsed := State.wdLapsed_of_past hsf hpast
    obtain ⟨hgone, hspeak, hother, hcount⟩ := State.withdrawTimeout_shows (State.unstopped_of_slots hslots) hw hlapsed rfl
    exact ⟨_, execWithdrawTimeout_of_lapsed hrun hw hlapsed, hgone, hspeak, fun j _ hj => hother j hj, hcount⟩
  case preview =>
    intro s k a e hrun htent hexp he hslots
    have hfree := State.unstopped_of_slots hslots
    obtain ⟨hsame, hother⟩ := hfree.sx_setSx_retry k.val (r := { s.sx k.val with tent := none }) rfl
    have hquiet : (s.setSx k.val { s.sx k.val with tent := none }).unstopped := hfree.setSx k.val (hfree k.val)
    exact ⟨_, execPreviewExpiry_of_expired hrun htent hexp he, by rw [hsame], by rw [hsame], fun j _ hj => hother j hj,
      congrArg Ttb.jobs (hquiet.retry_changesOnly.2.1 .ttb (by decide))⟩
  case disable =>
    intro s
    obtain ⟨hoff, hholds⟩ := s.previewDisable_shows
    exact ⟨_, rfl, hoff, fun j _ => hholds j⟩
  case staged =>
    intro s off len p hrun hstaging hp hgood
    obtain ⟨⟨hstaged, hnone, hmap⟩, hid, herr, hframe⟩ := s.stageMap_shows (parseMap p)
    refine ⟨_, execSbxMapStageDone_of_good hrun hstaging hp hgood, ?_, ?_, ?_, ?_, ?_, fun hspeak => ?_⟩
    · rw [State.mapEvent_sbx, hstaged]
    · rw [State.mapEvent_sbx, hnone]
    · rw [State.mapEvent_sbx, hmap]
    · rw [(State.mapEvent_changesOnly _ _ _ _ _).2.2 _ (by decide) nofun, hid]
      rfl
    · rw [(State.mapEvent_changesOnly _ _ _ _ _).2.2 _ (by decide) nofun, herr]
    · exact State.mapEvent_pend ((State.lanesSpeak_of_changesOnly hframe (by decide)).trans hspeak) _ _ _ _
  case failed =>
    intro s off len code kind index p hrun hstaging hp hbad
    obtain ⟨hsbx, hcode, hframe⟩ := s.failMap_shows code kind index (code_of_checkMap hbad)
    refine ⟨_, execSbxMapStageDone_of_bad hrun hstaging hp hbad, ?_, ?_, ?_, ?_, fun hspeak => ?_⟩
    · rw [State.mapEvent_sbx, hsbx]
    · rw [State.mapEvent_sbx, hsbx]
    · rw [State.mapEvent_sbx, hsbx]
    · rw [State.fld_of_changesOnly (State.mapEvent_changesOnly _ _ _ _ _) _ (by decide), hcode]
    · exact State.mapEvent_pend ((State.lanesSpeak_of_changesOnly hframe (by decide)).trans hspeak) _ _ _ _

end Sys2Proof.Machine
end
section
/-! SUPPORT. The commands of the signal box: maps, releases, revocations, zones and what SBX_GET_STATE shows. -/

namespace Sys2Proof.Machine

/-! ### What a command leaves -/

section
variable {s u : State} {c : Cmd} {op : Op} {r : Reply}

theorem State.sbx_entered (s : State) (c : Cmd) (op : Op) : (s.entered c op).sbx = s.sbx := s.entered_same c op .sbx (by decide)

theorem State.sx_entered (s : State) (c : Cmd) (op : Op) (a : Nat) : (s.entered c op).sx a = s.sx a :=
  State.sx_of_rovers (congrArg Sbx.rovers (s.sbx_entered c op)) a

/-- What delivering a reply leaves of the work of an opcode of the signal box. -/
theorem State.host_boxLeft_of_run (ht : s.takes c op = true) (hop : op.post = fun _ t => t)
    (hrun : op.run (s.entered c op) c.sid.val c.seq.toNat c.payload = (u, some r)) :
    (s.host c op).sbx = u.sbx ∧ (s.host c op).ttb = u.ttb ∧ ∀ f : Fld, f.addr ∉ busRegs → (s.host c op).fld f = u.fld f :=
  have hframe := State.host_changesOnly_of_run ht hop hrun
  ⟨hframe.2.1 .sbx (by decide), hframe.2.1 .ttb (by decide), fun f hf => State.fld_of_changesOnly hframe f hf⟩

/-- A command of the signal box is answered as its opcode says, and what the signal box has, the jobs of the timetabler and the registers
are as the opcode left them. -/
theorem State.host_box_of_run (ht : s.takes c op = true) (hop : op.post = fun _ t => t)
    (hrun : op.run (s.entered c op) c.sid.val c.seq.toNat c.payload = (u, some r)) (hsvb : u.svb = (s.entered c op).svb) :
    (s.host c op).answered c r ∧ (s.host c op).sbx = u.sbx ∧ (s.host c op).ttb = u.ttb ∧
      ∀ f : Fld, f.addr ∉ busRegs → (s.host c op).fld f = u.fld f :=
  ⟨State.host_answered_of_sess ht hop hrun (State.sess_of_svb hsvb _), State.host_boxLeft_of_run ht hop hrun⟩

theorem State.unstopped.entered (h : s.unstopped) (c : Cmd) (op : Op) : (s.entered c op).unstopped :=
  h.of_rovers (congrArg Sbx.rovers (s.sbx_entered c op))
end

/-! ### Maps (R173, R174) -/

section
variable {s : State} (sid seq : Nat) {p : List Byte}

/-- An image waits for its check. -/
def State.withStaging (s : State) (off len : Nat) : State := { s with sbx := { s.sbx with staging := some (off, len) } }

/-- A staged map waits for the next pass. -/
def State.withActivate (s : State) (m : SiteMap) : State := { s with sbx := { s.sbx with activate := some m } }

theorem doSbxMapStage_of_inside (h8 : p.length = 8) (halign : rdN p 0 4 % 4 = 0) (hend : rdN p 0 4 + rdN p 4 4 ≤ 0x08000000) :
    doSbxMapStage s sid seq p = (s.withStaging (rdN p 0 4) (rdN p 4 4), some ⟨St.accepted, []⟩) := by
  have hrange : imageRangeOk (rdN p 0 4) (rdN p 4 4) = true := by
    rw [imageRangeOk, halign, decide_eq_true hend]
    rfl
  exact (if_pos h8).trans (if_neg (by rw [hrange]; decide))

theorem doSbxMapActivate_of_free {m : SiteMap} (h4 : p.length = 4) (hstaged : s.sbx.staged = some m) (hid : m.id = rdN p 0 4)
    (hfree : s.mapBlocker m = none) :
    doSbxMapActivate s sid seq p = (s.withActivate m, some ⟨St.ok, le 1 255 ++ zeros 3⟩) := by
  unfold doSbxMapActivate withLen
  rw [if_pos h4, hstaged]
  dsimp only
  rw [if_neg (not_not.mpr hid), hfree]
  rfl

theorem doSbxMapActivate_of_blocked {m : SiteMap} {a : Nat} (h4 : p.length = 4) (hstaged : s.sbx.staged = some m) (hid : m.id = rdN p 0 4)
    (hheld : s.mapBlocker m = some a) :
    doSbxMapActivate s sid seq p = (s, some ⟨St.fleetNotStopped, le 1 a ++ zeros 3⟩) := by
  unfold doSbxMapActivate withLen
  rw [if_pos h4, hstaged]
  dsimp only
  rw [if_neg (not_not.mpr hid), hheld]

/-! ### Releases (R180, R198) -/

/-- A rover without a NONE hold. -/
def SbxRover.unheld (r : SbxRover) : SbxRover := { r with noneHold := false, occ := [] }

theorem State.setSx_endWait_changesOnly (s : State) (a : Nat) (r : SbxRover) : s.changesOnly ((s.endWait a).setSx a r) [.sbx] [] [] :=
  State.changesOnly_trans (s.setSx_changesOnly _ _ (by decide)) (State.setSx_changesOnly _ _ _ (by decide))

theorem doSbxRelease_of_route (h4 : p.length = 4) (ha : rdN p 0 1 ≤ 127) (hmode : rdN p 1 1 = 0) {t : State}
    (ht : t = s.endWait (rdN p 0 1)) :
    doSbxRelease s sid seq p = ((t.setSx (rdN p 0 1) { t.sx (rdN p 0 1) with route := [] }).syncSbx, some ⟨St.ok, zeros 4⟩) := by
  subst ht
  exact (if_pos h4).trans ((if_neg (by omega)).trans (if_pos hmode))

theorem doSbxRelease_of_hold (h4 : p.length = 4) (ha : rdN p 0 1 ≤ 127) (hmode : rdN p 1 1 = 1)
    (hhold : (s.sx (rdN p 0 1)).noneHold = true) :
    doSbxRelease s sid seq p = ((s.setSx (rdN p 0 1) (s.sx (rdN p 0 1)).unheld).retry,
      some ⟨St.ok, le 2 (s.sx (rdN p 0 1)).occ.length ++ zeros 2⟩) := by
  refine (if_pos h4).trans ((if_neg (by omega)).trans ((if_neg (by omega)).trans (if_neg ?_)))
  rw [hhold]
  decide

/-! ### Revocations (R198) -/

theorem doSbxRevoke_of_mode (h4 : p.length = 4) (ha : rdN p 0 1 ≤ 127) (hmode : rdN p 1 1 ≤ 1) :
    doSbxRevoke s sid seq p = ((s.curtail (rdN p 0 1) (rdN p 1 1 == 0)).1.retry,
      some ⟨St.ok, le 2 (if (s.cutBlock (rdN p 0 1)).isSome then (s.sx (rdN p 0 1)).authId
        else ((s.sx (rdN p 0 1)).authId + 65535) % 65536) ++ zeros 2⟩) :=
  (if_pos h4).trans (if_neg (by omega))

variable (s)

theorem State.hand_changesOnly {ps : List Part} {rs : List Nat} {bs : List Block} (a : Nat) (preview : Bool) (cls : Nat) (x : Auth)
    (h : Part.ttb ∈ ps) : s.changesOnly (s.hand a preview cls x) ps rs bs :=
  State.changesOnly_part .ttb h (fun q hq => by cases q <;> simp_all [Part.same, State.dramByte, State.hand]) rfl rfl

theorem State.issueAuth_changesOnly (a : Nat) (blocks : List Nat) (endOfs : Nat) (cutBack revoked last : Bool) :
    s.changesOnly (s.issueAuth a blocks endOfs cutBack revoked last) [.sbx, .ttb] [R.SBX_CNT0] [] :=
  State.changesOnly_trans (State.changesOnly_trans (s.setSx_changesOnly _ _ (by decide)) (State.satInc_changesOnly _ _ (.inl (by decide))))
    (State.hand_changesOnly _ _ _ _ _ (by decide))

theorem State.releaseBut_changesOnly (a : Nat) (cur : Option Nat) : s.changesOnly (s.releaseBut a cur) [.sbx] [] [] := by
  have hroute := s.setSx_endWait_changesOnly a { (s.endWait a).sx a with route := [] }
  unfold State.releaseBut
  extract_lets r t
  split
  · exact State.changesOnly_trans hroute (State.setSx_changesOnly _ _ _ (by decide))
  · exact hroute

/-- A rover cut back changes nothing beside the signal box, the jobs and the count of grants. -/
theorem State.curtail_changesOnly (a : Nat) (revoke : Bool) : s.changesOnly (s.curtail a revoke).1 [.sbx, .ttb] [R.SBX_CNT0] [] := by
  have hrelease : ∀ cur, s.changesOnly (s.releaseBut a cur) [.sbx, .ttb] [R.SBX_CNT0] [] := fun cur =>
    State.changesOnly_mono (s.releaseBut_changesOnly a cur) (by decide) (List.nil_subset _) (List.Subset.refl _)
  cases hcut : s.cutBlock a with
  | none =>
    rw [State.curtail_of_nowhere hcut]
    exact State.changesOnly_trans (hrelease none) (State.setSx_changesOnly _ _ _ (by decide))
  | some b =>
    obtain ⟨ofs, hcurtail⟩ := State.curtail_of_block hcut revoke
    rw [hcurtail]
    exact State.changesOnly_trans (hrelease (some b)) (State.issueAuth_changesOnly _ _ _ _ _ _ _)

variable {s}

/-- Rovers that have not stopped do not stop by the cut-back of one of them. -/
theorem State.unstopped.curtail (h : s.unstopped) (a : Nat) (revoke : Bool) : (s.curtail a revoke).1.unstopped := fun b => by
  have hcut := s.curtail_curtails a revoke
  by_cases hab : a = b
  · rw [← hab, hcut.stopAt]
  · rw [hcut.others b hab, h b]

/-- A rover cut back to a block has an authority over that block alone, and its other blocks are RELEASING. -/
theorem State.curtail_issues {a b : Nat} (hcut : s.cutBlock a = some b) (revoke : Bool) {r : SbxRover} (hr : r = (s.curtail a revoke).1.sx a) :
    r.auth.map (fun x => (x.id, x.revoked, x.cutBack)) = some ((s.sx a).authId, revoke, !revoke) ∧
      r.auth.map (fun x => x.blocks) = some [b + (if s.travelRev a b then 16384 else 0)] ∧
        (s.laneAuth a).all (fun x => x.blocks.all fun w => wordBlock w == b || r.releasing.any fun y => y.block == wordBlock w) = true := by
  obtain ⟨l, hsx, hreleased⟩ := s.sx_releaseBut a (some b)
  obtain ⟨ofs, hcurtail⟩ := State.curtail_of_block hcut revoke
  rw [hcurtail, State.sx_issueAuth, if_pos rfl, hsx, if_pos rfl] at hr
  subst hr
  refine ⟨rfl, rfl, ?_⟩
  cases hlive : s.laneAuth a with
  | none => rfl
  | some x =>
    refine List.all_eq_true.mpr fun w hw => ?_
    rcases hreleased x hlive w hw with hcur | ⟨y, hy, hyw⟩
    · rw [Option.some.inj hcur, beq_self_eq_true, Bool.true_or]
    · exact Bool.or_eq_true_iff.mpr (.inr (List.any_eq_true.mpr ⟨y, hy, beq_iff_eq.mpr hyw⟩))

/-! ### Zones (R200) -/

variable (s)

/-- A zone has another capacity, and a count above it raises the event. -/
def State.setZone (s : State) (m : SiteMap) (z n : Nat) : State :=
  let t : State := { s with sbx := { s.sbx with zoneCap := Tbl.put none s.sbx.zoneCap z (some n) } }
  if n < (s.zoneCount m z).length then t.raise Ev.sbxZone (le 2 z ++ le 1 n ++ le 1 (s.zoneCount m z).length) else t

theorem State.setZone_sbx (m : SiteMap) (z n : Nat) :
    (s.setZone m z n).sbx = { s.sbx with zoneCap := Tbl.put none s.sbx.zoneCap z (some n) } := by
  unfold State.setZone
  extract_lets r t
  split
  · exact t.raise_sbx (by decide) _
  · rfl

theorem State.setZone_eventsOnly (m : SiteMap) (z n : Nat) : s.eventsOnly (s.setZone m z n) := by
  have hput : ∀ x : Sbx, s.eventsOnly { s with sbx := x } := fun x =>
    State.eventsOnly_of_changesOnly (s.sbx_changesOnly (ps := [.sbx]) (rs := []) (bs := []) x (by decide)) (by decide) (by decide)
  unfold State.setZone
  extract_lets r t
  exact State.eventsOnly_ite ((hput _).trans (t.raise_eventsOnly _ _)) (hput _)

variable {s}

theorem doSbxZoneSet_of_zone {m : SiteMap} (h4 : p.length = 4) (hmap : s.sbx.map = some m) (hz : rdN p 0 2 < m.zones.length)
    (hcap : rdN p 2 1 ≤ 128) :
    doSbxZoneSet s sid seq p = ((s.setZone m (rdN p 0 2) (rdN p 2 1)).retry,
      some ⟨St.ok, le 1 (s.zoneCapOf m (rdN p 0 2)) ++ le 1 (s.zoneCount m (rdN p 0 2)).length ++ zeros 2⟩) := by
  unfold doSbxZoneSet withLen
  rw [if_pos h4, hmap]
  exact if_neg (by omega)

/-- The capacity set is the one in force. -/
theorem State.zoneCapOf_of_cap {t : State} {m : SiteMap} {z n : Nat} (h : t.sbx.zoneCap = Tbl.put none s.sbx.zoneCap z (some n)) :
    t.zoneCapOf m z = n := by
  rw [State.zoneCapOf, h, Tbl.get_put_same]

/-! ### SBX_GET_STATE (R200) -/

/-- One byte is at most 255. -/
theorem rdN_one_lt (p : List Byte) (o : Nat) : rdN p o 1 < 256 := by
  unfold rdN
  cases p.drop o with
  | nil => decide
  | cons b l => exact b.isLt

theorem doSbxGetState_of_rovers (h4 : p.length = 4) (hn : rdN p 3 1 ≠ 0) (hkind : rdN p 0 1 = 0) (hmost : rdN p 3 1 ≤ 64)
    (hend : rdN p 1 2 + rdN p 3 1 ≤ 128) :
    doSbxGetState s sid seq p = (s, some ⟨St.ok, ((List.range (rdN p 3 1)).map fun i => s.sbxRoverEntry (rdN p 1 2 + i)).flatten⟩) := by
  unfold doSbxGetState withLen
  rw [if_pos h4, hkind]
  exact if_neg (by omega)

theorem doSbxGetState_of_blocks {m : SiteMap} (h4 : p.length = 4) (hn : rdN p 3 1 ≠ 0) (hkind : rdN p 0 1 = 1) (hmap : s.sbx.map = some m)
    (hend : rdN p 1 2 + rdN p 3 1 ≤ m.blocks.length) :
    doSbxGetState s sid seq p = (s, some ⟨St.ok, ((List.range (rdN p 3 1)).map fun i => s.sbxBlockEntry (rdN p 1 2 + i)).flatten⟩) := by
  have hbyte : rdN p 3 1 < 256 := rdN_one_lt p 3
  unfold doSbxGetState withLen
  rw [if_pos h4, hkind, hmap]
  exact if_neg (by omega)

theorem doSbxGetState_of_zones {m : SiteMap} (h4 : p.length = 4) (hn : rdN p 3 1 ≠ 0) (hkind : rdN p 0 1 = 2) (hmap : s.sbx.map = some m)
    (hmost : rdN p 3 1 ≤ 64) (hend : rdN p 1 2 + rdN p 3 1 ≤ m.zones.length) :
    doSbxGetState s sid seq p = (s, some ⟨St.ok, ((List.range (rdN p 3 1)).map fun i => s.sbxZoneEntry m (rdN p 1 2 + i)).flatten⟩) := by
  unfold doSbxGetState withLen
  rw [if_pos h4, hkind, hmap]
  exact if_neg (by omega)

theorem doSbxGetState_of_points {m : SiteMap} (h4 : p.length = 4) (hn : rdN p 3 1 ≠ 0) (hkind : rdN p 0 1 = 3) (hmap : s.sbx.map = some m)
    (hend : rdN p 1 2 + rdN p 3 1 ≤ m.points.length) :
    doSbxGetState s sid seq p = (s, some ⟨St.ok, ((List.range (rdN p 3 1)).map fun i => s.sbxPointsEntry m (rdN p 1 2 + i)).flatten⟩) := by
  have hbyte : rdN p 3 1 < 256 := rdN_one_lt p 3
  unfold doSbxGetState withLen
  rw [if_pos h4, hkind, hmap]
  exact if_neg (by omega)
end

end Sys2Proof.Machine
end
section
/-! SUPPORT. Requests: a route whose blocks all pass every rule is granted whole. -/

namespace Sys2Proof.Machine

/-! ### The slots of the signal box when a rover's entry is put anew -/

/-- Of two lists of slots the second is the first, or has one of its members once more, before all others of that member. -/
def repeats (a : Nat) (k l : List Nat) : Prop := l = k ∨ ∃ k1 k2, k = k1 ++ k2 ∧ l = k1 ++ a :: k2 ∧ a ∉ k1 ∧ a ∈ k2

section
variable {a : Nat} {k l : List Nat} {p : Nat → Bool}

theorem repeats.filter_eq (h : repeats a k l) (hp : p a = false) : l.filter p = k.filter p := by
  obtain rfl | ⟨k1, k2, rfl, rfl, -, -⟩ := h
  · rfl
  · rw [List.filter_append, List.filter_append, List.filter_cons_of_neg (by rw [hp]; exact Bool.false_ne_true)]

theorem repeats.any_eq (h : repeats a k l) : l.any p = k.any p := by
  obtain rfl | ⟨k1, k2, rfl, rfl, -, ha⟩ := h
  · rfl
  · have habsorb : (p a || k2.any p) = k2.any p := by
      cases hp : p a with
      | false => rfl
      | true => exact (List.any_eq_true.mpr ⟨a, ha, hp⟩).symm
    rw [List.any_append, List.any_append, List.any_cons, habsorb]

theorem repeats.mem_iff (h : repeats a k l) (b : Nat) : b ∈ l ↔ b ∈ k := by
  obtain rfl | ⟨k1, k2, rfl, rfl, -, ha⟩ := h
  · rfl
  · rw [List.mem_append, List.mem_append, List.mem_cons]
    exact or_congr_right ⟨fun hb => hb.elim (fun he => he ▸ ha) id, .inr⟩

/-- The first member that passes a test is the same, when it is none or the one repeated. -/
theorem repeats.find_eq (h : repeats a k l) (hfind : k.find? p = none ∨ k.find? p = some a) : l.find? p = k.find? p := by
  obtain rfl | ⟨k1, k2, rfl, rfl, hout, ha⟩ := h
  · rfl
  · have hfirst : k1.find? p = none := by
      by_contra hsome
      obtain ⟨b, hb⟩ := Option.ne_none_iff_exists'.mp hsome
      rw [List.find?_append, hb, Option.some_or] at hfind
      rcases hfind with hnone | hself
      · cases hnone
      · exact hout (Option.some.inj hself ▸ List.mem_of_find?_eq_some hb)
    rw [List.find?_append, List.find?_append, hfirst, Option.none_or, Option.none_or]
    rw [List.find?_append, hfirst, Option.none_or] at hfind
    by_cases hp : p a = true
    · rw [List.find?_cons_of_pos hp]
      rcases hfind with hnone | hself
      · exact absurd hp (List.find?_eq_none.mp hnone a ha)
      · exact hself.symm
    · rw [List.find?_cons_of_neg hp]
end

/-- A value put anew at an index of a table leaves its indexes, but for one that the table had out of order. -/
theorem Tbl.repeats_insert {α : Type} (t : Tbl α) {a : Nat} (v : α) (ha : a ∈ t.map (·.1)) : repeats a (t.map (·.1)) ((t.insert a v).map (·.1)) := by
  induction t with
  | nil => exact absurd ha List.not_mem_nil
  | cons p t ih =>
    obtain ⟨i, u⟩ := p
    unfold Tbl.insert
    split
    · exact .inr ⟨[], ((i, u) :: t).map (·.1), rfl, rfl, List.not_mem_nil, ha⟩
    · split
      · next hi => exact .inl (by rw [List.map_cons, List.map_cons, hi])
      · next hi =>
        rcases List.mem_cons.mp ha with heq | htail
        · exact absurd heq.symm hi
        · rcases ih htail with hsame | ⟨k1, k2, hk, hl, hout, hin⟩
          · exact .inl (congrArg (i :: ·) hsame)
          · exact .inr ⟨i :: k1, k2, congrArg (i :: ·) hk, congrArg (i :: ·) hl,
              fun h => (List.mem_cons.mp h).elim (fun he => hi he.symm) hout, hin⟩

theorem State.repeats_setSx (s : State) {a : Nat} {r : SbxRover} (ha : a ∈ s.sbxSlots) (hr : r ≠ {}) :
    repeats a s.sbxSlots (s.setSx a r).sbxSlots := by
  have hput : (s.setSx a r).sbx.rovers = s.sbx.rovers.insert a r := if_neg hr
  rw [State.sbxSlots, State.sbxSlots, hput]
  exact Tbl.repeats_insert s.sbx.rovers r ha

/-! ### When a block is grantable (Table 7-5) -/

/-- Every rule of Table 7-5 lets rover `a` be granted a block. -/
structure State.allows (s : State) (m : SiteMap) (a w : Nat) : Prop where
  known : wordBlock w < m.blocks.length
  direction : (wordRev w && !(m.block (wordBlock w)).bidir) = false
  releasing : s.isReleasing (wordBlock w) = false
  zones : (m.zonesOf (wordBlock w)).any s.sbx.zoneStops.contains = false
  held : (s.holders (wordBlock w)).filter (· != a) = []
  points : ((m.pointsOf (wordBlock w)).flatMap fun p => (m.pointBlocks p).flatMap s.holders).filter (· != a) = []
  room : s.fullZone m a (wordBlock w) = none
  tentative : s.tentHolder (wordBlock w) = none ∨ s.tentHolder (wordBlock w) = some a

theorem State.allows_of_refusal {s : State} {m : SiteMap} {a w : Nat} (h : s.refusal m a w = none) : s.allows m a w := by
  unfold State.refusal at h
  dsimp only at h
  split at h
  · cases h
  next hknown =>
  split at h
  · cases h
  next hdirection =>
  split at h
  · cases h
  next hreleasing =>
  split at h
  · cases h
  next hzones =>
  split at h
  · cases h
  · cases h
  next hheld hpoints =>
  split at h
  · cases h
  next hroom =>
  refine ⟨Nat.lt_of_not_le hknown, Bool.eq_false_iff.mpr hdirection, Bool.eq_false_iff.mpr hreleasing, Bool.eq_false_iff.mpr hzones,
    List.head?_eq_none_iff.mp hheld, List.head?_eq_none_iff.mp hpoints, hroom, ?_⟩
  split at h
  · next x hx =>
    split at h
    · next hxa => exact .inr (hx.trans (congrArg some hxa))
    · cases h
  · next hnone => exact .inl hnone

theorem State.refusal_of_allows {s : State} {m : SiteMap} {a w : Nat} (h : s.allows m a w) : s.refusal m a w = none := by
  obtain ⟨hknown, hdirection, hreleasing, hzones, hheld, hpoints, hroom, htentative⟩ := h
  unfold State.refusal
  dsimp only
  rw [if_neg (Nat.not_le.mpr hknown), if_neg (Bool.eq_false_iff.mp hdirection), if_neg (Bool.eq_false_iff.mp hreleasing),
    if_neg (Bool.eq_false_iff.mp hzones), hheld, hpoints, hroom]
  rcases htentative with hnone | hself
  · rw [hnone]
    rfl
  · rw [hself]
    exact if_pos rfl

/-! ### A rover put anew with the ground it has -/

/-- Two entries of a rover that have the same ground: committed, occupied, RELEASING, tentative or being withdrawn. -/
structure SbxRover.sameGround (r r' : SbxRover) : Prop where
  auth : r'.auth = r.auth
  occ : r'.occ = r.occ
  releasing : r'.releasing = r.releasing
  tent : r'.tent = r.tent
  withdraws : r'.withdraws = r.withdraws

section
variable {s : State} {a : Nat} {r : SbxRover} (hr : (s.sx a).sameGround r)
include hr

theorem State.sameGround_setSx (b : Nat) : (s.sx b).sameGround ((s.setSx a r).sx b) := by
  rw [State.sx_setSx]
  split
  · next hab => exact hab ▸ hr
  · exact ⟨rfl, rfl, rfl, rfl, rfl⟩

theorem State.laneAuth_setSx (b : Nat) : (s.setSx a r).laneAuth b = s.laneAuth b := by
  unfold State.laneAuth State.liveAt
  rw [(State.sameGround_setSx hr b).auth]
  rfl

theorem State.heldBlocks_setSx (b : Nat) : (s.setSx a r).heldBlocks b = s.heldBlocks b := by
  have hground := State.sameGround_setSx hr b
  unfold State.heldBlocks State.relLive
  dsimp only
  rw [State.laneAuth_setSx hr, hground.occ, hground.releasing]
  rfl

variable (ha : a ∈ s.sbxSlots) (hr0 : r ≠ {})
include ha hr0

theorem State.isReleasing_setSx (b : Nat) : (s.setSx a r).isReleasing b = s.isReleasing b := by
  have htest : (fun c => ((s.setSx a r).relLive ((s.setSx a r).sx c)).any fun x => x.block == b)
      = fun c => (s.relLive (s.sx c)).any fun x => x.block == b := funext fun c => by
    unfold State.relLive
    rw [(State.sameGround_setSx hr c).releasing]
    rfl
  unfold State.isReleasing
  rw [htest, (s.repeats_setSx ha hr0).any_eq]

/-- The other holders of a block are the same. -/
theorem State.holders_setSx (b : Nat) : ((s.setSx a r).holders b).filter (· != a) = (s.holders b).filter (· != a) := by
  unfold State.holders
  rw [funext (State.heldBlocks_setSx hr), List.filter_filter, List.filter_filter]
  exact (s.repeats_setSx ha hr0).filter_eq (by rw [bne_self_eq_false, Bool.false_and])

/-- Where the zones of a block have room for the rover they have it still. -/
theorem State.fullZone_setSx (m : SiteMap) (b : Nat) : (s.setSx a r).fullZone m a b = s.fullZone m a b := by
  have hcount : ∀ z, (!((s.setSx a r).zoneCount m z).contains a && decide (s.zoneCapOf m z ≤ ((s.setSx a r).zoneCount m z).length))
      = (!(s.zoneCount m z).contains a && decide (s.zoneCapOf m z ≤ (s.zoneCount m z).length)) := fun z => by
    have hrepeats := s.repeats_setSx ha hr0
    unfold State.zoneCount
    rw [funext (State.heldBlocks_setSx hr)]
    by_cases hin : ((s.heldBlocks a).any fun b => (m.zonesOf b).contains z) = true
    · rw [List.contains_iff_mem.mpr (List.mem_filter.mpr ⟨(hrepeats.mem_iff a).mpr ha, hin⟩),
        List.contains_iff_mem.mpr (List.mem_filter.mpr ⟨ha, hin⟩), Bool.not_true, Bool.false_and, Bool.false_and]
    · rw [hrepeats.filter_eq (Bool.eq_false_iff.mpr hin)]
  unfold State.fullZone
  exact congrArg (fun f => (m.zonesOf b).find? f) (funext hcount)

theorem State.tentHolder_setSx {b : Nat} (h : s.tentHolder b = none ∨ s.tentHolder b = some a) :
    (s.setSx a r).tentHolder b = s.tentHolder b := by
  unfold State.tentHolder at h ⊢
  dsimp only at h ⊢
  have htest : (fun c => (match ((s.setSx a r).sx c).tent with
      | some t => (t.blocks.map wordBlock).contains b
      | none => false) || ((s.setSx a r).sx c).withdraws.any fun w => w.block == b)
      = fun c => (match (s.sx c).tent with
      | some t => (t.blocks.map wordBlock).contains b
      | none => false) || (s.sx c).withdraws.any fun w => w.block == b := funext fun c => by
    rw [(State.sameGround_setSx hr c).tent, (State.sameGround_setSx hr c).withdraws]
  exact (congrArg (List.find? · _) htest).trans ((s.repeats_setSx ha hr0).find_eq h)

/-- The rules let a rover put anew with the same ground have what they let it have. -/
theorem State.allows.setSx {m : SiteMap} {w : Nat} (h : s.allows m a w) : (s.setSx a r).allows m a w where
  known := h.known
  direction := h.direction
  releasing := (State.isReleasing_setSx hr ha hr0 _).trans h.releasing
  zones := h.zones
  held := (State.holders_setSx hr ha hr0 _).trans h.held
  points := by
    have hother : ∀ b, (s.holders b).filter (· != a) = ((s.setSx a r).holders b).filter (· != a) := fun b =>
      (State.holders_setSx hr ha hr0 b).symm
    have hpoints := h.points
    simp only [List.filter_flatMap] at hpoints ⊢
    rw [← hpoints, funext hother]
  room := (State.fullZone_setSx hr ha hr0 _ _).trans h.room
  tentative := by
    rw [State.tentHolder_setSx hr ha hr0 h.tentative]
    exact h.tentative
end

end Sys2Proof.Machine
end
section
/-! SUPPORT. Requests granted whole, and requests refused. -/

namespace Sys2Proof.Machine

/-! ### Requests that reach the signal box (R182) -/

section
variable (s : State)

/-- A request is counted in its second. -/
def State.takeRequest (s : State) : State := { s.syncReq with sbx := { s.syncReq.sbx with reqCount := s.syncReq.sbx.reqCount + 1 } }

theorem State.syncReq_box : s.changesOnly s.syncReq [.sbx] [R.SBX_LOAD] [] ∧ ∃ sec n, s.syncReq.sbx = { s.sbx with reqSec := sec, reqCount := n } := by
  unfold State.syncReq
  extract_lets sec t r
  split
  · exact ⟨s.changesOnly_refl _ _ _, _, _, rfl⟩
  · have hsbx : t.sbx = s.sbx := s.setFld_sbx _ _
    exact ⟨State.changesOnly_trans (s.setFld_changesOnly _ _ (.inl (by decide))) (t.sbx_changesOnly _ (by decide)), sec, 0,
      congrArg (fun x : Sbx => { x with reqSec := sec, reqCount := 0 }) hsbx⟩

theorem State.takeRequest_changesOnly : s.changesOnly s.takeRequest [.sbx] [R.SBX_LOAD] [] :=
  State.changesOnly_trans s.syncReq_box.1 (State.sbx_changesOnly _ _ (by decide))

theorem State.takeRequest_sbx : ∃ sec n, s.takeRequest.sbx = { s.sbx with reqSec := sec, reqCount := n } := by
  obtain ⟨-, sec, n, hsbx⟩ := s.syncReq_box
  refine ⟨sec, s.syncReq.sbx.reqCount + 1, ?_⟩
  unfold State.takeRequest
  rw [hsbx]

/-- Counting a request changes nothing that a rule reads. -/
theorem State.takeRequest_sameBox : s.sameBox s.takeRequest where
  view := by
    obtain ⟨sec, n, hsbx⟩ := s.takeRequest_sbx
    have hsame := s.takeRequest_changesOnly.2.1
    refine State.boxView_congr ?_ (hsame .rtk (by decide)) (hsame .stp (by decide)) (congrArg Ttb.commitAt (hsame .ttb (by decide)))
      (congrArg TimeSt.stamp (hsame .time (by decide)))
    rw [hsbx]
    rfl
  reads a ha := s.takeRequest_changesOnly.2.2 a (by
    intro hin
    rw [List.mem_singleton.mp hin] at ha
    revert ha
    decide) nofun

variable {s}

/-- A request that is answered 2 is counted. -/
def State.countRefused (x : State × Answered) : State × Answered := (if x.2.result = 2 then x.1.satInc F.SBX_CNT0_REFUSED else x.1, x.2)

/-- A route that is neither tentative nor refused, and its answer. -/
def State.answerRoute (s : State) (q : RouteReq) (t : State) : State × Answered :=
  match t.laneAuth q.slot, (t.sx q.slot).authId == (s.sx q.slot).authId with
  | some u, false =>
    (t, ⟨if u.last && (t.sx q.slot).reason == rsNONE then 0 else 1, (t.sx q.slot).reason, u.blocks.length, (t.sx q.slot).waitOn.getD 255, u.id⟩)
  | _, _ => (t, ⟨2, (t.sx q.slot).reason, 0, (t.sx q.slot).waitOn.getD 255, 0⟩)

/-- A request is counted, and then judged by its route. -/
theorem State.routeRequest_eq (s : State) (q : RouteReq) : s.routeRequest q = State.countRefused
    (if q.tentative then s.takeRequest.tentative q
    else if s.takeRequest.routeRefusal q.slot q.mapId q.route false ≠ rsNONE then
      (if s.takeRequest.routeRefusal q.slot q.mapId q.route false = rsAVOID then s.takeRequest.satInc F.SBX_CNT1_AVOID_REF else s.takeRequest,
        ⟨2, s.takeRequest.routeRefusal q.slot q.mapId q.route false, 0, 255, 0⟩)
    else s.takeRequest.answerRoute q ((s.takeRequest.acceptRoute q.slot q.prio q.endOfs q.route).extend q.slot).retry) := by
  unfold State.routeRequest
  extract_lets u x v
  rfl

/-- A route refused is counted, and what is counted is all that changes. -/
theorem State.routeRequest_of_refusal {q : RouteReq} {why : Nat} (hq : q.tentative = false)
    (hwhy : s.takeRequest.routeRefusal q.slot q.mapId q.route false = why) (hne : why ≠ rsNONE) :
    s.routeRequest q = ((if why = rsAVOID then s.takeRequest.satInc F.SBX_CNT1_AVOID_REF else s.takeRequest).satInc F.SBX_CNT0_REFUSED,
      ⟨2, why, 0, 255, 0⟩) := by
  rw [State.routeRequest_eq, hq, if_neg Bool.false_ne_true, hwhy, if_pos hne]
  rfl

/-- A route whose first authority is the last is granted whole. -/
theorem State.routeRequest_of_grant {q : RouteReq} {t : State} {x : Auth} (hq : q.tentative = false)
    (hwhy : s.takeRequest.routeRefusal q.slot q.mapId q.route false = 0)
    (ht : t = ((s.takeRequest.acceptRoute q.slot q.prio q.endOfs q.route).extend q.slot).retry)
    (hlive : t.laneAuth q.slot = some x) (hlast : x.last = true) (hnew : (t.sx q.slot).authId ≠ (s.takeRequest.sx q.slot).authId)
    (hreason : (t.sx q.slot).reason = 0) (hwait : (t.sx q.slot).waitOn = none) :
    s.routeRequest q = (t, ⟨0, 0, x.blocks.length, 255, x.id⟩) := by
  rw [State.routeRequest_eq, hq, if_neg Bool.false_ne_true, hwhy, if_neg (by decide), ← ht, State.answerRoute, hlive, hreason, hwait,
    beq_eq_false_iff_ne.mpr hnew]
  dsimp only
  rw [hlast]
  rfl
end

/-! ### The extension of a free route (R183, R184) -/

section
variable {s : State} {m : SiteMap} {a : Nat}

/-- A route accepted is not empty, and its first block is occupied. -/
theorem State.routeRefusal_start {mapId : Nat} {route : List Nat} (h : s.routeRefusal a mapId route false = 0) :
    route ≠ [] ∧ (s.sx a).occ.contains (wordBlock (route.headD 0)) = true := by
  unfold State.routeRefusal at h
  dsimp only at h
  split at h
  · cases h
  split at h
  · cases h
  split at h
  · cases h
  next hbroken =>
  split at h
  · cases h
  next hstart =>
  refine ⟨fun hnil => hbroken (by rw [hnil]; rfl), ?_⟩
  by_contra hout
  exact hstart (by rw [Bool.eq_false_iff.mpr hout]; rfl)

/-- A run whose blocks are all free goes to its end. -/
theorem State.run_of_free {n : Nat} {route : List Nat} (hlen : route.length ≤ n) (hfree : ∀ w ∈ route, s.refusal m a w = none) :
    s.run m a n route = (route, none) := by
  induction route generalizing n with
  | nil => cases n <;> rfl
  | cons w route ih =>
    cases n with
    | zero => exact absurd hlen (Nat.not_succ_le_zero _)
    | succ n =>
      rw [State.run, hfree w List.mem_cons_self]
      dsimp only
      rw [ih (Nat.le_of_succ_le_succ hlen) fun x hx => hfree x (List.mem_cons_of_mem w hx)]

/-- END_OFS of a route granted whole. -/
def SiteMap.wholeEnd (m : SiteMap) (r : SbxRover) : Nat := min r.routeEnd (m.block (wordBlock (r.route.getLast?.getD 0))).len

/-- A rover is issued one LAST authority over its whole route. -/
def State.issueWhole (s : State) (m : SiteMap) (a : Nat) : State :=
  (s.takeOwn a ((s.sx a).route.map wordBlock)).issueAuth a (s.sx a).route (m.wholeEnd (s.sx a)) false false true

/-- A rover has its whole route and waits for nothing. -/
def State.grantRoute (s : State) (m : SiteMap) (a : Nat) : State :=
  ((s.issueWhole m a).setSx a { (s.issueWhole m a).sx a with waitOn := none, waitSince := 0, stopAt := none, reason := rsNONE }).syncZones

/-- A rover on the first block of its route, all of it free, gets it whole. -/
theorem State.extend_of_free (hmap : s.sbx.map = some m) (hwhy : s.whyNot a = 0) (hroute : (s.sx a).route ≠ [])
    (hstart : (s.sx a).occ.contains (wordBlock ((s.sx a).route.headD 0)) = true) (hlive : s.laneAuth a = none)
    (hlen : (s.sx a).route.length ≤ s.maxBlk) (hfree : ∀ w ∈ (s.sx a).route, s.refusal m a w = none) :
    s.extend a = s.grantRoute m a := by
  have hahead : ((s.sx a).route.dropWhile fun w => !(s.sx a).occ.contains (wordBlock w)) = (s.sx a).route := by
    cases hr : (s.sx a).route with
    | nil => rfl
    | cons w l =>
      rw [hr, List.headD_cons] at hstart
      exact List.dropWhile_cons_of_neg (by rw [hstart]; decide)
  have hsome : (s.sx a).route.isEmpty = false := List.isEmpty_eq_false_iff.mpr hroute
  have honce : s.extendOnce a = (s.grantRoute m a, false) := by
    unfold State.extendOnce
    dsimp only
    rw [hahead, hwhy, hsome, hmap, if_neg Bool.false_ne_true, if_neg (by decide)]
    dsimp only
    rw [State.run_of_free hlen hfree, hlive]
    dsimp only
    rw [if_neg (by rw [if_neg (by decide), hsome]; simp), if_neg (by decide)]
    rfl
  rw [State.extend, State.extendN, honce]
  rfl

/-- A rover whose withdrawals of some blocks end, as they become its own. -/
def SbxRover.retaking (r : SbxRover) (blocks : List Nat) : SbxRover := { r with withdraws := r.withdraws.filter fun w => !blocks.contains w.block }

/-- Without a hold nothing of it is converted. -/
theorem State.takeOwn_of_none (h : (s.sx a).tent = none) (blocks : List Nat) :
    s.takeOwn a blocks = s.setSx a ((s.sx a).retaking blocks) := by
  unfold State.takeOwn SbxRover.retaking
  dsimp only
  rw [h]

/-- An authority whose EXPIRY is not known yet is live. -/
theorem State.laneAuth_of_new {x : Auth} (h : (s.sx a).auth = some x) (hexp : x.expiry = none) : s.laneAuth a = some x := by
  unfold State.laneAuth State.liveAt
  rw [h]
  dsimp only
  rw [hexp]

/-- What a rover has that has been granted its whole route. -/
structure SbxRover.grants (r : SbxRover) (m : SiteMap) (r' : SbxRover) : Prop where
  auth : r'.auth = some { id := r.authId, blocks := r.route, endOfs := m.wholeEnd r, last := true }
  authId : r'.authId = (r.authId + 1) % 65536
  route : r'.route = r.route
  waitOn : r'.waitOn = none
  stopAt : r'.stopAt = none
  reason : r'.reason = 0

/-- An authority issued is counted and handed to the timetabler. -/
theorem State.issueAuth_tells (s : State) (a : Nat) (blocks : List Nat) (endOfs : Nat) (cutBack revoked last : Bool) :
    (s.issueAuth a blocks endOfs cutBack revoked last).fld F.SBX_CNT0_GRANTS
      = min (s.fld F.SBX_CNT0_GRANTS + 1) (2 ^ F.SBX_CNT0_GRANTS.width - 1) ∧
    (s.issueAuth a blocks endOfs cutBack revoked last).ttb.jobs.length = s.ttb.jobs.length + 1 := by
  unfold State.issueAuth
  extract_lets r x t
  have ht : s.changesOnly t [.sbx] [] [] := s.setSx_changesOnly _ _ (by decide)
  have hinc : t.changesOnly (t.satInc F.SBX_CNT0_GRANTS) [] [R.SBX_CNT0] [] := t.satInc_changesOnly _ (.inl (by decide))
  have hhand : ∀ (u : State) p c y, u.changesOnly (u.hand a p c y) [.ttb] [] [] := fun u p c y => u.hand_changesOnly a p c y (by decide)
  have httb : (t.satInc F.SBX_CNT0_GRANTS).ttb = s.ttb := (hinc.2.1 .ttb (by decide)).trans (ht.2.1 .ttb (by decide))
  refine ⟨?_, ?_⟩
  · rw [State.fld_of_changesOnly (hhand _ _ _ _) _ (by decide), State.fld_satInc_same _ _ (by decide),
      State.fld_of_changesOnly ht _ (by decide)]
  · rw [State.hand, List.length_append, httb]
    rfl

/-- From `s` to `t` rover `a` is granted its whole route. -/
structure State.grantsRoute (s : State) (m : SiteMap) (a : Nat) (t : State) : Prop where
  rover : (s.sx a).grants m (t.sx a)
  others : ∀ b, a ≠ b → t.sx b = s.sx b
  rest : t.sbx.rest = s.sbx.rest
  svb : t.svb = s.svb
  count : t.fld F.SBX_CNT0_GRANTS = min (s.fld F.SBX_CNT0_GRANTS + 1) (2 ^ F.SBX_CNT0_GRANTS.width - 1)
  jobs : t.ttb.jobs.length = s.ttb.jobs.length + 1

theorem State.grantRoute_grants (htent : (s.sx a).tent = none) : s.grantsRoute m a (s.grantRoute m a) := by
  have hown := State.takeOwn_of_none htent ((s.sx a).route.map wordBlock)
  have hissue : ∀ b, (s.issueWhole m a).sx b = if a = b then
      ((s.sx a).retaking ((s.sx a).route.map wordBlock)).issued (s.sx a).route (m.wholeEnd (s.sx a)) false false true else s.sx b := fun b => by
    rw [State.issueWhole, State.sx_issueAuth, hown, State.sx_setSx_same]
    split
    · rfl
    · next hab => exact State.sx_setSx_other hab _
  have hretake : s.changesOnly (s.setSx a ((s.sx a).retaking ((s.sx a).route.map wordBlock))) [.sbx] [] [] := s.setSx_changesOnly _ _ (by decide)
  have hwork : s.changesOnly (s.issueWhole m a) [.sbx, .ttb] [R.SBX_CNT0] [] := by
    rw [State.issueWhole, hown]
    exact State.changesOnly_trans (s.setSx_changesOnly _ _ (by decide)) (State.issueAuth_changesOnly _ _ _ _ _ _ _)
  have hput : (s.issueWhole m a).changesOnly (s.grantRoute m a) [.sbx] [] [] :=
    State.changesOnly_trans (State.setSx_changesOnly _ _ _ (by decide)) (State.sbx_changesOnly _ _ (by decide))
  obtain ⟨hcount, hjobs⟩ := (s.setSx a ((s.sx a).retaking ((s.sx a).route.map wordBlock))).issueAuth_tells a (s.sx a).route
    (m.wholeEnd (s.sx a)) false false true
  refine ⟨?_, fun b hab => ?_, ?_, ?_, ?_, ?_⟩
  · rw [State.grantRoute, State.sx_syncZones, State.sx_setSx_same, hissue, if_pos rfl]
    exact ⟨rfl, rfl, rfl, rfl, rfl, rfl⟩
  · rw [State.grantRoute, State.sx_syncZones, State.sx_setSx_other hab, hissue, if_neg hab]
  · rw [State.grantRoute, State.syncZones_rest, State.setSx_rest, State.issueWhole, State.issueAuth_rest, hown, State.setSx_rest]
  · exact (hput.2.1 .svb (by decide)).trans (hwork.2.1 .svb (by decide))
  · rw [State.fld_of_changesOnly hput _ (by decide), State.issueWhole, hown, hcount, State.fld_of_changesOnly hretake _ (by decide)]
  · rw [show (s.grantRoute m a).ttb = (s.issueWhole m a).ttb from hput.2.1 .ttb (by decide), State.issueWhole, hown, hjobs,
      show (s.setSx a ((s.sx a).retaking ((s.sx a).route.map wordBlock))).ttb = s.ttb from hretake.2.1 .ttb (by decide)]

/-! ### A route accepted (R182) -/

/-- A rover with a new route. -/
def SbxRover.routed (r : SbxRover) (prio endOfs : Nat) (route : List Nat) : SbxRover :=
  { r with route := route, routeEnd := endOfs, prio := prio, stopped := false, stopAt := none }

theorem State.acceptRoute_of_none (hlive : s.laneAuth a = none) (hgo : s.roverStopped a = false) (prio endOfs : Nat) (route : List Nat) :
    s.acceptRoute a prio endOfs route = s.setSx a ((s.sx a).routed prio endOfs route) := by
  unfold State.acceptRoute
  rw [hlive]
  dsimp only
  rw [hgo]
  rfl

/-- Of a rover's entry only whether it is stopped counts for why it is not extended. -/
theorem State.whyNot_setSx {r r' : SbxRover} (h : r'.stopped = r.stopped) : (s.setSx a r').whyNot a = (s.setSx a r).whyNot a := by
  unfold State.whyNot
  rw [State.sx_setSx_same, State.sx_setSx_same, h]
  rfl

/-- A request whose route is accepted, of a rover that may be extended, has neither a live authority nor a hold, and has not come to a
block it waits for; every block of the route is free for it. -/
structure State.clearRun (s : State) (m : SiteMap) (q : RouteReq) : Prop where
  accepted : s.routeRefusal q.slot q.mapId q.route false = 0
  map : s.sbx.map = some m
  runs : (s.setSx q.slot { s.sx q.slot with stopped := false }).whyNot q.slot = 0
  going : s.roverStopped q.slot = false
  bare : s.laneAuth q.slot = none
  unheld : (s.sx q.slot).tent = none
  short : q.route.length ≤ s.maxBlk
  blocks : ∀ w ∈ q.route, s.allows m q.slot w
  still : s.unstopped

/-- The rules let a rover have the same where they read the same. -/
theorem State.allows.congr {t : State} {w : Nat} (h : s.allows m a w) (hview : t.boxView = s.boxView) : t.allows m a w where
  known := h.known
  direction := h.direction
  releasing := (State.isReleasing_congr hview _).trans h.releasing
  zones := by
    rw [State.zoneStops_congr hview]
    exact h.zones
  held := by
    rw [State.holders_congr hview]
    exact h.held
  points := by
    rw [funext (State.holders_congr hview)]
    exact h.points
  room := (State.fullZone_congr hview _ _ _).trans h.room
  tentative := by
    rw [State.tentHolder_congr hview]
    exact h.tentative

theorem State.clearRun.congr {t : State} {q : RouteReq} (h : s.clearRun m q) (hsame : s.sameBox t) : t.clearRun m q where
  accepted := (hsame.routeRefusal _ _ _ _).trans h.accepted
  map := (State.map_congr hsame.view).trans h.map
  runs := by
    rw [State.sx_congr hsame.view, (hsame.setSx _ _).whyNot]
    exact h.runs
  going := (hsame.roverStopped _).trans h.going
  bare := (State.laneAuth_congr hsame.view _).trans h.bare
  unheld := by
    rw [State.sx_congr hsame.view]
    exact h.unheld
  short := by
    rw [hsame.maxBlk]
    exact h.short
  blocks w hw := (h.blocks w hw).congr hsame.view
  still b := by
    rw [State.sx_congr hsame.view]
    exact h.still b

/-- A free request is granted whole. -/
theorem State.clearRun.grants {q : RouteReq} (h : s.clearRun m q) {t : State}
    (ht : t = ((s.acceptRoute q.slot q.prio q.endOfs q.route).extend q.slot).retry) :
    (s.setSx q.slot ((s.sx q.slot).routed q.prio q.endOfs q.route)).grantsRoute m q.slot t := by
  obtain ⟨hsome, hstart⟩ := State.routeRefusal_start h.accepted
  let r : SbxRover := (s.sx q.slot).routed q.prio q.endOfs q.route
  have hground : (s.sx q.slot).sameGround r := ⟨rfl, rfl, rfl, rfl, rfl⟩
  have hknown : q.slot ∈ s.sbxSlots := by
    by_contra hout
    rw [State.sx_of_unknown hout] at hstart
    cases hstart
  have hr0 : r ≠ {} := fun h => hsome (congrArg SbxRover.route h)
  have hr : (s.setSx q.slot r).sx q.slot = r := s.sx_setSx_same q.slot r
  have hwhy : (s.setSx q.slot r).whyNot q.slot = 0 := (State.whyNot_setSx (r' := r) (r := { s.sx q.slot with stopped := false }) rfl).trans h.runs
  have hextend : (s.setSx q.slot r).extend q.slot = (s.setSx q.slot r).grantRoute m q.slot := by
    refine State.extend_of_free h.map hwhy ?_ ?_ ((State.laneAuth_setSx hground q.slot).trans h.bare) ?_ fun w hw => ?_
    · rw [hr]
      exact hsome
    · rw [hr]
      exact hstart
    · rw [hr]
      exact h.short
    · rw [hr] at hw
      exact State.refusal_of_allows ((h.blocks w hw).setSx hground hknown hr0)
  have hgrants : (s.setSx q.slot r).grantsRoute m q.slot ((s.setSx q.slot r).grantRoute m q.slot) :=
    State.grantRoute_grants (by rw [hr]; exact h.unheld)
  have hquiet : ((s.setSx q.slot r).grantRoute m q.slot).unstopped := fun b => by
    by_cases hab : q.slot = b
    · rw [← hab, hgrants.rover.stopAt]
    · rw [hgrants.others b hab, State.sx_setSx_other hab, h.still b]
  have hretry := hquiet.retry_changesOnly
  rw [State.acceptRoute_of_none h.bare h.going, hextend] at ht
  subst ht
  exact {
    rover := by
      rw [hquiet.sx_retry]
      exact hgrants.rover
    others := fun b hab => by rw [hquiet.sx_retry, hgrants.others b hab]
    rest := by rw [hquiet.retry, State.syncSbx_rest, hgrants.rest]
    svb := (hretry.2.1 .svb (by decide)).trans hgrants.svb
    count := by rw [State.fld_of_changesOnly hretry _ (by decide), hgrants.count]
    jobs := by rw [show ((s.setSx q.slot r).grantRoute m q.slot).retry.ttb = _ from hretry.2.1 .ttb (by decide), hgrants.jobs] }

/-- What a rover and its timetable have when its request has been granted whole. -/
structure State.grantedWhole (s : State) (m : SiteMap) (q : RouteReq) (t : State) : Prop where
  auth : (t.sx q.slot).auth = some { id := (s.sx q.slot).authId, blocks := q.route, last := true
                                     endOfs := min q.endOfs (m.block (wordBlock (q.route.getLast?.getD 0))).len }
  authId : (t.sx q.slot).authId = ((s.sx q.slot).authId + 1) % 65536
  route : (t.sx q.slot).route = q.route
  count : t.fld F.SBX_CNT0_GRANTS = min (s.fld F.SBX_CNT0_GRANTS + 1) (2 ^ F.SBX_CNT0_GRANTS.width - 1)
  jobs : t.ttb.jobs.length = s.ttb.jobs.length + 1
  reqs : t.sbx.reqs = s.sbx.reqs

/-- A free request is answered with its authority. -/
theorem State.routeRequest_of_clear {q : RouteReq} (hq : q.tentative = false) (h : s.clearRun m q) :
    ∃ t, s.routeRequest q = (t, ⟨0, 0, q.route.length, 255, (s.sx q.slot).authId⟩) ∧ s.grantedWhole m q t ∧ t.svb = s.svb := by
  have htaken := h.congr s.takeRequest_sameBox
  have hframe := s.takeRequest_changesOnly
  have hsx : s.takeRequest.sx q.slot = s.sx q.slot := State.sx_congr s.takeRequest_sameBox.view _
  have hg := htaken.grants rfl
  have hput : s.takeRequest.changesOnly (s.takeRequest.setSx q.slot ((s.takeRequest.sx q.slot).routed q.prio q.endOfs q.route)) [.sbx] [] [] :=
    State.setSx_changesOnly _ _ _ (by decide)
  have hrover := hg.rover
  rw [State.sx_setSx_same, hsx] at hrover
  refine ⟨_, State.routeRequest_of_grant hq htaken.accepted rfl (State.laneAuth_of_new hrover.auth rfl) rfl ?_ hrover.reason hrover.waitOn, ?_,
    hg.svb.trans ((hput.2.1 .svb (by decide)).trans (hframe.2.1 .svb (by decide)))⟩
  · rw [hrover.authId, hsx]
    show ((s.sx q.slot).authId + 1) % 65536 ≠ (s.sx q.slot).authId
    omega
  · exact {
      auth := hrover.auth
      authId := hrover.authId
      route := hrover.route
      count := by rw [hg.count, State.fld_of_changesOnly hput _ (by decide), State.fld_of_changesOnly hframe _ (by decide)]
      jobs := by rw [hg.jobs, show (s.takeRequest.setSx q.slot _).ttb = s.takeRequest.ttb from hput.2.1 .ttb (by decide),
        show s.takeRequest.ttb = s.ttb from hframe.2.1 .ttb (by decide)]
      reqs := by
        obtain ⟨sec, n, hsbx⟩ := s.takeRequest_sbx
        rw [Sbx.get_of_rest hg.rest Sbx.reqs fun _ => rfl, Sbx.get_of_rest (State.setSx_rest _ _ _) Sbx.reqs fun _ => rfl, hsbx] }

/-- What a refused request leaves. -/
theorem State.routeRequest_of_bad {q : RouteReq} {why : Nat} (hq : q.tentative = false)
    (hwhy : s.routeRefusal q.slot q.mapId q.route false = why) (hne : why ≠ rsNONE) :
    ∃ t, s.routeRequest q = (t, ⟨2, why, 0, 255, 0⟩) ∧ t.svb = s.svb ∧ (∀ j, t.sx j = s.sx j) ∧
      t.fld F.SBX_CNT0_REFUSED = min (s.fld F.SBX_CNT0_REFUSED + 1) (2 ^ F.SBX_CNT0_REFUSED.width - 1) := by
  refine ⟨_, State.routeRequest_of_refusal hq ((s.takeRequest_sameBox.routeRefusal _ _ _ _).trans hwhy) hne, ?_⟩
  have hframe := s.takeRequest_changesOnly
  have havoid : s.takeRequest.changesOnly (if why = rsAVOID then s.takeRequest.satInc F.SBX_CNT1_AVOID_REF else s.takeRequest) []
      [R.SBX_CNT1] [] := State.ite_changesOnly (State.satInc_changesOnly _ _ (.inl (by decide))) (State.changesOnly_refl _ _ _ _)
  have hinc : ∀ t : State, t.changesOnly (t.satInc F.SBX_CNT0_REFUSED) [] [R.SBX_CNT0] [] := fun t => t.satInc_changesOnly _ (.inl (by decide))
  refine ⟨?_, fun j => ?_, ?_⟩
  · exact ((hinc _).2.1 .svb (by decide)).trans ((havoid.2.1 .svb (by decide)).trans (hframe.2.1 .svb (by decide)))
  · rw [State.sx_satInc, State.sx_of_rovers (congrArg Sbx.rovers (havoid.2.1 .sbx (by decide))), State.sx_congr s.takeRequest_sameBox.view]
  · rw [State.fld_satInc_same _ _ (by decide), State.fld_of_changesOnly havoid _ (by decide), State.fld_of_changesOnly hframe _ (by decide)]

/-! ### Requests of a host and of allotment (R182, R185) -/

/-- The request that a payload of SBX_REQUEST makes. -/
def requestOf (p : List Byte) : RouteReq :=
  ⟨rdN p 0 1, rdN p 1 1, bit (rdN p 2 1) 0, rdN p 4 4, (List.range (rdN p 8 2)).map fun i => rdN p (12 + 2 * i) 2, rdN p 10 2⟩

/-- What SBX_REQUEST answers. -/
def Answered.bytes (r : Answered) : List Byte := le 1 r.result ++ le 1 r.reason ++ le 1 r.blocks ++ le 1 r.waitOn ++ le 2 r.id ++ zeros 2

/-- The ranges of Table 7-7 for a payload of SBX_REQUEST that asks for a committed authority. -/
structure asksWhole (p : List Byte) : Prop where
  length : p.length = 12 + 2 * rdN p 8 2
  slot : rdN p 0 1 ≤ 127
  prio : rdN p 1 1 ≤ 7
  some : rdN p 8 2 ≠ 0
  most : rdN p 8 2 ≤ 512
  words : ((requestOf p).route.all fun w => decide (w < 32768)) = true
  committed : rdN p 2 1 = 0

theorem asksWhole.not_tentative {p : List Byte} (h : asksWhole p) : (requestOf p).tentative = false := by
  rw [requestOf, h.committed]
  rfl

theorem doSbxRequest_of_asks {p : List Byte} (sid seq : Nat) (h : asksWhole p)
    (hend : s.beyondEnd (rdN p 4 4) (rdN p 10 2) (requestOf p).route = false) {t : State} {r : Answered}
    (hreq : s.routeRequest (requestOf p) = (t, r)) : doSbxRequest s sid seq p = (t, some ⟨St.ok, r.bytes⟩) := by
  obtain ⟨hlength, hslot, hprio, hsome, hmost, hless, hcommitted⟩ := h
  have hwords : ((requestOf p).route.any fun w => decide (32768 ≤ w)) = false := List.any_eq_false.mpr fun w hw => by
    have hless := of_decide_eq_true (List.all_eq_true.mp hless w hw)
    exact decide_eq_true_iff.not.mpr (Nat.not_le.mpr hless)
  have hfits : ¬(127 < rdN p 0 1 ∨ 7 < rdN p 1 1 ∨ 1 < rdN p 2 1 ∨ rdN p 8 2 = 0 ∨ 512 < rdN p 8 2
      ∨ (requestOf p).route.any (fun w => decide (32768 ≤ w)) = true ∨ s.beyondEnd (rdN p 4 4) (rdN p 10 2) (requestOf p).route = true) := by
    simp only [hwords, hend, Bool.false_eq_true, or_false]
    omega
  have hrun : doSbxRequest s sid seq p
      = okWith (s.routeRequest (requestOf p)).1 (s.routeRequest (requestOf p)).2.bytes :=
    (if_neg (by omega)).trans ((if_neg (not_not.mpr hlength)).trans (if_neg hfits))
  rw [hrun, hreq]
  rfl

/-- What allotment has submitted is taken in order. -/
def State.withReqs (s : State) (l : List RouteReq) : State := { s with sbx := { s.sbx with reqs := l } }

theorem State.withReqs_sameBox (s : State) (l : List RouteReq) : s.sameBox (s.withReqs l) := ⟨rfl, fun _ _ => rfl⟩

/-- A request of allotment that is granted leaves its task alone. -/
theorem execRouteRequest_of_grant {q : RouteReq} {l : List RouteReq} (hrun : s.lanesRun = true) (hreqs : s.sbx.reqs = q :: l) {t : State}
    {r : Answered} (hreq : (s.withReqs l).routeRequest q = (t, r)) (hgood : r.result ≠ 2) : exec .routeRequest s = .next t := by
  have hanswer : t.routeAnswer q r = t := by
    unfold State.routeAnswer
    rw [if_pos hgood]
  show execRouteRequest s = _
  unfold execRouteRequest
  rw [State.onLanes_of_run hrun, hreqs]
  dsimp only
  rw [State.withReqs] at hreq
  rw [hreq]
  exact congrArg _ hanswer
end

end Sys2Proof.Machine
end
section
/-! PROOF. The commands of the signal box and the requests of allotment complete (O20). -/

namespace Sys2Proof.Machine

section
variable {s : State} {c : Cmd}

/-- What SBX_REQUEST answers and leaves of a free request. -/
theorem State.request_shows {m : SiteMap} (ht : s.takes c opSbxRequest = true) (hask : asksWhole c.payload)
    (hend : s.beyondEnd (rdN c.payload 4 4) (rdN c.payload 10 2) (requestOf c.payload).route = false)
    (hfree : s.laneInput.clearRun m (requestOf c.payload)) :
    (s.host c opSbxRequest).ok c (le 1 0 ++ le 1 0 ++ le 1 (requestOf c.payload).route.length ++ le 1 255
        ++ le 2 (s.sx (requestOf c.payload).slot).authId ++ zeros 2) ∧
      s.grantedWhole m (requestOf c.payload) (s.host c opSbxRequest) := by
  have hsame : s.laneInput.sameBox (s.entered c opSbxRequest) := s.entered_sameBox c rfl
  have hend' : (s.entered c opSbxRequest).beyondEnd (rdN c.payload 4 4) (rdN c.payload 10 2) (requestOf c.payload).route = false :=
    (State.beyondEnd_congr hsame.view _ _ _).trans hend
  have hsx : ∀ a, (s.entered c opSbxRequest).sx a = s.sx a := s.sx_entered c _
  obtain ⟨u, hreq, hg, hsvb⟩ := State.routeRequest_of_clear hask.not_tentative (hfree.congr hsame)
  obtain ⟨hans, hbox, httb, hfld⟩ := State.host_box_of_run ht rfl (doSbxRequest_of_asks c.sid.val c.seq.toNat hask hend' hreq) hsvb
  have hrover := State.sx_of_rovers (congrArg Sbx.rovers hbox) (requestOf c.payload).slot
  have hcount := hg.count
  have hjobs := hg.jobs
  rw [hsx] at hans
  rw [State.fld_entered _ _ _ (by decide)] at hcount
  rw [show (s.entered c opSbxRequest).ttb = s.ttb from s.entered_same c _ .ttb (by decide)] at hjobs
  refine ⟨hans, ?_, ?_, ?_, ?_, ?_, ?_⟩
  · rw [hrover, hg.auth, hsx]
  · rw [hrover, hg.authId, hsx]
  · rw [hrover, hg.route]
  · rw [hfld _ (by decide), hcount]
  · rw [httb, hjobs]
  · rw [hbox, hg.reqs, State.sbx_entered]

/-- What SBX_REQUEST answers and leaves of a request refused. -/
theorem State.request_refused {why : Nat} (ht : s.takes c opSbxRequest = true) (hask : asksWhole c.payload)
    (hend : s.beyondEnd (rdN c.payload 4 4) (rdN c.payload 10 2) (requestOf c.payload).route = false)
    (hwhy : s.laneInput.routeRefusal (rdN c.payload 0 1) (rdN c.payload 4 4) (requestOf c.payload).route false = why) (hne : why ≠ 0) :
    (s.host c opSbxRequest).ok c (le 1 2 ++ le 1 why ++ le 1 0 ++ le 1 255 ++ le 2 0 ++ zeros 2) ∧
      (∀ j, (s.host c opSbxRequest).sx j = s.sx j) ∧
      (s.host c opSbxRequest).fld F.SBX_CNT0_REFUSED = min (s.fld F.SBX_CNT0_REFUSED + 1) (2 ^ F.SBX_CNT0_REFUSED.width - 1) := by
  have hsame : s.laneInput.sameBox (s.entered c opSbxRequest) := s.entered_sameBox c rfl
  have hend' : (s.entered c opSbxRequest).beyondEnd (rdN c.payload 4 4) (rdN c.payload 10 2) (requestOf c.payload).route = false :=
    (State.beyondEnd_congr hsame.view _ _ _).trans hend
  obtain ⟨u, hreq, hsvb, hsx, hcount⟩ := State.routeRequest_of_bad (q := requestOf c.payload) hask.not_tentative
    ((hsame.routeRefusal _ _ _ _).trans hwhy) hne
  obtain ⟨hans, hbox, -, hfld⟩ := State.host_box_of_run ht rfl (doSbxRequest_of_asks c.sid.val c.seq.toNat hask hend' hreq) hsvb
  refine ⟨hans, fun j => ?_, ?_⟩
  · rw [State.sx_of_rovers (congrArg Sbx.rovers hbox), hsx, State.sx_entered]
  · rw [hfld _ (by decide), hcount, State.fld_entered _ _ _ (by decide)]

/-- What SBX_REVOKE answers, and what it leaves of its rover. -/
theorem State.revoke_shows (ht : s.takes c opSbxRevoke = true) (h4 : c.payload.length = 4) (ha : rdN c.payload 0 1 ≤ 127)
    (hmode : rdN c.payload 1 1 ≤ 1) (hstill : s.unstopped) :
    (s.host c opSbxRevoke).answered c ⟨St.ok, le 2 (if ((s.entered c opSbxRevoke).cutBlock (rdN c.payload 0 1)).isSome
        then ((s.entered c opSbxRevoke).sx (rdN c.payload 0 1)).authId
        else (((s.entered c opSbxRevoke).sx (rdN c.payload 0 1)).authId + 65535) % 65536) ++ zeros 2⟩ ∧
      (s.host c opSbxRevoke).sx (rdN c.payload 0 1)
        = ((s.entered c opSbxRevoke).curtail (rdN c.payload 0 1) (rdN c.payload 1 1 == 0)).1.sx (rdN c.payload 0 1) := by
  have hquiet := (hstill.entered c opSbxRevoke).curtail (rdN c.payload 0 1) (rdN c.payload 1 1 == 0)
  obtain ⟨hans, hsbx, -⟩ := State.host_box_of_run ht rfl (doSbxRevoke_of_mode c.sid.val c.seq.toNat h4 ha hmode)
    ((hquiet.retry_changesOnly.2.1 .svb (by decide)).trans ((State.curtail_changesOnly _ _ _).2.1 .svb (by decide)))
  exact ⟨hans, by rw [State.sx_of_rovers (congrArg Sbx.rovers hsbx), hquiet.sx_retry]⟩

/-- The route and the wait of a rover cut back have ended. -/
theorem State.revoked_ends {u : State} {a : Nat} {revoke : Bool} {r : SbxRover} (hr : r = (u.curtail a revoke).1.sx a) :
    r.route = [] ∧ r.waitOn = none := by
  subst hr
  have hcurtails := u.curtail_curtails a revoke
  exact ⟨hcurtails.route, hcurtails.waitOn⟩
end

/-- Settles O20: each command by the rule of its opcode; a request for a free route by the run of its blocks, which stays free when the
rover's entry takes the route. -/
theorem signalBoxCommandsComplete : Obligations.SignalBoxCommandsComplete := by
  unfold Obligations.SignalBoxCommandsComplete
  refine ⟨?stage, ?activate, ?blocked, ?refusal, ?grant, ?allotment, ?route, ?hold, ?revoke, ?nowhere, ?zone, ?rovers, ?blocks, ?zones, ?points⟩
  case stage =>
    intro s c ht h8 halign hend
    obtain ⟨hans, hsbx, -⟩ := State.host_box_of_run ht rfl (doSbxMapStage_of_inside c.sid.val c.seq.toNat h8 halign hend) rfl
    exact ⟨_, rfl, hans, by rw [hsbx]; rfl⟩
  case activate =>
    intro s c m ht h4 hstaged hid hfree
    have hblocker := (State.mapBlocker_congr (s.entered_sameBox c (op := opSbxMapActivate) rfl).view m).trans hfree
    obtain ⟨hans, hsbx, -⟩ := State.host_box_of_run ht rfl
      (doSbxMapActivate_of_free c.sid.val c.seq.toNat h4 ((congrArg Sbx.staged (s.sbx_entered c _)).trans hstaged) hid hblocker) rfl
    refine ⟨_, rfl, hans, by rw [hsbx]; rfl, ?_⟩
    rw [hsbx]
    show (s.entered c opSbxMapActivate).sbx.map = _
    rw [State.sbx_entered]
  case blocked =>
    intro s c m a ht h4 hstaged hid hheld
    have hblocker := (State.mapBlocker_congr (s.entered_sameBox c (op := opSbxMapActivate) rfl).view m).trans hheld
    obtain ⟨hans, hsbx, -⟩ := State.host_box_of_run ht rfl
      (doSbxMapActivate_of_blocked c.sid.val c.seq.toNat h4 ((congrArg Sbx.staged (s.sbx_entered c _)).trans hstaged) hid hblocker) rfl
    exact ⟨_, rfl, hans, hsbx.trans (s.sbx_entered c _)⟩
  case refusal =>
    intro s c r why ht hlen hslot hprio hsome hmost hr hwords htent hend hwhy hne
    subst hr
    obtain ⟨hans, hsx, hcount⟩ := State.request_refused ht ⟨hlen, hslot, hprio, hsome, hmost, hwords, htent⟩ hend hwhy hne
    exact ⟨_, rfl, hans, fun j _ => hsx j, hcount⟩
  case grant =>
    intro s c r m ht hlen hslot hprio hsome hmost hr hwords htent hend hwhy hmap hruns hgo hlive hhold hshort hfree hslots
    subst hr
    have hclear : s.laneInput.clearRun m (requestOf c.payload) := {
      accepted := hwhy
      map := hmap
      runs := hruns
      going := hgo
      bare := hlive
      unheld := hhold
      short := hshort
      blocks := fun w hw => State.allows_of_refusal (Option.isNone_iff_eq_none.mp (List.all_eq_true.mp hfree w hw))
      still := State.unstopped_of_slots hslots }
    obtain ⟨hans, hg⟩ := State.request_shows ht ⟨hlen, hslot, hprio, hsome, hmost, hwords, htent⟩ hend hclear
    exact ⟨_, rfl, hans, hg.auth, hg.authId, hg.route, hg.count, hg.jobs⟩
  case allotment =>
    intro s q l m hrun hreqs htent hwhy hmap hruns hgo hlive hhold hshort hfree hslots
    have hclear : s.clearRun m q := {
      accepted := hwhy
      map := hmap
      runs := hruns
      going := hgo
      bare := hlive
      unheld := hhold
      short := hshort
      blocks := fun w hw => State.allows_of_refusal (Option.isNone_iff_eq_none.mp (List.all_eq_true.mp hfree w hw))
      still := State.unstopped_of_slots hslots }
    obtain ⟨t, hreq, hg, -⟩ := State.routeRequest_of_clear htent (hclear.congr (s.withReqs_sameBox l))
    exact ⟨t, execRouteRequest_of_grant hrun hreqs hreq (show 0 ≠ 2 by decide), hg.reqs, hg.auth, hg.authId, hg.route, hg.count, hg.jobs⟩
  case route =>
    intro s c ht h4 ha hmode
    obtain ⟨hans, hsbx, -⟩ := State.host_box_of_run ht rfl (doSbxRelease_of_route c.sid.val c.seq.toNat h4 ha hmode rfl)
      (((State.syncSbx_changesOnly _).2.1 .svb (by decide)).trans ((State.setSx_endWait_changesOnly _ _ _).2.1 .svb (by decide)))
    have hrover : (s.host c opSbxRelease).sx (rdN c.payload 0 1) = (s.sx (rdN c.payload 0 1)).routeless := by
      rw [State.sx_of_rovers (congrArg Sbx.rovers hsbx), State.sx_syncSbx, State.setSx_endWait, if_pos rfl, State.sx_entered]
    exact ⟨_, rfl, hans, by rw [hrover]; rfl, by rw [hrover]; rfl, by rw [hrover]; rfl⟩
  case hold =>
    intro s c ht h4 ha hmode hhold hslots
    have hquiet := (State.unstopped_of_slots hslots).entered c opSbxRelease
    have hput := hquiet.setSx (rdN c.payload 0 1) (r := ((s.entered c opSbxRelease).sx (rdN c.payload 0 1)).unheld) (hquiet _)
    rw [← s.sx_entered c opSbxRelease] at hhold
    obtain ⟨hans, hsbx, -⟩ := State.host_box_of_run ht rfl (doSbxRelease_of_hold c.sid.val c.seq.toNat h4 ha hmode hhold)
      (hput.retry_changesOnly.2.1 .svb (by decide))
    have hrover : (s.host c opSbxRelease).sx (rdN c.payload 0 1) = (s.sx (rdN c.payload 0 1)).unheld := by
      rw [State.sx_of_rovers (congrArg Sbx.rovers hsbx), hput.sx_retry, State.sx_setSx_same, State.sx_entered]
    rw [State.sx_entered] at hans
    exact ⟨_, rfl, hans, by rw [hrover]; rfl, by rw [hrover]; rfl⟩
  case revoke =>
    intro s c b ht h4 ha hmode hcut hslots
    have hview := (s.entered_sameBox c (op := opSbxRevoke) rfl).view
    have hcut' := (State.cutBlock_congr hview _).trans hcut
    obtain ⟨hans, hrover⟩ := State.revoke_shows ht h4 ha hmode (State.unstopped_of_slots hslots)
    obtain ⟨hroute, hwait⟩ := State.revoked_ends hrover
    obtain ⟨hissued, hblocks, hreleased⟩ := State.curtail_issues hcut' _ hrover
    rw [State.sx_entered] at hissued
    rw [State.travelRev_congr hview] at hblocks
    rw [State.laneAuth_congr hview] at hreleased
    rw [hcut', Option.isSome_some, if_pos rfl, State.sx_entered] at hans
    exact ⟨_, rfl, hans, hroute, hwait, hissued, hblocks, hreleased⟩
  case nowhere =>
    intro s c ht h4 ha hmode hcut hslots
    have hcut' := (State.cutBlock_congr (s.entered_sameBox c (op := opSbxRevoke) rfl).view _).trans hcut
    obtain ⟨hans, hrover⟩ := State.revoke_shows ht h4 ha hmode (State.unstopped_of_slots hslots)
    obtain ⟨hroute, hwait⟩ := State.revoked_ends hrover
    rw [hcut', Option.isSome_none, if_neg Bool.false_ne_true, State.sx_entered] at hans
    rw [State.curtail_of_nowhere hcut', State.sx_setSx_same] at hrover
    exact ⟨_, rfl, hans, hroute, hwait, by rw [hrover]⟩
  case zone =>
    intro s c m ht h4 hmap hz hcap hslots
    have hview := (s.entered_sameBox c (op := opSbxZoneSet) rfl).view
    have hquiet := (State.unstopped_of_slots hslots).entered c opSbxZoneSet
    have hzone := (s.entered c opSbxZoneSet).setZone_sbx m (rdN c.payload 0 2) (rdN c.payload 2 1)
    have hput : ((s.entered c opSbxZoneSet).setZone m (rdN c.payload 0 2) (rdN c.payload 2 1)).unstopped :=
      hquiet.of_rovers (by rw [hzone])
    have hrun := doSbxZoneSet_of_zone c.sid.val c.seq.toNat h4 ((congrArg Sbx.map (s.sbx_entered c opSbxZoneSet)).trans hmap) hz hcap
    have hans := State.host_answered_of_events ht rfl hrun
      ((State.setZone_eventsOnly _ _ _ _).trans (State.eventsOnly_of_changesOnly hput.retry_changesOnly (by decide) (by decide)))
    obtain ⟨hsbx, -⟩ := State.host_boxLeft_of_run ht rfl hrun
    rw [State.zoneCapOf_congr hview, State.zoneCount_congr hview] at hans
    refine ⟨_, rfl, hans, State.zoneCapOf_of_cap (s := s.entered c opSbxZoneSet) ?_⟩
    rw [hsbx, hput.retry, Sbx.get_of_rest (State.syncSbx_rest _) Sbx.zoneCap fun _ => rfl, hzone]
  case rovers =>
    intro s c ht h4 hn hkind hmost hend
    have hsame := s.entered_sameBox c (op := opSbxGetState) rfl
    obtain ⟨hans, -⟩ := State.host_box_of_run ht rfl (doSbxGetState_of_rovers c.sid.val c.seq.toNat h4 hn hkind hmost hend) rfl
    rw [funext hsame.sbxRoverEntry] at hans
    exact ⟨_, rfl, hans⟩
  case blocks =>
    intro s c m ht h4 hn hkind hmap hend
    have hsame := s.entered_sameBox c (op := opSbxGetState) rfl
    obtain ⟨hans, -⟩ := State.host_box_of_run ht rfl
      (doSbxGetState_of_blocks c.sid.val c.seq.toNat h4 hn hkind ((congrArg Sbx.map (s.sbx_entered c _)).trans hmap) hend) rfl
    rw [funext (State.sbxBlockEntry_congr hsame.view)] at hans
    exact ⟨_, rfl, hans⟩
  case zones =>
    intro s c m ht h4 hn hkind hmap hmost hend
    have hsame := s.entered_sameBox c (op := opSbxGetState) rfl
    obtain ⟨hans, -⟩ := State.host_box_of_run ht rfl
      (doSbxGetState_of_zones c.sid.val c.seq.toNat h4 hn hkind ((congrArg Sbx.map (s.sbx_entered c _)).trans hmap) hmost hend) rfl
    rw [funext (State.sbxZoneEntry_congr hsame.view m)] at hans
    exact ⟨_, rfl, hans⟩
  case points =>
    intro s c m ht h4 hn hkind hmap hend
    have hsame := s.entered_sameBox c (op := opSbxGetState) rfl
    obtain ⟨hans, -⟩ := State.host_box_of_run ht rfl
      (doSbxGetState_of_points c.sid.val c.seq.toNat h4 hn hkind ((congrArg Sbx.map (s.sbx_entered c _)).trans hmap) hend) rfl
    rw [funext (State.sbxPointsEntry_congr hsame.view m)] at hans
    exact ⟨_, rfl, hans⟩

end Sys2Proof.Machine
end
